-- ==== Sys2Proof/Word.lean ====
section
/-! DEFINITION. The plainest units of data of the FN-6448: octets and times (Table 0.1, R3). -/

namespace Sys2Proof

/-- One octet of a wire value (Table 0.1). -/
abbrev Byte := BitVec 8

/-- A string of octets: a BLOB, a STR, or a value as carried on the wire (R3). -/
abbrev Octets := List Byte

/-- An instant or a duration as a count of nanoseconds. -/
abbrev Nanos := Nat

/-- A TIME as the wire carries it: seconds and nanoseconds (Table 0.1). -/
structure TimeVal where
  sec : Nat
  nano : Nat
  deriving DecidableEq, Repr, Inhabited

end Sys2Proof
end

