-- ==== Sys2Proof/Syntax.lean ====
section
/-! DEFINITION. The commands of the block: one constructor of `Instr` for each row of spec/opcode_table.json,
and the data the commands carry. A row's operands are what its rules say it carries and what only the outside
can supply (a measured value, what arrives); log 2. -/

namespace Sys2Proof

/-- The interface a Preud or Komund datagram arrives on (Table 16.1, R278): the two backplane ports of the
management lanes, the service port, or the in-band VLAN. -/
inductive Route | b0 | b1 | service | inband
  deriving DecidableEq, Repr, Inhabited

/-- The key a frame's MAC was made with (R303, R305, R306; log 6): nothing that verifies, the all-zero key,
a role key, or the session key derived from a role key, the two nonces and the session id. -/
inductive MacKey
  | bad
  | zero
  | role (key : Octets)
  | session (key : Octets) (cnonce mnonce sid : Nat)
  deriving DecidableEq, Repr, Inhabited

/-- The envelope of a Preud request (Table 16.2). -/
structure Frame where
  route : Route
  peer : Nat
  peerPort : Nat
  sid : Nat
  req : Nat
  key : MacKey
  deriving DecidableEq, Repr, Inhabited

/-- One item of a READ (Table 16.6). -/
structure ReadItem where
  idx : Nat
  sub : Nat
  staged : Bool
  deriving DecidableEq, Repr, Inhabited

/-- Why a Preud datagram is discarded without reply (R302, R303). -/
inductive MalformedKind | version | length | mac | moduleOnlyOpcode
  deriving DecidableEq, Repr, Inhabited

/-- The two paths of an ST 2022-7 flow. -/
inductive Path | red | blue
  deriving DecidableEq, Repr, Inhabited

/-- Who takes a video packet: a channel or one live layer of a channel (R49, R67). -/
inductive VideoTarget
  | channel (n : Fin 32)
  | layer (n : Fin 32) (l : Fin 4)
  deriving DecidableEq, Repr, Inhabited

/-- A row of samples of one picture band: the three components, left to right. -/
structure Row where
  c0 : List Nat
  c1 : List Nat
  c2 : List Nat
  deriving DecidableEq, Repr, Inhabited

/-- Received samples of one line: from which luma sample on, how many of them, and their values. -/
structure Srd where
  row : Nat
  offset : Nat
  length : Nat
  samples : Row
  deriving DecidableEq, Repr, Inhabited

/-- One sample row data header as a packet carries it (R49, Table 3.4): its row, its first sample, its length in octets, its field
bit, and the samples that its octets hold. -/
structure WireSrd where
  row : Nat
  offset : Nat
  octets : Nat
  field : Bool
  samples : Row
  deriving DecidableEq, Repr, Inhabited

/-- A video packet after the fabric (R44, R49): extended sequence number, payload type, RTP timestamp, SRDs, the octets of samples
that follow them, and whether the ingest packet buffer was full. -/
structure VideoPkt where
  seq : Nat
  payloadType : Nat
  timestamp : Nat
  srds : List WireSrd
  payload : Nat
  bufferFull : Bool
  deriving DecidableEq, Repr, Inhabited

/-- An audio packet (R56): its samples, one list of channel values per sample instant. -/
structure AudioPkt where
  seq : Nat
  payloadType : Nat
  timestamp : Nat
  samples : List (List Nat)
  deriving DecidableEq, Repr, Inhabited

/-- One ancillary packet as its ST 2110-40 header gives it (R58, R153); `body` is bits 7-0 of each user data word. -/
structure AncItem where
  did : Nat
  sdid : Nat
  cNotY : Bool
  line : Nat
  hOffset : Nat
  body : Octets
  deriving DecidableEq, Repr, Inhabited

/-- An ancillary datagram (R58). -/
structure AncPkt where
  seq : Nat
  payloadType : Nat
  timestamp : Nat
  items : List AncItem
  deriving DecidableEq, Repr, Inhabited

/-- What a launched datagram belongs to: a rendition's output or a replay read slot (R158, R190). -/
inductive LaunchSrc
  | rendition (r : Fin 128)
  | slot (s : Fin 16)
  deriving DecidableEq, Repr, Inhabited

/-- A datagram of a decode engine's input (R169, Table 9.1): its RTP sequence number as extended, payload type and TS packets. -/
structure DecodeDg where
  seq : Nat
  payloadType : Nat
  packets : List Octets
  deriving DecidableEq, Repr, Inhabited

/-- Address families (R199, R211). -/
inductive Fam | v4 | v6
  deriving DecidableEq, Repr, Inhabited

/-- What a received Ethernet frame carries, as the classifier sees it (R198). -/
inductive FrameKind | ptp | igmpMld | ownPreudKomund | udp | other
  deriving DecidableEq, Repr, Inhabited

/-- A frame entering a front port (R198-R210). `length` runs from destination MAC to FCS, `ipLength` is the
length the IP header implies, `fcsOk` whether the FCS proved good. -/
structure EthFrame where
  ident : Nat
  length : Nat
  ipLength : Nat
  fcsOk : Bool
  kind : FrameKind
  fam : Fam
  dst : Octets
  src : Octets
  dstMac : Nat
  dport : Nat
  vlan : Option Nat
  ttl : Nat
  dscp : Nat
  deriving DecidableEq, Repr, Inhabited

/-- The kind of one group record of a membership report (R211, R212). -/
inductive MemMode | include | exclude | toInclude | toExclude | allow | block
  deriving DecidableEq, Repr, Inhabited

/-- One group record of a report; `version` is that of the message (IGMPv1 = 1 is discarded, R211). -/
structure MemReport where
  fam : Fam
  version : Nat
  group : Nat
  mode : MemMode
  sources : List Nat
  deriving DecidableEq, Repr, Inhabited

/-- A received query (R211, R212): group 0 is a general query; sources it asks for, and its S flag. -/
structure MemQuery where
  fam : Fam
  version : Nat
  querier : Nat
  group : Nat
  sources : List Nat
  suppress : Bool
  deriving DecidableEq, Repr, Inhabited

/-- A grandmaster dataset as Announce carries it, in the order the default best-master algorithm compares it. -/
structure GmData where
  priority1 : Nat
  clockClass : Nat
  accuracy : Nat
  variance : Nat
  priority2 : Nat
  identity : Nat
  stepsRemoved : Nat
  deriving DecidableEq, Repr, Inhabited

/-- What a PTP message is (R28). A one-step Sync, and the Follow_Up of a two-step one, carry the offset the servo measures with
them; Delay_Resp the mean path delay computed from it. -/
inductive PtpBody
  | announce (gm : GmData) (utcOffset : Int) (leap61 leap59 : Bool)
  | sync (offset : Int) (filtered : Int)
  | syncTwoStep
  | followUp (offset : Int) (filtered : Int)
  | delayResp (pathDelay : Int)
  | delayReq
  | other
  deriving DecidableEq, Repr, Inhabited

/-- A received PTP message (R28, Table 2.4): its sender's clock identity, sequence number and message interval. -/
structure PtpMsg where
  source : Nat
  seq : Nat
  domain : Nat
  udpIpv4 : Bool
  peerDelay : Bool
  logInterval : Int
  port : Nat
  body : PtpBody
  deriving DecidableEq, Repr, Inhabited

/-- The header of a mortar frame (Table 12.1). -/
structure MortarHdr where
  seq : Nat
  length : Nat
  credits : List Nat
  crcOk : Bool
  deriving DecidableEq, Repr, Inhabited

/-- Roles of a twin (7040:01). -/
inductive Role | notPaired | fenced | unsynced | standby | active
  deriving DecidableEq, Repr, Inhabited

/-- The body of Hello (R220). -/
structure HelloBody where
  fuseId : Nat
  pairId : Nat
  partnerFuse : Nat
  role : Role
  term : Nat
  release : Nat
  generation : Nat
  lanes : Nat
  digest : Nat
  deriving DecidableEq, Repr, Inhabited

/-- The body of Status (Table 12.2). -/
structure StatusBody where
  role : Role
  term : Nat
  eligible : Bool
  digest : Nat
  deriving DecidableEq, Repr, Inhabited

/-- A course record (Table 12.4). -/
structure CourseRecord where
  rendition : Fin 128
  course : Nat
  tick : Nat
  pictureCount : Nat
  wave : Int
  period : Nat
  flags : Nat
  fingerprint : Nat
  bitCrc : Nat
  tsCrc : Nat
  courseBits : Nat
  cpb : Nat
  spent : Nat
  budget : Nat
  offset : Nat
  priority : Nat
  groupAllowance : Nat
  groupFraction : Nat
  reserves : List Nat
  nextIndex : Nat
  confirmIndex : Nat
  sdpVersion : Nat
  counters : List Nat
  patVersion : Nat
  pmtVersion : Nat
  pcr : Nat
  deriving DecidableEq, Repr, Inhabited

/-- Repair data (Table 12.2): whole blocks of a picture from one on, each its header (length in 16-byte units, raw) and its samples
(R92). -/
structure RepairBody where
  rendition : Fin 128
  tick : Nat
  firstBlock : Nat
  blocks : List ((Nat × Bool) × Octets)
  deriving DecidableEq, Repr, Inhabited

/-- A Placement frame (Table 12.2): pipeline per channel, scaler unit per (channel, rung). -/
structure PlacementBody where
  pipelines : List (Nat × Nat)
  scalers : List ((Nat × Nat) × Nat)
  deriving DecidableEq, Repr, Inhabited

/-- A Komund message (Table 12.5), with the key its MAC was made with (log 6). -/
structure KMsg where
  version : Nat
  length : Nat
  pair : Nat
  sender : Nat
  subject : Nat
  term : Nat
  req : Nat
  lease : Nat
  result : Nat
  eligible : Bool
  unsyncedOk : Bool
  key : Octets
  deriving DecidableEq, Repr, Inhabited

/-- Who reads the failing burst (Table 13.6): of a rung course, the luma column and line at which it begins; of a reference picture, the
reference index and the block. -/
inductive DramReader
  | picture (n : Fin 32)
  | layer (n : Fin 32) (l : Fin 4)
  | rung (r : Fin 128) (column line : Nat)
  | reference (r : Fin 128) (index : Fin 2) (block : Nat)
  | launchQueue (r : Fin 128)
  | replay (r : Fin 128) (s : Fin 16) (tick : Nat)
  | decode (e : Fin 2)
  | repair (r : Fin 128)
  | sett (core : Fin 64)
  | bulk (tid : Nat)
  | scrub
  | other
  deriving DecidableEq, Repr, Inhabited

/-- A module found in a cage (R274, R265, R358): its declared power class in W, and the port modes (2400:01) it has an application for. -/
structure CageModule where
  optic : Bool
  watts : Nat
  modes : List Nat
  readyLimitNs : Nat
  medium : Nat
  powerMw : Nat
  deriving DecidableEq, Repr, Inhabited

/-- A unit of bring-up (R266): a front logical port, the mortar link, or a backplane port. -/
inductive BringPort
  | front (n : Fin 32)
  | mortar
  | backplane (b : Fin 2)
  deriving DecidableEq, Repr, Inhabited

/-- What the detect test finds on one lane (R266, R272): whether a termination answers the pulse, the current of each leg at the detect
level in µA, and signal detect. -/
structure DetectObs where
  lane : Fin 38
  terminated : Bool
  legs : Nat × Nat
  signal : Bool
  deriving DecidableEq, Repr, Inhabited

/-- What a partner advertises in auto-negotiation (R265, R278): rates in Mb/s, RS(544,514) FEC, Clause 74 FEC. -/
structure AnOffer where
  rates : List Nat
  rsFec : Bool
  fec74 : Bool
  deriving DecidableEq, Repr, Inhabited

/-- What LOCK finds (R266, R270, R271): inverted lanes, the partner lane named on each lane of the port
(none: no alignment marker lock), and the skew. -/
structure LockObs where
  inverted : List (Fin 38)
  partner : List Nat
  lockedAll : Bool
  skewNs : Nat
  deriving DecidableEq, Repr, Inhabited

/-- The state of the service port's link (2610:02). -/
inductive ServiceLink | down | up | speedUnsupported
  deriving DecidableEq, Repr, Inhabited

/-- A domain's temperature and, for a DRAM channel, its DQS oscillator drift in delay steps (R293). -/
structure DomTemp where
  domain : Fin 28
  temp : Int
  drift : Nat
  deriving DecidableEq, Repr, Inhabited

/-- What a calibration run ends with (R298, R299): whether its measurement converged and its targets lie within their DAC range, its
steps, the temperature, and the quality figures when the run may write them. -/
structure CalResult where
  converged : Bool
  inRange : Bool
  steps : Nat
  temp : Int
  eyeWidth : Nat
  eyeHeight : Nat
  residual : Int
  deriving DecidableEq, Repr, Inhabited

/-- One DIMM as its SPD reports it (R247, R248). -/
structure Dimm where
  capacity : Nat
  ranks : Nat
  deviceWidth : Nat
  dieDensity : Nat
  rdimm : Bool
  ecc80 : Bool
  spdPmic : Bool
  rate : Nat
  deriving DecidableEq, Repr, Inhabited

/-- A firmware image's verification inputs (R326, R338). -/
structure FwImage where
  signed : Bool
  forProduct : Bool
  release : Nat
  floor : Nat
  generation : Nat
  name : Octets
  deriving DecidableEq, Repr, Inhabited

/-- What a boot finds (R324-R329, R345): DIMMs per channel, channels whose training failed, geographic address
pins and parity, calibration domains that fail at bring-up, whether FIO, XA and the rails come good. -/
structure BootInfo where
  dimms : List (Fin 16 × Dimm)
  trainingFails : List (Fin 16)
  ga : Fin 32
  gap : Bool
  failedDomains : List (Fin 28)
  railsOk : Bool
  fioOk : Bool
  xaOk : Bool
  deriving DecidableEq, Repr, Inhabited

/-- A datagram addressed to the module's own address on a route, other than Preud and Komund (R300). -/
inductive LocalMsg | arp (target : Nat) | icmpEcho (target ident : Nat) | other (target : Nat)
  deriving DecidableEq, Repr, Inhabited

/-- The commands: one constructor per row of spec/opcode_table.json. `t` is the instant of the command on the
module's own time (log 2). -/
inductive Instr where
  /-- HELLO (R305). -/
  | hello (t : Nanos) (f : Frame) (role : Fin 4) (cnonce : Nat)
  /-- OPEN (R305). -/
  | openReq (t : Nanos) (f : Frame) (mnonce : Nat)
  /-- CLOSE (R306). -/
  | close (t : Nanos) (f : Frame)
  /-- KEEPALIVE (R306). -/
  | keepalive (t : Nanos) (f : Frame)
  /-- READ (R381). -/
  | read (t : Nanos) (f : Frame) (items : List ReadItem)
  /-- WRITE (R310). -/
  | write (t : Nanos) (f : Frame) (idx : Nat) (sub : Nat) (staged : Bool) (value : Octets)
  /-- TIMED_WRITE (R22). -/
  | timedWrite (t : Nanos) (f : Frame) (idx : Nat) (sub : Nat) (at_ : TimeVal) (value : Octets)
  /-- CANCEL_TIMED (R310). -/
  | cancelTimed (t : Nanos) (f : Frame) (target : Nat) (sub : Nat) (kind : Nat) (applyTick : Nat)
  /-- LIST_TIMED (R310). -/
  | listTimed (t : Nanos) (f : Frame) (first : Nat)
  /-- FUNCTION_START (R311). -/
  | functionStart (t : Nanos) (f : Frame) (fid : Nat) (timed : Option TimeVal)
  /-- FUNCTION_STOP (R311). -/
  | functionStop (t : Nanos) (f : Frame) (fid : Nat) (timed : Option TimeVal)
  /-- FUNCTION_RESTART (R313). -/
  | functionRestart (t : Nanos) (f : Frame) (fid : Nat) (timed : Option TimeVal)
  /-- OPEN_CHANGE_SET (R314). -/
  | openChangeSet (t : Nanos) (f : Frame) (fid : Nat)
  /-- DISCARD_CHANGE_SET (R314). -/
  | discardChangeSet (t : Nanos) (f : Frame) (fid : Nat)
  /-- SUBSCRIBE (R316). -/
  | subscribe (t : Nanos) (f : Frame) (mask : Nat) (severity : Nat) (start : Nat)
  /-- EVENT_ACK (R317). -/
  | eventAck (t : Nanos) (f : Frame) (first : Nat)
  /-- BULK_BEGIN (R319). -/
  | bulkBegin (t : Nanos) (f : Frame) (idx : Nat) (sub : Nat) (wr : Bool) (staged : Bool) (length : Nat) (crc : Nat)
  /-- BULK_DATA (R319). -/
  | bulkData (t : Nanos) (f : Frame) (tid : Nat) (offset : Nat) (len : Nat) (data : Octets)
  /-- BULK_END (R320). -/
  | bulkEnd (t : Nanos) (f : Frame) (tid : Nat)
  /-- BULK_ABORT (R320). -/
  | bulkAbort (t : Nanos) (f : Frame) (tid : Nat)
  /-- MALFORMED_DATAGRAM (R302). -/
  | malformedDatagram (t : Nanos) (route : Route) (kind : MalformedKind)
  /-- CHALLENGE_EXPIRY (R305). -/
  | challengeExpiry (t : Nanos) (sid : Nat)
  /-- SESSION_IDLE_EXPIRY (R306). -/
  | sessionIdleExpiry (t : Nanos) (sid : Nat)
  /-- SEQUENCE_GAP_EXPIRY (R308). -/
  | sequenceGapExpiry (t : Nanos) (sid : Nat)
  /-- EVENT_RESEND (R317). -/
  | eventResend (t : Nanos) (sid : Nat) (first : Nat)
  /-- BULK_IDLE_ABORT (R319). -/
  | bulkIdleAbort (t : Nanos) (tid : Nat)
  /-- STEP_COMMAND (R34). -/
  | stepCommand (t : Nanos) (f : Frame)
  /-- VENEER_COMMIT_COMMAND (R69). -/
  | veneerCommitCommand (t : Nanos) (f : Frame) (n : Fin 32)
  /-- VENEER_COMMIT_CANCEL (R69). -/
  | veneerCommitCancel (t : Nanos) (f : Frame) (n : Fin 32)
  /-- CLIP_START (R189). -/
  | clipStart (t : Nanos) (f : Frame) (slot : Fin 16)
  /-- CLIP_STOP (R192). -/
  | clipStop (t : Nanos) (f : Frame) (slot : Fin 16)
  /-- CLIP_CLEAR (R192). -/
  | clipClear (t : Nanos) (f : Frame) (slot : Fin 16)
  /-- HANDOVER_PLAIN (R241). -/
  | handoverPlain (t : Nanos) (f : Frame)
  /-- HANDOVER_WITH_RESTART (R241). -/
  | handoverWithRestart (t : Nanos) (f : Frame)
  /-- RETEST (R273). -/
  | retest (t : Nanos) (f : Frame) (cage : Fin 9)
  /-- CAGE_POWER_RESET (R275). -/
  | cagePowerReset (t : Nanos) (f : Frame) (cage : Fin 9)
  /-- INJECT_ONE_ERROR (R277). -/
  | injectOneError (t : Nanos) (f : Frame) (lane : Fin 38)
  /-- INJECTION_INTERVAL (R277). -/
  | injectionInterval (t : Nanos) (f : Frame) (lane : Fin 38) (k : Nat)
  /-- FREQUENCY_COUNTER_START (R292). -/
  | frequencyCounterStart (t : Nanos) (f : Frame)
  /-- CALIBRATE (R293). -/
  | calibrate (t : Nanos) (f : Frame) (domain : Nat)
  /-- BUILT_IN_TEST_START (R371). -/
  | builtInTestStart (t : Nanos) (f : Frame)
  /-- BUILT_IN_TEST_ABORT (R371). -/
  | builtInTestAbort (t : Nanos) (f : Frame)
  /-- IMAGE_SAVE (R322). -/
  | imageSave (t : Nanos) (f : Frame) (image : Nat)
  /-- IMAGE_LOAD (R322). -/
  | imageLoad (t : Nanos) (f : Frame) (image : Nat)
  /-- IMAGE_ERASE (R322). -/
  | imageErase (t : Nanos) (f : Frame) (image : Nat)
  /-- RESET_COMMAND (R336). -/
  | resetCommand (t : Nanos) (f : Frame)
  /-- FORCED_RESET (R336). -/
  | forcedReset (t : Nanos) (f : Frame)
  /-- ACTIVATE_TRIAL (R339). -/
  | activateTrial (t : Nanos) (f : Frame)
  /-- CONFIRM_TRIAL (R339). -/
  | confirmTrial (t : Nanos) (f : Frame)
  /-- ROLE_KEY_WRITE (R306). -/
  | roleKeyWrite (t : Nanos) (f : Frame) (role : Fin 4) (key : Octets)
  /-- KOMUND_KEY_WRITE (R231). -/
  | komundKeyWrite (t : Nanos) (f : Frame) (slot : Option (Fin 64)) (key : Octets)
  /-- MODULE_ROLE_WRITE (R384). -/
  | moduleRoleWrite (t : Nanos) (f : Frame) (value : Nat)
  /-- ADDRESSING_WRITE (R300). -/
  | addressingWrite (t : Nanos) (f : Frame) (sub : Nat) (value : Octets)
  /-- SERVICE_PORT_ENABLE (R279). -/
  | servicePortEnable (t : Nanos) (f : Frame) (value : Nat)
  /-- FLOW_ENTRY_ENABLE (R199). -/
  | flowEntryEnable (t : Nanos) (f : Frame)
  /-- FLOW_ENTRY_DISABLE (R200). -/
  | flowEntryDisable (t : Nanos) (f : Frame)
  /-- LEG_MASK_WRITE (R201). -/
  | legMaskWrite (t : Nanos) (f : Frame) (entry : Fin 32768) (mask : Nat)
  /-- LED_TEST (R356). -/
  | ledTest (t : Nanos) (f : Frame)
  /-- CLEAR_FLAGS (R395). -/
  | clearFlags (t : Nanos) (f : Frame)
  /-- CHECK_RUNNING_VALUE_WRITE (R368). -/
  | checkRunningValueWrite (t : Nanos) (f : Frame) (k : Fin 16) (value : Nat)
  /-- CHECK_CHANNEL_ENABLE (R367). -/
  | checkChannelEnable (t : Nanos) (f : Frame) (k : Fin 16)
  /-- BACKPLANE_GENERATOR_WRITE (R388). -/
  | backplaneGeneratorWrite (t : Nanos) (f : Frame) (b : Fin 2) (pattern : Nat)
  /-- GROUP_RATE_WRITE (R143). -/
  | groupRateWrite (t : Nanos) (f : Frame) (g : Fin 32) (rate : Nat)
  /-- WITNESS_SLOT_ENABLE (R233). -/
  | witnessSlotEnable (t : Nanos) (f : Frame) (slot : Fin 64)
  /-- OTHER_OBJECT_WRITE (R4). -/
  | otherObjectWrite (t : Nanos) (f : Frame) (idx : Nat) (sub : Nat) (value : Octets)
  /-- INGEST_RESET_STATISTICS (R382). -/
  | ingestResetStatistics (t : Nanos) (f : Frame) (mask : Nat)
  /-- COMPOSITION_RESET_STATISTICS (R382). -/
  | compositionResetStatistics (t : Nanos) (f : Frame) (mask : Nat)
  /-- ENCODE_RESET_STATISTICS (R382). -/
  | encodeResetStatistics (t : Nanos) (f : Frame) (value : Nat)
  /-- REFRESH_RESET_COUNTERS (R382). -/
  | refreshResetCounters (t : Nanos) (f : Frame) (r : Fin 128)
  /-- RATE_CONTROL_RESET_STATISTICS (R382). -/
  | rateControlResetStatistics (t : Nanos) (f : Frame) (value : Nat)
  /-- OUTPUT_RESET_STATISTICS (R382). -/
  | outputResetStatistics (t : Nanos) (f : Frame) (value : Nat)
  /-- DECODE_RESET_STATISTICS (R382). -/
  | decodeResetStatistics (t : Nanos) (f : Frame) (value : Nat)
  /-- REPLAY_RESET_STATISTICS (R382). -/
  | replayResetStatistics (t : Nanos) (f : Frame) (value : Nat)
  /-- FLOW_RESET_STATISTICS (R382). -/
  | flowResetStatistics (t : Nanos) (f : Frame) (value : Nat)
  /-- PORT_QUEUE_RESET_STATISTICS (R382). -/
  | portQueueResetStatistics (t : Nanos) (f : Frame) (value : Nat)
  /-- HARDWARE_RESET_STATISTICS (R395). -/
  | hardwareResetStatistics (t : Nanos) (f : Frame)
  /-- MEMORY_RESET_STATISTICS (R395). -/
  | memoryResetStatistics (t : Nanos) (f : Frame) (value : Nat)
  /-- LANE_RESET_STATISTICS (R395). -/
  | laneResetStatistics (t : Nanos) (f : Frame) (value : Nat)
  /-- SETT_RESET_STATISTICS (R395). -/
  | settResetStatistics (t : Nanos) (f : Frame) (value : Nat)
  /-- TWIN_RESET_STATISTICS (R395). -/
  | twinResetStatistics (t : Nanos) (f : Frame)
  /-- EVENT_RESET_STATISTICS (R395). -/
  | eventResetStatistics (t : Nanos) (f : Frame)
  /-- BASE_TICK_EDGE (R19). -/
  | baseTickEdge 
  /-- TIMED_LAUNCH_APPLY (R22). -/
  | timedLaunchApply (t : Nanos) (kind : Nat) (target : Nat) (sub : Nat) (applyTick : Nat)
  /-- VENEER_COMMIT_ABANDON (R70). -/
  | veneerCommitAbandon (t : Nanos) (n : Fin 32)
  /-- STOPPING_END (R311). -/
  | stoppingEnd (t : Nanos) (fid : Nat)
  /-- HOLD_LIMIT_REACHED (R52). -/
  | holdLimitReached (t : Nanos) (n : Fin 32)
  /-- LATE_CTU_CUTOFF (R98). -/
  | lateCtuCutoff (t : Nanos) (pipe : Fin 8) (lane : Fin 8)
  /-- CTU_COMPLETE (R135). -/
  | ctuComplete (t : Nanos) (pipe : Fin 8) (lane : Fin 8) (r : Fin 128) (tile : Fin 8)
  /-- VIDEO_PACKET (R49). -/
  | videoPacket (t : Nanos) (target : VideoTarget) (path : Path) (pkt : VideoPkt)
  /-- PATH_TIMEOUT (R45). -/
  | pathTimeout (t : Nanos) (target : VideoTarget) (path : Path)
  /-- AUDIO_PACKET (R56). -/
  | audioPacket (t : Nanos) (n : Fin 32) (flow : Fin 4) (path : Path) (pkt : AudioPkt)
  /-- AUDIO_FLOW_LOSS (R57). -/
  | audioFlowLoss (t : Nanos) (n : Fin 32) (flow : Fin 4)
  /-- AUDIO_FLOW_RESTORE (R57). -/
  | audioFlowRestore (t : Nanos) (n : Fin 32) (flow : Fin 4)
  /-- ANC_PACKET (R58). -/
  | ancPacket (t : Nanos) (n : Fin 32) (flow : Fin 2) (path : Path) (pkt : AncPkt)
  /-- ANC_FLOW_LOSS (R58). -/
  | ancFlowLoss (t : Nanos) (n : Fin 32) (flow : Fin 2)
  /-- DATAGRAM_LAUNCH (R215). -/
  | datagramLaunch (t : Nanos) (src : LaunchSrc)
  /-- LATE_DATAGRAM (R160). -/
  | lateDatagram (t : Nanos) (src : LaunchSrc)
  /-- EGRESS_FRAME_BOUNDARY (R206). -/
  | egressFrameBoundary (t : Nanos) (port : Fin 32)
  /-- DECODE_DATAGRAM (R169). -/
  | decodeDatagram (t : Nanos) (e : Fin 2) (path : Path) (dg : DecodeDg)
  /-- DECODE_LOSS (R170). -/
  | decodeLoss (t : Nanos) (e : Fin 2)
  /-- DECODE_START (R171). -/
  | decodeStart (t : Nanos) (e : Fin 2)
  /-- DECODE_END (R171). -/
  | decodeEnd (t : Nanos) (e : Fin 2)
  /-- PRESENTATION_TICK (R174). -/
  | presentationTick (t : Nanos) (e : Fin 2)
  /-- DECODE_OUTPUT_PACKET (R179). -/
  | decodeOutputPacket (t : Nanos) (e : Fin 2)
  /-- FRAME_RECEIVED (R198). -/
  | frameReceived (t : Nanos) (port : Fin 32) (fr : EthFrame)
  /-- IGMP_MLD_REPORT (R212). -/
  | igmpMldReport (t : Nanos) (port : Fin 32) (rep : MemReport)
  /-- IGMP_MLD_QUERY (R211). -/
  | igmpMldQuery (t : Nanos) (port : Fin 32) (q : MemQuery)
  /-- QUERY_INTERVAL_EXPIRY (R211). -/
  | queryIntervalExpiry (t : Nanos)
  /-- QUEUE_SAMPLE (R213). -/
  | queueSample (t : Nanos)
  /-- SAMPLE_WINDOW_END (R213). -/
  | sampleWindowEnd (t : Nanos)
  /-- PTP_MESSAGE (R28). -/
  | ptpMessage (t : Nanos) (port : Fin 32) (msg : PtpMsg)
  /-- SERVO_LOCKED (R30). -/
  | servoLocked (t : Nanos)
  /-- ANNOUNCE_RECEIPT_TIMEOUT (R30). -/
  | announceReceiptTimeout (t : Nanos)
  /-- HOLDOVER_LIMIT (R32). -/
  | holdoverLimit (t : Nanos)
  /-- PTP_MASTER_SEND (R29). -/
  | ptpMasterSend (t : Nanos) (port : Fin 32) (announce : Bool)
  /-- PPS_OUT_PULSE (R38). -/
  | ppsOutPulse (t : Nanos)
  /-- PPS_IN_EDGE (R38). -/
  | ppsInEdge (t : Nanos)
  /-- PPS_IN_ABSENT (R38). -/
  | ppsInAbsent (t : Nanos)
  /-- MORTAR_IDLE (R217). -/
  | mortarIdle (t : Nanos) (hdr : MortarHdr)
  /-- IDLE_SEND_TIMER (R217). -/
  | idleSendTimer (t : Nanos)
  /-- MORTAR_HELLO (R220). -/
  | mortarHello (t : Nanos) (hdr : MortarHdr) (hello : HelloBody)
  /-- HELLO_TIMER (R220). -/
  | helloTimer (t : Nanos)
  /-- STATUS_TIMER (R217). -/
  | statusTimer (t : Nanos)
  /-- MORTAR_NAK (R218). -/
  | mortarNak (t : Nanos) (hdr : MortarHdr) (vc : Fin 4) (expected : Nat)
  /-- MORTAR_STATUS (R224). -/
  | mortarStatus (t : Nanos) (hdr : MortarHdr) (st : StatusBody)
  /-- COURSE_RECORDS (R222). -/
  | courseRecords (t : Nanos) (hdr : MortarHdr) (recs : List CourseRecord)
  /-- REPAIR_DATA (R225). -/
  | repairData (t : Nanos) (hdr : MortarHdr) (rep : RepairBody)
  /-- COUNTERSIGN_REQUEST (R235). -/
  | countersignRequest (t : Nanos) (hdr : MortarHdr) (term : Nat) (req : Nat)
  /-- COUNTERSIGN (R235). -/
  | countersign (t : Nanos) (hdr : MortarHdr) (term : Nat) (req : Nat) (lease : Nat)
  /-- HANDOVER (R241). -/
  | handover (t : Nanos) (hdr : MortarHdr) (boundary : Nat) (withRestart : Bool)
  /-- HANDOVER_ACCEPT (R241). -/
  | handoverAccept (t : Nanos) (hdr : MortarHdr) (boundary : Nat)
  /-- PLACEMENT (R229). -/
  | placement (t : Nanos) (hdr : MortarHdr) (pl : PlacementBody)
  /-- LINK_SILENT (R219). -/
  | linkSilent (t : Nanos)
  /-- LINK_DOWN (R219). -/
  | linkDown (t : Nanos)
  /-- COURSE_RECORD_CLOSE (R221). -/
  | courseRecordClose (t : Nanos) (r : Fin 128)
  /-- RECORD_MISSING (R223). -/
  | recordMissing (t : Nanos) (r : Fin 128) (tick : Nat)
  /-- ELIGIBILITY_HOLD_EXPIRY (R223). -/
  | eligibilityHoldExpiry (t : Nanos)
  /-- RENEW_TIMER (R235). -/
  | renewTimer (t : Nanos)
  /-- COUNTERSIGN_REQUEST_TIMER (R235). -/
  | countersignRequestTimer (t : Nanos)
  /-- ACQUIRE_TIMER (R236). -/
  | acquireTimer (t : Nanos)
  /-- PROBE_TIMER (R231). -/
  | probeTimer (t : Nanos)
  /-- WITNESS_UNREACHABLE (R231). -/
  | witnessUnreachable (t : Nanos) (w : Fin 3)
  /-- LEASE_FENCE (R237). -/
  | leaseFence (t : Nanos)
  /-- GRANT (R236). -/
  | grant (t : Nanos) (w : Fin 3) (m : KMsg)
  /-- REFUSE (R234). -/
  | refuse (t : Nanos) (w : Fin 3) (m : KMsg)
  /-- RELEASED (R241). -/
  | released (t : Nanos) (w : Fin 3) (m : KMsg)
  /-- PROBE_ACK (R231). -/
  | probeAck (t : Nanos) (w : Fin 3) (m : KMsg)
  /-- RENEW (R232). -/
  | renew (t : Nanos) (m : KMsg)
  /-- ACQUIRE (R232). -/
  | acquire (t : Nanos) (m : KMsg)
  /-- RELEASE (R232). -/
  | release (t : Nanos) (m : KMsg)
  /-- PROBE (R231). -/
  | probe (t : Nanos) (m : KMsg)
  /-- WITNESS_DEADLINE (R232). -/
  | witnessDeadline (t : Nanos) (slot : Fin 64)
  /-- WITNESS_RESTART_HOLD_END (R233). -/
  | witnessRestartHoldEnd (t : Nanos)
  /-- HANDOVER_BOUNDARY (R241). -/
  | handoverBoundary (t : Nanos)
  /-- RELEASE_POINT (R241). -/
  | releasePoint (t : Nanos)
  /-- OUTPUT_PORTS_DOWN (R242). -/
  | outputPortsDown (t : Nanos)
  /-- REFRESH_DUE (R256). -/
  | refreshDue (t : Nanos) (ch : Fin 16) (bank : Fin 4) (urgentWaiting : Bool)
  /-- REFRESH_FORCED (R256). -/
  | refreshForced (t : Nanos) (ch : Fin 16) (bank : Fin 4)
  /-- DIMM_TEMPERATURE_CHANGE (R256). -/
  | dimmTemperatureChange (t : Nanos) (ch : Fin 16) (temp : Int)
  /-- DRAM_CORRECTABLE_ERROR (R260). -/
  | dramCorrectableError (t : Nanos) (ch : Fin 16) (subch : Fin 2) (rank : Fin 2) (dev : Fin 10)
  /-- DRAM_UNCORRECTABLE_READ (R261). -/
  | dramUncorrectableRead (t : Nanos) (ch : Fin 16) (port : Fin 24) (what : DramReader)
  /-- PATROL_SCRUB_PASS (R262). -/
  | patrolScrubPass (t : Nanos) (ch : Fin 16)
  /-- DIMM_SUPPLY_TRIP (R351). -/
  | dimmSupplyTrip (t : Nanos) (ch : Fin 16)
  /-- CAGE_INSERTION (R274). -/
  | cageInsertion (t : Nanos) (cage : Fin 9)
  /-- CAGE_PRESENCE_STABLE (R274). -/
  | cagePresenceStable (t : Nanos) (cage : Fin 9) (info : CageModule)
  /-- MODULE_READY (R274). -/
  | moduleReady (t : Nanos) (cage : Fin 9)
  /-- MODULE_READY_TIMEOUT (R274). -/
  | moduleReadyTimeout (t : Nanos) (cage : Fin 9)
  /-- CAGE_REMOVAL (R274). -/
  | cageRemoval (t : Nanos) (cage : Fin 9)
  /-- EFUSE_TRIP (R275). -/
  | efuseTrip (t : Nanos) (cage : Fin 9)
  /-- DETECT_REPEAT (R266). -/
  | detectRepeat (t : Nanos) (port : BringPort) (seen : List DetectObs)
  /-- AUTO_NEGOTIATION_RESOLVED (R265). -/
  | autoNegotiationResolved (t : Nanos) (port : BringPort) (offer : AnOffer)
  /-- TRAINING_COMPLETE (R266). -/
  | trainingComplete (t : Nanos) (port : BringPort) (snrs : List Int)
  /-- LOCK_COMPLETE (R266). -/
  | lockComplete (t : Nanos) (port : BringPort) (obs : LockObs)
  /-- CAPABILITY_COMPLETE (R266). -/
  | capabilityComplete (t : Nanos) (port : BringPort) (agreed : Bool)
  /-- STAGE_LIMIT_EXPIRY (R266). -/
  | stageLimitExpiry (t : Nanos) (port : BringPort) (badLanes : List (Fin 38))
  /-- LOSS_OF_LOCK (R269). -/
  | lossOfLock (t : Nanos) (port : BringPort) (badCodewords : Nat) (lane : Fin 38)
  /-- FAST_RELOCK_COMPLETE (R269). -/
  | fastRelockComplete (t : Nanos) (port : BringPort) (ok : Bool) (lane : Fin 38)
  /-- RETRAIN_TRIGGER (R269). -/
  | retrainTrigger (t : Nanos) (lane : Fin 38) (snr : Int)
  /-- FIGURE_OF_MERIT_LOW (R267). -/
  | figureOfMeritLow (t : Nanos) (lane : Fin 38) (snr : Int)
  /-- CHECKER_LOCK (R276). -/
  | checkerLock (t : Nanos) (lane : Fin 38) (inverted : Bool) (errorFree : Nat)
  /-- BACKPLANE_LINK_CHANGE (R278). -/
  | backplaneLinkChange (t : Nanos) (b : Fin 2) (up : Bool)
  /-- SERVICE_PORT_LINK_CHANGE (R279). -/
  | servicePortLinkChange (t : Nanos) (link : ServiceLink)
  /-- GATE_WINDOW_END (R281). -/
  | gateWindowEnd (t : Nanos) (clk : Fin 10) (count : Nat)
  /-- CLOCK_STOP_DETECTED (R284). -/
  | clockStopDetected (t : Nanos) (src : Fin 4) (gapFio : Nat)
  /-- PLL_REFERENCE_FAILURE (R283). -/
  | pllReferenceFailure (t : Nanos) (k : Fin 6) (lockLoss : Bool)
  /-- FORCED_SWITCH_COMPLETE (R284). -/
  | forcedSwitchComplete (t : Nanos) (k : Fin 6)
  /-- PLL_RELOCK (R283). -/
  | pllRelock (t : Nanos) (k : Fin 6)
  /-- ACCESS_TIMEOUT (R291). -/
  | accessTimeout (t : Nanos) (block : Nat) (addr : Nat) (initiator : Nat)
  /-- FREQUENCY_COUNTER_DONE (R292). -/
  | frequencyCounterDone (t : Nanos) (count : Nat) (refStopped : Bool)
  /-- TEMPERATURE_SAMPLE (R293). -/
  | temperatureSample (t : Nanos) (temps : List DomTemp)
  /-- CALIBRATION_RUN_START (R294). -/
  | calibrationRunStart (t : Nanos) (d : Fin 28)
  /-- CALIBRATION_RUN_COMPLETE (R299). -/
  | calibrationRunComplete (t : Nanos) (d : Fin 28) (res : CalResult)
  /-- POWER_ON_SEQUENCE (R324). -/
  | powerOnSequence (t : Nanos) (boot : BootInfo)
  /-- POWER_STEP_TIMEOUT (R324). -/
  | powerStepTimeout (t : Nanos) (stp : Fin 10) (ch : Fin 16)
  /-- XB_OVEN_SETTLED (R330). -/
  | xbOvenSettled (t : Nanos)
  /-- XB_WARMUP_TIMEOUT (R330). -/
  | xbWarmupTimeout (t : Nanos)
  /-- CHASSIS_RESET (R335). -/
  | chassisReset (t : Nanos) (lowNs : Nat) (boot : BootInfo)
  /-- WATCHDOG_EXPIRY (R337). -/
  | watchdogExpiry (t : Nanos) (cls : Fin 13)
  /-- AUTO_CONFIRM_EXPIRY (R339). -/
  | autoConfirmExpiry (t : Nanos)
  /-- EJECTOR (R341). -/
  | ejector (t : Nanos) (opened : Bool)
  /-- I2C_OFFSET_WRITE (R346). -/
  | i2cOffsetWrite (t : Nanos) (offset : Byte)
  /-- I2C_READ (R346). -/
  | i2cRead (t : Nanos)
  /-- LIVE_FIELD_UPDATE (R346). -/
  | liveFieldUpdate (t : Nanos)
  /-- FEED_STATE_CHANGE (R348). -/
  | feedStateChange (t : Nanos) (feed : Fin 2) (mv : Int)
  /-- INTERNAL_SHORT_LIMIT (R348). -/
  | internalShortLimit (t : Nanos) (feed : Fin 2)
  /-- HOLD_UP_CHARGED (R350). -/
  | holdUpCharged (t : Nanos)
  /-- INPUT_DIP (R350). -/
  | inputDip (t : Nanos)
  /-- HOLD_UP_EXPIRY (R350). -/
  | holdUpExpiry (t : Nanos)
  /-- COOL_FAIL (R352). -/
  | coolFail (t : Nanos) (asserted : Bool)
  /-- JUNCTION_SAMPLE (R353). -/
  | junctionSample (t : Nanos) (temp : Int)
  /-- THERMAL_STOP_END (R353). -/
  | thermalStopEnd (t : Nanos)
  /-- OPTIC_TEMPERATURE_READ (R355). -/
  | opticTemperatureRead (t : Nanos) (cage : Fin 9) (temp : Int) (highAlarm : Int)
  /-- HEARTBEAT_CHECK (R364). -/
  | heartbeatCheck (t : Nanos) (missed : List (Fin 64))
  /-- SETT_CORE_TRAP (R364). -/
  | settCoreTrap (t : Nanos) (core : Fin 64) (memory : Bool)
  /-- BUILT_IN_TEST_COMPLETE (R371). -/
  | builtInTestComplete (t : Nanos) (pass : Bool) (detail : Nat)
  /-- DATAGRAM_QUEUED (R158). -/
  | datagramQueued (t : Nanos) (r : Fin 128)
  /-- KOMUND_MESSAGE_DISCARDED (R231). -/
  | komundMessageDiscarded (t : Nanos) (m : KMsg)
  /-- UNKNOWN_OPCODE (R303). -/
  | unknownOpcode (t : Nanos) (f : Frame) (opcode : Nat)
  /-- ARP_AND_ICMP_ECHO (R300). -/
  | arpAndIcmpEcho (t : Nanos) (route : Route) (msg : LocalMsg)
  /-- DELAY_REQ_SEND (R28). -/
  | delayReqSend (t : Nanos)
  /-- MEMBERSHIP_TIMEOUT (R212). -/
  | membershipTimeout (t : Nanos) (port : Fin 32) (group : Nat) (source : Option Nat)
  /-- OTHER_QUERIER_PRESENT_TIMEOUT (R212). -/
  | otherQuerierPresentTimeout (t : Nanos) (port : Fin 32) (family : Fam)
  /-- UNSOLICITED_REPORT_TIMER (R211). -/
  | unsolicitedReportTimer (t : Nanos) (entry : Fin 32768)
  deriving DecidableEq, Repr

end Sys2Proof
end

