-- ==== Sys2Proof/Config.lean ====
section
/-! DEFINITION. The free values: what the manual leaves open. Each is a constant without a body, so no proof can
rest on what it is (log 4). -/

namespace Sys2Proof

/-- The module nonce of a CHALLENGE, "16 bytes from the module's random source" (Table 16.5); by draw. -/
opaque Config.moduleNonce : Nat → BitVec 128

/-- The session id that a CHALLENGE proposes (R305), by draw. -/
opaque Config.sessionId : Nat → BitVec 32

/-- The transfer id that BULK BEGIN proposes (R319), by draw. -/
opaque Config.transferId : Nat → BitVec 16

/-- The ST 12-1 timecode of a frame tick, as frames since midnight: ST 2059-1 with the UTC offset in force (R59);
by PTP time of the frame tick, nominal frames per second, the exact frame period as a fraction of a second, and UTC offset. -/
opaque Config.ptpTimecode : Nat → Nat → Nat × Nat → Int → Nat

/-- Which frame of its group a picture of more than 60 frames per second is, in an ATC packet's label (R59), by the packet's words. -/
opaque Config.atcSubframe : Octets → Nat

/-- The fixed 8-tap horizontal upsampling of chroma (R61), whose coefficients are not given: whether the position lies between
two samples, and the eight samples around it (none outside the picture). -/
opaque Config.upsample : Bool → List (Option Nat) → Nat

/-- The fixed 11-tap half-band decimation of chroma (R61): the eleven samples around a position. -/
opaque Config.decimate : List (Option Nat) → Nat

/-- Whether a quotient that is no whole number is taken up, where no rule says how it is rounded: where, numerator, denominator
(R62, R75). -/
opaque Config.roundsUp : Nat → Int → Int → Bool

/-- The module's own tables for presets 2-7 (R64): the entries of the LUTs (preset, post or pre, component, index), the coefficients
of the matrix (preset, output, input) and its offsets; limited to the ranges of R63 where used. -/
opaque Config.presetLut : Nat → Bool → Nat → Nat → Nat
opaque Config.presetMatrix : Nat → Nat → Nat → Int
opaque Config.presetOffset : Nat → Nat → Int

/-- The windowed-sinc filters of a scaled rung (R75), whose coefficients are not given: horizontal, by ratio left after
pre-decimation and its sixteen samples (none outside the picture); vertical, by that ratio and its 4, 6, 8 or 12 samples. -/
opaque Config.filterH : Nat → List (Option Nat) → Nat
opaque Config.filterV : Nat → List Nat → Nat

/-! ### What a lane chooses (R81, R90, R98, R107-R110) -/

/-- A position that a candidate is derived from (R109): of the current picture or of the collocated one, at a luma column. -/
structure CandPos where
  collocated : Bool
  x : Nat
  deriving DecidableEq, Repr, Inhabited

/-- A candidate of a merge or predictor list: the positions it is derived from, and its motion: reference index and vector in
1/16 luma sample. -/
structure Cand where
  from_ : List CandPos
  ref : Nat
  mvx : Int
  mvy : Int
  deriving DecidableEq, Repr, Inhabited

/-- An intra mode: planar, DC, angular by its number after any wide-angle mapping, matrix-weighted (MIP), or one of the
cross-component linear models: 0 from left and above, 1 from above with above-right, 2 from left with below-left. -/
inductive IntraMode | planar | dc | angular (n : Int) | matrix | linear (kind : Nat)
  deriving DecidableEq, Repr, Inhabited

/-- The intra prediction of a CU: its modes, its reference line, and whether it is split into sub-partitions. -/
structure IntraPart where
  luma : IntraMode
  chroma : IntraMode
  line : Nat
  split : Bool
  deriving DecidableEq, Repr, Inhabited

/-- The inter prediction of a CU (Tables 5.4, 5.5). -/
inductive InterKind | merge | predictor | affine | subblock | mmvd | ciip
  deriving DecidableEq, Repr, Inhabited

/-- How a CU is predicted; of an inter CU, whether it is a skip, the candidates of its list up to and with the one it selects, and
every vector it applies: reference index, components in 1/16 luma sample. -/
inductive CuMode
  | intra (p : IntraPart)
  | inter (kind : InterKind) (skip : Bool) (cands : List Cand) (vectors : List (Nat × Int × Int))
  deriving DecidableEq, Repr, Inhabited

/-- A CU: its luma column and line in the picture, width, height, and prediction. -/
structure CuCode where
  x : Nat
  y : Nat
  w : Nat
  h : Nat
  mode : CuMode
  deriving DecidableEq, Repr, Inhabited

/-- A CTU as its lane codes it: its CUs, and whether it does without a reference for a block that fails to read (R100). -/
structure CtuCode where
  cus : List CuCode
  missed : Bool
  deriving DecidableEq, Repr, Inhabited

/-- How a CTU stands in its slice: coded; skip with a merge index; inter with the vector (0,0) on reference index 0 from a predictor;
intra DC at full size with no residual (R98, R99, R135). -/
inductive CtuForm | coded (c : CtuCode) | skip (index : Nat) | zeroVector (predictor : Nat) | intraDc
  deriving DecidableEq, Repr, Inhabited

/-- All that coded bytes depend on (R81): numbers for configuration, plan and refresh state, the converted input of the course, the
reference pictures band by band, the bands above, the tile column, and the CTUs before. -/
structure CodeCtx where
  numbers : List Int
  input : List Row
  refs : List (List Octets)
  bands : List Octets
  tile : Nat
  before : List CtuForm
  deriving DecidableEq, Repr, Inhabited

/-- How a lane codes the next CTU of a slice and in how many bits; used only where it keeps R89, R90, R100 and R105-R110. -/
opaque Config.ctuCode : CodeCtx → CtuCode
opaque Config.ctuBits : CodeCtx → Nat

/-- The regular merge candidates and the vector predictors of the next CTU as one CU of full size, as H.265 and H.266 derive them
(R98, R135). -/
opaque Config.mergeCands : CodeCtx → List Cand
opaque Config.predictorCands : CodeCtx → List Cand

/-- The bits of a substituted CTU (R98), and of a CTU in the exhaustion form, limited to u (R135). -/
opaque Config.substituteBits : CodeCtx → Nat
opaque Config.exhaustedBits : CodeCtx → Nat

/-- The bits of a slice's NAL and header, and of its end; limited to 320 and 64 (Table 7.2). -/
opaque Config.sliceHeadBits : CodeCtx → Nat
opaque Config.sliceEndBits : CodeCtx → Nat

/-- The bits an access unit's NAL units other than slices take, limited to O_max where used (Table 7.2), the part of them that the
suffix SEI takes, and the sizes of those before the slices, each limited to what is left; by the picture's numbers (R131). -/
opaque Config.overheadBits : List Int → Nat
opaque Config.suffixBits : List Int → Nat
opaque Config.nalBits : List Int → Nat → Nat

/-- The reconstruction band of a course (R88), in the order of R221, and its coded slices, both from how each CTU was coded; cut
to their sizes where used. -/
opaque Config.bandOctets : CodeCtx → Octets
opaque Config.sliceOctets : CodeCtx → Octets

/-- The NAL units of an access unit other than slices, as octets, from the values the manual states for them. -/
opaque Config.headOctets : List (String × Int) → Octets

/-- The octets a block of a reference picture takes compressed (R92), from its samples. -/
opaque Config.compressed : Octets → Nat

/-- The bits V, U, C and F of an AES3 word of ST 302M (R152), by sample number and channel of the stream. -/
opaque Config.aesFlags : Nat → Nat → Nat

/-- The bits of the video descriptors that Table 8.1 leaves open, by place: non-packed and frame-only constraints, HDR and WCG
indication, video properties (R148). -/
opaque Config.descriptorBits : Nat → Nat

/-! ### What a decoded stream says (ch. 9) -/

/-- What an SPS declares (Table 9.1): profile_idc, the first nine general constraint flags, tier, level; chroma format and depth; coded
size and conformance window in luma samples (left, right, top, bottom); fields or frames; num_units_in_tick and time_scale of the VUI if
present; whether reference picture resampling changes the output size; reordering; colour primaries and transfer characteristics. -/
structure SpsInfo where
  profileIdc : Nat
  constraints : List Bool
  highTier : Bool
  level : Nat
  chroma : Nat
  depth : Nat
  width : Nat
  height : Nat
  crop : List Nat
  fields : Bool
  timing : Option (Nat × Nat)
  resizes : Bool
  reorder : Nat
  primaries : Nat
  transfer : Nat
  deriving DecidableEq, Repr, Inhabited

/-- How a picture can begin or complete a recovery (R176). -/
inductive RecoveryMark | none | irap | gdrStart (count : Nat) | recoveryPoint (count : Nat) (exact : Bool)
  deriving DecidableEq, Repr, Inhabited

/-- What the NAL units of an access unit say of its picture: order count, whether it begins a sequence, the order counts of its
references, recovery, its decoded picture hash: type (0 MD5, 1 CRC, 2 checksum) and values by component; and whether the order counts
of later pictures derive from its own. -/
structure PicInfo where
  poc : Int
  anchor : Bool
  fresh : Bool
  refs : List Int
  recovery : RecoveryMark
  hash : Option (Nat × List Nat)
  deriving DecidableEq, Repr, Inhabited

/-- A stretch of a line as a slice decodes it: line, first luma column, samples. -/
structure DecPatch where
  line : Nat
  column : Nat
  row : Row
  deriving DecidableEq, Repr, Inhabited

/-- An SPS, and the NAL units of an access unit after its parameter sets and the order count before, as H.265 (false) and H.266 (true)
have them read. -/
opaque Config.parseSps : Bool → Octets → SpsInfo
opaque Config.parsePicture : Bool → List Octets → Int → PicInfo

/-- What the slices among some NAL units decode to, after parameter sets, against the reference pictures they name, samples and motion;
and the motion they leave. -/
opaque Config.decodeSlices : Bool → List Octets → List (List Row × List Int) → List DecPatch
opaque Config.decodeMotion : Bool → List Octets → List (List Row × List Int) → List Int

/-- The fixed vertical 4-tap upsampling of a 4:2:0 picture's chroma (R179): whether the line lies below the nearer one, and the four
samples around it (none outside the picture). -/
opaque Config.upsampleVertical : Bool → List (Option Nat) → Nat

/-- Which 64-octet burst of a course in the replay ring fails (R195), by draw. -/
opaque Config.failingBurst : Nat → Nat

/-- How far past its cutoff a lane's unfinished work would have run, in ns less 1, by draw (R101). -/
opaque Config.lateness : Nat → Nat

/-- Where in its region an unreadable burst of a picture lies, by draw: line and first sample (R261). -/
opaque Config.burstPlace : Nat → Nat × Nat

/-- The region of an unreadable burst where its reader does not tell it, by draw (R261). -/
opaque Config.burstRegion : Nat → Nat

/-- The length of a frame that the module itself sends in Q0, Q1 or Q3 where no rule gives it, by draw (3840:14). -/
opaque Config.frameOctets : Nat → Nat

/-- The figures of a lane's eye at its exit from stage 3 or in test mode, by draw (R299, R334): width and height, limited to
1,000 where used, and residual offset. -/
opaque Config.eyeWidth : Nat → Nat
opaque Config.eyeHeight : Nat → Nat
opaque Config.eyeResidual : Nat → Int

/-- What a lane's equalisation settles to (2580): tap i by draw, limited to its range where used. -/
opaque Config.laneTap : Nat → Nat → Int

/-- What a lane's forward error correction counts in a base tick: codewords, symbols corrected; bit errors a checker
finds; by draw (2480:07-08, 2500:09). -/
opaque Config.codewords : Nat → Nat
opaque Config.corrected : Nat → Nat
opaque Config.bitErrors : Nat → Nat

/-- The activity offset of a quantisation group without activity in a picture without activity, where the formula of R124 has no
value; by adaptive strength, limited to ± that strength where used. -/
opaque Config.flatActivity : Nat → Int

/-- What a sensor reads, by draw and sensor: 0 inlet, 1 outlet, 2 the hottest board sensor in 0.1 °C; 3 and 4 feed currents in mA;
5 input, 6 processor and 7 DIMM power in W, limited as Table 18.6 bounds them where used (R351, R355); 8 the temperature of a
calibration domain at its run of bring-up (R299). -/
opaque Config.sensor : Nat → Nat → Int

/-- What the clients of a DRAM port do, by draw, port and figure: 0 octets read, 1 octets written, 2 requests, 5 requests served
after the target, 6 requests at urgency 3 of a base tick; 3 its largest latency, 4 the mean latency of a second in ns (2100). -/
opaque Config.portFigure : Nat → Nat → Nat → Nat

/-- What a second of work shows, by draw and figure: 0 the measured DRAM load in MB/s (2080:05), 1 + c the use of channel c's bus and
17 + c its row hits in %, limited to 100 where used (2140:02-03). -/
opaque Config.loadFigure : Nat → Nat → Nat

/-- The share of its tick-plan slots a Sett core uses over a second in %, limited to 100 where used, and the words its local memory
corrects in a base tick, by draw and core (2800:09-0A). -/
opaque Config.slotUse : Nat → Nat → Nat
opaque Config.wordsCorrected : Nat → Nat → Nat

/-- What a firmware image's octets hold: its signature's verdict, product, release and the floor it carries (R338); the manual
gives no format. -/
opaque Config.parseFirmware : Octets → FwImage

end Sys2Proof
end

