-- ==== Sys2Proof/Machine/Crc.lean ====
section
/-! DEFINITION. CRC-32C as the module uses it everywhere (R366). -/

namespace Sys2Proof.Machine

/-- One bit of the reflected register: polynomial 0x1EDC_6F41 reflected (R366). -/
def crcBit (c : BitVec 32) : BitVec 32 :=
  if c &&& 1#32 = 1#32 then (c >>> 1) ^^^ 0x82F63B78#32 else c >>> 1

/-- The state after one octet. -/
def crcByte (c : BitVec 32) (b : Byte) : BitVec 32 :=
  crcBit (crcBit (crcBit (crcBit (crcBit (crcBit (crcBit (crcBit (c ^^^ b.zeroExtend 32))))))))

/-- The state after a string of octets, a running value of R366. -/
def crcRun (c : BitVec 32) (l : Octets) : BitVec 32 := l.foldl crcByte c

/-- The result of a state (R366). -/
def crcResult (c : BitVec 32) : BitVec 32 := c ^^^ 0xFFFFFFFF#32

/-- The CRC-32C of a string of octets, as every CRC field carries it (R366). -/
def crc32c (l : Octets) : Nat := (crcResult (crcRun 0xFFFFFFFF#32 l)).toNat

end Sys2Proof.Machine
end

