-- ==== Sys2Proof/Machine/Dictionary.lean ====
section
/-! DEFINITION. The object dictionary (R2-R5, R372-R395): which objects exist, their types, access codes, defaults,
ranges, owners, apply grains, least roles and persistence. The tables are those of the chapters that own the
objects, in the order of Table 20.1 and Table 21.1. -/

namespace Sys2Proof.Machine

/-- The value of an object: a number, a TIME or DUR as nanoseconds, a BOOL or ENUM8 by its number; or octets. -/
inductive Val
  | num (v : Int)
  | bytes (b : Octets)
  deriving DecidableEq, Repr, Inhabited

/-- The types of Table 0.1. -/
inductive Ty | u8 | u16 | u32 | u64 | i16 | i32 | bool | enum8 | bits32 | time | dur | str (n : Nat) | blob
  deriving DecidableEq, Repr, Inhabited

/-- The access codes of Table 0.2. -/
inductive Acc | ro | rw | rs | rt | wo
  deriving DecidableEq, Repr, Inhabited

/-- A stated range: none beyond the type's, one or several intervals, multiples in an interval, defined bits,
an IPv4 multicast address or 0, or permitted octet lengths. -/
inductive Rng
  | all
  | iv (lo hi : Int)
  | ivs (l : List (Int × Int))
  | mult (lo hi k : Nat)
  | mask (bits : Nat)
  | ipmc
  | lens (l : List (Nat × Nat))
  deriving DecidableEq, Repr, Inhabited

/-- A row of an object table: a run of subitems of one type, access, default and range (R373). -/
structure Field where
  sub : Nat
  last : Nat
  ty : Ty
  acc : Acc
  dflt : Val
  rng : Rng
  deriving DecidableEq, Repr, Inhabited

/-- An object with one index per instance, base + n (R372, R383). -/
structure Group where
  base : Nat
  count : Nat
  fields : List Field
  deriving DecidableEq, Repr, Inhabited

/-- Octets padded with zeros to n (STR(n), Table 0.1). -/
def pad (n : Nat) (l : List Nat) : Octets :=
  (l.map (BitVec.ofNat 8)) ++ List.replicate (n - l.length) 0

/-- 1000: Mason's mark. -/
def d1000 : Group := ⟨0x1000, 1, [
  ⟨0x00, 0x00, .u8, .ro, .num 12, .all⟩,
  ⟨0x01, 0x01, (.str 8), .ro, .bytes (pad 8 []), .all⟩,
  ⟨0x02, 0x04, .u8, .ro, .num 0, .all⟩,
  ⟨0x05, 0x05, .u64, .ro, .num 0, .all⟩,
  ⟨0x06, 0x06, (.str 16), .ro, .bytes (pad 16 []), .all⟩,
  ⟨0x07, 0x07, .u16, .ro, .num 0, .all⟩,
  ⟨0x08, 0x08, .u64, .ro, .num 0, .all⟩,
  ⟨0x09, 0x09, .u8, .ro, .num 40, .all⟩,
  ⟨0x0A, 0x0A, (.str 16), .ro, .bytes (pad 16 [70, 78, 45, 54, 52, 52, 56, 45, 65]), .all⟩,
  ⟨0x0B, 0x0B, .u8, .ro, .num 0, .all⟩,
  ⟨0x0C, 0x0C, .u32, .ro, .num 0, .all⟩]⟩

/-- 1010: Indicators. -/
def d1010 : Group := ⟨0x1010, 1, [
  ⟨0x00, 0x00, .u8, .ro, .num 2, .all⟩,
  ⟨0x01, 0x01, .bool, .rw, .num 0, .iv 0 1⟩,
  ⟨0x02, 0x02, .bool, .wo, .num 0, .iv 1 1⟩]⟩

/-- 1020: Module role. -/
def d1020 : Group := ⟨0x1020, 1, [
  ⟨0x00, 0x00, .enum8, .rw, .num 0, .iv 0 1⟩]⟩

/-- 1021: Role in force. -/
def d1021 : Group := ⟨0x1021, 1, [
  ⟨0x00, 0x00, .enum8, .ro, .num 0, .all⟩]⟩

/-- 1030: Reset. -/
def d1030 : Group := ⟨0x1030, 1, [
  ⟨0x00, 0x00, .u8, .ro, .num 4, .all⟩,
  ⟨0x01, 0x01, .enum8, .wo, .num 0, .iv 1 2⟩,
  ⟨0x02, 0x02, .enum8, .ro, .num 0, .all⟩,
  ⟨0x03, 0x03, .u32, .ro, .num 0, .all⟩,
  ⟨0x04, 0x04, .dur, .ro, .num 0, .all⟩]⟩

/-- 1040: Readiness. -/
def d1040 : Group := ⟨0x1040, 1, [
  ⟨0x00, 0x00, .u8, .ro, .num 3, .all⟩,
  ⟨0x01, 0x01, .enum8, .ro, .num 3, .all⟩,
  ⟨0x02, 0x02, .bits32, .ro, .num 5, .all⟩,
  ⟨0x03, 0x03, .dur, .ro, .num 0, .all⟩]⟩

/-- 1100: Addressing. -/
def d1100 : Group := ⟨0x1100, 1, [
  ⟨0x00, 0x00, .u8, .ro, .num 13, .all⟩,
  ⟨0x01, 0x01, .u32, .rw, .num 0, .all⟩,
  ⟨0x02, 0x02, .u8, .rw, .num 16, .iv 8 30⟩,
  ⟨0x03, 0x03, .u32, .rw, .num 0, .all⟩,
  ⟨0x04, 0x04, .u32, .rw, .num 3232251955, .all⟩,
  ⟨0x05, 0x05, .u8, .rw, .num 24, .iv 8 30⟩,
  ⟨0x06, 0x06, .u32, .rw, .num 0, .all⟩,
  ⟨0x07, 0x07, .bool, .rw, .num 0, .iv 0 1⟩,
  ⟨0x08, 0x08, .u16, .rw, .num 65535, .ivs [(0, 4094), (65535, 65535)]⟩,
  ⟨0x09, 0x09, .u32, .rw, .num 0, .all⟩,
  ⟨0x0A, 0x0A, .u8, .rw, .num 24, .iv 8 30⟩,
  ⟨0x0B, 0x0B, .u32, .rw, .num 0, .all⟩,
  ⟨0x0C, 0x0C, .bits32, .rw, .num 0, .all⟩,
  ⟨0x0D, 0x0D, .bits32, .rw, .num 3, .mask 7⟩]⟩

/-- 1110: Role keys. -/
def d1110 : Group := ⟨0x1110, 1, [
  ⟨0x00, 0x00, .u8, .ro, .num 5, .all⟩,
  ⟨0x01, 0x04, .blob, .wo, .bytes [], .lens [(32, 32)]⟩,
  ⟨0x05, 0x05, .bits32, .ro, .num 0, .all⟩]⟩

/-- 1120: Session statistics. -/
def d1120 : Group := ⟨0x1120, 1, [
  ⟨0x00, 0x00, .u8, .ro, .num 7, .all⟩,
  ⟨0x01, 0x01, .u8, .ro, .num 0, .all⟩,
  ⟨0x02, 0x07, .u64, .ro, .num 0, .all⟩]⟩

/-- 1121–1140: Session slot. -/
def d1121 : Group := ⟨0x1121, 32, [
  ⟨0x00, 0x00, .u8, .ro, .num 8, .all⟩,
  ⟨0x01, 0x01, .u32, .ro, .num 0, .all⟩,
  ⟨0x02, 0x03, .enum8, .ro, .num 0, .all⟩,
  ⟨0x04, 0x04, .u32, .ro, .num 0, .all⟩,
  ⟨0x05, 0x05, .u16, .ro, .num 0, .all⟩,
  ⟨0x06, 0x06, .time, .ro, .num 0, .all⟩,
  ⟨0x07, 0x07, .u64, .ro, .num 0, .all⟩,
  ⟨0x08, 0x08, .bool, .ro, .num 0, .all⟩]⟩

/-- 1160: Event log. -/
def d1160 : Group := ⟨0x1160, 1, [
  ⟨0x00, 0x00, .u8, .ro, .num 3, .all⟩,
  ⟨0x01, 0x02, .u64, .ro, .num 0, .all⟩,
  ⟨0x03, 0x03, .u32, .ro, .num 0, .all⟩]⟩

/-- 1180: Images. -/
def d1180 : Group := ⟨0x1180, 1, [
  ⟨0x00, 0x00, .u8, .ro, .num 7, .all⟩,
  ⟨0x01, 0x01, .u8, .rw, .num 0, .iv 0 7⟩,
  ⟨0x02, 0x04, .u8, .wo, .num 0, .iv 0 7⟩,
  ⟨0x05, 0x05, .bits32, .ro, .num 0, .all⟩,
  ⟨0x06, 0x06, .u8, .ro, .num 255, .all⟩,
  ⟨0x07, 0x07, .bool, .ro, .num 0, .all⟩]⟩

/-- 1181–1188: Image. -/
def d1181 : Group := ⟨0x1181, 8, [
  ⟨0x00, 0x00, .u8, .ro, .num 5, .all⟩,
  ⟨0x01, 0x01, (.str 32), .rw, .bytes (pad 32 []), .all⟩,
  ⟨0x02, 0x02, .time, .ro, .num 0, .all⟩,
  ⟨0x03, 0x04, .u32, .ro, .num 0, .all⟩,
  ⟨0x05, 0x05, .blob, .rw, .bytes [], .all⟩]⟩

/-- 1200: Firmware. -/
def d1200 : Group := ⟨0x1200, 1, [
  ⟨0x00, 0x00, .u8, .ro, .num 8, .all⟩,
  ⟨0x01, 0x01, .enum8, .ro, .num 0, .all⟩,
  ⟨0x02, 0x03, (.str 16), .ro, .bytes (pad 16 [70, 51, 46, 50]), .all⟩,
  ⟨0x04, 0x04, .u16, .ro, .num 3, .all⟩,
  ⟨0x05, 0x06, .enum8, .ro, .num 2, .all⟩,
  ⟨0x07, 0x07, .enum8, .rw, .num 0, .iv 0 1⟩,
  ⟨0x08, 0x08, .u16, .ro, .num 0, .all⟩]⟩

/-- 1210: Update. -/
def d1210 : Group := ⟨0x1210, 1, [
  ⟨0x00, 0x00, .u8, .ro, .num 6, .all⟩,
  ⟨0x01, 0x01, .blob, .wo, .bytes [], .lens [(0, 268435456)]⟩,
  ⟨0x02, 0x02, .enum8, .wo, .num 0, .iv 1 1⟩,
  ⟨0x03, 0x03, .bool, .wo, .num 0, .iv 1 1⟩,
  ⟨0x04, 0x04, .dur, .rw, .num 600000000000, .iv 0 86400000000000⟩,
  ⟨0x05, 0x05, .enum8, .ro, .num 0, .all⟩,
  ⟨0x06, 0x06, .u16, .ro, .num 0, .all⟩]⟩

/-- 1400: Tick family. -/
def d1400 : Group := ⟨0x1400, 1, [
  ⟨0x00, 0x00, .enum8, .rs, .num 2, .iv 0 3⟩]⟩

/-- 1401: 24-family rate. -/
def d1401 : Group := ⟨0x1401, 1, [
  ⟨0x00, 0x00, .enum8, .rs, .num 0, .iv 0 1⟩]⟩

/-- 1402: Tick number. -/
def d1402 : Group := ⟨0x1402, 1, [
  ⟨0x00, 0x00, .u64, .ro, .num 0, .all⟩]⟩

/-- 1403: Frame number. -/
def d1403 : Group := ⟨0x1403, 1, [
  ⟨0x00, 0x00, .u64, .ro, .num 0, .all⟩]⟩

/-- 1410: PTP domain. -/
def d1410 : Group := ⟨0x1410, 1, [
  ⟨0x00, 0x00, .u8, .rs, .num 127, .iv 0 127⟩]⟩

/-- 1411: Delay request mode. -/
def d1411 : Group := ⟨0x1411, 1, [
  ⟨0x00, 0x00, .enum8, .rs, .num 0, .iv 0 1⟩]⟩

/-- 1412: Announce receipt timeout. -/
def d1412 : Group := ⟨0x1412, 1, [
  ⟨0x00, 0x00, .u8, .rs, .num 3, .iv 2 10⟩]⟩

/-- 1413: PTP ports. -/
def d1413 : Group := ⟨0x1413, 1, [
  ⟨0x00, 0x00, .bits32, .rs, .num 1, .all⟩]⟩

/-- 1414: Boundary clock. -/
def d1414 : Group := ⟨0x1414, 1, [
  ⟨0x00, 0x00, .bool, .rs, .num 0, .iv 0 1⟩]⟩

/-- 1420: Servo status. -/
def d1420 : Group := ⟨0x1420, 1, [
  ⟨0x00, 0x00, .u8, .ro, .num 7, .all⟩,
  ⟨0x01, 0x01, .enum8, .ro, .num 0, .all⟩,
  ⟨0x02, 0x03, .dur, .ro, .num 0, .all⟩,
  ⟨0x04, 0x04, .u64, .ro, .num 0, .all⟩,
  ⟨0x05, 0x05, .u16, .ro, .num 0, .all⟩,
  ⟨0x06, 0x06, .dur, .ro, .num 0, .all⟩,
  ⟨0x07, 0x07, .bool, .ro, .num 0, .all⟩]⟩

/-- 1422: PTP discards. -/
def d1422 : Group := ⟨0x1422, 1, [
  ⟨0x00, 0x00, .u64, .ro, .num 0, .all⟩]⟩

/-- 1430: Holdover limit. -/
def d1430 : Group := ⟨0x1430, 1, [
  ⟨0x00, 0x00, .u32, .rw, .num 3600, .iv 60 86400⟩]⟩

/-- 1431: Slew limit. -/
def d1431 : Group := ⟨0x1431, 1, [
  ⟨0x00, 0x00, .u32, .rw, .num 2000, .iv 100 20000⟩]⟩

/-- 1432: Step threshold. -/
def d1432 : Group := ⟨0x1432, 1, [
  ⟨0x00, 0x00, .dur, .rw, .num 1000000, .iv 10000 10000000000⟩]⟩

/-- 1433: Step command. -/
def d1433 : Group := ⟨0x1433, 1, [
  ⟨0x00, 0x00, .bool, .wo, .num 0, .iv 1 1⟩]⟩

/-- 1434: Free-run start. -/
def d1434 : Group := ⟨0x1434, 1, [
  ⟨0x00, 0x00, .bool, .rw, .num 0, .iv 0 1⟩]⟩

/-- 1440: Timed launch status. -/
def d1440 : Group := ⟨0x1440, 1, [
  ⟨0x00, 0x00, .u8, .ro, .num 4, .all⟩,
  ⟨0x01, 0x01, .u16, .ro, .num 0, .all⟩,
  ⟨0x02, 0x04, .u64, .ro, .num 0, .all⟩]⟩

/-- 1450: PPS in offset. -/
def d1450 : Group := ⟨0x1450, 1, [
  ⟨0x00, 0x00, .dur, .ro, .num 0, .all⟩]⟩

/-- 1451: PPS out enable. -/
def d1451 : Group := ⟨0x1451, 1, [
  ⟨0x00, 0x00, .bool, .rw, .num 1, .iv 0 1⟩]⟩

/-- 1800: Sources. -/
def d1800 : Group := ⟨0x1800, 1, [
  ⟨0x00, 0x00, .u8, .ro, .num 8, .all⟩,
  ⟨0x01, 0x04, .enum8, .ro, .num 0, .all⟩,
  ⟨0x05, 0x08, .i32, .ro, .num 0, .all⟩]⟩

/-- 1810–1815: PLL. -/
def d1810 : Group := ⟨0x1810, 6, [
  ⟨0x00, 0x00, .u8, .ro, .num 8, .all⟩,
  ⟨0x01, 0x02, .enum8, .ro, .num 0, .all⟩,
  ⟨0x03, 0x03, .u32, .ro, .num 1600000, .all⟩,
  ⟨0x04, 0x04, .u32, .ro, .num 200000, .all⟩,
  ⟨0x05, 0x05, .bool, .ro, .num 0, .all⟩,
  ⟨0x06, 0x06, .u32, .ro, .num 0, .all⟩,
  ⟨0x07, 0x07, .bool, .ro, .num 0, .all⟩,
  ⟨0x08, 0x08, .time, .ro, .num 0, .all⟩]⟩

/-- 1820: Automatic reference switch. -/
def d1820 : Group := ⟨0x1820, 1, [
  ⟨0x00, 0x00, .bool, .rw, .num 1, .iv 0 1⟩]⟩

/-- 1830: Clear flags. -/
def d1830 : Group := ⟨0x1830, 1, [
  ⟨0x00, 0x00, .bool, .wo, .num 0, .iv 1 1⟩]⟩

/-- 1840: Frequency counter. -/
def d1840 : Group := ⟨0x1840, 1, [
  ⟨0x00, 0x00, .u8, .ro, .num 8, .all⟩,
  ⟨0x01, 0x01, .u8, .rw, .num 1, .iv 0 31⟩,
  ⟨0x02, 0x02, .u8, .rw, .num 2, .iv 0 31⟩,
  ⟨0x03, 0x03, .u32, .rw, .num 25000, .iv 1000 4294967295⟩,
  ⟨0x04, 0x04, .bool, .wo, .num 0, .iv 1 1⟩,
  ⟨0x05, 0x05, .enum8, .ro, .num 0, .all⟩,
  ⟨0x06, 0x07, .u64, .ro, .num 0, .all⟩,
  ⟨0x08, 0x08, .i32, .ro, .num 0, .all⟩]⟩

/-- 1850: Gating. -/
def d1850 : Group := ⟨0x1850, 1, [
  ⟨0x00, 0x00, .u8, .ro, .num 7, .all⟩,
  ⟨0x01, 0x01, .bool, .rw, .num 1, .iv 0 1⟩,
  ⟨0x02, 0x02, .u64, .ro, .num 0, .all⟩,
  ⟨0x03, 0x03, .u8, .ro, .num 0, .all⟩,
  ⟨0x04, 0x04, .u32, .ro, .num 0, .all⟩,
  ⟨0x05, 0x05, .u8, .ro, .num 0, .all⟩,
  ⟨0x06, 0x06, .time, .ro, .num 0, .all⟩,
  ⟨0x07, 0x07, .bits32, .ro, .num 1023, .all⟩]⟩

/-- 1C00: Calibration settings. -/
def d1C00 : Group := ⟨0x1C00, 1, [
  ⟨0x00, 0x00, .u8, .ro, .num 2, .all⟩,
  ⟨0x01, 0x01, .u8, .rw, .num 6, .iv 2 20⟩,
  ⟨0x02, 0x02, .bool, .rw, .num 1, .iv 0 1⟩]⟩

/-- 1C01: Calibrate. -/
def d1C01 : Group := ⟨0x1C01, 1, [
  ⟨0x00, 0x00, .u8, .wo, .num 0, .ivs [(0, 27), (255, 255)]⟩]⟩

/-- 1C40–1C5B: Domain status. -/
def d1C40 : Group := ⟨0x1C40, 28, [
  ⟨0x00, 0x00, .u8, .ro, .num 10, .all⟩,
  ⟨0x01, 0x01, .enum8, .ro, .num 0, .all⟩,
  ⟨0x02, 0x03, .u32, .ro, .num 0, .all⟩,
  ⟨0x04, 0x04, .time, .ro, .num 0, .all⟩,
  ⟨0x05, 0x05, .i16, .ro, .num 0, .all⟩,
  ⟨0x06, 0x07, .u16, .ro, .num 65535, .all⟩,
  ⟨0x08, 0x08, .i16, .ro, .num 32767, .all⟩,
  ⟨0x09, 0x09, .bool, .ro, .num 1, .all⟩,
  ⟨0x0A, 0x0A, .enum8, .ro, .num 0, .all⟩]⟩

/-- 1D00: Thermal status. -/
def d1D00 : Group := ⟨0x1D00, 1, [
  ⟨0x00, 0x00, .u8, .ro, .num 11, .all⟩,
  ⟨0x01, 0x04, .i16, .ro, .num 0, .all⟩,
  ⟨0x05, 0x05, .enum8, .ro, .num 0, .all⟩,
  ⟨0x06, 0x06, .u16, .ro, .num 52, .all⟩,
  ⟨0x07, 0x07, .bool, .ro, .num 0, .all⟩,
  ⟨0x08, 0x08, .i16, .ro, .num 0, .all⟩,
  ⟨0x09, 0x09, .bool, .ro, .num 0, .all⟩,
  ⟨0x0A, 0x0B, .u32, .ro, .num 0, .all⟩]⟩

/-- 1D40: Power status. -/
def d1D40 : Group := ⟨0x1D40, 1, [
  ⟨0x00, 0x00, .u8, .ro, .num 14, .all⟩,
  ⟨0x01, 0x04, .u32, .ro, .num 0, .all⟩,
  ⟨0x05, 0x05, .u16, .ro, .num 0, .all⟩,
  ⟨0x06, 0x07, .enum8, .ro, .num 0, .all⟩,
  ⟨0x08, 0x08, .bool, .ro, .num 0, .all⟩,
  ⟨0x09, 0x09, .u16, .ro, .num 0, .all⟩,
  ⟨0x0A, 0x0A, .u32, .ro, .num 0, .all⟩,
  ⟨0x0B, 0x0E, .u16, .ro, .num 0, .all⟩]⟩

/-- 1D80: Reset statistics. -/
def d1D80 : Group := ⟨0x1D80, 1, [
  ⟨0x00, 0x00, .bool, .wo, .num 0, .iv 1 1⟩]⟩

/-- 1E00–1E25: Lane figures. -/
def d1E00 : Group := ⟨0x1E00, 38, [
  ⟨0x00, 0x00, .u8, .ro, .num 4, .all⟩,
  ⟨0x01, 0x02, .u16, .ro, .num 65535, .all⟩,
  ⟨0x03, 0x03, .i16, .ro, .num 32767, .all⟩,
  ⟨0x04, 0x04, .bool, .ro, .num 1, .all⟩]⟩

/-- 2000: Memory status. -/
def d2000 : Group := ⟨0x2000, 1, [
  ⟨0x00, 0x00, .u8, .ro, .num 9, .all⟩,
  ⟨0x01, 0x02, .enum8, .ro, .num 0, .all⟩,
  ⟨0x03, 0x04, .u16, .ro, .num 0, .all⟩,
  ⟨0x05, 0x05, .u8, .ro, .num 0, .all⟩,
  ⟨0x06, 0x06, .u16, .ro, .num 6400, .all⟩,
  ⟨0x07, 0x08, .u32, .ro, .num 0, .all⟩,
  ⟨0x09, 0x09, .bits32, .ro, .num 0, .all⟩]⟩

/-- 2010: Regions. -/
def d2010 : Group := ⟨0x2010, 1, [
  ⟨0x00, 0x00, .u8, .ro, .num 16, .all⟩,
  ⟨0x01, 0x01, .u16, .ro, .num 16, .all⟩,
  ⟨0x02, 0x02, .u16, .ro, .num 9, .all⟩,
  ⟨0x03, 0x03, .u16, .rs, .num 128, .iv 16 1024⟩,
  ⟨0x04, 0x04, .u16, .rs, .num 64, .iv 8 1024⟩,
  ⟨0x05, 0x05, .u16, .rs, .num 16, .iv 1 256⟩,
  ⟨0x06, 0x06, .u16, .ro, .num 2, .all⟩,
  ⟨0x07, 0x08, .u16, .ro, .num 0, .all⟩,
  ⟨0x09, 0x10, .enum8, .rs, .num 4, .iv 0 8⟩]⟩

/-- 2011: Available for replay. -/
def d2011 : Group := ⟨0x2011, 1, [
  ⟨0x00, 0x00, .u16, .ro, .num 0, .all⟩]⟩

/-- 2012: Region use. -/
def d2012 : Group := ⟨0x2012, 1, [
  ⟨0x00, 0x00, .u8, .ro, .num 8, .all⟩,
  ⟨0x01, 0x08, .u64, .ro, .num 0, .all⟩]⟩

/-- 2020: Controller settings. -/
def d2020 : Group := ⟨0x2020, 1, [
  ⟨0x00, 0x00, .u8, .ro, .num 3, .all⟩,
  ⟨0x01, 0x01, .dur, .rs, .num 200, .iv 0 10000⟩,
  ⟨0x02, 0x02, .u16, .rw, .num 24, .iv 1 168⟩,
  ⟨0x03, 0x03, .u16, .rw, .num 64, .iv 1 65535⟩]⟩

/-- 2040: Latency targets. -/
def d2040 : Group := ⟨0x2040, 1, [
  ⟨0x00, 0x00, .u8, .ro, .num 24, .all⟩,
  ⟨0x01, 0x18, .dur, .rw, .num 0, .iv 500 1000000⟩]⟩

/-- 2080: Bandwidth admission. -/
def d2080 : Group := ⟨0x2080, 1, [
  ⟨0x00, 0x00, .u8, .ro, .num 5, .all⟩,
  ⟨0x01, 0x02, .u32, .ro, .num 0, .all⟩,
  ⟨0x03, 0x04, .u16, .ro, .num 0, .all⟩,
  ⟨0x05, 0x05, .u32, .ro, .num 0, .all⟩]⟩

/-- 2081: Demand per port. -/
def d2081 : Group := ⟨0x2081, 1, [
  ⟨0x00, 0x00, .u8, .ro, .num 24, .all⟩,
  ⟨0x01, 0x18, .u32, .ro, .num 0, .all⟩]⟩

/-- 2100–2117: Port statistics. -/
def d2100 : Group := ⟨0x2100, 24, [
  ⟨0x00, 0x00, .u8, .ro, .num 8, .all⟩,
  ⟨0x01, 0x03, .u64, .ro, .num 0, .all⟩,
  ⟨0x04, 0x05, .dur, .ro, .num 0, .all⟩,
  ⟨0x06, 0x08, .u64, .ro, .num 0, .all⟩]⟩

/-- 2140–214F: Channel status. -/
def d2140 : Group := ⟨0x2140, 16, [
  ⟨0x00, 0x00, .u8, .ro, .num 10, .all⟩,
  ⟨0x01, 0x01, .enum8, .ro, .num 0, .all⟩,
  ⟨0x02, 0x03, .u8, .ro, .num 0, .all⟩,
  ⟨0x04, 0x07, .u64, .ro, .num 0, .all⟩,
  ⟨0x08, 0x08, .i16, .ro, .num 0, .all⟩,
  ⟨0x09, 0x09, .enum8, .ro, .num 0, .all⟩,
  ⟨0x0A, 0x0A, .u64, .ro, .num 0, .all⟩]⟩

/-- 21C0: Reset statistics. -/
def d21C0 : Group := ⟨0x21C0, 1, [
  ⟨0x00, 0x00, .u8, .wo, .num 0, .ivs [(0, 23), (64, 79), (255, 255)]⟩]⟩

/-- 2400–2407: Cage configuration. -/
def d2400 : Group := ⟨0x2400, 8, [
  ⟨0x00, 0x00, .u8, .ro, .num 12, .all⟩,
  ⟨0x01, 0x01, .enum8, .rs, .num 0, .iv 0 2⟩,
  ⟨0x02, 0x02, .enum8, .rs, .num 0, .iv 0 3⟩,
  ⟨0x03, 0x05, .bool, .rs, .num 1, .iv 0 1⟩,
  ⟨0x06, 0x06, .bits32, .rs, .num 0, .mask 15⟩,
  ⟨0x07, 0x07, .dur, .rs, .num 3000000000, .iv 500000000 12000000000⟩,
  ⟨0x08, 0x08, .u8, .rs, .num 40, .iv 0 79⟩,
  ⟨0x09, 0x09, .u8, .ro, .num 0, .all⟩,
  ⟨0x0A, 0x0A, .enum8, .rt, .num 0, .iv 1 1⟩,
  ⟨0x0B, 0x0B, .bool, .wo, .num 0, .iv 1 1⟩,
  ⟨0x0C, 0x0C, .bool, .rs, .num 0, .iv 0 1⟩]⟩

/-- 2408: Cage configuration of cage M, which has port mode 0 only. -/
def d2408 : Group := ⟨0x2408, 1, [
  ⟨0x00, 0x00, .u8, .ro, .num 12, .all⟩,
  ⟨0x01, 0x01, .enum8, .rs, .num 0, .iv 0 0⟩,
  ⟨0x02, 0x02, .enum8, .rs, .num 0, .iv 0 3⟩,
  ⟨0x03, 0x05, .bool, .rs, .num 1, .iv 0 1⟩,
  ⟨0x06, 0x06, .bits32, .rs, .num 0, .mask 15⟩,
  ⟨0x07, 0x07, .dur, .rs, .num 3000000000, .iv 500000000 12000000000⟩,
  ⟨0x08, 0x08, .u8, .rs, .num 40, .iv 0 79⟩,
  ⟨0x09, 0x09, .u8, .ro, .num 0, .all⟩,
  ⟨0x0A, 0x0A, .enum8, .rt, .num 0, .iv 1 1⟩,
  ⟨0x0B, 0x0B, .bool, .wo, .num 0, .iv 1 1⟩,
  ⟨0x0C, 0x0C, .bool, .rs, .num 0, .iv 0 1⟩]⟩

/-- 2440–2448: Cage status. -/
def d2440 : Group := ⟨0x2440, 9, [
  ⟨0x00, 0x00, .u8, .ro, .num 13, .all⟩,
  ⟨0x01, 0x03, .enum8, .ro, .num 0, .all⟩,
  ⟨0x04, 0x04, .u32, .ro, .num 0, .all⟩,
  ⟨0x05, 0x08, .enum8, .ro, .num 0, .all⟩,
  ⟨0x09, 0x09, .bool, .ro, .num 0, .all⟩,
  ⟨0x0A, 0x0A, .u16, .ro, .num 12816, .all⟩,
  ⟨0x0B, 0x0B, .bits32, .ro, .num 0, .all⟩,
  ⟨0x0C, 0x0C, .u32, .ro, .num 0, .all⟩,
  ⟨0x0D, 0x0D, .dur, .ro, .num 0, .all⟩]⟩

/-- 2480–24A5: Lane status. -/
def d2480 : Group := ⟨0x2480, 38, [
  ⟨0x00, 0x00, .u8, .ro, .num 11, .all⟩,
  ⟨0x01, 0x01, .enum8, .ro, .num 0, .all⟩,
  ⟨0x02, 0x02, .u8, .ro, .num 0, .all⟩,
  ⟨0x03, 0x03, .u8, .ro, .num 255, .all⟩,
  ⟨0x04, 0x04, .bool, .ro, .num 0, .all⟩,
  ⟨0x05, 0x05, .enum8, .ro, .num 0, .all⟩,
  ⟨0x06, 0x06, .bool, .ro, .num 0, .all⟩,
  ⟨0x07, 0x08, .u64, .ro, .num 0, .all⟩,
  ⟨0x09, 0x0A, .u32, .ro, .num 0, .all⟩,
  ⟨0x0B, 0x0B, .u64, .ro, .num 0, .all⟩]⟩

/-- 2500–2525: Lane test. -/
def d2500 : Group := ⟨0x2500, 38, [
  ⟨0x00, 0x00, .u8, .ro, .num 9, .all⟩,
  ⟨0x01, 0x02, .enum8, .rs, .num 0, .iv 0 9⟩,
  ⟨0x03, 0x03, .bool, .wo, .num 0, .iv 1 1⟩,
  ⟨0x04, 0x04, .u8, .rw, .num 0, .ivs [(0, 0), (10, 40)]⟩,
  ⟨0x05, 0x06, .bool, .ro, .num 0, .all⟩,
  ⟨0x07, 0x09, .u64, .ro, .num 0, .all⟩]⟩

/-- 2580–25A5: Lane equalisation. -/
def d2580 : Group := ⟨0x2580, 38, [
  ⟨0x00, 0x00, .u8, .ro, .num 7, .all⟩,
  ⟨0x01, 0x05, .i16, .ro, .num 0, .all⟩,
  ⟨0x06, 0x06, .u8, .ro, .num 0, .all⟩,
  ⟨0x07, 0x07, .i16, .ro, .num 0, .all⟩]⟩

/-- 2600: Backplane. -/
def d2600 : Group := ⟨0x2600, 1, [
  ⟨0x00, 0x00, .u8, .ro, .num 3, .all⟩,
  ⟨0x01, 0x01, .bool, .rw, .num 0, .iv 0 1⟩,
  ⟨0x02, 0x03, .enum8, .ro, .num 0, .all⟩]⟩

/-- 2610: Service port. -/
def d2610 : Group := ⟨0x2610, 1, [
  ⟨0x00, 0x00, .u8, .ro, .num 4, .all⟩,
  ⟨0x01, 0x01, .bool, .rw, .num 1, .iv 0 1⟩,
  ⟨0x02, 0x02, .enum8, .ro, .num 0, .all⟩,
  ⟨0x03, 0x04, .u64, .ro, .num 0, .all⟩]⟩

/-- 2700: Reset statistics. -/
def d2700 : Group := ⟨0x2700, 1, [
  ⟨0x00, 0x00, .u8, .wo, .num 0, .ivs [(0, 37), (255, 255)]⟩]⟩

/-- 2800–283F: Sett core. -/
def d2800 : Group := ⟨0x2800, 64, [
  ⟨0x00, 0x00, .u8, .ro, .num 10, .all⟩,
  ⟨0x01, 0x02, .enum8, .ro, .num 0, .all⟩,
  ⟨0x03, 0x04, .u8, .ro, .num 0, .all⟩,
  ⟨0x05, 0x06, .u32, .ro, .num 0, .all⟩,
  ⟨0x07, 0x07, .enum8, .ro, .num 0, .all⟩,
  ⟨0x08, 0x08, .time, .ro, .num 0, .all⟩,
  ⟨0x09, 0x09, .u64, .ro, .num 0, .all⟩,
  ⟨0x0A, 0x0A, .u8, .ro, .num 0, .all⟩]⟩

/-- 2880–288C: Service class. -/
def d2880 : Group := ⟨0x2880, 13, [
  ⟨0x00, 0x00, .u8, .ro, .num 7, .all⟩,
  ⟨0x01, 0x03, .u8, .ro, .num 0, .all⟩,
  ⟨0x04, 0x04, .u32, .ro, .num 0, .all⟩,
  ⟨0x05, 0x05, .time, .ro, .num 0, .all⟩,
  ⟨0x06, 0x07, .bits32, .ro, .num 0, .all⟩]⟩

/-- 2900: Sett summary. -/
def d2900 : Group := ⟨0x2900, 1, [
  ⟨0x00, 0x00, .u8, .ro, .num 4, .all⟩,
  ⟨0x01, 0x01, .u8, .ro, .num 8, .all⟩,
  ⟨0x02, 0x02, .u32, .ro, .num 0, .all⟩,
  ⟨0x03, 0x03, .u8, .ro, .num 0, .all⟩,
  ⟨0x04, 0x04, .u8, .ro, .num 255, .all⟩]⟩

/-- 2910: Reset statistics. -/
def d2910 : Group := ⟨0x2910, 1, [
  ⟨0x00, 0x00, .u8, .wo, .num 0, .ivs [(0, 63), (255, 255)]⟩]⟩

/-- 3000: Fabric status. -/
def d3000 : Group := ⟨0x3000, 1, [
  ⟨0x00, 0x00, .u8, .ro, .num 6, .all⟩,
  ⟨0x01, 0x01, .u16, .ro, .num 0, .all⟩,
  ⟨0x02, 0x02, .u32, .ro, .num 0, .all⟩,
  ⟨0x03, 0x03, .u32, .ro, .num 262144, .all⟩,
  ⟨0x04, 0x06, .u64, .ro, .num 0, .all⟩]⟩

/-- 3001: DSCP colour map. -/
def d3001 : Group := ⟨0x3001, 1, [
  ⟨0x00, 0x00, .u8, .ro, .num 4, .all⟩,
  ⟨0x01, 0x04, .bits32, .rw, .num 0, .all⟩]⟩

/-- 3002: IGMP and MLD. -/
def d3002 : Group := ⟨0x3002, 1, [
  ⟨0x00, 0x00, .u8, .ro, .num 6, .all⟩,
  ⟨0x01, 0x01, .bits32, .rw, .num 0, .all⟩,
  ⟨0x02, 0x02, .u8, .rw, .num 2, .iv 2 7⟩,
  ⟨0x03, 0x03, .u16, .rw, .num 125, .iv 10 3600⟩,
  ⟨0x04, 0x04, .u16, .rw, .num 10000, .iv 1000 25000⟩,
  ⟨0x05, 0x05, .u16, .rw, .num 1000, .iv 100 25000⟩,
  ⟨0x06, 0x06, .u32, .rw, .num 0, .all⟩]⟩

/-- 3003: Membership status. -/
def d3003 : Group := ⟨0x3003, 1, [
  ⟨0x00, 0x00, .u8, .ro, .num 5, .all⟩,
  ⟨0x01, 0x01, .u32, .ro, .num 0, .all⟩,
  ⟨0x02, 0x03, .u64, .ro, .num 0, .all⟩,
  ⟨0x04, 0x04, .bits32, .ro, .num 0, .all⟩,
  ⟨0x05, 0x05, .u64, .ro, .num 0, .all⟩]⟩

/-- 3010: Flow entry window. -/
def d3010 : Group := ⟨0x3010, 1, [
  ⟨0x00, 0x00, .u8, .ro, .num 26, .all⟩,
  ⟨0x01, 0x01, .u16, .rw, .num 0, .iv 0 32767⟩,
  ⟨0x02, 0x02, .bool, .rw, .num 0, .iv 0 1⟩,
  ⟨0x03, 0x03, .enum8, .rw, .num 0, .iv 0 1⟩,
  ⟨0x04, 0x04, .blob, .rw, .bytes [], .lens [(4, 4), (16, 16)]⟩,
  ⟨0x05, 0x05, .u16, .rw, .num 0, .iv 0 65535⟩,
  ⟨0x06, 0x06, .blob, .rw, .bytes [], .lens [(0, 0), (4, 4), (16, 16)]⟩,
  ⟨0x07, 0x07, .u16, .rw, .num 65535, .ivs [(0, 4094), (65535, 65535)]⟩,
  ⟨0x08, 0x08, .bits32, .rw, .num 4294967295, .all⟩,
  ⟨0x09, 0x09, .enum8, .rw, .num 1, .ivs [(1, 1), (3, 7)]⟩,
  ⟨0x0A, 0x0A, .u16, .rw, .num 65535, .ivs [(0, 4094), (65534, 65535)]⟩,
  ⟨0x0B, 0x0B, .enum8, .rw, .num 0, .iv 0 4⟩,
  ⟨0x0C, 0x0C, .u32, .rw, .num 0, .iv 0 400000000⟩,
  ⟨0x0D, 0x0D, .u32, .rw, .num 65536, .iv 9216 16777216⟩,
  ⟨0x0E, 0x0E, .u32, .rw, .num 0, .iv 0 400000000⟩,
  ⟨0x0F, 0x0F, .u32, .rw, .num 65536, .iv 9216 16777216⟩,
  ⟨0x10, 0x10, .u8, .rw, .num 20, .iv 0 63⟩,
  ⟨0x11, 0x11, .enum8, .rw, .num 0, .iv 0 1⟩,
  ⟨0x12, 0x13, .bits32, .rw, .num 0, .all⟩,
  ⟨0x14, 0x14, .bits32, .ro, .num 0, .all⟩,
  ⟨0x15, 0x15, .u8, .ro, .num 0, .all⟩,
  ⟨0x16, 0x1A, .u64, .ro, .num 0, .all⟩]⟩

/-- 3100–34FF: Leg masks. -/
def d3100 : Group := ⟨0x3100, 1024, [
  ⟨0x00, 0x00, .u8, .ro, .num 32, .all⟩,
  ⟨0x01, 0x20, .bits32, .rt, .num 0, .all⟩]⟩

/-- 3600: Reset statistics. -/
def d3600 : Group := ⟨0x3600, 1, [
  ⟨0x00, 0x00, .u16, .wo, .num 0, .ivs [(0, 32767), (65535, 65535)]⟩]⟩

/-- 3800–381F: Queue configuration. -/
def d3800 : Group := ⟨0x3800, 32, [
  ⟨0x00, 0x00, .u8, .ro, .num 22, .all⟩,
  ⟨0x01, 0x01, .u8, .rw, .num 8, .iv 1 64⟩,
  ⟨0x02, 0x02, .u8, .rw, .num 4, .iv 1 64⟩,
  ⟨0x03, 0x03, .u8, .rw, .num 2, .iv 1 64⟩,
  ⟨0x04, 0x05, .u8, .rw, .num 1, .iv 1 64⟩,
  ⟨0x06, 0x0A, .u32, .rw, .num 0, .iv 0 400000⟩,
  ⟨0x0B, 0x0F, .u32, .rw, .num 2097152, .iv 65536 16777216⟩,
  ⟨0x10, 0x14, .u32, .rw, .num 1048576, .iv 0 16777216⟩,
  ⟨0x15, 0x15, .dur, .rw, .num 1000, .iv 100 1000000⟩,
  ⟨0x16, 0x16, .dur, .rw, .num 50000, .iv 100 1000000⟩]⟩

/-- 3840–385F: Port statistics. -/
def d3840 : Group := ⟨0x3840, 32, [
  ⟨0x00, 0x00, .u8, .ro, .num 20, .all⟩,
  ⟨0x01, 0x14, .u64, .ro, .num 0, .all⟩]⟩

/-- 3880–389F: Sample window. -/
def d3880 : Group := ⟨0x3880, 32, [
  ⟨0x00, 0x00, .blob, .ro, .bytes [], .all⟩]⟩

/-- 3900–391F: Port capacity. -/
def d3900 : Group := ⟨0x3900, 32, [
  ⟨0x00, 0x00, .u8, .ro, .num 5, .all⟩,
  ⟨0x01, 0x04, .u32, .ro, .num 0, .all⟩,
  ⟨0x05, 0x05, .enum8, .ro, .num 0, .all⟩]⟩

/-- 3A00: Sampling. -/
def d3A00 : Group := ⟨0x3A00, 1, [
  ⟨0x00, 0x00, .u8, .ro, .num 2, .all⟩,
  ⟨0x01, 0x01, .dur, .rw, .num 10000, .iv 1000 1000000⟩,
  ⟨0x02, 0x02, .u32, .rw, .num 1000, .iv 100 60000⟩]⟩

/-- 3A10: Reset statistics. -/
def d3A10 : Group := ⟨0x3A10, 1, [
  ⟨0x00, 0x00, .u8, .wo, .num 0, .ivs [(0, 31), (255, 255)]⟩]⟩

/-- 4000–401F: Configuration. -/
def d4000 : Group := ⟨0x4000, 32, [
  ⟨0x00, 0x00, .u8, .ro, .num 19, .all⟩,
  ⟨0x01, 0x02, .enum8, .rs, .num 0, .iv 0 2⟩,
  ⟨0x03, 0x03, .enum8, .rs, .num 1, .iv 0 3⟩,
  ⟨0x04, 0x04, .enum8, .rs, .num 0, .iv 0 2⟩,
  ⟨0x05, 0x06, .enum8, .rs, .num 0, .iv 0 1⟩,
  ⟨0x07, 0x07, .u8, .rs, .num 96, .iv 96 127⟩,
  ⟨0x08, 0x09, .u16, .rs, .num 65535, .ivs [(0, 32767), (65535, 65535)]⟩,
  ⟨0x0A, 0x0A, .dur, .rs, .num 0, .iv 0 20000000⟩,
  ⟨0x0B, 0x0B, .dur, .rs, .num 50000, .iv 0 2000000⟩,
  ⟨0x0C, 0x0C, .dur, .rs, .num 1000000, .iv 100000 10000000⟩,
  ⟨0x0D, 0x0D, .dur, .rs, .num 2000000, .iv 500000 100000000⟩,
  ⟨0x0E, 0x0E, .enum8, .rt, .num 0, .iv 0 2⟩,
  ⟨0x0F, 0x0F, .u8, .rt, .num 0, .iv 0 15⟩,
  ⟨0x10, 0x10, .u32, .rt, .num 0, .all⟩,
  ⟨0x11, 0x11, .u8, .rs, .num 2, .iv 1 34⟩,
  ⟨0x12, 0x12, .u8, .rs, .num 2, .iv 1 16⟩,
  ⟨0x13, 0x13, .enum8, .rs, .num 0, .iv 0 1⟩]⟩

/-- 4040–405F: Audio bindings. -/
def d4040 : Group := ⟨0x4040, 32, [
  ⟨0x00, 0x00, .u8, .ro, .num 26, .all⟩,
  ⟨0x01, 0x02, .u16, .rs, .num 65535, .ivs [(0, 32767), (65535, 65535)]⟩,
  ⟨0x03, 0x03, .u8, .rs, .num 97, .iv 96 127⟩,
  ⟨0x04, 0x04, .u8, .rs, .num 2, .iv 1 16⟩,
  ⟨0x05, 0x05, .enum8, .rs, .num 1, .iv 0 1⟩,
  ⟨0x06, 0x06, .enum8, .rs, .num 0, .iv 0 1⟩,
  ⟨0x07, 0x08, .u16, .rs, .num 65535, .ivs [(0, 32767), (65535, 65535)]⟩,
  ⟨0x09, 0x09, .u8, .rs, .num 97, .iv 96 127⟩,
  ⟨0x0A, 0x0A, .u8, .rs, .num 2, .iv 1 16⟩,
  ⟨0x0B, 0x0B, .enum8, .rs, .num 1, .iv 0 1⟩,
  ⟨0x0C, 0x0C, .enum8, .rs, .num 0, .iv 0 1⟩,
  ⟨0x0D, 0x0E, .u16, .rs, .num 65535, .ivs [(0, 32767), (65535, 65535)]⟩,
  ⟨0x0F, 0x0F, .u8, .rs, .num 97, .iv 96 127⟩,
  ⟨0x10, 0x10, .u8, .rs, .num 2, .iv 1 16⟩,
  ⟨0x11, 0x11, .enum8, .rs, .num 1, .iv 0 1⟩,
  ⟨0x12, 0x12, .enum8, .rs, .num 0, .iv 0 1⟩,
  ⟨0x13, 0x14, .u16, .rs, .num 65535, .ivs [(0, 32767), (65535, 65535)]⟩,
  ⟨0x15, 0x15, .u8, .rs, .num 97, .iv 96 127⟩,
  ⟨0x16, 0x16, .u8, .rs, .num 2, .iv 1 16⟩,
  ⟨0x17, 0x17, .enum8, .rs, .num 1, .iv 0 1⟩,
  ⟨0x18, 0x18, .enum8, .rs, .num 0, .iv 0 1⟩,
  ⟨0x19, 0x19, .dur, .rs, .num 250000, .iv 0 2000000⟩,
  ⟨0x1A, 0x1A, .dur, .rs, .num 10000000, .iv 1000000 1000000000⟩]⟩

/-- 4080–409F: Ancillary bindings. -/
def d4080 : Group := ⟨0x4080, 32, [
  ⟨0x00, 0x00, .u8, .ro, .num 6, .all⟩,
  ⟨0x01, 0x02, .u16, .rs, .num 65535, .ivs [(0, 32767), (65535, 65535)]⟩,
  ⟨0x03, 0x03, .u8, .rs, .num 100, .iv 96 127⟩,
  ⟨0x04, 0x05, .u16, .rs, .num 65535, .ivs [(0, 32767), (65535, 65535)]⟩,
  ⟨0x06, 0x06, .u8, .rs, .num 100, .iv 96 127⟩]⟩

/-- 4100–411F: Status. -/
def d4100 : Group := ⟨0x4100, 32, [
  ⟨0x00, 0x00, .u8, .ro, .num 12, .all⟩,
  ⟨0x01, 0x01, .enum8, .ro, .num 0, .all⟩,
  ⟨0x02, 0x02, .enum8, .ro, .num 1, .all⟩,
  ⟨0x03, 0x03, .enum8, .ro, .num 2, .all⟩,
  ⟨0x04, 0x04, .u8, .ro, .num 1, .all⟩,
  ⟨0x05, 0x06, .enum8, .ro, .num 0, .all⟩,
  ⟨0x07, 0x0B, .dur, .ro, .num 0, .all⟩,
  ⟨0x0C, 0x0C, .u32, .ro, .num 0, .all⟩]⟩

/-- 4140–415F: Statistics. -/
def d4140 : Group := ⟨0x4140, 32, [
  ⟨0x00, 0x00, .u8, .ro, .num 22, .all⟩,
  ⟨0x01, 0x16, .u64, .ro, .num 0, .all⟩]⟩

/-- 4200: Ingest load. -/
def d4200 : Group := ⟨0x4200, 1, [
  ⟨0x00, 0x00, .u8, .ro, .num 3, .all⟩,
  ⟨0x01, 0x01, .u32, .ro, .num 0, .all⟩,
  ⟨0x02, 0x02, .u32, .ro, .num 1600000, .all⟩,
  ⟨0x03, 0x03, .u64, .ro, .num 0, .all⟩]⟩

/-- 4201: Reset statistics. -/
def d4201 : Group := ⟨0x4201, 1, [
  ⟨0x00, 0x00, .bits32, .wo, .num 0, .all⟩]⟩

/-- 4210–421F: Slate 0. -/
def d4210 : Group := ⟨0x4210, 16, [
  ⟨0x00, 0x00, .u8, .ro, .num 6, .all⟩,
  ⟨0x01, 0x01, .enum8, .ro, .num 0, .all⟩,
  ⟨0x02, 0x02, .enum8, .rw, .num 2, .iv 0 3⟩,
  ⟨0x03, 0x03, .enum8, .rw, .num 0, .iv 0 2⟩,
  ⟨0x04, 0x05, .u32, .ro, .num 0, .all⟩,
  ⟨0x06, 0x06, .blob, .wo, .bytes [], .all⟩]⟩

/-- 4800–481F: Colour transform. -/
def d4800 : Group := ⟨0x4800, 32, [
  ⟨0x00, 0x00, .u8, .ro, .num 9, .all⟩,
  ⟨0x01, 0x04, .enum8, .rs, .num 0, .iv 0 2⟩,
  ⟨0x05, 0x05, .enum8, .rs, .num 0, .iv 0 7⟩,
  ⟨0x06, 0x07, .u32, .ro, .num 0, .all⟩,
  ⟨0x08, 0x09, .blob, .rs, .bytes [], .lens [(0, 0), (6144, 6144)]⟩]⟩

/-- 4840–485F: Matrix. -/
def d4840 : Group := ⟨0x4840, 32, [
  ⟨0x00, 0x00, .u8, .ro, .num 12, .all⟩,
  ⟨0x01, 0x01, .i32, .rs, .num 65536, .iv (-524288) 524287⟩,
  ⟨0x02, 0x04, .i32, .rs, .num 0, .iv (-524288) 524287⟩,
  ⟨0x05, 0x05, .i32, .rs, .num 65536, .iv (-524288) 524287⟩,
  ⟨0x06, 0x08, .i32, .rs, .num 0, .iv (-524288) 524287⟩,
  ⟨0x09, 0x09, .i32, .rs, .num 65536, .iv (-524288) 524287⟩,
  ⟨0x0A, 0x0C, .i32, .rs, .num 0, .iv (-65536) 65535⟩]⟩

/-- 48C0–48DF: Ladder. -/
def d48C0 : Group := ⟨0x48C0, 32, [
  ⟨0x00, 0x00, .u8, .ro, .num 20, .all⟩,
  ⟨0x01, 0x01, .enum8, .rs, .num 255, .ivs [(0, 3), (255, 255)]⟩,
  ⟨0x02, 0x02, .enum8, .rs, .num 0, .iv 0 1⟩,
  ⟨0x03, 0x03, .enum8, .rs, .num 2, .iv 0 3⟩,
  ⟨0x04, 0x04, .enum8, .rs, .num 0, .iv 0 2⟩,
  ⟨0x05, 0x05, .u8, .rs, .num 255, .ivs [(0, 15), (255, 255)]⟩,
  ⟨0x06, 0x06, .enum8, .rs, .num 255, .ivs [(0, 3), (255, 255)]⟩,
  ⟨0x07, 0x07, .enum8, .rs, .num 0, .iv 0 1⟩,
  ⟨0x08, 0x08, .enum8, .rs, .num 2, .iv 0 3⟩,
  ⟨0x09, 0x09, .enum8, .rs, .num 0, .iv 0 2⟩,
  ⟨0x0A, 0x0A, .u8, .rs, .num 255, .ivs [(0, 15), (255, 255)]⟩,
  ⟨0x0B, 0x0B, .enum8, .rs, .num 255, .ivs [(0, 3), (255, 255)]⟩,
  ⟨0x0C, 0x0C, .enum8, .rs, .num 0, .iv 0 1⟩,
  ⟨0x0D, 0x0D, .enum8, .rs, .num 2, .iv 0 3⟩,
  ⟨0x0E, 0x0E, .enum8, .rs, .num 0, .iv 0 2⟩,
  ⟨0x0F, 0x0F, .u8, .rs, .num 255, .ivs [(0, 15), (255, 255)]⟩,
  ⟨0x10, 0x10, .enum8, .rs, .num 255, .ivs [(0, 3), (255, 255)]⟩,
  ⟨0x11, 0x11, .enum8, .rs, .num 0, .iv 0 1⟩,
  ⟨0x12, 0x12, .enum8, .rs, .num 2, .iv 0 3⟩,
  ⟨0x13, 0x13, .enum8, .rs, .num 0, .iv 0 2⟩,
  ⟨0x14, 0x14, .u8, .rs, .num 255, .ivs [(0, 15), (255, 255)]⟩]⟩

/-- 4900–491F: Veneer commit. -/
def d4900 : Group := ⟨0x4900, 32, [
  ⟨0x00, 0x00, .u8, .ro, .num 7, .all⟩,
  ⟨0x01, 0x01, .enum8, .rt, .num 0, .iv 1 2⟩,
  ⟨0x02, 0x02, .u8, .rw, .num 4, .iv 0 255⟩,
  ⟨0x03, 0x06, .u64, .ro, .num 0, .all⟩,
  ⟨0x07, 0x07, .bits32, .ro, .num 0, .all⟩]⟩

/-- 4A00–4A7F: Layer shadow. -/
def d4A00 : Group := ⟨0x4A00, 128, [
  ⟨0x00, 0x00, .u8, .ro, .num 12, .all⟩,
  ⟨0x01, 0x01, .bool, .rw, .num 0, .iv 0 1⟩,
  ⟨0x02, 0x02, .enum8, .rw, .num 0, .iv 0 1⟩,
  ⟨0x03, 0x03, .u8, .rw, .num 0, .iv 0 255⟩,
  ⟨0x04, 0x04, .u16, .rw, .num 0, .mult 0 7678 2⟩,
  ⟨0x05, 0x05, .u16, .rw, .num 0, .iv 0 4319⟩,
  ⟨0x06, 0x06, .u16, .rw, .num 64, .iv 0 4095⟩,
  ⟨0x07, 0x08, .u16, .rw, .num 512, .iv 0 4095⟩,
  ⟨0x09, 0x09, .u16, .rw, .num 0, .iv 0 4095⟩,
  ⟨0x0A, 0x0A, .u16, .rw, .num 1, .iv 1 4096⟩,
  ⟨0x0B, 0x0B, .u16, .rw, .num 256, .iv 0 256⟩,
  ⟨0x0C, 0x0C, .enum8, .rw, .num 0, .iv 0 1⟩]⟩

/-- 4A80–4AFF: Layer active. -/
def d4A80 : Group := ⟨0x4A80, 128, [
  ⟨0x00, 0x00, .u8, .ro, .num 12, .all⟩,
  ⟨0x01, 0x01, .bool, .ro, .num 0, .all⟩,
  ⟨0x02, 0x02, .enum8, .ro, .num 0, .all⟩,
  ⟨0x03, 0x03, .u8, .ro, .num 0, .all⟩,
  ⟨0x04, 0x05, .u16, .ro, .num 0, .all⟩,
  ⟨0x06, 0x06, .u16, .ro, .num 64, .all⟩,
  ⟨0x07, 0x08, .u16, .ro, .num 512, .all⟩,
  ⟨0x09, 0x09, .u16, .ro, .num 0, .all⟩,
  ⟨0x0A, 0x0A, .u16, .ro, .num 1, .all⟩,
  ⟨0x0B, 0x0B, .u16, .ro, .num 256, .all⟩,
  ⟨0x0C, 0x0C, .enum8, .ro, .num 0, .all⟩]⟩

/-- 4B00–4B7F: Live layer binding. -/
def d4B00 : Group := ⟨0x4B00, 128, [
  ⟨0x00, 0x00, .u8, .ro, .num 6, .all⟩,
  ⟨0x01, 0x02, .u16, .rs, .num 65535, .ivs [(0, 32767), (65535, 65535)]⟩,
  ⟨0x03, 0x03, .u8, .rs, .num 98, .iv 96 127⟩,
  ⟨0x04, 0x05, .enum8, .rs, .num 0, .iv 0 1⟩,
  ⟨0x06, 0x06, .enum8, .ro, .num 1, .all⟩]⟩

/-- 4C00–4CFF: Still. -/
def d4C00 : Group := ⟨0x4C00, 256, [
  ⟨0x00, 0x00, .u8, .ro, .num 7, .all⟩,
  ⟨0x01, 0x01, .enum8, .ro, .num 0, .all⟩,
  ⟨0x02, 0x02, .u16, .rw, .num 1920, .mult 2 7680 2⟩,
  ⟨0x03, 0x03, .u16, .rw, .num 1080, .iv 2 4320⟩,
  ⟨0x04, 0x04, .enum8, .rw, .num 0, .iv 0 1⟩,
  ⟨0x05, 0x06, .u32, .ro, .num 0, .all⟩,
  ⟨0x07, 0x07, .blob, .wo, .bytes [], .all⟩]⟩

/-- 4D00–4D0F: Scaler unit. -/
def d4D00 : Group := ⟨0x4D00, 16, [
  ⟨0x00, 0x00, .u8, .ro, .num 4, .all⟩,
  ⟨0x01, 0x01, .u32, .ro, .num 0, .all⟩,
  ⟨0x02, 0x02, .u32, .ro, .num 1966080, .all⟩,
  ⟨0x03, 0x03, .u8, .ro, .num 0, .all⟩,
  ⟨0x04, 0x04, .u32, .ro, .num 0, .all⟩]⟩

/-- 4F00: Reset statistics. -/
def d4F00 : Group := ⟨0x4F00, 1, [
  ⟨0x00, 0x00, .bits32, .wo, .num 0, .all⟩]⟩

/-- 5000–507F: Rendition configuration. -/
def d5000 : Group := ⟨0x5000, 128, [
  ⟨0x00, 0x00, .u8, .ro, .num 11, .all⟩,
  ⟨0x01, 0x01, .bool, .rs, .num 0, .iv 0 1⟩,
  ⟨0x02, 0x02, .u8, .rs, .num 0, .iv 0 31⟩,
  ⟨0x03, 0x03, .enum8, .rs, .num 2, .iv 0 3⟩,
  ⟨0x04, 0x04, .enum8, .rs, .num 0, .iv 0 1⟩,
  ⟨0x05, 0x05, .enum8, .rs, .num 1, .iv 0 1⟩,
  ⟨0x06, 0x06, .enum8, .rs, .num 1, .iv 0 2⟩,
  ⟨0x07, 0x07, .u8, .rs, .num 0, .ivs [(0, 0), (90, 90), (93, 93), (120, 120), (123, 123), (150, 150), (153, 153), (156, 156), (180, 180), (183, 183), (186, 186), (48, 48), (51, 51), (64, 64), (67, 67), (80, 80), (83, 83), (86, 86), (96, 96), (99, 99), (102, 102)]⟩,
  ⟨0x08, 0x08, .enum8, .rs, .num 0, .iv 0 2⟩,
  ⟨0x09, 0x09, .u8, .rs, .num 2, .iv 1 2⟩,
  ⟨0x0A, 0x0A, .u16, .rs, .num 512, .mult 64 512 64⟩,
  ⟨0x0B, 0x0B, .u16, .rs, .num 256, .mult 32 256 32⟩]⟩

/-- 5080–50FF: Rendition status. -/
def d5080 : Group := ⟨0x5080, 128, [
  ⟨0x00, 0x00, .u8, .ro, .num 11, .all⟩,
  ⟨0x01, 0x01, .enum8, .ro, .num 0, .all⟩,
  ⟨0x02, 0x02, .u8, .ro, .num 255, .all⟩,
  ⟨0x03, 0x03, .u16, .ro, .num 0, .all⟩,
  ⟨0x04, 0x04, .enum8, .ro, .num 0, .all⟩,
  ⟨0x05, 0x05, .u8, .ro, .num 0, .all⟩,
  ⟨0x06, 0x06, .enum8, .ro, .num 0, .all⟩,
  ⟨0x07, 0x08, .u8, .ro, .num 0, .all⟩,
  ⟨0x09, 0x09, .bits32, .ro, .num 0, .all⟩,
  ⟨0x0A, 0x0A, .u32, .ro, .num 0, .all⟩,
  ⟨0x0B, 0x0B, .u8, .ro, .num 0, .all⟩]⟩

/-- 5100–517F: Rendition statistics. -/
def d5100 : Group := ⟨0x5100, 128, [
  ⟨0x00, 0x00, .u8, .ro, .num 7, .all⟩,
  ⟨0x01, 0x05, .u64, .ro, .num 0, .all⟩,
  ⟨0x06, 0x07, .dur, .ro, .num 0, .all⟩]⟩

/-- 5200–521F: Channel encode. -/
def d5200 : Group := ⟨0x5200, 32, [
  ⟨0x00, 0x00, .u8, .ro, .num 5, .all⟩,
  ⟨0x01, 0x01, .u8, .rs, .num 255, .ivs [(0, 7), (255, 255)]⟩,
  ⟨0x02, 0x02, .u8, .ro, .num 255, .all⟩,
  ⟨0x03, 0x03, .u16, .ro, .num 0, .all⟩,
  ⟨0x04, 0x05, .dur, .ro, .num 0, .all⟩]⟩

/-- 5240–5247: Pipeline status. -/
def d5240 : Group := ⟨0x5240, 8, [
  ⟨0x00, 0x00, .u8, .ro, .num 14, .all⟩,
  ⟨0x01, 0x01, .u16, .ro, .num 0, .all⟩,
  ⟨0x02, 0x0B, .u8, .ro, .num 0, .all⟩,
  ⟨0x0C, 0x0D, .u64, .ro, .num 0, .all⟩,
  ⟨0x0E, 0x0E, .dur, .ro, .num 0, .all⟩]⟩

/-- 5250: Admission. -/
def d5250 : Group := ⟨0x5250, 1, [
  ⟨0x00, 0x00, .u8, .ro, .num 6, .all⟩,
  ⟨0x01, 0x01, .u16, .ro, .num 0, .all⟩,
  ⟨0x02, 0x02, .u16, .ro, .num 2048, .all⟩,
  ⟨0x03, 0x04, .u8, .ro, .num 0, .all⟩,
  ⟨0x05, 0x06, .u16, .ro, .num 0, .all⟩]⟩

/-- 5251: Reset statistics. -/
def d5251 : Group := ⟨0x5251, 1, [
  ⟨0x00, 0x00, .u8, .wo, .num 0, .ivs [(0, 127), (255, 255)]⟩]⟩

/-- 5300–537F: Refresh configuration. -/
def d5300 : Group := ⟨0x5300, 128, [
  ⟨0x00, 0x00, .u8, .ro, .num 17, .all⟩,
  ⟨0x01, 0x01, .u8, .rs, .num 16, .iv 4 128⟩,
  ⟨0x02, 0x02, .u8, .rs, .num 0, .ivs [(0, 0), (4, 128)]⟩,
  ⟨0x03, 0x03, .bool, .rs, .num 1, .iv 0 1⟩,
  ⟨0x04, 0x04, .bool, .rs, .num 0, .iv 0 1⟩,
  ⟨0x05, 0x05, .u16, .rs, .num 8500, .iv 0 50000⟩,
  ⟨0x06, 0x06, .u16, .rs, .num 39850, .iv 0 50000⟩,
  ⟨0x07, 0x07, .u16, .rs, .num 6550, .iv 0 50000⟩,
  ⟨0x08, 0x08, .u16, .rs, .num 2300, .iv 0 50000⟩,
  ⟨0x09, 0x09, .u16, .rs, .num 35400, .iv 0 50000⟩,
  ⟨0x0A, 0x0A, .u16, .rs, .num 14600, .iv 0 50000⟩,
  ⟨0x0B, 0x0B, .u16, .rs, .num 15635, .iv 0 50000⟩,
  ⟨0x0C, 0x0C, .u16, .rs, .num 16450, .iv 0 50000⟩,
  ⟨0x0D, 0x0D, .u32, .rs, .num 10000000, .iv 50000 100000000⟩,
  ⟨0x0E, 0x0E, .u32, .rs, .num 50, .iv 1 50000⟩,
  ⟨0x0F, 0x0F, .u16, .rs, .num 1000, .iv 0 10000⟩,
  ⟨0x10, 0x10, .u16, .rs, .num 400, .iv 0 10000⟩,
  ⟨0x11, 0x11, .bool, .rs, .num 1, .iv 0 1⟩]⟩

/-- 5380–53FF: Refresh status. -/
def d5380 : Group := ⟨0x5380, 128, [
  ⟨0x00, 0x00, .u8, .ro, .num 10, .all⟩,
  ⟨0x01, 0x01, .i16, .ro, .num (-1), .all⟩,
  ⟨0x02, 0x02, .u8, .ro, .num 0, .all⟩,
  ⟨0x03, 0x03, .u16, .ro, .num 0, .all⟩,
  ⟨0x04, 0x06, .u64, .ro, .num 0, .all⟩,
  ⟨0x07, 0x07, .u32, .ro, .num 0, .all⟩,
  ⟨0x08, 0x08, .u64, .ro, .num 0, .all⟩,
  ⟨0x09, 0x09, .enum8, .ro, .num 0, .all⟩,
  ⟨0x0A, 0x0A, .bool, .wo, .num 0, .iv 1 1⟩]⟩

/-- 5400–547F: Rate control. -/
def d5400 : Group := ⟨0x5400, 128, [
  ⟨0x00, 0x00, .u8, .ro, .num 9, .all⟩,
  ⟨0x01, 0x01, .i16, .rt, .num 30, .iv (-24) 63⟩,
  ⟨0x02, 0x02, .i16, .rs, .num 12, .iv (-24) 63⟩,
  ⟨0x03, 0x03, .i16, .rs, .num 45, .iv (-24) 63⟩,
  ⟨0x04, 0x04, .u8, .rs, .num 3, .iv 0 6⟩,
  ⟨0x05, 0x05, .i16, .rs, .num (-2), .iv (-6) 0⟩,
  ⟨0x06, 0x06, .u32, .rs, .num 40000, .iv 100 3200000⟩,
  ⟨0x07, 0x07, .u32, .rs, .num 1000, .iv 10 6400000⟩,
  ⟨0x08, 0x08, .u8, .rs, .num 255, .ivs [(0, 31), (255, 255)]⟩,
  ⟨0x09, 0x09, .u8, .rt, .num 0, .iv 0 3⟩]⟩

/-- 5480–54FF: Rate-control status. -/
def d5480 : Group := ⟨0x5480, 128, [
  ⟨0x00, 0x00, .u8, .ro, .num 12, .all⟩,
  ⟨0x01, 0x01, .u8, .ro, .num 0, .all⟩,
  ⟨0x02, 0x02, .i32, .ro, .num 0, .all⟩,
  ⟨0x03, 0x04, .u64, .ro, .num 0, .all⟩,
  ⟨0x05, 0x05, .u32, .ro, .num 0, .all⟩,
  ⟨0x06, 0x08, .u64, .ro, .num 0, .all⟩,
  ⟨0x09, 0x09, .u32, .ro, .num 0, .all⟩,
  ⟨0x0A, 0x0A, .enum8, .ro, .num 0, .all⟩,
  ⟨0x0B, 0x0C, .u32, .ro, .num 0, .all⟩]⟩

/-- 5500–557F: Rate-control statistics. -/
def d5500 : Group := ⟨0x5500, 128, [
  ⟨0x00, 0x00, .u8, .ro, .num 12, .all⟩,
  ⟨0x01, 0x0C, .u64, .ro, .num 0, .all⟩]⟩

/-- 5600–561F: Bond group. -/
def d5600 : Group := ⟨0x5600, 32, [
  ⟨0x00, 0x00, .u8, .ro, .num 3, .all⟩,
  ⟨0x01, 0x01, .u32, .rt, .num 100000, .iv 1000 3200000⟩,
  ⟨0x02, 0x02, .u32, .rw, .num 2000, .iv 10 6400000⟩,
  ⟨0x03, 0x03, (.str 32), .rw, .bytes (pad 32 []), .all⟩]⟩

/-- 5640–565F: Group status. -/
def d5640 : Group := ⟨0x5640, 32, [
  ⟨0x00, 0x00, .u8, .ro, .num 10, .all⟩,
  ⟨0x01, 0x01, .u8, .ro, .num 0, .all⟩,
  ⟨0x02, 0x02, .enum8, .ro, .num 0, .all⟩,
  ⟨0x03, 0x0A, .u64, .ro, .num 0, .all⟩]⟩

/-- 5680: Reset statistics. -/
def d5680 : Group := ⟨0x5680, 1, [
  ⟨0x00, 0x00, .u8, .wo, .num 0, .ivs [(0, 159), (255, 255)]⟩]⟩

/-- 5800–587F: Output configuration. -/
def d5800 : Group := ⟨0x5800, 128, [
  ⟨0x00, 0x00, .u8, .ro, .num 38, .all⟩,
  ⟨0x01, 0x01, .bool, .rs, .num 0, .iv 0 1⟩,
  ⟨0x02, 0x03, .enum8, .rs, .num 0, .iv 0 1⟩,
  ⟨0x04, 0x04, .u32, .rs, .num 0, .ipmc⟩,
  ⟨0x05, 0x05, .u16, .rs, .num 5004, .iv 1 65535⟩,
  ⟨0x06, 0x06, .u32, .rs, .num 0, .all⟩,
  ⟨0x07, 0x07, .u8, .rs, .num 0, .iv 0 31⟩,
  ⟨0x08, 0x08, .u32, .rs, .num 0, .ipmc⟩,
  ⟨0x09, 0x09, .u16, .rs, .num 5004, .iv 1 65535⟩,
  ⟨0x0A, 0x0A, .u32, .rs, .num 0, .all⟩,
  ⟨0x0B, 0x0B, .u8, .rs, .num 4, .iv 0 31⟩,
  ⟨0x0C, 0x0C, .u16, .rs, .num 5004, .iv 1 65535⟩,
  ⟨0x0D, 0x0D, .u8, .rs, .num 64, .iv 1 255⟩,
  ⟨0x0E, 0x0E, .u8, .rs, .num 34, .iv 0 63⟩,
  ⟨0x0F, 0x0F, .u16, .rs, .num 65535, .ivs [(0, 4094), (65535, 65535)]⟩,
  ⟨0x10, 0x10, .u32, .rs, .num 1342177280, .all⟩,
  ⟨0x11, 0x11, .u8, .rs, .num 96, .iv 96 127⟩,
  ⟨0x12, 0x12, .u8, .rs, .num 7, .iv 1 7⟩,
  ⟨0x13, 0x13, .u16, .rs, .num 1400, .iv 576 8960⟩,
  ⟨0x14, 0x14, .u16, .rs, .num 1, .iv 1 65535⟩,
  ⟨0x15, 0x15, .u16, .rs, .num 1, .iv 0 65535⟩,
  ⟨0x16, 0x16, .u16, .rs, .num 256, .iv 16 8190⟩,
  ⟨0x17, 0x17, .u16, .rs, .num 257, .iv 16 8190⟩,
  ⟨0x18, 0x18, .u16, .rs, .num 272, .iv 16 8190⟩,
  ⟨0x19, 0x19, .u16, .rs, .num 288, .iv 16 8190⟩,
  ⟨0x1A, 0x1A, .u8, .rs, .num 1, .iv 0 8⟩,
  ⟨0x1B, 0x1B, .u8, .rs, .num 2, .all⟩,
  ⟨0x1C, 0x22, .u8, .rs, .num 0, .all⟩,
  ⟨0x23, 0x23, .enum8, .rs, .num 2, .iv 0 2⟩,
  ⟨0x24, 0x24, .bool, .rs, .num 1, .iv 0 1⟩,
  ⟨0x25, 0x25, .dur, .rs, .num 1000000, .iv 0 100000000⟩,
  ⟨0x26, 0x26, (.str 64), .rs, .bytes (pad 64 [70, 78, 45, 54, 52, 52, 56, 32, 114, 101, 110, 100, 105, 116, 105, 111, 110, 32, 48]), .all⟩]⟩

/-- 5880–58FF: Output status. -/
def d5880 : Group := ⟨0x5880, 128, [
  ⟨0x00, 0x00, .u8, .ro, .num 12, .all⟩,
  ⟨0x01, 0x01, .enum8, .ro, .num 0, .all⟩,
  ⟨0x02, 0x04, .u32, .ro, .num 0, .all⟩,
  ⟨0x05, 0x05, .u64, .ro, .num 0, .all⟩,
  ⟨0x06, 0x06, .dur, .ro, .num 0, .all⟩,
  ⟨0x07, 0x08, .u8, .ro, .num 0, .all⟩,
  ⟨0x09, 0x0A, .u32, .ro, .num 0, .all⟩,
  ⟨0x0B, 0x0B, .u64, .ro, .num 0, .all⟩,
  ⟨0x0C, 0x0C, .dur, .ro, .num 0, .all⟩]⟩

/-- 5900–597F: SDP. -/
def d5900 : Group := ⟨0x5900, 128, [
  ⟨0x00, 0x00, .blob, .ro, .bytes [], .all⟩]⟩

/-- 5980–59FF: Output statistics. -/
def d5980 : Group := ⟨0x5980, 128, [
  ⟨0x00, 0x00, .u8, .ro, .num 9, .all⟩,
  ⟨0x01, 0x09, .u64, .ro, .num 0, .all⟩]⟩

/-- 5A00: Launch settings. -/
def d5A00 : Group := ⟨0x5A00, 1, [
  ⟨0x00, 0x00, .u8, .ro, .num 1, .all⟩,
  ⟨0x01, 0x01, .dur, .rs, .num 500000, .iv 300000 4000000⟩]⟩

/-- 5A01: Launch queue status. -/
def d5A01 : Group := ⟨0x5A01, 1, [
  ⟨0x00, 0x00, .u8, .ro, .num 4, .all⟩,
  ⟨0x01, 0x01, .u32, .ro, .num 0, .all⟩,
  ⟨0x02, 0x02, .u32, .ro, .num 1048576, .all⟩,
  ⟨0x03, 0x03, .u32, .ro, .num 0, .all⟩,
  ⟨0x04, 0x04, .u64, .ro, .num 0, .all⟩]⟩

/-- 5A10: Reset statistics. -/
def d5A10 : Group := ⟨0x5A10, 1, [
  ⟨0x00, 0x00, .u8, .wo, .num 0, .ivs [(0, 127), (255, 255)]⟩]⟩

/-- 5C00–5C01: Decode configuration. -/
def d5C00 : Group := ⟨0x5C00, 2, [
  ⟨0x00, 0x00, .u8, .ro, .num 13, .all⟩,
  ⟨0x01, 0x01, .enum8, .rs, .num 0, .iv 0 2⟩,
  ⟨0x02, 0x03, .u16, .rs, .num 65535, .ivs [(0, 32767), (65535, 65535)]⟩,
  ⟨0x04, 0x04, .u8, .rs, .num 0, .iv 0 127⟩,
  ⟨0x05, 0x05, .u16, .rs, .num 0, .iv 0 65535⟩,
  ⟨0x06, 0x06, .enum8, .rs, .num 2, .iv 0 3⟩,
  ⟨0x07, 0x07, .enum8, .rs, .num 0, .iv 0 2⟩,
  ⟨0x08, 0x08, .enum8, .rs, .num 0, .iv 0 1⟩,
  ⟨0x09, 0x09, .dur, .rs, .num 20000000, .iv 0 1000000000⟩,
  ⟨0x0A, 0x0A, .dur, .rs, .num 1000000, .iv 100000 10000000⟩,
  ⟨0x0B, 0x0B, .dur, .rs, .num 100000000, .iv 10000000 10000000000⟩,
  ⟨0x0C, 0x0C, .u8, .rs, .num 33, .ivs [(33, 33), (96, 127)]⟩,
  ⟨0x0D, 0x0D, .bool, .rs, .num 1, .iv 0 1⟩]⟩

/-- 5C40–5C41: Decode output. -/
def d5C40 : Group := ⟨0x5C40, 2, [
  ⟨0x00, 0x00, .u8, .ro, .num 15, .all⟩,
  ⟨0x01, 0x01, .bool, .rs, .num 0, .iv 0 1⟩,
  ⟨0x02, 0x04, .enum8, .rs, .num 0, .iv 0 1⟩,
  ⟨0x05, 0x05, .u32, .rs, .num 0, .ipmc⟩,
  ⟨0x06, 0x06, .u16, .rs, .num 5004, .iv 1 65535⟩,
  ⟨0x07, 0x07, .u32, .rs, .num 0, .all⟩,
  ⟨0x08, 0x08, .u8, .rs, .num 0, .iv 0 31⟩,
  ⟨0x09, 0x09, .u32, .rs, .num 0, .ipmc⟩,
  ⟨0x0A, 0x0A, .u16, .rs, .num 5004, .iv 1 65535⟩,
  ⟨0x0B, 0x0B, .u32, .rs, .num 0, .all⟩,
  ⟨0x0C, 0x0C, .u8, .rs, .num 4, .iv 0 31⟩,
  ⟨0x0D, 0x0D, .u8, .rs, .num 96, .iv 96 127⟩,
  ⟨0x0E, 0x0E, .enum8, .rs, .num 1, .iv 0 2⟩,
  ⟨0x0F, 0x0F, .u32, .rs, .num 1543503872, .all⟩]⟩

/-- 5C80–5C81: Decode status. -/
def d5C80 : Group := ⟨0x5C80, 2, [
  ⟨0x00, 0x00, .u8, .ro, .num 11, .all⟩,
  ⟨0x01, 0x02, .enum8, .ro, .num 0, .all⟩,
  ⟨0x03, 0x03, .bool, .ro, .num 0, .all⟩,
  ⟨0x04, 0x04, .enum8, .ro, .num 0, .all⟩,
  ⟨0x05, 0x05, .u8, .ro, .num 0, .all⟩,
  ⟨0x06, 0x06, .enum8, .ro, .num 0, .all⟩,
  ⟨0x07, 0x07, .u8, .ro, .num 0, .all⟩,
  ⟨0x08, 0x08, .u64, .ro, .num 0, .all⟩,
  ⟨0x09, 0x0A, .dur, .ro, .num 0, .all⟩,
  ⟨0x0B, 0x0B, .u16, .ro, .num 0, .all⟩]⟩

/-- 5CC0–5CC1: Decode statistics. -/
def d5CC0 : Group := ⟨0x5CC0, 2, [
  ⟨0x00, 0x00, .u8, .ro, .num 12, .all⟩,
  ⟨0x01, 0x0C, .u64, .ro, .num 0, .all⟩]⟩

/-- 5D00–5D01: SDP. -/
def d5D00 : Group := ⟨0x5D00, 2, [
  ⟨0x00, 0x00, .blob, .ro, .bytes [], .all⟩]⟩

/-- 5D10: Reset statistics. -/
def d5D10 : Group := ⟨0x5D10, 1, [
  ⟨0x00, 0x00, .u8, .wo, .num 0, .ivs [(0, 1), (255, 255)]⟩]⟩

/-- 6000: Replay configuration. -/
def d6000 : Group := ⟨0x6000, 1, [
  ⟨0x00, 0x00, .u8, .ro, .num 1, .all⟩,
  ⟨0x01, 0x01, .u16, .rs, .num 0, .iv 0 4096⟩]⟩

/-- 6001: Replay status. -/
def d6001 : Group := ⟨0x6001, 1, [
  ⟨0x00, 0x00, .u8, .ro, .num 3, .all⟩,
  ⟨0x01, 0x01, .enum8, .ro, .num 0, .all⟩,
  ⟨0x02, 0x03, .u64, .ro, .num 0, .all⟩]⟩

/-- 6080–60FF: Recording configuration. -/
def d6080 : Group := ⟨0x6080, 128, [
  ⟨0x00, 0x00, .u8, .ro, .num 3, .all⟩,
  ⟨0x01, 0x01, .bool, .rs, .num 0, .iv 0 1⟩,
  ⟨0x02, 0x02, .u32, .rs, .num 600, .iv 10 86400⟩,
  ⟨0x03, 0x03, .bool, .rt, .num 1, .iv 0 1⟩]⟩

/-- 6100–617F: Recording status. -/
def d6100 : Group := ⟨0x6100, 128, [
  ⟨0x00, 0x00, .u8, .ro, .num 8, .all⟩,
  ⟨0x01, 0x01, .u64, .ro, .num 0, .all⟩,
  ⟨0x02, 0x02, .u32, .ro, .num 0, .all⟩,
  ⟨0x03, 0x05, .time, .ro, .num 0, .all⟩,
  ⟨0x06, 0x06, .u64, .ro, .num 0, .all⟩,
  ⟨0x07, 0x07, .u32, .ro, .num 0, .all⟩,
  ⟨0x08, 0x08, .u64, .ro, .num 0, .all⟩]⟩

/-- 6200–620F: Read slot. -/
def d6200 : Group := ⟨0x6200, 16, [
  ⟨0x00, 0x00, .u8, .ro, .num 15, .all⟩,
  ⟨0x01, 0x01, .enum8, .rt, .num 0, .iv 0 2⟩,
  ⟨0x02, 0x02, .enum8, .rw, .num 0, .iv 0 1⟩,
  ⟨0x03, 0x03, .u8, .rw, .num 0, .iv 0 127⟩,
  ⟨0x04, 0x04, .enum8, .rw, .num 0, .iv 0 1⟩,
  ⟨0x05, 0x05, .time, .rw, .num 0, .all⟩,
  ⟨0x06, 0x06, .bool, .rw, .num 1, .iv 0 1⟩,
  ⟨0x07, 0x07, .u32, .rw, .num 0, .ipmc⟩,
  ⟨0x08, 0x08, .u16, .rw, .num 5004, .iv 1 65535⟩,
  ⟨0x09, 0x09, .u32, .rw, .num 0, .all⟩,
  ⟨0x0A, 0x0A, .u8, .rw, .num 0, .iv 0 31⟩,
  ⟨0x0B, 0x0B, .u32, .rw, .num 0, .ipmc⟩,
  ⟨0x0C, 0x0C, .u16, .rw, .num 5004, .iv 1 65535⟩,
  ⟨0x0D, 0x0D, .u32, .rw, .num 0, .all⟩,
  ⟨0x0E, 0x0E, .time, .rw, .num 0, .all⟩,
  ⟨0x0F, 0x0F, .u8, .rw, .num 4, .ivs [(0, 31), (255, 255)]⟩]⟩

/-- 6240–624F: Read slot status. -/
def d6240 : Group := ⟨0x6240, 16, [
  ⟨0x00, 0x00, .u8, .ro, .num 6, .all⟩,
  ⟨0x01, 0x01, .enum8, .ro, .num 0, .all⟩,
  ⟨0x02, 0x02, .time, .ro, .num 0, .all⟩,
  ⟨0x03, 0x05, .u64, .ro, .num 0, .all⟩,
  ⟨0x06, 0x06, .u16, .ro, .num 0, .all⟩]⟩

/-- 6280–628F: Export. -/
def d6280 : Group := ⟨0x6280, 16, [
  ⟨0x00, 0x00, .blob, .ro, .bytes [], .all⟩]⟩

/-- 6300: Reset statistics. -/
def d6300 : Group := ⟨0x6300, 1, [
  ⟨0x00, 0x00, .u8, .wo, .num 0, .ivs [(0, 127), (255, 255)]⟩]⟩

/-- 7000: Twin configuration. -/
def d7000 : Group := ⟨0x7000, 1, [
  ⟨0x00, 0x00, .u8, .ro, .num 13, .all⟩,
  ⟨0x01, 0x01, .u32, .rs, .num 0, .all⟩,
  ⟨0x02, 0x02, .u64, .rs, .num 0, .all⟩,
  ⟨0x03, 0x03, .dur, .rs, .num 400000, .iv 200000 2000000⟩,
  ⟨0x04, 0x04, .u8, .rs, .num 1, .ivs [(1, 1), (3, 3)]⟩,
  ⟨0x05, 0x07, .u32, .rs, .num 0, .all⟩,
  ⟨0x08, 0x08, .bits32, .rs, .num 1, .mask 7⟩,
  ⟨0x09, 0x09, .bool, .rs, .num 0, .iv 0 1⟩,
  ⟨0x0A, 0x0A, .dur, .rs, .num 1000000000, .iv 10000000 10000000000⟩,
  ⟨0x0B, 0x0B, .u32, .rs, .num 190000, .iv 10000 190000⟩,
  ⟨0x0C, 0x0C, .blob, .wo, .bytes [], .lens [(32, 32)]⟩,
  ⟨0x0D, 0x0D, .bool, .ro, .num 0, .all⟩]⟩

/-- 7010: Handover command. -/
def d7010 : Group := ⟨0x7010, 1, [
  ⟨0x00, 0x00, .enum8, .rt, .num 0, .iv 1 2⟩]⟩

/-- 7040: Twin status. -/
def d7040 : Group := ⟨0x7040, 1, [
  ⟨0x00, 0x00, .u8, .ro, .num 16, .all⟩,
  ⟨0x01, 0x01, .enum8, .ro, .num 0, .all⟩,
  ⟨0x02, 0x02, .bool, .ro, .num 0, .all⟩,
  ⟨0x03, 0x03, .u64, .ro, .num 0, .all⟩,
  ⟨0x04, 0x04, .enum8, .ro, .num 0, .all⟩,
  ⟨0x05, 0x05, .dur, .ro, .num 0, .all⟩,
  ⟨0x06, 0x06, .bits32, .ro, .num 0, .all⟩,
  ⟨0x07, 0x07, .enum8, .ro, .num 0, .all⟩,
  ⟨0x08, 0x08, .enum8, .ro, .num 255, .all⟩,
  ⟨0x09, 0x0A, .u8, .ro, .num 0, .all⟩,
  ⟨0x0B, 0x0C, .u32, .ro, .num 0, .all⟩,
  ⟨0x0D, 0x0D, .u64, .ro, .num 0, .all⟩,
  ⟨0x0E, 0x0E, .dur, .ro, .num 0, .all⟩,
  ⟨0x0F, 0x0F, .enum8, .ro, .num 0, .all⟩,
  ⟨0x10, 0x10, .u16, .ro, .num 0, .all⟩]⟩

/-- 7041: Unsynced renditions. -/
def d7041 : Group := ⟨0x7041, 1, [
  ⟨0x00, 0x00, .u8, .ro, .num 4, .all⟩,
  ⟨0x01, 0x04, .bits32, .ro, .num 0, .all⟩]⟩

/-- 7080: Twin statistics. -/
def d7080 : Group := ⟨0x7080, 1, [
  ⟨0x00, 0x00, .u8, .ro, .num 14, .all⟩,
  ⟨0x01, 0x06, .u64, .ro, .num 0, .all⟩,
  ⟨0x07, 0x09, .u32, .ro, .num 0, .all⟩,
  ⟨0x0A, 0x0C, .u64, .ro, .num 0, .all⟩,
  ⟨0x0D, 0x0E, .dur, .ro, .num 0, .all⟩]⟩

/-- 7081: Reset statistics. -/
def d7081 : Group := ⟨0x7081, 1, [
  ⟨0x00, 0x00, .bool, .wo, .num 0, .iv 1 1⟩]⟩

/-- 7100–713F: Witness pair slot. -/
def d7100 : Group := ⟨0x7100, 64, [
  ⟨0x00, 0x00, .u8, .ro, .num 10, .all⟩,
  ⟨0x01, 0x01, .bool, .rw, .num 0, .iv 0 1⟩,
  ⟨0x02, 0x02, .u32, .rw, .num 0, .iv 1 4294967295⟩,
  ⟨0x03, 0x04, .u64, .rw, .num 0, .all⟩,
  ⟨0x05, 0x05, .dur, .rw, .num 400000, .iv 200000 2000000⟩,
  ⟨0x06, 0x06, .blob, .wo, .bytes [], .lens [(32, 32)]⟩,
  ⟨0x07, 0x07, .enum8, .ro, .num 0, .all⟩,
  ⟨0x08, 0x08, .u64, .ro, .num 0, .all⟩,
  ⟨0x09, 0x09, .dur, .ro, .num 0, .all⟩,
  ⟨0x0A, 0x0A, .u64, .ro, .num 0, .all⟩]⟩

/-- 7140: Witness status. -/
def d7140 : Group := ⟨0x7140, 1, [
  ⟨0x00, 0x00, .u8, .ro, .num 3, .all⟩,
  ⟨0x01, 0x01, .u8, .ro, .num 0, .all⟩,
  ⟨0x02, 0x02, .dur, .ro, .num 10000000, .all⟩,
  ⟨0x03, 0x03, .u64, .ro, .num 0, .all⟩]⟩

/-- 7400: Event statistics. -/
def d7400 : Group := ⟨0x7400, 1, [
  ⟨0x00, 0x00, .u8, .ro, .num 9, .all⟩,
  ⟨0x01, 0x07, .u64, .ro, .num 0, .all⟩,
  ⟨0x08, 0x08, .u16, .ro, .num 0, .all⟩,
  ⟨0x09, 0x09, .enum8, .ro, .num 255, .all⟩]⟩

/-- 7410: Events per area. -/
def d7410 : Group := ⟨0x7410, 1, [
  ⟨0x00, 0x00, .u8, .ro, .num 17, .all⟩,
  ⟨0x01, 0x11, .u64, .ro, .num 0, .all⟩]⟩

/-- 7420: Reset statistics. -/
def d7420 : Group := ⟨0x7420, 1, [
  ⟨0x00, 0x00, .bool, .wo, .num 0, .iv 1 1⟩]⟩

/-- 7440–744F: Check channel. -/
def d7440 : Group := ⟨0x7440, 16, [
  ⟨0x00, 0x00, .u8, .ro, .num 10, .all⟩,
  ⟨0x01, 0x01, .enum8, .rw, .num 0, .iv 0 10⟩,
  ⟨0x02, 0x02, .u8, .rw, .num 0, .iv 0 127⟩,
  ⟨0x03, 0x03, .u8, .rw, .num 0, .iv 0 3⟩,
  ⟨0x04, 0x04, .enum8, .rw, .num 0, .iv 0 1⟩,
  ⟨0x05, 0x05, .enum8, .rw, .num 0, .iv 0 2⟩,
  ⟨0x06, 0x06, .u32, .rw, .num 4294967295, .all⟩,
  ⟨0x07, 0x07, .u32, .rt, .num 4294967295, .all⟩,
  ⟨0x08, 0x08, .u32, .rw, .num 0, .all⟩,
  ⟨0x09, 0x0A, .bool, .rw, .num 0, .iv 0 1⟩]⟩

/-- 7480–748F: Check status. -/
def d7480 : Group := ⟨0x7480, 16, [
  ⟨0x00, 0x00, .u8, .ro, .num 6, .all⟩,
  ⟨0x01, 0x01, .enum8, .ro, .num 0, .all⟩,
  ⟨0x02, 0x02, .u32, .ro, .num 0, .all⟩,
  ⟨0x03, 0x06, .u64, .ro, .num 0, .all⟩]⟩

/-- 7500: Diagnostics. -/
def d7500 : Group := ⟨0x7500, 1, [
  ⟨0x00, 0x00, .u8, .ro, .num 8, .all⟩,
  ⟨0x01, 0x01, .enum8, .rw, .num 0, .iv 0 5⟩,
  ⟨0x02, 0x02, .u8, .rw, .num 0, .iv 0 37⟩,
  ⟨0x03, 0x03, .bool, .wo, .num 0, .iv 1 1⟩,
  ⟨0x04, 0x05, .enum8, .ro, .num 0, .all⟩,
  ⟨0x06, 0x06, .u32, .ro, .num 0, .all⟩,
  ⟨0x07, 0x07, .time, .ro, .num 0, .all⟩,
  ⟨0x08, 0x08, .bool, .wo, .num 0, .iv 1 1⟩]⟩

/-- Part 0 of the map of the dictionary (Table 20.1, Table 21.1). -/
def dictPart0 : List Group := [d1000, d1010, d1020, d1021, d1030, d1040, d1100, d1110, d1120, d1121, d1160, d1180, d1181, d1200, d1210, d1400]

/-- Part 1 of the map of the dictionary (Table 20.1, Table 21.1). -/
def dictPart1 : List Group := [d1401, d1402, d1403, d1410, d1411, d1412, d1413, d1414, d1420, d1422, d1430, d1431, d1432, d1433, d1434, d1440]

/-- Part 2 of the map of the dictionary (Table 20.1, Table 21.1). -/
def dictPart2 : List Group := [d1450, d1451, d1800, d1810, d1820, d1830, d1840, d1850, d1C00, d1C01, d1C40, d1D00, d1D40, d1D80, d1E00, d2000]

/-- Part 3 of the map of the dictionary (Table 20.1, Table 21.1). -/
def dictPart3 : List Group := [d2010, d2011, d2012, d2020, d2040, d2080, d2081, d2100, d2140, d21C0, d2400, d2408, d2440, d2480, d2500, d2580, d2600]

/-- Part 4 of the map of the dictionary (Table 20.1, Table 21.1). -/
def dictPart4 : List Group := [d2610, d2700, d2800, d2880, d2900, d2910, d3000, d3001, d3002, d3003, d3010, d3100, d3600, d3800, d3840, d3880]

/-- Part 5 of the map of the dictionary (Table 20.1, Table 21.1). -/
def dictPart5 : List Group := [d3900, d3A00, d3A10, d4000, d4040, d4080, d4100, d4140, d4200, d4201, d4210, d4800, d4840, d48C0, d4900, d4A00]

/-- Part 6 of the map of the dictionary (Table 20.1, Table 21.1). -/
def dictPart6 : List Group := [d4A80, d4B00, d4C00, d4D00, d4F00, d5000, d5080, d5100, d5200, d5240, d5250, d5251, d5300, d5380, d5400, d5480]

/-- Part 7 of the map of the dictionary (Table 20.1, Table 21.1). -/
def dictPart7 : List Group := [d5500, d5600, d5640, d5680, d5800, d5880, d5900, d5980, d5A00, d5A01, d5A10, d5C00, d5C40, d5C80, d5CC0, d5D00]

/-- Part 8 of the map of the dictionary (Table 20.1, Table 21.1). -/
def dictPart8 : List Group := [d5D10, d6000, d6001, d6080, d6100, d6200, d6240, d6280, d6300, d7000, d7010, d7040, d7041, d7080, d7081, d7100]

/-- Part 9 of the map of the dictionary (Table 20.1, Table 21.1). -/
def dictPart9 : List Group := [d7140, d7400, d7410, d7420, d7440, d7480, d7500]

/-- The dictionary: every object of Table 20.1 and Table 21.1, in ascending index. -/
def dictionary : List Group :=
  dictPart0 ++ dictPart1 ++ dictPart2 ++ dictPart3 ++ dictPart4 ++ dictPart5 ++ dictPart6 ++ dictPart7 ++ dictPart8 ++ dictPart9

/-- The group and the instance number that an index names (R372, R383). -/
def findGroup (idx : Nat) : Option (Group × Nat) :=
  (dictionary.find? fun g => g.base ≤ idx && idx < g.base + g.count).map fun g => (g, idx - g.base)

/-- The row of the dictionary that an object names; none where no such object exists (R2). -/
def findField (idx sub : Nat) : Option Field :=
  match findGroup idx with
  | none => none
  | some (g, _) => g.fields.find? fun f => f.sub ≤ sub && sub ≤ f.last

/-- The services of Table 21.3: the class a core serves at boot. -/
def bootClass (core : Nat) : Nat :=
  if core % 8 < 2 then 1 else if core % 8 = 2 then 2 else if core % 8 = 3 then 3 else if core % 8 = 4 then 4
  else if core ≤ 7 then 5 else if core = 13 ∨ core = 14 then 6 else if core = 15 ∨ core = 21 then 7
  else if core = 22 ∨ core = 23 then 8 else if core = 29 then 9 else if core = 30 then 10
  else if core = 31 ∨ core = 37 then 11 else if core = 38 ∨ core = 39 ∨ core = 45 then 12 else 0

/-- The bit field of the cores of a class at boot, among `n` cores from `first` (Table 21.3). -/
def bootCores (cls first : Nat) : Nat → Nat
  | 0 => 0
  | n + 1 => bootCores cls first n + (if bootClass (first + n) = cls then 2 ^ n else 0)

/-- The instances of a class at boot (Table 21.3). -/
def bootInstances (cls : Nat) : Nat := ((List.range 64).filter fun c => bootClass c = cls).length

/-- The latency targets of Table 13.3, in ns. -/
def portTarget (p : Nat) : Nat :=
  if p = 0 then 4000 else if p = 1 then 8000 else if p = 2 then 2000 else if p = 3 then 4000
  else if p ≤ 11 then 2000 else if p = 12 then 4000 else if p = 13 then 1500 else if p = 14 then 16000
  else if p = 15 then 8000 else if p ≤ 17 then 3000 else if p = 18 then 6000 else if p = 19 then 2000
  else if p = 20 then 20000 else if p = 21 then 100000 else 1000000

/-- The decimal digits of a rendition number, as ASCII (the default of 5800:26). -/
def decimalAscii (r : Nat) : List Nat :=
  if r < 10 then [48 + r] else if r < 100 then [48 + r / 10, 48 + r % 10]
  else [48 + r / 100, 48 + r / 10 % 10, 48 + r % 10]

/-- The defaults that depend on the instance (1810, 5800, 5C40, 2040, 2800, 2880); none for the rest. -/
def instanceDefault (idx sub : Nat) : Option Val :=
  if 0x1811 ≤ idx ∧ idx ≤ 0x1815 then
    let k := idx - 0x1810
    if sub = 3 then some (.num (if k = 1 then 3200000 else if k ≤ 4 then 2656250 else 1105920))
    else if sub = 4 then some (.num (if k = 1 then 400000 else if k ≤ 4 then 1000000 else 10000))
    else none
  else if 0x5800 ≤ idx ∧ idx ≤ 0x587F then
    let r := idx - 0x5800
    if sub = 0x10 then some (.num (0x50000000 + r))
    else if sub = 0x14 then some (.num (r + 1))
    else if sub = 0x26 then
      some (.bytes (pad 64 ([70, 78, 45, 54, 52, 52, 56, 32, 114, 101, 110, 100, 105, 116, 105, 111, 110, 32] ++ decimalAscii r)))
    else none
  else if 0x5C40 ≤ idx ∧ idx ≤ 0x5C41 then
    if sub = 0x0F then some (.num (0x5C000000 + (idx - 0x5C40))) else none
  else if idx = 0x2040 then
    if 1 ≤ sub ∧ sub ≤ 0x18 then some (.num (portTarget (sub - 1))) else none
  else if 0x2800 ≤ idx ∧ idx ≤ 0x283F then
    let c := idx - 0x2800
    if sub = 1 then some (.num (if bootClass c = 0 then 1 else 0))
    else if sub = 2 then some (.num (bootClass c))
    else if sub = 3 then some (.num (c / 8))
    else if sub = 4 then some (.num (if c % 8 < 5 then c / 8 else 0xFF))
    else none
  else if 0x2880 ≤ idx ∧ idx ≤ 0x288C then
    let k := idx - 0x2880
    if sub = 1 then some (.num (bootInstances k))
    else if sub = 2 then some (.num (bootInstances k))
    else if sub = 6 then some (.num (bootCores k 0 32))
    else if sub = 7 then some (.num (bootCores k 32 32))
    else none
  else none

/-- What an object reads before anything is written to it: its dictionary default; 0 where the table has a dash
and for an object that does not exist. `fuse` is the fuse ID, on which the default management address rests
(Table 16.1). -/
def defaultVal (fuse idx sub : Nat) : Val :=
  if idx = 0x1100 ∧ sub = 1 then
    .num (169 * 2 ^ 24 + 254 * 2 ^ 16 + (1 + fuse % 254) * 256 + (1 + fuse / 256 % 254))
  else
    match instanceDefault idx sub with
    | some v => v
    | none =>
      match findField idx sub with
      | some f => f.dflt
      | none => .num 0

/-- Whether `lo ≤ n ≤ hi`. -/
def within (n lo hi : Nat) : Bool := lo ≤ n && n ≤ hi

/-- The function that owns an RS object (Table 20.2, Table 21.7); none where no function does. -/
def ownerOf (idx : Nat) : Option Nat :=
  if within idx 0x4000 0x401F then some (0x0100 + (idx - 0x4000))
  else if within idx 0x4040 0x405F then some (0x0100 + (idx - 0x4040))
  else if within idx 0x4080 0x409F then some (0x0100 + (idx - 0x4080))
  else if within idx 0x4800 0x481F then some (0x0100 + (idx - 0x4800))
  else if within idx 0x4840 0x485F then some (0x0100 + (idx - 0x4840))
  else if within idx 0x48C0 0x48DF then some (0x0100 + (idx - 0x48C0))
  else if within idx 0x4B00 0x4B7F then some (0x0100 + (idx - 0x4B00) / 4)
  else if within idx 0x5200 0x521F then some (0x0100 + (idx - 0x5200))
  else if within idx 0x5000 0x507F then some (0x0200 + (idx - 0x5000))
  else if within idx 0x5300 0x537F then some (0x0200 + (idx - 0x5300))
  else if within idx 0x5400 0x547F then some (0x0200 + (idx - 0x5400))
  else if within idx 0x5800 0x587F then some (0x0200 + (idx - 0x5800))
  else if within idx 0x5C00 0x5C01 then some (0x0300 + (idx - 0x5C00))
  else if within idx 0x5C40 0x5C41 then some (0x0300 + (idx - 0x5C40))
  else if idx = 0x6000 ∨ within idx 0x6080 0x60FF then some 0x0003
  else if within idx 0x1400 0x1414 then some 0x0001
  else if idx = 0x2010 ∨ idx = 0x2020 then some 0x0002
  else if within idx 0x2400 0x2407 then some (0x0010 + (idx - 0x2400))
  else if idx = 0x2408 then some 0x0004
  else if within idx 0x2500 0x251F then some (0x0010 + (idx - 0x2500) / 4)
  else if within idx 0x2520 0x2523 then some 0x0004
  else if idx = 0x7000 then some 0x0004
  else none

/-- Roles as numbers: Observer 0, Operator 1, Engineer 2, Service 3 (Table 16.5). -/
abbrev roleOperator : Nat := 1
abbrev roleEngineer : Nat := 2
abbrev roleService : Nat := 3

/-- The least role for writing an object (R307, R377, R391); an RO object, which none may write, has none. `v` is the value as a number where it has one:
1030:01 asks Service for a forced reset only. -/
def leastRole (acc : Acc) (idx sub : Nat) (v : Int) : Nat :=
  if acc = .ro ∨ (idx = 0x3010 ∧ sub = 1) then 0
  else if idx = 0x3600 ∨ idx = 0x3A10 ∨ idx = 0x4201 ∨ idx = 0x4F00 ∨ idx = 0x5251 ∨ idx = 0x5680 ∨ idx = 0x5A10
      ∨ idx = 0x5D10 ∨ idx = 0x6300 then roleOperator
  else if within idx 0x5380 0x53FF ∧ sub = 0x0A then roleOperator
  else if within idx 0x4210 0x421F ∧ (sub = 2 ∨ sub = 3 ∨ sub = 6) then roleOperator
  else if within idx 0x4A00 0x4A7F then roleOperator
  else if within idx 0x4C00 0x4CFF then roleOperator
  else if within idx 0x6200 0x620F then roleOperator
  else if idx = 0x1010 then roleOperator
  else if idx = 0x1830 ∨ idx = 0x1D80 ∨ idx = 0x21C0 ∨ idx = 0x2700 ∨ idx = 0x2910 ∨ idx = 0x7081 ∨ idx = 0x7420 then
    roleOperator
  else if idx = 0x1030 ∧ sub = 1 then (if v = 2 then roleService else roleEngineer)
  else if idx = 0x1020 ∨ idx = 0x1100 ∨ idx = 0x1110 then roleService
  else if idx = 0x1200 ∧ sub = 7 then roleService
  else if idx = 0x1210 then roleService
  else if idx = 0x7000 ∧ sub = 0x0C then roleService
  else if within idx 0x7100 0x713F ∧ sub = 6 then roleService
  else if acc = .rt then roleOperator
  else roleEngineer

/-- Persistence classes (R321). -/
inductive Persist | image | retained | volatile
  deriving DecidableEq, Repr

/-- The persistence class of an object (R321, R378, R392). -/
def persistOf (acc : Acc) (idx sub : Nat) : Persist :=
  if idx = 0x1020 ∨ idx = 0x1100 ∨ idx = 0x1110 ∨ (idx = 0x1180 ∧ sub = 1) ∨ (idx = 0x7000 ∧ sub = 0x0C)
      ∨ (within idx 0x7100 0x713F ∧ 1 ≤ sub ∧ sub ≤ 6) ∨ (idx = 0x1030 ∧ (sub = 2 ∨ sub = 3))
      ∨ (idx = 0x1200 ∧ (sub = 2 ∨ sub = 3 ∨ (5 ≤ sub ∧ sub ≤ 8))) ∨ (idx = 0x1210 ∧ sub = 4)
      ∨ within idx 0x1181 0x1188 ∨ (idx = 0x7000 ∧ (sub = 1 ∨ sub = 2)) ∨ (idx = 0x2610 ∧ sub = 1)
      ∨ idx = 0x1000 then .retained
  else if (idx = 0x3010 ∧ sub = 1) ∨ within idx 0x4900 0x491F ∧ sub = 1 ∨ within idx 0x6200 0x620F
      ∨ within idx 0x4210 0x421F ∨ (within idx 0x4C00 0x4CFF ∧ 2 ≤ sub ∧ sub ≤ 4)
      ∨ (idx = 0x1010 ∧ sub = 1) ∨ (idx = 0x1840 ∧ 1 ≤ sub ∧ sub ≤ 3)
      ∨ (within idx 0x2400 0x2408 ∧ (sub = 0x0A ∨ sub = 0x0C))
      ∨ (within idx 0x2500 0x2525 ∧ (sub = 1 ∨ sub = 2 ∨ sub = 4))
      ∨ within idx 0x7440 0x744F ∨ (idx = 0x7500 ∧ sub ≤ 2) ∨ idx = 0x7010 then .volatile
  else
    match acc with
    | .ro => .volatile
    | .wo => .volatile
    | _ => .image

/-- The row of Table 0.3 an index belongs to: area 0-16; none in the reserved ranges (R5). -/
def areaOf (idx : Nat) : Option Nat :=
  if within idx 0x1000 0x13FF then some 0 else if within idx 0x1400 0x17FF then some 1
  else if within idx 0x1800 0x1BFF then some 2 else if within idx 0x1C00 0x1FFF then some 3
  else if within idx 0x2000 0x23FF then some 4 else if within idx 0x2400 0x27FF then some 5
  else if within idx 0x2800 0x2FFF then some 6 else if within idx 0x3000 0x37FF then some 7
  else if within idx 0x3800 0x3FFF then some 8 else if within idx 0x4000 0x47FF then some 9
  else if within idx 0x4800 0x4FFF then some 10 else if within idx 0x5000 0x57FF then some 11
  else if within idx 0x5800 0x5BFF then some 12 else if within idx 0x5C00 0x5FFF then some 13
  else if within idx 0x6000 0x63FF then some 14 else if within idx 0x7000 0x73FF then some 15
  else if within idx 0x7400 0x77FF then some 16 else none

/-- The row of Table 0.3 that owns an event code: by its high byte (R6). -/
def areaOfEvent (code : Nat) : Nat := (areaOf (code / 256 * 256)).getD 0

end Sys2Proof.Machine
end

