-- ==== Sys2Proof/Machine/Ticks.lean ====
section
/-! DEFINITION. The tick grid (R16-R18, R21, R37): a pure function of PTP time and the tick family. -/

namespace Sys2Proof.Machine

/-- Nanoseconds in a second. -/
abbrev second : Nat := 1000000000

/-- The tick families with the 24 family's two rates told apart (Table 2.1). -/
inductive Family | f24 | f23976 | f25 | f30ntsc | f30
  deriving DecidableEq, Repr, Inhabited

/-- The family that 1400:00 and 1401:00 select (R16). -/
def familyOf (sel rate24 : Nat) : Family :=
  if sel = 0 then (if rate24 = 0 then .f24 else .f23976) else if sel = 1 then .f25 else if sel = 2 then .f30ntsc else .f30

/-- D = a / b seconds (Table 2.1). -/
def Family.a : Family → Nat
  | .f23976 => 1001
  | .f30ntsc => 1001
  | .f24 => 1
  | .f25 => 1
  | .f30 => 1

/-- D = a / b seconds (Table 2.1). -/
def Family.b : Family → Nat
  | .f24 => 816
  | .f23976 => 816000
  | .f25 => 3400
  | .f30ntsc => 4080000
  | .f30 => 4080

/-- Whether the family has the rate step k (Table 2.1). -/
def Family.hasStep (f : Family) (k : Nat) : Bool :=
  match f with
  | .f24 => k = 1
  | .f23976 => k = 1
  | .f25 => k = 1 || k = 2 || k = 4
  | .f30ntsc => k = 1 || k = 2 || k = 4
  | .f30 => k = 1 || k = 2 || k = 4

/-- The edge of base tick T in ns after the SMPTE epoch (R17). -/
def Family.edge (f : Family) (T : Nat) : Nanos := T * f.a * second / f.b

/-- The tick to which an instant belongs (R17). -/
def Family.tickOf (f : Family) (t : Nanos) : Nat := ((t + 1) * f.b + f.a * second - 1) / (f.a * second) - 1

/-- The frame number F of a tick (R17). -/
def frameOf (T : Nat) : Nat := T / 34

/-- The course index of tick T at step k, on a course tick (R18). -/
def courseIndex (T k : Nat) : Nat := T % (34 * k) / k

/-- Whether T is a course tick of step k (R18). -/
def isCourseTick (T k : Nat) : Bool := T % k = 0

/-- Whether T is a frame tick of step k (R18). -/
def isFrameTick (T k : Nat) : Bool := T % (34 * k) = 0

/-- The first tick at or after T that lies on a grain of `g` ticks (R22). -/
def nextOnGrain (T g : Nat) : Nat := (T + g - 1) / g * g

/-- The first tick of a grain whose edge is at or after an instant (R22). -/
def Family.firstAt (f : Family) (t : Nanos) (g : Nat) : Nat :=
  let T := f.tickOf t
  nextOnGrain (if f.edge T < t then T + 1 else T) g

/-- The members of a rotating class of n, in order of service on a tick (R21). -/
def rotation (T n : Nat) : List Nat := (List.range n).map fun i => (frameOf T % n + i) % n

/-- The requesting members in the order they are served (R21). -/
def serveOrder (T n : Nat) (requested : Nat → Bool) : List Nat := (rotation T n).filter requested

/-- The course period of step k in ns, rounded down. -/
def Family.coursePeriod (f : Family) (k : Nat) : Nanos := f.a * k * second / f.b

/-- The frame period of step k in ns, rounded down. -/
def Family.framePeriod (f : Family) (k : Nat) : Nanos := 34 * f.a * k * second / f.b

/-- The RTP timestamp at a media clock rate for an instant (R37). -/
def rtpTimestamp (rate : Nat) (t : Nanos) : Nat := t * rate / second % 2 ^ 32

/-- The RTP timestamp of the video picture whose frame tick is T (R37): from the tick's exact time. -/
def Family.videoTimestamp (f : Family) (T : Nat) : Nat := T * f.a * 90000 / f.b % 2 ^ 32

end Sys2Proof.Machine
end

