-- ==== Sys2Proof/Machine/State.lean ====
section
/-! DEFINITION. The state of the module: plain data, every piece of state the spec names. Settings, status and
statistics that are objects of the dictionary live in one store, `Mod.objs`; what the rules give the module beside
its objects stands in the structures below, one per chapter. -/

namespace Sys2Proof.Machine

/-- Why a step stops with a fault. No meaning of this model raises one: the block has no exception and every
command of the table has an effect or is turned away by the spec's own words. Safe. -/
inductive Fault
  /-- Raised by nobody; it keeps the type inhabited. Safe. -/
  | none
  deriving DecidableEq, Repr

/-- Why a step is refused. -/
inductive Refusal
  /-- The command has no meaning in this model yet: raised by an arm of Dispatch.lean only. Safe. -/
  | notModelled (mnemonic : String)
  deriving DecidableEq, Repr

/-- The object store: values that differ from the dictionary default, by key index × 256 + subitem, keys strictly
rising (log 5). -/
abbrev Store := List (Nat × Val)

/-! ### Events (ch. 16 and 19) -/

/-- A record of the event log (Table 16.12). `severity` is the severity byte of R360, bit 7 included. -/
structure EventRec where
  seq : Nat
  epoch : Nat
  time : Nanos
  code : Nat
  severity : Nat
  params : List Nat
  deriving DecidableEq, Repr, Inhabited

/-- An event raised in the current tick that has no sequence number yet (R35, R21). -/
structure Raised where
  code : Nat
  res : Nat
  severity : Nat
  params : List Nat
  deriving DecidableEq, Repr, Inhabited

/-- The event log of the boot (R35, R318): the boot epoch, the next sequence number, and the most recent events,
oldest first. -/
structure EventLog where
  epoch : Nat
  next : Nat
  log : List EventRec
  deriving DecidableEq, Repr, Inhabited

/-- A condition that is set (R361): its code, the resource it names and its severity. -/
structure Condition where
  code : Nat
  res : Nat
  severity : Nat
  deriving DecidableEq, Repr, Inhabited

/-- The rate limiter of one key (R362): when the last event of it was raised and how many were not since. -/
structure Limiter where
  code : Nat
  res : Nat
  lastAt : Nanos
  held : Nat
  deriving DecidableEq, Repr, Inhabited

/-! ### Preud (ch. 16) -/

/-- A Preud request as carried, without its envelope. -/
inductive Req
  | close
  | keepalive
  | read (items : List ReadItem)
  | write (idx sub : Nat) (staged : Bool) (value : Octets)
  | timedWrite (idx sub : Nat) (time : TimeVal) (value : Octets)
  | cancelTimed (target sub kind applyTick : Nat)
  | listTimed (first : Nat)
  | function (fid cmd : Nat) (timed : Option TimeVal)
  | subscribe (mask severity start : Nat)
  | bulkBegin (idx sub : Nat) (wr staged : Bool) (length crc : Nat)
  | bulkEnd (tid : Nat)
  | bulkAbort (tid : Nat)
  deriving DecidableEq, Repr, Inhabited

/-- An entry of a LIST TIMED reply (Table 16.6). -/
structure TimedEntry where
  target : Nat
  sub : Nat
  kind : Nat
  applyTick : Nat
  session : Nat
  deriving DecidableEq, Repr, Inhabited

/-- The payload of a reply (Tables 16.5, 16.6, 16.8, 16.11, 16.13). -/
inductive Body
  | empty
  | openOk (idleLimitMs window nextEvent : Nat)
  | values (l : List (Option Octets))
  | applyTick (T : Nat)
  | timedList (pending : Nat) (entries : List TimedEntry)
  | nextSeq (n : Nat)
  | bulkBegun (tid chunk length crc : Nat)
  | bulkChunk (tid len offset : Nat) (data : Octets)
  deriving DecidableEq, Repr, Inhabited

/-- A reply: status, and for a refusal the reason, object and subitem concerned (Table 16.2). -/
structure Reply where
  status : Nat
  reason : Nat
  obj : Nat
  sub : Nat
  body : Body
  deriving DecidableEq, Repr, Inhabited

/-- The filter of a subscription and the next sequence number it is to be sent (R316). -/
structure Subscription where
  mask : Nat
  severity : Nat
  next : Nat
  deriving DecidableEq, Repr, Inhabited

/-- An EVENT frame that no EVENT ACK has named (R317). `lost` frames carry status 0x08 and no records. -/
structure EventFrame where
  first : Nat
  lost : Option (Nat × Nat)
  recs : List EventRec
  sentAt : Nanos
  deriving DecidableEq, Repr, Inhabited

/-- An open session (R305-R308, R316, R317). `weak` marks the keyless Service session of R305. -/
structure Session where
  sid : Nat
  slot : Nat
  role : Nat
  route : Route
  peer : Nat
  port : Nat
  key : MacKey
  weak : Bool
  expected : Nat
  /-- Requests held behind a gap: number, arrival, envelope, request (R308). -/
  held : List (Nat × Nanos × Frame × Req)
  replies : List (Nat × Reply)
  lastHeard : Nanos
  subscription : Option Subscription
  unacked : List EventFrame
  selector : Nat
  deriving DecidableEq, Repr, Inhabited

/-- A CHALLENGE that awaits its OPEN (R305). -/
structure Challenge where
  sid : Nat
  slot : Nat
  role : Nat
  route : Route
  peer : Nat
  port : Nat
  key : MacKey
  weak : Bool
  mnonce : Nat
  at_ : Nanos
  deriving DecidableEq, Repr, Inhabited

/-- A pending timed launch of a write (R22-R24). `order` counts acceptances; equal apply ticks act in its order. -/
structure TimedWrite where
  idx : Nat
  sub : Nat
  value : Val
  time : Nanos
  applyTick : Nat
  sid : Nat
  order : Nat
  deriving DecidableEq, Repr, Inhabited

/-- A pending untimed RT write (R19). -/
structure RtWrite where
  idx : Nat
  sub : Nat
  value : Val
  applyTick : Nat
  deriving DecidableEq, Repr, Inhabited

/-- A pending function command (R311): 1 start, 2 stop, 3 restart. `named` is the TIME of a timed command, `held`
says that R312 holds the start until STOPPING ends. -/
structure FnCmd where
  fid : Nat
  cmd : Nat
  applyTick : Nat
  named : Option Nanos
  held : Bool
  sid : Nat
  role : Nat
  order : Nat
  deriving DecidableEq, Repr, Inhabited

/-- A change set (R314): its function, owning session (none once sealed and orphaned), whether a pending restart
seals it and from which role, and its values by key. -/
structure ChangeSet where
  fid : Nat
  owner : Option Nat
  sealed : Bool
  sealRole : Nat
  values : Store
  deriving DecidableEq, Repr, Inhabited

/-- An open bulk transfer (R319, R320): `content` is what a read returns, `chunks` what a write has brought. -/
structure Transfer where
  tid : Nat
  sid : Nat
  idx : Nat
  sub : Nat
  wr : Bool
  staged : Bool
  length : Nat
  crc : Nat
  content : Octets
  chunks : List (Nat × Octets)
  heardAt : Nanos
  /-- A read of its content failed (Table 13.6). -/
  failed : Bool
  deriving DecidableEq, Repr, Inhabited

/-- A record of a configuration image (R323). -/
structure ImageRec where
  idx : Nat
  sub : Nat
  value : Octets
  deriving DecidableEq, Repr, Inhabited

/-- Everything of chapter 16 that is not an object. -/
structure PreudS where
  sessions : List Session
  challenges : List Challenge
  usedSids : List Nat
  timed : List TimedWrite
  rt : List RtWrite
  fnCmds : List FnCmd
  changeSets : List ChangeSet
  transfers : List Transfer
  nextOrder : Nat
  /-- Values of the time or memory function that an image load keeps for the next boot (R322). -/
  awaitBoot : Store
  /-- Reset-object writes to apply at the next edge (R382, R395): index, value. -/
  resets : List (Nat × Nat)
  /-- Functions in STOPPING and the instant at which it ends. -/
  stopping : List (Nat × Nanos)
  deriving DecidableEq, Repr, Inhabited

/-! ### What the output sends (ch. 6 and 8) -/

/-- The kinds of picture of R104. -/
inductive PicKind | idr | springer | trailing
  deriving DecidableEq, Repr, Inhabited

/-- The NAL units of an access unit, in the order of Table 6.2. -/
inductive NalKind | aud | vps | sps | pps | alfAps | prefixSei | pictureHeader | slice (tile : Nat) | suffixSei | eos
  deriving DecidableEq, Repr, Inhabited

/-- An SEI message (Table 6.4): its payloadType and the values the spec states for it. -/
structure SeiMsg where
  payloadType : Nat
  values : List (String × Int)
  deriving DecidableEq, Repr, Inhabited

/-- A NAL unit: what it is, the kind of its picture, the syntax values the spec states for it, its SEI messages if it
carries any, and its size in bits, without a start code. -/
structure Nal where
  kind : NalKind
  pic : PicKind
  params : List (String × Int)
  sei : List SeiMsg
  bits : Nat
  deriving DecidableEq, Repr, Inhabited

/-- What a TS packet carries (R148-R153). -/
inductive TsKind | pat | pmt | video | audio (i : Nat) | ancillary | nullPkt
  deriving DecidableEq, Repr, Inhabited

/-- A TS packet: PID, continuity counter, whether it starts a section or PES, random_access_indicator,
discontinuity_indicator, the PCR and the PTS it carries, how many octets of its component, from which one, and these. -/
structure TsPacket where
  pid : Nat
  cc : Nat
  kind : TsKind
  start : Bool
  rai : Bool
  disc : Bool
  pcr : Option Nat
  pts : Option Nat
  offset : Nat
  size : Nat
  data : Octets
  deriving DecidableEq, Repr, Inhabited

/-- One path of an output (R157): destination address and UDP port, source address, logical port. -/
structure PathAddr where
  addr : Nat
  port : Nat
  source : Nat
  logical : Nat
  deriving DecidableEq, Repr, Inhabited

/-- What the IP and UDP headers of an output's datagrams say (R157): its paths, source UDP port, TTL, DSCP and VLAN. -/
structure SendTo where
  red : PathAddr
  blue : Option PathAddr
  udpSource : Nat
  ttl : Nat
  dscp : Nat
  vlan : Option Nat
  deriving DecidableEq, Repr, Inhabited

/-- A datagram of an output or playout (R155, R156, R190): launch index, scheduled launch time, RTP timestamp, payload
type, marker, the course it belongs to, its TS packets, or the NAL unit of the access unit it carries with the first
octet and the number of octets, the octets of its IP datagram, whether it is the first and the last of its
course, and the piece of a NAL unit it carries in direct mode; `due` is the tick at which its course was due, `via` how it leaves. -/
structure Datagram where
  index : Nat
  launch : Nanos
  timestamp : Nat
  payloadType : Nat
  marker : Bool
  ssrc : Nat
  frame : Nat
  course : Nat
  due : Nat
  via : SendTo
  packets : List TsPacket
  nal : Option (Nat × Nat × Nat)
  bytes : Nat
  first : Bool
  last : Bool
  piece : Octets
  /-- Its slot of the launch queue cannot be read (R261). -/
  failed : Bool
  deriving DecidableEq, Repr, Inhabited

/-! ### What the module sends -/

/-- Everything the module puts out, in the order it leaves (log 8). -/
inductive Output
  /-- A Preud reply (R301). -/
  | reply (route : Route) (peer port sid opcode req : Nat) (r : Reply)
  /-- CHALLENGE (R305). -/
  | challenge (route : Route) (peer port sid mnonce epoch fuse status : Nat)
  /-- An EVENT frame (R316, R317). -/
  | events (route : Route) (peer port sid : Nat) (f : EventFrame)
  /-- An ARP reply or an ICMP echo reply (R300). -/
  | arpReply (route : Route) (addr : Nat)
  | echoReply (route : Route) (addr ident : Nat)
  /-- A datagram of an output or playout, as launched on a path (R157, R158, R215). -/
  | datagram (src : LaunchSrc) (path : Path) (addr : PathAddr) (srcMac : Nat) (d : Datagram)
  /-- An ST 2110-20 packet of a decode engine (R179). -/
  | decodePacket (e : Fin 2) (path : Path) (addr : PathAddr) (srcMac payloadType ssrc seq timestamp : Nat) (marker : Bool) (samples : Srd)
  /-- A copy of a received frame leaving a logical port (R198-R207): the port, its queue, and the header it leaves with. -/
  | frame (ident port queue dstMac srcMac : Nat) (vlan : Option Nat) (ttl : Nat) (fcsOk : Bool)
  /-- A PTP message sent (R28, R29). -/
  | ptpDelayReq (port : Nat) (multicast : Bool)
  | ptpDelayResp (port requester seq : Nat)
  | ptpAnnounce (port : Nat) (gm : GmData) (logInterval : Int)
  | ptpSync (port : Nat) (logInterval : Int)
  | ptpFollowUp (port : Nat) (time : Nanos) (logInterval : Int)
  /-- A membership report or query sent (R211, R212). -/
  | membershipReport (port : Nat) (fam : Fam) (group source : Octets) (join : Bool)
  | membershipQuery (port : Nat) (fam : Fam) (group : Nat) (sources : List Nat)
  /-- The PPS pulse (R38). -/
  | ppsPulse
  /-- A frame on the mortar link (Table 12.2): type number, virtual channel, sequence, and its body. -/
  | mortarIdle (credits : List Nat)
  | mortarHello (seq : Nat) (h : HelloBody)
  | mortarNak (vc expected : Nat)
  | mortarStatus (seq : Nat) (st : StatusBody)
  | mortarRecords (seq : Nat) (recs : List CourseRecord)
  | mortarRepair (seq : Nat) (r : RepairBody)
  | mortarCountersignRequest (seq term req : Nat)
  | mortarCountersign (seq term req lease : Nat)
  | mortarHandover (seq boundary : Nat) (withRestart : Bool)
  | mortarHandoverAccept (seq boundary : Nat)
  | mortarPlacement (seq : Nat) (p : PlacementBody)
  | mortarResend (vc seq : Nat)
  /-- A Komund message sent to witness slot `w` (Table 12.5), or answered by the module as a witness, the key of its MAC
  (log 6), and the routes it goes out on (7000:08). -/
  | komund (w kind : Nat) (pair sender subject term req lease result flags : Nat) (key : Octets) (routes : Nat)
  /-- The octet the I2C responder returns (R346). -/
  | i2cByte (b : Byte)
  deriving DecidableEq, Repr, Inhabited

/-! ### Essence ingest (ch. 3) and composition (ch. 4) -/

/-- What lies under the samples received for a course: black, a slate or a decoded picture, or nothing at all (a
live layer with no previous picture, R67). -/
inductive Base
  | black
  | transparent
  | slate (content : Octets)
  | decoded (rows : List Row)
  deriving DecidableEq, Repr, Inhabited

/-- A course as the channel passes it on (R48): what lies under it and the samples placed over that, oldest first. -/
structure CourseData where
  base : Base
  patches : List Srd
  deriving DecidableEq, Repr, Inhabited

/-- The format of a picture (Table 3.1): size 0-3, sampling 0-2, depth 0-1, range 0-1, as 4000:03-06 number them. -/
structure Fmt where
  size : Nat
  sampling : Nat
  depth : Nat
  range : Nat
  deriving DecidableEq, Repr, Inhabited

/-- The receipt grid of a run of pictures (R47): step, alignment, the frame tick of its first picture, the frame
tick at which it ends, and the format of its pictures. -/
structure Grid where
  k : Nat
  a : Nat
  first : Nat
  until_ : Option Nat
  fmt : Fmt
  deriving DecidableEq, Repr, Inhabited

/-- An extended sequence number held by the merge (R44). -/
structure Seen where
  seq : Nat
  at_ : Nanos
  path : Path
  deriving DecidableEq, Repr, Inhabited

/-- The reception of one picture: its frame tick, the samples received, the last sample arrival of each course, and
the arrival of its first packet. -/
structure Reception where
  frame : Nat
  srds : List Srd
  arrivals : List (Nat × Nanos)
  firstAt : Nanos
  deriving DecidableEq, Repr, Inhabited

/-- The loss policy in force for the picture of a frame tick (R52), with the slate's content (empty: none). -/
structure PolicySnap where
  frame : Nat
  policy : Nat
  hold : Nat
  slate : Octets
  deriving DecidableEq, Repr, Inhabited

/-- A run of pictures on one receipt grid (R47): a start begins one, a restart another while the one before goes on to the end of
its pictures. `shown` is the picture last passed on, course by course, and `kept` says that it came from the run before (R48);
`before` is the last one passed on before LOST, `policyFrom` the frame tick from which the policy of the present LOST period
supplies pictures, `supply` what supplies the picture being handed on (none: the received content), `heldPics` the pictures held
in the LOST period (R52). -/
structure Run where
  grid : Grid
  kept : Bool
  shown : List CourseData
  before : List CourseData
  lost : Bool
  policyFrom : Nat
  firstLost : Bool
  emptyRun : Nat
  goodRun : Nat
  picEmpty : Nat
  supply : Option Base
  held : Bool
  heldPics : Nat
  slateWarned : Bool
  holdReached : Bool
  margin : Option Int
  deriving DecidableEq, Repr, Inhabited

/-- The receiver of one video flow: a channel's, or a live layer's (R67), with its runs, the newest last. -/
structure VideoIn where
  runs : List Run
  seen : List Seen
  redAt : Option Nanos
  blueAt : Option Nanos
  receptions : List Reception
  snaps : List PolicySnap
  arrived : Nat
  mismatched : Nat
  deriving DecidableEq, Repr, Inhabited

/-- The receiver of one audio flow (R56, R57): the ring by sample number, the last sample that courses have carried, the last
arrival, when an unbroken run of samples began, its first sample and the one it goes on with, and whether the flow is lost. -/
structure AudioIn where
  seen : List Seen
  ring : List (Nat × List Nat)
  sentTo : Option Nat
  lastAt : Nanos
  runSince : Option Nanos
  runFirst : Nat
  runNext : Nat
  lost : Bool
  deriving DecidableEq, Repr, Inhabited

/-- The receiver of one ancillary flow (R58): the first picture since its last packet, and whether it is lost. -/
structure AncIn where
  seen : List Seen
  quietFrom : Nat
  lost : Bool
  deriving DecidableEq, Repr, Inhabited

/-- Samples of one audio flow that travel with a course (R56): the number of the first sample instant and the
channels' values at each instant. -/
structure AudioRun where
  flow : Nat
  first : Nat
  samples : List (List Nat)
  deriving DecidableEq, Repr, Inhabited

/-- Settings of a veneer layer as a commit copies them (4A80 subitems 01-0C). -/
structure LayerSet where
  enable : Bool
  live : Bool
  still : Nat
  x : Nat
  y : Nat
  keyY : Nat
  keyCb : Nat
  keyCr : Nat
  inner : Nat
  outer : Nat
  opacity : Nat
  hide : Bool
  deriving DecidableEq, Repr, Inhabited

/-- A course that has been received and goes through composition and coding: its picture's frame tick, its index,
the tick at which it was received, its content, and what travels with it. -/
structure Handed where
  frame : Nat
  course : Nat
  tick : Nat
  k : Nat
  fmt : Fmt
  data : CourseData
  layers : List (Option (Fmt × CourseData))
  sets : List LayerSet
  audio : List AudioRun
  anc : List AncItem
  timecode : Nat
  /-- Bursts of 32 samples of a layer that could not be read: layer, line, first sample (R261). -/
  holes : List (Nat × Nat × Nat)
  deriving DecidableEq, Repr, Inhabited

/-- Everything of one channel that is not an object: receivers, ancillary data and timecodes by picture, the veneer
commit, and the courses being composed. -/
structure ChanS where
  video : VideoIn
  layers : List VideoIn
  audio : List AudioIn
  anc : List AncIn
  ancData : List (Nat × List AncItem)
  atc : List (Nat × Nat)
  /-- The timecode of the last picture, and the nominal rate it counts frames at (R59). -/
  timecode : Nat
  tcRate : Nat
  /-- Layer settings by the frame tick of the picture they apply from (R70). -/
  layerSets : List (Nat × List LayerSet)
  /-- The channel's objects 4000, 4040, 4800, 4840 and 48C0 as they govern pictures from a frame tick on. -/
  cfgs : List (Nat × Store)
  /-- Frame ticks on which the pending veneer commit was deferred (R70). -/
  deferred : Nat
  composing : List Handed
  deriving DecidableEq, Repr, Inhabited

/-! ### Time (ch. 2) -/

/-- A foreign master (R28): its clock identity, the port and domain it is heard on, its dataset, its announce interval as a logarithm, when
it was heard last and how often within four intervals. -/
structure Foreign where
  source : Nat
  port : Nat
  domain : Nat
  gm : GmData
  logAnnounce : Int
  at_ : Nanos
  heard : Nat
  utcOffset : Int
  leap61 : Bool
  leap59 : Bool
  deriving DecidableEq, Repr, Inhabited

/-- The PTP servo (R30-R34) and PPS in (R38). Instants are of the hardware counter. `awaiting` is the sequence number of the
two-step Sync whose Follow_Up is to come, `delayLog` the interval of Delay_Req that the master's Delay_Resp names and `delayAt` the
last one sent (R28), `sentSync` and `sentAnnounce` the last of each sent on a port (R29), `slew` what is left of an offset that is
slewed away, in 10⁻⁹ ns (R33). -/
structure ServoS where
  awaiting : Option Nat
  delayLog : Int
  delayAt : Option Nanos
  sentSync : List (Nat × Nanos)
  sentAnnounce : List (Nat × Nanos)
  slew : Int
  masters : List Foreign
  selected : Option Foreign
  /-- The grandmaster dataset followed last (R29). -/
  gm : Option GmData
  lastSync : Nanos
  /-- The last measured offset: own time less the master's. -/
  offset : Int
  lockSince : Option Nanos
  stateAt : Nanos
  utcOffset : Int
  leap61 : Bool
  leap59 : Bool
  ppsAt : Nanos
  ppsAbsent : Bool
  deriving DecidableEq, Repr, Inhabited

/-! ### Encoding, rate control and output (ch. 5-8) -/

/-- The configuration under which the pictures of a run are coded and sent: the objects of the rendition and its
channel as they stood at its start or restart (R119). -/
structure RendCfg where
  chan : Nat
  k : Nat
  rung : Nat
  vvc : Bool
  chroma : Nat
  depth : Nat
  level : Nat
  tier : Nat
  refs : Nat
  period : Nat
  startPeriod : Nat
  hash : Bool
  qFloor : Int
  qCeil : Int
  rate : Nat
  buffer : Nat
  group : Nat
  output : Bool
  direct : Bool
  tsPerDg : Nat
  limit : Nat
  ssrc : Nat
  pmtPid : Nat
  videoPid : Nat
  audioBase : Nat
  ancPid : Nat
  streams : List Nat
  bits : Nat
  anc : Bool
  margin : Nat
  program : Nat
  tsid : Nat
  strength : Nat
  intraOffset : Int
  hRange : Nat
  vRange : Nat
  /-- The pipeline and, by tile column, its column lane (R79). -/
  pipe : Nat
  lanes : List Nat
  /-- What the stream signals (R114-R117): output colorimetry and transfer of the channel, HLG compatibility, 5300:05-10, time code. -/
  colorimetry : Nat
  transfer : Nat
  hlgCompat : Bool
  hdr : List Int
  timecodeSei : Bool
  /-- How the output leaves (R156, R157): payload type, and the headers of its datagrams. -/
  payloadType : Nat
  via : SendTo
  deriving DecidableEq, Repr, Inhabited

/-- A slice being coded: a tile column's part of a course (R86, R134-R136). `errors` counts CTUs that did without a failing block of a
reference (R100), `holes` are places whose input cannot be read (R261). -/
structure SliceS where
  tile : Nat
  budget : Nat
  ctus : Nat
  done : Nat
  bits : Nat
  exhausted : Bool
  exhCount : Nat
  lateCount : Nat
  lastAt : Nanos
  errors : Nat
  holes : List Nat
  /-- How each CTU was coded, with its bits. -/
  forms : List (CtuForm × Nat)
  deriving DecidableEq, Repr, Inhabited

/-- A planned course (R133, R141): offset, own request, budget. -/
structure Plan where
  frame : Nat
  course : Nat
  delta : Nat
  pool : Nat
  request : Nat
  budget : Nat
  drawn : Nat
  fallback : Bool
  qp : Int
  deriving DecidableEq, Repr, Inhabited

/-- A course in its coding window, which ends at the edge of `endTick`. -/
structure Coding where
  frame : Nat
  course : Nat
  endTick : Nat
  input : List Row
  plan : Plan
  slices : List SliceS
  handed : Handed
  /-- The luma activity of its quantisation groups in raster order, and the mean activity as a sum and a count (R124). -/
  acts : List Nat
  mean : Nat × Nat
  deriving DecidableEq, Repr, Inhabited

/-- A picture that is planned and coded: its kind, count p, wave position i and period n (R104); how it begins a sequence, if it
does: 0 new, 1 continuing, 2 new without EOS (R119, R243); the fullness D_j before its removal as plans take it, with the fraction
over b, whether R128 rebased it, its initial removal delay, and the pictures since the one before it with a buffering period;
overhead O_j, the suffix SEI's part of it, reserves and whether it is lean (R131, R132); budgets and final bits by course; activity
and QPs as sum and number (R124); whether a course was above target, the least margin (R101), reference errors (R100). -/
structure PicS where
  frame : Nat
  kind : PicKind
  count : Nat
  wave : Int
  period : Nat
  seqStart : Option Nat
  full : Nat
  frac : Nat
  rebased : Bool
  delay : Nat
  since : Nat
  overhead : Nat
  suffix : Nat
  reserves : List Nat
  lean : Bool
  budgets : List (Nat × Nat)
  spent : List (Nat × Nat)
  acts : Nat × Nat
  qps : Int × Nat
  aboveTarget : Bool
  margin : Option Int
  refErrors : Nat
  deriving DecidableEq, Repr, Inhabited

/-- A picture in the reference region (R91, R92): its reconstruction by bands so far, the blocks that fail to read until their slots
are rewritten (R100), and the header of each block (compressed length in 16-byte units, raw). -/
structure RefPic where
  frame : Nat
  bands : List Octets
  bad : List Nat
  headers : List (Nat × Bool)
  deriving DecidableEq, Repr, Inhabited

/-- What a final course left for the estimates of later pictures (R132, R134). -/
structure CourseHist where
  frame : Nat
  bits : Nat
  qp : Int
  tiles : List Nat
  deriving DecidableEq, Repr, Inhabited

/-- The content of PAT and PMT that version numbers follow (R148). -/
structure Tables where
  program : Nat
  tsid : Nat
  pmtPid : Nat
  components : List (Nat × Nat × Nat × Nat × Nat)
  deriving DecidableEq, Repr, Inhabited

/-- Everything of one rendition that is not an object. -/
structure RendS where
  /-- Configurations by the frame tick of the first picture they govern (R119). -/
  cfgs : List (Nat × RendCfg)
  /-- Frame tick of the first picture, and the frame tick at which a stop ends the pictures. -/
  first : Nat
  until_ : Option Nat
  /-- Frame ticks at which a sequence begins: 0 new, 1 continuing restart, 2 new without EOS (R104, R119, R243); 3 marks the frame
  tick from which a change of channel leaves no picture until the next mark. -/
  sequences : List (Nat × Nat)
  /-- The pictures in progress and the last final ones, oldest first. -/
  pics : List PicS
  /-- The fullness of the CPB model while no picture carries it, and the rate and buffer it was kept for (R129). -/
  cpb : Nat
  cpbFor : Nat × Nat
  hist : List (List CourseHist)
  /-- The courses planned for the next edge, and the course planned last in this run (R131, R140). -/
  plans : List Plan
  lastCourse : Option Nat
  coding : List Coding
  fallback : Bool
  /-- Its group's planner is lost: the group share limits its budgets (R144). -/
  capped : Bool
  /-- The pictures of the reference region, the one being coded among them, newest first (R92). -/
  refs : List RefPic
  /-- A start that waits for its set-aside (R142), and what is held for it. -/
  waiting : Bool
  setAside : Nat
  /-- Base QP and priority by the frame tick from which they govern (R125). -/
  qps : List (Nat × Int × Nat)
  /-- The recording flag by the frame tick from which it governs (R186). -/
  recFlags : List (Nat × Bool)
  /-- Output. -/
  nextIndex : Nat
  counters : List (Nat × Nat)
  tables : Option Tables
  discontinuity : Bool
  packing : List Datagram
  queue : List Datagram
  confirm : Nat
  /-- Launch index and launch time of the last datagrams whose launch time has passed (R240). -/
  lately : List (Nat × Nanos)
  /-- Access-unit bits and wire bits of the second under way (5880:09), and when it began. -/
  bitsSecond : Nat
  wireSecond : Nat
  secondAt : Nanos
  tsCrc : BitVec 32
  auCrc : BitVec 32
  lastTimecode : Option Nat
  /-- NAL units of the access unit being sent (R113). -/
  au : List Nal
  /-- The run of TS packets of the course handed on last (R149, R185), and its record as octets. -/
  run : List TsPacket
  runOctets : Octets
  /-- The module's own records of the last courses (R221, R222), and those not closed yet. -/
  records : List CourseRecord
  unclosed : List CourseRecord
  deriving DecidableEq, Repr, Inhabited

/-- A bond group's allowance (R139): bits, fraction of the refill, the coping reserve held, and the refunds of courses whose windows
have ended since its last tick. -/
structure GroupS where
  allowance : Nat
  frac : Nat
  psi : Nat
  refunds : Nat
  deriving DecidableEq, Repr, Inhabited

/-! ### Check channels (ch. 19) -/

/-- The engine of a check channel (R366-R368): its 32-bit state, a running value written and not yet taken up at a unit
boundary, and whether a unit is under way. -/
structure CheckS where
  reg : BitVec 32
  write : Option Nat
  open_ : Bool
  deriving DecidableEq, Repr, Inhabited

/-! ### Twin operation (ch. 12) -/

/-- A sequenced mortar frame kept until its credit comes back (R218): virtual channel, sequence, credits, the frame. -/
structure MortarHeld where
  vc : Nat
  seq : Nat
  credits : Nat
  frame : Output
  deriving DecidableEq, Repr, Inhabited

/-- The mortar link (R216-R220). Lists are by virtual channel 0-3: next sequence to send, next expected, credits freed
by this module and by its partner, credits spent. -/
structure MortarS where
  sendSeq : List Nat
  recvSeq : List Nat
  freed : List Nat
  peerFreed : List Nat
  spent : List Nat
  held : List MortarHeld
  waiting : List MortarHeld
  naks : List ((Nat × Nat) × Nat)
  heardAt : Nanos
  sentAt : Nanos
  helloAt : Nanos
  statusAt : Nanos
  helloHeard : Bool
  helloBad : Bool
  silent : Bool
  deriving DecidableEq, Repr, Inhabited

/-- How a rendition stands against its partner's (R222-R228): mismatch since its start, records matched in a row, first
picture of its repair, records matched of the picture after it, whether it is in sync, the ticks of the last record
received, and the last confirmation index received. -/
structure RendSync where
  rend : Nat
  mismatch : Bool
  matches_ : Nat
  repair : Option Nat
  after : Nat
  inSync : Bool
  lastTick : Option Nat
  confirm : Option Nat
  deriving DecidableEq, Repr, Inhabited

/-- A handover the ACTIVE has begun (R241, R242): boundary, release point, kind, what has come back. -/
structure HandoverS where
  boundary : Nat
  release : Nanos
  withRestart : Bool
  accepted : Bool
  thermal : Bool
  sent : Bool
  released : List Nat
  deriving DecidableEq, Repr, Inhabited

/-- A witness-role slot (R232): the deadline on this module's counter, the pending ACQUIRE, and the last request number
accepted from each member. -/
structure WitnessSlot where
  slot : Nat
  deadline : Nanos
  pending : Option KMsg
  last : List (Nat × Nat)
  deriving DecidableEq, Repr, Inhabited

/-- Everything of chapter 12 that is not an object. Instants are of the hardware counter unless they are launch times. -/
structure TwinS where
  /-- The launch times the module is entitled to (R215): from t_K, before the release point. -/
  launchFrom : Option Nanos
  launchUntil : Option Nanos
  mortar : MortarS
  /-- Partner's last Status; whether the digests were found to differ (R224). -/
  partner : Option StatusBody
  digestDiffers : Bool
  /-- Request count of this boot (R231); requests outstanding: number, witness (3: the partner), send time. -/
  requests : Nat
  outstanding : List (Nat × Nat × Nanos)
  /-- t_s of the last renewal each witness granted, and of the last one countersigned (R235). -/
  renewed : List (Nat × Nanos)
  countersigned : Option Nanos
  viaPartner : Bool
  renewAt : Nanos
  askAt : Nanos
  acquireAt : Option Nanos
  probeAt : Nanos
  /-- No ACQUIRE until then, after a countersign (R235). -/
  countersignHold : Nanos
  /-- Grants held: witness, term, start of the lease; replies already taken: witness, request, type. -/
  grants : List (Nat × Nat × Nanos)
  replies : List (Nat × Nat × Nat)
  /-- When each witness answered PROBE last (R231). -/
  acks : List (Nat × Nanos)
  sync : List RendSync
  missingSince : Option Nanos
  /-- Repairs the ACTIVE runs: rendition, j0, pictures left (R226); renditions awaiting one; bands not to be sent. -/
  repairs : List (Nat × Nat × Nat)
  awaiting : List Nat
  skipBand : List Nat
  handover : Option HandoverS
  /-- The handover this module accepted as successor: boundary, release point, with restart (R241). -/
  successor : Option (Nat × Nanos × Bool)
  placement : Option PlacementBody
  portsDownAt : Option Nanos
  /-- Witness role: slots with a record, and the end of the restart hold (R232, R233). -/
  slots : List WitnessSlot
  restartUntil : Nanos
  deriving DecidableEq, Repr, Inhabited

/-! ### Return-feed decoding (ch. 9) -/

/-- The access unit that a decode engine receives: its PTS, the arrival of its first datagram, its octets in order, cut where some are
missing, how many octets its PES packet has if it says so, the TS packets they came in, and how many SPS of it have been judged. -/
structure AuIn where
  pts : Option Nat
  at_ : Nanos
  size : Option Nat
  parts : List Octets
  packets : Nat
  damaged : Bool
  judged : Nat
  deriving DecidableEq, Repr, Inhabited

/-- An access unit in the input buffer (R169, R171): its codec, the NAL units that arrived whole, PTS, when its first datagram came,
when it was complete, the TS packets it holds of the buffer, whether it is damaged, and whether its presentation tick has passed. -/
structure WaitingAu where
  vvc : Bool
  sps : SpsInfo
  units : List Octets
  pts : Nat
  arrived : Nanos
  complete : Nanos
  packets : Nat
  damaged : Bool
  late : Bool
  deriving DecidableEq, Repr, Inhabited

/-- A decode in progress: its access unit, the tick at which its allowance ends, its presentation tick in PTS-locked mode, and t_p. -/
structure Decoding where
  au : WaitingAu
  ends : Nat
  tick : Nat
  tp : Nanos
  deriving DecidableEq, Repr, Inhabited

/-- A decoded picture that waits for its presentation, or the current picture (R172-R174): its place in output order, presentation
tick, t_p, end of decode, the decode at which a recovery that it completes began (R176), its sequence's SPS, and its content. -/
structure DecPicture where
  order : Int
  tick : Nat
  tp : Nanos
  ended : Nanos
  recovers : Option Nat
  sps : SpsInfo
  content : List Row
  deriving DecidableEq, Repr, Inhabited

/-- A picture of the decoded picture buffer: place in output order, samples, and what its motion leaves to later pictures. -/
structure DecRef where
  order : Int
  rows : List Row
  motion : List Int
  deriving DecidableEq, Repr, Inhabited

/-- Everything of one decode engine that is not an object. -/
structure DecodeS where
  seen : List Seen
  /-- The next sequence number in order, and datagrams that arrived ahead of one missing, by number: number, arrival, packets (R169). -/
  next : Option Nat
  ahead : List (Nat × Nanos × List Octets)
  lastAt : Nanos
  /-- The programme followed: the PID of its PMT, the video PID and whether it is VVC, and sections received in part, by PID (R168). -/
  pmtPid : Option Nat
  video : Option (Nat × Bool)
  sections : List (Nat × Octets)
  /-- The last continuity counter of the video PID. -/
  lastCc : Option Nat
  au : Option AuIn
  lastPts : Nat
  /-- The SPS judged last, and the parameter sets received, the latest last (R168). -/
  sps : Option (Octets × SpsInfo)
  sets : List Octets
  waiting : List WaitingAu
  decoding : Option Decoding
  ready : List DecPicture
  /-- When the last decode ended; decoded pictures, the latest sixteen: references, and what concealment copies from. -/
  endedAt : Nanos
  decoded : List DecRef
  /-- What is added to an order count of the present sequence, the order count that later ones derive from, how many pictures have been
  decoded, the decode of the last damaged or concealed one, and of a recovery under way its first decode and the place in output order
  that completes it (R176). -/
  orderBase : Int
  lastPoc : Int
  count : Nat
  damagedAt : Nat
  recovery : Option (Nat × Int)
  /-- The current picture, the last one presented by any run (R180), the last tick presented, and the last one with output. -/
  current : Option DecPicture
  lastShown : Option DecPicture
  lastTick : Option Nat
  outAt : Option Nat
  /-- Pictures presented, by frame tick, repeated ones too (R181); the last two. -/
  presented : List (Nat × List Row)
  margins : List (Nanos × Int)
  /-- ST 2110-20 packets to send: time, marker, RTP timestamp, samples (R179). -/
  packets : List (Nanos × Bool × Nat × Srd)
  nextSeq : Nat
  sdpVersion : Nat
  deriving DecidableEq, Repr, Inhabited

/-! ### Replay store (ch. 10) -/

/-- A recorded course (R185, R187): its TS packets, their octets, its place and length in the ring, and the synchronisation flag. -/
structure RingCourse where
  course : Nat
  packets : List TsPacket
  octets : Octets
  place : Nat
  length : Nat
  unsynced : Bool
  deriving DecidableEq, Repr, Inhabited

/-- A recorded picture (R187): frame tick, step, kind, count, period in force at it, and its indexed courses. -/
structure RingPicture where
  frame : Nat
  k : Nat
  kind : PicKind
  count : Nat
  period : Nat
  courses : List RingCourse
  deriving DecidableEq, Repr, Inhabited

/-- An index entry on its way (R187): the picture as the index has it, and the course. -/
structure IndexEntry where
  frame : Nat
  k : Nat
  kind : PicKind
  count : Nat
  period : Nat
  course : RingCourse
  deriving DecidableEq, Repr, Inhabited

/-- A ring (R184): its size in octets, the pictures it holds at most, those it has indexed, oldest first, index entries
that wait in the queue of its pipeline, where the next record is written, and the picture that lost an entry last (R187). -/
structure Ring where
  size : Nat
  pictures : Nat
  held : List RingPicture
  waiting : List IndexEntry
  next : Nat
  lostPicture : Option Nat
  deriving DecidableEq, Repr, Inhabited

/-- A read slot (R188-R193): the clip's pictures, the frame tick at which it began, how many courses have been read, the
datagrams to launch, its own launch index, whether the first PCR is still to come, and for an export the octets of
each picture, how far it was read, and the TS packets that could not be read: picture, course, packet (R195). -/
structure SlotS where
  rend : Nat
  clip : List Nat
  begun : Nat
  read : Nat
  ended : Bool
  queue : List Datagram
  index : Nat
  firstPcr : Bool
  lengths : List Nat
  readTo : Nat
  unread : List (Nat × Nat × Nat)
  deriving DecidableEq, Repr, Inhabited

/-! ### Media fabric (ch. 11) -/

/-- A frame held in an egress queue: which received frame it copies, its length from destination MAC to FCS, when it
entered, and the header it leaves with (R202). -/
structure QFrame where
  serial : Nat
  len : Nat
  entered : Nanos
  ident : Nat
  dstMac : Nat
  srcMac : Nat
  vlan : Option Nat
  ttl : Nat
  fcsOk : Bool
  deriving DecidableEq, Repr, Inhabited

/-- What a window of queue samples holds for one queue (R213). -/
structure QSample where
  n : Nat
  depthMax : Nat
  depthSum : Nat
  delayMax : Nat
  delaySum : Nat
  depthBins : List Nat
  delayBins : List Nat
  deriving DecidableEq, Repr, Inhabited

/-- A logical port's queues Q0-Q7 (Q2 is the launch queue and the playouts), the round robin's place, whether the
quantum of the present visit is still to be given, the deficits of Q3-Q7, their shapers (1/8000 octets, when filled),
until when a frame occupies the wire, the samples of the window and the bin widths in force for it (R206, R213). -/
structure PortQ where
  queues : List (List QFrame)
  cur : Nat
  fresh : Bool
  deficits : List Nat
  tokens : List (Nat × Nanos)
  busyUntil : Nanos
  samples : List QSample
  strictBin : Nat
  weightBin : Nat
  deriving DecidableEq, Repr, Inhabited

/-- The buckets of an entry's policer, in 1/8,000,000 octets (R203). -/
structure Bucket where
  entry : Nat
  c : Nat
  p : Nat
  at_ : Nanos
  deriving DecidableEq, Repr, Inhabited

/-- A membership record (R211, R212): filter mode, sources forwarded with their deadlines, sources excluded, the group's
deadline, and until when a host of an older version is taken as present. -/
structure Membership where
  port : Nat
  fam : Fam
  group : Nat
  exclude : Bool
  incl : List (Nat × Nanos)
  excl : List Nat
  until_ : Nanos
  olderUntil : Nanos
  deriving DecidableEq, Repr, Inhabited

/-- Everything of the fabric that is not an object. -/
structure FabricS where
  ports : List PortQ
  buckets : List Bucket
  members : List Membership
  /-- Membership legs in force, and those refused until the next report: (entry, logical port). -/
  legs : List (Nat × Nat)
  refused : List (Nat × Nat)
  /-- Queriers heard with a lower address, and until when; ports and families on which the module is querier. -/
  others : List (Nat × Fam × Nanos)
  roles : List (Nat × Fam)
  /-- Unsolicited reports still to repeat, by entry; when the next general query is due. -/
  reports : List (Nat × Nat)
  queryAt : Nanos
  serial : Nat
  /-- The first sample instant of the window (R213). -/
  sampleAt : Option Nanos
  deriving DecidableEq, Repr, Inhabited

/-! ### Memory (ch. 13) -/

/-- Correctable errors of a DRAM device within the present hour of PTP time (R260). -/
structure DevErrors where
  channel : Nat
  subch : Nat
  rank : Nat
  device : Nat
  hour : Nat
  count : Nat
  warned : Bool
  deriving DecidableEq, Repr, Inhabited

/-- Everything of the memory controller that is not an object: refreshes postponed and when the last one came due, by (channel, bank)
(R256), whether a refresh was forced in this tick (R258), device errors. -/
structure MemoryS where
  owed : List ((Nat × Nat) × Nat)
  dueAt : List ((Nat × Nat) × Nanos)
  forced : Bool
  devices : List DevErrors
  deriving DecidableEq, Repr, Inhabited

/-! ### Ports and lanes (ch. 14) -/

/-- A cage (R274): whether a module is present and since when, what it is once it was read, and since when it has been
initialising. Instants are of the hardware counter. -/
structure CageS where
  present : Bool
  presentAt : Nanos
  info : Option CageModule
  initAt : Nanos
  deriving DecidableEq, Repr, Inhabited

/-- Bring-up of a unit (R266): when stage 1 and the present stage began and the last detect test was made, whether auto-negotiation has
resolved, and with Clause 74 FEC (R278), whether a fast relock runs, the first lane of the pair of a degraded attempt, whether ev 2407 was raised since stage 5, the
lanes found inverted and whether ev 2405 was raised in this bring-up. -/
structure BringS where
  began : Nanos
  entered : Nanos
  detectAt : Option Nanos
  negotiated : Bool
  fec74 : Bool
  relock : Bool
  pair : Option Nat
  declined : Bool
  inverted : List Nat
  reordered : Bool
  deriving DecidableEq, Repr, Inhabited

/-- Cages P0-P7 and M; units 0-31 logical ports, 32 mortar link, 33 and 34 backplane ports; how many times in a row
each lane failed stage 2 or 3. -/
structure PortsS where
  cages : List CageS
  units : List BringS
  fails : List Nat
  deriving DecidableEq, Repr, Inhabited

/-! ### Clocks and calibration (ch. 15) -/

/-- The clock monitors (R281-R288): by clock number 0-9, how many windows in a row were within tolerance; XB's first
count of its eight; whether the oven has settled; the clock that the time and lease counters run on (2 XA, 3 XB); by PLL,
relocks after a loss of lock and the reference a coasting PLL moves to; what the frequency counter was started on: measured clock,
reference, gate (R292). -/
structure ClockS where
  runs : List Nat
  xbFirst : Nat
  settled : Bool
  counterOn : Nat
  tries : List Nat
  moving : List (Option Nat)
  counting : Nat × Nat × Nat
  deriving DecidableEq, Repr, Inhabited

/-- A calibration run in progress (R294-R297): domain, trigger, whether it steps in service, trims stepped, and the lanes whose remaining
steps a retrain or fast relock cancelled (R295). -/
structure CalRun where
  domain : Nat
  trigger : Nat
  inService : Bool
  stepped : Nat
  cancelled : List Nat
  deriving DecidableEq, Repr, Inhabited

/-- The calibration sequencer (R293-R298, R333, R334): queued runs and triggers kept for the next bring-up, with their
triggers, runs in progress, domains that failed at bring-up, and the domains (64 more: lanes) whose last measured figure
is below its marginal limit. -/
structure CalS where
  queued : List (Nat × Nat)
  kept : List (Nat × Nat)
  running : List CalRun
  failed : List Nat
  marginal : List Nat
  deriving DecidableEq, Repr, Inhabited

/-! ### Power, hardware and Sett cores (ch. 17-19) -/

/-- How the module is powered: `fresh` right after reset, before any power-on sequence; `on`; `off` with its input gone or
its processor rails off after a thermal trip; `halted` at a failed step of Table 17.1; `recovery` in the loader. -/
inductive Power | fresh | on | off | tripped | halted | recovery
  deriving DecidableEq, Repr, Inhabited

/-- What of chapters 17-19 is no object. Instants are of the hardware counter. -/
structure HwS where
  power : Power
  /-- What the last boot found. -/
  boot : BootInfo
  /-- The firmware images A and B in flash (R326). -/
  images : List FwImage
  /-- The image a trial returns to, while one runs (R339). -/
  trialFrom : Option Nat
  /-- Step 1 and step 8 of Table 17.1; whether the processor rails have failed once (step 3); whether readiness has been at
  least WARMING ever since (R339). -/
  poweredAt : Nanos
  serviceAt : Nanos
  railRetry : Bool
  steady : Bool
  /-- Watchdog resets that count toward the fallback (R337); Retained. -/
  watchdogs : List Nanos
  /-- When the input fell below 42 V (R350), and feed switches opened by an internal short (R348). -/
  dipAt : Option Nanos
  shortAt : List (Option Nanos)
  /-- The I2C responder (R346): offset, alert, and the live bytes 64-79 as last updated. -/
  i2cOffset : Nat
  i2cAlert : Bool
  live : Octets
  /-- Samples in a row at or above warning, stop and trip; since when the junction has been below the clearing point of
  the stop; a stop that waits for a pending handover (R353, R354). -/
  hot : List Nat
  coolSince : Option Nanos
  thermalWait : Bool
  ejectorOpen : Bool
  ledTestAt : Option Nanos
  /-- The built-in test that runs: test, target, start (R371). -/
  test : Option (Nat × Nat × Nanos)
  /-- Heartbeats missed in a row by each Sett core (R364). -/
  misses : List Nat
  /-- The failures of the tick that claimed spares (R13): the tick; core, class and spare of each. -/
  claims : Nat × List (Nat × Nat × Nat)
  deriving DecidableEq, Repr, Inhabited

/-! ### The module -/

/-- The module: time, the object store, and the state of each chapter. -/
structure Mod where
  /-- Own time in ns since the SMPTE epoch (R17); a step of time moves it. -/
  now : Nanos
  /-- The hardware counter, in ns, that no step moves (R237): timeouts and the lease are measured on it. -/
  ctr : Nanos
  /-- The current base tick T (1402:00). -/
  tick : Nat
  /-- The tick family in force (R16). -/
  fam : Family
  /-- How many free values have been drawn (the model's own field; log 4). -/
  draws : Nat
  objs : Store
  /-- The object values as of the last base tick edge (R381, R394). -/
  edgeObjs : Store
  out : List Output
  raised : List Raised
  conds : List Condition
  limits : List Limiter
  /-- The keys of the largest and least values that have taken a value since boot and since they were last zeroed (R382). -/
  seen : List Nat
  /-- State of the time function and of the twin function: 0 STOPPED, 1 STARTING, 2 RUNNING, 3 STOPPING. -/
  timeFn : Nat
  twinFn : Nat
  /-- A reset is under way: the event log of the next boot starts when the command ends (R335). -/
  rebooting : Bool
  preud : PreudS
  /-- Ingest and composition of channels 0-31. -/
  chans : List ChanS
  /-- Renditions 0-127. -/
  rends : List RendS
  /-- Bond groups 0-31. -/
  groups : List GroupS
  /-- Scaler unit of each placed (channel, rung) pass (R77). -/
  scalers : List ((Nat × Nat) × Nat)
  /-- Lanes of a pipeline: (pipeline, lane, rendition, tile column, quarter stones x k cost) (R79). -/
  lanes : List (Nat × Nat × Nat × Nat × Nat)
  /-- The tile course whose CTU a column lane codes (R80): pipeline, lane; rendition, tile column, frame tick of the picture. -/
  serving : List ((Nat × Nat) × Nat × Nat × Nat)
  /-- Pipelines whose rate control was lost and whose first course in fallback is still to come, with the groups planned there
  (R144). -/
  fallbacks : List (Nat × List Nat)
  /-- The previous course's rows of each input of a channel's ladder, by channel and picture: composed, then rungs (R75). -/
  ladderRows : List ((Nat × Nat) × List (List Row))
  /-- Check channels 0-15. -/
  checks : List CheckS
  twin : TwinS
  /-- Decode engines 0-1. -/
  decs : List DecodeS
  /-- Rings of renditions 0-127 (none: not reserved) and read slots 0-15 (ch. 10). -/
  rings : List (Option Ring)
  slots : List SlotS
  /-- Sett cores whose service is down: no spare was free (R13, R364). -/
  downCores : List Nat
  /-- The media fabric (ch. 11). -/
  fab : FabricS
  /-- The PTP servo (ch. 2). -/
  servo : ServoS
  /-- The memory controller (ch. 13). -/
  mem : MemoryS
  /-- Ports and lanes (ch. 14). -/
  prt : PortsS
  /-- Clocks and calibration (ch. 15). -/
  clk : ClockS
  cal : CalS
  /-- Power, hardware and Sett cores (ch. 17-19). -/
  hw : HwS
  deriving DecidableEq, Repr, Inhabited

/-- The state of the block: the module, its event log, and the commands waiting, first in, first out. -/
structure State where
  m : Mod
  events : EventLog
  pending : List Instr
  deriving DecidableEq, Repr


/-! ### The module right after reset -/

/-- An empty window of queue samples. -/
def QSample.empty : QSample := ⟨0, 0, 0, 0, 0, List.replicate 16 0, List.replicate 16 0⟩

/-- The fabric as it starts. -/
def FabricS.boot : FabricS :=
  let p : PortQ := ⟨List.replicate 8 [], 0, true, List.replicate 5 0, List.replicate 5 (9216 * 8000, 0), 0,
    List.replicate 8 QSample.empty, 1000, 50000⟩
  ⟨List.replicate 32 p, [], [], [], [], [], [], [], 0, 0, none⟩

/-- The mortar link with no number used. -/
def MortarS.boot : MortarS :=
  { (default : MortarS) with
    sendSeq := List.replicate 4 0
    recvSeq := List.replicate 4 0
    freed := List.replicate 4 0
    peerFreed := List.replicate 4 0
    spent := List.replicate 4 0
    silent := true }

/-- The state a twin function starts with. -/
def TwinS.begin (t : TwinS) (ctr : Nanos) : TwinS :=
  { (default : TwinS) with
    requests := t.requests
    acquireAt := t.acquireAt
    countersignHold := t.countersignHold
    restartUntil := t.restartUntil
    slots := t.slots
    acks := [(0, ctr), (1, ctr), (2, ctr)]
    mortar := MortarS.boot }

/-- The twin as it is at boot, with the witness's restart hold from an instant of the counter (R233). -/
def TwinS.boot (ctr : Nanos) : TwinS := { TwinS.begin default ctr with restartUntil := ctr + 10000000 }

/-- A channel that has never run. -/
def ChanS.boot : ChanS :=
  { (default : ChanS) with
    layers := List.replicate 4 default
    audio := List.replicate 4 default
    anc := List.replicate 2 default }

/-- A rendition that has never run. -/
def RendS.boot : RendS := { (default : RendS) with hist := List.replicate 34 [] }

/-- Ports that no module is in and no bring-up has begun on. -/
def PortsS.boot : PortsS := ⟨List.replicate 9 default, List.replicate 35 default, List.replicate 38 0⟩

/-- Clock monitors that have judged nothing: the counters run on XA (R281). -/
def ClockS.boot : ClockS := ⟨List.replicate 10 0, 0, false, 2, List.replicate 6 0, List.replicate 6 none, (0, 0, 0)⟩

/-- The firmware a module is delivered with: release F3.2, coding generation 3 (1200:02-04). -/
def FwImage.delivered : FwImage := ⟨true, true, 0, 0, 3, pad 16 [70, 51, 46, 50]⟩

/-- The live bytes 64-79 of the mason's mark before step 8 (Table 18.4). -/
def liveBefore : Octets := [0, 0, 0, 0, 0x7F, 0xFF, 0x7F, 0xFF, 0, 52, 0, 0, 0, 0, 0, 0]

/-- The hardware of a module that has booted nothing. -/
def HwS.idle : HwS :=
  { (default : HwS) with
    power := .fresh
    images := List.replicate 2 FwImage.delivered
    shortAt := [none, none]
    live := liveBefore
    steady := true
    hot := [0, 0, 0]
    misses := List.replicate 64 0
    claims := (0, []) }

/-- The module right after reset: every object at its default, every function STOPPED, nothing held (R12, R335). Time and
tick are zero until the time function has a time to follow (log 3). -/
def Mod.reset : Mod :=
  { now := 0
    ctr := 0
    tick := 0
    fam := .f30ntsc
    draws := 0
    objs := []
    edgeObjs := []
    out := []
    raised := []
    conds := []
    limits := []
    seen := []
    timeFn := 0
    twinFn := 0
    rebooting := false
    preud := default
    chans := List.replicate 32 ChanS.boot
    rends := List.replicate 128 RendS.boot
    groups := List.replicate 32 default
    scalers := []
    lanes := []
    serving := []
    fallbacks := []
    ladderRows := []
    checks := List.replicate 16 default
    twin := TwinS.boot 0
    decs := List.replicate 2 default
    rings := List.replicate 128 none
    slots := List.replicate 16 default
    downCores := []
    fab := FabricS.boot
    servo := default
    mem := ⟨[], [], false, []⟩
    prt := PortsS.boot
    clk := ClockS.boot
    cal := default
    hw := HwS.idle }

/-- The machine right after reset, no command waiting. The boot epoch is one no boot has counted yet (log 3). -/
def State.reset : State := ⟨Mod.reset, ⟨0, 0, []⟩, []⟩

end Sys2Proof.Machine
end

