-- ==== Sys2Proof/Machine/Ops.lean ====
section
/-! DEFINITION. The named operations over the state: the object store, events and conditions, counters, time, and
what the module sends. -/

namespace Sys2Proof.Machine

/-! ### Values -/

/-- A value as an integer; octets count as 0. -/
def Val.int : Val → Int
  | .num v => v
  | .bytes _ => 0

/-- A value as a natural number. -/
def Val.nat (v : Val) : Nat := v.int.toNat

/-- A value as octets; a number has none. -/
def Val.octets : Val → Octets
  | .num _ => []
  | .bytes b => b

/-! ### The object store (log 5) -/

/-- The key of an object's subitem. -/
def keyOf (idx sub : Nat) : Nat := idx * 256 + sub

/-- The listed value of a key. -/
def Store.lookup : Store → Nat → Option Val
  | [], _ => none
  | (k, v) :: r, key => if k = key then some v else Store.lookup r key

/-- The store with a value listed, in its place. -/
def Store.insert : Store → Nat → Val → Store
  | [], key, v => [(key, v)]
  | (k, w) :: r, key, v =>
    if key < k then (key, v) :: (k, w) :: r
    else if key = k then (key, v) :: r
    else (k, w) :: Store.insert r key v

/-- The store with a key unlisted. -/
def Store.remove : Store → Nat → Store
  | [], _ => []
  | (k, w) :: r, key => if k = key then Store.remove r key else (k, w) :: Store.remove r key

/-- The canonical form: keys strictly rising. -/
def Store.rising : Store → Bool
  | [] => true
  | (k, _) :: r => (match r with | [] => true | (k', _) :: _ => k < k') && Store.rising r

/-- The index under which the store keeps the fields of flow entry e (3010:02-1A are one window over all entries). -/
def flowIdx (e : Nat) : Nat := 0x10000 + e

/-- The dictionary index whose rows describe an index of the store. -/
def dictIdx (idx : Nat) : Nat := if 0x10000 ≤ idx then 0x3010 else idx

/-- The fuse ID of the mason's mark (1000:05). -/
def Store.fuse (st : Store) : Nat :=
  match st.lookup (keyOf 0x1000 0x05) with
  | some v => v.nat
  | none => 0

/-- The value an object reads when nothing is listed for it. -/
def Store.default (st : Store) (idx sub : Nat) : Val := defaultVal st.fuse (dictIdx idx) sub

/-- The value of an object. -/
def Store.get (st : Store) (idx sub : Nat) : Val :=
  match st.lookup (keyOf idx sub) with
  | some v => v
  | none => st.default idx sub

/-- The store with an object's value replaced. A value equal to the default is not listed. -/
def Store.set (st : Store) (idx sub : Nat) (v : Val) : Store :=
  if v = st.default idx sub then st.remove (keyOf idx sub) else st.insert (keyOf idx sub) v

/-- The value of an object in force. -/
def Mod.get (m : Mod) (idx sub : Nat) : Val := m.objs.get idx sub

/-- The value of an object as a number. -/
def Mod.n (m : Mod) (idx sub : Nat) : Nat := (m.get idx sub).nat

/-- The value of an object as an integer. -/
def Mod.z (m : Mod) (idx sub : Nat) : Int := (m.get idx sub).int

/-- The octets of an object. -/
def Mod.octets (m : Mod) (idx sub : Nat) : Octets := (m.get idx sub).octets

/-- A Boolean object. -/
def Mod.flag (m : Mod) (idx sub : Nat) : Bool := m.n idx sub ≠ 0

/-- Sets an object. -/
def Mod.set (m : Mod) (idx sub : Nat) (v : Val) : Mod := { m with objs := m.objs.set idx sub v }

/-- Sets an object to a number. -/
def Mod.put (m : Mod) (idx sub : Nat) (n : Nat) : Mod := m.set idx sub (.num n)

/-- Sets an object to an integer. -/
def Mod.putZ (m : Mod) (idx sub : Nat) (z : Int) : Mod := m.set idx sub (.num z)

/-- Sets an object to octets. -/
def Mod.putB (m : Mod) (idx sub : Nat) (b : Octets) : Mod := m.set idx sub (.bytes b)

/-- Sets a Boolean object. -/
def Mod.putFlag (m : Mod) (idx sub : Nat) (b : Bool) : Mod := m.put idx sub (if b then 1 else 0)

/-- Returns a run of subitems to their defaults. -/
def Mod.clear (m : Mod) (idx first last : Nat) : Mod :=
  { m with objs := m.objs.filter fun kv => !(keyOf idx first ≤ kv.1 && kv.1 ≤ keyOf idx last) }

/-- Returns the subitems of a run of indexes to their defaults. -/
def Mod.clearRange (m : Mod) (idx0 idx1 first last : Nat) : Mod :=
  { m with objs := m.objs.filter fun kv =>
      !(within (kv.1 / 256) idx0 idx1 && within (kv.1 % 256) first last) }

/-- Sets and clears bit `b` of a bit field. -/
def setBit (n b : Nat) (on : Bool) : Nat :=
  if on then (if n.testBit b then n else n + 2 ^ b) else (if n.testBit b then n - 2 ^ b else n)

/-- Sets a bit of an object. -/
def Mod.putBit (m : Mod) (idx sub b : Nat) (on : Bool) : Mod := m.put idx sub (setBit (m.n idx sub) b on)

/-! ### Counters (R370) -/

/-- The bits of an unsigned type. -/
def Ty.width : Ty → Nat
  | .u8 => 8
  | .u16 => 16
  | .u32 => 32
  | .bits32 => 32
  | _ => 64

/-- A counter advanced: a U64 wraps, a narrower one stops at its greatest value (R370). -/
def advance (ty : Ty) (old k : Nat) : Nat :=
  match ty with
  | .u64 => (old + k) % 2 ^ 64
  | t => min (old + k) (2 ^ t.width - 1)

/-- Advances a counter by k. -/
def Mod.count (m : Mod) (idx sub k : Nat) : Mod :=
  match findField (dictIdx idx) sub with
  | some f => m.put idx sub (advance f.ty (m.n idx sub) k)
  | none => m

/-- Advances a counter by one. -/
def Mod.bump (m : Mod) (idx sub : Nat) : Mod := m.count idx sub 1

/-- The first value a largest or least value observes stands, whatever its default (R382). -/
def Mod.putFirst (m : Mod) (idx sub : Nat) (v : Int) : Mod := { m.putZ idx sub v with seen := keyOf idx sub :: m.seen }

/-- A largest value observes a value (R382). -/
def Mod.putMax (m : Mod) (idx sub : Nat) (v : Int) : Mod :=
  if !m.seen.contains (keyOf idx sub) then m.putFirst idx sub v else if m.z idx sub < v then m.putZ idx sub v else m

/-- A least value observes a value (R382). -/
def Mod.putMin (m : Mod) (idx sub : Nat) (v : Int) : Mod :=
  if !m.seen.contains (keyOf idx sub) then m.putFirst idx sub v else if v < m.z idx sub then m.putZ idx sub v else m

/-- The largest and least values among some objects observe anew (R382). -/
def Mod.unsee (m : Mod) (idx0 idx1 first last : Nat) : Mod :=
  { m with seen := m.seen.filter fun k => !(within (k / 256) idx0 idx1 && within (k % 256) first last) }

/-! ### Time -/

/-- Own time and the hardware counter brought to the instant of a command; time never runs backward. -/
def Mod.at (m : Mod) (t : Nanos) : Mod := { m with now := max m.now t, ctr := m.ctr + (t - m.now) }

/-- The instant of the edge of the current tick, the TIME stamped on events and objects. -/
def Mod.tickTime (m : Mod) : Nanos := m.fam.edge m.tick

/-- The rate step k that a rate-step value 0, 1, 2 names (Table 2.1). -/
def stepOf (v : Nat) : Nat := if v = 0 then 1 else if v = 1 then 2 else 4

/-- The rate step of channel n (4000:02). -/
def Mod.chanStep (m : Mod) (n : Nat) : Nat := stepOf (m.n (0x4000 + n) 2)

/-- The channel of rendition r (5000:02). -/
def Mod.rendChan (m : Mod) (r : Nat) : Nat := m.n (0x5000 + r) 2

/-- The rate step of rendition r: that of its channel. -/
def Mod.rendStep (m : Mod) (r : Nat) : Nat := m.chanStep (m.rendChan r)

/-- Whether rendition r is enabled: a disabled one codes nothing and counts toward no limit (5000:01; log 59). -/
def Mod.rendOn (m : Mod) (r : Nat) : Bool := m.flag (0x5000 + r) 1

/-- The rate step declared by decode engine e (5C00:07). -/
def Mod.decodeStep (m : Mod) (e : Nat) : Nat := stepOf (m.n (0x5C00 + e) 7)

/-- The apply grain of an RT object in base ticks (R22, Table 20.4, R390). -/
def Mod.grainOf (m : Mod) (idx : Nat) : Nat :=
  if within idx 0x4000 0x401F then 34 * m.chanStep (idx - 0x4000)
  else if within idx 0x4900 0x491F then 34 * m.chanStep (idx - 0x4900)
  else if within idx 0x5400 0x547F then 34 * m.rendStep (idx - 0x5400)
  else if within idx 0x6080 0x60FF then 34 * m.rendStep (idx - 0x6080)
  else if within idx 0x6200 0x620F then 34 * m.rendStep (m.n idx 3)
  else 1

/-- The apply grain of a function in base ticks (Table 16.7). -/
def Mod.fnGrain (m : Mod) (fid : Nat) : Nat :=
  if within fid 0x0100 0x011F then 34 * m.chanStep (fid - 0x0100)
  else if within fid 0x0200 0x027F then 34 * m.rendStep (fid - 0x0200)
  else if within fid 0x0300 0x0301 then 34 * m.decodeStep (fid - 0x0300)
  else 1

/-- The tick at which an untimed write or command accepted now applies (R19, R311): the first of the grain after
acceptance. -/
def Mod.nextApply (m : Mod) (grain : Nat) : Nat := nextOnGrain (max m.tick (m.fam.tickOf m.now) + 1) grain

/-- The tick at which a launch naming a TIME applies (R22). -/
def Mod.timedApply (m : Mod) (time : Nanos) (grain : Nat) : Nat := m.fam.firstAt time grain

/-! ### Function states (R311) -/

abbrev stopped : Nat := 0
abbrev starting : Nat := 1
abbrev running : Nat := 2
abbrev stopping : Nat := 3

/-- Whether a function id is one of Table 16.7. -/
def fnExists (fid : Nat) : Bool :=
  within fid 1 4 || within fid 0x10 0x17 || within fid 0x100 0x11F || within fid 0x200 0x27F || within fid 0x300 0x301

/-- The object that shows a function's state; none for the time and the twin function. -/
def fnObject (fid : Nat) : Option (Nat × Nat) :=
  if fid = 2 then some (0x2000, 1)
  else if fid = 3 then some (0x6001, 1)
  else if within fid 0x10 0x17 then some (0x2440 + (fid - 0x10), 1)
  else if within fid 0x100 0x11F then some (0x4100 + (fid - 0x100), 1)
  else if within fid 0x200 0x27F then some (0x5080 + (fid - 0x200), 1)
  else if within fid 0x300 0x301 then some (0x5C80 + (fid - 0x300), 1)
  else none

/-- The state of a function. -/
def Mod.fn (m : Mod) (fid : Nat) : Nat :=
  if fid = 1 then m.timeFn else if fid = 4 then m.twinFn
  else match fnObject fid with
    | some (i, s) => m.n i s
    | none => 0

/-- Sets the state of a function. -/
def Mod.setFn (m : Mod) (fid st : Nat) : Mod :=
  if fid = 1 then { m with timeFn := st } else if fid = 4 then { m with twinFn := st }
  else match fnObject fid with
    | some (i, s) => m.put i s st
    | none => m

/-- Function ids of Table 16.7. -/
abbrev timeFid : Nat := 1
abbrev memoryFid : Nat := 2
abbrev replayFid : Nat := 3
abbrev twinFid : Nat := 4
def portFid (q : Nat) : Nat := 0x10 + q
def chanFid (n : Nat) : Nat := 0x100 + n
def rendFid (r : Nat) : Nat := 0x200 + r
def decodeFid (e : Nat) : Nat := 0x300 + e

/-- Whether a function counts: STARTING or RUNNING. -/
def Mod.counts (m : Mod) (fid : Nat) : Bool := m.fn fid = starting || m.fn fid = running

/-- The media functions (R31): channels, renditions, decode engines, replay. -/
def mediaFids : List Nat :=
  (List.range 32).map chanFid ++ (List.range 128).map rendFid ++ [decodeFid 0, decodeFid 1, replayFid]

/-- Whether a function id is a media function's. -/
def isMediaFid (fid : Nat) : Bool := fid = 3 || within fid 0x100 0x11F || within fid 0x200 0x27F || within fid 0x300 0x301

/-- Whether any media function is RUNNING (R33). -/
def Mod.mediaRunning (m : Mod) : Bool := mediaFids.any fun f => m.fn f = running

/-- Whether every media function is STOPPED (R39). -/
def Mod.mediaStopped (m : Mod) : Bool := mediaFids.all fun f => m.fn f = stopped

/-! ### Events (R35, R360-R363) -/

/-- Severity of an event code (Table 19.2); the codes of R363 whose severity depends on a parameter are given
theirs where they are raised. -/
def severityOf (code : Nat) : Nat :=
  if code ∈ [0x1001, 0x1101, 0x1105, 0x1201, 0x1204, 0x1401, 0x1801, 0x1C01, 0x4805, 0x5005, 0x5801, 0x6001, 0x6002,
    0x7001, 0x7402] then 0
  else if code ∈ [0x1002, 0x1103, 0x1104, 0x1202, 0x1405, 0x1406, 0x1D05, 0x1D07, 0x2006, 0x2404, 0x2405, 0x2408,
    0x240E, 0x3002, 0x5014, 0x7003, 0x7006] then 1
  else if code ∈ [0x1003, 0x1102, 0x1106, 0x1205, 0x1402, 0x1404, 0x1C02, 0x1C03, 0x1D01, 0x1D04, 0x1D06, 0x1D08,
    0x1D09, 0x2002, 0x2004, 0x2005, 0x240B, 0x240D, 0x3001, 0x3802, 0x4003, 0x4004, 0x4007, 0x4008, 0x4801, 0x5011,
    0x6003, 0x7012, 0x7014] then 2
  else if code ∈ [0x1803, 0x1804, 0x1807, 0x1D02, 0x1D03, 0x240A, 0x2802, 0x2803, 0x5013, 0x7005, 0x7007, 0x7010,
    0x7013] then 4
  else if code ∈ [0x1808, 0x2001] then 5
  else 3

/-- Puts an event into the current tick and counts it (R35, 7400:01-06, 7410). -/
def Mod.raiseRaw (m : Mod) (code res severity : Nat) (params : List Nat) : Mod :=
  let x : Raised := ⟨code, res, severity, params⟩
  let m : Mod := { m with raised := m.raised ++ [x] }
  (m.bump 0x7400 (severity % 8 + 1)).bump 0x7410 (areaOfEvent code + 1)

/-- Raises an event with the severity of Table 19.2. -/
def Mod.raise (m : Mod) (code res : Nat) (params : List Nat) : Mod := m.raiseRaw code res (severityOf code) params

/-- 7400:08 and 7400:09 follow the conditions set (R361). -/
def Mod.showConds (m : Mod) : Mod :=
  (m.put 0x7400 8 (min m.conds.length 65535)).put 0x7400 9
    (if m.conds = [] then 0xFF else (m.conds.map fun c => c.severity).foldl max 0)

/-- Whether a condition is set (R361). -/
def Mod.condSet (m : Mod) (code res : Nat) : Bool := m.conds.any fun c => c.code = code && c.res = res

/-- Sets a condition: a second set of one already set raises nothing (R361). -/
def Mod.raiseCond (m : Mod) (code res : Nat) (params : List Nat) : Mod :=
  if m.condSet code res then m
  else
    let m : Mod := { m with conds := m.conds ++ [⟨code, res, severityOf code⟩] }
    m.showConds.raise code res params

/-- Sets a condition that a rule raises anew each time it happens (R219, R282). -/
def Mod.raiseAgain (m : Mod) (code res : Nat) (params : List Nat) : Mod :=
  if m.condSet code res then m.raise code res params else m.raiseCond code res params

/-- Raises a clearing event: bit 7 and the severity of the conditions it clears, or INFO without bit 7 where none of
them is set (R361). -/
def Mod.raiseClearIf (m : Mod) (code res : Nat) (clears : Condition → Bool) (params : List Nat) : Mod :=
  let gone := m.conds.filter clears
  if gone = [] then m.raiseRaw code res 0 params
  else
    let m : Mod := { m with conds := m.conds.filter fun c => !clears c }
    m.showConds.raiseRaw code res (128 + (gone.map fun c => c.severity).foldl max 0) params

/-- Raises an event that clears the conditions of some codes on its own resource (R361). -/
def Mod.raiseClear (m : Mod) (code res : Nat) (clears : List Nat) (params : List Nat) : Mod :=
  m.raiseClearIf code res (fun c => clears.contains c.code && c.res = res) params

/-- Raises an event that clears the conditions of some codes for the whole module (ev 7004, R361). -/
def Mod.raiseClearAll (m : Mod) (code res : Nat) (clears : List Nat) (params : List Nat) : Mod :=
  m.raiseClearIf code res (fun c => clears.contains c.code) params

/-- Raises an event limited to one per period for its key (R362); `k` occurrences more, and the count of those it stands
for comes after the other parameters. -/
def Mod.raiseLimitedBy (m : Mod) (code res : Nat) (period : Nanos) (k : Nat) (params : List Nat) : Mod :=
  match m.limits.find? fun l => l.code = code && l.res = res with
  | none =>
    let m : Mod := { m with limits := m.limits ++ [⟨code, res, m.now, 0⟩] }
    m.raise code res (params ++ [k])
  | some l =>
    let rest := m.limits.filter fun l => !(l.code = code && l.res = res)
    if l.lastAt + period ≤ m.now then
      let m : Mod := { m with limits := rest ++ [⟨code, res, m.now, 0⟩] }
      m.raise code res (params ++ [l.held + k])
    else
      let m : Mod := { m with limits := rest ++ [⟨code, res, l.lastAt, l.held + k⟩] }
      m.bump 0x7400 7

/-- Raises a limited event for one occurrence (R362). -/
def Mod.raiseLimited (m : Mod) (code res : Nat) (period : Nanos) (params : List Nat) : Mod :=
  m.raiseLimitedBy code res period 1 params

/-- Events of one tick by ascending code, then ascending resource (Table 2.3). -/
def Raised.before (x y : Raised) : Bool := x.code < y.code || (x.code = y.code && x.res ≤ y.res)

/-- Puts a raised event in its place, after those of the same code and resource. -/
def insertRaised (x : Raised) : List Raised → List Raised
  | [] => [x]
  | y :: r => if y.before x then y :: insertRaised x r else x :: y :: r

/-- The raised events of a tick in the order of their sequence numbers (R35). -/
def sortRaised (l : List Raised) : List Raised := l.foldl (fun acc x => insertRaised x acc) []

/-- Gives raised events their sequence numbers, boot epoch and TIME (R35). -/
def numberEvents (epoch : Nat) (time : Nanos) : Nat → List Raised → List EventRec
  | _, [] => []
  | n, x :: r => ⟨n, epoch, time, x.code, x.severity, x.params⟩ :: numberEvents epoch time (n + 1) r

/-- The events a log holds at most (R318). -/
abbrev logLimit : Nat := 1048576

/-- The log after the events of a tick: numbers rise by one per event, the oldest beyond the limit go (R35, R318). -/
def EventLog.append (e : EventLog) (time : Nanos) (l : List Raised) : EventLog :=
  let recs := numberEvents e.epoch time e.next (sortRaised l)
  let log := e.log ++ recs
  { e with next := e.next + recs.length, log := log.drop (log.length - logLimit) }

/-- The sequence number of the oldest event held (1160:01). -/
def EventLog.oldest (e : EventLog) : Nat := e.next - e.log.length

/-! ### Sending, and free values -/

/-- Records something that leaves the module. -/
def Mod.send (m : Mod) (o : Output) : Mod := { m with out := m.out ++ [o] }

/-- Steps to the next draw of a free value. -/
def Mod.draw (m : Mod) : Mod := { m with draws := m.draws + 1 }

/-- Steps past k draws. -/
def Mod.drawN (m : Mod) (k : Nat) : Mod := { m with draws := m.draws + k }

/-- Applies an operation for each element of a list, in order. -/
def Mod.each {α : Type} (m : Mod) (l : List α) (f : Mod → α → Mod) : Mod := l.foldl f m

/-- The element of a list at a place. -/
def nth {α : Type} [Inhabited α] (l : List α) (i : Nat) : α := l.getD i default

/-- The channel's own state. -/
def Mod.chan (m : Mod) (n : Nat) : ChanS := nth m.chans n

/-- Changes a channel's own state. -/
def Mod.modChan (m : Mod) (n : Nat) (f : ChanS → ChanS) : Mod := { m with chans := m.chans.modify n f }

/-- The rendition's own state. -/
def Mod.rend (m : Mod) (r : Nat) : RendS := nth m.rends r

/-- Changes a rendition's own state. -/
def Mod.modRend (m : Mod) (r : Nat) (f : RendS → RendS) : Mod := { m with rends := m.rends.modify r f }

/-- The bond group's own state. -/
def Mod.group (m : Mod) (g : Nat) : GroupS := nth m.groups g

/-- Changes a bond group's own state. -/
def Mod.modGroup (m : Mod) (g : Nat) (f : GroupS → GroupS) : Mod := { m with groups := m.groups.modify g f }

/-- Keeps or replaces: the state changed if a condition holds. -/
def Mod.when (m : Mod) (c : Bool) (f : Mod → Mod) : Mod := if c then f m else m

/-- Counts a frame sent from a queue of a logical port (3840:01-08, 3840:14). -/
def Mod.countSent (m : Mod) (port q bytes : Nat) : Mod := (m.bump (0x3840 + port) (1 + q)).count (0x3840 + port) 0x14 bytes

/-- Counts a frame of the module's own, whose length no rule gives, as sent from a queue. -/
def Mod.countOwn (m : Mod) (port q : Nat) : Mod := (m.countSent port q (Config.frameOctets m.draws)).draw

/-- Whether a PLL coasts at its floor or locks again after it (R283). -/
def Mod.pllCoasts (m : Mod) (k : Nat) : Bool := m.n (0x1810 + k) 1 = 3 || m.n (0x1810 + k) 1 = 1

/-- Whether CPLL or MPLL is not at nominal (R285). -/
def Mod.coreCoasts (m : Mod) : Bool := m.pllCoasts 0 || m.pllCoasts 1

/-! ### Refusals on the wire (Table 16.4) -/

/-- A refusal: status, reason, and the object and subitem concerned (Table 16.2). -/
structure Refuse where
  status : Nat
  reason : Nat
  obj : Nat
  sub : Nat
  deriving DecidableEq, Repr, Inhabited

abbrev noSuchObject : Nat := 0x01
abbrev outOfRange : Nat := 0x02
abbrev accessDenied : Nat := 0x03
abbrev fitCheck : Nat := 0x04
abbrev conflict : Nat := 0x05
abbrev notReady : Nat := 0x06
abbrev noResource : Nat := 0x07
abbrev tooLate : Nat := 0x08
abbrev failedAccess : Nat := 0x09
abbrev roleDenied : Nat := 0x0A
abbrev noSession : Nat := 0x0B
abbrev outOfSequence : Nat := 0x0C
abbrev malformed : Nat := 0x0D

/-- The first failure of a list of checks. -/
def firstOf : List (Unit → Option Refuse) → Option Refuse
  | [] => none
  | c :: r => match c () with
    | some x => some x
    | none => firstOf r

/-- A refusal where a condition does not hold. -/
def need (ok : Bool) (x : Refuse) : Option Refuse := if ok then none else some x

/-- A big-endian number from its octets. -/
def natOf (b : Octets) : Nat := b.foldl (fun (a : Nat) (x : Byte) => a * 256 + x.toNat) 0

/-! ### Wire values (Table 0.1) -/

/-- A number as n big-endian octets (R3). -/
def beOctets : Nat → Nat → Octets
  | 0, _ => []
  | n + 1, v => BitVec.ofNat 8 (v / 256 ^ n) :: beOctets n v

/-- The octets a type takes; none where they vary. -/
def Ty.octets : Ty → Option Nat
  | .u8 => some 1
  | .u16 => some 2
  | .u32 => some 4
  | .u64 => some 8
  | .i16 => some 2
  | .i32 => some 4
  | .bool => some 1
  | .enum8 => some 1
  | .bits32 => some 4
  | .time => some 10
  | .dur => some 8
  | .str n => some n
  | .blob => none

/-- A value in the encoding of its type (Table 0.1). -/
def encodeVal (ty : Ty) (v : Val) : Octets :=
  match ty, v with
  | .time, .num z => beOctets 6 (z.toNat / second) ++ beOctets 4 (z.toNat % second)
  | .str n, .bytes b => b.take n ++ List.replicate (n - b.length) 0
  | .blob, .bytes b => b
  | _, .bytes b => b
  | t, .num z => match t.octets with
    | some k => beOctets k (z % ((2 ^ (8 * k) : Nat) : Int)).toNat
    | none => []

/-! ### A command's step -/

/-- A command's effect on the block: own time comes to the command's instant, the effect follows, and if it reset
the module the event log of the next boot begins (R35, R335). -/
def State.settle (s : State) (m : Mod) : State :=
  if m.rebooting then
    { s with m := { m with rebooting := false }, events := ⟨s.events.epoch + 1, 0, []⟩ }
  else { s with m := m }

/-- Whether the module is powered and past Table 17.1: it acts on commands (R324, R325). -/
def Mod.runs (m : Mod) : Bool := m.hw.power = .on || m.hw.power = .fresh

/-- A command whose effect needs the event log, and whose effect does not depend on the module's being powered. -/
def actAnyE (t : Nanos) (g : EventLog → Mod → Mod) (s : State) : Host.Outcome State Fault Refusal :=
  .next (s.settle (g s.events (s.m.at t)))

/-- A command of the standby domain: what it does does not depend on the processor's being powered. -/
def actAny (t : Nanos) (g : Mod → Mod) (s : State) : Host.Outcome State Fault Refusal := actAnyE t (fun _ m => g m) s

/-- A command whose effect needs the event log. -/
def actE (t : Nanos) (g : EventLog → Mod → Mod) (s : State) : Host.Outcome State Fault Refusal :=
  actAnyE t (fun e m => if m.runs then g e m else m) s

/-- A command's meaning from its effect on the module. -/
def act (t : Nanos) (g : Mod → Mod) (s : State) : Host.Outcome State Fault Refusal :=
  actE t (fun _ m => g m) s

/-- Inserts into a list kept in an order. -/
def insertBy {α : Type} (before : α → α → Bool) (x : α) : List α → List α
  | [] => [x]
  | y :: r => if before x y then x :: y :: r else y :: insertBy before x r

/-- Sorts by an order; equal elements keep their places. -/
def sortBy {α : Type} (before : α → α → Bool) (l : List α) : List α :=
  l.foldl (fun acc x => insertBy (fun a b => before a b && !before b a) x acc) []

end Sys2Proof.Machine
end

