-- ==== Sys2Proof/Machine/Pictures.lean ====
section
/-! DEFINITION. Picture geometry and samples: rungs and courses (Table 1.6, R46), the samples a course holds (R48),
and black (R48). -/

namespace Sys2Proof.Machine

/-- Width, height and course height of a size 0-3 (Table 1.6). -/
def rungWidth (size : Nat) : Nat := if size = 0 then 7680 else if size = 1 then 3840 else if size = 2 then 1920 else 960
def rungHeight (size : Nat) : Nat := if size = 0 then 4320 else if size = 1 then 2160 else if size = 2 then 1080 else 540
def courseHeight (size : Nat) : Nat := if size = 0 then 128 else if size = 1 then 64 else if size = 2 then 32 else 16

/-- The active lines of course c (R46). -/
def activeLines (size c : Nat) : Nat :=
  let h := courseHeight size
  min h (rungHeight size - c * h)

/-- The course a line belongs to. -/
def courseOfLine (size line : Nat) : Nat := line / courseHeight size

/-- How far samples received for a row reach from `x` without a gap. -/
def reach (spans : List Srd) : Nat → Nat → Nat
  | 0, x => x
  | fuel + 1, x =>
    match spans.find? fun s => s.offset ≤ x && x < s.offset + s.length with
    | none => x
    | some s => reach spans fuel (s.offset + s.length)

/-- Whether every sample of a line was received. -/
def lineWhole (spans : List Srd) (size line : Nat) : Bool :=
  let here := spans.filter fun s => s.row = line
  rungWidth size ≤ reach here here.length 0

/-- A pixel group: the fewest whole pixels that fill whole octets, pairs where chroma is halved (R49; log 63): its octets and its
pixels, by sampling and depth. -/
def groupOctets (sampling depth : Nat) : Nat :=
  if sampling = 0 then (if depth = 0 then 5 else 6) else if depth = 0 then 15 else 9
def groupPixels (sampling depth : Nat) : Nat := if sampling ≠ 0 && depth = 0 then 4 else 2

/-- The samples of a picture that lie in a course. -/
def inCourse (spans : List Srd) (size c : Nat) : List Srd :=
  spans.filter fun s => courseOfLine size s.row = c && 0 < s.length

/-- The active lines of course c in which a sample is missing. -/
def linesShort (spans : List Srd) (size c : Nat) : Nat :=
  ((List.range (activeLines size c)).filter fun i => !lineWhole spans size (c * courseHeight size + i)).length

/-- How a course is classed at its receipt tick (R48). -/
inductive CourseClass | complete | part | empty
  deriving DecidableEq, Repr

/-- The class of a course from what was received of it (R48). -/
def classify (spans : List Srd) (size c : Nat) : CourseClass :=
  if inCourse spans size c = [] then .empty
  else if linesShort (inCourse spans size c) size c = 0 then .complete
  else .part

/-- Black of a format, per component (R48). -/
def blackOf (f : Fmt) : Nat × Nat × Nat :=
  let s := if f.depth = 0 then 1 else 4
  if f.range = 1 then (if f.sampling = 2 then (0, 0, 0) else (0, 512 * s, 512 * s))
  else if f.sampling = 2 then (64 * s, 64 * s, 64 * s) else (64 * s, 512 * s, 512 * s)

/-- The sample of component q (0-2) at a position of a row in component coordinates. -/
def rowAt (r : Row) (q x : Nat) : Option Nat := (if q = 0 then r.c0 else if q = 1 then r.c1 else r.c2)[x]?

/-- Whether component q has half the horizontal samples. -/
def halfChroma (sampling q : Nat) : Bool := sampling = 0 && q ≠ 0

/-- The number of samples of component q in a line. -/
def compWidth (f : Fmt) (q : Nat) : Nat := if halfChroma f.sampling q then rungWidth f.size / 2 else rungWidth f.size

/-- A big-endian U16 of a content at sample index i (R55). -/
def contentAt (b : Octets) (i : Nat) : Nat :=
  match b[2 * i]?, b[2 * i + 1]? with
  | some hi, some lo => hi.toNat * 256 + lo.toNat
  | _, _ => 0

/-- A slate or still sample of component q at (x, line): planar, each component whole (R55). -/
def planarAt (b : Octets) (w h sampling q x line : Nat) : Nat :=
  let cw := if sampling = 0 then w / 2 else w
  let i := if q = 0 then line * w + x else w * h + (q - 1) * (cw * h) + line * cw + x
  contentAt b i

/-- The slate converted to the channel's depth (R55). -/
def slateDepth (depth v : Nat) : Nat := if depth = 0 then min ((v + 2) / 4) 1023 else v

/-- A sample of a course: the last patch that covers it, else what lies under the patches; none where that is
transparent. `line` is a line of the picture, `x` in samples of the component. -/
def CourseData.sample (d : CourseData) (f : Fmt) (q x line : Nat) : Option Nat :=
  let lx := if halfChroma f.sampling q then 2 * x else x
  let hit := d.patches.reverse.find? fun s => s.row = line && s.offset ≤ lx && lx < s.offset + s.length
  match hit with
  | some s => some (((rowAt s.samples q ((lx - s.offset) / (if halfChroma f.sampling q then 2 else 1)))).getD 0)
  | none =>
    let b := blackOf f
    match d.base with
    | .black => some (if q = 0 then b.1 else if q = 1 then b.2.1 else b.2.2)
    | .transparent => none
    | .slate c => some (slateDepth f.depth (planarAt c (rungWidth f.size) (rungHeight f.size) f.sampling q x line))
    | .decoded rows => (rows[line]?).bind fun r => rowAt r q x

/-- n samples of a row from a position on: none outside the row. -/
def tapsAt (row : List Nat) (start : Int) (n : Nat) : List (Option Nat) :=
  (List.range n).map fun j => if start + j < 0 then none else row[(start + j).toNat]?

/-- Chroma of half the width at the full one (R61): the samples around each position, eight taps. -/
def upsampleRow (depth : Nat) (row : List Nat) : List Nat :=
  (List.range (2 * row.length)).map fun x =>
    min (2 ^ depth - 1) (Config.upsample (x % 2 = 1) (tapsAt row ((x / 2 : Nat) - 3) 8))

/-- Chroma at half the width, co-sited with even luma samples, as 12-bit values (R61): eleven taps around each position. -/
def decimateRow (row : List Nat) : List Nat :=
  (List.range (row.length / 2)).map fun x => min 4095 (Config.decimate (tapsAt row ((2 * x : Nat) - 5) 11))

/-- A quotient as the module takes it where no rule rounds it: up or down (R62, R75). -/
def rounded (place : Nat) (num : Int) (den : Nat) : Int :=
  num / den + (if num % den ≠ 0 && Config.roundsUp place num den then 1 else 0)

/-- The line whose samples stand at line `i` of course c: padding lines copy the last active line (R46). -/
def sourceLine (size c i : Nat) : Nat := min (c * courseHeight size + i) (rungHeight size - 1)

/-- The octets of a course as check point 1 takes them: component by component, row by row, each sample a
big-endian U16 (Table 19.5). -/
def CourseData.octets (d : CourseData) (f : Fmt) (c : Nat) : Octets :=
  (List.range 3).flatMap fun q => (List.range (activeLines f.size c)).flatMap fun i =>
    (List.range (compWidth f q)).flatMap fun x =>
      beOctets 2 ((d.sample f q x (c * courseHeight f.size + i)).getD 0)

end Sys2Proof.Machine
end

