-- ==== Sys2Proof/Machine/Check.lean ====
section
/-! DEFINITION. The CRC-32C check channels (R366-R369, Table 19.5). -/

namespace Sys2Proof.Machine

/-- What part of a unit some octets are: whether they begin and end a course, and the course. Course 34 stands for the whole of
a picture (point 9). -/
structure Span where
  first : Bool
  last : Bool
  course : Nat
  deriving DecidableEq, Repr, Inhabited

/-- The check channel's own state. -/
def Mod.check (m : Mod) (k : Nat) : CheckS := nth m.checks k

/-- Changes a check channel's own state. -/
def Mod.modCheck (m : Mod) (k : Nat) (f : CheckS → CheckS) : Mod := { m with checks := m.checks.modify k f }

/-- Whether octets begin a unit (R367): unit 0 a course, 1 a picture. -/
def Span.begins (x : Span) (unit : Nat) : Bool := x.first && (unit = 0 || x.course = 0 || x.course = 34)

/-- Whether octets end a unit. -/
def Span.ends (x : Span) (unit : Nat) : Bool := x.last && (unit = 0 || x.course = 33 || x.course = 34)

/-- Whether a result is latched after octets: at the end of a unit, in mode 2 after every course (R367). -/
def Span.latches (x : Span) (unit mode : Nat) : Bool := x.ends unit || (mode = 2 && x.last)

/-- The state with which a unit begins (R367, R368): a running value written, else the seed or the state before. -/
def CheckS.start (c : CheckS) (mode course : Nat) (seed : Nat) : CheckS :=
  match c.write with
  | some v => { c with reg := BitVec.ofNat 32 v, write := none, open_ := true }
  | none => if mode = 0 || (mode = 2 && (course = 0 || course = 34)) then { c with reg := BitVec.ofNat 32 seed, open_ := true }
    else { c with open_ := true }

/-- Latches a result with its unit's tick, and compares it (R368, R369). -/
def Mod.latch (m : Mod) (k result tick : Nat) : Mod :=
  let m := (((m.put (0x7480 + k) 2 result).put (0x7480 + k) 3 tick).bump (0x7480 + k) 4)
  if m.flag (0x7440 + k) 9 ∧ result ≠ m.n (0x7440 + k) 8 then
    ((m.bump (0x7480 + k) 5).put (0x7480 + k) 6 tick).raiseLimited 0x7401 k second [k, tick, result]
  else m

/-- Octets that pass a snoop point, seen by one check channel. -/
def Mod.snoopOne (m : Mod) (k : Nat) (bytes : Octets) (x : Span) (courseTick frameTick : Nat) : Mod :=
  let unit := m.n (0x7440 + k) 4
  let c := m.check k
  let c := if x.begins unit then c.start (m.n (0x7440 + k) 5) x.course (m.n (0x7440 + k) 6) else c
  if !c.open_ then m
  else
    let c : CheckS := { c with reg := crcRun c.reg bytes }
    let m := (m.modCheck k fun _ => { c with open_ := !x.ends unit }).put (0x7480 + k) 1 2
    if x.latches unit (m.n (0x7440 + k) 5) then m.latch k (crcResult c.reg).toNat (if unit = 0 then courseTick else frameTick) else m

/-- Whether a check channel's selected source is RUNNING (R367). -/
def Mod.checkSource (m : Mod) (k : Nat) : Bool :=
  let p := m.n (0x7440 + k) 1
  let s := m.n (0x7440 + k) 2
  if p = 1 || p = 2 then m.fn (chanFid s) = running
  else if p = 9 then m.fn (decodeFid s) = running
  else if p = 8 then m.fn (rendFid s) = running && m.fn replayFid = running
  else m.fn (rendFid s) = running

/-- Octets that pass a snoop point of Table 19.5: every enabled check channel set to that point, selector and
sub-selector takes them, while its source is RUNNING. -/
def Mod.snoop (m : Mod) (point sel sub : Nat) (bytes : Unit → Octets) (x : Span) (courseTick frameTick : Nat) : Mod :=
  ((List.range 16).filter fun k =>
    m.flag (0x7440 + k) 0x0A && m.n (0x7440 + k) 1 = point && m.n (0x7440 + k) 2 = sel && m.checkSource k
      && (m.n (0x7440 + k) 3 = sub || !(point = 2 || point = 6 || point = 7))).foldl
    (fun m k => m.snoopOne k (bytes ()) x courseTick frameTick) m

/-- The state object of a check channel, and its running value, at an edge (R367, R368). -/
def Mod.showCheck (m : Mod) (k : Nat) : Mod :=
  if !m.flag (0x7440 + k) 0x0A || m.n (0x7440 + k) 1 = 0 then m.put (0x7480 + k) 1 0
  else
    let m := m.put (0x7440 + k) 7 (m.check k).reg.toNat
    if !m.checkSource k then (m.modCheck k fun c => { c with open_ := false }).put (0x7480 + k) 1 3
    else if m.n (0x7480 + k) 1 = 2 then m
    else m.put (0x7480 + k) 1 1

end Sys2Proof.Machine
end

