-- ==== Sys2Proof/Machine/Ingest.lean ====
section
/-! DEFINITION. Essence ingest (ch. 3): the merge of two paths, the judgement of packets, receipt of courses, input
loss, audio, ancillary data and timecode; live layers are received the same way (R67). -/

namespace Sys2Proof.Machine

/-! ### Which receiver -/

/-- The channel a video target belongs to. -/
def targetChan : VideoTarget → Nat
  | .channel n => n
  | .layer n _ => n

/-- The index of a live layer's objects: 4n + l (R67). -/
def layerOf (n l : Nat) : Nat := 4 * n + l

/-- The receiver of a target. -/
def Mod.video (m : Mod) (g : VideoTarget) : VideoIn :=
  match g with
  | .channel n => (m.chan n).video
  | .layer n l => nth (m.chan n).layers l

/-- Changes the receiver of a target. -/
def Mod.modVideo (m : Mod) (g : VideoTarget) (f : VideoIn → VideoIn) : Mod :=
  match g with
  | .channel n => m.modChan n fun c => { c with video := f c.video }
  | .layer n l => m.modChan n fun c => { c with layers := c.layers.modify l f }

/-- The payload type a target takes (4000:07, 4B00:03). -/
def Mod.videoPt (m : Mod) (g : VideoTarget) : Nat :=
  match g with
  | .channel n => m.n (0x4000 + n) 7
  | .layer n l => m.n (0x4B00 + layerOf n l) 3

/-- Whether a target is LOST (4100:02, 4B00:06). -/
def Mod.videoLost (m : Mod) (g : VideoTarget) : Bool :=
  match g with
  | .channel n => m.flag (0x4100 + n) 2
  | .layer n l => m.flag (0x4B00 + layerOf n l) 6

/-- Sets a target's LIVE or LOST. -/
def Mod.setVideoLost (m : Mod) (g : VideoTarget) (lost : Bool) : Mod :=
  match g with
  | .channel n => m.putFlag (0x4100 + n) 2 lost
  | .layer n l => m.putFlag (0x4B00 + layerOf n l) 6 lost

/-- Counts in a channel's statistics 4140 + n; a live layer has none. -/
def Mod.stat (m : Mod) (g : VideoTarget) (sub k : Nat) : Mod :=
  match g with
  | .channel n => m.count (0x4140 + n) sub k
  | .layer _ _ => m

/-! ### Receipt grids (R47) -/

/-- The alignment of R47 with D = da/db seconds: ceil((o + g)/P + 3264/3375), P = k da 10^9 / db ns. -/
def alignment (f : Family) (k o g : Nat) : Nat :=
  let num := (o + g) * f.b * 3375 + 3264 * (k * f.a * second)
  let den := 3375 * (k * f.a * second)
  (num + den - 1) / den

/-- Whether a picture's frame tick lies on a grid. -/
def Grid.holds (g : Grid) (frame : Nat) : Bool :=
  g.first ≤ frame && (match g.until_ with | none => true | some u => frame < u) && (frame - g.first) % (34 * g.k) = 0

/-- The receipt tick of a course of a picture on a grid (R47). -/
def Grid.receipt (g : Grid) (frame c : Nat) : Nat := frame + (c + g.a) * g.k

/-- The oldest picture of a grid whose course 33 has not been received at tick T, if it has one. -/
def Grid.oldest (g : Grid) (T : Nat) : Option Nat :=
  let passed := if g.first + (33 + g.a) * g.k ≤ T then (T - (g.first + (33 + g.a) * g.k)) / (34 * g.k) + 1 else 0
  let f := g.first + passed * (34 * g.k)
  if g.holds f then some f else none

/-- The courses of a grid due at tick T (R47): at most one. -/
def Grid.due (g : Grid) (T : Nat) : Option (Nat × Nat) :=
  if T < g.first + g.a * g.k then none
  else
    let d := T - (g.first + g.a * g.k)
    if d % g.k ≠ 0 then none
    else
      let f := g.first + d / (34 * g.k) * (34 * g.k)
      if g.holds f then some (f, d % (34 * g.k) / g.k) else none

/-- Whether a run has handed on its last picture by tick T. -/
def Run.done (r : Run) (T : Nat) : Bool := r.grid.oldest T = none

/-- The run of a picture. -/
def VideoIn.runOf (v : VideoIn) (frame : Nat) : Option Run := v.runs.find? fun r => r.grid.holds frame

/-- The run whose first picture has a frame tick. -/
def VideoIn.run (v : VideoIn) (first : Nat) : Run := (v.runs.find? fun r => r.grid.first = first).getD default

/-- Whether no run began after the one whose first picture has a frame tick. -/
def VideoIn.newest (v : VideoIn) (first : Nat) : Bool := v.runs.all fun r => r.grid.first ≤ first

/-- The pictures whose receipt is under way and the picture after them (Table 3.4), in order: before a run's first course its first
picture counts as the one under way. -/
def VideoIn.window (v : VideoIn) (T : Nat) : List Nat :=
  let near := v.runs.flatMap fun r =>
    match r.grid.oldest T with
    | none => []
    | some f => [f, f + 34 * r.grid.k].filter r.grid.holds
  let begun := near.filter fun f => v.runs.any fun r => r.grid.holds f && r.grid.receipt f 0 ≤ T
  (sortBy (fun a b => a ≤ b) near).take (max 1 begun.length + 1)

/-- The picture under receipt, if any is. -/
def VideoIn.current (v : VideoIn) (T : Nat) : Nat := (v.window T).headD 0

/-- Changes the run of a target whose first picture has a frame tick. -/
def Mod.modRun (m : Mod) (g : VideoTarget) (first : Nat) (f : Run → Run) : Mod :=
  m.modVideo g fun v => { v with runs := v.runs.map fun r => if r.grid.first = first then f r else r }

/-! ### Packets (R44, R45, R49) -/

/-- The frame tick whose RTP timestamp a packet carries within one count, nearest to now (R49, R37). -/
def Mod.frameOfTimestamp (m : Mod) (k ts : Nat) : Option Nat :=
  let base := m.now * 90000 / second
  let fwd := (ts + 2 ^ 32 - base % 2 ^ 32) % 2 ^ 32
  let est := if fwd < 2 ^ 31 then base + fwd else base + fwd - 2 ^ 32
  let step := 34 * k
  let near := est * m.fam.b / (90000 * m.fam.a * step)
  [near - 1, near, near + 1].map (· * step) |>.find? fun f =>
    (m.fam.videoTimestamp f + 1 + 2 ^ 32 - ts) % 2 ^ 32 ≤ 2

/-- What becomes of a video packet (Table 3.4). -/
inductive Verdict | malformed | older | mismatchedTime | fieldBit | placed (frame : Nat)
  deriving DecidableEq, Repr

/-- The luma samples an SRD's octets hold, in whole pixel groups. -/
def srdPixels (f : Fmt) (s : WireSrd) : Nat :=
  s.octets / groupOctets f.sampling f.depth * groupPixels f.sampling f.depth

/-- Whether an SRD stays inside the picture and is whole pixel groups (Table 3.4). -/
def srdFits (f : Fmt) (s : WireSrd) : Bool :=
  s.row < rungHeight f.size && s.offset + srdPixels f s ≤ rungWidth f.size
    && s.octets % groupOctets f.sampling f.depth = 0 && s.offset % groupPixels f.sampling f.depth = 0

/-- Whether a packet's SRDs are as Table 3.1 takes them: their count, rows, offsets and lengths, and the payload they describe. -/
def pktFormed (f : Fmt) (p : VideoPkt) : Bool :=
  1 ≤ p.srds.length && p.srds.length ≤ 8 && (p.srds.all fun s => srdFits f s) && (p.srds.map fun s => s.octets).sum ≤ p.payload

/-- The frame tick a packet's timestamp names, with the step of each run: one of the pictures awaited before any other. -/
def Mod.frameNamed (m : Mod) (v : VideoIn) (ts : Nat) : Option Nat :=
  let fs := v.runs.filterMap fun r => m.frameOfTimestamp r.grid.k ts
  match fs.find? fun f => (v.window m.tick).contains f with
  | some f => some f
  | none => fs.getLast?

/-- Whether a picture is older than the one under receipt; once receipt has ended, whether it was one of its pictures or older. -/
def VideoIn.isOlder (v : VideoIn) (T f : Nat) : Bool :=
  match v.window T with
  | cur :: _ => f < cur
  | [] => v.runs.any fun r => match r.grid.until_ with
    | some u => f < u
    | none => false

/-- The judgement of a packet, in the three steps of R49. -/
def Mod.judge (m : Mod) (g : VideoTarget) (v : VideoIn) (p : VideoPkt) : Verdict :=
  if p.payloadType ≠ m.videoPt g then .malformed
  else
    match m.frameNamed v p.timestamp with
    | none => .mismatchedTime
    | some f =>
      if v.isOlder m.tick f then .older
      else
        match (v.window m.tick).contains f, v.runOf f with
        | true, some r =>
          if !pktFormed r.grid.fmt p then .malformed
          else if p.srds.any fun s => s.field then .fieldBit
          else .placed f
        | _, _ => .mismatchedTime

/-- Numbers kept for twice the skew window after the first copy (R44). -/
def keptNumbers (now window : Nanos) (l : List Seen) : List Seen := l.filter fun s => now ≤ s.at_ + 2 * window

/-- A path's packet is valid: the path is UP (R45). -/
def Mod.pathHeard (m : Mod) (g : VideoTarget) (path : Path) : Mod :=
  let m := m.modVideo g fun v =>
    match path with
    | .red => { v with redAt := some m.now }
    | .blue => { v with blueAt := some m.now }
  match g with
  | .layer _ _ => m
  | .channel n =>
    let p := if path = .red then 0 else 1
    if m.flag (0x4100 + n) (5 + p) then m
    else (m.putFlag (0x4100 + n) (5 + p) true).raiseClear 0x4004 (2 * n + p) [0x4003] [n, p]

/-- The arrival difference of a packet received on both paths (R44): 4100:09 and 4100:0A. -/
def Mod.noteSkew (m : Mod) (g : VideoTarget) (s : Seen) (path : Path) : Mod :=
  match g with
  | .layer _ _ => m
  | .channel n =>
    if s.path = path then m
    else (m.put (0x4100 + n) 9 (m.now - s.at_)).putMax (0x4100 + n) 0x0A ((m.now - s.at_ : Nat) : Int)

/-- A further copy of a packet whose number is held (R44): a duplicate, or a skew violation. -/
def Mod.noteCopy (m : Mod) (g : VideoTarget) (window : Nanos) (s : Seen) (path : Path) : Mod :=
  (m.noteSkew g s path).stat g (if window < m.now - s.at_ then 6 else 5) 1

/-- A packet's SRDs of courses whose receipt tick has not passed, and those that are late (R49). -/
def splitLate (gr : Grid) (frame T : Nat) (srds : List WireSrd) : List WireSrd × List WireSrd :=
  srds.partition fun s => T < gr.receipt frame (courseOfLine gr.fmt.size s.row)

/-- Places a packet's SRDs into the reception of its picture, course by course; late ones are discarded (R49). A packet of which
something is placed is valid (R45) and its number is held (R44). -/
def Mod.placeSrds (m : Mod) (g : VideoTarget) (path : Path) (frame : Nat) (p : VideoPkt) : Mod :=
  match (m.video g).runOf frame with
  | none => m
  | some r =>
    let gr := r.grid
    let size := gr.fmt.size
    let x := splitLate gr frame m.tick p.srds
    let old := ((m.video g).receptions.find? fun r => r.frame = frame).getD ⟨frame, [], [], m.now⟩
    let marks := x.1.map fun s => (courseOfLine size s.row, m.now)
    let got : Reception := { old with
      srds := old.srds ++ x.1.map fun s => ⟨s.row, s.offset, srdPixels gr.fmt s, s.samples⟩,
      arrivals := (old.arrivals.filter fun a => !(marks.any fun b => b.1 = a.1)) ++ marks.eraseDups }
    let worst := x.2.map fun s => (m.fam.edge (gr.receipt frame (courseOfLine size s.row)) : Int) - m.now
    let margin := worst.foldl (fun a w => some (match a with | none => w | some b => min b w)) r.margin
    let m := m.modRun g gr.first fun r => { r with margin := margin }
    let m := if x.1 = [] then m else
      ((m.pathHeard g path).modVideo g fun v =>
        { v with
          receptions := (v.receptions.filter fun r => r.frame ≠ frame) ++ [got]
          seen := v.seen ++ [⟨p.seq, m.now, path⟩] }).stat g (if path = .red then 3 else 4) 1
    if x.2 = [] then m else m.stat g 7 1

/-- Notes a packet for R50: whether it was discarded as mismatched. -/
def Mod.notePacket (m : Mod) (g : VideoTarget) (bad : Bool) : Mod :=
  m.modVideo g fun v => { v with arrived := v.arrived + 1, mismatched := v.mismatched + (if bad then 1 else 0) }

/-- The decode engine a channel is sourced from (4000:01, R41). -/
def Mod.sourceEngine (m : Mod) (n : Nat) : Option Nat :=
  let s := m.n (0x4000 + n) 1
  if s = 0 then none else some (s - 1)

/-- Whether a target takes video packets: a channel sourced from a decode engine ignores its flow (R41). -/
def Mod.takesPackets (m : Mod) (g : VideoTarget) : Bool :=
  match g with
  | .channel n => m.sourceEngine n = none
  | .layer _ _ => true

/-- The skew window of a channel's flows (R44); a channel that a decode engine supplies ignores its setting (R41), and its audio and
ancillary flows are merged over the default (DESIGN CHOICE, log 63). -/
def Mod.skewWindow (m : Mod) (n : Nat) : Nanos := if m.sourceEngine n = none then m.n (0x4000 + n) 0x0C else 1000000

/-- A video packet of a target (R44, R45, R49). A further copy of a held number still brings its path UP, a discarded packet does
not (DEDUCED, log 29). -/
def Mod.takeVideo (m : Mod) (g : VideoTarget) (path : Path) (p : VideoPkt) : Mod :=
  if (m.video g).runs = [] || !m.takesPackets g then m
  else
    let m := m.stat g (if path = .red then 1 else 2) 1
    if p.bufferFull then ((m.notePacket g false).stat g 0x16 1).bump 0x4200 3
    else
      let window := m.skewWindow (targetChan g)
      let m := m.modVideo g fun v => { v with seen := keptNumbers m.now window v.seen }
      match (m.video g).seen.find? fun s => s.seq = p.seq with
      | some s => ((m.pathHeard g path).noteCopy g window s path).notePacket g false
      | none =>
        match m.judge g (m.video g) p with
        | .malformed => (m.notePacket g true).stat g 9 1
        | .mismatchedTime => (m.notePacket g true).stat g 8 1
        | .fieldBit => (m.notePacket g true).stat g 0x0A 1
        | .older => (m.notePacket g false).stat g 7 1
        | .placed f => (m.notePacket g false).placeSrds g path f p

/-- The path timeout of a target's path has run out: the path goes DOWN (R45). -/
def Mod.pathTimeout (m : Mod) (g : VideoTarget) (path : Path) : Mod :=
  match g with
  | .layer _ _ => m
  | .channel n =>
    let p := if path = .red then 0 else 1
    let v := m.video g
    let last := if path = .red then v.redAt else v.blueAt
    match last with
    | none => m
    | some at_ =>
      if m.flag (0x4100 + n) (5 + p) ∧ at_ + m.n (0x4000 + n) 0x0D ≤ m.now then
        (m.putFlag (0x4100 + n) (5 + p) false).raiseCond 0x4003 (2 * n + p) [n, p]
      else m

/-! ### Receipt of courses (R48, R50-R53) -/

/-- The loss policy for the picture of a frame tick, taken at that tick (R52, R55). -/
def Mod.policySnap (m : Mod) (n frame : Nat) : PolicySnap :=
  let s := m.n (0x4000 + n) 0x0F
  let c := m.octets (0x4210 + s) 6
  ⟨frame, m.n (0x4000 + n) 0x0E, m.n (0x4000 + n) 0x10, if m.n (0x4210 + s) 1 = 0 then [] else c⟩

/-- What supplies the next picture of a LOST channel (Table 3.5, R52): base, held or not, picture source. -/
def Mod.supplyPolicy (m : Mod) (n first frame : Nat) : Mod :=
  let g : VideoTarget := .channel (Fin.ofNat 32 n)
  let v := m.video g
  let r := v.run first
  let snap := (v.snaps.find? fun s => s.frame = frame).getD (m.policySnap n frame)
  let m := m.stat g 0x0F 1
  let set (m : Mod) (b : Base) (held : Bool) (src : Nat) : Mod :=
    (m.modRun g first fun r => { r with supply := some b, held := held }).put (0x4100 + n) 3 src
  if snap.policy = 0 then
    if snap.hold ≠ 0 ∧ snap.hold ≤ r.heldPics then
      let m := if r.holdReached then m else m.raise 0x400A n [n]
      set (m.modRun g first fun r => { r with holdReached := true }) .black false 2
    else
      let m := m.modRun g first fun r => { r with heldPics := r.heldPics + 1 }
      set (if v.newest first then m.put (0x4100 + n) 0x0C (r.heldPics + 1) else m) .black true 1
  else if snap.policy = 1 then set m .black false 2
  else if snap.slate = [] then
    let m := if r.slateWarned then m else m.raise 0x400B n [n]
    set (m.modRun g first fun r => { r with slateWarned := true }) .black false 2
  else set m (.slate snap.slate) false 3

/-- A run enters LOST: the policy supplies pictures from the frame tick given (R51). The newest run is what the target's state
shows. -/
def Mod.enterLost (m : Mod) (g : VideoTarget) (first from_ : Nat) : Mod :=
  let m := m.modRun g first fun r =>
    { r with lost := true, policyFrom := from_, firstLost := true, goodRun := 0, heldPics := 0, slateWarned := false, holdReached := false }
  if !(m.video g).newest first then m
  else
    let m := m.setVideoLost g true
    match g with
    | .channel n => m.put (0x4100 + n) 0x0C 0
    | .layer _ _ => m

/-- The layer settings that govern a picture (R70): those of the last commit at or before its frame tick. -/
def ChanS.setsFor (c : ChanS) (frame : Nat) : List LayerSet :=
  match (c.layerSets.filter fun x => x.1 ≤ frame).getLast? with
  | some x => x.2
  | none => []

/-- Course 0 of a picture: what supplies it (R51, R68). -/
def Mod.openPicture (m : Mod) (g : VideoTarget) (first frame : Nat) : Mod :=
  let m := m.modRun g first fun r => { r with picEmpty := 0, supply := none, held := false }
  let r := (m.video g).run first
  if r.lost && r.policyFrom ≤ frame then
    match g with
    | .channel n => m.supplyPolicy n first frame
    | .layer n l =>
      let hide := (nth ((m.chan n).setsFor frame) l).hide
      m.modRun g first fun r => { r with supply := some .transparent, held := !hide }
  else
    match g with
    | .channel n => m.put (0x4100 + n) 3 0
    | .layer _ _ => m

/-- What the picture just received shows in a channel's status: its first arrival and its least margin (4100:07, 08, 0B). -/
def Mod.measurePicture (m : Mod) (g : VideoTarget) (r : Run) (frame : Nat) : Mod :=
  match g with
  | .layer _ _ => m
  | .channel n =>
    let m := match (m.video g).receptions.find? (fun (x : Reception) => x.frame = frame) with
      | none => m
      | some x =>
        let off : Int := (x.firstAt : Int) - m.fam.edge frame
        (m.putZ (0x4100 + n) 7 off).putMax (0x4100 + n) 8 off
    m.putZ (0x4100 + n) 0x0B (r.margin.getD 0)

/-- Course 33 of a picture has been received: restoring, unaligned loss and the picture's measurements (R50, R53). What a run that
another has followed finds is not the target's state any longer. -/
def Mod.closePicture (m : Mod) (g : VideoTarget) (first frame : Nat) : Mod :=
  let n := targetChan g
  let v := m.video g
  let r := v.run first
  let newest := v.newest first
  let lost := r.lost && r.policyFrom ≤ frame
  let m := m.measurePicture g r frame
  let m := match g with
    | .channel n =>
      if newest && lost && r.firstLost && r.picEmpty = 34 && v.arrived ≠ 0 && v.mismatched = v.arrived then m.raise 0x4009 n [n]
      else m
    | .layer _ _ => m
  let good := if lost && r.picEmpty = 0 then r.goodRun + 1 else 0
  let live := lost && m.n (0x4000 + n) 0x12 ≤ good
  let m := m.modRun g first fun r =>
    { r with goodRun := good, firstLost := r.firstLost && !lost, margin := none, lost := r.lost && !live }
  let m := m.modVideo g fun v =>
    { v with
      arrived := if newest then 0 else v.arrived, mismatched := if newest then 0 else v.mismatched,
      receptions := v.receptions.filter fun x => x.frame ≠ frame,
      snaps := v.snaps.filter fun s => s.frame ≠ frame }
  if live && newest then
    let m := m.setVideoLost g false
    match g with
    | .channel n => m.raiseClear 0x4002 n [0x4001] [n]
    | .layer n l => m.raiseClear 0x4804 (layerOf n l) [0x4803] [n, l]
  else m

/-- The content a course is passed on with (R48, R51). -/
def Run.content (r : Run) (cls : CourseClass) (got : List Srd) (c : Nat) : CourseData :=
  match r.supply with
  | some b => if r.held then nth r.before c else ⟨b, []⟩
  | none =>
    match cls with
    | .complete => ⟨.black, got⟩
    | .part => { nth r.shown c with patches := (nth r.shown c).patches ++ got }
    | .empty => nth r.shown c

/-- What a decode engine delivers for a picture of a target (R180, R181): some none where it delivers nothing. -/
def Mod.delivered (m : Mod) (g : VideoTarget) (frame : Nat) : Option (Option (List Row)) :=
  match g with
  | .layer _ _ => none
  | .channel n =>
    (m.sourceEngine n).map fun e =>
      if m.fn (decodeFid e) = running && m.n (0x5C80 + e) 2 = 1 then ((nth m.decs e).presented.find? fun x => x.1 = frame).map (·.2)
      else none

/-- What a run passes on as course c of a picture: its previous picture follows, and so does that of a later run with the same
format which has not come to that course yet (R48). The picture last passed on before LOST stays as it is once the policy
supplies pictures. -/
def Mod.passOn (m : Mod) (g : VideoTarget) (first c T : Nat) (data : CourseData) : Mod :=
  m.modVideo g fun v =>
    { v with runs := v.runs.map fun (r : Run) =>
        if r.grid.first = first || (first < r.grid.first && r.kept && T ≤ r.grid.receipt r.grid.first c) then
          { r with shown := r.shown.set c data }
        else r }

/-- A course of a target at its receipt tick (R48, R51): classed, counted, filled and passed on; courses that a decode
engine delivers are complete (R181). -/
def Mod.receiveCourse (m : Mod) (g : VideoTarget) (gr : Grid) (frame c : Nat) : Mod :=
  let n := targetChan g
  let first := gr.first
  let m := if c = 0 then m.openPicture g first frame else m
  let m := m.modRun g first fun r =>
    if r.lost && r.policyFrom = frame then { r with before := (if c = 0 then r.shown else r.before).set c (nth r.shown c) } else r
  let v := m.video g
  let r := v.run first
  let x := v.receptions.find? fun x => x.frame = frame
  let size := gr.fmt.size
  let got := match x with | none => [] | some x => inCourse x.srds size c
  let deco := m.delivered g frame
  let cls := match deco with
    | none => classify got size c
    | some none => .empty
    | some (some _) => .complete
  let m := m.stat g (match cls with | .complete => 0x0B | .part => 0x0C | .empty => 0x0D) 1
  let m := if r.supply = none then m.stat g 0x0E (if cls = .complete then 0 else linesShort got size c) else m
  let data := match deco with
    | some (some rows) => if r.supply = none then ⟨.decoded rows, []⟩ else r.content cls got c
    | _ => r.content cls got c
  let arrival := x.bind fun x => (x.arrivals.find? fun a => a.1 = c).map (·.2)
  let margin := match arrival with
    | none => r.margin
    | some a =>
      let w : Int := (m.fam.edge (gr.receipt frame c) : Int) - a
      some (match r.margin with | none => w | some b => min b w)
  let run := if cls = .empty then r.emptyRun + 1 else 0
  let m := m.modRun g first fun r =>
    { r with emptyRun := run, margin := margin, picEmpty := r.picEmpty + (if cls = .empty then 1 else 0) }
  let m := m.passOn g first c (gr.receipt frame c) data
  let m := if cls = .empty && !r.lost && m.n (0x4000 + n) 0x11 ≤ run then
      let m := m.enterLost g first (frame + 34 * gr.k)
      if !v.newest first then m
      else
        match g with
        | .channel n => (m.stat g 0x10 1).raiseCond 0x4001 n [n]
        | .layer n l => m.raiseCond 0x4803 (layerOf n l) [n, l]
    else m
  if c = 33 then m.closePicture g first frame else m

/-! ### Audio, ancillary data, timecode (R56-R59) -/

/-- The subitem of an audio flow's field 1-6 (4040). -/
def audioSub (flow field : Nat) : Nat := 6 * flow + field

/-- Whether a flow is bound on some path. -/
def Mod.audioBound (m : Mod) (n flow : Nat) : Bool :=
  m.n (0x4040 + n) (audioSub flow 1) ≠ 0xFFFF || m.n (0x4040 + n) (audioSub flow 2) ≠ 0xFFFF

/-- How long after its time an audio sample may arrive: packet time plus guard (R56). -/
def Mod.audioDelay (m : Mod) (n flow : Nat) : Nanos :=
  (if m.n (0x4040 + n) (audioSub flow 6) = 0 then 1000000 else 125000) + m.n (0x4040 + n) 0x19

/-- The number of the last 48 kHz sample whose time plus a delay is at or before an instant. -/
def lastSampleBy (t delay : Nanos) : Nat := if t < delay then 0 else (t - delay) * 48000 / second

/-- The sample number near now that an RTP timestamp names (R37). -/
def Mod.sampleOfTimestamp (m : Mod) (ts : Nat) : Nat :=
  let base := m.now * 48000 / second
  let fwd := (ts + 2 ^ 32 - base % 2 ^ 32) % 2 ^ 32
  if fwd < 2 ^ 31 then base + fwd else base + fwd - 2 ^ 32

/-- Changes one audio receiver. -/
def Mod.modAudio (m : Mod) (n flow : Nat) (f : AudioIn → AudioIn) : Mod :=
  m.modChan n fun c => { c with audio := c.audio.modify flow f }

/-- Samples of the ring that are kept: 64 ms (Table 3.7). -/
abbrev ringSamples : Nat := 3072

/-- The last sample of a flow that courses have carried, or that is due before the first of them. Samples due in the course period
that ends with a start's first receipt travel with that course, earlier ones do not (DESIGN CHOICE, log 63). -/
def Mod.audioSentTo (m : Mod) (n flow : Nat) : Nat :=
  match (nth (m.chan n).audio flow).sentTo, (m.chan n).video.runs.head? with
  | some x, _ => x
  | none, some r => lastSampleBy (m.fam.edge (max m.tick (r.grid.receipt r.grid.first 0 - r.grid.k))) (m.audioDelay n flow)
  | none, none => 0

/-- The channel as the target of its flows' statistics. -/
abbrev flowTarget (n : Nat) : VideoTarget := .channel (Fin.ofNat 32 n)

/-- An audio packet (R44, R56): samples not yet passed on go into the ring. -/
def Mod.takeAudio (m : Mod) (n flow : Nat) (path : Path) (p : AudioPkt) : Mod :=
  if (m.chan n).video.runs = [] || !m.audioBound n flow || p.payloadType ≠ m.n (0x4040 + n) (audioSub flow 3) then m
  else
    let window := m.skewWindow n
    let m := m.modAudio n flow fun a => { a with seen := keptNumbers m.now window a.seen, lastAt := m.now }
    let a := nth (m.chan n).audio flow
    match a.seen.find? fun s => s.seq = p.seq with
    | some s => m.noteCopy (flowTarget n) window s path
    | none =>
      let first := m.sampleOfTimestamp p.timestamp
      let passed := m.audioSentTo n flow
      let idx := (List.range p.samples.length).map fun i => (first + i, nth p.samples i)
      let good := idx.filter fun x => passed < x.1
      let gap := a.runSince = none || a.runNext < first
      let m := m.modAudio n flow fun a =>
        { a with
          seen := if good = [] then a.seen else a.seen ++ [⟨p.seq, m.now, path⟩]
          ring := (a.ring.filter fun x => passed < x.1 + ringSamples) ++ good
          runSince := if gap then some m.now else a.runSince
          runFirst := if gap then first else a.runFirst
          runNext := if gap then first + p.samples.length else max a.runNext (first + p.samples.length) }
      if good.length < idx.length then m.stat (flowTarget n) 0x12 1 else m

/-- The audio loss time has passed without a sample: the flow is lost (R57). -/
def Mod.audioLoss (m : Mod) (n flow : Nat) : Mod :=
  let a := nth (m.chan n).audio flow
  if m.fn (chanFid n) = running && m.audioBound n flow && !a.lost && a.lastAt + m.n (0x4040 + n) 0x1A ≤ m.now then
    (m.modAudio n flow fun a => { a with lost := true, runSince := none }).raiseCond 0x4005 (4 * n + flow) [n, flow]
  else m

/-- Samples have arrived without a gap for the loss time, a run of samples as long as it: the flow is restored (R57). -/
def Mod.audioRestore (m : Mod) (n flow : Nat) : Mod :=
  let a := nth (m.chan n).audio flow
  let time := m.n (0x4040 + n) 0x1A
  match a.runSince with
  | none => m
  | some since =>
    if a.lost && since + time ≤ m.now && time * 48000 ≤ (a.runNext - a.runFirst) * second then
      (m.modAudio n flow fun a => { a with lost := false }).raiseClear 0x4006 (4 * n + flow) [0x4005] [n, flow]
    else m

/-- The audio that travels with a course received at tick T (R56): samples due since the course before it; those that have not
arrived are sent as zero and counted. -/
def Mod.takeAudioRuns (m : Mod) (n T : Nat) : Mod × List AudioRun :=
  (List.range 4).foldl (fun acc flow =>
    let m := acc.1
    if !m.audioBound n flow then acc
    else
      let lo := m.audioSentTo n flow
      let hi := max lo (lastSampleBy (m.fam.edge T) (m.audioDelay n flow))
      let ring := (nth (m.chan n).audio flow).ring
      let width := m.n (0x4040 + n) (audioSub flow 4)
      let ids := (List.range (hi - lo)).map fun i => lo + 1 + i
      let run := ids.map fun i =>
        match ring.find? fun x => x.1 = i with
        | some x => x.2
        | none => List.replicate width 0
      let missing := (ids.filter fun i => !(ring.any fun x => x.1 = i)).length
      ((m.modAudio n flow fun a => { a with sentTo := some hi }).stat (flowTarget n) 0x11 (missing * width),
        acc.2 ++ [⟨flow, lo + 1, run⟩])) (m, [])

/-- Changes one ancillary receiver. -/
def Mod.modAnc (m : Mod) (n flow : Nat) (f : AncIn → AncIn) : Mod :=
  m.modChan n fun c => { c with anc := c.anc.modify flow f }

/-- The octets an ancillary packet takes of the limit (R58): eight for its header and its body (DESIGN CHOICE, log 63). -/
def AncItem_size (i : AncItem) : Nat := 8 + i.body.length

/-- Takes ancillary items up to 65,536 octets per picture and channel; gives the octets left out (R58). An item that does not fit
is left out whole, and a smaller one after it is still taken (DESIGN CHOICE, log 63). -/
def takeAncItems (held : List AncItem) : List AncItem → List AncItem × Nat
  | [] => (held, 0)
  | i :: r =>
    if (held.map AncItem_size).sum + AncItem_size i ≤ 65536 then takeAncItems (held ++ [i]) r
    else
      let x := takeAncItems held r
      (x.1, x.2 + AncItem_size i)

/-- The nominal whole frame rate of a channel (R116). -/
def Mod.nominalRate (m : Mod) (k : Nat) : Nat :=
  (match m.fam with | .f24 => 24 | .f23976 => 24 | .f25 => 100 | .f30ntsc => 120 | .f30 => 120) / k

/-- The label of an ATC packet, as frames since midnight at a nominal rate: ST 12-2 holds four bits of the ST 12-1 code in each user
data word, and the field mark tells the frames of a pair apart (PRESUMED, log 64). -/
def atcLabel (rate : Nat) (body : Octets) : Nat :=
  let nib (i mask : Nat) : Nat := (nth body (i - 1)).toNat / 16 % mask
  let two (u t mask : Nat) : Nat := 10 * nib t mask + nib u 16
  let base := if rate % 25 = 0 then 25 else if rate % 30 = 0 then 30 else 24
  let mark := nib (if base = 25 then 15 else 7) 16 / 8
  let sub := if rate = base then 0 else if rate = 2 * base then mark else Config.atcSubframe body % (rate / base)
  (((two 13 15 4) * 60 + two 9 11 8) * 60 + two 5 7 8) * rate + two 1 3 4 * (rate / base) + sub

/-- The timecode of the ATC packet among ancillary items (R59): DID 0x60, SDID 0x60. -/
def atcOf (rate : Nat) (items : List AncItem) : Option Nat :=
  (items.find? fun i => i.did = 0x60 && i.sdid = 0x60).map fun i => atcLabel rate i.body

/-- The items of an ancillary packet join those of the picture of a frame tick, and so does its timecode if course 0 has not been
received (R58, R59). -/
def Mod.placeAnc (m : Mod) (n f : Nat) (gr : Grid) (items : List AncItem) : Mod :=
  let held := ((m.chan n).ancData.filter fun (x : Nat × List AncItem) => x.1 = f).flatMap fun x => x.2
  let x := takeAncItems held items
  let atc := if m.tick < gr.receipt f 0 then atcOf (m.nominalRate gr.k) items else none
  (m.modChan n fun c =>
    { c with
      ancData := (c.ancData.filter fun (y : Nat × List AncItem) => y.1 ≠ f) ++ [(f, x.1)]
      atc := match atc with
        | none => c.atc
        | some tc => (c.atc.filter fun (x : Nat × Nat) => x.1 ≠ f) ++ [(f, tc)] }).stat (flowTarget n) 0x14 x.2

/-- An ancillary packet (R44, R58, R59). One whose timestamp names no picture that waits for course 33 is late: it travels with
none (DESIGN CHOICE for one that names no picture at all, log 63). -/
def Mod.takeAnc (m : Mod) (n flow : Nat) (path : Path) (p : AncPkt) : Mod :=
  let v := (m.chan n).video
  if v.runs = [] || p.payloadType ≠ m.n (0x4080 + n) (3 * flow + 3) then m
  else
    let window := m.skewWindow n
    let a := nth (m.chan n).anc flow
    let m := m.modAnc n flow fun a =>
      { a with seen := keptNumbers m.now window a.seen, quietFrom := v.current m.tick + 34 * m.chanStep n, lost := false }
    let m := if a.lost then m.raiseClear 0x4008 (2 * n + flow) [0x4007] [n, flow] else m
    match (nth (m.chan n).anc flow).seen.find? fun s => s.seq = p.seq with
    | some s => m.noteCopy (flowTarget n) window s path
    | none =>
      match (m.frameNamed v p.timestamp).bind fun f => (v.runOf f).map fun r => (f, r.grid) with
      | none => m.stat (flowTarget n) 0x13 1
      | some (f, gr) =>
        if gr.receipt f 33 ≤ m.tick then m.stat (flowTarget n) 0x13 1
        else
          (m.modAnc n flow fun a => { a with seen := a.seen ++ [⟨p.seq, m.now, path⟩] }).placeAnc n f gr p.items

/-- Four consecutive pictures have passed without a packet on either path: the flow is lost (R58). -/
def Mod.ancLoss (m : Mod) (n flow : Nat) : Mod :=
  let a := nth (m.chan n).anc flow
  let bound := m.n (0x4080 + n) (3 * flow + 1) ≠ 0xFFFF || m.n (0x4080 + n) (3 * flow + 2) ≠ 0xFFFF
  if m.fn (chanFid n) = running && bound && !a.lost && a.quietFrom + 4 * (34 * m.chanStep n) ≤ (m.chan n).video.current m.tick then
    (m.modAnc n flow fun a => { a with lost := true }).raiseCond 0x4007 (2 * n + flow) [n, flow]
  else m

/-- A timecode label advanced by one frame (R59, R116): in the 30-NTSC family the first numbers of every minute not
divisible by ten are dropped. Labels are frames since midnight at the nominal rate. -/
def Mod.nextTimecode (m : Mod) (rate tc : Nat) : Nat :=
  let n := (tc + 1) % (rate * 86400)
  if m.fam = .f30ntsc && n % (rate * 60) = 0 && n % (rate * 600) ≠ 0 then n + 2 * rate / 30 else n

/-- The timecode of the picture of a frame tick, at the receipt of its course 0 (R59). Where the rate has changed, the label before
is that of the same instant at the new rate; before the first picture of a channel it is 0 (DESIGN CHOICE, log 63). -/
def Mod.takeTimecode (m : Mod) (n frame k : Nat) (utcOffset : Int) : Mod :=
  let c := m.chan n
  let rate := m.nominalRate k
  let set (m : Mod) (tc : Nat) : Mod := m.modChan n fun c =>
    { c with timecode := tc, tcRate := rate, atc := c.atc.filter fun x => frame < x.1 }
  if m.n (0x4000 + n) 0x13 = 0 then set m (Config.ptpTimecode (m.fam.edge frame) rate (34 * k * m.fam.a, m.fam.b) utcOffset)
  else
    match c.atc.find? fun x => x.1 = frame with
    | some x => set m x.2
    | none =>
      let last := if c.tcRate = 0 then c.timecode else c.timecode * rate / c.tcRate
      (set m (m.nextTimecode rate last)).stat (flowTarget n) 0x15 1

/-! ### The edge (R19 step 4) -/

/-- The runs that another has followed and that have handed on their last picture are over; the newest stays. -/
def VideoIn.dropDone (v : VideoIn) (T : Nat) : VideoIn :=
  { v with runs := v.runs.filter fun r => v.newest r.grid.first || !r.done T }

/-- The live layers' courses of a picture: received and passed on as the channel's own (R67). -/
def Mod.layerCourses (m : Mod) (n frame c : Nat) : Mod × List (Option (Fmt × CourseData)) :=
  (List.range 4).foldl (fun acc l =>
    let g : VideoTarget := .layer (Fin.ofNat 32 n) (Fin.ofNat 4 l)
    match (acc.1.video g).runOf frame with
    | none => (acc.1, acc.2 ++ [none])
    | some r =>
      let m := acc.1.receiveCourse g r.grid frame c
      (m, acc.2 ++ [some (r.grid.fmt, nth ((m.video g).run r.grid.first).shown c)])) (m, [])

/-- A course of the channel received at T: its content, the live layers' courses and what travels with it go to
composition. -/
def Mod.handCourse (m : Mod) (n : Nat) (gr : Grid) (frame c T : Nat) (utcOffset : Int) : Mod :=
  let m := m.receiveCourse (flowTarget n) gr frame c
  let data := nth ((m.video (flowTarget n)).run gr.first).shown c
  let m := m.snoop 1 n 0 (fun _ => data.octets gr.fmt c) ⟨true, true, c⟩ (frame + c * gr.k) frame
  let (m, layers) := m.layerCourses n frame c
  let m := if c = 0 then m.takeTimecode n frame gr.k utcOffset else m
  let (m, audio) := m.takeAudioRuns n T
  let cs := m.chan n
  let anc := if c = 33 then ((cs.ancData.find? fun x => x.1 = frame).map (·.2)).getD [] else []
  let h : Handed := ⟨frame, c, T, gr.k, gr.fmt, data, layers, cs.setsFor frame, audio, anc, cs.timecode, []⟩
  m.modChan n fun cs =>
    { cs with
      composing := cs.composing ++ [h],
      ancData := if c = 33 then cs.ancData.filter (fun x => x.1 ≠ frame) else cs.ancData }

/-- Receipt at the edge of T for one channel (R47, R48): policy snapshots at its frame ticks, then every course due
on any of its runs. -/
def Mod.ingestEdge (m : Mod) (n T : Nat) (utcOffset : Int) : Mod :=
  let v := (m.chan n).video
  if v.runs = [] then m
  else
    let m := if (v.runOf T).isSome then
        m.modVideo (flowTarget n) fun v => { v with snaps := v.snaps ++ [m.policySnap n T] }
      else m
    let m := v.runs.foldl (fun m r =>
      match r.grid.due T with
      | none => m
      | some (f, c) => m.handCourse n r.grid f c T utcOffset) m
    m.modChan n fun c => { c with video := c.video.dropDone T, layers := c.layers.map fun v => v.dropDone T }

/-! ### Start, restart and stop of a channel's receivers -/

/-- The format of a channel's source (4000:03-06). -/
def Mod.chanFmt (m : Mod) (n : Nat) : Fmt :=
  ⟨m.n (0x4000 + n) 3, m.n (0x4000 + n) 4, m.n (0x4000 + n) 5, m.n (0x4000 + n) 6⟩

/-- The format of a live layer: the channel's size, its own sampling and depth, NARROW (R65). -/
def Mod.layerFmt (m : Mod) (n l : Nat) : Fmt :=
  ⟨m.n (0x4000 + n) 3, m.n (0x4B00 + layerOf n l) 4, m.n (0x4B00 + layerOf n l) 5, 0⟩

/-- Whether a live layer has a flow. -/
def Mod.layerBound (m : Mod) (n l : Nat) : Bool :=
  m.n (0x4B00 + layerOf n l) 1 ≠ 0xFFFF || m.n (0x4B00 + layerOf n l) 2 ≠ 0xFFFF

/-- The alignment of a channel (R47); 1 where a decode engine is its source (R181). -/
def Mod.chanAlign (m : Mod) (n : Nat) : Nat :=
  if m.n (0x4000 + n) 1 ≠ 0 then 1 else
  alignment m.fam (m.chanStep n) (m.n (0x4000 + n) 0x0A) (m.n (0x4000 + n) 0x0B)

/-- The runs of a receiver with no picture whose frame tick is at or after a tick. -/
def VideoIn.endAt (v : VideoIn) (tick : Nat) : VideoIn :=
  { v with runs := v.runs.map fun r =>
      { r with grid := { r.grid with until_ := some (match r.grid.until_ with
          | none => tick
          | some u => min u tick) } } }

/-- A run as it starts: LOST before the first picture, no previous picture unless a restart keeps that of the last run (R48,
R51). Pictures whose frame ticks lie before the restart go on in their own run (R47). -/
def VideoIn.start (v : VideoIn) (tick : Nat) (gr : Grid) (base : Base) (restart : Bool) : VideoIn :=
  let last := if restart then v.runs.getLast? else none
  let keep := last.any fun r => r.grid.fmt = gr.fmt
  let black := List.replicate 34 (⟨base, []⟩ : CourseData)
  let new : Run := { (default : Run) with
    grid := gr
    kept := keep
    shown := if keep then (last.map fun r => r.shown).getD black else black }
  { v with runs := ((v.endAt tick).runs.filter fun r => r.grid.first < tick) ++ [new], arrived := 0, mismatched := 0 }

/-- The objects of a channel that its pictures follow: 4000, 4040, 4800, 4840 and 48C0. -/
def chanObjects (n idx : Nat) : Bool := idx = 0x4000 + n || idx = 0x4040 + n || idx = 0x4800 + n || idx = 0x4840 + n || idx = 0x48C0 + n

/-- The channel's configuration as it stands, for pictures from a frame tick on (the last three are kept). -/
def Mod.snapChan (m : Mod) (n frame : Nat) : Mod :=
  m.modChan n fun c =>
    { c with
      cfgs := c.cfgs.drop (c.cfgs.length - 2) ++ [(frame, m.objs.filter fun (x : Nat × Val) => chanObjects n (x.1 / 256))] }

/-- The module with a channel's configuration as it governs a picture. -/
def Mod.withChan (m : Mod) (n frame : Nat) : Mod :=
  match ((m.chan n).cfgs.filter fun (x : Nat × Store) => x.1 ≤ frame).getLast? with
  | none => m
  | some x => { m with objs := (m.objs.filter fun (y : Nat × Val) => !chanObjects n (y.1 / 256)) ++ x.2 }

/-- The receivers of a channel start at a frame tick (R47, R51), or restart there with the previous picture kept
where the format is unchanged (R48); a path stays UP over a restart (R45), and audio and ancillary flows run on through it. A flow
begins as not lost (DESIGN CHOICE, log 63). -/
def Mod.startIngest (m : Mod) (n tick : Nat) (restart : Bool) : Mod :=
  let nn := Fin.ofNat 32 n
  let k := m.chanStep n
  let first := nextOnGrain tick (34 * k)
  let gr : Grid := ⟨k, m.chanAlign n, first, none, m.chanFmt n⟩
  let m := (m.snapChan n first).modVideo (.channel nn) fun v => v.start tick gr .black restart
  let m := (m.enterLost (.channel nn) first first).put (0x4100 + n) 4 gr.a
  let m := if restart then m else (m.put (0x4100 + n) 5 0).put (0x4100 + n) 6 0
  let m := (((m.put (0x4100 + n) 8 0).put (0x4100 + n) 0x0A 0).put (0x4100 + n) 0x0B 0).unsee (0x4100 + n) (0x4100 + n) 8 0x0A
  let m := m.modChan n fun c =>
    { c with
      audio := c.audio.zipIdx.map fun x =>
        if restart && m.audioBound n x.2 then x.1 else { (default : AudioIn) with lastAt := m.now }
      anc := c.anc.map fun x => if restart then x else { (default : AncIn) with quietFrom := first } }
  (List.range 4).foldl (fun m l =>
    let g : VideoTarget := .layer nn (Fin.ofNat 4 l)
    if m.layerBound n l then
      (m.modVideo g fun v => v.start tick { gr with fmt := m.layerFmt n l } .transparent restart).enterLost g first first
    else (m.modVideo g fun v => v.endAt tick).setVideoLost g true) m

/-- The receivers of a channel stop: pictures at or after the stop tick are not received (R49). -/
def Mod.stopIngest (m : Mod) (n tick : Nat) : Mod :=
  m.modChan n fun c => { c with video := c.video.endAt tick, layers := c.layers.map fun v => v.endAt tick }

end Sys2Proof.Machine
end

