-- ==== Sys2Proof/Machine/Composition.lean ====
section
/-! DEFINITION. Composition (ch. 4): the colour transform, the veneer layers and their commit, stills, the ladder and
its scaler units. -/

namespace Sys2Proof.Machine

/-! ### Colour transform (R60-R64) -/

/-- A colour stage (R63): the entry of each LUT by component and index (none: the exact identity), and the matrix. -/
structure ColourTables where
  pre : Option (Nat → Nat → Nat)
  post : Option (Nat → Nat → Nat)
  coef : Nat → Nat → Int
  off : Nat → Int

/-- Entry i of component q of a loaded LUT (R63): R, then G, then B, 1,024 big-endian U16 each; an empty table has none. -/
def loadedLut (table : Octets) : Option (Nat → Nat → Nat) :=
  if table = [] then none else some fun q i => contentAt table (q * 1024 + i)

/-- A LUT applied to a 16-bit component (R63). -/
def lut (table : Option (Nat → Nat → Nat)) (q x : Nat) : Nat :=
  match table with
  | none => x
  | some l =>
    let i := x / 64
    let f : Int := (x % 64 : Nat)
    let a : Int := l q i
    let b : Int := l q (min (i + 1) 1023)
    (a + ((b - a) * f) / 64).toNat

/-- Clips to 16 bits. -/
def clip16 (v : Int) : Nat := (max 0 (min v 65535)).toNat

/-- Output component j of the 3×3 matrix (R63). -/
def ColourTables.row (t : ColourTables) (j : Nat) (x : Nat × Nat × Nat) : Nat :=
  clip16 ((t.coef j 0 * (x.1 : Int) + t.coef j 1 * (x.2.1 : Int) + t.coef j 2 * (x.2.2 : Int) + 32768) / 65536 + t.off j)

/-- The pre-LUT, the matrix and the post-LUT (R60 stage 2). -/
def ColourTables.apply (t : ColourTables) (x : Nat × Nat × Nat) : Nat × Nat × Nat :=
  let a := (lut t.pre 0 x.1, lut t.pre 1 x.2.1, lut t.pre 2 x.2.2)
  let b := (t.row 0 a, t.row 1 a, t.row 2 a)
  (lut t.post 0 b.1, lut t.post 1 b.2.1, lut t.post 2 b.2.2)

/-- The tables loaded for a channel (4800:08, 09, 4840). -/
def Mod.customTables (m : Mod) (n : Nat) : ColourTables :=
  ⟨loadedLut (m.octets (0x4800 + n) 8), loadedLut (m.octets (0x4800 + n) 9), fun j k => m.z (0x4840 + n) (1 + 3 * j + k),
    fun j => m.z (0x4840 + n) (0x0A + j)⟩

/-- The module's own tables for a preset 2-7, within the ranges of R63. -/
def presetTables (p : Nat) : ColourTables :=
  ⟨some fun q i => min 65535 (Config.presetLut p false q i), some fun q i => min 65535 (Config.presetLut p true q i),
    fun j k => max (-524288) (min 524287 (Config.presetMatrix p j k)), fun j => max (-65536) (min 65535 (Config.presetOffset p j))⟩

/-- The stage that the preset selects (R63, R64). -/
def Mod.colourStage (m : Mod) (n : Nat) (x : Nat × Nat × Nat) : Nat × Nat × Nat :=
  let p := m.n (0x4800 + n) 5
  if p = 0 then x else if p = 1 then (m.customTables n).apply x else (presetTables p).apply x

/-- Luma weights of red and blue in 1/10,000 (R62; PRESUMED, log 65): BT.709, and the non-constant-luminance matrix of BT.2020, which
BT.2100 shares. -/
def lumaWeights (colorimetry : Nat) : Int × Int := if colorimetry = 0 then (2126, 722) else (2627, 593)

/-- The fixed input conversion (R62): R′G′B′, 0 at nominal black and 65,535 at nominal peak, clipped. -/
def inputConv (colorimetry : Nat) (f : Fmt) (x : Nat × Nat × Nat) : Nat × Nat × Nat :=
  let s : Int := if f.depth = 0 then 1 else 4
  let top : Int := 1024 * s - 1
  let ey := if f.range = 0 then 876 * s else top
  let black := if f.range = 0 then 64 * s else 0
  let y : Int := x.1 - black
  if f.sampling = 2 then
    let one (v : Nat) : Nat := clip16 (rounded 0 (65535 * ((v : Int) - black)) ey.toNat)
    (one x.1, one x.2.1, one x.2.2)
  else
    let ec := if f.range = 0 then 896 * s else top
    let cb : Int := x.2.1 - 512 * s
    let cr : Int := x.2.2 - 512 * s
    let w := lumaWeights colorimetry
    let g := 10000 - w.1 - w.2
    let red := y * ec * 10000 + 2 * (10000 - w.1) * cr * ey
    let blue := y * ec * 10000 + 2 * (10000 - w.2) * cb * ey
    let green := y * ec * 10000 * g - (2 * w.2 * (10000 - w.2) * cb + 2 * w.1 * (10000 - w.1) * cr) * ey
    let den := (ey * ec * 10000).toNat
    (clip16 (rounded 1 (65535 * red) den), clip16 (rounded 2 (65535 * green) (den * g.toNat)), clip16 (rounded 3 (65535 * blue) den))

/-- The fixed output conversion (R62): NARROW YCbCr at 12 bits. -/
def outputConv (colorimetry : Nat) (x : Nat × Nat × Nat) : Nat × Nat × Nat :=
  let w := lumaWeights colorimetry
  let y : Int := w.1 * x.1 + (10000 - w.1 - w.2) * x.2.1 + w.2 * x.2.2
  let narrow (v : Int) : Nat := (max 0 (min v 4095)).toNat
  let diff (place : Nat) (v : Nat) (k : Int) : Nat :=
    narrow (2048 + rounded place (3584 * (10000 * (v : Int) - y)) (2 * (10000 - k) * 65535).toNat)
  (narrow (256 + rounded 4 (3504 * y) (10000 * 65535)), diff 5 x.2.2 w.2, diff 6 x.1 w.1)

/-- The colour transform of a sample (R60 stages 1-3). -/
def Mod.transform (m : Mod) (n : Nat) (f : Fmt) (x : Nat × Nat × Nat) : Nat × Nat × Nat :=
  outputConv (m.n (0x4800 + n) 3) (m.colourStage n (inputConv (m.n (0x4800 + n) 1) f x))

/-- Whether the declarations of a channel fit its preset (R64, Table 4.1). -/
def presetOk (preset inCol inTf outCol outTf : Nat) : Bool :=
  let is709 (c : Nat) := c = 0
  let isWide (c : Nat) := c ≠ 0
  if preset ≤ 1 then true
  else if preset = 2 then is709 inCol && inTf = 0 && isWide outCol && outTf = 0
  else if preset = 3 then isWide inCol && inTf = 0 && is709 outCol && outTf = 0
  else if preset = 4 then is709 inCol && inTf = 0 && isWide outCol && outTf = 1
  else if preset = 5 then isWide inCol && inTf = 1 && is709 outCol && outTf = 0
  else if preset = 6 then isWide inCol && inTf = 1 && isWide outCol && outTf = 2
  else isWide inCol && inTf = 2 && isWide outCol && outTf = 1

/-! ### Veneer blending (R65, R66) -/

/-- The blend weight of a layer sample, 0-256, before opacity (R66). -/
def keyWeight (d inner outer : Nat) : Nat :=
  if d ≤ inner then 0 else if outer ≤ d then 256 else 256 * (d - inner) / (outer - inner)

/-- The distance of two samples. -/
def absDiff (a b : Nat) : Nat := if a ≤ b then b - a else a - b

/-- A component blended with weight a of 256 (R66). -/
def blendComp (a p l : Nat) : Nat := ((p : Int) + ((a : Int) * ((l : Int) - p) + 128) / 256).toNat

/-- A layer sample blended over the background (R66). -/
def blend (s : LayerSet) (p l : Nat × Nat × Nat) : Nat × Nat × Nat :=
  let d := max (absDiff l.1 s.keyY) (max (absDiff l.2.1 s.keyCb) (absDiff l.2.2 s.keyCr))
  let a := (keyWeight d s.inner s.outer * s.opacity + 128) / 256
  (blendComp a p.1 l.1, blendComp a p.2.1 l.2.1, blendComp a p.2.2 l.2.2)

/-- The settings of a layer in its shadow (base 0x4A00) or active (0x4A80) record. -/
def Mod.layerSet (m : Mod) (base idx : Nat) : LayerSet :=
  let i := base + idx
  ⟨m.flag i 1, m.n i 2 = 1, m.n i 3, m.n i 4, m.n i 5, m.n i 6, m.n i 7, m.n i 8, m.n i 9, m.n i 0x0A, m.n i 0x0B,
    m.n i 0x0C = 1⟩

/-- The settings of the four layers of a channel. -/
def Mod.layerSets (m : Mod) (base n : Nat) : List LayerSet := (List.range 4).map fun l => m.layerSet base (layerOf n l)

/-- A still's sample at a position of the picture, 12-bit, none outside its rectangle (R65, R73). Chroma of 4:2:2
stills is upsampled row by row. -/
def Mod.stillAt (m : Mod) (s : LayerSet) (x line : Nat) : Option (Nat × Nat × Nat) :=
  let i := 0x4C00 + s.still
  let w := m.n i 2
  let h := m.n i 3
  let sm := m.n i 4
  if s.x ≤ x ∧ x < s.x + w ∧ s.y ≤ line ∧ line < s.y + h then
    let b := m.octets i 7
    let row (q : Nat) : List Nat :=
      let cw := if sm = 0 then w / 2 else w
      let r := (List.range cw).map fun j => planarAt b w h sm q j (line - s.y)
      if sm = 0 then upsampleRow 12 r else r
    some (planarAt b w h sm 0 (x - s.x) (line - s.y), nth (row 1) (x - s.x), nth (row 2) (x - s.x))
  else none

/-- A row of a course at 4:4:4: chroma of a 4:2:2 source upsampled (R61); none where a layer is transparent. -/
def fullRow (d : CourseData) (f : Fmt) (line : Nat) : List (Option (Nat × Nat × Nat)) :=
  let comp (q : Nat) : List (Option Nat) := (List.range (compWidth f q)).map fun x => d.sample f q x line
  let up (q : Nat) : List Nat :=
    let r := (comp q).map fun v => v.getD 0
    if f.sampling = 0 then upsampleRow (if f.depth = 0 then 10 else 12) r else r
  let u1 := up 1
  let u2 := up 2
  (comp 0).zipIdx.map fun p => p.1.map fun y => (y, nth u1 p.2, nth u2 p.2)

/-- A live layer's samples as 12-bit values: a 10-bit layer counts four times its value (R66). -/
def layerRow (d : CourseData) (f : Fmt) (line : Nat) : List (Option (Nat × Nat × Nat)) :=
  (fullRow d f line).map fun o => o.map fun v =>
    if f.depth = 0 then (4 * v.1, 4 * v.2.1, 4 * v.2.2) else v

/-- The composed samples of one line of a course, at 4:4:4 (R60 stages 1-4). -/
def Mod.composeLine (m : Mod) (n : Nat) (h : Handed) (line : Nat) : List (Nat × Nat × Nat) :=
  let pic := (fullRow h.data h.fmt line).map fun o => m.transform n h.fmt (o.getD (0, 0, 0))
  (List.range 4).foldl (fun acc l =>
    let s := nth h.sets l
    let lost (x : Nat) : Bool := h.holes.any fun b => b.1 = l && b.2.1 = line && b.2.2 ≤ x && x < b.2.2 + 32
    let mix (x : Nat) (p : Nat × Nat × Nat) (v : Option (Nat × Nat × Nat)) : Nat × Nat × Nat :=
      match v with
      | none => p
      | some v => if lost x then p else blend s p v
    if !s.enable then acc
    else if s.live then
      match nth h.layers l with
      | none => acc
      | some (f, d) => (acc.zip (layerRow d f line)).zipIdx.map fun p => mix p.2 p.1.1 p.1.2
    else if m.n (0x4C00 + s.still) 1 ≠ 2 then acc
    else acc.zipIdx.map fun p => mix p.2 p.1 (m.stillAt s p.2 line)) pic

/-- The composed course: YCbCr 4:2:2 at 12 bits, padding lines included (R46, R60, R61). -/
def Mod.composeCourse (m : Mod) (n : Nat) (h : Handed) : List Row :=
  (List.range (courseHeight h.fmt.size)).map fun i =>
    let px := m.composeLine n h (sourceLine h.fmt.size h.course i)
    ⟨px.map (·.1), decimateRow (px.map (·.2.1)), decimateRow (px.map (·.2.2))⟩

/-! ### Ladder and scaler units (R74-R77) -/

/-- Rung r of channel n's ladder: size (0xFF none), input, taps, pre-decimation, named unit. -/
def Mod.rungSize (m : Mod) (n r : Nat) : Nat := m.n (0x48C0 + n) (1 + 5 * r)
def Mod.rungAbove (m : Mod) (n r : Nat) : Bool := m.n (0x48C0 + n) (2 + 5 * r) = 1
def Mod.rungTaps (m : Mod) (n r : Nat) : Nat := nth [4, 6, 8, 12] (m.n (0x48C0 + n) (3 + 5 * r))
def Mod.rungPre (m : Mod) (n r : Nat) : Nat := nth [1, 2, 4] (m.n (0x48C0 + n) (4 + 5 * r))
def Mod.rungUnit (m : Mod) (n r : Nat) : Nat := m.n (0x48C0 + n) (5 + 5 * r)

/-- The rungs in use: those before the first none. -/
def Mod.rungs (m : Mod) (n : Nat) : List Nat := (List.range 4).takeWhile fun r => m.rungSize n r ≠ 0xFF

/-- The rung of the ladder that has a size, if any. -/
def Mod.rungOfSize (m : Mod) (n size : Nat) : Option Nat := (m.rungs n).find? fun r => m.rungSize n r = size

/-- The size of a rung's input. -/
def Mod.rungInput (m : Mod) (n r : Nat) : Nat := if m.rungAbove n r then m.rungSize n (r - 1) else m.n (0x4000 + n) 3

/-- Whether a rung is direct: the channel's source size (R60). -/
def Mod.rungDirect (m : Mod) (n r : Nat) : Bool := m.rungSize n r = m.n (0x4000 + n) 3

/-- The ratio of input to rung in each direction. -/
def Mod.rungRatio (m : Mod) (n r : Nat) : Nat := rungWidth (m.rungInput n r) / rungWidth (m.rungSize n r)

/-- The subitem of a rung of a ladder that breaks R74, if any. -/
def Mod.rungFault (m : Mod) (n r : Nat) : Option Nat :=
  let size := m.rungSize n r
  if size = 0xFF then none
  else if r ≠ 0 && (m.rungSize n (r - 1) = 0xFF || size ≤ m.rungSize n (r - 1)) then some (1 + 5 * r)
  else if m.rungAbove n r && (r = 0 || m.rungDirect n r) then some (2 + 5 * r)
  else if size < m.rungInput n r then some (1 + 5 * r)
  else if m.rungRatio n r < m.rungPre n r then some (4 + 5 * r)
  else none

/-- The subitem of the first entry of a ladder, from the top, whose shape breaks R74, if any. -/
def Mod.ladderFault (m : Mod) (n : Nat) : Option Nat := (List.range 4).findSome? (m.rungFault n)

/-- The line buffer use of a scaled rung, per component (R76). -/
def Mod.lineBuffer (m : Mod) (n r : Nat) : Nat := m.rungTaps n r * (rungWidth (m.rungInput n r) / m.rungPre n r)

/-- The load of a scaled rung's pass, in samples per base tick (R77). -/
def Mod.passLoad (m : Mod) (n r : Nat) : Nat :=
  rungWidth (m.rungInput n r) * courseHeight (m.rungInput n r) / m.chanStep n

/-- A scaler unit's capacity (R77). -/
abbrev unitCapacity : Nat := 1966080

/-- The load a placement puts on a unit. -/
def Mod.unitLoad (m : Mod) (pl : List ((Nat × Nat) × Nat)) (u : Nat) : Nat :=
  ((pl.filter fun p => p.2 = u).map fun p => m.passLoad p.1.1 p.1.2).sum

/-- The scaled rungs of a list of channels, by ascending channel, then rung. -/
def Mod.scaledRungs (m : Mod) (chans : List Nat) : List (Nat × Nat) :=
  chans.flatMap fun n => ((m.rungs n).filter fun r => !m.rungDirect n r).map fun r => (n, r)

/-- The placement of R77 over a list of channels in ascending order: named rungs first, then automatic ones, each on
the lowest unit with room; the refusal reason, the channel and the number of the first rung that fails. -/
def Mod.placeScalers (m : Mod) (chans : List Nat) : Except (Nat × Nat × Nat) (List ((Nat × Nat) × Nat)) :=
  let all := m.scaledRungs chans
  let named := (all.filter fun p => m.rungUnit p.1 p.2 ≠ 0xFF).map fun p => (p, m.rungUnit p.1 p.2)
  match named.find? fun p => unitCapacity < m.unitLoad named p.2 with
  | some p => .error (0x4802, p.1)
  | none =>
    (all.filter fun p => m.rungUnit p.1 p.2 = 0xFF).foldlM (fun pl p =>
      match (List.range 16).find? fun u => m.unitLoad pl u + m.passLoad p.1 p.2 ≤ unitCapacity with
      | some u => .ok (pl ++ [(p, u)])
      | none => .error (0x4804, p)) named

/-- Pre-decimation of a component (R75): p × p blocks averaged. -/
def averageBlocks (p : Nat) (lines : List (List Nat)) : List (List Nat) :=
  (List.range (lines.length / p)).map fun i =>
    let block := (lines.drop (i * p)).take p
    (List.range ((lines.headD []).length / p)).map fun x =>
      (rounded 7 ((block.map fun l => (((l.drop (x * p)).take p).sum : Nat)).sum : Nat) (p * p)).toNat

/-- The horizontal filter of a line (R75): sixteen taps centred on each output sample, as 12-bit values (log 65). -/
def filterLine (ratio : Nat) (line : List Nat) : List Nat :=
  (List.range (line.length / ratio)).map fun x =>
    min 4095 (Config.filterH ratio (tapsAt line ((x * ratio + ratio / 2 : Nat) - 8) 16))

/-- The vertical filter (R75) of a component's lines of a course: support above comes from the lines of the course before, at course
0 from the first line; below, from the last line. -/
def filterLines (taps ratio : Nat) (above lines : List (List Nat)) : List (List Nat) :=
  let at_ (i : Int) : List Nat :=
    if i < 0 then (if above = [] then lines.headD [] else nth above ((above.length : Int) + i).toNat)
    else nth lines (min i.toNat (lines.length - 1))
  (List.range (lines.length / ratio)).map fun j =>
    let rows := (List.range taps).map fun t => at_ ((j * ratio + ratio / 2 : Nat) - (taps / 2 : Nat) + t)
    (List.range (lines.headD []).length).map fun x => min 4095 (Config.filterV ratio (rows.map fun r => nth r x))

/-- A component of a scaled rung's course (R75): pre-decimation, the horizontal filter, then the vertical one. -/
def scaleComp (taps pre ratio : Nat) (above lines : List (List Nat)) : List (List Nat) :=
  let wide (l : List (List Nat)) : List (List Nat) := (averageBlocks pre l).map (filterLine (ratio / pre))
  filterLines taps (ratio / pre) (wide above) (wide lines)

/-- A scaled rung's course from its input course and the one above it (none at course 0). -/
def scaleCourse (taps pre ratio : Nat) (above rows : List Row) : List Row :=
  let y := scaleComp taps pre ratio (above.map (·.c0)) (rows.map (·.c0))
  let b := scaleComp taps pre ratio (above.map (·.c1)) (rows.map (·.c1))
  let r := scaleComp taps pre ratio (above.map (·.c2)) (rows.map (·.c2))
  y.zipIdx.map fun x => ⟨x.1, nth b x.2, nth r x.2⟩

/-- The rows of a rung's course from the rows of its inputs: `ins` holds the composed course, then the rungs so far;
`prev` the same of the course above (R75). -/
def Mod.rungRows (m : Mod) (n course : Nat) (prev : List (List Row)) (ins : List (List Row)) (r : Nat) : List Row :=
  if m.rungDirect n r then nth ins 0
  else
    let src := if m.rungAbove n r then r else 0
    scaleCourse (m.rungTaps n r) (m.rungPre n r) (m.rungRatio n r) (if course = 0 then [] else nth prev src) (nth ins src)

/-- The composed course and every rung's course (R60): place 0 the composed course, place r + 1 rung r. -/
def Mod.ladderCourse (m : Mod) (n : Nat) (h : Handed) : List (List Row) :=
  let prev := ((m.ladderRows.find? fun x => x.1 = (n, h.frame)).map (·.2)).getD []
  (m.rungs n).foldl (fun ins r => ins ++ [m.rungRows n h.course prev ins r]) [m.composeCourse n h]

/-- The lines of a course's ladder are kept for the next course of its picture (R75). -/
def Mod.keepLadder (m : Mod) (n : Nat) (h : Handed) (lad : List (List Row)) : Mod :=
  { m with
    ladderRows := (m.ladderRows.filter fun (x : (Nat × Nat) × List (List Row)) => x.1 ≠ (n, h.frame)) ++ (if h.course = 33 then [] else [((n, h.frame), lad)]) }

/-- The objects of the scaler units follow the placement (4D00). -/
def Mod.showScalers (m : Mod) : Mod :=
  (List.range 16).foldl (fun m u =>
    let here := m.scalers.filter fun p => p.2 = u
    ((m.put (0x4D00 + u) 1 (m.unitLoad m.scalers u)).put (0x4D00 + u) 3 here.length).put (0x4D00 + u) 4
      ((here.map fun p => m.lineBuffer p.1.1 p.1.2).foldl max 0)) m

/-- The CRC object of a LUT follows its table (R63). -/
def Mod.showLut (m : Mod) (idx sub : Nat) (table : Octets) : Mod := m.put idx (sub - 2) (if table = [] then 0 else crc32c table)

/-! ### The veneer commit (R65-R71) -/

/-- Whether a layer's settings break R65 or R66 on a channel: the refusal reason. -/
def Mod.layerFault (m : Mod) (n : Nat) (s : LayerSet) : Option Nat :=
  if !s.enable then none
  else
    let size := m.n (0x4000 + n) 3
    let out :=
      if s.live then false
      else s.x % 2 ≠ 0 || rungWidth size < s.x + m.n (0x4C00 + s.still) 2
        || rungHeight size < s.y + m.n (0x4C00 + s.still) 3
    if out then some 0x4805 else if s.outer ≤ s.inner then some 0x4806 else none

/-- The first failure of a channel's shadows: 0x4805 before 0x4806 (R69, R71); its reason and layer. -/
def Mod.shadowFault (m : Mod) (n : Nat) : Option (Nat × Nat) :=
  let fl := (List.range 4).filterMap fun l =>
    (m.layerFault n (m.layerSet 0x4A00 (layerOf n l))).map fun r => (r, l)
  match fl.find? fun x => x.1 = 0x4805 with
  | some x => some x
  | none => fl.head?

/-- Whether a layer is ready (R70). -/
def Mod.layerReady (m : Mod) (n l : Nat) (s : LayerSet) : Bool :=
  if s.live then m.layerBound n l && !m.flag (0x4B00 + layerOf n l) 6 else m.n (0x4C00 + s.still) 1 = 2

/-- A bit field of four layers. -/
def layerBits (f : Nat → Bool) : Nat := ((List.range 4).filter f).foldl (fun a l => a + 2 ^ l) 0

/-- Copies all four shadows of a channel to active (R70, R71). -/
def Mod.copyShadows (m : Mod) (n : Nat) : Mod :=
  (List.range 4).foldl (fun m l =>
    (List.range 12).foldl (fun m i => m.set (0x4A80 + layerOf n l) (i + 1) (m.get (0x4A00 + layerOf n l) (i + 1))) m) m

/-- The layers in force for pictures from a frame tick on (the last nine changes are kept: more than the pictures under
way can need): enabled layers, transparent if not ready at a channel
start (R71). -/
def Mod.layersFrom (m : Mod) (n frame : Nat) (atStart : Bool) : Mod :=
  let sets := (List.range 4).map fun l =>
    let s := m.layerSet 0x4A80 (layerOf n l)
    if atStart && !m.layerReady n l s then { s with enable := false } else s
  m.modChan n fun c =>
    { c with
      layerSets := c.layerSets.drop (c.layerSets.length - 8) ++ [(frame, sets)] }

/-- Whether a veneer commit of a channel is pending (R69): from the edge at which its request applies until it is applied, cancelled or
abandoned (DEDUCED, log 14). A stop of the channel leaves it pending (DESIGN CHOICE, log 14). -/
def Mod.commitPending (m : Mod) (n : Nat) : Bool := m.n (0x4900 + n) 1 = 1

/-- A commit deferred on more frame ticks than its limit is abandoned (R70). -/
def Mod.abandonCommit (m : Mod) (n : Nat) : Mod :=
  if m.n (0x4900 + n) 1 = 1 ∧ m.n (0x4900 + n) 2 < (m.chan n).deferred then
    let m := (m.put (0x4900 + n) 1 0).modChan n fun c => { c with deferred := 0 }
    (m.raise 0x4802 n [n]).bump (0x4900 + n) 5
  else m

/-- The readiness test of a pending commit at a frame tick of its channel (R70). -/
def Mod.testCommit (m : Mod) (n T : Nat) : Mod :=
  if m.n (0x4900 + n) 1 ≠ 1 then m
  else
    let sets := m.layerSets 0x4A00 n
    let lacking (l : Nat) : Bool := (nth sets l).enable && !m.layerReady n l (nth sets l)
    if (List.range 4).any lacking then
      let m := if (m.chan n).deferred = 0 then m.raise 0x4801 n [n, layerBits lacking] else m
      ((m.bump (0x4900 + n) 4).modChan n fun c => { c with deferred := c.deferred + 1 }).abandonCommit n
    else
      let m := ((m.copyShadows n).put (0x4900 + n) 1 0).modChan n fun c => { c with deferred := 0 }
      (((m.layersFrom n T false).bump (0x4900 + n) 3).put (0x4900 + n) 6 T).raise 0x4805 n [n, T]

/-- Step 2 of R19 for one channel, and the readiness object 4900:07. -/
def Mod.veneerEdge (m : Mod) (n T : Nat) : Mod :=
  let m := m.abandonCommit n
  let sets := m.layerSets 0x4A00 n
  let m := m.put (0x4900 + n) 7 (layerBits fun l => m.layerReady n l (nth sets l))
  if isFrameTick T (m.chanStep n) && m.fn (chanFid n) = running then m.testCommit n T else m

/-- Whether a still is named by an active layer, or by the shadow of a pending request (R73). -/
def Mod.stillInUse (m : Mod) (s : Nat) : Bool :=
  (List.range 32).any fun n =>
    ((m.layerSets 0x4A80 n).any fun x => x.enable && !x.live && x.still = s)
      || (m.commitPending n && (m.layerSets 0x4A00 n).any fun x => x.enable && !x.live && x.still = s)

/-- The length a planar content must have (R55, R73). -/
def planarLength (w h sampling : Nat) : Nat := w * h * 2 * (if sampling = 0 then 2 else 3)

/-- The octets stills take of their region (2012:02 has the region's use). -/
def Mod.stillBytes (m : Mod) : Nat := ((List.range 256).map fun s => m.n (0x4C00 + s) 5).sum

end Sys2Proof.Machine
end

