-- ==== Sys2Proof/Machine/RateControl.lean ====
section
/-! DEFINITION. Constant quality under a cap (ch. 7): the CPB model, planning a course, bond groups, budget
exhaustion; and the repointing wave of chapter 6 that the plans rest on. -/

namespace Sys2Proof.Machine

/-! ### Geometry of coding (Table 5.2) -/

def ctuSize (rung : Nat) : Nat := if rung ≤ 1 then 64 else if rung = 2 then 32 else 16
def ctusAcross (rung : Nat) : Nat := if rung = 0 then 120 else 60
def tileCols (rung : Nat) : Nat := if rung = 0 then 8 else if rung = 1 then 2 else 1
def ctuRows (rung : Nat) : Nat := if rung = 0 then 2 else 1
/-- CTUs of one tile column across, and of one slice. -/
def tileAcross (rung : Nat) : Nat := ctusAcross rung / tileCols rung
def tileCtus (rung : Nat) : Nat := tileAcross rung * ctuRows rung
def courseCtus (rung : Nat) : Nat := ctusAcross rung * ctuRows rung
/-- Luma samples of a course. -/
def courseLuma (rung : Nat) : Nat := rungWidth rung * courseHeight rung

/-- Skip-floor allowance u of a CTU (Table 7.2). -/
def ctuFloor (rung : Nat) : Nat := if rung ≤ 1 then 24 else if rung = 2 then 12 else 6

/-- The floor φ of a slice (R134). -/
def sliceFloor (rung : Nat) : Nat := 384 + ctuFloor rung * tileCtus rung

/-- The skip floor σ of a course (Table 7.2). -/
def skipFloor (rung : Nat) : Nat := 384 * tileCols rung + ctuFloor rung * courseCtus rung

/-- The largest access-unit overhead (Table 7.2). -/
def overheadMax (vvc : Bool) : Nat := if vvc then 16384 else 8192

/-! ### The repointing wave (R104, R105) -/

/-- b(i) = ceil((i + 1) C / n), with b(-1) = 0 (R105). -/
def waveEdge (across : Nat) (i : Int) (n : Nat) : Nat :=
  if n = 0 then 0 else ((i + 1).toNat * across + n - 1) / n

/-- e(i): the clean edge in luma samples (R105). -/
def cleanEdge (rung : Nat) (i : Int) (n : Nat) : Nat := waveEdge (ctusAcross rung) i n * ctuSize rung

/-- The guard g (R105). -/
def guardOf (vvc : Bool) : Nat := if vvc then 0 else 8

/-- The intra region of the picture at position i: luma columns from, to (R105); empty where they are equal. -/
def intraRegion (rung : Nat) (vvc : Bool) (i : Int) (n : Nat) : Nat × Nat :=
  if i < 0 then (0, 0)
  else
    let e0 := cleanEdge rung (i - 1) n
    let e1 := cleanEdge rung i n
    if e0 = e1 then (e1, e1) else (e0 - guardOf vvc, e1)

/-- Whether a CTU column has samples in the intra region (R112). -/
def ctuIntra (rung : Nat) (vvc : Bool) (i : Int) (n col : Nat) : Bool :=
  let x := intraRegion rung vvc i n
  x.1 < x.2 && col * ctuSize rung < x.2 && x.1 < (col + 1) * ctuSize rung

/-- Which picture follows a picture of a rendition (R104): `fresh` begins a new sequence, `cont` a continuing restart. -/
def PicS.next (s : PicS) (cfg : RendCfg) (fresh cont : Bool) : PicS :=
  let p := if fresh then 0 else s.count + 1
  if fresh && !cfg.vvc then { s with count := p, kind := .idr, wave := -1, period := cfg.period }
  else if fresh then
    { s with
      count := p
      kind := .springer
      wave := 0
      period := if cfg.startPeriod = 0 then cfg.period else cfg.startPeriod }
  else if cont then { s with count := p, kind := .springer, wave := 0, period := cfg.period }
  else
    let i := s.wave + 1
    let wrap := i = s.period || s.kind = .idr
    let i' := if wrap then 0 else i
    { s with
      count := p
      wave := i'
      period := if wrap then cfg.period else s.period
      kind := if i' = 0 then .springer else .trailing }

/-- The clean edge of a picture (R106): the whole width in an IDR, which is clean throughout. -/
def PicS.edge (p : PicS) (rung : Nat) : Nat := if p.wave < 0 then rungWidth rung else cleanEdge rung p.wave p.period

/-- The exact region of a picture, [0, x) (R106). -/
def PicS.exact (p : PicS) (cfg : RendCfg) : Nat :=
  if p.edge cfg.rung < rungWidth cfg.rung then p.edge cfg.rung - guardOf cfg.vvc else rungWidth cfg.rung

/-! ### Estimates (R132) -/

/-- 2^(f/6) in Q16, f = 0-5 (Table 7.2). -/
def pow6 (f : Nat) : Nat := nth [65536, 73562, 82570, 92682, 104032, 116772] f

/-- v × 2^(x/6), computed in Q16 and floored (R132). -/
def scaleBits (v : Nat) (x : Int) : Nat :=
  let f := (x % 6).toNat
  let i := x / 6
  let w := v * pow6 f
  if 0 ≤ i then w * 2 ^ i.toNat / 65536 else w / (65536 * 2 ^ (-i).toNat)

/-- The frame tick at which the sequence of a picture begins. -/
def RendS.begun (s : RendS) (frame : Nat) : Nat := ((s.sequences.filter fun x => x.2 ≠ 1 && x.1 ≤ frame).map (·.1)).foldl max 0

/-- The estimate source of a course: bits b′, QP q′ and the slices' bits where a picture has it final (R132); the
prior otherwise. For course 0 the courses 32 and 33 of the picture before are not final. -/
def RendS.source (s : RendS) (cfg : RendCfg) (intra : Bool) (frame planCourse c : Nat) : Nat × Int × List Nat :=
  let l := (nth s.hist c).filter fun h =>
    h.frame < frame && s.begun frame ≤ h.frame && !(planCourse = 0 && 32 ≤ c && frame ≤ h.frame + 34 * cfg.k)
  match l with
  | h :: _ => (h.bits, h.qp, h.tiles)
  | [] => (courseLuma cfg.rung * (if intra then 10 else 2) / 25, 32, [])

/-- The estimate e(c, Δ) of R132. -/
def RendS.estimate (s : RendS) (cfg : RendCfg) (intra : Bool) (qBase : Int) (frame planCourse c delta : Nat) : Nat :=
  let src := s.source cfg intra frame planCourse c
  scaleBits src.1 (src.2.1 - qBase - delta)

/-! ### The CPB model (R126-R129) -/

/-- The signalled rate and buffer in b/s and bits (R127). -/
def sigRate (rateKb : Nat) : Nat := (rateKb * 1000 + 63) / 64 * 64
def sigBuffer (bufKb : Nat) : Nat := (bufKb * 1000 + 15) / 16 * 16

/-- R × Tf as a numerator over b of the family: Tf = 34 k a / b s. -/
def Family.frameBits (f : Family) (rate k : Nat) : Nat := rate * 34 * k * f.a

/-- The fullness after the removal of s bits and a frame period's refill (R126), with the fraction carried. -/
def Family.refill (f : Family) (B rate k D frac s : Nat) : Nat × Nat :=
  let num := (D - s) * f.b + frac + f.frameBits rate k
  if B * f.b ≤ num then (B, 0) else (num / f.b, num % f.b)

/-- min(B, R × Tf), floored (R129, R130). -/
def Family.frameAllowance (f : Family) (B rate k : Nat) : Nat := min B (f.frameBits rate k / f.b)

/-- The initial removal delay of a fullness (R128). -/
def removalDelay (D rateKb : Nat) : Nat := 90000 * D / sigRate rateKb

/-- The fullness after R128's rebase. -/
def rebase (D rateKb : Nat) : Nat := removalDelay D rateKb * (rateKb * 1000) / 90000

/-! ### Configuration in force -/

/-- A path of an output, from the subitem of its destination on (R157). -/
def Mod.pathAddr (m : Mod) (r sub : Nat) : PathAddr :=
  let o := 0x5800 + r
  ⟨m.n o sub, m.n o (sub + 1), m.n o (sub + 2), m.n o (sub + 3)⟩

/-- How the output of a rendition leaves (R157). -/
def Mod.sendTo (m : Mod) (r : Nat) : SendTo :=
  let o := 0x5800 + r
  ⟨m.pathAddr r 4, if m.n o 3 = 1 then none else some (m.pathAddr r 8), m.n o 0x0C, m.n o 0x0D, m.n o 0x0E,
    if m.n o 0x0F = 0xFFFF then none else some (m.n o 0x0F)⟩

/-- The column lane of each tile column of a rendition (R79). -/
def Mod.laneMap (m : Mod) (r : Nat) : List Nat :=
  (List.range 8).filterMap fun t => (m.lanes.find? fun x => x.2.2.1 = r && x.2.2.2.1 = t).map fun x => x.2.1

/-- The pipeline that codes a rendition. -/
def Mod.pipeOf (m : Mod) (r : Nat) : Nat := ((m.lanes.find? fun x => x.2.2.1 = r).map (·.1)).getD 0

/-- The configuration a rendition's objects and placement give at this moment (R119). -/
def Mod.rendCfg (m : Mod) (r : Nat) : RendCfg :=
  let c := 0x5000 + r
  let f := 0x5300 + r
  let q := 0x5400 + r
  let o := 0x5800 + r
  let ch := m.n c 2
  { chan := ch, k := m.rendStep r, rung := m.n c 3, vvc := m.n c 4 = 1, chroma := m.n c 5, depth := m.n c 6,
    level := m.n (0x5080 + r) 5, tier := m.n (0x5080 + r) 6, refs := m.n c 9, period := m.n f 1,
    startPeriod := m.n f 2, hash := m.flag f 3, qFloor := m.z q 2, qCeil := m.z q 3, rate := m.n q 6,
    buffer := m.n q 7, group := m.n q 8, output := m.flag o 1, direct := m.n o 2 = 1,
    tsPerDg := m.n o 0x12, limit := m.n o 0x13, ssrc := m.n o 0x10, pmtPid := m.n o 0x16, videoPid := m.n o 0x17,
    audioBase := m.n o 0x18, ancPid := m.n o 0x19,
    streams := (List.range (m.n o 0x1A)).map fun i => m.n o (0x1B + i),
    bits := m.n o 0x23, anc := m.flag o 0x24, margin := m.n o 0x25, program := m.n o 0x14, tsid := m.n o 0x15,
    strength := m.n q 4, intraOffset := m.z q 5, hRange := m.n c 0x0A, vRange := m.n c 0x0B, pipe := m.pipeOf r,
    lanes := m.laneMap r, colorimetry := m.n (0x4800 + ch) 3, transfer := m.n (0x4800 + ch) 4, hlgCompat := m.flag f 4,
    hdr := (List.range 12).map fun i => m.z f (5 + i), timecodeSei := m.flag f 0x11, payloadType := m.n o 0x11,
    via := m.sendTo r }

/-- The configuration that governs a picture. -/
def RendS.cfgFor (s : RendS) (frame : Nat) : RendCfg :=
  match (s.cfgs.filter fun x => x.1 ≤ frame).getLast? with
  | some x => x.2
  | none => default

/-- The latest configuration. -/
def RendS.cfgNow (s : RendS) : RendCfg := match s.cfgs.getLast? with | some x => x.2 | none => default

/-- The mark in force at a frame tick: whether it lies in the frame periods a change of channel leaves empty (R119). -/
def RendS.betweenChannels (s : RendS) (frame : Nat) : Bool :=
  match (s.sequences.filter fun x => x.1 ≤ frame).getLast? with | some x => x.2 = 3 | none => false

/-- Whether a picture belongs to a rendition's run. -/
def RendS.holds (s : RendS) (frame : Nat) : Bool :=
  s.cfgs ≠ [] && s.first ≤ frame && (match s.until_ with | none => true | some u => frame < u) && !s.betweenChannels frame

/-- How a picture begins a sequence: 0 new, 1 continuing restart, 2 new without EOS; none where it begins none. -/
def RendS.startsAt (s : RendS) (frame : Nat) : Option Nat :=
  (s.sequences.find? fun x => x.1 = frame && x.2 ≠ 3).map (·.2)

/-! ### Pictures in progress -/

/-- The picture of a frame tick. -/
def RendS.pic (s : RendS) (frame : Nat) : PicS := (s.pics.find? fun p => p.frame = frame).getD default

/-- The picture before one in coding order. -/
def RendS.before (s : RendS) (frame : Nat) : Option PicS := (s.pics.filter fun p => p.frame < frame).getLast?

/-- Changes the picture of a frame tick. -/
def RendS.modPic (s : RendS) (frame : Nat) (f : PicS → PicS) : RendS :=
  { s with pics := s.pics.map fun p => if p.frame = frame then f p else p }

/-- Changes the picture of a frame tick of a rendition. -/
def Mod.modPic (m : Mod) (r frame : Nat) (f : PicS → PicS) : Mod := m.modRend r fun s => s.modPic frame f

/-- Whether every course of a picture is final. -/
def PicS.done (p : PicS) : Bool := p.spent.length = 34

/-- The bits of a course that a plan takes: final ones, else its budget; none where it has neither. -/
def PicS.courseBits (p : PicS) (c : Nat) (final : Bool) : Option Nat :=
  match (if final then p.spent.find? fun x => x.1 = c else none) with
  | some x => some x.2
  | none => (p.budgets.find? fun x => x.1 = c).map (·.2)

/-- The size s_j that the plan of the next picture's course 0 takes (R131): final, or with courses 32 and 33 at their budgets. Where
two receipt grids overlap and a course has not even been planned, the whole fullness counts as spent (DESIGN CHOICE, log 66). -/
def PicS.size (p : PicS) : Nat :=
  if p.done then p.overhead + (p.spent.map (·.2)).sum
  else
    let l := (List.range 34).map fun c => p.courseBits c (c < 32)
    if l.all (·.isSome) then p.overhead + (l.map (·.getD 0)).sum else p.full

/-- The model's fullness before the picture after one (R126). -/
def Mod.fullAfter (m : Mod) (r : Nat) (p : PicS) : Nat × Nat :=
  let cfg := (m.rend r).cfgFor p.frame
  m.fam.refill (cfg.buffer * 1000) (cfg.rate * 1000) cfg.k p.full p.frac p.size

/-- The fullness with which a picture opens (R126, R129): the model goes on, unless a new sequence brings another rate or buffer. -/
def Mod.openFull (m : Mod) (r frame : Nat) (fresh : Bool) : Nat × Nat :=
  let s := m.rend r
  let cfg := s.cfgFor frame
  match s.before frame with
  | none => (s.cpb, 0)
  | some p =>
    let was := s.cfgFor p.frame
    if fresh && (was.rate ≠ cfg.rate || was.buffer ≠ cfg.buffer) then
      (m.fam.frameAllowance (cfg.buffer * 1000) (cfg.rate * 1000) cfg.k, 0)
    else m.fullAfter r p

/-! ### Planning (R131-R133) -/

/-- The base QP of a picture: 12 higher, up to the ceiling, in the IDR of an HEVC stream (R118, R124). -/
def pictureQp (qBase qCeil : Int) (kind : PicKind) : Int := if kind = .idr then min (qBase + 12) qCeil else qBase

/-- The base QP and priority that govern a picture (R125): those in force at its frame tick. -/
def RendS.qpFor (s : RendS) (frame : Nat) : Int × Nat :=
  match (s.qps.filter fun x => x.1 ≤ frame).getLast? with
  | some x => x.2
  | none => (0, 0)

/-- The QP of a picture before offsets. -/
def RendS.baseQp (s : RendS) (frame : Nat) : Int := pictureQp (s.qpFor frame).1 (s.cfgFor frame).qCeil (s.pic frame).kind

/-- Base QP, priority and recording flag noted at a frame tick of a rendition (R125, R186): the last eight are kept. -/
def Mod.noteQp (m : Mod) (r T : Nat) : Mod :=
  let x := (T, m.z (0x5400 + r) 1, m.n (0x5400 + r) 9)
  let y := (T, m.flag (0x6080 + r) 3)
  m.modRend r fun s =>
    { s with
      qps := s.qps.drop (s.qps.length - 7) ++ [x]
      recFlags := s.recFlags.drop (s.recFlags.length - 7) ++ [y] }

/-- A kind of picture as a number. -/
def PicKind.number : PicKind → Nat
  | .idr => 0
  | .springer => 1
  | .trailing => 2

/-- Numbers that stand for a configuration in the free functions of its coding (R81). -/
def RendCfg.numbers (cfg : RendCfg) : List Int :=
  [(cfg.rung : Int), (cfg.vvc.toNat : Int), (cfg.chroma : Int), (cfg.depth : Int), (cfg.refs : Int), (cfg.level : Int), (cfg.tier : Int),
    (cfg.hRange : Int), (cfg.vRange : Int), (cfg.hash.toNat : Int), cfg.qFloor, cfg.qCeil, (cfg.strength : Int), cfg.intraOffset]

/-- Numbers that stand for the refresh state of a picture (R81). -/
def PicS.numbers (p : PicS) : List Int := [(p.kind.number : Int), (p.count : Int), p.wave, (p.period : Int)]

/-- A picture as it opens when its course 0 is planned: what it is, its fullness, overhead and reserves (R104, R126-R132). -/
def Mod.newPicture (m : Mod) (r frame : Nat) : PicS :=
  let s := m.rend r
  let cfg := s.cfgFor frame
  let st := s.startsAt frame
  let fresh := st = some 0 || st = some 2
  let prev := s.before frame
  let p : PicS := { (PicS.next (prev.getD default) cfg fresh (st = some 1)) with frame := frame }
  let d := m.openFull r frame fresh
  let bp : Bool := p.kind ≠ .trailing
  let full := if bp then rebase d.1 cfg.rate else d.1
  let key := cfg.numbers ++ p.numbers
  let overhead := min (Config.overheadBits key) (overheadMax cfg.vvc)
  let intra : Bool := p.kind = .idr
  let q := pictureQp (s.qpFor frame).1 cfg.qCeil p.kind
  let rho := (List.range 34).map fun c =>
    max (skipFloor cfg.rung) (s.estimate cfg intra q frame 0 c (cfg.qCeil - q).toNat)
  let lean : Bool := full - overhead < rho.sum
  { frame := frame, kind := p.kind, count := p.count, wave := p.wave, period := p.period, seqStart := st, full := full,
    frac := if bp then 0 else d.2, rebased := bp, delay := if bp then removalDelay d.1 cfg.rate else 0,
    since := match prev with
      | none => 1
      | some y => if fresh || y.kind ≠ .trailing then 1 else y.since + 1
    overhead := overhead, suffix := min (if cfg.hash then Config.suffixBits key else 0) overhead,
    reserves := if lean then List.replicate 34 (skipFloor cfg.rung) else rho, lean := lean, budgets := [], spent := [],
    acts := (0, 0), qps := (0, 0), aboveTarget := false, margin := none, refErrors := 0 }

/-- Opens a picture: it joins those in progress, and the status objects follow it. The latest eight pictures are kept. -/
def Mod.openCodedPicture (m : Mod) (r frame : Nat) : Mod :=
  let p := m.newPicture r frame
  let cfg := (m.rend r).cfgFor frame
  let m := m.modRend r fun s => { s with pics := s.pics.drop (s.pics.length - 7) ++ [p] }
  let m := ((m.putZ (0x5380 + r) 1 p.wave).put (0x5380 + r) 2 p.period).put (0x5380 + r) 3 (p.edge cfg.rung)
  let m := m.put (0x5380 + r) 4 p.count
  let m := if p.kind = .springer then m.bump (0x5380 + r) 5 else m
  let m := ((m.put (0x5480 + r) 3 p.full).put (0x5480 + r) 5 p.overhead).put (0x5480 + r) 6 p.reserves.sum
  let m := if p.rebased then m.put (0x5480 + r) 9 p.delay else m
  let m := m.putMin (0x5500 + r) 0x0B p.full
  if (m.rend r).fallback then m.put (0x5480 + r) 0x0A 2
  else if p.lean then ((m.put (0x5480 + r) 0x0A 1).bump (0x5500 + r) 5).raiseLimited 0x5011 r second [r, m.tick]
  else m.put (0x5480 + r) 0x0A 0

/-- The least offset from d on, within a fuel, that fits. -/
def findDelta (fits : Nat → Bool) : Nat → Nat → Nat
  | 0, d => d
  | fuel + 1, d => if fits d then d else findDelta fits fuel (d + 1)

/-! ### Bond groups (R138-R143) -/

/-- Whether a rendition counts as a member of group g: it is enabled, its start has been accepted and it has not stopped. -/
def Mod.isMember (m : Mod) (g r : Nat) : Bool :=
  m.n (0x5400 + r) 8 = g && m.rendOn r && (m.fn (rendFid r) ≠ stopped
    || m.preud.fnCmds.any fun c => c.fid = rendFid r && c.cmd ≠ 2)

/-- The members of a group, by ascending rendition number; one whose last courses still draw on the group after a restart took it
elsewhere is among them. -/
def Mod.members (m : Mod) (g : Nat) : List Nat :=
  (List.range 128).filter fun r => m.isMember g r || (m.rend r).plans.any fun p => ((m.rend r).cfgFor p.frame).group = g

/-- A member's O_max and σ, from its configuration objects. -/
def Mod.memberOmax (m : Mod) (r : Nat) : Nat := overheadMax (m.n (0x5000 + r) 4 = 1)
def Mod.memberFloor (m : Mod) (r : Nat) : Nat := skipFloor (m.n (0x5000 + r) 3)

/-- The group floor per frame Σ (O_max + 34σ + 34) and the buffer floor Σ (O_max + σ + 1) (R140). -/
def Mod.groupFloor (m : Mod) (rs : List Nat) : Nat := (rs.map fun r => m.memberOmax r + 34 * m.memberFloor r + 34).sum
def Mod.bufferFloor (m : Mod) (rs : List Nat) : Nat := (rs.map fun r => m.memberOmax r + m.memberFloor r + 1).sum

/-- Whether a set of members, a rate and a buffer meet R140 at step k. -/
def Mod.groupOk (m : Mod) (rs : List Nat) (rateKb bufKb k : Nat) : Bool :=
  m.groupFloor rs * m.fam.b ≤ m.fam.frameBits (rateKb * 1000) k && m.bufferFloor rs ≤ bufKb * 1000

/-- A rendition's share of its group's refill in a frame period, floor(R_g × Tf × w_i / Σ w), over its members (R144). -/
def Mod.groupShare (m : Mod) (g r k : Nat) : Nat :=
  let weight (q : Nat) : Nat := m.memberOmax q + 34 * m.memberFloor q + 34
  m.fam.frameBits (m.n (0x5600 + g) 1 * 1000) k * weight r / (m.fam.b * max 1 ((m.members g).map weight).sum)

/-- The budget of a course in fallback: A_j of R144, less the overhead, over 34. -/
def Mod.fallbackBudget (m : Mod) (r frame : Nat) (cfg : RendCfg) : Nat :=
  let own := m.fam.frameAllowance (cfg.buffer * 1000) (cfg.rate * 1000) cfg.k
  let A := if cfg.group < 32 then min own (m.groupShare cfg.group r cfg.k) else own
  (A - ((m.rend r).pic frame).overhead) / 34

/-- The own plan of course c of a picture (R132, R133, R144): offset, pool, request and budget; Δ rises until the
estimate meets the share. -/
def Mod.ownPlan (m : Mod) (r frame c : Nat) : Plan :=
  let s := m.rend r
  let cfg := s.cfgFor frame
  let p := s.pic frame
  let intra : Bool := p.kind = .idr
  let q := s.baseQp frame
  let span := (cfg.qCeil - q).toNat
  let spent := ((List.range c).map fun i => (p.courseBits i true).getD 0).sum
  let left := p.full - p.overhead - spent
  let pool0 := left - (p.reserves.drop (c + 1)).sum
  let drawn := if c = 0 then p.overhead else 0
  if s.fallback then
    let A := min pool0 (m.fallbackBudget r frame cfg)
    ⟨frame, c, span, A, A, A, drawn, true, q⟩
  else
    let pool := if s.capped then min pool0 (m.fallbackBudget r frame cfg) else pool0
    let e0 := s.estimate cfg intra q frame c c 0
    let total := ((List.range (34 - c)).map fun i => s.estimate cfg intra q frame c (c + i) 0).sum
    let delta := findDelta (fun d => s.estimate cfg intra q frame c c d * total ≤ left * e0) span 0
    let req := min pool (max (nth p.reserves c) (s.estimate cfg intra q frame c c delta * 5 / 4))
    ⟨frame, c, delta, pool, req, pool, drawn, false, q⟩

/-- A member at one tick: rendition, its planned course, ρ, σ, priority, the estimate at an offset and the greatest offset. -/
structure Claim where
  r : Nat
  frame : Nat
  course : Nat
  pool : Nat
  req : Nat
  delta : Nat
  start : Nat
  rho : Nat
  sigma : Nat
  prio : Nat
  span : Nat
  cut : Bool
  deriving DecidableEq, Repr, Inhabited

/-- One QP step of a member (R141). -/
def Claim.step (x : Claim) (est : Claim → Nat → Nat) : Claim :=
  { x with delta := x.delta + 1, req := min x.pool (max x.rho (est x (x.delta + 1) * 5 / 4)) }

/-- One turn of the cycle over the members of a priority: each below its ceiling gives one step while bits are short;
the new list and what is still short. -/
def stepRound (est : Claim → Nat → Nat) (pr : Nat) : List Nat → List Claim → Int → List Claim × Int
  | [], l, s => (l, s)
  | p :: rest, l, s =>
    let x := nth l p
    if 0 < s ∧ x.prio = pr ∧ x.delta < x.span then
      let y := x.step est
      stepRound est pr rest (l.set p y) (s - ((x.req : Int) - y.req))
    else stepRound est pr rest l s

/-- The cycle of one priority, until nothing is short or every member is at its ceiling (R141). -/
def stepCycle (est : Claim → Nat → Nat) (pr : Nat) (order : List Nat) : Nat → List Claim → Int → List Claim × Int
  | 0, l, s => (l, s)
  | fuel + 1, l, s =>
    if 0 < s ∧ l.any fun x => x.prio = pr && x.delta < x.span then
      let y := stepRound est pr order l s
      stepCycle est pr order fuel y.1 y.2
    else (l, s)

/-- The deep cut of one priority (R141). -/
def deepCut (pr : Nat) : List Nat → List Claim → Int → List Claim × Int
  | [], l, s => (l, s)
  | p :: rest, l, s =>
    let x := nth l p
    if 0 < s ∧ x.prio = pr then
      let cut := min s ((x.req : Int) - x.sigma)
      deepCut pr rest (l.set p { x with req := ((x.req : Int) - cut).toNat, cut := x.cut || 0 < cut }) (s - cut)
    else deepCut pr rest l s

/-- The grants of one tick (R141): the members planned this tick in group order, the rotating order, the usable
allowance. -/
def grants (est : Claim → Nat → Nat) (order : List Nat) (l : List Claim) (U : Nat) : List Claim :=
  if (l.map (·.pool)).sum ≤ U then l.map fun x => { x with req := x.pool }
  else
    let need := (l.map (·.req)).sum
    if need ≤ U then
      let spare := (l.map fun x => x.pool - x.req).sum
      l.map fun x => { x with req := x.req + (if spare = 0 then 0 else (U - need) * (x.pool - x.req) / spare) }
    else
      let a := [3, 2, 1, 0].foldl (fun acc pr => stepCycle est pr order 88 acc.1 acc.2) (l, (need : Int) - U)
      ([3, 2, 1, 0].foldl (fun acc pr => deepCut pr order acc.1 acc.2) a).1

/-- A member's share of the coping reserve Ψ (R140): by the course it has just planned; whole before its first course, and with it what
was set aside for its first draw (R142). -/
def Mod.reserveShare (m : Mod) (r : Nat) : Nat :=
  match (m.rend r).lastCourse with
  | some c => (m.memberOmax r * (c + 1) + 33) / 34
  | none => max (m.memberOmax r) (m.rend r).setAside

/-- The coping reserve Ψ of a group after this tick's plans, over the members whose pictures have begun (R140). -/
def Mod.groupReserve (m : Mod) (g : Nat) : Nat :=
  (((m.members g).filter fun r => (m.rend r).cfgs ≠ []).map m.reserveShare).sum

/-- Refill of one course tick, as a numerator over b (R139). -/
def Family.groupRefill (f : Family) (rateKb k : Nat) : Nat := rateKb * 1000 * k * f.a

/-- The courses of a group planned this tick, as claims in ascending rendition number. A course in fallback, or of a group whose
planner is lost, asks for its own budget and takes no step (R144). -/
def Mod.groupClaims (m : Mod) (g : Nat) : List Claim :=
  (List.range 128).flatMap fun r =>
    let s := m.rend r
    (s.plans.filter fun p => (s.cfgFor p.frame).group = g).map fun p =>
      let cfg := s.cfgFor p.frame
      let fixed := p.fallback || s.capped
      { r := r, frame := p.frame, course := p.course, pool := p.pool, req := if fixed then p.budget else p.request,
        delta := p.delta, start := p.delta, rho := nth (s.pic p.frame).reserves p.course, sigma := skipFloor cfg.rung,
        prio := (s.qpFor p.frame).2, span := if fixed then p.delta else (cfg.qCeil - p.qp).toNat, cut := false }

/-- The estimate of a claim's course at an offset. -/
def Mod.claimEstimate (m : Mod) (x : Claim) (d : Nat) : Nat :=
  let s := m.rend x.r
  s.estimate (s.cfgFor x.frame) ((s.pic x.frame).kind = .idr) (s.baseQp x.frame) x.frame x.course x.course d

/-- A granted course: its plan, the grant shown, and the counters of R141. -/
def Mod.drawGrant (m : Mod) (x : Claim) : Mod :=
  let m := m.modRend x.r fun s =>
    { s with plans := s.plans.map fun p =>
        if p.frame = x.frame && p.course = x.course then { p with delta := x.delta, budget := x.req } else p }
  let m := m.put (0x5480 + x.r) 0x0B x.req
  let m := if x.start < x.delta then m.bump (0x5500 + x.r) 8 else m
  if x.cut then m.bump (0x5500 + x.r) 9 else m

/-- The member that waits for its set-aside first (R142). -/
def Mod.joiner (m : Mod) (g : Nat) : Option Nat :=
  (List.range 128).find? fun r =>
    (m.rend r).waiting && m.n (0x5400 + r) 8 = g && (m.rend r).setAside < m.memberOmax r + m.memberFloor r

/-- The refill of a course tick and what of it is set aside for a joining member, ahead of grants (R139, R142). -/
def Mod.setAsideFor (m : Mod) (g refill : Nat) : Mod × Nat :=
  match m.joiner g with
  | none => (m, 0)
  | some r =>
    let aside := min refill (m.memberOmax r + m.memberFloor r - (m.rend r).setAside)
    (m.modRend r fun s => { s with setAside := s.setAside + aside }, aside)

/-- A group's work in slots 40-47 of the tick before a course tick of its rate (R139-R142). -/
def Mod.planGroup (m : Mod) (g : Nat) : Mod :=
  let claims := m.groupClaims g
  let begun := (m.members g).filter fun r => (m.rend r).cfgs ≠ []
  let k := (m.rend (match claims with | x :: _ => x.r | [] => nth begun 0)).cfgNow.k
  if begun = [] ∨ (m.tick + 1) % k ≠ 0 then m
  else
    let gs := m.group g
    let num := m.fam.groupRefill (m.n (0x5600 + g) 1) k + gs.frac
    let B := m.n (0x5600 + g) 2 * 1000
    let x := m.setAsideFor g (num / m.fam.b)
    let m := x.1
    let G := min B (gs.allowance + (num / m.fam.b - x.2) + gs.refunds)
    let psi := m.groupReserve g
    let drawn := (claims.map fun x => if x.course = 0 then ((m.rend x.r).pic x.frame).overhead else 0).sum
    let rs := m.members g
    let order := (rotation m.tick rs.length).flatMap fun i =>
      (List.range claims.length).filter fun j => (nth claims j).r = nth rs i
    let lost := begun.any fun r => (m.rend r).capped
    let out := if lost then claims else grants m.claimEstimate order claims (G - psi - drawn)
    let stepped := out.filter fun x => x.start < x.delta
    let cut := out.filter fun x => x.cut
    let G' := G - (out.map (·.req)).sum - drawn
    let m := m.modGroup g fun x => { x with allowance := G', frac := num % m.fam.b, psi := psi, refunds := 0 }
    let m := m.each out Mod.drawGrant
    let m := ((m.put (0x5640 + g) 3 G').put (0x5640 + g) 4 psi).put (0x5640 + g) 5 (m.groupFloor rs)
    let m := m.putMin (0x5640 + g) 9 (G' - psi : Nat)
    let m := if stepped = [] then m else m.bump (0x5640 + g) 7
    if cut = [] then m
    else (m.bump (0x5640 + g) 8).raiseLimited 0x5012 g second ([g, m.tick] ++ cut.map (·.r))

/-! ### The work of a tick (R131, R139, R144) -/

/-- The courses whose coding windows for a rendition begin at an edge (R61, R97): those composed since their receipt, of the channel
that governs their picture. Two receipt grids of a channel may bring two (R47). -/
def Mod.dueAt (m : Mod) (r T : Nat) : List Handed :=
  let s := m.rend r
  if s.cfgs = [] then []
  else (List.range 32).flatMap fun n => (m.chan n).composing.filter fun h =>
    h.tick + h.k = T && s.holds h.frame && (s.cfgFor h.frame).chan = n && (s.cfgFor h.frame).k = h.k

/-- Plans one rendition's course (R131). -/
def Mod.planCourse (m : Mod) (r : Nat) (h : Handed) : Mod :=
  let m := if h.course = 0 then m.openCodedPicture r h.frame else m
  let p := m.ownPlan r h.frame h.course
  m.modRend r fun s => { s with plans := s.plans ++ [p], lastCourse := some h.course }

/-- A course's plan stands: its budget is noted and shown (R133). -/
def Mod.notePlan (m : Mod) (r : Nat) (p : Plan) : Mod :=
  ((m.put (0x5480 + r) 1 p.delta).put (0x5480 + r) 0x0C p.budget).modPic r p.frame fun x =>
    { x with budgets := x.budgets ++ [(p.course, p.budget)] }

/-- The first course of a lost pipeline that is planned in fallback raises ev 5013 (R144). -/
def Mod.noteFallback (m : Mod) (r : Nat) (p : Plan) : Mod :=
  match m.fallbacks.find? fun x => p.fallback && x.1 = m.pipeOf r with
  | none => m
  | some x =>
    let m : Mod := { m with fallbacks := m.fallbacks.filter fun (y : Nat × List Nat) => y ≠ x }
    if x.2 = [] then m.raise 0x5013 x.1 [x.1] else m.each x.2 fun (m : Mod) (g : Nat) => m.raise 0x5013 x.1 [x.1, g]

/-- The rate-control work of the tick that ends now (R131, R139): own plans in slots 1-39, groups in slots 40-47;
renditions of a pipeline in the fixed order of ascending number (R13). -/
def Mod.planTick (m : Mod) : Mod :=
  let T := m.tick + 1
  let all := List.range 128
  let m := m.each all fun (m : Mod) (r : Nat) => m.modRend r fun s => if s.plans = [] then s else { s with plans := [] }
  let m := m.each all fun (m : Mod) (r : Nat) => m.each (m.dueAt r T) fun (m : Mod) (h : Handed) => m.planCourse r h
  let m := m.each (List.range 32) fun (m : Mod) (g : Nat) => m.planGroup g
  m.each all fun (m : Mod) (r : Nat) => m.each (m.rend r).plans fun (m : Mod) (p : Plan) => (m.notePlan r p).noteFallback r p

end Sys2Proof.Machine
end

