-- ==== Sys2Proof/Machine/Lanes.lean ====
section
/-! DEFINITION. How a column lane codes a CTU: the tools of chapter 5, the rules of chapter 6 that keep the clean region clean, slice
budgets, exhaustion and late-CTU substitution (R89, R90, R98-R100, R105-R112, R134-R136). -/

namespace Sys2Proof.Machine

/-- The tile column of a course that a lane codes: its context (R81), configuration, picture, reference pictures, course and tile. -/
structure Site where
  ctx : CodeCtx
  cfg : RendCfg
  pic : PicS
  refs : List RefPic
  course : Nat
  deriving DecidableEq, Repr, Inhabited

/-- The context of the next CTU, after some of the slice. -/
def Site.at (t : Site) (before : List CtuForm) : CodeCtx := { t.ctx with before := before }

/-- The luma column and line of the CTU at a place of the slice, in tile raster order (R86). -/
def Site.ctuX (t : Site) (place : Nat) : Nat :=
  (t.ctx.tile * tileAcross t.cfg.rung + place % tileAcross t.cfg.rung) * ctuSize t.cfg.rung
def Site.ctuY (t : Site) (place : Nat) : Nat :=
  t.course * courseHeight t.cfg.rung + place / tileAcross t.cfg.rung * ctuSize t.cfg.rung

/-! ### Clean and dirty regions (R105-R110) -/

/-- The clean edge e(i) of the picture. -/
def Site.edge (t : Site) : Nat := t.pic.edge t.cfg.rung

/-- Whether a luma column starts a block of the clean region (R106); an IDR picture belongs to no period. -/
def Site.clean (t : Site) (x : Nat) : Bool := 0 ≤ t.pic.wave && x < t.edge

/-- Whether luma columns from x on, w wide, reach into the intra region (R105). -/
def Site.inIntra (t : Site) (x w : Nat) : Bool :=
  let a := intraRegion t.cfg.rung t.cfg.vvc t.pic.wave t.pic.period
  a.1 < a.2 && x < a.2 && a.1 < x + w

/-- The usable width U of a reference index for the clean region; none where it is closed (R107). -/
def Site.usable (t : Site) (d : Nat) : Option Nat :=
  if t.pic.wave ≤ (d : Int) then none
  else some (cleanEdge t.cfg.rung (t.pic.wave - 1 - d) t.pic.period - guardOf t.cfg.vvc)

/-- A block's columns and lines: first column, first line, width, height. -/
structure Box where
  x : Nat
  y : Nat
  w : Nat
  h : Nat
  deriving DecidableEq, Repr, Inhabited

/-- Limits a coordinate to a picture. -/
def limited (n : Nat) (v : Int) : Nat := (max 0 (min v ((n : Int) - 1))).toNat

/-- The first and last of the block rows or columns of side `unit` that a stretch of n samples from a coordinate reads with a vector
component; a fractional one reads three samples before and four after (PRESUMED, log 67). -/
def blocksRead (unit size start n : Nat) (v : Int) : Nat × Nat :=
  let before : Int := if v % 32 = 0 then 0 else 3
  let after : Int := if v % 32 = 0 then 0 else 4
  (limited size (start + v / 16 - before) / unit, limited size (start + n - 1 + v / 16 + after) / unit)

/-- Whether a block that fails to read lies in the area that a vector reads (R92, R100). -/
def Site.failing (t : Site) (b : Box) (v : Nat × Int × Int) : Bool :=
  let across := rungWidth t.cfg.rung / 32
  let xs := blocksRead 32 (rungWidth t.cfg.rung) b.x b.w v.2.1
  let ys := blocksRead 8 (34 * courseHeight t.cfg.rung) b.y b.h v.2.2
  (nth t.refs v.1).bad.any fun k => within (k % across) xs.1 xs.2 && within (k / across) ys.1 ys.2

/-- R108 for one vector of a clean-region CU: x + wc + floor(mvx) + f ≤ U. -/
def Site.reaches (t : Site) (b : Box) (v : Nat × Int × Int) : Bool :=
  match t.usable v.1 with
  | none => false
  | some U => (b.x : Int) + b.w + v.2.1 / 16 + (if v.2.1 % 32 = 0 then 0 else 8) ≤ U

/-- Whether a vector may be applied to a block (R90, R91, R100, R107, R108): 1/16-sample steps for affine motion, quarter samples
otherwise. -/
def Site.vectorOk (t : Site) (b : Box) (fine : Bool) (v : Nat × Int × Int) : Bool :=
  v.1 < t.refs.length
    && -(16 * (t.cfg.hRange : Int)) ≤ v.2.1 && v.2.1 ≤ 16 * t.cfg.hRange
    && -(16 * (t.cfg.vRange : Int)) ≤ v.2.2 && v.2.2 ≤ 16 * t.cfg.vRange
    && (fine || (v.2.1 % 4 = 0 && v.2.2 % 4 = 0))
    && !t.failing b v
    && (!t.clean b.x || t.reaches b v)

/-- Whether a position may give a candidate to a clean-region CU (R109). -/
def Site.posOk (t : Site) (p : CandPos) : Bool :=
  if p.collocated then (match t.usable 0 with | none => false | some U => p.x < U) else t.clean p.x

/-- Whether a candidate and those before it in its list may be selected (R109). -/
def Site.candsOk (t : Site) (x : Nat) (l : List Cand) : Bool := !t.clean x || l.all fun c => c.from_.all t.posOk

/-- Whether the above-right reference samples of an intra CU lie in the dirty region (R110): at the top of a CTU of a second CTU row,
where the CTU above and to the right belongs to the tile. Chroma of VVC at 4:2:2 reads twice the height. -/
def Site.dirtyAbove (t : Site) (b : Box) : Bool :=
  let c := ctuSize t.cfg.rung
  let right := (t.ctx.tile + 1) * tileAcross t.cfg.rung * c
  let far := b.x + b.w + (if t.cfg.vvc && t.cfg.chroma = 1 then 2 * b.h else b.h)
  b.y % c = 0 && b.y % courseHeight t.cfg.rung ≠ 0 && t.clean b.x && t.edge < min far right

/-- Whether a mode reads above-right samples: planar, an angular one beyond vertical, MIP, the linear model from above (R110). -/
def readsAboveRight (vvc : Bool) : IntraMode → Bool
  | .planar => true
  | .dc => false
  | .angular n => (if vvc then 50 else 26) < n
  | .matrix => true
  | .linear k => k = 1

/-- Whether a codec has an intra mode, for luma or chroma (Tables 5.4, 5.5). -/
def intraOffered (vvc luma : Bool) : IntraMode → Bool
  | .planar => true
  | .dc => true
  | .angular n => if vvc then -14 ≤ n && n ≤ 80 else 2 ≤ n && n ≤ 34
  | .matrix => vvc && luma
  | .linear k => vvc && !luma && k < 3

/-- Whether an intra prediction is offered and obeys R110. -/
def Site.intraOk (t : Site) (b : Box) (p : IntraPart) : Bool :=
  let v := t.cfg.vvc
  intraOffered v true p.luma && intraOffered v false p.chroma && (if v then p.line < 3 else p.line = 0 && !p.split)
    && !(t.dirtyAbove b && (readsAboveRight v p.luma || readsAboveRight v p.chroma || p.line ≠ 0))

/-- Whether a codec has a kind of inter prediction (Tables 5.4, 5.5). -/
def interOffered (vvc : Bool) : InterKind → Bool
  | .merge => true
  | .predictor => true
  | _ => vvc

/-- Whether motion of a kind may have 1/16-sample steps (R90). -/
def fineMotion : InterKind → Bool
  | .affine => true
  | .subblock => true
  | _ => false

/-- Whether a CU's prediction keeps R89, R90, R100 and R105-R110. The intra part of CIIP is planar. -/
def Site.modeOk (t : Site) (b : Box) : CuMode → Bool
  | .intra p => t.intraOk b p
  | .inter kind skip cands vectors =>
    t.pic.kind ≠ .idr && !t.inIntra b.x b.w && interOffered t.cfg.vvc kind && !(kind = .ciip && t.dirtyAbove b)
      && (!skip || kind = .merge || kind = .subblock || kind = .mmvd)
      && (t.cfg.vvc || cands.length ≤ 5) && t.candsOk b.x cands && vectors ≠ [] && vectors.all (t.vectorOk b (fineMotion kind))

/-- A CU's block. -/
def boxOf (u : CuCode) : Box := ⟨u.x, u.y, u.w, u.h⟩

/-- Whether two blocks share a sample. -/
def Box.meets (a b : Box) : Bool := a.x < b.x + b.w && b.x < a.x + a.w && a.y < b.y + b.h && b.y < a.y + a.h

/-- Whether no two blocks of a list share a sample. -/
def apart : List Box → Bool
  | [] => true
  | b :: r => r.all (fun c => !b.meets c) && apart r

/-- Whether a CU's shape is one the codec offers: squares from 8×8 in HEVC, sides from 4 in VVC, powers of two (R89). -/
def shapeOk (vvc : Bool) (ctu w h : Nat) : Bool :=
  [4, 8, 16, 32, 64].contains w && [4, 8, 16, 32, 64].contains h && w ≤ ctu && h ≤ ctu && (vvc || (w = h && 8 ≤ w))

/-- Whether CUs fill a CTU: each lies in it, none overlaps another, their areas add up to it. -/
def Site.fills (t : Site) (place : Nat) (l : List Box) : Bool :=
  let c := ctuSize t.cfg.rung
  let x := t.ctuX place
  let y := t.ctuY place
  l.all (fun b => shapeOk t.cfg.vvc c b.w b.h && x ≤ b.x && b.x + b.w ≤ x + c && y ≤ b.y && b.y + b.h ≤ y + c)
    && apart l && (l.map fun b => b.w * b.h).sum = c * c

/-- Whether a CU is intra-predicted. -/
def isIntra : CuMode → Bool
  | .intra _ => true
  | .inter _ _ _ _ => false

/-- Whether a lane may code the CTU at a place so (R89, R90, R100, R105-R110); one that does without a failing reference is intra
throughout. -/
def Site.legal (t : Site) (place : Nat) (c : CtuCode) : Bool :=
  t.fills place (c.cus.map boxOf) && c.cus.all (fun u => t.modeOk (boxOf u) u.mode)
    && (!c.missed || ((t.refs.any fun x => x.bad ≠ []) && c.cus.all fun u => isIntra u.mode))

/-- The block of a CTU as one CU. -/
def Site.ctuBox (t : Site) (place : Nat) : Box :=
  ⟨t.ctuX place, t.ctuY place, ctuSize t.cfg.rung, ctuSize t.cfg.rung⟩

/-- A CTU as one intra DC CU: what a lane can always code (R112). -/
def Site.dcCode (t : Site) (place : Nat) : CtuCode :=
  let b := t.ctuBox place
  ⟨[⟨b.x, b.y, b.w, b.h, .intra ⟨.dc, .dc, 0, false⟩⟩], false⟩

/-- How a lane codes the next CTU of a slice: its own choice where the rules allow it. -/
def Site.code (t : Site) (before : List CtuForm) : CtuCode :=
  let c := Config.ctuCode (t.at before)
  if t.legal before.length c then c else t.dcCode before.length

/-! ### Substitution and exhaustion (R98, R99, R112, R135) -/

/-- Whether the CTU at a place may only be coded intra: in a picture without a reference and in the intra region (R99, R112). -/
def Site.mustIntra (t : Site) (place : Nat) : Bool :=
  t.refs = [] || t.pic.kind = .idr || t.inIntra (t.ctuX place) (ctuSize t.cfg.rung)

/-- Whether a merge candidate of a CTU as one CU may be used, with those before it (R90, R100, R107-R109). -/
def Site.mergeOk (t : Site) (place : Nat) (l : List Cand) : Bool :=
  let b := t.ctuBox place
  match l.getLast? with
  | none => false
  | some c => t.candsOk b.x l && t.vectorOk b false (c.ref, c.mvx, c.mvy)

/-- A CTU in the exhaustion form (R135): skip with merge index 0, or intra DC. -/
def Site.exhaustForm (t : Site) (before : List CtuForm) : CtuForm :=
  if !t.mustIntra before.length && t.mergeOk before.length ((Config.mergeCands (t.at before)).take 1) then .skip 0 else .intraDc

/-- A substituted CTU (R98, R99, R112): the co-located samples of reference index 0 by the lowest merge index that gives them, else by
a coded vector; intra DC where the rules leave neither. -/
def Site.lateForm (t : Site) (before : List CtuForm) : CtuForm :=
  let place := before.length
  let cands := Config.mergeCands (t.at before)
  let still := cands.findIdx fun c => c.ref = 0 && c.mvx = 0 && c.mvy = 0
  let own := t.vectorOk (t.ctuBox place) false (0, 0, 0)
  if t.mustIntra place || !own then .intraDc
  else if still < cands.length && t.mergeOk place (cands.take (still + 1)) then .skip still
  else if t.candsOk (t.ctuX place) ((Config.predictorCands (t.at before)).take 1) then .zeroVector 0
  else .intraDc

/-- Whether a CTU does without reference index 0 because a block it needs fails to read (R100). -/
def Site.hits (t : Site) (place : Nat) : Bool := !t.mustIntra place && t.failing (t.ctuBox place) (0, 0, 0)

/-! ### Slice budgets (R134) -/

/-- The slice budgets of a course (R134). -/
def sliceBudgets (rung budget : Nat) (tiles : List Nat) : List Nat :=
  let n := tileCols rung
  let phi := sliceFloor rung
  let rest := budget - n * phi
  let w (t : Nat) : Nat := if tiles = [] then tileCtus rung else max 1 (nth tiles t - phi)
  let total := ((List.range n).map w).sum
  let base := (List.range n).map fun t => rest * w t / total
  let left := rest - base.sum
  (List.range n).map fun t => phi + nth base t + (if t < left then 1 else 0)

/-! ### A slice (R135, R136) -/

/-- Whether a slice may keep a CTU of x bits (R135): `left` CTUs follow it. -/
def SliceS.keeps (s : SliceS) (u x : Nat) : Bool := s.bits + x + u * (s.ctus - s.done - 1) + 64 ≤ s.budget

/-- The CTUs of a slice so far. -/
def SliceS.before (s : SliceS) : List CtuForm := s.forms.map (·.1)

/-- A slice with one CTU more. -/
def SliceS.push (s : SliceS) (form : CtuForm) (bits : Nat) (error : Bool) : SliceS :=
  { s with done := s.done + 1, bits := s.bits + bits, errors := s.errors + error.toNat, forms := s.forms ++ [(form, bits)] }

/-- The next k CTUs of a slice in the exhaustion form, each of at most u bits (R135). -/
def SliceS.exhaust (t : Site) (u : Nat) : Nat → SliceS → SliceS
  | 0, s => s
  | k + 1, s =>
    SliceS.exhaust t u k (s.push (t.exhaustForm s.before) (min u (Config.exhaustedBits (t.at s.before))) (t.hits s.done))

/-- A CTU finished by its lane: kept, or discarded and the rest of the slice exhausted (R135). One whose samples include a burst that
cannot be read is a substituted CTU (R261). -/
def SliceS.take (s : SliceS) (t : Site) (now : Nanos) : SliceS :=
  let u := ctuFloor t.cfg.rung
  let hole := s.holes.contains s.done
  let x := if hole then Config.substituteBits (t.at s.before) else Config.ctuBits (t.at s.before)
  if s.done = s.ctus then s
  else if s.keeps u x && hole then
    { s.push (t.lateForm s.before) x (t.hits s.done) with lateCount := s.lateCount + 1, lastAt := now }
  else if s.keeps u x then { s.push (.coded (t.code s.before)) x (t.code s.before).missed with lastAt := now }
  else
    let n := s.ctus - s.done
    { SliceS.exhaust t u n s with exhausted := true, exhCount := s.exhCount + n, lastAt := now }

/-- Late-CTU substitution of at most k CTUs left at the cutoff (R98, R136): each in the form of R98 if it passes the test of
R135, and from the first that does not all that are left in the exhaustion form; all count as late. -/
def SliceS.cutoff (t : Site) : Nat → SliceS → SliceS
  | 0, s => s
  | k + 1, s =>
    let u := ctuFloor t.cfg.rung
    let x := Config.substituteBits (t.at s.before)
    if s.done = s.ctus then s
    else if s.keeps u x then
      SliceS.cutoff t k { s.push (t.lateForm s.before) x (t.hits s.done) with lateCount := s.lateCount + 1 }
    else
      let n := s.ctus - s.done
      { SliceS.exhaust t u n s with lateCount := s.lateCount + n }

end Sys2Proof.Machine
end

