-- ==== Sys2Proof/Machine/Refs.lean ====
section
/-! DEFINITION. Reconstruction (R88, R106) and the reference region (R91, R92, R118): bands, planes, blocks, and the check value of a
decoded picture (R115). Bands stand in the order of R221: luma, Cb, Cr, row by row, samples as big-endian U16. -/

namespace Sys2Proof.Machine

/-- m of R88. -/
def filterMargin (vvc : Bool) : Nat := if vvc then 16 else 8

/-- The luma lines of the band of course c: first, and the one after the last (R88). -/
def bandLines (rung : Nat) (vvc : Bool) (c : Nat) : Nat × Nat :=
  let h := courseHeight rung
  (c * h - filterMargin vvc, if c = 33 then 34 * h else (c + 1) * h - filterMargin vvc)

/-- Lines and samples a line of component q (0-2) of a band of n luma lines. -/
def compLines (chroma q n : Nat) : Nat := if q ≠ 0 && chroma = 0 then n / 2 else n
def compSamples (rung q : Nat) : Nat := if q = 0 then rungWidth rung else rungWidth rung / 2

/-- The octets of component q of the band of course c. -/
def RendCfg.bandPart (cfg : RendCfg) (c q : Nat) : Nat :=
  let l := bandLines cfg.rung cfg.vvc c
  2 * compLines cfg.chroma q (l.2 - l.1) * compSamples cfg.rung q

/-- The octets of the band of course c. -/
def RendCfg.bandSize (cfg : RendCfg) (c : Nat) : Nat := cfg.bandPart c 0 + cfg.bandPart c 1 + cfg.bandPart c 2

/-- Makes octets exactly n long: cut, or filled with zeros. -/
def fitOctets (n : Nat) (l : Octets) : Octets := l.take n ++ List.replicate (n - l.length) 0

/-- A list cut into pieces of n, at most `fuel` of them. -/
def piecesOf {α : Type} (n : Nat) : Nat → List α → List (List α)
  | 0, _ => []
  | fuel + 1, l => l.take n :: piecesOf n fuel (l.drop n)

/-- The rows of component q in a band. -/
def RendCfg.bandRows (cfg : RendCfg) (c q : Nat) (b : Octets) : List Octets :=
  let l := bandLines cfg.rung cfg.vvc c
  let start := if q = 0 then 0 else cfg.bandPart c 0 + (q - 1) * cfg.bandPart c 1
  piecesOf (2 * compSamples cfg.rung q) (compLines cfg.chroma q (l.2 - l.1)) (b.drop start)

/-- The octets of the first x luma columns in a row of component q. -/
def columnsOf (q x : Nat) : Nat := if q = 0 then 2 * x else x

/-- A band with the first x luma columns of one and the others of another. -/
def RendCfg.joinColumns (cfg : RendCfg) (c x : Nat) (a b : Octets) : Octets :=
  (List.range 3).flatMap fun q =>
    ((cfg.bandRows c q a).zip (cfg.bandRows c q b)).flatMap fun y => y.1.take (columnsOf q x) ++ y.2.drop (columnsOf q x)

/-- Bands of which only the first x luma columns are kept. -/
def RendCfg.keepColumns (cfg : RendCfg) (x : Nat) (bands : List Octets) : List Octets :=
  bands.zipIdx.map fun b => cfg.joinColumns b.2 x b.1 (List.replicate (cfg.bandSize b.2) 0)

/-- VVC's unavailable reference picture: every sample at 1 << (bit depth − 1) (R118). -/
def greyPicture (cfg : RendCfg) : RefPic :=
  ⟨0, (List.range 34).map fun c => (List.replicate (cfg.bandSize c / 2) (beOctets 2 (2 ^ (7 + 2 * cfg.depth)))).flatten, [], []⟩

/-- The reference pictures of a picture by reference index (R91, R118): the pictures before it that exist since its sequence began; at
the start of a VVC sequence the unavailable one. -/
def RendS.refsFor (s : RendS) (frame : Nat) : List RefPic :=
  let cfg := s.cfgFor frame
  let p := s.pic frame
  if p.kind = .idr then []
  else if p.seqStart = some 0 || p.seqStart = some 2 then [greyPicture cfg]
  else (s.refs.filter fun x => s.begun frame ≤ x.frame && x.frame < frame).take cfg.refs

/-- The picture of a frame tick in the reference region. -/
def RendS.ref (s : RendS) (frame : Nat) : RefPic := (s.refs.find? fun x => x.frame = frame).getD default

/-- Changes a picture of the reference region. -/
def RendS.modRef (s : RendS) (frame : Nat) (f : RefPic → RefPic) : RendS :=
  { s with refs := s.refs.map fun x => if x.frame = frame then f x else x }

/-- A picture takes a slot of the reference region (R92): references + 1 are held, and those that are still being coded. -/
def RendS.addRef (s : RendS) (frame refs : Nat) : RendS :=
  let kept := s.refs.zipIdx.filter fun x => x.2 < refs || x.1.bands.length < 34
  { s with refs := ⟨frame, [], [], []⟩ :: (kept.map (·.1)).take 7 }

/-! ### What the exact region depends on (R106) -/

/-- The context of the exact region of a picture: of its own period's pictures, their exact regions; of this picture, its own. -/
def Site.exactCtx (t : Site) (forms : List CtuForm) : CodeCtx :=
  let x := t.pic.exact t.cfg
  let open_ (d : Nat) : Option Nat :=
    if t.pic.wave ≤ (d : Int) then none
    else some (({ t.pic with wave := t.pic.wave - 1 - d } : PicS).exact t.cfg)
  { t.ctx with
    refs := t.ctx.refs.zipIdx.map fun r => match open_ r.2 with
      | none => []
      | some y => t.cfg.keepColumns y r.1
    bands := t.cfg.keepColumns x t.ctx.bands
    before := forms }

/-- The reconstruction band of a course: its exact region from what R106 allows, the rest from everything. -/
def Site.band (t : Site) (forms : List CtuForm) : Octets :=
  let size := t.cfg.bandSize t.course
  t.cfg.joinColumns t.course (t.pic.exact t.cfg) (fitOctets size (Config.bandOctets (t.exactCtx forms)))
    (fitOctets size (Config.bandOctets (t.at forms)))

/-! ### Planes and blocks (R92, R115) -/

/-- The rows of component q of a whole picture. -/
def RendCfg.plane (cfg : RendCfg) (bands : List Octets) (q : Nat) : List Octets :=
  bands.zipIdx.flatMap fun b => cfg.bandRows b.2 q b.1

/-- The samples of block k of a picture: 32×8 luma samples with their chroma (R92). -/
def RendCfg.block (cfg : RendCfg) (planes : List (List Octets)) (k : Nat) : Octets :=
  let across := rungWidth cfg.rung / 32
  planes.zipIdx.flatMap fun p =>
    let h := compLines cfg.chroma p.2 8
    let w := columnsOf p.2 32
    ((p.1.drop (k / across * h)).take h).flatMap fun row => (row.drop (k % across * w)).take w

/-- The blocks of the band of course c, by their numbers in the picture: bands begin and end on multiples of 8 lines (R88, R92). -/
def RendCfg.blocksOf (cfg : RendCfg) (c : Nat) : List Nat :=
  let across := rungWidth cfg.rung / 32
  let l := bandLines cfg.rung cfg.vvc c
  (List.range ((l.2 - l.1) / 8 * across)).map fun i => l.1 / 8 * across + i

/-- The course whose band holds block k. -/
def RendCfg.courseOfBlock (cfg : RendCfg) (k : Nat) : Nat :=
  let y := k / (rungWidth cfg.rung / 32) * 8
  ((List.range 34).find? fun c => y < (bandLines cfg.rung cfg.vvc c).2).getD 33

/-- The number of block k within the band of course c. -/
def RendCfg.inBand (cfg : RendCfg) (c k : Nat) : Nat := k - (bandLines cfg.rung cfg.vvc c).1 / 8 * (rungWidth cfg.rung / 32)

/-- Block k as it stands in the band of course c. -/
def RendCfg.bandBlock (cfg : RendCfg) (c k : Nat) (b : Octets) : Octets :=
  cfg.block ((List.range 3).map fun q => cfg.bandRows c q b) (cfg.inBand c k)

/-- The band of course c with block k set to other samples. -/
def RendCfg.setBlock (cfg : RendCfg) (c k : Nat) (x b : Octets) : Octets :=
  let across := rungWidth cfg.rung / 32
  let i := cfg.inBand c k
  (List.range 3).flatMap fun q =>
    let h := compLines cfg.chroma q 8
    let w := columnsOf q 32
    let part := x.drop (if q = 0 then 0 else 8 * columnsOf 0 32 + (q - 1) * h * w)
    (cfg.bandRows c q b).zipIdx.flatMap fun row =>
      if row.2 / h = i / across then
        row.1.take (i % across * w) ++ (part.drop (row.2 % h * w)).take w ++ row.1.drop ((i % across + 1) * w)
      else row.1

/-- The uncompressed octets of a block: its slot (R92). -/
def RendCfg.blockSize (cfg : RendCfg) : Nat := (256 + 2 * compLines cfg.chroma 1 8 * 16) * (8 + 2 * cfg.depth) / 8

/-- The header of a block: its compressed length in 16-byte units, or raw where it would not shrink (R92). -/
def RendCfg.blockHeader (cfg : RendCfg) (samples : Octets) : Nat × Bool :=
  let n := Config.compressed samples
  if n < cfg.blockSize then ((n + 15) / 16, false) else (cfg.blockSize / 16, true)

/-- The octets a read of a block fetches: its compressed length in whole 64-byte bursts (R92). -/
def fetchOctets (header : Nat × Bool) : Nat := (16 * header.1 + 63) / 64 * 64

/-- The block headers of a whole picture (R92). -/
def RendCfg.headers (cfg : RendCfg) (bands : List Octets) : List (Nat × Bool) :=
  let planes := (List.range 3).map (cfg.plane bands)
  (List.range (rungWidth cfg.rung / 32 * (34 * courseHeight cfg.rung / 8))).map fun k => cfg.blockHeader (cfg.block planes k)

/-- The samples of a row. -/
def samplesOf : Octets → List Nat
  | hi :: lo :: r => (hi.toNat * 256 + lo.toNat) :: samplesOf r
  | _ => []

/-- One bit of the picture CRC of H.265 and H.274: polynomial 0x1021. -/
def crc16Bit (c : Nat) (b : Bool) : Nat := (2 * c + b.toNat) % 65536 ^^^ (if c.testBit 15 then 0x1021 else 0)

/-- An octet, most significant bit first. -/
def crc16Octet (c v : Nat) : Nat := (List.range 8).foldl (fun (a : Nat) (i : Nat) => crc16Bit a (v.testBit (7 - i))) c

/-- The CRC of the samples of a component: low octet first and at more than 8 bits the high one; 16 zero bits end it (log 67). -/
def sampleCrc (wide : Bool) (l : List Nat) : Nat :=
  let body := l.foldl (fun c v =>
    let a := crc16Octet c (v % 256)
    if wide then crc16Octet a (v / 256) else a) 65535
  crc16Octet (crc16Octet body 0) 0

/-- The picture CRC of a component (R115), row by row. -/
def RendCfg.pictureCrc (cfg : RendCfg) (bands : List Octets) (q : Nat) : Nat :=
  sampleCrc (cfg.depth ≠ 0) ((cfg.plane bands q).flatMap samplesOf)

end Sys2Proof.Machine
end

