-- ==== Sys2Proof/Machine/ParamSets.lean ====
section
/-! DEFINITION. What the NAL units of an access unit signal (R82, R83, R87, R89, R91, R110-R117, R124, R127, R128): the values the manual
states for parameter sets, picture headers, slices and SEI messages, by the names H.265 and H.266 give them (log 68). -/

namespace Sys2Proof.Machine

/-- Named values of a syntax structure. -/
abbrev Fields := List (String × Int)

/-- A named value. -/
def field (s : String) (n : Nat) : String × Int := (s, n)

/-- A flag. -/
def flag_ (s : String) (b : Bool) : String × Int := (s, if b then 1 else 0)

/-! ### Profiles and formats (R82, R87) -/

/-- The profile code of 5080:04 for codec, chroma and depth (Table 5.1); 0 where the combination is not offered. -/
def profileOf (vvc : Bool) (chroma depth rung : Nat) : Nat :=
  if vvc then (if rung = 3 || depth = 2 then 0 else if chroma = 0 then 5 else 6)
  else if depth = 2 then 4
  else if chroma = 1 then 3
  else if depth = 0 then 1 else 2

/-- The profile of a configuration. -/
def RendCfg.profile (cfg : RendCfg) : Nat := profileOf cfg.vvc cfg.chroma cfg.depth cfg.rung

/-- general_profile_idc of a profile code (Table 5.1). -/
def profileIdc (profile : Nat) : Nat := nth [0, 1, 2, 4, 4, 1, 33] profile

/-- general_tier_flag: 1 in High tier. -/
def RendCfg.tierFlag (cfg : RendCfg) : Nat := if cfg.tier = 2 then 1 else 0

/-- The constraint flags of the two range-extension profiles of HEVC (Table 5.1; their values stand in H.265). -/
def constraintFlags (profile : Nat) : Fields :=
  if profile = 3 || profile = 4 then
    [field "general_max_12bit_constraint_flag" 1, flag_ "general_max_10bit_constraint_flag" (profile = 3),
      field "general_max_8bit_constraint_flag" 0, field "general_max_422chroma_constraint_flag" 1,
      field "general_max_420chroma_constraint_flag" 0, field "general_max_monochrome_constraint_flag" 0,
      field "general_intra_constraint_flag" 0, field "general_one_picture_only_constraint_flag" 0,
      field "general_lower_bit_rate_constraint_flag" 1]
  else []

/-- profile_tier_level of a configuration (R82, R83). -/
def RendCfg.profileTierLevel (cfg : RendCfg) : Fields :=
  [field "general_profile_idc" (profileIdc cfg.profile), field "general_tier_flag" cfg.tierFlag, field "general_level_idc" cfg.level]
    ++ constraintFlags cfg.profile

/-- The bottom offset of the conformance window (Table 5.3). -/
def conformanceOffset (rung chroma : Nat) : Nat :=
  (34 * courseHeight rung - rungHeight rung) / (if chroma = 0 then 2 else 1)

/-- The logarithm of a CTU's side. -/
def ctuLog (rung : Nat) : Nat := if rung ≤ 1 then 6 else if rung = 2 then 5 else 4

/-- The format: picture size, window, chroma format, depths, order counts and decoded picture buffer (R87, R91, R113). -/
def RendCfg.format (cfg : RendCfg) : Fields :=
  [field "chroma_format_idc" (1 + cfg.chroma), field "pic_width_in_luma_samples" (rungWidth cfg.rung),
    field "pic_height_in_luma_samples" (34 * courseHeight cfg.rung), field "conformance_window_flag" 1,
    field "conf_win_left_offset" 0, field "conf_win_right_offset" 0, field "conf_win_top_offset" 0,
    field "conf_win_bottom_offset" (conformanceOffset cfg.rung cfg.chroma), field "bit_depth_luma_minus8" (2 * cfg.depth),
    field "bit_depth_chroma_minus8" (2 * cfg.depth), field "log2_max_pic_order_cnt_lsb_minus4" 12,
    field "max_dec_pic_buffering_minus1" cfg.refs, field "max_num_reorder_pics" 0, field "max_latency_increase_plus1" 1,
    field "long_term_ref_pics_flag" 0]

/-! ### VUI and HRD (R114, R127) -/

/-- colour_primaries, transfer_characteristics and matrix_coeffs (Table 6.3): 4800:03 is 0 for BT.709, 4800:04 is 0 SDR, 1 HLG, 2 PQ. -/
def colourSignal (col tf depth : Nat) (hlgCompat : Bool) : List Int :=
  let p : Int := if col = 0 then 1 else 9
  let sdr : Int := if col = 0 then 1 else if depth = 2 then 15 else 14
  [p, if tf = 0 then sdr else if tf = 2 then 16 else if hlgCompat then sdr else 18, p]

/-- num_units_in_tick and time_scale (R114). -/
def timingSignal (f : Family) (rate : Nat) : List Int :=
  [if f = .f30ntsc || f = .f23976 then 1001 else 1000, (1000 * rate : Nat)]

/-- The VUI (R84, R114). -/
def RendCfg.vui (cfg : RendCfg) (f : Family) (rate : Nat) : Fields :=
  let c := colourSignal cfg.colorimetry cfg.transfer cfg.depth cfg.hlgCompat
  let t := timingSignal f rate
  [field "video_full_range_flag" 0, field "colour_description_present_flag" 1, ("colour_primaries", nth c 0),
    ("transfer_characteristics", nth c 1), ("matrix_coeffs", nth c 2), flag_ "chroma_loc_info_present_flag" (cfg.chroma = 0)]
    ++ (if cfg.chroma = 0 then [field "chroma_sample_loc_type" 0] else [])
    ++ [("num_units_in_tick", nth t 0), ("time_scale", nth t 1)]
    ++ (if cfg.vvc then [] else [field "vui_poc_proportional_to_timing_flag" 1, field "vui_num_ticks_poc_diff_one_minus1" 0,
          field "frame_field_info_present_flag" 0])

/-- The HRD parameters (R127, Table 7.1). -/
def RendCfg.hrd (cfg : RendCfg) : Fields :=
  [field "nal_hrd_parameters_present_flag" 1, field "vcl_hrd_parameters_present_flag" 0,
    field "du_hrd_params_present_flag" 0, field "bit_rate_scale" 0, field "cpb_size_scale" 0, field "cpb_cnt_minus1" 0,
    ("bit_rate_value_minus1", ((sigRate cfg.rate / 64 : Nat) : Int) - 1),
    ("cpb_size_value_minus1", ((sigBuffer cfg.buffer / 16 : Nat) : Int) - 1), field "cbr_flag" 0,
    field "fixed_pic_rate_general_flag" 1, field "elemental_duration_in_tc_minus1" 0, field "low_delay_hrd_flag" 0,
    field "initial_cpb_removal_delay_length_minus1" 23, field "cpb_removal_delay_length_minus1" 23,
    field "dpb_output_delay_length_minus1" 23]

/-! ### Parameter sets (R89, R110, R111, R113, R124) -/

/-- The VPS of HEVC. -/
def RendCfg.vps (cfg : RendCfg) : Fields :=
  [field "vps_video_parameter_set_id" 0, field "vps_max_sub_layers_minus1" 0, field "vps_max_dec_pic_buffering_minus1" cfg.refs,
    field "vps_max_num_reorder_pics" 0, field "vps_max_latency_increase_plus1" 1] ++ cfg.profileTierLevel

/-- The tools of Table 5.4 in the SPS. -/
def hevcTools (rung : Nat) : Fields :=
  [field "log2_min_luma_coding_block_size_minus3" 0, field "log2_diff_max_min_luma_coding_block_size" (ctuLog rung - 3),
    field "log2_min_luma_transform_block_size_minus2" 0,
    field "log2_diff_max_min_luma_transform_block_size" (min 5 (ctuLog rung) - 2), field "max_transform_hierarchy_depth_inter" 2,
    field "max_transform_hierarchy_depth_intra" 2, field "amp_enabled_flag" 1, field "sps_temporal_mvp_enabled_flag" 1,
    field "scaling_list_enabled_flag" 0, field "strong_intra_smoothing_enabled_flag" 1,
    field "sample_adaptive_offset_enabled_flag" 1, field "pcm_enabled_flag" 0, field "transform_skip_rotation_enabled_flag" 0,
    field "transform_skip_context_enabled_flag" 0, field "implicit_rdpcm_enabled_flag" 0, field "explicit_rdpcm_enabled_flag" 0,
    field "extended_precision_processing_flag" 0, field "intra_smoothing_disabled_flag" 0,
    field "high_precision_offsets_enabled_flag" 0, field "persistent_rice_adaptation_enabled_flag" 0,
    field "cabac_bypass_alignment_enabled_flag" 0]

/-- The tools of Table 5.5 in the SPS. -/
def vvcTools : Fields :=
  [field "sps_max_mtt_hierarchy_depth_inter_slice" 3, field "sps_max_mtt_hierarchy_depth_intra_slice" 2,
    field "sps_qtbtt_dual_tree_intra_flag" 0, field "sps_mrl_enabled_flag" 1, field "sps_mip_enabled_flag" 1,
    field "sps_isp_enabled_flag" 1, field "sps_cclm_enabled_flag" 1, field "sps_ibc_enabled_flag" 0,
    field "sps_palette_enabled_flag" 0, field "sps_act_enabled_flag" 0, field "sps_amvr_enabled_flag" 1,
    field "sps_affine_enabled_flag" 1, field "sps_6param_affine_enabled_flag" 1, field "sps_affine_prof_enabled_flag" 1,
    field "sps_sbtmvp_enabled_flag" 1, field "sps_temporal_mvp_enabled_flag" 1, field "sps_mmvd_enabled_flag" 1,
    field "sps_ciip_enabled_flag" 1, field "sps_gpm_enabled_flag" 0, field "sps_bdof_enabled_flag" 0,
    field "sps_dmvr_enabled_flag" 0, field "sps_bcw_enabled_flag" 0, field "sps_smvd_enabled_flag" 0,
    field "sps_weighted_pred_flag" 0, field "sps_weighted_bipred_flag" 0, field "sps_mts_enabled_flag" 1,
    field "sps_explicit_mts_intra_enabled_flag" 1, field "sps_explicit_mts_inter_enabled_flag" 1, field "sps_lfnst_enabled_flag" 1,
    field "sps_sbt_enabled_flag" 1, field "sps_joint_cbcr_enabled_flag" 1, field "sps_transform_skip_enabled_flag" 1,
    field "sps_log2_transform_skip_max_size_minus2" 1, field "sps_dep_quant_enabled_flag" 1,
    field "sps_sign_data_hiding_enabled_flag" 0, field "sps_explicit_scaling_list_enabled_flag" 0, field "sps_sao_enabled_flag" 1,
    field "sps_alf_enabled_flag" 1, field "sps_ccalf_enabled_flag" 1, field "sps_lmcs_enabled_flag" 0,
    field "sps_subpic_info_present_flag" 0, field "sps_ref_pic_resampling_enabled_flag" 0]

/-- The SPS. -/
def RendCfg.sps (cfg : RendCfg) (f : Family) (rate : Nat) : Fields :=
  (if cfg.vvc then
      [field "sps_seq_parameter_set_id" 0, field "sps_video_parameter_set_id" 0, field "sps_log2_ctu_size_minus5" (ctuLog cfg.rung - 5),
        field "sps_gdr_enabled_flag" 1, field "sps_virtual_boundaries_enabled_flag" 1,
        field "sps_virtual_boundaries_info_in_ph_flag" 1, field "sps_num_ref_pic_lists" 2, ("delta_poc[0][0]", -1),
        ("delta_poc[1][0]", -1), ("delta_poc[1][1]", -2)] ++ vvcTools
    else [field "sps_video_parameter_set_id" 0, field "sps_seq_parameter_set_id" 0] ++ hevcTools cfg.rung)
    ++ cfg.profileTierLevel ++ cfg.format ++ cfg.vui f rate ++ cfg.hrd

/-- The PPS: tiles of equal width over the whole height, one tile row (R85, R86), QP signalling (R124), constrained intra prediction in
HEVC (R110). -/
def RendCfg.pps (cfg : RendCfg) : Fields :=
  [field "pps_pic_parameter_set_id" 0, field "pps_seq_parameter_set_id" 0, field "init_qp_minus26" 0,
    field "cu_qp_delta_enabled_flag" 1, field "pps_cb_qp_offset" 0, field "pps_cr_qp_offset" 0,
    field "slice_chroma_qp_offsets_present_flag" 0, field "weighted_pred_flag" 0, field "weighted_bipred_flag" 0,
    field "num_tile_columns_minus1" (tileCols cfg.rung - 1), field "num_tile_rows_minus1" 0,
    field "loop_filter_across_tiles_enabled_flag" 1, field "loop_filter_across_slices_enabled_flag" 1,
    field "entropy_coding_sync_enabled_flag" 0, field "deblocking_filter_disabled_flag" 0]
    ++ (if cfg.vvc then []
      else [field "constrained_intra_pred_flag" 1, field "dependent_slice_segments_enabled_flag" 0,
        field "sign_data_hiding_enabled_flag" 1, field "transform_skip_enabled_flag" 1, field "transquant_bypass_enabled_flag" 0,
        field "diff_cu_qp_delta_depth" (if cfg.rung ≤ 2 then 1 else 0), field "cross_component_prediction_enabled_flag" 0,
        field "chroma_qp_offset_list_enabled_flag" 0, field "log2_max_transform_skip_block_size_minus2" 0])

/-! ### Picture and slices (R86, R91, R111, R113, R118, R124) -/

/-- How many entries a picture's reference list holds. -/
def activeRefs (p : PicS) (refs : List RefPic) : Nat := if p.kind = .idr then 0 else refs.length

/-- The picture header of VVC: GDR and recovery, order count, list structure, and the virtual boundary at the clean edge. -/
def Site.pictureHeader (t : Site) : Fields :=
  let p := t.pic
  let spring : Bool := p.kind = .springer
  let bound : Bool := 0 ≤ p.wave && p.edge t.cfg.rung < rungWidth t.cfg.rung
  [flag_ "ph_gdr_or_irap_pic_flag" spring, flag_ "ph_gdr_pic_flag" spring]
    ++ (if spring then [field "ph_recovery_poc_cnt" (p.period - 1)] else [])
    ++ [field "ph_pic_parameter_set_id" 0, field "ph_pic_order_cnt_lsb" (p.count % 65536),
      field "rpl_idx" (if activeRefs p t.refs = 2 then 1 else 0), flag_ "ph_virtual_boundaries_present_flag" bound]
    ++ (if bound then [field "ph_num_ver_virtual_boundaries" 1, field "ph_virtual_boundary_pos_x_minus1" (p.edge t.cfg.rung / 8 - 1),
          field "ph_num_hor_virtual_boundaries" 0] else [])

/-- A slice: its address, type (HEVC 1 P, 2 I; VVC 1 P), order count, QP by the slice QP delta, the APS of its picture. -/
def Site.sliceHeader (t : Site) (qp : Int) : Fields :=
  let c := t.cfg
  [field "slice_address" (if c.vvc then t.course * tileCols c.rung + t.ctx.tile
      else t.course * ctuRows c.rung * ctusAcross c.rung + t.ctx.tile * tileAcross c.rung),
    field "slice_pic_parameter_set_id" 0, field "slice_type" (if t.pic.kind = .idr then 2 else 1),
    field "slice_pic_order_cnt_lsb" (t.pic.count % 65536), field "num_ref_idx_active" (activeRefs t.pic t.refs),
    ("slice_qp_delta", qp - 26)]
    ++ (if c.vvc then [field "sh_num_alf_aps_ids_luma" 1, field "sh_alf_aps_id_luma" (t.pic.count % 8)] else [])
    ++ (if t.pic.kind = .idr then [] else [field "collocated_ref_idx" 0])

/-- The values of a NAL unit: its header's layer and temporal ids (R113), then its own. -/
def Site.nalFields (t : Site) (f : Family) (rate : Nat) (qp : Int) (k : NalKind) : Fields :=
  [field "nuh_layer_id" 0, field "TemporalId" 0] ++
  match k with
  | .aud => if t.cfg.vvc then [flag_ "aud_irap_or_gdr_flag" (t.pic.kind = .springer), field "aud_pic_type" 1]
    else [field "pic_type" (if t.pic.kind = .idr then 0 else 1)]
  | .vps => t.cfg.vps
  | .sps => t.cfg.sps f rate
  | .pps => t.cfg.pps
  | .alfAps => [field "aps_params_type" 0, field "aps_adaptation_parameter_set_id" (t.pic.count % 8)]
  | .prefixSei => []
  | .pictureHeader => t.pictureHeader
  | .slice _ => t.sliceHeader qp
  | .suffixSei => []
  | .eos => []

/-! ### SEI messages (R115-R117, R128) -/

/-- Hours, minutes, seconds and frames of a timecode label (R116). -/
def timecodeFields (rate tc : Nat) : List Int :=
  [(tc / (rate * 3600) : Nat), (tc / (rate * 60) % 60 : Nat), (tc / rate % 60 : Nat), (tc % rate : Nat)]

/-- Whether a picture is the first of a minute not divisible by ten in the 30-NTSC family (R116). -/
def droppedFlag (f : Family) (rate tc : Nat) : Bool :=
  f = .f30ntsc && tc / rate % 60 = 0 && tc % rate = 2 * rate / 30 && tc / (rate * 60) % 10 ≠ 0

/-- Whether a picture is the first of a new sequence. -/
def PicS.fresh (p : PicS) : Bool := p.seqStart = some 0 || p.seqStart = some 2

/-- Buffering period: initial removal delay and offset (R128). -/
def Site.bufferingPeriod (t : Site) : SeiMsg :=
  let whole := 90000 * sigBuffer t.cfg.buffer / sigRate t.cfg.rate
  ⟨0, [field "initial_cpb_removal_delay" t.pic.delay, ("initial_cpb_removal_offset", (whole : Int) - t.pic.delay),
    field "concatenation_flag" 0]⟩

/-- Time code (R116): `disc` is discontinuity_flag. -/
def timecodeMessage (f : Family) (rate tc : Nat) (disc : Bool) : SeiMsg :=
  let x := timecodeFields rate tc
  ⟨136, [field "num_clock_ts" 1, field "clock_timestamp_flag" 1, field "units_field_based_flag" 0,
    field "counting_type" (if f = .f30ntsc then 4 else 0), field "full_timestamp_flag" 1, flag_ "discontinuity_flag" disc,
    flag_ "cnt_dropped_flag" (droppedFlag f rate tc), ("n_frames", nth x 3), ("seconds_value", nth x 2), ("minutes_value", nth x 1),
    ("hours_value", nth x 0), field "time_offset_length" 0]⟩

/-- Mastering display colour volume and content light level, from 5300:05-0E and 5300:0F-10 as written (R117). -/
def RendCfg.masteringMessages (cfg : RendCfg) : List SeiMsg :=
  let names := ["display_primaries_x[0]", "display_primaries_y[0]", "display_primaries_x[1]", "display_primaries_y[1]",
    "display_primaries_x[2]", "display_primaries_y[2]", "white_point_x", "white_point_y", "max_display_mastering_luminance",
    "min_display_mastering_luminance"]
  [⟨137, names.zip (cfg.hdr.take 10)⟩,
    ⟨144, [("max_content_light_level", nth cfg.hdr 10), ("max_pic_average_light_level", nth cfg.hdr 11)]⟩]

/-- The prefix SEI messages of a picture, in the order of Table 6.4. -/
def Site.prefixSei (t : Site) (f : Family) (rate tc : Nat) (disc : Bool) : List SeiMsg :=
  let p := t.pic
  (if p.kind ≠ .trailing then [t.bufferingPeriod] else [])
    ++ [⟨1, [field "cpb_removal_delay_minus1" (p.since - 1), field "dpb_output_delay" 0]⟩]
    ++ (if p.kind = .springer && !t.cfg.vvc then
          [⟨6, [field "recovery_poc_cnt" (p.period - 1), field "exact_match_flag" 1, field "broken_link_flag" 0]⟩] else [])
    ++ (if t.cfg.timecodeSei then [timecodeMessage f rate tc (disc || p.fresh)] else [])
    ++ (if t.cfg.transfer = 2 then t.cfg.masteringMessages else [])
    ++ (if t.cfg.transfer = 1 && t.cfg.hlgCompat then [⟨147, [field "preferred_transfer_characteristics" 18]⟩] else [])

/-- The decoded picture hash: the CRC of each component of the whole reconstructed picture (R115). -/
def RendCfg.hashMessage (cfg : RendCfg) (bands : List Octets) : SeiMsg :=
  ⟨132, [field "hash_type" 1] ++ (if cfg.vvc then [field "dph_sei_single_component_flag" 0] else [])
    ++ (List.range 3).map fun q => field "picture_crc" (cfg.pictureCrc bands q)⟩

end Sys2Proof.Machine
end

