-- ==== Sys2Proof/Machine/Encode.lean ====
section
/-! DEFINITION. Encode pipelines (ch. 5) and the bitstream they make (ch. 6): levels, costs and placement, starts and
restarts, coding windows, lanes, and the access unit. -/

namespace Sys2Proof.Machine

/-! ### Levels, sizes, costs (R83, R92, R93) -/

/-- A level of Annex A: idc in HEVC and VVC, MaxLumaPs, MaxLumaSr, Main and High limits of CPB size and rate in units of
the profile's NAL factor (0: no High tier), slices, tiles and tile columns (log 20). -/
structure LevelRow where
  hevc : Nat
  vvc : Nat
  ps : Nat
  sr : Nat
  main : Nat
  mainVvc : Nat
  high : Nat
  slices : Nat
  cols : Nat
  deriving DecidableEq, Repr, Inhabited

/-- Annex A of H.265 and H.266, levels 3 to 6.2 (log 20). -/
def levelTable : List LevelRow :=
  [⟨90, 48, 552960, 16588800, 6000, 6000, 0, 30, 2⟩,
   ⟨93, 51, 983040, 33177600, 10000, 10000, 0, 40, 3⟩,
   ⟨120, 64, 2228224, 66846720, 12000, 12000, 30000, 75, 5⟩,
   ⟨123, 67, 2228224, 133693440, 20000, 20000, 50000, 75, 5⟩,
   ⟨150, 80, 8912896, 267386880, 25000, 25000, 100000, 200, 10⟩,
   ⟨153, 83, 8912896, 534773760, 40000, 40000, 160000, 200, 10⟩,
   ⟨156, 86, 8912896, 1069547520, 60000, 60000, 240000, 200, 10⟩,
   ⟨180, 96, 35651584, 1069547520, 60000, 80000, 240000, 600, 20⟩,
   ⟨183, 99, 35651584, 2139095040, 120000, 120000, 480000, 600, 20⟩,
   ⟨186, 102, 35651584, 4278190080, 240000, 180000, 800000, 600, 20⟩]

/-- The NAL factor of a profile (log 20). -/
def nalFactor (profile : Nat) : Nat :=
  if profile = 3 then 1833 else if profile = 4 then 2200 else if profile = 6 then 2750 else 1100

/-- Slices of a picture (Table 5.2). -/
def pictureSlices (rung : Nat) : Nat := 34 * tileCols rung

/-- Whether a level and tier (1 Main, 2 High) meet R83. -/
def LevelRow.meets (l : LevelRow) (vvc : Bool) (tier rung profile R B : Nat) (f : Family) (k : Nat) : Bool :=
  let luma := rungWidth rung * 34 * courseHeight rung
  let lim := if tier = 2 then l.high else if vvc then l.mainVvc else l.main
  luma ≤ l.ps && luma * f.b ≤ l.sr * (34 * k * f.a) && pictureSlices rung ≤ l.slices && tileCols rung ≤ l.cols
    && R ≤ lim * nalFactor profile && B ≤ lim * nalFactor profile

/-- The level and tier signalled (R83), or none: reason 0x5006. -/
def chooseLevel (vvc : Bool) (level tier rung profile R B : Nat) (f : Family) (k : Nat) : Option (Nat × Nat) :=
  (levelTable.filter fun l => level = 0 || (if vvc then l.vvc else l.hevc) = level).findSome? fun l =>
    let idc := if vvc then l.vvc else l.hevc
    if tier ≠ 2 && l.meets vvc 1 rung profile R B f k then some (idc, 1)
    else if tier ≠ 1 && l.meets vvc 2 rung profile R B f k then some (idc, 2)
    else none

/-- The profile code of a rendition's configuration. -/
def Mod.rendProfile (m : Mod) (r : Nat) : Nat :=
  profileOf (m.n (0x5000 + r) 4 = 1) (m.n (0x5000 + r) 5) (m.n (0x5000 + r) 6) (m.n (0x5000 + r) 3)

/-- The level and tier of a rendition's configuration. -/
def Mod.rendLevel (m : Mod) (r : Nat) : Option (Nat × Nat) :=
  chooseLevel (m.n (0x5000 + r) 4 = 1) (m.n (0x5000 + r) 7) (m.n (0x5000 + r) 8) (m.n (0x5000 + r) 3) (m.rendProfile r)
    (sigRate (m.n (0x5400 + r) 6)) (sigBuffer (m.n (0x5400 + r) 7)) m.fam (m.rendStep r)

/-- A reference picture's octets (R92): rung, chroma, depth. -/
def pictureBytes (rung chroma depth : Nat) : Nat :=
  let luma := rungWidth rung * 34 * courseHeight rung
  let eighths := (if chroma = 0 then 12 else 16) * (8 + 2 * depth) / 8
  luma * eighths / 8 + 4 * (rungWidth rung / 32) * (34 * courseHeight rung / 8)

/-- Reference memory of a rendition (R92). -/
def Mod.rendRefBytes (m : Mod) (r : Nat) : Nat :=
  (m.n (0x5000 + r) 9 + 1) * pictureBytes (m.n (0x5000 + r) 3) (m.n (0x5000 + r) 5) (m.n (0x5000 + r) 6)

/-- The quarter stones of a rung at step k (R93). -/
def rungCost (rung k : Nat) : Nat := nth [256, 64, 16, 4] rung / k

/-- A rendition's cost in quarter stones per base tick (R93). -/
def Mod.rendCost (m : Mod) (r : Nat) : Nat := rungCost (m.n (0x5000 + r) 3) (m.rendStep r)

/-! ### Placement (R79, R95) -/

/-- The tile columns of a rendition with their per-tick cost (R79). -/
def Mod.tileCosts (m : Mod) (r : Nat) : List (Nat × Nat × Nat) :=
  let rung := m.n (0x5000 + r) 3
  (List.range (tileCols rung)).map fun t => (m.rendCost r / tileCols rung, r, t)

/-- R79's order: descending cost, then ascending rendition, then ascending tile column. -/
def tileBefore (x y : Nat × Nat × Nat) : Bool :=
  y.1 < x.1 || (x.1 = y.1 && (x.2.1 < y.2.1 || (x.2.1 = y.2.1 && x.2.2 ≤ y.2.2)))

/-- The load of a lane of a pipeline. -/
def laneLoad (lanes : List (Nat × Nat × Nat × Nat × Nat)) (p l : Nat) : Nat :=
  ((lanes.filter fun x => x.1 = p && x.2.1 = l).map fun x => x.2.2.2.2).sum

/-- The least of 0 to n − 1 under a measure, ties to the lowest. -/
def leastOf (n : Nat) (f : Nat → Nat) : Nat :=
  (List.range n).foldl (fun b i => if f i < f b then i else b) 0

/-- Gives the tile columns of renditions starting on a pipeline their lanes (R79). -/
def placeLanes (lanes : List (Nat × Nat × Nat × Nat × Nat)) (p : Nat) (tiles : List (Nat × Nat × Nat)) :
    List (Nat × Nat × Nat × Nat × Nat) :=
  (sortBy tileBefore tiles).foldl (fun ls x => ls ++ [(p, leastOf 8 (laneLoad ls p), x.2.1, x.2.2, x.1)]) lanes

/-- A pipeline's load in quarter stones, from a placement of channels with their costs. -/
def pipeLoad (pl : List (Nat × Nat × Nat)) (p : Nat) : Nat := ((pl.filter fun x => x.2.1 = p).map fun x => x.2.2).sum

/-- Quarter stones of a pipeline (R78, R95). -/
abbrev pipeLimit : Nat := 256

/-- R95 for channels starting at one tick: (channel, cost, named pipeline or 0xFF). Named ones first, in ascending
channel, then automatic ones by descending cost and ascending channel; the new placement, or the reason and channel. -/
def placeChannels (pl : List (Nat × Nat × Nat)) (starts : List (Nat × Nat × Nat)) :
    Except (Nat × Nat) (List (Nat × Nat × Nat)) := do
  let named := starts.filter fun x => x.2.2 ≠ 0xFF
  let autos := sortBy (fun x y => y.2.1 < x.2.1 || (x.2.1 = y.2.1 && x.1 ≤ y.1)) (starts.filter fun x => x.2.2 = 0xFF)
  let a ← named.foldlM (fun pl x =>
    if pipeLimit < pipeLoad pl x.2.2 + x.2.1 then Except.error (0x5001, x.1) else .ok (pl ++ [(x.1, x.2.2, x.2.1)])) pl
  autos.foldlM (fun pl x =>
    match ((List.range 8).filter fun p => pipeLoad pl p + x.2.1 ≤ pipeLimit) with
    | [] => Except.error (0x5003, x.1)
    | p0 :: ps =>
      let p := ps.foldl (fun b i => if pipeLoad pl i < pipeLoad pl b then i else b) p0
      .ok (pl ++ [(x.1, p, x.2.1)])) a

/-- The renditions that hold lanes. -/
def Mod.placedRends (m : Mod) : List Nat := (List.range 128).filter fun r => m.lanes.any fun x => x.2.2.1 = r

/-- The channel whose pictures a rendition codes last: that of its latest configuration. -/
def Mod.codedChan (m : Mod) (r : Nat) : Nat := if (m.rend r).cfgs = [] then m.rendChan r else (m.rend r).cfgNow.chan

/-- The status objects of the pipelines follow the lanes (5240, 5250:04). -/
def Mod.showPipelines (m : Mod) : Mod :=
  let rs := m.placedRends
  let cost (r : Nat) : Nat := ((m.lanes.filter fun x => x.2.2.1 = r).map fun x => x.2.2.2.2).sum
  let pipeOf (r : Nat) : Nat := ((m.lanes.find? fun x => x.2.2.1 = r).map (·.1)).getD 0xFF
  let m := (List.range 8).foldl (fun m p =>
    let here := rs.filter fun r => pipeOf r = p
    let m := ((m.put (0x5240 + p) 1 (here.map cost).sum).put (0x5240 + p) 2 ((here.map m.codedChan).eraseDups).length).put
      (0x5240 + p) 3 here.length
    (List.range 8).foldl (fun m l => m.put (0x5240 + p) (4 + l) (laneLoad m.lanes p l)) m) m
  m.put 0x5250 4 ((List.range 32).filter fun n => m.n (0x5200 + n) 2 ≠ 0xFF).length

/-- The egress hold H (5A00:01). -/
def Mod.hold (m : Mod) : Nanos := m.n 0x5A00 1

/-- The fixed latency L of a channel (R103). -/
def Mod.latency (m : Mod) (k : Nat) : Nanos := 2 * m.fam.a * k * second / m.fam.b + m.hold + 20000

/-- The course-0 departure a × P + L of a channel (R103). -/
def Mod.departure (m : Mod) (k a : Nat) : Nanos := (a + 2) * m.fam.a * k * second / m.fam.b + m.hold + 20000

/-! ### Starting, restarting and stopping a rendition (R118, R119) -/

/-- Raises ev 5005 and shows the start of a sequence: 1 IDR, 2 new VVC sequence, 3 continuing restart (R119). -/
def Mod.sequenceStarts (m : Mod) (r tick kind : Nat) : Mod :=
  (((m.bump (0x5380 + r) 7).put (0x5380 + r) 8 tick).put (0x5380 + r) 9 kind).raise 0x5005 r [r, tick, kind]

/-- The status objects of a rendition that runs (5080, 5480:07-08, 5200:04-05). -/
def Mod.showRendition (m : Mod) (r : Nat) : Mod :=
  let rung := m.n (0x5000 + r) 3
  let vvc := m.n (0x5000 + r) 4 = 1
  let n := m.rendChan r
  let k := m.rendStep r
  let lv := (m.rendLevel r).getD (0, 0)
  let lanes := (m.lanes.filter fun x => x.2.2.1 = r).map fun x => x.2.1
  let m := ((m.put (0x5080 + r) 2 (((m.lanes.find? fun x => x.2.2.1 = r).map (·.1)).getD 0xFF)).put (0x5080 + r) 3
    (m.rendCost r)).put (0x5080 + r) 4 (m.rendProfile r)
  let m := ((m.put (0x5080 + r) 5 lv.1).put (0x5080 + r) 6 lv.2).put (0x5080 + r) 7 (ctuSize rung)
  let m := (m.put (0x5080 + r) 8 (tileCols rung)).put (0x5080 + r) 9
    (((List.range 8).filter fun l => lanes.contains l).map fun l => 2 ^ l).sum
  let m := (m.put (0x5080 + r) 0x0A (m.rendRefBytes r)).put (0x5080 + r) 0x0B (filterMargin vvc)
  let m := (m.put (0x5480 + r) 7 (sigRate (m.n (0x5400 + r) 6))).put (0x5480 + r) 8 (sigBuffer (m.n (0x5400 + r) 7))
  (m.put (0x5200 + n) 4 (m.latency k)).put (0x5200 + n) 5 (m.departure k (m.n (0x4100 + n) 4))

/-- What a run keeps of the state before it: launch index, continuity and tables, confirmation, the records, the CPB model. -/
def RendS.keep (s : RendS) : RendS :=
  { (default : RendS) with
    nextIndex := s.nextIndex
    counters := s.counters
    tables := s.tables
    confirm := s.confirm
    lately := s.lately
    discontinuity := s.discontinuity
    packing := s.packing
    queue := s.queue
    records := s.records
    unclosed := s.unclosed
    secondAt := s.secondAt
    setAside := s.setAside
    cpb := s.cpb
    cpbFor := s.cpbFor
    hist := List.replicate 34 [] }

/-- The CPB model at the end of a rendition's pictures, with the rate and buffer it was kept for (R129). -/
def Mod.keepModel (m : Mod) (r : Nat) : Mod :=
  match (m.rend r).pics.getLast? with
  | none => m
  | some p =>
    let cfg := (m.rend r).cfgFor p.frame
    m.modRend r fun s => { s with cpb := (m.fullAfter r p).1, cpbFor := (cfg.rate, cfg.buffer) }

/-- A stop ends the CPB model: the next start begins with a full one (R129). -/
def Mod.dropModel (m : Mod) (r : Nat) : Mod := m.modRend r fun s => { s with cpb := 0, cpbFor := (0, 0) }

/-- D_0 of a run that begins (R129): B at a first start; in a restart the model goes on, unless rate or buffer is another. -/
def Mod.firstFull (m : Mod) (r : Nat) (cfg : RendCfg) : Nat :=
  let s := m.rend r
  if s.cpbFor = (0, 0) then cfg.buffer * 1000
  else if s.cpbFor = (cfg.rate, cfg.buffer) then s.cpb
  else m.fam.frameAllowance (cfg.buffer * 1000) (cfg.rate * 1000) cfg.k

/-- A rendition's pictures begin at a frame tick under its objects; `marks` says how the sequence begins there. -/
def Mod.openRun (m : Mod) (r frame : Nat) (marks : List (Nat × Nat)) : Mod :=
  let m := m.showRendition r
  let cfg := m.rendCfg r
  let D := m.firstFull r cfg
  m.modRend r fun s =>
    { s.keep with
      cfgs := [(frame, cfg)]
      first := frame
      sequences := marks
      cpb := D
      cpbFor := (cfg.rate, cfg.buffer) }

/-- A rendition's pictures begin at a frame tick with a new sequence (R118, R129). -/
def Mod.beginRendition (m : Mod) (r frame : Nat) : Mod :=
  (m.openRun r frame [(frame, 0)]).sequenceStarts r frame (if m.n (0x5000 + r) 4 = 1 then 2 else 1)

/-- Whether a restart continues the sequence (R119). -/
def RendCfg.continues (a b : RendCfg) : Bool :=
  b.vvc && a.vvc && a.rung = b.rung && a.chroma = b.chroma && a.depth = b.depth && a.level = b.level && a.tier = b.tier
    && a.refs = b.refs && a.rate = b.rate && a.buffer = b.buffer && a.chan = b.chan

/-- A stop-change-restart at tick T under the objects as they stand now, whose first picture has the frame tick `frame` (R119). The
frame periods in between, which only a change of channel or step leaves, carry no picture; nor do those since a restart that disabled
the rendition. -/
def Mod.restartRendition (m : Mod) (r T frame : Nat) : Mod :=
  let m := m.showRendition r
  let cfg := m.rendCfg r
  let cont := (m.rend r).cfgNow.continues cfg && (m.rend r).until_ = none
  let m := m.modRend r fun s =>
    { s with
      cfgs := (s.cfgs.filter fun x => x.1 < T).drop (s.cfgs.length - 3) ++ [(T, cfg)]
      sequences := (s.sequences.filter fun x => x.1 < T).drop (s.sequences.length - 4)
        ++ (match s.until_ with | some u => if u < T then [(u, 3)] else [] | none => [])
        ++ (if T < frame then [(T, 3)] else []) ++ [(frame, if cont then 1 else 0)]
      until_ := none
      fallback := false
      capped := false }
  m.sequenceStarts r frame (if cont then 3 else if cfg.vvc then 2 else 1)

/-- A rendition's pictures end before a frame tick (R119). -/
def Mod.endPictures (m : Mod) (r frame : Nat) : Mod := m.modRend r fun s => { s with until_ := some frame }

/-- The slots of the launch queue that the outputs commit (5A01:01). -/
def Mod.showSlots (m : Mod) : Mod := m.put 0x5A01 1 (((List.range 128).map fun q => m.n (0x5880 + q) 4)).sum

/-- A channel whose last rendition has stopped gives up its pipeline (R95). -/
def Mod.freePipe (m : Mod) (n : Nat) : Mod :=
  if m.placedRends.any fun q => m.codedChan q = n || m.rendChan q = n then m
  else ((m.put (0x5200 + n) 2 0xFF).put (0x5200 + n) 4 0).put (0x5200 + n) 5 0

/-- A rendition has drained and is STOPPED: its lanes are free, its status reads as at rest. -/
def Mod.releaseRendition (m : Mod) (r : Nat) : Mod :=
  let n := m.codedChan r
  let m : Mod := { m with lanes := m.lanes.filter fun x => x.2.2.1 ≠ r }
  let m := ((m.keepModel r).clear (0x5080 + r) 2 0x0B).modRend r fun s => s.keep
  let m := m.putZ (0x5380 + r) 1 (-1)
  let m := ((m.put (0x5880 + r) 1 0).clear (0x5880 + r) 2 4).showSlots
  (m.freePipe n).showPipelines

/-! ### Coding windows (R84, R97, R134) -/

/-- A 12-bit sample at a depth (R84). -/
def toDepth (depth v : Nat) : Nat :=
  if depth = 0 then min ((v + 8) / 16) 255 else if depth = 1 then min ((v + 2) / 4) 1023 else v

/-- 4:2:0 chroma of a course, line pair by line pair (R84): the first row of a pair carries it. -/
def to420 : List Row → List Row
  | a :: b :: r =>
    let mean (x y : List Nat) : List Nat := (x.zip y).map fun p => (p.1 + p.2 + 1) / 2
    ⟨a.c0, mean a.c1 b.c1, mean a.c2 b.c2⟩ :: ⟨b.c0, [], []⟩ :: to420 r
  | r => r

/-- A rung course at the rendition's format (R84). -/
def convertRung (chroma depth : Nat) (rows : List Row) : List Row :=
  (if chroma = 0 then to420 rows else rows).map fun r =>
    ⟨r.c0.map (toDepth depth), r.c1.map (toDepth depth), r.c2.map (toDepth depth)⟩

/-! ### Quantisation groups (R124) -/

/-- The side of a quantisation group in luma samples. -/
def groupSide (rung : Nat) : Nat := if ctuSize rung = 64 then 32 else 16

/-- The distance of two samples. -/
def sampleDiff (a b : Nat) : Nat := (a - b) + (b - a)

/-- Adds a list to another, place by place. -/
def addPlaces : List Nat → List Nat → List Nat
  | a :: l, b :: r => (a + b) :: addPlaces l r
  | l, _ => l

/-- The activities of a row of `n` groups of side g: horizontal differences inside the groups of each line, vertical differences of
the lines that follow each other. -/
def bandActivities (g n : Nat) (rows : List (List Nat)) : List Nat :=
  let across (l : List Nat) : Nat := ((l.zip (l.drop 1)).map fun x => sampleDiff x.1 x.2).sum
  let h := rows.map fun l => (piecesOf g n l).map across
  let v := (rows.zip (rows.drop 1)).map fun x => (piecesOf g n ((x.1.zip x.2).map fun y => sampleDiff y.1 y.2)).map List.sum
  (h ++ v).foldl addPlaces (List.replicate n 0)

/-- The luma activity of each quantisation group of a course, in raster order: the sum of absolute horizontal and vertical
differences of the 12-bit rung samples. -/
def courseActivities (rung : Nat) (rows : List Row) : List Nat :=
  let g := groupSide rung
  (piecesOf g (courseHeight rung / g) (rows.map (·.c0))).flatMap (bandActivities g (rungWidth rung / g))

/-- round(s × log2((2A + M) / (A + 2M))) with the mean M = S / N: the number of half steps above −s that the ratio's power 2s
reaches. -/
def activityOffset (s A S N : Nat) : Int :=
  let p := 2 * A * N + S
  let q := A * N + 2 * S
  if p = 0 then max (-(s : Int)) (min (s : Int) (Config.flatActivity s))
  else
    let reached := (List.range (2 * s)).filter fun j => q ^ (2 * s) * 2 ^ (2 * j + 1) ≤ p ^ (2 * s) * 2 ^ (2 * s)
    (reached.length : Int) - s

/-- The QP of each quantisation group of a course: clip(q_base + Δ_c + δ_act + δ_intra, q_floor, q_ceil); without the offsets in
fallback (R144). -/
def Coding.groupQps (c : Coding) (cfg : RendCfg) (p : PicS) : List Int :=
  let g := groupSide cfg.rung
  let n := rungWidth cfg.rung / g
  let x := intraRegion cfg.rung cfg.vvc p.wave p.period
  c.acts.zipIdx.map fun a =>
    let col := a.2 % n * g
    let intra := p.kind ≠ .idr && x.1 < x.2 && col < x.2 && x.1 < col + g
    let own := if c.plan.fallback then 0
      else activityOffset cfg.strength a.1 c.mean.1 c.mean.2 + (if intra then cfg.intraOffset else 0)
    max cfg.qFloor (min cfg.qCeil (c.plan.qp + c.plan.delta + own))

/-- The mean activity M (R124): of the picture before, or of the course itself in the first picture of a sequence. -/
def RendS.meanActivity (s : RendS) (frame : Nat) (acts : List Nat) : Nat × Nat :=
  match s.before frame with
  | none => (acts.sum, acts.length)
  | some p => if (s.pic frame).fresh || p.acts.2 = 0 then (acts.sum, acts.length) else p.acts

/-! ### Windows and their lanes (R80, R97, R134-R136) -/

/-- A tile column of a course that is coded, as its lane sees it. -/
def Mod.site (m : Mod) (r : Nat) (c : Coding) (tile : Nat) : Site :=
  let s := m.rend r
  let cfg := s.cfgFor c.frame
  let p := s.pic c.frame
  let refs := s.refsFor c.frame
  let plan : List Int := [(c.course : Int), (c.plan.delta : Int), c.plan.qp] ++ c.slices.map fun x => (x.budget : Int)
  let ctx : CodeCtx := ⟨cfg.numbers ++ p.numbers ++ plan ++ c.groupQps cfg p, c.input, refs.map fun x => x.bands, (s.ref c.frame).bands,
    tile, []⟩
  ⟨ctx, cfg, p, refs, c.course⟩

/-- The coding window of a course opens at tick T with its slices, whose headers take their bits; with course 0 the picture takes a
slot of the reference region. -/
def Mod.openWindow (m : Mod) (r : Nat) (h : Handed) (rows : List Row) (T : Nat) : Mod :=
  match (m.rend r).plans.find? fun p => p.frame = h.frame && p.course = h.course with
  | none => m
  | some plan =>
    let s := m.rend r
    let cfg := s.cfgFor h.frame
    let acts := courseActivities cfg.rung rows
    let m := m.modRend r fun s =>
      (if h.course = 0 then s.addRef h.frame cfg.refs else s).modPic h.frame fun p =>
        { p with acts := (p.acts.1 + acts.sum, p.acts.2 + acts.length) }
    let src := s.source cfg ((s.pic h.frame).kind = .idr) h.frame h.course h.course
    let slices := (sliceBudgets cfg.rung plan.budget src.2.2).zipIdx.map fun b =>
      ({ (default : SliceS) with tile := b.2, budget := b.1, ctus := tileCtus cfg.rung, lastAt := m.fam.edge T } : SliceS)
    let c : Coding :=
      { frame := h.frame, course := h.course, endTick := T + h.k, input := convertRung cfg.chroma cfg.depth rows, plan := plan,
        slices := slices, handed := h, acts := acts, mean := s.meanActivity h.frame acts }
    let c := { c with slices := slices.map fun x => { x with bits := min 320 (Config.sliceHeadBits (m.site r c x.tile).ctx) } }
    m.modRend r fun s => { s with coding := s.coding ++ [c] }

/-- A tile course that a lane has still to finish: rendition, tile column, frame tick of the picture, end of its window. -/
structure LaneTask where
  pipe : Nat
  lane : Nat
  r : Nat
  tile : Nat
  frame : Nat
  endTick : Nat
  deriving DecidableEq, Repr, Inhabited

/-- The unfinished tile courses of every lane. -/
def Mod.laneTasks (m : Mod) : List LaneTask :=
  (List.range 128).flatMap fun r => (m.rend r).coding.flatMap fun c =>
    let cfg := (m.rend r).cfgFor c.frame
    (c.slices.filter fun x => x.done < x.ctus).map fun x => ⟨cfg.pipe, nth cfg.lanes x.tile, r, x.tile, c.frame, c.endTick⟩

/-- Where a tile column stands in the lane map: the order in which it was given its lane. -/
def Mod.mapPlace (m : Mod) (t : LaneTask) : Nat := m.lanes.findIdx fun x => x.2.2.1 = t.r && x.2.2.2.1 = t.tile

/-- The tile course a lane takes up next (R80): that due at the earliest tick, among equals the first of the lane map. -/
def Mod.nextTask (m : Mod) (l : List LaneTask) : Option LaneTask :=
  (sortBy (fun a b => a.endTick < b.endTick || (a.endTick = b.endTick && m.mapPlace a ≤ m.mapPlace b)) l).head?

/-- The tile course that a lane codes a CTU of: the one it has begun a CTU of, else the next by R80. -/
def Mod.taskOf (m : Mod) (pipe lane : Nat) : Option LaneTask :=
  let l := m.laneTasks.filter fun t => t.pipe = pipe && t.lane = lane
  match m.serving.find? fun x => x.1 = (pipe, lane) with
  | none => m.nextTask l
  | some x => match l.find? fun t => (t.r, t.tile, t.frame) = x.2 with
    | none => m.nextTask l
    | some t => some t

/-- A lane turns to the next tile course at a CTU boundary (R80). -/
def Mod.serveNext (m : Mod) (pipe lane : Nat) : Mod :=
  let rest := m.serving.filter fun (x : (Nat × Nat) × Nat × Nat × Nat) => x.1 ≠ (pipe, lane)
  match m.nextTask (m.laneTasks.filter fun t => t.pipe = pipe && t.lane = lane) with
  | none => { m with serving := rest }
  | some t => { m with serving := rest ++ [((pipe, lane), t.r, t.tile, t.frame)] }

/-- Lanes without a CTU in progress take one up when windows open. -/
def Mod.serveIdle (m : Mod) : Mod :=
  let tasks := m.laneTasks
  let busy := m.serving.filter fun x => tasks.any fun t => (t.pipe, t.lane) = x.1 && (t.r, t.tile, t.frame) = x.2
  let idle := ((tasks.map fun t => (t.pipe, t.lane)).eraseDups).filter fun l => !(busy.map (·.1)).contains l
  let m : Mod := { m with serving := busy }
  m.each idle fun (m : Mod) (l : Nat × Nat) => m.serveNext l.1 l.2

/-- The CTUs of the intra region among those of a slice from a place up to another that are not coded normally (R112). -/
def Site.intraLost (t : Site) (from_ upto : Nat) : Nat :=
  ((List.range upto).filter fun i => from_ ≤ i
    && ctuIntra t.cfg.rung t.cfg.vvc t.pic.wave t.pic.period (t.ctx.tile * tileAcross t.cfg.rung + i % tileAcross t.cfg.rung)).length

/-- Counts CTUs of the intra region that were substituted or exhausted, and raises ev 5004 (R112, R137). -/
def Mod.countIntraLost (m : Mod) (r T k : Nat) : Mod :=
  if k = 0 then m else (m.count (0x5380 + r) 6 k).raiseLimitedBy 0x5004 r second k [r, T]

/-- Replaces a slice of a course that is coded. -/
def RendS.setSlice (s : RendS) (frame : Nat) (x : SliceS) : RendS :=
  { s with
    coding := s.coding.map fun c =>
      if c.frame = frame then { c with slices := c.slices.map fun y => if y.tile = x.tile then x else y } else c }

/-- CTUs that do without a failing block of a reference (R100): counted, and ev 5002 for the first of a picture. -/
def Mod.referenceError (m : Mod) (r frame ctus : Nat) : Mod :=
  if ctus = 0 then m
  else
    let first : Bool := ((m.rend r).pic frame).refErrors = 0
    let m := (m.count (0x5100 + r) 5 ctus).modPic r frame fun p => { p with refErrors := p.refErrors + ctus }
    if first then m.raise 0x5002 r [r, m.tick] else m

/-- Whether a per-course service of a rendition's pipeline is down (R13, R364): 2 mux control, 3 course records, 4 replay
indexing. -/
def Mod.serviceDown (m : Mod) (r cls : Nat) : Bool := m.downCores.contains (8 * m.pipeOf r + cls)

/-- Late CTUs of a course are counted, with ev 5001 and what of them the intra region has lost (R98, R101, R112). -/
def Mod.countLateCtus (m : Mod) (r : Nat) (c : Coding) (pipe n lost : Nat) : Mod :=
  if n = 0 then m
  else
    let first := !(c.slices.any fun z => z.lateCount ≠ 0)
    let m := (m.count (0x5100 + r) 4 n).count (0x5240 + pipe) 0x0D n
    let m := if first then (m.bump (0x5100 + r) 3).bump (0x5240 + pipe) 0x0C else m
    (m.raiseLimitedBy 0x5001 r second n [r, m.tick]).countIntraLost r m.tick lost

/-- A lane has finished a CTU of a slice (R135): it is kept, or it and every later CTU of the slice take the exhaustion form, which is
counted (R137, R112). -/
def Mod.takeCtu (m : Mod) (r : Nat) (c : Coding) (x : SliceS) : Mod :=
  let t := m.site r c x.tile
  let y := x.take t m.now
  let first := !(c.slices.any fun z => z.exhausted)
  let m := (m.modRend r fun s => s.setSlice c.frame y).referenceError r c.frame (y.errors - x.errors)
  let m := m.countLateCtus r c t.cfg.pipe (y.lateCount - x.lateCount) (t.intraLost x.done (x.done + 1))
  if y.exhausted && !x.exhausted then
    let n := x.ctus - x.done
    let m := m.count (0x5500 + r) 7 n
    let m := if first then m.bump (0x5500 + r) 6 else m
    (m.raiseLimitedBy 0x5010 r second n [r, m.tick]).countIntraLost r m.tick (t.intraLost x.done x.ctus)
  else m

/-- CTU_COMPLETE of a column lane that codes tile column `tile` of rendition r: it finishes the CTU in progress and turns to the tile
course that R80 gives it. A lane finishes no CTU of a tile column whose turn it is not (R80, log 66). -/
def Mod.ctuComplete (m : Mod) (pipe lane r tile : Nat) : Mod :=
  match m.taskOf pipe lane with
  | none => m
  | some t =>
    if t.r ≠ r ∨ t.tile ≠ tile then m
    else match (m.rend t.r).coding.find? fun c => c.frame = t.frame with
    | none => m
    | some c => (m.takeCtu t.r c (nth c.slices t.tile)).serveNext pipe lane

/-- The instant of a lane's cutoff for a window that ends at tick T (R97). -/
def Family.cutoff (f : Family) (T : Nat) : Nanos := f.edge (T - 1) + 56 * f.a * second / (64 * f.b)

/-- The unfinished slice of a tile column at its cutoff (R98, R101, R136). -/
def Mod.cutSlice (m : Mod) (r : Nat) (c : Coding) (x : SliceS) : Mod :=
  let t := m.site r c x.tile
  let n := x.ctus - x.done
  let y := SliceS.cutoff t n x
  let late : Int := -(1 + (Config.lateness m.draws : Int))
  let m := (m.modRend r fun s => (s.setSlice c.frame y).modPic c.frame fun p =>
    { p with margin := some (match p.margin with | none => late | some a => min a late) }).drawN 1
  (m.referenceError r c.frame (y.errors - x.errors)).countLateCtus r c t.cfg.pipe n (t.intraLost x.done x.ctus)

/-- The cutoff of tile courses whose windows end at the next edge (R97, R98). -/
def Mod.cutTasks (m : Mod) (l : List LaneTask) : Mod :=
  m.each (l.filter fun t => t.endTick = m.tick + 1) fun (m : Mod) (t : LaneTask) =>
    match (m.rend t.r).coding.find? fun c => c.frame = t.frame with
    | none => m
    | some c => m.cutSlice t.r c (nth c.slices t.tile)

/-- LATE_CTU_CUTOFF of one lane (R97): nothing before slot 56 of the tick. -/
def Mod.lateCutoff (m : Mod) (pipe lane : Nat) : Mod :=
  if m.now < m.fam.cutoff (m.tick + 1) then m
  else (m.cutTasks (m.laneTasks.filter fun t => t.pipe = pipe && t.lane = lane)).serveNext pipe lane

/-- Every cutoff of the closing tick that has not been acted on (R98: the course always completes). -/
def Mod.cutAll (m : Mod) : Mod := m.cutTasks m.laneTasks

/-! ### The access unit (R113-R117) -/

/-- Bits of an EOS: its NAL unit header alone. Whether it is sent is known only after the overhead of its picture is fixed; it counts
in the picture's size (log 66). -/
abbrev eosBits : Nat := 16

/-- Whether the access unit of a picture ends with EOS (R119): the run ends with it, or a new sequence or a change of channel follows. -/
def RendS.endsSequence (s : RendS) (frame : Nat) : Bool :=
  let next := frame + 34 * (s.cfgFor frame).k
  (match s.until_ with | some u => u ≤ next | none => false)
    || s.sequences.any fun x => (x.2 = 0 || x.2 = 3) && frame < x.1 && x.1 ≤ next

/-- The sizes of the NAL units before the slices: each has a free size of what is left of the overhead, the last one all of it. -/
def headSizes (key : List Int) (bits n : Nat) : List Nat :=
  ((List.range n).foldl (fun (acc : List Nat × Nat) (i : Nat) =>
    let b := if i + 1 = n then acc.2 else min acc.2 (Config.nalBits key i)
    (acc.1 ++ [b], acc.2 - b)) ([], bits)).1

/-- The NAL units before the slices, in the order of Table 6.2. -/
def Mod.headNals (m : Mod) (r : Nat) (c : Coding) : List Nal :=
  let t := m.site r c 0
  let p := t.pic
  let rate := m.nominalRate t.cfg.k
  let tc := c.handed.timecode
  let disc := match (m.rend r).lastTimecode with | none => true | some l => m.nextTimecode rate l ≠ tc
  let kinds : List NalKind := if t.cfg.vvc then [.aud, .sps, .pps, .alfAps, .prefixSei, .pictureHeader]
    else [.aud, .vps, .sps, .pps, .prefixSei]
  let sizes := headSizes (t.cfg.numbers ++ p.numbers) (p.overhead - p.suffix) kinds.length
  (kinds.zip sizes).map fun k =>
    ⟨k.1, p.kind, t.nalFields m.fam rate c.plan.qp k.1, if k.1 = .prefixSei then t.prefixSei m.fam rate tc disc else [], k.2⟩

/-- The NAL units handed on with a course (R113, R119); `bands` is the whole picture once course 33 is final. -/
def Mod.courseNals (m : Mod) (r : Nat) (c : Coding) (bands : List Octets) : List Nal :=
  let t := m.site r c 0
  let p := t.pic
  let rate := m.nominalRate t.cfg.k
  let of (k : NalKind) (sei : List SeiMsg) (bits : Nat) : Nal := ⟨k, p.kind, t.nalFields m.fam rate c.plan.qp k, sei, bits⟩
  (if c.course = 0 then m.headNals r c else [])
    ++ (c.slices.map fun x => (⟨.slice x.tile, p.kind, (m.site r c x.tile).nalFields m.fam rate (c.plan.qp + c.plan.delta) (.slice x.tile),
          [], x.bits⟩ : Nal))
    ++ (if c.course = 33 && t.cfg.hash then [of .suffixSei [t.cfg.hashMessage bands] p.suffix] else [])
    ++ (if c.course = 33 && (m.rend r).endsSequence c.frame then [of .eos [] eosBits] else [])

end Sys2Proof.Machine
end

