-- ==== Sys2Proof/Machine/Transport.lean ====
section
/-! DEFINITION. The octets of a transport stream and of its RTP packets (R148-R155, R190): sections, PES headers, audio, ancillary
data, TS packets, datagrams. Layouts that the manual names and does not write out follow their standards (log 39). -/

namespace Sys2Proof.Machine

/-! ### Bits and sections -/

/-- The n low bits of a number, most significant first. -/
def bitsMsb (n v : Nat) : List Bool := ((List.range n).map fun i => v.testBit i).reverse

/-- The n low bits of a number, least significant first. -/
def bitsLsb (n v : Nat) : List Bool := (List.range n).map fun i => v.testBit i

/-- Bits as octets, the first bit the most significant; what is missing of the last octet is ones. -/
def octetsOfBits (l : List Bool) : Octets :=
  let whole := l ++ List.replicate ((8 - l.length % 8) % 8) true
  (piecesOf 8 (whole.length / 8) whole).map fun b => BitVec.ofNat 8 (b.foldl (fun (a : Nat) (x : Bool) => 2 * a + x.toNat) 0)

/-- The CRC_32 of a section (ISO/IEC 13818-1): polynomial 0x04C1_1DB7, most significant bit first, initial value all ones. -/
def sectionCrc (l : Octets) : Nat :=
  ((l.flatMap fun b => bitsMsb 8 b.toNat).foldl
    (fun (c : Nat) (b : Bool) => if (c.testBit 31) = b then 2 * c % 2 ^ 32 else (2 * c % 2 ^ 32) ^^^ 0x04C11DB7) (2 ^ 32 - 1))

/-- A PSI section of one packet: pointer field, header with its length, body, CRC, stuffing (R148). -/
def section_ (tableId ext version : Nat) (body : Octets) : Octets :=
  let len := 5 + body.length + 4
  let s := beOctets 1 tableId ++ beOctets 2 (0xB000 + len) ++ beOctets 2 ext ++ beOctets 1 (0xC1 + 2 * (version % 32)) ++ [0, 0] ++ body
  let t := [0] ++ s ++ beOctets 4 (sectionCrc s)
  (t ++ List.replicate (184 - t.length) 0xFF).take 184

/-- The content of PAT and PMT of a configuration: components as (PID, stream_type, profile, level, tier). -/
def RendCfg.tables (cfg : RendCfg) : Tables :=
  ⟨cfg.program, cfg.tsid, cfg.pmtPid,
    [(cfg.videoPid, if cfg.vvc then 0x33 else 0x24, cfg.profile, cfg.level, cfg.tier)]
      ++ (List.range cfg.streams.length).map (fun i => (cfg.audioBase + i, 0x06, 0x42535344, 0, 0))
      ++ (if cfg.anc then [(cfg.ancPid, 0x06, 0x56414E43, 0, 0)] else [])⟩

/-- The PAT: the program only, no network PID (R148). -/
def patSection (cfg : RendCfg) (version : Nat) : Octets :=
  section_ 0 cfg.tsid version (beOctets 2 cfg.program ++ beOctets 2 (0xE000 + cfg.pmtPid))

/-- The body of the HEVC video descriptor (Table 8.1): profile_space 0, tier, profile_idc, its compatibility flag; progressive and not
interlaced, the constraint flags of Table 5.1 among 44 copied bits; level; no temporal subset, still or 24-hour pictures, no HRD
parameters of sub-pictures (R127). -/
def hevcDescriptor (profile level tier : Nat) : Octets :=
  let idc := profileIdc profile
  let copied : List Bool := (constraintFlags profile).map fun x => x.2 = 1
  octetsOfBits (bitsMsb 2 0 ++ bitsMsb 1 (tier - 1) ++ bitsMsb 5 idc ++ bitsMsb 32 (2 ^ (31 - idc)) ++ [true, false]
    ++ bitsMsb 2 (Config.descriptorBits 0) ++ copied ++ List.replicate (44 - copied.length) false ++ bitsMsb 8 level
    ++ [false, false, false, true] ++ bitsMsb 2 3 ++ bitsMsb 2 (Config.descriptorBits 1))

/-- The body of the VVC video descriptor (Table 8.1): profile_idc, tier, no sub-profiles; progressive, not interlaced; level. -/
def vvcDescriptor (profile level tier : Nat) : Octets :=
  octetsOfBits (bitsMsb 7 (profileIdc profile) ++ bitsMsb 1 (tier - 1) ++ bitsMsb 8 0 ++ [true, false]
    ++ bitsMsb 2 (Config.descriptorBits 0) ++ bitsMsb 4 0 ++ bitsMsb 8 level ++ [false, false, false] ++ bitsMsb 5 31
    ++ bitsMsb 2 (Config.descriptorBits 1) ++ bitsMsb 2 3 ++ bitsMsb 4 (Config.descriptorBits 2))

/-- The descriptors of a component in the PMT (Table 8.1). -/
def descriptors (streamType format profile level tier : Nat) : Octets :=
  if streamType = 0x06 then [5, 4] ++ beOctets 4 format
  else
    let d := if streamType = 0x24 then hevcDescriptor profile level tier else vvcDescriptor profile level tier
    beOctets 1 (if streamType = 0x24 then 0x38 else 0x39) ++ beOctets 1 d.length ++ d

/-- The PMT: PCR_PID is the video PID, no program descriptors, the components in the order of Table 8.1. -/
def pmtSection (cfg : RendCfg) (version : Nat) : Octets :=
  section_ 2 cfg.program version (beOctets 2 (0xE000 + cfg.videoPid) ++ beOctets 2 0xF000 ++
    cfg.tables.components.flatMap fun x =>
      let d := if x.2.1 = 0x06 then descriptors 0x06 x.2.2.1 0 0 0 else descriptors x.2.1 0 x.2.2.1 x.2.2.2.1 x.2.2.2.2
      beOctets 1 x.2.1 ++ beOctets 2 (0xE000 + x.1) ++ beOctets 2 (0xF000 + d.length) ++ d)

/-! ### NAL units (R113, R156) -/

/-- nal_unit_type (Table 6.2; the numbers the manual does not give are those of H.265 and H.266, log 68). -/
def nalType (vvc : Bool) (pic : PicKind) : NalKind → Nat
  | .aud => if vvc then 20 else 35
  | .vps => 32
  | .sps => if vvc then 15 else 33
  | .pps => if vvc then 16 else 34
  | .alfAps => 17
  | .prefixSei => if vvc then 23 else 39
  | .pictureHeader => 19
  | .slice _ => if vvc then (if pic = .springer then 10 else 0) else if pic = .idr then 20 else 1
  | .suffixSei => if vvc then 24 else 40
  | .eos => if vvc then 21 else 36

/-- A NAL unit header of a type: layer 0, temporal id 0 (R113). -/
def nalHeader (vvc : Bool) (type : Nat) : Octets :=
  octetsOfBits (if vvc then bitsMsb 8 0 ++ bitsMsb 5 type ++ bitsMsb 3 1 else bitsMsb 1 0 ++ bitsMsb 6 type ++ bitsMsb 6 0 ++ bitsMsb 3 1)

/-- The size of a NAL unit in octets. -/
def Nal.size (x : Nal) : Nat := max 2 ((x.bits + 7) / 8)

/-- The start code of a NAL unit in the byte stream: one octet longer before the first of an access unit and before parameter sets. -/
def Nal.startCode (x : Nal) : Octets :=
  match x.kind with
  | .aud => [0, 0, 0, 1]
  | .vps => [0, 0, 0, 1]
  | .sps => [0, 0, 0, 1]
  | .pps => [0, 0, 0, 1]
  | .alfAps => [0, 0, 0, 1]
  | _ => [0, 0, 1]

/-- The piece of a NAL unit that a datagram of the direct mode carries (R156): the whole unit, or a fragment with its headers, type 49 of
RFC 7798 or 29 of RFC 9328. `last` is a fragment of the last NAL unit of the picture. -/
def nalPiece (vvc last : Bool) (unit : Octets) (type off len : Nat) : Octets :=
  if off = 0 then unit.take len
  else
    let n := len - 3
    let start : Bool := off = 2
    let end_ : Bool := off + n = unit.length
    nalHeader vvc (if vvc then 29 else 49)
      ++ octetsOfBits ([start, end_] ++ (if vvc then [last && end_] ++ bitsMsb 5 type else bitsMsb 6 type))
      ++ (unit.drop off).take n

/-! ### PES packets -/

/-- A PTS as a PES header writes it: 33 bits in three parts with marker bits. -/
def ptsOctets (v : Nat) : Octets :=
  beOctets 1 (0x21 + v / 2 ^ 30 % 8 * 2) ++ beOctets 2 (v / 2 ^ 15 % 2 ^ 15 * 2 + 1) ++ beOctets 2 (v % 2 ^ 15 * 2 + 1)

/-- A PES header with a PTS and no DTS (R150); `len` is PES_packet_length. -/
def pesHeader (streamId len pts : Nat) : Octets :=
  [0, 0, 1] ++ beOctets 1 streamId ++ beOctets 2 len ++ [0x84, 0x80, 5] ++ ptsOctets pts

/-- The PTS of a packet that starts a PES, rewritten (R190). -/
def setPts (v : Nat) (l : Octets) : Octets := l.take 9 ++ ptsOctets v ++ l.drop 14

/-- One AES3 word of ST 302M: the sample's bits and four bits of V, U, C and F, least significant first. -/
def aesWord (width v flags : Nat) : List Bool := bitsLsb width v ++ bitsLsb 4 flags

/-- The octets of an ST 302M PES (R152): header, AES3 header, the samples of each instant in channel order. -/
def audioPes (bits channels pts first : Nat) (samples : List (List Nat)) : Octets :=
  let data := octetsOfBits (samples.zipIdx.flatMap fun x => x.1.zipIdx.flatMap fun y =>
    aesWord (16 + 4 * bits) y.1 (Config.aesFlags (first + x.2) y.2))
  let head := beOctets 2 data.length ++ beOctets 2 ((channels / 2 - 1) % 4 * 2 ^ 14 + bits % 4 * 2 ^ 4)
  pesHeader 0xBD (8 + 4 + data.length) pts ++ head ++ data

/-- A ten-bit word of an ancillary packet: eight bits, their even parity, and its inverse. -/
def ancWord (v : Nat) : Nat :=
  let odd := ((List.range 8).filter fun i => v.testBit i).length % 2
  v % 256 + odd * 256 + (1 - odd) * 512

/-- The octets of one ancillary packet in an ST 2038 PES (R153). -/
def ancOctets (x : AncItem) : Octets :=
  let words := [ancWord x.did, ancWord x.sdid, ancWord x.body.length] ++ x.body.map fun b => ancWord b.toNat
  let sum := (words.map fun w => w % 512).sum % 512
  let check := sum + (if sum.testBit 8 then 0 else 512)
  octetsOfBits (bitsMsb 6 0 ++ [x.cNotY] ++ bitsMsb 11 x.line ++ bitsMsb 12 x.hOffset ++ (words ++ [check]).flatMap (bitsMsb 10))

/-- The octets of an ST 2038 PES. -/
def ancPes (pts : Nat) (l : List AncItem) : Octets :=
  let data := l.flatMap ancOctets
  pesHeader 0xBD (8 + data.length) pts ++ data

/-! ### TS packets and datagrams -/

/-- A PCR as an adaptation field writes it: base, six ones, extension (R151). -/
def pcrOctets (v : Nat) : Octets := beOctets 6 (v / 300 * 2 ^ 15 + 0x7E00 + v % 300)

/-- The adaptation field that leaves room for n octets of payload: flags, the PCR if any, stuffing (R149). -/
def adaptation (n : Nat) (disc rai : Bool) (pcr : Option Nat) : Octets :=
  let len := 184 - n
  if len = 0 then []
  else if len = 1 then [0]
  else
    let flags := disc.toNat * 128 + rai.toNat * 64 + (match pcr with | none => 0 | some _ => 16)
    let clock := match pcr with | none => [] | some v => pcrOctets v
    (beOctets 1 (len - 1) ++ beOctets 1 flags ++ clock ++ List.replicate (len - 2 - clock.length) 0xFF).take len

/-- The 188 octets of a TS packet. -/
def TsPacket.octets (p : TsPacket) : Octets :=
  let af := adaptation p.data.length p.disc p.rai p.pcr
  [0x47] ++ beOctets 2 (p.start.toNat * 2 ^ 14 + p.pid % 2 ^ 13) ++ beOctets 1 ((if af = [] then 0x10 else 0x30) + p.cc % 16)
    ++ af ++ p.data

/-- A null packet. -/
def nullTs : TsPacket := ⟨0x1FFF, 0, .nullPkt, false, false, false, none, none, 0, 0, List.replicate 184 0xFF⟩

/-- The header of an RTP packet without extension (R155, RFC 3550). -/
def rtpHeader (d : Datagram) : Octets :=
  [0x80] ++ beOctets 1 (d.marker.toNat * 128 + d.payloadType % 128) ++ beOctets 2 (d.index % 2 ^ 16)
    ++ beOctets 4 (d.timestamp % 2 ^ 32) ++ beOctets 4 d.ssrc

/-- RTP header and payload of a datagram: its TS packets, or the piece of a NAL unit. -/
def Datagram.octets (d : Datagram) : Octets := rtpHeader d ++ d.packets.flatMap TsPacket.octets ++ d.piece

end Sys2Proof.Machine
end

