-- ==== Sys2Proof/Machine/Output.lean ====
section
/-! DEFINITION. Stream output (ch. 8): transport stream runs, datagrams and their launch times, the launch queue, the
end of a coding window, session descriptions. -/

namespace Sys2Proof.Machine

/-! ### Figures of an output (R150, R162, R163) -/

/-- The longest run of sample instants of a course: ceil(P × 48000) (R163). -/
def Family.courseSamples (f : Family) (k : Nat) : Nat := (k * f.a * 48000 + f.b - 1) / f.b

/-- Octets a pair of channels takes per sample instant (R152, R163). -/
def pairOctets (bits : Nat) : Nat := 5 + bits

/-- TS packets of a PES of a size. -/
def pesPackets (size : Nat) : Nat := (size + 183) / 184

/-- The audio packets of a course, at most (R163). -/
def Mod.audioPackets (m : Mod) (r : Nat) : Nat :=
  let s := m.fam.courseSamples (m.rendStep r)
  (((List.range (m.n (0x5800 + r) 0x1A)).map fun i =>
    pesPackets (s * (m.n (0x5800 + r) (0x1B + i) % 16) / 2 * pairOctets (m.n (0x5800 + r) 0x23) + 18))).sum

/-- The ancillary allowance x of R163. -/
def Mod.ancPackets (m : Mod) (r : Nat) : Nat := if m.flag (0x5800 + r) 0x24 then 480 else 0

/-- B_sig + O_max of a rendition. -/
def Mod.courseBound (m : Mod) (r : Nat) : Nat := sigBuffer (m.n (0x5400 + r) 7) + m.memberOmax r

/-- n_max (R163). -/
def Mod.maxDatagrams (m : Mod) (r : Nat) : Nat :=
  if m.n (0x5800 + r) 2 = 1 then
    let u := 8 * (m.n (0x5800 + r) 0x13 - 3)
    (m.courseBound r + u - 1) / u + tileCols (m.n (0x5000 + r) 3) + 10
  else
    let v := (m.courseBound r + 1407) / 1408 + 3
    let n := m.n (0x5800 + r) 0x12
    (v + m.audioPackets r + m.ancPackets r + n - 1) / n

/-- The octets on the wire of a full datagram (R163). -/
def Mod.wireOctets (m : Mod) (r : Nat) : Nat :=
  (if m.n (0x5800 + r) 2 = 1 then 40 + m.n (0x5800 + r) 0x13 + 38 else 40 + 188 * m.n (0x5800 + r) 0x12 + 38)
    + (if m.n (0x5800 + r) 0x0F = 0xFFFF then 0 else 4)

/-- The launch peak of a number of datagrams per course in b/s: ceil(n × wire × 8 / P) (R163). -/
def Family.peak (f : Family) (nmax wire k : Nat) : Nat := (nmax * wire * 8 * f.b + k * f.a - 1) / (k * f.a)

/-- Λ of a rendition's output in b/s (R163). -/
def Mod.launchPeak (m : Mod) (r : Nat) : Nat := m.fam.peak (m.maxDatagrams r) (m.wireOctets r) (m.rendStep r)

/-- Slots an output commits: n_max × ceil((H + 20 µs + P) / P) (R162). -/
def Mod.outputSlots (m : Mod) (r : Nat) : Nat :=
  let k := m.rendStep r
  let num := (m.hold + 20000) * m.fam.b + k * m.fam.a * second
  m.maxDatagrams r * ((num + k * m.fam.a * second - 1) / (k * m.fam.a * second))

/-- Δp as a numerator over b × 10^9: a × P + L + Tf + M (R150). -/
def Mod.presentNum (m : Mod) (k margin align : Nat) : Nat :=
  (align + 36) * k * m.fam.a * second + (m.hold + 20000 + margin) * m.fam.b

/-- Δp in ns (5880:06). -/
def Mod.presentOffset (m : Mod) (k margin align : Nat) : Nanos := m.presentNum k margin align / m.fam.b

/-- PTS of a picture (R150): floor((t + Δp) × 90000) mod 2^33, t the exact time of its frame tick. -/
def Mod.videoPts (m : Mod) (cfg : RendCfg) (align frame : Nat) : Nat :=
  (frame * m.fam.a * second + m.presentNum cfg.k cfg.margin align) * 90000 / (m.fam.b * second) % 2 ^ 33

/-- PTS of an audio PES by the number of its first sample (R152). -/
def Mod.audioPts (m : Mod) (cfg : RendCfg) (align first : Nat) : Nat :=
  (first * m.fam.b * second + m.presentNum cfg.k cfg.margin align * 48000) * 90000 / (m.fam.b * second * 48000) % 2 ^ 33

/-- PCR of a launch time (R151). -/
def pcrOf (launch : Nanos) : Nat := launch * 27 / 1000 % (2 ^ 33 * 300)

/-- λ of datagram i of n of a course handed on at the edge of T (R158). -/
def Mod.launchTime (m : Mod) (T k i n : Nat) : Nanos :=
  m.fam.edge T + m.hold + 20000 + i * k * m.fam.a * second / (m.fam.b * n)

/-! ### Tables (R148) -/

/-- Versions of PAT and PMT step where the content that an output in TS mode is about to send differs from what it sent last (R148). -/
def Mod.stepTables (m : Mod) (r : Nat) (cfg : RendCfg) : Mod :=
  if !cfg.output || cfg.direct then m
  else
    let t := cfg.tables
    let m := match (m.rend r).tables with
      | none => m
      | some o =>
        let m := if o.program = t.program ∧ o.tsid = t.tsid ∧ o.pmtPid = t.pmtPid then m
          else m.put (0x5880 + r) 7 ((m.n (0x5880 + r) 7 + 1) % 32)
        if o.program = t.program ∧ o.components = t.components then m
        else m.put (0x5880 + r) 8 ((m.n (0x5880 + r) 8 + 1) % 32)
    m.modRend r fun s => { s with tables := some t }

/-- The PIDs of an output in TS mode beside the PAT's (R148). -/
def RendCfg.pids (cfg : RendCfg) : List Nat :=
  [cfg.pmtPid, cfg.videoPid] ++ (List.range cfg.streams.length).map (fun i => cfg.audioBase + i)
    ++ (if cfg.anc then [cfg.ancPid] else [])

/-! ### Packing a course (R149-R156) -/

/-- The next continuity counter of a PID. -/
def ccOf (l : List (Nat × Nat)) (pid : Nat) : Nat := ((l.find? fun x => x.1 = pid).map (·.2)).getD 0

/-- The first picture of a configuration keeps the counters of the PIDs that its output has, so that a new PID starts at 0 (R154). -/
def Mod.keepCounters (m : Mod) (r : Nat) (c : Coding) (cfg : RendCfg) : Mod :=
  let s := m.rend r
  let same : Bool := match s.before c.frame with
    | none => false
    | some p => s.cfgFor p.frame = cfg
  if c.course ≠ 0 || same || cfg.direct then m
  else m.modRend r fun s => { s with counters := s.counters.filter fun x => x.1 = 0 || cfg.pids.contains x.1 }

/-- Counters after k packets with payload of a PID (R154). -/
def ccStep (l : List (Nat × Nat)) (pid k : Nat) : List (Nat × Nat) :=
  (l.filter fun x => x.1 ≠ pid) ++ [(pid, (ccOf l pid + k) % 16)]

/-- The TS packets of a stretch of a component: `first` octets fit the first packet, `rest` each later one. -/
def stretch (cs : List (Nat × Nat)) (pid : Nat) (kind : TsKind) (first rest : Nat) (data : Octets) (start : Bool)
    (pts : Option Nat) : List TsPacket :=
  let size := data.length
  let n := if size ≤ first then 1 else 1 + (size - first + rest - 1) / rest
  (List.range n).map fun i =>
    let off := if i = 0 then 0 else first + (i - 1) * rest
    let own := min (size - off) (if i = 0 then first else rest)
    ⟨pid, (ccOf cs pid + i) % 16, kind, start && i = 0, false, false, none, if i = 0 then pts else none, off, own,
      (data.drop off).take own⟩

/-- The flow with the longest packet time among those a stream's channels come from, and its run (R152). -/
def Mod.streamRun (m : Mod) (chan : Nat) (runs : List AudioRun) (layout : Nat) : Option AudioRun :=
  let ends := (List.range 4).map fun fl => (((List.range (fl + 1)).map fun g =>
    if m.audioBound chan g then m.n (0x4040 + chan) (audioSub g 4) else 0)).sum
  let first := layout / 16
  let last := first + layout % 16
  let used := runs.filter fun x =>
    let hi := nth ends x.flow
    let lo := if x.flow = 0 then 0 else nth ends (x.flow - 1)
    lo < last && first < hi
  match used.find? fun x => m.n (0x4040 + chan) (audioSub x.flow 6) = 0 with
  | some x => some x
  | none => used.head?

/-- A sample of an input of 16 or 24 bits at the output's 16 + 4b bits: zero low bits added, or low bits lost (R152). -/
def audioWidth (wide : Bool) (bits v : Nat) : Nat :=
  let w := if wide then 24 else 16
  if w ≤ 16 + 4 * bits then v * 2 ^ (16 + 4 * bits - w) else v / 2 ^ (w - (16 + 4 * bits))

/-- The samples of a stream in a course, instant by instant (R152): the run's instants, each of its channels from the run, or from
the audio ring where the channel belongs to another flow; concealed samples are zero. -/
def Mod.streamSamples (m : Mod) (chan : Nat) (run : AudioRun) (layout bits : Nat) : List (List Nat) :=
  let o := 0x4040 + chan
  let owners := (List.range 4).flatMap fun fl =>
    if m.audioBound chan fl then (List.range (m.n o (audioSub fl 4))).map fun i => (fl, i) else []
  let used := (owners.drop (layout / 16)).take (layout % 16)
  run.samples.zipIdx.map fun x => used.map fun w =>
    let v := if w.1 = run.flow then nth x.1 w.2
      else match (nth (m.chan chan).audio w.1).ring.find? fun y => y.1 = run.first + x.2 with
        | some y => nth y.2 w.2
        | none => 0
    audioWidth (m.n o (audioSub w.1 5) = 1) bits v

/-- The alignment of the run of pictures that a course belongs to, by the tick at which it was received (R47). -/
def Coding.align (c : Coding) : Nat := (c.handed.tick - c.frame) / max 1 c.handed.k - c.course

/-- The run of TS packets of a course (R149), without PCR values, and the counters after it: `es` is the course's part of the access
unit. -/
def Mod.buildRun (m : Mod) (r : Nat) (cfg : RendCfg) (c : Coding) (es : Octets) : List TsPacket × List (Nat × Nat) :=
  let align := c.align
  let cs := (m.rend r).counters
  let tables := c.course = 0 || c.course = 17
  let patP : List TsPacket := if tables then
    [⟨0, ccOf cs 0, .pat, true, false, false, none, none, 0, 184, patSection cfg (m.n (0x5880 + r) 7)⟩,
     ⟨cfg.pmtPid, ccOf cs cfg.pmtPid, .pmt, true, false, false, none, none, 0, 184, pmtSection cfg (m.n (0x5880 + r) 8)⟩]
    else []
  let cs := if tables then ccStep (ccStep cs 0 1) cfg.pmtPid 1 else cs
  let vpts := m.videoPts cfg align c.frame
  let pts := if c.course = 0 then some vpts else none
  let pes := if c.course = 0 then pesHeader 0xE0 0 vpts ++ es else es
  let vid := (stretch cs cfg.videoPid .video 176 184 pes (c.course = 0) pts).map
    fun p => if p.offset = 0 && p.cc = ccOf cs cfg.videoPid then
      { p with rai := c.course = 0 && ((m.rend r).pic c.frame).kind ≠ .trailing } else p
  let cs := ccStep cs cfg.videoPid vid.length
  let aud := (List.range cfg.streams.length).foldl (fun (acc : List TsPacket × List (Nat × Nat)) i =>
    match m.streamRun cfg.chan c.handed.audio (nth cfg.streams i) with
    | none => acc
    | some run =>
      let layout := nth cfg.streams i
      let apts := m.audioPts cfg align run.first
      let data := audioPes cfg.bits (layout % 16) apts run.first (m.streamSamples cfg.chan run layout cfg.bits)
      let ps := stretch acc.2 (cfg.audioBase + i) (.audio i) 184 184 data true (some apts)
      (acc.1 ++ ps, ccStep acc.2 (cfg.audioBase + i) ps.length)) ([], cs)
  let anc := if cfg.anc && c.course = 33 then
      stretch aud.2 cfg.ancPid .ancillary 184 184 (ancPes vpts c.handed.anc) true (some vpts)
    else []
  (patP ++ vid ++ aud.1 ++ anc, ccStep aud.2 cfg.ancPid anc.length)

/-- Cuts a run into datagrams of n packets, the last completed with null packets (R149). -/
def cutRun (n : Nat) : Nat → List TsPacket → List (List TsPacket)
  | 0, _ => []
  | _, [] => []
  | fuel + 1, l =>
    let part := l.take n
    (part ++ List.replicate (n - part.length) nullTs) :: cutRun n fuel (l.drop n)

/-- The datagrams of a course in TS mode (R149, R151, R155): PCR and discontinuity go into its first video packet. -/
def Mod.tsDatagrams (m : Mod) (r : Nat) (cfg : RendCfg) (c : Coding) (T : Nat) (run : List TsPacket) : List Datagram :=
  let s := m.rend r
  let parts := cutRun cfg.tsPerDg run.length run
  let n := parts.length
  parts.zipIdx.map fun p =>
    let launch := m.launchTime T cfg.k p.2 n
    let pk := p.1.map fun x =>
      if x.kind = .video && x.offset = 0 then { x with pcr := some (pcrOf launch), disc := s.discontinuity } else x
    ⟨s.nextIndex + p.2, launch, rtpTimestamp 90000 launch, 33, false, cfg.ssrc, c.frame, c.course, c.frame + c.course * cfg.k, cfg.via, pk,
      none, 40 + 188 * cfg.tsPerDg, p.2 = 0, p.2 + 1 = n, [], false⟩

/-- The pieces of a NAL unit in direct mode (R156): first octet and size of each. -/
def nalPieces (limit size : Nat) : List (Nat × Nat) :=
  if size ≤ limit then [(0, size)]
  else
    let u := limit - 3
    (List.range ((size - 2 + u - 1) / u)).map fun i => (2 + i * u, 3 + min u (size - 2 - i * u))

/-- The datagrams of a course in direct mode (R156): `units` are its NAL units with their octets. -/
def Mod.directDatagrams (m : Mod) (r : Nat) (cfg : RendCfg) (c : Coding) (T : Nat) (units : List (Nal × Octets)) : List Datagram :=
  let s := m.rend r
  let base := if c.course = 0 then 0 else s.au.length - units.length
  let pieces := units.zipIdx.flatMap fun x =>
    (nalPieces cfg.limit x.1.2.length).map fun p => (x.2, x.1, p)
  let n := pieces.length
  pieces.zipIdx.map fun y =>
    let u := y.1.2.1
    let p := y.1.2.2
    let last : Bool := c.course = 33 && y.1.1 + 1 = units.length
    ⟨s.nextIndex + y.2, m.launchTime T cfg.k y.2 n, m.fam.videoTimestamp c.frame, cfg.payloadType, c.course = 33 && y.2 + 1 = n,
      cfg.ssrc, c.frame, c.course, c.frame + c.course * cfg.k, cfg.via, [], some (base + y.1.1, p.1, p.2), 40 + p.2, y.2 = 0, y.2 + 1 = n,
      nalPiece cfg.vvc last u.2 (nalType cfg.vvc u.1.pic u.1.kind) p.1 p.2, false⟩

/-! ### The end of a coding window -/

/-- A course is final (R88, R131): its size goes into its picture, the history, its group's refunds and the counters. -/
def Mod.finishCourse (m : Mod) (r : Nat) (c : Coding) (bits : Nat) : Mod :=
  let s := m.rend r
  let cfg := s.cfgFor c.frame
  let qps := c.groupQps cfg (s.pic c.frame)
  let m := m.modRend r fun s =>
    { (s.modPic c.frame fun p =>
        { p with
          spent := p.spent ++ [(c.course, bits)]
          qps := (p.qps.1 + qps.sum, p.qps.2 + qps.length)
          aboveTarget := p.aboveTarget || 0 < c.plan.delta }) with
      hist := s.hist.modify c.course fun l => (⟨c.frame, bits, c.plan.qp + c.plan.delta, c.slices.map (·.bits)⟩ :: l).take 3 }
  let m := if cfg.group < 32 then m.modGroup cfg.group fun g => { g with refunds := g.refunds + (c.plan.budget - bits) } else m
  let m := m.bump (0x5100 + r) 2
  let m := if 0 < c.plan.delta then m.bump (0x5500 + r) 3 else m
  let m := if (c.plan.delta : Int) = cfg.qCeil - c.plan.qp then m.bump (0x5500 + r) 4 else m
  if c.plan.fallback then m.bump (0x5500 + r) 0x0C else m

/-- The picture after one whose fullness was computed with courses of it at their budgets takes its true size (R131); a rebased
fullness stands. -/
def Mod.settleNext (m : Mod) (r : Nat) (p : PicS) : Mod :=
  let s := m.rend r
  match s.pics.find? fun q => p.frame < q.frame with
  | none => m
  | some q =>
    let D := m.openFull r q.frame q.fresh
    if q.rebased then m else (m.modPic r q.frame fun x => { x with full := D.1, frac := D.2 }).put (0x5480 + r) 3 D.1

/-- A picture is final with its course 33 (R126): size, mean QP, counters, margins (R101), and the fullness before the next one. -/
def Mod.finishPicture (m : Mod) (r : Nat) (c : Coding) (extra : Nat) : Mod :=
  let cfg := (m.rend r).cfgFor c.frame
  let m := m.modPic r c.frame fun p => { p with overhead := p.overhead + extra }
  let p := (m.rend r).pic c.frame
  let size := p.size
  let m := (m.settleNext r p).put (0x5480 + r) 4 size
  let m := m.putZ (0x5480 + r) 2 (p.qps.1 * 256 / max 1 p.qps.2)
  let m := ((m.count (0x5500 + r) 1 size).putMax (0x5500 + r) 0x0A size).bump (0x5100 + r) 1
  let m := if p.aboveTarget then m.bump (0x5500 + r) 2 else m
  let m := if cfg.group < 32 then m.count (0x5640 + cfg.group) 6 size else m
  let margin := p.margin.getD 0
  let m := m.putZ (0x5100 + r) 6 margin
  (m.putMin (0x5100 + r) 7 margin).putMin (0x5240 + cfg.pipe) 0x0E margin

/-- The flags of a course record (Table 12.4). -/
def Coding.recordFlags (c : Coding) (p : PicS) : Nat :=
  (if p.kind = .idr then 1 else 0) + (if p.kind = .springer then 2 else 0) + (if p.seqStart ≠ none then 4 else 0)
    + (if c.slices.any (fun x => x.exhausted) then 8 else 0) + (if c.slices.any (fun x => x.lateCount ≠ 0) then 16 else 0)
    + (if p.lean then 32 else 0) + (if c.plan.fallback then 64 else 0)

/-- The module's own record of a course (R221, Table 12.4, R145). -/
def Mod.ownRecord (m : Mod) (r : Nat) (c : Coding) (bits : Nat) (band : Octets) (bitCrc : BitVec 32) (pcr : Nat) : CourseRecord :=
  let s := m.rend r
  let cfg := s.cfgFor c.frame
  let p := s.pic c.frame
  let g := m.group cfg.group
  { rendition := Fin.ofNat 128 r, course := c.course, tick := c.frame + c.course * cfg.k, pictureCount := p.count,
    wave := p.wave, period := p.period, flags := c.recordFlags p, fingerprint := crc32c band,
    bitCrc := (crcResult bitCrc).toNat, tsCrc := if cfg.direct then 0 else (crcResult s.tsCrc).toNat, courseBits := bits,
    cpb := p.full, spent := (p.spent.map (·.2)).sum, budget := c.plan.budget, offset := c.plan.delta, priority := (s.qpFor c.frame).2,
    groupAllowance := if cfg.group < 32 then g.allowance else 0,
    groupFraction := if cfg.group < 32 then g.frac * 2 ^ 64 / m.fam.b else 0,
    reserves := p.reserves, nextIndex := s.nextIndex, confirmIndex := s.confirm, sdpVersion := m.n (0x5880 + r) 0x0B,
    counters := [ccOf s.counters 0, ccOf s.counters cfg.pmtPid, ccOf s.counters cfg.videoPid]
      ++ (List.range 8).map (fun i => ccOf s.counters (cfg.audioBase + i)) ++ [ccOf s.counters cfg.ancPid],
    patVersion := m.n (0x5880 + r) 7, pmtVersion := m.n (0x5880 + r) 8, pcr := pcr }

/-- The output packs a course handed on at the edge of T (R147, R149, R156, R158): `units` are its NAL units with their octets. -/
def Mod.packCourse (m : Mod) (r : Nat) (c : Coding) (T : Nat) (units : List (Nal × Octets)) : Mod :=
  let cfg := (m.rend r).cfgFor c.frame
  let courseTick := c.frame + c.course * cfg.k
  let span : Span := ⟨true, true, c.course⟩
  let m := (m.keepCounters r c cfg).when (c.course = 0) fun m => m.stepTables r cfg
  let built := (m.withChan cfg.chan c.frame).buildRun r cfg c (units.flatMap fun u => u.1.startCode ++ u.2)
  let dgs := if cfg.direct then m.directDatagrams r cfg c T units else m.tsDatagrams r cfg c T built.1
  -- the run as it is sent, with its PCR (R151), without completion nulls
  let run := if cfg.direct then [] else (dgs.flatMap (·.packets)).filter fun p => p.kind ≠ .nullPkt
  let octets := run.flatMap TsPacket.octets
  let bits := (units.map fun u => u.1.bits).sum
  let m := m.modRend r fun s =>
    { s with
      counters := if cfg.direct then s.counters else built.2
      discontinuity := s.discontinuity && cfg.direct
      run := run
      runOctets := octets
      tsCrc := if c.course = 0 then crcRun 0xFFFFFFFF#32 octets else crcRun s.tsCrc octets
      bitsSecond := s.bitsSecond + bits }
  let m := if cfg.direct then m else m.snoop 5 r 0 (fun _ => octets) span courseTick c.frame
  if !cfg.output then m
  else
    let vlan := if cfg.via.vlan = none then 38 else 42
    let wire := (dgs.map fun d => (d.bytes + vlan) * 8).sum
    let nulls := ((dgs.flatMap (·.packets)).filter fun p => p.kind = .nullPkt).length
    let m := m.modRend r fun s =>
      { s with
        nextIndex := s.nextIndex + dgs.length
        packing := s.packing ++ dgs
        wireSecond := s.wireSecond + wire }
    (m.put (0x5880 + r) 5 (m.rend r).nextIndex).count (0x5980 + r) 8 nulls

/-- The octets of a NAL unit: its header and its content (R113). -/
def Mod.unitOctets (m : Mod) (r : Nat) (c : Coding) (x : Nal) : Octets :=
  let cfg := (m.rend r).cfgFor c.frame
  let body := match x.kind with
    | .slice t => Config.sliceOctets { (m.site r c t).ctx with before := (nth c.slices t).before }
    | _ => Config.headOctets (x.params ++ x.sei.flatMap fun y => field "payload_type" y.payloadType :: y.values)
  fitOctets x.size (nalHeader cfg.vvc (nalType cfg.vvc x.pic x.kind) ++ body)

/-- The margins of lanes that finished a course by themselves (R101). -/
def Mod.noteMargin (m : Mod) (r : Nat) (c : Coding) (T : Nat) : Mod :=
  let limit : Int := m.fam.cutoff T
  let own := (c.slices.filter fun x => x.lateCount = 0).map fun x => limit - x.lastAt
  m.modPic r c.frame fun p =>
    { p with margin := own.foldl (fun a w => some (match a with | none => w | some b => min b w)) p.margin }

/-- The coding window of a course ends at the edge of T (R86, R97, R158): the slices end, the reconstruction is final,
the course goes to the output engine, and the module's own course record is made. -/
def Mod.endWindow (m : Mod) (r : Nat) (c0 : Coding) (T : Nat) : Mod :=
  let ended (x : SliceS) : Nat := min 64 (Config.sliceEndBits { (m.site r c0 x.tile).ctx with before := x.before })
  let c : Coding := { c0 with slices := c0.slices.map fun x => { x with bits := x.bits + ended x } }
  let cfg := (m.rend r).cfgFor c.frame
  let courseTick := c.frame + c.course * cfg.k
  let span : Span := ⟨true, true, c.course⟩
  let bits := (c.slices.map (·.bits)).sum
  let band := (m.site r c 0).band (c.slices.flatMap SliceS.before)
  let m := (m.noteMargin r c T).modRend r fun s =>
    { s with coding := s.coding.filter fun z => z.frame ≠ c.frame || z.course ≠ c.course }
  let bands := ((m.rend r).ref c.frame).bands ++ [band]
  let units := (m.courseNals r c bands).map fun x => (x, m.unitOctets r c x)
  let after (x : Nal) : Bool := x.kind = .suffixSei || x.kind = .eos
  let au (l : List (Nal × Octets)) : Octets := l.flatMap fun u => u.1.startCode ++ u.2
  let bitCrc := crcRun (if c.course = 0 then 0xFFFFFFFF#32 else (m.rend r).auCrc) (au (units.filter fun u => !after u.1))
  let m := m.modRend r fun s =>
    { (s.modRef c.frame fun x => { x with bands := bands, headers := if c.course = 33 then cfg.headers bands else x.headers }) with
      auCrc := bitCrc
      au := if c.course = 0 then units.map (·.1) else s.au ++ units.map (·.1)
      lastTimecode := if c.course = 33 then some c.handed.timecode else s.lastTimecode }
  let m := m.snoop 3 r 0 (fun _ => band) span courseTick c.frame
  let m := m.snoop 4 r 0 (fun _ => au units) span courseTick c.frame
  let m := (m.finishCourse r c bits).packCourse r c T units
  let rec_ := m.ownRecord r c bits band bitCrc (pcrOf (m.launchTime T cfg.k 0 1))
  let eos := ((units.filter fun u => u.1.kind = .eos).map fun u => u.1.bits).sum
  let m := if c.course = 33 then m.finishPicture r c eos else m
  m.modRend r fun s =>
    { s with
      records := s.records.drop (s.records.length - 67) ++ [rec_]
      unclosed := s.unclosed ++ [rec_] }

/-- A rung's course as it is written to DRAM (Table 19.5): component by component, row by row. -/
def rungOctets (rows : List Row) : Octets :=
  ((rows.flatMap fun x => x.c0) ++ (rows.flatMap fun x => x.c1) ++ (rows.flatMap fun x => x.c2)).flatMap (beOctets 2)

/-- A course composed since its receipt goes to the pipelines at the edge of T (R61, R97). -/
def Mod.handLadder (m : Mod) (n T : Nat) (h : Handed) : Mod :=
  let w := m.withChan n h.frame
  let lad := w.ladderCourse n h
  let m := (m.keepLadder n h lad).each (w.rungs n) fun (m : Mod) (i : Nat) =>
    m.snoop 2 n i (fun _ => rungOctets (nth lad (i + 1))) ⟨true, true, h.course⟩ (h.frame + h.course * h.k) h.frame
  m.each ((List.range 128).filter fun r => (m.dueAt r T).contains h && ((m.rend r).cfgFor h.frame).chan = n)
    fun (m : Mod) (r : Nat) => match w.rungOfSize n ((m.rend r).cfgFor h.frame).rung with
      | none => m
      | some i => m.openWindow r h (nth lad (i + 1)) T

/-- Step 4 of R19 for encoding, at the edge of T: windows that end, then the courses composed since their receipt, by
ascending channel, then the lanes that have nothing in progress. -/
def Mod.encodeEdge (m : Mod) (T : Nat) (record : Mod → Nat → Coding → Mod) : Mod :=
  let m := m.each (List.range 128) fun (m : Mod) (r : Nat) =>
    m.each ((m.rend r).coding.filter fun c => c.endTick = T) fun (m : Mod) (c : Coding) => record (m.endWindow r c T) r c
  let m := m.each (List.range 32) fun (m : Mod) (n : Nat) =>
    (m.each ((m.chan n).composing.filter fun h => h.tick + h.k = T) fun (m : Mod) (h : Handed) => m.handLadder n T h).modChan n
      fun c => { c with composing := c.composing.filter fun (x : Handed) => T < x.tick + x.k }
  m.serveIdle

/-! ### The launch queue and launches (R157-R162, R215) -/

/-- Whether the module is entitled to launch a datagram of launch time λ (R10, R215). -/
def Mod.entitled (m : Mod) (launch : Nanos) : Bool :=
  m.n 0x7040 1 = 0 ||
    match m.twin.launchFrom with
    | none => false
    | some a => a ≤ launch && (match m.twin.launchUntil with | none => true | some x => launch < x)

/-- Whether a logical port exists in its cage's port mode (R264). -/
def Mod.portExists (m : Mod) (p : Nat) : Bool :=
  let mode := m.n (0x2400 + p / 4) 1
  if mode = 0 then p % 4 = 0 else if mode = 1 then p % 2 = 0 else true

/-- Whether a logical port is up: stage 5 (R266). -/
def Mod.portUp (m : Mod) (p : Nat) : Bool := m.n (0x2440 + p / 4) (5 + p % 4) = 5

/-- Slots of the launch queue in use. -/
def Mod.queueOccupancy (m : Mod) : Nat := (m.rends.map fun s => s.queue.length).sum

/-- Snoops a datagram on each of its paths (Table 19.5 points 6 and 7): `gone` says on which, 0 red, 1 blue, its octets pass. -/
def Mod.snoopDatagram (m : Mod) (point r : Nat) (d : Datagram) (gone : Nat → Bool) : Mod :=
  m.each (if d.via.blue = none then [0] else [0, 1]) fun (m : Mod) (path : Nat) =>
    m.snoop point r path (fun _ => if gone path then d.octets else []) ⟨d.first, d.last, d.course⟩ d.due d.frame

/-- Octets of a frame that a datagram makes, from destination MAC to FCS. -/
def Datagram.frameLength (d : Datagram) : Nat := d.bytes + 18 + (if d.via.vlan = none then 0 else 4)

/-- ser(f) in ns, rounded up (R206): rate in Mb/s. -/
def serTime (len rate : Nat) : Nanos := if rate = 0 then 0 else ((len + 20) * 8000 + rate - 1) / rate

/-- The rate the configured port mode gives a logical port, in Mb/s; 0 where it is absent. -/
def Mod.configuredRate (m : Mod) (p : Nat) : Nat :=
  if !m.portExists p then 0 else
  let mode := m.n (0x2400 + p / 4) 1
  if mode = 0 then 400000 else if mode = 1 then 200000 else 100000

/-- The rate a logical port has now (3900:01): 0 when absent or down, 200,000 when degraded (R273). -/
def Mod.portRate (m : Mod) (p : Nat) : Nat :=
  if !m.portUp p then 0 else if m.flag (0x2440 + p / 4) 9 then 200000 else m.configuredRate p

/-- How much longer the wire of a port carries the frame before (R159). -/
def Mod.wireWait (m : Mod) (port : Nat) : Nanos := (nth m.fab.ports port).busyUntil - m.ctr

/-- A frame of Q2 takes the wire of a port, after the frame before it (R159). -/
def Mod.takeWire (m : Mod) (port len : Nat) : Mod :=
  { m with fab := { m.fab with
    ports := m.fab.ports.modify port fun p => { p with busyUntil := max p.busyUntil m.ctr + serTime len (m.portRate port) } } }

/-- Whether a frame of Q2 fits the strict reserve of a port beside what Q0 and Q1 hold and what still waits for the wire (R209). -/
def Mod.strictRoom (m : Mod) (port len : Nat) : Bool :=
  let p := nth m.fab.ports port
  let held := ((nth p.queues 0 ++ nth p.queues 1).map fun f => f.len + 20).sum
  held + m.wireWait port * m.portRate port / 8000 + len + 20 ≤ 524288

/-- A strict frame that does not fit its port's reserve is discarded and counted (R209). -/
def Mod.strictFull (m : Mod) (port q : Nat) : Mod := (m.bump (0x3840 + port) (9 + q)).raiseLimited 0x3801 port second [port, q]

/-- The MAC address of a logical port: frames leave with it. -/
def Mod.portMac (m : Mod) (port : Nat) : Nat := m.n 0x1000 8 + 1 + port

/-- A datagram leaves on one path, or is discarded at a port that is down (R157, R160). `b` is 0 red, 1 blue. -/
def Mod.launchPath (m : Mod) (r : Nat) (d : Datagram) (pa : PathAddr) (b : Nat) : Mod :=
  let path : Path := if b = 0 then .red else .blue
  if m.portUp pa.logical && !m.strictRoom pa.logical d.frameLength then m.strictFull pa.logical 2
  else if m.portUp pa.logical then
    let at_ := m.now + m.wireWait pa.logical
    let m := (m.send (.datagram (.rendition (Fin.ofNat 128 r)) path pa (m.portMac pa.logical) d)).bump (0x5980 + r) (1 + b)
    let m := (m.countSent pa.logical 2 d.frameLength).takeWire pa.logical d.frameLength
    let m := m.putMax (0x5880 + r) 0x0C ((at_ : Int) - d.launch)
    if b = 0 then m.count (0x5980 + r) 9 d.bytes else m
  else (m.bump (0x5980 + r) (4 + b)).raiseLimited 0x5803 (2 * r + b) second [r, b]

/-- A datagram of a rendition at or after its launch time (R157, R160, R215): discarded, or out on each path. -/
def Mod.launchDatagram (m : Mod) (r : Nat) (d : Datagram) : Mod :=
  if !m.entitled d.launch then m.bump (0x5980 + r) 3
  else
    let m := m.launchPath r d d.via.red 0
    let m := match d.via.blue with
      | none => m
      | some pa => m.launchPath r d pa 1
    m.modRend r fun s => { s with confirm := d.index }

/-- Whether a datagram leaves after its launch time because others occupy a port of it, or while its clock coasts (R159, R283). -/
def Mod.displaced (m : Mod) (d : Datagram) : Bool :=
  let on (pa : PathAddr) : Bool := m.portUp pa.logical && (d.launch < m.now + m.wireWait pa.logical || m.pllCoasts 5)
  m.entitled d.launch && (on d.via.red || match d.via.blue with | none => false | some pa => on pa)

/-- A datagram that is launched: noted, out unless mux control is down (R364) or its slot cannot be read (R261), snooped (point 7). -/
def Mod.launchOne (m : Mod) (r : Nat) (d : Datagram) : Mod :=
  let m := m.modRend r fun s => { s with lately := ((d.index, d.launch) :: s.lately).take 256 }
  let m' := if m.serviceDown r 2 then m else if d.failed then m.bump (0x5980 + r) 6 else m.launchDatagram r d
  m'.snoopDatagram 7 r d fun p => m.n (0x5980 + r) (1 + p) ≠ m'.n (0x5980 + r) (1 + p)

/-- The head of a rendition's launch queue leaves once its λ has come; one that leaves after its λ was displaced (R159). -/
def Mod.launchHead (m : Mod) (r : Nat) : Mod :=
  match (m.rend r).queue with
  | [] => m
  | d :: rest =>
    if m.now < d.launch then m
    else
      let late : Bool := m.displaced d && !m.serviceDown r 2 && !d.failed
      let m := (m.modRend r fun s => { s with queue := rest }).launchOne r d
      if late then m.bump (0x5980 + r) 7 else m

/-- A packed datagram reaches the queue after its λ: it is launched as it arrives, with its fields unchanged (R160). -/
def Mod.launchLate (m : Mod) (r : Nat) : Mod :=
  match (m.rend r).packing with
  | [] => m
  | d :: rest =>
    if m.now ≤ d.launch then m
    else
      let m := ((m.bump (0x5980 + r) 6).bump 0x5A01 4).raiseLimited 0x5802 r second [r]
      ((m.modRend r fun s => { s with packing := rest }).snoopDatagram 6 r d fun _ => true).launchOne r d

/-- A packed datagram reaches the launch queue (R158, R162), in time or late (R160). -/
def Mod.queueDatagram (m : Mod) (r : Nat) : Mod :=
  match (m.rend r).packing with
  | [] => m
  | d :: rest =>
    if d.launch < m.now then m.launchLate r
    else
      let m := m.modRend r fun s => { s with packing := rest, queue := s.queue ++ [d] }
      (m.putMax 0x5A01 3 m.queueOccupancy).snoopDatagram 6 r d fun _ => true

/-! ### Status (5880, 5A01) -/

/-- Transport overhead over the last second, at an edge (5880:09, 5880:0A). -/
def Mod.showOverhead (m : Mod) (r : Nat) : Mod :=
  let s := m.rend r
  if m.now < s.secondAt + second then m
  else
    let extra := (s.wireSecond - s.bitsSecond) / 1000
    let m := (m.put (0x5880 + r) 9 extra).putMax (0x5880 + r) 0x0A extra
    m.modRend r fun s => { s with bitsSecond := 0, wireSecond := 0, secondAt := m.now }

/-- The output state of 5880:01. -/
def Mod.outputState (m : Mod) (r : Nat) : Nat :=
  let s := m.rend r
  let role := m.n 0x7040 1
  if (s.cfgs = [] && s.packing = [] && s.queue = []) || !m.flag (0x5800 + r) 1 then 0
  else if role = 1 then 3
  else if role = 0 || role = 4 then 1
  else 2

/-- The figures an output shows from its start (R162, R163). -/
def Mod.showOutput (m : Mod) (r : Nat) : Mod :=
  let on := m.flag (0x5800 + r) 1
  let n := m.rendChan r
  let m := m.put (0x5880 + r) 2 (if on then (m.launchPeak r + 999999) / 1000000 else 0)
  let m := (m.put (0x5880 + r) 3 (if on then m.maxDatagrams r else 0)).put (0x5880 + r) 4 (if on then m.outputSlots r else 0)
  (m.put (0x5880 + r) 6 (m.presentOffset (m.rendStep r) (m.n (0x5800 + r) 0x25) (m.n (0x4100 + n) 4))).showSlots

/-! ### Session descriptions (R165) -/

/-- The text of a STR without its padding. -/
def textOf (l : Octets) : Octets := l.takeWhile fun b => b ≠ 0

/-- Text as octets. -/
def textOctets (s : String) : Octets := s.toList.map fun c => BitVec.ofNat 8 c.toNat

/-- An IPv4 address in dotted form. -/
def ipText (a : Nat) : String :=
  toString (a / 2 ^ 24 % 256) ++ "." ++ toString (a / 2 ^ 16 % 256) ++ "." ++ toString (a / 256 % 256) ++ "."
    ++ toString (a % 256)

/-- A hexadecimal digit. -/
def hexDigit (n : Nat) : Char := Nat.digitChar n |>.toUpper

/-- n octets in hexadecimal with dashes. -/
def dashed (n v : Nat) : String :=
  (List.range n).foldl (fun (acc : String) i =>
    let b := v / 256 ^ (n - 1 - i) % 256
    (if i = 0 then acc else acc.push '-').push (hexDigit (b / 16)) |>.push (hexDigit (b % 16))) ""

/-- The media section of a path. -/
def Mod.sdpMedia (m : Mod) (r : Nat) (blue : Bool) : Octets :=
  let o := 0x5800 + r
  let d := if blue then 8 else 4
  let direct := m.n o 2 = 1
  let vvc := m.n (0x5000 + r) 4 = 1
  let pt := if direct then toString (m.n o 0x11) else "33"
  let dst := ipText (m.n o d)
  let line (s : String) : Octets := textOctets (s ++ "\r\n")
  line ("m=video " ++ toString (m.n o (d + 1)) ++ " RTP/AVP " ++ pt)
    ++ line ("c=IN IP4 " ++ dst ++ "/" ++ toString (m.n o 0x0D))
    ++ line ("a=source-filter: incl IN IP4 " ++ dst ++ " " ++ ipText (m.n o (d + 2)))
    ++ line ("a=rtpmap:" ++ pt ++ (if direct then (if vvc then " H266/90000" else " H265/90000") else " MP2T/90000"))
    ++ (if direct then line ("a=fmtp:" ++ pt ++ " profile-id=" ++
          toString (profileIdc (m.rendProfile r))
          ++ ";tier-flag=" ++ toString (m.n (0x5080 + r) 6 - 1) ++ ";level-id=" ++ toString (m.n (0x5080 + r) 5)
          ++ ";tx-mode=SRST") else [])
    ++ line (if blue then "a=mid:blue" else "a=mid:red")

/-- The SDP of an output with a session version (R165). -/
def Mod.sdpText (m : Mod) (r version : Nat) : Octets :=
  let o := 0x5800 + r
  let line (s : String) : Octets := textOctets (s ++ "\r\n")
  let both := m.n o 3 = 0
  let clk := if m.n 0x1420 1 = 0 then "a=ts-refclk:localmac=" ++ dashed 6 (m.n 0x1000 8)
    else "a=ts-refclk:ptp=IEEE1588-2008:" ++ dashed 8 (m.n 0x1420 4) ++ ":" ++ toString (m.n 0x1410 0)
  line "v=0" ++ line ("o=- " ++ toString (1000 + r) ++ " " ++ toString version ++ " IN IP4 " ++ ipText (m.n o 6))
    ++ textOctets "s=" ++ textOf (m.octets o 0x26) ++ line "" ++ line "t=0 0"
    ++ (if both then line "a=group:DUP red blue" else []) ++ line clk
    ++ m.sdpMedia r false ++ (if both then m.sdpMedia r true else [])

/-- Generates an output's SDP; any change of content takes a new version and raises ev 5801 (R165). -/
def Mod.generateSdp (m : Mod) (r : Nat) : Mod :=
  if !m.flag (0x5800 + r) 1 then m
  else if m.octets (0x5900 + r) 0 = m.sdpText r (m.n (0x5880 + r) 0x0B) then m
  else
    ((m.put (0x5880 + r) 0x0B m.tick).putB (0x5900 + r) 0 (m.sdpText r m.tick)).raise 0x5801 r [r, m.tick]

/-- The session version of the partner's record becomes the module's own, with its text (R164, R227). -/
def Mod.adoptSdp (m : Mod) (r version : Nat) : Mod :=
  if !m.flag (0x5800 + r) 1 || m.n (0x5880 + r) 0x0B = version then m
  else (m.put (0x5880 + r) 0x0B version).putB (0x5900 + r) 0 (m.sdpText r version)

/-- The SDP of every enabled output follows a change of its settings, of the grandmaster or of the servo (R165). -/
def Mod.refreshSdp (m : Mod) : Mod := m.each (List.range 128) fun (m : Mod) (r : Nat) => m.generateSdp r

end Sys2Proof.Machine
end

