-- ==== Sys2Proof/Machine/Demux.lean ====
section
/-! DEFINITION. Reading a transport stream (R168, R169): packets, sections, PES packets, NAL units; and the hashes of a decoded picture
(R178). Layouts follow ISO/IEC 13818-1, H.265, H.266 and RFC 1321 (log 30). -/

namespace Sys2Proof.Machine

/-! ### Packets and sections -/

/-- A TS packet as read: PID, whether it starts a section or PES, continuity counter, whether it has payload, discontinuity_indicator. -/
structure TsRead where
  pid : Nat
  start : Bool
  cc : Nat
  carries : Bool
  disc : Bool
  payload : Octets
  deriving DecidableEq, Repr, Inhabited

/-- The octet at a place, as a number. -/
def octetAt (l : Octets) (i : Nat) : Nat := (l.getD i 0).toNat

/-- Two octets as a number. -/
def pairAt (l : Octets) (i : Nat) : Nat := octetAt l i * 256 + octetAt l (i + 1)

/-- Reads a TS packet; none where it is no packet or has an error. -/
def readTs (p : Octets) : Option TsRead :=
  let h := pairAt p 1
  let afc := octetAt p 3 / 16 % 4
  let af := if 2 ≤ afc then 1 + octetAt p 4 else 0
  if p.length ≠ 188 || octetAt p 0 ≠ 0x47 || 2 ^ 15 ≤ h then none
  else some
    { pid := h % 8192, start := h / 16384 % 2 = 1, cc := octetAt p 3 % 16, carries := afc % 2 = 1,
      disc := 2 ≤ af && 128 ≤ octetAt p 5, payload := if afc % 2 = 1 then p.drop (4 + af) else [] }

/-- Sections cut from octets that begin with one: the whole ones, and what is left of the last. -/
def cutSections : Nat → Octets → List Octets × Octets
  | 0, l => ([], l)
  | fuel + 1, l =>
    if l = [] || octetAt l 0 = 0xFF then ([], [])
    else
      let n := 3 + pairAt l 1 % 4096
      if l.length < 3 || l.length < n then ([], l)
      else
        let x := cutSections fuel (l.drop n)
        (l.take n :: x.1, x.2)

/-- A packet of a PID that carries sections: those it completes, and what is kept of the one begun. -/
def feedSections (part : Octets) (x : TsRead) : List Octets × Octets :=
  if x.start then
    let p := octetAt x.payload 0
    let old := if part = [] then ([], []) else cutSections 64 (part ++ (x.payload.drop 1).take p)
    let new := cutSections 64 (x.payload.drop (1 + p))
    (old.1 ++ new.1, new.2)
  else if part = [] then ([], [])
  else cutSections 64 (part ++ x.payload)

/-- Whether a section is whole by its CRC and in force. -/
def sectionOk (s : Octets) : Bool := sectionCrc s = 0 && octetAt s 5 % 2 = 1

/-- The programmes of a PAT with the PIDs of their PMTs; program 0 is the network's. -/
def readPat (s : Octets) : List (Nat × Nat) :=
  if octetAt s 0 ≠ 0 then []
  else
    let body := (s.drop 8).take (s.length - 12)
    ((piecesOf 4 (body.length / 4) body).map fun e => (pairAt e 0, pairAt e 2 % 8192)).filter fun e => e.1 ≠ 0

/-- The components of a PMT from an octet on: stream_type and PID. -/
def readComponents : Nat → Octets → List (Nat × Nat)
  | 0, _ => []
  | fuel + 1, l =>
    if l.length < 5 then []
    else (octetAt l 0, pairAt l 1 % 8192) :: readComponents fuel (l.drop (5 + pairAt l 3 % 4096))

/-- A PMT: its program number and components. -/
def readPmt (s : Octets) : Option (Nat × List (Nat × Nat)) :=
  if octetAt s 0 ≠ 2 then none
  else some (pairAt s 3, readComponents 64 ((s.drop (12 + pairAt s 10 % 4096)).take (s.length - 16 - pairAt s 10 % 4096)))

/-! ### PES packets and NAL units -/

/-- The PTS of a PES header, if it has one, and where its payload begins; none where the octets begin no PES packet. -/
def readPes (l : Octets) : Option (Option Nat × Nat) :=
  if octetAt l 0 ≠ 0 || octetAt l 1 ≠ 0 || octetAt l 2 ≠ 1 then none
  else
    let pts := octetAt l 9 / 2 % 8 * 2 ^ 30 + pairAt l 10 / 2 * 2 ^ 15 + pairAt l 12 / 2
    some (if 128 ≤ octetAt l 7 then some pts else none, 9 + octetAt l 8)

/-- Octets of a byte stream cut at start codes: the units that another start code ends, and the last one; `zeros` counts the zero octets
just passed, `cur` is the unit under way, last octet first. -/
def splitUnits : Octets → Nat → Option Octets → List Octets × Option Octets
  | [], _, cur => ([], cur)
  | b :: r, zeros, cur =>
    if b = 1 && 2 ≤ zeros then
      let x := splitUnits r 0 (some [])
      match cur with
      | none => x
      | some u => ((u.dropWhile fun y => y = 0).reverse :: x.1, x.2)
    else splitUnits r (if b = 0 then zeros + 1 else 0) (cur.map fun u => b :: u)

/-- The NAL units of a stretch of octets without a gap; the last one counts only where the stretch ends with it. -/
def unitsOf (closed : Bool) (l : Octets) : List Octets :=
  let x := splitUnits l 0 none
  x.1 ++ (match x.2 with
    | some u => if closed then [(u.dropWhile fun y => y = 0).reverse] else []
    | none => [])

/-- The NAL units that arrived whole, of octets cut at gaps; `ended` says that the access unit is complete. -/
def wholeUnits (ended : Bool) (parts : List Octets) : List Octets :=
  parts.zipIdx.flatMap fun p => unitsOf (ended && p.2 + 1 = parts.length) p.1

/-- The nal_unit_type of a NAL unit. -/
def unitType (vvc : Bool) (u : Octets) : Nat := if vvc then octetAt u 1 / 8 else octetAt u 0 / 2 % 64

/-- Whether a NAL unit is an SPS. -/
def isSps (vvc : Bool) (u : Octets) : Bool := unitType vvc u = nalType vvc .trailing .sps

/-- Whether a NAL unit is a parameter set that later pictures need: VPS, SPS, PPS, and in VVC the APS before a picture. -/
def isParameterSet (vvc : Bool) (u : Octets) : Bool :=
  let t := unitType vvc u
  if vvc then 14 ≤ t && t ≤ 17 else 32 ≤ t && t ≤ 34

/-! ### Decoded picture hashes (R178) -/

/-- The constants of MD5: floor(2^32 × |sin(i + 1)|). -/
def md5Table : List Nat :=
  [3614090360, 3905402710, 606105819, 3250441966, 4118548399, 1200080426, 2821735955, 4249261313]
    ++ [1770035416, 2336552879, 4294925233, 2304563134, 1804603682, 4254626195, 2792965006, 1236535329]
    ++ [4129170786, 3225465664, 643717713, 3921069994, 3593408605, 38016083, 3634488961, 3889429448]
    ++ [568446438, 3275163606, 4107603335, 1163531501, 2850285829, 4243563512, 1735328473, 2368359562]
    ++ [4294588738, 2272392833, 1839030562, 4259657740, 2763975236, 1272893353, 4139469664, 3200236656]
    ++ [681279174, 3936430074, 3572445317, 76029189, 3654602809, 3873151461, 530742520, 3299628645]
    ++ [4096336452, 1126891415, 2878612391, 4237533241, 1700485571, 2399980690, 4293915773, 2240044497]
    ++ [1873313359, 4264355552, 2734768916, 1309151649, 4149444226, 3174756917, 718787259, 3951481745]

/-- The rotations of MD5, four for each round. -/
def md5Shift (i : Nat) : Nat := nth [7, 12, 17, 22, 5, 9, 14, 20, 4, 11, 16, 23, 6, 10, 15, 21] (i / 16 * 4 + i % 4)

/-- The state of MD5. -/
structure Md5 where
  a : Nat
  b : Nat
  c : Nat
  d : Nat
  deriving DecidableEq, Repr, Inhabited

/-- Step i of MD5 on a block of sixteen words. -/
def Md5.step (w : List Nat) (s : Md5) (i : Nat) : Md5 :=
  let not32 (x : Nat) : Nat := 2 ^ 32 - 1 - x
  let f := if i < 16 then (s.b &&& s.c) ||| (not32 s.b &&& s.d)
    else if i < 32 then (s.d &&& s.b) ||| (not32 s.d &&& s.c)
    else if i < 48 then (s.b ^^^ s.c) ^^^ s.d
    else s.c ^^^ (s.b ||| not32 s.d)
  let g := if i < 16 then i else if i < 32 then (5 * i + 1) % 16 else if i < 48 then (3 * i + 5) % 16 else 7 * i % 16
  let v := (s.a + f + nth md5Table i + nth w g) % 2 ^ 32
  let k := md5Shift i
  ⟨s.d, (s.b + (v * 2 ^ k % 2 ^ 32 + v / 2 ^ (32 - k))) % 2 ^ 32, s.b, s.c⟩

/-- Octets as a number, the first the least significant. -/
def leNat (l : Octets) : Nat := l.foldr (fun b n => n * 256 + b.toNat) 0

/-- A number as n octets, the least significant first. -/
def leOctets (n v : Nat) : Octets := (beOctets n v).reverse

/-- A block of 64 octets. -/
def Md5.block (s : Md5) (l : Octets) : Md5 :=
  let t := (List.range 64).foldl (Md5.step ((piecesOf 4 16 l).map leNat)) s
  ⟨(s.a + t.a) % 2 ^ 32, (s.b + t.b) % 2 ^ 32, (s.c + t.c) % 2 ^ 32, (s.d + t.d) % 2 ^ 32⟩

/-- The MD5 of octets, as a number whose most significant octet is the first. -/
def md5 (l : Octets) : Nat :=
  let n := l.length
  let whole := l ++ [0x80] ++ List.replicate ((119 - n % 64) % 64) 0 ++ leOctets 8 (8 * n)
  let s := (piecesOf 64 (whole.length / 64) whole).foldl Md5.block ⟨0x67452301, 0xEFCDAB89, 0x98BADCFE, 0x10325476⟩
  natOf ([s.a, s.b, s.c, s.d].flatMap (leOctets 4))

/-- The checksum of a component's rows: each octet with a mask of its column and line added up. -/
def sampleSum (wide : Bool) (rows : List (List Nat)) : Nat :=
  (rows.zipIdx.flatMap fun r => r.1.zipIdx.map fun s =>
    let mask := (s.2 % 256 ^^^ r.2 % 256) ^^^ (s.2 / 256 ^^^ r.2 / 256)
    (s.1 % 256 ^^^ mask) + (if wide then s.1 / 256 ^^^ mask else 0)).sum % 2 ^ 32

/-- The hash of a component by its type: 0 MD5, 1 CRC, 2 checksum. -/
def sampleHash (type depth : Nat) (rows : List (List Nat)) : Nat :=
  let wide : Bool := 8 < depth
  if type = 0 then md5 (rows.flatten.flatMap fun v => leOctets (if wide then 2 else 1) v)
  else if type = 1 then sampleCrc wide rows.flatten
  else sampleSum wide rows

/-- The hashes of a picture by component; a line without chroma belongs to a pair. -/
def pictureHashes (type depth : Nat) (rows : List Row) : List Nat :=
  let plane (f : Row → List Nat) : List (List Nat) := (rows.map f).filter fun l => l ≠ []
  [sampleHash type depth (plane fun r => r.c0), sampleHash type depth (plane fun r => r.c1), sampleHash type depth (plane fun r => r.c2)]

end Sys2Proof.Machine
end

