-- ==== Sys2Proof/Machine/Decoder.lean ====
section
/-! DEFINITION. Return-feed decoding (ch. 9): merge and input buffer, sequences, decoding and presentation, damage and
concealment, the ST 2110-20 output. -/

namespace Sys2Proof.Machine

/-- The engine's own state. -/
def Mod.dec (m : Mod) (e : Nat) : DecodeS := nth m.decs e

/-- Changes an engine's own state. -/
def Mod.modDec (m : Mod) (e : Nat) (f : DecodeS → DecodeS) : Mod := { m with decs := m.decs.modify e f }

/-- Engine states of 5C80:02. -/
abbrev decWaiting : Nat := 0
abbrev decDecoding : Nat := 1
abbrev decLost : Nat := 2
abbrev decMismatch : Nat := 3

/-- The state of an engine. -/
def Mod.decState (m : Mod) (e : Nat) : Nat := m.n (0x5C80 + e) 2

/-- Whether an engine's function is RUNNING. -/
def Mod.decRuns (m : Mod) (e : Nat) : Bool := m.fn (decodeFid e) = running

/-- Whether an engine runs in PTS-locked mode (R172). -/
def Mod.ptsLocked (m : Mod) (e : Nat) : Bool := m.n (0x5C00 + e) 8 = 0

/-! ### Session description (R179) -/

/-- Colorimetry and transfer characteristic system of ST 2110-20, from the stream's VUI (R179). -/
def colorimetryName (primaries transfer : Nat) : String :=
  if primaries = 1 then "BT709"
  else if primaries = 9 then (if transfer = 16 || transfer = 18 then "BT2100" else "BT2020")
  else if primaries = 5 || primaries = 6 then "BT601"
  else "UNSPECIFIED"
def transferName (transfer : Nat) : String :=
  if transfer = 16 then "PQ" else if transfer = 18 then "HLG"
  else if transfer = 1 || transfer = 6 || transfer = 14 || transfer = 15 then "SDR"
  else "UNSPECIFIED"

/-- The media section of a path of an engine's flow (log 31). -/
def Mod.decodeMedia (m : Mod) (e : Nat) (blue : Bool) : Octets :=
  let o := 0x5C40 + e
  let d := if blue then 9 else 5
  let line (s : String) : Octets := textOctets (s ++ "\r\n")
  let pt := toString (m.n o 0x0D)
  let size := m.n (0x5C00 + e) 6
  let k := m.decodeStep e
  let s := (((m.dec e).sps).map (·.2)).getD default
  let rate := if m.fam = .f30ntsc || m.fam = .f23976 then toString (m.nominalRate k * 1000) ++ "/1001"
    else toString (m.nominalRate k)
  line ("m=video " ++ toString (m.n o (d + 1)) ++ " RTP/AVP " ++ pt)
    ++ line ("c=IN IP4 " ++ ipText (m.n o d) ++ "/64")
    ++ line ("a=source-filter: incl IN IP4 " ++ ipText (m.n o d) ++ " " ++ ipText (m.n o (d + 2)))
    ++ line ("a=rtpmap:" ++ pt ++ " raw/90000")
    ++ line ("a=fmtp:" ++ pt ++ " sampling=" ++ (if m.n o 2 = 0 then "YCbCr-4:2:2" else "YCbCr-4:4:4") ++ "; width="
        ++ toString (rungWidth size) ++ "; height=" ++ toString (rungHeight size) ++ "; exactframerate=" ++ rate ++ "; depth="
        ++ (if m.n o 3 = 0 then "10" else "12") ++ "; TCS=" ++ transferName s.transfer ++ "; colorimetry="
        ++ colorimetryName s.primaries s.transfer ++ "; PM=2110GPM; SSN=ST2110-20:2017; TP=2110TPN")
    ++ line (if blue then "a=mid:blue" else "a=mid:red")

/-- The SDP of an engine's flow (R179), in the form of R165. -/
def Mod.decodeSdp (m : Mod) (e version : Nat) : Octets :=
  let o := 0x5C40 + e
  let line (s : String) : Octets := textOctets (s ++ "\r\n")
  let both := m.n o 4 = 0
  let clk := if m.n 0x1420 1 = 0 then "a=ts-refclk:localmac=" ++ dashed 6 (m.n 0x1000 8)
    else "a=ts-refclk:ptp=IEEE1588-2008:" ++ dashed 8 (m.n 0x1420 4) ++ ":" ++ toString (m.n 0x1410 0)
  line "v=0" ++ line ("o=- " ++ toString (2000 + e) ++ " " ++ toString version ++ " IN IP4 " ++ ipText (m.n o 7))
    ++ line ("s=decode " ++ toString e) ++ line "t=0 0" ++ (if both then line "a=group:DUP red blue" else []) ++ line clk
    ++ m.decodeMedia e false ++ (if both then m.decodeMedia e true else [])

/-- Generates an engine's SDP while its flow is enabled. -/
def Mod.generateDecodeSdp (m : Mod) (e : Nat) : Mod :=
  if !m.flag (0x5C40 + e) 1 then m
  else if m.octets (0x5D00 + e) 0 = m.decodeSdp e (m.dec e).sdpVersion then m
  else (m.modDec e fun d => { d with sdpVersion := m.tick }).putB (0x5D00 + e) 0 (m.decodeSdp e m.tick)

/-! ### Sequences (R168, Table 9.1) -/

/-- The profile of a sequence as 5080:04 numbers it; 0 where Table 9.1 does not accept it. -/
def decProfile (vvc : Bool) (x : SpsInfo) : Nat :=
  let flags (p : Nat) : Bool := x.constraints = (constraintFlags p).map fun y => decide (y.2 = 1)
  if vvc then (if x.profileIdc = 1 then 5 else if x.profileIdc = 33 then 6 else 0)
  else if x.profileIdc = 1 then 1
  else if x.profileIdc = 2 then 2
  else if x.profileIdc = 4 && flags 3 then 3
  else if x.profileIdc = 4 && flags 4 then 4
  else 0

/-- The luma size of a sequence after the conformance window. -/
def outputSize (x : SpsInfo) : Nat × Nat := (x.width - nth x.crop 0 - nth x.crop 1, x.height - nth x.crop 2 - nth x.crop 3)

/-- general_level_idc of Level 6.2. -/
def levelLimit (vvc : Bool) : Nat := if vvc then 102 else 186

/-- The first row of Table 9.1 that an SPS breaks, counted from 1 (log 30). Chroma is chroma_format_idc. -/
def Mod.spsFault (m : Mod) (e : Nat) (vvc : Bool) (x : SpsInfo) : Option Nat :=
  let size := m.n (0x5C00 + e) 6
  let rate (num scale : Nat) : Bool := scale * 34 * m.decodeStep e * m.fam.a = num * m.fam.b
  if decProfile vvc x = 0 || levelLimit vvc < x.level then some (if vvc then 2 else 1)
  else if x.chroma = 0 || 2 < x.chroma then some 3
  else if x.resizes then some 4
  else if outputSize x ≠ (rungWidth size, rungHeight size) then some 5
  else if x.fields then some 6
  else match x.timing with
    | none => none
    | some t => if rate t.1 t.2 then none else some 7

/-- An SPS that is judged: DECODING, or MISMATCH with ev 5C03; leaving LOST raises ev 5C02 (R168, R170). -/
def Mod.judgeSps (m : Mod) (e : Nat) (vvc : Bool) (sps : Octets) : Mod :=
  let x := Config.parseSps vvc sps
  let m := if m.decState e = decLost then m.raiseClear 0x5C02 e [0x5C01] [e] else m
  let m := m.modDec e fun d => { d with sps := some (sps, x) }
  match m.spsFault e vvc x with
  | some i => ((m.put (0x5C80 + e) 2 decMismatch).bump (0x5CC0 + e) 0x0C).raise 0x5C03 e [e, i]
  | none =>
    let m := ((m.put (0x5C80 + e) 2 decDecoding).put (0x5C80 + e) 4 (decProfile vvc x)).put (0x5C80 + e) 5 x.level
    let m := ((m.put (0x5C80 + e) 6 (x.chroma - 1)).put (0x5C80 + e) 7 x.depth).put (0x5C80 + e) 0x0B
      (rungCost (m.n (0x5C00 + e) 6) (m.decodeStep e))
    m.generateDecodeSdp e

/-- An SPS as it arrives: judged in WAITING and LOST, and where its content differs from the last (R168, R170). -/
def Mod.takeSps (m : Mod) (e : Nat) (vvc : Bool) (sps : Octets) : Mod :=
  if m.decState e = decWaiting || m.decState e = decLost then m.judgeSps e vvc sps
  else match (m.dec e).sps with
    | none => m.judgeSps e vvc sps
    | some old => if old.1 = sps then m else m.judgeSps e vvc sps

/-! ### Timing (R171, R172) -/

/-- The decode allowance in base ticks (Table 9.2): ceil(34 s / 64). -/
def decodeAllowance (size : Nat) : Nat := (34 * nth [64, 16, 4, 1] size + 63) / 64

/-- t_p: the first whole nanosecond whose 90 kHz count is the PTS, nearest an arrival (R172). -/
def ptsTime (pts arrival : Nat) : Nanos :=
  let base := arrival * 90000 / second
  let fwd := (pts + 2 ^ 33 - base % 2 ^ 33) % 2 ^ 33
  let full := if fwd < 2 ^ 32 then base + fwd else base + fwd - 2 ^ 33
  (full * second + 89999) / 90000

/-- The presentation tick of a t_p in PTS-locked mode (R172). -/
def Mod.presentationTick (m : Mod) (e : Nat) (tp : Nanos) : Nat :=
  m.fam.firstAt (tp + m.n (0x5C00 + e) 9) (34 * m.decodeStep e)

/-- The presentation tick of an access unit in PTS-locked mode. -/
def Mod.auTick (m : Mod) (e : Nat) (a : WaitingAu) : Nat := m.presentationTick e (ptsTime a.pts a.arrived)

/-- The base tick at which the decode of an access unit starts (R171). -/
def Mod.decodeTick (m : Mod) (e : Nat) (a : WaitingAu) : Nat :=
  let locked := m.fam.edge (m.auTick e a) - (2 + a.sps.reorder) * m.fam.framePeriod (m.decodeStep e)
  m.fam.firstAt (max (max a.complete (m.dec e).endedAt) (if m.ptsLocked e then locked else 0)) 1

/-- A picture is late: it is never presented, counted in 5CC0:08, ev 5C06 (R174). -/
def Mod.countLate (m : Mod) (e : Nat) : Mod := (m.bump (0x5CC0 + e) 8).raiseLimited 0x5C06 e second [e]

/-- Sets the concealment flag at the first damaged or concealed picture, or at loss (R170, R176). -/
def Mod.conceal (m : Mod) (e : Nat) : Mod :=
  let m := m.modDec e fun d => { d with damagedAt := d.count, recovery := none }
  if m.flag (0x5C80 + e) 3 then m else (m.putFlag (0x5C80 + e) 3 true).raiseCond 0x5C04 e [e]

/-! ### Merge and input buffer (R169) -/

/-- The input buffer of an engine in octets (R169). -/
abbrev inputBuffer : Nat := 67108864

/-- The octets in an engine's input buffer: the TS packets that wait for one missing, or for their decode. -/
def DecodeS.fill (d : DecodeS) : Nat :=
  188 * ((d.ahead.map fun x => x.2.2.length).sum + ((d.au.map fun a => a.packets).getD 0) + (d.waiting.map fun a => a.packets).sum)

/-- A gap, in the sequence numbers or the continuity of the video PID: the access unit that spans it is damaged. -/
def DecodeS.gap (d : DecodeS) : DecodeS :=
  { d with au := d.au.map fun a => { a with parts := a.parts ++ [[]], damaged := true } }

/-- The access unit under way is complete; it waits for its decode if its sequence is decoded (R168, R171). -/
def Mod.closeAu (m : Mod) (e : Nat) : Mod :=
  let d := m.dec e
  let m := m.modDec e fun d => { d with au := none }
  match d.au, d.video, d.sps with
  | some a, some v, some s =>
    let pts := a.pts.getD ((d.lastPts + m.fam.a * 34 * m.decodeStep e * 90000 / m.fam.b) % 2 ^ 33)
    let w : WaitingAu := ⟨v.2, s.2, wholeUnits true a.parts, pts, a.at_, m.now, a.packets, a.damaged, false⟩
    if m.decState e ≠ decDecoding then m
    else
      let late : Bool := m.ptsLocked e && m.auTick e w ≤ m.tick
      (m.when late fun m => m.countLate e).modDec e fun d => { d with lastPts := pts, waiting := d.waiting ++ [{ w with late := late }] }
  | _, _, _ => m

/-- Judges the SPS that have arrived whole in the access unit under way. -/
def Mod.judgeNew (m : Mod) (e : Nat) : Mod :=
  match (m.dec e).au, (m.dec e).video with
  | some a, some v =>
    let l := (wholeUnits false a.parts).filter (isSps v.2)
    (m.each (l.drop a.judged) fun (m : Mod) (u : Octets) => m.takeSps e v.2 u).modDec e fun d =>
      { d with au := d.au.map fun a => { a with judged := max a.judged l.length } }
  | _, _ => m

/-- Whether an access unit whose PES packet tells its length has come whole. -/
def AuIn.full (a : AuIn) : Bool :=
  match a.size with
  | none => false
  | some n => !a.damaged && n ≤ (a.parts.map List.length).sum

/-- A packet of the video PID that came at an instant: a repeated one is left out; a continuity error is a gap. -/
def Mod.takeVideoTs (m : Mod) (e : Nat) (x : TsRead) (at_ : Nanos) : Mod :=
  let last := (m.dec e).lastCc
  if !x.carries || (last = some x.cc && !x.disc) then m
  else
    let broken : Bool := !x.disc && last.any fun c => x.cc ≠ (c + 1) % 16
    let m := m.modDec e fun d => { (if broken then d.gap else d) with lastCc := some x.cc }
    let m := if !x.start then
        m.modDec e fun d =>
          { d with au := d.au.map fun a =>
              { a with parts := a.parts.dropLast ++ [a.parts.getLastD [] ++ x.payload], packets := a.packets + 1 } }
      else
        let m := m.closeAu e
        match readPes x.payload with
        | none => m
        | some p =>
          let n := pairAt x.payload 4
          let size := if n = 0 then none else some (n + 6 - p.2)
          m.modDec e fun d => { d with au := some ⟨p.1, at_, size, [x.payload.drop p.2], 1, false, 0⟩ }
    let m := m.judgeNew e
    if (m.dec e).au.any fun a => a.full then m.closeAu e else m

/-- A whole section of the PAT, or of the PMT of the programme followed (R168). -/
def Mod.takeSection (m : Mod) (e : Nat) (s : Octets) : Mod :=
  let want := m.n (0x5C00 + e) 5
  if !sectionOk s then m
  else if octetAt s 0 = 0 then
    let l := readPat s
    match if want = 0 then (if octetAt s 6 = 0 then l.head? else none) else l.find? fun x => x.1 = want with
    | none => m
    | some x => m.modDec e fun d => { d with pmtPid := some x.2 }
  else match readPmt s with
    | none => m
    | some x =>
      match x.2.find? fun c => c.1 = 0x24 || c.1 = 0x33 with
      | none => m
      | some c =>
        if (want ≠ 0 && x.1 ≠ want) || (m.dec e).video = some (c.2, decide (c.1 = 0x33)) then m
        else (m.closeAu e).modDec e fun d => { d with video := some (c.2, decide (c.1 = 0x33)), lastCc := none }

/-- A merged TS packet that came at an instant (R168): PAT, PMT and the video PID; all else is discarded. -/
def Mod.takeTs (m : Mod) (e : Nat) (at_ : Nanos) (p : Octets) : Mod :=
  match readTs p with
  | none => m
  | some x =>
    let d := m.dec e
    if x.pid = 0 || d.pmtPid = some x.pid then
      let y := feedSections (((d.sections.find? fun z => z.1 = x.pid).map (·.2)).getD []) x
      (m.modDec e fun d =>
        { d with sections := (d.sections.filter fun (z : Nat × Octets) => z.1 ≠ x.pid) ++ [(x.pid, y.2)] }).each y.1
        fun (m : Mod) (s : Octets) => m.takeSection e s
    else if d.video.any fun v => v.1 = x.pid then m.takeVideoTs e x at_
    else m

/-- Datagrams that are missing: counted, with what they leave behind (R169). -/
def Mod.loseDecode (m : Mod) (e k : Nat) : Mod :=
  (m.count (0x5CC0 + e) 4 k).modDec e fun d => { d.gap with sections := [] }

/-- Takes merged datagrams in the order of their numbers as far as they have come; a number still missing after the skew window is
given up once a later one has waited that long (R44, R169). An entry without packets is a datagram the buffer had no room for. -/
def Mod.releaseDecode (m : Mod) (e : Nat) : Nat → Mod
  | 0 => m
  | fuel + 1 =>
    let d := m.dec e
    let w := m.n (0x5C00 + e) 0x0A
    match d.next, d.ahead with
    | some n, x :: rest =>
      let expired : Bool := x.2.1 + w < m.now
      if x.1 = n && x.2.2 ≠ [] then
        let m := m.modDec e fun d => { d with next := some (n + 1), ahead := rest }
        (m.each x.2.2 fun (m : Mod) (p : Octets) => m.takeTs e x.2.1 p).releaseDecode e fuel
      else if !expired then m
      else if x.1 = n then ((m.modDec e fun d => { d with next := some (n + 1), ahead := rest }).loseDecode e 0).releaseDecode e fuel
      else ((m.modDec e fun d => { d with next := some x.1 }).loseDecode e (x.1 - n)).releaseDecode e fuel
    | _, _ => m

/-- All that can be taken now. -/
def Mod.release (m : Mod) (e : Nat) : Mod := m.releaseDecode e (3 * (m.dec e).ahead.length)

/-- A datagram joins the ones not yet taken; one without room is discarded and counted (R169). -/
def Mod.bufferDecode (m : Mod) (e seq : Nat) (packets : List Octets) : Mod :=
  let d := m.dec e
  let room : Bool := d.fill + 188 * packets.length ≤ inputBuffer
  let entry := (seq, m.now, if room then packets else [])
  let m := m.when (!room) fun m => m.bump (0x5CC0 + e) 4
  m.modDec e fun d =>
    { d with
      next := some (d.next.getD seq)
      ahead := insertBy (fun x y => x.1 < y.1) entry (d.ahead.filter fun x => x.1 ≠ seq) }

/-- Whether an engine takes flows from the network (R167). -/
def Mod.takesFlows (m : Mod) (e : Nat) : Bool := m.n (0x5C00 + e) 1 = 0

/-- A datagram of an engine's flows (R44, R167-R169, Table 9.1). -/
def Mod.takeDecode (m : Mod) (e : Nat) (path : Path) (dg : DecodeDg) : Mod :=
  if !m.decRuns e || !m.takesFlows e then m
  else
    let m := (m.modDec e fun d => { d with lastAt := m.now }).bump (0x5CC0 + e) (if path = .red then 1 else 2)
    if !(dg.payloadType = 33 || dg.payloadType = m.n (0x5C00 + e) 0x0C) || dg.packets = [] || 7 < dg.packets.length then m
    else
      let w := m.n (0x5C00 + e) 0x0A
      let m := (m.release e).modDec e fun d => { d with seen := keptNumbers m.now w d.seen }
      let d := m.dec e
      match d.seen.find? fun s => s.seq = dg.seq with
      | some s => if m.now ≤ s.at_ + w then m.bump (0x5CC0 + e) 3 else m
      | none =>
        if d.next.any fun n => dg.seq < n then m
        else
          let m := m.bufferDecode e dg.seq dg.packets
          let kept : Bool := (m.dec e).ahead.any fun x => x.1 = dg.seq && x.2.2 ≠ []
          (m.when kept fun m => m.modDec e fun d => { d with seen := d.seen ++ [⟨dg.seq, m.now, path⟩] }).release e

/-- A datagram of the module itself (R167): it comes in order; a jump of its index is a gap. -/
def Mod.takeOwn (m : Mod) (e : Nat) (d : Datagram) : Mod :=
  let next := (m.dec e).next.getD d.index
  let m := if d.index = next && (m.dec e).ahead = [] then m else m.loseDecode e (d.index - next)
  ((m.modDec e fun x => { x with lastAt := m.now, next := some d.index, ahead := [] }).bufferDecode e d.index
    (d.packets.map TsPacket.octets)).release e

/-- A datagram of a rendition (1) or a read slot (2) goes to the engines that take it as their source (R167, R190). -/
def Mod.feedEngines (m : Mod) (source idx : Nat) (d : Datagram) : Mod :=
  m.each ([0, 1].filter fun e => m.decRuns e && m.n (0x5C00 + e) 1 = source && m.n (0x5C00 + e) 4 = idx)
    fun (m : Mod) (e : Nat) => m.takeOwn e d

/-- A packed datagram reaches the launch queue, and the engines whose source its rendition is, before any test of R10 (R167). -/
def Mod.queueFed (m : Mod) (r : Nat) : Mod :=
  match (m.rend r).packing with
  | [] => m
  | d :: _ => (m.queueDatagram r).feedEngines 1 r d

/-- No datagram for the loss time: LOST, buffers flushed, concealment set (R170). -/
def Mod.decodeLoss (m : Mod) (e : Nat) : Mod :=
  if m.decRuns e && m.decState e ≠ decLost && (m.dec e).lastAt + m.n (0x5C00 + e) 0x0B ≤ m.now then
    let m := m.modDec e fun d =>
      { d with
        next := none
        ahead := []
        sections := []
        lastCc := none
        au := none
        sps := none
        sets := []
        waiting := []
        decoding := none
        ready := []
        decoded := [] }
    ((m.put (0x5C80 + e) 2 decLost).raiseCond 0x5C01 e [e]).conceal e
  else m

/-! ### Decoding (R171-R178) -/

/-- Writes samples into a line from a place on. -/
def patchLine (l : List Nat) (i : Nat) (x : List Nat) : List Nat := (l.take i ++ x ++ l.drop (i + x.length)).take l.length

/-- Lays what slices decode to over a picture. -/
def overlay (rows : List Row) (l : List DecPatch) : List Row :=
  l.foldl (fun rows p => rows.modify p.line fun r =>
    ⟨patchLine r.c0 p.column p.row.c0, patchLine r.c1 (p.column / 2) p.row.c1, patchLine r.c2 (p.column / 2) p.row.c2⟩) rows

/-- Mid-grey in the coded size of a sequence (R175). -/
def midGrey (x : SpsInfo) : List Row :=
  let g := 2 ^ (x.depth - 1)
  (List.range x.height).map fun y =>
    let half := if x.chroma = 1 && y % 2 = 1 then [] else List.replicate (x.width / 2) g
    ⟨List.replicate x.width g, half, half⟩

/-- The decoded picture of a sequence's size nearest in output order, or mid-grey (R175). -/
def DecodeS.nearest (d : DecodeS) (x : SpsInfo) (order : Int) : List Row :=
  let best := (d.decoded.filter fun y => y.rows.length = x.height).foldl (fun (b : Option DecRef) y =>
    match b with
    | none => some y
    | some z => if (y.order - order).natAbs < (z.order - order).natAbs then some y else some z) none
  (best.map fun y => y.rows).getD (midGrey x)

/-- Whether a recovery begins with a picture that needs nothing before it (R175). -/
def joins : RecoveryMark → Bool
  | .irap => true
  | .gdrStart _ => true
  | _ => false

/-- Where a recovery that a picture begins completes, in output order (R176). -/
def recoveryOf (mark : RecoveryMark) (order : Int) : Option Int :=
  match mark with
  | .none => none
  | .irap => some order
  | .gdrStart n => some (order + n)
  | .recoveryPoint n exact => if exact then some (order + n) else none

/-- The first place in output order of a new sequence, less the order count of its first picture: after all that was decoded. -/
def DecodeS.newBase (d : DecodeS) : Int := d.decoded.foldl (fun b y => max b (y.order + 2 ^ 32)) d.orderBase

/-- A picture enters the presentation queue (R172, R173). -/
def Mod.enqueuePicture (m : Mod) (e : Nat) (p : DecPicture) (late : Bool) : Mod :=
  let d := m.dec e
  if m.ptsLocked e then
    if late then m
    else if d.lastTick.any (fun T => decide (p.tick ≤ T)) then m.bump (0x5CC0 + e) 8
    else match d.ready.find? fun q => q.tick = p.tick with
      | none => m.modDec e fun d => { d with ready := d.ready ++ [p] }
      | some q =>
        let keep := if q.order < p.order then p else q
        (m.modDec e fun d => { d with ready := (d.ready.filter fun (x : DecPicture) => x.tick ≠ p.tick) ++ [keep] }).bump
          (0x5CC0 + e) 8
  else
    let l := insertBy (fun (x y : DecPicture) => x.order < y.order) p d.ready
    if 2 < l.length then (m.modDec e fun d => { d with ready := l.drop 1 }).bump (0x5CC0 + e) 8
    else m.modDec e fun d => { d with ready := l }

/-- A decode starts (R171): the access unit leaves the input buffer. -/
def Mod.beginPicture (m : Mod) (e : Nat) (a : WaitingAu) (T : Nat) : Mod :=
  m.modDec e fun d =>
    { d with
      waiting := d.waiting.drop 1
      decoding := some ⟨a, T + decodeAllowance (m.n (0x5C00 + e) 6), m.auTick e a, ptsTime a.pts a.arrived⟩ }

/-- A picture as it is decoded: what its NAL units say, its place in output order, whether it is concealed whole, and its entry in the
decoded picture buffer (R175). -/
structure Decoded where
  info : PicInfo
  base : Int
  whole : Bool
  ref : DecRef
  deriving DecidableEq, Repr, Inhabited

/-- The decode of an access unit against what the engine holds (R175): references that an IRAP or GDR picture does without are
mid-grey; a picture that names another one never received is concealed whole; a damaged one is filled from the nearest. -/
def DecodeS.decode (d : DecodeS) (a : WaitingAu) : Decoded :=
  let units := d.sets ++ a.units
  let info := Config.parsePicture a.vvc units d.lastPoc
  let base := if info.fresh then d.newBase else d.orderBase
  let order := base + info.poc
  let ref (p : Int) : Option DecRef := d.decoded.find? fun y => y.order = base + p
  let whole : Bool := !joins info.recovery && info.refs.any fun p => (ref p).isNone
  let refs := info.refs.map fun p => match ref p with
    | some y => (y.rows, y.motion)
    | none => (midGrey a.sps, [])
  let near := d.nearest a.sps order
  ⟨info, base, whole, order, if whole then near else overlay near (Config.decodeSlices a.vvc units refs),
    if whole then [] else Config.decodeMotion a.vvc units refs⟩

/-- What the hash check finds (R178): some false where a picture that is not concealed differs from its hash. -/
def hashOk (info : PicInfo) (depth : Nat) (rows : List Row) : Bool :=
  match info.hash with
  | none => true
  | some h => h.2 = (pictureHashes h.1 depth rows).take h.2.length

/-- The picture being decoded is done at an instant: decoded or concealed, checked, and queued (R171-R178). -/
def Mod.endPicture (m : Mod) (e : Nat) (x : Decoding) (at_ : Nanos) : Mod :=
  let a := x.au
  let y := (m.dec e).decode a
  let bad : Bool := a.damaged || y.whole
  let m := (m.bump (0x5CC0 + e) 5).modDec e fun d =>
    { d with
      decoding := none
      endedAt := at_
      count := d.count + 1
      orderBase := y.base
      lastPoc := if y.info.anchor then y.info.poc else d.lastPoc
      sets := let new := a.units.filter (isParameterSet a.vvc)
        let l := d.sets.filter (fun u => !new.contains u) ++ new
        l.drop (l.length - 96)
      decoded := d.decoded.drop (d.decoded.length - 15) ++ [y.ref]
      margins := if a.late then d.margins ++ [(m.now, (m.fam.edge x.tick : Int) - at_)] else d.margins }
  let m := if a.damaged then m.bump (0x5CC0 + e) 0x0B else m
  let m := if bad then (m.bump (0x5CC0 + e) 9).conceal e
    else match recoveryOf y.info.recovery y.ref.order with
      | none => m
      | some done => m.modDec e fun d => { d with recovery := some (match d.recovery with
          | none => (d.count, done)
          | some z => if done ≤ z.2 then (d.count, done) else z) }
  let m := if m.flag (0x5C00 + e) 0x0D && !bad && !hashOk y.info a.sps.depth y.ref.rows then
      (m.bump (0x5CC0 + e) 0x0A).raiseLimited 0x5C07 e second [e]
    else m
  let begun := (m.dec e).recovery.bind fun z => if z.2 ≤ y.ref.order then some z.1 else none
  m.enqueuePicture e ⟨y.ref.order, x.tick, x.tp, at_, begun, a.sps, y.ref.rows⟩ a.late

/-- Decodes whose allowance has ended end, and those that are due start, as far as the present base tick (R171). -/
def Mod.settleFrom (m : Mod) (e : Nat) : Nat → Mod
  | 0 => m
  | fuel + 1 =>
    match (m.dec e).decoding, (m.dec e).waiting with
    | some x, _ => if m.tick < x.ends then m else (m.endPicture e x (m.fam.edge x.ends)).settleFrom e fuel
    | none, a :: _ =>
      let T := m.decodeTick e a
      if m.tick < T then m else (m.beginPicture e a T).settleFrom e fuel
    | none, [] => m

/-- All decodes of a RUNNING engine as of now. -/
def Mod.settleDecode (m : Mod) (e : Nat) : Mod :=
  if !m.decRuns e then m
  else
    let m := m.release e
    m.settleFrom e (2 * (m.dec e).waiting.length + 1)

/-- DECODE_START: the decode of the oldest access unit begins if its base tick has come (R171). -/
def Mod.decodeStart (m : Mod) (e : Nat) : Mod := m.settleDecode e

/-- DECODE_END: the decode in progress ends now, within its allowance (R171). -/
def Mod.decodeEnd (m : Mod) (e : Nat) : Mod :=
  match (m.dec e).decoding with
  | none => m
  | some x => m.endPicture e x (min m.now (m.fam.edge x.ends))

/-! ### Output (R179, R180) -/

/-- Chroma of a 4:2:0 picture at every line (R179): the four chroma lines around each line; the first row of a pair carries its
pair's chroma. -/
def chromaLines (depth : Nat) (rows : List (List Nat)) : List (List Nat) :=
  let lines := (rows.zipIdx.filter fun x => x.2 % 2 = 0).map (·.1)
  (List.range rows.length).map fun y =>
    (List.range (lines.headD []).length).map fun x =>
      let column := lines.map fun l => nth l x
      min (2 ^ depth - 1) (Config.upsampleVertical (y % 2 = 1) (tapsAt column ((y / 2 + y % 2 : Nat) - 2) 4))

/-- A decoded picture as the engine sends it (R179): chroma of 4:2:0 upsampled vertically, to 4:4:4 horizontally as in R61, depth
as in R84. -/
def decodeOutput (chroma depth sampling outDepth : Nat) (rows : List Row) : List Row :=
  let rows := if chroma = 0 then
      let b := chromaLines depth (rows.map (·.c1))
      let r := chromaLines depth (rows.map (·.c2))
      rows.zipIdx.map fun x => (⟨x.1.c0, nth b x.2, nth r x.2⟩ : Row)
    else rows
  let conv (v : Nat) : Nat :=
    if outDepth < depth then min ((v + 2) / 4) 1023 else v * 2 ^ (outDepth - depth)
  rows.map fun r =>
    let up (l : List Nat) : List Nat := if sampling = 1 then upsampleRow depth l else l
    ⟨r.c0.map conv, (up r.c1).map conv, (up r.c2).map conv⟩

/-- Luma samples of one datagram: the most whole pixel groups within 1,428 octets (R179). -/
def samplesPerPacket (sampling depth : Nat) : Nat :=
  1428 / groupOctets sampling depth * groupPixels sampling depth

/-- The datagrams of a picture, row by row: samples of each (R179; log 31). -/
def pictureSrds (size sampling depth : Nat) (rows : List Row) : List Srd :=
  let n := samplesPerPacket sampling depth
  let w := rungWidth size
  rows.zipIdx.flatMap fun r =>
    (List.range ((w + n - 1) / n)).map fun i =>
      let off := i * n
      let len := min n (w - off)
      let cut (c : List Nat) (half : Bool) : List Nat := if half then (c.drop (off / 2)).take (len / 2) else (c.drop off).take len
      ⟨r.2, off, len, ⟨cut r.1.c0 false, cut r.1.c1 (sampling = 0), cut r.1.c2 (sampling = 0)⟩⟩

/-- Cuts the conformance window out of a picture (Table 9.1). -/
def cropRows (x : SpsInfo) (rows : List Row) : List Row :=
  let size := outputSize x
  let l := nth x.crop 0
  ((rows.drop (nth x.crop 2)).take size.2).map fun r =>
    ⟨(r.c0.drop l).take size.1, (r.c1.drop (l / 2)).take (size.1 / 2), (r.c2.drop (l / 2)).take (size.1 / 2)⟩

/-- A picture as the engine sends it and gives it to a channel. -/
def Mod.pictureRows (m : Mod) (e : Nat) (p : DecPicture) : List Row :=
  decodeOutput (p.sps.chroma - 1) p.sps.depth (m.n (0x5C40 + e) 2) (if m.n (0x5C40 + e) 3 = 0 then 10 else 12) (cropRows p.sps p.content)

/-- The ST 2110-20 packets of the picture of a frame tick, with their times: TRO_default of ST 2110-21, sender type N
(R179; log 31). -/
def Mod.schedulePicture (m : Mod) (e T : Nat) (rows : List Row) : Mod :=
  let k := m.decodeStep e
  let size := m.n (0x5C00 + e) 6
  let tf := m.fam.framePeriod k
  let tro := if size ≤ 2 then tf * 43 / 1125 else tf * 28 / 750
  let srds := pictureSrds size (m.n (0x5C40 + e) 2) (m.n (0x5C40 + e) 3) rows
  let n := srds.length
  let ts := m.fam.videoTimestamp T
  let l := srds.zipIdx.map fun x => (m.fam.edge T + tro + x.2 * (tf * 24 / 25) / n, decide (x.2 + 1 = n), ts, x.1)
  m.modDec e fun d => { d with packets := d.packets ++ l }

/-- Black of an engine's output (R48, R180). -/
def Mod.blackRows (m : Mod) (e : Nat) : List Row :=
  let size := m.n (0x5C00 + e) 6
  let sampling := m.n (0x5C40 + e) 2
  let b := blackOf ⟨size, sampling, m.n (0x5C40 + e) 3, 0⟩
  let cw := if sampling = 0 then rungWidth size / 2 else rungWidth size
  List.replicate (rungHeight size) ⟨List.replicate (rungWidth size) b.1, List.replicate cw b.2.1, List.replicate cw b.2.2⟩

/-- The current picture goes out, or what the loss action sends (R179, R180); a held picture of another size is not sent. -/
def Mod.outputPicture (m : Mod) (e T : Nat) : Mod :=
  let size := m.n (0x5C00 + e) 6
  let action := m.n (0x5C40 + e) 0x0E
  let m := m.modDec e fun d => { d with outAt := some T }
  let held := (m.dec e).lastShown.filter fun p => outputSize p.sps = (rungWidth size, rungHeight size)
  if !m.flag (0x5C40 + e) 1 then m
  else if m.decRuns e && m.decState e = decDecoding then
    match (m.dec e).current with
    | none => m
    | some p => m.schedulePicture e T (m.pictureRows e p)
  else if action = 0 then m
  else if action = 1 then m.schedulePicture e T (m.blackRows e)
  else match held with
    | none => m
    | some p => m.schedulePicture e T (m.pictureRows e p)

/-- The picture due at a frame tick in either mode (R172, R173). -/
def Mod.duePicture (m : Mod) (e T : Nat) : Option DecPicture :=
  let d := m.dec e
  if m.ptsLocked e then d.ready.find? fun p => p.tick = T
  else d.ready.head?.filter fun p => p.ended + m.n (0x5C00 + e) 9 ≤ m.fam.edge T

/-- Pictures due by a tick whose decode has not ended are late (R174). -/
def Mod.markLate (m : Mod) (e T : Nat) : Mod :=
  if !m.ptsLocked e then m
  else
    let d := m.dec e
    let now (a : WaitingAu) : Bool := !a.late && m.auTick e a ≤ T
    let n := (d.waiting.filter now).length + (if d.decoding.any fun x => now x.au then 1 else 0)
    let mark (a : WaitingAu) : WaitingAu := { a with late := a.late || now a }
    (m.each (List.range n) fun (m : Mod) (_ : Nat) => m.countLate e).modDec e fun d =>
      { d with waiting := d.waiting.map mark, decoding := d.decoding.map fun x => { x with au := mark x.au } }

/-- A new picture is presented at a frame tick (R172, R174, R176). -/
def Mod.presentNew (m : Mod) (e T : Nat) (p : DecPicture) : Mod :=
  let m := m.modDec e fun d =>
    { d with
      ready := d.ready.filter fun (q : DecPicture) => q.order ≠ p.order
      current := some p
      lastShown := some p
      lastTick := some T
      margins := d.margins ++ [(m.now, (m.fam.edge T : Int) - p.ended)] }
  let m := ((m.bump (0x5CC0 + e) 6).put (0x5C80 + e) 8 T).putZ (0x5C80 + e) 0x0A ((m.fam.edge T : Int) - p.tp)
  if (p.recovers.any fun n => decide ((m.dec e).damagedAt < n)) && m.flag (0x5C80 + e) 3 then
    ((m.modDec e fun d => { d with recovery := none }).putFlag (0x5C80 + e) 3 false).raiseClear 0x5C05 e [0x5C04] [e, T]
  else m

/-- PRESENTATION_TICK (R174, R176, R179-R181). -/
def Mod.present (m : Mod) (e : Nat) : Mod :=
  let T := m.tick
  if !isFrameTick T (m.decodeStep e) || (m.dec e).outAt = some T then m
  else if !(m.decRuns e && m.decState e = decDecoding) then m.outputPicture e T
  else
    let m := (m.settleDecode e).markLate e T
    let m := match m.duePicture e T with
      | some p => m.presentNew e T p
      | none => if (m.dec e).current = none then m else m.bump (0x5CC0 + e) 7
    let m := m.modDec e fun d => { d with margins := d.margins.filter fun (x : Nanos × Int) => m.now ≤ x.1 + second }
    let d := m.dec e
    let m := m.putZ (0x5C80 + e) 9 ((d.margins.map (·.2)).foldl min ((d.margins.map (·.2)).headD 0))
    match d.current with
    | none => m.outputPicture e T
    | some p =>
      let rows := m.pictureRows e p
      let m := m.modDec e fun d => { d with presented := d.presented.drop (d.presented.length - 1) ++ [(T, rows)] }
      let m := m.snoop 9 e 0 (fun _ => (List.range 3).flatMap fun q => rows.flatMap fun r =>
        (if q = 0 then r.c0 else if q = 1 then r.c1 else r.c2).flatMap (beOctets 2)) ⟨true, true, 34⟩ T T
      m.outputPicture e T

/-- One path of an engine's flow (5C40:05-0C). -/
def Mod.decodePath (m : Mod) (e : Nat) (blue : Bool) : PathAddr :=
  let o := 0x5C40 + e
  let i := if blue then 9 else 5
  ⟨m.n o i, m.n o (i + 1), m.n o (i + 2), m.n o (i + 3)⟩

/-- The octets of the frame of an ST 2110-20 packet: Ethernet, IP, UDP and RTP headers, extended sequence number, one SRD header, and
its samples (log 31). -/
def srdFrame (sampling depth len : Nat) : Nat := 18 + 20 + 8 + 12 + 2 + 6 + len / groupPixels sampling depth * groupOctets sampling depth

/-- DECODE_OUTPUT_PACKET: the next packet once its time has come, on the paths whose ports are up, if the module is
entitled at that time (R10, R179). -/
def Mod.sendDecode (m : Mod) (e : Nat) : Mod :=
  match (m.dec e).packets with
  | [] => m
  | x :: rest =>
    if m.now < x.1 then m
    else
      let seq := (m.dec e).nextSeq
      let m := m.modDec e fun d => { d with packets := rest, nextSeq := d.nextSeq + 1 }
      if !m.entitled x.1 then m
      else
        let o := 0x5C40 + e
        let leave (m : Mod) (blue : Bool) : Mod :=
          let pa := m.decodePath e blue
          if m.portUp pa.logical then
            (m.send (.decodePacket (Fin.ofNat 2 e) (if blue then .blue else .red) pa (m.portMac pa.logical) (m.n o 0x0D) (m.n o 0x0F) seq
              x.2.2.1 x.2.1 x.2.2.2)).countSent pa.logical 1 (srdFrame (m.n o 2) (m.n o 3) x.2.2.2.length)
          else m.bump (0x3840 + pa.logical) 0x0A
        let m := leave m false
        if m.n o 4 = 0 then leave m true else m

/-! ### Start and stop -/

/-- An engine starts: WAITING, with nothing held but the picture presented last (R180). -/
def Mod.beginDecode (m : Mod) (e : Nat) : Mod :=
  let m := m.modDec e fun d => { (default : DecodeS) with
    lastAt := m.now, nextSeq := d.nextSeq, lastShown := d.lastShown, packets := d.packets, outAt := d.outAt, sdpVersion := d.sdpVersion }
  let m := m.clear (0x5C80 + e) 4 0x0B
  (m.put (0x5C80 + e) 2 decWaiting).put (0x5C80 + e) 3 0

/-- An engine stops. -/
def Mod.endDecode (m : Mod) (e : Nat) : Mod :=
  let m := m.modDec e fun d => { (default : DecodeS) with
    nextSeq := d.nextSeq, lastShown := d.lastShown, packets := d.packets, outAt := d.outAt, sdpVersion := d.sdpVersion }
  let m := m.clear (0x5C80 + e) 4 0x0B
  let m := if m.flag (0x5C80 + e) 3 then
      (m.putFlag (0x5C80 + e) 3 false).raiseClear 0x5C05 e [0x5C04] [e, m.tick]
    else m
  let m := if m.decState e = decLost then m.raiseClear 0x5C02 e [0x5C01] [e] else m
  m.put (0x5C80 + e) 2 decWaiting

end Sys2Proof.Machine
end

