-- ==== Sys2Proof/Machine/Replay.lean ====
section
/-! DEFINITION. The replay store (ch. 10): rings, recording, clips, playout and export. -/

namespace Sys2Proof.Machine

/-! ### Rings (R183, R184) -/

/-- The ring of a rendition, if it is reserved. -/
def Mod.ring (m : Mod) (r : Nat) : Option Ring := nth m.rings r

/-- Changes a rendition's ring. -/
def Mod.modRing (m : Mod) (r : Nat) (f : Ring → Ring) : Mod :=
  { m with rings := m.rings.modify r fun x => x.map f }

/-- The read slot's own state. -/
def Mod.slot (m : Mod) (s : Nat) : SlotS := nth m.slots s

/-- Changes a read slot's own state. -/
def Mod.modSlot (m : Mod) (s : Nat) (f : SlotS → SlotS) : Mod := { m with slots := m.slots.modify s f }

/-- The pictures a ring holds at least: ceil(W / Tf) + 2N + 2 (R184). -/
def Mod.ringPictures (m : Mod) (r : Nat) : Nat :=
  let k := m.rendStep r
  let tf := 34 * k * m.fam.a
  (m.n (0x6080 + r) 2 * m.fam.b + tf - 1) / tf + 2 * m.n (0x5300 + r) 1 + 2

/-- The TS packets of a picture at most, Q of R184. -/
def Mod.ringPackets (m : Mod) (r : Nat) : Nat :=
  let k := m.rendStep r
  let num := sigRate (m.n (0x5400 + r) 6) * 34 * k * m.fam.a
  (num + 1408 * m.fam.b - 1) / (1408 * m.fam.b) + 73 + 34 * m.audioPackets r + m.ancPackets r

/-- S of R184. -/
def Mod.ringSize (m : Mod) (r : Nat) : Nat :=
  let p := m.ringPictures r
  188 * ((sigBuffer (m.n (0x5400 + r) 7) + 1407) / 1408 + p * m.ringPackets r) + 1088 * p

/-- The renditions whose reserve flag is set. -/
def Mod.reserved (m : Mod) : List Nat := (List.range 128).filter fun r => m.flag (0x6080 + r) 1

/-- Octets of the replay region (6000:01, GiB). -/
def Mod.replayRegion (m : Mod) : Nat := m.n 0x6000 1 * 2 ^ 30

/-- The replay function starts: the region is set aside and divided into rings (R183). -/
def Mod.beginReplay (m : Mod) : Mod :=
  let rs := m.reserved
  let rings := (List.range 128).map fun r =>
    if rs.contains r then some (⟨m.ringSize r, m.ringPictures r, [], [], 0, none⟩ : Ring) else none
  let m : Mod := { m with rings := rings }
  let m := rs.foldl (fun m r => m.put (0x6100 + r) 1 (m.ringSize r)) m
  (m.put 0x6001 2 m.replayRegion).put 0x6001 3 ((rs.map fun r => m.ringSize r).sum)

/-- A slot is aborted: 1 stopped, 2 overwritten, 3 failed at its apply tick (R189, R192, R193). -/
def Mod.abortSlot (m : Mod) (s why reason : Nat) : Mod :=
  ((m.put (0x6240 + s) 1 5).put (0x6240 + s) 6 reason).raise 0x6003 s [s, why]

/-- The replay function stops: the whole content is lost (R194). -/
def Mod.endReplay (m : Mod) : Mod :=
  let m := (List.range 16).foldl (fun m s =>
    let st := m.n (0x6240 + s) 1
    let m := m.modSlot s fun x => { (default : SlotS) with index := x.index }
    if st = 1 || st = 2 || st = 3 then m.abortSlot s 1 0 else m) m
  let m : Mod := { m with rings := List.replicate 128 none }
  let m := m.clearRange 0x6100 0x617F 1 7
  (m.put 0x6001 2 0).put 0x6001 3 0

/-! ### Recording (R185-R187, R193) -/

/-- Whether a picture is held whole. -/
def RingPicture.whole (p : RingPicture) : Bool := p.courses.length = 34

/-- The gaps of a ring: places where two held pictures do not follow one another. -/
def gapsIn : List RingPicture → Nat
  | [] => 0
  | [_] => 0
  | p :: q :: r => (if q.frame = p.frame + 34 * p.k then 0 else 1) + gapsIn (q :: r)

/-- The earliest in time a playout of rule 0 may take: the first IDR or springer at least two pictures after the oldest
(6100:05). -/
def Ring.earliest (g : Ring) : Option Nat := ((g.held.drop 2).find? fun p => p.kind ≠ .trailing && p.whole).map (·.frame)

/-- The status of a ring (6100). -/
def Mod.showRing (m : Mod) (r : Nat) : Mod :=
  match m.ring r with
  | none => m
  | some g =>
    let whole := g.held.filter fun p => p.whole
    let m := (m.put (0x6100 + r) 2 whole.length).put (0x6100 + r) 3 ((whole.head?.map fun p => m.fam.edge p.frame).getD 0)
    let m := (m.put (0x6100 + r) 4 ((whole.getLast?.map fun p => m.fam.edge p.frame).getD 0)).put (0x6100 + r) 5
      ((g.earliest.map fun f => m.fam.edge f).getD 0)
    (m.put (0x6100 + r) 6 ((g.held.flatMap (·.courses)).filter fun c => c.unsynced).length).put (0x6100 + r) 7 (gapsIn g.held)

/-- An export that has not read a released picture is overtaken (R193). -/
def Mod.overtake (m : Mod) (r frame : Nat) : Mod :=
  (List.range 16).foldl (fun m s =>
    let x := m.slot s
    if m.n (0x6240 + s) 1 = 3 && x.rend = r && x.clip.contains frame then
      let i := x.clip.findIdx fun f => f = frame
      if x.readTo < (x.lengths.take (i + 1)).sum then m.abortSlot s 2 0 else m
    else m) m

/-- The pictures of a ring, indexed or with entries that wait, oldest first. -/
def Ring.frames (g : Ring) : List Nat := (g.held.map (·.frame) ++ g.waiting.map (·.frame)).eraseDups

/-- A picture goes out of a ring with its entries. -/
def Ring.without (g : Ring) (frame : Nat) : Ring :=
  { g with held := g.held.filter fun p => p.frame ≠ frame, waiting := g.waiting.filter fun x => x.frame ≠ frame }

/-- The oldest picture is released when course 0 of a new picture finds the ring full (R193). -/
def Mod.releaseOldest (m : Mod) (r : Nat) : Mod :=
  match m.ring r with
  | none => m
  | some g =>
    if g.frames.length < g.pictures then m
    else match g.frames with
      | [] => m
      | f :: _ => (m.modRing r fun g => g.without f).overtake r f

/-- The recording flag that governs a picture (R186). -/
def RendS.recordingFor (s : RendS) (frame : Nat) : Bool :=
  match (s.recFlags.filter fun x => x.1 ≤ frame).getLast? with
  | some x => x.2
  | none => false

/-- An entry is indexed (R187): its course joins its picture, which course 0 begins. -/
def Ring.index (g : Ring) (x : IndexEntry) : Ring :=
  if x.course.course = 0 then { g with held := g.held ++ [⟨x.frame, x.k, x.kind, x.count, x.period, [x.course]⟩] }
  else { g with
    held := g.held.map fun p =>
      if p.frame = x.frame && p.courses.length = x.course.course then { p with courses := p.courses ++ [x.course] } else p }

/-- Whether the replay indexing of a rendition's pipeline is up (R13, R187). -/
def Mod.indexing (m : Mod) (r : Nat) : Bool := !m.serviceDown r 4

/-- The indexing core takes the entries of a ring that wait in the queue of its pipeline (R187). -/
def Mod.drainIndex (m : Mod) (r : Nat) : Mod :=
  match m.ring r with
  | none => m
  | some g =>
    if g.waiting = [] || !m.indexing r then m
    else (m.modRing r fun g => { g.waiting.foldl Ring.index g with waiting := [] }).showRing r

/-- The entries that wait are taken once a core serves again, at a tick edge (R187). -/
def Mod.indexEdge (m : Mod) : Mod := m.each (List.range 128) fun (m : Mod) (r : Nat) => m.drainIndex r

/-- An index entry finds the queue of its pipeline full: its picture becomes a gap, of which the ring keeps nothing, and ev 6004 is
raised (R186, R187). -/
def Mod.loseEntry (m : Mod) (r frame : Nat) : Mod :=
  (m.modRing r fun g => { g.without frame with lostPicture := some frame }).raise 0x6004 r [r, 1]

/-- Entries that wait for the indexing core of a pipeline (R187). -/
def Mod.indexWaiting (m : Mod) (p : Nat) : Nat :=
  ((List.range 128).map fun r => if m.pipeOf r = p then (match m.ring r with | none => 0 | some g => g.waiting.length) else 0).sum

/-- Pictures that were begun and will not be completed go out of a ring (R186). -/
def Mod.dropBroken (m : Mod) (r : Nat) : Mod :=
  let s := m.rend r
  m.modRing r fun g =>
    { g with held := g.held.filter fun p => p.whole || (s.pics.any fun q => q.frame = p.frame) || g.waiting.any fun x => x.frame = p.frame }

/-- The octets of a ring that hold records; the rest is its index (R184). -/
def Ring.room (g : Ring) : Nat := max 1 (g.size - 1088 * g.pictures)

/-- The raw entry of a course that a ring records: its record is written at the ring's next place (R187). -/
def Mod.postEntry (m : Mod) (r : Nat) (x : IndexEntry) : Mod :=
  if 1024 ≤ m.indexWaiting (m.pipeOf r) then m.loseEntry r x.frame
  else (m.modRing r fun g => { g with waiting := g.waiting ++ [x], next := (x.course.place + x.course.length) % g.room }).drainIndex r

/-- A course of a rendition is recorded as its coding window ends (R185-R187, R193). -/
def Mod.recordCourse (m : Mod) (r : Nat) (c : Coding) : Mod :=
  let s := m.rend r
  let cfg := s.cfgFor c.frame
  let p := s.pic c.frame
  match m.ring r with
  | none => m
  | some g =>
    if m.fn replayFid ≠ running || cfg.direct || !s.recordingFor c.frame then m
    else
      let m := if c.course = 0 then (m.dropBroken r).releaseOldest r else m
      let x : RingCourse := ⟨c.course, s.run, s.runOctets, g.next, s.runOctets.length, m.n 0x7040 1 = 2⟩
      let known : Bool := c.course = 0 || (g.lostPicture ≠ some c.frame && g.frames.contains c.frame)
      let m := m.when known fun m => m.postEntry r ⟨c.frame, cfg.k, p.kind, p.count, p.period, x⟩
      let m := m.snoop 8 r 0 (fun _ => x.octets) ⟨true, true, c.course⟩ (c.frame + c.course * cfg.k) c.frame
      m.showRing r

/-! ### Clips (R188, R189) -/

/-- A clip as resolved: the reason it is refused for, or its pictures. -/
def Mod.resolveClip (m : Mod) (s : Nat) : Except Nat (List RingPicture) :=
  let o := 0x6200 + s
  let r := m.n o 3
  match m.ring r with
  | none => .error 0x6006
  | some g =>
    let inT := m.n o 5
    let outT := m.n o 0x0E
    let upto (t : Nat) : List RingPicture := g.held.filter fun p => m.fam.edge p.frame ≤ t
    match (upto inT).getLast?, (upto outT).getLast? with
    | some pin, some pout =>
      if outT < inT || !pout.whole then .error 0x6004
      else
        let before := g.held.filter fun p => p.frame ≤ pin.frame
        let ok (p : RingPicture) : Bool :=
          if m.n o 4 = 0 then p.kind ≠ .trailing
          else p.kind = .idr || (p.kind = .springer && p.frame + (p.period - 1) * 34 * p.k ≤ pin.frame)
        match (before.filter ok).getLast? with
        | none => .error 0x6004
        | some st =>
          if (g.held.takeWhile fun p => p.frame ≠ st.frame).length < 2 then .error 0x6004
          else
            let clip := g.held.filter fun p => st.frame ≤ p.frame && p.frame ≤ pout.frame
            if clip.any (fun p => !p.whole) || gapsIn clip ≠ 0 then .error 0x6005
            else .ok clip
    | _, _ => .error 0x6004

/-- Whether an IPv4 destination is as R157 asks: multicast, outside 224.0.0.0/24. -/
def destinationOk (a : Nat) : Bool := a / 2 ^ 28 = 14 && a / 256 ≠ 0xE00000

/-- The renditions that are enabled and STARTING or RUNNING. -/
def Mod.countedRends (m : Mod) : List Nat := (List.range 128).filter fun r => m.rendOn r && m.counts (rendFid r)

/-- The paths of an output: destination address, port, logical port (R157). -/
def Mod.outputPaths (v : Mod) (r : Nat) : List (Nat × Nat × Nat) :=
  let o := 0x5800 + r
  if !v.flag o 1 then []
  else (v.n o 4, v.n o 5, v.n o 7) :: (if v.n o 3 = 0 then [(v.n o 8, v.n o 9, v.n o 0x0B)] else [])

/-- The paths of a decode engine's flow. -/
def Mod.decodePaths (v : Mod) (e : Nat) : List (Nat × Nat × Nat) :=
  let o := 0x5C40 + e
  if !v.flag o 1 then []
  else (v.n o 5, v.n o 6, v.n o 8) :: (if v.n o 4 = 0 then [(v.n o 9, v.n o 0x0A, v.n o 0x0C)] else [])

/-- The paths of a read slot's playout. -/
def Mod.slotPaths (v : Mod) (s : Nat) : List (Nat × Nat × Nat) :=
  let o := 0x6200 + s
  if v.n o 2 = 1 || !v.flag o 6 then []
  else (v.n o 7, v.n o 8, v.n o 0x0A) :: (if v.n o 0x0F = 0xFF then [] else [(v.n o 0x0B, v.n o 0x0C, v.n o 0x0F)])

/-- The paths that outputs, engines and playouts use, but those of one slot. -/
def Mod.usedPaths (v : Mod) (but : Nat) : List (Nat × Nat × Nat) :=
  (v.countedRends.flatMap fun q => v.outputPaths q)
    ++ (([0, 1].filter fun e => v.counts (decodeFid e)).flatMap fun e => v.decodePaths e)
    ++ (((List.range 16).filter fun s => s ≠ but && (v.n (0x6240 + s) 1 = 1 || v.n (0x6240 + s) 1 = 2)).flatMap fun s => v.slotPaths s)

/-- Whether a path stands more than once in a list (R157). -/
def pathTwice (l : List (Nat × Nat × Nat)) (x : Nat × Nat × Nat) : Bool := 1 < (l.filter fun y => y = x).length

/-- Whether a playout's destinations are as R157 asks and its ports exist (0x6008). -/
def Mod.playoutOk (m : Mod) (s : Nat) : Bool :=
  let own := m.slotPaths s
  let all := m.usedPaths s ++ own
  own.all fun x => destinationOk x.1 && m.portExists x.2.2 && !pathTwice all x

/-- The tests of R189: the first reason, or the clip. -/
def Mod.clipTest (m : Mod) (s : Nat) : Except Nat (List RingPicture) :=
  match m.resolveClip s with
  | .error e => .error e
  | .ok l => if m.playoutOk s then .ok l else .error 0x6008

/-- Whether course 0 of a picture to be recorded is handed on at tick T, so that the ring's oldest picture is due for release
(R186, R193). -/
def Mod.releaseDue (m : Mod) (r T : Nat) : Bool :=
  let s := m.rend r
  m.fn replayFid = running && s.coding.any fun c =>
    c.course = 0 && c.endTick = T && !(s.cfgFor c.frame).direct && s.recordingFor c.frame

/-- A clip start at its apply tick, after the releases due at it (R189, R190, R191). -/
def Mod.applyClip (m : Mod) (s T : Nat) : Mod :=
  let m := m.when (m.releaseDue (m.n (0x6200 + s) 3) T) fun m => m.releaseOldest (m.n (0x6200 + s) 3)
  match m.clipTest s with
  | .error e => m.abortSlot s 3 e
  | .ok l =>
    let r := m.n (0x6200 + s) 3
    let start := (l.head?.map (·.frame)).getD 0
    let export_ := m.n (0x6200 + s) 2 = 1
    let sizes := l.map fun p => (p.courses.map fun c => c.octets.length).sum
    let m := m.modSlot s fun x =>
      { (default : SlotS) with
        rend := r
        clip := l.map (·.frame)
        begun := T
        index := x.index
        firstPcr := true
        lengths := sizes }
    let m := ((m.put (0x6240 + s) 1 (if export_ then 3 else 2)).put (0x6240 + s) 2 (m.fam.edge start)).put (0x6240 + s) 3 0
    let m := m.put (0x6240 + s) 4 (if export_ then sizes.sum else 0)
    m.raise 0x6001 s [s, r, start]

/-- A course as an export reads it: the packets that could not be read are null packets (R195). -/
def readCourse (unread : List (Nat × Nat × Nat)) (frame : Nat) (c : RingCourse) : Octets :=
  (unread.filter fun (u : Nat × Nat × Nat) => u.1 = frame && u.2.1 = c.course).foldl
    (fun (o : Octets) (u : Nat × Nat × Nat) => o.take (188 * u.2.2) ++ nullTs.octets ++ o.drop (188 * u.2.2 + 188)) c.octets

/-- The octets of an export as the ring holds them (R191, R195); a picture released after it was read leaves its length. -/
def Mod.exportOctets (m : Mod) (s : Nat) : Octets :=
  let x := m.slot s
  match m.ring x.rend with
  | none => []
  | some g => (x.clip.zip x.lengths).flatMap fun y =>
    match g.held.find? fun p => p.frame = y.1 with
    | none => List.replicate y.2 0
    | some p => p.courses.flatMap (readCourse x.unread p.frame)

/-- A chunk of an export has been read up to an offset; DONE with the last octet (R191). -/
def Mod.exportRead (m : Mod) (s upto : Nat) : Mod :=
  let m := m.modSlot s fun x => { x with readTo := max x.readTo upto }
  if m.n (0x6240 + s) 4 ≤ (m.slot s).readTo then m.put (0x6240 + s) 1 4 else m

/-- The stop of a clip (R192). -/
def Mod.stopClip (m : Mod) (s : Nat) : Mod :=
  let st := m.n (0x6240 + s) 1
  if st = 2 then (m.modSlot s fun x => { x with ended := true }).abortSlot s 1 0
  else if st = 3 || st = 1 then m.abortSlot s 1 0
  else m

/-- The clear of a slot (R192). -/
def Mod.clearSlot (m : Mod) (s : Nat) : Mod :=
  let st := m.n (0x6240 + s) 1
  if st = 4 || st = 5 then m.put (0x6240 + s) 1 0 else m

/-! ### Playout (R190, R192) -/

/-- The added PTS of a playout (R190). -/
def Mod.ptsShift (m : Mod) (begun start : Nat) : Nat := (begun - start) * m.fam.a * 90000 / m.fam.b % 2 ^ 33

/-- How a playout's datagrams leave (R190): its own paths, the headers of its rendition's output (log 33). -/
def Mod.slotSendTo (m : Mod) (s : Nat) : SendTo :=
  let o := 0x6200 + s
  { m.sendTo (m.n o 3) with
    red := ⟨m.n o 7, m.n o 8, m.n o 9, m.n o 0x0A⟩
    blue := if m.n o 0x0F = 0xFF then none else some ⟨m.n o 0x0B, m.n o 0x0C, m.n o 0x0D, m.n o 0x0F⟩ }

/-- The datagrams of a course of a playout (R190). -/
def Mod.playoutDatagrams (m : Mod) (s T : Nat) (p : RingPicture) (c : RingCourse) : List Datagram :=
  let x := m.slot s
  let start := x.clip.headD 0
  let parts := cutRun 7 c.packets.length c.packets
  let n := parts.length
  parts.zipIdx.map fun q =>
    let launch := m.fam.edge (T + p.k) + 20000 + q.2 * p.k * m.fam.a * second / (m.fam.b * n)
    let pk := q.1.map fun y =>
      let v := (y.pts.getD 0 + m.ptsShift x.begun start) % 2 ^ 33
      let y := if y.pts = none then y else { y with pts := some v, data := setPts v y.data }
      if y.kind = .video && y.offset = 0 && y.pcr ≠ none then { y with pcr := some (pcrOf launch), disc := x.firstPcr } else y
    ⟨x.index + q.2, launch, rtpTimestamp 90000 launch, 33, false, m.n (0x5800 + x.rend) 0x10, p.frame, c.course, T + p.k, m.slotSendTo s,
      pk, none, 40 + 188 * 7, q.2 = 0, q.2 + 1 = n, [], false⟩

/-- The playout's read at a course tick (R190): the course whose launch begins one course period later. -/
def Mod.playoutEdge (m : Mod) (s T : Nat) : Mod :=
  let x := m.slot s
  if m.n (0x6240 + s) 1 ≠ 2 || x.ended then m
  else
    match m.ring x.rend with
    | none => m
    | some g =>
      match g.held.find? fun p => some p.frame = x.clip[x.read / 34]? with
      | none => m
      | some p =>
        if T ≠ x.begun + x.read * p.k then m
        else match p.courses[x.read % 34]? with
          | none => m
          | some c =>
            let dgs := m.playoutDatagrams s T p c
            let m := m.modSlot s fun x =>
              { x with
                read := x.read + 1
                queue := x.queue ++ dgs
                index := x.index + dgs.length
                firstPcr := false }
            m.put (0x6240 + s) 5 (m.slot s).index

/-- A slot's datagram on one path; a port that is down discards it as it does any frame of Q2 (R190, R208). -/
def Mod.launchSlotPath (m : Mod) (s : Nat) (d : Datagram) (pa : PathAddr) (path : Path) : Mod :=
  if m.portUp pa.logical && !m.strictRoom pa.logical d.frameLength then m.strictFull pa.logical 2
  else if m.portUp pa.logical then
    ((m.send (.datagram (.slot (Fin.ofNat 16 s)) path pa (m.portMac pa.logical) d)).countSent pa.logical 2 d.frameLength).takeWire
      pa.logical d.frameLength
  else m.bump (0x3840 + pa.logical) 0x0B

/-- DATAGRAM_LAUNCH of a slot (R190, R192, R215): the head of its queue once its λ has come; engines whose source is the slot take it
before the test of R10. -/
def Mod.launchSlot (m : Mod) (s : Nat) : Mod :=
  let x := m.slot s
  match x.queue with
  | [] => m
  | d :: rest =>
    if m.now < d.launch then m
    else
      let m := (m.modSlot s fun x => { x with queue := rest }).feedEngines 2 s d
      let m := if m.flag (0x6200 + s) 6 && m.entitled d.launch then
          let m := m.launchSlotPath s d d.via.red .red
          match d.via.blue with
          | none => m
          | some pa => m.launchSlotPath s d pa .blue
        else m
      let m := if d.last && d.course = 33 then m.bump (0x6240 + s) 3 else m
      if d.last && d.course = 33 && some d.frame = x.clip.getLast? && m.n (0x6240 + s) 1 = 2 then
        (m.put (0x6240 + s) 1 4).raise 0x6002 s [s]
      else m

/-- Puts null packets in place of packets lo to hi of a course whose datagrams stand in a queue, its first `seen` packets passed
(R195). -/
def nullRange (hit : Datagram → Bool) (lo hi : Nat) : Nat → List Datagram → List Datagram
  | _, [] => []
  | seen, d :: rest =>
    if !hit d then d :: nullRange hit lo hi seen rest
    else
      { d with packets := d.packets.zipIdx.map fun y => if lo ≤ seen + y.2 && seen + y.2 ≤ hi then nullTs else y.1 }
        :: nullRange hit lo hi (seen + d.packets.length) rest

/-- A ring read that fails (R195): the TS packets of the failing burst of the course of a tick become null packets, in a playout
and in an export; the course is counted, ev 6005. -/
def Mod.ringReadError (m : Mod) (r s tick : Nat) : Mod :=
  match (m.ring r).bind fun g => g.held.find? fun p => p.frame ≤ tick && tick < p.frame + 34 * p.k with
  | none => m
  | some p =>
    match p.courses[(tick - p.frame) / p.k]? with
    | none => m
    | some c =>
      let n := c.packets.length
      let b := Config.failingBurst m.draws % ((188 * n + 63) / 64)
      let lo := 64 * b / 188
      let hi := min ((64 * b + 63) / 188) (n - 1)
      let hit (d : Datagram) : Bool := d.frame = p.frame && d.course = c.course
      let m := m.draw.modSlot s fun x =>
        if m.n (0x6240 + s) 1 = 3 then
          { x with unread := x.unread ++ (List.range (hi + 1 - lo)).map fun i => (p.frame, c.course, lo + i) }
        else { x with queue := nullRange hit lo hi 0 x.queue }
      (m.bump (0x6100 + r) 8).raise 0x6005 r [r, s, tick]

end Sys2Proof.Machine
end

