-- ==== Sys2Proof/Machine/Fabric.lean ====
section
/-! DEFINITION. The media fabric (ch. 11): flow table, policers, replication, egress queues, capacity, IGMP and MLD,
queue sampling. -/

namespace Sys2Proof.Machine

/-! ### Flow entries (R199, R200) -/

/-- A field of flow entry e. -/
def Mod.flow (m : Mod) (e sub : Nat) : Nat := m.n (flowIdx e) sub

/-- Whether an entry is enabled. -/
def Mod.flowOn (m : Mod) (e : Nat) : Bool := m.flag (flowIdx e) 2

/-- The enabled entries, in ascending number. -/
def Mod.flowsOn (m : Mod) : List Nat :=
  m.objs.filterMap fun kv =>
    if 0x10000 * 256 ≤ kv.1 && kv.1 % 256 = 2 && kv.2.nat ≠ 0 then some (kv.1 / 256 - 0x10000) else none

/-- The source of an entry's key: none where it is empty or 0. -/
def Mod.flowSource (m : Mod) (e : Nat) : Octets :=
  let s := m.octets (flowIdx e) 6
  if s.all fun b => b = 0 then [] else s

/-- The key of an entry: family, destination, port, source, VLAN (0xFFFF: none). -/
def Mod.flowKey (m : Mod) (e : Nat) : Nat × Octets × Nat × Octets × Nat :=
  (m.flow e 3, m.octets (flowIdx e) 4, m.flow e 5, m.flowSource e, m.flow e 7)

/-- Whether an entry's key holds exactly the fields of a lookup step (R199). -/
def Mod.flowAtStep (m : Mod) (e stp : Nat) : Bool :=
  (m.flowSource e ≠ [] ↔ stp ≤ 2) && (m.flow e 7 ≠ 0xFFFF ↔ stp = 1 ∨ stp = 3)

/-- Whether an entry takes a frame on a port at a lookup step (R199). -/
def Mod.flowTakes (m : Mod) (port : Nat) (x : EthFrame) (stp e : Nat) : Bool :=
  m.flowAtStep e stp && (m.flow e 8).testBit port
    && m.flow e 3 = (if x.fam = .v4 then 0 else 1) && m.octets (flowIdx e) 4 = x.dst && m.flow e 5 = x.dport
    && (m.flowSource e = [] || m.flowSource e = x.src)
    && (m.flow e 7 = 0xFFFF || x.vlan = some (m.flow e 7))

/-- The entry that takes a frame: the first step of four that finds one (R199). -/
def Mod.flowLookup (m : Mod) (port : Nat) (x : EthFrame) : Option Nat :=
  let on := m.flowsOn
  [1, 2, 3, 4].findSome? fun stp => on.find? fun e => m.flowTakes port x stp e

/-- The module's own addresses for Preud and Komund (Table 16.1). -/
def Mod.ownAddresses (m : Mod) : List Nat :=
  ([m.n 0x1100 1, m.n 0x1100 4] ++ (if m.flag 0x1100 7 then [m.n 0x1100 9] else [])).filter fun a => a ≠ 0

/-- Whether a key is a destination of R198 steps 1-3. -/
def Mod.reservedKey (m : Mod) (dst : Octets) (port : Nat) : Bool :=
  (dst = beOctets 4 0xE0000181 && (port = 319 || port = 320))
    || (dst.length = 4 && m.ownAddresses.contains (natOf dst))

/-- Whether a policer's settings hold (R203): off, or CIR at most PIR and bursts of at least 9,216 octets. -/
def Mod.policerOk (m : Mod) (e : Nat) : Bool :=
  m.flow e 0x0B = 0 || (m.flow e 0x0C ≤ m.flow e 0x0E && 9216 ≤ m.flow e 0x0D && 9216 ≤ m.flow e 0x0F)

/-- The static leg mask of an entry (R201). -/
def Mod.legMask (m : Mod) (e : Nat) : Nat := m.n (0x3100 + e / 32) (1 + e % 32)

/-- The logical ports of a mask. -/
def maskPorts (mask : Nat) : List Nat := (List.range 32).filter fun n => mask.testBit n

/-- The port legs of an entry in force: static and membership, none while it is disabled. -/
def Mod.portLegs (m : Mod) (e : Nat) : List Nat :=
  if m.flowOn e then (List.range 32).filter fun n => (m.legMask e).testBit n || m.fab.legs.contains (e, n) else []

/-! ### Internal legs and the leg count (R42, R67, R167) -/

/-- The entries that a channel's bindings name, video only where packets are its source. -/
def Mod.chanFlows (m : Mod) (n : Nat) : List Nat :=
  let video := if m.n (0x4000 + n) 1 = 0 then [m.n (0x4000 + n) 8, m.n (0x4000 + n) 9] else []
  let audio := (List.range 4).flatMap fun f => [m.n (0x4040 + n) (6 * f + 1), m.n (0x4040 + n) (6 * f + 2)]
  let anc := (List.range 2).flatMap fun f => [m.n (0x4080 + n) (3 * f + 1), m.n (0x4080 + n) (3 * f + 2)]
  let layers := (List.range 4).flatMap fun l => [m.n (0x4B00 + layerOf n l) 1, m.n (0x4B00 + layerOf n l) 2]
  (video ++ audio ++ anc ++ layers).filter fun e => e ≠ 0xFFFF

/-- The entries that a decode engine's bindings name. -/
def Mod.decodeFlows (m : Mod) (e : Nat) : List Nat :=
  if m.n (0x5C00 + e) 1 = 0 then [m.n (0x5C00 + e) 2, m.n (0x5C00 + e) 3].filter fun x => x ≠ 0xFFFF else []

/-- The entries bound by functions that are not STOPPED, one for each internal leg. -/
def Mod.internalLegs (m : Mod) : List Nat :=
  ((List.range 32).flatMap fun n => if m.fn (chanFid n) = stopped then [] else m.chanFlows n)
    ++ ((List.range 2).flatMap fun e => if m.fn (decodeFid e) = stopped then [] else m.decodeFlows e)

/-- Legs in use (3000:02). -/
def Mod.legsInUse (m : Mod) : Nat :=
  (m.flowsOn.map fun e => (m.portLegs e).length).sum + m.internalLegs.length

/-- The legs the module holds. -/
abbrev legLimit : Nat := 262144

/-! ### Capacity (R207) -/

/-- The rate of a video role in Mb/s (R43): size, bits per pixel, step. -/
def Family.videoRate (f : Family) (size bpp k : Nat) : Nat :=
  (rungWidth size * rungHeight size * bpp * 105 * f.b + 34 * k * f.a * 100000000 - 1) / (34 * k * f.a * 100000000)

/-- Bits per pixel of a sampling and a depth (R43). -/
def bitsPerPixel (sampling depth : Nat) : Nat :=
  if sampling = 0 then (if depth = 0 then 20 else 24) else (if depth = 0 then 30 else 36)

/-- The rate of a decode output path in Mb/s. -/
def Mod.decodeRate (m : Mod) (e : Nat) : Nat :=
  m.fam.videoRate (m.n (0x5C00 + e) 6) (bitsPerPixel (m.n (0x5C40 + e) 2) (m.n (0x5C40 + e) 3)) (m.decodeStep e)

/-- The output paths of a rendition: its logical ports. -/
def Mod.outputPorts (m : Mod) (r : Nat) : List Nat :=
  if !m.flag (0x5800 + r) 1 then []
  else m.n (0x5800 + r) 7 :: (if m.n (0x5800 + r) 3 = 0 then [m.n (0x5800 + r) 0x0B] else [])

/-- The playout paths of a read slot: its logical ports. -/
def Mod.playoutPorts (m : Mod) (s : Nat) : List Nat :=
  if m.n (0x6200 + s) 2 ≠ 0 || !m.flag (0x6200 + s) 6 then []
  else m.n (0x6200 + s) 0x0A :: (if m.n (0x6200 + s) 0x0F = 0xFF then [] else [m.n (0x6200 + s) 0x0F])

/-- The ST 2110-20 output paths of a decode engine: its logical ports. -/
def Mod.decodePorts (m : Mod) (e : Nat) : List Nat :=
  if !m.flag (0x5C40 + e) 1 then []
  else m.n (0x5C40 + e) 8 :: (if m.n (0x5C40 + e) 4 = 0 then [m.n (0x5C40 + e) 0x0C] else [])

/-- How often a port stands in a list. -/
def timesIn (n : Nat) (l : List Nat) : Nat := (l.filter fun x => x = n).length

/-- The entries with queue 1 and a leg on a port. -/
def Mod.queueOne (m : Mod) (n : Nat) : List Nat :=
  m.flowsOn.filter fun e => m.flow e 9 = 1 && (m.portLegs e).contains n

/-- The committed strict load of a logical port in kb/s, rounded up (R207). -/
def Mod.strictLoad (m : Mod) (n : Nat) : Nat :=
  let outs := ((List.range 128).map fun r =>
    if !m.rendOn r || m.fn (rendFid r) = stopped then 0
    else
      let c := timesIn n (m.outputPorts r)
      if c = 0 then 0 else c * m.launchPeak r).sum
  let plays := ((List.range 16).map fun s =>
    if m.n (0x6240 + s) 1 ≠ 1 && m.n (0x6240 + s) 1 ≠ 2 then 0
    else
      let c := timesIn n (m.playoutPorts s)
      if c = 0 then 0 else c * m.launchPeak (m.n (0x6200 + s) 3)).sum
  let decs := ((List.range 2).map fun e =>
    if m.fn (decodeFid e) = stopped then 0
    else
      let c := timesIn n (m.decodePorts e)
      if c = 0 then 0 else c * m.decodeRate e).sum
  100000 + (outs + plays + 999) / 1000 + decs * 1000 + ((m.queueOne n).map fun e => m.flow e 0x0E).sum

/-- The Q1 burst committed on a logical port (R207). -/
def Mod.burstLoad (m : Mod) (n : Nat) : Nat := ((m.queueOne n).map fun e => m.flow e 0x0F).sum

/-- The load limit of a logical port in kb/s. -/
def Mod.loadLimit (m : Mod) (n : Nat) : Nat := m.configuredRate n * 950

/-- Whether a logical port holds its load and burst (R207): none, or the reason. -/
def Mod.portFault (m : Mod) (n : Nat) : Option Nat :=
  if m.loadLimit n < m.strictLoad n then some 0x3801
  else if 458752 < m.burstLoad n then some 0x3802
  else none

/-- The first port of a list that does not hold its load or burst. -/
def Mod.fabricFault (m : Mod) (ports : List Nat) : Option Nat := ports.findSome? fun n => m.portFault n

/-- The checks of a leg mask on entry e (R201), made on the module as it would stand: the reason of the first that fails. -/
def Mod.legFault (m : Mod) (e : Nat) : Option Nat :=
  if legLimit < m.legsInUse then some 0x3002
  else if (maskPorts (m.legMask e)).any fun n => !m.portExists n then some 0x3003
  else m.fabricFault (maskPorts (m.legMask e))

/-! ### Enabling and disabling (R199, R200, R211) -/

/-- Reports an entry's group on its upstream ports (R211): a join, or a leave. -/
def Mod.report (m : Mod) (e : Nat) (ports : Nat → Bool) (join : Bool) : Mod :=
  m.each (maskPorts (m.flow e 0x13)) fun (m : Mod) (n : Nat) =>
    if ports n && m.portUp n then
      (m.send (.membershipReport n (if m.flow e 3 = 0 then .v4 else .v6) (m.octets (flowIdx e) 4) (m.flowSource e)
        join)).countOwn n 3
    else m

/-- The checks of enabling entry e, in the order of R199, R203 and R201. -/
def Mod.enableFault (m : Mod) (e : Nat) : Option Refuse :=
  let size := if m.flow e 3 = 0 then 4 else 16
  let src := (m.octets (flowIdx e) 6).length
  let dst := m.octets (flowIdx e) 4
  if dst.length ≠ size then some ⟨outOfRange, 0, 0x3010, 4⟩
  else if src ≠ 0 ∧ src ≠ size then some ⟨outOfRange, 0, 0x3010, 6⟩
  else if m.flowsOn.any fun o => o ≠ e && m.flowKey o = m.flowKey e then some ⟨fitCheck, 0x3001, 0x3010, 2⟩
  else if m.reservedKey dst (m.flow e 5) then some ⟨fitCheck, 0x3004, 0x3010, 2⟩
  else if !m.policerOk e then some ⟨fitCheck, 0x3005, 0x3010, 0x0B⟩
  else
    let w := m.putFlag (flowIdx e) 2 true
    (w.legFault e).map fun r => ⟨fitCheck, r, 0x3100 + e / 32, 1 + e % 32⟩

/-- Puts entry e in the table: the join is reported and repeated (R211). -/
def Mod.enableFlow (m : Mod) (e : Nat) : Mod :=
  if m.flowOn e then m
  else
    let m := (m.putFlag (flowIdx e) 2 true).report e (fun _ => true) true
    let again := m.n 0x3002 2 - 1
    let f := { m.fab with reports := (m.fab.reports.filter fun x => x.1 ≠ e) ++
      (if m.flow e 0x13 = 0 || again = 0 then [] else [(e, again)]) }
    { m with fab := f }

/-- The check of disabling entry e (R200). -/
def Mod.disableFault (m : Mod) (e : Nat) : Option Refuse :=
  if m.flowOn e && m.internalLegs.contains e then some ⟨conflict, 0, 0x3010, 2⟩ else none

/-- Takes entry e out of the table: a leave is reported (R211). -/
def Mod.disableFlow (m : Mod) (e : Nat) : Mod :=
  if !m.flowOn e then m
  else
    let m := (m.report e (fun _ => true) false).putFlag (flowIdx e) 2 false
    { m with fab := { m.fab with reports := m.fab.reports.filter fun x => x.1 ≠ e } }

/-- UNSOLICITED_REPORT_TIMER: a report of an enabled entry is repeated, up to the robustness count (R211). -/
def Mod.repeatReport (m : Mod) (e : Nat) : Mod :=
  match m.fab.reports.find? fun x => x.1 = e with
  | none => m
  | some x =>
    let rest := m.fab.reports.filter fun y => y.1 ≠ e
    let m := m.report e (fun _ => true) true
    { m with fab := { m.fab with reports := if x.2 ≤ 1 then rest else rest ++ [(e, x.2 - 1)] } }

/-! ### Policing (R203, R204) -/

/-- Colours. -/
inductive Colour | green | yellow | red
  deriving DecidableEq, Repr, Inhabited

/-- The colour a frame comes with: that of its DSCP in the colour-aware modes (R203). -/
def Mod.incoming (m : Mod) (mode dscp : Nat) : Colour :=
  if mode = 2 || mode = 4 then
    let v := m.n 0x3001 (1 + dscp / 16) / 4 ^ (dscp % 16) % 4
    if v = 0 then .green else if v = 1 then .yellow else .red
  else .green

/-- One octet in the units of a bucket. -/
abbrev bucketUnit : Nat := 8000000

/-- The buckets of entry e now: full before the first frame, refilled for every ns since, cut to their sizes. The second
bucket fills at PIR, or in the RFC 4115 modes at PIR − CIR (log 35). -/
def Mod.bucket (m : Mod) (e : Nat) : Bucket :=
  let cbs := m.flow e 0x0D * bucketUnit
  let pbs := m.flow e 0x0F * bucketUnit
  let two := if m.flow e 0x0B ≤ 2 then m.flow e 0x0E else m.flow e 0x0E - m.flow e 0x0C
  match m.fab.buckets.find? fun b => b.entry = e with
  | none => ⟨e, cbs, pbs, m.ctr⟩
  | some b => ⟨e, min cbs (b.c + m.flow e 0x0C * (m.ctr - b.at_)), min pbs (b.p + two * (m.ctr - b.at_)), m.ctr⟩

/-- The module with its objects as of the last edge: the policer fields and the weights take effect there (R200, R206). -/
def Mod.atEdge (m : Mod) : Mod := { m with objs := m.edgeObjs }

/-- At an edge the buckets are brought up to it under the settings that end there, and cut to their new sizes (R200). -/
def Mod.settleBuckets (m : Mod) : Mod :=
  let l := m.fab.buckets.map fun (b : Bucket) =>
    let x := m.atEdge.bucket b.entry
    { x with c := min x.c (m.flow b.entry 0x0D * bucketUnit), p := min x.p (m.flow b.entry 0x0F * bucketUnit) }
  { m with fab := { m.fab with buckets := l } }

/-- RFC 2698: the colour of a frame of `x` units, and the buckets after it. -/
def rfc2698 (inc : Colour) (x : Nat) (b : Bucket) : Colour × Bucket :=
  if inc = .red ∨ b.p < x then (.red, b)
  else if inc = .yellow ∨ b.c < x then (.yellow, { b with p := b.p - x })
  else (.green, { b with c := b.c - x, p := b.p - x })

/-- RFC 4115: the colour of a frame of `x` units, and the buckets after it. -/
def rfc4115 (inc : Colour) (x : Nat) (b : Bucket) : Colour × Bucket :=
  if inc = .green ∧ x ≤ b.c then (.green, { b with c := b.c - x })
  else if inc ≠ .red ∧ x ≤ b.p then (.yellow, { b with p := b.p - x })
  else (.red, b)

/-- Colours a frame of entry e, and steps its policer (R203). -/
def Mod.police (m : Mod) (e len dscp : Nat) : Colour × Mod :=
  let v := m.atEdge
  let mode := v.flow e 0x0B
  if mode = 0 then (.green, m)
  else
    let x := (len + v.flow e 0x10) * bucketUnit
    let out := (if mode ≤ 2 then rfc2698 else rfc4115) (m.incoming mode dscp) x (v.bucket e)
    (out.1, { m with fab := { m.fab with buckets := (m.fab.buckets.filter fun b => b.entry ≠ e) ++ [out.2] } })

/-! ### Egress queues (R205, R206, R209) -/

/-- The queues of a logical port. -/
def Mod.portQ (m : Mod) (n : Nat) : PortQ := nth m.fab.ports n

/-- Changes the queues of a logical port. -/
def Mod.modPortQ (m : Mod) (n : Nat) (f : PortQ → PortQ) : Mod :=
  { m with fab := { m.fab with ports := m.fab.ports.modify n f } }

/-- The frames of a queue. -/
def PortQ.q (p : PortQ) (q : Nat) : List QFrame := nth p.queues q

/-- The depth of a queue: its frames' lengths plus 20 each (R209). -/
def PortQ.depth (p : PortQ) (q : Nat) : Nat := ((p.q q).map fun f => f.len + 20).sum

/-- The heads of the launch queues and of the playouts that send, renditions before read slots, in ascending number. -/
def Mod.timedHeads (m : Mod) : List (LaunchSrc × Datagram) :=
  ((List.range 128).filterMap fun r => ((m.rend r).queue.head?).map fun d => (LaunchSrc.rendition (Fin.ofNat 128 r), d))
  ++ (((List.range 16).filter fun s => m.flag (0x6200 + s) 6).filterMap fun s =>
    ((m.slot s).queue.head?).map fun d => (LaunchSrc.slot (Fin.ofNat 16 s), d))

/-- The logical ports on which a datagram leaves (R157). -/
def Datagram.ports (d : Datagram) : List Nat :=
  d.via.red.logical :: (match d.via.blue with | none => [] | some pa => [pa.logical])

/-- The datagrams waiting in Q2 of a port: launch time, source, octets of the frame. -/
def Mod.timedWaiting (m : Mod) (n : Nat) : List (Nanos × LaunchSrc × Nat) :=
  (m.timedHeads.filter fun x => x.2.ports.contains n).map fun x => (x.2.launch, x.1, x.2.frameLength)

/-- The earliest of a list by launch time; of equal ones the first, which the order of sources decides (R206). -/
def earliest {α : Type} (launch : α → Nanos) (l : List α) : Option α :=
  l.foldl (fun (acc : Option α) x => match acc with
    | none => some x
    | some y => if launch x < launch y then some x else acc) none

/-- The head of Q2: the earliest launch, renditions before slots, in ascending number (R206). -/
def Mod.timedHead (m : Mod) (n : Nat) : Option (Nanos × LaunchSrc × Nat) := earliest (fun x => x.1) (m.timedWaiting n)

/-- The head of a source's queue leaves once its λ has come. -/
def Mod.launchFrom (m : Mod) (src : LaunchSrc) : Mod :=
  match src with
  | .rendition r => m.launchHead r
  | .slot s => m.launchSlot s

/-- The datagrams that go before the head of a source: due, on one of its ports, and earlier in the order of R206. -/
def Mod.launchBefore (m : Mod) (src : LaunchSrc) : Option LaunchSrc :=
  match m.timedHeads.find? fun x => x.1 = src with
  | none => none
  | some own =>
    (earliest (fun x => x.2.launch) (m.timedHeads.filter fun x =>
      x.2.launch ≤ m.now && x.2.ports.any fun p => own.2.ports.contains p)).bind fun x => if x.1 = src then none else some x.1

/-- A source's turn: what goes before its head on its ports leaves first (R206). -/
def Mod.launchTurn (m : Mod) (src : LaunchSrc) : Nat → Mod
  | 0 => m.launchFrom src
  | fuel + 1 => match m.launchBefore src with
    | none => m.launchFrom src
    | some x => (m.launchFrom x).launchTurn src fuel

/-- The shaper of queue 3 + i, in 1/8000 octets, refilled now (R206). -/
def Mod.shaper (m : Mod) (n i : Nat) : Nat :=
  let x := nth (m.portQ n).tokens i
  min (9216 * 8000) (x.1 + m.n (0x3800 + n) (6 + i) * (m.ctr - x.2))

/-- Whether the shaper of queue 3 + i lets a frame of a length go. -/
def Mod.shaperLets (m : Mod) (n i len : Nat) : Bool := m.n (0x3800 + n) (6 + i) = 0 || len * 8000 ≤ m.shaper n i

/-- A visit of the round robin: (place, whether its quantum is still to be given, deficits). `heads` are the head
lengths of Q3-Q7, `may i` whether that head fits the gap and its shaper. Answers the queue chosen and the state after. -/
def roundRobin (weight : Nat → Nat) (heads : List (Option Nat)) (may : Nat → Bool) :
    Nat → Nat → Bool → List Nat → Option Nat × Nat × Bool × List Nat
  | 0, cur, fresh, def_ => (none, cur, fresh, def_)
  | fuel + 1, cur, fresh, def_ =>
    match nth heads cur with
    | none => roundRobin weight heads may fuel ((cur + 1) % 5) true (def_.set cur 0)
    | some len =>
      if !may cur then roundRobin weight heads may fuel ((cur + 1) % 5) true def_
      else
        let d := nth def_ cur + (if fresh then weight cur * 9216 else 0)
        if len ≤ d then (some cur, cur, false, def_.set cur (d - len))
        else roundRobin weight heads may fuel ((cur + 1) % 5) true (def_.set cur d)

/-- What a port sends at a frame boundary (R206): a due datagram, a frame of a queue (with the round robin's state after
it), or nothing. -/
inductive Choice
  | timed (src : LaunchSrc)
  | queue (q : Nat) (cur : Nat) (fresh : Bool) (deficits : List Nat)
  | idle
  deriving DecidableEq, Repr

/-- The rule of R206 on given queues. -/
def Mod.choose (m : Mod) (n : Nat) (p : PortQ) : Choice :=
  let h := m.timedHead n
  let gap (len : Nat) : Bool := match h with
    | none => true
    | some x => m.now + serTime len (m.portRate n) ≤ x.1
  let due : Option LaunchSrc := h.bind fun x => if x.1 ≤ m.now then some x.2.1 else none
  match due with
  | some src => .timed src
  | none =>
    let fits (q : Nat) : Bool := match p.q q with
      | [] => false
      | f :: _ => gap f.len
    if fits 0 then .queue 0 p.cur p.fresh p.deficits
    else if fits 1 then .queue 1 p.cur p.fresh p.deficits
    else
      let heads := (List.range 5).map fun i => (p.q (3 + i)).head?.map fun f => f.len
      let may (i : Nat) : Bool := match nth heads i with
        | none => false
        | some len => gap len && m.shaperLets n i len
      match roundRobin (fun i => m.atEdge.n (0x3800 + n) (1 + i)) heads may 11 p.cur p.fresh p.deficits with
      | (some i, cur, fresh, d) => .queue (3 + i) cur fresh d
      | (none, _, _, _) => .idle

/-- A frame leaves from a queue: counted, its shaper debited, the wire taken until it has been sent. -/
def Mod.sendFrame (m : Mod) (n q : Nat) (f : QFrame) : Mod :=
  let m := (m.send (.frame f.ident n q f.dstMac f.srcMac f.vlan f.ttl f.fcsOk)).countSent n q f.len
  let left := if 3 ≤ q then m.shaper n (q - 3) - f.len * 8000 else 0
  m.modPortQ n fun p =>
    { p with
      busyUntil := m.ctr + serTime f.len (m.portRate n),
      tokens := if 3 ≤ q then p.tokens.set (q - 3) (left, m.ctr) else p.tokens }

/-- EGRESS_FRAME_BOUNDARY: the port chooses its next frame (R206). -/
def Mod.frameBoundary (m : Mod) (n : Nat) : Mod :=
  let p := m.portQ n
  if !m.portUp n || m.ctr < p.busyUntil then m
  else
    match m.choose n p with
    | .timed src => m.launchTurn src 4096
    | .idle => m
    | .queue q cur fresh d =>
      match p.q q with
      | [] => m
      | f :: rest =>
        let m := m.modPortQ n fun p => { p with queues := p.queues.set q rest, cur := cur, fresh := fresh, deficits := d }
        m.sendFrame n q f

/-- A frame discarded at a queue (3840:09-10). -/
def Mod.discardAt (m : Mod) (n q : Nat) : Mod := m.bump (0x3840 + n) (9 + q)

/-- A port that leaves stage 5 discards what its queues hold (R208). -/
def Mod.flushPort (m : Mod) (n : Nat) : Mod :=
  let m := m.each (List.range 8) fun (m : Mod) (q : Nat) => m.count (0x3840 + n) (9 + q) ((m.portQ n).q q).length
  m.modPortQ n fun p => { p with queues := List.replicate 8 [], deficits := List.replicate 5 0 }

/-- The cells of a frame in octets (R209). -/
def cellOctets (len : Nat) : Nat := (len + 255) / 256 * 256

/-- The shared pool in use: each received frame's cells once while any copy waits in Q3-Q7 (R209). -/
def Mod.poolUsed (m : Mod) : Nat :=
  let fs := m.fab.ports.flatMap fun p => (List.range 5).flatMap fun i => (p.q (3 + i)).map fun f => (f.serial, cellOctets f.len)
  (fs.dedup.map (·.2)).sum

/-- Depth and delay of a queue now: Q2 holds the datagrams whose launch time has come. -/
def Mod.queueNow (m : Mod) (n q : Nat) : Nat × Nat :=
  if q = 2 then
    let l := (m.timedWaiting n).filter fun x => x.1 ≤ m.now
    ((l.map fun x => x.2.2 + 20).sum, (l.map fun x => m.now - x.1).foldl max 0)
  else
    let p := m.portQ n
    (p.depth q, match p.q q with
      | [] => 0
      | f :: _ => m.ctr - f.entered)

/-- How a copy stands before its queue (R209). -/
inductive Admit | ok | strictFull | poolFull | limit
  deriving DecidableEq, Repr

/-- Admission of a copy to a queue (R204, R209). -/
def Mod.admitFrame (m : Mod) (n q : Nat) (f : QFrame) (yellow : Bool) : Admit :=
  let p := m.portQ n
  if q ≤ 2 then
    if p.depth 0 + p.depth 1 + (m.queueNow n 2).1 + f.len + 20 ≤ 524288 then .ok else .strictFull
  else
    let shared := m.fab.ports.any fun p => (List.range 5).any fun i => (p.q (3 + i)).any fun g => g.serial = f.serial
    let need := if shared then 0 else cellOctets f.len
    if m.n (0x3800 + n) (0x0B + (q - 3)) < p.depth q + f.len + 20 then .limit
    else if 50331648 < m.poolUsed + need then .poolFull
    else if yellow && m.n (0x3800 + n) (0x10 + (q - 3)) ≤ p.depth q then .limit
    else .ok

/-! ### Replication (R202, R204, R210) -/

/-- Whether a destination is a multicast one. -/
def multicastDst (fam : Fam) (dst : Octets) : Bool :=
  match fam, dst with
  | .v4, b :: _ => b.toNat / 16 = 14
  | .v6, b :: _ => b = 0xFF
  | _, [] => false

/-- The destination MAC of a copy: mapped per RFC 1112 or RFC 2464, or copied (R202). -/
def copyMac (x : EthFrame) : Nat :=
  if !multicastDst x.fam x.dst then x.dstMac
  else if x.fam = .v4 then 0x01005E000000 + natOf x.dst % 2 ^ 23
  else 0x333300000000 + natOf x.dst % 2 ^ 32

/-- The VLAN of a copy of entry e (3010:0A). -/
def Mod.copyVlan (m : Mod) (e : Nat) (x : EthFrame) : Option Nat :=
  let v := m.flow e 0x0A
  if v = 0xFFFF then x.vlan else if v = 0xFFFE then none else some v

/-- One leg of a frame (R202, R209, R210). `bad`: its FCS is bad or its length differs from its IP length. -/
def Mod.copyLeg (m : Mod) (ingress e serial : Nat) (x : EthFrame) (yellow bad : Bool) (n : Nat) : Mod :=
  let q := m.flow e 9
  let vlan := m.copyVlan e x
  let moved := vlan ≠ x.vlan
  let len := x.length - (if x.vlan = none then 0 else 4) + (if vlan = none then 0 else 4)
  if moved ∧ x.ttl ≤ 1 then m.bump (0x3840 + n) 0x13
  else if !m.portUp n then m.discardAt n q
  else
    let f : QFrame := ⟨serial, len, m.ctr, x.ident, copyMac x, m.portMac n, vlan,
      if moved then x.ttl - 1 else x.ttl, !bad⟩
    match m.admitFrame n q f yellow with
    | .strictFull => m.strictFull n q
    | .poolFull => (m.discardAt n q).raiseLimited 0x3802 0 second []
    | .limit => m.discardAt n q
    | .ok =>
      let p := m.portQ n
      let p' : PortQ := { p with queues := p.queues.set q (p.q q ++ [f]) }
      let through : Bool := m.portRate n = m.portRate ingress && p.q q = [] && p.busyUntil ≤ m.ctr &&
        (match m.choose n p' with
          | .queue q' _ _ _ => q' = q
          | _ => false)
      if through then
        let m := match m.choose n p' with
          | .queue _ cur fresh d => m.modPortQ n fun p => { p with cur := cur, fresh := fresh, deficits := d }
          | _ => m
        let m := (m.sendFrame n q f).bump (0x3840 + n) 0x11
        if bad then m.bump 0x3000 6 else m
      else if bad then m
      else (m.modPortQ n fun _ => p').bump (0x3840 + n) 0x12

/-- FRAME_RECEIVED: parser, classifier, policer, replication (R198-R204). PTP, IGMP, MLD and the module's own datagrams
act through commands of their own. -/
def Mod.receiveFrame (m : Mod) (port : Nat) (x : EthFrame) : Mod :=
  if !m.portUp port then m
  else if 9216 < x.length then m.bump 0x3000 5
  else if x.kind = .ptp && (m.n 0x1413 0).testBit port then m
  else if x.kind = .igmpMld || x.kind = .ownPreudKomund then m
  else
    match (if x.kind = .udp then m.flowLookup port x else none) with
    | none => m.bump 0x3000 4
    | some e =>
      let m := (m.bump (flowIdx e) 0x16).count (flowIdx e) 0x1A x.length
      let (colour, m) := m.police e x.ipLength x.dscp
      match colour with
      | .red => m.bump (flowIdx e) 0x19
      | c =>
        let yellow := c = .yellow
        let m := m.bump (flowIdx e) (if yellow then 0x18 else 0x17)
        if yellow && m.atEdge.flow e 0x11 = 1 then m
        else
          let serial := m.fab.serial
          let m : Mod := { m with fab := { m.fab with serial := serial + 1 } }
          let bad := !x.fcsOk || x.length ≠ x.ipLength
          m.each (m.portLegs e) fun (m : Mod) (n : Nat) => m.copyLeg port e serial x yellow bad n

/-! ### IGMP and MLD (R211, R212) -/

/-- The group membership interval of RFC 3376 in ns. -/
def Mod.membershipInterval (m : Mod) : Nanos := m.n 0x3002 2 * m.n 0x3002 3 * second + m.n 0x3002 4 * 1000000

/-- The other-querier-present interval of RFC 3376 in ns. -/
def Mod.otherQuerierInterval (m : Mod) : Nanos := m.n 0x3002 2 * m.n 0x3002 3 * second + m.n 0x3002 4 * 500000

/-- The last member query time of RFC 3376 in ns. -/
def Mod.lastMemberTime (m : Mod) : Nanos := m.n 0x3002 2 * m.n 0x3002 5 * 1000000

/-- The membership records one group's membership takes (log 36). -/
def Membership.size (x : Membership) : Nat := max 1 (x.incl.length + x.excl.length)

/-- Membership records in use. -/
def Mod.recordsHeld (m : Mod) : Nat := (m.fab.members.map Membership.size).sum

/-- Sources of a list with a deadline each, those listed anew renewed. -/
def renewSources (old : List (Nat × Nanos)) (l : List Nat) (at_ : Nanos) : List (Nat × Nanos) :=
  (old.filter fun x => !l.contains x.1) ++ l.map fun s => (s, at_)

/-- A membership after a group record (RFC 3376 section 6.4, RFC 3810 section 7.4), with the sources and whether the group are to be
asked for. -/
def Membership.take (x : Membership) (mode : MemMode) (src : List Nat) (gmi : Nanos) : Membership × List Nat × Bool :=
  let has (s : Nat) : Bool := x.incl.any fun y => y.1 = s
  let unheld := src.filter fun s => !has s && !x.excl.contains s
  let left := (x.incl.map (·.1)).filter fun s => !src.contains s
  let both := src.filter fun s => has s
  let inn : Membership := { x with incl := renewSources x.incl src gmi, excl := x.excl.filter fun s => !src.contains s }
  let ex (timer : Nanos) : Membership :=
    { x with
      exclude := true,
      incl := (x.incl.filter fun y => src.contains y.1) ++ (if x.exclude then unheld.map fun s => (s, timer) else []),
      excl := if x.exclude then x.excl.filter fun s => src.contains s else unheld,
      until_ := gmi }
  match mode with
  | .include => (inn, [], false)
  | .allow => (inn, [], false)
  | .toInclude => (inn, left, x.exclude)
  | .exclude => (ex gmi, [], false)
  | .toExclude => (ex x.until_, if x.exclude then src.filter fun s => !x.excl.contains s else both, false)
  | .block =>
    if x.exclude then
      ({ x with incl := x.incl ++ unheld.map fun s => (s, x.until_) }, src.filter fun s => !x.excl.contains s, false)
    else (x, both, false)

/-- The timers that a query for sources or for the group lowers (RFC 3376 section 6.6.1). -/
def Membership.lower (x : Membership) (sources : List Nat) (group : Bool) (lmt : Nanos) : Membership :=
  { x with
    incl := x.incl.map fun y => if sources.contains y.1 then (y.1, min y.2 lmt) else y,
    until_ := if group then min x.until_ lmt else x.until_ }

/-- A record as the compatibility mode takes it (R211): older reports are EXCLUDE of none and leaves INCLUDE of none; while an
older host is present BLOCK is ignored and the sources of an EXCLUDE are. None: ignored. -/
def compatible (old older : Bool) (mode : MemMode) (src : List Nat) : Option (MemMode × List Nat) :=
  if old then some (if mode = .include ∨ mode = .toInclude then .toInclude else .exclude, [])
  else if older && mode = .block then none
  else if older && (mode = .exclude ∨ mode = .toExclude) then some (mode, [])
  else some (mode, src)

/-- IGMP_MLD_REPORT: the membership of the group on the port; what RFC 3376 has asked for is asked by the querier (R211, R212). -/
def Mod.takeReport (m : Mod) (port : Nat) (rep : MemReport) : Mod :=
  if !m.portUp port || !(m.n 0x3002 1).testBit port || (rep.fam = .v4 && rep.version = 1) then m
  else
    let old : Bool := rep.version < (if rep.fam = .v4 then 3 else 2)
    let is (x : Membership) : Bool := x.port = port && x.fam = rep.fam && x.group = rep.group
    let cur := (m.fab.members.find? is).getD ⟨port, rep.fam, rep.group, false, [], [], 0, 0⟩
    match compatible old (m.ctr < cur.olderUntil) rep.mode rep.sources.dedup with
    | none => m
    | some (mode, src) =>
      let gmi := m.ctr + m.membershipInterval
      let (new, asked, group) := cur.take mode src gmi
      let new := if old && mode = .exclude then { new with olderUntil := gmi } else new
      let querier := m.fab.roles.contains (port, rep.fam)
      let new := if querier then new.lower asked group (m.ctr + m.lastMemberTime) else new
      let rest := m.fab.members.filter fun x => !is x
      let held := (rest.map Membership.size).sum
      let m : Mod := { m with fab := { m.fab with refused := m.fab.refused.filter fun l => l.2 ≠ port } }
      if new.exclude = false ∧ new.incl = [] then
        let m : Mod := { m with fab := { m.fab with members := rest } }
        m.put 0x3003 1 m.recordsHeld
      else if 65536 < held + new.size then (m.bump 0x3003 5).raise 0x3003 port [port]
      else
        let m : Mod := { m with fab := { m.fab with members := rest ++ [new] } }
        let ask (m : Mod) (sources : List Nat) : Mod := (m.send (.membershipQuery port rep.fam rep.group sources)).countOwn port 3
        let m := m.when (querier && asked ≠ []) fun m => ask m asked
        let m := m.when (querier && group) fun m => ask m []
        m.put 0x3003 1 m.recordsHeld

/-- MEMBERSHIP_TIMEOUT: a group or source timer that has run out (R212, RFC 3376). -/
def Mod.membershipTimeout (m : Mod) (port group : Nat) (source : Option Nat) : Mod :=
  let step (x : Membership) : Option Membership :=
    if x.port ≠ port ∨ x.group ≠ group then some x
    else
      match source with
      | none =>
        if x.exclude && x.until_ ≤ m.ctr then
          if x.incl = [] then none else some { x with exclude := false, excl := [] }
        else some x
      | some s =>
        if !(x.incl.any fun y => y.1 = s && y.2 ≤ m.ctr) then some x
        else
          let incl := x.incl.filter fun y => y.1 ≠ s
          if x.exclude then some { x with incl := incl, excl := x.excl ++ [s] }
          else if incl = [] then none else some { x with incl := incl }
  let m : Mod := { m with fab := { m.fab with members := m.fab.members.filterMap step } }
  m.put 0x3003 1 m.recordsHeld

/-- Whether the membership on a port forwards an entry's traffic (R212). -/
def Membership.forwards (x : Membership) (source : Option Nat) : Bool :=
  match source with
  | none => x.exclude
  | some s => if x.exclude then !x.excl.contains s else x.incl.any fun y => y.1 = s

/-- Whether entry e is to have a membership leg on a port (R212). -/
def Mod.wantsLeg (m : Mod) (e n : Nat) : Bool :=
  m.flowOn e && (m.flow e 0x12).testBit n && (m.n 0x3002 1).testBit n &&
    m.fab.members.any fun x => x.port = n && x.fam = (if m.flow e 3 = 0 then .v4 else .v6)
      && x.group = natOf (m.octets (flowIdx e) 4)
      && x.forwards (if m.flowSource e = [] then none else some (natOf (m.flowSource e)))

/-- MEMBERSHIP_LEG_UPDATE at a base tick edge: legs no longer wanted go, wanted ones come if they fit (R212). -/
def Mod.updateLegs (m : Mod) : Mod :=
  let m : Mod := { m with fab := { m.fab with
    legs := m.fab.legs.filter (fun (l : Nat × Nat) => m.wantsLeg l.1 l.2),
    refused := m.fab.refused.filter fun (l : Nat × Nat) => m.wantsLeg l.1 l.2 } }
  let want := (m.flowsOn.filter fun e => m.flow e 0x12 ≠ 0).flatMap fun e =>
    ((maskPorts (m.flow e 0x12)).filter fun n => m.wantsLeg e n).map fun n => (e, n)
  m.each want fun (m : Mod) (l : Nat × Nat) =>
    if m.fab.legs.contains l || m.fab.refused.contains l then m
    else
      let w : Mod := { m with fab := { m.fab with legs := m.fab.legs ++ [l] } }
      if legLimit < w.legsInUse || !w.portExists l.2 || w.portFault l.2 ≠ none then
        let m : Mod := { m with fab := { m.fab with refused := m.fab.refused ++ [l] } }
        (m.bump 0x3003 3).raise 0x3001 l.1 [l.1, l.2]
      else w.bump 0x3003 2

/-- The module's address as querier on a port (Table 11.2): 3002:06, or the link-local address of the port's MAC. -/
def Mod.querierAddress (m : Mod) (port : Nat) : Fam → Nat
  | .v4 => m.n 0x3002 6
  | .v6 =>
    let mac := m.n 0x1000 8 + 1 + port
    let hi := mac / 2 ^ 24
    let flipped := if (hi / 2 ^ 17) % 2 = 0 then hi + 2 ^ 17 else hi - 2 ^ 17
    0xFE80 * 2 ^ 112 + flipped * 2 ^ 40 + 0xFFFE * 2 ^ 24 + mac % 2 ^ 24

/-- The families in order. -/
def famNo : Fam → Nat
  | .v4 => 0
  | .v6 => 1

/-- Whether the module is to be querier on a port for a family (R212). -/
def Mod.wantsQuerier (m : Mod) (port : Nat) (fam : Fam) : Bool :=
  (m.n 0x3002 1).testBit port && m.portExists port && (fam = .v6 || m.n 0x3002 6 ≠ 0)
    && !(m.fab.others.any fun x => x.1 = port && x.2.1 = fam)

/-- Takes or gives up the querier role as the rules now say: ev 3002, 3003:04. -/
def Mod.settleQuerier (m : Mod) (port : Nat) (fam : Fam) : Mod :=
  let has := m.fab.roles.contains (port, fam)
  let want := m.wantsQuerier port fam
  if has = want then m
  else
    let m : Mod := { m with fab := { m.fab with
      roles := if want then m.fab.roles ++ [(port, fam)] else m.fab.roles.filter fun x => x ≠ (port, fam) } }
    let on := m.fab.roles.any fun x => x.1 = port
    (m.putBit 0x3003 4 port on).raise 0x3002 port [port, famNo fam, if want then 1 else 0]

/-- The querier roles of every port, at an edge. -/
def Mod.settleQueriers (m : Mod) : Mod :=
  m.each (List.range 32) fun (m : Mod) (n : Nat) => (m.settleQuerier n .v4).settleQuerier n .v6

/-- Reports in answer to a query on a port: the entries joined there whose group and source it asks for (R211). -/
def Mod.answerQuery (m : Mod) (port : Nat) (fam : Fam) (group : Nat) (sources : List Nat) : Mod :=
  m.each (m.flowsOn.filter fun e => (m.flow e 0x13).testBit port && m.flow e 3 = famNo fam
      && (group = 0 || natOf (m.octets (flowIdx e) 4) = group)
      && (sources = [] || m.flowSource e = [] || sources.contains (natOf (m.flowSource e)))) fun (m : Mod) (e : Nat) =>
    m.report e (fun n => n = port) true

/-- A query for a group heard on a port lowers its timers, unless its S flag is set (RFC 3376 section 6.6.1). -/
def Mod.hearQuery (m : Mod) (port : Nat) (q : MemQuery) : Mod :=
  if q.group = 0 || q.suppress || m.fab.roles.contains (port, q.fam) then m
  else
    let lmt := m.ctr + m.lastMemberTime
    { m with fab := { m.fab with members := m.fab.members.map fun x =>
        if x.port = port && x.fam = q.fam && x.group = q.group then x.lower q.sources (q.sources = []) lmt else x } }

/-- IGMP_MLD_QUERY: answered as a host; the lowest address wins the querier election (R211, R212). -/
def Mod.takeQuery (m : Mod) (port : Nat) (q : MemQuery) : Mod :=
  if !m.portUp port || (q.fam = .v4 && q.version = 1) then m
  else
    let m := (m.answerQuery port q.fam q.group q.sources).hearQuery port q
    if (m.n 0x3002 1).testBit port && q.querier ≠ 0
        && (q.querier < m.querierAddress port q.fam || (q.fam = .v4 && m.n 0x3002 6 = 0)) then
      let rest := m.fab.others.filter fun x => !(x.1 = port && x.2.1 = q.fam)
      let m : Mod := { m with fab := { m.fab with others := rest ++ [(port, q.fam, m.ctr + m.otherQuerierInterval)] } }
      m.settleQuerier port q.fam
    else m

/-- OTHER_QUERIER_PRESENT_TIMEOUT (R212). -/
def Mod.otherQuerierGone (m : Mod) (port : Nat) (fam : Fam) : Mod :=
  let gone (x : Nat × Fam × Nanos) : Bool := x.1 = port && x.2.1 = fam && x.2.2 ≤ m.ctr
  let m : Mod := { m with fab := { m.fab with others := m.fab.others.filter fun x => !gone x } }
  m.settleQuerier port fam

/-- QUERY_INTERVAL_EXPIRY: a general query on every port where the module is querier; its own host answers where it
has joined (R211, R212). -/
def Mod.generalQuery (m : Mod) : Mod :=
  if m.ctr < m.fab.queryAt then m
  else
    let m : Mod := { m with fab := { m.fab with queryAt := m.ctr + m.n 0x3002 3 * second } }
    m.each (m.fab.roles.filter fun x => m.portUp x.1) fun (m : Mod) (x : Nat × Fam) =>
      ((m.send (.membershipQuery x.1 x.2 0 [])).countOwn x.1 3).answerQuery x.1 x.2 0 []

/-! ### Measurement (R213) -/

/-- A window's samples with one more. -/
def QSample.add (s : QSample) (depth delay depthWidth delayWidth : Nat) : QSample :=
  let bin (v w : Nat) : Nat := if w = 0 then 0 else min 15 (v / w)
  let up (l : List Nat) (i : Nat) : List Nat := l.modify i fun c => c + 1
  ⟨s.n + 1, max s.depthMax depth, s.depthSum + depth, max s.delayMax delay, s.delaySum + delay,
    up s.depthBins (bin depth depthWidth), up s.delayBins (bin delay delayWidth)⟩

/-- QUEUE_SAMPLE at an instant that is a whole multiple of the sample period (R213). -/
def Mod.sampleQueues (m : Mod) : Mod :=
  if m.now % max 1 (m.n 0x3A00 1) ≠ 0 then m
  else
    let m : Mod := { m with fab := { m.fab with sampleAt := some (m.fab.sampleAt.getD m.now) } }
    m.each ((List.range 32).filter fun n => m.portExists n) fun (m : Mod) (n : Nat) =>
      m.each (List.range 8) fun (m : Mod) (q : Nat) =>
        let x := m.queueNow n q
        let w := if q ≤ 2 then (m.portQ n).strictBin else (m.portQ n).weightBin
        m.modPortQ n fun p =>
          { p with samples := p.samples.modify q fun (s : QSample) => s.add x.1 x.2 (w * m.configuredRate n / 8000) w }

/-- A queue's part of the record (Table 11.3). -/
def QSample.octets (s : QSample) : Octets :=
  let mean (x : Nat) : Nat := if s.n = 0 then 0 else x / s.n
  beOctets 4 s.depthMax ++ beOctets 4 (mean s.depthSum) ++ beOctets 4 s.delayMax ++ beOctets 4 (mean s.delaySum)
    ++ s.depthBins.flatMap (beOctets 4) ++ s.delayBins.flatMap (beOctets 4)

/-- SAMPLE_WINDOW_END at a whole multiple of the window length: the record replaces 3880 + n (R213, Table 11.3). -/
def Mod.endSampleWindow (m : Mod) : Mod :=
  if m.now % (max 1 (m.n 0x3A00 2) * 1000000) ≠ 0 then m
  else
    let start := m.fab.sampleAt.getD 0
    let m := m.each ((List.range 32).filter fun n => m.portExists n) fun (m : Mod) (n : Nat) =>
      let p := m.portQ n
      let rec_ := encodeVal .time (.num start) ++ beOctets 2 0 ++ beOctets 4 (nth p.samples 0).n ++ p.samples.flatMap QSample.octets
      let m := m.putB (0x3880 + n) 0 rec_
      m.modPortQ n fun p =>
        { p with
          samples := List.replicate 8 QSample.empty,
          strictBin := m.n (0x3800 + n) 0x15,
          weightBin := m.n (0x3800 + n) 0x16 }
    { m with fab := { m.fab with sampleAt := none } }

/-! ### Status (3000, 3900, R208) -/

/-- Judges a port's rate against its committed strict load, and shows it (R208, 3900). -/
def Mod.showPort (m : Mod) (n : Nat) : Mod :=
  let load := m.strictLoad n
  let rate := m.portRate n
  let up := m.portUp n
  let below := up && rate * 1000 < load
  let o := 0x3900 + n
  let m := ((m.put o 1 rate).put o 2 ((load + 999) / 1000)).put o 3 (m.loadLimit n / 1000)
  let m := m.put o 4 (min (m.burstLoad n) 458752)
  let m := if below then m.raiseCond 0x3803 n [n, rate]
    else if up && m.condSet 0x3803 n then m.raiseClear 0x3804 n [0x3803] [n, rate] else m
  m.put o 5 (if !m.portExists n then 0 else if !up then 1 else if below then 3 else 2)

/-- The fabric's status at an edge. -/
def Mod.showFabric (m : Mod) : Mod :=
  let m := (m.put 0x3000 1 m.flowsOn.length).put 0x3000 2 m.legsInUse
  m.each (List.range 32) fun (m : Mod) (n : Nat) => m.showPort n

/-- The port and internal legs of an entry as 3010:14 and 3010:15 show them. -/
def Mod.legsShown (m : Mod) (e : Nat) : Nat × Nat :=
  ((m.portLegs e).foldl (fun a n => a + 2 ^ n) 0, min 6 (timesIn e m.internalLegs))

end Sys2Proof.Machine
end

