-- ==== Sys2Proof/Machine/Time.lean ====
section
/-! DEFINITION. Time (ch. 2): the PTP servo, steps of time and what they retime, boundary clock, PPS. -/

namespace Sys2Proof.Machine

/-- Servo states (Table 2.5). -/
abbrev freerun : Nat := 0
abbrev acquiring : Nat := 1
abbrev locked : Nat := 2
abbrev holdover : Nat := 3

/-- The servo's state (1420:01). -/
def Mod.servoState (m : Mod) : Nat := m.n 0x1420 1

/-- Changes the servo's own state. -/
def Mod.modServo (m : Mod) (f : ServoS → ServoS) : Mod := { m with servo := f m.servo }

/-- Sets the servo's state: ev 1401 on a change (R30); the offset reads 0 in FREERUN (1420:02). -/
def Mod.setServo (m : Mod) (st : Nat) : Mod :=
  let old := m.servoState
  if old = st then m
  else
    let m := (m.put 0x1420 1 st).modServo fun s => { s with stateAt := m.ctr, lockSince := none, slew := 0 }
    let m := if st = freerun then m.put 0x1420 2 0 else m
    m.raiseRaw 0x1401 0 (if st = holdover then 2 else if st = freerun then 3 else 0) [old, st]

/-! ### Steps of time (R33, R34) -/

/-- The end of a function's STOPPING, if it is STOPPING (R311). -/
def Mod.stoppingEnd (m : Mod) (fid : Nat) : Option Nanos := (m.preud.stopping.find? fun x => x.1 = fid).map (·.2)

/-- The tick at which a function command applies on the present time (R22, R311, R312), and the tick its TIME alone gives. -/
def Mod.applyTickOf (m : Mod) (x : FnCmd) : Nat × Nat :=
  let g := m.fnGrain x.fid
  let base := match x.named with
    | some t => m.timedApply t g
    | none => m.nextApply g
  let held := if x.held then
      match m.stoppingEnd x.fid with
      | some e => m.fam.firstAt e g
      | none => base
    else base
  (max base held, base)

/-- Retimes every pending timed launch and function command to the present time (R34); untimed ones too, to the first
tick of their grain (log 38). -/
def Mod.retime (m : Mod) : Mod :=
  let timed := m.preud.timed.map fun (w : TimedWrite) => { w with applyTick := m.timedApply w.time (m.grainOf w.idx) }
  let rt := m.preud.rt.map fun (w : RtWrite) => { w with applyTick := m.nextApply (m.grainOf w.idx) }
  let late := m.preud.fnCmds.filter fun x => x.held && (m.applyTickOf x).2 < (m.applyTickOf x).1
  let cmds := m.preud.fnCmds.map fun (x : FnCmd) => { x with applyTick := (m.applyTickOf x).1 }
  let m' : Mod := { m with preud := { m.preud with timed := timed, rt := rt, fnCmds := cmds } }
  m'.each late fun (m' : Mod) (x : FnCmd) =>
    m'.raise 0x1104 x.fid [x.fid, (m.applyTickOf x).2, (m.applyTickOf x).1]

/-- The tick and frame numbers show the current tick (1402, 1403). -/
def Mod.showTick (m : Mod) : Mod := (m.put 0x1402 0 m.tick).put 0x1403 0 (frameOf m.tick)

/-- Own time moves by an offset: the tick follows (R17), STOPPING ends and the launches of what is already packed move with
it, pending launches are retimed. -/
def Mod.shiftTime (m : Mod) (delta : Int) : Mod :=
  let move (t : Nanos) : Nanos := ((t : Int) + delta).toNat
  let now := move m.now
  let shift (d : Datagram) : Datagram := { d with launch := move d.launch }
  let m : Mod := { m with
    now := now,
    tick := m.fam.tickOf now,
    rends := m.rends.map fun (s : RendS) => { s with queue := s.queue.map shift, packing := s.packing.map shift },
    slots := m.slots.map fun (s : SlotS) => { s with queue := s.queue.map shift },
    preud := { m.preud with stopping := m.preud.stopping.map fun (x : Nat × Nanos) => (x.1, move x.2) } }
  m.retime.showTick

/-- What a step of time finds under way is on the old time: courses in hand are dropped, and the first PCR of each output
carries the discontinuity (R34, R154). -/
def Mod.dropCourses (m : Mod) : Mod :=
  { m with
    chans := m.chans.map fun (c : ChanS) =>
      { c with composing := [], audio := c.audio.map fun (a : AudioIn) => { a with sentTo := none } },
    rends := m.rends.map fun (s : RendS) => { s with coding := [], plans := [], discontinuity := true },
    serving := [] }

/-- Time steps to the master (R33, R34). -/
def Mod.stepTime (m : Mod) : Mod :=
  let off := m.servo.offset
  if off = 0 then m else ((m.shiftTime (-off)).dropCourses).modServo fun s => { s with offset := 0 }

/-- The servo steps time to the master and acquires (R33). -/
def Mod.stepToMaster (m : Mod) : Mod := ((m.putFlag 0x1420 7 false).stepTime).setServo acquiring

/-- The offset measured last is to be slewed away, while media runs (R33). -/
def Mod.slewOffset (m : Mod) : Mod := m.modServo fun s => { s with slew := s.offset * 1000000000 }

/-- How far a slewed tick of `dur` ns is lengthened on the counter, at most by the slew limit, and what is left to slew (R33). -/
def Mod.slewTick (m : Mod) (dur : Nanos) : Int × Int :=
  let s := m.servo.slew
  let most := min s.natAbs (dur * m.n 0x1431 0)
  let left : Int := if 0 ≤ s then s - most else s + most
  (s / 1000000000 - left / 1000000000, left)

/-- MASTER_RETURN: the offset of a usable master measured in HOLDOVER or FREERUN (R33). With a step pending the module keeps its
own time whatever the offset. ev 1402, to which Table 2.6 gives no parameter, carries the offset's size (DESIGN CHOICE, log 13). -/
def Mod.masterReturn (m : Mod) : Mod :=
  if !m.mediaRunning then m.stepToMaster
  else if m.flag 0x1420 7 then m
  else if m.servo.offset.natAbs ≤ m.n 0x1432 0 then (m.setServo acquiring).slewOffset
  else (m.putFlag 0x1420 7 true).raiseRaw 0x1402 0 (severityOf 0x1402) [m.servo.offset.natAbs]

/-- AUTOMATIC_STEP at an edge: a step is pending and no media function is RUNNING any longer (R33). -/
def Mod.automaticStep (m : Mod) : Mod :=
  if m.flag 0x1420 7 && m.servo.selected ≠ none && !m.mediaRunning then m.stepToMaster else m

/-! ### The best master (R28) -/

/-- The dataset comparison of IEEE 1588-2019 among grandmasters: smaller is better. -/
def gmKey (g : GmData) : List Nat :=
  [g.priority1, g.clockClass, g.accuracy, g.variance, g.priority2, g.identity, g.stepsRemoved]

/-- Lexicographic order. -/
def lexLess : List Nat → List Nat → Bool
  | [], [] => false
  | [], _ :: _ => true
  | _ :: _, [] => false
  | a :: x, b :: y => a < b || (a = b && lexLess x y)

/-- A message interval in ns, from its logarithm. -/
def announceNanos (log : Int) : Nanos := if 0 ≤ log then second * 2 ^ log.toNat else second / 2 ^ (-log).toNat

/-- Whether a foreign master qualifies: heard twice within four intervals, on an enabled port and the domain in force,
fewer than 255 steps away. -/
def Mod.qualifies (m : Mod) (x : Foreign) : Bool :=
  2 ≤ x.heard && (m.n 0x1413 0).testBit x.port && x.domain = m.n 0x1410 0 && x.gm.stepsRemoved < 255
    && m.ctr < x.at_ + m.n 0x1412 0 * announceNanos x.logAnnounce

/-- The best foreign master, if any qualifies. -/
def Mod.bestMaster (m : Mod) : Option Foreign :=
  (m.servo.masters.filter fun x => m.qualifies x).foldl (fun (acc : Option Foreign) (x : Foreign) => match acc with
    | none => some x
    | some y => if lexLess (gmKey x.gm ++ [x.source, x.port]) (gmKey y.gm ++ [y.source, y.port]) then some x else acc) none

/-- What is shown of the selected master, and SDP that follows it (1420:04, 1420:05, R165). -/
def Mod.showMaster (m : Mod) (x : Foreign) : Mod :=
  let m := (m.put 0x1420 4 x.gm.identity).put 0x1420 5 (min x.gm.stepsRemoved 255)
  m.modServo fun s =>
    { s with gm := some x.gm, utcOffset := x.utcOffset, leap61 := x.leap61, leap59 := x.leap59 }

/-- Session descriptions follow the grandmaster and the servo (R165). -/
def Mod.refreshDescriptions (m : Mod) : Mod :=
  m.refreshSdp.each ((List.range 2).filter fun e => m.fn (decodeFid e) ≠ stopped) fun (m : Mod) (e : Nat) =>
    m.generateDecodeSdp e

/-- The selected master is lost: HOLDOVER from LOCKED or ACQUIRING, a pending step is dropped (R30, R33). 1420:04 and 1420:05 keep
what they showed of it (DESIGN CHOICE, log 62). -/
def Mod.loseMaster (m : Mod) : Mod :=
  let m := (m.modServo fun s => { s with selected := none, lockSince := none, awaiting := none }).putFlag 0x1420 7 false
  if m.servoState = locked || m.servoState = acquiring then m.setServo holdover else m

/-- Takes the best master: a change of grandmaster is loss followed by return, ev 1405 (R33). -/
def Mod.selectMaster (m : Mod) : Mod :=
  match m.bestMaster, m.servo.selected with
  | none, _ => m
  | some b, none =>
    let changed : Bool := match m.servo.gm with
      | none => false
      | some g => g.identity ≠ b.gm.identity
    let m := if changed then m.raise 0x1405 0 [m.n 0x1420 4, b.gm.identity] else m
    let m := (m.modServo fun s => { s with selected := some b, lastSync := m.ctr }).showMaster b
    if m.servoState = freerun && !m.mediaRunning then m.setServo acquiring else m
  | some b, some x =>
    if b.gm.identity = x.gm.identity then
      ((m.modServo fun s => { s with selected := some b }).showMaster b)
    else
      let m := (m.raise 0x1405 0 [x.gm.identity, b.gm.identity]).loseMaster
      (m.modServo fun s => { s with selected := some b, lastSync := m.ctr }).showMaster b

/-! ### Messages (R28, R29) -/

/-- Whether a message lies outside the profile (R28, Table 2.4). -/
def Mod.ptpOutside (m : Mod) (x : PtpMsg) : Bool :=
  x.domain ≠ m.n 0x1410 0 || !x.udpIpv4 || x.peerDelay ||
    match x.body with
    | .announce _ _ _ _ => !(-3 ≤ x.logInterval && x.logInterval ≤ 1)
    | .sync _ _ => !(-7 ≤ x.logInterval && x.logInterval ≤ -1)
    | .syncTwoStep => !(-7 ≤ x.logInterval && x.logInterval ≤ -1)
    | .followUp _ _ => !(-7 ≤ x.logInterval && x.logInterval ≤ -1)
    | .delayResp _ => !(-7 ≤ x.logInterval && x.logInterval ≤ 0)
    | .delayReq => false
    | .other => false

/-- An Announce: the foreign master is held, eight at most (R28). -/
def Mod.takeAnnounce (m : Mod) (port : Nat) (x : PtpMsg) (gm : GmData) (utc : Int) (l61 l59 : Bool) : Mod :=
  let same (f : Foreign) : Bool := f.port = port && f.domain = x.domain && f.source = x.source
  let stale (f : Foreign) : Bool := f.at_ + 4 * announceNanos f.logAnnounce < m.ctr
  let heard := match m.servo.masters.find? same with
    | none => 1
    | some f => if stale f then 1 else min 255 (f.heard + 1)
  let rest := m.servo.masters.filter fun f => !same f && (f.port ≠ port || !stale f)
  let f : Foreign := ⟨x.source, port, x.domain, gm, x.logInterval, m.ctr, heard, utc, l61, l59⟩
  let m := m.modServo fun s => { s with masters := if rest.length < 8 then rest ++ [f] else rest }
  m.selectMaster

/-- An offset from the selected master, with a one-step Sync or a Follow_Up: lock, steps and slewing, and the return of a master
(R28, R30, R33). -/
def Mod.takeSync (m : Mod) (off filtered : Int) : Mod :=
  let m := m.modServo fun s => { s with lastSync := m.ctr, offset := off, awaiting := none }
  if m.servoState = freerun || m.servoState = holdover then
    let m := m.masterReturn
    if m.servoState = freerun then m else m.putZ 0x1420 2 filtered
  else
    let m := m.putZ 0x1420 2 filtered
    let m := if m.servoState ≠ acquiring then m else if m.mediaRunning then m.slewOffset else m.stepTime
    if m.servoState = acquiring then
      m.modServo fun s => { s with lockSince := if filtered.natAbs ≤ 40 then some (s.lockSince.getD m.ctr) else none }
    else m

/-- PTP_MESSAGE (R28). -/
def Mod.takePtp (m : Mod) (port : Nat) (x : PtpMsg) : Mod :=
  if m.timeFn ≠ running || !m.portUp port || !(m.n 0x1413 0).testBit port then m
  else if m.ptpOutside x then m.bump 0x1422 0
  else
    let chosen : Bool := match m.servo.selected with
      | none => false
      | some f => f.port = port && f.source = x.source
    let upstream : Bool := match m.servo.selected with
      | none => false
      | some f => f.port = port
    let m := match x.body with
      | .announce gm utc l61 l59 => m.takeAnnounce port x gm utc l61 l59
      | .sync off filtered => if chosen then m.takeSync off filtered else m
      | .syncTwoStep =>
        if chosen then m.modServo fun s => { s with lastSync := m.ctr, awaiting := some x.seq } else m
      | .followUp off filtered => if chosen && m.servo.awaiting = some x.seq then m.takeSync off filtered else m
      | .delayResp d =>
        if chosen then (m.putZ 0x1420 3 d).modServo fun s => { s with delayLog := x.logInterval } else m
      | .delayReq =>
        if m.flag 0x1414 0 && !upstream then (m.send (.ptpDelayResp port x.source x.seq)).countOwn port 0 else m
      | .other => m
    m.refreshDescriptions

/-- SERVO_LOCKED: the filtered offset has stayed within ±40 ns for 8 s (R30). -/
def Mod.servoLock (m : Mod) : Mod :=
  match m.servo.lockSince with
  | none => m
  | some since =>
    if m.servoState = acquiring && since + 8 * second ≤ m.ctr then (m.setServo locked).refreshDescriptions else m

/-- ANNOUNCE_RECEIPT_TIMEOUT: no valid Sync from the selected master for the timeout (R30, R33). -/
def Mod.announceTimeout (m : Mod) : Mod :=
  match m.servo.selected with
  | none => m
  | some f =>
    if m.ctr < m.servo.lastSync + m.n 0x1412 0 * announceNanos f.logAnnounce then m
    else
      let m := m.modServo fun s => { s with masters := s.masters.filter fun x =>
        !(x.port = f.port && x.source = f.source) }
      m.loseMaster.selectMaster.refreshDescriptions

/-- HOLDOVER_LIMIT (R32). -/
def Mod.holdoverEnd (m : Mod) : Mod :=
  if m.servoState = holdover && m.servo.stateAt + m.n 0x1430 0 * second ≤ m.ctr then
    ((m.setServo freerun).raise 0x1403 0 []).refreshDescriptions
  else m

/-- The dataset a boundary clock advertises (R29); its own where it has followed none (log 37). -/
def Mod.advertised (m : Mod) : GmData :=
  let mac := m.n 0x1000 8
  let own := mac / 2 ^ 24 * 2 ^ 40 + 0xFFFE * 2 ^ 24 + mac % 2 ^ 24
  let g : GmData := match m.servo.gm with
    | none => ⟨128, 248, 0xFE, 0xFFFF, 128, own, 0⟩
    | some g => { g with stepsRemoved := g.stepsRemoved + 1 }
  if m.servoState = holdover then { g with clockClass := 7 }
  else if m.servoState = freerun then { g with clockClass := 248 }
  else g

/-- The intervals at which a boundary clock sends Sync and Announce, as logarithms (R29). -/
abbrev logSync : Int := -3
abbrev logAnnounce : Int := -2

/-- Whether an interval has passed since a message was last sent on a port. -/
def intervalOver (sent : List (Nat × Nanos)) (port : Nat) (log : Int) (now : Nanos) : Bool :=
  match sent.find? fun x => x.1 = port with
  | none => true
  | some x => x.2 + announceNanos log ≤ now

/-- Notes a message as sent on a port. -/
def noteSent (sent : List (Nat × Nanos)) (port : Nat) (now : Nanos) : List (Nat × Nanos) :=
  (sent.filter fun x => x.1 ≠ port) ++ [(port, now)]

/-- PTP_MASTER_SEND: Announce, or Sync with its Follow_Up, on a port where a boundary clock is master, when its interval is over
(R29). -/
def Mod.masterSend (m : Mod) (port : Nat) (announce : Bool) : Mod :=
  let upstream : Bool := match m.servo.selected with
    | none => false
    | some f => f.port = port
  if m.timeFn ≠ running || !m.flag 0x1414 0 || !(m.n 0x1413 0).testBit port || !m.portUp port || upstream then m
  else if announce then
    if !intervalOver m.servo.sentAnnounce port logAnnounce m.ctr then m
    else
      let m := m.modServo fun s => { s with sentAnnounce := noteSent s.sentAnnounce port m.ctr }
      (m.send (.ptpAnnounce port m.advertised logAnnounce)).countOwn port 0
  else if !intervalOver m.servo.sentSync port logSync m.ctr then m
  else
    let m := m.modServo fun s => { s with sentSync := noteSent s.sentSync port m.ctr }
    let m := (m.send (.ptpSync port logSync)).countOwn port 0
    (m.send (.ptpFollowUp port m.now logSync)).countOwn port 0

/-- DELAY_REQ_SEND: on the port of the selected master, multicast or unicast by 1411:00, when the interval that its Delay_Resp
names is over (R28); before any Delay_Resp the interval is 1 s (DESIGN CHOICE, log 62). -/
def Mod.delayReq (m : Mod) : Mod :=
  let due : Bool := match m.servo.delayAt with
    | none => true
    | some a => a + announceNanos m.servo.delayLog ≤ m.ctr
  match m.servo.selected with
  | none => m
  | some f =>
    if m.timeFn = running && m.portUp f.port && due then
      let m := m.modServo fun s => { s with delayAt := some m.ctr }
      (m.send (.ptpDelayReq f.port (m.n 0x1411 0 = 0))).countOwn f.port 0
    else m

/-! ### PPS (R38) -/

/-- PPS_OUT_PULSE at a whole second: in LOCKED and HOLDOVER, with the outputs enabled. -/
def Mod.ppsOut (m : Mod) : Mod :=
  if m.now % second = 0 && (m.servoState = locked || m.servoState = holdover) && m.flag 0x1451 0 then m.send .ppsPulse else m

/-- PPS_IN_EDGE: the offset of the edge from the nearest second (DESIGN CHOICE, log 62: R38 names no second). -/
def Mod.ppsIn (m : Mod) : Mod :=
  let r : Int := (m.now % second : Nat)
  let m := m.putZ 0x1450 0 (if 2 * r ≤ second then r else r - second)
  m.modServo fun s => { s with ppsAt := m.ctr, ppsAbsent := false }

/-- PPS_IN_ABSENT: no edge for 2 s, ev 1406. -/
def Mod.ppsLost (m : Mod) : Mod :=
  if m.servo.ppsAbsent || m.ctr < m.servo.ppsAt + 2 * second then m
  else (m.modServo fun s => { s with ppsAbsent := true }).raise 0x1406 0 []

/-! ### The time function (R16, R39) -/

/-- The time function starts: the family in force, and ACQUIRING or, with no master, FREERUN. -/
def Mod.beginTime (m : Mod) : Mod :=
  let m : Mod := { m with fam := familyOf (m.n 0x1400 0) (m.n 0x1401 0), timeFn := running }
  let m := m.shiftTime 0
  match m.bestMaster with
  | none => m.setServo freerun
  | some b => ((m.modServo fun s => { s with selected := some b, lastSync := m.ctr }).showMaster b).setServo acquiring

/-- The time function stops: it follows no master. -/
def Mod.endTime (m : Mod) : Mod :=
  let m := m.loseMaster
  { m with timeFn := stopped }

/-- Time in state (1420:06), at an edge. -/
def Mod.showServo (m : Mod) : Mod := m.put 0x1420 6 (m.ctr - m.servo.stateAt)

end Sys2Proof.Machine
end

