-- ==== Sys2Proof/Machine/Memory.lean ====
section
/-! DEFINITION. DDR5 memory and its controller (ch. 13): population, regions, bandwidth demand, refresh, errors. -/

namespace Sys2Proof.Machine

/-! ### Population (R247-R249) -/

/-- Whether a DIMM is of a kind the module accepts (R248). -/
def Dimm_ok (d : Dimm) : Bool :=
  d.rdimm && d.ecc80 && d.spdPmic && d.deviceWidth = 4 && (d.ranks = 1 || d.ranks = 2)
    && (d.capacity = 32 || d.capacity = 64 || d.capacity = 96 || d.capacity = 128 || d.capacity = 256) && 6400 ≤ d.rate

/-- Whether two DIMMs are identical (R247). -/
def Dimm_same (a b : Dimm) : Bool :=
  a.capacity = b.capacity && a.ranks = b.ranks && a.deviceWidth = b.deviceWidth && a.dieDensity = b.dieDensity

/-- The sockets populated, as a bit field. -/
def socketMap (l : List (Nat × Dimm)) : Nat := (l.map fun x => 2 ^ x.1).sum

/-- The population (R247): 0 not permitted, 1 full, 2 half; and the cause where it is not permitted: 1 sockets,
2 mixed DIMMs, 3 a DIMM that R248 excludes (log 40). -/
def population (l : List (Nat × Dimm)) : Nat × Nat :=
  let map := socketMap l
  let kind := if map = 0xFFFF then 1 else if map = 0x5555 then 2 else 0
  if kind = 0 then (0, 1)
  else if !(l.all fun x => Dimm_ok x.2) then (0, 3)
  else
    match l with
    | [] => (0, 1)
    | x :: _ => if l.all fun y => Dimm_same x.2 y.2 then (kind, 0) else (0, 2)

/-- What boot finds in the sockets (R247-R249, 2000, 2140). `ok`: training came good on every populated channel. -/
def Mod.judgePopulation (m : Mod) (l : List (Nat × Dimm)) (trained : Bool) : Mod :=
  let (kind0, cause0) := population l
  let kind := if trained then kind0 else 0
  let cause := if kind0 ≠ 0 && !trained then 4 else cause0
  let channels := if kind = 1 then 16 else if kind = 2 then 8 else 0
  let one := match l with
    | [] => default
    | x :: _ => x.2
  let o := 0x2000
  let m := (m.put o 2 kind).put o 3 (if kind = 0 then 0 else channels * one.capacity)
  let m := (m.put o 4 (if kind = 0 then 0 else one.capacity)).put o 5 (if kind = 0 then 0 else one.ranks)
  let m := (m.put o 7 (channels * 51200)).put o 8 (channels * 37500)
  let m := ((m.put o 9 (socketMap l)).put 0x2080 2 (channels * 37500)).put 0x5250 2 (if kind = 2 then 1024 else 2048)
  let m := m.each (List.range 16) fun (m : Mod) (c : Nat) =>
    m.put (0x2140 + c) 1 (if !(l.any fun x => x.1 = c) then 0 else if kind = 0 then 2 else 1)
  if kind = 0 then m.raise 0x2001 0 [socketMap l, cause] else m

/-- Whether a DRAM channel is in service. -/
def Mod.channelLive (m : Mod) (c : Nat) : Bool := m.n (0x2140 + c) 1 = 1

/-! ### Regions (R250-R252) -/

/-- A GiB. -/
abbrev gib : Nat := 1073741824

/-- Regions 0-5 together in GiB. -/
def Mod.fixedRegions (m : Mod) : Nat := 27 + m.n 0x2010 3 + m.n 0x2010 4 + m.n 0x2010 5

/-- Whether regions 0-5 fit the installed capacity (R250). -/
def Mod.regionsFit (m : Mod) : Bool := m.fixedRegions ≤ m.n 0x2000 3

/-- The DRAM available for replay in GiB (2011:00). -/
def Mod.replayRoom (m : Mod) : Nat := m.n 0x2000 3 - m.fixedRegions

/-- The populated channel and the offset in it of a byte of a region (R252). -/
def Mod.interleave (m : Mod) (r o : Nat) : Nat × Nat :=
  let n := if m.n 0x2000 2 = 2 then 8 else 16
  let g := 256 * 2 ^ m.n 0x2010 (9 + r)
  let k := (o / g + 2 * r) % n
  (if n = 8 then 2 * k else k, o / (g * n) * g + o % g)

/-- A picture buffer in octets (Table 3.7): size and sampling. -/
def pictureBuffer (size sampling : Nat) : Nat := planarLength (rungWidth size) (34 * courseHeight size) sampling

/-- What a channel takes of the picture region (R251). -/
def Mod.channelPictures (m : Mod) (n : Nat) : Nat :=
  let live := (List.range 4).filter fun l => m.layerBound n l
  3 * pictureBuffer (m.n (0x4000 + n) 3) (m.n (0x4000 + n) 4)
    + ((m.rungs n).map fun r => 2 * pictureBuffer (m.rungSize n r) 0).sum
    + (live.map fun l => 3 * pictureBuffer (m.n (0x4000 + n) 3) (m.n (0x4B00 + layerOf n l) 4)).sum
    + 196608 + 131072

/-- The demand on the picture region: the channels that are not STOPPED, and the slates (R251). -/
def Mod.pictureDemand (m : Mod) : Nat :=
  ((List.range 32).map fun n => if m.fn (chanFid n) = stopped then 0 else m.channelPictures n).sum + 3208642560

/-- Whether the picture region holds its demand. -/
def Mod.picturesFit (m : Mod) : Bool := m.pictureDemand ≤ m.n 0x2010 3 * gib

/-! ### Bandwidth (R259) -/

/-- Octets per picture as MB/s at the step's exact rate, rounded up. -/
def Family.mbps (f : Family) (octets k : Nat) : Nat := (octets * f.b + 34 * k * f.a * 1000000 - 1) / (34 * k * f.a * 1000000)

/-- ς / 8 of a rendition in MB/s, rounded up (Table 13.4). -/
def Mod.streamDemand (m : Mod) (r : Nat) : Nat := (11 * sigRate (m.n (0x5400 + r) 6) + 80000000 + 79999999) / 80000000

/-- The demand of the still named by a layer's settings, if they are enabled and name one. -/
def Mod.stillDemand (m : Mod) (n : Nat) (s : LayerSet) : Nat :=
  if s.enable && !s.live then
    m.fam.mbps (planarLength (m.n (0x4C00 + s.still) 2) (m.n (0x4C00 + s.still) 3) (m.n (0x4C00 + s.still) 4)) (m.chanStep n)
  else 0

/-- The items of a channel: (port, MB/s). -/
def Mod.channelDemand (m : Mod) (n : Nat) : List (Option Nat × Nat) :=
  let k := m.chanStep n
  let pic := m.fam.mbps (pictureBuffer (m.n (0x4000 + n) 3) (m.n (0x4000 + n) 4)) k
  let layers := (List.range 4).flatMap fun l =>
    let live := if m.layerBound n l then
        m.fam.mbps (pictureBuffer (m.n (0x4000 + n) 3) (m.n (0x4B00 + layerOf n l) 4)) k else 0
    let still := max (m.stillDemand n (m.layerSet 0x4A00 (layerOf n l))) (m.stillDemand n (m.layerSet 0x4A80 (layerOf n l)))
    [(some 0, live), (some 2, live), (some 2, still)]
  (if m.n (0x4000 + n) 1 = 0 then [(some 0, pic)] else []) ++ [(some 2, pic)] ++ layers
    ++ (m.rungs n).map fun r => (some 3, m.fam.mbps (pictureBuffer (m.rungSize n r) 0) k)

/-- The items of a rendition: coding on its pipeline's port once the channel is placed, its output, its recording. -/
def Mod.renditionDemand (m : Mod) (r : Nat) : List (Option Nat × Nat) :=
  let rung := m.n (0x5000 + r) 3
  let pipe := m.n (0x5200 + m.rendChan r) 2
  let code := m.fam.mbps (pictureBuffer rung 0 + m.rendRefBytes r) (m.rendStep r)
  let s := m.streamDemand r
  [(if pipe ≤ 7 then some (4 + pipe) else none, code)]
    ++ (if m.flag (0x5800 + r) 1 then [(some 12, s), (some 13, s)] else [])
    ++ (if m.flag (0x6080 + r) 1 && m.counts replayFid then [(some 14, s)] else [])

/-- The items of Table 13.4 that are committed (R259). -/
def Mod.demandItems (m : Mod) : List (Option Nat × Nat) :=
  ((List.range 32).flatMap fun n => if m.counts (chanFid n) then m.channelDemand n else [])
    ++ ((List.range 128).flatMap fun r => if m.rendOn r && m.counts (rendFid r) then m.renditionDemand r else [])
    ++ ((List.range 16).flatMap fun s =>
      if m.n (0x6200 + s) 2 = 0 && (m.n (0x6240 + s) 1 = 1 || m.n (0x6240 + s) 1 = 2) then
        [(some 15, m.streamDemand (m.n (0x6200 + s) 3))] else [])
    ++ ((List.range 2).flatMap fun e => if m.counts (decodeFid e) then
        [(some (16 + e), m.fam.mbps (4 * pictureBuffer (m.n (0x5C00 + e) 6) 0) (m.decodeStep e))] else [])
    ++ (if m.twinFn = stopped then [] else [(some 18, (m.n 0x7000 0x0B + 7) / 8)])
    ++ [(some 1, 1000), (some 19, 3000), (some 20, 2000), (some 21, 2000), (some 22, 1500), (some 23, 500)]

/-- The committed demand in MB/s (2080:01). -/
def Mod.demand (m : Mod) : Nat := (m.demandItems.map (·.2)).sum

/-- The DRAM bandwidth check (R259): the reason if the demand is above the planning figure. -/
def Mod.demandFault (m : Mod) : Option Nat := if m.n 0x2000 8 < m.demand then some 0x2001 else none

/-- A refusal by the memory shows in 2080:03 and 2080:04. -/
def Mod.noteDemand (m : Mod) (reason obj : Nat) : Mod := (m.put 0x2080 3 reason).put 0x2080 4 obj

/-- Demand, region use and room at an edge (2011, 2012, 2080, 2081). -/
def Mod.showMemory (m : Mod) : Mod :=
  let items := m.demandItems
  let m := (m.put 0x2080 1 (items.map (·.2)).sum).put 0x2011 0 (if m.n 0x2000 1 = running then m.replayRoom else 0)
  let m := m.each (List.range 24) fun (m : Mod) (p : Nat) =>
    m.put 0x2081 (1 + p) ((items.filter fun x => x.1 = some p).map (·.2)).sum
  let live := m.n 0x2000 1 = running
  let rends := (List.range 128).filter fun r => m.rendOn r && m.fn (rendFid r) ≠ stopped
  let slots := (rends.map fun r => if m.flag (0x5800 + r) 1 then m.outputSlots r else 0).sum
  let use := [16 * gib, slots * 9216, m.pictureDemand, (rends.map fun r => m.rendRefBytes r).sum, m.stillBytes,
    ((List.range 2).map fun e => if m.fn (decodeFid e) = stopped then 0 else 67108864 + 7 * 133693440).sum,
    (m.rings.map fun g => match g with
      | none => 0
      | some g => g.size).sum, 0]
  let m := m.each (List.range 8) fun (m : Mod) (i : Nat) => m.put 0x2012 (1 + i) (if live then nth use i else 0)
  m.put 0x2010 7 (m.n 0x6000 1)

/-! ### The memory function (R250) -/

/-- The memory function starts. -/
def Mod.beginMemory (m : Mod) : Mod := m.put 0x2000 1 running

/-- The memory function stops: the content of DRAM is gone: slates, stills, rings (R194, R250). -/
def Mod.endMemory (m : Mod) : Mod :=
  let m := (m.clearRange 0x4210 0x421F 1 1).clearRange 0x4210 0x421F 4 6
  let m := (m.clearRange 0x4C00 0x4CFF 1 1).clearRange 0x4C00 0x4CFF 5 7
  let m : Mod := { m with rings := List.replicate 128 none }
  m.put 0x2000 1 stopped

/-! ### Refresh (R256) -/

/-- The refreshes a bank is owed. -/
def Mod.owedTo (m : Mod) (c b : Nat) : Nat := ((m.mem.owed.find? fun x => x.1 = (c, b)).map (·.2)).getD 0

/-- Sets what a bank is owed. -/
def Mod.setOwed (m : Mod) (c b k : Nat) : Mod :=
  let rest := m.mem.owed.filter fun x => x.1 ≠ (c, b)
  { m with mem := { m.mem with owed := if k = 0 then rest else rest ++ [((c, b), k)] } }

/-- tREFI of a channel in ns (R256): 3.9 µs, half of it while its refresh rate is doubled. -/
def Mod.refreshInterval (m : Mod) (c : Nat) : Nanos := if m.n (0x2140 + c) 9 = 1 then 1950 else 3900

/-- Whether tREFI has passed since a bank's last refresh came due. -/
def Mod.refreshTime (m : Mod) (c b : Nat) : Bool :=
  match m.mem.dueAt.find? fun x => x.1 = (c, b) with
  | none => true
  | some x => x.2 + m.refreshInterval c ≤ m.ctr

/-- A bank's refresh comes due now. -/
def Mod.noteDue (m : Mod) (c b : Nat) : Mod :=
  { m with mem := { m.mem with dueAt := m.mem.dueAt.filter (fun x => x.1 ≠ (c, b)) ++ [((c, b), m.ctr)] } }

/-- A refresh issued ahead of every request at the limit: counted, ev 2005 (R256). -/
def Mod.forceRefresh (m : Mod) (c : Nat) : Mod :=
  let m := (m.bump (0x2140 + c) 7).raiseLimited 0x2005 c second [c]
  { m with mem := { m.mem with forced := true } }

/-- REFRESH_DUE: every tREFI a bank's refresh is issued with those it is owed, or postponed while an urgent request waits; at the limit of
four the oldest is forced in its stead. Ranks in self-refresh refresh themselves (R285). -/
def Mod.refreshDue (m : Mod) (c b : Nat) (urgent : Bool) : Mod :=
  if !m.channelLive c || m.coreCoasts || !m.refreshTime c b then m
  else
    let m := m.noteDue c b
    if !urgent then m.setOwed c b 0
    else
      let m := m.bump (0x2140 + c) 6
      if m.owedTo c b < 4 then m.setOwed c b (m.owedTo c b + 1) else m.forceRefresh c

/-- REFRESH_FORCED: once the refresh postponed first has waited 4 tREFI it is issued at once, ev 2005. -/
def Mod.refreshForced (m : Mod) (c b : Nat) : Mod :=
  if m.owedTo c b < 4 || !m.refreshTime c b then m else (m.setOwed c b (m.owedTo c b - 1)).forceRefresh c

/-- Slot 60 issues what is owed (R256, R257). -/
def Mod.refreshOwed (m : Mod) : Mod := { m with mem := { m.mem with owed := [] } }

/-- DIMM_TEMPERATURE_CHANGE: above 85 °C the refresh rate doubles, at or below 83 °C it returns, ev 2006; from 95 °C on
ev 1D09 (R256, R355). -/
def Mod.dimmTemperature (m : Mod) (c : Nat) (temp : Int) : Mod :=
  if m.n (0x2140 + c) 1 = 0 then m
  else
    let m := m.putZ (0x2140 + c) 8 temp
    let m := if temp < 95 then m else m.raiseLimited 0x1D09 c (60 * second) [c, temp.toNat]
    let doubled := m.n (0x2140 + c) 9 = 1
    if !doubled && 85 < temp then (m.put (0x2140 + c) 9 1).raiseCond 0x2006 c [c, 1]
    else if doubled && temp ≤ 83 then (m.put (0x2140 + c) 9 0).raiseClear 0x2006 c [0x2006] [c, 0]
    else m

/-! ### Errors (R260-R262) -/

/-- DRAM_CORRECTABLE_ERROR: corrected, written back, counted against its device (R260). -/
def Mod.correctable (m : Mod) (c sub rank dev : Nat) : Mod :=
  if !m.channelLive c then m
  else
    let m := m.bump (0x2140 + c) 4
    let hour := m.now / (3600 * second)
    let is (x : DevErrors) : Bool := x.channel = c && x.subch = sub && x.rank = rank && x.device = dev
    let old : DevErrors := match m.mem.devices.find? is with
      | none => ⟨c, sub, rank, dev, hour, 0, false⟩
      | some x => if x.hour = hour then x else ⟨c, sub, rank, dev, hour, 0, false⟩
    let above := m.n 0x2020 3 < old.count + 1 && !old.warned
    let new : DevErrors := { old with count := old.count + 1, warned := old.warned || above }
    let m : Mod := { m with mem := { m.mem with devices := (m.mem.devices.filter fun x => !is x) ++ [new] } }
    if above then m.raise 0x2002 c [c, sub, rank, dev] else m

/-- The region an unreadable burst lies in, where its reader tells it (Table 13.6). -/
def readerRegion : DramReader → Option Nat
  | .picture _ => some 2
  | .layer _ _ => none
  | .rung _ _ _ => some 2
  | .reference _ _ _ => some 3
  | .launchQueue _ => some 1
  | .replay _ _ _ => some 6
  | .decode _ => some 5
  | .repair _ => some 3
  | .sett _ => some 0
  | .bulk _ => some 0
  | .scrub => none
  | .other => none

/-- An uncorrectable read counted and reported (R261). -/
def Mod.uncorrectable (m : Mod) (c port : Nat) (what : DramReader) : Mod :=
  let m := (m.bump (0x2140 + c) 5).bump (0x2100 + port) 8
  let region := (readerRegion what).getD (Config.burstRegion m.draws % 8)
  (m.draw).raiseLimited 0x2003 c second [port, region]

/-- A patch of 32 samples at the place of a failing burst (log 41). -/
def burstPatch (draw size course : Nat) (row : Row) : Srd :=
  let p := Config.burstPlace draw
  ⟨course * courseHeight size + p.1 % courseHeight size, p.2 % (rungWidth size / 32) * 32, 32, row⟩

/-- Port 2 fails on a picture buffer or slate: black on the course being composed (Table 13.6). -/
def Mod.burnPicture (m : Mod) (n : Nat) : Mod :=
  (m.modChan n fun ch =>
    { ch with composing := ch.composing.modify 0 fun (h : Handed) =>
      let b := blackOf h.fmt
      let row : Row := ⟨List.replicate 32 b.1, List.replicate 32 b.2.1, List.replicate 32 b.2.2⟩
      { h with data := { h.data with patches := h.data.patches ++ [burstPatch m.draws h.fmt.size h.course row] } } }).draw

/-- Port 2 fails on a layer: its samples are transparent (Table 13.6). -/
def Mod.burnLayer (m : Mod) (n l : Nat) : Mod :=
  (m.modChan n fun ch =>
    { ch with composing := ch.composing.modify 0 fun (h : Handed) =>
      let b := burstPatch m.draws h.fmt.size h.course ⟨[], [], []⟩
      { h with holes := h.holes ++ [(l, b.row, b.offset)] } }).draw

/-- A rung read fails (R261): the CTU at a luma column and line of the picture, if its lane has not finished it, is to be a
substituted one (log 41). -/
def Mod.burnRung (m : Mod) (r column line : Nat) : Mod :=
  m.modRend r fun s =>
    { s with coding := s.coding.map fun c =>
        let rung := (s.cfgFor c.frame).rung
        let x := column / ctuSize rung
        let place := line % courseHeight rung / ctuSize rung * tileAcross rung + x % tileAcross rung
        if line / courseHeight rung ≠ c.course then c
        else { c with slices := c.slices.map fun y =>
          if y.tile = x / tileAcross rung && y.done ≤ place then { y with holes := y.holes ++ [place] } else y } }

/-- A block of the picture at a reference index fails to read, until its slot is rewritten (R100, R261). -/
def Mod.burnReference (m : Mod) (r index block : Nat) : Mod :=
  let s := m.rend r
  match s.coding.getLast?.bind fun c => (s.refsFor c.frame)[index]? with
  | none => m
  | some x => m.modRend r fun s => s.modRef x.frame fun y => { y with bad := if y.bad.contains block then y.bad else y.bad ++ [block] }

/-- The launch queue fails: the datagram at its head will be discarded on both paths at its λ (Table 13.6). -/
def Mod.loseDatagram (m : Mod) (r : Nat) : Mod :=
  m.modRend r fun s => { s with queue := s.queue.modify 0 fun d => { d with failed := true } }

/-- A decode engine's read fails: what it decodes, or is to decode next, is damaged (R175, Table 13.6). -/
def Mod.burnDecode (m : Mod) (e : Nat) : Mod :=
  m.modDec e fun d =>
    match d.decoding with
    | some x => { d with decoding := some { x with au := { x.au with damaged := true } } }
    | none => { d with waiting := d.waiting.modify 0 fun (a : WaitingAu) => { a with damaged := true } }

/-- PATROL_SCRUB_PASS (R262). -/
def Mod.scrubPass (m : Mod) (c : Nat) : Mod := if m.channelLive c then m.bump (0x2140 + c) 0x0A else m

end Sys2Proof.Machine
end

