-- ==== Sys2Proof/Machine/Twin.lean ====
section
/-! DEFINITION. Twin operation (ch. 12): the mortar link, course records, reference repair, the keystone lease, roles,
takeover and handover, and the witness role. -/

namespace Sys2Proof.Machine

/-! ### Constants and small readings -/

/-- γ and the lease K in ns (R230). -/
abbrev guardTime : Nanos := 20000
def Mod.lease (m : Mod) : Nanos := m.n 0x7000 3

/-- The module's own fuse ID. -/
def Mod.fuse (m : Mod) : Nat := m.n 0x1000 5

/-- Roles as 7040:01 numbers them. -/
def roleNo : Role → Nat
  | .notPaired => 0
  | .fenced => 1
  | .unsynced => 2
  | .standby => 3
  | .active => 4
def roleOf (n : Nat) : Role :=
  if n = 0 then .notPaired else if n = 1 then .fenced else if n = 2 then .unsynced else if n = 3 then .standby else .active

/-- The role in force (7040:01). -/
def Mod.role (m : Mod) : Role := roleOf (m.n 0x7040 1)

/-- The term known (7040:03). -/
def Mod.term (m : Mod) : Nat := m.n 0x7040 3

/-- Changes the twin's own state. -/
def Mod.modTwin (m : Mod) (f : TwinS → TwinS) : Mod := { m with twin := f m.twin }

/-- Changes the mortar link's state. -/
def Mod.modMortar (m : Mod) (f : MortarS → MortarS) : Mod := m.modTwin fun t => { t with mortar := f t.mortar }

/-- Whether the module is in encoder role with its twin function running. -/
def Mod.twinRuns (m : Mod) : Bool := m.twinFn = running || m.twinFn = stopping

/-- The witnesses asked, by number (7000:04). -/
def Mod.witnesses (m : Mod) : List Nat := if m.n 0x7000 4 = 1 then [0] else [0, 1, 2]

/-- The witnesses that make a quorum (R235, R236). -/
def Mod.quorum (m : Mod) : Nat := if m.n 0x7000 4 = 1 then 1 else 2

/-- The course handoff E of course 0 of the picture of a frame tick, less the frame tick: (a + 2) k (R97). -/
def Mod.firstHandoff (m : Mod) (r frame : Nat) : Nat := frame + (m.chanAlign (m.rendChan r) + 2) * m.rendStep r

/-- The renditions that are RUNNING and enabled. -/
def Mod.runningRends (m : Mod) : List Nat := (List.range 128).filter fun r => m.rendOn r && m.fn (rendFid r) = running

/-! ### Configuration digest (R224) -/

/-- Whether an object is in the digest: RS and RT objects of areas 3000-6FFF without window 3010, the lease, and the
content CRCs. -/
def digestHas (idx sub : Nat) (a : Acc) : Bool :=
  (within idx 0x3000 0x6FFF && idx ≠ 0x3010 && (a = .rs || a = .rt)) || (idx = 0x7000 && sub = 3)
    || (within idx 0x4210 0x421F && sub = 5) || (within idx 0x4800 0x481F && (sub = 6 || sub = 7))
    || (within idx 0x4C00 0x4CFF && sub = 6)

/-- The values of one index that are in the digest, in ascending subitem. -/
def Mod.digestOctets (m : Mod) (g : Group) (n : Nat) : Octets :=
  g.fields.flatMap fun f => (List.range (f.last + 1 - f.sub)).flatMap fun i =>
    if digestHas (g.base + n) (f.sub + i) f.acc then encodeVal f.ty (m.get (g.base + n) (f.sub + i)) else []

/-- The configuration digest. -/
def Mod.digest (m : Mod) : Nat :=
  crc32c (dictionary.flatMap fun g => (List.range g.count).flatMap fun n => m.digestOctets g n)

/-! ### Mortar frames (R216-R219) -/

/-- The number of sequence numbers. -/
def seqModulus : Nat := 4294967296

/-- The sequence number after another. -/
def seqNext (n : Nat) : Nat := (n + 1) % seqModulus

/-- Whether a sequence number is the other or one after it, by serial arithmetic. -/
def seqFrom (n base : Nat) : Bool := (n + seqModulus - base) % seqModulus < seqModulus / 2

/-- The link as it begins: no number used, no credit spent, nothing waiting. -/
def MortarS.restart (s : MortarS) : MortarS :=
  { s with
    sendSeq := [0, 0, 0, 0],
    recvSeq := [0, 0, 0, 0],
    freed := [0, 0, 0, 0],
    peerFreed := [0, 0, 0, 0],
    spent := [0, 0, 0, 0],
    held := [],
    waiting := [],
    naks := [],
    helloHeard := false,
    helloBad := false,
    silent := true }

/-- The credits of a virtual channel (Table 12.3). -/
def vcCredits (vc : Nat) : Nat := nth [32, 224, 736, 32] vc

/-- The credits a frame of n payload octets takes (R218). -/
def frameCredits (n : Nat) : Nat := (20 + n + 255) / 256

/-- Whether the mortar lanes run far enough for frames (stage 4 or 5 of lane L32, R266). -/
def Mod.mortarLanes (m : Mod) : Bool := 4 ≤ m.n (0x2480 + 32) 1

/-- Whether the link is up (R220). -/
def Mod.linkUp (m : Mod) : Bool := m.n 0x7040 7 = 3 || m.n 0x7040 7 = 4

/-- The cumulative credits freed, as an idle frame carries them. -/
def Mod.creditFields (m : Mod) : List Nat := m.twin.mortar.freed.map fun c => c % 65536

/-- Sends the waiting frames of a virtual channel for which credit has come (R218). -/
def Mod.flushMortar (m : Mod) : Mod :=
  m.each m.twin.mortar.waiting fun (m : Mod) (x : MortarHeld) =>
    let ahead := m.twin.mortar.waiting.find? fun y => y.vc = x.vc
    let used := nth m.twin.mortar.spent x.vc - nth m.twin.mortar.peerFreed x.vc
    if ahead = some x && used + x.credits ≤ vcCredits x.vc then
      (m.send x.frame).modMortar fun s =>
        { s with
          waiting := s.waiting.erase x,
          held := s.held ++ [x],
          spent := s.spent.modify x.vc fun (c : Nat) => c + x.credits,
          sentAt := m.ctr }
    else m

/-- Puts a sequenced frame of n payload octets on a virtual channel; nothing where the link is not up. -/
def Mod.mortarSend (m : Mod) (vc n : Nat) (frame : Nat → Output) : Mod :=
  if !m.linkUp then m
  else
    let seq := nth m.twin.mortar.sendSeq vc
    let x : MortarHeld := ⟨vc, seq, frameCredits n, frame seq⟩
    (m.modMortar fun s =>
      { s with
        sendSeq := s.sendSeq.modify vc seqNext,
        waiting := s.waiting ++ [x] }).flushMortar

/-- Frees the frames whose credit a received header gives back (R218). -/
def Mod.takeCredits (m : Mod) (credits : List Nat) : Mod :=
  let m := m.each (List.range 4) fun (m : Mod) (vc : Nat) =>
    let old := nth m.twin.mortar.peerFreed vc
    let gain := (nth credits vc + 65536 - old % 65536) % 65536
    if nth m.twin.mortar.spent vc < old + gain then m
    else
      let rec_ (l : List MortarHeld) : List MortarHeld × Nat :=
        l.foldl (fun (acc : List MortarHeld × Nat) (x : MortarHeld) =>
          if x.vc = vc && x.credits ≤ acc.2 then (acc.1, acc.2 - x.credits)
          else (acc.1 ++ [x], if x.vc = vc then 0 else acc.2)) ([], gain)
      m.modMortar fun s =>
        { s with
          peerFreed := s.peerFreed.set vc (old + gain),
          held := (rec_ s.held).1 }
  m.flushMortar

/-- A good frame has arrived: the link is not silent from now on (R217, R219). -/
def Mod.heardMortar (m : Mod) (h : MortarHdr) : Mod :=
  (m.modMortar fun s => { s with heardAt := m.ctr, silent := false }).takeCredits h.credits

/-- Whether a frame is good and the lanes carry it (R217). -/
def Mod.goodFrame (m : Mod) (h : MortarHdr) : Bool := m.twinRuns && m.mortarLanes && h.crcOk && h.length ≤ 4096

/-- The link goes down: sequences and credits begin anew; ev 7008, also after that of the silence (R218, R219). -/
def Mod.mortarDown (m : Mod) : Mod :=
  let m := m.modMortar MortarS.restart
  if m.n 0x7040 7 = 0 then m
  else
    (m.put 0x7040 7 0).raiseAgain 0x7008 0 [1]

/-- A sequenced frame of a virtual channel: in order it is taken and its credits freed; a gap is answered with a Nak
(R218). -/
def Mod.sequenced (m : Mod) (h : MortarHdr) (vc : Nat) (take : Mod → Mod) : Mod :=
  if !m.goodFrame h || !m.linkUp then m
  else
    let m := m.heardMortar h
    let want := nth m.twin.mortar.recvSeq vc
    if h.seq = want then
      take (m.modMortar fun s =>
        { s with
          recvSeq := s.recvSeq.set vc (seqNext want),
          freed := s.freed.modify vc fun (c : Nat) => c + frameCredits h.length })
    else if seqFrom h.seq want then m.send (.mortarNak vc want)
    else m

/-- MORTAR_IDLE. -/
def Mod.takeIdle (m : Mod) (h : MortarHdr) : Mod := if m.goodFrame h then m.heardMortar h else m

/-- IDLE_SEND_TIMER: nothing else sent for 1 µs (R217). -/
def Mod.sendIdle (m : Mod) : Mod :=
  if m.twinRuns && m.mortarLanes && m.twin.mortar.sentAt + 1000 ≤ m.ctr then
    (m.send (.mortarIdle m.creditFields)).modMortar fun s => { s with sentAt := m.ctr }
  else m

/-- How many Naks in a row have named a frame. -/
def MortarS.naksOf (s : MortarS) (vc expected : Nat) : Nat :=
  ((s.naks.find? fun x => x.1 = (vc, expected)).map (·.2)).getD 0

/-- MORTAR_NAK: the sender resends from the named frame on; sixteen Naks for one frame take the link down (R218). -/
def Mod.takeNak (m : Mod) (h : MortarHdr) (vc expected : Nat) : Mod :=
  if !m.goodFrame h || !m.linkUp then m
  else
    let m := m.heardMortar h
    let old := m.twin.mortar.naksOf vc expected
    if 15 ≤ old then m.mortarDown
    else
      let m := m.modMortar fun s =>
        { s with naks := (s.naks.filter fun (x : (Nat × Nat) × Nat) => x.1.1 ≠ vc) ++ [((vc, expected), old + 1)] }
      let again := m.twin.mortar.held.filter fun x => x.vc = vc && seqFrom x.seq expected
      let m := m.each again fun (m : Mod) (x : MortarHeld) => (m.send (.mortarResend vc x.seq)).send x.frame
      (m.count 0x7080 0x0B again.length).modMortar fun s => { s with sentAt := m.ctr }

/-- LINK_SILENT: no frame for 50 µs (R219). -/
def Mod.linkSilent (m : Mod) : Mod :=
  let s := m.twin.mortar
  if m.linkUp && !s.silent && s.heardAt + 50000 ≤ m.ctr then
    (m.modMortar fun s => { s with silent := true, helloHeard := false }).raiseCond 0x7008 0 [0]
  else m

/-- LINK_DOWN: silent for 1 ms (R219). -/
def Mod.linkLost (m : Mod) : Mod :=
  if m.linkUp && m.twin.mortar.heardAt + 1000000 ≤ m.ctr then m.mortarDown else m

/-! ### Hello and Status (R220, R224) -/

/-- The Hello this module sends. -/
def Mod.helloBody (m : Mod) : HelloBody :=
  { fuseId := m.fuse, pairId := m.n 0x7000 1, partnerFuse := m.n 0x7000 2, role := m.role, term := m.term,
    release := natOf (m.octets 0x1200 (2 + m.n 0x1200 1)), generation := m.n 0x1200 4,
    lanes := if 4 ≤ m.n (0x2480 + 34) 1 then 4 else 2, digest := m.n 0x7040 0x0B }

/-- Sends Hello, the next frame of VC0 by number; it takes no credit and is not sent again (Table 12.2, log 44). -/
def Mod.sendHello (m : Mod) : Mod :=
  (m.send (.mortarHello (nth m.twin.mortar.sendSeq 0) m.helloBody)).modMortar fun s =>
    { s with
      sendSeq := s.sendSeq.modify 0 seqNext,
      helloAt := m.ctr,
      sentAt := m.ctr }

/-- HELLO_TIMER: every 100 µs until one is received (R220). -/
def Mod.helloTimer (m : Mod) : Mod :=
  let s := m.twin.mortar
  if m.twinRuns && m.mortarLanes && !s.helloHeard && s.helloAt + 100000 ≤ m.ctr then
    (m.when (m.n 0x7040 7 ≤ 1) fun m => m.put 0x7040 7 2).sendHello
  else m

/-- STATUS_TIMER: every 10 µs (Table 12.2). -/
def Mod.sendStatus (m : Mod) : Mod :=
  if m.twinRuns && m.linkUp && !m.coreCoasts && m.twin.mortar.statusAt + 10000 ≤ m.ctr then
    let st : StatusBody := ⟨m.role, m.term, m.role = .standby, m.n 0x7040 0x0B⟩
    (m.modMortar fun s => { s with statusAt := m.ctr }).mortarSend 0 14 fun seq => .mortarStatus seq st
  else m

/-- The Placement frame of this module (R229). -/
def Mod.placementBody (m : Mod) : PlacementBody :=
  ⟨((List.range 32).filter fun n => m.n (0x5200 + n) 2 ≤ 7).map (fun n => (n, m.n (0x5200 + n) 2)), m.scalers⟩

/-- The ACTIVE tells its placement (R229). -/
def Mod.sendPlacement (m : Mod) : Mod :=
  if m.role = .active then
    let p := m.placementBody
    m.mortarSend 3 (2 * p.pipelines.length + 3 * p.scalers.length) fun seq => .mortarPlacement seq p
  else m

/-- PLACEMENT: the placement of the ACTIVE is held (R229). -/
def Mod.takePlacement (m : Mod) (h : MortarHdr) (p : PlacementBody) : Mod :=
  m.sequenced h 3 fun m => if m.role = .active then m else m.modTwin fun t => { t with placement := some p }

/-! ### Komund (R231, R235) -/

/-- The next request number: boot epoch, then a count of this boot (R231). -/
def Mod.nextRequest (m : Mod) (epoch : Nat) : Nat := epoch * seqModulus + m.twin.requests % seqModulus

/-- The routes enabled for Komund: counted as sent by the service port, in-band in Q0 on its ports (R231). -/
def Mod.komundFrames (m : Mod) : Mod :=
  let m := if (m.n 0x7000 8).testBit 1 then m.bump 0x2610 4 else m
  if (m.n 0x7000 8).testBit 2 && m.flag 0x1100 7 then
    m.each (maskPorts (m.n 0x1100 0x0C)) fun (m : Mod) (n : Nat) => if m.portUp n then m.countOwn n 0 else m
  else m

/-- The key of the pair (7000:0C). -/
def Mod.komundKey (m : Mod) : Octets := m.octets 0x7000 0x0C

/-- Sends one message to every witness: type, subject, flags; it is outstanding until answered. -/
def Mod.askWitnesses (m : Mod) (epoch kind subject flags : Nat) : Mod :=
  let req := m.nextRequest epoch
  let k := if kind = 1 ∨ kind = 2 then m.lease else 0
  let m := m.each m.witnesses fun (m : Mod) (w : Nat) =>
    (m.send (.komund w kind (m.n 0x7000 1) m.fuse subject m.term req k 0 flags m.komundKey (m.n 0x7000 8))).komundFrames
  m.modTwin fun t =>
    { t with
      requests := t.requests + 1,
      outstanding := if kind = 4 then t.outstanding else
        (t.outstanding ++ m.witnesses.map fun (w : Nat) => (req, w, m.ctr)).drop (t.outstanding.length - 96) }

/-- Whether a Komund message is unsound under a key (R231): version, length, MAC. -/
def KMsg_bad (x : KMsg) (key : Octets) : Bool := x.version ≠ 1 || x.length ≠ 80 || x.key ≠ key

/-- A Komund message discarded: counted, ev 7012 (R231). -/
def Mod.discardKomund (m : Mod) : Mod := (m.bump 0x7080 0x0C).raiseLimited 0x7012 0 second []

/-- A reply of witness w: taken once, if it is sound and of this pair (R231). -/
def Mod.fromWitness (m : Mod) (w kind : Nat) (x : KMsg) (take : Mod → Mod) : Mod :=
  if !m.twinRuns then m
  else if KMsg_bad x m.komundKey || x.pair ≠ m.n 0x7000 1 || !m.witnesses.contains w then m.discardKomund
  else if m.twin.replies.contains (w, x.req, kind) then m
  else
    take (m.modTwin fun t => { t with replies := ((w, x.req, kind) :: t.replies).take 64 })

/-- PROBE_TIMER: every 10 ms (Table 12.6). -/
def Mod.probe (m : Mod) (epoch : Nat) : Mod :=
  if m.twinRuns && m.twin.probeAt + 10000000 ≤ m.ctr then
    (m.modTwin fun t => { t with probeAt := m.ctr }).askWitnesses epoch 4 0 0
  else m

/-- PROBE_ACK (R231). -/
def Mod.takeProbeAck (m : Mod) (w : Nat) (x : KMsg) : Mod :=
  m.fromWitness w 0x14 x fun m =>
    let m := (m.modTwin fun t => { t with acks := (t.acks.filter fun (a : Nat × Nanos) => a.1 ≠ w) ++ [(w, m.ctr)] }).putBit 0x7040 6 w true
    if m.condSet 0x700A w then m.raiseClear 0x700B w [0x700A] [w] else m

/-- WITNESS_UNREACHABLE: no answer to PROBE for 30 ms. -/
def Mod.witnessLost (m : Mod) (w : Nat) : Mod :=
  let heard := ((m.twin.acks.find? fun a => a.1 = w).map (·.2)).getD 0
  if m.twinRuns && m.witnesses.contains w && heard + 30000000 ≤ m.ctr && !m.condSet 0x700A w then
    (m.putBit 0x7040 6 w false).raiseCond 0x700A w [w]
  else m

/-! ### Lease ends (R235, R237) -/

/-- The last renewal start that counts for a quorum: the latest, or the second latest of three (R235). -/
def Mod.quorumStart (m : Mod) : Option Nanos :=
  let l := (m.twin.renewed.map (·.2)).foldl (fun (acc : List Nanos) (x : Nanos) => insertBy (fun a b => b < a) x acc) []
  l[m.quorum - 1]?

/-- The start of the effective end: the later of quorum and countersign (R235). -/
def Mod.effectiveStart (m : Mod) : Option Nanos :=
  match m.quorumStart, m.twin.countersigned with
  | none, b => b
  | a, none => a
  | some a, some b => some (max a b)

/-- The lease source and what remains (7040:04, 7040:05). -/
def Mod.showLease (m : Mod) : Mod :=
  if m.role ≠ .active then (m.put 0x7040 4 0).put 0x7040 5 0
  else
    let live (x : Option Nanos) : Bool := match x with
      | none => false
      | some t => m.ctr < t + m.lease
    let q := live m.quorumStart
    let c := live m.twin.countersigned
    let left := match m.effectiveStart with
      | none => 0
      | some t => t + m.lease - m.ctr
    (m.put 0x7040 4 (if q && c then 3 else if q then 1 else if c then 2 else 0)).put 0x7040 5 left

/-! ### Roles (R238) -/

/-- A change of role: ev 7001 with old and new role and term; eligibility follows (7040:01, 02). -/
def Mod.setRole (m : Mod) (r : Role) : Mod :=
  if m.role = r then m
  else
    ((m.put 0x7040 1 (roleNo r)).putFlag 0x7040 2 (r = .standby)).raise 0x7001 0 [roleNo m.role, roleNo r, m.term]

/-- Fencing with a reason: ev 7007, 7040:0F, counted; `until_` closes the launch times already granted; a handover begun is over, and
no answer to an earlier request counts any more (R236-R238, R241). -/
def Mod.fence (m : Mod) (reason : Nat) (until_ : Option Nanos) : Mod :=
  let m := (m.setRole .fenced).put 0x7040 0x0F reason
  let m := if m.twin.handover = none then m else m.put 0x7010 0 0
  let m := (m.raise 0x7007 0 [reason]).modTwin fun t =>
    { t with
      launchFrom := if until_ = none then none else t.launchFrom,
      launchUntil := until_,
      renewed := [],
      countersigned := none,
      grants := [],
      outstanding := [],
      handover := none }
  m.bump 0x7080 9

/-- How a rendition stands, from scratch. -/
def RendSync.fresh (r : Nat) : RendSync := ⟨r, false, 0, none, 0, false, none, none⟩

/-- The standing of a rendition. -/
def Mod.syncOf (m : Mod) (r : Nat) : RendSync := (m.twin.sync.find? fun x => x.rend = r).getD (RendSync.fresh r)

/-- Replaces the standing of a rendition. -/
def Mod.setSync (m : Mod) (x : RendSync) : Mod :=
  m.modTwin fun t => { t with sync := (t.sync.filter fun (y : RendSync) => y.rend ≠ x.rend) ++ [x] }

/-- Marks a rendition unsynced or not (7041). -/
def Mod.markUnsynced (m : Mod) (r : Nat) (on : Bool) : Mod := m.putBit 0x7041 (1 + r / 32) (r % 32) on

/-- Whether the partner's Status shows it ACTIVE. -/
def Mod.partnerActive (m : Mod) : Bool := match m.twin.partner with
  | none => false
  | some p => p.role = .active

/-- UNSYNCED becomes STANDBY when every RUNNING rendition is in sync, the digest equals the ACTIVE's, records arrive, and
the coding generations are the same (R228, R245). -/
def Mod.tryStandby (m : Mod) : Mod :=
  let rs := m.runningRends
  if m.role = .unsynced && m.linkUp && m.partnerActive && !m.twin.digestDiffers && m.n 0x7040 0x10 = 3
      && rs.all (fun r => (m.syncOf r).inSync) && m.twin.missingSince = none && m.twin.sync.any (fun x => x.lastTick ≠ none) then
    (m.setRole .standby).raiseClearAll 0x7004 0 [0x7002, 0x700D, 0x700E] []
  else m

/-- Whether the keystone is on its way to the partner: RELEASE naming it has been sent (R241). -/
def Mod.releasing (m : Mod) : Bool := match m.twin.handover with
  | none => false
  | some x => x.sent

/-- The partner's Status is judged (R224, R238). While the keystone is on its way to the partner, the release point and not the
partner's term ends the launches (R241, log 44). -/
def Mod.judgePartner (m : Mod) (p : StatusBody) : Mod :=
  if m.role = .active then
    if p.role = .active && m.term < p.term && !m.releasing then m.fence 5 none else m
  else
    let m := if m.role = .fenced && m.twinFn = running && p.role = .active then m.setRole .unsynced else m
    let differs := p.role = .active && p.digest ≠ m.n 0x7040 0x0B
    let news := differs && !m.twin.digestDiffers && (m.role = .standby || m.role = .unsynced)
    let m := m.modTwin fun t => { t with digestDiffers := differs }
    let m := if news then m.raiseCond 0x700D 0 [m.n 0x7040 0x0B, p.digest] else m
    let m := if differs && m.role = .standby then m.setRole .unsynced else m
    m.tryStandby

/-- The ACTIVE takes every RUNNING rendition as awaiting repair when its partner's Status shows it UNSYNCED with an equal digest and
no repair is awaited or at hand (R224, R225; log 43). -/
def Mod.notePartnerUnsynced (m : Mod) (p : StatusBody) : Mod :=
  if m.role = .active && p.role = .unsynced then
    if p.digest = m.n 0x7040 0x0B && m.twin.awaiting = [] && m.twin.repairs = [] then
      m.modTwin fun t => { t with awaiting := m.runningRends }
    else m
  else if p.role ≠ .unsynced then m.modTwin fun t => { t with awaiting := [], repairs := [] }
  else m

/-- MORTAR_STATUS (R224). -/
def Mod.takeStatus (m : Mod) (h : MortarHdr) (p : StatusBody) : Mod :=
  m.sequenced h 0 fun m =>
    let m := ((m.put 0x7040 8 (roleNo p.role)).put 0x7040 0x0C p.digest).modTwin fun t => { t with partner := some p }
    (m.notePartnerUnsynced p).judgePartner p

/-- MORTAR_HELLO: the link comes up when the Hello names this module and pair; ev 7011 otherwise (R219, R220). -/
def Mod.takeHello (m : Mod) (h : MortarHdr) (b : HelloBody) : Mod :=
  if !m.goodFrame h then m
  else
    let s := m.twin.mortar
    let m := (m.modMortar fun s => { s with heardAt := m.ctr }).put 0x7040 0x10 b.generation
    if b.partnerFuse ≠ m.fuse || b.pairId ≠ m.n 0x7000 1 then
      let m := m.put 0x7040 7 2
      if s.helloBad then m else (m.modMortar fun s => { s with helloBad := true }).raise 0x7011 0 [b.fuseId, b.pairId]
    else
      let fresh := !s.helloHeard || !m.linkUp
      let lanes := if b.lanes < 4 || m.helloBody.lanes < 4 then 2 else 4
      let m := m.modMortar fun s =>
        { s with
          helloHeard := true,
          helloBad := false,
          silent := false,
          recvSeq := s.recvSeq.set 0 ((h.seq + 1) % seqModulus) }
      let m := m.put 0x7040 7 (if lanes = 4 then 3 else 4)
      if fresh then
        let m := (if s.helloHeard then m else m.sendHello).raiseClear 0x7009 0 [0x7008] [lanes]
        m.sendPlacement
      else m

/-! ### Course records (R221-R224) -/

/-- The record as sent: the confirmation index is that of the moment it is closed. -/
def Mod.closing (m : Mod) (r : Nat) (x : CourseRecord) : CourseRecord := { x with confirmIndex := (m.rend r).confirm }

/-- A course record as its 260 octets (Table 12.4). -/
def recordOctets (x : CourseRecord) : Octets :=
  let cc := (List.range 12).foldl (fun (a : Nat) (i : Nat) => a * 16 + nth x.counters i % 16) 0
  let body := beOctets 2 260 ++ beOctets 1 x.rendition.val ++ beOctets 1 x.course ++ beOctets 8 x.tick ++ beOctets 8 x.pictureCount
    ++ beOctets 2 (x.wave % 65536).toNat ++ beOctets 1 x.period ++ beOctets 1 x.flags ++ beOctets 4 x.fingerprint
    ++ beOctets 4 x.bitCrc ++ beOctets 4 x.tsCrc ++ beOctets 4 x.courseBits ++ beOctets 8 x.cpb ++ beOctets 8 x.spent
    ++ beOctets 4 x.budget ++ beOctets 1 x.offset ++ beOctets 1 x.priority ++ beOctets 2 0 ++ beOctets 8 x.groupAllowance
    ++ beOctets 8 x.groupFraction ++ (List.range 34).flatMap (fun i => beOctets 4 (nth x.reserves i))
    ++ beOctets 8 x.nextIndex ++ beOctets 8 x.confirmIndex ++ beOctets 8 x.sdpVersion ++ beOctets 6 cc
    ++ beOctets 2 (x.patVersion % 32 * 32 + x.pmtVersion % 32) ++ beOctets 8 (x.pcr / 300 * 512 + x.pcr % 300)
  body ++ beOctets 4 (crc32c body)

/-- The check channels see a course record, as sent by the ACTIVE or as received (Table 19.5 point 10). -/
def Mod.snoopRecord (m : Mod) (x : CourseRecord) : Mod :=
  let r := x.rendition.val
  m.snoop 10 r 0 (fun _ => recordOctets x) ⟨true, true, x.course⟩ x.tick (x.tick - x.course * m.rendStep r)

/-- The payload octets of a frame of repair data: a head of 16, and each block with its 4-byte header (Table 12.2, R92; log 44). -/
def RepairBody_length (b : RepairBody) : Nat := 16 + (b.blocks.map fun x => 4 + 16 * x.1.1).sum

/-- The blocks of a band in frames of at most 4,096 payload octets, each of whole blocks (Table 12.2, R217). -/
def RendCfg.repairFrames (cfg : RendCfg) (r : Fin 128) (frame c : Nat) (band : Octets) : List RepairBody :=
  (cfg.blocksOf c).foldl (fun (acc : List RepairBody) (k : Nat) =>
    let x := cfg.bandBlock c k band
    let y := (cfg.blockHeader x, x)
    match acc.getLast? with
    | some b =>
      if RepairBody_length b + 4 + 16 * y.1.1 ≤ 4096 then acc.dropLast ++ [{ b with blocks := b.blocks ++ [y] }]
      else acc ++ [⟨r, frame, k, [y]⟩]
    | none => [⟨r, frame, k, [y]⟩]) []

/-- The reconstruction band of a course, if it is still held. -/
def Mod.bandOf (m : Mod) (r frame c : Nat) : Octets := nth ((m.rend r).ref frame).bands c

/-- The band of a course goes to the partner while its rendition is in repair (R225). -/
def Mod.sendBand (m : Mod) (r : Nat) (x : CourseRecord) : Mod :=
  let k := m.rendStep r
  let frame := x.tick - x.course * k
  match m.twin.repairs.find? fun z => z.1 = r with
  | none => m
  | some z =>
    if frame < z.2.1 || z.2.1 + z.2.2 * 34 * k ≤ frame then m
    else if m.twin.skipBand.contains r then m.modTwin fun t => { t with skipBand := t.skipBand.filter fun (y : Nat) => y ≠ r }
    else
      let band := m.bandOf r frame x.course
      if band = [] then m
      else
        m.each (((m.rend r).cfgFor frame).repairFrames (Fin.ofNat 128 r) frame x.course band) fun (m : Mod) (b : RepairBody) =>
          (m.count 0x7080 6 (RepairBody_length b)).mortarSend 2 (RepairBody_length b) fun seq => .mortarRepair seq b

/-- COURSE_RECORD_CLOSE: at E + 14 µs the record is closed; the ACTIVE sends it on VC1 (R221). -/
def Mod.closeRecord (m : Mod) (r : Nat) : Mod :=
  match (m.rend r).unclosed with
  | [] => m
  | x :: rest =>
    let m := m.modRend r fun s => { s with unclosed := rest }
    if m.role = .active && m.linkUp && !m.serviceDown r 3 then
      let y := m.closing r x
      let m := (m.mortarSend 1 260 fun seq => .mortarRecords seq [y]).bump 0x7080 1
      (m.snoopRecord y).sendBand r y
    else m

/-- The fields in which two records differ, of those compared (R222): fingerprint, bitstream CRC, transport CRC, picture
count, wave position, as bits 0-4. -/
def recordDiff (a b : CourseRecord) : Nat :=
  (if a.fingerprint = b.fingerprint then 0 else 1) + (if a.bitCrc = b.bitCrc then 0 else 2)
    + (if a.tsCrc = b.tsCrc then 0 else 4) + (if a.pictureCount = b.pictureCount then 0 else 8)
    + (if a.wave = b.wave then 0 else 16)

/-- RECORD_MISMATCH (R222). -/
def Mod.mismatch (m : Mod) (x : CourseRecord) (diff : Nat) : Mod :=
  let r := x.rendition.val
  let s := m.syncOf r
  let k := m.rendStep r
  let frame := x.tick - x.course * k
  let mending : Bool := match s.repair with
    | none => false
    | some j => frame < j + m.n (0x5000 + r) 9 * 34 * k
  let m := ((m.bump 0x7080 4).markUnsynced r true).raiseCond 0x7002 r [r, x.tick, diff]
  let m := m.setSync { s with
    mismatch := true, matches_ := 0, after := 0, inSync := false, repair := if mending then s.repair else none }
  if m.role = .standby then m.setRole .unsynced else m

/-- A record that matches: 34 in a row without mismatch, or all of picture j0 + refs, bring the rendition in sync
(R228). -/
def Mod.matched (m : Mod) (x : CourseRecord) : Mod :=
  let r := x.rendition.val
  let s := m.syncOf r
  let k := m.rendStep r
  let frame := x.tick - x.course * k
  let probe : Bool := match s.repair with
    | none => false
    | some j => frame = j + m.n (0x5000 + r) 9 * 34 * k
  let after := if probe then s.after + 1 else s.after
  let repaired := probe && after = 34
  let ok := s.inSync || repaired || (!s.mismatch && 34 ≤ s.matches_ + 1)
  let m := if ok && !s.inSync then m.markUnsynced r false else m
  let m := if repaired then m.bump 0x7080 5 else m
  m.setSync { s with
    mismatch := if repaired then false else s.mismatch, matches_ := s.matches_ + 1, after := after, inSync := ok,
    repair := if repaired then none else s.repair }

/-- A picture takes the rate-control fields of a record of it (R145, R227), which stand for its earlier courses too: D_j, spent(j, c), the
course's bits and budget and the reserves; and from each record the count, wave position and period. -/
def PicS.adopt (p : PicS) (x : CourseRecord) : PicS :=
  let earlier := p.spent.filter fun y => y.1 < x.course
  let sum := x.spent - x.courseBits
  let known := if earlier.length = x.course && (earlier.map (·.2)).sum = sum then earlier
    else (List.range x.course).map fun i => (i, if i = 0 then sum else 0)
  { p with
    kind := if x.flags.testBit 0 then .idr else if x.flags.testBit 1 then .springer else .trailing
    full := x.cpb
    spent := known ++ [(x.course, x.courseBits)] ++ p.spent.filter fun y => x.course < y.1
    budgets := (p.budgets.filter fun y => y.1 ≠ x.course) ++ [(x.course, x.budget)]
    reserves := x.reserves
    count := x.pictureCount
    wave := x.wave
    period := x.period }

/-- The last courses of the same band keep the adopted bits and the adopted course offset, on which later estimates rest (R132). -/
def RendS.adoptHist (s : RendS) (x : CourseRecord) (frame : Nat) : RendS :=
  let qp := s.baseQp frame + x.offset
  { s with hist := s.hist.modify x.course fun l => l.map fun h => if h.frame = frame then { h with bits := x.courseBits, qp := qp } else h }

/-- Adoption while a rendition is in repair (R227): rate-control fields from each record before the plan two courses later; output fields
before the next course is packed. What the course gives back to its group is what the record's bits leave (R139). The text of the session description follows the adopted version, which stands (R164, R165). -/
def Mod.adopt (m : Mod) (x : CourseRecord) (own : Option CourseRecord) : Mod :=
  let r := x.rendition.val
  let k := m.rendStep r
  let frame := x.tick - x.course * k
  match (m.syncOf r).repair with
  | none => m
  | some j =>
    if j + m.n (0x5000 + r) 9 * 34 * k ≤ frame then m
    else
      let cfg := (m.rend r).cfgFor frame
      let cc := x.counters
      let pids := [(0, nth cc 0), (cfg.pmtPid, nth cc 1), (cfg.videoPid, nth cc 2)]
        ++ (List.range 8).map (fun (i : Nat) => (cfg.audioBase + i, nth cc (3 + i))) ++ [(cfg.ancPid, nth cc 11)]
      let m := m.modRend r fun s =>
        { ((s.modPic frame fun p => p.adopt x).adoptHist x frame) with
          nextIndex := x.nextIndex
          counters := pids ++ s.counters.filter fun p => !(pids.map (·.1)).contains p.1 }
      let m := m.settleNext r ((m.rend r).pic frame)
      let m := if cfg.group < 32 then
          m.modGroup cfg.group fun g =>
            { g with
              allowance := x.groupAllowance
              frac := (x.groupFraction * m.fam.b + 2 ^ 63) / 2 ^ 64
              refunds := match own with
                | none => g.refunds
                | some y => g.refunds + (x.budget - x.courseBits) - (y.budget - y.courseBits) }
        else m
      let m := (m.put (0x5880 + r) 7 x.patVersion).put (0x5880 + r) 8 x.pmtVersion
      m.adoptSdp r x.sdpVersion

/-- One record received, compared where the module has values of its own for that tick (R222). -/
def Mod.takeRecord (m : Mod) (x : CourseRecord) : Mod :=
  let r := x.rendition.val
  let m := if m.role = .active then m else m.snoopRecord x
  if m.role ≠ .standby && m.role ≠ .unsynced then m
  else
    let s := m.syncOf r
    let m := (m.setSync { s with lastTick := some x.tick, confirm := some x.confirmIndex }).modTwin fun t =>
      { t with missingSince := none }
    if !m.runningRends.contains r then m
    else
      let own := ((m.rend r).records ++ (m.rend r).unclosed).find? fun y => y.tick = x.tick && y.course = x.course
      let m := match own with
        | none => m
        | some y =>
          let m := m.bump 0x7080 2
          if recordDiff x y = 0 then m.matched x else m.mismatch x (recordDiff x y)
      (m.adopt x own).tryStandby

/-- COURSE_RECORDS (R222). -/
def Mod.takeRecords (m : Mod) (h : MortarHdr) (l : List CourseRecord) : Mod :=
  m.sequenced h 1 fun m => m.each l fun (m : Mod) (x : CourseRecord) => m.takeRecord x

/-- The end of slot 31 of the base tick in which the record of a course is due: the one that begins at its handoff E (R221, R223). -/
def Mod.recordDue (m : Mod) (r tick : Nat) : Nanos :=
  m.fam.edge (m.firstHandoff r tick) + 32 * m.fam.a * second / (64 * m.fam.b)

/-- RECORD_MISSING: not received by the end of slot 31 of its base tick (R223). -/
def Mod.recordMissing (m : Mod) (r tick : Nat) : Mod :=
  let s := m.syncOf r
  let had : Bool := match s.lastTick with
    | none => false
    | some T => tick ≤ T
  if (m.role = .standby || m.role = .unsynced) && m.runningRends.contains r && !had && isCourseTick tick (m.rendStep r)
      && m.recordDue r tick ≤ m.now then
    (m.bump 0x7080 3).modTwin fun t => { t with missingSince := some (t.missingSince.getD m.ctr) }
  else m

/-- ELIGIBILITY_HOLD_EXPIRY (R223). -/
def Mod.holdExpired (m : Mod) : Mod :=
  match m.twin.missingSince with
  | none => m
  | some since =>
    if m.role = .standby && since + m.n 0x7000 0x0A ≤ m.ctr then (m.setRole .unsynced).raiseCond 0x700E 0 [] else m

/-! ### Reference repair (R225, R226) -/

/-- A picture of the reference region takes received blocks in place of its own: their samples and headers; a block that failed is
good again (R92, R100, R225). -/
def RefPic.takeBlocks (p : RefPic) (cfg : RendCfg) (first : Nat) (blocks : List ((Nat × Bool) × Octets)) : RefPic :=
  blocks.zipIdx.foldl (fun (p : RefPic) (x : ((Nat × Bool) × Octets) × Nat) =>
    let k := first + x.2
    { p with
      bands := p.bands.modify (cfg.courseOfBlock k) fun b => cfg.setBlock (cfg.courseOfBlock k) k x.1.2 b
      headers := p.headers.set k x.1.1
      bad := p.bad.filter fun y => y ≠ k }) p

/-- REPAIR_DATA: the received blocks replace the module's own reconstruction (R225). -/
def Mod.takeRepair (m : Mod) (h : MortarHdr) (b : RepairBody) : Mod :=
  m.sequenced h 2 fun m =>
    if m.role ≠ .unsynced then m
    else
      let r := b.rendition.val
      let k := m.rendStep r
      let s := m.syncOf r
      let refs := m.n (0x5000 + r) 9
      let fresh : Bool := match s.repair with
        | none => true
        | some j => j + refs * 34 * k ≤ b.tick
      let m := m.count 0x7080 6 h.length
      let m := if fresh then (m.setSync { s with repair := some b.tick, after := 0, mismatch := true }).raise 0x7003 r [r, b.tick]
        else m
      m.modRend r fun s => s.modRef b.tick fun p => p.takeBlocks (s.cfgFor b.tick) b.firstBlock b.blocks

/-- What a repair costs in b/s: raw picture × 8 / frame period (R226). -/
def Mod.repairRate (m : Mod) (r : Nat) : Nat :=
  let k := m.rendStep r
  (pictureBytes (m.n (0x5000 + r) 3) (m.n (0x5000 + r) 5) (m.n (0x5000 + r) 6) * 8 * m.fam.b + 34 * k * m.fam.a - 1)
    / (34 * k * m.fam.a)

/-- The repair budget in b/s (R226). -/
def Mod.repairBudget (m : Mod) : Nat :=
  min (m.n 0x7000 0x0B) (if m.n 0x7040 7 = 4 then 95000 else 190000) * 1000000

/-- Whether a repair's bands still go out at a tick: until the last one of picture j0 + refs - 1 is final (R225). -/
def Mod.streaming (m : Mod) (T : Nat) (z : Nat × Nat × Nat) : Bool := T < m.firstHandoff z.1 (z.2.1 + z.2.2 * 34 * m.rendStep z.1)

/-- The first picture of a rendition whose course 0 is handed over at or after a tick (R225). -/
def Mod.repairFrom (m : Mod) (r T : Nat) : Nat := nextOnGrain (T - m.firstHandoff r 0) (34 * m.rendStep r)

/-- The first of the awaiting renditions that fit, in ascending number (R226). -/
def Mod.startRepairs (m : Mod) (T : Nat) : List Nat → Mod
  | [] => m
  | r :: rest =>
    let used := ((m.twin.repairs.filter fun z => m.streaming T z).map fun z => m.repairRate z.1).sum
    if m.repairBudget < used + m.repairRate r then m
    else
      let j := m.repairFrom r T
      let m := m.modTwin fun t =>
        { t with
          repairs := t.repairs ++ [(r, j, m.n (0x5000 + r) 9)],
          awaiting := t.awaiting.filter fun (x : Nat) => x ≠ r }
      (m.raise 0x7003 r [r, j]).startRepairs T rest

/-- The repair pass at a tick (R226): waiting repairs start while they fit, each at its j0. A repair is kept until two pictures after
the one that tells its success, so that the partner's Status can follow (log 43). -/
def Mod.repairPass (m : Mod) (T : Nat) : Mod :=
  if m.role ≠ .active then m
  else
    let m := m.modTwin fun t =>
      { t with
        repairs := t.repairs.filter fun (z : Nat × Nat × Nat) =>
          T < m.firstHandoff z.1 (z.2.1 + (z.2.2 + 3) * 34 * m.rendStep z.1) && m.fn (rendFid z.1) = running,
        awaiting := t.awaiting.filter fun (r : Nat) => m.runningRends.contains r }
    m.startRepairs T ((List.range 128).filter fun r => m.twin.awaiting.contains r)

/-- Whether a rendition that starts here joins what the ACTIVE already runs: no new sequence, in repair from its first
picture (R229). -/
def Mod.joins (m : Mod) (r : Nat) : Bool :=
  m.role = .unsynced && m.linkUp && m.partnerActive && (m.syncOf r).lastTick ≠ none

/-- A rendition has started: its standing begins anew (R228, R229). -/
def Mod.syncStart (m : Mod) (r : Nat) : Mod :=
  if m.n 0x7040 1 = 0 then m
  else
    let s := m.syncOf r
    let m := m.setSync { RendSync.fresh r with lastTick := s.lastTick, confirm := s.confirm, mismatch := m.joins r }
    if m.role = .standby then m.setRole .unsynced else m

/-! ### Countersign (R235) -/

/-- COUNTERSIGN_REQUEST: the partner countersigns unless it has lately sent ACQUIRE. -/
def Mod.takeCountersignRequest (m : Mod) (h : MortarHdr) (term req : Nat) : Mod :=
  m.sequenced h 0 fun m =>
    let recent : Bool := match m.twin.acquireAt with
      | none => false
      | some t => m.ctr < t + m.lease + guardTime + 100000
    if (m.role = .standby || m.role = .unsynced) && !recent && !m.coreCoasts then
      (m.modTwin fun t => { t with countersignHold := m.ctr + m.lease + guardTime }).mortarSend 0 20 fun seq =>
        .mortarCountersign seq term req m.lease
    else m

/-- COUNTERSIGN: the renewal through the partner counts from the request's send time. -/
def Mod.takeCountersign (m : Mod) (h : MortarHdr) (term req : Nat) : Mod :=
  m.sequenced h 0 fun m =>
    match m.twin.outstanding.find? fun x => x.1 = req && x.2.1 = 3 with
    | none => m
    | some x =>
      if m.role ≠ .active || term ≠ m.term then m
      else
        let began := !m.twin.viaPartner
        let m := (m.modTwin fun t => { t with countersigned := some x.2.2, viaPartner := true }).bump 0x7080 0x0A
        if began then m.raise 0x700C 0 [] else m

/-- COUNTERSIGN_REQUEST_TIMER: every 100 µs while the quorum end is less than 200 µs away (R235). -/
def Mod.askPartner (m : Mod) (epoch : Nat) : Mod :=
  let near : Bool := match m.quorumStart with
    | none => true
    | some t => t + m.lease < m.ctr + 200000
  if m.role = .active && m.linkUp && near && m.twin.askAt + 100000 ≤ m.ctr then
    let req := m.nextRequest epoch
    let m := m.modTwin fun t =>
      { t with requests := t.requests + 1, askAt := m.ctr, outstanding := t.outstanding ++ [(req, 3, m.ctr)] }
    m.mortarSend 0 16 fun seq => .mortarCountersignRequest seq m.term req
  else m

/-- RENEW_TIMER: every 100 µs to every witness (R235). -/
def Mod.renewLease (m : Mod) (epoch : Nat) : Mod :=
  if m.role = .active && m.twin.renewAt + 100000 ≤ m.ctr && !m.coreCoasts then
    (m.modTwin fun t => { t with renewAt := m.ctr }).askWitnesses epoch 1 0 0
  else m

/-- Whether the module is to send ACQUIRE (R236). -/
def Mod.acquires (m : Mod) : Bool :=
  m.twinFn = running
    && (m.role = .standby || m.role = .fenced || (m.role = .unsynced && m.flag 0x7000 9))
    && (!m.linkUp || m.twin.mortar.silent || (match m.twin.partner with
      | none => false
      | some p => p.role ≠ .active))
    && m.twin.countersignHold ≤ m.ctr

/-- ACQUIRE_TIMER: every 100 µs to every witness (R236). -/
def Mod.acquireLease (m : Mod) (epoch : Nat) : Mod :=
  let due : Bool := match m.twin.acquireAt with
    | none => true
    | some t => t + 100000 ≤ m.ctr
  if m.acquires && due then
    let flags := (if m.role = .standby then 1 else 0) + (if m.role = .unsynced then 2 else 0)
    (m.modTwin fun t => { t with acquireAt := some m.ctr }).askWitnesses epoch 2 0 flags
  else m

/-- Whether a quorum has released the keystone to the partner (R241, Table 12.8). -/
def Mod.releasedByQuorum (m : Mod) : Bool := match m.twin.handover with
  | none => false
  | some x => m.quorum ≤ x.released.length

/-- LEASE_FENCE: the own counter reaches K × (1 − 10⁻⁴) from t_s of the effective end (R237). Once a quorum has released the keystone
to the partner, the launches end at the release point instead (R241, log 44). -/
def Mod.leaseFence (m : Mod) : Mod :=
  if m.role ≠ .active || m.releasedByQuorum then m
  else
    match m.effectiveStart with
    | none => m.fence 1 none
    | some t => if t + m.lease * 9999 / 10000 ≤ m.ctr then m.fence 1 none else m

/-! ### Becoming ACTIVE (R236, R240, R241, R243) -/

/-- New sequences on the new ACTIVE (R243): each RUNNING rendition begins one at the first picture handed over at or after
a tick, without EOS; ev 700F. -/
def Mod.newSequences (m : Mod) (from_ : Nat) : Mod :=
  let m := m.each m.runningRends fun (m : Mod) (r : Nat) =>
    let g := 34 * m.rendStep r
    let lead := m.firstHandoff r 0
    let f0 := nextOnGrain (from_ - lead) g
    let last := ((m.rend r).pics.map (·.frame)).foldl max 0
    let f := if f0 ≤ last then last + g else f0
    m.modRend r fun s => { s with sequences := (s.sequences.filter fun (x : Nat × Nat) => x.1 < f) ++ [(f, 2)] }
  m.raise 0x700F 0 []

/-- The launch time of the last confirmed datagram, from the records received (R240). -/
def Mod.lastConfirmed (m : Mod) : Option Nanos :=
  (m.twin.sync.filterMap fun x => x.confirm.bind fun c =>
    ((m.rend x.rend).lately.find? fun y => y.1 = c).map (·.2)).foldl
      (fun (acc : Option Nanos) (x : Nanos) => some (max x (acc.getD 0))) none

/-- The module becomes ACTIVE with a term: by handover from X on, by ACQUIRE from now on (R240, R241). -/
def Mod.becomeActive (m : Mod) (term : Nat) (starts : List (Nat × Nanos)) : Mod :=
  let unsynced := m.role = .unsynced
  let m := m.put 0x7040 3 term
  let m := m.modTwin fun t =>
    { t with
      renewed := starts,
      countersigned := none,
      viaPartner := false,
      grants := [],
      renewAt := 0,
      handover := none,
      awaiting := [],
      repairs := [] }
  match m.twin.successor with
  | some (B, X, withRestart) =>
    let m := (m.modTwin fun t =>
      { t with launchFrom := some (max X m.now), launchUntil := none, successor := none }).setRole .active
    let m := m.put 0x7040 0x0D B
    let m := if withRestart then m.newSequences B else m
    m.sendPlacement
  | none =>
    let span := match m.lastConfirmed with
      | none => 0
      | some t => m.now - t
    let m := (m.modTwin fun t => { t with launchFrom := some m.now, launchUntil := none }).setRole .active
    let m := ((m.put 0x7040 0x0D m.tick).put 0x7040 0x0E span).putMax 0x7080 0x0D span
    let m := (m.bump 0x7080 7).raise 0x7005 0 [m.now, span]
    let m := if unsynced then m.newSequences (m.fam.firstAt (m.now - (m.n 0x5A00 1 + 20000)) 1) else m
    m.sendPlacement

/-- GRANT of witness w (R235, R236, R241): a renewal of the ACTIVE, or one toward a quorum for its term. A GRANT that answers no
request of the module answers the RELEASE of its partner, and counts only where the handover was accepted; one that answers its own
ACQUIRE ends any handover accepted before (log 44). -/
def Mod.takeGrant (m : Mod) (w : Nat) (x : KMsg) : Mod :=
  m.fromWitness w 0x11 x fun m =>
    if x.subject ≠ m.fuse then m
    else
      let sent := (m.twin.outstanding.find? fun y => y.1 = x.req && y.2.1 = w).map (·.2.2)
      if m.role = .active then
        match sent with
        | none => m
        | some t =>
          if x.term ≠ m.term then m
          else
            let m := m.modTwin fun s =>
              { s with
                renewed := (s.renewed.filter fun (y : Nat × Nanos) => y.1 ≠ w) ++ [(w, t)],
                outstanding := s.outstanding.filter fun (y : Nat × Nat × Nanos) => !(y.1 = x.req && y.2.1 = w) }
            (m.putMax 0x7080 0x0E ((m.ctr : Int) - t)).modTwin fun s =>
              { s with viaPartner := s.viaPartner && (match m.quorumStart with
                | none => true
                | some q => q + m.lease < m.ctr + 200000) }
      else if m.role = .notPaired || (if sent = none then m.twin.successor = none else m.role = .unsynced && !m.flag 0x7000 9) then m
      else
        let t := sent.getD m.ctr
        let grants := (m.twin.grants.filter fun y => y.1 ≠ w) ++ [(w, x.term, t)]
        let m := m.modTwin fun s => { s with grants := grants }
        let same := grants.filter fun y => y.2.1 = x.term
        if m.quorum ≤ same.length then
          let m := if sent = none then m else m.modTwin fun s => { s with successor := none }
          m.becomeActive x.term (same.map fun y => (y.1, y.2.2))
        else m

/-- REFUSE of witness w: a lease mismatch raises ev 7013 (R234). -/
def Mod.takeRefuse (m : Mod) (w : Nat) (x : KMsg) : Mod :=
  m.fromWitness w 0x12 x fun m => if x.result = 6 then m.raiseLimited 0x7013 w second [w, m.lease] else m

/-! ### Handover (R241-R244) -/

/-- Whether the partner's Status shows a role. -/
def Mod.partnerIs (m : Mod) (r : Role) : Bool := match m.twin.partner with
  | none => false
  | some p => m.linkUp && p.role = r

/-- The condition of R241 that a handover command fails, if any: 1 not ACTIVE, 2 pending, 3 plain and the partner not
STANDBY, 4 with restart and the partner neither STANDBY nor UNSYNCED. -/
def Mod.handoverFault (m : Mod) (kind : Nat) (pendingToo : Bool) : Option Nat :=
  if m.role ≠ .active then some 1
  else if pendingToo && (m.n 0x7010 0 = 1 || m.twin.handover ≠ none) then some 2
  else if kind = 1 && !m.partnerIs .standby then some 3
  else if kind = 2 && !(m.partnerIs .standby || m.partnerIs .unsynced) then some 4
  else none

/-- The ACTIVE begins a handover at boundary B: it sends Handover, and launches before the release point only (R215, R241). -/
def Mod.beginHandover (m : Mod) (B : Nat) (withRestart thermal : Bool) : Mod :=
  let X := m.fam.edge B + m.n 0x5A00 1 + 20000
  let m := (m.modTwin fun t =>
    { t with handover := some ⟨B, X, withRestart, false, thermal, false, []⟩, launchUntil := some X }).put 0x7010 0 1
  m.mortarSend 0 9 fun seq => .mortarHandover seq B withRestart

/-- HANDOVER_APPLY: a commanded handover at its apply tick T, tested again (R241). -/
def Mod.applyHandover (m : Mod) (kind T : Nat) : Mod :=
  match m.handoverFault kind false with
  | some c => (m.put 0x7010 0 0).raise 0x7014 0 [c]
  | none => m.beginHandover (nextOnGrain T 4) (kind = 2) false

/-- A handover that the ACTIVE begins by itself (R242): plain to a STANDBY, with restart to an UNSYNCED partner where
7000:09 allows. Answers whether one began. -/
def Mod.autoHandover (m : Mod) (B : Nat) (thermal : Bool) : Mod × Bool :=
  if m.role ≠ .active || m.twin.handover ≠ none then (m, false)
  else if m.partnerIs .standby then (m.beginHandover B false thermal, true)
  else if m.partnerIs .unsynced && m.flag 0x7000 9 then (m.beginHandover B true thermal, true)
  else (m, false)

/-- HANDOVER: the partner accepts (R241). -/
def Mod.takeHandover (m : Mod) (h : MortarHdr) (B : Nat) (withRestart : Bool) : Mod :=
  m.sequenced h 0 fun m =>
    if m.role = .standby || (m.role = .unsynced && withRestart) then
      let X := m.fam.edge B + m.n 0x5A00 1 + 20000
      (m.modTwin fun t => { t with successor := some (B, X, withRestart), grants := [], outstanding := [] }).mortarSend 0 8 fun seq =>
        .mortarHandoverAccept seq B
    else m

/-- HANDOVER_BOUNDARY: at B the ACTIVE sends RELEASE naming the partner (R241). -/
def Mod.handoverBoundary (m : Mod) (epoch : Nat) : Mod :=
  match m.twin.handover with
  | none => m
  | some x =>
    if m.role = .active && x.accepted && !x.sent && m.fam.edge x.boundary ≤ m.now then
      let m := m.askWitnesses epoch 3 (m.n 0x7000 2) 0
      m.modTwin fun t => { t with handover := some { x with sent := true } }
    else m

/-- HANDOVER_ACCEPT (R241): where the boundary has passed already, RELEASE goes at once (log 44). -/
def Mod.takeAccept (m : Mod) (epoch : Nat) (h : MortarHdr) (B : Nat) : Mod :=
  m.sequenced h 0 fun m =>
    (m.modTwin fun t => { t with handover := t.handover.map fun (x : HandoverS) =>
      if x.boundary = B then { x with accepted := true } else x }).handoverBoundary epoch

/-- RELEASED of witness w (R241). -/
def Mod.takeReleased (m : Mod) (w : Nat) (x : KMsg) : Mod :=
  m.fromWitness w 0x13 x fun m =>
    m.modTwin fun t => { t with handover := t.handover.map fun (y : HandoverS) =>
      { y with released := (y.released.filter fun (z : Nat) => z ≠ w) ++ [w] } }

/-- Every rendition that runs stops at its first frame tick at or after a tick, as if by command: pending commands of
renditions go, and with them the change sets that restarts sealed (R242, R354). -/
def Mod.stopRenditions (m : Mod) (after : Nat) : Mod :=
  let isRend (f : Nat) : Bool := within f 0x200 0x27F
  let sets := (m.preud.changeSets.filter fun x => isRend x.fid).map fun x => x.fid
  let pending := (m.preud.fnCmds.filter fun x => isRend x.fid && x.cmd = 1).map fun x => x.fid
  let m : Mod := { m with
    preud := { m.preud with
      fnCmds := m.preud.fnCmds.filter fun (y : FnCmd) => !isRend y.fid
      changeSets := m.preud.changeSets.filter fun (x : ChangeSet) => !isRend x.fid } }
  let m := m.each sets fun (m : Mod) (f : Nat) => m.raise 0x1103 f [f, 1]
  let m := m.each pending fun (m : Mod) (f : Nat) => if m.fn f = starting then m.setFn f stopped else m
  let on := (List.range 128).filter fun r => m.fn (rendFid r) = running || m.fn (rendFid r) = starting
  m.each on fun (m : Mod) (r : Nat) =>
    let c : FnCmd := ⟨rendFid r, 2, nextOnGrain after (m.fnGrain (rendFid r)), none, false, 0, 0, m.preud.nextOrder⟩
    { m with preud := { m.preud with fnCmds := m.preud.fnCmds ++ [c], nextOrder := m.preud.nextOrder + 1 } }

/-- RELEASE_POINT: at X the old ACTIVE becomes STANDBY, or FENCED (R241, R242, Table 12.8). -/
def Mod.releasePoint (m : Mod) : Mod :=
  match m.twin.handover with
  | none => m
  | some x =>
    if m.role ≠ .active || m.now < x.release then m
    else
      let m := m.put 0x7010 0 0
      let done := m.quorum ≤ x.released.length
      let finish (m : Mod) : Mod := ((m.put 0x7040 0x0D x.boundary).bump 0x7080 8).raise 0x7006 0 [x.boundary, x.release]
      if !done then (m.fence 2 (some x.release)).raise 0x7010 0 []
      else if x.thermal then finish ((m.fence 3 (some x.release)).stopRenditions (m.tick + 1))
      else
        let m := (m.setRole .standby).modTwin fun t =>
          { t with
            launchUntil := some x.release,
            handover := none,
            renewed := [],
            countersigned := none,
            outstanding := [],
            missingSince := none,
            sync := m.runningRends.map fun (r : Nat) => { RendSync.fresh r with inSync := true, matches_ := 34 } }
        finish m

/-- Whether the module has output paths and every logical port carrying one is down. -/
def Mod.outputsDown (m : Mod) : Bool :=
  let ports := m.runningRends.flatMap fun r => m.outputPorts r
  ports ≠ [] && ports.all fun p => !m.portUp p

/-- When the output ports went down, at an edge (R242). -/
def Mod.watchOutputs (m : Mod) : Mod :=
  m.modTwin fun t => { t with portsDownAt := if m.outputsDown then some (t.portsDownAt.getD m.ctr) else none }

/-- OUTPUT_PORTS_DOWN: all of them for 10 ms (R242). -/
def Mod.portsDownHandover (m : Mod) : Mod :=
  match m.twin.portsDownAt with
  | none => m
  | some t =>
    if m.outputsDown && t + 10000000 ≤ m.ctr then (m.autoHandover (nextOnGrain (m.tick + 1) 4) false).1 else m

/-! ### The twin function (R214, R229, R238, R244) -/

/-- The twin function starts: FENCED (R238). -/
def Mod.beginTwin (m : Mod) : Mod :=
  let m := (m.modTwin fun t => t.begin m.ctr).clear 0x7041 1 4
  let m := (((m.put 0x7040 7 1).put 0x7040 8 0xFF).put 0x7040 6 0).setRole .fenced
  { m with twinFn := running }

/-- What a module with its twin function STOPPED is: not paired while the pair id is 0, else FENCED with reason 4
(R214, R244). -/
def Mod.settleRole (m : Mod) : Mod :=
  if m.twinFn ≠ stopped && m.twinFn ≠ starting then m
  else if m.n 0x7000 1 = 0 then m.setRole .notPaired
  else if m.role = .fenced then m.put 0x7040 0x0F 4
  else (m.setRole .fenced).put 0x7040 0x0F 4

/-- The twin function ends: RELEASE naming no successor if the module is ACTIVE, then FENCED with reason 4 (R244). -/
def Mod.endTwin (m : Mod) (epoch : Nat) : Mod :=
  let m := if m.role = .active then m.askWitnesses epoch 3 0 0 else m
  let m := if m.role = .fenced then m.put 0x7040 0x0F 4 else m.fence 4 none
  let m := m.modTwin fun t => t.begin m.ctr
  let m := ((m.put 0x7040 7 0).put 0x7040 8 0xFF).put 0x7040 6 0
  let m : Mod := { m with twinFn := stopped }
  m.settleRole

/-- Twin status at an edge (7040, 7041). -/
def Mod.showTwin (m : Mod) : Mod :=
  if m.n 0x7040 1 = 0 then m
  else
    let m := (m.put 0x7040 0x0B m.digest).showLease
    let bad := ((List.range 128).filter fun r => (m.n 0x7041 (1 + r / 32)).testBit (r % 32)).length
    let mending := if m.role = .active then (m.twin.repairs.filter fun z => m.streaming m.tick z).length else (m.twin.sync.filter fun x => x.repair ≠ none).length
    (m.put 0x7040 9 bad).put 0x7040 0x0A mending

/-! ### Witness role (R232-R234) -/

/-- Whether the module is a witness (R15, 1020:00). -/
def Mod.isWitness (m : Mod) : Bool := m.n 0x1021 0 = 1

/-- The record of a slot. -/
def Mod.wslot (m : Mod) (s : Nat) : WitnessSlot := (m.twin.slots.find? fun x => x.slot = s).getD ⟨s, 0, none, []⟩

/-- Replaces the record of a slot. -/
def Mod.setWslot (m : Mod) (x : WitnessSlot) : Mod :=
  m.modTwin fun t => { t with slots := (t.slots.filter fun (y : WitnessSlot) => y.slot ≠ x.slot) ++ [x] }

/-- The enabled slot of a pair. -/
def Mod.slotOfPair (m : Mod) (pair : Nat) : Option Nat :=
  (List.range 64).find? fun s => m.flag (0x7100 + s) 1 && m.n (0x7100 + s) 2 = pair

/-- The member a fuse ID is of a slot: 1 or 2. -/
def Mod.memberOf (m : Mod) (s fuse : Nat) : Option Nat :=
  if fuse ≠ 0 && m.n (0x7100 + s) 3 = fuse then some 1
  else if fuse ≠ 0 && m.n (0x7100 + s) 4 = fuse then some 2 else none

/-- Whether a request is discarded at a witness (R231): unsound, an unknown pair or sender, or a number not above the last
one accepted. -/
def Mod.witnessDiscards (m : Mod) (x : KMsg) : Bool := match m.slotOfPair x.pair with
  | none => true
  | some s => KMsg_bad x (m.octets (0x7100 + s) 6) || m.memberOf s x.sender = none ||
      match (m.wslot s).last.find? fun y => y.1 = x.sender with
      | none => false
      | some y => x.req ≤ y.2

/-- A reply of the witness about a slot: type, subject, request, lease field, reason. -/
def Mod.reply (m : Mod) (s kind subject req lease result : Nat) : Mod :=
  let m := m.send (.komund s kind (m.n (0x7100 + s) 2) m.fuse subject (m.n (0x7100 + s) 8) req lease result 0
    (m.octets (0x7100 + s) 6) (m.n 0x7000 8))
  let m := m.komundFrames
  if kind = 0x12 then m.bump 0x7140 3 else if kind = 0x11 then m.bump (0x7100 + s) 0x0A else m

/-- A witness grants the pair to a member, with a deadline K after an instant (R232). -/
def Mod.grantPair (m : Mod) (s fuse req : Nat) (from_ : Nanos) : Mod :=
  let o := 0x7100 + s
  let w := m.wslot s
  let m := ((m.put o 7 ((m.memberOf s fuse).getD 0)).put o 8 (m.n o 8 + 1)).setWslot
    { w with deadline := from_ + m.n o 5, pending := none }
  m.reply s 0x11 fuse req (m.n o 5) 0

/-- A request of a member: what every request passes first (R231, R233, R234). `grants` says whether it asks for a
grant, `leased` whether it carries a lease. -/
def Mod.atWitness (m : Mod) (x : KMsg) (leased grants : Bool) (take : Mod → Nat → Mod) : Mod :=
  if !m.isWitness then m
  else if m.witnessDiscards x then m.discardKomund
  else
    match m.slotOfPair x.pair with
    | none => m
    | some s =>
      let w := m.wslot s
      let m := m.setWslot { w with last := (w.last.filter fun (y : Nat × Nat) => y.1 ≠ x.sender) ++ [(x.sender, x.req)] }
      if leased && x.lease ≠ m.n (0x7100 + s) 5 then m.reply s 0x12 x.sender x.req (m.n (0x7100 + s) 5) 6
      else if grants && m.ctr < m.twin.restartUntil then
        m.reply s 0x12 x.sender x.req (m.twin.restartUntil - m.ctr) 5
      else take m s

/-- Whether a member is the holder of a slot. -/
def Mod.holds (m : Mod) (s fuse : Nat) : Bool := m.n (0x7100 + s) 7 ≠ 0 && m.memberOf s fuse = some (m.n (0x7100 + s) 7)

/-- RENEW at a witness (R232). -/
def Mod.witnessRenew (m : Mod) (x : KMsg) : Mod :=
  m.atWitness x true true fun m s =>
    let o := 0x7100 + s
    if m.holds s x.sender && x.term = m.n o 8 then
      let w := m.wslot s
      let m := m.setWslot { w with deadline := m.ctr + m.n o 5, pending := none }
      let m := match w.pending with
        | none => m
        | some p => m.reply s 0x12 p.sender p.req (m.n o 5 + guardTime) 1
      m.reply s 0x11 x.sender x.req (m.n o 5) 0
    else m.reply s 0x12 x.sender x.req 0 2

/-- ACQUIRE at a witness (R232). -/
def Mod.witnessAcquire (m : Mod) (x : KMsg) : Mod :=
  m.atWitness x true true fun m s =>
    let w := m.wslot s
    if m.n (0x7100 + s) 7 = 0 then m.grantPair s x.sender x.req m.ctr
    else if !x.eligible && !x.unsyncedOk then m.reply s 0x12 x.sender x.req 0 3
    else if w.deadline + guardTime ≤ m.ctr then m.grantPair s x.sender x.req m.ctr
    else m.setWslot { w with pending := some x }

/-- WITNESS_DEADLINE: the pending ACQUIRE is granted at deadline + γ (R232). -/
def Mod.witnessDeadline (m : Mod) (s : Nat) : Mod :=
  let w := m.wslot s
  match w.pending with
  | none => m
  | some x => if m.isWitness && w.deadline + guardTime ≤ m.ctr then m.grantPair s x.sender x.req m.ctr else m

/-- RELEASE at a witness (R232). -/
def Mod.witnessRelease (m : Mod) (x : KMsg) : Mod :=
  m.atWitness x false true fun m s =>
    let o := 0x7100 + s
    if !m.holds s x.sender || x.term ≠ m.n o 8 then m.reply s 0x12 x.sender x.req 0 2
    else if x.subject = 0 then
      let w := m.wslot s
      let m := ((m.put o 7 0).put o 8 (m.n o 8 + 1)).reply s 0x13 0 x.req 0 0
      match w.pending with
      | none => m
      | some p => m.grantPair s p.sender p.req m.ctr
    else if m.memberOf s x.subject ≠ none && x.subject ≠ x.sender then
      let m := m.grantPair s x.subject x.req m.ctr
      m.reply s 0x13 x.subject x.req 0 0
    else m.reply s 0x12 x.sender x.req 0 2

/-- PROBE at a witness. -/
def Mod.witnessProbe (m : Mod) (x : KMsg) : Mod := m.atWitness x false false fun m s => m.reply s 0x14 x.sender x.req 0 0

/-- KOMUND_MESSAGE_DISCARDED: a message that R231 discards is counted. -/
def Mod.komundDiscarded (m : Mod) (x : KMsg) : Mod :=
  if m.isWitness then (if m.witnessDiscards x then m.discardKomund else m)
  else if KMsg_bad x m.komundKey || x.pair ≠ m.n 0x7000 1 then m.discardKomund
  else m

/-- WITNESS_RESTART_HOLD_END (R233). -/
def Mod.restartHoldEnd (m : Mod) : Mod := if m.isWitness && m.twin.restartUntil ≤ m.ctr then m.put 0x7140 2 0 else m

/-- Witness status at an edge (7100:09, 7140). -/
def Mod.showWitness (m : Mod) : Mod :=
  if !m.isWitness then m
  else
    let m := (m.put 0x7140 1 ((List.range 64).filter fun s => m.flag (0x7100 + s) 1).length).put 0x7140 2
      (m.twin.restartUntil - m.ctr)
    m.each m.twin.slots fun (m : Mod) (x : WitnessSlot) =>
      m.put (0x7100 + x.slot) 9 (if m.n (0x7100 + x.slot) 7 = 0 then 0 else x.deadline + guardTime - m.ctr)

end Sys2Proof.Machine
end

