-- ==== Sys2Proof/Machine/Calib.lean ====
section
/-! DEFINITION. The calibration sequencer (ch. 15): triggers, runs, stepping, quality figures and their limits. -/

namespace Sys2Proof.Machine

/-- Changes the sequencer. -/
def Mod.modCal (m : Mod) (f : CalS → CalS) : Mod := { m with cal := f m.cal }

/-- The domain of a lane (Table 15.6). -/
def laneDomain (l : Nat) : Nat := if l < 36 then l / 4 else 9

/-- The lanes of a lane domain. -/
def domainLanes (d : Nat) : List Nat := if d ≤ 8 then [4 * d, 4 * d + 1, 4 * d + 2, 4 * d + 3] else if d = 9 then [36, 37] else []

/-- Whether a domain is a DRAM channel's. -/
def isDramDomain (d : Nat) : Bool := within d 10 25

/-- Whether a lane domain has a lane in stage 5 (R293). -/
def Mod.domainLive (m : Mod) (d : Nat) : Bool := (domainLanes d).any fun l => m.n (0x2480 + l) 1 = 5

/-- Whether a DRAM channel's socket is populated. -/
def Mod.dimmIn (m : Mod) (c : Nat) : Bool := m.n (0x2140 + c) 1 ≠ 0

/-- Triggers: bring-up, temperature, command, recovery, DQS drift (1C40:0A). -/
abbrev trigBringUp : Nat := 0
abbrev trigTemperature : Nat := 1
abbrev trigCommand : Nat := 2
abbrev trigRecovery : Nat := 3
abbrev trigDrift : Nat := 4

/-- Whether a domain has a run in progress. -/
def CalS.runsIn (c : CalS) (d : Nat) : Bool := c.running.any fun x => x.domain = d

/-- A trigger of a domain: it queues one run; further ones merge into it. A lane domain with no lane in stage 5 keeps a
trigger of service for its next bring-up (R293, R294); the FIO trim is frozen while FIO is stopped (R289). -/
def Mod.trigger (m : Mod) (d trig : Nat) : Mod :=
  if (isDramDomain d && !m.dimmIn (d - 10)) || (d = 26 && m.n 0x1800 2 = 3) then m
  else if m.cal.queued.any fun x => x.1 = d then m
  else if d ≤ 9 && !m.domainLive d && trig ≠ trigBringUp && trig ≠ trigRecovery then
    if m.cal.kept.any fun x => x.1 = d then m else m.modCal fun c => { c with kept := c.kept ++ [(d, trig)] }
  else
    let m := m.modCal fun c =>
      { c with
        queued := c.queued ++ [(d, trig)],
        kept := c.kept.filter fun (x : Nat × Nat) => x.1 ≠ d }
    if m.cal.runsIn d then m else m.put (0x1C40 + d) 1 1

/-- TEMPERATURE_SAMPLE: a domain that has moved by more than the threshold since its last run, and a DRAM channel whose
DQS oscillator has drifted by more than 8 steps, are triggered while automatic calibration is on (R293). While the sensors calibrate the
reading repeats the previous one (R297). -/
def Mod.sampleTemperatures (m : Mod) (l : List DomTemp) : Mod :=
  if !m.flag 0x1C00 2 || m.cal.runsIn 27 then m
  else m.each l fun (m : Mod) (x : DomTemp) =>
    let d := x.domain.val
    let moved := (x.temp - m.z (0x1C40 + d) 5).natAbs
    if 10 * m.n 0x1C00 1 < moved then m.trigger d trigTemperature
    else if isDramDomain d && 8 < x.drift then m.trigger d trigDrift else m

/-- Whether a queued domain may start: no run of it, and no run of another DRAM channel beside a DRAM channel's. -/
def CalS.mayStart (c : CalS) (d : Nat) : Bool :=
  !c.runsIn d && (!isDramDomain d || !c.running.any fun x => isDramDomain x.domain)

/-- CALIBRATION_RUN_START: the lowest queued domain that may start (R294). -/
def Mod.startRun (m : Mod) (d : Nat) : Mod :=
  match m.cal.queued.find? fun x => x.1 = d with
  | none => m
  | some x =>
    if !m.cal.mayStart d || m.cal.queued.any (fun y => y.1 < d && m.cal.mayStart y.1) then m
    else
      let live := x.2 ≠ trigBringUp && x.2 ≠ trigRecovery && (d ≤ 26)
      (m.modCal fun c =>
        { c with
          queued := c.queued.filter fun (y : Nat × Nat) => y.1 ≠ d,
          running := c.running ++ [⟨d, x.2, live, 0, []⟩] }).put (0x1C40 + d) 1 2

/-- The most steps a run of a domain takes: 63 LSB of a lane, 256 of a DRAM channel, the 8-bit DAC of FIO (R295-R297). -/
def stepLimit (d : Nat) : Nat := if d ≤ 9 then 63 else if d ≤ 25 then 256 else 255

/-- Trims step at a base tick edge, one LSB in each run that steps in service (R295-R297). -/
def Mod.stepTrims (m : Mod) : Mod :=
  let m := m.each m.cal.running fun (m : Mod) (x : CalRun) => if x.inService then m.put (0x1C40 + x.domain) 1 3 else m
  m.modCal fun c =>
    { c with
      running := c.running.map fun (x : CalRun) =>
        if x.inService then { x with stepped := min (x.stepped + 1) (stepLimit x.domain) } else x }

/-- A retrain or fast relock cancels the remaining steps of its lanes (R295). -/
def Mod.cancelSteps (m : Mod) (lanes : List Nat) : Mod :=
  m.modCal fun c =>
    { c with
      running := c.running.map fun (x : CalRun) =>
        if x.inService then { x with cancelled := x.cancelled ++ (domainLanes x.domain).filter lanes.contains } else x }

/-- The steps a run in service makes: those to its targets, of a DRAM channel 256; none once every lane's were cancelled (R295, R296). -/
def CalRun.needs (x : CalRun) (steps : Nat) : Nat :=
  if !x.inService || (x.cancelled ≠ [] && (domainLanes x.domain).all x.cancelled.contains) then 0
  else if isDramDomain x.domain then 256 else steps

/-- Judges a figure against its marginal limit (R334): key d, or 64 + l for a lane. -/
def Mod.judgeFigure (m : Mod) (key width height : Nat) (residual : Int) : Mod :=
  let low :=
    if 64 ≤ key then width < 300 || residual < -8 || 8 < residual
    else if isDramDomain key then width < 250 || height < 40
    else residual < -8 || 8 < residual
  let rest := m.cal.marginal.filter fun x => x ≠ key
  let m := m.modCal fun c => { c with marginal := if low then rest ++ [key] else rest }
  if low then m.raise 0x1C03 key [key, if 64 ≤ key ∨ isDramDomain key then width else residual.natAbs] else m

/-- Writes the quality figures of a lane (R299, R334). -/
def Mod.laneFigures (m : Mod) (l : Nat) : Mod :=
  let w := Config.eyeWidth m.draws % 1001
  let h := Config.eyeHeight m.draws % 1001
  let r := Config.eyeResidual m.draws
  let m := (((m.put (0x1E00 + l) 1 w).put (0x1E00 + l) 2 h).putZ (0x1E00 + l) 3 r).put (0x1E00 + l) 4 0
  (m.judgeFigure (64 + l) w h r).draw

/-- Writes the quality figures of a DRAM channel, of FIO or of the sensors; they are stale once the run that measured them has ended
(R299). -/
def Mod.domainFigures (m : Mod) (d : Nat) (x : CalResult) : Mod :=
  let o := 0x1C40 + d
  let m :=
    if isDramDomain d then (m.put o 6 x.eyeWidth).put o 7 x.eyeHeight
    else if 26 ≤ d then m.putZ o 8 x.residual else m
  if d ≤ 9 then m else (m.put o 9 1).judgeFigure d x.eyeWidth x.eyeHeight x.residual

/-- A run that fails keeps its trims: counted with its time and temperature, ev 1C02, cause 0 not converged or 1 a target out of range
(R298, R299); at bring-up the domain is noted as failed (R333). -/
def Mod.failRun (m : Mod) (x : CalRun) (temp : Int) (cause : Nat) : Mod :=
  let o := 0x1C40 + x.domain
  let m := (((((m.bump o 2).bump o 3).put o 4 m.now).putZ o 5 temp).put o 1 4).put o 0x0A x.trigger
  let m := m.raise 0x1C02 x.domain [x.domain, cause]
  if x.trigger = trigBringUp && !m.cal.failed.contains x.domain then
    m.modCal fun c => { c with failed := c.failed ++ [x.domain] }
  else m

/-- A run that succeeds: counts, time, temperature, figures where its trigger lets it write them, ev 1C01 (R299). -/
def Mod.passRun (m : Mod) (x : CalRun) (res : CalResult) : Mod :=
  let o := 0x1C40 + x.domain
  let m := ((((m.bump o 2).put o 4 m.now).putZ o 5 res.temp).put o 1 0).put o 0x0A x.trigger
  let m := m.modCal fun c => { c with failed := c.failed.filter fun (d : Nat) => d ≠ x.domain }
  let m := if x.trigger = trigBringUp ∨ x.trigger = trigRecovery then
      m.domainFigures x.domain res else m
  m.raise 0x1C01 x.domain [x.domain, x.trigger, if x.inService then max x.stepped (x.needs res.steps) else res.steps]

/-- CALIBRATION_RUN_COMPLETE: a run that steps in service completes once it has made its steps; more than the range has is a target out
of range (R295-R299). -/
def Mod.endRun (m : Mod) (d : Nat) (res : CalResult) : Mod :=
  match m.cal.running.find? fun x => x.domain = d with
  | none => m
  | some x =>
    let good := res.converged && res.inRange && res.steps ≤ stepLimit d
    if good && x.stepped < x.needs res.steps then m
    else
      let m := m.modCal fun c => { c with running := c.running.filter fun (y : CalRun) => y.domain ≠ d }
      let m := if good then m.passRun x res else m.failRun x res.temp (if res.converged then 1 else 0)
      if m.cal.queued.any fun y => y.1 = d then m.put (0x1C40 + d) 1 1 else m

/-- The sequencer's core fails: runs in progress are abandoned and queued again (R364). -/
def Mod.requeueRuns (m : Mod) : Mod :=
  let again := (m.cal.running.filter fun x => !m.cal.queued.any fun y => y.1 = x.domain).map fun x => (x.domain, x.trigger)
  let m := m.each m.cal.running fun (m : Mod) (x : CalRun) => m.put (0x1C40 + x.domain) 1 1
  m.modCal fun c => { c with queued := c.queued ++ again, running := [] }

/-- CALIBRATE: 1C01:00 names a domain, or 0xFF for all (R293). -/
def Mod.calibrate (m : Mod) (d : Nat) : Mod :=
  m.each (if d = 0xFF then List.range 28 else [d]) fun (m : Mod) (x : Nat) => m.trigger x trigCommand

end Sys2Proof.Machine
end

