-- ==== Sys2Proof/Machine/Ports.lean ====
section
/-! DEFINITION. Ports, serial lanes and link bring-up (ch. 14): cages, the five stages, degradation, lane test, the
management ports. Units of bring-up: 0-31 logical ports, 32 the mortar link, 33 and 34 the backplane ports. -/

namespace Sys2Proof.Machine

/-! ### Units and their lanes (R263, R265) -/

/-- The unit of a bring-up port. -/
def unitOf : BringPort → Nat
  | .front n => n.val
  | .mortar => 32
  | .backplane b => 33 + b.val

/-- The cage of a unit; none for the backplane. -/
def cageOf (u : Nat) : Option Nat := if u < 32 then some (u / 4) else if u = 32 then some 8 else none

/-- The logical ports that the mode of a front cage has (R197). -/
def Mod.cagePorts (m : Mod) (q : Nat) : List Nat :=
  [4 * q, 4 * q + 1, 4 * q + 2, 4 * q + 3].filter fun n => m.portExists n

/-- The units of a cage. -/
def Mod.cageUnits (m : Mod) (q : Nat) : List Nat := if q = 8 then [32] else m.cagePorts q

/-- The lanes of a unit at full width, in its order. -/
def Mod.unitLanes (m : Mod) (u : Nat) : List Nat :=
  if u < 32 then
    let mode := m.n (0x2400 + u / 4) 1
    (List.range (if mode = 0 then 4 else if mode = 1 then 2 else 1)).map fun i => u + i
  else if u = 32 then [32, 33, 34, 35]
  else [u + 3]

/-- The unit that a lane belongs to under the mode of its cage. -/
def Mod.laneUnit (m : Mod) (l : Nat) : Nat :=
  if l < 32 then
    let mode := m.n (0x2400 + l / 4) 1
    if mode = 0 then l / 4 * 4 else if mode = 1 then l / 2 * 2 else l
  else if l < 36 then 32 else l - 3

/-- The bring-up of a unit. -/
def Mod.bring (m : Mod) (u : Nat) : BringS := nth m.prt.units u

/-- Changes the bring-up of a unit. -/
def Mod.modBring (m : Mod) (u : Nat) (f : BringS → BringS) : Mod :=
  { m with prt := { m.prt with units := m.prt.units.modify u f } }

/-- A cage's own state. -/
def Mod.cage (m : Mod) (q : Nat) : CageS := nth m.prt.cages q

/-- Changes a cage's own state. -/
def Mod.modCage (m : Mod) (q : Nat) (f : CageS → CageS) : Mod :=
  { m with prt := { m.prt with cages := m.prt.cages.modify q f } }

/-- The lanes an attempt of a unit runs on: its pair when degraded (R273). -/
def Mod.attemptLanes (m : Mod) (u : Nat) : List Nat :=
  match (m.bring u).pair with
  | none => m.unitLanes u
  | some p => [u + p, u + p + 1]

/-- The stage of a unit: 2440:05-08, 2600:02-03, or the lanes of the mortar link (R266). -/
def Mod.unitStage (m : Mod) (u : Nat) : Nat :=
  if u < 32 then m.n (0x2440 + u / 4) (5 + u % 4)
  else if u = 32 then m.n (0x2480 + 32) 1
  else m.n 0x2600 (u - 31)

/-- Whether a lane is open, shorted or failed (2480:05). -/
def Mod.laneBad (m : Mod) (l : Nat) : Bool := within (m.n (0x2480 + l) 5) 1 3

/-- Whether a lane is disabled: open or shorted (R272). -/
def Mod.laneOff (m : Mod) (l : Nat) : Bool := within (m.n (0x2480 + l) 5) 1 2

/-- Shows a unit's stage on it and on its lanes; below stage 2 a lane's equalisation reads 0 (Table 21.5). -/
def Mod.setStage (m : Mod) (u stage : Nat) : Mod :=
  let m :=
    if u < 32 then m.put (0x2440 + u / 4) (5 + u % 4) stage
    else if u = 32 then m else m.put 0x2600 (u - 31) stage
  let on := m.attemptLanes u
  let m := m.each (m.unitLanes u) fun (m : Mod) (l : Nat) =>
    m.put (0x2480 + l) 1 (if m.laneOff l then 0 else if on.contains l then stage else 1)
  let m := m.modBring u fun b => { b with entered := m.ctr }
  if stage < 2 then
    m.each (m.unitLanes u) fun (m : Mod) (l : Nat) => (m.clear (0x2580 + l) 1 7).put (0x2480 + l) 2 0
  else m

/-! ### Test mode (R276, R388) -/

/-- Whether cage q runs in test mode: its function with 2400:0C set, or for M the twin function STOPPED. -/
def Mod.cageTests (m : Mod) (q : Nat) : Bool :=
  m.flag (0x2400 + q) 0x0C && (if q = 8 then m.twinFn = stopped else m.fn (portFid q) = running)

/-- Whether a lane is in test mode. -/
def Mod.laneTests (m : Mod) (l : Nat) : Bool := if l < 36 then m.cageTests (l / 4) else m.n (0x2500 + l) 1 ≠ 0

/-- Whether a unit is in test mode. -/
def Mod.unitTests (m : Mod) (u : Nat) : Bool := m.laneTests ((m.unitLanes u).headD 0)

/-! ### Media and whether a unit runs (R264, R265, R274) -/

/-- The medium in force in a cage: forced, or that of the module found (2400:02): 1 CR, 2 KR, 3 optics. -/
def Mod.medium (m : Mod) (q : Nat) : Nat := if m.n (0x2400 + q) 2 ≠ 0 then m.n (0x2400 + q) 2 else m.n (0x2440 + q) 3

/-- Whether the module in a cage supports the medium that 2400:02 forces (R265). -/
def Mod.mediumOk (m : Mod) (q : Nat) : Bool := m.n (0x2400 + q) 2 = 0 || m.n (0x2400 + q) 2 = m.n (0x2440 + q) 3

/-- The LPLL of a lane's unit (Table 15.2). -/
def unitPll (u : Nat) : Nat := if u < 16 then 2 else if u < 32 then 3 else 4

/-- Whether a clock a unit needs coasts (R285, R286). -/
def Mod.unitUnclocked (m : Mod) (u : Nat) : Bool :=
  m.pllCoasts (unitPll u) || (u ≤ 32 && m.coreCoasts)

/-- Whether a unit runs its stages: its function runs and its cage is ready; the backplane from boot. -/
def Mod.unitRuns (m : Mod) (u : Nat) : Bool :=
  !m.unitUnclocked u && match cageOf u with
    | none => true
    | some q =>
      m.n (0x2440 + q) 2 = 3 && m.mediumOk q
        && (if q = 8 then m.twinRuns || m.cageTests 8 else m.fn (portFid q) = running && m.portExists u)

/-- Whether a unit trains over copper. -/
def Mod.onCopper (m : Mod) (u : Nat) : Bool := match cageOf u with
  | none => true
  | some q => within (m.medium q) 1 2

/-- Whether a unit needs Clause 73 auto-negotiation (R265, R278). -/
def Mod.negotiates (m : Mod) (u : Nat) : Bool := match cageOf u with
  | none => true
  | some q => m.onCopper u && m.flag (0x2400 + q) 3

/-- The pair a degraded attempt of a unit runs on: none at full width; no attempt at all without a whole pair (R216,
R273). -/
def Mod.attemptOf (m : Mod) (u : Nat) : Option (Option Nat) :=
  let whole (l : List Nat) : Bool := l.all fun x => !m.laneBad x
  let l := m.unitLanes u
  if whole l then some none
  else match cageOf u with
    | none => none
    | some q =>
      if l.length ≠ 4 || !m.flag (0x2400 + q) 5 then none
      else if whole (l.take 2) then some (some 0)
      else if q ≠ 8 && whole (l.drop 2) then some (some 2) else none

/-! ### Leaving and entering stages -/

/-- The rate of a unit in Mb/s. -/
def Mod.unitRate (m : Mod) (u : Nat) : Nat :=
  if u < 32 then (if m.flag (0x2440 + u / 4) 9 then 200000 else m.configuredRate u)
  else if u = 32 then (if m.flag 0x2448 9 then 200000 else 400000) else 10000

/-- Causes of ev 2402: relock, retrain, fault, removal, eFuse, stop. -/
abbrev causeRelock : Nat := 0
abbrev causeRetrain : Nat := 1
abbrev causeFault : Nat := 2
abbrev causeRemoval : Nat := 3
abbrev causeFuse : Nat := 4
abbrev causeStop : Nat := 5

/-- What leaving stage 5 does: frames due to the port are discarded (R208), the backplane is down (R278). -/
def Mod.goDown (m : Mod) (u : Nat) : Mod :=
  if u < 32 then m.flushPort u
  else if 33 ≤ u then m.raiseCond 0x240D (u - 33) [u - 33, 0] else m

/-- A unit that was in stage 5 leaves it, ev 2402 (R266). A fast relock has left it already. -/
def Mod.leave (m : Mod) (u cause : Nat) : Mod :=
  if m.unitStage u = 5 then (m.goDown u).raiseCond 0x2402 u [u, cause]
  else if (m.bring u).relock then m.raiseCond 0x2402 u [u, cause] else m

/-- A unit returns to stage 1: what a bring-up found is forgotten, its checkers are unlocked. -/
def Mod.toDetect (m : Mod) (u : Nat) : Mod :=
  let m := m.each (m.unitLanes u) fun (m : Mod) (l : Nat) =>
    let m := ((m.put (0x2500 + l) 5 0).put (0x2500 + l) 6 0).put (0x2480 + l) 6 0
    if m.n (0x2480 + l) 5 = 4 then m.put (0x2480 + l) 5 0 else m
  let m := match cageOf u with
    | none => m
    | some q => if u < 32 && m.n (0x2400 + q) 1 ≠ 0 then m else m.put (0x2440 + q) 9 0
  let m := (m.setStage u 1).modBring u fun b =>
    { b with
      began := m.ctr,
      detectAt := none,
      negotiated := false,
      fec74 := false,
      relock := false,
      pair := none,
      inverted := [],
      reordered := false }
  if u = 32 && m.linkUp then m.mortarDown else m

/-- A unit leaves stage 5, if it is in it, and begins at stage 1. -/
def Mod.drop (m : Mod) (u cause : Nat) : Mod := (m.leave u cause).toDetect u

/-- A stage fails: counted, back to stage 1 (R266). -/
def Mod.failStage (m : Mod) (u : Nat) : Mod :=
  (match cageOf u with
    | none => m
    | some q => m.bump (0x2440 + q) 0x0C).toDetect u

/-- A lane fails stage 2 or 3; three times in a row class it failed, ev 240C (R266). -/
def Mod.laneFails (m : Mod) (l : Nat) : Mod :=
  let k := nth m.prt.fails l + 1
  let m : Mod := { m with prt := { m.prt with fails := m.prt.fails.set l k } }
  if k = 3 then (m.put (0x2480 + l) 5 3).raise 0x240C l [l] else m

/-- A lane passes stages 2 and 3. -/
def Mod.lanePasses (m : Mod) (l : Nat) : Mod := { m with prt := { m.prt with fails := m.prt.fails.set l 0 } }

/-- Enters stage 2: the lanes' domain calibrates (R293). -/
def Mod.toTraining (m : Mod) (u trig : Nat) : Mod := (m.setStage u 2).trigger (laneDomain ((m.unitLanes u).headD 0)) trig

/-- Enters stage 5: ev 2401 with port, rate and the time since stage 1 began (R266); a degraded port says so (R273). -/
def Mod.toActive (m : Mod) (u : Nat) : Mod :=
  let b := m.bring u
  let took := m.ctr - b.began
  let m := (m.setStage u 5).modBring u fun b => { b with relock := false, declined := false }
  let m := match cageOf u with
    | none => m
    | some q => (m.put (0x2440 + q) 0x0D took).when (b.pair ≠ none) fun m => m.put (0x2440 + q) 9 1
  let m := m.each (m.attemptLanes u) fun (m : Mod) (l : Nat) => m.put (0x1E00 + l) 4 1
  let m := m.raiseClear 0x2401 u [0x2402] [u, m.unitRate u, took]
  let m := match b.pair with
    | none => m
    | some p => if u < 32 then m.raise 0x2406 u [u, p / 2] else m
  if 33 ≤ u then m.raiseClear 0x240D (u - 33) [0x240D] [u - 33, 1] else m

/-! ### Stage 1 (R266, R272, R273) -/

/-- A lane found open or shorted is disabled, ev 2403 (R272). -/
def Mod.disableLane (m : Mod) (l fault : Nat) : Mod :=
  let m := ((m.put (0x2480 + l) 5 fault).put (0x2480 + l) 1 0).raise 0x2403 l [l, fault]
  if l < 36 then m.putBit (0x2440 + l / 4) 0x0B (l % 4) true else m

/-- Stage 1 is left when every lane of the attempt shows signal and negotiation, where it is needed, has resolved; a negotiation for
another width resolves nothing, since only one mode is advertised (R265, R273). -/
def Mod.tryTrain (m : Mod) (u : Nat) : Mod :=
  match m.attemptOf u with
  | none => m
  | some p =>
    let m := m.modBring u fun b => { b with pair := p, negotiated := b.negotiated && b.pair = p }
    let b := m.bring u
    if (m.attemptLanes u).all (fun l => m.flag (0x2480 + l) 6) && (!m.negotiates u || b.negotiated) then
      m.toTraining u trigBringUp
    else m

/-- What the detect test says of a lane: 1 open, no termination; 2 short, a leg above 12 mA; 0 neither (R272). -/
def DetectObs_fault (x : DetectObs) : Nat :=
  if !x.terminated then 1 else if 12000 < x.legs.1 || 12000 < x.legs.2 then 2 else 0

/-- Whether the detect test of a unit is due: every 10 ms (Table 14.3). -/
def Mod.detectDue (m : Mod) (u : Nat) : Bool := match (m.bring u).detectAt with
  | none => true
  | some t => t + 10000000 ≤ m.ctr

/-- DETECT_REPEAT (R266, R272). -/
def Mod.detect (m : Mod) (u : Nat) (seen : List DetectObs) : Mod :=
  if !m.unitRuns u || m.unitStage u ≠ 1 || !m.detectDue u then m
  else
    let m := m.modBring u fun b => { b with detectAt := some m.ctr }
    let m := m.each seen fun (m : Mod) (x : DetectObs) =>
      let l := x.lane.val
      if !(m.unitLanes u).contains l || m.laneBad l then m
      else if DetectObs_fault x ≠ 0 then m.disableLane l (DetectObs_fault x)
      else m.putFlag (0x2480 + l) 6 x.signal
    m.tryTrain u

/-- The rate a unit advertises in auto-negotiation: that of the configured mode, or in a degraded attempt 200 GbE (R265, R273). -/
def Mod.advertisedRate (m : Mod) (u : Nat) : Nat :=
  if u < 32 then (if ((m.attemptOf u).getD none).isSome then 200000 else m.configuredRate u)
  else if u = 32 then (if ((m.attemptOf u).getD none).isSome then 200000 else 400000) else 10000

/-- Whether a partner's offer resolves: the rate, and in a cage RS-FEC (R265, R278). -/
def Mod.resolves (m : Mod) (u : Nat) (x : AnOffer) : Bool := x.rates.contains (m.advertisedRate u) && (33 ≤ u || x.rsFec)

/-- AUTO_NEGOTIATION_RESOLVED: a partner that does not resolve leaves the port in stage 1, counted (R265); on the backplane Clause 74 FEC
runs where 2600:01 is set and the partner agrees (R278). -/
def Mod.negotiated (m : Mod) (u : Nat) (x : AnOffer) : Mod :=
  if !m.unitRuns u || m.unitStage u ≠ 1 || !m.negotiates u then m
  else if m.resolves u x then
    (m.modBring u fun b =>
      { b with
        negotiated := true,
        pair := (m.attemptOf u).getD none,
        fec74 := 33 ≤ u && x.fec74 && m.flag 0x2600 1 }).tryTrain u
  else match cageOf u with
    | none => m
    | some q => m.bump (0x2440 + q) 0x0C

/-! ### Stages 2 to 4 -/

/-- The limit of a unit's present stage (Table 14.3, R278). -/
def Mod.stageLimit (m : Mod) (u : Nat) : Nanos :=
  let s := m.unitStage u
  if (m.bring u).relock then 800000
  else if s = 2 then
    match cageOf u with
    | none => 500000000
    | some q => if m.onCopper u then m.n (0x2400 + q) 7 else 100000000
  else if s = 3 then 20000000 else 500000000

/-- Whether a unit is in a stage and within its limit, so that the stage can be left upward (R266). -/
def Mod.within_ (m : Mod) (u stage : Nat) : Bool :=
  m.unitRuns u && m.unitStage u = stage && m.ctr ≤ (m.bring u).entered + m.stageLimit u

/-- The figure of merit of a signal-to-noise ratio in µdB: clip(floor(10 × (S − 10)), 0, 255) (R267). -/
def meritOf (snr : Int) : Nat := min 255 ((snr - 10000000).fdiv 100000).toNat

/-- Shows a lane's figure of merit, of which the least in stage 5 is kept (R267). -/
def Mod.showFom (m : Mod) (l v : Nat) : Mod :=
  let m := m.put (0x2480 + l) 2 v
  if m.n (0x2480 + l) 1 = 5 && v < m.n (0x2480 + l) 3 then m.put (0x2480 + l) 3 v else m

/-- What equalisation settles to in training (2580, R268). -/
def Mod.settleTaps (m : Mod) (l : Nat) : Mod :=
  let tap (i : Nat) (lim : Nat) : Int := Config.laneTap m.draws i % lim
  let m := m.each [1, 2, 3, 4, 5] fun (m : Mod) (i : Nat) =>
    if l < 36 ∨ 3 ≤ i then m.putZ (0x2580 + l) i (tap i 1001) else m
  ((m.putZ (0x2580 + l) 6 (tap 6 32)).putZ (0x2580 + l) 7 (tap 7 32768)).draw

/-- TRAINING_COMPLETE: every lane with a figure of merit of at least 60 (R266, R267). -/
def Mod.trained (m : Mod) (u : Nat) (snrs : List Int) : Mod :=
  if !m.within_ u 2 then m
  else
    let l := m.attemptLanes u
    let foms := snrs.map meritOf
    let m := m.each (l.zip foms) fun (m : Mod) (x : Nat × Nat) => m.showFom x.1 x.2
    if foms.length = l.length && foms.all (fun f => 60 ≤ f) then
      (m.each l fun (m : Mod) (x : Nat) => m.settleTaps x).setStage u 3
    else m

/-- The lanes of a unit that name no partner lane of the port, or one already named (R271). -/
def badPartners (allowed : Nat → Bool) : List Nat → List Nat → List Nat → List Nat
  | l :: ls, p :: ps, taken =>
    if allowed p && !taken.contains p then badPartners allowed ls ps (p :: taken)
    else l :: badPartners allowed ls ps taken
  | _, _, _ => []

/-- The lane numbers a partner may name on a unit: those of its lanes within the cage; on a pair, either pair (R271,
R273; log 52). -/
def Mod.partnerMay (m : Mod) (u p : Nat) : Bool :=
  if (m.bring u).pair ≠ none then p < 4 else ((m.unitLanes u).map fun l => l % 4).contains p

/-- Puts the partner lanes of a unit into 2440:0A: a degraded or full port's alone, a 200G port's nibbles among others. -/
def Mod.laneOrder (m : Mod) (q : Nat) (l partner : List Nat) : Nat :=
  let all := ((l.zip partner).map fun x => x.2 * 16 ^ (x.1 % 4)).sum
  if (m.n (0x2400 + q) 1) = 1 && q < 8 then
    let old := m.n (0x2440 + q) 0x0A
    let others := [0, 1, 2, 3].filter fun i => !(l.map fun x => x % 4).contains i
    all + (others.map fun i => old / 16 ^ i % 16 * 16 ^ i).sum
  else all

/-- LOCK_COMPLETE: polarity, lane order, deskew, and stage 4 (R266, R270, R271). -/
def Mod.locked (m : Mod) (u : Nat) (obs : LockObs) : Mod :=
  let b := m.bring u
  if !m.within_ u 3 || b.relock then m
  else
    let l := m.attemptLanes u
    let inv := (obs.inverted.map fun x => x.val).filter fun x => l.contains x
    let m := m.each l fun (m : Mod) (x : Nat) => m.putFlag (0x2480 + x) 4 (inv.contains x)
    let m := m.each (inv.filter fun x => !b.inverted.contains x) fun (m : Mod) (x : Nat) => m.raise 0x2404 x [x]
    let m := m.modBring u fun b => { b with inverted := inv }
    let partner := if l.length = 1 then l.map fun x => x % 4 else obs.partner
    let bad := badPartners (fun p => m.partnerMay u p) l partner []
    if bad ≠ [] then (m.each bad fun (m : Mod) (x : Nat) => m.laneFails x).failStage u
    else if !obs.lockedAll || 200 < obs.skewNs || partner.length ≠ l.length then m
    else
      let m := match cageOf u with
        | none => m
        | some q =>
          if l.length = 1 then m
          else
            let order := m.laneOrder q l partner
            let m := m.put (0x2440 + q) 0x0A order
            if partner ≠ l.map (fun x => x % 4) && !b.reordered then
              (m.modBring u fun b => { b with reordered := true }).raise 0x2405 q [q, order]
            else m
      (m.each l fun (m : Mod) (x : Nat) => (m.lanePasses x).laneFigures x).setStage u 4

/-- CAPABILITY_COMPLETE: stage 5, after 1 ms without a fault or, on the mortar link, Hello; no port reaches it in test mode; a partner
that does not agree to a degraded mode sends the port back, ev 2407 (R266, R273, R276). -/
def Mod.capable (m : Mod) (u : Nat) (agreed : Bool) : Mod :=
  let b := m.bring u
  if !m.within_ u 4 || m.unitTests u then m
  else if (if u = 32 then !m.twin.mortar.helloHeard else m.ctr < b.entered + 1000000) then m
  else if agreed then m.toActive u
  else if b.pair = none then m
  else
    let m := m.failStage u
    if u < 32 && !b.declined then (m.modBring u fun b => { b with declined := true }).raise 0x2407 u [u] else m

/-- A fast relock fails: ev 2402, stage 1 (R269). -/
def Mod.relockFails (m : Mod) (u : Nat) : Mod := m.drop u causeFault

/-- STAGE_LIMIT_EXPIRY (R266, R273). -/
def Mod.stageExpired (m : Mod) (u : Nat) (bad : List Nat) : Mod :=
  let s := m.unitStage u
  let b := m.bring u
  if !m.unitRuns u || s < 2 || 5 ≤ s || m.ctr < b.entered + m.stageLimit u then m
  else if b.relock then m.relockFails u
  else
    let m := if s = 4 then m
      else m.each (m.attemptLanes u) fun (m : Mod) (l : Nat) => if bad.contains l then m.laneFails l else m
    let m := m.failStage u
    if s = 4 && u < 32 && b.pair ≠ none && !b.declined then
      (m.modBring u fun b => { b with declined := true }).raise 0x2407 u [u]
    else m

/-! ### Stage 5 (R267-R269) -/

/-- LOSS_OF_LOCK: lock lost, or more than 16 uncorrectable codewords within 1 ms, starts a fast relock (R269). -/
def Mod.lockLost (m : Mod) (u bad lane : Nat) : Mod :=
  if m.unitStage u ≠ 5 || !(m.attemptLanes u).contains lane then m
  else
    let m := m.count (0x2480 + lane) 0x0B bad
    if 0 < bad && bad ≤ 16 then m
    else
      let m := ((m.goDown u).put (0x2480 + lane) 5 4).cancelSteps (m.attemptLanes u)
      (m.modBring u fun b => { b with relock := true }).setStage u 3

/-- FAST_RELOCK_COMPLETE (R269). -/
def Mod.relocked (m : Mod) (u : Nat) (ok : Bool) (lane : Nat) : Mod :=
  if !(m.bring u).relock || !m.within_ u 3 then m
  else if !ok then m.relockFails u
  else
    let m := (m.bump (0x2480 + lane) 0x0A).raiseCond 0x2402 u [u, causeRelock]
    let m := m.each (m.attemptLanes u) fun (m : Mod) (l : Nat) =>
      (if m.n (0x2480 + l) 5 = 4 then m.put (0x2480 + l) 5 0 else m).laneFigures l
    m.toActive u

/-- RETRAIN_TRIGGER: below the retrain threshold for 100 ms (R269). -/
def Mod.retrain (m : Mod) (l : Nat) (snr : Int) : Mod :=
  let fom := meritOf snr
  let u := m.laneUnit l
  let limit := match cageOf u with
    | none => 40
    | some q => m.n (0x2400 + q) 8
  if m.unitStage u ≠ 5 || !(m.attemptLanes u).contains l then m
  else
    let m := m.showFom l fom
    if limit ≤ fom then m
    else (((m.bump (0x2480 + l) 9).leave u causeRetrain).cancelSteps (m.attemptLanes u)).toTraining u trigRecovery

/-- FIGURE_OF_MERIT_LOW: below 80 in stage 5, at most once per minute per lane (R267). -/
def Mod.fomLow (m : Mod) (l : Nat) (snr : Int) : Mod :=
  let fom := meritOf snr
  if m.n (0x2480 + l) 1 < 2 then m
  else
    let m := m.showFom l fom
    if m.n (0x2480 + l) 1 = 5 && fom < 80 then m.raiseLimited 0x240B l (60 * second) [l, fom] else m

/-! ### Cages (R274, R275) -/

/-- Clears the disabled-lane state of a cage: its open and shorted lanes (R272, R274). -/
def Mod.freeLanes (m : Mod) (q : Nat) : Mod :=
  let m := m.each [4 * q, 4 * q + 1, 4 * q + 2, 4 * q + 3] fun (m : Mod) (l : Nat) =>
    if m.laneOff l then m.put (0x2480 + l) 5 0 else m
  m.put (0x2440 + q) 0x0B 0

/-- Clears the failed lanes of a cage, which only a retest does (R266). -/
def Mod.freeFailed (m : Mod) (q : Nat) : Mod :=
  m.each [4 * q, 4 * q + 1, 4 * q + 2, 4 * q + 3] fun (m : Mod) (l : Nat) =>
    (if m.laneBad l then m.put (0x2480 + l) 5 0 else m).lanePasses l

/-- Every unit of a cage leaves for stage 1. -/
def Mod.dropCage (m : Mod) (q cause : Nat) : Mod := m.each (m.cageUnits q) fun (m : Mod) (u : Nat) => m.drop u cause

/-- A cage is powered down. -/
def Mod.cageOff (m : Mod) (q state : Nat) : Mod := (m.put (0x2440 + q) 2 state).put (0x2440 + q) 4 0

/-- A module refused: powered down, ev 2409 (R274). -/
def Mod.refuseCage (m : Mod) (q : Nat) : Mod := (m.cageOff q 5).raise 0x2409 q [q]

/-- A medium that the module does not support, ev 2409 (R265). -/
def Mod.judgeMedium (m : Mod) (q : Nat) : Mod :=
  if m.n (0x2440 + q) 2 = 3 && !m.mediumOk q then m.raise 0x2409 q [q] else m

/-- Whether a module is of a kind the cage takes: at most 14 W, and for optics an application of the configured mode (R274). -/
def Mod.takesModule (m : Mod) (q : Nat) (x : CageModule) : Bool :=
  x.watts ≤ 14 && (!x.optic || x.modes.contains (m.n (0x2400 + q) 1))

/-- Powers a cage and reads its module (R274). -/
def Mod.powerCage (m : Mod) (q : Nat) : Mod :=
  match (m.cage q).info with
  | none => m
  | some x =>
    let m := ((m.put (0x2440 + q) 3 x.medium).put (0x2440 + q) 4 (min x.powerMw 20000)).put (0x2440 + q) 2 1
    if !m.takesModule q x then m.refuseCage q
    else if x.optic then (m.modCage q fun c => { c with initAt := m.ctr }).put (0x2440 + q) 2 2
    else (m.put (0x2440 + q) 2 3).judgeMedium q

/-- CAGE_INSERTION: the presence signal is seen, ev 2408. -/
def Mod.insertCage (m : Mod) (q : Nat) : Mod :=
  if (m.cage q).present then m
  else (m.modCage q fun c => { c with present := true, presentAt := m.ctr, info := none }).raise 0x2408 q [q, 1]

/-- CAGE_PRESENCE_STABLE: after 100 ms of presence (R274). -/
def Mod.stableCage (m : Mod) (q : Nat) (x : CageModule) : Mod :=
  let c := m.cage q
  if !c.present || c.info ≠ none || m.ctr < c.presentAt + 100000000 then m
  else (m.modCage q fun c => { c with info := some x }).powerCage q

/-- MODULE_READY (R274). -/
def Mod.readyCage (m : Mod) (q : Nat) : Mod :=
  if m.n (0x2440 + q) 2 ≠ 2 then m else (m.put (0x2440 + q) 2 3).judgeMedium q

/-- MODULE_READY_TIMEOUT: at most the time the module advertises, and at most 60 s (R274). -/
def Mod.readyTimeout (m : Mod) (q : Nat) : Mod :=
  match (m.cage q).info with
  | none => m
  | some x =>
    if m.n (0x2440 + q) 2 = 2 && (m.cage q).initAt + min x.readyLimitNs (60 * second) ≤ m.ctr then m.refuseCage q else m

/-- CAGE_REMOVAL: every port of the cage down, disabled lanes cleared, ev 2408 (R274). -/
def Mod.removeCage (m : Mod) (q : Nat) : Mod :=
  if !(m.cage q).present then m
  else
    let m := (m.dropCage q causeRemoval).freeLanes q
    let m := (m.cageOff q 0).put (0x2440 + q) 3 0
    (m.modCage q fun _ => ⟨false, 0, none, 0⟩).raise 0x2408 q [q, 0]

/-- EFUSE_TRIP: that cage only is powered down, ev 240A (R275). -/
def Mod.tripCage (m : Mod) (q : Nat) : Mod :=
  if !within (m.n (0x2440 + q) 2) 1 3 then m
  else ((m.dropCage q causeFuse).cageOff q 4).raise 0x240A q [q]

/-- CAGE_POWER_RESET: 2400:0B repowers a cage whose eFuse has tripped (R275). -/
def Mod.repowerCage (m : Mod) (q : Nat) : Mod := if m.n (0x2440 + q) 2 = 4 then m.powerCage q else m

/-- RETEST: the whole cage goes through stage 1 (R272, R273; log 53). -/
def Mod.retest (m : Mod) (q : Nat) : Mod := ((m.freeLanes q).freeFailed q).dropCage q causeRetrain

/-! ### The port functions (R264) -/

/-- The port function of cage q starts: its units begin at stage 1, absent ports read 0 (R266); a module without an application of the
mode now configured is refused (R274, log 49). -/
def Mod.beginPort (m : Mod) (q : Nat) : Mod :=
  let m := m.freeLanes q
  let m := if q = 8 then m else
    m.each [0, 1, 2, 3] fun (m : Mod) (i : Nat) => m.put (0x2440 + q) (5 + i) 0
  let m := (m.each (m.cageUnits q) fun (m : Mod) (u : Nat) => m.toDetect u).put (0x2440 + q) 9 0
  let m := m.put (0x2440 + q) 0x0A 0x3210
  let m := (if q = 8 then m else m.setFn (portFid q) running).judgeMedium q
  match (m.cage q).info with
  | some x => if within (m.n (0x2440 + q) 2) 2 3 && !m.takesModule q x then m.refuseCage q else m
  | none => m

/-- The port function of cage q stops. -/
def Mod.endPort (m : Mod) (q : Nat) : Mod :=
  let m := m.dropCage q causeStop
  if q = 8 then m else m.setFn (portFid q) stopped

/-- The logical ports that functions not STOPPED name (R264). -/
def Mod.namedPorts (m : Mod) : List Nat :=
  ((List.range 128).flatMap fun r => if m.fn (rendFid r) = stopped then [] else m.outputPorts r)
    ++ ((List.range 16).flatMap fun s => if m.n (0x6240 + s) 1 = 0 then [] else m.playoutPorts s)
    ++ ((List.range 2).flatMap fun e => if m.fn (decodeFid e) = stopped then [] else m.decodePorts e)
    ++ (if m.timeFn = stopped then [] else maskPorts (m.n 0x1413 0))

/-- The logical ports that the configuration names, whether or not its functions run (R264). -/
def Mod.configuredPorts (m : Mod) : List Nat :=
  ((List.range 128).flatMap fun r => m.outputPorts r) ++ ((List.range 16).flatMap fun s => m.playoutPorts s)
    ++ ((List.range 2).flatMap fun e => m.decodePorts e) ++ maskPorts (m.n 0x1413 0)
    ++ (m.flowsOn.flatMap fun e => maskPorts (m.legMask e) ++ maskPorts (m.flow e 0x12) ++ maskPorts (m.flow e 0x13))

/-- Whether a stop of cage q's function is refused (R264). -/
def Mod.portHeld (m : Mod) (q : Nat) : Bool := m.namedPorts.any fun n => n / 4 = q

/-- The checks of a start of cage q's function, on the module as it would stand (R264, R207). -/
def Mod.portStartFault (m : Mod) (q : Nat) : Option Refuse :=
  match m.configuredPorts.find? fun n => n / 4 = q && !m.portExists n with
  | some _ => some ⟨fitCheck, 0x2401, 0x2400 + q, 1⟩
  | none => (m.fabricFault (m.cagePorts q)).map fun r => ⟨fitCheck, r, 0x2400 + q, 1⟩

/-! ### Lane test (R276, R277, R388) -/

/-- Whether a pattern is one of the PAM4 patterns PRBS13Q, PRBS31Q, SSPRQ. -/
def pam4Pattern (p : Nat) : Bool := within p 7 9

/-- CHECKER_LOCK: after 64 error-free bits or symbols (R276). -/
def Mod.checkerLocks (m : Mod) (l : Nat) (inverted : Bool) (errorFree : Nat) : Mod :=
  if !m.laneTests l || m.n (0x2500 + l) 2 = 0 || errorFree < 64 || m.flag (0x2500 + l) 5 then m
  else (m.put (0x2500 + l) 5 1).putFlag (0x2500 + l) 6 inverted

/-- The bits per second of a pattern on a lane: on PAM4 lanes one per symbol, two for the PAM4 patterns (R263, R276). -/
def patternRate (l p : Nat) : Nat :=
  if 36 ≤ l then 10312500000 else if pam4Pattern p then 106250000000 else 53125000000

/-- Whole bits of a rate up to an instant. -/
def bitsTo (rate t : Nat) : Nat := rate * t / second

/-- Whether a lane sends its pattern. -/
def Mod.generates (m : Mod) (l : Nat) : Bool := m.laneTests l && m.n (0x2500 + l) 1 ≠ 0

/-- INJECT_ONE_ERROR: one bit inverted at the next symbol (R277). -/
def Mod.injectOne (m : Mod) (l : Nat) : Mod := if m.generates l then m.bump (0x2500 + l) 8 else m

/-- What a lane's counters gain in the tick between two instants: errors injected, bits checked and bit errors in test
mode, codewords in stage 5 (R276, R277, 2480:07-08). -/
def Mod.runLane (m : Mod) (from_ upto : Nanos) (l : Nat) : Mod :=
  let o := 0x2500 + l
  let m :=
    if m.generates l && m.n o 4 ≠ 0 then
      let rate := patternRate l (m.n o 1)
      m.count o 8 (bitsTo rate upto / 2 ^ m.n o 4 - bitsTo rate from_ / 2 ^ m.n o 4)
    else m
  let m :=
    if m.laneTests l && m.flag o 5 then
      let rate := patternRate l (m.n o 2)
      let bits := bitsTo rate upto - bitsTo rate from_
      ((m.count o 7 bits).count o 9 (min bits (Config.bitErrors m.draws))).draw
    else m
  if m.n (0x2480 + l) 1 = 5 then
    let m := (m.count (0x2480 + l) 7 (Config.codewords m.draws)).count (0x2480 + l) 8 (Config.corrected m.draws)
    (m.putZ (0x2580 + l) 7 (Config.laneTap m.draws 7 % 32768)).draw
  else m

/-- The lanes over one base tick; in test mode figures are updated every 100 ms (R299). -/
def Mod.runLanes (m : Mod) (from_ upto : Nanos) : Mod :=
  let m := m.each (List.range 38) fun (m : Mod) (l : Nat) => m.runLane from_ upto l
  if from_ / 100000000 = upto / 100000000 then m
  else m.each ((List.range 38).filter fun l => m.laneTests l && 3 ≤ m.n (0x2480 + l) 1) fun (m : Mod) (l : Nat) => m.laneFigures l

/-- The checks of a generator write on backplane lane 36 + b (R276, R388): `route` is the one the request came on. -/
def Mod.generatorFault (m : Mod) (b pattern : Nat) (route : Route) : Option Refuse :=
  let o := 0x2524 + b
  if pattern = 0 then none
  else if pam4Pattern pattern then some ⟨fitCheck, 0x2402, o, 1⟩
  else if m.n 0x2600 (3 - b) ≠ 5 then some ⟨accessDenied, 0, o, 1⟩
  else if route = (if b = 0 then .b0 else .b1) then some ⟨conflict, 0, o, 1⟩
  else none

/-- BACKPLANE_GENERATOR_WRITE: a pattern puts the lane in test mode, off returns it to stage 1 (R388). -/
def Mod.writeGenerator (m : Mod) (b pattern : Nat) : Mod := (m.put (0x2524 + b) 1 pattern).drop (33 + b) causeStop

/-! ### Management ports (R278, R279) -/

/-- BACKPLANE_LINK_CHANGE: a link that is up enters stage 5 from stage 4, one that is down leaves it (R266, R278). -/
def Mod.backplaneLink (m : Mod) (b : Nat) (up : Bool) : Mod :=
  let u := 33 + b
  if up then m.capable u true
  else if m.unitStage u = 5 then m.drop u causeFault else m

/-- The service port's link state (2610:02); up and down raise ev 240E (R279). -/
def Mod.serviceTo (m : Mod) (link : Nat) : Mod :=
  let was := m.n 0x2610 2
  let m := m.put 0x2610 2 link
  if link = 2 && was ≠ 2 then m.raiseClear 0x240E 0 [0x240E] [1]
  else if link ≠ 2 && was = 2 then m.raiseCond 0x240E 0 [0] else m

/-- SERVICE_PORT_LINK_CHANGE: only while the port is enabled. -/
def Mod.serviceLink (m : Mod) (x : ServiceLink) : Mod :=
  if !m.flag 0x2610 1 then m
  else m.serviceTo (match x with
    | .down => 1
    | .up => 2
    | .speedUnsupported => 3)

/-- SERVICE_PORT_ENABLE (R279). -/
def Mod.serviceEnable (m : Mod) (on : Bool) : Mod :=
  if on then (if m.n 0x2610 2 = 0 then (m.putFlag 0x2610 1 true).serviceTo 1 else m.putFlag 0x2610 1 true)
  else (m.putFlag 0x2610 1 false).serviceTo 0

/-- The management ports come up at boot: the backplane at stage 1, the service port down if it is enabled (R278, R279). -/
def Mod.beginManagement (m : Mod) : Mod :=
  let m := (m.toDetect 33).toDetect 34
  m.put 0x2610 2 (if m.flag 0x2610 1 then 1 else 0)

/-- A unit whose clock coasts is down; its lanes' transmitters are off (R285, R286). -/
def Mod.dropUnclocked (m : Mod) : Mod :=
  m.each (List.range 35) fun (m : Mod) (u : Nat) =>
    if m.unitUnclocked u && 2 ≤ m.unitStage u then m.drop u causeFault else m

end Sys2Proof.Machine
end

