-- ==== Sys2Proof/Machine/Functions.lean ====
section
/-! DEFINITION. Functions (ch. 16): the state machine of Table 16.9 as it is applied at a tick, stops, starts and restarts
of every function, change sets, and the commanded step of time. -/

namespace Sys2Proof.Machine

/-- Changes the state of chapter 16. -/
def Mod.modPreud (m : Mod) (f : PreudS → PreudS) : Mod := { m with preud := f m.preud }

/-! ### Timed launches (R22-R26) -/

/-- The pending timed launches: writes, and function commands that name a TIME (R311). -/
def Mod.timedPending (m : Mod) : Nat := m.preud.timed.length + (m.preud.fnCmds.filter fun x => x.named ≠ none).length

/-- 1440:01 follows the pending timed launches. -/
def Mod.showTimed (m : Mod) : Mod := m.put 0x1440 1 m.timedPending

/-- A timed launch has applied: counted, and ev 1404 outside LOCKED (R26). -/
def Mod.noteApplied (m : Mod) (target sub : Nat) : Mod :=
  let m := m.bump 0x1440 2
  if m.servoState = Sys2Proof.Machine.locked then m else (m.bump 0x1440 4).raise 0x1404 (target * 256 + sub) [target, sub]

/-- A timed launch has been refused, for whatever cause (1440:03). -/
def Mod.noteRefused (m : Mod) : Mod := m.bump 0x1440 3

/-! ### Change sets (R314) -/

/-- The change set of a function. -/
def Mod.changeSet (m : Mod) (fid : Nat) : Option ChangeSet := m.preud.changeSets.find? fun x => x.fid = fid

/-- Removes a function's change set. -/
def Mod.removeChangeSet (m : Mod) (fid : Nat) : Mod :=
  m.modPreud fun p => { p with changeSets := p.changeSets.filter fun (x : ChangeSet) => x.fid ≠ fid }

/-- Discards an open change set, ev 1103: cause 0 the end of its session, 1 a stop of its function, 2 a loss of clock. -/
def Mod.discardOpen (m : Mod) (fid cause : Nat) : Mod :=
  match m.changeSet fid with
  | none => m
  | some x => if x.sealed then m else (m.removeChangeSet fid).raise 0x1103 fid [fid, cause]

/-- The values of a list written over the store. -/
def Store.over (st : Store) (l : Store) : Store :=
  l.foldl (fun (acc : Store) (x : Nat × Val) => acc.set (x.1 / 256) (x.1 % 256) x.2) st

/-- A restart applies the change set of its function. -/
def Mod.applyChangeSet (m : Mod) (fid : Nat) : Mod :=
  match m.changeSet fid with
  | none => m
  | some x =>
    let m : Mod := { m with objs := m.objs.over x.values }
    let m := m.each x.values fun (m : Mod) (y : Nat × Val) =>
      if within (y.1 / 256) 0x4800 0x481F && within (y.1 % 256) 8 9 then m.showLut (y.1 / 256) (y.1 % 256) y.2.octets else m
    m.removeChangeSet fid

/-! ### Stops -/

/-- The latest end of a rendition's STOPPING from a stop tick (Table 16.10). -/
def Mod.rendStopEnd (m : Mod) (r T : Nat) : Nanos :=
  let k := m.rendStep r
  m.fam.edge (T + (m.n (0x4100 + m.rendChan r) 4 + 2) * k) + m.hold + 20000

/-- The latest end of a channel's STOPPING from a stop tick. -/
def Mod.chanStopEnd (m : Mod) (n T : Nat) : Nanos := m.fam.edge (T + (m.n (0x4100 + n) 4 + 1) * m.chanStep n)

/-- Notes a function as STOPPING until an instant. -/
def Mod.toStopping (m : Mod) (fid : Nat) (end_ : Nanos) : Mod :=
  (m.setFn fid stopping).modPreud fun p =>
    { p with stopping := (p.stopping.filter fun (x : Nat × Nanos) => x.1 ≠ fid) ++ [(fid, end_)] }

/-- A rendition is at rest: its lanes are free, nothing of it is under way. Its CPB model stays for a restart (R34, R129). -/
def Mod.restRendition (m : Mod) (r : Nat) : Mod :=
  let m := m.modRend r fun s => { s with waiting := false }
  (m.releaseRendition r).setFn (rendFid r) stopped

/-- A rendition has stopped: its next start begins with a full CPB model (R129). -/
def Mod.endRendition (m : Mod) (r : Nat) : Mod := (m.restRendition r).dropModel r

/-- The channels of a list, in order, whose scaled rungs the units take together. -/
def Mod.fitting (m : Mod) (chans : List Nat) : List Nat :=
  chans.foldl (fun ok n => match m.placeScalers (ok ++ [n]) with
    | .ok _ => ok ++ [n]
    | .error _ => ok) []

/-- Places the scaled rungs of the RUNNING channels by their configuration (R77); a module that joins a pair takes the units of the
ACTIVE's placement (R229). -/
def Mod.rescale (m : Mod) : Mod :=
  let own := match m.placeScalers (m.fitting ((List.range 32).filter fun n => m.fn (chanFid n) = running)) with
    | .ok l => l
    | .error _ => []
  let held : List ((Nat × Nat) × Nat) := match m.twin.placement with
    | none => []
    | some p => if m.role = .active then [] else p.scalers
  let l := own.map fun (x : (Nat × Nat) × Nat) => (x.1, ((held.find? fun y => y.1 = x.1).map (·.2)).getD x.2)
  let m : Mod := { m with scalers := l }
  m.showScalers

/-- A channel is at rest: nothing of it is under way. -/
def Mod.restChannel (m : Mod) (n : Nat) : Mod :=
  let m := m.modChan n fun c => { ChanS.boot with deferred := c.deferred }
  let m : Mod := { m with ladderRows := m.ladderRows.filter fun (x : (Nat × Nat) × List (List Row)) => x.1.1 ≠ n }
  (m.setFn (chanFid n) stopped).rescale

/-- A stop applies at tick T (Tables 16.9 and 16.10). A twin whose partner is STANDBY hands over first (R244). -/
def Mod.stopFn (m : Mod) (epoch T fid : Nat) : Mod :=
  if m.fn fid = stopped || m.fn fid = stopping then m
  else if within fid 0x100 0x11F then
    let n := fid - 0x100
    ((m.stopIngest n T).toStopping fid (m.chanStopEnd n T)).rescale
  else if within fid 0x200 0x27F then
    let r := fid - 0x200
    if (m.rend r).waiting then m.endRendition r
    else (m.endPictures r T).toStopping fid (m.rendStopEnd r T)
  else if within fid 0x300 0x301 then (m.endDecode (fid - 0x300)).setFn fid stopped
  else if fid = replayFid then m.endReplay.setFn fid stopped
  else if within fid 0x10 0x17 then m.endPort (fid - 0x10)
  else if fid = timeFid then m.endTime
  else if fid = memoryFid then m.endMemory
  else if fid = twinFid then
    if m.role = .active && (m.twin.handover ≠ none || m.partnerIs .standby) then
      let m := if m.twin.handover = none then m.beginHandover (nextOnGrain T 4) false false else m
      let x := (m.twin.handover.map fun h => h.release).getD m.now
      m.toStopping fid x
    else (m.endTwin epoch).endPort 8
  else m

/-- Whether the work of a STOPPING function has drained (Table 16.10). -/
def Mod.drained (m : Mod) (fid : Nat) : Bool :=
  let past : Bool := match m.stoppingEnd fid with
    | none => m.fn fid ≠ running
    | some e => e ≤ m.now
  if within fid 0x100 0x11F then
    let c := m.chan (fid - 0x100)
    past || ((c.video.runs.all fun r => r.done m.tick) && c.composing = [])
  else if within fid 0x200 0x27F then
    let s := m.rend (fid - 0x200)
    let cfg := s.cfgFor (s.until_.getD 0)
    let due : Bool := match s.until_ with
      | none => false
      | some u => u + (m.n (0x4100 + cfg.chan) 4 + 1) * cfg.k < m.tick
    past || (due && s.coding = [] && s.packing = [] && s.queue = [])
  else if fid = twinFid then m.twin.handover = none && past
  else past

/-- STOPPING_END: a STOPPING function whose work has drained is STOPPED (R311). -/
def Mod.endStopping (m : Mod) (epoch fid : Nat) : Mod :=
  if m.fn fid ≠ stopping || !m.drained fid then m
  else
    let m := m.modPreud fun p => { p with stopping := p.stopping.filter fun (x : Nat × Nanos) => x.1 ≠ fid }
    if within fid 0x100 0x11F then m.restChannel (fid - 0x100)
    else if within fid 0x200 0x27F then m.endRendition (fid - 0x200)
    else if fid = twinFid then (m.endTwin epoch).endPort 8
    else m.setFn fid stopped

/-! ### Starts (R95, R118, R129, R139, R142) -/

/-- The renditions of a channel that code pictures. -/
def Mod.codingOn (m : Mod) (n : Nat) : List Nat :=
  (List.range 128).filter fun r => (m.rend r).cfgs ≠ [] && m.rendChan r = n

/-- A channel's pictures begin at tick T, anew or at a restart (R47, R48, R71). -/
def Mod.startChannel (m : Mod) (n T : Nat) (restart : Bool) : Mod :=
  let first := nextOnGrain T (34 * m.chanStep n)
  let m := (m.copyShadows n).startIngest n T restart
  ((m.layersFrom n first true).setFn (chanFid n) running).rescale

/-- The renditions that hold lanes and are not STOPPING: those that count against a pipeline (R96). -/
def Mod.committedRends (m : Mod) : List Nat := m.placedRends.filter fun r => m.fn (rendFid r) ≠ stopping

/-- The placement of a set of renditions: channel, pipeline, their cost on it in quarter stones. -/
def Mod.placedOf (m : Mod) (rs : List Nat) : List (Nat × Nat × Nat) :=
  ((List.range 32).filter fun n => m.n (0x5200 + n) 2 ≤ 7).map fun n =>
    (n, m.n (0x5200 + n) 2, ((rs.filter fun r => m.rendChan r = n).map fun r => m.rendCost r).sum)

/-- The placement in force. -/
def Mod.placed (m : Mod) : List (Nat × Nat × Nat) := m.placedOf m.committedRends

/-- The pipeline a channel is to start on: the ACTIVE's while its Placement frame is held (R229), else its own setting. -/
def Mod.wantedPipe (m : Mod) (n : Nat) : Nat :=
  let held : Option Nat := match m.twin.placement with
    | none => none
    | some p => if m.role = .active then none else (p.pipelines.find? fun x => x.1 = n).map (·.2)
  held.getD (m.n (0x5200 + n) 1)

/-- Places the channels that renditions starting at one tick bring to a pipeline, beside those of them that join placed channels, and
gives their tile columns lanes (R79, R95). -/
def Mod.placeStarts (m : Mod) (rs : List Nat) : Mod :=
  let fresh := (List.range 32).filter fun n => (rs.any fun r => m.rendChan r = n) && m.n (0x5200 + n) 2 = 0xFF
  let starts := fresh.map fun n =>
    (n, ((rs.filter fun r => m.rendChan r = n).map fun r => m.rendCost r).sum, m.wantedPipe n)
  let there := m.placedOf ((m.committedRends.filter fun r => !rs.contains r) ++ rs)
  let pl := match placeChannels there starts with
    | .ok l => l
    | .error _ => starts.foldl (fun (l : List (Nat × Nat × Nat)) (x : Nat × Nat × Nat) =>
        match placeChannels l [x] with
        | .ok l' => l'
        | .error _ => l) there
  let m := m.each pl fun (m : Mod) (x : Nat × Nat × Nat) => m.put (0x5200 + x.1) 2 x.2.1
  let lanes := (List.range 8).foldl (fun (ls : List (Nat × Nat × Nat × Nat × Nat)) (p : Nat) =>
    placeLanes ls p ((rs.filter fun r => m.n (0x5200 + m.rendChan r) 2 = p).flatMap fun r => m.tileCosts r)) m.lanes
  { m with lanes := lanes }

/-- Whether another member of a rendition's group codes pictures; one that is STOPPING draws on the group until its last course
(DESIGN CHOICE, log 66). -/
def Mod.groupRuns (m : Mod) (r : Nat) : Bool :=
  let g := m.n (0x5400 + r) 8
  g < 32 && (List.range 128).any fun q => q ≠ r && m.n (0x5400 + q) 8 = g && (m.rend q).cfgs ≠ []
    && (m.fn (rendFid q) = running || m.fn (rendFid q) = stopping)

/-- The first member of a group starts: its allowance is full (R139). -/
def Mod.fillGroup (m : Mod) (r : Nat) : Mod :=
  let g := m.n (0x5400 + r) 8
  if g < 32 && !m.groupRuns r then m.modGroup g fun _ => ⟨m.n (0x5600 + g) 2 * 1000, 0, 0, 0⟩ else m

/-- Figures and description of an output at a start or restart (R162, R163, R165). -/
def Mod.refreshOutput (m : Mod) (r : Nat) : Mod := (m.showOutput r).generateSdp r

/-- A rendition that joins what the ACTIVE already runs: its pictures begin with no new sequence (R229). -/
def Mod.joinRendition (m : Mod) (r frame : Nat) : Mod := m.openRun r frame []

/-- A rendition's pictures begin at tick T: it is RUNNING. -/
def Mod.runRendition (m : Mod) (r T : Nat) : Mod :=
  let m := m.fillGroup r
  let m := if m.joins r then m.joinRendition r T else m.beginRendition r T
  (((m.noteQp r T).refreshOutput r).syncStart r).setFn (rendFid r) running

/-- A placed rendition starts at tick T, or waits for its set-aside while another member of its group, `busy`, is RUNNING
(R142). -/
def Mod.enterRendition (m : Mod) (r T : Nat) (busy : Bool) : Mod :=
  let g := m.n (0x5400 + r) 8
  if busy then
    let m := (m.modRend r fun s => { s with waiting := true, setAside := 0 }).setFn (rendFid r) starting
    ((m.showRendition r).bump (0x5640 + g) 0x0A).raise 0x5014 g [g, r]
  else (m.modRend r fun s => { s with setAside := 0 }).runRendition r T

/-- A start that cannot begin: the rendition stays STOPPED, ev 5003. -/
def Mod.failStart (m : Mod) (r T : Nat) : Mod := (m.setFn (rendFid r) stopped).raise 0x5003 r [r, T]

/-- The renditions starting at tick T: those whose channel is RUNNING are placed together and begin in ascending number. A
disabled one is RUNNING and codes nothing. -/
def Mod.startRenditions (m : Mod) (rs : List Nat) (T : Nat) : Mod :=
  let live := rs.filter fun r => m.fn (chanFid (m.rendChan r)) = running
  let ok := live.filter fun r => m.rendOn r
  let m := m.each (rs.filter fun r => !live.contains r) fun (m : Mod) (r : Nat) => m.failStart r T
  let m := m.each (live.filter fun r => !m.rendOn r) fun (m : Mod) (r : Nat) => m.setFn (rendFid r) running
  let m := m.placeStarts ok
  let busy := ok.filter fun r => m.groupRuns r
  let m := m.each ok fun (m : Mod) (r : Nat) =>
    if m.n (0x5200 + m.rendChan r) 2 = 0xFF then m.failStart r T else m.enterRendition r T (busy.contains r)
  if ok = [] then m else m.showPipelines.sendPlacement

/-- Members that wait for their set-aside, at a frame tick of theirs (R142): one that holds it begins, with the set-aside
its share of the reserve and its first draw. -/
def Mod.waitingEdge (m : Mod) (T : Nat) : Mod :=
  m.each ((List.range 128).filter fun r => (m.rend r).waiting && T % (34 * m.rendStep r) = 0) fun (m : Mod) (r : Nat) =>
    let g := m.n (0x5400 + r) 8
    let aside := (m.rend r).setAside
    if m.memberOmax r + m.memberFloor r ≤ aside || !m.groupRuns r then
      let m := m.modGroup g fun x => { x with allowance := x.allowance + aside }
      m.runRendition r T
    else m.bump (0x5640 + g) 0x0A

/-! ### Restarts (R119, R313) -/

/-- A rendition's lanes are given anew on the pipeline of its channel. -/
def Mod.replaceLanes (m : Mod) (r : Nat) : Mod :=
  let m : Mod := { m with lanes := m.lanes.filter fun (x : Nat × Nat × Nat × Nat × Nat) => x.2.2.1 ≠ r }
  m.placeStarts [r]

/-- A stop-change-restart of a rendition at tick T (R119): its change set applies; a new channel takes it over from its own
first frame tick on. One that the change set enables begins; one that it disables ends its pictures. -/
def Mod.restartRend (m : Mod) (epoch r T : Nat) : Mod :=
  let old := m.rendChan r
  let coded := (m.rend r).cfgs ≠ []
  let g := m.n (0x5400 + r) 8
  let m := m.applyChangeSet (rendFid r)
  let n := m.rendChan r
  if m.fn (chanFid n) ≠ running then (m.stopFn epoch T (rendFid r)).raise 0x5003 r [r, T]
  else if !m.rendOn r then (if coded then m.endPictures r T else m)
  else if !coded then
    ((m.placeStarts [r]).enterRendition r (nextOnGrain T (34 * m.chanStep n)) false).showPipelines.sendPlacement
  else
    let m := if m.n (0x5400 + r) 8 = g then m else m.fillGroup r
    let T' := nextOnGrain T (34 * m.chanStep n)
    let m := (m.replaceLanes r).restartRendition r T T'
    let m := if n = old then m else m.freePipe old
    (m.refreshOutput r).showPipelines.sendPlacement

/-- A rendition that was disabled while RUNNING and has drained gives up its lanes. -/
def Mod.restDisabled (m : Mod) : Mod :=
  m.each ((List.range 128).filter fun r =>
      m.fn (rendFid r) = running && !m.rendOn r && (m.rend r).cfgs ≠ [] && m.drained (rendFid r))
    fun (m : Mod) (r : Nat) => m.releaseRendition r

/-- A restart of a channel at tick T: its change set applies, and its renditions behave as R119 states (log 55). -/
def Mod.restartChannel (m : Mod) (epoch n T : Nat) : Mod :=
  let rs := (m.codingOn n).filter fun r => m.fn (rendFid r) = running
  let m := (m.applyChangeSet (chanFid n)).startChannel n T true
  m.each rs fun (m : Mod) (r : Nat) =>
    if m.preud.fnCmds.any fun x => x.fid = rendFid r && x.cmd = 3 && x.applyTick ≤ T then m else m.restartRend epoch r T

/-- A start or restart of a function other than a rendition's start applies at tick T. -/
def Mod.startFn (m : Mod) (epoch T fid : Nat) (restart : Bool) : Mod :=
  if within fid 0x100 0x11F then
    if restart then m.restartChannel epoch (fid - 0x100) T else m.startChannel (fid - 0x100) T false
  else if within fid 0x200 0x27F then if restart then m.restartRend epoch (fid - 0x200) T else m
  else
    let m := if restart && fid ≠ twinFid then m.stopFn epoch T fid
      else if restart then (m.endTwin epoch).endPort 8 else m
    let m := if restart then m.applyChangeSet fid else m
    if within fid 0x300 0x301 then ((m.beginDecode (fid - 0x300)).setFn fid running).generateDecodeSdp (fid - 0x300)
    else if fid = replayFid then m.beginReplay.setFn fid running
    else if within fid 0x10 0x17 then m.beginPort (fid - 0x10)
    else if fid = timeFid then m.beginTime
    else if fid = memoryFid then m.beginMemory
    else if fid = twinFid then m.beginTwin.beginPort 8
    else m

/-! ### Applying commands at a tick (R313) -/

/-- Commands in ascending function id; those of one function in order of acceptance. -/
def sortCmds (l : List FnCmd) : List FnCmd :=
  sortBy (fun x y => x.fid < y.fid || (x.fid = y.fid && x.order ≤ y.order)) l

/-- The command has been taken up: it is no longer pending; a timed one counts as applied. -/
def Mod.takeCmd (m : Mod) (x : FnCmd) : Mod :=
  let m := m.modPreud fun p => { p with fnCmds := p.fnCmds.filter fun (y : FnCmd) => y ≠ x }
  if x.named = none then m else m.noteApplied x.fid 0

/-- Whether a start may take effect now: the function is not STOPPING any longer. -/
def Mod.settleHeld (m : Mod) (epoch : Nat) (x : FnCmd) : Mod :=
  if x.held then m.endStopping epoch x.fid else m

/-- Step 3 of R19: due stops in descending function id, then due starts and restarts in ascending function id. -/
def Mod.applyCommands (m : Mod) (epoch T : Nat) : Mod :=
  let due := sortCmds (m.preud.fnCmds.filter fun x => x.applyTick ≤ T)
  let stops := (due.filter fun x => x.cmd = 2).reverse
  let m := m.each stops fun (m : Mod) (x : FnCmd) => (m.takeCmd x).stopFn epoch T x.fid
  let m := m.waitingEdge T
  let rest := due.filter fun x => x.cmd ≠ 2
  let m := m.each rest fun (m : Mod) (x : FnCmd) => m.settleHeld epoch x
  let ready := rest.filter fun x => m.fn x.fid ≠ stopping
  let isRendStart (x : FnCmd) : Bool := within x.fid 0x200 0x27F && x.cmd = 1
  let low := ready.filter fun x => x.fid < 0x200
  let rends := ready.filter fun x => isRendStart x
  let high := ready.filter fun x => 0x200 ≤ x.fid && !isRendStart x
  let m := m.each low fun (m : Mod) (x : FnCmd) => (m.startFn epoch T x.fid (x.cmd = 3)).takeCmd x
  let m := m.each rends fun (m : Mod) (x : FnCmd) => m.takeCmd x
  let m := m.startRenditions (rends.map fun x => x.fid - 0x200) T
  let m := m.each high fun (m : Mod) (x : FnCmd) => (m.startFn epoch T x.fid (x.cmd = 3)).takeCmd x
  m.showTimed

/-! ### Halting at once (R34, R285) -/

/-- A media function is STOPPED at once; what it had packed goes out unless `drop`. -/
def Mod.haltFn (m : Mod) (fid : Nat) (drop : Bool) : Mod :=
  let m := m.modPreud fun p => { p with stopping := p.stopping.filter fun (x : Nat × Nanos) => x.1 ≠ fid }
  if m.fn fid = stopped then m
  else if within fid 0x100 0x11F then m.restChannel (fid - 0x100)
  else if within fid 0x200 0x27F then
    let r := fid - 0x200
    if drop then (m.endRendition r).modRend r fun s => { s with packing := [], queue := [] } else m.restRendition r
  else if within fid 0x300 0x301 then (m.endDecode (fid - 0x300)).setFn fid stopped
  else if fid = replayFid then m.endReplay.setFn fid stopped
  else m

/-- Every media function is STOPPED at once, its pending starts and restarts are removed and its open change sets are
discarded (R285). -/
def Mod.haltMedia (m : Mod) : Mod :=
  let m := m.modPreud fun p =>
    { p with
      fnCmds := p.fnCmds.filter fun (x : FnCmd) => !isMediaFid x.fid
      changeSets := p.changeSets.map fun (x : ChangeSet) => if isMediaFid x.fid then { x with sealed := false } else x }
  let sets := (m.preud.changeSets.filter fun x => isMediaFid x.fid).map fun x => x.fid
  let m := m.each sets fun (m : Mod) (f : Nat) => m.discardOpen f 2
  (m.each mediaFids.reverse fun (m : Mod) (f : Nat) => m.haltFn f true).showTimed

/-- STEP_COMMAND at its apply tick (R34): every media function stops, time steps to the master, and every function that was
RUNNING starts at its first frame tick of the new time; the replay function, which has no rate, at one of the family's top rate
(log 38). With no step pending it does nothing but count. -/
def Mod.commandStep (m : Mod) : Mod :=
  if !m.flag 0x1420 7 then m.noteRefused
  else
    let on := mediaFids.filter fun f => m.fn f = running
    let m := (m.each mediaFids.reverse fun (m : Mod) (f : Nat) => m.haltFn f false).stepToMaster
    m.each on fun (m : Mod) (f : Nat) =>
      let c : FnCmd := ⟨f, 1, nextOnGrain (m.tick + 1) (if f = replayFid then 34 else m.fnGrain f), none, false, 0, 0,
        m.preud.nextOrder⟩
      (m.modPreud fun p => { p with fnCmds := p.fnCmds ++ [c], nextOrder := p.nextOrder + 1 }).setFn f starting

end Sys2Proof.Machine
end

