-- ==== Sys2Proof/Machine/Clocks.lean ====
section
/-! DEFINITION. Clocks (ch. 15): the judgement of sources and PLLs, reference failure and coasting, stopped sources, bus
access timeouts and the frequency counter. -/

namespace Sys2Proof.Machine

/-- Changes the clock monitors. -/
def Mod.modClk (m : Mod) (f : ClockS → ClockS) : Mod := { m with clk := f m.clk }

/-- The state of source c: 0 SIO, 1 FIO, 2 XA, 3 XB (1800:01-04). -/
def Mod.source (m : Mod) (c : Nat) : Nat := m.n 0x1800 (1 + c)

/-- The sources that a PLL's reference numbers 0 XA, 1 XB, 2 FIO name. -/
def refSource (r : Nat) : Nat := if r = 0 then 2 else if r = 1 then 3 else 1

/-- The references a PLL may be moved to, in the order of Table 15.2. -/
def pllRefs (k : Nat) : List Nat := if k ≤ 1 then [0, 1, 2] else if k ≤ 4 then [0, 1] else [1, 0]

/-- The nominal frequency in Hz of a clock of Table 15.5. -/
def clockHz (c : Nat) : Nat :=
  if c = 0 then 1000000
  else if c = 1 then 400000000
  else if c = 2 then 25000000
  else if c = 3 then 20000000
  else if c = 4 then 1600000000
  else if c = 5 then 3200000000
  else if c ≤ 8 then 2656250000
  else if c = 9 then 1105920000
  else if within c 18 25 || c = 31 then 1600000000
  else 800000000

/-- The reference of a judged clock and its gate in reference cycles (Table 15.3). -/
def Mod.gateOf (m : Mod) (c : Nat) : Nat × Nat :=
  if c = 1 then (0, 1000)
  else if c = 2 then (1, 400000)
  else if c = 3 then (2, 25000000)
  else (refSource (m.n (0x1810 + (c - 4)) 2), 1000)

/-- The count a clock gives in its gate at nominal. -/
def Mod.gateNominal (m : Mod) (c : Nat) : Nat := (m.gateOf c).2 * clockHz c / clockHz (m.gateOf c).1

/-- The tolerance of a count, in counts (Table 15.3). -/
def Mod.gateTolerance (m : Mod) (c : Nat) : Nat :=
  let e := m.gateNominal c
  if c = 1 then e * 15 / 100 else if c = 2 then e * 4 / 100 else e / 10000

/-- A clock is judged stable (R281): ev 1801. XB takes over the time and lease counters and VPLL from XA. -/
def Mod.judgeStable (m : Mod) (c : Nat) : Mod :=
  let m := (m.put 0x1800 (1 + c) 1).raise 0x1801 c [c]
  if c = 3 then
    let m := m.modClk fun s => { s with counterOn := 3 }
    if m.n 0x1815 1 = 2 then m.put 0x1815 2 1 else m
  else m

/-- GATE_WINDOW_END (R281, R282): eight windows in a row within tolerance judge a clock stable; a window outside tolerance
begins the eight anew and puts a running source out of tolerance. XB is judged only once its oven has settled, and against a
running XA; a PLL while it locks. -/
def Mod.gateWindow (m : Mod) (c count : Nat) : Mod :=
  if c = 0 || (c ≤ 3 && m.source c = 3) || (c = 3 && (!m.clk.settled || m.source 2 = 3))
      || (4 ≤ c && m.n (0x1810 + (c - 4)) 1 ≠ 1) then m
  else
    let e := m.gateNominal c
    let m := if c ≤ 3 then m.putZ 0x1800 (5 + c) (((count : Int) - e) * 1000000000 / e) else m
    let run := nth m.clk.runs c
    let near : Bool := c ≠ 3 || run = 0 || m.source 3 = 1 || ((count : Int) - m.clk.xbFirst).natAbs ≤ 2
    let inside : Bool := ((count : Int) - e).natAbs ≤ m.gateTolerance c
    if !inside then
      let m := m.modClk fun s => { s with runs := s.runs.set c 0 }
      if c ≤ 3 && m.source c ≠ 0 then (m.put 0x1800 (1 + c) 2).raise 0x1802 c [c, 2] else m
    else
      let run' := if near then min 8 (run + 1) else 1
      let m := m.modClk fun s =>
        { s with
          runs := s.runs.set c run'
          xbFirst := if c = 3 && run' = 1 then count else s.xbFirst }
      if run' = 8 && c ≤ 3 && m.source c ≠ 1 then m.judgeStable c
      else if run' = 8 && run ≠ 8 && 4 ≤ c then m.raise 0x1801 c [c] else m

/-! ### Coasting (R283-R287) -/

/-- CPLL or MPLL coasts: ports leave stage 5, every media function is STOPPED at once, ev 1807 unless the other coasts already (R285). -/
def Mod.coreStops (m : Mod) (already : Bool) : Mod :=
  let m := m.dropUnclocked.haltMedia
  if already then m else m.raise 0x1807 0 []

/-- A PLL locks to a reference: its eight windows begin (R281, R283). -/
def Mod.lockPll (m : Mod) (k r : Nat) : Mod :=
  ((m.put (0x1810 + k) 1 1).put (0x1810 + k) 2 r).modClk fun s => { s with runs := s.runs.set (4 + k) 0 }

/-- The reference a PLL moves to: its first alternate judged stable. -/
def Mod.alternate (m : Mod) (k : Nat) : Option Nat :=
  (pllRefs k).find? fun r => r ≠ m.n (0x1810 + k) 2 && m.source (refSource r) = 1

/-- A PLL that coasts is moved, where automatic switching is on: an internal lock loss relocks on the same reference, three
times at most; otherwise it goes to an alternate, at once if its reference runs. -/
def Mod.movePll (m : Mod) (k : Nat) (lockLoss : Bool) : Mod :=
  let o := 0x1810 + k
  let here := m.source (refSource (m.n o 2))
  if !m.flag 0x1820 0 then m
  else if lockLoss && here = 1 && nth m.clk.tries k < 3 then
    (m.lockPll k (m.n o 2)).modClk fun s => { s with tries := s.tries.set k (nth s.tries k + 1) }
  else
    match m.alternate k with
    | none => m
    | some r =>
      if here = 3 then m.modClk fun s => { s with moving := s.moving.set k (some r) }
      else m.lockPll k r

/-- PLL_REFERENCE_FAILURE: its reference stopped, or its lock detector reports loss of lock (R283). -/
def Mod.pllFails (m : Mod) (k : Nat) (lockLoss : Bool) : Mod :=
  let o := 0x1810 + k
  let stopped := m.source (refSource (m.n o 2)) = 3
  if m.n o 1 = 3 || (!lockLoss && !stopped) then m
  else
    let again := m.n o 1 = 1
    let already := m.coreCoasts
    let m := m.put o 1 3
    let m := if again then m else
      let m := (((m.put o 5 1).bump o 6).put o 8 m.now).raiseCond 0x1803 k [k, if lockLoss then 1 else 0]
      if k ≤ 1 then m.coreStops already else m.dropUnclocked
    m.movePll k lockLoss

/-- FORCED_SWITCH_COMPLETE: 64 cycles of the new clock without an edge of the stopped one (R284). -/
def Mod.forcedSwitch (m : Mod) (k : Nat) : Mod :=
  match nth m.clk.moving k with
  | none => m
  | some r =>
    let o := 0x1810 + k
    let m := ((m.put o 7 1).lockPll k r).modClk fun s => { s with moving := s.moving.set k none }
    m.raise 0x1805 k [k]

/-- Temperature trims of DRAM are recovered once the controller's clocks are back (R285, R293): trigger 3. -/
def Mod.recoverDram (m : Mod) : Mod :=
  m.each ((List.range 16).filter fun c => m.dimmIn c) fun (m : Mod) (c : Nat) => m.trigger (10 + c) trigRecovery

/-- PLL_RELOCK: locked and judged by its eight windows, the PLL steps back to nominal, ev 1804 (R281, R283, R285). -/
def Mod.pllRelocks (m : Mod) (k : Nat) : Mod :=
  let o := 0x1810 + k
  if m.n o 1 ≠ 1 || nth m.clk.runs (4 + k) ≠ 8 then m
  else
    let m := (m.put o 1 2).modClk fun s => { s with tries := s.tries.set k 0 }
    let m := m.raiseClear 0x1804 k [0x1803] [k, m.n o 2]
    if k ≤ 1 && !m.coreCoasts then m.recoverDram else m

/-! ### Stopped sources (R284, R287-R289) -/

/-- Whether neither crystal runs (R288). An XB that is not judged is none the module may run on (R281, R284; log 61). -/
def Mod.noCrystal (m : Mod) : Bool := m.source 2 = 3 && (m.source 3 = 3 || m.source 3 = 0)

/-- Neither crystal running: the ACTIVE fences, media and twin stop, ev 1808 (R288). -/
def Mod.loseCrystals (m : Mod) (epoch : Nat) : Mod :=
  let m := if m.role = Role.active then m.fence 1 none else m
  let m := m.haltMedia
  let m := m.modPreud fun p => { p with fnCmds := p.fnCmds.filter fun (x : FnCmd) => x.fid ≠ twinFid }
  let m := m.discardOpen twinFid 2
  let m := if m.twinFn = Sys2Proof.Machine.stopped then m else (m.endTwin epoch).endPort 8
  m.raise 0x1808 0 []

/-- The multiplexers of ev 1805 beside those of the PLLs 0-5: that of the time and lease counters, and the always-on domain's (log 62). -/
abbrev muxCounters : Nat := 6
abbrev muxAlwaysOn : Nat := 7

/-- CLOCK_STOP_DETECTED: a source with no edge for its stop limit (R284, R287, R289). `gapFio` is the gap of the counters in
FIO cycles of 2.5 ns. -/
def Mod.sourceStops (m : Mod) (epoch c gapFio : Nat) : Mod :=
  if m.source c = 3 then m
  else
    let already := m.noCrystal
    let m := ((m.put 0x1800 (1 + c) 3).modClk fun s => { s with runs := s.runs.set c 0 }).raiseAgain 0x1802 c [c, 3]
    let m := if c = 3 && m.clk.counterOn = 3 && m.source 2 ≠ 3 then
        let gap := gapFio * 5 / 2
        let m : Mod := { m with now := m.now + gap, ctr := m.ctr + gap }
        (m.modClk fun s => { s with counterOn := 2 }).raise 0x1805 muxCounters [muxCounters]
      else m
    let m := if c = 0 && m.source 1 ≠ 3 then m.raise 0x1805 muxAlwaysOn [muxAlwaysOn] else m
    if m.noCrystal && !already then m.loseCrystals epoch else m

/-- A PLL whose reference has stopped coasts at its floor, ev 1803 (R283). -/
def Mod.coastPll (m : Mod) (k : Nat) : Mod :=
  let o := 0x1810 + k
  if m.n o 1 = 3 then m
  else ((((m.put o 1 3).put o 5 1).bump o 6).put o 8 m.now).raiseCond 0x1803 k [k, 0]

/-- XA is not judged at step 5 of Table 17.1: boot goes on under R288, with CPLL and MPLL on FIO; the other PLLs coast
(R288, R324; log 61). -/
def Mod.xaFails (m : Mod) (epoch : Nat) : Mod :=
  let m := m.loseCrystals epoch
  let m := (m.each [2, 3, 4, 5] fun (m : Mod) (k : Nat) => m.coastPll k).dropUnclocked
  (((m.put 0x1800 3 3).put 0x1810 2 2).put 0x1811 2 2).modClk fun c => { c with runs := c.runs.set 2 0 }

/-! ### Gating, access timeouts, frequency counter (R290-R292) -/

/-- The clocks running at an edge (1850:07): clocks 0-9, the block clocks whose blocks have work in the tick plan, and one being measured
(R292); every one while automatic gating is off (R290; log 56). -/
def Mod.showGating (m : Mod) : Mod :=
  if !m.flag 0x1850 1 then m.put 0x1850 7 0xFFFFFFFF
  else
    let any (l : List Nat) : Bool := l.any fun f => m.fn f ≠ Sys2Proof.Machine.stopped
    let chans := any ((List.range 32).map chanFid)
    let outs := any ((List.range 128).map rendFid)
    let decs := any [decodeFid 0, decodeFid 1]
    let pipes := ((List.range 8).filter fun p => m.lanes.any fun x => x.1 = p).map fun p => 2 ^ (10 + p)
    let work : List (Bool × Nat) :=
      [(chans, 26), (chans, 27), (outs, 28), (decs, 29), (any [replayFid], 30), (m.flowsOn ≠ [], 31)]
    let blocks := (work.filter fun x => x.1).map fun x => 2 ^ x.2
    let sett := if chans || outs || decs then 0x03FC0000 else 0
    let shown := 0x3FF + pipes.sum + blocks.sum + sett
    let held := if m.n 0x1840 5 = 1 then 2 ^ m.clk.counting.1 else 0
    m.put 0x1850 7 (shown ||| held)

/-- ACCESS_TIMEOUT: an access to a block clock's block that has not ended 4,096 cycles after the gate request (R291). -/
def Mod.accessTimeout (m : Mod) (block addr initiator : Nat) : Mod :=
  if !m.flag 0x1850 1 || !within block 10 31 then m else
  let m := ((m.bump 0x1850 2).put 0x1850 3 block).put 0x1850 4 addr
  ((m.put 0x1850 5 initiator).put 0x1850 6 m.now).raise 0x1806 block [block, addr, initiator]

/-- FREQUENCY_COUNTER_START, on the clocks and gate of that moment (R292). -/
def Mod.startCounter (m : Mod) : Mod :=
  (m.put 0x1840 5 1).modClk fun s => { s with counting := (m.n 0x1840 1, m.n 0x1840 2, m.n 0x1840 3) }

/-- FREQUENCY_COUNTER_DONE (R292): count, frequency in mHz, and offset from nominal; void if the reference stopped. -/
def Mod.counterDone (m : Mod) (count : Nat) (refStopped : Bool) : Mod :=
  if m.n 0x1840 5 ≠ 1 then m
  else if refStopped then m.put 0x1840 5 3
  else
    let (clock, ref, gate) := m.clk.counting
    let f := count * clockHz ref * 1000 / gate
    let nom := clockHz clock * 1000
    let m := ((m.put 0x1840 5 2).put 0x1840 6 count).put 0x1840 7 f
    m.putZ 0x1840 8 (((f : Int) - nom) * 1000000000 / nom)

/-- 1830:00: the coast and forced switch flags are cleared. -/
def Mod.clearClockFlags (m : Mod) : Mod :=
  m.each (List.range 6) fun (m : Mod) (k : Nat) => (m.put (0x1810 + k) 5 0).put (0x1810 + k) 7 0

end Sys2Proof.Machine
end

