-- ==== Sys2Proof/Machine/Sett.lean ====
section
/-! DEFINITION. Sett cores (ch. 19 and 21): heartbeats, failures, spares, and built-in tests. -/

namespace Sys2Proof.Machine

/-- Changes what of chapters 17-19 is no object. -/
def Mod.modHw (m : Mod) (f : HwS → HwS) : Mod := { m with hw := f m.hw }

/-- The state of a core (2800:01): 0 serving, 1 spare, 2 spare under test, 3 failed. -/
def Mod.core (m : Mod) (c : Nat) : Nat := m.n (0x2800 + c) 1

/-- Puts a core into the bit fields of a class, or takes it out (2880:06-07). -/
def Mod.putCore (m : Mod) (cls c : Nat) (on : Bool) : Mod := m.putBit (0x2880 + cls) (6 + c / 32) (c % 32) on

/-- The objects that follow from spares and services down (2900:01, 2900:03). -/
def Mod.showSett (m : Mod) : Mod :=
  let free := ((List.range 64).filter fun c => m.core c = 1 || m.core c = 2).length
  (m.put 0x2900 1 free).put 0x2900 3 (((List.range 13).map fun k => m.n (0x2880 + k) 3)).sum

/-- The lowest-numbered free spare (R13). -/
def Mod.freeSpare (m : Mod) : Option Nat := (List.range 64).find? fun c => m.core c = 1 || m.core c = 2

/-- One spare more is claimed or failed (R386). -/
def Mod.useSpare (m : Mod) (c : Nat) : Mod :=
  ((m.put 0x2880 2 (m.n 0x2880 2 - 1)).put 0x2880 3 (m.n 0x2880 3 + 1)).putCore 0 c false

/-- The handoff tick of the earliest course planned from now on for a pipeline's renditions (R242). -/
def Mod.nextHandoff (m : Mod) (rs : List Nat) : Nat :=
  (rs.map fun r =>
    let k := m.rendStep r
    nextOnGrain (m.tick + 1) k + k).foldl (fun (b : Nat) (x : Nat) => if b = 0 || x < b then x else b) 0

/-- A rate-control core has failed (R13, R144, R242): its pipeline's renditions are coded in fallback, the first such course raises
ev 5013, and the groups whose planner it hosted are capped; the ACTIVE hands over by itself at the first course so planned. -/
def Mod.loseRateControl (m : Mod) (c : Nat) : Mod :=
  let p := c / 8
  let rs := (List.range 128).filter fun r => (m.rend r).cfgs ≠ [] && m.pipeOf r = p && m.lanes.any fun x => x.2.2.1 = r
  let coding (g : Nat) : List Nat := (List.range 128).filter fun q => m.n (0x5400 + q) 8 = g && (m.rend q).cfgs ≠ []
  let groups := if c % 8 = 1 then (List.range 32).filter fun g => match coding g with
      | [] => false
      | q :: _ => rs.contains q
    else []
  let m' := m.each rs fun (m : Mod) (r : Nat) => m.modRend r fun s => { s with fallback := true }
  let m' := m'.each (groups.flatMap coding) fun (m : Mod) (r : Nat) => m.modRend r fun s => { s with capped := true }
  if rs = [] then m'
  else
    let m' : Mod := { m' with fallbacks := m'.fallbacks ++ [(p, groups)] }
    (m'.autoHandover (m'.nextHandoff rs) false).1

/-- The service of class `cls` that core c carried resumes on a spare (R13, R364, R385), ev 2801; the calibration sequencer's run is
queued again. -/
def Mod.houseService (m : Mod) (c sp cls : Nat) : Mod :=
  let m := (((m.put (0x2800 + sp) 1 0).put (0x2800 + sp) 2 cls).bump (0x2800 + sp) 6).put (0x2800 + sp) 4
    (if within cls 2 4 then m.n (0x2800 + c) 4 else 0xFF)
  let m := ((m.putCore cls sp true).bump (0x2880 + cls) 4).put (0x2880 + cls) 5 m.now
  let m := (m.raise 0x2801 c [c, sp, cls]).modHw fun h => { h with misses := h.misses.set sp 0 }
  if cls = 9 then m.requeueRuns else m

/-- The failures of this tick that hold a spare still serving. -/
def Mod.claimsNow (m : Mod) : List (Nat × Nat × Nat) :=
  if m.hw.claims.1 = m.tick then m.hw.claims.2.filter fun x => m.core x.2.2 = 0 else []

/-- A failed core's service claims spare `sp` (R13). The failures of one tick hold their spares in ascending order of the failed cores,
so a service that claimed one before a lower-numbered core of its tick failed moves on (log 57). -/
def Mod.moveService (m : Mod) (c sp cls : Nat) : Mod :=
  let m := (m.useSpare sp).putCore cls c false
  let l := sortBy (fun (x y : Nat × Nat × Nat) => x.1 ≤ y.1) (m.claimsNow ++ [(c, cls, sp)])
  let moves := (l.zip (sortBy (fun (x y : Nat) => x ≤ y) (l.map (·.2.2)))).map fun x => (x.1, x.2)
  let fresh := moves.filter fun x => x.1.1 = c || x.1.2.2 ≠ x.2
  let m := m.each fresh fun (m : Mod) (x : (Nat × Nat × Nat) × Nat) => m.putCore x.1.2.1 x.1.2.2 false
  let m := m.each fresh fun (m : Mod) (x : (Nat × Nat × Nat) × Nat) => m.houseService x.1.1 x.2 x.1.2.1
  m.modHw fun h => { h with claims := (m.tick, moves.map fun x => (x.1.1, x.1.2.1, x.2)) }

/-- A service stays down: ev 2803 for rate control, which does not move, else ev 2802 (R13). -/
def Mod.dropService (m : Mod) (c cls : Nat) : Mod :=
  let m := ((m.put (0x2880 + cls) 2 (m.n (0x2880 + cls) 2 - 1)).put (0x2880 + cls) 3 (m.n (0x2880 + cls) 3 + 1)).putCore
    cls c false
  if cls = 1 then (m.raise 0x2803 c [c, c / 8]).loseRateControl c
  else
    let home := if within cls 2 4 then 8 * m.n (0x2800 + c) 4 + cls else c
    let m : Mod := { m with downCores := m.downCores ++ [home] }
    m.raise 0x2802 c [c, cls]

/-- A core fails (R364, R386): cause 1 heartbeat, 2 local memory, 3 trap. A spare that fails takes no service with it
(log 57). -/
def Mod.failCore (m : Mod) (c cause : Nat) : Mod :=
  let st := m.core c
  if st = 3 then m
  else
    let cls := m.n (0x2800 + c) 2
    let m := ((m.put (0x2800 + c) 1 3).put (0x2800 + c) 7 cause).put (0x2800 + c) 8 m.now
    let m := (m.bump 0x2900 2).put 0x2900 4 c
    let m :=
      if st ≠ 0 then (m.useSpare c).raise 0x2801 c [c, 0xFF, 0]
      else if cls = 1 then m.dropService c 1
      else match m.freeSpare with
        | some sp => m.moveService c sp cls
        | none => m.dropService c cls
    (m.put (0x2800 + c) 2 0).showSett

/-- HEARTBEAT_CHECK: cores that miss two checks in a row fail, in ascending order; a single miss
is counted once the core has answered the next check (R364, R386). -/
def Mod.heartbeat (m : Mod) (missed : List Nat) : Mod :=
  m.each (List.range 64) fun (m : Mod) (c : Nat) =>
    if m.core c = 3 then m
    else
      let before := nth m.hw.misses c
      let m := m.modHw fun h => { h with misses := h.misses.set c (if missed.contains c && before = 0 then 1 else 0) }
      if before = 0 then m else if missed.contains c then m.failCore c 1 else m.bump (0x2800 + c) 5

/-! ### Built-in tests (R371) -/

/-- Whether a target is listed for a test (Table 19.6); tests without targets ignore theirs. -/
def testTargetOk (test target : Nat) : Bool := if test = 3 then target < 16 else if test = 4 then target < 38 else true

/-- Whether the requirement of a test is met (Table 19.6). -/
def Mod.testReady (m : Mod) (test target : Nat) : Bool :=
  if test = 1 then m.freeSpare ≠ none
  else if test = 2 then m.mediaStopped
  else if test = 3 then m.fn memoryFid = Sys2Proof.Machine.stopped
  else if test = 4 then m.laneTests target
  else true

/-- The refusal of a test start. -/
def Mod.testFault (m : Mod) : Option Refuse :=
  let test := m.n 0x7500 1
  let target := m.n 0x7500 2
  firstOf [
    fun _ => need (m.hw.test = none) ⟨conflict, 0, 0x7500, 3⟩,
    fun _ => need (test ≠ 4 || 38 ≤ target || m.testReady test target) ⟨notReady, 0, 0x7500, 3⟩,
    fun _ => need (test = 4 || m.testReady test target) ⟨notReady, 0, 0x7500, 3⟩,
    fun _ => need (testTargetOk test target) ⟨outOfRange, 0, 0x7500, 3⟩]

/-- Spares under test, or back. -/
def Mod.testSpares (m : Mod) (on : Bool) : Mod :=
  m.each (List.range 64) fun (m : Mod) (c : Nat) =>
    if on && m.core c = 1 then m.put (0x2800 + c) 1 2 else if !on && m.core c = 2 then m.put (0x2800 + c) 1 1 else m

/-- BUILT_IN_TEST_START. -/
def Mod.startTest (m : Mod) : Mod :=
  let test := m.n 0x7500 1
  let m := m.modHw fun h => { h with test := some (test, m.n 0x7500 2, m.now) }
  let m := ((m.put 0x7500 4 1).put 0x7500 5 0).put 0x7500 7 m.now
  if test = 1 then m.testSpares true else m

/-- A test is over, with a result. -/
def Mod.endTest (m : Mod) (result : Nat) : Mod :=
  let m := m.modHw fun h => { h with test := none }
  ((m.put 0x7500 4 0).put 0x7500 5 result).testSpares false

/-- BUILT_IN_TEST_COMPLETE: ev 7402, or ev 7403. -/
def Mod.testDone (m : Mod) (pass : Bool) (detail : Nat) : Mod :=
  match m.hw.test with
  | none => m
  | some x =>
    let m := (m.endTest (if pass then 1 else 2)).put 0x7500 6 detail
    if pass then m.raise 0x7402 x.1 [x.1, x.2.1] else m.raise 0x7403 x.1 [x.1, x.2.1, detail]

/-- BUILT_IN_TEST_ABORT: a running test reads result 3. -/
def Mod.abortTest (m : Mod) : Mod := if m.hw.test = none then m else m.endTest 3

end Sys2Proof.Machine
end

