-- ==== Sys2Proof/Machine/Hardware.lean ====
section
/-! DEFINITION. Module hardware (ch. 17 and 18): readiness, the mason's mark on the chassis I²C, power input and hold-up,
cooling and the thermal response, LEDs, the power-on steps that fail, and the oven crystal. -/

namespace Sys2Proof.Machine

/-! ### Readiness (R331, R332) -/

/-- The bits of 1040:02 (Table 17.3). -/
def Mod.readinessBits (m : Mod) : Nat :=
  let trial := m.hw.trialFrom ≠ none
  let one (b : Nat) (on : Bool) : Nat := if on then 2 ^ b else 0
  one 0 (m.n 0x1800 4 = 0) + one 1 (m.n 0x1800 4 = 3) + one 2 (m.servoState < Sys2Proof.Machine.locked)
    + one 3 (m.cal.failed ≠ []) + one 4 (m.cal.marginal ≠ []) + one 5 trial
    + one 6 (m.n 0x1200 1 ≠ m.n 0x1200 7 && !trial) + one 7 (m.n 0x2000 2 = 2)
    + one 8 ((List.range 8).any fun q => m.flag (0x2440 + q) 9)

/-- The readiness state of a module that is powered and past step 8 (Table 17.2). -/
def Mod.servingState (m : Mod) : Nat :=
  let old := m.n 0x1040 1
  let timed := Sys2Proof.Machine.locked ≤ m.servoState || m.flag 0x1434 0
  if m.n 0x2000 2 = 0 || m.noCrystal || m.n 0x1D00 5 = 2 then 6
  else if m.n 0x1800 4 = 0 then 3
  else if m.mediaStopped then (if timed then 4 else 3)
  else if timed || old = 5 then 5
  else 3

/-- The readiness state (R331). -/
def Mod.readiness (m : Mod) : Nat :=
  match m.hw.power with
  | .off => 0
  | .recovery => 2
  | .halted => 6
  | .tripped => 6
  | .on => m.servingState
  | .fresh => m.servingState

/-- Readiness and its conditions as they now hold: each change raises ev 1001, and the time to READY is kept (R331, R332). -/
def Mod.showReadiness (m : Mod) : Mod :=
  let old := m.n 0x1040 1
  let oldBits := m.n 0x1040 2
  let new := m.readiness
  let bits := m.readinessBits
  let m := (m.put 0x1040 1 new).put 0x1040 2 bits
  let m := if new = old && bits = oldBits then m else m.raiseRaw 0x1001 0 (if new = 6 then 5 else 0) [old, new, oldBits, bits]
  let m := if 4 ≤ new && new ≤ 5 && m.n 0x1040 3 = 0 then m.put 0x1040 3 (m.ctr - m.hw.poweredAt) else m
  m.modHw fun h => { h with steady := h.steady && within new 3 5 }

/-! ### The mason's mark (R345, R346) -/

/-- The 7-bit address at which the responder answers (R345). -/
def Mod.i2cAddress (m : Mod) : Nat := if m.n 0x1000 0x0B = 0xFF then 0x3F else 0x40 + m.n 0x1000 0x0B

/-- The octets of a text object, padded with zeros to n. -/
def Mod.text (m : Mod) (idx sub n : Nat) : Octets :=
  let b := (m.octets idx sub).take n
  b ++ List.replicate (n - b.length) 0

/-- Bytes 0-63 of the map (Table 18.4). -/
def Mod.markFixed (m : Mod) : Octets :=
  let o := 0x1000
  [1, 0] ++ m.text o 1 8 ++ beOctets 1 (m.n o 2) ++ beOctets 1 (m.n o 3) ++ beOctets 1 (m.n o 4) ++ [0]
    ++ beOctets 8 (m.n o 5) ++ m.text o 6 16 ++ beOctets 2 (m.n o 7) ++ beOctets 6 (m.n o 8) ++ beOctets 1 (m.n o 9) ++ [0]
    ++ m.text o 0x0A 16

/-- The byte at an offset of the map (Table 18.4). -/
def Mod.markByte (m : Mod) (offset : Nat) : Byte :=
  if offset < 64 then m.markFixed.getD offset 0
  else if offset < 80 then m.hw.live.getD (offset - 64) 0
  else if 252 ≤ offset then (beOctets 4 (crc32c m.markFixed)).getD (offset - 252) 0
  else 0

/-- Whether the standby rail is up, so that the responder answers. -/
def Mod.standbyUp (m : Mod) : Bool := m.hw.power ≠ .off

/-- I2C_OFFSET_WRITE. -/
def Mod.i2cOffset (m : Mod) (offset : Nat) : Mod :=
  if m.standbyUp then m.modHw fun h => { h with i2cOffset := offset } else m

/-- I2C_READ: the byte at the offset, which advances and wraps; reading offset 64 releases the alert. -/
def Mod.i2cRead (m : Mod) : Mod :=
  if m.standbyUp then
    let o := m.hw.i2cOffset
    (m.send (.i2cByte (m.markByte o))).modHw fun h =>
      { h with
        i2cOffset := (o + 1) % 256
        i2cAlert := h.i2cAlert && o ≠ 64 }
  else m

/-- The 16 bits of a signed value (R3). -/
def word16 (z : Int) : Octets := beOctets 2 (z % 65536).toNat

/-- The live bytes 64-79 as they stand (Table 18.4). -/
def Mod.liveOctets (m : Mod) : Octets :=
  let head := beOctets 1 m.readiness ++ beOctets 1 (m.n 0x1D00 5)
  if m.runs then
    head ++ beOctets 2 (m.readinessBits % 65536) ++ word16 (m.z 0x1D00 1) ++ word16 (m.z 0x1D00 3)
      ++ beOctets 2 (m.n 0x1D00 6) ++ beOctets 2 (m.n 0x1D40 5) ++ [0, 0, 0, 0]
  else head ++ liveBefore.drop 2

/-- The airflow request in 0.001 m³/s for a junction temperature in 0.1 °C, rounded up (R352):
52 × clip(0.5 + (Tj − 80) / 30, 0.5, 1). -/
def airflow (tj : Int) : Nat :=
  let x := 150 + (tj - 800)
  let y := (if x < 150 then 150 else if 300 < x then 300 else x).toNat
  (52 * y + 299) / 300

/-- A reading clamped to a largest value. -/
def clamped (z : Int) (top : Nat) : Nat := min z.toNat top

/-- What the sensors read (R351, R355): temperatures, feed currents, powers. -/
def Mod.readSensors (m : Mod) : Mod :=
  let d := m.draws
  let i16 (z : Int) : Int := if z < -32768 then -32768 else if 32767 < z then 32767 else z
  let optics := ((List.range 9).map fun q => m.n (0x2440 + q) 4).sum / 1000
  let m := ((m.putZ 0x1D00 3 (i16 (Config.sensor d 0))).putZ 0x1D00 4 (i16 (Config.sensor d 1))).putZ 0x1D00 8
    (i16 (Config.sensor d 2))
  let current (b i : Nat) : Nat := if m.n 0x1D40 (6 + b) = 1 || m.n 0x1D40 (6 + b) = 3 then clamped (Config.sensor d i) 17700 else 0
  let m := (m.put 0x1D40 2 (current 0 3)).put 0x1D40 4 (current 1 4)
  let m := (m.put 0x1D40 5 (clamped (Config.sensor d 5) 780)).put 0x1D40 0x0B (clamped (Config.sensor d 6) 400)
  let m := (m.put 0x1D40 0x0C (clamped (Config.sensor d 7) 192)).put 0x1D40 0x0D optics
  (m.putMax 0x1D40 0x0E (m.z 0x1D40 5)).draw

/-- LIVE_FIELD_UPDATE: every 100 ms the airflow request follows the junction, unless thermal control is down, and the live
bytes are updated; a change of bytes 64-67 or 72-73 asserts the alert (R346, R352, R364). -/
def Mod.updateLive (m : Mod) : Mod :=
  let m := if !m.runs then m
    else if m.serviceDown 0 10 then m.readSensors
    else m.readSensors.put 0x1D00 6 (airflow (m.z 0x1D00 1))
  if !m.standbyUp then m
  else
    let new := m.liveOctets
    let watched (b : Octets) : Octets := b.take 4 ++ (b.drop 8).take 2
    m.modHw fun h =>
      { h with
        live := new
        i2cAlert := h.i2cAlert || watched new ≠ watched h.live }

/-! ### Power (R347-R350) -/

/-- The module loses its power: launching stops at once, and everything but what is Retained is lost with the next boot; without
input the hold-up bank is empty until it is charged again (R350). -/
def Mod.powerDown (m : Mod) (p : Power) : Mod :=
  let m := if p = .off then (m.put 0x1D40 8 0).put 0x1D40 9 0 else m
  m.modHw fun h =>
    { h with
      power := p
      dipAt := none
      railRetry := false
      live := if p = .off then liveBefore else h.live }

/-- The state a feed's voltage in mV gives it (Table 18.5, R348). -/
def Mod.feedState (m : Mod) (b : Nat) (mv : Int) : Nat :=
  if (nth m.hw.shortAt b) ≠ none then 5
  else if 60000 < mv then 5
  else if m.n 0x1D40 (6 + b) = 5 && 59000 ≤ mv then 5
  else if mv < 0 then 4
  else if mv = 0 then 0
  else if mv < 44000 then 2
  else if 58000 < mv then 3
  else 1

/-- A feed takes a state: each change raises ev 1D04, which normal clears (R348, R361; log 58). -/
def Mod.setFeed (m : Mod) (b st : Nat) : Mod :=
  let old := m.n 0x1D40 (6 + b)
  if old = st then m
  else
    let m := m.put 0x1D40 (6 + b) st
    if !m.runs then m
    else if st = 1 then m.raiseClear 0x1D04 b [0x1D04] [b, old, st]
    else if m.condSet 0x1D04 b then m.raise 0x1D04 b [b, old, st]
    else m.raiseCond 0x1D04 b [b, old, st]

/-- Whether a feed carries the module. -/
def Mod.feedCarries (m : Mod) (b : Nat) : Bool :=
  (m.n 0x1D40 (6 + b) = 1 || m.n 0x1D40 (6 + b) = 3) && 44000 ≤ m.n 0x1D40 (1 + 2 * b)

/-- FEED_STATE_CHANGE: a feed's voltage in mV. A feed back at or above 44 V within 5 ms ends a dip (R350). A switch opened by
a short retries after 1 s (R348). -/
def Mod.feedChange (m : Mod) (b : Nat) (mv : Int) : Mod :=
  let m := match nth m.hw.shortAt b with
    | none => m
    | some t => if t + second ≤ m.ctr then m.modHw fun h => { h with shortAt := h.shortAt.set b none } else m
  let m := (m.put 0x1D40 (1 + 2 * b) mv.toNat).setFeed b (m.feedState b mv)
  match m.hw.dipAt with
  | none => m
  | some t =>
    if m.feedCarries b && m.ctr ≤ t + 5000000 then
      let m := (m.modHw fun h => { h with dipAt := none }).bump 0x1D40 0x0A
      if m.runs then m.raise 0x1D05 0 [m.ctr - t] else m
    else m

/-- INTERNAL_SHORT_LIMIT: 1 ms at 25 A opens the feed's switch for 1 s (R348). -/
def Mod.feedShort (m : Mod) (b : Nat) : Mod :=
  (m.modHw fun h => { h with shortAt := h.shortAt.set b (some m.ctr) }).setFeed b 5

/-- HOLD_UP_CHARGED: the bank is at 80 V. -/
def Mod.holdUpCharged (m : Mod) : Mod := if m.standbyUp then (m.put 0x1D40 8 1).put 0x1D40 9 800 else m

/-- INPUT_DIP: both feeds below 42 V; the bank carries the module, if it is charged. -/
def Mod.inputDip (m : Mod) : Mod :=
  if !m.standbyUp || m.hw.dipAt ≠ none then m
  else if m.flag 0x1D40 8 then m.modHw fun h => { h with dipAt := some m.ctr }
  else m.powerDown .off

/-- HOLD_UP_EXPIRY: 5 ms on the bank. -/
def Mod.holdUpExpiry (m : Mod) : Mod :=
  match m.hw.dipAt with
  | none => m
  | some t => if t + 5000000 ≤ m.ctr then m.powerDown .off else m

/-! ### Thermal response (R352-R355) -/

/-- How far every threshold is lowered, in 0.1 °C (R353). -/
def Mod.lowered (m : Mod) : Int := if m.cal.failed.contains 27 then 30 else 0

/-- 1D00:07 follows the sensors' calibration. -/
def Mod.showLowered (m : Mod) : Mod := m.putFlag 0x1D00 7 (m.cal.failed.contains 27)

/-- Gives every rendition its stop, from the next base tick with T mod 4 = 0 on (R354). -/
def Mod.thermalRenditions (m : Mod) : Mod := m.stopRenditions (nextOnGrain (m.tick + 1) 4)

/-- The twin function is stopped as by an untimed command (R354, R244). -/
def Mod.thermalTwin (m : Mod) : Mod :=
  let m := m.modPreud fun p => { p with fnCmds := p.fnCmds.filter fun (x : FnCmd) => x.fid ≠ twinFid }
  let m := (m.removeChangeSet twinFid)
  if m.twinFn = Sys2Proof.Machine.stopped then m
  else if m.twinFn = starting then { m with twinFn := 0 }
  else
    let c : FnCmd := ⟨twinFid, 2, m.nextApply 1, none, false, 0, 0, m.preud.nextOrder⟩
    m.modPreud fun p => { p with fnCmds := p.fnCmds ++ [c], nextOrder := p.nextOrder + 1 }

/-- What a thermal stop does by role (R354). A pending handover proceeds, and the stop takes effect after its X. -/
def Mod.thermalAct (m : Mod) : Mod :=
  if m.role = Role.active then
    if m.twin.handover ≠ none then m.modHw fun h => { h with thermalWait := true }
    else
      let (m', began) := m.autoHandover (nextOnGrain (m.tick + 1) 4) true
      if began then m' else m.thermalRenditions
  else if m.role = Role.notPaired then m.thermalRenditions
  else m.thermalTwin.thermalRenditions

/-- A stop that waited takes effect once the handover it waited for is over, at an edge. -/
def Mod.thermalEdge (m : Mod) : Mod :=
  if m.hw.thermalWait && m.twin.handover = none then
    (m.modHw fun h => { h with thermalWait := false }).thermalAct
  else m

/-- 1D00:05 follows the stop and the warning. -/
def Mod.showThermal (m : Mod) (stop : Bool) : Mod :=
  m.put 0x1D00 5 (if stop then 2 else if m.condSet 0x1D01 0 then 1 else 0)

/-- The trip's comparator: how many samples in a row lie at or above 115 °C, four of them the trip (R353). Its sensor is its own, so it
acts in recovery too. -/
def Mod.tripRun (m : Mod) (temp : Int) : Nat := if 1150 - m.lowered ≤ temp then min 4 (nth m.hw.hot 2 + 1) else 0

/-- A sample of the junction temperature in 0.1 °C: a threshold is crossed by four in a row at or above it (R353). While domain 27 is
calibrated the reading repeats the one before (R297); the trip's does not. -/
def Mod.junction (m : Mod) (sample : Int) : Mod :=
  let d := m.lowered
  let temp := if m.cal.runsIn 27 then m.z 0x1D00 1 else sample
  let run (i : Nat) (limit : Int) : Nat := if limit - d ≤ temp then min 4 (nth m.hw.hot i + 1) else 0
  let hot := [run 0 1000, run 1 1080, m.tripRun sample]
  let stop := m.n 0x1D00 5 = 2
  let cool : Option Nanos := if temp < 950 - d then some (m.hw.coolSince.getD m.ctr) else none
  let m := m.modHw fun h =>
    { h with
      hot := hot
      coolSince := cool }
  let m := (m.putZ 0x1D00 1 temp).putMax 0x1D00 2 temp
  if nth hot 2 = 4 then m.powerDown .tripped
  else
    let m := if nth hot 0 = 4 && !m.condSet 0x1D01 0 then (m.bump 0x1D00 0x0A).raiseCond 0x1D01 0 [temp.toNat, 1]
      else if temp < 970 - d && m.condSet 0x1D01 0 then m.raiseClear 0x1D01 0 [0x1D01] [temp.toNat, 0]
      else m
    if nth hot 1 = 4 && !stop then
      let m := (m.bump 0x1D00 0x0B).raiseCond 0x1D02 0 [temp.toNat, roleNo m.role]
      (m.showThermal true).thermalAct
    else m.showThermal stop

/-- JUNCTION_SAMPLE: a module that runs takes the sample; one in recovery has its processor powered, and only the trip acts. -/
def Mod.junctionSample (m : Mod) (sample : Int) : Mod :=
  if m.runs then m.junction sample
  else if m.hw.power = .recovery then
    let n := m.tripRun sample
    let m := m.modHw fun h => { h with hot := h.hot.set 2 n }
    if n = 4 then m.powerDown .tripped else m
  else m

/-- THERMAL_STOP_END: the junction has been below the clearing point for 10 s, ev 1D03. -/
def Mod.thermalEnd (m : Mod) : Mod :=
  match m.hw.coolSince with
  | none => m
  | some t =>
    if m.n 0x1D00 5 = 2 && t + 10 * second ≤ m.ctr then
      ((m.modHw fun h => { h with thermalWait := false }).raiseClear 0x1D03 0 [0x1D02] []).showThermal false
    else m

/-- COOL_FAIL: the signal is asserted or released, ev 1D06; no other action (R352). -/
def Mod.coolFail (m : Mod) (on : Bool) : Mod :=
  if m.flag 0x1D00 9 = on then m
  else if on then (m.put 0x1D00 9 1).raiseCond 0x1D06 0 [1]
  else (m.put 0x1D00 9 0).raiseClear 0x1D06 0 [0x1D06] [0]

/-- EJECTOR: ev 1D07, no other action (R341). -/
def Mod.ejector (m : Mod) (opened : Bool) : Mod :=
  if m.hw.ejectorOpen = opened then m
  else (m.modHw fun h => { h with ejectorOpen := opened }).raise 0x1D07 0 [if opened then 1 else 0]

/-- OPTIC_TEMPERATURE_READ: an optic at its own high-alarm threshold, ev 1D08 (R355). -/
def Mod.opticTemperature (m : Mod) (q : Nat) (temp highAlarm : Int) : Mod :=
  let optic : Bool := match (m.cage q).info with
    | none => false
    | some x => x.optic
  if optic && highAlarm ≤ temp then m.raiseLimited 0x1D08 q (60 * second) [q, temp.toNat] else m

/-! ### The power-on sequence's failures, and the oven (R324, R330) -/

/-- XB has not been judged within 300 s of step 8: it is declared stopped (R330). -/
def Mod.xbTimeout (m : Mod) : Mod :=
  if m.n 0x1800 4 = 0 && m.hw.serviceAt + 300 * second ≤ m.ctr then
    ((m.put 0x1800 4 3).raiseAgain 0x1802 3 [3, 3]).raise 0x1004 0 []
  else m

/-- XB_OVEN_SETTLED: its judgement begins (R330). -/
def Mod.ovenSettled (m : Mod) : Mod := m.modClk fun c => { c with settled := true }

/-- A DRAM channel whose training does not converge: not permitted, ev 2001 cause 4 (R328). -/
def Mod.trainingFails (m : Mod) (c : Nat) : Mod :=
  if m.n (0x2140 + c) 1 = 0 then m
  else ((m.put (0x2140 + c) 1 2).put 0x2000 2 0).raiseRaw 0x2001 0 5 [m.n 0x2000 9, 4]

/-- POWER_STEP_TIMEOUT: a step of Table 17.1 is not complete by its limit. -/
def Mod.stepTimeout (m : Mod) (epoch step ch : Nat) : Mod :=
  if step ≤ 2 then m.powerDown .off
  else if step = 3 then
    if m.hw.railRetry then m.powerDown .halted  -- one retry (Table 17.1)
    else (m.powerDown .off).modHw fun h => { h with railRetry := true }
  else if step = 4 then m.powerDown .halted
  else if step = 5 then m.xaFails epoch
  else if step = 6 then m.powerDown .recovery
  else if step = 7 then m.trainingFails ch
  else if step = 9 then m.xbTimeout
  else m

/-! ### Firmware confirmation (R339) -/

/-- A trial image is confirmed: it becomes the preferred one, the rollback floor rises to the one it carries, ev 1204. -/
def Mod.confirmTrial (m : Mod) : Mod :=
  match m.hw.trialFrom with
  | none => m
  | some _ =>
    let i := m.n 0x1200 1
    let m := ((m.put 0x1200 (5 + i) 2).put 0x1200 7 i).put 0x1200 8 (max (m.n 0x1200 8) (nth m.hw.images i).floor)
    ((m.modHw fun h => { h with trialFrom := none }).put 0x1210 5 0).raise 0x1204 0 [i]

/-- AUTO_CONFIRM_EXPIRY: the trial has run for 1210:04 without a reset, readiness at least WARMING throughout. -/
def Mod.autoConfirm (m : Mod) : Mod :=
  let t := m.n 0x1210 4
  if m.hw.steady && t ≠ 0 && m.hw.serviceAt + t ≤ m.ctr then m.confirmTrial else m

/-! ### Indicators and J1 outputs (R343, R356) -/

/-- A colour of an LED. -/
inductive Led | off | green | amber | red | blue
  deriving DecidableEq, Repr

/-- A pattern of an LED: steady, 2 Hz, 0.5 Hz, or alternating with green at 1 Hz. -/
inductive LedPattern | steady | blink2 | blinkHalf | alternate
  deriving DecidableEq, Repr

/-- The POWER LED (Table 18.9). -/
def Mod.ledPower (m : Mod) : Led × LedPattern :=
  (if m.n 0x1D40 6 = 1 && m.n 0x1D40 7 = 1 then Led.green else Led.amber, .steady)

/-- The STATUS LED (Table 17.2, R331). -/
def Mod.ledStatus (m : Mod) : Led × LedPattern :=
  match m.readiness with
  | 0 => (.amber, .steady)
  | 1 => (.amber, .blink2)
  | 2 => (.red, .blink2)
  | 3 => (.green, .blink2)
  | 4 => if m.readinessBits = 0 then (.green, .blinkHalf) else (.amber, .alternate)
  | 5 => if m.readinessBits = 0 then (.green, .steady) else (.amber, .alternate)
  | _ => (.red, .steady)

/-- The SYNC LED. -/
def Mod.ledSync (m : Mod) : Led × LedPattern :=
  let st := m.servoState
  if st = Sys2Proof.Machine.locked then (.green, .steady)
  else if st = acquiring then (.green, .blink2)
  else if m.flag 0x1420 7 then (.amber, .blink2)
  else if st = freerun then (.off, .steady)
  else (.amber, .steady)

/-- The TWIN LED. -/
def Mod.ledTwin (m : Mod) : Led × LedPattern :=
  match m.role with
  | .active => (.green, .steady)
  | .standby => (.green, .blinkHalf)
  | .unsynced => (.amber, .blink2)
  | .fenced => (.amber, .steady)
  | .notPaired => (.off, .steady)

/-- The TEMP LED. -/
def Mod.ledTemp (m : Mod) : Led × LedPattern :=
  (if m.n 0x1D00 5 = 2 then Led.red else if m.n 0x1D00 5 = 1 then Led.amber else Led.off, .steady)

/-- The LOCATE LED: an open ejector shows over the locate setting. -/
def Mod.ledLocate (m : Mod) : Led × LedPattern :=
  if m.hw.ejectorOpen then (.blue, .blink2) else if m.flag 0x1010 1 then (.blue, .steady) else (.off, .steady)

/-- The LED beside a cage: where two conditions hold, the one lower in Table 18.9 shows. -/
def Mod.ledCage (m : Mod) (q : Nat) : Led × LedPattern :=
  let st := m.n (0x2440 + q) 2
  let us := m.cageUnits q
  let runs := if q = 8 then m.twinFn ≠ Sys2Proof.Machine.stopped else m.fn (portFid q) ≠ Sys2Proof.Machine.stopped
  if 4 ≤ st then (.red, .steady)
  else if m.cageTests q then (.amber, .blink2)
  else if m.flag (0x2440 + q) 9 || us.any fun u => u < 32 && m.n (0x3900 + u) 5 = 3 then (.amber, .steady)
  else if st = 0 || !runs then (.off, .steady)
  else if us.all fun u => m.unitStage u = 5 then (.green, .steady)
  else (.green, .blink2)

/-- FAULT_N is low: readiness HALTED, or a thermal trip (Table 18.2). -/
def Mod.faultOut (m : Mod) : Bool := m.readiness = 6

/-- I2C_ALERT_N is low. -/
def Mod.alertOut (m : Mod) : Bool := m.hw.i2cAlert

/-- LED_TEST: every LED shows each of its colours in turn, 1 s per colour (R356). -/
def Mod.ledTest (m : Mod) : Mod := m.modHw fun h => { h with ledTestAt := some m.ctr }

/-- What an LED of some colours shows: the test's colour while it lasts, else its state. -/
def Mod.shown (m : Mod) (colours : List Led) (x : Led × LedPattern) : Led × LedPattern :=
  match m.hw.ledTestAt with
  | none => x
  | some t => match colours[(m.ctr - t) / second]? with
    | some c => (c, .steady)
    | none => x

end Sys2Proof.Machine
end

