-- ==== Sys2Proof/Machine/Admission.lean ====
section
/-! DEFINITION. Admission (R96): the checks a start or restart of a function passes when it is accepted, in their fixed
order, on the module as it would then stand. -/

namespace Sys2Proof.Machine

/-! ### The module as it would stand -/

/-- The module at a tick, or once all that is pending has applied: every pending start counts as STARTING, and the restarts due by then
have their change sets (R96, R143). -/
def Mod.withPending (m : Mod) (by_ : Option Nat) : Mod :=
  m.each m.preud.fnCmds fun (m : Mod) (x : FnCmd) =>
    if x.cmd = 1 then m.setFn x.fid starting
    else if x.cmd = 3 && (match by_ with | none => true | some T => x.applyTick ≤ T) then match m.changeSet x.fid with
      | none => m
      | some c => { m with objs := m.objs.over c.values }
    else m

/-- A start or restart of a function counts too, with its change set. -/
def Mod.asStarted (m : Mod) (fid : Nat) (restart : Bool) (by_ : Option Nat) : Mod :=
  let v := m.withPending by_
  if !restart then v.setFn fid starting
  else match m.changeSet fid with
    | none => v
    | some c => { v with objs := v.objs.over c.values }

/-- The tick at which a function's pending start or restart applies. -/
def Mod.pendingTick (m : Mod) (fid : Nat) : Option Nat :=
  (m.preud.fnCmds.find? fun x => x.fid = fid && x.cmd ≠ 2).map fun x => x.applyTick

/-! ### Encode checks (Table 5.7) -/

/-- A committed rendition of a pipeline: rendition, channel, cost. -/
abbrev Commit := Nat × Nat × Nat

/-- Places the renditions of one tick, as R95 does at that tick: placed channels must fit where they are, the others are placed.
`pipes` are the channels placed so far. -/
def Mod.placeAt (m : Mod) (pipes : List (Nat × Nat)) (held : List Commit) (rs : List Nat) :
    Except (Nat × Nat) (List (Nat × Nat) × List Commit) :=
  let new : List Commit := rs.map fun r => (r, m.rendChan r, m.rendCost r)
  let held' := (held.filter fun x => !rs.contains x.1) ++ new
  let cost (l : List Commit) (n : Nat) : Nat := ((l.filter fun x => x.2.1 = n).map fun x => x.2.2).sum
  let pl := pipes.map fun x => (x.1, x.2, cost held' x.1)
  match pl.find? fun x => (new.any fun y => y.2.1 = x.1) && pipeLimit < pipeLoad pl x.2.1 with
  | some x => .error (0x5001, x.1)
  | none =>
    let fresh := (List.range 32).filter fun n => (new.any fun y => y.2.1 = n) && !(pipes.any fun x => x.1 = n)
    match placeChannels pl (fresh.map fun n => (n, cost new n, m.wantedPipe n)) with
    | .error e => .error e
    | .ok l => .ok (l.map fun x => (x.1, x.2.1), held')

/-- Places tick after tick. -/
def Mod.placeTicks (v : Mod) : List (Nat × List Nat) → List (Nat × Nat) → List Commit → Option (Nat × Nat)
  | [], _, _ => none
  | (_, rs) :: rest, pipes, held =>
    match v.placeAt pipes held rs with
    | .error e => some e
    | .ok (pipes', held') => v.placeTicks rest pipes' held'

/-- The ticks at which what runs changes from T on: its own, and those of later restarts. -/
def Mod.viewTicks (m : Mod) (T : Nat) : List Nat :=
  T :: sortBy (fun (a b : Nat) => a ≤ b) ((m.preud.fnCmds.filter fun x => x.cmd = 3 && T < x.applyTick).map (·.applyTick)).eraseDups

/-- The pipeline checks 0x5001 and 0x5003: `m` is the module as it is, `v` as it stands once everything pending has applied, `extra` the
ticks of what is being started. -/
def Mod.pipelineFault (m v : Mod) (extra : List (Nat × Nat)) : Option (Nat × Nat) :=
  let tickOf (r : Nat) : Option Nat := match extra.find? fun x => x.1 = rendFid r with
    | some x => some x.2
    | none => m.pendingTick (rendFid r)
  let pending := v.countedRends.filterMap fun r => (tickOf r).map fun t => (t, r)
  let ticks := sortBy (fun (a b : Nat) => a ≤ b) (pending.map (·.1)).eraseDups
  let line := ticks.map fun t => (t, (pending.filter fun x => x.1 = t).map (·.2))
  let pipes := m.placed.map fun x => (x.1, x.2.1)
  let held : List Commit := m.committedRends.map fun r => (r, m.rendChan r, m.rendCost r)
  v.placeTicks line pipes held

/-- Item 1 of R96 for one rendition; `pipe` is what the pipeline checks found. -/
def Mod.encodeFault (v : Mod) (pipe : Option (Nat × Nat)) (r : Nat) : Option Refuse :=
  let o := 0x5000 + r
  firstOf [
    fun _ => need (v.rendProfile r ≠ 0) ⟨fitCheck, 0x5005, o, 4⟩,
    fun _ => need (v.rungOfSize (v.rendChan r) (v.n o 3) ≠ none) ⟨fitCheck, 0x5004, o, 3⟩,
    fun _ => need (v.rendLevel r ≠ none) ⟨fitCheck, 0x5006, o, 7⟩,
    fun _ => need ((v.countedRends.map fun q => v.rendCost q).sum ≤ v.n 0x5250 2) ⟨fitCheck, 0x5002, o, 1⟩,
    fun _ => pipe.map fun x => ⟨fitCheck, x.1, 0x5200 + x.2, 1⟩,
    fun _ => need ((v.countedRends.map fun q => v.rendRefBytes q).sum ≤ v.n 0x2010 4 * gib) ⟨fitCheck, 0x5007, o, 9⟩]

/-! ### Refresh, rate control and output (Tables 6.6, 7.6, 8.3) -/

/-- Item 2 of R96 (R122). -/
def Mod.refreshFault (v : Mod) (r : Nat) : Option Refuse :=
  let tf := v.n (0x4800 + v.rendChan r) 4
  let o := 0x5300 + r
  firstOf [
    fun _ => need (!v.flag o 4 || tf = 1) ⟨fitCheck, 0x5008, o, 4⟩,
    fun _ => need (tf ≠ 2 || v.n o 0x0E < v.n o 0x0D) ⟨fitCheck, 0x5009, o, 0x0E⟩]

/-- The bits of a depth code 0-2. -/
def depthBits (d : Nat) : Nat := 8 + 2 * d

/-- The rates a bond group has, or will have once pending writes of it apply (R143). -/
def Mod.groupRates (v : Mod) (g : Nat) : List Nat :=
  v.n (0x5600 + g) 1 :: ((v.preud.rt.filter fun x => x.idx = 0x5600 + g && x.sub = 1).map fun x => x.value.nat)
    ++ ((v.preud.timed.filter fun x => x.idx = 0x5600 + g && x.sub = 1).map fun x => x.value.nat)

/-- Whether a rendition's QPs hold: floor ≤ base ≤ ceiling, all within the codec's range (0x5010). -/
def Mod.qpsHold (v : Mod) (r base : Nat) (b f c : Int) : Bool :=
  let _ := base
  let lo : Int := -6 * ((depthBits (v.n (0x5000 + r) 6) : Int) - 8)
  let hi : Int := if v.n (0x5000 + r) 4 = 0 then 51 else 63
  lo ≤ f && f ≤ b && b ≤ c && c ≤ hi

/-- Whether a cap of rate R and buffer B holds the floor (R130). -/
def Mod.capHolds (v : Mod) (r rateKb bufKb : Nat) : Bool :=
  v.memberOmax r + 34 * v.memberFloor r ≤ v.fam.frameAllowance (bufKb * 1000) (rateKb * 1000) (v.rendStep r)
    && bufKb ≤ 180 * rateKb

/-- Item 3 of R96 (R146). -/
def Mod.rateFault (v : Mod) (r : Nat) : Option Refuse :=
  let o := 0x5400 + r
  let g := v.n o 8
  let rs := v.members g
  firstOf [
    fun _ => need (v.qpsHold r o (v.z o 1) (v.z o 2) (v.z o 3)) ⟨fitCheck, 0x5010, o, 1⟩,
    fun _ => need (v.capHolds r (v.n o 6) (v.n o 7)) ⟨fitCheck, 0x5011, o, 6⟩,
    fun _ => need (31 < g || (v.groupRates g).all fun R => v.groupOk rs R (v.n (0x5600 + g) 2) (v.rendStep r))
      ⟨fitCheck, 0x5012, 0x5600 + g, 1⟩,
    fun _ => need (31 < g || rs.all fun q => v.rendStep q = v.rendStep r) ⟨fitCheck, 0x5013, o, 8⟩,
    fun _ => need (31 < g || rs.length ≤ 16) ⟨fitCheck, 0x5014, o, 8⟩]

/-- The configured audio channels of a channel: those of its bound flows. -/
def Mod.audioChannels (v : Mod) (n : Nat) : Nat :=
  ((List.range 4).map fun f => if v.audioBound n f then v.n (0x4040 + n) (6 * f + 4) else 0).sum

/-- Whether the audio layouts of an output's streams in use hold (R152). -/
def Mod.layoutsHold (v : Mod) (r : Nat) : Bool :=
  let have_ := v.audioChannels (v.rendChan r)
  let streams := (List.range (v.n (0x5800 + r) 0x1A)).map fun i =>
    let b := v.n (0x5800 + r) (0x1B + i)
    (b / 16, b % 16)
  let chans := streams.flatMap fun x => (List.range x.2).map fun i => x.1 + i
  (streams.all fun x => [2, 4, 6, 8].contains x.2 && x.1 + x.2 ≤ have_) && chans.eraseDups.length = chans.length

/-- The first path of an output that a test refuses, and the subitem of its destination. -/
def Mod.pathFault (v : Mod) (r reason off : Nat) (bad : Nat × Nat × Nat → Bool) : Option Refuse :=
  match v.outputPaths r with
  | [] => none
  | x :: rest =>
    if bad x then some ⟨fitCheck, reason, 0x5800 + r, 4 + off⟩
    else if rest.any bad then some ⟨fitCheck, reason, 0x5800 + r, 8 + off⟩
    else none

/-- Item 4 of R96 (R166). -/
def Mod.outputFault (v : Mod) (r : Nat) : Option Refuse :=
  let o := 0x5800 + r
  let on := v.flag o 1
  let ts := v.n o 2 = 0
  let pids := (v.rendCfg r).pids
  let all := v.usedPaths 16
  firstOf [
    fun _ => need (!ts || ((pids.all fun p => within p 0x10 0x1FFE) && pids.eraseDups.length = pids.length))
      ⟨fitCheck, 0x5801, o, 0x16⟩,
    fun _ => need (!on || v.n 0x7000 1 = 0 || v.lease + 60000 ≤ v.hold) ⟨fitCheck, 0x5802, 0x5A00, 1⟩,
    fun _ => need (!on || ((v.countedRends.filter fun q => v.flag (0x5800 + q) 1).map fun q => v.outputSlots q).sum ≤ 1048576)
      ⟨fitCheck, 0x5803, o, 1⟩,
    fun _ => need (!ts || v.layoutsHold r) ⟨fitCheck, 0x5805, o, 0x1B⟩,
    fun _ => v.pathFault r 0x5806 0 fun x => !destinationOk x.1,
    fun _ => v.pathFault r 0x5807 0 fun x => pathTwice all x,
    fun _ => v.pathFault r 0x5808 3 fun x => !v.portExists x.2.2]

/-- Whether a rendition is reserved with its output in direct mode (R185). -/
def Mod.reservedDirect (v : Mod) (r : Nat) : Bool := v.flag (0x6080 + r) 1 && v.n (0x5800 + r) 2 = 1

/-- A reserved rendition is in TS mode (R185); one whose ring was sized when replay started must still fit it (R184). -/
def Mod.ringFault (v : Mod) (r : Nat) : Option Refuse :=
  firstOf [
    fun _ => need (!v.reservedDirect r) ⟨fitCheck, 0x6003, 0x6080 + r, 1⟩,
    fun _ => match v.ring r with
      | none => none
      | some g => need (v.ringSize r ≤ g.size) ⟨fitCheck, 0x6002, 0x6080 + r, 1⟩]

/-- Items 1-4 of R96 for one rendition; a disabled one counts toward no limit. -/
def Mod.renditionFault (v : Mod) (pipe : Option (Nat × Nat)) (r : Nat) : Option Refuse :=
  if !v.rendOn r then none
  else firstOf [
    fun _ => v.encodeFault pipe r,
    fun _ => v.refreshFault r,
    fun _ => v.rateFault r,
    fun _ => v.outputFault r,
    fun _ => v.ringFault r]

/-! ### Channel checks (R42, R47, R41, R51, R40, R64, R71, R74, R251) -/

/-- The roles of a channel: object, subitem, the entry it names, and what it loads in Mb/s (R43, R67). -/
def Mod.roles (v : Mod) (n : Nat) : List (Nat × Nat × Nat × Nat) :=
  let f := v.fam
  let size := v.n (0x4000 + n) 3
  let k := v.chanStep n
  let own := f.videoRate size (bitsPerPixel (v.n (0x4000 + n) 4) (v.n (0x4000 + n) 5)) k
  let video := if v.n (0x4000 + n) 1 = 0 then [8, 9].map fun s => (0x4000 + n, s, v.n (0x4000 + n) s, own) else []
  let layers := (List.range 4).flatMap fun l =>
    let o := 0x4B00 + layerOf n l
    let fmt := v.layerFmt n l
    [1, 2].map fun s => (o, s, v.n o s, if v.n (0x4000 + n) 1 = 0 then f.videoRate size (bitsPerPixel fmt.sampling fmt.depth) k else 0)
  let audio := (List.range 4).flatMap fun i => [6 * i + 1, 6 * i + 2].map fun s => (0x4040 + n, s, v.n (0x4040 + n) s, 50)
  let anc := (List.range 2).flatMap fun i => [3 * i + 1, 3 * i + 2].map fun s => (0x4080 + n, s, v.n (0x4080 + n) s, 20)
  (video ++ layers ++ audio ++ anc).filter fun x => x.2.2.1 ≠ 0xFFFF

/-- The channels that count: STARTING or RUNNING. -/
def Mod.countedChans (v : Mod) : List Nat := (List.range 32).filter fun n => v.counts (chanFid n)

/-- The entries that fill roles across the module, once for each role. -/
def Mod.roleEntries (v : Mod) : List Nat :=
  (v.countedChans.flatMap fun n => (v.roles n).map fun x => x.2.2.1)
    ++ (([0, 1].filter fun e => v.counts (decodeFid e)).flatMap fun e => v.decodeFlows e)

/-- The first role of a channel that a test refuses. -/
def Mod.roleFault (v : Mod) (n reason : Nat) (bad : Nat → Bool) : Option Refuse :=
  ((v.roles n).find? fun x => bad x.2.2.1).map fun x => ⟨fitCheck, reason, x.1, x.2.1⟩

/-- The first role of a list whose entry fills an earlier one too; `seen` are the entries before. -/
def repeatedRole : List Nat → List (Nat × Nat × Nat × Nat) → Option (Nat × Nat)
  | _, [] => none
  | seen, x :: rest => if seen.contains x.2.2.1 then some (x.1, x.2.1) else repeatedRole (x.2.2.1 :: seen) rest

/-- Item 5 of R96 for one channel. -/
def Mod.channelFault (v : Mod) (n : Nat) : Option Refuse :=
  let c := 0x4000 + n
  let all := v.roleEntries
  firstOf [
    fun _ => v.roleFault n 0x4002 fun e => !v.flowOn e,
    fun _ => (repeatedRole [] (v.roles n)).map fun x => ⟨fitCheck, 0x4003, x.1, x.2⟩,
    fun _ => v.roleFault n 0x4004 fun e => 4 < timesIn e all,
    fun _ => need (v.legsInUse ≤ legLimit) ⟨fitCheck, 0x4009, c, 8⟩,
    fun _ => need (v.chanAlign n ≤ 34) ⟨fitCheck, 0x4005, c, 0x0A⟩,
    fun _ => match v.sourceEngine n with
      | none => none
      | some e => need (v.n (0x5C00 + e) 6 = v.n c 3 && v.n (0x5C40 + e) 2 = v.n c 4 && v.n (0x5C00 + e) 7 = v.n c 2)
          ⟨fitCheck, 0x4006, c, 1⟩,
    fun _ => need (v.n c 0x0E ≠ 2 || (v.n (0x4210 + v.n c 0x0F) 2 = v.n c 3 && v.n (0x4210 + v.n c 0x0F) 3 = v.n c 4))
      ⟨fitCheck, 0x4007, c, 0x0F⟩,
    fun _ => need (v.audioChannels n ≤ 16) ⟨fitCheck, 0x4008, 0x4040 + n, 4⟩,
    fun _ => need (presetOk (v.n (0x4800 + n) 5) (v.n (0x4800 + n) 1) (v.n (0x4800 + n) 2) (v.n (0x4800 + n) 3)
      (v.n (0x4800 + n) 4)) ⟨fitCheck, 0x4807, 0x4800 + n, 5⟩,
    fun _ => (v.shadowFault n).map fun x => ⟨fitCheck, x.1, 0x4A00 + layerOf n x.2, if x.1 = 0x4805 then 4 else 0x0A⟩,
    fun _ => (v.ladderFault n).map fun x => ⟨fitCheck, 0x4803, 0x48C0 + n, x⟩,
    fun _ => need v.picturesFit ⟨fitCheck, 0x2004, 0x2010, 3⟩]

/-! ### Items 6-9 of R96 -/

/-- Item 6 (R76, R77). -/
def Mod.scalerFault (v : Mod) : Option Refuse :=
  let wide := (v.scaledRungs v.countedChans).find? fun x => 65536 < v.lineBuffer x.1 x.2
  match wide with
  | some x => some ⟨fitCheck, 0x4801, 0x48C0 + x.1, 3 + 5 * x.2⟩
  | none => match v.placeScalers v.countedChans with
    | .ok _ => none
    | .error (r, x) => some ⟨fitCheck, r, 0x48C0 + x.1, 5 + 5 * x.2⟩

/-- The committed ingest load in Mb/s (R43). -/
def Mod.ingestLoad (v : Mod) : Nat := (v.countedChans.flatMap fun n => (v.roles n).map fun x => x.2.2.2).sum

/-- Item 7 (R43). -/
def Mod.ingestFault (v : Mod) : Option Refuse := need (v.ingestLoad ≤ 1600000) ⟨fitCheck, 0x4001, 0x4200, 1⟩

/-- Item 8 (R259). -/
def Mod.bandwidthFault (v : Mod) : Option Refuse := v.demandFault.map fun r => ⟨fitCheck, r, 0x2080, 1⟩

/-- Item 9 (R207) on the ports a function loads. -/
def Mod.capacityFault (v : Mod) (ports : List Nat) : Option Refuse :=
  (v.fabricFault ports).map fun r => ⟨fitCheck, r, 0x3900 + (ports.find? fun p => v.portFault p ≠ none).getD 0, if r = 0x3802 then 4 else 2⟩

/-- Items 6-9. -/
def Mod.commonFault (v : Mod) (ports : List Nat) : Option Refuse :=
  firstOf [fun _ => v.scalerFault, fun _ => v.ingestFault, fun _ => v.bandwidthFault, fun _ => v.capacityFault ports]

/-! ### Each kind of function -/

/-- A start or restart of a rendition. -/
def Mod.admitRendition (v : Mod) (pipe : Option (Nat × Nat)) (r : Nat) : Option Refuse :=
  firstOf [fun _ => v.renditionFault pipe r, fun _ => v.commonFault (v.outputPorts r)]

/-- The renditions that a restart of a channel restarts. -/
def Mod.restartedWith (v : Mod) (n : Nat) (restart : Bool) : List Nat :=
  if restart then v.countedRends.filter fun r => v.rendChan r = n else []

/-- A start or restart of a channel: a restart restarts its renditions, which are checked as started with it. -/
def Mod.admitChannel (v : Mod) (pipe : Option (Nat × Nat)) (n : Nat) (restart : Bool) : Option Refuse :=
  let rs := v.restartedWith n restart
  let step := need (v.fam.hasStep (v.chanStep n)) ⟨outOfRange, 0, 0x4000 + n, 2⟩
  match step with
  | some x => some x
  | none => match rs.findSome? fun r => v.renditionFault pipe r with
    | some x => some x
    | none => firstOf [fun _ => v.channelFault n, fun _ => v.commonFault (rs.flatMap fun r => v.outputPorts r)]

/-- A start or restart of a decode engine (R182, Table 9.3). -/
def Mod.admitDecode (v : Mod) (e : Nat) : Option Refuse :=
  let o := 0x5C00 + e
  let out := 0x5C40 + e
  let src := v.n o 4
  firstOf [
    fun _ => need (v.fam.hasStep (v.decodeStep e)) ⟨outOfRange, 0, o, 7⟩,
    fun _ => need ((v.decodeFlows e).all (fun x => v.flowOn x && timesIn x v.roleEntries ≤ 4) && v.legsInUse ≤ legLimit) ⟨fitCheck, 0x5C01, o, 2⟩,
    fun _ => need (v.n o 1 ≠ 1 || (v.rendOn src && v.n (0x5800 + src) 2 = 0)) ⟨fitCheck, 0x5C02, o, 4⟩,
    fun _ => need (v.n o 1 ≠ 2 || (src ≤ 15 && within (v.n (0x6240 + src) 1) 1 2)) ⟨fitCheck, 0x5C03, o, 4⟩,
    fun _ => need ((v.decodePaths e).all fun x => destinationOk x.1 && v.portExists x.2.2 && !pathTwice (v.usedPaths 16) x)
      ⟨fitCheck, 0x5C04, out, 5⟩,
    fun _ => v.bandwidthFault,
    fun _ => v.capacityFault (v.decodePorts e)]

/-- A start or restart of the replay function (R183). -/
def Mod.admitReplay (v : Mod) : Option Refuse :=
  firstOf [
    fun _ => need (v.n 0x6000 1 ≤ v.replayRoom) ⟨fitCheck, 0x6001, 0x6000, 1⟩,
    fun _ => need ((v.reserved.map fun r => v.ringSize r).sum ≤ v.replayRegion) ⟨fitCheck, 0x6002, 0x6000, 1⟩,
    fun _ => ((v.countedRends.filter v.reservedDirect).head?).map fun r =>
      ⟨fitCheck, 0x6003, 0x6080 + r, 1⟩,
    fun _ => v.bandwidthFault]

/-- A start or restart of the twin function (R214), in the order of that rule. -/
def Mod.admitTwin (v : Mod) : Option Refuse :=
  let w := (List.range (v.n 0x7000 4)).map fun i => v.n 0x7000 (5 + i)
  firstOf [
    fun _ => need (v.n 0x7000 1 ≠ 0) ⟨fitCheck, 0x7002, 0x7000, 1⟩,
    fun _ => need (v.n 0x7000 2 ≠ 0 && v.n 0x7000 2 ≠ v.fuse) ⟨fitCheck, 0x7002, 0x7000, 2⟩,
    fun _ => need ([1, 3].contains (v.n 0x7000 4)) ⟨fitCheck, 0x7004, 0x7000, 4⟩,
    fun _ => ((List.range w.length).find? fun i => nth w i = 0 || 1 < timesIn (nth w i) w).map fun i =>
      ⟨fitCheck, 0x7004, 0x7000, 5 + i⟩,
    fun _ => need (v.flag 0x7000 0x0D) ⟨fitCheck, 0x7005, 0x7000, 0x0C⟩,
    fun _ => need (v.lease + 60000 ≤ v.hold) ⟨fitCheck, 0x7003, 0x5A00, 1⟩,
    fun _ => v.bandwidthFault]

/-- The checks of a start or restart of a function on the module as it would stand. -/
def Mod.admits (v : Mod) (pipe : Option (Nat × Nat)) (fid : Nat) (restart : Bool) : Option Refuse :=
  if within fid 0x200 0x27F then v.admitRendition pipe (fid - 0x200)
  else if within fid 0x100 0x11F then v.admitChannel pipe (fid - 0x100) restart
  else if within fid 0x300 0x301 then v.admitDecode (fid - 0x300)
  else if fid = replayFid then v.admitReplay
  else if fid = twinFid then v.admitTwin
  else if within fid 0x10 0x17 then v.portStartFault (fid - 0x10)
  else if fid = memoryFid then need v.regionsFit ⟨fitCheck, 0x2002, 0x2010, 3⟩
  else none

/-- Admission of a start or restart of a function at tick T: what runs holds from T on, before and after the restarts that are pending
for later ticks (R96). -/
def Mod.admission (m : Mod) (fid T : Nat) (restart : Bool) : Option Refuse :=
  let w := m.asStarted fid restart none
  let rs := if within fid 0x100 0x11F then (w.restartedWith (fid - 0x100) restart).filter fun r => m.fn (rendFid r) = running else []
  let pipe := if within fid 0x100 0x27F then m.pipelineFault w ((fid, T) :: rs.map fun r => (rendFid r, T)) else none
  (m.viewTicks T).findSome? fun t => (m.asStarted fid restart (some t)).admits pipe fid restart

/-- Shows a fit-check refusal of admission in the last-refusal objects of its area (R96, R315). -/
def Mod.noteAdmission (m : Mod) (fid : Nat) (x : Refuse) : Mod :=
  if x.status ≠ fitCheck then m
  else
    let m := if within fid 0x100 0x27F then (m.put 0x5250 5 x.reason).put 0x5250 6 x.obj else m
    if x.reason / 256 = 0x20 then m.noteDemand x.reason x.obj else m

/-! ### Conditions of a start (R15, R31, R247, R288, R313, R330, R354) -/

/-- The conditions under which a function may be started at all, in the order of what they need: role, memory, clocks, time,
temperature, the functions it needs. -/
def Mod.startBlocked (m : Mod) (fid T : Nat) : Option Nat :=
  let media := isMediaFid fid
  let twin := fid = twinFid
  if (media || twin) && m.n 0x1021 0 = 1 then some accessDenied
  else if m.noCrystal then some notReady
  else if media && (m.n 0x2000 2 = 0 || m.coreCoasts) then some notReady
  else if (media || twin) && m.n 0x1800 4 = 0 then some notReady
  else if media && m.servoState < Sys2Proof.Machine.locked && !m.flag 0x1434 0 then some notReady
  else if twin && m.readiness < 4 then some notReady
  else if (within fid 0x200 0x27F || twin) && m.n 0x1D00 5 = 2 then some notReady
  else if media && m.fn memoryFid ≠ running then some notReady
  else if media && m.timeFn ≠ running then some notReady
  else if within fid 0x200 0x27F then
    let c := chanFid (m.rendChan (fid - 0x200))
    let due : Bool := match m.pendingTick c with
      | none => false
      | some t => t ≤ T
    if m.fn c = running || due then none else some notReady
  else none

/-- The conditions a restart shares with a stop (R313): those of the time, memory and port functions. -/
def Mod.stopBlocked (m : Mod) (fid : Nat) : Option Nat :=
  if fid = timeFid && !m.mediaStopped then some accessDenied
  else if fid = memoryFid && (!m.mediaStopped || m.twinFn ≠ stopped || (List.range 8).any fun q => m.fn (portFid q) ≠ stopped)
    then some accessDenied
  else if within fid 0x10 0x17 && m.portHeld (fid - 0x10) then some conflict
  else none

/-- A stop of a channel needs its renditions stopped, STOPPING, or stopped by a pending command by then (R313). -/
def Mod.channelHeld (m : Mod) (fid T : Nat) : Bool :=
  within fid 0x100 0x11F && (List.range 128).any fun r =>
    let f := rendFid r
    m.rendChan r = fid - 0x100 && m.fn f ≠ stopped && m.fn f ≠ stopping
      && !(m.preud.fnCmds.any fun x => x.fid = f && x.cmd = 2 && x.applyTick ≤ T)

end Sys2Proof.Machine
end

