-- ==== Sys2Proof/Machine/Access.lean ====
section
/-! DEFINITION. Writes of objects (R2-R4, R307, R310, R374-R376, R389, R390): decoding a value, the checks in their order, and
what a value does when it comes into force. -/

namespace Sys2Proof.Machine

/-! ### Values on the wire (Table 0.1) -/

/-- A big-endian two's-complement number. -/
def intOf (b : Octets) : Int :=
  let n := natOf b
  let top := 2 ^ (8 * b.length)
  if n < top / 2 then (n : Int) else (n : Int) - (top : Int)

/-- One octet of UTF-8 text: how many octets of the character are still to come, and between what the next must lie. -/
def utf8Step (s : Option (Nat × Nat × Nat)) (b : Byte) : Option (Nat × Nat × Nat) :=
  match s with
  | none => none
  | some (0, _, _) =>
    let n := b.toNat
    if n < 0x80 then some (0, 0, 0)
    else if within n 0xC2 0xDF then some (1, 0x80, 0xBF)
    else if n = 0xE0 then some (2, 0xA0, 0xBF)
    else if n = 0xED then some (2, 0x80, 0x9F)
    else if within n 0xE1 0xEF then some (2, 0x80, 0xBF)
    else if n = 0xF0 then some (3, 0x90, 0xBF)
    else if within n 0xF1 0xF3 then some (3, 0x80, 0xBF)
    else if n = 0xF4 then some (3, 0x80, 0x8F)
    else none
  | some (k + 1, lo, hi) => if within b.toNat lo hi then some (k, 0x80, 0xBF) else none

/-- Whether octets are valid UTF-8. -/
def utf8Ok (l : Octets) : Bool :=
  match l.foldl utf8Step (some (0, 0, 0)) with
  | some (0, _, _) => true
  | _ => false

/-- A value in the encoding of its type; none where it breaks that (R3). -/
def decodeVal (ty : Ty) (b : Octets) : Option Val :=
  let sized (n : Nat) (v : Int) : Option Val := if b.length = n then some (.num v) else none
  match ty with
  | .u8 => sized 1 (natOf b)
  | .u16 => sized 2 (natOf b)
  | .u32 => sized 4 (natOf b)
  | .u64 => sized 8 (natOf b)
  | .bits32 => sized 4 (natOf b)
  | .enum8 => sized 1 (natOf b)
  | .bool => if natOf b ≤ 1 then sized 1 (natOf b) else none
  | .i16 => sized 2 (intOf b)
  | .i32 => sized 4 (intOf b)
  | .dur => sized 8 (intOf b)
  | .time =>
    let nano := natOf (b.drop 6)
    if nano < second then sized 10 ((natOf (b.take 6) * second + nano : Nat) : Int) else none
  | .str n =>
    let rest := b.drop (textOf b).length
    if b.length ≤ n && utf8Ok (textOf b) && rest.all (fun x => x = 0) then
      some (.bytes (b ++ List.replicate (n - b.length) 0)) else none
  | .blob => some (.bytes b)

/-- Whether a value lies in a stated range. -/
def Rng.holds (r : Rng) (v : Val) : Bool :=
  match r, v with
  | .all, _ => true
  | .iv lo hi, .num z => lo ≤ z && z ≤ hi
  | .ivs l, .num z => l.any fun x => x.1 ≤ z && z ≤ x.2
  | .mult lo hi k, .num z => (lo : Int) ≤ z && z ≤ (hi : Int) && z % (k : Int) = 0
  | .mask bits, .num z => z.toNat &&& bits = z.toNat
  | .ipmc, .num z => z = 0 || z.toNat / 2 ^ 28 = 14
  | .lens l, .bytes b => l.any fun x => x.1 ≤ b.length && b.length ≤ x.2
  | _, _ => false

/-! ### Who writes -/

/-- Who writes, and how: role, session, the route of the request, the flow entry its session selects, whether the session is the
keyless one of R305, whether the value comes at a BULK END, and whether an image load writes (R322). -/
structure Writer where
  role : Nat
  sid : Nat
  route : Route
  selector : Nat
  weak : Bool
  bulk : Bool
  load : Bool
  deriving DecidableEq, Repr, Inhabited

/-- How a value is to come into force. -/
inductive Form | direct | staged | timed (t : Nanos)
  deriving DecidableEq, Repr

/-- Whether a write is staged. -/
def Form.isStaged : Form → Bool
  | .staged => true
  | .direct => false
  | .timed _ => false

/-- Whether a write names a TIME. -/
def Form.isTimed : Form → Bool
  | .timed _ => true
  | .direct => false
  | .staged => false

/-- The index under which a session's objects are stored: 3010:02 and above are a window on the entry it selects (R379). -/
def storeIdx (selector idx sub : Nat) : Nat := if idx = 0x3010 && 2 ≤ sub then flowIdx selector else idx

/-- Whether an object may be written by timed launch (R376, R390). -/
def timedOk (acc : Acc) (idx : Nat) : Bool := acc = .rt || idx = 0x1433

/-- Whether an object is the window of a check channel, slate, still or other instance. -/
def isLayerShadow (idx : Nat) : Bool := within idx 0x4A00 0x4A7F

/-! ### Checks -/

/-- The role check (R307, R305). -/
def Writer.roleFault (w : Writer) (f : Field) (idx sub : Nat) (b : Octets) : Option Refuse :=
  if w.weak then need (idx = 0x1110 && within sub 1 4) ⟨roleDenied, 0, idx, sub⟩
  else need (leastRole f.acc idx sub (natOf b) ≤ w.role) ⟨roleDenied, 0, idx, sub⟩

/-- The check of a staged write (R314). -/
def Mod.stagedFault (m : Mod) (w : Writer) (f : Field) (idx sub : Nat) : Option Refuse :=
  match f.acc, ownerOf idx with
  | .rs, some fid =>
    match m.changeSet fid with
    | none => some ⟨notReady, 0, idx, sub⟩
    | some c => need (c.owner = some w.sid && !c.sealed) ⟨conflict, 0, idx, sub⟩
  | _, _ => some ⟨accessDenied, 0, idx, sub⟩

/-- The check of the access code (R4, R374, R388). A load writes values of the time and memory functions for the next boot.
1181:05, which Table 16.15 has moved by bulk transfer only, is refused a WRITE with 0x03 (DESIGN CHOICE, log 25). -/
def Mod.accessFault (m : Mod) (w : Writer) (f : Field) (idx sub : Nat) (form : Form) : Option Refuse :=
  let no : Refuse := ⟨accessDenied, 0, idx, sub⟩
  if f.acc = .ro then some no
  else if within idx 0x1181 0x1188 && sub = 5 && !w.bulk then some no
  else match form with
    | .timed _ => need (timedOk f.acc idx) no
    | .staged => m.stagedFault w f idx sub
    | .direct =>
      if f.acc ≠ .rs then none
      else if idx = 0x5A00 then need ((List.range 128).all fun r => m.fn (rendFid r) = stopped) no
      else match ownerOf idx with
        | none => none
        | some fid => need (m.fn fid = stopped || (w.load && (fid = timeFid || fid = memoryFid))) no

/-- The members a bond group will have at a tick, of the module as it will stand then (R138, R143): those that have not yet stopped by
it; a start that applies later counts from its acceptance. -/
def Mod.membersAt (v : Mod) (g T : Nat) : List Nat :=
  (v.members g).filter fun r =>
    !(v.preud.fnCmds.any fun x => x.fid = rendFid r && x.cmd = 2 && v.rendStopEnd r x.applyTick ≤ v.fam.edge T)

/-- The tick at which a write comes into force: an untimed one at the next edge (R19), a timed one on its grain (R22). -/
def Mod.writeTick (m : Mod) (idx : Nat) (form : Form) : Nat :=
  match form with
  | .timed t => m.timedApply t (m.grainOf idx)
  | .direct => m.nextApply 1
  | .staged => m.nextApply 1

/-- The index of the image that does not run (R338): 0 A, 1 B. -/
def Mod.otherImage (m : Mod) : Nat := if m.n 0x1200 1 = 0 then 1 else 0

/-- The checks of a firmware image (R338, Table 17.6). -/
def Mod.firmwareFault (m : Mod) (x : FwImage) : Option Refuse :=
  let no (r : Nat) : Refuse := ⟨fitCheck, r, 0x1210, 1⟩
  if !x.signed then some (no 0x1201)
  else if !x.forProduct then some (no 0x1202)
  else need (m.n 0x1200 8 ≤ x.release) (no 0x1203)

/-- Whether the module is ACTIVE with a STANDBY partner, which a reset by command must not interrupt (R336). -/
def Mod.mustHandOver (m : Mod) : Bool := m.role = .active && m.partnerIs .standby

/-- Conditions of the objects that configure ports and flows (R199-R201, R203, R207, Table 20.3). -/
def Mod.flowFault (m : Mod) (w : Writer) (idx sub : Nat) (v : Val) : Option Refuse :=
  let e := w.selector
  let conflict_ : Refuse := ⟨accessDenied, 0, idx, sub⟩
  if idx = 0x3001 then
    need ((List.range 16).all fun i => v.nat / 4 ^ i % 4 ≠ 3) ⟨outOfRange, 0, idx, sub⟩
  else if idx = 0x3010 then
    if sub = 2 then
      if v.nat = 1 then (if m.flowOn e then none else m.enableFault e) else m.disableFault e
    else if within sub 3 0x0A || within sub 0x12 0x13 then need (!m.flowOn e) conflict_
    else if within sub 0x0B 0x11 then
      need (!m.flowOn e || (m.set (flowIdx e) sub v).policerOk e) ⟨fitCheck, 0x3005, idx, sub⟩
    else none
  else if within idx 0x3100 0x34FF then
    let x := 32 * (idx - 0x3100) + (sub - 1)
    if !m.flowOn x then none
    else
      let view := m.preud.rt.foldl (fun (a : Mod) (y : RtWrite) => if within y.idx 0x3100 0x34FF then a.set y.idx y.sub y.value else a) m
      ((view.set idx sub v).legFault x).map fun r => ⟨fitCheck, r, idx, sub⟩
  else if within idx 0x3800 0x381F && within sub 0x10 0x14 && !w.load then
    need (v.nat ≤ m.n idx (sub - 5)) ⟨outOfRange, 0, idx, sub⟩
  else none

/-- What a change of demand makes of the bandwidth check (R259). -/
def Mod.demandWith (m : Mod) (idx sub : Nat) (v : Val) : Option Refuse :=
  (m.set idx sub v).demandFault.map fun r => ⟨fitCheck, r, idx, sub⟩

/-- Conditions of slates, stills and layers (R55, R69, R73). -/
def Mod.graphicFault (m : Mod) (idx sub : Nat) (v : Val) : Option Refuse :=
  let no (st : Nat) : Refuse := ⟨st, 0, idx, sub⟩
  if within idx 0x4210 0x421F then
    if within sub 2 3 then
      need (!(List.range 32).any fun n => m.fn (chanFid n) = running && m.n (0x4000 + n) 0x0E = 2
        && m.n (0x4000 + n) 0x0F = idx - 0x4210) (no conflict)
    else if sub = 6 then
      need (v.octets.length = planarLength (rungWidth (m.n idx 2)) (rungWidth (m.n idx 2) * 9 / 16) (m.n idx 3)) (no outOfRange)
    else none
  else if isLayerShadow idx then
    firstOf [fun _ => need (!m.commitPending ((idx - 0x4A00) / 4)) (no conflict), fun _ => m.demandWith idx sub v]
  else if within idx 0x4C00 0x4CFF then
    let s := idx - 0x4C00
    if !(within sub 2 4 || sub = 7) then none
    else if m.stillInUse s then some (no conflict)
    else if sub ≠ 7 then m.demandWith idx sub v
    else
      let len := v.octets.length
      firstOf [
        fun _ => need (len = 0 || len = planarLength (m.n idx 2) (m.n idx 3) (m.n idx 4)) (no outOfRange),
        fun _ => need (m.stillBytes - m.n idx 5 + len ≤ m.n 0x2010 5 * gib) (no noResource)]
  else if within idx 0x4900 0x491F && sub = 1 && v.nat = 1 then
    let n := idx - 0x4900
    firstOf [
      fun _ => need (m.fn (chanFid n) = running) (no notReady),
      fun _ => (m.shadowFault n).map fun x => ⟨fitCheck, x.1, 0x4A00 + layerOf n x.2, if x.1 = 0x4805 then 4 else 0x0A⟩]
  else none

/-- Conditions of rate control and replay (R125, R138, R143, R189, R192). -/
def Mod.mediaFault (m : Mod) (idx sub : Nat) (v : Val) (form : Form) : Option Refuse :=
  let no (st : Nat) : Refuse := ⟨st, 0, idx, sub⟩
  if within idx 0x5400 0x547F && sub = 1 then
    need (m.fn (rendFid (idx - 0x5400)) ≠ running || (m.z idx 2 ≤ v.int && v.int ≤ m.z idx 3)) (no outOfRange)
  else if within idx 0x5600 0x561F && sub = 1 then
    let T := m.writeTick idx form
    let w := m.withPending (some T)
    let rs := w.membersAt (idx - 0x5600) T
    match rs with
    | [] => none
    | r :: _ => need (w.groupOk rs v.nat (m.n idx 2) (w.rendStep r)) ⟨fitCheck, 0x5012, idx, sub⟩
  else if within idx 0x5600 0x561F && sub = 2 then
    need ((List.range 128).all fun r => m.n (0x5400 + r) 8 ≠ idx - 0x5600 || m.fn (rendFid r) = stopped) (no accessDenied)
  else if within idx 0x6200 0x620F then
    let s := idx - 0x6200
    if within sub 2 0x0F then need (m.n (0x6240 + s) 1 = 0) (no conflict)
    else if sub = 1 && v.nat = 1 then
      if m.n (0x6240 + s) 1 ≠ 0 then some (no conflict)
      else match m.clipTest s with
        | .error r => some ⟨fitCheck, r, idx, sub⟩
        | .ok _ =>
          let w := m.put (0x6240 + s) 1 1
          firstOf [
            fun _ => w.demandFault.map fun r => ⟨fitCheck, r, idx, sub⟩,
            fun _ => (w.fabricFault (w.playoutPorts s)).map fun r => ⟨fitCheck, r, idx, sub⟩]
    else none
  else none

/-- Conditions of the twin, its witness slots, and the hold (R161, R230, R233, R241, R384). -/
def Mod.twinFault (m : Mod) (w : Writer) (idx sub : Nat) (v : Val) : Option Refuse :=
  let no (st : Nat) : Refuse := ⟨st, 0, idx, sub⟩
  let paired := m.n 0x7000 1 ≠ 0 && !w.load
  if idx = 0x5A00 then need (!paired || m.n 0x7000 3 + 60000 ≤ v.nat) ⟨fitCheck, 0x5802, idx, sub⟩
  else if idx = 0x7000 && sub = 3 then need (!paired || v.nat + 60000 ≤ m.n 0x5A00 1) ⟨fitCheck, 0x7003, idx, sub⟩
  else if idx = 0x7010 then (m.handoverFault v.nat true).map fun _ => ⟨fitCheck, 0x7001, idx, sub⟩
  else if within idx 0x7100 0x713F then
    let others := (List.range 64).filter fun s => 0x7100 + s ≠ idx && m.flag (0x7100 + s) 1
    firstOf [
      fun _ => need m.isWitness (no accessDenied),
      fun _ => need (m.n idx 7 = 0) (no conflict),
      fun _ => need (!(sub = 1 && v.nat = 1 && others.any fun s => m.n (0x7100 + s) 2 = m.n idx 2)) ⟨fitCheck, 0x7007, idx, sub⟩,
      fun _ => need (!(sub = 2 && m.flag idx 1 && others.any fun s => m.n (0x7100 + s) 2 = v.nat)) ⟨fitCheck, 0x7007, idx, sub⟩]
  else none

/-- Conditions of the platform objects (Table 21.8, R338, R339, R367, R371, R388). -/
def Mod.platformFault (m : Mod) (w : Writer) (idx sub : Nat) (v : Val) : Option Refuse :=
  let no (st : Nat) : Refuse := ⟨st, 0, idx, sub⟩
  if idx = 0x1020 then need (v.nat = 0 || m.twinFn = stopped) (no conflict)
  else if idx = 0x1030 && v.nat = 1 then need (!m.mustHandOver) (no accessDenied)
  else if idx = 0x1200 && sub = 7 then need (within (m.n 0x1200 (5 + v.nat)) 1 2) (no notReady)
  else if idx = 0x1210 && sub = 1 then m.firmwareFault (Config.parseFirmware v.octets)
  else if idx = 0x1210 && sub = 2 then
    firstOf [
      fun _ => need (!m.mustHandOver) (no accessDenied),
      fun _ => need (within (m.n 0x1200 (5 + m.otherImage)) 1 3) ⟨fitCheck, 0x1204, idx, sub⟩]
  else if idx = 0x1433 then need (m.flag 0x1420 7) (no notReady)
  else if idx = 0x1840 && within sub 1 4 then need (m.n 0x1840 5 ≠ 1) (no conflict)
  else if idx = 0x1C01 then need (!(within v.nat 10 25 && !m.dimmIn (v.nat - 10))) (no notReady)
  else if within idx 0x2524 0x2525 && sub = 1 then m.generatorFault (idx - 0x2524) v.nat w.route
  else if within idx 0x2524 0x2525 && sub = 2 then need (!pam4Pattern v.nat) ⟨fitCheck, 0x2402, idx, sub⟩
  else if idx = 0x2610 && sub = 1 then need (v.nat = 1 || w.route ≠ .service) (no conflict)
  else if within idx 0x7440 0x744F && within sub 1 6 then
    firstOf [
      fun _ => need (!m.flag idx 0x0A) (no accessDenied),
      fun _ => need (!((sub = 1 && v.nat = 9 && m.n idx 4 = 0) || (sub = 4 && v.nat = 0 && m.n idx 1 = 9))) (no outOfRange)]
  else if idx = 0x7500 && within sub 1 2 then need (m.hw.test = none) (no conflict)
  else if idx = 0x7500 && sub = 3 then m.testFault
  else none

/-- The conditions of an object beyond its access code. -/
def Mod.condFault (m : Mod) (w : Writer) (idx sub : Nat) (v : Val) (form : Form) : Option Refuse :=
  if form.isStaged then none
  else firstOf [
    fun _ => m.platformFault w idx sub v,
    fun _ => m.flowFault w idx sub v,
    fun _ => m.graphicFault idx sub v,
    fun _ => m.mediaFault idx sub v form,
    fun _ => m.twinFault w idx sub v]

/-- The latest TIME a timed launch may name, and the earliest, from its acceptance (R23). -/
def Mod.inWindow (m : Mod) (t : Nanos) : Bool := m.now + 2000000 ≤ t && t ≤ m.now + 86400 * second

/-- The checks every timed launch passes before the table of its own object or function (R24): not ready, too late, no resource. -/
def Mod.launchFault (m : Mod) (t : Nanos) (obj sub : Nat) : Option Refuse :=
  firstOf [
    fun _ => need (2 ≤ m.servoState) ⟨notReady, 0, obj, sub⟩,
    fun _ => need (m.inWindow t) ⟨tooLate, 0, obj, sub⟩,
    fun _ => need (m.timedPending < 1024) ⟨noResource, 0, obj, sub⟩]

/-- The conflicts of R24 between a write and the pending timed launches. -/
def Mod.timedConflict (m : Mod) (idx sub : Nat) (form : Form) : Option Refuse :=
  need (!(m.preud.timed.any fun x => x.idx = idx && x.sub = sub && x.applyTick = m.writeTick idx form))
    ⟨conflict, 0, idx, sub⟩

/-- The row of an object whose role and access checks a write passes, in this order (R2, R4, R307). -/
def Mod.writable (m : Mod) (w : Writer) (idx sub : Nat) (form : Form) (b : Octets) : Except Refuse Field :=
  if 0x10000 ≤ idx then .error ⟨noSuchObject, 0, idx % 65536, sub⟩
  else match findField idx sub with
  | none => .error ⟨noSuchObject, 0, idx, sub⟩
  | some f =>
    match firstOf [fun _ => w.roleFault f idx sub b, fun _ => m.accessFault w f idx sub form] with
    | some x => .error x
    | none => .ok f

/-- The checks of a write in their order: object, role, access, type and range, those of a timed launch (R24), conditions.
Answers the row and the value. -/
def Mod.writeChecked (m : Mod) (w : Writer) (idx sub : Nat) (form : Form) (b : Octets) : Except Refuse (Field × Val) :=
  match m.writable w idx sub form b with
  | .error x => .error x
  | .ok f =>
    match decodeVal f.ty b with
    | none => .error ⟨outOfRange, 0, idx, sub⟩
    | some v =>
      if !f.rng.holds v then .error ⟨outOfRange, 0, idx, sub⟩
      else
        let pends := f.acc = .rt || idx = 0x1433
        match firstOf [
          fun _ => match form with
            | .timed t => m.launchFault t idx sub
            | .direct => none
            | .staged => none,
          fun _ => if pends && !form.isStaged then m.timedConflict idx sub form else none,
          fun _ => m.condFault w idx sub v form] with
        | some x => .error x
        | none => .ok (f, v)

/-! ### What a value does -/

/-- The sessions' keys: a role key is kept and its bit shown (R306). -/
def Mod.storeKey (m : Mod) (sub : Nat) (v : Val) : Mod := (m.set 0x1110 sub v).putBit 0x1110 5 (sub - 1) true

/-- A slate has been loaded or a still loaded or cleared (R55, R73): state, length, CRC. -/
def Mod.showContent (m : Mod) (idx sState sLen sCrc : Nat) (b : Octets) : Mod :=
  ((m.put idx sState (if b = [] then 0 else 2)).put idx sLen b.length).put idx sCrc (if b = [] then 0 else crc32c b)

/-- A check channel is enabled or disabled (R367, R395). -/
def Mod.enableCheck (m : Mod) (k : Nat) (on : Bool) : Mod :=
  let m := (m.putFlag (0x7440 + k) 0x0A on).modCheck k fun c => { c with open_ := false }
  if on then m.clear (0x7480 + k) 1 0xFF else m

/-- A value in force that needs more than to be stored (R4, R356, R279, R73, R292, R293, R277). -/
def Mod.store (m : Mod) (sel idx sub : Nat) (v : Val) : Mod :=
  let i := storeIdx sel idx sub
  let m' := m.set i sub v
  if idx = 0x1010 && sub = 2 then m.ledTest
  else if idx = 0x1110 then m.storeKey sub v
  else if idx = 0x1840 && sub = 4 then m.startCounter
  else if idx = 0x1C01 then m.calibrate v.nat
  else if within idx 0x2400 0x2408 && sub = 0x0B then m.repowerCage (idx - 0x2400)
  else if idx = 0x2408 && sub = 0x0C then m'.drop 32 causeStop
  else if within idx 0x2500 0x2525 && sub = 3 then m.injectOne (idx - 0x2500)
  else if within idx 0x2524 0x2525 && sub = 1 then m.writeGenerator (idx - 0x2524) v.nat
  else if idx = 0x2610 && sub = 1 then m.serviceEnable (v.nat = 1)
  else if idx = 0x3010 && sub = 2 then (if v.nat = 1 then m.enableFlow sel else m.disableFlow sel)
  else if within idx 0x4210 0x421F && sub = 6 then m'.showContent idx 1 4 5 v.octets
  else if within idx 0x4C00 0x4CFF && sub = 7 then m'.showContent idx 1 5 6 v.octets
  else if within idx 0x4800 0x481F && within sub 8 9 then
    m'.showLut idx sub v.octets
  else if idx = 0x7000 && sub = 1 then m'.settleRole
  else if idx = 0x7000 && sub = 0x0C then m'.putFlag 0x7000 0x0D true
  else if within idx 0x7440 0x744F && sub = 0x0A then m.enableCheck (idx - 0x7440) (v.nat = 1)
  else if idx = 0x7500 && sub = 3 then m.startTest
  else if idx = 0x7500 && sub = 8 then m.abortTest
  else m'

/-- Whether an object is a reset object: its write takes effect at the next edge (R382, R395). -/
def isResetObject (idx sub : Nat) : Bool :=
  idx = 0x3600 || idx = 0x3A10 || idx = 0x4201 || idx = 0x4F00 || idx = 0x5251 || idx = 0x5680 || idx = 0x5A10 || idx = 0x5D10
    || idx = 0x6300 || idx = 0x1830 || idx = 0x1D80 || idx = 0x21C0 || idx = 0x2700 || idx = 0x2910 || idx = 0x7081
    || idx = 0x7420 || (within idx 0x5380 0x53FF && sub = 0x0A)

/-- The objects that a reset object zeroes for a value (Tables 20.8 and 21.11): index range, subitem range. -/
def resetTargets (idx v : Nat) : List (Nat × Nat × Nat × Nat) :=
  let one (base n a b : Nat) : Nat × Nat × Nat × Nat := (base + n, base + n, a, b)
  let every (base n a b : Nat) : Nat × Nat × Nat × Nat := (base, base + n - 1, a, b)
  let bits (base a b : Nat) : List (Nat × Nat × Nat × Nat) :=
    ((List.range 32).filter fun n => v.testBit n).map fun n => one base n a b
  if idx = 0x3600 then
    if v = 0xFFFF then [every 0x10000 32768 0x16 0x1A, (0x3000, 0x3000, 4, 6)] else [one 0x10000 v 0x16 0x1A]
  else if idx = 0x3A10 then if v = 0xFF then [every 0x3840 32 1 0xFF] else [one 0x3840 v 1 0xFF]
  else if idx = 0x4201 then bits 0x4140 1 0xFF ++ bits 0x4100 8 8 ++ bits 0x4100 0x0A 0x0A
  else if idx = 0x4F00 then bits 0x4900 3 5
  else if idx = 0x5251 then
    if v = 0xFF then [every 0x5100 128 1 0xFF, every 0x5240 8 0x0C 0x0E] else [one 0x5100 v 1 0xFF]
  else if idx = 0x5680 then
    if v = 0xFF then [every 0x5500 128 1 0xFF, every 0x5640 32 6 0x0A]
    else if v < 128 then [one 0x5500 v 1 0xFF] else [one 0x5640 (v - 128) 6 0x0A]
  else if idx = 0x5A10 then
    if v = 0xFF then [every 0x5980 128 1 0xFF, every 0x5880 128 0x0A 0x0A, every 0x5880 128 0x0C 0x0C, (0x5A01, 0x5A01, 3, 4)]
    else [one 0x5980 v 1 0xFF, one 0x5880 v 0x0A 0x0A, one 0x5880 v 0x0C 0x0C]
  else if idx = 0x5D10 then if v = 0xFF then [every 0x5CC0 2 1 0xFF] else [one 0x5CC0 v 1 0xFF]
  else if idx = 0x6300 then if v = 0xFF then [every 0x6100 128 8 8] else [one 0x6100 v 8 8]
  else if idx = 0x1D80 then [(0x1D00, 0x1D00, 2, 2), (0x1D40, 0x1D40, 0x0E, 0x0E)]
  else if idx = 0x21C0 then
    if v = 0xFF then [every 0x2100 24 5 8, every 0x2140 16 4 7]
    else if v < 0x40 then [one 0x2100 v 5 8] else [one 0x2140 (v - 0x40) 4 7]
  else if idx = 0x2700 then
    if v = 0xFF then [every 0x2480 38 3 3, every 0x2480 38 7 0x0B, every 0x2500 38 7 9]
    else [one 0x2480 v 3 3, one 0x2480 v 7 0x0B, one 0x2500 v 7 9]
  else if idx = 0x2910 then
    if v = 0xFF then [every 0x2800 64 5 5, every 0x2800 64 9 9] else [one 0x2800 v 5 5, one 0x2800 v 9 9]
  else if idx = 0x7081 then [(0x7080, 0x7080, 1, 0xFF)]
  else if idx = 0x7420 then [(0x7400, 0x7400, 1, 7), (0x7410, 0x7410, 1, 0xFF)]
  else if within idx 0x5380 0x53FF then [(idx, idx, 5, 7)]
  else []

/-- A write to a reset object takes effect (R382, R395). -/
def Mod.zero (m : Mod) (idx v : Nat) : Mod :=
  if idx = 0x1830 then m.clearClockFlags
  else m.each (resetTargets idx v) fun (m : Mod) (x : Nat × Nat × Nat × Nat) =>
    (m.clearRange x.1 x.2.1 x.2.2.1 x.2.2.2).unsee x.1 x.2.1 x.2.2.1 x.2.2.2

/-- A value of an RT object comes into force at its tick (R19, R22): commands act, settings are stored. -/
def Mod.applyRt (m : Mod) (idx sub : Nat) (v : Val) (T : Nat) : Mod :=
  if within idx 0x2400 0x2408 && sub = 0x0A then m.retest (idx - 0x2400)
  else if within idx 0x4900 0x491F && sub = 1 then
    if v.nat = 1 then (if m.fn (chanFid (idx - 0x4900)) = running then m.put idx 1 1 else m)
    else (m.put idx 1 0).modChan (idx - 0x4900) fun c => { c with deferred := 0 }
  else if within idx 0x6200 0x620F && sub = 1 then
    let s := idx - 0x6200
    if v.nat = 1 then (if m.n (0x6240 + s) 1 = 1 then m.applyClip s T else m)
    else if v.nat = 2 then m.stopClip s else m.clearSlot s
  else if idx = 0x7010 then m.applyHandover v.nat T
  else if within idx 0x7440 0x744F && sub = 7 then
    (m.set idx sub v).modCheck (idx - 0x7440) fun c => { c with write := some v.nat }
  else m.set idx sub v

/-- What an RT write does as soon as it is accepted (R189, R241): a clip waits, a handover is pending. -/
def Mod.acceptRt (m : Mod) (idx sub : Nat) (v : Val) : Mod :=
  if within idx 0x6200 0x620F && sub = 1 then
    if v.nat = 1 then m.put (0x6240 + (idx - 0x6200)) 1 1 else m
  else if idx = 0x7010 then m.put idx 0 1
  else m

/-- Puts an RT write among those that wait for their tick; a later untimed one of the same object and tick replaces an earlier
one (R19). A clip start that is replaced is one no longer. -/
def Mod.pendRt (m : Mod) (idx sub : Nat) (v : Val) : Mod :=
  let T := m.writeTick idx .direct
  let same (x : RtWrite) : Bool := x.idx = idx && x.sub = sub && x.applyTick = T
  let m := if within idx 0x6200 0x620F && v.nat = 0 && m.preud.rt.any (fun x => same x && x.value = .num 1)
    then m.put (0x6240 + (idx - 0x6200)) 1 0 else m
  let y : RtWrite := ⟨idx, sub, v, T⟩
  m.modPreud fun p => { p with rt := (p.rt.filter fun x => !same x) ++ [y] }

/-- Puts a timed write among the pending timed launches (R22). -/
def Mod.pendTimed (m : Mod) (w : Writer) (idx sub : Nat) (v : Val) (t : Nanos) : Mod :=
  let y : TimedWrite := ⟨idx, sub, v, t, m.writeTick idx (.timed t), w.sid, m.preud.nextOrder⟩
  let m := m.modPreud fun p => { p with
    timed := p.timed ++ [y]
    nextOrder := p.nextOrder + 1 }
  m.showTimed

/-- A value staged into a change set (R314). -/
def Mod.stage (m : Mod) (idx sub : Nat) (v : Val) : Mod :=
  match ownerOf idx with
  | none => m
  | some fid => m.modPreud fun p =>
    { p with
      changeSets := p.changeSets.map fun (x : ChangeSet) =>
        if x.fid = fid then { x with values := x.values.insert (keyOf idx sub) v } else x }

/-- An accepted write that no reset, image or session follows: staged, pending, or in force (R4, R19, R22, R314). -/
def Mod.commit (m : Mod) (w : Writer) (f : Field) (idx sub : Nat) (v : Val) (form : Form) : Mod :=
  match form with
  | .staged => m.stage idx sub v
  | .timed t =>
    if within idx 0x4900 0x491F && v.nat = 1 && m.commitPending (idx - 0x4900) then m
    else (m.pendTimed w idx sub v t).acceptRt idx sub v
  | .direct =>
    if f.acc = .rt then
      if within idx 0x4900 0x491F && v.nat = 1 && m.commitPending (idx - 0x4900) then m
      else if within idx 0x6200 0x620F && v.nat = 2 && m.n (0x6240 + (idx - 0x6200)) 1 = 3 then m.stopClip (idx - 0x6200)
      else (m.pendRt idx sub v).acceptRt idx sub v
    else if idx = 0x1433 then m.pendRt idx sub v
    else if isResetObject idx sub then m.modPreud fun p => { p with resets := p.resets ++ [(idx, v.nat)] }
    else m.store w.selector idx sub v

/-- A refused write shows its reason where its area keeps one (R315, 2080:03, 6240:06). -/
def Mod.noteRefusal (m : Mod) (x : Refuse) : Mod :=
  if x.status ≠ fitCheck then m
  else
    let m := if within x.obj 0x6200 0x620F then m.put (0x6240 + (x.obj - 0x6200)) 6 x.reason else m
    if x.reason / 256 = 0x20 then m.noteDemand x.reason x.obj else m

end Sys2Proof.Machine
end

