-- ==== Sys2Proof/Machine/Images.lean ====
section
/-! DEFINITION. Configuration images (R321-R323, R379, R380, R393): their octets, saving, erasing, loading and replacing them. -/

namespace Sys2Proof.Machine

/-! ### The layout (R323) -/

/-- A record as octets. -/
def ImageRec.octets (x : ImageRec) : Octets :=
  beOctets 2 x.idx ++ beOctets 1 x.sub ++ beOctets 1 0 ++ beOctets 4 x.value.length ++ x.value

/-- An image as octets: format, reserved, record count, CRC-32C from offset 12, records. -/
def imageOctets (l : List ImageRec) : Octets :=
  let body := l.flatMap ImageRec.octets
  beOctets 2 1 ++ beOctets 2 0 ++ beOctets 4 l.length ++ beOctets 4 (crc32c body) ++ body

/-- A number of records read from octets that hold nothing else; none where they are not that. -/
def parseRecords : Nat → Octets → Option (List ImageRec)
  | 0, b => if b = [] then some [] else none
  | n + 1, b =>
    let len := natOf ((b.drop 4).take 4)
    if b.length < 8 + len || natOf ((b.drop 3).take 1) ≠ 0 then none
    else match parseRecords n (b.drop (8 + len)) with
      | none => none
      | some r => some (⟨natOf (b.take 2), natOf ((b.drop 2).take 1), (b.drop 8).take len⟩ :: r)

/-- The records of an image whose format, CRC and record syntax hold. -/
def parseImage (b : Octets) : Option (List ImageRec) :=
  if b.length < 12 || natOf (b.take 2) ≠ 1 || natOf ((b.drop 8).take 4) ≠ crc32c (b.drop 12) then none
  else parseRecords (natOf ((b.drop 4).take 4)) (b.drop 12)

/-- The subitems of a flow-entry group in their order (R379). -/
def groupSubs : List Nat := 1 :: ((List.range 17).map fun i => 3 + i) ++ [2]

/-- Whether the records of index 3010 are whole groups of rising entry number. -/
def groupsOk : Nat → Option Nat → List ImageRec → Bool
  | 0, _, l => l = []
  | n + 1, last, l =>
    if l = [] then true
    else
      let g := l.take 19
      let e := natOf ((l.head?.map (·.value)).getD [])
      let rises : Bool := match last with
        | none => true
        | some x => x < e
      g.map (·.sub) = groupSubs && rises && groupsOk n (some e) (l.drop 19)

/-- Whether a record may stand in an image: of an Image object, or the 3010:01 that opens a group (R393). What names no object is
found at the load. -/
def recordOk (x : ImageRec) : Bool :=
  (x.idx = 0x3010 && x.sub = 1) ||
    match findField x.idx x.sub with
    | none => true
    | some f => persistOf f.acc x.idx x.sub = .image

/-- Whether the records of an image stand as R379 and R393 ask: groups whole and in the place of index 3010. -/
def recordsOk (l : List ImageRec) : Bool :=
  let g := l.filter fun x => x.idx = 0x3010
  let before := l.takeWhile fun x => x.idx ≠ 0x3010
  let after := (l.drop before.length).dropWhile fun x => x.idx = 0x3010
  l.all recordOk && groupsOk g.length none g
    && (g = [] || (before.all (fun x => x.idx < 0x3010) && after.all fun x => 0x3010 < x.idx))

/-- The syntax check of a replacement (R323, R379, R393). -/
def imageSyntaxOk (b : Octets) : Bool :=
  match parseImage b with
  | none => false
  | some l => recordsOk l

/-! ### Saving and erasing (R322) -/

/-- The entries with a field 3010:02-13 not at its default, ascending (R379). -/
def Mod.usedEntries (m : Mod) : List Nat :=
  ((m.objs.filter fun kv => 0x10000 ≤ kv.1 / 256 && within (kv.1 % 256) 2 0x13).map fun kv => kv.1 / 256 - 0x10000).eraseDups

/-- A record of an object as it stands, under a wire index. -/
def Mod.recordOf (m : Mod) (wire store sub : Nat) : List ImageRec :=
  match findField wire sub with
  | none => []
  | some f => [⟨wire, sub, encodeVal f.ty (m.get store sub)⟩]

/-- The records of one group of the dictionary: those of its Image objects, instance by instance. -/
def Mod.groupRecords (m : Mod) (g : Group) : List ImageRec :=
  if g.base = 0x3010 then
    m.usedEntries.flatMap fun e => groupSubs.flatMap fun s =>
      if s = 1 then [⟨0x3010, 1, beOctets 2 e⟩] else m.recordOf 0x3010 (flowIdx e) s
  else
    (List.range g.count).flatMap fun n => g.fields.flatMap fun f =>
      (List.range (f.last - f.sub + 1)).flatMap fun i =>
        if persistOf f.acc (g.base + n) (f.sub + i) = .image then m.recordOf (g.base + n) (g.base + n) (f.sub + i) else []

/-- The records of the configuration in force, in ascending object and subitem order. -/
def Mod.imageRecords (m : Mod) : List ImageRec := dictionary.flatMap fun g => m.groupRecords g

/-- The content of an image and what is shown of it. -/
def Mod.putImage (m : Mod) (i : Nat) (b : Octets) : Mod :=
  let o := 0x1181 + i
  let valid := b ≠ []
  let m := ((m.putB o 5 b).put o 2 (if valid then m.now else 0)).put o 3 b.length
  (m.put o 4 (natOf ((b.drop 8).take 4))).putBit 0x1180 5 i valid

/-- IMAGE_SAVE: every Image object's value in force goes into image i; ev 1105 with action 0. -/
def Mod.saveImage (m : Mod) (i : Nat) : Mod := (m.putImage i (imageOctets m.imageRecords)).raise 0x1105 i [i, 0]

/-- IMAGE_ERASE: ev 1105 with action 2. The name goes with the image. -/
def Mod.eraseImage (m : Mod) (i : Nat) : Mod := ((m.putImage i []).clear (0x1181 + i) 1 1).raise 0x1105 i [i, 2]

/-! ### Loading (R322, R379, R380) -/

/-- Takes every flow entry out of the table and sets its fields to their defaults, before an image's groups are applied (R379). -/
def Mod.clearFlows (m : Mod) : Mod :=
  let m := m.each m.flowsOn fun (m : Mod) (e : Nat) => m.disableFlow e
  m.each m.usedEntries fun (m : Mod) (e : Nat) => m.clear (flowIdx e) 2 0x13

/-- Whether a value is of an RS object of the time or memory function, which a load keeps for the next boot. -/
def awaitsBoot (f : Field) (idx : Nat) : Bool :=
  f.acc = .rs && (ownerOf idx = some timeFid || ownerOf idx = some memoryFid)

/-- Applies one record as an Engineer write; `boot` says that no function has started yet. -/
def Mod.loadRecord (m : Mod) (w : Writer) (boot : Bool) (x : ImageRec) : Except Refuse (Mod × Writer) :=
  match m.writeChecked w x.idx x.sub .direct x.value with
  | .error e => .error e
  | .ok (f, v) =>
    if x.idx = 0x3010 && x.sub = 1 then .ok (m, { w with selector := v.nat })
    else if awaitsBoot f x.idx && !boot then
      if m.get x.idx x.sub = v then .ok (m, w)
      else .ok (m.modPreud fun p => { p with awaitBoot := p.awaitBoot.insert (keyOf x.idx x.sub) v }, w)
    else if f.acc = .rt then .ok (m.set x.idx x.sub v, w)
    else .ok (m.store w.selector x.idx x.sub v, w)

/-- Applies records in their stored order; the first refused one ends the load. -/
def Mod.loadRecords (m : Mod) (w : Writer) (boot : Bool) : List ImageRec → Except Refuse (Mod × Writer)
  | [] => .ok (m, w)
  | x :: r => match m.loadRecord w boot x with
    | .error e => .error e
    | .ok (m', w') => m'.loadRecords w' boot r

/-- The checks between objects that a load makes once at its end (R380): hold bound, yellow limits. -/
def Mod.crossFault (m : Mod) : Option Refuse :=
  let held (idx sub : Nat) : Nat := match m.preud.awaitBoot.lookup (keyOf idx sub) with
    | some v => v.nat
    | none => m.n idx sub
  if held 0x7000 1 ≠ 0 && held 0x5A00 1 < held 0x7000 3 + 60000 then some ⟨fitCheck, 0x7003, 0x7000, 3⟩
  else
    let bad := (List.range 32).flatMap fun n => ((List.range 5).filter fun i =>
      m.n (0x3800 + n) (0x0B + i) < m.n (0x3800 + n) (0x10 + i)).map fun i => (n, i)
    match bad with
    | [] => none
    | (n, i) :: _ => some ⟨fitCheck, 0, 0x3800 + n, 0x10 + i⟩

/-- Who a load writes as. -/
def loader (sid : Nat) (route : Route) : Writer := ⟨roleEngineer, sid, route, 0, false, true, true⟩

/-- Applies an image's records whole or not at all; answers the module and the entry selected last. -/
def Mod.applyImage (m : Mod) (w : Writer) (boot : Bool) (l : List ImageRec) : Except Refuse (Mod × Nat) :=
  let m := m.clearFlows.modPreud fun p => { p with awaitBoot := [] }
  match m.loadRecords w boot l with
  | .error e => .error e
  | .ok (m, w) => match m.crossFault with
    | some e => .error e
    | none => .ok (m, w.selector)

/-- Whether every function other than time and memory is STOPPED (R322). -/
def Mod.loadable (m : Mod) : Bool :=
  m.mediaStopped && m.twinFn = stopped && (List.range 8).all fun q => m.fn (portFid q) = stopped

/-- IMAGE_LOAD: answers the module and the entry its session selects then, or the refusal. -/
def Mod.loadImage (m : Mod) (sid : Nat) (route : Route) (i : Nat) : Except Refuse (Mod × Nat) :=
  if !m.loadable then .error ⟨conflict, 0, 0x1180, 3⟩
  else match parseImage (m.octets (0x1181 + i) 5) with
    | none => .error ⟨notReady, 0, 0x1180, 3⟩
    | some l => match m.applyImage (loader sid route) false l with
      | .error e => .error e
      | .ok (m, e) =>
        let m := (m.put 0x1180 6 i).putFlag 0x1180 7 (m.preud.awaitBoot ≠ [])
        .ok (m.raise 0x1105 i [i, 1], e)

/-- The image named in 1180:01 loaded at boot, or defaults with ev 1106; then the values an earlier load kept for this boot. -/
def Mod.loadAtBoot (m : Mod) : Mod :=
  let kept := m.preud.awaitBoot
  let i := m.n 0x1180 1
  let loaded : Option Mod := match parseImage (m.octets (0x1181 + i) 5) with
    | none => none
    | some l => match m.applyImage (loader 0 .b0) true l with
      | .error _ => none
      | .ok (m, _) => some (m.put 0x1180 6 i)
  let m : Mod := match loaded with
    | some x => x
    | none => m.raise 0x1106 i [i]
  let m : Mod := { m with objs := m.objs.over kept }
  m.modPreud fun p => { p with awaitBoot := [] }

end Sys2Proof.Machine
end

