-- ==== Sys2Proof/Machine/Boot.lean ====
section
/-! DEFINITION. Boot (ch. 17): what a reset keeps, image selection, the steps of Table 17.1, every kind of reset, and firmware
images. -/

namespace Sys2Proof.Machine

/-! ### What a reset keeps (R321, R335) -/

/-- Whether a listed value is Retained. -/
def isRetained (key : Nat) : Bool :=
  match findField (key / 256) (key % 256) with
  | none => false
  | some f => key / 256 < 0x10000 && persistOf f.acc (key / 256) (key % 256) = .retained

/-- The hardware after a reset: what it is is kept, what it was doing is not. -/
def HwS.afterReset (h : HwS) (info : BootInfo) (ctr : Nanos) (cold : Nat) : HwS :=
  { h with
    power := .on
    boot := info
    poweredAt := if cold = 2 then h.poweredAt else ctr
    serviceAt := ctr
    railRetry := cold = 0 && h.power = .off && h.railRetry
    steady := true
    dipAt := none
    i2cAlert := h.i2cAlert && cold = 2
    hot := [0, 0, 0]
    coolSince := none
    thermalWait := false
    ledTestAt := none
    test := none
    misses := List.replicate 64 0
    claims := (0, []) }

/-- Cages keep what is plugged into them; it is read again. -/
def PortsS.afterReset (p : PortsS) (ctr : Nanos) : PortsS :=
  { PortsS.boot with cages := p.cages.map fun (c : CageS) => { (default : CageS) with present := c.present, presentAt := ctr } }

/-- The module with what a reset keeps and nothing else (R335): Retained objects, time and counters, flash, what is plugged in;
`cold` is 0 power-on, 1 chassis, 2 firmware. -/
def Mod.afterReset (m : Mod) (info : BootInfo) (cold : Nat) : Mod :=
  let kept := m.preud.awaitBoot
  { Mod.reset with
    now := m.now
    ctr := m.ctr
    tick := m.tick
    fam := m.fam
    draws := m.draws
    objs := m.objs.filter fun kv => isRetained kv.1
    out := m.out
    rebooting := true
    preud := { (default : PreudS) with awaitBoot := kept }
    twin := TwinS.boot m.ctr
    prt := m.prt.afterReset m.ctr
    clk := if cold = 2 then m.clk else { ClockS.boot with settled := cold = 1 }
    hw := m.hw.afterReset info m.ctr cold }

/-! ### Image selection (R326) -/

/-- Why an image does not boot, as Table 17.6 numbers it. -/
def Mod.bootFault (m : Mod) (i : Nat) : Option Nat :=
  if m.n 0x1200 (5 + i) = 0 then some 0x1201
  else (m.firmwareFault (nth m.hw.images i)).map fun x => x.reason

/-- The image booted, first choice before the other, and those that failed. -/
def Mod.selectImage (m : Mod) (first : Nat) : Option Nat × List (Nat × Nat) :=
  match m.bootFault first with
  | none => (some first, [])
  | some c => match m.bootFault (1 - first) with
    | none => (some (1 - first), [(first, c)])
    | some c' => (none, [(first, c), (1 - first, c')])

/-! ### The steps of Table 17.1 (R324) -/

/-- Steps 2 to 5: sources and PLLs as the boot finds them, each judged with ev 1801 (R281). A firmware reset leaves them running and judges XB again (R330). -/
def Mod.bootClocks (m : Mod) (old : Mod) (cold : Nat) (xaOk : Bool) : Mod :=
  if cold = 2 then
    let keep (m : Mod) (idx sub : Nat) : Mod := m.set idx sub (old.get idx sub)
    let m := m.each [1, 2, 3, 5, 6, 7, 8] fun (m : Mod) (s : Nat) => keep m 0x1800 s
    let m := m.each (List.range 6) fun (m : Mod) (k : Nat) => m.each (List.range 8) fun (m : Mod) (s : Nat) =>
      keep m (0x1810 + k) (1 + s)
    m.modClk fun c =>
      { c with
        runs := c.runs.set 3 0
        xbFirst := 0
        settled := true
        counterOn := if old.n 0x1800 3 = 3 then c.counterOn else 2 }
  else
    let m := ((m.put 0x1800 1 1).put 0x1800 2 1).put 0x1800 3 1
    let m := m.each (List.range 6) fun (m : Mod) (k : Nat) => m.put (0x1810 + k) 1 2
    let m := m.each (if xaOk then [1, 2, 4, 5, 6, 7, 8, 9] else [1, 4, 5]) fun (m : Mod) (c : Nat) => m.raise 0x1801 c [c]
    if xaOk then m else m.xaFails 0

/-- The geographic address and its parity (R345): an odd number of ones among GA and GAP. -/
def Mod.bootAddress (m : Mod) (info : BootInfo) : Mod :=
  let ones := ((List.range 5).filter fun b => info.ga.val.testBit b).length + (if info.gap then 1 else 0)
  if ones % 2 = 1 then m.put 0x1000 0x0B info.ga.val else (m.put 0x1000 0x0B 0xFF).raise 0x1003 0 [info.ga.val, if info.gap then 1 else 0]

/-- A calibration run of bring-up that converges, its figures free (R299, R334). -/
def Mod.calibrated (m : Mod) (d : Nat) : Mod :=
  let n := m.draws
  let res : CalResult := ⟨true, true, 0, Config.sensor n 8, min 1000 (Config.eyeWidth n), min 1000 (Config.eyeHeight n), Config.eyeResidual n⟩
  (m.passRun ⟨d, trigBringUp, false, 0, []⟩ res).draw

/-- Step 7: what the sockets hold, training, and the calibration of DRAM, FIO and sensors (R328, R333). -/
def Mod.bootMemory (m : Mod) (info : BootInfo) : Mod :=
  let dimms := info.dimms.map fun x => (x.1.val, x.2)
  let failed := (info.failedDomains.map fun d => d.val).eraseDups
  let bad := info.trainingFails.map (fun c => c.val) ++ (failed.filter isDramDomain).map fun d => d - 10
  let trained := !(dimms.any fun x => bad.contains x.1)
  let m := m.judgePopulation dimms trained
  let tried := (dimms.map fun x => 10 + x.1) ++ [26, 27]
  m.each tried fun (m : Mod) (d : Nat) =>
    if failed.contains d || (isDramDomain d && bad.contains (d - 10)) then (m.failRun ⟨d, trigBringUp, false, 0, []⟩ (Config.sensor m.draws 8) 0).draw else m.calibrated d

/-- Step 8: the boot image, then the memory and the time function, the management ports, the role and the twin (R322, R325,
R329, R384). -/
def Mod.bootService (m : Mod) : Mod :=
  let m := m.loadAtBoot
  let m := if m.regionsFit then m.beginMemory else m
  let m := m.beginTime.beginManagement
  m.settleRole

/-- Firmware objects and events of a boot of image i (R326, R339): a trial begins, or one has ended. -/
def Mod.bootFirmware (m : Mod) (i cause : Nat) (trial : Option Nat) (ended : Bool) (failed : List (Nat × Nat)) : Mod :=
  let m := (m.put 0x1200 1 i).put 0x1200 4 (nth m.hw.images i).generation
  let m := m.raise 0x1002 0 [cause, i]
  let m := m.each failed fun (m : Mod) (x : Nat × Nat) => (m.put 0x1200 (5 + x.1) 4).raise 0x1205 x.1 [x.1, x.2]
  let m := if ended then m.raise 0x1203 0 [i] else m
  if trial = some i then
    ((m.modHw fun h => { h with trialFrom := some (m.n 0x1200 7) }).put 0x1210 5 4).raise 0x1202 0 [i]
  else m.modHw fun h => { h with trialFrom := none }

/-- What is measured on the feeds outlives a reset (R348): an abnormal state is reported again. -/
def Mod.bootFeeds (m : Mod) (old : Mod) : Mod :=
  let m := m.each [1, 3, 8, 9] fun (m : Mod) (s : Nat) => m.set 0x1D40 s (old.get 0x1D40 s)
  m.each [0, 1] fun (m : Mod) (b : Nat) =>
    let st := old.n 0x1D40 (6 + b)
    if st = 1 || st = 0 then m.put 0x1D40 (6 + b) st else m.setFeed b st

/-- A reset and the boot that follows it (R324, R326, R335): `cause` as 1030:02 numbers it, `cold` 0 power-on, 1 chassis, 2
firmware, `fallback` the third watchdog reset within 600 s (R337). -/
def Mod.reboot (m : Mod) (cause cold : Nat) (info : BootInfo) (fallback : Bool) : Mod :=
  let ran := m.n 0x1200 1
  let ended := m.hw.trialFrom ≠ none
  let m := if ended then m.put 0x1200 (5 + ran) 1 else m
  let m := m.put 0x1030 2 cause
  let old := m
  let m := m.afterReset info cold
  if cold ≠ 2 && !(info.railsOk && info.fioOk) then m.modHw fun h => { h with power := .halted }
  else
    let trial := [0, 1].find? fun i => m.n 0x1200 (5 + i) = 3
    let first := match trial with
      | some i => i
      | none => if fallback then 1 - ran else m.n 0x1200 7
    match m.selectImage first with
    | (none, failed) =>
      let m := m.each failed fun (m : Mod) (x : Nat × Nat) => m.put 0x1200 (5 + x.1) 4
      m.modHw fun h =>
        { h with
          power := .recovery
          trialFrom := none }
    | (some i, failed) =>
      let m := m.bootFirmware i cause trial (ended || fallback) failed
      let m := ((m.bootClocks old cold info.xaOk).bootAddress info).bootFeeds old
      let m := (m.put 0x1021 0 (m.n 0x1020 0)).putFlag 0x7000 0x0D (m.octets 0x7000 0x0C ≠ [])
      let m := m.each (List.range 8) fun (m : Mod) (j : Nat) => m.putBit 0x1180 5 j (m.octets (0x1181 + j) 5 ≠ [])
      let m := (m.bootMemory info).bootService
      { m with edgeObjs := m.objs }

/-! ### The kinds of reset (Table 17.5) -/

/-- A firmware reset: command (3), image activation (4). -/
def Mod.firmwareReset (m : Mod) (cause : Nat) : Mod := m.reboot cause 2 m.hw.boot false

/-- POWER_ON_SEQUENCE: the input rises through 44 V on a module that is not powered. -/
def Mod.powerOn (m : Mod) (info : BootInfo) : Mod :=
  if m.hw.power = .on || m.hw.power = .recovery then m
  else m.reboot (if m.hw.power = .tripped then 2 else 0) 0 info false

/-- CHASSIS_RESET: the reset signal held for at least 1 ms. -/
def Mod.chassisReset (m : Mod) (lowNs : Nanos) (info : BootInfo) : Mod :=
  if lowNs < 1000000 || m.hw.power = .off then m
  else m.reboot (if m.hw.power = .tripped then 2 else 1) 1 info false

/-- WATCHDOG_EXPIRY: a service class did not serve the watchdog for 2 s (R337). -/
def Mod.watchdogReset (m : Mod) : Mod :=
  let recent := (m.hw.watchdogs.filter fun t => m.ctr < t + 600 * second) ++ [m.ctr]
  let third := 3 ≤ recent.length
  let m := (m.bump 0x1030 3).modHw fun h => { h with watchdogs := if third then [] else recent }
  m.reboot 5 2 m.hw.boot third

/-! ### Firmware images (R338, R339) -/

/-- A firmware image that passed the checks replaces the one that does not run, ev 1201. -/
def Mod.writeFirmware (m : Mod) (b : Octets) : Mod :=
  let x := Config.parseFirmware b
  let i := m.otherImage
  let m := m.modHw fun h => { h with images := h.images.set i x }
  let m := ((m.putB 0x1200 (2 + i) (x.name.take 16 ++ List.replicate (16 - x.name.length) 0)).put 0x1200 (5 + i) 1).put 0x1210 6 0
  (m.put 0x1210 5 3).raise 0x1201 0 [i, x.release]

/-- ACTIVATE_TRIAL: the inactive image is marked for a trial, and the module resets into it. -/
def Mod.activateTrial (m : Mod) : Mod := (m.put 0x1200 (5 + m.otherImage) 3).firmwareReset 4

end Sys2Proof.Machine
end

