-- ==== Sys2Proof/Machine/Preud.lean ====
section
/-! DEFINITION. Preud (ch. 16): routes, sessions, request numbers, every request, events, bulk transfer, and the recovery loader
of R327. -/

namespace Sys2Proof.Machine

/-! ### Routes (R300, R301) -/

/-- The bit of a route in 1100:0D, which is also its number in 1121:03. -/
def routeNo : Route → Nat
  | .b0 => 0
  | .b1 => 0
  | .service => 1
  | .inband => 2

/-- The module's own address on a route (Table 16.1). -/
def Mod.routeAddress (m : Mod) (r : Route) : Nat :=
  if routeNo r = 0 then m.n 0x1100 1 else if routeNo r = 1 then m.n 0x1100 4 else m.n 0x1100 9

/-- Whether a route carries anything at all: in-band only where it is enabled. -/
def Mod.routeCarries (m : Mod) (r : Route) : Bool := r ≠ .inband || m.flag 0x1100 7

/-- Whether Preud runs on a route (R300); under the recovery loader only on S (R327). -/
def Mod.routeOpen (m : Mod) (r : Route) : Bool :=
  if m.hw.power = .recovery then r = .service
  else (m.n 0x1100 0x0D).testBit (routeNo r) && m.routeCarries r

/-- Whether the module answers Preud at all (R325, R327). -/
def Mod.hears (m : Mod) : Bool := m.runs || m.hw.power = .recovery

/-- Sends on a route; in-band through Q3 of the lowest of its ports. -/
def Mod.sendOn (m : Mod) (r : Route) (o : Output) : Mod :=
  let m := m.send o
  match r, maskPorts (m.n 0x1100 0x0C) with
  | .inband, p :: _ => m.countOwn p 3
  | .service, _ => m.bump 0x2610 4
  | _, _ => m

/-- A frame that arrives on a route: the service port counts it (2610:03). -/
def Mod.arrives (m : Mod) (r : Route) : Mod := if r = .service then m.bump 0x2610 3 else m

/-- ARP_AND_ICMP_ECHO: answered for the own address, everything else discarded (R300). -/
def Mod.localMsg (m : Mod) (r : Route) (x : LocalMsg) : Mod :=
  let m := m.arrives r
  if !m.routeCarries r then m
  else match x with
    | .arp a => if a = m.routeAddress r then m.sendOn r (.arpReply r a) else m
    | .icmpEcho a i => if a = m.routeAddress r then m.sendOn r (.echoReply r a i) else m
    | .other _ => m

/-! ### Replies (R304, R315) -/

/-- A reply that a request was carried out. -/
def done (b : Body) : Reply := ⟨0, 0, 0, 0, b⟩

/-- A reply that refuses: only a fit-check refusal carries a reason (R315). -/
def Refuse.reply (x : Refuse) : Reply := ⟨x.status, if x.status = fitCheck then x.reason else 0, x.obj, x.sub, .empty⟩

/-- A refusal that names no object. -/
def refuseAs (status : Nat) : Reply := ⟨status, 0, 0, 0, .empty⟩

/-- The opcode of a request (Table 16.3). -/
def Req.opcode : Req → Nat
  | .close => 0x04
  | .keepalive => 0x05
  | .read _ => 0x10
  | .write .. => 0x11
  | .timedWrite .. => 0x12
  | .cancelTimed .. => 0x13
  | .listTimed _ => 0x14
  | .function .. => 0x20
  | .subscribe .. => 0x30
  | .bulkBegin .. => 0x40
  | .bulkEnd _ => 0x42
  | .bulkAbort _ => 0x43

/-- Answers a frame (R301). -/
def Mod.answer (m : Mod) (f : Frame) (opcode : Nat) (r : Reply) : Mod :=
  m.sendOn f.route (.reply f.route f.peer f.peerPort f.sid opcode f.req r)

/-- A frame that fails its MAC (R303). -/
def Mod.macFailure (m : Mod) (r : Route) : Mod :=
  (m.bump 0x1120 4).raiseLimited 0x1102 (routeNo r) second [routeNo r]

/-- MALFORMED_DATAGRAM (R302, R303). -/
def Mod.malformed (m : Mod) (r : Route) (k : MalformedKind) : Mod :=
  let m := m.arrives r
  if !m.routeOpen r then m
  else if k = .mac then m.macFailure r else m.bump 0x1120 7

/-! ### Sessions (R305, R306) -/

/-- The session with an id. -/
def Mod.session (m : Mod) (sid : Nat) : Option Session := m.preud.sessions.find? fun s => s.sid = sid

/-- The objects of a session slot, 1121-1140 (R301). -/
def slotObj (slot : Nat) : Nat := 0x1121 + slot % 32

/-- Changes a session. -/
def Mod.modSession (m : Mod) (sid : Nat) (f : Session → Session) : Mod :=
  m.modPreud fun p => { p with sessions := p.sessions.map fun (s : Session) => if s.sid = sid then f s else s }

/-- 1120:01 follows the open sessions. -/
def Mod.showSessions (m : Mod) : Mod := m.put 0x1120 1 m.preud.sessions.length

/-- Whether an object is a slate's or a still's content. -/
def isContent (idx sub : Nat) : Bool := (within idx 0x4210 0x421F && sub = 6) || (within idx 0x4C00 0x4CFF && sub = 7)

/-- A write transfer that ends without a load leaves its slate or still as it was (R55, R73, R320). -/
def Mod.dropTransfer (m : Mod) (x : Transfer) : Mod :=
  let m := m.modPreud fun p => { p with transfers := p.transfers.filter fun (y : Transfer) => y.tid ≠ x.tid }
  if x.wr && isContent x.idx x.sub then m.put x.idx 1 (if m.octets x.idx x.sub = [] then 0 else 2) else m

/-- A session ends (R306, R314): cause 1 close, 2 idle, 3 address, 4 key. Its open change sets, subscription and transfers end with
it; a sealed change set has no owner any more; timed launches stay. -/
def Mod.endSession (m : Mod) (sid cause : Nat) : Mod :=
  match m.session sid with
  | none => m
  | some s =>
    let sets := m.preud.changeSets.filter fun c => c.owner = some sid
    let m := m.each sets fun (m : Mod) (c : ChangeSet) => m.discardOpen c.fid 0
    let m := m.modPreud fun p =>
      { p with
        changeSets := p.changeSets.map fun (c : ChangeSet) => if c.owner = some sid then { c with owner := none } else c
        sessions := p.sessions.filter fun (x : Session) => x.sid ≠ sid }
    let m := m.each (m.preud.transfers.filter fun x => x.sid = sid) fun (m : Mod) (x : Transfer) => m.dropTransfer x
    let m := ((m.clear (slotObj s.slot) 1 8).showSessions).when (cause = 2) fun m => m.bump 0x1120 3
    m.raise 0x1101 s.slot [sid, s.role, routeNo s.route, cause]

/-- Slots taken: open sessions and challenges that await their OPEN. -/
def Mod.slotsTaken (m : Mod) : List Nat := m.preud.sessions.map (·.slot) ++ m.preud.challenges.map (·.slot)

/-- A number near a drawn one that is neither 0 nor taken; `n` is how many numbers there are. -/
def freeNumber (drawn n : Nat) (taken : List Nat) : Nat :=
  let cand := (List.range (taken.length + 2)).map fun i => (drawn + i) % n
  (cand.find? fun x => x ≠ 0 && !taken.contains x).getD 0

/-- HELLO (R303, R305). -/
def Mod.hello (m : Mod) (epoch : Nat) (f : Frame) (role cnonce : Nat) : Mod :=
  let key := m.octets 0x1110 (role + 1)
  let weak := role = roleService && key = [] && f.route = .service && f.key = .zero
  let known : Bool := (key ≠ [] && f.key = .role key) || weak
  if !known || (m.hw.power = .recovery && role ≠ roleService) then m.macFailure f.route
  else
    let say (m : Mod) (sid nonce status : Nat) : Mod :=
      m.sendOn f.route (.challenge f.route f.peer f.peerPort sid nonce epoch m.fuse status)
    if 32 ≤ m.slotsTaken.length then say m 0 0 noResource
    else
      let sid := freeNumber (Config.sessionId m.draws).toNat (2 ^ 32) m.preud.usedSids
      let nonce := (Config.moduleNonce m.draws).toNat
      let slot := ((List.range 32).find? fun s => !m.slotsTaken.contains s).getD 0
      let c : Challenge := ⟨sid, slot, role, f.route, f.peer, f.peerPort, .session key cnonce nonce sid, weak, nonce, m.ctr⟩
      let m := m.draw.modPreud fun p =>
        { p with
          challenges := p.challenges ++ [c]
          usedSids := p.usedSids ++ [sid] }
      say m sid nonce 0

/-- The sequence number the next event will have (R35). -/
def Mod.nextEvent (m : Mod) (e : EventLog) : Nat := e.next + m.raised.length

/-- OPEN (R303, R305). -/
def Mod.openReq (m : Mod) (e : EventLog) (f : Frame) (mnonce : Nat) : Mod :=
  match m.preud.challenges.find? fun c => c.sid = f.sid with
  | none => m.macFailure f.route
  | some c =>
    if f.key ≠ c.key || mnonce ≠ c.mnonce then m.macFailure f.route
    else
      let s : Session := ⟨c.sid, c.slot, c.role, c.route, f.peer, f.peerPort, c.key, c.weak, 1, [], [], m.ctr, none, [], 0⟩
      let m := m.modPreud fun p =>
        { p with
          challenges := p.challenges.filter fun (x : Challenge) => x.sid ≠ c.sid
          sessions := p.sessions ++ [s] }
      let o := slotObj c.slot
      let m := (((m.put o 1 c.sid).put o 2 c.role).put o 3 (routeNo c.route)).put o 4 f.peer
      let m := ((m.put o 5 f.peerPort).put o 6 m.now).showSessions.bump 0x1120 2
      let m := m.raise 0x1101 c.slot [c.sid, c.role, routeNo c.route, 0]
      m.answer f 0x03 (done (.openOk 10000 8 (m.nextEvent e)))

/-- CHALLENGE_EXPIRY: a challenge without its OPEN for 1 s is forgotten. -/
def Mod.expireChallenges (m : Mod) : Mod :=
  m.modPreud fun p => { p with challenges := p.challenges.filter fun (c : Challenge) => m.ctr < c.at_ + second }

/-- SESSION_IDLE_EXPIRY: sessions without a valid frame for 10,000 ms end. -/
def Mod.expireSessions (m : Mod) : Mod :=
  m.each (m.preud.sessions.filter fun s => s.lastHeard + 10 * second ≤ m.ctr) fun (m : Mod) (s : Session) => m.endSession s.sid 2

/-! ### Reading (R307, R381, R384, R394) -/

/-- Whether an RO object reads as it stands, not as of the last edge (R394). -/
def readsLive (idx sub : Nat) : Bool :=
  (idx = 0x1840 && within sub 5 8) || (within idx 0x1C40 0x1C5B && within sub 6 9) || within idx 0x1E00 0x1E25

/-- The value of an object as a session reads it. -/
def Mod.valueFor (m : Mod) (sel : Nat) (acc : Acc) (idx sub : Nat) : Val :=
  let objs := if acc = .ro && !readsLive idx sub && m.hw.power ≠ .recovery then m.edgeObjs else m.objs
  if idx = 0x3010 && sub = 1 then .num sel
  else if idx = 0x3010 && sub = 0x14 then .num (m.atEdge.legsShown sel).1
  else if idx = 0x3010 && sub = 0x15 then .num (m.atEdge.legsShown sel).2
  else if within idx 0x7100 0x7140 && !m.isWitness then m.objs.default idx sub
  else if within idx 0x6280 0x628F then .bytes (if m.n (0x6240 + (idx - 0x6280)) 1 = 3 then m.exportOctets (idx - 0x6280) else [])
  else objs.get (storeIdx sel idx sub) sub

/-- The staged value of an object, if a change set holds one (R314). -/
def Mod.stagedValue (m : Mod) (idx sub : Nat) : Option Val :=
  match ownerOf idx with
  | none => none
  | some fid => match m.changeSet fid with
    | none => none
    | some c => c.values.lookup (keyOf idx sub)

/-- One item of a READ: its octets, or none where they must be read in bulk (Table 16.6). -/
def Mod.readItem (m : Mod) (sel : Nat) (x : ReadItem) : Except Refuse (Option Octets) :=
  match findField x.idx x.sub with
  | none => .error ⟨noSuchObject, 0, x.idx, x.sub⟩
  | some f =>
    if f.acc = .wo then .ok (some [])
    else
      let plain := m.valueFor sel f.acc x.idx x.sub
      let v := if x.staged then (m.stagedValue x.idx x.sub).getD plain else plain
      let b := encodeVal f.ty v
      if f.ty = .blob && (1398 < b.length || (within x.idx 0x1181 0x1188 && x.sub = 5)) then .ok none else .ok (some b)

/-- READ: the first failing item, or every value. -/
def Mod.readAll (m : Mod) (sel : Nat) : List ReadItem → Except Refuse (List (Option Octets))
  | [] => .ok []
  | x :: r => match m.readItem sel x with
    | .error e => .error e
    | .ok v => match m.readAll sel r with
      | .error e => .error e
      | .ok l => .ok (v :: l)

/-- READ as a reply. -/
def Mod.readReq (m : Mod) (sel : Nat) (items : List ReadItem) : Reply :=
  if items = [] || 64 < items.length then refuseAs Sys2Proof.Machine.malformed
  else match m.readAll sel items with
    | .error x => x.reply
    | .ok l =>
      if 1400 < (l.map fun v => 2 + (v.getD []).length).sum then refuseAs Sys2Proof.Machine.malformed else done (.values l)

/-! ### Writing (R310, R314) -/

/-- What a request does once its reply has left (R300, R306, R336, R339). -/
inductive After
  | nothing
  | close
  | reset
  | activate
  | address (sub : Nat) (v : Val)
  | roleKey (r : Nat)
  deriving DecidableEq, Repr

/-- A session as a writer. -/
def Session.writer (s : Session) (route : Route) (bulk : Bool) : Writer :=
  ⟨s.role, s.sid, route, s.selector, s.weak, bulk, false⟩

/-- An accepted write takes effect: resets, images, firmware and the entry selector here, every other object in `Mod.commit`. -/
def Mod.perform (m : Mod) (w : Writer) (f : Field) (idx sub : Nat) (v : Val) (form : Form) : Mod × Reply × After :=
  let ok : Reply := done .empty
  if idx = 0x1030 then (m, ok, .reset)
  else if idx = 0x1100 then (m, ok, .address sub v)
  else if idx = 0x1110 then (m.storeKey sub v, ok, .roleKey (sub - 1))
  else if idx = 0x1180 && sub = 2 then (m.saveImage v.nat, ok, .nothing)
  else if idx = 0x1180 && sub = 3 then
    match m.loadImage w.sid w.route v.nat with
    | .error x => (m, x.reply, .nothing)
    | .ok (m, e) => (m.modSession w.sid fun s => { s with selector := e }, ok, .nothing)
  else if idx = 0x1180 && sub = 4 then (m.eraseImage v.nat, ok, .nothing)
  else if within idx 0x1181 0x1188 && sub = 5 then
    if imageSyntaxOk v.octets then (m.putImage (idx - 0x1181) v.octets, ok, .nothing)
    else (m, (⟨Sys2Proof.Machine.malformed, 0, idx, sub⟩ : Refuse).reply, .nothing)
  else if idx = 0x1210 && sub = 1 then (m.writeFirmware v.octets, ok, .nothing)
  else if idx = 0x1210 && sub = 2 then (m, ok, .activate)
  else if idx = 0x1210 && sub = 3 then (m.confirmTrial, ok, .nothing)
  else if idx = 0x3010 && sub = 1 then (m.modSession w.sid fun s => { s with selector := v.nat }, ok, .nothing)
  else
    let tick := m.writeTick idx form
    (m.commit w f idx sub v form, if form.isTimed then done (.applyTick tick) else ok, .nothing)

/-- A write: its checks, then its effect; refusals are shown where their area keeps them (R315, 1440:03, 1210:06). -/
def Mod.writeReq (m : Mod) (w : Writer) (idx sub : Nat) (form : Form) (b : Octets) : Mod × Reply × After :=
  match m.writeChecked w idx sub form b with
  | .error x =>
    let m := (m.noteRefusal x).when form.isTimed fun m => m.noteRefused
    (m.when (x.obj = 0x1210 && x.status = fitCheck) fun m => m.put 0x1210 6 x.reason, x.reply, .nothing)
  | .ok (f, v) => m.perform w f idx sub v form

/-- What follows a reply. -/
def Mod.afterwards (m : Mod) (sid : Nat) (a : After) : Mod :=
  let endAll (m : Mod) (cause : Nat) (which : Session → Bool) : Mod :=
    m.each (m.preud.sessions.filter which) fun (m : Mod) (s : Session) => m.endSession s.sid cause
  match a with
  | .nothing => m
  | .close => m.endSession sid 1
  | .reset => m.firmwareReset 3
  | .activate => m.activateTrial
  | .address sub v =>
    let old := m.get 0x1100 sub
    let m := m.set 0x1100 sub v
    if old = v then m
    else endAll m 3 fun s =>
      let r := routeNo s.route
      if sub ≤ 3 then r = 0 else if sub ≤ 6 then r = 1 else if sub ≤ 0x0C then r = 2
      else old.nat.testBit r != v.nat.testBit r
  | .roleKey r => endAll m 4 fun s => s.role = r

/-! ### Timed launches (R24, R310) -/

/-- The entries of LIST TIMED, by apply tick. -/
def Mod.timedEntries (m : Mod) : List TimedEntry :=
  let w := m.preud.timed.map fun x => (⟨x.idx, x.sub, 0, x.applyTick, x.sid⟩ : TimedEntry)
  let c := (m.preud.fnCmds.filter fun x => x.named ≠ none).map fun x => (⟨x.fid, 0, 1, x.applyTick, x.sid⟩ : TimedEntry)
  sortBy (fun (a b : TimedEntry) => a.applyTick ≤ b.applyTick) (w ++ c)

/-- Whether a pending launch is more than 1 ms away. -/
def Mod.cancelable (m : Mod) (applyTick : Nat) : Bool := m.now + 1000000 < m.fam.edge applyTick

/-- A timed write is cancelled: a clip waits no longer, a handover is pending no longer. -/
def Mod.cancelWrite (m : Mod) (x : TimedWrite) : Mod :=
  let m := (m.modPreud fun p => { p with timed := p.timed.filter fun (y : TimedWrite) => y.order ≠ x.order }).showTimed
  if x.idx = 0x7010 then m.put 0x7010 0 0
  else if within x.idx 0x6200 0x620F && x.value = .num 1 && m.n (0x6240 + (x.idx - 0x6200)) 1 = 1 then
    m.put (0x6240 + (x.idx - 0x6200)) 1 0
  else m

/-- A timed function command is cancelled: a start leaves its function STOPPED, a restart reopens its change set (R314). -/
def Mod.cancelCmd (m : Mod) (sid : Nat) (x : FnCmd) : Mod :=
  let m := (m.modPreud fun p => { p with fnCmds := p.fnCmds.filter fun (y : FnCmd) => y.order ≠ x.order }).showTimed
  if x.cmd = 1 then (if m.fn x.fid = starting then m.setFn x.fid stopped else m)
  else if x.cmd = 3 then
    m.modPreud fun p =>
      { p with
        changeSets := p.changeSets.map fun (c : ChangeSet) =>
          if c.fid = x.fid then
            { c with
              sealed := false
              owner := match c.owner with
                | some o => some o
                | none => some sid }
          else c }
  else m

/-- CANCEL TIMED (R310). -/
def Mod.cancelReq (m : Mod) (s : Session) (target sub kind applyTick : Nat) : Mod × Reply :=
  let no (st : Nat) : Mod × Reply := (m, (⟨st, 0, if kind = 0 then target else 0, if kind = 0 then sub else 0⟩ : Refuse).reply)
  if kind = 0 then
    let least := match findField target sub with
      | none => 0
      | some f => leastRole f.acc target sub 0
    if s.role < least then no roleDenied
    else match m.preud.timed.find? fun x => x.idx = target && x.sub = sub && x.applyTick = applyTick with
      | none => no conflict
      | some x => if m.cancelable applyTick then (m.cancelWrite x, done .empty) else no tooLate
  else if kind = 1 then
    if s.role < roleEngineer then no roleDenied
    else match m.preud.fnCmds.find? fun x => x.named ≠ none && x.fid = target && x.applyTick = applyTick with
      | none => no conflict
      | some x =>
        let above : Bool := match m.changeSet target with
          | none => true
          | some c => x.cmd ≠ 3 || c.owner ≠ none || c.sealRole ≤ s.role
        if !above then no roleDenied
        else if m.cancelable applyTick then (m.cancelCmd s.sid x, done .empty) else no tooLate
  else no Sys2Proof.Machine.malformed

/-! ### Functions (R311-R314) -/

/-- A valid TIME in ns. -/
def TimeVal_nanos (x : TimeVal) : Option Nanos := if x.nano < second then some (x.sec * second + x.nano) else none

/-- OPEN_CHANGE_SET and DISCARD_CHANGE_SET (R314). -/
def Mod.changeSetReq (m : Mod) (s : Session) (fid cmd : Nat) : Mod × Reply :=
  if cmd = 4 then
    if m.changeSet fid ≠ none then (m, refuseAs conflict)
    else if m.fn fid ≠ running then (m, refuseAs notReady)
    else
      let c : ChangeSet := ⟨fid, some s.sid, false, 0, []⟩
      (m.modPreud fun p => { p with changeSets := p.changeSets ++ [c] }, done (.applyTick 0))
  else match m.changeSet fid with
    | none => (m, refuseAs notReady)
    | some c =>
      if c.owner ≠ some s.sid || c.sealed then (m, refuseAs conflict)
      else (m.removeChangeSet fid, done (.applyTick 0))

/-- The pending commands of a function, by command. -/
def Mod.pendingCmd (m : Mod) (fid cmd : Nat) : Option FnCmd := m.preud.fnCmds.find? fun x => x.fid = fid && x.cmd = cmd

/-- Whether any command of a function is pending. -/
def Mod.anyPending (m : Mod) (fid : Nat) : Bool := m.preud.fnCmds.any fun x => x.fid = fid

/-- Whether Table 16.9 lists a command for the state of its function. -/
def Mod.cmdListed (m : Mod) (fid cmd T : Nat) (timed : Bool) : Bool :=
  let st := m.fn fid
  if cmd = 1 then (st = stopped && !m.anyPending fid) || (st = stopping && m.pendingCmd fid 1 = none)
  else if cmd = 2 then
    (st = running && !m.anyPending fid) ||
      (st = starting && (!timed || ((match m.pendingCmd fid 1 with
        | none => false
        | some x => x.applyTick < T : Bool) && m.pendingCmd fid 2 = none)))
  else st = running && !m.anyPending fid

/-- The first refusal of a start, stop or restart at tick T (R24, R96, R311, R313). -/
def Mod.cmdFault (m : Mod) (fid cmd T : Nat) (named : Option Nanos) : Option Refuse :=
  let no (st : Nat) : Refuse := ⟨st, 0, 0, 0⟩
  firstOf [
    fun _ => match named with
      | none => none
      | some t => m.launchFault t 0 0,
    fun _ => need (m.cmdListed fid cmd T (named ≠ none)) (no conflict),
    fun _ => if cmd = 1 then (m.startBlocked fid T).map no else (m.stopBlocked fid).map no,
    fun _ => need (!(cmd = 2 && m.fn fid = running && m.channelHeld fid T)) (no conflict),
    fun _ => if cmd = 2 then none else m.admission fid T (cmd = 3)]

/-- An untimed stop of a function in STARTING removes its start (Table 16.9). -/
def Mod.unstart (m : Mod) (fid : Nat) : Mod :=
  let m := (m.modPreud fun p => { p with fnCmds := p.fnCmds.filter fun (x : FnCmd) => !(x.fid = fid && x.cmd = 1) }).showTimed
  if within fid 0x200 0x27F && (m.rend (fid - 0x200)).waiting then m.restRendition (fid - 0x200) else m.setFn fid stopped

/-- An accepted start, stop or restart waits for its tick; answers the tick. -/
def Mod.acceptCmd (m : Mod) (s : Session) (fid cmd : Nat) (named : Option Nanos) : Mod × Nat :=
  let held := cmd = 1 && m.fn fid = stopping
  let x : FnCmd := ⟨fid, cmd, 0, named, held, s.sid, s.role, m.preud.nextOrder⟩
  let (T, alone) := m.applyTickOf x
  let x : FnCmd := { x with applyTick := T }
  let m := m.modPreud fun p =>
    { p with
      fnCmds := p.fnCmds ++ [x]
      nextOrder := p.nextOrder + 1 }
  let m := m.showTimed
  let m := if held && alone < T then m.raise 0x1104 fid [fid, alone, T] else m
  if cmd = 1 then (if held then m else m.setFn fid starting, T)
  else if cmd = 2 then (m.discardOpen fid 1, T)
  else
    (m.modPreud fun p =>
      { p with
        changeSets := p.changeSets.map fun (c : ChangeSet) =>
          if c.fid = fid then
            { c with
              sealed := true
              sealRole := s.role }
          else c }, T)

/-- FUNCTION (R311-R314). -/
def Mod.functionReq (m : Mod) (s : Session) (fid cmd : Nat) (timed : Option TimeVal) : Mod × Reply :=
  let timeBad : Bool := match timed with
    | none => false
    | some x => TimeVal_nanos x = none
  let no (st : Nat) : Mod × Reply := (m.when (timed ≠ none && within cmd 1 3) fun m => m.noteRefused, refuseAs st)
  if s.role < roleEngineer then no roleDenied
  else if !fnExists fid || !within cmd 1 5 || timeBad then no outOfRange
  else if 4 ≤ cmd then m.changeSetReq s fid cmd
  else
    let named := timed.bind TimeVal_nanos
    let probe : FnCmd := ⟨fid, cmd, 0, named, cmd = 1 && m.fn fid = stopping, s.sid, s.role, 0⟩
    let T := (m.applyTickOf probe).1
    match m.cmdFault fid cmd T named with
    | some x => ((m.noteAdmission fid x).when (named ≠ none) fun m => m.noteRefused, x.reply)
    | none =>
      if cmd = 2 && named = none && m.fn fid = starting then (m.unstart fid, done (.applyTick T))
      else
        let (m, T) := m.acceptCmd s fid cmd named
        (m, done (.applyTick T))

/-! ### Events (R316, R317) -/

/-- Whether a subscription takes an event. -/
def Subscription.takes (x : Subscription) (e : EventRec) : Bool :=
  x.mask.testBit (areaOfEvent e.code) && x.severity ≤ e.severity % 128

/-- Puts an EVENT frame on a session's route and keeps it until it is acknowledged. -/
def Mod.sendEvents (m : Mod) (s : Session) (f : EventFrame) : Mod :=
  (m.modSession s.sid fun x => { x with unacked := (x.unacked.filter fun (y : EventFrame) => y.first ≠ f.first) ++ [f] }).sendOn
    s.route (.events s.route s.peer s.port s.sid f)

/-- Sends a session what it is due: at most 21 records a frame and 16 frames unacknowledged, a loss before what follows it. -/
def Mod.deliver (e : EventLog) (sid : Nat) : Nat → Mod → Mod
  | 0, m => m
  | n + 1, m =>
    match m.session sid with
    | none => m
    | some s => match s.subscription with
      | none => m
      | some x =>
        if 16 ≤ s.unacked.length then m
        else if x.next < e.oldest then
          let f : EventFrame := ⟨x.next, some (x.next, e.oldest - 1), [], m.ctr⟩
          let m := (m.modSession sid fun y => { y with subscription := some { x with next := e.oldest } }).sendEvents s f
          Mod.deliver e sid n m
        else
          let l := (e.log.filter fun r => x.next ≤ r.seq && x.takes r).take 21
          match l, l.getLast? with
          | a :: _, some z =>
            let m := m.modSession sid fun y => { y with subscription := some { x with next := z.seq + 1 } }
            Mod.deliver e sid n (m.sendEvents s ⟨a.seq, none, l, m.ctr⟩)
          | _, _ => m.modSession sid fun y => { y with subscription := some { x with next := max x.next e.next } }

/-- Delivery to every session, at an edge. -/
def Mod.deliverAll (m : Mod) (e : EventLog) : Mod :=
  m.each m.preud.sessions fun (m : Mod) (s : Session) => Mod.deliver e s.sid 17 m

/-- SUBSCRIBE (R316): 0xFFFF_FFFF_FFFF_FFFF starts at the next event raised. -/
def Mod.subscribeReq (m : Mod) (e : EventLog) (s : Session) (mask severity start : Nat) : Mod × Reply :=
  let next := m.nextEvent e
  let x : Option Subscription := if mask = 0 then none else some ⟨mask, severity, if start = 2 ^ 64 - 1 then next else start⟩
  let m := m.modSession s.sid fun y =>
    { y with
      subscription := x
      unacked := [] }
  ((m.putFlag (slotObj s.slot) 8 (mask ≠ 0)), done (.nextSeq next))

/-- EVENT_ACK (R317). -/
def Mod.eventAck (m : Mod) (e : EventLog) (s : Session) (first : Nat) : Mod :=
  let m := m.modSession s.sid fun y => { y with unacked := y.unacked.filter fun (f : EventFrame) => f.first ≠ first }
  Mod.deliver e s.sid 17 m

/-- EVENT_RESEND: an unacknowledged frame is sent again every 50 ms (R317). -/
def Mod.eventResend (m : Mod) (sid first : Nat) : Mod :=
  match m.session sid with
  | none => m
  | some s => match s.unacked.find? fun f => f.first = first with
    | none => m
    | some f =>
      if m.ctr < f.sentAt + 50000000 then m
      else
        let again : EventFrame := { f with sentAt := m.ctr }
        (m.modSession sid fun y =>
          { y with unacked := y.unacked.map fun (x : EventFrame) => if x.first = first then again else x }).sendOn s.route
          (.events s.route s.peer s.port s.sid again)

/-! ### Bulk transfer (R319, R320) -/

/-- The octets announced by open write transfers. -/
def Mod.announced (m : Mod) : Nat := ((m.preud.transfers.filter fun x => x.wr).map fun x => x.length).sum

/-- Where the CRC of an object's content is read, if anywhere. -/
def contentCrc (idx sub : Nat) : Option Nat :=
  if within idx 0x1181 0x1188 && sub = 5 then some 4
  else if within idx 0x4800 0x481F && within sub 8 9 then some (sub - 2)
  else none

/-- The checks of BULK BEGIN in their order. -/
def Mod.bulkFault (m : Mod) (w : Writer) (idx sub : Nat) (wr staged : Bool) (length : Nat) : Option Refuse :=
  let no (st : Nat) : Refuse := ⟨st, 0, idx, sub⟩
  match findField idx sub with
  | none => some (no noSuchObject)
  | some f =>
    if f.ty ≠ .blob || (wr && f.acc = .ro) || (!wr && f.acc = .wo) then some (no accessDenied)
    else firstOf [
      fun _ => if wr then w.roleFault f idx sub [] else none,
      fun _ => if wr then m.accessFault w f idx sub (if staged then .staged else .direct) else none,
      fun _ => need ((m.preud.transfers.filter fun x => x.sid = w.sid).length < 4 && m.preud.transfers.length < 16
        && (!wr || m.announced + length ≤ 2 * gib)) (no noResource),
      fun _ => need (!(wr && m.preud.transfers.any fun x => x.wr && x.idx = storeIdx w.selector idx sub && x.sub = sub)) (no conflict),
      fun _ => need (!(wr && within idx 0x4C00 0x4CFF && m.stillInUse (idx - 0x4C00))) (no conflict)]

/-- BULK BEGIN (R319). -/
def Mod.bulkBegin (m : Mod) (w : Writer) (idx sub : Nat) (wr staged : Bool) (length crc : Nat) : Mod × Reply :=
  match m.bulkFault w idx sub wr staged length with
  | some x => (m, x.reply)
  | none =>
    let acc := match findField idx sub with
      | none => Acc.ro
      | some f => f.acc
    let export_ := within idx 0x6280 0x628F
    let content := if wr || export_ then [] else (m.valueFor w.selector acc idx sub).octets
    let len := if wr then length else if export_ then m.n (0x6240 + (idx - 0x6280)) 4 else content.length
    let sum := match contentCrc idx sub with
      | none => 0
      | some s => m.n idx s
    let tid := freeNumber (Config.transferId m.draws).toNat 65536 (m.preud.transfers.map (·.tid))
    let x : Transfer := ⟨tid, w.sid, storeIdx w.selector idx sub, sub, wr, staged, len, crc, content, [], m.ctr, false⟩
    let m := m.draw.modPreud fun p => { p with transfers := p.transfers ++ [x] }
    let m := if wr && isContent idx sub then m.put idx 1 1 else m
    (m, done (.bulkBegun tid 1344 (if wr then 0 else len) (if wr then 0 else sum)))

/-- The open transfer of a session. -/
def Mod.transfer (m : Mod) (sid tid : Nat) : Option Transfer := m.preud.transfers.find? fun x => x.tid = tid && x.sid = sid

/-- Changes an open transfer. -/
def Mod.modTransfer (m : Mod) (tid : Nat) (f : Transfer → Transfer) : Mod :=
  m.modPreud fun p => { p with transfers := p.transfers.map fun (x : Transfer) => if x.tid = tid then f x else x }

/-- A chunk read from a transfer: an export reads the ring as it stands (R193, R320). -/
def Mod.readChunk (m : Mod) (x : Transfer) (offset len : Nat) : Mod × Reply :=
  if within x.idx 0x6280 0x628F then
    let s := x.idx - 0x6280
    let data := ((m.exportOctets s).drop offset).take len
    if data.length ≠ len || !within (m.n (0x6240 + s) 1) 3 4 then (m, refuseAs tooLate)
    else (m.exportRead s (offset + len), done (.bulkChunk x.tid len offset data))
  else (m, done (.bulkChunk x.tid len offset ((x.content.drop offset).take len)))

/-- BULK DATA (R319, R320). -/
def Mod.bulkData (m : Mod) (sid tid offset len : Nat) (data : Octets) : Mod × Reply :=
  let bad : Mod × Reply := (m, refuseAs Sys2Proof.Machine.malformed)
  match m.transfer sid tid with
  | none => bad
  | some x =>
    if !within len 1 1344 || offset % 1344 ≠ 0 || (x.wr && data.length ≠ len) then bad
    else if x.length < offset + len then (m, refuseAs outOfRange)
    else if len < 1344 && offset + len ≠ x.length then bad
    else if x.failed then (m.dropTransfer x, refuseAs failedAccess)
    else
      let m := m.modTransfer tid fun y => { y with heardAt := m.ctr }
      if !x.wr then m.readChunk x offset len
      else
        (m.modTransfer tid fun y => { y with chunks := (y.chunks.filter fun (c : Nat × Octets) => c.1 ≠ offset) ++ [(offset, data)] },
          done (.bulkChunk tid len offset []))

/-- The content that chunks make up; none while one is missing. -/
def joinChunks (chunks : List (Nat × Octets)) (length : Nat) : Option Octets :=
  let parts := (List.range ((length + 1343) / 1344)).map fun i => chunks.find? fun c => c.1 = 1344 * i
  if parts.any fun c => c = none then none else some (parts.flatMap fun c => (c.map (·.2)).getD [])

/-- BULK END (R319, R320): a content that passes its checks replaces the object's value and the transfer is closed. A refused
one leaves all as it was, the transfer and its chunks included (R7); a transfer whose buffer could not be read ends (Table 13.6). -/
def Mod.bulkEnd (m : Mod) (s : Session) (route : Route) (tid : Nat) : Mod × Reply × After :=
  match m.transfer s.sid tid with
  | none => (m, refuseAs Sys2Proof.Machine.malformed, .nothing)
  | some x =>
    let broken : Reply := (⟨Sys2Proof.Machine.malformed, 0, dictIdx x.idx, x.sub⟩ : Refuse).reply
    if x.failed then (m.dropTransfer x, refuseAs failedAccess, .nothing)
    else if !x.wr then (m.dropTransfer x, done .empty, .nothing)
    else match joinChunks x.chunks x.length with
      | none => (m, broken, .nothing)
      | some b =>
        if crc32c b ≠ x.crc then (m, broken, .nothing)
        else
          let w := s.writer route true
          let w : Writer := { w with selector := if 0x10000 ≤ x.idx then x.idx - 0x10000 else w.selector }
          let form := if x.staged then Form.staged else Form.direct
          let (m', r, a) := m.writeReq w (dictIdx x.idx) x.sub form b
          if r.status = 0 then
            (m'.modPreud fun p => { p with transfers := p.transfers.filter fun (y : Transfer) => y.tid ≠ tid }, r, a)
          else (m', r, a)

/-- BULK ABORT (R320). -/
def Mod.bulkAbort (m : Mod) (sid tid : Nat) : Mod × Reply :=
  match m.transfer sid tid with
  | none => (m, refuseAs Sys2Proof.Machine.malformed)
  | some x => (m.dropTransfer x, done .empty)

/-- BULK_IDLE_ABORT: no chunk for 10,000 ms (R319). -/
def Mod.bulkIdle (m : Mod) (tid : Nat) : Mod :=
  match m.preud.transfers.find? fun x => x.tid = tid with
  | none => m
  | some x => if x.heardAt + 10 * second ≤ m.ctr then m.dropTransfer x else m

/-! ### Requests (R303, R307-R309) -/

/-- Whether the recovery loader takes a request (R327): identity objects are read, 1210:01-02 are written. -/
def loaderTakes (m : Mod) (sid : Nat) : Req → Bool
  | .close => true
  | .keepalive => true
  | .read l => l.all fun x => within x.idx 0x1000 0x13FF
  | .write idx sub staged _ => idx = 0x1210 && within sub 1 2 && !staged
  | .bulkBegin idx sub wr staged _ _ => idx = 0x1210 && within sub 1 2 && wr && !staged
  | .bulkEnd tid => (m.transfer sid tid) ≠ none
  | .bulkAbort tid => (m.transfer sid tid) ≠ none
  | _ => false

/-- Whether the keyless session of R305 may make a request. -/
def weakTakes : Req → Bool
  | .close => true
  | .keepalive => true
  | .read _ => true
  | .write idx sub staged _ => idx = 0x1110 && within sub 1 4 && !staged
  | _ => false

/-- A timed write. A TIME that breaks its encoding (R3) is refused like a value that does: after the checks of object, role and
access (DESIGN CHOICE, log 25). -/
def Mod.timedWriteReq (m : Mod) (w : Writer) (idx sub : Nat) (x : TimeVal) (b : Octets) : Mod × Reply × After :=
  match TimeVal_nanos x with
  | some t => m.writeReq w idx sub (.timed t) b
  | none =>
    let no : Refuse := match m.writable w idx sub (.timed m.now) b with
      | .error x => x
      | .ok _ => ⟨outOfRange, 0, idx, sub⟩
    (m.noteRefused, no.reply, .nothing)

/-- Executes a request of a session: what it does, its reply, and what follows the reply. -/
def Mod.execute (m : Mod) (e : EventLog) (s : Session) (f : Frame) (q : Req) : Mod × Reply × After :=
  let plain (x : Mod × Reply) : Mod × Reply × After := (x.1, x.2, .nothing)
  if s.weak && !weakTakes q then (m, refuseAs roleDenied, .nothing)
  else if m.hw.power = .recovery && !loaderTakes m s.sid q then (m, refuseAs notReady, .nothing)
  else match q with
    | .close => (m, done .empty, .close)
    | .keepalive => (m, done .empty, .nothing)
    | .read l => (m, m.readReq s.selector l, .nothing)
    | .write idx sub staged b => m.writeReq (s.writer f.route false) idx sub (if staged then .staged else .direct) b
    | .timedWrite idx sub t b => m.timedWriteReq (s.writer f.route false) idx sub t b
    | .cancelTimed target sub kind applyTick => plain (m.cancelReq s target sub kind applyTick)
    | .listTimed first =>
      let l := m.timedEntries
      (m, done (.timedList l.length ((l.drop first).take 80)), .nothing)
    | .function fid cmd timed => plain (m.functionReq s fid cmd timed)
    | .subscribe mask sev start => plain (m.subscribeReq e s mask sev start)
    | .bulkBegin idx sub wr staged length crc => plain (m.bulkBegin (s.writer f.route true) idx sub wr staged length crc)
    | .bulkEnd tid => m.bulkEnd s f.route tid
    | .bulkAbort tid => plain (m.bulkAbort s.sid tid)

/-- Executes the request whose turn it is: reply kept and sent, expected number stepped, then what follows. -/
def Mod.turn (m : Mod) (e : EventLog) (f : Frame) (q : Req) : Mod :=
  match m.session f.sid with
  | none => m
  | some s =>
    let (m, r, a) := m.execute e s f q
    let m := m.modSession f.sid fun x =>
      { x with
        expected := f.req + 1
        replies := (x.replies ++ [(f.req, r)]).drop (x.replies.length + 1 - 16) }
    let m := ((m.bump (slotObj s.slot) 7).answer f q.opcode r).afterwards f.sid a
    match q with
    | .subscribe .. => Mod.deliver e f.sid 17 m
    | _ => m

/-- Runs the held requests whose turn has come. -/
def Mod.drainHeld (e : EventLog) (sid : Nat) : Nat → Mod → Mod
  | 0, m => m
  | n + 1, m =>
    match m.session sid with
    | none => m
    | some s => match s.held.find? fun h => h.1 = s.expected with
      | none => m
      | some h =>
        let m := m.modSession sid fun x => { x with held := x.held.filter fun (y : Nat × Nanos × Frame × Req) => y.1 ≠ h.1 }
        Mod.drainHeld e sid n (m.turn e h.2.2.1 h.2.2.2)

/-- SEQUENCE_GAP_EXPIRY: a gap open for 50 ms is skipped: the expected number moves to the lowest held one (R308). -/
def Mod.skipGaps (e : EventLog) (sid : Nat) : Nat → Mod → Mod
  | 0, m => m
  | n + 1, m =>
    match m.session sid with
    | none => m
    | some s =>
      let opened := (s.held.map fun h => h.2.1).min?
      let lowest := (s.held.map fun h => h.1).min?
      match opened, lowest with
      | some t, some q =>
        if m.ctr < t + 50000000 then m
        else Mod.skipGaps e sid n (Mod.drainHeld e sid 8 (m.modSession sid fun x => { x with expected := q }))
      | _, _ => m

/-- What has run out by the instant of a frame: challenges, idle sessions, gaps. -/
def Mod.lapse (m : Mod) (e : EventLog) : Mod :=
  let m := m.expireChallenges.expireSessions
  m.each m.preud.sessions fun (m : Mod) (s : Session) => Mod.skipGaps e s.sid 8 m

/-- A sequenced request of a session (R308). -/
def Mod.sequence (m : Mod) (e : EventLog) (s : Session) (f : Frame) (q : Req) : Mod :=
  let late (m : Mod) : Mod := (m.bump 0x1120 5).answer f q.opcode (refuseAs outOfSequence)
  if f.req = s.expected then Mod.drainHeld e f.sid 8 (m.turn e f q)
  else if s.expected + 8 ≤ f.req then late m
  else if s.expected < f.req then
    if s.held.any fun h => h.1 = f.req then m
    else m.modSession f.sid fun x => { x with held := x.held ++ [(f.req, m.ctr, f, q)] }
  else match s.replies.find? fun r => r.1 = f.req with
    | some r => (m.bump 0x1120 6).answer f q.opcode r.2
    | none => late m

/-- A frame of a session: authenticated, it keeps the session alive and is given to `take`; else it is answered or discarded
(R303). -/
def Mod.ofSession (m : Mod) (e : EventLog) (f : Frame) (opcode : Nat) (take : Mod → Session → Mod) : Mod :=
  let m := m.arrives f.route
  if !m.routeOpen f.route then m
  else
    let m := m.lapse e
    match m.session f.sid with
    | none => if f.key = .bad then m.macFailure f.route else m.answer f opcode (refuseAs noSession)
    | some s =>
      if f.key ≠ s.key then m.macFailure f.route
      else take (m.modSession f.sid fun x => { x with lastHeard := m.ctr }) s

/-- A sequenced request. -/
def Mod.request (m : Mod) (e : EventLog) (f : Frame) (q : Req) : Mod :=
  m.ofSession e f q.opcode fun m s => m.sequence e s f q

/-- A frame of the handshake. -/
def Mod.handshake (m : Mod) (e : EventLog) (f : Frame) (take : Mod → Mod) : Mod :=
  let m := m.arrives f.route
  if !m.routeOpen f.route then m else take (m.lapse e)

/-- EVENT ACK, which bypasses R308. -/
def Mod.ackFrame (m : Mod) (e : EventLog) (f : Frame) (first : Nat) : Mod :=
  m.ofSession e f 0x32 fun m s => if s.weak then m.answer f 0x32 (refuseAs roleDenied) else m.eventAck e s first

/-- BULK DATA, which bypasses R308. -/
def Mod.dataFrame (m : Mod) (e : EventLog) (f : Frame) (tid offset len : Nat) (data : Octets) : Mod :=
  m.ofSession e f 0x41 fun m s =>
    if s.weak then m.answer f 0x41 (refuseAs roleDenied)
    else
      let (m, r) := m.bulkData s.sid tid offset len data
      m.answer f 0x41 r

/-- UNKNOWN_OPCODE: answered with status 0x0D. -/
def Mod.unknownFrame (m : Mod) (e : EventLog) (f : Frame) (opcode : Nat) : Mod :=
  m.ofSession e f opcode fun m _ => m.answer f opcode (refuseAs Sys2Proof.Machine.malformed)

/-- The meaning of a Preud frame, from its effect. -/
def preudAct (t : Nanos) (g : EventLog → Mod → Mod) (s : State) : Host.Outcome State Fault Refusal :=
  actAnyE t (fun e m => if m.hears then g e m else m) s

end Sys2Proof.Machine
end

