-- ==== Sys2Proof/Machine/ExecControl.lean ====
section
/-! DEFINITION. The meanings of the Preud commands (spec/16_preud_control.md). Each meaning is the effect of one row of
spec/opcode_table.json on everything but the queue of commands. -/

namespace Sys2Proof.Machine

/-- CHALLENGE_EXPIRY: a challenge without its OPEN for 1 s is forgotten (R305). -/
def Mod.expireChallenge (m : Mod) (sid : Nat) : Mod :=
  m.modPreud fun p =>
    { p with challenges := p.challenges.filter fun (c : Challenge) => c.sid ≠ sid || m.ctr < c.at_ + second }

/-- SESSION_IDLE_EXPIRY: a session without a valid frame for 10,000 ms ends (R306). -/
def Mod.expireSession (m : Mod) (sid : Nat) : Mod :=
  match m.session sid with
  | none => m
  | some s => if s.lastHeard + 10 * second ≤ m.ctr then m.endSession sid 2 else m

/-- HELLO (R305). -/
def execHello (t : Nanos) (f : Frame) (role : Fin 4) (cnonce : Nat) (s : State) : Host.Outcome State Fault Refusal :=
  preudAct t (fun e m => m.handshake e f fun m => m.hello e.epoch f role.val cnonce) s

/-- OPEN (R305). -/
def execOpenReq (t : Nanos) (f : Frame) (mnonce : Nat) (s : State) : Host.Outcome State Fault Refusal :=
  preudAct t (fun e m => m.handshake e f fun m => m.openReq e f mnonce) s

/-- CLOSE (R306). -/
def execClose (t : Nanos) (f : Frame) (s : State) : Host.Outcome State Fault Refusal :=
  preudAct t (fun e m => m.request e f .close) s

/-- KEEPALIVE (R306). -/
def execKeepalive (t : Nanos) (f : Frame) (s : State) : Host.Outcome State Fault Refusal :=
  preudAct t (fun e m => m.request e f .keepalive) s

/-- READ (R381). -/
def execRead (t : Nanos) (f : Frame) (items : List ReadItem) (s : State) : Host.Outcome State Fault Refusal :=
  preudAct t (fun e m => m.request e f (.read items)) s

/-- WRITE (R310). -/
def execWrite (t : Nanos) (f : Frame) (idx : Nat) (sub : Nat) (staged : Bool) (value : Octets) (s : State) :
    Host.Outcome State Fault Refusal :=
  preudAct t (fun e m => m.request e f (.write idx sub staged value)) s

/-- TIMED_WRITE (R22). -/
def execTimedWrite (t : Nanos) (f : Frame) (idx : Nat) (sub : Nat) (at_ : TimeVal) (value : Octets) (s : State) :
    Host.Outcome State Fault Refusal :=
  preudAct t (fun e m => m.request e f (.timedWrite idx sub at_ value)) s

/-- CANCEL_TIMED (R310). -/
def execCancelTimed (t : Nanos) (f : Frame) (target : Nat) (sub : Nat) (kind : Nat) (applyTick : Nat) (s : State) :
    Host.Outcome State Fault Refusal :=
  preudAct t (fun e m => m.request e f (.cancelTimed target sub kind applyTick)) s

/-- LIST_TIMED (R310). -/
def execListTimed (t : Nanos) (f : Frame) (first : Nat) (s : State) : Host.Outcome State Fault Refusal :=
  preudAct t (fun e m => m.request e f (.listTimed first)) s

/-- FUNCTION_START (R311). -/
def execFunctionStart (t : Nanos) (f : Frame) (fid : Nat) (timed : Option TimeVal) (s : State) :
    Host.Outcome State Fault Refusal :=
  preudAct t (fun e m => m.request e f (.function fid 1 timed)) s

/-- FUNCTION_STOP (R311). -/
def execFunctionStop (t : Nanos) (f : Frame) (fid : Nat) (timed : Option TimeVal) (s : State) :
    Host.Outcome State Fault Refusal :=
  preudAct t (fun e m => m.request e f (.function fid 2 timed)) s

/-- FUNCTION_RESTART (R313). -/
def execFunctionRestart (t : Nanos) (f : Frame) (fid : Nat) (timed : Option TimeVal) (s : State) :
    Host.Outcome State Fault Refusal :=
  preudAct t (fun e m => m.request e f (.function fid 3 timed)) s

/-- OPEN_CHANGE_SET (R314). -/
def execOpenChangeSet (t : Nanos) (f : Frame) (fid : Nat) (s : State) : Host.Outcome State Fault Refusal :=
  preudAct t (fun e m => m.request e f (.function fid 4 none)) s

/-- DISCARD_CHANGE_SET (R314). -/
def execDiscardChangeSet (t : Nanos) (f : Frame) (fid : Nat) (s : State) : Host.Outcome State Fault Refusal :=
  preudAct t (fun e m => m.request e f (.function fid 5 none)) s

/-- SUBSCRIBE (R316). -/
def execSubscribe (t : Nanos) (f : Frame) (mask : Nat) (severity : Nat) (start : Nat) (s : State) :
    Host.Outcome State Fault Refusal :=
  preudAct t (fun e m => m.request e f (.subscribe mask severity start)) s

/-- EVENT_ACK (R317). -/
def execEventAck (t : Nanos) (f : Frame) (first : Nat) (s : State) : Host.Outcome State Fault Refusal :=
  preudAct t (fun e m => m.ackFrame e f first) s

/-- BULK_BEGIN (R319). -/
def execBulkBegin (t : Nanos) (f : Frame) (idx : Nat) (sub : Nat) (wr : Bool) (staged : Bool) (length : Nat) (crc : Nat) (s : State) :
    Host.Outcome State Fault Refusal :=
  preudAct t (fun e m => m.request e f (.bulkBegin idx sub wr staged length crc)) s

/-- BULK_DATA (R319). -/
def execBulkData (t : Nanos) (f : Frame) (tid : Nat) (offset : Nat) (len : Nat) (data : Octets) (s : State) :
    Host.Outcome State Fault Refusal :=
  preudAct t (fun e m => m.dataFrame e f tid offset len data) s

/-- BULK_END (R320). -/
def execBulkEnd (t : Nanos) (f : Frame) (tid : Nat) (s : State) : Host.Outcome State Fault Refusal :=
  preudAct t (fun e m => m.request e f (.bulkEnd tid)) s

/-- BULK_ABORT (R320). -/
def execBulkAbort (t : Nanos) (f : Frame) (tid : Nat) (s : State) : Host.Outcome State Fault Refusal :=
  preudAct t (fun e m => m.request e f (.bulkAbort tid)) s

/-- MALFORMED_DATAGRAM (R302). -/
def execMalformedDatagram (t : Nanos) (route : Route) (kind : MalformedKind) (s : State) : Host.Outcome State Fault Refusal :=
  preudAct t (fun _ m => m.malformed route kind) s

/-- CHALLENGE_EXPIRY (R305). -/
def execChallengeExpiry (t : Nanos) (sid : Nat) (s : State) : Host.Outcome State Fault Refusal :=
  preudAct t (fun _ m => m.expireChallenge sid) s

/-- SESSION_IDLE_EXPIRY (R306). -/
def execSessionIdleExpiry (t : Nanos) (sid : Nat) (s : State) : Host.Outcome State Fault Refusal :=
  preudAct t (fun _ m => m.expireSession sid) s

/-- SEQUENCE_GAP_EXPIRY (R308). -/
def execSequenceGapExpiry (t : Nanos) (sid : Nat) (s : State) : Host.Outcome State Fault Refusal :=
  preudAct t (fun e m => Mod.skipGaps e sid 1 m) s

/-- EVENT_RESEND (R317). -/
def execEventResend (t : Nanos) (sid : Nat) (first : Nat) (s : State) : Host.Outcome State Fault Refusal :=
  preudAct t (fun _ m => m.eventResend sid first) s

/-- BULK_IDLE_ABORT (R319). -/
def execBulkIdleAbort (t : Nanos) (tid : Nat) (s : State) : Host.Outcome State Fault Refusal :=
  preudAct t (fun _ m => m.bulkIdle tid) s

/-- UNKNOWN_OPCODE (R303). -/
def execUnknownOpcode (t : Nanos) (f : Frame) (opcode : Nat) (s : State) : Host.Outcome State Fault Refusal :=
  preudAct t (fun e m => m.unknownFrame e f opcode) s

/-- ARP_AND_ICMP_ECHO (R300). -/
def execArpAndIcmpEcho (t : Nanos) (route : Route) (msg : LocalMsg) (s : State) : Host.Outcome State Fault Refusal :=
  preudAct t (fun _ m => m.localMsg route msg) s

end Sys2Proof.Machine
end

