-- ==== Sys2Proof/Machine/Edge.lean ====
section
/-! DEFINITION. The base tick edge: what happens as one base tick ends and the next begins, in the order of R19
(spec/02_ticks_and_time.md), and the single timed launch that comes into force (R22-R26). -/

namespace Sys2Proof.Machine

/-! ### Writes that come into force (R19 step 1, R21, R24, R34) -/

/-- Which list a due write waits in. -/
inductive DueKind | reset | untimed | timed (w : TimedWrite) deriving DecidableEq, Repr

/-- A write due at an edge. -/
structure DueWrite where
  idx : Nat
  sub : Nat
  value : Val
  kind : DueKind
  deriving DecidableEq, Repr

/-- A clip start or export start, which Table 2.3 serves in rotation. -/
def DueWrite.isClipStart (x : DueWrite) : Bool := within x.idx 0x6200 0x620F && x.sub = 1 && x.value = .num 1

/-- Ascending object, then subitem. -/
def DueWrite.before (x y : DueWrite) : Bool := x.idx < y.idx || (x.idx = y.idx && x.sub ≤ y.sub)

/-- Puts the clip starts of a list, in another order, into the places they hold. -/
def refill : List DueWrite → List DueWrite → List DueWrite
  | [], _ => []
  | x :: rest, [] => x :: refill rest []
  | x :: rest, c :: cs => if x.isClipStart then c :: refill rest cs else x :: refill rest (c :: cs)

/-- The writes due at tick T in the order they apply: reset objects, untimed and timed writes by object and subitem, those of one
object in order of acceptance, clip starts in rotation (R19, R21). -/
def Mod.dueWrites (m : Mod) (T : Nat) : List DueWrite :=
  let r := m.preud.resets.map fun x => DueWrite.mk x.1 0 (.num x.2) .reset
  let u := (m.preud.rt.filter fun x => x.applyTick ≤ T).map fun x => DueWrite.mk x.idx x.sub x.value .untimed
  let t := (sortBy (fun (x y : TimedWrite) => x.order ≤ y.order) (m.preud.timed.filter fun x => x.applyTick ≤ T)).map
    fun x => DueWrite.mk x.idx x.sub x.value (.timed x)
  let l := sortBy DueWrite.before (r ++ u ++ t)
  let starts := l.filter DueWrite.isClipStart
  let slots := serveOrder T 16 fun s => starts.any fun x => x.idx = 0x6200 + s
  refill l (slots.flatMap fun s => starts.filter fun x => x.idx = 0x6200 + s)

/-- One due write takes effect at the edge of tick T. -/
def Mod.applyDue (m : Mod) (T : Nat) (x : DueWrite) : Mod :=
  match x.kind with
  | .reset => m.zero x.idx x.value.nat
  | .untimed => if x.idx = 0x1433 then m.commandStep else m.applyRt x.idx x.sub x.value T
  | .timed _ =>
    if x.idx ≠ 0x1433 then (m.noteApplied x.idx x.sub).applyRt x.idx x.sub x.value T
    else (m.when (m.flag 0x1420 7) fun m => m.noteApplied x.idx x.sub).commandStep

/-- Step 1 of R19: every write due applies and waits no longer. -/
def Mod.applyWrites (m : Mod) (T : Nat) : Mod :=
  let due := m.dueWrites T
  let m := m.modPreud fun p =>
    { p with
      resets := []
      rt := p.rt.filter fun (x : RtWrite) => T < x.applyTick
      timed := p.timed.filter fun (x : TimedWrite) => T < x.applyTick }
  (m.each due fun (m : Mod) (x : DueWrite) => m.applyDue T x).showTimed

/-- TIMED_LAUNCH_APPLY: one pending timed write whose tick has come applies by itself. Of two that R34 brought onto one tick
the earlier accepted goes first. -/
def Mod.applyLaunch (m : Mod) (target sub applyTick : Nat) : Mod :=
  let due := m.preud.timed.filter fun x =>
    x.idx = target && x.sub = sub && x.applyTick = applyTick && applyTick ≤ m.fam.tickOf m.now
  match sortBy (fun (x y : TimedWrite) => x.order ≤ y.order) due with
  | [] => m
  | x :: _ =>
    let m := m.modPreud fun p => { p with timed := p.timed.filter fun (y : TimedWrite) => y ≠ x }
    (m.applyDue applyTick ⟨x.idx, x.sub, x.value, .timed x⟩).showTimed

/-- TIMED_LAUNCH_APPLY of a function command whose tick has come. -/
def Mod.applyTimedCmd (m : Mod) (epoch fid applyTick : Nat) : Mod :=
  let due (x : FnCmd) : Bool := x.fid = fid && x.named ≠ none && x.applyTick = applyTick && applyTick ≤ m.fam.tickOf m.now
  let others := m.preud.fnCmds.filter fun x => !due x
  let m := m.modPreud fun p => { p with fnCmds := p.fnCmds.filter due }
  let m := if m.preud.fnCmds = [] then m else m.applyCommands epoch applyTick
  (m.modPreud fun p => { p with fnCmds := others ++ p.fnCmds }).showTimed

/-! ### The tick that ends -/

/-- The work of the tick that ends: plans in slots 1-47, cutoffs at slot 56, refreshes owed in slot 60 (R131, R97, R257). -/
def Mod.closeTick (m : Mod) : Mod := m.planTick.cutAll.refreshOwed

/-- The next tick begins: own time and the counter reach its edge, if they have not passed it. While time is slewed the counter
finds the tick longer or shorter (R33, log 7). -/
def Mod.openTick (m : Mod) : Mod :=
  let upto := max m.now (m.fam.edge (m.tick + 1))
  let slew := m.slewTick (m.fam.edge (m.tick + 1) - m.fam.edge m.tick)
  let m : Mod := { m with
    tick := m.tick + 1
    ctr := max m.ctr ((m.ctr + (upto - m.now) : Nat) + slew.1).toNat
    now := upto
    raised := []
    servo := { m.servo with slew := slew.2 } }
  m.showTick

/-! ### The steps of R19 -/

/-- Step 4 of R19: courses are handed on. -/
def Mod.handOn (m : Mod) (T : Nat) : Mod :=
  let on (r : Nat) : Bool := (m.rend r).cfgs ≠ [] && isFrameTick T (m.rendStep r)
  let m := m.each ((List.range 128).filter on) fun (m : Mod) (r : Nat) => m.noteQp r T
  let m := (m.encodeEdge T Mod.recordCourse).indexEdge
  let m := m.each (List.range 32) fun (m : Mod) (n : Nat) => m.ingestEdge n T m.servo.utcOffset
  m.each (List.range 16) fun (m : Mod) (s : Nat) => m.playoutEdge s T

/-- Steps 2 to 5 of R19 at the edge of T. -/
def Mod.laterSteps (m : Mod) (epoch T : Nat) : Mod :=
  let m := m.each (List.range 32) fun (m : Mod) (n : Nat) => m.veneerEdge n T
  let m := m.applyCommands epoch T
  (m.handOn T).repairPass T

/-- What else an edge brings: a pending step of time, membership legs and queriers, the twin's watch over its ports, trims and
lanes, a thermal stop that waited, and the policers' new settings. -/
def Mod.edgeUpkeep (m : Mod) (from_ : Nanos) : Mod :=
  let m := m.automaticStep.updateLegs.settleQueriers.watchOutputs.stepTrims
  (m.runLanes from_ m.ctr).thermalEdge.restDisabled.settleBuckets

/-- What is shown of the event log (1160). -/
def Mod.showEvents (m : Mod) (e : EventLog) : Mod :=
  ((m.put 0x1160 1 e.oldest).put 0x1160 2 e.next).put 0x1160 3 e.epoch

/-- The bond groups' members and states (5640:01-02). -/
def Mod.showGroups (m : Mod) : Mod :=
  m.each (List.range 32) fun (m : Mod) (g : Nat) =>
    let coding := (List.range 128).filter fun r => m.n (0x5400 + r) 8 = g && (m.rend r).cfgs ≠ []
    let state := if coding = [] then 0 else if coding.any fun r => (m.rend r).capped then 2 else 1
    (m.put (0x5640 + g) 1 (m.members g).length).put (0x5640 + g) 2 state

/-- What admission counts: costs of channels and module, admitted renditions, ingest load (5200:03, 5250:01, 5250:03, 4200:01; R43,
R93, R96). -/
def Mod.showCommitted (m : Mod) : Mod :=
  let rs := m.countedRends
  let m := (m.put 0x5250 1 (rs.map fun r => m.rendCost r).sum).put 0x5250 3 rs.length
  let m := m.each (List.range 32) fun (m : Mod) (n : Nat) =>
    m.put (0x5200 + n) 3 ((rs.filter fun r => m.rendChan r = n).map fun r => m.rendCost r).sum
  m.put 0x4200 1 m.ingestLoad

/-- Whether a request of a port may be served after its target: not on ports 0-19, but in a tick with a forced refresh or while a
device's correctable errors are those that raised ev 2002 (R258). -/
def Mod.mayBeLate (m : Mod) (p : Nat) : Bool := 20 ≤ p || m.mem.forced || m.mem.devices.any fun x =>
  x.warned && x.hour = m.now / (3600 * second)

/-- What a DRAM port's clients did in the tick that ended (2100; R253, R258), against the target its requests entered under: the one in
force at the edge before. -/
def Mod.measurePort (m : Mod) (second_ : Bool) (p : Nat) : Mod :=
  let x := Config.portFigure m.draws p
  let o := 0x2100 + p
  let late := if m.mayBeLate p then x 5 else 0
  let latency (i : Nat) : Nat := if late ≠ 0 then x i else min (x i) (m.atEdge.n 0x2040 (1 + p))
  let m := (((m.count o 1 (x 0)).count o 2 (x 1)).count o 3 (x 2)).count o 7 (x 6)
  let m := m.putMax o 5 (latency 3)
  let m := if second_ then m.put o 4 (latency 4) else m
  if late = 0 then m else (m.count o 6 late).raiseLimitedBy 0x2004 p second late [p]

/-- What the memory and the Sett cores measure; figures of the last second change at the first edge of a second. -/
def Mod.measure (m : Mod) : Mod :=
  let turns := m.fam.edge m.tick / second ≠ m.fam.edge (m.tick - 1) / second
  let live := m.n 0x2000 1 = running
  let d := m.draws
  let m := if live then m.each (List.range 24) fun (m : Mod) (p : Nat) => m.measurePort turns p else m
  let m : Mod := { m with mem := { m.mem with forced := false } }
  let serving := (List.range 64).filter fun c => m.core c = 0 || m.core c = 2
  let m := m.each serving fun (m : Mod) (c : Nat) => m.count (0x2800 + c) 9 (Config.wordsCorrected d c)
  let m := if !turns then m
    else
      let m := m.put 0x2080 5 (if live then Config.loadFigure d 0 else 0)
      let m := m.each (List.range 16) fun (m : Mod) (c : Nat) =>
        let on := live && m.channelLive c
        (m.put (0x2140 + c) 2 (if on then min 100 (Config.loadFigure d (1 + c)) else 0)).put (0x2140 + c) 3
          (if on then min 100 (Config.loadFigure d (17 + c)) else 0)
      m.each (List.range 64) fun (m : Mod) (c : Nat) =>
        m.put (0x2800 + c) 0x0A (if serving.contains c then min 100 (Config.slotUse d c) else 0)
  m.draw

/-- The status objects as of this edge (R381, R394). -/
def Mod.publish (m : Mod) (e : EventLog) : Mod :=
  let m := m.each (List.range 16) fun (m : Mod) (k : Nat) => m.showCheck k
  let m := m.each (List.range 128) fun (m : Mod) (r : Nat) => (m.showOverhead r).put (0x5880 + r) 1 (m.outputState r)
  let m := m.showCommitted.showGroups.showFabric.showMemory.showServo.showTwin.showWitness.showGating.showLowered
  let m := (m.showEvents e).put 0x1030 4 (m.ctr - m.hw.serviceAt)
  let m := m.showReadiness
  { m with edgeObjs := m.objs }

/-- The edge of the next tick, with the log after the tick that ended. -/
def Mod.edge (m : Mod) (e : EventLog) : Mod :=
  let from_ := m.ctr
  let m := m.openTick
  let T := m.tick
  let m := m.applyWrites T
  let m := if m.tick = T then m.laterSteps e.epoch T else m
  ((((m.edgeUpkeep from_).measure).publish e).deliverAll e)

/-- BASE_TICK_EDGE: the tick closes, its events enter the log with their numbers and the TIME of its edge, and the next tick
begins (R17, R19, R35). -/
def State.tickEdge (s : State) : State :=
  if !s.m.runs then s
  else
    let m := s.m.closeTick
    let e := s.events.append m.tickTime m.raised
    { s with
      events := e
      m := m.edge e }

/-! ### Reads that DRAM cannot correct (R261, Table 13.6) -/

/-- What the reader of an unreadable burst does. -/
def Mod.readerActs (m : Mod) : DramReader → Mod
  | .picture n => m.burnPicture n.val
  | .layer n l => m.burnLayer n.val l.val
  | .rung r column line => m.burnRung r.val column line
  | .reference r i block => m.burnReference r.val i.val block
  | .launchQueue r => m.loseDatagram r.val
  | .replay r s tick => m.ringReadError r.val s.val tick
  | .decode e => m.burnDecode e.val
  | .repair r => m.modTwin fun t => { t with skipBand := t.skipBand ++ [r.val] }
  | .sett c => m.failCore c.val 2
  | .bulk tid => m.modTransfer tid fun (x : Transfer) => { x with failed := true }
  | .scrub => m
  | .other => m

/-- DRAM_UNCORRECTABLE_READ. -/
def Mod.badRead (m : Mod) (c port : Nat) (what : DramReader) : Mod :=
  if m.channelLive c then (m.uncorrectable c port what).readerActs what else m

end Sys2Proof.Machine
end

