-- ==== Sys2Proof/Machine/ExecFabric.lean ====
section
/-! DEFINITION. The meanings of the fabric and of PTP (spec/11_fabric.md, spec/02_ticks_and_time.md). Each meaning is the effect of one row of
spec/opcode_table.json on everything but the queue of commands. -/

namespace Sys2Proof.Machine

/-- EGRESS_FRAME_BOUNDARY (R206). -/
def execEgressFrameBoundary (t : Nanos) (port : Fin 32) (s : State) : Host.Outcome State Fault Refusal :=
  act t (fun m => m.frameBoundary port.val) s

/-- FRAME_RECEIVED (R198). -/
def execFrameReceived (t : Nanos) (port : Fin 32) (fr : EthFrame) (s : State) : Host.Outcome State Fault Refusal :=
  act t (fun m => m.receiveFrame port.val fr) s

/-- IGMP_MLD_REPORT (R212). -/
def execIgmpMldReport (t : Nanos) (port : Fin 32) (rep : MemReport) (s : State) : Host.Outcome State Fault Refusal :=
  act t (fun m => m.takeReport port.val rep) s

/-- IGMP_MLD_QUERY (R211). -/
def execIgmpMldQuery (t : Nanos) (port : Fin 32) (q : MemQuery) (s : State) : Host.Outcome State Fault Refusal :=
  act t (fun m => m.takeQuery port.val q) s

/-- QUERY_INTERVAL_EXPIRY (R211). -/
def execQueryIntervalExpiry (t : Nanos) (s : State) : Host.Outcome State Fault Refusal :=
  act t (fun m => m.generalQuery) s

/-- QUEUE_SAMPLE (R213). -/
def execQueueSample (t : Nanos) (s : State) : Host.Outcome State Fault Refusal :=
  act t (fun m => m.sampleQueues) s

/-- SAMPLE_WINDOW_END (R213). -/
def execSampleWindowEnd (t : Nanos) (s : State) : Host.Outcome State Fault Refusal :=
  act t (fun m => m.endSampleWindow) s

/-- PTP_MESSAGE (R28). -/
def execPtpMessage (t : Nanos) (port : Fin 32) (msg : PtpMsg) (s : State) : Host.Outcome State Fault Refusal :=
  act t (fun m => m.takePtp port.val msg) s

/-- SERVO_LOCKED (R30). -/
def execServoLocked (t : Nanos) (s : State) : Host.Outcome State Fault Refusal :=
  act t (fun m => m.servoLock) s

/-- ANNOUNCE_RECEIPT_TIMEOUT (R30). -/
def execAnnounceReceiptTimeout (t : Nanos) (s : State) : Host.Outcome State Fault Refusal :=
  act t (fun m => m.announceTimeout) s

/-- HOLDOVER_LIMIT (R32). -/
def execHoldoverLimit (t : Nanos) (s : State) : Host.Outcome State Fault Refusal :=
  act t (fun m => m.holdoverEnd) s

/-- PTP_MASTER_SEND (R29). -/
def execPtpMasterSend (t : Nanos) (port : Fin 32) (announce : Bool) (s : State) : Host.Outcome State Fault Refusal :=
  act t (fun m => m.masterSend port.val announce) s

/-- PPS_OUT_PULSE (R38). -/
def execPpsOutPulse (t : Nanos) (s : State) : Host.Outcome State Fault Refusal :=
  act t (fun m => m.ppsOut) s

/-- PPS_IN_EDGE (R38). -/
def execPpsInEdge (t : Nanos) (s : State) : Host.Outcome State Fault Refusal :=
  act t (fun m => m.ppsIn) s

/-- PPS_IN_ABSENT (R38). -/
def execPpsInAbsent (t : Nanos) (s : State) : Host.Outcome State Fault Refusal :=
  act t (fun m => m.ppsLost) s

/-- DELAY_REQ_SEND (R28). -/
def execDelayReqSend (t : Nanos) (s : State) : Host.Outcome State Fault Refusal :=
  act t (fun m => m.delayReq) s

/-- MEMBERSHIP_TIMEOUT (R212). -/
def execMembershipTimeout (t : Nanos) (port : Fin 32) (group : Nat) (source : Option Nat) (s : State) :
    Host.Outcome State Fault Refusal :=
  act t (fun m => m.membershipTimeout port.val group source) s

/-- OTHER_QUERIER_PRESENT_TIMEOUT (R212). -/
def execOtherQuerierPresentTimeout (t : Nanos) (port : Fin 32) (family : Fam) (s : State) : Host.Outcome State Fault Refusal :=
  act t (fun m => m.otherQuerierGone port.val family) s

/-- UNSOLICITED_REPORT_TIMER (R211). -/
def execUnsolicitedReportTimer (t : Nanos) (entry : Fin 32768) (s : State) : Host.Outcome State Fault Refusal :=
  act t (fun m => m.repeatReport entry.val) s

end Sys2Proof.Machine
end

