-- ==== Sys2Proof/Machine/ExecHardware.lean ====
section
/-! DEFINITION. The meanings of clocks, calibration, power, hardware, Sett cores and built-in tests (spec/15_clocks_and_calibration.md to spec/19_faults_and_events.md). Each meaning is the effect of one row of
spec/opcode_table.json on everything but the queue of commands. -/

namespace Sys2Proof.Machine

/-- EJECTOR: the lever is seen by a module that runs (R341). -/
def Mod.lever (m : Mod) (opened : Bool) : Mod :=
  if m.runs then m.ejector opened else m.modHw fun h => { h with ejectorOpen := opened }

/-- GATE_WINDOW_END (R281). -/
def execGateWindowEnd (t : Nanos) (clk : Fin 10) (count : Nat) (s : State) : Host.Outcome State Fault Refusal :=
  act t (fun m => m.gateWindow clk.val count) s

/-- CLOCK_STOP_DETECTED (R284). -/
def execClockStopDetected (t : Nanos) (src : Fin 4) (gapFio : Nat) (s : State) : Host.Outcome State Fault Refusal :=
  actE t (fun e m => m.sourceStops e.epoch src.val gapFio) s

/-- PLL_REFERENCE_FAILURE (R283). -/
def execPllReferenceFailure (t : Nanos) (k : Fin 6) (lockLoss : Bool) (s : State) : Host.Outcome State Fault Refusal :=
  act t (fun m => m.pllFails k.val lockLoss) s

/-- FORCED_SWITCH_COMPLETE (R284). -/
def execForcedSwitchComplete (t : Nanos) (k : Fin 6) (s : State) : Host.Outcome State Fault Refusal :=
  act t (fun m => m.forcedSwitch k.val) s

/-- PLL_RELOCK (R283). -/
def execPllRelock (t : Nanos) (k : Fin 6) (s : State) : Host.Outcome State Fault Refusal :=
  act t (fun m => m.pllRelocks k.val) s

/-- ACCESS_TIMEOUT (R291). -/
def execAccessTimeout (t : Nanos) (block : Nat) (addr : Nat) (initiator : Nat) (s : State) : Host.Outcome State Fault Refusal :=
  act t (fun m => m.accessTimeout block addr initiator) s

/-- FREQUENCY_COUNTER_DONE (R292). -/
def execFrequencyCounterDone (t : Nanos) (count : Nat) (refStopped : Bool) (s : State) : Host.Outcome State Fault Refusal :=
  act t (fun m => m.counterDone count refStopped) s

/-- TEMPERATURE_SAMPLE (R293). -/
def execTemperatureSample (t : Nanos) (temps : List DomTemp) (s : State) : Host.Outcome State Fault Refusal :=
  act t (fun m => m.sampleTemperatures temps) s

/-- CALIBRATION_RUN_START (R294). -/
def execCalibrationRunStart (t : Nanos) (d : Fin 28) (s : State) : Host.Outcome State Fault Refusal :=
  act t (fun m => m.startRun d.val) s

/-- CALIBRATION_RUN_COMPLETE (R299). -/
def execCalibrationRunComplete (t : Nanos) (d : Fin 28) (res : CalResult) (s : State) : Host.Outcome State Fault Refusal :=
  act t (fun m => m.endRun d.val res) s

/-- POWER_ON_SEQUENCE (R324). -/
def execPowerOnSequence (t : Nanos) (boot : BootInfo) (s : State) : Host.Outcome State Fault Refusal :=
  actAny t (fun m => m.powerOn boot) s

/-- POWER_STEP_TIMEOUT (R324). -/
def execPowerStepTimeout (t : Nanos) (stp : Fin 10) (ch : Fin 16) (s : State) : Host.Outcome State Fault Refusal :=
  actE t (fun e m => m.stepTimeout e.epoch stp.val ch.val) s

/-- XB_OVEN_SETTLED (R330). -/
def execXbOvenSettled (t : Nanos) (s : State) : Host.Outcome State Fault Refusal :=
  act t (fun m => m.ovenSettled) s

/-- XB_WARMUP_TIMEOUT (R330). -/
def execXbWarmupTimeout (t : Nanos) (s : State) : Host.Outcome State Fault Refusal :=
  act t (fun m => m.xbTimeout) s

/-- CHASSIS_RESET (R335). -/
def execChassisReset (t : Nanos) (lowNs : Nat) (boot : BootInfo) (s : State) : Host.Outcome State Fault Refusal :=
  actAny t (fun m => m.chassisReset lowNs boot) s

/-- WATCHDOG_EXPIRY (R337). -/
def execWatchdogExpiry (t : Nanos) (_cls : Fin 13) (s : State) : Host.Outcome State Fault Refusal :=
  act t (fun m => m.watchdogReset) s

/-- AUTO_CONFIRM_EXPIRY (R339). -/
def execAutoConfirmExpiry (t : Nanos) (s : State) : Host.Outcome State Fault Refusal :=
  act t (fun m => m.autoConfirm) s

/-- EJECTOR (R341). -/
def execEjector (t : Nanos) (opened : Bool) (s : State) : Host.Outcome State Fault Refusal :=
  actAny t (fun m => m.lever opened) s

/-- I2C_OFFSET_WRITE (R346). -/
def execI2cOffsetWrite (t : Nanos) (offset : Byte) (s : State) : Host.Outcome State Fault Refusal :=
  actAny t (fun m => m.i2cOffset offset.toNat) s

/-- I2C_READ (R346). -/
def execI2cRead (t : Nanos) (s : State) : Host.Outcome State Fault Refusal :=
  actAny t (fun m => m.i2cRead) s

/-- LIVE_FIELD_UPDATE (R346). -/
def execLiveFieldUpdate (t : Nanos) (s : State) : Host.Outcome State Fault Refusal :=
  act t (fun m => m.updateLive) s

/-- FEED_STATE_CHANGE (R348). -/
def execFeedStateChange (t : Nanos) (feed : Fin 2) (mv : Int) (s : State) : Host.Outcome State Fault Refusal :=
  actAny t (fun m => m.feedChange feed.val mv) s

/-- INTERNAL_SHORT_LIMIT (R348). -/
def execInternalShortLimit (t : Nanos) (feed : Fin 2) (s : State) : Host.Outcome State Fault Refusal :=
  actAny t (fun m => m.feedShort feed.val) s

/-- HOLD_UP_CHARGED (R350). -/
def execHoldUpCharged (t : Nanos) (s : State) : Host.Outcome State Fault Refusal :=
  actAny t (fun m => m.holdUpCharged) s

/-- INPUT_DIP (R350). -/
def execInputDip (t : Nanos) (s : State) : Host.Outcome State Fault Refusal :=
  actAny t (fun m => m.inputDip) s

/-- HOLD_UP_EXPIRY (R350). -/
def execHoldUpExpiry (t : Nanos) (s : State) : Host.Outcome State Fault Refusal :=
  actAny t (fun m => m.holdUpExpiry) s

/-- COOL_FAIL (R352). -/
def execCoolFail (t : Nanos) (asserted : Bool) (s : State) : Host.Outcome State Fault Refusal :=
  act t (fun m => m.coolFail asserted) s

/-- JUNCTION_SAMPLE (R353). -/
def execJunctionSample (t : Nanos) (temp : Int) (s : State) : Host.Outcome State Fault Refusal :=
  actAny t (fun m => m.junctionSample temp) s

/-- THERMAL_STOP_END (R353). -/
def execThermalStopEnd (t : Nanos) (s : State) : Host.Outcome State Fault Refusal :=
  act t (fun m => m.thermalEnd) s

/-- OPTIC_TEMPERATURE_READ (R355). -/
def execOpticTemperatureRead (t : Nanos) (cage : Fin 9) (temp : Int) (highAlarm : Int) (s : State) :
    Host.Outcome State Fault Refusal :=
  act t (fun m => m.opticTemperature cage.val temp highAlarm) s

/-- HEARTBEAT_CHECK (R364). -/
def execHeartbeatCheck (t : Nanos) (missed : List (Fin 64)) (s : State) : Host.Outcome State Fault Refusal :=
  act t (fun m => m.heartbeat (missed.map fun c => c.val)) s

/-- SETT_CORE_TRAP (R364). -/
def execSettCoreTrap (t : Nanos) (core : Fin 64) (memory : Bool) (s : State) : Host.Outcome State Fault Refusal :=
  act t (fun m => m.failCore core.val (if memory then 2 else 3)) s

/-- BUILT_IN_TEST_COMPLETE (R371). -/
def execBuiltInTestComplete (t : Nanos) (pass : Bool) (detail : Nat) (s : State) : Host.Outcome State Fault Refusal :=
  act t (fun m => m.testDone pass detail) s

end Sys2Proof.Machine
end

