-- ==== Sys2Proof/Machine/ExecMedia.lean ====
section
/-! DEFINITION. The meanings of the base tick, of timed launches, and of what ingest, encode, output and decode do (spec/02, 03, 05, 06, 08, 09). Each meaning is the effect of one row of
spec/opcode_table.json on everything but the queue of commands. -/

namespace Sys2Proof.Machine

/-- HOLD_LIMIT_REACHED: a LOST channel under hold has held the limit of pictures: black from the next one on, ev 400A once (R52). -/
def Mod.holdLimit (m : Mod) (n : Nat) : Mod :=
  let g : VideoTarget := .channel (Fin.ofNat 32 n)
  let limit := (m.policySnap n m.tick).hold
  let r := (m.video g).runs.getLast?.getD default
  if r.lost && (m.policySnap n m.tick).policy = 0 && limit ≠ 0 && limit ≤ r.heldPics && !r.holdReached then
    (m.modRun g r.grid.first fun r => { r with holdReached := true }).raise 0x400A n [n]
  else m

/-- LATE_DATAGRAM of a read slot: the head of its queue is past its launch time (R160). -/
def Mod.launchSlotLate (m : Mod) (s : Nat) : Mod :=
  match (m.slot s).queue with
  | [] => m
  | d :: _ => if m.now ≤ d.launch then m else m.launchSlot s

/-- LATE_DATAGRAM of a rendition: a packed datagram that reaches the queue after its launch time (R160). -/
def Mod.launchRendLate (m : Mod) (r : Nat) : Mod :=
  match (m.rend r).packing with
  | [] => m
  | d :: _ => if m.now ≤ d.launch then m else m.queueFed r

/-- What a launch source launches late. -/
def Mod.launchLateOf (m : Mod) : LaunchSrc → Mod
  | .rendition r => m.launchRendLate r.val
  | .slot k => m.launchSlotLate k.val

/-- BASE_TICK_EDGE (R19). -/
def execBaseTickEdge (s : State) : Host.Outcome State Fault Refusal :=
  .next s.tickEdge

/-- TIMED_LAUNCH_APPLY (R22). -/
def execTimedLaunchApply (t : Nanos) (kind : Nat) (target : Nat) (sub : Nat) (applyTick : Nat) (s : State) :
    Host.Outcome State Fault Refusal :=
  actE t (fun e m => if kind = 0 then m.applyLaunch target sub applyTick else m.applyTimedCmd e.epoch target applyTick) s

/-- VENEER_COMMIT_ABANDON (R70). -/
def execVeneerCommitAbandon (t : Nanos) (n : Fin 32) (s : State) : Host.Outcome State Fault Refusal :=
  act t (fun m => m.abandonCommit n.val) s

/-- STOPPING_END (R311). -/
def execStoppingEnd (t : Nanos) (fid : Nat) (s : State) : Host.Outcome State Fault Refusal :=
  actE t (fun e m => m.endStopping e.epoch fid) s

/-- HOLD_LIMIT_REACHED (R52). -/
def execHoldLimitReached (t : Nanos) (n : Fin 32) (s : State) : Host.Outcome State Fault Refusal :=
  act t (fun m => m.holdLimit n.val) s

/-- LATE_CTU_CUTOFF (R98). -/
def execLateCtuCutoff (t : Nanos) (pipe : Fin 8) (lane : Fin 8) (s : State) : Host.Outcome State Fault Refusal :=
  act t (fun m => m.lateCutoff pipe.val lane.val) s

/-- CTU_COMPLETE (R135). -/
def execCtuComplete (t : Nanos) (pipe : Fin 8) (lane : Fin 8) (r : Fin 128) (tile : Fin 8) (s : State) :
    Host.Outcome State Fault Refusal :=
  act t (fun m => m.ctuComplete pipe.val lane.val r.val tile.val) s

/-- VIDEO_PACKET (R49). -/
def execVideoPacket (t : Nanos) (target : VideoTarget) (path : Path) (pkt : VideoPkt) (s : State) :
    Host.Outcome State Fault Refusal :=
  act t (fun m => m.takeVideo target path pkt) s

/-- PATH_TIMEOUT (R45). -/
def execPathTimeout (t : Nanos) (target : VideoTarget) (path : Path) (s : State) : Host.Outcome State Fault Refusal :=
  act t (fun m => m.pathTimeout target path) s

/-- AUDIO_PACKET (R56). -/
def execAudioPacket (t : Nanos) (n : Fin 32) (flow : Fin 4) (path : Path) (pkt : AudioPkt) (s : State) :
    Host.Outcome State Fault Refusal :=
  act t (fun m => m.takeAudio n.val flow.val path pkt) s

/-- AUDIO_FLOW_LOSS (R57). -/
def execAudioFlowLoss (t : Nanos) (n : Fin 32) (flow : Fin 4) (s : State) : Host.Outcome State Fault Refusal :=
  act t (fun m => m.audioLoss n.val flow.val) s

/-- AUDIO_FLOW_RESTORE (R57). -/
def execAudioFlowRestore (t : Nanos) (n : Fin 32) (flow : Fin 4) (s : State) : Host.Outcome State Fault Refusal :=
  act t (fun m => m.audioRestore n.val flow.val) s

/-- ANC_PACKET (R58). -/
def execAncPacket (t : Nanos) (n : Fin 32) (flow : Fin 2) (path : Path) (pkt : AncPkt) (s : State) :
    Host.Outcome State Fault Refusal :=
  act t (fun m => m.takeAnc n.val flow.val path pkt) s

/-- ANC_FLOW_LOSS (R58). -/
def execAncFlowLoss (t : Nanos) (n : Fin 32) (flow : Fin 2) (s : State) : Host.Outcome State Fault Refusal :=
  act t (fun m => m.ancLoss n.val flow.val) s

/-- DATAGRAM_LAUNCH (R206, R215). -/
def execDatagramLaunch (t : Nanos) (src : LaunchSrc) (s : State) : Host.Outcome State Fault Refusal :=
  act t (fun m => m.launchTurn src 4096) s

/-- LATE_DATAGRAM (R160). -/
def execLateDatagram (t : Nanos) (src : LaunchSrc) (s : State) : Host.Outcome State Fault Refusal :=
  act t (fun m => m.launchLateOf src) s

/-- DECODE_DATAGRAM (R169). -/
def execDecodeDatagram (t : Nanos) (e : Fin 2) (path : Path) (dg : DecodeDg) (s : State) : Host.Outcome State Fault Refusal :=
  act t (fun m => m.takeDecode e.val path dg) s

/-- DECODE_LOSS (R170). -/
def execDecodeLoss (t : Nanos) (e : Fin 2) (s : State) : Host.Outcome State Fault Refusal :=
  act t (fun m => m.decodeLoss e.val) s

/-- DECODE_START (R171). -/
def execDecodeStart (t : Nanos) (e : Fin 2) (s : State) : Host.Outcome State Fault Refusal :=
  act t (fun m => m.decodeStart e.val) s

/-- DECODE_END (R171). -/
def execDecodeEnd (t : Nanos) (e : Fin 2) (s : State) : Host.Outcome State Fault Refusal :=
  act t (fun m => m.decodeEnd e.val) s

/-- PRESENTATION_TICK (R174). -/
def execPresentationTick (t : Nanos) (e : Fin 2) (s : State) : Host.Outcome State Fault Refusal :=
  act t (fun m => m.present e.val) s

/-- DECODE_OUTPUT_PACKET (R179). -/
def execDecodeOutputPacket (t : Nanos) (e : Fin 2) (s : State) : Host.Outcome State Fault Refusal :=
  act t (fun m => m.sendDecode e.val) s

/-- DATAGRAM_QUEUED (R158). -/
def execDatagramQueued (t : Nanos) (r : Fin 128) (s : State) : Host.Outcome State Fault Refusal :=
  act t (fun m => m.queueFed r.val) s

end Sys2Proof.Machine
end

