-- ==== Sys2Proof/Machine/ExecPorts.lean ====
section
/-! DEFINITION. The meanings of the memory controller, the cages, ports and lanes (spec/13_memory.md, spec/14_ports_and_lanes.md). Each meaning is the effect of one row of
spec/opcode_table.json on everything but the queue of commands. -/

namespace Sys2Proof.Machine

/-- DIMM_SUPPLY_TRIP: the population is no longer permitted and the content of DRAM is lost (R351, R247). -/
def Mod.supplyTrip (m : Mod) (c : Nat) : Mod :=
  if m.n (0x2140 + c) 1 = 0 then m
  else
    let st := m.n 0x2000 1
    let m := (m.haltMedia.endMemory.put 0x2000 1 st).put 0x2000 2 0
    let m := m.each (List.range 16) fun (m : Mod) (k : Nat) => if m.n (0x2140 + k) 1 = 0 then m else m.put (0x2140 + k) 1 2
    m.raise 0x2001 0 [m.n 0x2000 9, 5]

/-- CAGE_INSERTION: what is plugged in while the module is not powered is found at the next boot. -/
def Mod.plugCage (m : Mod) (q : Nat) : Mod :=
  if m.runs then m.insertCage q
  else if (m.cage q).present then m
  else m.modCage q fun c =>
    { c with
      present := true
      presentAt := m.ctr
      info := none }

/-- CAGE_REMOVAL: likewise. -/
def Mod.unplugCage (m : Mod) (q : Nat) : Mod :=
  if m.runs then m.removeCage q else m.modCage q fun _ => ⟨false, 0, none, 0⟩

/-- REFRESH_DUE (R256). -/
def execRefreshDue (t : Nanos) (ch : Fin 16) (bank : Fin 4) (urgentWaiting : Bool) (s : State) :
    Host.Outcome State Fault Refusal :=
  act t (fun m => m.refreshDue ch.val bank.val urgentWaiting) s

/-- REFRESH_FORCED (R256). -/
def execRefreshForced (t : Nanos) (ch : Fin 16) (bank : Fin 4) (s : State) : Host.Outcome State Fault Refusal :=
  act t (fun m => m.refreshForced ch.val bank.val) s

/-- DIMM_TEMPERATURE_CHANGE (R256). -/
def execDimmTemperatureChange (t : Nanos) (ch : Fin 16) (temp : Int) (s : State) : Host.Outcome State Fault Refusal :=
  act t (fun m => m.dimmTemperature ch.val temp) s

/-- DRAM_CORRECTABLE_ERROR (R260). -/
def execDramCorrectableError (t : Nanos) (ch : Fin 16) (subch : Fin 2) (rank : Fin 2) (dev : Fin 10) (s : State) :
    Host.Outcome State Fault Refusal :=
  act t (fun m => m.correctable ch.val subch.val rank.val dev.val) s

/-- DRAM_UNCORRECTABLE_READ (R261). -/
def execDramUncorrectableRead (t : Nanos) (ch : Fin 16) (port : Fin 24) (what : DramReader) (s : State) :
    Host.Outcome State Fault Refusal :=
  act t (fun m => m.badRead ch.val port.val what) s

/-- PATROL_SCRUB_PASS (R262). -/
def execPatrolScrubPass (t : Nanos) (ch : Fin 16) (s : State) : Host.Outcome State Fault Refusal :=
  act t (fun m => m.scrubPass ch.val) s

/-- DIMM_SUPPLY_TRIP (R351). -/
def execDimmSupplyTrip (t : Nanos) (ch : Fin 16) (s : State) : Host.Outcome State Fault Refusal :=
  act t (fun m => m.supplyTrip ch.val) s

/-- CAGE_INSERTION (R274). -/
def execCageInsertion (t : Nanos) (cage : Fin 9) (s : State) : Host.Outcome State Fault Refusal :=
  actAny t (fun m => m.plugCage cage.val) s

/-- CAGE_PRESENCE_STABLE (R274). -/
def execCagePresenceStable (t : Nanos) (cage : Fin 9) (info : CageModule) (s : State) : Host.Outcome State Fault Refusal :=
  act t (fun m => m.stableCage cage.val info) s

/-- MODULE_READY (R274). -/
def execModuleReady (t : Nanos) (cage : Fin 9) (s : State) : Host.Outcome State Fault Refusal :=
  act t (fun m => m.readyCage cage.val) s

/-- MODULE_READY_TIMEOUT (R274). -/
def execModuleReadyTimeout (t : Nanos) (cage : Fin 9) (s : State) : Host.Outcome State Fault Refusal :=
  act t (fun m => m.readyTimeout cage.val) s

/-- CAGE_REMOVAL (R274). -/
def execCageRemoval (t : Nanos) (cage : Fin 9) (s : State) : Host.Outcome State Fault Refusal :=
  actAny t (fun m => m.unplugCage cage.val) s

/-- EFUSE_TRIP (R275). -/
def execEfuseTrip (t : Nanos) (cage : Fin 9) (s : State) : Host.Outcome State Fault Refusal :=
  act t (fun m => m.tripCage cage.val) s

/-- DETECT_REPEAT (R266). -/
def execDetectRepeat (t : Nanos) (port : BringPort) (seen : List DetectObs) (s : State) : Host.Outcome State Fault Refusal :=
  act t (fun m => m.detect (unitOf port) seen) s

/-- AUTO_NEGOTIATION_RESOLVED (R265). -/
def execAutoNegotiationResolved (t : Nanos) (port : BringPort) (offer : AnOffer) (s : State) : Host.Outcome State Fault Refusal :=
  act t (fun m => m.negotiated (unitOf port) offer) s

/-- TRAINING_COMPLETE (R266). -/
def execTrainingComplete (t : Nanos) (port : BringPort) (snrs : List Int) (s : State) : Host.Outcome State Fault Refusal :=
  act t (fun m => m.trained (unitOf port) snrs) s

/-- LOCK_COMPLETE (R266). -/
def execLockComplete (t : Nanos) (port : BringPort) (obs : LockObs) (s : State) : Host.Outcome State Fault Refusal :=
  act t (fun m => m.locked (unitOf port) obs) s

/-- CAPABILITY_COMPLETE (R266). -/
def execCapabilityComplete (t : Nanos) (port : BringPort) (agreed : Bool) (s : State) : Host.Outcome State Fault Refusal :=
  act t (fun m => m.capable (unitOf port) agreed) s

/-- STAGE_LIMIT_EXPIRY (R266). -/
def execStageLimitExpiry (t : Nanos) (port : BringPort) (badLanes : List (Fin 38)) (s : State) :
    Host.Outcome State Fault Refusal :=
  act t (fun m => m.stageExpired (unitOf port) (badLanes.map fun l => l.val)) s

/-- LOSS_OF_LOCK (R269). -/
def execLossOfLock (t : Nanos) (port : BringPort) (badCodewords : Nat) (lane : Fin 38) (s : State) :
    Host.Outcome State Fault Refusal :=
  act t (fun m => m.lockLost (unitOf port) badCodewords lane.val) s

/-- FAST_RELOCK_COMPLETE (R269). -/
def execFastRelockComplete (t : Nanos) (port : BringPort) (ok : Bool) (lane : Fin 38) (s : State) :
    Host.Outcome State Fault Refusal :=
  act t (fun m => m.relocked (unitOf port) ok lane.val) s

/-- RETRAIN_TRIGGER (R269). -/
def execRetrainTrigger (t : Nanos) (lane : Fin 38) (snr : Int) (s : State) : Host.Outcome State Fault Refusal :=
  act t (fun m => m.retrain lane.val snr) s

/-- FIGURE_OF_MERIT_LOW (R267). -/
def execFigureOfMeritLow (t : Nanos) (lane : Fin 38) (snr : Int) (s : State) : Host.Outcome State Fault Refusal :=
  act t (fun m => m.fomLow lane.val snr) s

/-- CHECKER_LOCK (R276). -/
def execCheckerLock (t : Nanos) (lane : Fin 38) (inverted : Bool) (errorFree : Nat) (s : State) :
    Host.Outcome State Fault Refusal :=
  act t (fun m => m.checkerLocks lane.val inverted errorFree) s

/-- BACKPLANE_LINK_CHANGE (R278). -/
def execBackplaneLinkChange (t : Nanos) (b : Fin 2) (up : Bool) (s : State) : Host.Outcome State Fault Refusal :=
  act t (fun m => m.backplaneLink b.val up) s

/-- SERVICE_PORT_LINK_CHANGE (R279). -/
def execServicePortLinkChange (t : Nanos) (link : ServiceLink) (s : State) : Host.Outcome State Fault Refusal :=
  act t (fun m => m.serviceLink link) s

end Sys2Proof.Machine
end

