-- ==== Sys2Proof/Machine/ExecTwin.lean ====
section
/-! DEFINITION. The meanings of the twin, its mortar link, the keystone lease and the witness (spec/12_twin_operation.md). Each meaning is the effect of one row of
spec/opcode_table.json on everything but the queue of commands. -/

namespace Sys2Proof.Machine

/-- MORTAR_IDLE (R217). -/
def execMortarIdle (t : Nanos) (hdr : MortarHdr) (s : State) : Host.Outcome State Fault Refusal :=
  act t (fun m => m.takeIdle hdr) s

/-- IDLE_SEND_TIMER (R217). -/
def execIdleSendTimer (t : Nanos) (s : State) : Host.Outcome State Fault Refusal :=
  act t (fun m => m.sendIdle) s

/-- MORTAR_HELLO (R220). -/
def execMortarHello (t : Nanos) (hdr : MortarHdr) (hello : HelloBody) (s : State) : Host.Outcome State Fault Refusal :=
  act t (fun m => m.takeHello hdr hello) s

/-- HELLO_TIMER (R220). -/
def execHelloTimer (t : Nanos) (s : State) : Host.Outcome State Fault Refusal :=
  act t (fun m => m.helloTimer) s

/-- STATUS_TIMER (R217). -/
def execStatusTimer (t : Nanos) (s : State) : Host.Outcome State Fault Refusal :=
  act t (fun m => m.sendStatus) s

/-- MORTAR_NAK (R218). -/
def execMortarNak (t : Nanos) (hdr : MortarHdr) (vc : Fin 4) (expected : Nat) (s : State) : Host.Outcome State Fault Refusal :=
  act t (fun m => m.takeNak hdr vc.val expected) s

/-- MORTAR_STATUS (R224). -/
def execMortarStatus (t : Nanos) (hdr : MortarHdr) (st : StatusBody) (s : State) : Host.Outcome State Fault Refusal :=
  act t (fun m => m.takeStatus hdr st) s

/-- COURSE_RECORDS (R222). -/
def execCourseRecords (t : Nanos) (hdr : MortarHdr) (recs : List CourseRecord) (s : State) : Host.Outcome State Fault Refusal :=
  act t (fun m => m.takeRecords hdr recs) s

/-- REPAIR_DATA (R225). -/
def execRepairData (t : Nanos) (hdr : MortarHdr) (rep : RepairBody) (s : State) : Host.Outcome State Fault Refusal :=
  act t (fun m => m.takeRepair hdr rep) s

/-- COUNTERSIGN_REQUEST (R235). -/
def execCountersignRequest (t : Nanos) (hdr : MortarHdr) (term : Nat) (req : Nat) (s : State) :
    Host.Outcome State Fault Refusal :=
  act t (fun m => m.takeCountersignRequest hdr term req) s

/-- COUNTERSIGN (R235). -/
def execCountersign (t : Nanos) (hdr : MortarHdr) (term : Nat) (req : Nat) (_lease : Nat) (s : State) :
    Host.Outcome State Fault Refusal :=
  act t (fun m => m.takeCountersign hdr term req) s

/-- HANDOVER (R241). -/
def execHandover (t : Nanos) (hdr : MortarHdr) (boundary : Nat) (withRestart : Bool) (s : State) :
    Host.Outcome State Fault Refusal :=
  act t (fun m => m.takeHandover hdr boundary withRestart) s

/-- HANDOVER_ACCEPT (R241). -/
def execHandoverAccept (t : Nanos) (hdr : MortarHdr) (boundary : Nat) (s : State) : Host.Outcome State Fault Refusal :=
  actE t (fun e m => m.takeAccept e.epoch hdr boundary) s

/-- PLACEMENT (R229). -/
def execPlacement (t : Nanos) (hdr : MortarHdr) (pl : PlacementBody) (s : State) : Host.Outcome State Fault Refusal :=
  act t (fun m => m.takePlacement hdr pl) s

/-- LINK_SILENT (R219). -/
def execLinkSilent (t : Nanos) (s : State) : Host.Outcome State Fault Refusal :=
  act t (fun m => m.linkSilent) s

/-- LINK_DOWN (R219). -/
def execLinkDown (t : Nanos) (s : State) : Host.Outcome State Fault Refusal :=
  act t (fun m => m.linkLost) s

/-- COURSE_RECORD_CLOSE (R221). -/
def execCourseRecordClose (t : Nanos) (r : Fin 128) (s : State) : Host.Outcome State Fault Refusal :=
  act t (fun m => m.closeRecord r.val) s

/-- RECORD_MISSING (R223). -/
def execRecordMissing (t : Nanos) (r : Fin 128) (tick : Nat) (s : State) : Host.Outcome State Fault Refusal :=
  act t (fun m => m.recordMissing r.val tick) s

/-- ELIGIBILITY_HOLD_EXPIRY (R223). -/
def execEligibilityHoldExpiry (t : Nanos) (s : State) : Host.Outcome State Fault Refusal :=
  act t (fun m => m.holdExpired) s

/-- RENEW_TIMER (R235). -/
def execRenewTimer (t : Nanos) (s : State) : Host.Outcome State Fault Refusal :=
  actE t (fun e m => m.renewLease e.epoch) s

/-- COUNTERSIGN_REQUEST_TIMER (R235). -/
def execCountersignRequestTimer (t : Nanos) (s : State) : Host.Outcome State Fault Refusal :=
  actE t (fun e m => m.askPartner e.epoch) s

/-- ACQUIRE_TIMER (R236). -/
def execAcquireTimer (t : Nanos) (s : State) : Host.Outcome State Fault Refusal :=
  actE t (fun e m => m.acquireLease e.epoch) s

/-- PROBE_TIMER (R231). -/
def execProbeTimer (t : Nanos) (s : State) : Host.Outcome State Fault Refusal :=
  actE t (fun e m => m.probe e.epoch) s

/-- WITNESS_UNREACHABLE (R231). -/
def execWitnessUnreachable (t : Nanos) (w : Fin 3) (s : State) : Host.Outcome State Fault Refusal :=
  act t (fun m => m.witnessLost w.val) s

/-- LEASE_FENCE (R237). -/
def execLeaseFence (t : Nanos) (s : State) : Host.Outcome State Fault Refusal :=
  act t (fun m => m.leaseFence) s

/-- GRANT (R236). -/
def execGrant (t : Nanos) (w : Fin 3) (msg : KMsg) (s : State) : Host.Outcome State Fault Refusal :=
  act t (fun m => m.takeGrant w.val msg) s

/-- REFUSE (R234). -/
def execRefuse (t : Nanos) (w : Fin 3) (msg : KMsg) (s : State) : Host.Outcome State Fault Refusal :=
  act t (fun m => m.takeRefuse w.val msg) s

/-- RELEASED (R241). -/
def execReleased (t : Nanos) (w : Fin 3) (msg : KMsg) (s : State) : Host.Outcome State Fault Refusal :=
  act t (fun m => m.takeReleased w.val msg) s

/-- PROBE_ACK (R231). -/
def execProbeAck (t : Nanos) (w : Fin 3) (msg : KMsg) (s : State) : Host.Outcome State Fault Refusal :=
  act t (fun m => m.takeProbeAck w.val msg) s

/-- RENEW (R232). -/
def execRenew (t : Nanos) (msg : KMsg) (s : State) : Host.Outcome State Fault Refusal :=
  act t (fun m => m.witnessRenew msg) s

/-- ACQUIRE (R232). -/
def execAcquire (t : Nanos) (msg : KMsg) (s : State) : Host.Outcome State Fault Refusal :=
  act t (fun m => m.witnessAcquire msg) s

/-- RELEASE (R232). -/
def execRelease (t : Nanos) (msg : KMsg) (s : State) : Host.Outcome State Fault Refusal :=
  act t (fun m => m.witnessRelease msg) s

/-- PROBE (R231). -/
def execProbe (t : Nanos) (msg : KMsg) (s : State) : Host.Outcome State Fault Refusal :=
  act t (fun m => m.witnessProbe msg) s

/-- WITNESS_DEADLINE (R232). -/
def execWitnessDeadline (t : Nanos) (slot : Fin 64) (s : State) : Host.Outcome State Fault Refusal :=
  act t (fun m => m.witnessDeadline slot.val) s

/-- WITNESS_RESTART_HOLD_END (R233). -/
def execWitnessRestartHoldEnd (t : Nanos) (s : State) : Host.Outcome State Fault Refusal :=
  act t (fun m => m.restartHoldEnd) s

/-- HANDOVER_BOUNDARY (R241). -/
def execHandoverBoundary (t : Nanos) (s : State) : Host.Outcome State Fault Refusal :=
  actE t (fun e m => m.handoverBoundary e.epoch) s

/-- RELEASE_POINT (R241). -/
def execReleasePoint (t : Nanos) (s : State) : Host.Outcome State Fault Refusal :=
  act t (fun m => m.releasePoint) s

/-- OUTPUT_PORTS_DOWN (R242). -/
def execOutputPortsDown (t : Nanos) (s : State) : Host.Outcome State Fault Refusal :=
  act t (fun m => m.portsDownHandover) s

/-- KOMUND_MESSAGE_DISCARDED (R231). -/
def execKomundMessageDiscarded (t : Nanos) (msg : KMsg) (s : State) : Host.Outcome State Fault Refusal :=
  act t (fun m => m.komundDiscarded msg) s

end Sys2Proof.Machine
end

