-- ==== Sys2Proof/Machine/ExecWrites.lean ====
section
/-! DEFINITION. The meanings of the named writes: each is a WRITE of its object (R310), with the checks and the effect of that object. Each meaning is the effect of one row of
spec/opcode_table.json on everything but the queue of commands. -/

namespace Sys2Proof.Machine

/-- A WRITE of one object (R310). -/
def writeOf (t : Nanos) (f : Frame) (idx sub : Nat) (value : Octets) (s : State) : Host.Outcome State Fault Refusal :=
  preudAct t (fun e m => m.request e f (.write idx sub false value)) s

/-- STEP_COMMAND (R34). -/
def execStepCommand (t : Nanos) (f : Frame) (s : State) : Host.Outcome State Fault Refusal :=
  Sys2Proof.Machine.writeOf t f (0x1433) (0) ([1]) s

/-- VENEER_COMMIT_COMMAND (R69). -/
def execVeneerCommitCommand (t : Nanos) (f : Frame) (n : Fin 32) (s : State) : Host.Outcome State Fault Refusal :=
  Sys2Proof.Machine.writeOf t f (0x4900 + n.val) (1) ([1]) s

/-- VENEER_COMMIT_CANCEL (R69). -/
def execVeneerCommitCancel (t : Nanos) (f : Frame) (n : Fin 32) (s : State) : Host.Outcome State Fault Refusal :=
  Sys2Proof.Machine.writeOf t f (0x4900 + n.val) (1) ([2]) s

/-- CLIP_START (R189). -/
def execClipStart (t : Nanos) (f : Frame) (slot : Fin 16) (s : State) : Host.Outcome State Fault Refusal :=
  Sys2Proof.Machine.writeOf t f (0x6200 + slot.val) (1) ([1]) s

/-- CLIP_STOP (R192). -/
def execClipStop (t : Nanos) (f : Frame) (slot : Fin 16) (s : State) : Host.Outcome State Fault Refusal :=
  Sys2Proof.Machine.writeOf t f (0x6200 + slot.val) (1) ([2]) s

/-- CLIP_CLEAR (R192). -/
def execClipClear (t : Nanos) (f : Frame) (slot : Fin 16) (s : State) : Host.Outcome State Fault Refusal :=
  Sys2Proof.Machine.writeOf t f (0x6200 + slot.val) (1) ([0]) s

/-- HANDOVER_PLAIN (R241). -/
def execHandoverPlain (t : Nanos) (f : Frame) (s : State) : Host.Outcome State Fault Refusal :=
  Sys2Proof.Machine.writeOf t f (0x7010) (0) ([1]) s

/-- HANDOVER_WITH_RESTART (R241). -/
def execHandoverWithRestart (t : Nanos) (f : Frame) (s : State) : Host.Outcome State Fault Refusal :=
  Sys2Proof.Machine.writeOf t f (0x7010) (0) ([2]) s

/-- RETEST (R273). -/
def execRetest (t : Nanos) (f : Frame) (cage : Fin 9) (s : State) : Host.Outcome State Fault Refusal :=
  Sys2Proof.Machine.writeOf t f (0x2400 + cage.val) (0x0A) ([1]) s

/-- CAGE_POWER_RESET (R275). -/
def execCagePowerReset (t : Nanos) (f : Frame) (cage : Fin 9) (s : State) : Host.Outcome State Fault Refusal :=
  Sys2Proof.Machine.writeOf t f (0x2400 + cage.val) (0x0B) ([1]) s

/-- INJECT_ONE_ERROR (R277). -/
def execInjectOneError (t : Nanos) (f : Frame) (lane : Fin 38) (s : State) : Host.Outcome State Fault Refusal :=
  Sys2Proof.Machine.writeOf t f (0x2500 + lane.val) (3) ([1]) s

/-- INJECTION_INTERVAL (R277). -/
def execInjectionInterval (t : Nanos) (f : Frame) (lane : Fin 38) (k : Nat) (s : State) : Host.Outcome State Fault Refusal :=
  Sys2Proof.Machine.writeOf t f (0x2500 + lane.val) (4) (beOctets 1 k) s

/-- FREQUENCY_COUNTER_START (R292). -/
def execFrequencyCounterStart (t : Nanos) (f : Frame) (s : State) : Host.Outcome State Fault Refusal :=
  Sys2Proof.Machine.writeOf t f (0x1840) (4) ([1]) s

/-- CALIBRATE (R293). -/
def execCalibrate (t : Nanos) (f : Frame) (domain : Nat) (s : State) : Host.Outcome State Fault Refusal :=
  Sys2Proof.Machine.writeOf t f (0x1C01) (0) (beOctets 1 domain) s

/-- BUILT_IN_TEST_START (R371). -/
def execBuiltInTestStart (t : Nanos) (f : Frame) (s : State) : Host.Outcome State Fault Refusal :=
  Sys2Proof.Machine.writeOf t f (0x7500) (3) ([1]) s

/-- BUILT_IN_TEST_ABORT (R371). -/
def execBuiltInTestAbort (t : Nanos) (f : Frame) (s : State) : Host.Outcome State Fault Refusal :=
  Sys2Proof.Machine.writeOf t f (0x7500) (8) ([1]) s

/-- IMAGE_SAVE (R322). -/
def execImageSave (t : Nanos) (f : Frame) (image : Nat) (s : State) : Host.Outcome State Fault Refusal :=
  Sys2Proof.Machine.writeOf t f (0x1180) (2) (beOctets 1 image) s

/-- IMAGE_LOAD (R322). -/
def execImageLoad (t : Nanos) (f : Frame) (image : Nat) (s : State) : Host.Outcome State Fault Refusal :=
  Sys2Proof.Machine.writeOf t f (0x1180) (3) (beOctets 1 image) s

/-- IMAGE_ERASE (R322). -/
def execImageErase (t : Nanos) (f : Frame) (image : Nat) (s : State) : Host.Outcome State Fault Refusal :=
  Sys2Proof.Machine.writeOf t f (0x1180) (4) (beOctets 1 image) s

/-- RESET_COMMAND (R336). -/
def execResetCommand (t : Nanos) (f : Frame) (s : State) : Host.Outcome State Fault Refusal :=
  Sys2Proof.Machine.writeOf t f (0x1030) (1) ([1]) s

/-- FORCED_RESET (R336). -/
def execForcedReset (t : Nanos) (f : Frame) (s : State) : Host.Outcome State Fault Refusal :=
  Sys2Proof.Machine.writeOf t f (0x1030) (1) ([2]) s

/-- ACTIVATE_TRIAL (R339). -/
def execActivateTrial (t : Nanos) (f : Frame) (s : State) : Host.Outcome State Fault Refusal :=
  Sys2Proof.Machine.writeOf t f (0x1210) (2) ([1]) s

/-- CONFIRM_TRIAL (R339). -/
def execConfirmTrial (t : Nanos) (f : Frame) (s : State) : Host.Outcome State Fault Refusal :=
  Sys2Proof.Machine.writeOf t f (0x1210) (3) ([1]) s

/-- ROLE_KEY_WRITE (R306). -/
def execRoleKeyWrite (t : Nanos) (f : Frame) (role : Fin 4) (key : Octets) (s : State) : Host.Outcome State Fault Refusal :=
  Sys2Proof.Machine.writeOf t f (0x1110) (1 + role.val) (key) s

/-- KOMUND_KEY_WRITE (R231). -/
def execKomundKeyWrite (t : Nanos) (f : Frame) (slot : Option (Fin 64)) (key : Octets) (s : State) :
    Host.Outcome State Fault Refusal :=
  (match slot with
    | none => Sys2Proof.Machine.writeOf t f 0x7000 0x0C key s
    | some k => Sys2Proof.Machine.writeOf t f (0x7100 + k.val) 6 key s)

/-- MODULE_ROLE_WRITE (R384). -/
def execModuleRoleWrite (t : Nanos) (f : Frame) (value : Nat) (s : State) : Host.Outcome State Fault Refusal :=
  Sys2Proof.Machine.writeOf t f (0x1020) (0) (beOctets 1 value) s

/-- ADDRESSING_WRITE (R300). -/
def execAddressingWrite (t : Nanos) (f : Frame) (sub : Nat) (value : Octets) (s : State) : Host.Outcome State Fault Refusal :=
  Sys2Proof.Machine.writeOf t f (0x1100) (sub) (value) s

/-- SERVICE_PORT_ENABLE (R279). -/
def execServicePortEnable (t : Nanos) (f : Frame) (value : Nat) (s : State) : Host.Outcome State Fault Refusal :=
  Sys2Proof.Machine.writeOf t f (0x2610) (1) (beOctets 1 value) s

/-- FLOW_ENTRY_ENABLE (R199). -/
def execFlowEntryEnable (t : Nanos) (f : Frame) (s : State) : Host.Outcome State Fault Refusal :=
  Sys2Proof.Machine.writeOf t f (0x3010) (2) ([1]) s

/-- FLOW_ENTRY_DISABLE (R200). -/
def execFlowEntryDisable (t : Nanos) (f : Frame) (s : State) : Host.Outcome State Fault Refusal :=
  Sys2Proof.Machine.writeOf t f (0x3010) (2) ([0]) s

/-- LEG_MASK_WRITE (R201). -/
def execLegMaskWrite (t : Nanos) (f : Frame) (entry : Fin 32768) (mask : Nat) (s : State) : Host.Outcome State Fault Refusal :=
  Sys2Proof.Machine.writeOf t f (0x3100 + entry.val / 32) (1 + entry.val % 32) (beOctets 4 mask) s

/-- LED_TEST (R356). -/
def execLedTest (t : Nanos) (f : Frame) (s : State) : Host.Outcome State Fault Refusal :=
  Sys2Proof.Machine.writeOf t f (0x1010) (2) ([1]) s

/-- CLEAR_FLAGS (R395). -/
def execClearFlags (t : Nanos) (f : Frame) (s : State) : Host.Outcome State Fault Refusal :=
  Sys2Proof.Machine.writeOf t f (0x1830) (0) ([1]) s

/-- CHECK_RUNNING_VALUE_WRITE (R368). -/
def execCheckRunningValueWrite (t : Nanos) (f : Frame) (k : Fin 16) (value : Nat) (s : State) :
    Host.Outcome State Fault Refusal :=
  Sys2Proof.Machine.writeOf t f (0x7440 + k.val) (7) (beOctets 4 value) s

/-- CHECK_CHANNEL_ENABLE (R367). -/
def execCheckChannelEnable (t : Nanos) (f : Frame) (k : Fin 16) (s : State) : Host.Outcome State Fault Refusal :=
  Sys2Proof.Machine.writeOf t f (0x7440 + k.val) (0x0A) ([1]) s

/-- BACKPLANE_GENERATOR_WRITE (R388). -/
def execBackplaneGeneratorWrite (t : Nanos) (f : Frame) (b : Fin 2) (pattern : Nat) (s : State) :
    Host.Outcome State Fault Refusal :=
  Sys2Proof.Machine.writeOf t f (0x2524 + b.val) (1) (beOctets 1 pattern) s

/-- GROUP_RATE_WRITE (R143). -/
def execGroupRateWrite (t : Nanos) (f : Frame) (g : Fin 32) (rate : Nat) (s : State) : Host.Outcome State Fault Refusal :=
  Sys2Proof.Machine.writeOf t f (0x5600 + g.val) (1) (beOctets 4 rate) s

/-- WITNESS_SLOT_ENABLE (R233). -/
def execWitnessSlotEnable (t : Nanos) (f : Frame) (slot : Fin 64) (s : State) : Host.Outcome State Fault Refusal :=
  Sys2Proof.Machine.writeOf t f (0x7100 + slot.val) (1) ([1]) s

/-- OTHER_OBJECT_WRITE (R4). -/
def execOtherObjectWrite (t : Nanos) (f : Frame) (idx : Nat) (sub : Nat) (value : Octets) (s : State) :
    Host.Outcome State Fault Refusal :=
  Sys2Proof.Machine.writeOf t f (idx) (sub) (value) s

/-- INGEST_RESET_STATISTICS (R382). -/
def execIngestResetStatistics (t : Nanos) (f : Frame) (mask : Nat) (s : State) : Host.Outcome State Fault Refusal :=
  Sys2Proof.Machine.writeOf t f (0x4201) (0) (beOctets 4 mask) s

/-- COMPOSITION_RESET_STATISTICS (R382). -/
def execCompositionResetStatistics (t : Nanos) (f : Frame) (mask : Nat) (s : State) : Host.Outcome State Fault Refusal :=
  Sys2Proof.Machine.writeOf t f (0x4F00) (0) (beOctets 4 mask) s

/-- ENCODE_RESET_STATISTICS (R382). -/
def execEncodeResetStatistics (t : Nanos) (f : Frame) (value : Nat) (s : State) : Host.Outcome State Fault Refusal :=
  Sys2Proof.Machine.writeOf t f (0x5251) (0) (beOctets 1 value) s

/-- REFRESH_RESET_COUNTERS (R382). -/
def execRefreshResetCounters (t : Nanos) (f : Frame) (r : Fin 128) (s : State) : Host.Outcome State Fault Refusal :=
  Sys2Proof.Machine.writeOf t f (0x5380 + r.val) (0x0A) ([1]) s

/-- RATE_CONTROL_RESET_STATISTICS (R382). -/
def execRateControlResetStatistics (t : Nanos) (f : Frame) (value : Nat) (s : State) : Host.Outcome State Fault Refusal :=
  Sys2Proof.Machine.writeOf t f (0x5680) (0) (beOctets 1 value) s

/-- OUTPUT_RESET_STATISTICS (R382). -/
def execOutputResetStatistics (t : Nanos) (f : Frame) (value : Nat) (s : State) : Host.Outcome State Fault Refusal :=
  Sys2Proof.Machine.writeOf t f (0x5A10) (0) (beOctets 1 value) s

/-- DECODE_RESET_STATISTICS (R382). -/
def execDecodeResetStatistics (t : Nanos) (f : Frame) (value : Nat) (s : State) : Host.Outcome State Fault Refusal :=
  Sys2Proof.Machine.writeOf t f (0x5D10) (0) (beOctets 1 value) s

/-- REPLAY_RESET_STATISTICS (R382). -/
def execReplayResetStatistics (t : Nanos) (f : Frame) (value : Nat) (s : State) : Host.Outcome State Fault Refusal :=
  Sys2Proof.Machine.writeOf t f (0x6300) (0) (beOctets 1 value) s

/-- FLOW_RESET_STATISTICS (R382). -/
def execFlowResetStatistics (t : Nanos) (f : Frame) (value : Nat) (s : State) : Host.Outcome State Fault Refusal :=
  Sys2Proof.Machine.writeOf t f (0x3600) (0) (beOctets 2 value) s

/-- PORT_QUEUE_RESET_STATISTICS (R382). -/
def execPortQueueResetStatistics (t : Nanos) (f : Frame) (value : Nat) (s : State) : Host.Outcome State Fault Refusal :=
  Sys2Proof.Machine.writeOf t f (0x3A10) (0) (beOctets 1 value) s

/-- HARDWARE_RESET_STATISTICS (R395). -/
def execHardwareResetStatistics (t : Nanos) (f : Frame) (s : State) : Host.Outcome State Fault Refusal :=
  Sys2Proof.Machine.writeOf t f (0x1D80) (0) ([1]) s

/-- MEMORY_RESET_STATISTICS (R395). -/
def execMemoryResetStatistics (t : Nanos) (f : Frame) (value : Nat) (s : State) : Host.Outcome State Fault Refusal :=
  Sys2Proof.Machine.writeOf t f (0x21C0) (0) (beOctets 1 value) s

/-- LANE_RESET_STATISTICS (R395). -/
def execLaneResetStatistics (t : Nanos) (f : Frame) (value : Nat) (s : State) : Host.Outcome State Fault Refusal :=
  Sys2Proof.Machine.writeOf t f (0x2700) (0) (beOctets 1 value) s

/-- SETT_RESET_STATISTICS (R395). -/
def execSettResetStatistics (t : Nanos) (f : Frame) (value : Nat) (s : State) : Host.Outcome State Fault Refusal :=
  Sys2Proof.Machine.writeOf t f (0x2910) (0) (beOctets 1 value) s

/-- TWIN_RESET_STATISTICS (R395). -/
def execTwinResetStatistics (t : Nanos) (f : Frame) (s : State) : Host.Outcome State Fault Refusal :=
  Sys2Proof.Machine.writeOf t f (0x7081) (0) ([1]) s

/-- EVENT_RESET_STATISTICS (R395). -/
def execEventResetStatistics (t : Nanos) (f : Frame) (s : State) : Host.Outcome State Fault Refusal :=
  Sys2Proof.Machine.writeOf t f (0x7420) (0) ([1]) s

end Sys2Proof.Machine
end

