-- ==== Sys2Proof/Machine/Dispatch.lean ====
section
/-! DEFINITION. The dispatch of commands to their meanings: one arm per row of spec/opcode_table.json. -/

namespace Sys2Proof.Machine

/-- What a command does to everything but the queue of commands. -/
def exec (i : Instr) (s : State) : Host.Outcome State Fault Refusal :=
  match i with
  | .hello t f role cnonce => Sys2Proof.Machine.execHello t f role cnonce s
  | .openReq t f mnonce => Sys2Proof.Machine.execOpenReq t f mnonce s
  | .close t f => Sys2Proof.Machine.execClose t f s
  | .keepalive t f => Sys2Proof.Machine.execKeepalive t f s
  | .read t f items => Sys2Proof.Machine.execRead t f items s
  | .write t f idx sub staged value => Sys2Proof.Machine.execWrite t f idx sub staged value s
  | .timedWrite t f idx sub at_ value => Sys2Proof.Machine.execTimedWrite t f idx sub at_ value s
  | .cancelTimed t f target sub kind applyTick => Sys2Proof.Machine.execCancelTimed t f target sub kind applyTick s
  | .listTimed t f first => Sys2Proof.Machine.execListTimed t f first s
  | .functionStart t f fid timed => Sys2Proof.Machine.execFunctionStart t f fid timed s
  | .functionStop t f fid timed => Sys2Proof.Machine.execFunctionStop t f fid timed s
  | .functionRestart t f fid timed => Sys2Proof.Machine.execFunctionRestart t f fid timed s
  | .openChangeSet t f fid => Sys2Proof.Machine.execOpenChangeSet t f fid s
  | .discardChangeSet t f fid => Sys2Proof.Machine.execDiscardChangeSet t f fid s
  | .subscribe t f mask severity start => Sys2Proof.Machine.execSubscribe t f mask severity start s
  | .eventAck t f first => Sys2Proof.Machine.execEventAck t f first s
  | .bulkBegin t f idx sub wr staged length crc => Sys2Proof.Machine.execBulkBegin t f idx sub wr staged length crc s
  | .bulkData t f tid offset len data => Sys2Proof.Machine.execBulkData t f tid offset len data s
  | .bulkEnd t f tid => Sys2Proof.Machine.execBulkEnd t f tid s
  | .bulkAbort t f tid => Sys2Proof.Machine.execBulkAbort t f tid s
  | .malformedDatagram t route kind => Sys2Proof.Machine.execMalformedDatagram t route kind s
  | .challengeExpiry t sid => Sys2Proof.Machine.execChallengeExpiry t sid s
  | .sessionIdleExpiry t sid => Sys2Proof.Machine.execSessionIdleExpiry t sid s
  | .sequenceGapExpiry t sid => Sys2Proof.Machine.execSequenceGapExpiry t sid s
  | .eventResend t sid first => Sys2Proof.Machine.execEventResend t sid first s
  | .bulkIdleAbort t tid => Sys2Proof.Machine.execBulkIdleAbort t tid s
  | .stepCommand t f => Sys2Proof.Machine.execStepCommand t f s
  | .veneerCommitCommand t f n => Sys2Proof.Machine.execVeneerCommitCommand t f n s
  | .veneerCommitCancel t f n => Sys2Proof.Machine.execVeneerCommitCancel t f n s
  | .clipStart t f slot => Sys2Proof.Machine.execClipStart t f slot s
  | .clipStop t f slot => Sys2Proof.Machine.execClipStop t f slot s
  | .clipClear t f slot => Sys2Proof.Machine.execClipClear t f slot s
  | .handoverPlain t f => Sys2Proof.Machine.execHandoverPlain t f s
  | .handoverWithRestart t f => Sys2Proof.Machine.execHandoverWithRestart t f s
  | .retest t f cage => Sys2Proof.Machine.execRetest t f cage s
  | .cagePowerReset t f cage => Sys2Proof.Machine.execCagePowerReset t f cage s
  | .injectOneError t f lane => Sys2Proof.Machine.execInjectOneError t f lane s
  | .injectionInterval t f lane k => Sys2Proof.Machine.execInjectionInterval t f lane k s
  | .frequencyCounterStart t f => Sys2Proof.Machine.execFrequencyCounterStart t f s
  | .calibrate t f domain => Sys2Proof.Machine.execCalibrate t f domain s
  | .builtInTestStart t f => Sys2Proof.Machine.execBuiltInTestStart t f s
  | .builtInTestAbort t f => Sys2Proof.Machine.execBuiltInTestAbort t f s
  | .imageSave t f image => Sys2Proof.Machine.execImageSave t f image s
  | .imageLoad t f image => Sys2Proof.Machine.execImageLoad t f image s
  | .imageErase t f image => Sys2Proof.Machine.execImageErase t f image s
  | .resetCommand t f => Sys2Proof.Machine.execResetCommand t f s
  | .forcedReset t f => Sys2Proof.Machine.execForcedReset t f s
  | .activateTrial t f => Sys2Proof.Machine.execActivateTrial t f s
  | .confirmTrial t f => Sys2Proof.Machine.execConfirmTrial t f s
  | .roleKeyWrite t f role key => Sys2Proof.Machine.execRoleKeyWrite t f role key s
  | .komundKeyWrite t f slot key => Sys2Proof.Machine.execKomundKeyWrite t f slot key s
  | .moduleRoleWrite t f value => Sys2Proof.Machine.execModuleRoleWrite t f value s
  | .addressingWrite t f sub value => Sys2Proof.Machine.execAddressingWrite t f sub value s
  | .servicePortEnable t f value => Sys2Proof.Machine.execServicePortEnable t f value s
  | .flowEntryEnable t f => Sys2Proof.Machine.execFlowEntryEnable t f s
  | .flowEntryDisable t f => Sys2Proof.Machine.execFlowEntryDisable t f s
  | .legMaskWrite t f entry mask => Sys2Proof.Machine.execLegMaskWrite t f entry mask s
  | .ledTest t f => Sys2Proof.Machine.execLedTest t f s
  | .clearFlags t f => Sys2Proof.Machine.execClearFlags t f s
  | .checkRunningValueWrite t f k value => Sys2Proof.Machine.execCheckRunningValueWrite t f k value s
  | .checkChannelEnable t f k => Sys2Proof.Machine.execCheckChannelEnable t f k s
  | .backplaneGeneratorWrite t f b pattern => Sys2Proof.Machine.execBackplaneGeneratorWrite t f b pattern s
  | .groupRateWrite t f g rate => Sys2Proof.Machine.execGroupRateWrite t f g rate s
  | .witnessSlotEnable t f slot => Sys2Proof.Machine.execWitnessSlotEnable t f slot s
  | .otherObjectWrite t f idx sub value => Sys2Proof.Machine.execOtherObjectWrite t f idx sub value s
  | .ingestResetStatistics t f mask => Sys2Proof.Machine.execIngestResetStatistics t f mask s
  | .compositionResetStatistics t f mask => Sys2Proof.Machine.execCompositionResetStatistics t f mask s
  | .encodeResetStatistics t f value => Sys2Proof.Machine.execEncodeResetStatistics t f value s
  | .refreshResetCounters t f r => Sys2Proof.Machine.execRefreshResetCounters t f r s
  | .rateControlResetStatistics t f value => Sys2Proof.Machine.execRateControlResetStatistics t f value s
  | .outputResetStatistics t f value => Sys2Proof.Machine.execOutputResetStatistics t f value s
  | .decodeResetStatistics t f value => Sys2Proof.Machine.execDecodeResetStatistics t f value s
  | .replayResetStatistics t f value => Sys2Proof.Machine.execReplayResetStatistics t f value s
  | .flowResetStatistics t f value => Sys2Proof.Machine.execFlowResetStatistics t f value s
  | .portQueueResetStatistics t f value => Sys2Proof.Machine.execPortQueueResetStatistics t f value s
  | .hardwareResetStatistics t f => Sys2Proof.Machine.execHardwareResetStatistics t f s
  | .memoryResetStatistics t f value => Sys2Proof.Machine.execMemoryResetStatistics t f value s
  | .laneResetStatistics t f value => Sys2Proof.Machine.execLaneResetStatistics t f value s
  | .settResetStatistics t f value => Sys2Proof.Machine.execSettResetStatistics t f value s
  | .twinResetStatistics t f => Sys2Proof.Machine.execTwinResetStatistics t f s
  | .eventResetStatistics t f => Sys2Proof.Machine.execEventResetStatistics t f s
  | .baseTickEdge => Sys2Proof.Machine.execBaseTickEdge s
  | .timedLaunchApply t kind target sub applyTick => Sys2Proof.Machine.execTimedLaunchApply t kind target sub applyTick s
  | .veneerCommitAbandon t n => Sys2Proof.Machine.execVeneerCommitAbandon t n s
  | .stoppingEnd t fid => Sys2Proof.Machine.execStoppingEnd t fid s
  | .holdLimitReached t n => Sys2Proof.Machine.execHoldLimitReached t n s
  | .lateCtuCutoff t pipe lane => Sys2Proof.Machine.execLateCtuCutoff t pipe lane s
  | .ctuComplete t pipe lane r tile => Sys2Proof.Machine.execCtuComplete t pipe lane r tile s
  | .videoPacket t target path pkt => Sys2Proof.Machine.execVideoPacket t target path pkt s
  | .pathTimeout t target path => Sys2Proof.Machine.execPathTimeout t target path s
  | .audioPacket t n flow path pkt => Sys2Proof.Machine.execAudioPacket t n flow path pkt s
  | .audioFlowLoss t n flow => Sys2Proof.Machine.execAudioFlowLoss t n flow s
  | .audioFlowRestore t n flow => Sys2Proof.Machine.execAudioFlowRestore t n flow s
  | .ancPacket t n flow path pkt => Sys2Proof.Machine.execAncPacket t n flow path pkt s
  | .ancFlowLoss t n flow => Sys2Proof.Machine.execAncFlowLoss t n flow s
  | .datagramLaunch t src => Sys2Proof.Machine.execDatagramLaunch t src s
  | .lateDatagram t src => Sys2Proof.Machine.execLateDatagram t src s
  | .egressFrameBoundary t port => Sys2Proof.Machine.execEgressFrameBoundary t port s
  | .decodeDatagram t e path dg => Sys2Proof.Machine.execDecodeDatagram t e path dg s
  | .decodeLoss t e => Sys2Proof.Machine.execDecodeLoss t e s
  | .decodeStart t e => Sys2Proof.Machine.execDecodeStart t e s
  | .decodeEnd t e => Sys2Proof.Machine.execDecodeEnd t e s
  | .presentationTick t e => Sys2Proof.Machine.execPresentationTick t e s
  | .decodeOutputPacket t e => Sys2Proof.Machine.execDecodeOutputPacket t e s
  | .frameReceived t port fr => Sys2Proof.Machine.execFrameReceived t port fr s
  | .igmpMldReport t port rep => Sys2Proof.Machine.execIgmpMldReport t port rep s
  | .igmpMldQuery t port q => Sys2Proof.Machine.execIgmpMldQuery t port q s
  | .queryIntervalExpiry t => Sys2Proof.Machine.execQueryIntervalExpiry t s
  | .queueSample t => Sys2Proof.Machine.execQueueSample t s
  | .sampleWindowEnd t => Sys2Proof.Machine.execSampleWindowEnd t s
  | .ptpMessage t port msg => Sys2Proof.Machine.execPtpMessage t port msg s
  | .servoLocked t => Sys2Proof.Machine.execServoLocked t s
  | .announceReceiptTimeout t => Sys2Proof.Machine.execAnnounceReceiptTimeout t s
  | .holdoverLimit t => Sys2Proof.Machine.execHoldoverLimit t s
  | .ptpMasterSend t port announce => Sys2Proof.Machine.execPtpMasterSend t port announce s
  | .ppsOutPulse t => Sys2Proof.Machine.execPpsOutPulse t s
  | .ppsInEdge t => Sys2Proof.Machine.execPpsInEdge t s
  | .ppsInAbsent t => Sys2Proof.Machine.execPpsInAbsent t s
  | .mortarIdle t hdr => Sys2Proof.Machine.execMortarIdle t hdr s
  | .idleSendTimer t => Sys2Proof.Machine.execIdleSendTimer t s
  | .mortarHello t hdr hello => Sys2Proof.Machine.execMortarHello t hdr hello s
  | .helloTimer t => Sys2Proof.Machine.execHelloTimer t s
  | .statusTimer t => Sys2Proof.Machine.execStatusTimer t s
  | .mortarNak t hdr vc expected => Sys2Proof.Machine.execMortarNak t hdr vc expected s
  | .mortarStatus t hdr st => Sys2Proof.Machine.execMortarStatus t hdr st s
  | .courseRecords t hdr recs => Sys2Proof.Machine.execCourseRecords t hdr recs s
  | .repairData t hdr rep => Sys2Proof.Machine.execRepairData t hdr rep s
  | .countersignRequest t hdr term req => Sys2Proof.Machine.execCountersignRequest t hdr term req s
  | .countersign t hdr term req lease => Sys2Proof.Machine.execCountersign t hdr term req lease s
  | .handover t hdr boundary withRestart => Sys2Proof.Machine.execHandover t hdr boundary withRestart s
  | .handoverAccept t hdr boundary => Sys2Proof.Machine.execHandoverAccept t hdr boundary s
  | .placement t hdr pl => Sys2Proof.Machine.execPlacement t hdr pl s
  | .linkSilent t => Sys2Proof.Machine.execLinkSilent t s
  | .linkDown t => Sys2Proof.Machine.execLinkDown t s
  | .courseRecordClose t r => Sys2Proof.Machine.execCourseRecordClose t r s
  | .recordMissing t r tick => Sys2Proof.Machine.execRecordMissing t r tick s
  | .eligibilityHoldExpiry t => Sys2Proof.Machine.execEligibilityHoldExpiry t s
  | .renewTimer t => Sys2Proof.Machine.execRenewTimer t s
  | .countersignRequestTimer t => Sys2Proof.Machine.execCountersignRequestTimer t s
  | .acquireTimer t => Sys2Proof.Machine.execAcquireTimer t s
  | .probeTimer t => Sys2Proof.Machine.execProbeTimer t s
  | .witnessUnreachable t w => Sys2Proof.Machine.execWitnessUnreachable t w s
  | .leaseFence t => Sys2Proof.Machine.execLeaseFence t s
  | .grant t w msg => Sys2Proof.Machine.execGrant t w msg s
  | .refuse t w msg => Sys2Proof.Machine.execRefuse t w msg s
  | .released t w msg => Sys2Proof.Machine.execReleased t w msg s
  | .probeAck t w msg => Sys2Proof.Machine.execProbeAck t w msg s
  | .renew t msg => Sys2Proof.Machine.execRenew t msg s
  | .acquire t msg => Sys2Proof.Machine.execAcquire t msg s
  | .release t msg => Sys2Proof.Machine.execRelease t msg s
  | .probe t msg => Sys2Proof.Machine.execProbe t msg s
  | .witnessDeadline t slot => Sys2Proof.Machine.execWitnessDeadline t slot s
  | .witnessRestartHoldEnd t => Sys2Proof.Machine.execWitnessRestartHoldEnd t s
  | .handoverBoundary t => Sys2Proof.Machine.execHandoverBoundary t s
  | .releasePoint t => Sys2Proof.Machine.execReleasePoint t s
  | .outputPortsDown t => Sys2Proof.Machine.execOutputPortsDown t s
  | .refreshDue t ch bank urgentWaiting => Sys2Proof.Machine.execRefreshDue t ch bank urgentWaiting s
  | .refreshForced t ch bank => Sys2Proof.Machine.execRefreshForced t ch bank s
  | .dimmTemperatureChange t ch temp => Sys2Proof.Machine.execDimmTemperatureChange t ch temp s
  | .dramCorrectableError t ch subch rank dev => Sys2Proof.Machine.execDramCorrectableError t ch subch rank dev s
  | .dramUncorrectableRead t ch port what => Sys2Proof.Machine.execDramUncorrectableRead t ch port what s
  | .patrolScrubPass t ch => Sys2Proof.Machine.execPatrolScrubPass t ch s
  | .dimmSupplyTrip t ch => Sys2Proof.Machine.execDimmSupplyTrip t ch s
  | .cageInsertion t cage => Sys2Proof.Machine.execCageInsertion t cage s
  | .cagePresenceStable t cage info => Sys2Proof.Machine.execCagePresenceStable t cage info s
  | .moduleReady t cage => Sys2Proof.Machine.execModuleReady t cage s
  | .moduleReadyTimeout t cage => Sys2Proof.Machine.execModuleReadyTimeout t cage s
  | .cageRemoval t cage => Sys2Proof.Machine.execCageRemoval t cage s
  | .efuseTrip t cage => Sys2Proof.Machine.execEfuseTrip t cage s
  | .detectRepeat t port seen => Sys2Proof.Machine.execDetectRepeat t port seen s
  | .autoNegotiationResolved t port offer => Sys2Proof.Machine.execAutoNegotiationResolved t port offer s
  | .trainingComplete t port snrs => Sys2Proof.Machine.execTrainingComplete t port snrs s
  | .lockComplete t port obs => Sys2Proof.Machine.execLockComplete t port obs s
  | .capabilityComplete t port agreed => Sys2Proof.Machine.execCapabilityComplete t port agreed s
  | .stageLimitExpiry t port badLanes => Sys2Proof.Machine.execStageLimitExpiry t port badLanes s
  | .lossOfLock t port badCodewords lane => Sys2Proof.Machine.execLossOfLock t port badCodewords lane s
  | .fastRelockComplete t port ok lane => Sys2Proof.Machine.execFastRelockComplete t port ok lane s
  | .retrainTrigger t lane snr => Sys2Proof.Machine.execRetrainTrigger t lane snr s
  | .figureOfMeritLow t lane snr => Sys2Proof.Machine.execFigureOfMeritLow t lane snr s
  | .checkerLock t lane inverted errorFree => Sys2Proof.Machine.execCheckerLock t lane inverted errorFree s
  | .backplaneLinkChange t b up => Sys2Proof.Machine.execBackplaneLinkChange t b up s
  | .servicePortLinkChange t link => Sys2Proof.Machine.execServicePortLinkChange t link s
  | .gateWindowEnd t clk count => Sys2Proof.Machine.execGateWindowEnd t clk count s
  | .clockStopDetected t src gapFio => Sys2Proof.Machine.execClockStopDetected t src gapFio s
  | .pllReferenceFailure t k lockLoss => Sys2Proof.Machine.execPllReferenceFailure t k lockLoss s
  | .forcedSwitchComplete t k => Sys2Proof.Machine.execForcedSwitchComplete t k s
  | .pllRelock t k => Sys2Proof.Machine.execPllRelock t k s
  | .accessTimeout t block addr initiator => Sys2Proof.Machine.execAccessTimeout t block addr initiator s
  | .frequencyCounterDone t count refStopped => Sys2Proof.Machine.execFrequencyCounterDone t count refStopped s
  | .temperatureSample t temps => Sys2Proof.Machine.execTemperatureSample t temps s
  | .calibrationRunStart t d => Sys2Proof.Machine.execCalibrationRunStart t d s
  | .calibrationRunComplete t d res => Sys2Proof.Machine.execCalibrationRunComplete t d res s
  | .powerOnSequence t boot => Sys2Proof.Machine.execPowerOnSequence t boot s
  | .powerStepTimeout t stp ch => Sys2Proof.Machine.execPowerStepTimeout t stp ch s
  | .xbOvenSettled t => Sys2Proof.Machine.execXbOvenSettled t s
  | .xbWarmupTimeout t => Sys2Proof.Machine.execXbWarmupTimeout t s
  | .chassisReset t lowNs boot => Sys2Proof.Machine.execChassisReset t lowNs boot s
  | .watchdogExpiry t cls => Sys2Proof.Machine.execWatchdogExpiry t cls s
  | .autoConfirmExpiry t => Sys2Proof.Machine.execAutoConfirmExpiry t s
  | .ejector t opened => Sys2Proof.Machine.execEjector t opened s
  | .i2cOffsetWrite t offset => Sys2Proof.Machine.execI2cOffsetWrite t offset s
  | .i2cRead t => Sys2Proof.Machine.execI2cRead t s
  | .liveFieldUpdate t => Sys2Proof.Machine.execLiveFieldUpdate t s
  | .feedStateChange t feed mv => Sys2Proof.Machine.execFeedStateChange t feed mv s
  | .internalShortLimit t feed => Sys2Proof.Machine.execInternalShortLimit t feed s
  | .holdUpCharged t => Sys2Proof.Machine.execHoldUpCharged t s
  | .inputDip t => Sys2Proof.Machine.execInputDip t s
  | .holdUpExpiry t => Sys2Proof.Machine.execHoldUpExpiry t s
  | .coolFail t asserted => Sys2Proof.Machine.execCoolFail t asserted s
  | .junctionSample t temp => Sys2Proof.Machine.execJunctionSample t temp s
  | .thermalStopEnd t => Sys2Proof.Machine.execThermalStopEnd t s
  | .opticTemperatureRead t cage temp highAlarm => Sys2Proof.Machine.execOpticTemperatureRead t cage temp highAlarm s
  | .heartbeatCheck t missed => Sys2Proof.Machine.execHeartbeatCheck t missed s
  | .settCoreTrap t core memory => Sys2Proof.Machine.execSettCoreTrap t core memory s
  | .builtInTestComplete t pass detail => Sys2Proof.Machine.execBuiltInTestComplete t pass detail s
  | .datagramQueued t r => Sys2Proof.Machine.execDatagramQueued t r s
  | .komundMessageDiscarded t msg => Sys2Proof.Machine.execKomundMessageDiscarded t msg s
  | .unknownOpcode t f opcode => Sys2Proof.Machine.execUnknownOpcode t f opcode s
  | .arpAndIcmpEcho t route msg => Sys2Proof.Machine.execArpAndIcmpEcho t route msg s
  | .delayReqSend t => Sys2Proof.Machine.execDelayReqSend t s
  | .membershipTimeout t port group source => Sys2Proof.Machine.execMembershipTimeout t port group source s
  | .otherQuerierPresentTimeout t port family => Sys2Proof.Machine.execOtherQuerierPresentTimeout t port family s
  | .unsolicitedReportTimer t entry => Sys2Proof.Machine.execUnsolicitedReportTimer t entry s

end Sys2Proof.Machine
end

