-- ==== Sys2Proof/Safety.lean ====
section
/-! DEFINITION. What the statements say of a step: that a command completes, what a controller's request finds, and the
invariants that a run keeps. -/

namespace Sys2Proof.Machine

/-- The module is powered and past Table 17.1, and no reset is under way. -/
abbrev State.serves (s : State) : Prop := s.m.runs = true ∧ s.m.rebooting = false

/-- A command is carried out: the module becomes `m'`, and event log and queue stay as they are. -/
def Does (i : Instr) (s : State) (m' : Mod) : Prop := exec i s = .next { s with m := m' }

/-- A command is carried out: a next state follows, with the queue as it was, and `P` holds of its module. -/
def Completes (i : Instr) (s : State) (P : Mod → Prop) : Prop := ∃ s', exec i s = .next s' ∧ s'.pending = s.pending ∧ P s'.m

/-- The events raised between two states of one tick. -/
def Mod.newEvents (before after : Mod) : List Raised := after.raised.drop before.raised.length

/-- One event, with the severity of Table 19.2. -/
def ev (code res : Nat) (params : List Nat) : Raised := ⟨code, res, severityOf code, params⟩

/-- An event has been raised in this tick, whatever its severity. -/
def Mod.told (m : Mod) (code res : Nat) (params : List Nat) : Prop := ∃ v, (⟨code, res, v, params⟩ : Raised) ∈ m.raised

/-- Nothing that a frame of a session must await has run out: no challenge, no session, no gap (R305, R306, R308). -/
abbrev Mod.undisturbed (m : Mod) : Prop :=
  (∀ c ∈ m.preud.challenges, m.ctr < c.at_ + second) ∧ ∀ y ∈ m.preud.sessions, m.ctr < y.lastHeard + 10 * second ∧ y.held = []

/-- A frame of session `x` is authentic and on an open route (R303). -/
abbrev Mod.attends (m : Mod) (f : Frame) (x : Session) : Prop :=
  m.routeOpen f.route = true ∧ m.session f.sid = some x ∧ f.key = x.key ∧ x.weak = false ∧ m.undisturbed

/-- It is, and next in order (R308). -/
abbrev Mod.expects (m : Mod) (f : Frame) (x : Session) : Prop :=
  m.routeOpen f.route = true ∧ m.session f.sid = some x ∧ f.key = x.key ∧ f.req = x.expected ∧ x.weak = false ∧ m.undisturbed

/-- The frame has arrived, and the session has been heard at this instant (R306). -/
def Mod.heardFrom (m : Mod) (f : Frame) : Mod := (m.arrives f.route).modSession f.sid fun y => { y with lastHeard := m.ctr }

/-- A request has been answered: the next number is expected, the reply kept and sent, and counted (R301, R308). -/
def Mod.replied (m : Mod) (f : Frame) (slot opcode : Nat) (r : Reply) : Mod :=
  ((m.modSession f.sid fun y =>
    { y with
      expected := f.req + 1
      replies := (y.replies ++ [(f.req, r)]).drop (y.replies.length + 1 - 16) }).bump (slotObj slot) 7).answer f opcode r

/-- A direct write passes every check of R4, R307, R310 and of its object. -/
def Mod.accepts (m : Mod) (f : Frame) (x : Session) (idx sub : Nat) (b : Octets) : Prop :=
  ∃ y, (m.heardFrom f).writeChecked (x.writer f.route false) idx sub .direct b = .ok y

/-- The events held are those of this boot, numbered without a gap up to the next number, within the limit (R35, R318). -/
def EventLog.ok (e : EventLog) : Prop :=
  e.log.length ≤ logLimit ∧ e.log.length ≤ e.next
    ∧ ∀ i, ∀ h : i < e.log.length, (e.log[i]).seq = e.next - e.log.length + i ∧ (e.log[i]).epoch = e.epoch

/-- The units of the green frames of an entry, over frames that each come some ns after the one before: (ns, IP length, DSCP). -/
def Mod.greenUnits (m : Mod) (e : Nat) : List (Nanos × Nat × Nat) → Nat
  | [] => 0
  | (d, len, dscp) :: r =>
    let out := Mod.police { m with ctr := m.ctr + d } e len dscp
    (if out.1 = .green then (len + m.atEdge.flow e 0x10) * 8000000 else 0) + Mod.greenUnits out.2 e r

/-- A mortar frame is good and the next of its virtual channel on a link that is up (R217, R218). -/
abbrev Mod.inOrder (m : Mod) (h : MortarHdr) (vc : Nat) : Prop :=
  m.goodFrame h = true ∧ m.linkUp = true ∧ h.seq = nth m.twin.mortar.recvSeq vc

/-- The commands that bring a sequenced mortar frame: when, its header, its virtual channel (Table 12.2). -/
def mortarFrame : Instr → Option (Nanos × MortarHdr × Nat)
  | .mortarStatus t h _ => some (t, h, 0)
  | .courseRecords t h _ => some (t, h, 1)
  | .repairData t h _ => some (t, h, 2)
  | .countersignRequest t h _ _ => some (t, h, 0)
  | .countersign t h _ _ _ => some (t, h, 0)
  | .handover t h _ _ => some (t, h, 0)
  | .handoverAccept t h _ => some (t, h, 0)
  | .placement t h _ => some (t, h, 3)
  | _ => none

/-- A sequenced frame has been taken: the link has heard it, the next of its virtual channel is expected, and its credits are
freed (R218). -/
def Mod.taken (m : Mod) (h : MortarHdr) (vc : Nat) : Mod :=
  (m.heardMortar h).modMortar fun s =>
    { s with
      recvSeq := s.recvSeq.set vc (seqNext (nth m.twin.mortar.recvSeq vc))
      freed := s.freed.modify vc fun c => c + frameCredits h.length }

/-- A frame has been put on the mortar link: it has been sent, or waits for credit (R218). -/
def Mod.mortared (m : Mod) (o : Output) : Prop := o ∈ m.out ∨ ∃ x ∈ m.twin.mortar.waiting, x.frame = o

/-- A reply is sound, of a witness of this pair, and the first of its kind to its request (R231). -/
abbrev Mod.fromPair (m : Mod) (w kind : Nat) (x : KMsg) : Prop :=
  m.twinRuns = true ∧ KMsg_bad x m.komundKey = false ∧ x.pair = m.n 0x7000 1 ∧ m.witnesses.contains w = true
    ∧ m.twin.replies.contains (w, x.req, kind) = false

/-- The commands that bring a reply of a witness: when, of which, of which type (Table 12.6). -/
def witnessReply : Instr → Option (Nanos × Nat × Nat × KMsg)
  | .grant t w x => some (t, w.val, 0x11, x)
  | .refuse t w x => some (t, w.val, 0x12, x)
  | .released t w x => some (t, w.val, 0x13, x)
  | .probeAck t w x => some (t, w.val, 0x14, x)
  | _ => none

/-- The commands that bring a request to a witness: when, whether it carries a lease, whether it asks for a change of the lease
(Table 12.6, R233, R234). -/
def witnessAsked : Instr → Option (Nanos × Bool × Bool × KMsg)
  | .renew t x => some (t, true, true, x)
  | .acquire t x => some (t, true, true, x)
  | .release t x => some (t, false, true, x)
  | .probe t x => some (t, false, false, x)
  | _ => none

/-- A witness heeds a request: it is sound, of slot `k` and one of its members (R231). -/
abbrev Mod.heeds (m : Mod) (x : KMsg) (k : Nat) : Prop :=
  m.isWitness = true ∧ m.witnessDiscards x = false ∧ m.slotOfPair x.pair = some k

/-- A witness's message about slot `k`, with the term the slot has (R231). -/
def Mod.answerOf (m : Mod) (k kind subject req lease result : Nat) (term : Nat) : Output :=
  .komund k kind (m.n (0x7100 + k) 2) m.fuse subject term req lease result 0 (m.octets (0x7100 + k) 6) (m.n 0x7000 8)

/-- A message of the module to witness `w`, with the number of its next request (R231, R235). -/
def Mod.askOf (m : Mod) (w kind subject lease flags epoch : Nat) : Output :=
  .komund w kind (m.n 0x7000 1) m.fuse subject m.term (m.nextRequest epoch) lease 0 flags m.komundKey (m.n 0x7000 8)

/-- The mortar link shows its stage on lane L32: that lane is in service and belongs to the attempt (R266, R273). -/
abbrev Mod.stageShows (m : Mod) (u : Nat) : Prop := u = 32 → m.laneOff 32 = false ∧ 32 ∈ m.attemptLanes 32

/-! ### Frames -/

/-- What a command may change of the module: `a` with, of `b`, the components that the command's rules speak of. None for Preud
requests, which may be about anything, for BASE_TICK_EDGE and TIMED_LAUNCH_APPLY, and for resets. -/
def footprint (i : Instr) (a b : Mod) : Option Mod :=
  match i with
  | .malformedDatagram .. | .figureOfMeritLow .. | .opticTemperatureRead .. | .komundMessageDiscarded .. =>
    some { a with now := b.now, ctr := b.ctr, objs := b.objs, raised := b.raised, limits := b.limits }
  | .challengeExpiry .. =>
    some { a with now := b.now, ctr := b.ctr, preud := b.preud }
  | .sessionIdleExpiry .. =>
    some { a with now := b.now, ctr := b.ctr, objs := b.objs, raised := b.raised, preud := b.preud }
  | .eventResend .. =>
    some { a with now := b.now, ctr := b.ctr, draws := b.draws, objs := b.objs, out := b.out, preud := b.preud }
  | .bulkIdleAbort .. =>
    some { a with now := b.now, ctr := b.ctr, objs := b.objs, preud := b.preud }
  | .veneerCommitAbandon .. | .holdLimitReached .. =>
    some { a with now := b.now, ctr := b.ctr, objs := b.objs, raised := b.raised, chans := b.chans }
  | .stoppingEnd .. =>
    some { a with
      now := b.now, ctr := b.ctr, draws := b.draws, objs := b.objs, out := b.out, raised := b.raised, conds := b.conds,
      timeFn := b.timeFn, twinFn := b.twinFn, preud := b.preud, chans := b.chans, rends := b.rends, scalers := b.scalers,
      lanes := b.lanes, ladderRows := b.ladderRows, twin := b.twin, fab := b.fab, prt := b.prt }
  | .lateCtuCutoff .. =>
    some { a with
      now := b.now, ctr := b.ctr, draws := b.draws, objs := b.objs, raised := b.raised, limits := b.limits, rends := b.rends,
      serving := b.serving }
  | .ctuComplete .. =>
    some { a with
      now := b.now, ctr := b.ctr, objs := b.objs, raised := b.raised, limits := b.limits, rends := b.rends,
      serving := b.serving }
  | .videoPacket .. | .ancPacket .. =>
    some { a with
      now := b.now, ctr := b.ctr, objs := b.objs, raised := b.raised, conds := b.conds, seen := b.seen, chans := b.chans }
  | .pathTimeout .. | .eligibilityHoldExpiry .. | .witnessUnreachable .. | .servicePortLinkChange .. | .xbWarmupTimeout ..
  | .coolFail .. =>
    some { a with now := b.now, ctr := b.ctr, objs := b.objs, raised := b.raised, conds := b.conds }
  | .audioPacket .. =>
    some { a with now := b.now, ctr := b.ctr, objs := b.objs, seen := b.seen, chans := b.chans }
  | .audioFlowLoss .. | .audioFlowRestore .. | .ancFlowLoss .. =>
    some { a with now := b.now, ctr := b.ctr, objs := b.objs, raised := b.raised, conds := b.conds, chans := b.chans }
  | .datagramLaunch .. | .lateDatagram .. | .egressFrameBoundary .. =>
    some { a with
      now := b.now, ctr := b.ctr, objs := b.objs, out := b.out, raised := b.raised, conds := b.conds, limits := b.limits,
      seen := b.seen, rends := b.rends, checks := b.checks, decs := b.decs, slots := b.slots, fab := b.fab }
  | .decodeDatagram .. | .decodeStart .. | .decodeEnd .. =>
    some { a with
      now := b.now, ctr := b.ctr, objs := b.objs, raised := b.raised, conds := b.conds, limits := b.limits, decs := b.decs }
  | .decodeLoss .. =>
    some { a with now := b.now, ctr := b.ctr, objs := b.objs, raised := b.raised, conds := b.conds, decs := b.decs }
  | .presentationTick .. =>
    some { a with
      now := b.now, ctr := b.ctr, objs := b.objs, raised := b.raised, conds := b.conds, limits := b.limits, checks := b.checks,
      decs := b.decs }
  | .decodeOutputPacket .. =>
    some { a with now := b.now, ctr := b.ctr, objs := b.objs, out := b.out, decs := b.decs }
  | .frameReceived .. =>
    some { a with
      now := b.now, ctr := b.ctr, objs := b.objs, out := b.out, raised := b.raised, limits := b.limits, fab := b.fab }
  | .igmpMldReport .. | .igmpMldQuery .. =>
    some { a with now := b.now, ctr := b.ctr, draws := b.draws, objs := b.objs, out := b.out, raised := b.raised, fab := b.fab }
  | .queryIntervalExpiry .. | .unsolicitedReportTimer .. =>
    some { a with now := b.now, ctr := b.ctr, draws := b.draws, objs := b.objs, out := b.out, fab := b.fab }
  | .queueSample .. =>
    some { a with now := b.now, ctr := b.ctr, fab := b.fab }
  | .sampleWindowEnd .. | .membershipTimeout .. =>
    some { a with now := b.now, ctr := b.ctr, objs := b.objs, fab := b.fab }
  | .ptpMessage .. =>
    some { a with
      now := b.now, ctr := b.ctr, tick := b.tick, draws := b.draws, objs := b.objs, out := b.out, raised := b.raised,
      preud := b.preud, chans := b.chans, rends := b.rends, serving := b.serving, decs := b.decs, slots := b.slots,
      servo := b.servo }
  | .servoLocked .. | .announceReceiptTimeout .. | .holdoverLimit .. =>
    some { a with now := b.now, ctr := b.ctr, objs := b.objs, raised := b.raised, decs := b.decs, servo := b.servo }
  | .ptpMasterSend .. | .delayReqSend .. =>
    some { a with now := b.now, ctr := b.ctr, draws := b.draws, objs := b.objs, out := b.out, servo := b.servo }
  | .ppsOutPulse .. =>
    some { a with now := b.now, ctr := b.ctr, out := b.out }
  | .ppsInEdge .. =>
    some { a with now := b.now, ctr := b.ctr, objs := b.objs, servo := b.servo }
  | .ppsInAbsent .. =>
    some { a with now := b.now, ctr := b.ctr, objs := b.objs, raised := b.raised, servo := b.servo }
  | .mortarIdle .. | .idleSendTimer .. | .statusTimer .. | .countersignRequest .. | .handover .. | .placement ..
  | .countersignRequestTimer .. =>
    some { a with now := b.now, ctr := b.ctr, out := b.out, twin := b.twin }
  | .mortarHello .. | .mortarNak .. | .mortarStatus .. =>
    some { a with
      now := b.now, ctr := b.ctr, objs := b.objs, out := b.out, raised := b.raised, conds := b.conds, twin := b.twin }
  | .helloTimer .. | .outputPortsDown .. =>
    some { a with now := b.now, ctr := b.ctr, objs := b.objs, out := b.out, twin := b.twin }
  | .courseRecords .. =>
    some { a with
      now := b.now, ctr := b.ctr, objs := b.objs, out := b.out, raised := b.raised, conds := b.conds, limits := b.limits,
      rends := b.rends, groups := b.groups, checks := b.checks, twin := b.twin }
  | .repairData .. =>
    some { a with
      now := b.now, ctr := b.ctr, objs := b.objs, out := b.out, raised := b.raised, rends := b.rends, twin := b.twin }
  | .countersign .. =>
    some { a with now := b.now, ctr := b.ctr, objs := b.objs, out := b.out, raised := b.raised, twin := b.twin }
  | .handoverAccept .. | .renewTimer .. | .acquireTimer .. | .probeTimer .. | .witnessDeadline .. | .handoverBoundary .. =>
    some { a with now := b.now, ctr := b.ctr, draws := b.draws, objs := b.objs, out := b.out, twin := b.twin }
  | .linkSilent .. | .linkDown .. =>
    some { a with now := b.now, ctr := b.ctr, objs := b.objs, raised := b.raised, conds := b.conds, twin := b.twin }
  | .courseRecordClose .. =>
    some { a with
      now := b.now, ctr := b.ctr, objs := b.objs, out := b.out, raised := b.raised, limits := b.limits, rends := b.rends,
      checks := b.checks, twin := b.twin }
  | .recordMissing .. =>
    some { a with now := b.now, ctr := b.ctr, objs := b.objs, twin := b.twin }
  | .leaseFence .. =>
    some { a with now := b.now, ctr := b.ctr, objs := b.objs, raised := b.raised, twin := b.twin }
  | .grant .. =>
    some { a with
      now := b.now, ctr := b.ctr, objs := b.objs, out := b.out, raised := b.raised, limits := b.limits, seen := b.seen,
      rends := b.rends, twin := b.twin }
  | .refuse .. | .released .. =>
    some { a with now := b.now, ctr := b.ctr, objs := b.objs, raised := b.raised, limits := b.limits, twin := b.twin }
  | .probeAck .. =>
    some { a with
      now := b.now, ctr := b.ctr, objs := b.objs, raised := b.raised, conds := b.conds, limits := b.limits, twin := b.twin }
  | .renew .. | .acquire .. | .release .. | .probe .. =>
    some { a with
      now := b.now, ctr := b.ctr, draws := b.draws, objs := b.objs, out := b.out, raised := b.raised, limits := b.limits,
      twin := b.twin }
  | .witnessRestartHoldEnd .. | .patrolScrubPass .. | .checkerLock .. | .frequencyCounterDone .. | .holdUpCharged .. =>
    some { a with now := b.now, ctr := b.ctr, objs := b.objs }
  | .releasePoint .. =>
    some { a with
      now := b.now, ctr := b.ctr, objs := b.objs, raised := b.raised, timeFn := b.timeFn, twinFn := b.twinFn, preud := b.preud,
      twin := b.twin }
  | .refreshDue .. | .refreshForced .. =>
    some { a with now := b.now, ctr := b.ctr, objs := b.objs, raised := b.raised, limits := b.limits, mem := b.mem }
  | .dimmTemperatureChange .. =>
    some { a with now := b.now, ctr := b.ctr, objs := b.objs, raised := b.raised, conds := b.conds, limits := b.limits }
  | .dramCorrectableError .. =>
    some { a with now := b.now, ctr := b.ctr, objs := b.objs, raised := b.raised, mem := b.mem }
  | .dramUncorrectableRead .. =>
    some { a with
      now := b.now, ctr := b.ctr, draws := b.draws, objs := b.objs, out := b.out, raised := b.raised, limits := b.limits,
      preud := b.preud, chans := b.chans, rends := b.rends, fallbacks := b.fallbacks, twin := b.twin, decs := b.decs,
      slots := b.slots, downCores := b.downCores, cal := b.cal, hw := b.hw }
  | .dimmSupplyTrip .. =>
    some { a with
      now := b.now, ctr := b.ctr, objs := b.objs, raised := b.raised, conds := b.conds, timeFn := b.timeFn, twinFn := b.twinFn,
      preud := b.preud, chans := b.chans, rends := b.rends, scalers := b.scalers, lanes := b.lanes, ladderRows := b.ladderRows,
      decs := b.decs, rings := b.rings, slots := b.slots }
  | .cageInsertion .. | .cagePresenceStable .. =>
    some { a with now := b.now, ctr := b.ctr, objs := b.objs, raised := b.raised, prt := b.prt }
  | .moduleReady .. | .moduleReadyTimeout .. | .accessTimeout .. =>
    some { a with now := b.now, ctr := b.ctr, objs := b.objs, raised := b.raised }
  | .cageRemoval .. | .efuseTrip .. | .stageLimitExpiry .. | .backplaneLinkChange .. =>
    some { a with
      now := b.now, ctr := b.ctr, objs := b.objs, raised := b.raised, conds := b.conds, twin := b.twin, fab := b.fab,
      prt := b.prt }
  | .detectRepeat .. =>
    some { a with now := b.now, ctr := b.ctr, objs := b.objs, raised := b.raised, prt := b.prt, cal := b.cal }
  | .autoNegotiationResolved .. =>
    some { a with now := b.now, ctr := b.ctr, objs := b.objs, prt := b.prt, cal := b.cal }
  | .trainingComplete .. =>
    some { a with now := b.now, ctr := b.ctr, draws := b.draws, objs := b.objs, prt := b.prt }
  | .lockComplete .. =>
    some { a with
      now := b.now, ctr := b.ctr, draws := b.draws, objs := b.objs, raised := b.raised, conds := b.conds, twin := b.twin,
      prt := b.prt, cal := b.cal }
  | .capabilityComplete .. =>
    some { a with
      now := b.now, ctr := b.ctr, objs := b.objs, raised := b.raised, conds := b.conds, twin := b.twin, prt := b.prt }
  | .lossOfLock .. | .retrainTrigger .. =>
    some { a with
      now := b.now, ctr := b.ctr, objs := b.objs, raised := b.raised, conds := b.conds, fab := b.fab, prt := b.prt,
      cal := b.cal }
  | .fastRelockComplete .. =>
    some { a with
      now := b.now, ctr := b.ctr, draws := b.draws, objs := b.objs, raised := b.raised, conds := b.conds, twin := b.twin,
      fab := b.fab, prt := b.prt, cal := b.cal }
  | .gateWindowEnd .. | .forcedSwitchComplete .. =>
    some { a with now := b.now, ctr := b.ctr, objs := b.objs, raised := b.raised, clk := b.clk }
  | .clockStopDetected .. =>
    some { a with
      now := b.now, ctr := b.ctr, draws := b.draws, objs := b.objs, out := b.out, raised := b.raised, conds := b.conds,
      timeFn := b.timeFn, twinFn := b.twinFn, preud := b.preud, chans := b.chans, rends := b.rends, scalers := b.scalers,
      lanes := b.lanes, ladderRows := b.ladderRows, twin := b.twin, decs := b.decs, rings := b.rings, slots := b.slots,
      fab := b.fab, prt := b.prt, clk := b.clk }
  | .pllReferenceFailure .. =>
    some { a with
      now := b.now, ctr := b.ctr, objs := b.objs, raised := b.raised, conds := b.conds, timeFn := b.timeFn, twinFn := b.twinFn,
      preud := b.preud, chans := b.chans, rends := b.rends, scalers := b.scalers, lanes := b.lanes, ladderRows := b.ladderRows,
      twin := b.twin, decs := b.decs, rings := b.rings, slots := b.slots, fab := b.fab, prt := b.prt, clk := b.clk }
  | .pllRelock .. =>
    some { a with now := b.now, ctr := b.ctr, objs := b.objs, raised := b.raised, conds := b.conds, clk := b.clk, cal := b.cal }
  | .temperatureSample .. | .calibrationRunStart .. =>
    some { a with now := b.now, ctr := b.ctr, objs := b.objs, cal := b.cal }
  | .calibrationRunComplete .. =>
    some { a with now := b.now, ctr := b.ctr, objs := b.objs, raised := b.raised, cal := b.cal }
  | .powerStepTimeout .. =>
    some { a with
      now := b.now, ctr := b.ctr, draws := b.draws, objs := b.objs, out := b.out, raised := b.raised, conds := b.conds,
      timeFn := b.timeFn, twinFn := b.twinFn, preud := b.preud, chans := b.chans, rends := b.rends, scalers := b.scalers,
      lanes := b.lanes, ladderRows := b.ladderRows, twin := b.twin, decs := b.decs, rings := b.rings, slots := b.slots,
      fab := b.fab, prt := b.prt, clk := b.clk, hw := b.hw }
  | .xbOvenSettled .. =>
    some { a with now := b.now, ctr := b.ctr, clk := b.clk }
  | .autoConfirmExpiry .. | .ejector .. | .builtInTestComplete .. =>
    some { a with now := b.now, ctr := b.ctr, objs := b.objs, raised := b.raised, hw := b.hw }
  | .i2cOffsetWrite .. =>
    some { a with now := b.now, ctr := b.ctr, hw := b.hw }
  | .i2cRead .. =>
    some { a with now := b.now, ctr := b.ctr, out := b.out, hw := b.hw }
  | .liveFieldUpdate .. =>
    some { a with now := b.now, ctr := b.ctr, draws := b.draws, objs := b.objs, seen := b.seen, hw := b.hw }
  | .feedStateChange .. | .internalShortLimit .. | .thermalStopEnd .. =>
    some { a with now := b.now, ctr := b.ctr, objs := b.objs, raised := b.raised, conds := b.conds, hw := b.hw }
  | .inputDip .. | .holdUpExpiry .. =>
    some { a with now := b.now, ctr := b.ctr, objs := b.objs, hw := b.hw }
  | .junctionSample .. =>
    some { a with
      now := b.now, ctr := b.ctr, objs := b.objs, out := b.out, raised := b.raised, conds := b.conds, seen := b.seen,
      timeFn := b.timeFn, twinFn := b.twinFn, preud := b.preud, twin := b.twin, hw := b.hw }
  | .heartbeatCheck .. | .settCoreTrap .. =>
    some { a with
      now := b.now, ctr := b.ctr, objs := b.objs, out := b.out, raised := b.raised, rends := b.rends, fallbacks := b.fallbacks,
      twin := b.twin, downCores := b.downCores, cal := b.cal, hw := b.hw }
  | .datagramQueued .. =>
    some { a with
      now := b.now, ctr := b.ctr, objs := b.objs, out := b.out, raised := b.raised, conds := b.conds, limits := b.limits,
      seen := b.seen, rends := b.rends, checks := b.checks, decs := b.decs, fab := b.fab }
  | .arpAndIcmpEcho .. =>
    some { a with now := b.now, ctr := b.ctr, draws := b.draws, objs := b.objs, out := b.out }
  | .otherQuerierPresentTimeout .. =>
    some { a with now := b.now, ctr := b.ctr, objs := b.objs, raised := b.raised, fab := b.fab }
  | _ => none

/-- The indexes of the event counts: 7400 and 7410, which every event raised moves (R361, R362). -/
def eventIndex (idx : Nat) : Bool := idx = 0x7400 || idx = 0x7410

/-- The indexes a command may write, for the commands that write a window of their own: ingest, the refresh and error counts of a DRAM
channel, cages, lane figures, clocks, calibration, sensors and feeds, the twin, the witness. -/
def writesOnly : Instr → Option (Nat → Bool)
  | .videoPacket .. | .pathTimeout .. | .audioPacket .. | .audioFlowLoss .. | .audioFlowRestore .. | .ancPacket ..
  | .ancFlowLoss .. | .holdLimitReached .. | .veneerCommitAbandon .. =>
    some fun i => within i 0x4100 0x4B7F || eventIndex i
  | .refreshDue _ c .. | .refreshForced _ c .. | .dimmTemperatureChange _ c .. | .dramCorrectableError _ c .. | .patrolScrubPass _ c =>
    some fun i => i = 0x2140 + c.val || eventIndex i
  | .cageInsertion _ q | .cagePresenceStable _ q _ | .moduleReady _ q | .moduleReadyTimeout _ q | .opticTemperatureRead _ q .. =>
    some fun i => i = 0x2440 + q.val || eventIndex i
  | .figureOfMeritLow _ l _ => some fun i => i = 0x2480 + l.val || eventIndex i
  | .checkerLock _ l .. => some fun i => i = 0x2500 + l.val
  | .servicePortLinkChange .. => some fun i => i = 0x2610 || eventIndex i
  | .gateWindowEnd .. => some fun i => i = 0x1800 || i = 0x1815 || eventIndex i
  | .forcedSwitchComplete _ k => some fun i => i = 0x1810 + k.val || eventIndex i
  | .accessTimeout .. => some fun i => i = 0x1850 || eventIndex i
  | .frequencyCounterDone .. => some fun i => i = 0x1840
  | .calibrationRunStart _ d => some fun i => i = 0x1C40 + d.val
  | .temperatureSample .. => some fun i => within i 0x1C40 0x1C5B
  | .xbWarmupTimeout .. => some fun i => i = 0x1800 || eventIndex i
  | .feedStateChange .. | .internalShortLimit .. | .holdUpCharged .. | .inputDip .. | .holdUpExpiry .. => some fun i => i = 0x1D40 || eventIndex i
  | .coolFail .. | .thermalStopEnd .. => some fun i => i = 0x1D00 || eventIndex i
  | .liveFieldUpdate .. => some fun i => i = 0x1D00 || i = 0x1D40
  | .ejector .. => some eventIndex
  | .i2cOffsetWrite .. | .i2cRead .. | .xbOvenSettled .. => some fun _ => false
  | .mortarIdle .. | .idleSendTimer .. | .mortarHello .. | .helloTimer .. | .statusTimer .. | .mortarNak .. | .mortarStatus ..
  | .countersignRequest .. | .countersign .. | .handover .. | .placement .. | .linkSilent .. | .linkDown ..
  | .recordMissing .. | .eligibilityHoldExpiry .. | .leaseFence .. | .grant .. | .refuse .. | .released .. | .probeAck ..
  | .witnessUnreachable .. | .outputPortsDown .. =>
    some fun i => within i 0x7000 0x7080 || eventIndex i
  | .renew .. | .acquire .. | .release .. | .probe .. | .witnessDeadline .. | .witnessRestartHoldEnd .. | .komundMessageDiscarded .. =>
    some fun i => within i 0x7100 0x7140 || i = 0x7080 || i = 0x2610 || within i 0x3840 0x385F || eventIndex i
  | _ => none

/-- The commands that act on a module whose processor is not powered: those of the standby domain, and the resets that power it
(R324, R345, R348). -/
def actsUnpowered : Instr → Bool
  | .powerOnSequence .. | .chassisReset .. | .ejector .. | .i2cOffsetWrite .. | .i2cRead .. | .feedStateChange .. | .internalShortLimit ..
  | .holdUpCharged .. | .inputDip .. | .holdUpExpiry .. | .cageInsertion .. | .cageRemoval .. => true
  | _ => false

end Sys2Proof.Machine
end

