-- ==== Sys2Proof/Certificates/Slice0/Obligations.lean ====
section
/-! DEFINITION. What the provers are to show of the model. Each statement says for which commands it is, and from which rules of spec/ it comes. -/

section Statements

open Sys2Proof Sys2Proof.Machine

/-! ### Sessions and requests (ch. 16) -/

/-- R305: HELLO with a role key that is held leaves a challenge, and CHALLENGE goes out; OPEN with the session key opens the session, ev
1101; a number drawn fresh is neither 0 nor one in use (R305). -/
def Obligations.HandshakeOpensASession : Prop :=
  (
    ∀ (s : State) (t : Nanos) (f : Frame), s.serves → (s.m.at t).routeOpen f.route = true → (s.m.at t).undisturbed →
      (∀ (role : Fin 4) (cnonce : Nat), (s.m.at t).octets 0x1110 (role.val + 1) ≠ [] →
        f.key = .role ((s.m.at t).octets 0x1110 (role.val + 1)) → (s.m.at t).slotsTaken.length < 32 →
        Completes (.hello t f role cnonce) s fun m' =>
          ∃ c : Challenge, m'.preud.challenges = (s.m.at t).preud.challenges ++ [c] ∧ c.role = role.val ∧ c.at_ = (s.m.at t).ctr
            ∧ c.key = .session ((s.m.at t).octets 0x1110 (role.val + 1)) cnonce c.mnonce c.sid
            ∧ Output.challenge f.route f.peer f.peerPort c.sid c.mnonce s.events.epoch (s.m.at t).fuse 0 ∈ m'.out)
      ∧ ∀ (c : Challenge), (s.m.at t).preud.challenges.find? (fun c => c.sid = f.sid) = some c → f.key = c.key →
        Completes (.openReq t f c.mnonce) s fun m' =>
          ∃ y : Session, m'.preud.sessions = (s.m.at t).preud.sessions ++ [y] ∧ y.sid = f.sid ∧ y.role = c.role ∧ y.expected = 1
            ∧ (∀ c ∈ m'.preud.challenges, c.sid ≠ f.sid)
            ∧ m'.told 0x1101 c.slot [f.sid, c.role, routeNo c.route, 0])
  ∧ (
    ∀ (drawn n : Nat) (taken : List Nat), taken.length + 2 ≤ n →
      freeNumber drawn n taken ≠ 0 ∧ freeNumber drawn n taken < n ∧ freeNumber drawn n taken ∉ taken)

/-- R306, R309, R310: KEEPALIVE, READ and LIST TIMED in their turn change nothing but the session, and are answered with status 0x00;
CLOSE ends the session, ev 1101 with cause 1. -/
def Obligations.PlainRequestsAreAnswered : Prop :=
  ∀ (s : State) (t : Nanos) (f : Frame) (x : Session), s.serves → (s.m.at t).expects f x →
    Does (.keepalive t f) s (((s.m.at t).heardFrom f).replied f x.slot 0x05 (done .empty))
    ∧ (∀ (items : List ReadItem) (l : List (Option Octets)), items ≠ [] → items.length ≤ 64 →
        ((s.m.at t).heardFrom f).readAll x.selector items = .ok l → (l.map fun v => 2 + (v.getD []).length).sum ≤ 1400 →
        Does (.read t f items) s (((s.m.at t).heardFrom f).replied f x.slot 0x10 (done (.values l))))
    ∧ (∀ first : Nat, Does (.listTimed t f first) s (((s.m.at t).heardFrom f).replied f x.slot 0x14
        (done (.timedList (s.m.at t).timedEntries.length (((s.m.at t).timedEntries.drop first).take 80)))))
    ∧ Completes (.close t f) s fun m' => m'.session f.sid = none
        ∧ Output.reply f.route f.peer f.peerPort f.sid 0x04 f.req (done .empty) ∈ m'.out
        ∧ m'.told 0x1101 x.slot [f.sid, x.role, routeNo x.route, 1]

/-- R4, R310, R314: a WRITE of an RW object that passes every check and means no more than its value sets the value at once; a staged
one puts it into the change set of the object's function. -/
def Obligations.PlainWritesTakeEffect : Prop :=
  ∀ (s : State) (t : Nanos) (f : Frame) (x : Session) (idx sub : Nat) (b : Octets) (fl : Field) (v : Val),
    s.serves → (s.m.at t).expects f x →
    (((s.m.at t).heardFrom f).writeChecked (x.writer f.route false) idx sub .direct b = .ok (fl, v) → fl.acc = .rw →
      (0x3800 ≤ idx ∧ idx ≤ 0x381F) ∨ (0x4A00 ≤ idx ∧ idx ≤ 0x4A7F) →
      Does (.write t f idx sub false b) s ((((s.m.at t).heardFrom f).set idx sub v).replied f x.slot 0x11 (done .empty))
      ∧ Does (.otherObjectWrite t f idx sub b) s ((((s.m.at t).heardFrom f).set idx sub v).replied f x.slot 0x11 (done .empty)))
    ∧ (((s.m.at t).heardFrom f).writeChecked (x.writer f.route false) idx sub .staged b = .ok (fl, v) → 0x4000 ≤ idx → idx ≤ 0x60FF →
      Does (.write t f idx sub true b) s ((((s.m.at t).heardFrom f).stage idx sub v).replied f x.slot 0x11 (done .empty)))

/-- R22, R23: a TIMED WRITE that is accepted waits for its apply tick, which the answer names; CANCEL TIMED takes it out while it is
more than 1 ms away (R310). A veneer commit asked for while one is pending is none more (R69). -/
def Obligations.TimedWritesWait : Prop :=
  ∀ (s : State) (t : Nanos) (f : Frame) (x : Session), s.serves → (s.m.at t).expects f x →
    (∀ (idx sub : Nat) (at_ : TimeVal) (tn : Nanos) (b : Octets) (fl : Field) (v : Val), TimeVal_nanos at_ = some tn →
      ((s.m.at t).heardFrom f).writeChecked (x.writer f.route false) idx sub (.timed tn) b = .ok (fl, v) → fl.acc = .rt →
      ¬(0x4900 ≤ idx ∧ idx ≤ 0x491F ∧ v.nat = 1 ∧ ((s.m.at t).heardFrom f).commitPending (idx - 0x4900) = true) →
      Completes (.timedWrite t f idx sub at_ b) s fun m' =>
        (⟨idx, sub, v, tn, (s.m.at t).timedApply tn ((s.m.at t).grainOf idx), f.sid, (s.m.at t).preud.nextOrder⟩ : TimedWrite)
            ∈ m'.preud.timed
        ∧ Output.reply f.route f.peer f.peerPort f.sid 0x12 f.req
            (done (.applyTick ((s.m.at t).timedApply tn ((s.m.at t).grainOf idx)))) ∈ m'.out)
    ∧ ∀ (target sub applyTick : Nat) (w : TimedWrite), (∀ g, findField target sub = some g → leastRole g.acc target sub 0 ≤ x.role) →
      (s.m.at t).preud.timed.find? (fun w => w.idx = target && w.sub = sub && w.applyTick = applyTick) = some w →
      (s.m.at t).now + 1000000 < (s.m.at t).fam.edge applyTick →
      Completes (.cancelTimed t f target sub 0 applyTick) s fun m' =>
        (∀ y ∈ m'.preud.timed, y.order ≠ w.order)
        ∧ Output.reply f.route f.peer f.peerPort f.sid 0x13 f.req (done .empty) ∈ m'.out

/-- R311, R313, R314: a start, stop or restart that passes the checks waits for its tick, the first of the function's grain after
acceptance or not before the TIME it names: a start makes the function STARTING, a restart seals its change set. -/
def Obligations.FunctionCommandsWait : Prop :=
  ∀ (s : State) (t : Nanos) (f : Frame) (x : Session) (fid : Nat) (timed : Option TimeVal) (named : Option Nanos), s.serves →
    (s.m.at t).expects f x → 2 ≤ x.role → fnExists fid = true → named = timed.bind TimeVal_nanos → (∀ v, timed = some v → v.nano < second) →
    let T := match named with
      | some tn => (s.m.at t).timedApply tn ((s.m.at t).fnGrain fid)
      | none => (s.m.at t).nextApply ((s.m.at t).fnGrain fid)
    let answered (m' : Mod) : Prop := Output.reply f.route f.peer f.peerPort f.sid 0x20 f.req (done (.applyTick T)) ∈ m'.out
    ((s.m.at t).fn fid = stopped → ((s.m.at t).heardFrom f).cmdFault fid 1 T named = none →
      Completes (.functionStart t f fid timed) s fun m' =>
        m'.fn fid = starting ∧ (∃ c ∈ m'.preud.fnCmds, c.fid = fid ∧ c.cmd = 1 ∧ c.applyTick = T) ∧ answered m')
    ∧ ((s.m.at t).fn fid = running → ((s.m.at t).heardFrom f).cmdFault fid 2 T named = none →
      Completes (.functionStop t f fid timed) s fun m' =>
        (∃ c ∈ m'.preud.fnCmds, c.fid = fid ∧ c.cmd = 2 ∧ c.applyTick = T) ∧ answered m')
    ∧ (((s.m.at t).heardFrom f).cmdFault fid 3 T named = none →
      Completes (.functionRestart t f fid timed) s fun m' =>
        (∃ c ∈ m'.preud.fnCmds, c.fid = fid ∧ c.cmd = 3 ∧ c.applyTick = T)
          ∧ (∀ y ∈ m'.preud.changeSets, y.fid = fid → y.sealed = true) ∧ answered m')

/-- R314: command 4 opens a change set of a RUNNING function that has none, owned by the session; command 5 discards an open one. -/
def Obligations.ChangeSetsOpenAndClose : Prop :=
  ∀ (s : State) (t : Nanos) (f : Frame) (x : Session) (fid : Nat), s.serves → (s.m.at t).expects f x → 2 ≤ x.role →
    fnExists fid = true →
    ((s.m.at t).changeSet fid = none → (s.m.at t).fn fid = running →
      Completes (.openChangeSet t f fid) s fun m' =>
        m'.preud.changeSets = (s.m.at t).preud.changeSets ++ [⟨fid, some f.sid, false, 0, []⟩]
          ∧ Output.reply f.route f.peer f.peerPort f.sid 0x20 f.req (done (.applyTick 0)) ∈ m'.out)
    ∧ ∀ c : ChangeSet, (s.m.at t).changeSet fid = some c → c.owner = some f.sid → c.sealed = false →
      Completes (.discardChangeSet t f fid) s fun m' =>
        m'.changeSet fid = none ∧ Output.reply f.route f.peer f.peerPort f.sid 0x20 f.req (done (.applyTick 0)) ∈ m'.out

/-- R316, R317: SUBSCRIBE replaces the session's filter, drops what it left unacknowledged and is answered with the number of the next
event; what of the log the filter takes from the start on goes out, at most 21 records a frame, and a start before the oldest event held
is answered by a frame that names the first and last number lost. EVENT ACK, whatever its request number, drops the frame it names, and
what is due goes out where fewer than 16 are left. An unacknowledged frame goes out again 50 ms after it was last sent. -/
def Obligations.EventDelivery : Prop :=
  ∀ (s : State) (t : Nanos), s.serves →
    (∀ (f : Frame) (x : Session) (mask severity start : Nat), (s.m.at t).expects f x →
      let from_ := if start = 2 ^ 64 - 1 then (s.m.at t).nextEvent s.events else start
      let due := s.events.log.filter fun r => from_ ≤ r.seq && (⟨mask, severity, from_⟩ : Subscription).takes r
      Completes (.subscribe t f mask severity start) s fun m' =>
        Output.reply f.route f.peer f.peerPort f.sid 0x30 f.req (done (.nextSeq ((s.m.at t).nextEvent s.events))) ∈ m'.out
        ∧ (mask = 0 → ∃ y, m'.session f.sid = some y ∧ y.subscription = none ∧ y.unacked = [])
        ∧ (mask ≠ 0 → s.events.oldest ≤ from_ → due = [] →
          ∃ y, m'.session f.sid = some y ∧ y.subscription = some ⟨mask, severity, max from_ s.events.next⟩ ∧ y.unacked = [])
        ∧ (∀ a, mask ≠ 0 → s.events.oldest ≤ from_ → due.head? = some a →
          Output.events x.route x.peer x.port f.sid ⟨a.seq, none, due.take 21, (s.m.at t).ctr⟩ ∈ m'.out)
        ∧ (mask ≠ 0 → from_ < s.events.oldest →
          Output.events x.route x.peer x.port f.sid ⟨from_, some (from_, s.events.oldest - 1), [], (s.m.at t).ctr⟩ ∈ m'.out))
    ∧ (∀ (f : Frame) (x : Session) (first : Nat), (s.m.at t).attends f x →
      let left := x.unacked.filter fun g => g.first ≠ first
      let m1 := ((s.m.at t).heardFrom f).modSession f.sid fun y => { y with unacked := y.unacked.filter fun g => g.first ≠ first }
      Does (.eventAck t f first) s (Mod.deliver s.events f.sid 17 m1)
      ∧ ((x.subscription = none ∨ 16 ≤ left.length) → Does (.eventAck t f first) s m1)
      ∧ ∀ (sub : Subscription) (a : EventRec), x.subscription = some sub → left.length < 16 → s.events.oldest ≤ sub.next →
        (s.events.log.filter fun r => sub.next ≤ r.seq && sub.takes r).head? = some a →
        Completes (.eventAck t f first) s fun m' => Output.events x.route x.peer x.port f.sid
          ⟨a.seq, none, (s.events.log.filter fun r => sub.next ≤ r.seq && sub.takes r).take 21, (s.m.at t).ctr⟩ ∈ m'.out)
    ∧ ∀ (sid first : Nat) (x : Session) (g : EventFrame), (s.m.at t).session sid = some x →
      x.unacked.find? (fun g => g.first = first) = some g →
      (g.sentAt + 50000000 ≤ (s.m.at t).ctr → Completes (.eventResend t sid first) s fun m' =>
        Output.events x.route x.peer x.port sid { g with sentAt := (s.m.at t).ctr } ∈ m'.out
          ∧ ∃ y, m'.session sid = some y ∧ { g with sentAt := (s.m.at t).ctr } ∈ y.unacked)
      ∧ ((s.m.at t).ctr < g.sentAt + 50000000 → Does (.eventResend t sid first) s (s.m.at t))

/-- R319, R320: BULK BEGIN that passes its checks opens a transfer; BULK DATA puts a chunk of a write into it; BULK ABORT, an idle 10 s,
and BULK END of a read end it. -/
def Obligations.BulkTransfers : Prop :=
  ∀ (s : State) (t : Nanos) (f : Frame) (x : Session), s.serves → (s.m.at t).attends f x →
    (∀ (idx sub : Nat) (wr staged : Bool) (length crc : Nat), f.req = x.expected →
      ((s.m.at t).heardFrom f).bulkFault (x.writer f.route true) idx sub wr staged length = none →
      Completes (.bulkBegin t f idx sub wr staged length crc) s fun m' =>
        ∃ y : Transfer, m'.preud.transfers = (s.m.at t).preud.transfers ++ [y] ∧ y.sid = f.sid ∧ y.wr = wr ∧ y.sub = sub
          ∧ y.idx = storeIdx x.selector idx sub ∧ y.crc = crc ∧ y.chunks = [] ∧ y.failed = false)
    ∧ (∀ (tid offset len : Nat) (data : Octets) (y : Transfer), (s.m.at t).transfer f.sid tid = some y → y.wr = true → y.failed = false →
      1 ≤ len → len ≤ 1344 → offset % 1344 = 0 → data.length = len → offset + len ≤ y.length → (len = 1344 ∨ offset + len = y.length) →
      Completes (.bulkData t f tid offset len data) s fun m' =>
        (∃ z, m'.transfer f.sid tid = some z ∧ (offset, data) ∈ z.chunks ∧ z.heardAt = (s.m.at t).ctr)
          ∧ Output.reply f.route f.peer f.peerPort f.sid 0x41 f.req (done (.bulkChunk tid len offset [])) ∈ m'.out)
    ∧ (∀ (tid : Nat) (y : Transfer), f.req = x.expected → (s.m.at t).transfer f.sid tid = some y → y.wr = false → y.failed = false →
      Completes (.bulkEnd t f tid) s fun m' =>
        m'.transfer f.sid tid = none ∧ Output.reply f.route f.peer f.peerPort f.sid 0x42 f.req (done .empty) ∈ m'.out)
    ∧ (∀ (tid : Nat) (y : Transfer), f.req = x.expected → (s.m.at t).transfer f.sid tid = some y →
      Completes (.bulkAbort t f tid) s fun m' =>
        m'.transfer f.sid tid = none ∧ Output.reply f.route f.peer f.peerPort f.sid 0x43 f.req (done .empty) ∈ m'.out)
    ∧ ∀ (tid : Nat) (y : Transfer), (s.m.at t).preud.transfers.find? (fun y => y.tid = tid) = some y →
      y.heardAt + 10 * second ≤ (s.m.at t).ctr →
      Completes (.bulkIdleAbort t tid) s fun m' => ∀ z ∈ m'.preud.transfers, z.tid ≠ tid

/-- R302, R303, R304: a malformed datagram is counted and not answered, a frame of an unknown opcode is answered with status 0x0D. R300:
ARP and ICMP echo for the own address of a route are answered on it; anything else is counted where it arrives on the service port, and
discarded. -/
def Obligations.BadFramesAndLocalMessages : Prop :=
  (
    ∀ (s : State) (t : Nanos), s.serves →
      (∀ (r : Route) (k : MalformedKind), (s.m.at t).routeOpen r = true → k ≠ .mac →
        Does (.malformedDatagram t r k) s (((s.m.at t).arrives r).bump 0x1120 7))
      ∧ (∀ r : Route, (s.m.at t).routeOpen r = true →
        Does (.malformedDatagram t r .mac) s ((((s.m.at t).arrives r).bump 0x1120 4).raiseLimited 0x1102 (routeNo r) second [routeNo r]))
      ∧ ∀ (f : Frame) (x : Session) (op : Nat), (s.m.at t).attends f x →
        Does (.unknownOpcode t f op) s (((s.m.at t).heardFrom f).answer f op ⟨0x0D, 0, 0, 0, .empty⟩))
  ∧ (
    ∀ (s : State) (t : Nanos) (r : Route), s.serves → (s.m.at t).routeCarries r = true →
      Completes (.arpAndIcmpEcho t r (.arp ((s.m.at t).routeAddress r))) s
        (fun m' => Output.arpReply r ((s.m.at t).routeAddress r) ∈ m'.out)
      ∧ (∀ i, Completes (.arpAndIcmpEcho t r (.icmpEcho ((s.m.at t).routeAddress r) i)) s
        (fun m' => Output.echoReply r ((s.m.at t).routeAddress r) i ∈ m'.out))
      ∧ (∀ k, Does (.arpAndIcmpEcho t r (.other k)) s ((s.m.at t).arrives r))
      ∧ ∀ a, a ≠ (s.m.at t).routeAddress r → Does (.arpAndIcmpEcho t r (.arp a)) s ((s.m.at t).arrives r))

/-- R305, R306, R308: a challenge without its OPEN for 1 s is forgotten; a session silent for 10,000 ms ends, ev 1101 with cause 2; a
gap open for 50 ms is skipped, so that the lowest request held is next. -/
def Obligations.SessionsRunOut : Prop :=
  ∀ (s : State) (t : Nanos) (sid : Nat), s.serves →
    (∀ c ∈ (s.m.at t).preud.challenges, c.sid = sid → c.at_ + second ≤ (s.m.at t).ctr →
      Completes (.challengeExpiry t sid) s fun m' => c ∉ m'.preud.challenges
        ∧ ∀ y ∈ (s.m.at t).preud.challenges, y.sid ≠ sid → y ∈ m'.preud.challenges)
    ∧ (∀ x : Session, (s.m.at t).session sid = some x → x.lastHeard + 10 * second ≤ (s.m.at t).ctr →
      Completes (.sessionIdleExpiry t sid) s fun m' => m'.session sid = none
        ∧ m'.told 0x1101 x.slot [sid, x.role, routeNo x.route, 2])
    ∧ ∀ (x : Session) (q : Nat) (at_ : Nanos) (f : Frame), (s.m.at t).session sid = some x → x.weak = false → f.sid = sid → f.req = q →
      x.held = [(q, at_, f, .keepalive)] → at_ + 50000000 ≤ (s.m.at t).ctr →
      Completes (.sequenceGapExpiry t sid) s fun m' => (∃ y, m'.session sid = some y ∧ y.expected = q + 1 ∧ y.held = [])
        ∧ Output.reply f.route f.peer f.peerPort sid 0x05 q (done .empty) ∈ m'.out

/-- R300: a frame on a route that is not open is counted where it arrives on the service port, changes nothing else, and is not
answered. R303: a frame of a session made with another key is counted in 1120:04 and not answered; nothing it asks for happens. -/
def Obligations.UnauthorisedFramesDoNothing : Prop :=
  (
    ∀ (s : State) (t : Nanos) (f : Frame), s.serves → (s.m.at t).routeOpen f.route = false →
      let m' := (s.m.at t).arrives f.route
      (∀ role cnonce, Does (.hello t f role cnonce) s m') ∧ (∀ n, Does (.openReq t f n) s m')
      ∧ Does (.close t f) s m' ∧ Does (.keepalive t f) s m' ∧ (∀ l, Does (.read t f l) s m')
      ∧ (∀ idx sub staged b, Does (.write t f idx sub staged b) s m')
      ∧ (∀ idx sub at_ b, Does (.timedWrite t f idx sub at_ b) s m')
      ∧ (∀ fid at_, Does (.functionStart t f fid at_) s m' ∧ Does (.functionStop t f fid at_) s m'
        ∧ Does (.functionRestart t f fid at_) s m')
      ∧ (∀ tid o n d, Does (.bulkData t f tid o n d) s m') ∧ (∀ op, Does (.unknownOpcode t f op) s m')
      ∧ Does (.resetCommand t f) s m' ∧ Does (.forcedReset t f) s m'
      ∧ ∀ k, Does (.malformedDatagram t f.route k) s m')
  ∧ (
    ∀ (s : State) (t : Nanos) (f : Frame) (x : Session), s.serves → (s.m.at t).routeOpen f.route = true → (s.m.at t).undisturbed →
      (s.m.at t).session f.sid = some x → f.key ≠ x.key →
      let m' := (((s.m.at t).arrives f.route).bump 0x1120 4).raiseLimited 0x1102 (routeNo f.route) second [routeNo f.route]
      Does (.close t f) s m' ∧ Does (.keepalive t f) s m' ∧ (∀ l, Does (.read t f l) s m')
      ∧ (∀ idx sub staged b, Does (.write t f idx sub staged b) s m')
      ∧ (∀ idx sub at_ b, Does (.timedWrite t f idx sub at_ b) s m')
      ∧ (∀ fid at_, Does (.functionStart t f fid at_) s m' ∧ Does (.functionStop t f fid at_) s m')
      ∧ (∀ first, Does (.eventAck t f first) s m') ∧ (∀ tid o n d, Does (.bulkData t f tid o n d) s m')
      ∧ Does (.forcedReset t f) s m' ∧ ∀ op, Does (.unknownOpcode t f op) s m')

/-! ### Named writes (ch. 16, Table 20.8, Table 21.11) -/

/-- R382, R395: a write to a reset object that is accepted is answered at once and noted, object and value, for the next edge; nothing
else happens. R382, R395: what a reset object names returns to its default, and no other object changes. R395: clearing the flags of
1830:00 zeroes the coast and the forced switch flag of every PLL (1810-1815:05, 07), and nothing else of the PLLs. -/
def Obligations.StatisticsResetsZeroWhatTheyName : Prop :=
  (
    ∀ (s : State) (t : Nanos) (f : Frame) (x : Session), s.serves → (s.m.at t).expects f x →
      let takes (c : Instr) (idx sub v : Nat) (b : Octets) : Prop :=
        (s.m.at t).accepts f x idx sub b →
          Does c s ((((s.m.at t).heardFrom f).modPreud fun p => { p with resets := p.resets ++ [(idx, v)] }).replied f x.slot 0x11
            (done .empty))
      (∀ v < 2 ^ 32, takes (.ingestResetStatistics t f v) 0x4201 0 v (beOctets 4 v)
        ∧ takes (.compositionResetStatistics t f v) 0x4F00 0 v (beOctets 4 v))
      ∧ (∀ v < 2 ^ 16, takes (.flowResetStatistics t f v) 0x3600 0 v (beOctets 2 v))
      ∧ (∀ v < 2 ^ 8, takes (.encodeResetStatistics t f v) 0x5251 0 v (beOctets 1 v)
        ∧ takes (.rateControlResetStatistics t f v) 0x5680 0 v (beOctets 1 v)
        ∧ takes (.outputResetStatistics t f v) 0x5A10 0 v (beOctets 1 v)
        ∧ takes (.decodeResetStatistics t f v) 0x5D10 0 v (beOctets 1 v)
        ∧ takes (.replayResetStatistics t f v) 0x6300 0 v (beOctets 1 v)
        ∧ takes (.portQueueResetStatistics t f v) 0x3A10 0 v (beOctets 1 v)
        ∧ takes (.memoryResetStatistics t f v) 0x21C0 0 v (beOctets 1 v)
        ∧ takes (.laneResetStatistics t f v) 0x2700 0 v (beOctets 1 v)
        ∧ takes (.settResetStatistics t f v) 0x2910 0 v (beOctets 1 v))
      ∧ (∀ r : Fin 128, takes (.refreshResetCounters t f r) (0x5380 + r.val) 0x0A 1 [1])
      ∧ takes (.hardwareResetStatistics t f) 0x1D80 0 1 [1] ∧ takes (.twinResetStatistics t f) 0x7081 0 1 [1]
      ∧ takes (.eventResetStatistics t f) 0x7420 0 1 [1] ∧ takes (.clearFlags t f) 0x1830 0 1 [1])
  ∧ (
    ∀ (m : Mod) (idx v i sub : Nat), idx ≠ 0x1830 → i ≠ 0x1000 →
      ((∃ x ∈ resetTargets idx v, x.1 ≤ i ∧ i ≤ x.2.1 ∧ x.2.2.1 ≤ sub ∧ sub ≤ x.2.2.2) → sub < 256 →
        (m.zero idx v).get i sub = m.objs.default i sub)
      ∧ ((∀ x ∈ resetTargets idx v, ¬(x.1 ≤ i ∧ i ≤ x.2.1 ∧ x.2.2.1 ≤ sub ∧ sub ≤ x.2.2.2)) → sub < 256 →
        (m.zero idx v).get i sub = m.get i sub))
  ∧ (
    ∀ (m : Mod) (v : Nat) (k : Fin 6), (m.zero 0x1830 v).n (0x1810 + k.val) 5 = 0 ∧ (m.zero 0x1830 v).n (0x1810 + k.val) 7 = 0
      ∧ ∀ sub < 256, sub ≠ 5 → sub ≠ 7 → (m.zero 0x1830 v).get (0x1810 + k.val) sub = m.get (0x1810 + k.val) sub)

/-- R4, R19: an accepted untimed write of an RT object waits for the next base tick edge, and is answered at once; a clip start makes
its slot WAITING and a handover reads as pending at once (R189, R241). The stop of an export ends it as soon as it is accepted (R192).
-/
def Obligations.CommandWritesWaitForTheirTick : Prop :=
  ∀ (s : State) (t : Nanos) (f : Frame) (x : Session), s.serves → (s.m.at t).expects f x →
    let waits (c : Instr) (idx sub v : Nat) (b : Octets) (also : Mod → Prop) : Prop :=
      (s.m.at t).accepts f x idx sub b →
        Completes c s fun m' =>
          (⟨idx, sub, .num v, (s.m.at t).nextApply 1⟩ : RtWrite) ∈ m'.preud.rt
            ∧ Output.reply f.route f.peer f.peerPort f.sid 0x11 f.req (done .empty) ∈ m'.out ∧ also m'
    waits (.stepCommand t f) 0x1433 0 1 [1] (fun _ => True)
    ∧ (∀ n : Fin 32, ((s.m.at t).commitPending n.val = false →
        waits (.veneerCommitCommand t f n) (0x4900 + n.val) 1 1 [1] fun _ => True)
      ∧ waits (.veneerCommitCancel t f n) (0x4900 + n.val) 1 2 [2] fun _ => True)
    ∧ (∀ k : Fin 16, waits (.clipStart t f k) (0x6200 + k.val) 1 1 [1] (fun m' => m'.n (0x6240 + k.val) 1 = 1)
      ∧ ((s.m.at t).n (0x6240 + k.val) 1 ≠ 3 → waits (.clipStop t f k) (0x6200 + k.val) 1 2 [2] fun _ => True)
      ∧ ((s.m.at t).n (0x6240 + k.val) 1 = 3 → (s.m.at t).accepts f x (0x6200 + k.val) 1 [2] →
        Does (.clipStop t f k) s ((((s.m.at t).heardFrom f).stopClip k.val).replied f x.slot 0x11 (done .empty)))
      ∧ waits (.clipClear t f k) (0x6200 + k.val) 1 0 [0] fun _ => True)
    ∧ waits (.handoverPlain t f) 0x7010 0 1 [1] (fun m' => m'.n 0x7010 0 = 1)
    ∧ waits (.handoverWithRestart t f) 0x7010 0 2 [2] (fun m' => m'.n 0x7010 0 = 1)
    ∧ (∀ q : Fin 9, waits (.retest t f q) (0x2400 + q.val) 0x0A 1 [1] fun _ => True)
    ∧ (∀ (k : Fin 16) (v : Nat), v < 2 ^ 32 →
      waits (.checkRunningValueWrite t f k v) (0x7440 + k.val) 7 v (beOctets 4 v) fun _ => True)
    ∧ (∀ (g : Fin 32) (v : Nat), v < 2 ^ 32 → waits (.groupRateWrite t f g v) (0x5600 + g.val) 1 v (beOctets 4 v) fun _ => True)
    ∧ ∀ (e : Fin 32768) (v : Nat), v < 2 ^ 32 →
      waits (.legMaskWrite t f e v) (0x3100 + e.val / 32) (1 + e.val % 32) v (beOctets 4 v) fun _ => True

/-- R4: an accepted write of an object that is no RT object has its effect at once, and is answered: the frequency counter runs (R292),
a domain's run is queued (R293), an error is injected (R277), a test runs (R371), a flow entry is in the table or not (R199, R200), and
each value written is the value read. -/
def Obligations.OtherWritesActAtOnce : Prop :=
  ∀ (s : State) (t : Nanos) (f : Frame) (x : Session), s.serves → (s.m.at t).expects f x →
    let acts (c : Instr) (idx sub : Nat) (b : Octets) (also : Mod → Prop) : Prop :=
      (s.m.at t).accepts f x idx sub b →
        Completes c s fun m' => Output.reply f.route f.peer f.peerPort f.sid 0x11 f.req (done .empty) ∈ m'.out ∧ also m'
    acts (.ledTest t f) 0x1010 2 [1] (fun m' => m'.hw.ledTestAt = some (s.m.at t).ctr)
    ∧ acts (.frequencyCounterStart t f) 0x1840 4 [1] (fun m' => m'.n 0x1840 5 = 1)
    ∧ (∀ d : Fin 28, (isDramDomain d.val = true → (s.m.at t).dimmIn (d.val - 10) = true) →
        (d.val ≤ 9 → (s.m.at t).domainLive d.val = true) → (∀ y ∈ (s.m.at t).cal.queued, y.1 ≠ d.val) →
        (d.val = 26 → (s.m.at t).n 0x1800 2 ≠ 3) →
        acts (.calibrate t f d.val) 0x1C01 0 (beOctets 1 d.val) fun m' => (d.val, trigCommand) ∈ m'.cal.queued)
    ∧ acts (.calibrate t f 0xFF) 0x1C01 0 [0xFF] (fun m' => ∀ d : Fin 28,
        (isDramDomain d.val = true → (s.m.at t).dimmIn (d.val - 10) = true) → (d.val ≤ 9 → (s.m.at t).domainLive d.val = true) →
        (d.val = 26 → (s.m.at t).n 0x1800 2 ≠ 3) → ∃ y ∈ m'.cal.queued, y.1 = d.val)
    ∧ (∀ (q : Fin 9) (i : CageModule), (s.m.at t).n (0x2440 + q.val) 2 = 4 → ((s.m.at t).cage q.val).info = some i → i.optic = true →
        (s.m.at t).takesModule q.val i = true →
        acts (.cagePowerReset t f q) (0x2400 + q.val) 0x0B [1] fun m' => m'.n (0x2440 + q.val) 2 = 2)
    ∧ (∀ l : Fin 38, (s.m.at t).generates l.val = true → (s.m.at t).n (0x2500 + l.val) 8 < 2 ^ 32 - 1 →
        acts (.injectOneError t f l) (0x2500 + l.val) 3 [1] fun m' => m'.n (0x2500 + l.val) 8 = (s.m.at t).n (0x2500 + l.val) 8 + 1)
    ∧ (∀ (l : Fin 38) (k : Nat), k < 256 →
        acts (.injectionInterval t f l k) (0x2500 + l.val) 4 (beOctets 1 k) fun m' => m'.n (0x2500 + l.val) 4 = k)
    ∧ acts (.builtInTestStart t f) 0x7500 3 [1]
      (fun m' => m'.n 0x7500 4 = 1 ∧ m'.hw.test = some ((s.m.at t).n 0x7500 1, (s.m.at t).n 0x7500 2, (s.m.at t).now))
    ∧ ((s.m.at t).hw.test ≠ none → acts (.builtInTestAbort t f) 0x7500 8 [1] fun m' => m'.n 0x7500 5 = 3 ∧ m'.hw.test = none)
    ∧ (∀ v < 2, acts (.servicePortEnable t f v) 0x2610 1 (beOctets 1 v) fun m' => m'.n 0x2610 1 = v)
    ∧ (∀ v < 256, acts (.moduleRoleWrite t f v) 0x1020 0 (beOctets 1 v) fun m' => m'.n 0x1020 0 = v)
    ∧ (∀ key : Octets, acts (.komundKeyWrite t f none key) 0x7000 0x0C key (fun m' => m'.octets 0x7000 0x0C = key ∧ m'.n 0x7000 0x0D = 1)
      ∧ ∀ k : Fin 64, acts (.komundKeyWrite t f (some k) key) (0x7100 + k.val) 6 key fun m' => m'.octets (0x7100 + k.val) 6 = key)
    ∧ (∀ k : Fin 16, acts (.checkChannelEnable t f k) (0x7440 + k.val) 0x0A [1] fun m' => m'.n (0x7440 + k.val) 0x0A = 1)
    ∧ (∀ k : Fin 64, acts (.witnessSlotEnable t f k) (0x7100 + k.val) 1 [1] fun m' => m'.n (0x7100 + k.val) 1 = 1)
    ∧ (∀ (b : Fin 2) (p : Nat), p < 256 → acts (.backplaneGeneratorWrite t f b p) (0x2524 + b.val) 1 (beOctets 1 p)
      fun m' => m'.n (0x2524 + b.val) 1 = p)
    ∧ acts (.flowEntryEnable t f) 0x3010 2 [1] (fun m' => m'.flowOn x.selector = true)
    ∧ acts (.flowEntryDisable t f) 0x3010 2 [0] (fun m' => m'.flowOn x.selector = false)

/-- R322: SAVE puts every Image object's value in force into an image, with its time, length and CRC-32C, and marks it valid, ev 1105
with action 0; ERASE empties it, ev 1105 with action 2; LOAD of an image whose records pass their checks leaves the module as the
image's records, written one by one, leave it, its session selects the entry selected last (R379), 1180:06 names the image, ev 1105 with
action 1. R339: confirming a trial makes the running image the preferred one and confirmed, raises the rollback floor to the floor the
image carries and ends the trial, ev 1204; with no trial running the write changes nothing. R35, R335, R336, R339: a reset by command,
an activation of the trial image, a watchdog reset, and a chassis reset held low for at least 1 ms begin the next boot: the boot epoch
advances by one, event numbers begin at 0, no session, change set, transfer or timed launch is left. -/
def Obligations.ImagesTrialsAndResets : Prop :=
  (
    ∀ (s : State) (t : Nanos) (f : Frame) (x : Session) (i : Fin 8), s.serves → (s.m.at t).expects f x →
      let o := 0x1181 + i.val
      let answered (m' : Mod) : Prop := Output.reply f.route f.peer f.peerPort f.sid 0x11 f.req (done .empty) ∈ m'.out
      ((s.m.at t).accepts f x 0x1180 2 [BitVec.ofNat 8 i.val] →
        let b := imageOctets ((s.m.at t).heardFrom f).imageRecords
        Completes (.imageSave t f i.val) s fun m' => m'.octets o 5 = b ∧ m'.n o 2 = (s.m.at t).now ∧ m'.n o 3 = b.length
          ∧ m'.n o 4 = crc32c (((s.m.at t).heardFrom f).imageRecords.flatMap ImageRec.octets)
          ∧ (m'.n 0x1180 5).testBit i.val = true ∧ m'.told 0x1105 i.val [i.val, 0] ∧ answered m')
      ∧ ((s.m.at t).accepts f x 0x1180 4 [BitVec.ofNat 8 i.val] →
        Completes (.imageErase t f i.val) s fun m' => m'.octets o 5 = [] ∧ m'.n o 3 = 0
          ∧ (m'.n 0x1180 5).testBit i.val = false ∧ m'.told 0x1105 i.val [i.val, 2] ∧ answered m')
      ∧ ∀ (l : List ImageRec) (m1 : Mod) (w1 : Writer), (s.m.at t).accepts f x 0x1180 3 [BitVec.ofNat 8 i.val] →
        ((s.m.at t).heardFrom f).loadable = true → parseImage ((s.m.at t).octets o 5) = some l →
        (((s.m.at t).heardFrom f).clearFlows.modPreud fun p => { p with awaitBoot := [] }).loadRecords (loader f.sid f.route) false l
          = .ok (m1, w1) → m1.crossFault = none →
        let m2 := ((m1.put 0x1180 6 i.val).putFlag 0x1180 7 (m1.preud.awaitBoot ≠ [])).raise 0x1105 i.val [i.val, 1]
        Does (.imageLoad t f i.val) s ((m2.modSession f.sid fun y => { y with selector := w1.selector }).replied f x.slot 0x11
          (done .empty)))
  ∧ (
    ∀ (s : State) (t : Nanos) (f : Frame) (x : Session), s.serves → (s.m.at t).expects f x →
      (s.m.at t).accepts f x 0x1210 3 [1] →
      let i := (s.m.at t).n 0x1200 1
      ((s.m.at t).hw.trialFrom ≠ none →
        Completes (.confirmTrial t f) s fun m' =>
          m'.n 0x1200 7 = i ∧ (i ≤ 1 → m'.n 0x1200 (5 + i) = 2)
            ∧ m'.n 0x1200 8 = max ((s.m.at t).n 0x1200 8) (nth (s.m.at t).hw.images i).floor
            ∧ m'.n 0x1210 5 = 0 ∧ m'.hw.trialFrom = none ∧ m'.told 0x1204 0 [i]
            ∧ Output.reply f.route f.peer f.peerPort f.sid 0x11 f.req (done .empty) ∈ m'.out)
      ∧ ((s.m.at t).hw.trialFrom = none → Does (.confirmTrial t f) s (((s.m.at t).heardFrom f).replied f x.slot 0x11 (done .empty))))
  ∧ (
    ∀ (s : State) (t : Nanos), s.serves →
      let boots (c : Instr) : Prop := ∃ s', exec c s = .next s' ∧ s'.events = ⟨s.events.epoch + 1, 0, []⟩ ∧ s'.pending = s.pending
        ∧ s'.m.preud.sessions = [] ∧ s'.m.preud.changeSets = [] ∧ s'.m.preud.transfers = [] ∧ s'.m.preud.timed = []
        ∧ s'.m.rebooting = false
      (∀ (f : Frame) (x : Session), (s.m.at t).expects f x →
        ((s.m.at t).accepts f x 0x1030 1 [1] → boots (.resetCommand t f)) ∧ ((s.m.at t).accepts f x 0x1030 1 [2] → boots (.forcedReset t f))
        ∧ ((s.m.at t).accepts f x 0x1210 2 [1] → boots (.activateTrial t f)))
      ∧ (∀ cls : Fin 13, boots (.watchdogExpiry t cls))
      ∧ (∀ (low : Nat) (b : BootInfo), 1000000 ≤ low → boots (.chassisReset t low b)))

/-- R306: a role key written is kept, and every session of that role ends once the write is answered. R300, R306: an address written
takes effect once the write is answered; a change ends every session on its route: 1100:01-03 that of the backplane, 04-06 that of the
service port, 07-0C the in-band one. -/
def Obligations.KeysAndAddressesEndSessions : Prop :=
  (
    ∀ (s : State) (t : Nanos) (f : Frame) (x : Session) (role : Fin 4) (key : Octets), s.serves → (s.m.at t).expects f x →
      (s.m.at t).accepts f x 0x1110 (1 + role.val) key →
      Completes (.roleKeyWrite t f role key) s fun m' =>
        m'.octets 0x1110 (1 + role.val) = key ∧ (∀ y ∈ m'.preud.sessions, y.role ≠ role.val)
          ∧ (∀ y ∈ (s.m.at t).preud.sessions, y.role ≠ role.val → ∃ z ∈ m'.preud.sessions, z.sid = y.sid)
          ∧ Output.reply f.route f.peer f.peerPort f.sid 0x11 f.req (done .empty) ∈ m'.out)
  ∧ (
    ∀ (s : State) (t : Nanos) (f : Frame) (x : Session) (sub : Nat) (b : Octets) (fl : Field) (v : Val), s.serves →
      (s.m.at t).expects f x → 1 ≤ sub → sub ≤ 0x0C →
      ((s.m.at t).heardFrom f).writeChecked (x.writer f.route false) 0x1100 sub .direct b = .ok (fl, v) →
      Completes (.addressingWrite t f sub b) s fun m' =>
        m'.get 0x1100 sub = v
          ∧ ((s.m.at t).get 0x1100 sub ≠ v → ∀ y ∈ m'.preud.sessions,
              routeNo y.route ≠ if sub ≤ 3 then 0 else if sub ≤ 6 then 1 else 2)
          ∧ Output.reply f.route f.peer f.peerPort f.sid 0x11 f.req (done .empty) ∈ m'.out)

/-! ### Ticks, ingest, coding, output and decode (ch. 2-10) -/

/-- R17, R19, R35: the edge of a tick completes in a module that runs: the events of the tick that ended enter the log with the TIME of
its edge, numbered on from the last. R22, R26, R70, R311: a timed write whose tick has come takes effect by itself, is counted and waits
no longer; a timed stop makes its channel STOPPING and a timed start its decode engine RUNNING; a deferred veneer commit past its limit
is abandoned, ev 4802; a STOPPING function whose work has drained is STOPPED; before its time each of them does nothing. -/
def Obligations.EdgesAndLaunchesTakeTheirTurn : Prop :=
  (
    ∀ s : State, s.serves →
      ∃ s', exec .baseTickEdge s = .next s' ∧ s'.pending = s.pending ∧ s'.events.epoch = s.events.epoch
        ∧ s'.events.next = s.events.next + s.m.closeTick.raised.length
        ∧ s'.events.log = (s.events.log ++ numberEvents s.events.epoch (s.m.fam.edge s.m.tick) s.events.next
            (sortRaised s.m.closeTick.raised)).drop (s.events.log.length + s.m.closeTick.raised.length - 1048576))
  ∧ (
    ∀ (s : State) (t : Nanos), s.serves →
      (∀ w : TimedWrite, w ∈ (s.m.at t).preud.timed → w.idx ≠ 0x1433 → w.idx ≠ 0x1440 → w.sub < 256 →
        w.applyTick ≤ (s.m.at t).fam.tickOf (s.m.at t).now →
        (∀ y ∈ (s.m.at t).preud.timed, y.idx = w.idx → y.sub = w.sub → y.applyTick = w.applyTick → y = w) →
        Completes (.timedLaunchApply t 0 w.idx w.sub w.applyTick) s fun m' =>
          w ∉ m'.preud.timed ∧ (∀ y ∈ (s.m.at t).preud.timed, y ≠ w → y ∈ m'.preud.timed)
            ∧ m'.n 0x1440 2 = ((s.m.at t).bump 0x1440 2).n 0x1440 2
            ∧ (0x5400 ≤ w.idx → w.idx ≤ 0x547F → m'.get w.idx w.sub = w.value))
      ∧ (∀ (k sub : Nat) (x : FnCmd), k ≠ 0 → x ∈ (s.m.at t).preud.fnCmds → x.named ≠ none →
        x.applyTick ≤ (s.m.at t).fam.tickOf (s.m.at t).now →
        (∀ y ∈ (s.m.at t).preud.fnCmds, y.fid = x.fid → y.named ≠ none → y.applyTick = x.applyTick → y = x) →
        (within x.fid 0x100 0x11F = true → x.cmd = 2 → (s.m.at t).fn x.fid = running →
          Completes (.timedLaunchApply t k x.fid sub x.applyTick) s fun m' => m'.fn x.fid = stopping
            ∧ x ∉ m'.preud.fnCmds ∧ ∀ y ∈ (s.m.at t).preud.fnCmds, y ≠ x → y ∈ m'.preud.fnCmds)
        ∧ (within x.fid 0x300 0x301 = true → x.cmd = 1 → (s.m.at t).fn x.fid ≠ stopping →
          Completes (.timedLaunchApply t k x.fid sub x.applyTick) s fun m' => m'.fn x.fid = running
            ∧ x ∉ m'.preud.fnCmds ∧ ∀ y ∈ (s.m.at t).preud.fnCmds, y ≠ x → y ∈ m'.preud.fnCmds))
      ∧ (∀ n : Fin 32,
        ((s.m.at t).n (0x4900 + n.val) 1 = 1 → (s.m.at t).n (0x4900 + n.val) 2 < ((s.m.at t).chan n.val).deferred →
          Completes (.veneerCommitAbandon t n) s fun m' => m'.n (0x4900 + n.val) 1 = 0 ∧ (m'.chan n.val).deferred = 0
            ∧ m'.n (0x4900 + n.val) 5 = ((s.m.at t).bump (0x4900 + n.val) 5).n (0x4900 + n.val) 5 ∧ m'.told 0x4802 n.val [n.val])
        ∧ ((s.m.at t).n (0x4900 + n.val) 1 ≠ 1 ∨ ((s.m.at t).chan n.val).deferred ≤ (s.m.at t).n (0x4900 + n.val) 2 →
          Does (.veneerCommitAbandon t n) s (s.m.at t)))
      ∧ ∀ fid : Nat, fnExists fid = true →
        ((s.m.at t).fn fid = stopping → (s.m.at t).drained fid = true → Completes (.stoppingEnd t fid) s fun m' => m'.fn fid = stopped)
        ∧ ((s.m.at t).fn fid ≠ stopping ∨ (s.m.at t).drained fid = false → Does (.stoppingEnd t fid) s (s.m.at t)))

/-- R44, R45, R49: a packet that the steps of R49 place goes into the reception of its picture, its number is held and its path UP; a
further copy counts as a duplicate or a skew violation; one that R49 discards counts in the counter of its cause and leaves nothing; a
target without a flow takes none. R45, R52: a path of a channel without a packet for its timeout goes DOWN, ev 4003; a channel under
hold whose pictures reach the limit passes on black from then on, ev 400A; before that, and for a live layer's path, nothing happens. -/
def Obligations.VideoFlowsAreReceived : Prop :=
  (
    ∀ (s : State) (t : Nanos) (g : VideoTarget) (path : Path) (p : VideoPkt), s.serves →
      let m := s.m.at t
      let v := m.video g
      let kept := keptNumbers m.now (m.skewWindow (targetChan g)) v.seen
      let counted (sub : Nat) (m' : Mod) : Prop :=
        ∀ n : Fin 32, g = .channel n → m'.n (0x4140 + n.val) sub = (m.bump (0x4140 + n.val) sub).n (0x4140 + n.val) sub
      (v.runs = [] ∨ m.takesPackets g = false → Does (.videoPacket t g path p) s m)
      ∧ (v.runs ≠ [] → m.takesPackets g = true →
        (p.bufferFull = true → Completes (.videoPacket t g path p) s fun m' => counted 0x16 m'
          ∧ m'.n 0x4200 3 = (m.bump 0x4200 3).n 0x4200 3 ∧ (m'.video g).seen = v.seen ∧ (m'.video g).receptions = v.receptions)
        ∧ (p.bufferFull = false → ∀ y, kept.find? (fun y => y.seq = p.seq) = some y →
          Completes (.videoPacket t g path p) s fun m' => (m'.video g).receptions = v.receptions ∧ (m'.video g).seen = kept
            ∧ counted (if m.skewWindow (targetChan g) < m.now - y.at_ then 6 else 5) m')
        ∧ (p.bufferFull = false → (∀ y ∈ kept, y.seq ≠ p.seq) →
          (∀ sub : Nat, (m.judge g v p = .malformed ∧ sub = 9) ∨ (m.judge g v p = .mismatchedTime ∧ sub = 8)
              ∨ (m.judge g v p = .fieldBit ∧ sub = 0x0A) ∨ (m.judge g v p = .older ∧ sub = 7) →
            Completes (.videoPacket t g path p) s fun m' => counted sub m' ∧ (m'.video g).seen = kept
              ∧ (m'.video g).receptions = v.receptions)
          ∧ ∀ (f : Nat) (r : Run), m.judge g v p = .placed f → v.runOf f = some r → (splitLate r.grid f m.tick p.srds).1 ≠ [] →
            Completes (.videoPacket t g path p) s fun m' => (⟨p.seq, m.now, path⟩ : Seen) ∈ (m'.video g).seen
              ∧ counted (if path = .red then 3 else 4) m'
              ∧ (path = .red → (m'.video g).redAt = some m.now) ∧ (path = .blue → (m'.video g).blueAt = some m.now)
              ∧ (∀ n : Fin 32, g = .channel n → m'.flag (0x4100 + n.val) (if path = .red then 5 else 6) = true)
              ∧ ∃ x ∈ (m'.video g).receptions, x.frame = f ∧ ∀ z ∈ p.srds,
                m.tick < r.grid.receipt f (courseOfLine r.grid.fmt.size z.row) →
                (⟨z.row, z.offset, srdPixels r.grid.fmt z, z.samples⟩ : Srd) ∈ x.srds)))
  ∧ (
    ∀ (s : State) (t : Nanos) (n : Fin 32), s.serves →
      let m := s.m.at t
      (∀ path : Path,
        let last := if path = .red then (m.chan n.val).video.redAt else (m.chan n.val).video.blueAt
        let sub := if path = .red then 5 else 6
        (∀ a : Nanos, last = some a → m.flag (0x4100 + n.val) sub = true → a + m.n (0x4000 + n.val) 0x0D ≤ m.now →
          Completes (.pathTimeout t (.channel n) path) s fun m' => m'.flag (0x4100 + n.val) sub = false
            ∧ m'.condSet 0x4003 (2 * n.val + (sub - 5)) = true)
        ∧ ((∀ a : Nanos, last = some a → m.flag (0x4100 + n.val) sub = false ∨ m.now < a + m.n (0x4000 + n.val) 0x0D) →
          Does (.pathTimeout t (.channel n) path) s m)
        ∧ ∀ l : Fin 4, Does (.pathTimeout t (.layer n l) path) s m)
      ∧ let r := (m.chan n.val).video.runs.getLast?.getD default
        let limit := (m.policySnap n.val m.tick).hold
        let due : Prop := r.lost = true ∧ (m.policySnap n.val m.tick).policy = 0 ∧ limit ≠ 0 ∧ limit ≤ r.heldPics ∧ r.holdReached = false
        (due → Completes (.holdLimitReached t n) s fun m' => m'.told 0x400A n.val [n.val]
          ∧ ∃ x ∈ (m'.chan n.val).video.runs, x.grid = r.grid ∧ x.holdReached = true)
        ∧ (¬due → Does (.holdLimitReached t n) s m))

/-- R44, R56, R57: an audio packet's samples not yet passed on enter the ring of its flow and its number is held; a further copy counts
as a duplicate or a skew violation; a flow without samples for its loss time is lost, ev 4005, and restored once they have come without
a gap for that time, ev 4006. R44, R58: an ancillary packet ends its flow's loss, ev 4008; its items join those of the picture its
timestamp names while course 33 of that has not been received, as far as they fit, and one for no such picture counts as late; a flow is
lost once four pictures have passed without one, ev 4007. -/
def Obligations.AudioAndAncillaryFlowsAreMerged : Prop :=
  (
    ∀ (s : State) (t : Nanos) (n : Fin 32) (flow : Fin 4), s.serves →
      let m := s.m.at t
      let a := nth (m.chan n.val).audio flow.val
      let kept := keptNumbers m.now (m.skewWindow n.val) a.seen
      let time := m.n (0x4040 + n.val) 0x1A
      flow.val < (m.chan n.val).audio.length →
      (∀ (path : Path) (p : AudioPkt),
        let takes : Prop := (m.chan n.val).video.runs ≠ [] ∧ m.audioBound n.val flow.val = true
          ∧ p.payloadType = m.n (0x4040 + n.val) (audioSub flow.val 3)
        (¬takes → Does (.audioPacket t n flow path p) s m)
        ∧ (takes →
          (∀ y, kept.find? (fun y => y.seq = p.seq) = some y →
            Completes (.audioPacket t n flow path p) s fun m' =>
              let sub := if m.skewWindow n.val < m.now - y.at_ then 6 else 5
              m'.n (0x4140 + n.val) sub = (m.bump (0x4140 + n.val) sub).n (0x4140 + n.val) sub
                ∧ (nth (m'.chan n.val).audio flow.val).lastAt = m.now ∧ (nth (m'.chan n.val).audio flow.val).ring = a.ring)
          ∧ ((∀ y ∈ kept, y.seq ≠ p.seq) →
            Completes (.audioPacket t n flow path p) s fun m' =>
              let a' := nth (m'.chan n.val).audio flow.val
              let first := m.sampleOfTimestamp p.timestamp
              a'.lastAt = m.now ∧ ∀ i, i < p.samples.length → m.audioSentTo n.val flow.val < first + i →
                (first + i, nth p.samples i) ∈ a'.ring ∧ (⟨p.seq, m.now, path⟩ : Seen) ∈ a'.seen)))
      ∧ (let due : Prop := m.fn (chanFid n.val) = running ∧ m.audioBound n.val flow.val = true ∧ a.lost = false ∧ a.lastAt + time ≤ m.now
        (due → Completes (.audioFlowLoss t n flow) s fun m' =>
          (nth (m'.chan n.val).audio flow.val).lost = true ∧ m'.condSet 0x4005 (4 * n.val + flow.val) = true)
        ∧ (¬due → Does (.audioFlowLoss t n flow) s m))
      ∧ (∀ since : Nanos, a.runSince = some since →
        let due : Prop := a.lost = true ∧ since + time ≤ m.now ∧ time * 48000 ≤ (a.runNext - a.runFirst) * second
        (due → Completes (.audioFlowRestore t n flow) s fun m' =>
          (nth (m'.chan n.val).audio flow.val).lost = false ∧ m'.condSet 0x4005 (4 * n.val + flow.val) = false
            ∧ m'.told 0x4006 (4 * n.val + flow.val) [n.val, flow.val])
        ∧ (¬due → Does (.audioFlowRestore t n flow) s m))
      ∧ (a.runSince = none → Does (.audioFlowRestore t n flow) s m))
  ∧ (
    ∀ (s : State) (t : Nanos) (n : Fin 32) (flow : Fin 2), s.serves →
      let m := s.m.at t
      let v := (m.chan n.val).video
      let a := nth (m.chan n.val).anc flow.val
      let kept := keptNumbers m.now (m.skewWindow n.val) a.seen
      flow.val < (m.chan n.val).anc.length →
      (∀ (path : Path) (p : AncPkt),
        let takes : Prop := v.runs ≠ [] ∧ p.payloadType = m.n (0x4080 + n.val) (3 * flow.val + 3)
        let heard (m' : Mod) : Prop := (nth (m'.chan n.val).anc flow.val).lost = false
          ∧ (nth (m'.chan n.val).anc flow.val).quietFrom = v.current m.tick + 34 * m.chanStep n.val
          ∧ (a.lost = true → m'.told 0x4008 (2 * n.val + flow.val) [n.val, flow.val])
        (¬takes → Does (.ancPacket t n flow path p) s m)
        ∧ (takes →
          (∀ y, kept.find? (fun y => y.seq = p.seq) = some y →
            Completes (.ancPacket t n flow path p) s fun m' => heard m' ∧ (m'.chan n.val).ancData = (m.chan n.val).ancData)
          ∧ ((∀ y ∈ kept, y.seq ≠ p.seq) →
            (∀ (f : Nat) (r : Run), m.frameNamed v p.timestamp = some f → v.runOf f = some r → m.tick < r.grid.receipt f 33 →
              Completes (.ancPacket t n flow path p) s fun m' => heard m'
                ∧ (⟨p.seq, m.now, path⟩ : Seen) ∈ (nth (m'.chan n.val).anc flow.val).seen
                ∧ (f, (takeAncItems (((m.chan n.val).ancData.filter fun (x : Nat × List AncItem) => x.1 = f).flatMap fun x => x.2)
                    p.items).1) ∈ (m'.chan n.val).ancData)
            ∧ ((∀ (f : Nat) (r : Run), m.frameNamed v p.timestamp = some f → v.runOf f = some r → r.grid.receipt f 33 ≤ m.tick) →
              Completes (.ancPacket t n flow path p) s fun m' => heard m'
                ∧ m'.n (0x4140 + n.val) 0x13 = (m.bump (0x4140 + n.val) 0x13).n (0x4140 + n.val) 0x13))))
      ∧ let due : Prop := m.fn (chanFid n.val) = running
          ∧ (m.n (0x4080 + n.val) (3 * flow.val + 1) ≠ 0xFFFF ∨ m.n (0x4080 + n.val) (3 * flow.val + 2) ≠ 0xFFFF) ∧ a.lost = false
          ∧ a.quietFrom + 4 * (34 * m.chanStep n.val) ≤ v.current m.tick
        (due → Completes (.ancFlowLoss t n flow) s fun m' =>
          (nth (m'.chan n.val).anc flow.val).lost = true ∧ m'.condSet 0x4007 (2 * n.val + flow.val) = true)
        ∧ (¬due → Does (.ancFlowLoss t n flow) s m))

/-- R80, R135: a lane finishes a CTU of the tile course it codes: one that passes the test of R135 is kept in its slice, with its bits;
one that does not leaves its slice exhausted to its end. A lane with nothing to code finishes none, nor a CTU of a tile course whose
turn it is not. R97, R98: at the cutoff every CTU that a lane has left in the windows that end at the next edge is substituted, and
counted with its slice; before it nothing is. -/
def Obligations.CtusAreCodedOrSubstituted : Prop :=
  (
    ∀ (s : State) (t : Nanos) (pipe lane : Fin 8) (r : Fin 128) (tile : Fin 8), s.serves →
      ((∀ k : LaneTask, (s.m.at t).taskOf pipe.val lane.val = some k → k.r ≠ r.val ∨ k.tile ≠ tile.val) →
        Does (.ctuComplete t pipe lane r tile) s (s.m.at t))
      ∧ ∀ (k : LaneTask) (c : Coding), (s.m.at t).taskOf pipe.val lane.val = some k → k.r = r.val → k.tile = tile.val →
        ((s.m.at t).rend k.r).coding.find? (fun c => c.frame = k.frame) = some c → k.tile < c.slices.length →
        let x := nth c.slices k.tile
        let site := (s.m.at t).site k.r c k.tile
        let bits := if x.holes.contains x.done then Config.substituteBits (site.at x.before) else Config.ctuBits (site.at x.before)
        x.tile = k.tile → x.done < x.ctus → x.exhausted = false →
        Completes (.ctuComplete t pipe lane r tile) s fun m' =>
          ∃ c' ∈ (m'.rend k.r).coding, c'.frame = c.frame ∧ c'.endTick = c.endTick ∧ ∃ y ∈ c'.slices, y.tile = k.tile ∧
            if x.keeps (ctuFloor site.cfg.rung) bits then y.done = x.done + 1 ∧ y.bits = x.bits + bits ∧ y.exhausted = false
            else y.done = x.ctus ∧ y.exhausted = true)
  ∧ (
    ∀ (s : State) (t : Nanos) (pipe lane : Fin 8), s.serves →
      ((s.m.at t).now < (s.m.at t).fam.cutoff ((s.m.at t).tick + 1) → Does (.lateCtuCutoff t pipe lane) s (s.m.at t))
      ∧ ((s.m.at t).fam.cutoff ((s.m.at t).tick + 1) ≤ (s.m.at t).now →
        (∀ r, (((s.m.at t).rend r).coding.map fun c => c.frame).Nodup
          ∧ ∀ c ∈ ((s.m.at t).rend r).coding, c.slices.map (fun x => x.tile) = List.range c.slices.length) →
        Completes (.lateCtuCutoff t pipe lane) s fun m' =>
          ∀ z ∈ (s.m.at t).laneTasks, z.pipe = pipe.val → z.lane = lane.val → z.endTick = (s.m.at t).tick + 1 →
            ∀ c ∈ ((s.m.at t).rend z.r).coding, c.frame = z.frame →
              ∃ c' ∈ (m'.rend z.r).coding, c'.frame = c.frame ∧ c'.endTick = c.endTick ∧ ∃ y ∈ c'.slices, y.tile = z.tile ∧ y.done = y.ctus
                ∧ y.lateCount = (nth c.slices z.tile).lateCount + ((nth c.slices z.tile).ctus - (nth c.slices z.tile).done)))

/-- R135, R136: taking a CTU, or substituting those left at the cutoff, never takes a slice past its budget, where the CTUs still to
come fit in it at their least size. -/
def Obligations.SlicesStayWithinTheirBudget : Prop :=
  ∀ (x : SliceS) (site : Site) (at_ : Nanos) (fuel : Nat),
    let u := ctuFloor site.cfg.rung
    x.done ≤ x.ctus → x.bits + u * (x.ctus - x.done) ≤ x.budget →
    let fits (y : SliceS) : Prop := y.done ≤ y.ctus ∧ y.bits + u * (y.ctus - y.done) ≤ y.budget ∧ y.budget = x.budget ∧ y.ctus = x.ctus
    fits (x.take site at_) ∧ fits (SliceS.cutoff site fuel x)

/-- R10, R157, R158, R160: a packed datagram in time joins its launch queue; one past its launch time is launched as it arrives, and
counted; a launched datagram that the module is entitled to leaves on each path whose port is up and has room; before its launch time
none leaves. The heads that R206 puts before it on its ports go first. R10, R190, R192: a playout's datagram leaves its slot at its
launch time, or late, on each enabled path whose port is up and has room; a clip whose last datagram has left is done, ev 6002; before
its launch time none leaves. -/
def Obligations.DatagramsAndPlayoutsAreLaunched : Prop :=
  (
    ∀ (s : State) (t : Nanos) (r : Fin 128), s.serves →
      let m := s.m.at t
      let src : LaunchSrc := .rendition r
      let open_ (d : Datagram) (pa : PathAddr) : Prop := m.portUp pa.logical = true ∧ m.strictRoom pa.logical d.frameLength = true
      let sent (d : Datagram) (m' : Mod) : Prop := m.serviceDown r.val 2 = false → d.failed = false → m.entitled d.launch = true →
        d.via.red.logical < 32 →
        (open_ d d.via.red → Output.datagram src .red d.via.red (m.portMac d.via.red.logical) d ∈ m'.out)
          ∧ ∀ pa, d.via.blue = some pa → pa.logical ≠ d.via.red.logical → open_ d pa →
            Output.datagram src .blue pa (m.portMac pa.logical) d ∈ m'.out
      (∀ (d : Datagram) (rest : List Datagram), (m.rend r.val).packing = d :: rest →
        (m.now ≤ d.launch →
          Completes (.datagramQueued t r) s (fun m' => (m'.rend r.val).packing = rest ∧ (m'.rend r.val).queue = (m.rend r.val).queue ++ [d])
          ∧ Does (.lateDatagram t src) s m)
        ∧ (d.launch < m.now → ∀ i : Instr, i = .datagramQueued t r ∨ i = .lateDatagram t src →
          Completes i s fun m' => (m'.rend r.val).packing = rest ∧ (m'.rend r.val).queue = (m.rend r.val).queue ∧ sent d m'))
      ∧ ((m.rend r.val).packing = [] → Does (.datagramQueued t r) s m ∧ Does (.lateDatagram t src) s m)
      ∧ ((m.rend r.val).queue = [] → m.launchBefore src = none → Does (.datagramLaunch t src) s m)
      ∧ ∀ (d : Datagram) (rest : List Datagram), (m.rend r.val).queue = d :: rest →
        (m.now < d.launch → m.launchBefore src = none → Does (.datagramLaunch t src) s m)
        ∧ (d.launch ≤ m.now → m.launchBefore src = none →
          Completes (.datagramLaunch t src) s fun m' => (m'.rend r.val).queue = rest ∧ sent d m'
            ∧ (m.serviceDown r.val 2 = false → d.failed = false → m.entitled d.launch = false →
              m'.n (0x5980 + r.val) 3 = (m.bump (0x5980 + r.val) 3).n (0x5980 + r.val) 3))
        ∧ ∀ before : LaunchSrc, m.launchBefore before = some src →
          Completes (.datagramLaunch t before) s fun m' => (m'.rend r.val).queue <:+ rest)
  ∧ (
    ∀ (s : State) (t : Nanos) (k : Fin 16), s.serves →
      let m := s.m.at t
      let src : LaunchSrc := .slot k
      let open_ (d : Datagram) (pa : PathAddr) : Prop := m.portUp pa.logical = true ∧ m.strictRoom pa.logical d.frameLength = true
      ((m.slot k.val).queue = [] → Does (.lateDatagram t src) s m ∧ (m.launchBefore src = none → Does (.datagramLaunch t src) s m))
      ∧ ∀ (d : Datagram) (rest : List Datagram), (m.slot k.val).queue = d :: rest → d.via.red.logical < 32 →
        (∀ pa, d.via.blue = some pa → pa.logical < 32) →
        (m.now < d.launch → m.launchBefore src = none → Does (.datagramLaunch t src) s m)
        ∧ (m.now ≤ d.launch → Does (.lateDatagram t src) s m)
        ∧ ∀ i : Instr, (i = .datagramLaunch t src ∧ d.launch ≤ m.now ∧ m.launchBefore src = none)
            ∨ (i = .lateDatagram t src ∧ d.launch < m.now) →
          Completes i s fun m' => (m'.slot k.val).queue = rest
            ∧ (m.flag (0x6200 + k.val) 6 = true → m.entitled d.launch = true →
              (open_ d d.via.red → Output.datagram src .red d.via.red (m.portMac d.via.red.logical) d ∈ m'.out)
              ∧ ∀ pa, d.via.blue = some pa → pa.logical ≠ d.via.red.logical → open_ d pa →
                Output.datagram src .blue pa (m.portMac pa.logical) d ∈ m'.out)
            ∧ (d.last = true → d.course = 33 → some d.frame = (m.slot k.val).clip.getLast? → m.n (0x6240 + k.val) 1 = 2 →
              m'.n (0x6240 + k.val) 1 = 4 ∧ m'.told 0x6002 k.val [k.val]))

/-- R167-R170: a datagram of an engine's flow is counted on its path and taken in the order of its number, a further copy within the
skew window counted; an engine that takes no flows ignores it; no datagram for the loss time makes the engine LOST, ev 5C01, with its
buffers empty. -/
def Obligations.DecodeEnginesTakeTheirFlows : Prop :=
  ∀ (s : State) (t : Nanos) (e : Fin 2), s.serves → e.val < (s.m.at t).decs.length →
    let m := s.m.at t
    (∀ (path : Path) (g : DecodeDg),
      (m.decRuns e.val = false ∨ m.takesFlows e.val = false → Does (.decodeDatagram t e path g) s m)
      ∧ (m.decRuns e.val = true → m.takesFlows e.val = true →
        let good : Prop := (g.payloadType = 33 ∨ g.payloadType = m.n (0x5C00 + e.val) 0x0C) ∧ 1 ≤ g.packets.length ∧ g.packets.length ≤ 7
        let kept := keptNumbers m.now (m.n (0x5C00 + e.val) 0x0A) (m.dec e.val).seen
        let sub := if path = .red then 1 else 2
        Completes (.decodeDatagram t e path g) s fun m' => (m'.dec e.val).lastAt = m.now
          ∧ m'.n (0x5CC0 + e.val) sub = (m.bump (0x5CC0 + e.val) sub).n (0x5CC0 + e.val) sub
          ∧ (good → ∀ y, kept.find? (fun y => y.seq = g.seq) = some y → m.now ≤ y.at_ + m.n (0x5C00 + e.val) 0x0A →
            m'.n (0x5CC0 + e.val) 3 = (m.bump (0x5CC0 + e.val) 3).n (0x5CC0 + e.val) 3)
          ∧ (good → (∀ y ∈ kept, y.seq ≠ g.seq) → (m.dec e.val).next.getD g.seq = g.seq → (m.dec e.val).ahead = [] →
            (m.dec e.val).fill + 188 * g.packets.length ≤ 67108864 →
            (m'.dec e.val).next = some (g.seq + 1) ∧ (m'.dec e.val).ahead = []
              ∧ (⟨g.seq, m.now, path⟩ : Seen) ∈ (m'.dec e.val).seen)))
    ∧ let due : Prop := m.decRuns e.val = true ∧ m.decState e.val ≠ decLost ∧ (m.dec e.val).lastAt + m.n (0x5C00 + e.val) 0x0B ≤ m.now
      (due → Completes (.decodeLoss t e) s fun m' => m'.n (0x5C80 + e.val) 2 = decLost ∧ m'.condSet 0x5C01 e.val = true
        ∧ m'.flag (0x5C80 + e.val) 3 = true ∧ (m'.dec e.val).waiting = [] ∧ (m'.dec e.val).ready = [] ∧ (m'.dec e.val).fill = 0)
      ∧ (¬due → Does (.decodeLoss t e) s m)

/-- R171, R174, R179: the oldest access unit starts its decode at its base tick, with its allowance; a decode ends with its picture held
and counted, one damaged or without a reference concealed; the picture due at a frame tick is presented, and a tick without one repeats
the last; a packet of the output leaves at its time on the paths whose ports are up. -/
def Obligations.DecodeEnginesDecodeAndPresent : Prop :=
  ∀ (s : State) (t : Nanos) (e : Fin 2), s.serves → e.val < (s.m.at t).decs.length →
    let m := s.m.at t
    let d := m.dec e.val
    (m.decRuns e.val = false → Does (.decodeStart t e) s m)
    ∧ (m.decRuns e.val = true → ((m.release e.val).dec e.val).decoding = none →
      (((m.release e.val).dec e.val).waiting = [] → Does (.decodeStart t e) s (m.release e.val))
      ∧ ∀ (a : WaitingAu) (rest : List WaitingAu), ((m.release e.val).dec e.val).waiting = a :: rest →
        let T := (m.release e.val).decodeTick e.val a
        let ends := T + decodeAllowance (m.n (0x5C00 + e.val) 6)
        (m.tick < T → Does (.decodeStart t e) s (m.release e.val))
        ∧ (T ≤ m.tick → m.tick < ends → Completes (.decodeStart t e) s fun m' => (m'.dec e.val).waiting = rest
          ∧ ∃ y, (m'.dec e.val).decoding = some y ∧ y.au = a ∧ y.ends = ends))
    ∧ (d.decoding = none → Does (.decodeEnd t e) s m)
    ∧ (∀ y : Decoding, d.decoding = some y →
      Completes (.decodeEnd t e) s fun m' => (m'.dec e.val).decoding = none ∧ (m'.dec e.val).count = d.count + 1
        ∧ (d.decode y.au).ref ∈ (m'.dec e.val).decoded
        ∧ m'.n (0x5CC0 + e.val) 5 = (m.bump (0x5CC0 + e.val) 5).n (0x5CC0 + e.val) 5
        ∧ (y.au.damaged = true ∨ (d.decode y.au).whole = true → m'.flag (0x5C80 + e.val) 3 = true
          ∧ m'.n (0x5CC0 + e.val) 9 = (m.bump (0x5CC0 + e.val) 9).n (0x5CC0 + e.val) 9))
    ∧ (isFrameTick m.tick (m.decodeStep e.val) = false ∨ d.outAt = some m.tick → Does (.presentationTick t e) s m)
    ∧ (isFrameTick m.tick (m.decodeStep e.val) = true → d.outAt ≠ some m.tick →
      (m.decRuns e.val = false ∨ m.decState e.val ≠ decDecoding → Does (.presentationTick t e) s (m.outputPicture e.val m.tick))
      ∧ (m.decRuns e.val = true → m.decState e.val = decDecoding →
        let m1 := (m.settleDecode e.val).markLate e.val m.tick
        (∀ p : DecPicture, m1.duePicture e.val m.tick = some p →
          Completes (.presentationTick t e) s fun m' => (m'.dec e.val).current = some p ∧ (m'.dec e.val).lastTick = some m.tick
            ∧ m'.n (0x5CC0 + e.val) 6 = (m1.bump (0x5CC0 + e.val) 6).n (0x5CC0 + e.val) 6)
        ∧ (∀ p : DecPicture, m1.duePicture e.val m.tick = none → (m1.dec e.val).current = some p →
          Completes (.presentationTick t e) s fun m' => (m'.dec e.val).current = some p
            ∧ m'.n (0x5CC0 + e.val) 7 = (m1.bump (0x5CC0 + e.val) 7).n (0x5CC0 + e.val) 7)))
    ∧ ((∀ y ∈ d.packets.head?, m.now < y.1) → Does (.decodeOutputPacket t e) s m)
    ∧ ∀ (y : Nanos × Bool × Nat × Srd) (rest : List (Nanos × Bool × Nat × Srd)), d.packets = y :: rest → y.1 ≤ m.now →
      Completes (.decodeOutputPacket t e) s fun m' => (m'.dec e.val).packets = rest ∧ (m'.dec e.val).nextSeq = d.nextSeq + 1
        ∧ (m.entitled y.1 = true → (m.decodePath e.val false).logical < 32 → ∀ blue : Bool, (blue = true → m.n (0x5C40 + e.val) 4 = 0) →
          let pa := m.decodePath e.val blue
          m.portUp pa.logical = true →
            Output.decodePacket e (if blue then .blue else .red) pa (m.portMac pa.logical) (m.n (0x5C40 + e.val) 0x0D)
              (m.n (0x5C40 + e.val) 0x0F) d.nextSeq y.2.2.1 y.2.1 y.2.2.2 ∈ m'.out)

/-! ### The fabric and PTP (ch. 11, ch. 2) -/

/-- R198-R204, R206: a frame longer than 9,216 octets and one that no entry matches are counted and dropped; PTP, IGMP, MLD and the
module's own datagrams act through commands of their own; a frame of an entry counts in it, with its length and its colour, and its copy
on a port that admits it leaves or waits there. At a frame boundary a port that is free sends what R206 chooses: a due datagram, or the
head of a queue, and the wire is taken until it has been sent. A port that is down takes and sends nothing. R213: a sample is taken of
every queue of each existing port at a whole multiple of the sample period, and a window ends at a whole multiple of its length: its
record replaces 3880 + n and the samples begin anew; at any other instant nothing happens. -/
def Obligations.FramesAreMatchedSentAndSampled : Prop :=
  (
    ∀ (s : State) (t : Nanos) (n : Fin 32), s.serves →
      let m := s.m.at t
      (m.portUp n.val = false → (∀ x : EthFrame, Does (.frameReceived t n x) s m) ∧ Does (.egressFrameBoundary t n) s m)
      ∧ (m.portUp n.val = true →
        (∀ x : EthFrame,
          let own : Bool := (x.kind = .ptp && (m.n 0x1413 0).testBit n.val) || x.kind = .igmpMld || x.kind = .ownPreudKomund
          (9216 < x.length → Does (.frameReceived t n x) s (m.bump 0x3000 5))
          ∧ (x.length ≤ 9216 → own = true → Does (.frameReceived t n x) s m)
          ∧ (x.length ≤ 9216 → own = false → x.kind ≠ .udp ∨ m.flowLookup n.val x = none →
            Does (.frameReceived t n x) s (m.bump 0x3000 4))
          ∧ ∀ e : Nat, x.length ≤ 9216 → x.kind = .udp → m.flowLookup n.val x = some e → m.flow e 9 ≤ 7 →
            Completes (.frameReceived t n x) s fun m' =>
              let colour := (m.police e x.ipLength x.dscp).1
              let sub := match colour with | .green => 0x17 | .yellow => 0x18 | .red => 0x19
              let f : QFrame := ⟨m.fab.serial, x.length, m.ctr, x.ident, copyMac x, m.portMac n.val, none, x.ttl, true⟩
              m'.flow e 0x16 = (m.flow e 0x16 + 1) % 2 ^ 64 ∧ m'.flow e 0x1A = (m.flow e 0x1A + x.length) % 2 ^ 64
                ∧ m'.flow e sub = (m.flow e sub + 1) % 2 ^ 64
                ∧ (colour = .red → m'.out = m.out)
                ∧ (colour = .green → m.portLegs e = [n.val] → x.vlan = none → m.flow e 0x0A = 0xFFFF → x.fcsOk = true →
                  x.ipLength = x.length → n.val < m.fab.ports.length → m.flow e 9 < (m.portQ n.val).queues.length →
                  m.admitFrame n.val (m.flow e 9) f false = .ok →
                  f ∈ (m'.portQ n.val).q (m.flow e 9)
                    ∨ Output.frame x.ident n.val (m.flow e 9) (copyMac x) (m.portMac n.val) none x.ttl true ∈ m'.out))
        ∧ (m.ctr < (m.portQ n.val).busyUntil → Does (.egressFrameBoundary t n) s m)
        ∧ ((m.portQ n.val).busyUntil ≤ m.ctr →
          (m.choose n.val (m.portQ n.val) = .idle → Does (.egressFrameBoundary t n) s m)
          ∧ (∀ src : LaunchSrc, m.choose n.val (m.portQ n.val) = .timed src →
            exec (.egressFrameBoundary t n) s = exec (.datagramLaunch t src) s)
          ∧ ∀ (q cur : Nat) (fresh : Bool) (d : List Nat) (f : QFrame) (rest : List QFrame),
            m.choose n.val (m.portQ n.val) = .queue q cur fresh d → (m.portQ n.val).q q = f :: rest →
            Completes (.egressFrameBoundary t n) s fun m' => (m'.portQ n.val).q q = rest
              ∧ Output.frame f.ident n.val q f.dstMac f.srcMac f.vlan f.ttl f.fcsOk ∈ m'.out
              ∧ (m'.portQ n.val).busyUntil = m.ctr + serTime f.len (m.portRate n.val))))
  ∧ (
    ∀ (s : State) (t : Nanos), s.serves →
      let m := s.m.at t
      (m.now % max 1 (m.n 0x3A00 1) ≠ 0 → Does (.queueSample t) s m)
      ∧ (m.now % max 1 (m.n 0x3A00 1) = 0 →
        Completes (.queueSample t) s fun m' => m'.fab.sampleAt = some (m.fab.sampleAt.getD m.now)
          ∧ ∀ (n : Fin 32) (q : Fin 8), m.portExists n.val = true → n.val < m.fab.ports.length → q.val < (m.portQ n.val).samples.length →
            (nth (m'.portQ n.val).samples q.val).n = (nth (m.portQ n.val).samples q.val).n + 1)
      ∧ (m.now % (max 1 (m.n 0x3A00 2) * 1000000) ≠ 0 → Does (.sampleWindowEnd t) s m)
      ∧ (m.now % (max 1 (m.n 0x3A00 2) * 1000000) = 0 →
        Completes (.sampleWindowEnd t) s fun m' => m'.fab.sampleAt = none
          ∧ ∀ n : Fin 32, m.portExists n.val = true → n.val < m.fab.ports.length →
            (m'.portQ n.val).samples = List.replicate 8 QSample.empty
              ∧ m'.octets (0x3880 + n.val) 0 = encodeVal .time (.num (m.fab.sampleAt.getD 0)) ++ beOctets 2 0
                ++ beOctets 4 (nth (m.portQ n.val).samples 0).n ++ (m.portQ n.val).samples.flatMap QSample.octets))

/-- R203: whatever frames come and whenever, the green ones of a policed entry never amount to more than its first bucket held and was
refilled at the committed rate. -/
def Obligations.GreenFramesKeepTheCommittedRate : Prop :=
  ∀ (m : Mod) (e : Nat) (l : List (Nanos × Nat × Nat)), m.atEdge.flow e 0x0B ≠ 0 →
    m.greenUnits e l ≤ (m.atEdge.bucket e).c + m.atEdge.flow e 0x0C * (l.map fun x => x.1).sum
      ∧ (m.atEdge.bucket e).c ≤ m.atEdge.flow e 0x0D * 8000000

/-- R211, R212: a report on a snooping port changes the membership of its group and no other, and the records held are counted: EXCLUDE
of no source makes one for the membership interval, sources listed anew are forwarded for it, a leave is asked after by the querier; one
that no room is left for is told, ev 3003. Timers that have run out take memberships and sources away. R211, R212: a query is answered
for the entries joined on its port, and one from a lower address ends the querier role there for the other-querier-present interval;
when that has passed the role comes back where the module is to have it; general queries go out at their interval on the ports where it
is querier; an unsolicited report is repeated as often as the robustness count says. -/
def Obligations.MembershipsAndQueriersAreKept : Prop :=
  (
    ∀ (s : State) (t : Nanos) (n : Fin 32), s.serves →
      let m := s.m.at t
      (∀ rep : MemReport,
        let of (x : Membership) : Prop := x.port = n.val ∧ x.fam = rep.fam ∧ x.group = rep.group
        let heeds : Prop := m.portUp n.val = true ∧ (m.n 0x3002 1).testBit n.val = true ∧ (rep.fam = .v4 → rep.version ≠ 1)
        let current : Prop := (if rep.fam = .v4 then 3 else 2) ≤ rep.version
        let room (k : Nat) : Prop := (m.fab.members.map Membership.size).sum + k ≤ 65536
        let gmi := m.ctr + m.membershipInterval
        (¬heeds → Does (.igmpMldReport t n rep) s m)
        ∧ (heeds → Completes (.igmpMldReport t n rep) s fun m' =>
          (∀ x ∈ m.fab.members, ¬of x → x ∈ m'.fab.members)
            ∧ (m'.fab.members = m.fab.members ∨ m'.n 0x3003 1 = m'.recordsHeld)
            ∧ (rep.mode = .exclude → rep.sources = [] → room 1 →
              ∃ x ∈ m'.fab.members, of x ∧ x.exclude = true ∧ x.excl = [] ∧ x.until_ = gmi)
            ∧ (rep.mode = .include ∨ rep.mode = .toInclude ∨ rep.mode = .allow → current → room (rep.sources.length + 1) →
              ∀ y ∈ rep.sources, ∃ x ∈ m'.fab.members, of x ∧ (y, gmi) ∈ x.incl)
            ∧ (∀ x : Membership, rep.mode = .toInclude → rep.sources = [] → current → room 0 → x.exclude = true →
              m.fab.members.find? (fun y => y.port = n.val && y.fam = rep.fam && y.group = rep.group) = some x →
              m.fab.roles.contains (n.val, rep.fam) = true → Output.membershipQuery n.val rep.fam rep.group [] ∈ m'.out)))
      ∧ ∀ (group : Nat),
        Completes (.membershipTimeout t n group none) s (fun m' => m'.n 0x3003 1 = m'.recordsHeld
          ∧ (∀ x ∈ m'.fab.members, x.port = n.val → x.group = group → x.exclude = true → m.ctr < x.until_)
          ∧ ∀ x ∈ m.fab.members, x.port ≠ n.val ∨ x.group ≠ group → x ∈ m'.fab.members)
        ∧ ∀ source : Nat, Completes (.membershipTimeout t n group (some source)) s fun m' => m'.n 0x3003 1 = m'.recordsHeld
          ∧ (∀ x ∈ m'.fab.members, x.port = n.val → x.group = group → ∀ y ∈ x.incl, y.1 = source → m.ctr < y.2)
          ∧ ∀ x ∈ m.fab.members, x.port ≠ n.val ∨ x.group ≠ group → x ∈ m'.fab.members)
  ∧ (
    ∀ (s : State) (t : Nanos), s.serves →
      let m := s.m.at t
      (∀ (n : Fin 32) (q : MemQuery),
        let heeds : Prop := m.portUp n.val = true ∧ (q.fam = .v4 → q.version ≠ 1)
        let wins : Prop := (m.n 0x3002 1).testBit n.val = true ∧ q.querier ≠ 0
          ∧ (q.querier < m.querierAddress n.val q.fam ∨ (q.fam = .v4 ∧ m.n 0x3002 6 = 0))
        (¬heeds → Does (.igmpMldQuery t n q) s m)
        ∧ (heeds → Completes (.igmpMldQuery t n q) s fun m' =>
          (∀ e ∈ m.flowsOn, q.group = 0 → q.sources = [] → (m.flow e 0x13).testBit n.val = true → m.flow e 3 = famNo q.fam →
            Output.membershipReport n.val q.fam (m.octets (flowIdx e) 4) (m.flowSource e) true ∈ m'.out)
          ∧ (wins → (n.val, q.fam, m.ctr + m.otherQuerierInterval) ∈ m'.fab.others ∧ (n.val, q.fam) ∉ m'.fab.roles)
          ∧ (¬wins → m'.fab.others = m.fab.others ∧ m'.fab.roles = m.fab.roles)))
      ∧ (∀ (n : Fin 32) (f : Fam),
        Completes (.otherQuerierPresentTimeout t n f) s fun m' =>
          (∀ z ∈ m'.fab.others, z.1 = n.val → z.2.1 = f → m.ctr < z.2.2)
            ∧ (∀ z ∈ m.fab.others, z.1 ≠ n.val ∨ z.2.1 ≠ f → z ∈ m'.fab.others)
            ∧ ((∀ z ∈ m.fab.others, z.1 = n.val → z.2.1 = f → z.2.2 ≤ m.ctr) → (m.n 0x3002 1).testBit n.val = true →
              m.portExists n.val = true → (f = .v4 → m.n 0x3002 6 ≠ 0) → (n.val, f) ∈ m'.fab.roles))
      ∧ (m.ctr < m.fab.queryAt → Does (.queryIntervalExpiry t) s m)
      ∧ (m.fab.queryAt ≤ m.ctr →
        Completes (.queryIntervalExpiry t) s fun m' => m'.fab.queryAt = m.ctr + m.n 0x3002 3 * second
          ∧ ∀ x ∈ m.fab.roles, m.portUp x.1 = true → Output.membershipQuery x.1 x.2 0 [] ∈ m'.out)
      ∧ ∀ e : Fin 32768,
        (m.fab.reports.find? (fun x => x.1 = e.val) = none → Does (.unsolicitedReportTimer t e) s m)
        ∧ ∀ k : Nat, m.fab.reports.find? (fun x => x.1 = e.val) = some (e.val, k) →
          Completes (.unsolicitedReportTimer t e) s fun m' =>
            (1 < k → (e.val, k - 1) ∈ m'.fab.reports) ∧ (k ≤ 1 → ∀ x ∈ m'.fab.reports, x.1 ≠ e.val)
              ∧ ∀ n : Fin 32, (m.flow e.val 0x13).testBit n.val = true → m.portUp n.val = true →
                Output.membershipReport n.val (if m.flow e.val 3 = 0 then .v4 else .v6) (m.octets (flowIdx e.val) 4) (m.flowSource e.val) true
                  ∈ m'.out)

/-- R28, R30, R33: a PTP message outside the profile is counted and dropped; an Announce makes its sender a foreign master; an offset
from the selected master is kept, and followed as the servo's state says: measured in LOCKED, slewed or stepped away in ACQUIRING, and
on return stepped, slewed or left pending, ev 1402; Delay_Resp gives the path delay and Delay_Req is answered as master; any other
message changes nothing but what follows the grandmaster. -/
def Obligations.PtpMessagesAreTaken : Prop :=
  ∀ (s : State) (t : Nanos) (n : Fin 32) (x : PtpMsg), s.serves →
    let m := s.m.at t
    let heeds : Prop := m.timeFn = running ∧ m.portUp n.val = true ∧ (m.n 0x1413 0).testBit n.val = true
    let mine : Prop := ∃ f, m.servo.selected = some f ∧ f.port = n.val ∧ f.source = x.source
    let upstream : Prop := ∃ f, m.servo.selected = some f ∧ f.port = n.val
    (¬heeds → Does (.ptpMessage t n x) s m)
    ∧ (heeds → m.ptpOutside x = true → Does (.ptpMessage t n x) s (m.bump 0x1422 0))
    ∧ (heeds → m.ptpOutside x = false →
      (∀ (gm : GmData) (utc : Int) (l61 l59 : Bool), x.body = .announce gm utc l61 l59 →
        Completes (.ptpMessage t n x) s fun m' => m'.servo.masters.length ≤ max 8 m.servo.masters.length
          ∧ (m.servo.masters.length < 8 → ∃ f ∈ m'.servo.masters, f.source = x.source ∧ f.port = n.val ∧ f.domain = x.domain
            ∧ f.gm = gm ∧ f.logAnnounce = x.logInterval ∧ f.at_ = m.ctr))
      ∧ (∀ off filtered : Int,
        x.body = .sync off filtered ∨ (x.body = .followUp off filtered ∧ m.servo.awaiting = some x.seq) → mine →
        (m.servoState = locked →
          Completes (.ptpMessage t n x) s fun m' => m'.servo.lastSync = m.ctr ∧ m'.servo.offset = off ∧ m'.z 0x1420 2 = filtered
            ∧ m'.servoState = locked)
        ∧ (m.servoState = acquiring →
          Completes (.ptpMessage t n x) s fun m' => m'.servoState = acquiring ∧ m'.z 0x1420 2 = filtered
            ∧ m'.servo.lockSince = (if filtered.natAbs ≤ 40 then some (m.servo.lockSince.getD m.ctr) else none)
            ∧ (m.mediaRunning = true → m'.servo.slew = off * 1000000000)
            ∧ (m.mediaRunning = false → m'.servo.offset = 0))
        ∧ (m.servoState = holdover ∨ m.servoState = freerun →
          (m.mediaRunning = false →
            Completes (.ptpMessage t n x) s fun m' => m'.servoState = acquiring ∧ m'.servo.offset = 0 ∧ m'.flag 0x1420 7 = false)
          ∧ (m.mediaRunning = true → m.flag 0x1420 7 = false →
            (off.natAbs ≤ m.n 0x1432 0 →
              Completes (.ptpMessage t n x) s fun m' => m'.servoState = acquiring ∧ m'.servo.slew = off * 1000000000)
            ∧ (m.n 0x1432 0 < off.natAbs →
              Completes (.ptpMessage t n x) s fun m' => m'.flag 0x1420 7 = true ∧ m'.servoState = m.servoState
                ∧ m'.told 0x1402 0 [off.natAbs]))))
      ∧ (x.body = .syncTwoStep → mine →
        Completes (.ptpMessage t n x) s fun m' => m'.servo.awaiting = some x.seq ∧ m'.servo.lastSync = m.ctr)
      ∧ (∀ d : Int, x.body = .delayResp d → mine →
        Completes (.ptpMessage t n x) s fun m' => m'.z 0x1420 3 = d ∧ m'.servo.delayLog = x.logInterval)
      ∧ (x.body = .delayReq → m.flag 0x1414 0 = true → ¬upstream →
        Completes (.ptpMessage t n x) s fun m' => Output.ptpDelayResp n.val x.source x.seq ∈ m'.out)
      ∧ (x.body = .other ∨ (x.body = .delayReq ∧ (m.flag 0x1414 0 = false ∨ upstream))
          ∨ ((∃ a b, x.body = .followUp a b) ∧ m.servo.awaiting ≠ some x.seq)
          ∨ (¬mine ∧ ((∃ a b, x.body = .sync a b ∨ x.body = .followUp a b) ∨ x.body = .syncTwoStep ∨ ∃ d, x.body = .delayResp d)) →
        Does (.ptpMessage t n x) s m.refreshDescriptions))

/-- R28-R33, R38: the servo locks after 8 s, ev 1401, loses its master at the timeout and its holdover at the limit, ev 1403; Announce,
and Sync with its Follow_Up, go out at their intervals on the ports where the module is master, Delay_Req at its own to the selected
one; PPS goes out at whole seconds, its input is measured from the nearest one (the nearest is the model's choice, log 62) and its
absence noticed, ev 1406; before its time each of these does nothing. -/
def Obligations.TimeIsKeptAndSent : Prop :=
  ∀ (s : State) (t : Nanos), s.serves →
    let m := s.m.at t
    (∀ since : Nanos, m.servo.lockSince = some since →
      (m.servoState = acquiring → since + 8 * second ≤ m.ctr →
        Completes (.servoLocked t) s fun m' => m'.servoState = locked ∧ m'.told 0x1401 0 [acquiring, locked])
      ∧ (m.servoState ≠ acquiring ∨ m.ctr < since + 8 * second → Does (.servoLocked t) s m))
    ∧ (m.servo.lockSince = none → Does (.servoLocked t) s m)
    ∧ (m.servo.selected = none → Does (.announceReceiptTimeout t) s m ∧ Does (.delayReqSend t) s m)
    ∧ (∀ f : Foreign, m.servo.selected = some f →
      (m.ctr < m.servo.lastSync + m.n 0x1412 0 * announceNanos f.logAnnounce → Does (.announceReceiptTimeout t) s m)
      ∧ (m.servo.lastSync + m.n 0x1412 0 * announceNanos f.logAnnounce ≤ m.ctr →
        Completes (.announceReceiptTimeout t) s fun m' =>
          (∀ z ∈ m'.servo.masters, z.port ≠ f.port ∨ z.source ≠ f.source)
            ∧ ((∀ z ∈ m.servo.masters, z.port = f.port ∧ z.source = f.source) → m'.servo.selected = none
              ∧ (m.servoState = locked ∨ m.servoState = acquiring → m'.servoState = holdover)))
      ∧ (let due : Prop := m.timeFn = running ∧ m.portUp f.port = true
            ∧ ∀ a, m.servo.delayAt = some a → a + announceNanos m.servo.delayLog ≤ m.ctr
        (due → Completes (.delayReqSend t) s fun m' => Output.ptpDelayReq f.port (m.n 0x1411 0 = 0) ∈ m'.out
          ∧ m'.servo.delayAt = some m.ctr)
        ∧ (¬due → Does (.delayReqSend t) s m)))
    ∧ (m.servoState = holdover → m.servo.stateAt + m.n 0x1430 0 * second ≤ m.ctr →
      Completes (.holdoverLimit t) s fun m' => m'.servoState = freerun ∧ m'.told 0x1403 0 [])
    ∧ (m.servoState ≠ holdover ∨ m.ctr < m.servo.stateAt + m.n 0x1430 0 * second → Does (.holdoverLimit t) s m)
    ∧ (∀ n : Fin 32,
      let master : Prop := m.timeFn = running ∧ m.flag 0x1414 0 = true ∧ (m.n 0x1413 0).testBit n.val = true ∧ m.portUp n.val = true
        ∧ ∀ f, m.servo.selected = some f → f.port ≠ n.val
      (master → intervalOver m.servo.sentAnnounce n.val logAnnounce m.ctr = true →
        Completes (.ptpMasterSend t n true) s fun m' => Output.ptpAnnounce n.val m.advertised logAnnounce ∈ m'.out
          ∧ (n.val, m.ctr) ∈ m'.servo.sentAnnounce)
      ∧ (master → intervalOver m.servo.sentSync n.val logSync m.ctr = true →
        Completes (.ptpMasterSend t n false) s fun m' => Output.ptpSync n.val logSync ∈ m'.out
          ∧ Output.ptpFollowUp n.val m.now logSync ∈ m'.out ∧ (n.val, m.ctr) ∈ m'.servo.sentSync)
      ∧ (¬master ∨ intervalOver m.servo.sentAnnounce n.val logAnnounce m.ctr = false → Does (.ptpMasterSend t n true) s m)
      ∧ (¬master ∨ intervalOver m.servo.sentSync n.val logSync m.ctr = false → Does (.ptpMasterSend t n false) s m))
    ∧ (let due : Prop := m.now % second = 0 ∧ (m.servoState = locked ∨ m.servoState = holdover) ∧ m.flag 0x1451 0 = true
      (due → Does (.ppsOutPulse t) s (m.send .ppsPulse)) ∧ (¬due → Does (.ppsOutPulse t) s m))
    ∧ Completes (.ppsInEdge t) s (fun m' => m'.servo.ppsAt = m.ctr ∧ m'.servo.ppsAbsent = false
        ∧ m'.z 0x1450 0 = (if 2 * (m.now % second) ≤ second then ((m.now % second : Nat) : Int) else ((m.now % second : Nat) : Int) - second))
    ∧ (m.servo.ppsAbsent = false → m.servo.ppsAt + 2 * second ≤ m.ctr →
      Completes (.ppsInAbsent t) s fun m' => m'.servo.ppsAbsent = true ∧ m'.told 0x1406 0 [])
    ∧ (m.servo.ppsAbsent = true ∨ m.ctr < m.servo.ppsAt + 2 * second → Does (.ppsInAbsent t) s m)

/-! ### The twin (ch. 12) -/

/-- R217, R219, R220: a Hello that names this module and pair ends the link's silence and, where the link was not up or had been silent,
brings it up with the lanes both sides have, ev 7009, answered by a Hello and by the ACTIVE's placement; one that does not leaves it at
the Hello stage, ev 7011 once. Hello goes out every 100 µs until one is heard, an idle frame after 1 µs without another; a link without
frames falls silent after 50 µs and goes down after 1 ms, ev 7008. A bad frame and a timer before its time do nothing. -/
def Obligations.TheMortarLinkFollowsHello : Prop :=
  ∀ (s : State) (t : Nanos) (hdr : MortarHdr), s.serves →
    let m := s.m.at t
    let r := m.twin.mortar
    (m.goodFrame hdr = false → (∀ b : HelloBody, Does (.mortarHello t hdr b) s m) ∧ Does (.mortarIdle t hdr) s m)
    ∧ (m.goodFrame hdr = true →
      (∀ b : HelloBody,
        let names : Prop := b.partnerFuse = m.fuse ∧ b.pairId = m.n 0x7000 1
        let fewer : Prop := b.lanes < 4 ∨ m.helloBody.lanes < 4
        let fresh : Prop := r.helloHeard = false ∨ m.linkUp = false
        (names → Completes (.mortarHello t hdr b) s fun m' =>
          m'.n 0x7040 7 = (if fewer then 4 else 3) ∧ m'.n 0x7040 0x10 = b.generation ∧ m'.twin.mortar.helloHeard = true
            ∧ m'.twin.mortar.silent = false ∧ m'.twin.mortar.recvSeq = r.recvSeq.set 0 ((hdr.seq + 1) % seqModulus)
            ∧ (fresh → m'.told 0x7009 0 [if fewer then 2 else 4] ∧ m'.condSet 0x7008 0 = false
              ∧ (m.role = .active → m'.mortared (.mortarPlacement (nth r.sendSeq 3) m.placementBody)))
            ∧ (r.helloHeard = false → Output.mortarHello (nth r.sendSeq 0) m.helloBody ∈ m'.out)
            ∧ (¬fresh → m'.raised = m.raised ∧ m'.out = m.out))
        ∧ (¬names → Completes (.mortarHello t hdr b) s fun m' => m'.n 0x7040 7 = 2 ∧ m'.n 0x7040 0x10 = b.generation
          ∧ (r.helloBad = false → m'.told 0x7011 0 [b.fuseId, b.pairId]) ∧ (r.helloBad = true → m'.raised = m.raised)))
      ∧ Completes (.mortarIdle t hdr) s fun m' => m'.twin.mortar.heardAt = m.ctr ∧ m'.twin.mortar.silent = false)
    ∧ (let due : Prop := m.twinRuns = true ∧ m.mortarLanes = true ∧ r.helloHeard = false ∧ r.helloAt + 100000 ≤ m.ctr
      (due → Completes (.helloTimer t) s fun m' => Output.mortarHello (nth r.sendSeq 0) m.helloBody ∈ m'.out
          ∧ m'.twin.mortar.helloAt = m.ctr ∧ m'.twin.mortar.sendSeq = r.sendSeq.modify 0 seqNext
          ∧ m'.n 0x7040 7 = (if m.n 0x7040 7 ≤ 1 then 2 else m.n 0x7040 7))
      ∧ (¬due → Does (.helloTimer t) s m))
    ∧ (let due : Prop := m.twinRuns = true ∧ m.mortarLanes = true ∧ r.sentAt + 1000 ≤ m.ctr
      (due → Completes (.idleSendTimer t) s fun m' => Output.mortarIdle m.creditFields ∈ m'.out ∧ m'.twin.mortar.sentAt = m.ctr)
      ∧ (¬due → Does (.idleSendTimer t) s m))
    ∧ (let due : Prop := m.linkUp = true ∧ r.silent = false ∧ r.heardAt + 50000 ≤ m.ctr
      (due → Completes (.linkSilent t) s fun m' => m'.twin.mortar.silent = true ∧ m'.twin.mortar.helloHeard = false
        ∧ m'.condSet 0x7008 0 = true ∧ (m.condSet 0x7008 0 = false → m'.told 0x7008 0 [0]))
      ∧ (¬due → Does (.linkSilent t) s m))
    ∧ (let due : Prop := m.linkUp = true ∧ r.heardAt + 1000000 ≤ m.ctr
      (due → Completes (.linkDown t) s fun m' => m'.n 0x7040 7 = 0 ∧ m'.twin.mortar.sendSeq = [0, 0, 0, 0]
        ∧ m'.twin.mortar.recvSeq = [0, 0, 0, 0] ∧ m'.twin.mortar.held = [] ∧ m'.twin.mortar.waiting = []
        ∧ m'.condSet 0x7008 0 = true ∧ m'.told 0x7008 0 [1])
      ∧ (¬due → Does (.linkDown t) s m))

/-- R217, R218: a sequenced frame that is not good, or finds the link down, does nothing; one after a gap is discarded and answered with
a Nak that names the frame expected, one before it is discarded. A Nak brings the named frame and those after it again, each marked as a
resend and counted in 7080:0B, and sixteen for one frame take the link down, ev 7008. -/
def Obligations.GapsAreNakkedAndResent : Prop :=
  ∀ (s : State) (t : Nanos) (hdr : MortarHdr), s.serves →
    let m := s.m.at t
    (∀ (i : Instr) (vc : Nat), mortarFrame i = some (t, hdr, vc) →
      let want := nth m.twin.mortar.recvSeq vc
      (m.goodFrame hdr = false ∨ m.linkUp = false → Does i s m)
      ∧ (m.goodFrame hdr = true → m.linkUp = true → hdr.seq ≠ want →
        (seqFrom hdr.seq want = true → Does i s ((m.heardMortar hdr).send (.mortarNak vc want)))
        ∧ (seqFrom hdr.seq want = false → Does i s (m.heardMortar hdr))))
    ∧ ∀ (vc : Fin 4) (expected : Nat),
      (m.goodFrame hdr = false ∨ m.linkUp = false → Does (.mortarNak t hdr vc expected) s m)
      ∧ (m.goodFrame hdr = true → m.linkUp = true →
        let again := (m.heardMortar hdr).twin.mortar.held.filter fun x => x.vc = vc.val && seqFrom x.seq expected
        (m.twin.mortar.naksOf vc.val expected < 15 →
          Completes (.mortarNak t hdr vc expected) s fun m' =>
            (∀ x ∈ again, Output.mortarResend vc.val x.seq ∈ m'.out ∧ x.frame ∈ m'.out)
              ∧ m'.n 0x7080 0x0B = (m.count 0x7080 0x0B again.length).n 0x7080 0x0B
              ∧ m'.twin.mortar.naksOf vc.val expected = m.twin.mortar.naksOf vc.val expected + 1)
        ∧ (15 ≤ m.twin.mortar.naksOf vc.val expected →
          Completes (.mortarNak t hdr vc expected) s fun m' => m'.n 0x7040 7 = 0 ∧ m'.twin.mortar.held = []
            ∧ m'.told 0x7008 0 [1]))

/-- R224, R225, R228, R229, R238: the partner's Status is held; an ACTIVE fences itself before one of a higher term (reason 5) unless it
has released the keystone, and takes its renditions as awaiting repair when the partner shows itself UNSYNCED with the same digest; a
FENCED module becomes UNSYNCED when it sees an ACTIVE, a STANDBY becomes so when the digests differ, ev 700D, and an UNSYNCED one
becomes STANDBY, ev 7004, when all is in sync. The placement of the ACTIVE is held. -/
def Obligations.PartnersAreJudged : Prop :=
  ∀ (s : State) (t : Nanos) (hdr : MortarHdr), s.serves →
    let m := s.m.at t
    (∀ p : StatusBody, m.inOrder hdr 0 →
      let differs : Prop := p.role = .active ∧ p.digest ≠ m.n 0x7040 0x0B
      let rests : Prop := m.runningRends.all (fun r => (m.syncOf r).inSync) = true ∧ m.twin.missingSince = none
        ∧ m.twin.sync.any (fun x => x.lastTick ≠ none) = true ∧ m.n 0x7040 0x10 = 3
      Completes (.mortarStatus t hdr p) s fun m' => m'.n 0x7040 8 = roleNo p.role ∧ m'.n 0x7040 0x0C = p.digest
        ∧ m'.twin.partner = some p
        ∧ (m.role = .active →
          (p.role = .active → m.term < p.term → m.releasing = false →
            m'.role = .fenced ∧ m'.n 0x7040 0x0F = 5 ∧ m'.told 0x7001 0 [4, 1, m.term] ∧ m'.told 0x7007 0 [5])
          ∧ (p.role ≠ .active ∨ p.term ≤ m.term ∨ m.releasing = true → m'.role = .active)
          ∧ (p.role = .unsynced → p.digest = m.n 0x7040 0x0B → m.twin.awaiting = [] → m.twin.repairs = [] →
            m'.twin.awaiting = m.runningRends))
        ∧ (m.role = .fenced → m.twinFn = running → p.role = .active →
          (m'.role = .unsynced ∨ m'.role = .standby) ∧ m'.told 0x7001 0 [1, 2, m.term])
        ∧ (m.role = .standby → (differs → m'.role = .unsynced ∧ m'.told 0x7001 0 [3, 2, m.term]) ∧ (¬differs → m'.role = .standby))
        ∧ (m.role = .standby ∨ m.role = .unsynced → differs → m.twin.digestDiffers = false → m.condSet 0x700D 0 = false →
          m'.told 0x700D 0 [m.n 0x7040 0x0B, p.digest])
        ∧ (m.role = .unsynced →
          (p.role = .active → ¬differs → rests → m'.role = .standby ∧ m'.told 0x7004 0 [])
          ∧ (¬(p.role = .active ∧ ¬differs ∧ rests) → m'.role = .unsynced)))
    ∧ ∀ p : PlacementBody, m.inOrder hdr 3 →
      (m.role ≠ .active → Completes (.placement t hdr p) s fun m' => m'.twin.placement = some p ∧ m'.objs = m.objs)
      ∧ (m.role = .active → Does (.placement t hdr p) s (m.taken hdr 3))

/-- R221-R223: an ACTIVE sends each record it closes, 7080:01. The records of a frame are taken in their order. A STANDBY or UNSYNCED
module compares one with its own: a match is the 34th in a row that brings a rendition in sync, a difference marks the rendition, 7041,
turns a STANDBY into UNSYNCED and raises ev 7002. A record missing at the end of slot 31 counts, 7080:03, and ends eligibility after the
hold, ev 700E. Other roles compare nothing. -/
def Obligations.TheStandbyComparesRecords : Prop :=
  (∀ (s : State) (t : Nanos) (hdr : MortarHdr), s.serves →
    let m := s.m.at t
    let compares : Prop := m.role = .standby ∨ m.role = .unsynced
    (∀ r : Fin 128,
      ((m.rend r.val).unclosed = [] → Does (.courseRecordClose t r) s m)
      ∧ ∀ (x : CourseRecord) (rest : List CourseRecord), (m.rend r.val).unclosed = x :: rest →
        let sends : Prop := m.role = .active ∧ m.linkUp = true ∧ m.serviceDown r.val 3 = false
        (¬sends → Does (.courseRecordClose t r) s (m.modRend r.val fun y => { y with unclosed := rest }))
        ∧ (sends → Completes (.courseRecordClose t r) s fun m' => (m'.rend r.val).unclosed = rest
          ∧ m'.mortared (.mortarRecords (nth m.twin.mortar.sendSeq 1) [{ x with confirmIndex := (m.rend r.val).confirm }])
          ∧ m'.n 0x7080 1 = (m.bump 0x7080 1).n 0x7080 1))
    ∧ (∀ l : List CourseRecord, m.inOrder hdr 1 → Does (.courseRecords t hdr l) s (l.foldl Mod.takeRecord (m.taken hdr 1)))
    ∧ (∀ (r : Fin 128) (k : Nat),
      let due : Prop := compares ∧ m.runningRends.contains r.val = true ∧ (∀ T, (m.syncOf r.val).lastTick = some T → T < k)
        ∧ isCourseTick k (m.rendStep r.val) = true ∧ m.recordDue r.val k ≤ m.now
      (due → Completes (.recordMissing t r k) s fun m' => m'.n 0x7080 3 = (m.bump 0x7080 3).n 0x7080 3
        ∧ m'.twin.missingSince = some (m.twin.missingSince.getD m.ctr))
      ∧ (¬due → Does (.recordMissing t r k) s m))
    ∧ (m.twin.missingSince = none → Does (.eligibilityHoldExpiry t) s m)
    ∧ ∀ since : Nanos, m.twin.missingSince = some since →
      let due : Prop := m.role = .standby ∧ since + m.n 0x7000 0x0A ≤ m.ctr
      (due → Completes (.eligibilityHoldExpiry t) s fun m' => m'.role = .unsynced ∧ m'.told 0x7001 0 [3, 2, m.term]
        ∧ m'.condSet 0x700E 0 = true ∧ (m.condSet 0x700E 0 = false → m'.told 0x700E 0 []))
      ∧ (¬due → Does (.eligibilityHoldExpiry t) s m))
  ∧ ∀ (m : Mod) (x : CourseRecord),
    let r := x.rendition.val
    let m' := m.takeRecord x
    let own := ((m.rend r).records ++ (m.rend r).unclosed).find? fun z => z.tick = x.tick && z.course = x.course
    (m.role = .active → m' = m)
    ∧ (m.role = .fenced ∨ m.role = .notPaired → m' = m.snoopRecord x)
    ∧ (m.role = .standby ∨ m.role = .unsynced →
      (m'.syncOf r).lastTick = some x.tick ∧ (m'.syncOf r).confirm = some x.confirmIndex ∧ m'.twin.missingSince = none
      ∧ (m.runningRends.contains r = false ∨ own = none → m'.n 0x7080 2 = m.n 0x7080 2)
      ∧ ∀ y : CourseRecord, m.runningRends.contains r = true → own = some y →
        m'.n 0x7080 2 = (m.bump 0x7080 2).n 0x7080 2
        ∧ (recordDiff x y ≠ 0 → m'.role = .unsynced ∧ m'.n 0x7080 4 = (m.bump 0x7080 4).n 0x7080 4
          ∧ (m'.n 0x7041 (1 + r / 32)).testBit (r % 32) = true ∧ (m'.syncOf r).inSync = false
          ∧ (m.role = .standby → m'.told 0x7001 0 [3, 2, m.term])
          ∧ (m.condSet 0x7002 r = false → m'.told 0x7002 r [r, x.tick, recordDiff x y]))
        ∧ (recordDiff x y = 0 → m'.n 0x7080 4 = m.n 0x7080 4
          ∧ ((m.syncOf r).inSync = true → (m'.syncOf r).inSync = true)
          ∧ ((m.syncOf r).inSync = false → (m.syncOf r).mismatch = false → (m.syncOf r).matches_ = 33 →
            (m'.syncOf r).inSync = true ∧ (m'.n 0x7041 (1 + r / 32)).testBit (r % 32) = false)))

/-- R225: repair data received in order are counted, 7080:06; in an UNSYNCED module they replace the blocks of the own picture, and
those of a picture outside the repair in hand begin one, ev 7003; any other role takes the frame and no more. R225, R92, R100: blocks
received take their places from the first one named on: their headers stand, and none of them fails any more; the headers of the other
blocks and what fails of them stay, as do the picture's frame tick and the number of its bands. -/
def Obligations.RepairsReplaceTheReconstruction : Prop :=
  (
    ∀ (s : State) (t : Nanos) (hdr : MortarHdr) (b : RepairBody), s.serves → (s.m.at t).inOrder hdr 2 →
      let m := s.m.at t
      let r := b.rendition.val
      let fresh : Prop := ∀ j, (m.syncOf r).repair = some j → j + m.n (0x5000 + r) 9 * 34 * m.rendStep r ≤ b.tick
      (m.role ≠ .unsynced → Does (.repairData t hdr b) s (m.taken hdr 2))
      ∧ (m.role = .unsynced → Completes (.repairData t hdr b) s fun m' =>
        m'.rends = m.rends.modify r (fun y => y.modRef b.tick fun p => p.takeBlocks (y.cfgFor b.tick) b.firstBlock b.blocks)
          ∧ m'.n 0x7080 6 = (m.count 0x7080 6 hdr.length).n 0x7080 6
          ∧ (fresh → m'.told 0x7003 r [r, b.tick] ∧ (m'.syncOf r).repair = some b.tick ∧ (m'.syncOf r).mismatch = true)
          ∧ (¬fresh → m'.raised = m.raised ∧ (m'.syncOf r).repair = (m.syncOf r).repair)))
  ∧ (
    ∀ (p : RefPic) (cfg : RendCfg) (first : Nat) (blocks : List ((Nat × Bool) × Octets)),
      (p.takeBlocks cfg first blocks).frame = p.frame
      ∧ (p.takeBlocks cfg first blocks).bands.length = p.bands.length
      ∧ (∀ k, first ≤ k → k < first + blocks.length → k ∉ (p.takeBlocks cfg first blocks).bad)
      ∧ (∀ k, k < first ∨ first + blocks.length ≤ k →
        (p.takeBlocks cfg first blocks).headers[k]? = p.headers[k]? ∧ (k ∈ p.bad → k ∈ (p.takeBlocks cfg first blocks).bad))
      ∧ ∀ i (h : i < blocks.length), first + i < p.headers.length →
        (p.takeBlocks cfg first blocks).headers[first + i]? = some blocks[i].1)

/-- R231, R235-R237, Table 12.6: Status, PROBE, RENEW, ACQUIRE and Countersign requests go out at their times, and at no other; a
witness that is silent for 30 ms is unreachable, ev 700A, until it answers, ev 700B; a reply that is unsound is discarded, a copy
dropped; an ACTIVE fences itself at 0.9999 K from the start of its effective end, or at once where it has none, reason 1, and no sooner.
-/
def Obligations.TheLeaseIsKeptOrFenced : Prop :=
  ∀ (s : State) (t : Nanos), s.serves →
    let m := s.m.at t
    let epoch := s.events.epoch
    let req := m.nextRequest epoch
    (∀ w : Fin 3,
      let heard := ((m.twin.acks.find? fun x => x.1 = w.val).map (·.2)).getD 0
      let due : Prop := m.twinRuns = true ∧ m.witnesses.contains w.val = true ∧ heard + 30000000 ≤ m.ctr ∧ m.condSet 0x700A w.val = false
      (due → Completes (.witnessUnreachable t w) s fun m' => m'.condSet 0x700A w.val = true ∧ m'.told 0x700A w.val [w.val]
        ∧ (m'.n 0x7040 6).testBit w.val = false)
      ∧ (¬due → Does (.witnessUnreachable t w) s m))
    ∧ (let due : Prop := m.twinRuns = true ∧ m.linkUp = true ∧ m.coreCoasts = false ∧ m.twin.mortar.statusAt + 10000 ≤ m.ctr
      (due → Completes (.statusTimer t) s fun m' => m'.twin.mortar.statusAt = m.ctr
        ∧ m'.mortared (.mortarStatus (nth m.twin.mortar.sendSeq 0) ⟨m.role, m.term, m.role = .standby, m.n 0x7040 0x0B⟩))
      ∧ (¬due → Does (.statusTimer t) s m))
    ∧ (let due : Prop := m.twinRuns = true ∧ m.twin.probeAt + 10000000 ≤ m.ctr
      (due → Completes (.probeTimer t) s fun m' => m'.twin.probeAt = m.ctr ∧ m'.twin.requests = m.twin.requests + 1
        ∧ ∀ w ∈ m.witnesses, m.askOf w 4 0 0 0 epoch ∈ m'.out)
      ∧ (¬due → Does (.probeTimer t) s m))
    ∧ (let due : Prop := m.role = .active ∧ m.twin.renewAt + 100000 ≤ m.ctr ∧ m.coreCoasts = false
      (due → Completes (.renewTimer t) s fun m' => m'.twin.renewAt = m.ctr ∧ m'.twin.requests = m.twin.requests + 1
        ∧ ∀ w ∈ m.witnesses, m.askOf w 1 0 m.lease 0 epoch ∈ m'.out ∧ (req, w, m.ctr) ∈ m'.twin.outstanding)
      ∧ (¬due → Does (.renewTimer t) s m))
    ∧ (let due : Prop := m.acquires = true ∧ ∀ a, m.twin.acquireAt = some a → a + 100000 ≤ m.ctr
      (due → Completes (.acquireTimer t) s fun m' => m'.twin.acquireAt = some m.ctr ∧ m'.twin.requests = m.twin.requests + 1
        ∧ ∀ w ∈ m.witnesses, (req, w, m.ctr) ∈ m'.twin.outstanding
          ∧ m.askOf w 2 0 m.lease (if m.role = .standby then 1 else if m.role = .unsynced then 2 else 0) epoch ∈ m'.out)
      ∧ (¬due → Does (.acquireTimer t) s m))
    ∧ (let due : Prop := m.role = .active ∧ m.linkUp = true ∧ m.twin.askAt + 100000 ≤ m.ctr
        ∧ ∀ a, m.quorumStart = some a → a + m.lease < m.ctr + 200000
      (due → Completes (.countersignRequestTimer t) s fun m' => (req, 3, m.ctr) ∈ m'.twin.outstanding
        ∧ m'.mortared (.mortarCountersignRequest (nth m.twin.mortar.sendSeq 0) m.term req))
      ∧ (¬due → Does (.countersignRequestTimer t) s m))
    ∧ (∀ (w : Fin 3) (x : KMsg), m.fromPair w.val 0x14 x →
      Completes (.probeAck t w x) s fun m' => (w.val, m.ctr) ∈ m'.twin.acks ∧ (m'.n 0x7040 6).testBit w.val = true
        ∧ m'.condSet 0x700A w.val = false ∧ (m.condSet 0x700A w.val = true → m'.told 0x700B w.val [w.val])
        ∧ (w.val, x.req, 0x14) ∈ m'.twin.replies)
    ∧ (∀ (i : Instr) (w kind : Nat) (x : KMsg), witnessReply i = some (t, w, kind, x) →
      let sound : Prop := KMsg_bad x m.komundKey = false ∧ x.pair = m.n 0x7000 1 ∧ m.witnesses.contains w = true
      (m.twinRuns = false → Does i s m)
      ∧ (m.twinRuns = true → ¬sound → Does i s m.discardKomund)
      ∧ (m.twinRuns = true → sound → m.twin.replies.contains (w, x.req, kind) = true → Does i s m))
    ∧ (let fences : Prop := m.role = .active ∧ m.releasedByQuorum = false ∧ ∀ a, m.effectiveStart = some a →
        a + m.lease * 9999 / 10000 ≤ m.ctr
      (fences → Completes (.leaseFence t) s fun m' => m'.role = .fenced ∧ m'.n 0x7040 0x0F = 1 ∧ m'.told 0x7007 0 [1]
        ∧ m'.told 0x7001 0 [4, 1, m.term] ∧ ∀ launch, m'.entitled launch = false)
      ∧ (¬fences → Does (.leaseFence t) s m))

/-- R234-R236, R240, R241, R243: a GRANT renews the ACTIVE's lease from the send time of its RENEW; a module that asked becomes ACTIVE
when it holds GRANTs of a quorum for one term, ev 7005, and launches from then on; a successor that holds a quorum's GRANTs to the
handover it accepted launches from the release point on; a GRANT of another member, of another term, or of no request counts for
nothing. REFUSE 0x06 raises ev 7013; RELEASED is kept for the handover. A countersign renews from its request; a partner countersigns
unless it has just acquired, and then sends no ACQUIRE for K + γ. -/
def Obligations.GrantsMakeTheActive : Prop :=
  ∀ (s : State) (t : Nanos) (w : Fin 3) (x : KMsg) (hdr : MortarHdr), s.serves →
    let m := s.m.at t
    let sent := (m.twin.outstanding.find? fun y => y.1 = x.req && y.2.1 = w.val).map (·.2.2)
    let votes := (m.twin.grants.filter fun y => y.1 ≠ w.val && y.2.1 = x.term).length + 1
    let span : Nat := match m.lastConfirmed with
      | none => 0
      | some c => m.now - c
    let nothing (m' : Mod) : Prop := m'.role = m.role ∧ m'.objs = m.objs ∧ m'.twin.renewed = m.twin.renewed
      ∧ m'.twin.grants = m.twin.grants ∧ m'.twin.launchFrom = m.twin.launchFrom
    (m.fromPair w.val 0x11 x →
      (x.subject ≠ m.fuse → Completes (.grant t w x) s nothing)
      ∧ (x.subject = m.fuse → m.role = .active →
        (sent = none ∨ x.term ≠ m.term → Completes (.grant t w x) s nothing)
        ∧ (∀ a : Nanos, sent = some a → x.term = m.term →
          Completes (.grant t w x) s fun m' => (w.val, a) ∈ m'.twin.renewed ∧ m'.role = .active
            ∧ ∀ y ∈ m'.twin.outstanding, y.1 = x.req → y.2.1 ≠ w.val))
      ∧ (x.subject = m.fuse → m.role ≠ .active →
        let counts : Prop := m.role ≠ .notPaired ∧ (sent = none → m.twin.successor ≠ none)
          ∧ (sent ≠ none → m.role = .unsynced → m.flag 0x7000 9 = true)
        (¬counts → Completes (.grant t w x) s nothing)
        ∧ (counts → votes < m.quorum → Completes (.grant t w x) s fun m' =>
          m'.role = m.role ∧ m'.twin.launchFrom = m.twin.launchFrom ∧ (w.val, x.term, sent.getD m.ctr) ∈ m'.twin.grants)
        ∧ (counts → m.quorum ≤ votes → Completes (.grant t w x) s fun m' =>
          m'.role = .active ∧ m'.term = x.term ∧ m'.twin.launchUntil = none ∧ (w.val, sent.getD m.ctr) ∈ m'.twin.renewed
            ∧ m'.told 0x7001 0 [roleNo m.role, 4, x.term]
            ∧ (sent ≠ none → m'.twin.launchFrom = some m.now ∧ m'.told 0x7005 0 [m.now, span] ∧ m'.n 0x7040 0x0E = span
              ∧ m'.n 0x7040 0x0D = m.tick ∧ m'.n 0x7080 7 = (m.bump 0x7080 7).n 0x7080 7
              ∧ (m.role = .unsynced → m'.told 0x700F 0 []))
            ∧ ∀ (B : Nat) (X : Nanos) (withRestart : Bool), sent = none → m.twin.successor = some (B, X, withRestart) →
              m'.twin.launchFrom = some (max X m.now) ∧ m'.n 0x7040 0x0D = B ∧ (withRestart = true → m'.told 0x700F 0 []))))
    ∧ (m.fromPair w.val 0x12 x → Completes (.refuse t w x) s fun m' => m'.role = m.role
      ∧ (x.result = 6 → m.limits.find? (fun l => l.code = 0x7013 && l.res = w.val) = none → m'.told 0x7013 w.val [w.val, m.lease, 1])
      ∧ (x.result ≠ 6 → m'.raised = m.raised))
    ∧ (m.fromPair w.val 0x13 x →
      (m.twin.handover = none → Completes (.released t w x) s nothing)
      ∧ ∀ y : HandoverS, m.twin.handover = some y → Completes (.released t w x) s fun m' => ∃ z, m'.twin.handover = some z
        ∧ w.val ∈ z.released ∧ (∀ v ∈ y.released, v ∈ z.released) ∧ z.boundary = y.boundary ∧ z.release = y.release)
    ∧ (∀ term req : Nat, m.inOrder hdr 0 →
      let signs : Prop := (m.role = .standby ∨ m.role = .unsynced) ∧ m.coreCoasts = false
        ∧ ∀ a, m.twin.acquireAt = some a → a + m.lease + guardTime + 100000 ≤ m.ctr
      (signs → Completes (.countersignRequest t hdr term req) s fun m' =>
        m'.twin.countersignHold = m.ctr + m.lease + guardTime
          ∧ m'.mortared (.mortarCountersign (nth m.twin.mortar.sendSeq 0) term req m.lease))
      ∧ (¬signs → Does (.countersignRequest t hdr term req) s (m.taken hdr 0)))
    ∧ ∀ term req lease : Nat, m.inOrder hdr 0 →
      let asked := (m.twin.outstanding.find? fun y => y.1 = req && y.2.1 = 3).map (·.2.2)
      (asked = none ∨ m.role ≠ .active ∨ term ≠ m.term → Does (.countersign t hdr term req lease) s (m.taken hdr 0))
      ∧ ∀ a : Nanos, asked = some a → m.role = .active → term = m.term →
        Completes (.countersign t hdr term req lease) s fun m' => m'.twin.countersigned = some a ∧ m'.twin.viaPartner = true
          ∧ m'.n 0x7080 0x0A = (m.bump 0x7080 0x0A).n 0x7080 0x0A
          ∧ (m.twin.viaPartner = false → m'.told 0x700C 0 []) ∧ (m.twin.viaPartner = true → m'.raised = m.raised)

/-- R241, R242, Table 12.8: a STANDBY, and with restart an UNSYNCED partner, accepts a handover; the ACTIVE sends RELEASE at the
boundary, and at the release point becomes STANDBY, ev 7006, or FENCED where no quorum has released (reason 2, ev 7010) or in a thermal
handover (reason 3, its renditions stopping), launching nothing from then on; output ports down for 10 ms begin one. -/
def Obligations.HandoversMoveTheKeystone : Prop :=
  ∀ (s : State) (t : Nanos) (hdr : MortarHdr), s.serves →
    let m := s.m.at t
    let epoch := s.events.epoch
    let released (m' : Mod) : Prop := ∀ w ∈ m.witnesses, m.askOf w 3 (m.n 0x7000 2) 0 0 epoch ∈ m'.out
    (∀ (B : Nat) (withRestart : Bool), m.inOrder hdr 0 →
      let accepts : Prop := m.role = .standby ∨ (m.role = .unsynced ∧ withRestart = true)
      (accepts → Completes (.handover t hdr B withRestart) s fun m' =>
        m'.twin.successor = some (B, m.fam.edge B + m.n 0x5A00 1 + 20000, withRestart) ∧ m'.twin.grants = []
          ∧ m'.twin.outstanding = [] ∧ m'.mortared (.mortarHandoverAccept (nth m.twin.mortar.sendSeq 0) B))
      ∧ (¬accepts → Does (.handover t hdr B withRestart) s (m.taken hdr 0)))
    ∧ (m.twin.handover = none → Does (.handoverBoundary t) s m ∧ Does (.releasePoint t) s m
      ∧ ∀ B : Nat, m.inOrder hdr 0 → Does (.handoverAccept t hdr B) s (m.taken hdr 0))
    ∧ (∀ x : HandoverS, m.twin.handover = some x →
      (∀ B : Nat, m.inOrder hdr 0 →
        let y : HandoverS := if x.boundary = B then { x with accepted := true } else x
        let sends : Prop := m.role = .active ∧ y.accepted = true ∧ x.sent = false ∧ m.fam.edge x.boundary ≤ m.now
        (sends → Completes (.handoverAccept t hdr B) s fun m' => m'.twin.handover = some { y with sent := true } ∧ released m')
        ∧ (¬sends → Completes (.handoverAccept t hdr B) s fun m' => m'.twin.handover = some y ∧ m'.objs = m.objs))
      ∧ (let sends : Prop := m.role = .active ∧ x.accepted = true ∧ x.sent = false ∧ m.fam.edge x.boundary ≤ m.now
        (sends → Completes (.handoverBoundary t) s fun m' => m'.twin.handover = some { x with sent := true } ∧ released m')
        ∧ (¬sends → Does (.handoverBoundary t) s m))
      ∧ (m.role ≠ .active ∨ m.now < x.release → Does (.releasePoint t) s m)
      ∧ (m.role = .active → x.release ≤ m.now →
        (m.quorum ≤ x.released.length →
          Completes (.releasePoint t) s fun m' => m'.role = (if x.thermal then .fenced else .standby)
            ∧ m'.n 0x7010 0 = 0 ∧ m'.n 0x7040 0x0D = x.boundary ∧ m'.told 0x7006 0 [x.boundary, x.release]
            ∧ m'.n 0x7080 8 = (m.bump 0x7080 8).n 0x7080 8 ∧ (∀ launch, x.release ≤ launch → m'.entitled launch = false)
            ∧ (x.thermal = true → m'.n 0x7040 0x0F = 3 ∧ ∀ r < 128, m.fn (rendFid r) = running → ∃ c ∈ m'.preud.fnCmds,
              c.fid = rendFid r ∧ c.cmd = 2 ∧ c.applyTick = nextOnGrain (m.tick + 1) (m.fnGrain (rendFid r))))
        ∧ (x.released.length < m.quorum →
          Completes (.releasePoint t) s fun m' => m'.role = .fenced ∧ m'.n 0x7010 0 = 0 ∧ m'.n 0x7040 0x0F = 2
            ∧ m'.told 0x7010 0 [] ∧ m'.told 0x7007 0 [2] ∧ ∀ launch, x.release ≤ launch → m'.entitled launch = false)))
    ∧ (let plain := m.partnerIs .standby
      let due : Prop := (∃ a, m.twin.portsDownAt = some a ∧ a + 10000000 ≤ m.ctr) ∧ m.outputsDown = true ∧ m.role = .active
        ∧ m.twin.handover = none ∧ (plain = true ∨ (m.partnerIs .unsynced = true ∧ m.flag 0x7000 9 = true))
      let B := nextOnGrain (m.tick + 1) 4
      (due → Completes (.outputPortsDown t) s fun m' => m'.n 0x7010 0 = 1 ∧ ∃ x, m'.twin.handover = some x
        ∧ x.boundary = B ∧ x.withRestart = !plain ∧ x.accepted = false
        ∧ x.release = m.fam.edge B + m.n 0x5A00 1 + 20000 ∧ m'.twin.launchUntil = some x.release
        ∧ m'.mortared (.mortarHandover (nth m.twin.mortar.sendSeq 0) B !plain))
      ∧ (¬due → Does (.outputPortsDown t) s m))

/-- R231-R234: a witness discards and counts what is unsound, old or of no member; refuses a lease that is not the slot's (0x06) and,
while its restart hold lasts, every request for a lease (0x05). It renews its holder's lease and refuses the ACQUIRE held back (0x01);
grants a pair without a holder, one whose deadline + γ has passed, holds an eligible ACQUIRE back till then and refuses others (0x03);
moves or ends a lease that its holder releases, and refuses others (0x02); answers PROBE; grants the ACQUIRE held back at deadline + γ;
ends its restart hold. -/
def Obligations.WitnessesGrantAndRefuse : Prop :=
  ∀ (s : State) (t : Nanos), s.serves →
    let m := s.m.at t
    (∀ (i : Instr) (leased grants : Bool) (x : KMsg), witnessAsked i = some (t, leased, grants, x) →
      (m.isWitness = false → Does i s m)
      ∧ (m.isWitness = true → m.witnessDiscards x = true → Does i s m.discardKomund)
      ∧ ∀ k : Nat, m.heeds x k → leased = true ∧ x.lease ≠ m.n (0x7100 + k) 5 ∨ grants = true ∧ m.ctr < m.twin.restartUntil →
        Completes i s fun m' => m'.n (0x7100 + k) 7 = m.n (0x7100 + k) 7 ∧ m'.n (0x7100 + k) 8 = m.n (0x7100 + k) 8
          ∧ (m'.wslot k).pending = (m.wslot k).pending ∧ (m'.wslot k).deadline = (m.wslot k).deadline
          ∧ (if leased = true ∧ x.lease ≠ m.n (0x7100 + k) 5
            then m.answerOf k 0x12 x.sender x.req (m.n (0x7100 + k) 5) 6 (m.n (0x7100 + k) 8) ∈ m'.out
            else m.answerOf k 0x12 x.sender x.req (m.twin.restartUntil - m.ctr) 5 (m.n (0x7100 + k) 8) ∈ m'.out))
    ∧ (∀ (x : KMsg) (k : Nat), m.heeds x k →
      let term := m.n (0x7100 + k) 8
      let K := m.n (0x7100 + k) 5
      let slot := m.wslot k
      let unmoved (m' : Mod) : Prop := m'.n (0x7100 + k) 7 = m.n (0x7100 + k) 7 ∧ m'.n (0x7100 + k) 8 = term
        ∧ (m'.wslot k).deadline = slot.deadline
      let granted (m' : Mod) (fuse req : Nat) (term : Nat) : Prop := m'.n (0x7100 + k) 7 = (m.memberOf k fuse).getD 0
        ∧ m'.n (0x7100 + k) 8 = term ∧ (m'.wslot k).deadline = m.ctr + K ∧ (m'.wslot k).pending = none
        ∧ m.answerOf k 0x11 fuse req K 0 term ∈ m'.out
      Completes (.probe t x) s (fun m' => unmoved m' ∧ m.answerOf k 0x14 x.sender x.req 0 0 term ∈ m'.out)
      ∧ (m.twin.restartUntil ≤ m.ctr → x.lease = K →
        (m.holds k x.sender = true → x.term = term → Completes (.renew t x) s fun m' =>
          m'.n (0x7100 + k) 7 = m.n (0x7100 + k) 7 ∧ m'.n (0x7100 + k) 8 = term ∧ (m'.wslot k).deadline = m.ctr + K
            ∧ (m'.wslot k).pending = none ∧ m.answerOf k 0x11 x.sender x.req K 0 term ∈ m'.out
            ∧ ∀ p, slot.pending = some p → m.answerOf k 0x12 p.sender p.req (K + guardTime) 1 term ∈ m'.out)
        ∧ (m.holds k x.sender = false ∨ x.term ≠ term → Completes (.renew t x) s fun m' =>
          unmoved m' ∧ m.answerOf k 0x12 x.sender x.req 0 2 term ∈ m'.out)
        ∧ (m.n (0x7100 + k) 7 = 0 → Completes (.acquire t x) s fun m' => granted m' x.sender x.req (term + 1))
        ∧ (m.n (0x7100 + k) 7 ≠ 0 →
          (x.eligible = false → x.unsyncedOk = false → Completes (.acquire t x) s fun m' =>
            unmoved m' ∧ m.answerOf k 0x12 x.sender x.req 0 3 term ∈ m'.out)
          ∧ (x.eligible = true ∨ x.unsyncedOk = true →
            (slot.deadline + guardTime ≤ m.ctr → Completes (.acquire t x) s fun m' => granted m' x.sender x.req (term + 1))
            ∧ (m.ctr < slot.deadline + guardTime → Completes (.acquire t x) s fun m' =>
              unmoved m' ∧ (m'.wslot k).pending = some x))))
      ∧ (m.twin.restartUntil ≤ m.ctr →
        (m.holds k x.sender = false ∨ x.term ≠ term → Completes (.release t x) s fun m' =>
          unmoved m' ∧ m.answerOf k 0x12 x.sender x.req 0 2 term ∈ m'.out)
        ∧ (m.holds k x.sender = true → x.term = term →
          (x.subject = 0 → Completes (.release t x) s fun m' => m.answerOf k 0x13 0 x.req 0 0 (term + 1) ∈ m'.out
            ∧ (slot.pending = none → m'.n (0x7100 + k) 7 = 0 ∧ m'.n (0x7100 + k) 8 = term + 1)
            ∧ ∀ p, slot.pending = some p → granted m' p.sender p.req (term + 2))
          ∧ (x.subject ≠ 0 → x.subject ≠ x.sender → m.memberOf k x.subject ≠ none → Completes (.release t x) s fun m' =>
            granted m' x.subject x.req (term + 1) ∧ m.answerOf k 0x13 x.subject x.req 0 0 (term + 1) ∈ m'.out)
          ∧ (x.subject ≠ 0 → x.subject = x.sender ∨ m.memberOf k x.subject = none → Completes (.release t x) s fun m' =>
            unmoved m' ∧ m.answerOf k 0x12 x.sender x.req 0 2 term ∈ m'.out))))
    ∧ (∀ k : Fin 64,
      (m.isWitness = false ∨ (m.wslot k.val).pending = none ∨ m.ctr < (m.wslot k.val).deadline + guardTime →
        Does (.witnessDeadline t k) s m)
      ∧ ∀ x : KMsg, (m.wslot k.val).pending = some x → m.isWitness = true → (m.wslot k.val).deadline + guardTime ≤ m.ctr →
        Completes (.witnessDeadline t k) s fun m' => m'.n (0x7100 + k.val) 7 = (m.memberOf k.val x.sender).getD 0
          ∧ m'.n (0x7100 + k.val) 8 = m.n (0x7100 + k.val) 8 + 1 ∧ (m'.wslot k.val).pending = none
          ∧ (m'.wslot k.val).deadline = m.ctr + m.n (0x7100 + k.val) 5
          ∧ m.answerOf k.val 0x11 x.sender x.req (m.n (0x7100 + k.val) 5) 0 (m.n (0x7100 + k.val) 8 + 1) ∈ m'.out)
    ∧ (m.isWitness = true → m.twin.restartUntil ≤ m.ctr → Does (.witnessRestartHoldEnd t) s (m.put 0x7140 2 0))
    ∧ (m.isWitness = false ∨ m.ctr < m.twin.restartUntil → Does (.witnessRestartHoldEnd t) s m)
    ∧ ∀ x : KMsg,
      let bad : Prop := if m.isWitness = true then m.witnessDiscards x = true
        else KMsg_bad x m.komundKey = true ∨ x.pair ≠ m.n 0x7000 1
      (bad → Does (.komundMessageDiscarded t x) s m.discardKomund) ∧ (¬bad → Does (.komundMessageDiscarded t x) s m)

/-- R232, R239: while a pair has a holder and its deadline + γ has not passed, no ACQUIRE of whatever sender moves the holder, the term
or the deadline. R215, R239: whatever two states two paired modules are in, where one launches only before a release point and the other
only from it on, no launch time belongs to both and none from the successor's start on to neither. -/
def Obligations.AtMostOneModuleHoldsTheKeystone : Prop :=
  (
    ∀ (s s' : State) (t : Nanos) (x : KMsg) (k : Fin 64),
      (s.m.at t).n (0x7100 + k.val) 7 ≠ 0 → (s.m.at t).ctr < ((s.m.at t).wslot k.val).deadline + guardTime →
      s.m.rebooting = false → exec (.acquire t x) s = .next s' →
        s'.m.n (0x7100 + k.val) 7 = s.m.n (0x7100 + k.val) 7 ∧ s'.m.n (0x7100 + k.val) 8 = s.m.n (0x7100 + k.val) 8
          ∧ (s'.m.wslot k.val).deadline = (s.m.wslot k.val).deadline)
  ∧ (
    ∀ (a b : Mod) (X : Nanos), a.n 0x7040 1 ≠ 0 → b.n 0x7040 1 ≠ 0 → a.twin.launchUntil = some X → b.twin.launchFrom = some X →
      b.twin.launchUntil = none →
      ∀ launch, ¬(a.entitled launch = true ∧ b.entitled launch = true)
        ∧ ∀ from_, a.twin.launchFrom = some from_ → from_ ≤ launch → a.entitled launch = true ∨ b.entitled launch = true)

/-! ### Memory (ch. 13) and ports (ch. 14) -/

/-- R256: a refresh that comes due, every tREFI and no sooner, is issued with those its bank is owed, or postponed and counted while
urgent requests wait; with four owed, one is forced in its stead, 2140:07 and ev 2005, and one postponed for 4 tREFI is forced at once.
The rate doubles above 85 °C and returns at 83 °C, ev 2006; from 95 °C on ev 1D09 tells of it (R355). R247, R260-R262, R351: a
correctable error is counted, and against its device within the hour, and a device above the limit is warned of once, ev 2002; an
uncorrectable read is counted with its port, ev 2003, and its reader loses what it read: the datagram at the head of a launch queue
fails, a band of a repair is not sent; a scrub pass is counted; a tripped supply ends the population and what DRAM holds, ev 2001. A
channel out of service does none of it. -/
def Obligations.DramIsRefreshedAndWatched : Prop :=
  (
    ∀ (s : State) (t : Nanos) (c : Fin 16), s.serves →
      let m := s.m.at t
      let o := 0x2140 + c.val
      let tells (m' : Mod) : Prop := m'.n o 7 = (m.bump o 7).n o 7
        ∧ (m.limits.find? (fun l => l.code = 0x2005 && l.res = c.val) = none → m'.told 0x2005 c.val [c.val, 1])
      (∀ b : Fin 4,
        let due : Prop := m.channelLive c.val = true ∧ m.coreCoasts = false ∧ m.refreshTime c.val b.val = true
        (¬due → ∀ urgent : Bool, Does (.refreshDue t c b urgent) s m)
        ∧ (due →
          Completes (.refreshDue t c b false) s (fun m' => m'.owedTo c.val b.val = 0 ∧ m'.refreshTime c.val b.val = false
            ∧ m'.objs = m.objs)
          ∧ (m.owedTo c.val b.val < 4 → Completes (.refreshDue t c b true) s fun m' =>
            m'.owedTo c.val b.val = m.owedTo c.val b.val + 1 ∧ m'.refreshTime c.val b.val = false ∧ m'.n o 6 = (m.bump o 6).n o 6)
          ∧ (4 ≤ m.owedTo c.val b.val → Completes (.refreshDue t c b true) s fun m' =>
            m'.owedTo c.val b.val = m.owedTo c.val b.val ∧ m'.n o 6 = (m.bump o 6).n o 6 ∧ tells m' ∧ m'.mem.forced = true))
        ∧ (m.owedTo c.val b.val < 4 ∨ m.refreshTime c.val b.val = false → Does (.refreshForced t c b) s m)
        ∧ (4 ≤ m.owedTo c.val b.val → m.refreshTime c.val b.val = true → Completes (.refreshForced t c b) s fun m' =>
          m'.owedTo c.val b.val = m.owedTo c.val b.val - 1 ∧ tells m' ∧ m'.mem.forced = true))
      ∧ ∀ temp : Int,
        (m.n o 1 = 0 → Does (.dimmTemperatureChange t c temp) s m)
        ∧ (m.n o 1 ≠ 0 → Completes (.dimmTemperatureChange t c temp) s fun m' => m'.z o 8 = temp
          ∧ m'.n o 9 = (if 85 < temp then 1 else if temp ≤ 83 ∧ m.n o 9 = 1 then 0 else m.n o 9)
          ∧ (85 < temp → m.n o 9 ≠ 1 → m.condSet 0x2006 c.val = false → m'.told 0x2006 c.val [c.val, 1])
          ∧ (temp ≤ 83 → m.n o 9 = 1 → m'.told 0x2006 c.val [c.val, 0])
          ∧ (95 ≤ temp → m.limits.find? (fun l => l.code = 0x1D09 && l.res = c.val) = none →
            m'.told 0x1D09 c.val [c.val, temp.toNat, 1])))
  ∧ (
    ∀ (s : State) (t : Nanos) (c : Fin 16), s.serves →
      let m := s.m.at t
      let o := 0x2140 + c.val
      (m.channelLive c.val = false →
        (∀ (sub rank : Fin 2) (dev : Fin 10), Does (.dramCorrectableError t c sub rank dev) s m)
        ∧ (∀ (p : Fin 24) (what : DramReader), Does (.dramUncorrectableRead t c p what) s m) ∧ Does (.patrolScrubPass t c) s m)
      ∧ (m.channelLive c.val = true →
        (∀ (sub rank : Fin 2) (dev : Fin 10),
          let is (x : DevErrors) : Bool := x.channel = c.val && x.subch = sub.val && x.rank = rank.val && x.device = dev.val
          let hour := m.now / (3600 * second)
          let known := (m.mem.devices.find? is).filter fun x => x.hour = hour
          let count := (known.map (·.count)).getD 0
          Completes (.dramCorrectableError t c sub rank dev) s fun m' => m'.n o 4 = (m.bump o 4).n o 4
            ∧ (m.n 0x2020 3 < count + 1 → (known.map (·.warned)).getD false = false →
              m'.told 0x2002 c.val [c.val, sub.val, rank.val, dev.val])
            ∧ (count + 1 ≤ m.n 0x2020 3 → m'.raised = m.raised)
            ∧ ∃ y ∈ m'.mem.devices, is y = true ∧ y.hour = hour ∧ y.count = count + 1)
        ∧ (∀ (p : Fin 24) (what : DramReader),
          Completes (.dramUncorrectableRead t c p what) s fun m' => m'.n o 5 = (m.bump o 5).n o 5
            ∧ m'.n (0x2100 + p.val) 8 = (m.bump (0x2100 + p.val) 8).n (0x2100 + p.val) 8
            ∧ (m.limits.find? (fun l => l.code = 0x2003 && l.res = c.val) = none → ∃ region < 8, m'.told 0x2003 c.val [p.val, region, 1])
            ∧ (∀ r : Fin 128, what = .launchQueue r → m'.rends = m.rends.modify r.val fun y =>
              { y with queue := y.queue.modify 0 fun d => { d with failed := true } })
            ∧ (∀ r : Fin 128, what = .repair r → r.val ∈ m'.twin.skipBand)
            ∧ (what = .scrub ∨ what = .other → m'.rends = m.rends ∧ m'.chans = m.chans ∧ m'.twin = m.twin))
        ∧ Does (.patrolScrubPass t c) s (m.bump o 0x0A))
      ∧ (m.n o 1 = 0 → Does (.dimmSupplyTrip t c) s m)
      ∧ (m.n o 1 ≠ 0 → Completes (.dimmSupplyTrip t c) s fun m' => m'.n o 1 = 2 ∧ m'.n 0x2000 2 = 0
        ∧ m'.n 0x2000 1 = m.n 0x2000 1 ∧ m'.rings = List.replicate 128 none ∧ m'.told 0x2001 0 [m.n 0x2000 9, 5]))

/-- R265, R274, R275: a module plugged in is seen, ev 2408, and after 100 ms powered: one above 14 W, or an optic without an application
of the configured mode, is refused, ev 2409; an optic initialises, a cable is ready, ev 2409 where it is not of the forced medium. It is
ready in its time or refused; a removal or a tripped eFuse takes every port of the cage to stage 1. A command that finds nothing to do
does nothing. -/
def Obligations.CagesTakeTheirModules : Prop :=
  ∀ (s : State) (t : Nanos) (q : Fin 9), s.serves → q.val < (s.m.at t).prt.cages.length →
    let m := s.m.at t
    let c := m.cage q.val
    let o := 0x2440 + q.val
    (c.present = true → Does (.cageInsertion t q) s m)
    ∧ (c.present = false →
      Completes (.cageInsertion t q) s (fun m' => (m'.cage q.val).present = true ∧ (m'.cage q.val).presentAt = m.ctr
        ∧ (m'.cage q.val).info = none ∧ m'.told 0x2408 q.val [q.val, 1])
      ∧ Does (.cageRemoval t q) s m)
    ∧ (∀ x : CageModule,
      let due : Prop := c.present = true ∧ c.info = none ∧ c.presentAt + 100000000 ≤ m.ctr
      let fits : Prop := x.watts ≤ 14 ∧ (x.optic = true → m.n (0x2400 + q.val) 1 ∈ x.modes)
      (¬due → Does (.cagePresenceStable t q x) s m)
      ∧ (due → Completes (.cagePresenceStable t q x) s fun m' => (m'.cage q.val).info = some x ∧ m'.n o 3 = x.medium
        ∧ (¬fits → m'.n o 2 = 5 ∧ m'.n o 4 = 0 ∧ m'.told 0x2409 q.val [q.val])
        ∧ (fits → m'.n o 4 = min x.powerMw 20000
          ∧ (x.optic = true → m'.n o 2 = 2 ∧ (m'.cage q.val).initAt = m.ctr ∧ m'.raised = m.raised)
          ∧ (x.optic = false → m'.n o 2 = 3 ∧ (m.n (0x2400 + q.val) 2 ≠ 0 → m.n (0x2400 + q.val) 2 ≠ x.medium →
            m'.told 0x2409 q.val [q.val])))))
    ∧ (m.n o 2 ≠ 2 → Does (.moduleReady t q) s m ∧ Does (.moduleReadyTimeout t q) s m)
    ∧ (m.n o 2 = 2 →
      Completes (.moduleReady t q) s (fun m' => m'.n o 2 = 3 ∧ (m.mediumOk q.val = false → m'.told 0x2409 q.val [q.val]))
      ∧ (c.info = none → Does (.moduleReadyTimeout t q) s m)
      ∧ ∀ x : CageModule, c.info = some x →
        let limit := c.initAt + min x.readyLimitNs (60 * second)
        (m.ctr < limit → Does (.moduleReadyTimeout t q) s m)
        ∧ (limit ≤ m.ctr → Completes (.moduleReadyTimeout t q) s fun m' => m'.n o 2 = 5 ∧ m'.n o 4 = 0
          ∧ m'.told 0x2409 q.val [q.val]))
    ∧ (c.present = true →
      Completes (.cageRemoval t q) s fun m' => (m'.cage q.val).present = false ∧ (m'.cage q.val).info = none ∧ m'.n o 2 = 0
        ∧ m'.n o 0x0B = 0 ∧ m'.told 0x2408 q.val [q.val, 0] ∧ ∀ u ∈ m.cageUnits q.val, m'.unitStage u ≤ 1)
    ∧ (¬(1 ≤ m.n o 2 ∧ m.n o 2 ≤ 3) → Does (.efuseTrip t q) s m)
    ∧ (1 ≤ m.n o 2 → m.n o 2 ≤ 3 →
      Completes (.efuseTrip t q) s fun m' => m'.n o 2 = 4 ∧ m'.n o 4 = 0 ∧ m'.told 0x240A q.val [q.val]
        ∧ ∀ u ∈ m.cageUnits q.val, m'.unitStage u ≤ 1)

/-- R265, R266, R270-R273: in stage 1 a detect test, at most every 10 ms, disables an open or shorted lane, ev 2403; the stage ends when
every lane of the attempt, all or a whole pair, shows signal and negotiation has resolved, which a partner does that offers the rate
and, in a cage, RS-FEC, any other being counted. Stage 2 ends with figures of merit of 60 or more, stage 3 with lock, lane order and
deskew, stage 4 after 1 ms, or with Hello, in agreement, ev 2401; a limit that expires, a wrong lane order or a degraded mode refused,
ev 2407, takes the unit back to stage 1. A command out of its stage does nothing. -/
def Obligations.BringUpRunsItsStages : Prop :=
  ∀ (s : State) (t : Nanos) (p : BringPort), s.serves → unitOf p < (s.m.at t).prt.units.length → (s.m.at t).stageShows (unitOf p) →
    let m := s.m.at t
    let u := unitOf p
    let b := m.bring u
    let lanes := m.attemptLanes u
    (∀ seen : List DetectObs,
      let due : Prop := m.unitRuns u = true ∧ m.unitStage u = 1 ∧ m.detectDue u = true
      (¬due → Does (.detectRepeat t p seen) s m)
      ∧ (due →
        (∀ x ∈ seen, DetectObs_fault x ≠ 0 → m.laneBad x.lane.val = false → x.lane.val ∈ m.unitLanes u →
          (∀ y ∈ seen, y.lane = x.lane → y = x) → Completes (.detectRepeat t p seen) s fun m' =>
            m'.n (0x2480 + x.lane.val) 5 = DetectObs_fault x ∧ m'.told 0x2403 x.lane.val [x.lane.val, DetectObs_fault x])
        ∧ ∀ a : Option Nat, m.attemptOf u = some a → (∀ x ∈ seen, DetectObs_fault x = 0 ∧ x.signal = true) →
          (∀ l ∈ (match a with | none => m.unitLanes u | some i => [u + i, u + i + 1]), ∃ x ∈ seen, x.lane.val = l) →
          (m.negotiates u = true → b.negotiated = true ∧ b.pair = a) →
          Completes (.detectRepeat t p seen) s fun m' => m'.unitStage u = 2 ∧ (m'.bring u).pair = a))
    ∧ (∀ x : AnOffer,
      let due : Prop := m.unitRuns u = true ∧ m.unitStage u = 1 ∧ m.negotiates u = true
      (¬due → Does (.autoNegotiationResolved t p x) s m)
      ∧ (due → m.resolves u x = true → Completes (.autoNegotiationResolved t p x) s fun m' => (m'.bring u).negotiated = true
        ∧ ((m'.bring u).fec74 = true ↔ 33 ≤ u ∧ x.fec74 = true ∧ m.flag 0x2600 1 = true))
      ∧ (due → m.resolves u x = false →
        (∀ q, cageOf u = some q → Does (.autoNegotiationResolved t p x) s (m.bump (0x2440 + q) 0x0C))
        ∧ (cageOf u = none → Does (.autoNegotiationResolved t p x) s m)))
    ∧ (∀ snrs : List Int,
      let good : Prop := snrs.length = lanes.length ∧ ∀ x ∈ snrs, 60 ≤ meritOf x
      (m.within_ u 2 = false → Does (.trainingComplete t p snrs) s m)
      ∧ (m.within_ u 2 = true → Completes (.trainingComplete t p snrs) s fun m' =>
        m'.unitStage u = (if good then 3 else 2) ∧ ∀ x ∈ lanes.zip snrs, m'.n (0x2480 + x.1) 2 = meritOf x.2))
    ∧ (∀ obs : LockObs,
      let bad := badPartners (fun y => m.partnerMay u y) lanes (if lanes.length = 1 then lanes.map fun l => l % 4 else obs.partner) []
      let locks : Prop := obs.lockedAll = true ∧ obs.skewNs ≤ 200 ∧ (lanes.length ≠ 1 → obs.partner.length = lanes.length)
      (m.within_ u 3 = false ∨ b.relock = true → Does (.lockComplete t p obs) s m)
      ∧ (m.within_ u 3 = true → b.relock = false →
        (bad ≠ [] → Completes (.lockComplete t p obs) s fun m' => m'.unitStage u ≤ 1)
        ∧ (bad = [] → Completes (.lockComplete t p obs) s fun m' => m'.unitStage u = (if locks then 4 else 3)
          ∧ ∀ l ∈ lanes, m'.flag (0x2480 + l) 4 = obs.inverted.any fun x => x.val = l)))
    ∧ (∀ agreed : Bool,
      let due : Prop := m.within_ u 4 = true ∧ m.unitTests u = false
        ∧ (if u = 32 then m.twin.mortar.helloHeard = true else b.entered + 1000000 ≤ m.ctr)
      (¬due → Does (.capabilityComplete t p agreed) s m)
      ∧ (due → agreed = true → Completes (.capabilityComplete t p agreed) s fun m' => m'.unitStage u = 5
        ∧ m'.told 0x2401 u [u, if b.pair ≠ none ∧ u ≤ 32 then 200000 else m.unitRate u, m.ctr - b.began])
      ∧ (due → agreed = false → b.pair = none → Does (.capabilityComplete t p agreed) s m)
      ∧ (due → agreed = false → b.pair ≠ none → Completes (.capabilityComplete t p agreed) s fun m' => m'.unitStage u ≤ 1
        ∧ (u < 32 → b.declined = false → m'.told 0x2407 u [u])))
    ∧ ∀ failing : List (Fin 38),
      let due : Prop := m.unitRuns u = true ∧ 2 ≤ m.unitStage u ∧ m.unitStage u < 5 ∧ b.entered + m.stageLimit u ≤ m.ctr
      (¬due → Does (.stageLimitExpiry t p failing) s m)
      ∧ (due → Completes (.stageLimitExpiry t p failing) s fun m' => m'.unitStage u ≤ 1
        ∧ (b.relock = true → m.condSet 0x2402 u = false → m'.told 0x2402 u [u, 2])
        ∧ (b.relock = false → m.unitStage u = 4 → u < 32 → b.pair ≠ none → b.declined = false → m'.told 0x2407 u [u]))

/-- R267, R269: a lane that loses lock, or shows more than 16 uncorrectable codewords, takes its unit from stage 5 to a fast relock,
which brings it back, ev 2401, or, failing, takes it to stage 1, ev 2402; a figure of merit below the threshold retrains the unit, ev
2402; one below 80 in stage 5 raises ev 240B at most once a minute, and the least in stage 5 is kept. R276, R278, R279: a checker in
test mode locks after 64 error-free bits, once; a backplane link goes up from stage 4, ev 240D, and down from stage 5, ev 240D and 2402;
the service port, while enabled, shows its link, up and down with ev 240E. -/
def Obligations.LinksLoseLockAndRecover : Prop :=
  (
    ∀ (s : State) (t : Nanos) (lane : Fin 38), s.serves →
      let m := s.m.at t
      let o := 0x2480 + lane.val
      (∀ p : BringPort, unitOf p < m.prt.units.length → m.stageShows (unitOf p) →
        let u := unitOf p
        (∀ bad : Nat,
          let runs : Prop := m.unitStage u = 5 ∧ lane.val ∈ m.attemptLanes u
          (¬runs → Does (.lossOfLock t p bad lane) s m)
          ∧ (runs → 0 < bad → bad ≤ 16 → Does (.lossOfLock t p bad lane) s (m.count o 0x0B bad))
          ∧ (runs → bad = 0 ∨ 16 < bad → Completes (.lossOfLock t p bad lane) s fun m' =>
            (m'.bring u).relock = true ∧ m'.unitStage u = 3 ∧ m'.n o 5 = 4 ∧ m'.n o 0x0B = (m.count o 0x0B bad).n o 0x0B))
        ∧ (let due : Prop := (m.bring u).relock = true ∧ m.within_ u 3 = true
          (¬due → ∀ ok : Bool, Does (.fastRelockComplete t p ok lane) s m)
          ∧ (due → Completes (.fastRelockComplete t p true lane) s fun m' => m'.unitStage u = 5 ∧ (m'.bring u).relock = false
            ∧ m'.n o 0x0A = (m.bump o 0x0A).n o 0x0A ∧ m'.condSet 0x2402 u = false
            ∧ ∃ rate took, m'.told 0x2401 u [u, rate, took])
          ∧ (due → Completes (.fastRelockComplete t p false lane) s fun m' => m'.unitStage u ≤ 1 ∧ (m'.bring u).relock = false
            ∧ m'.condSet 0x2402 u = true ∧ (m.condSet 0x2402 u = false → m'.told 0x2402 u [u, 2]))))
      ∧ (∀ snr : Int,
        let u := m.laneUnit lane.val
        let limit := match cageOf u with
          | none => 40
          | some q => m.n (0x2400 + q) 8
        let runs : Prop := m.unitStage u = 5 ∧ lane.val ∈ m.attemptLanes u
        (¬runs → Does (.retrainTrigger t lane snr) s m)
        ∧ (runs → limit ≤ meritOf snr → Completes (.retrainTrigger t lane snr) s fun m' => m'.unitStage u = 5
          ∧ m'.n o 2 = meritOf snr ∧ m'.n o 9 = m.n o 9)
        ∧ (runs → m.stageShows u → meritOf snr < limit → Completes (.retrainTrigger t lane snr) s fun m' => m'.unitStage u = 2
          ∧ m'.n o 2 = meritOf snr ∧ m'.n o 9 = (m.bump o 9).n o 9
          ∧ (m.condSet 0x2402 u = false → m'.told 0x2402 u [u, 1])))
      ∧ ∀ snr : Int,
        (m.n o 1 < 2 → Does (.figureOfMeritLow t lane snr) s m)
        ∧ (2 ≤ m.n o 1 → Completes (.figureOfMeritLow t lane snr) s fun m' => m'.n o 2 = meritOf snr
          ∧ m'.n o 3 = (if m.n o 1 = 5 then min (meritOf snr) (m.n o 3) else m.n o 3)
          ∧ (m.n o 1 = 5 → meritOf snr < 80 → m.limits.find? (fun l => l.code = 0x240B && l.res = lane.val) = none →
            m'.told 0x240B lane.val [lane.val, meritOf snr, 1])
          ∧ (m.n o 1 ≠ 5 ∨ 80 ≤ meritOf snr → m'.raised = m.raised)))
  ∧ (
    ∀ (s : State) (t : Nanos), s.serves →
      let m := s.m.at t
      (∀ (lane : Fin 38) (inverted : Bool) (k : Nat),
        let o := 0x2500 + lane.val
        let locks : Prop := m.laneTests lane.val = true ∧ m.n o 2 ≠ 0 ∧ 64 ≤ k ∧ m.flag o 5 = false
        (locks → Does (.checkerLock t lane inverted k) s ((m.put o 5 1).putFlag o 6 inverted))
        ∧ (¬locks → Does (.checkerLock t lane inverted k) s m))
      ∧ (∀ b : Fin 2,
        let u := 33 + b.val
        let due : Prop := m.within_ u 4 = true ∧ m.unitTests u = false ∧ (m.bring u).entered + 1000000 ≤ m.ctr
        (due → Completes (.backplaneLinkChange t b true) s fun m' => m'.unitStage u = 5 ∧ m'.told 0x240D b.val [b.val, 1])
        ∧ (¬due → Does (.backplaneLinkChange t b true) s m)
        ∧ (m.unitStage u = 5 → Completes (.backplaneLinkChange t b false) s fun m' => m'.unitStage u = 1
          ∧ (m.condSet 0x240D b.val = false → m'.told 0x240D b.val [b.val, 0])
          ∧ (m.condSet 0x2402 u = false → m'.told 0x2402 u [u, 2]))
        ∧ (m.unitStage u ≠ 5 → Does (.backplaneLinkChange t b false) s m))
      ∧ ∀ link : ServiceLink,
        (m.flag 0x2610 1 = false → Does (.servicePortLinkChange t link) s m)
        ∧ (m.flag 0x2610 1 = true → Completes (.servicePortLinkChange t link) s fun m' =>
          m'.n 0x2610 2 = (match link with | .down => 1 | .up => 2 | .speedUnsupported => 3)
            ∧ (link = .up → m.n 0x2610 2 ≠ 2 → m'.told 0x240E 0 [1])
            ∧ (link ≠ .up → m.n 0x2610 2 = 2 → m.condSet 0x240E 0 = false → m'.told 0x240E 0 [0])
            ∧ ((link = .up ↔ m.n 0x2610 2 = 2) → m'.raised = m.raised)))

/-! ### Clocks, calibration, power, hardware, Sett cores (ch. 15, 17-19) -/

/-- R281, R282, R284, R287-R289: a gate within tolerance counts toward the eight that judge a clock stable, ev 1801, XB's also against
its first; one outside begins them anew and puts a running source out of tolerance, ev 1802; a clock not to be judged is left alone. A
source that stops is so marked, ev 1802, once: the counters go to XA, and the always-on domain leaves SIO, ev 1805; without a crystal
the module is ACTIVE no more and its twin function STOPPED, ev 1808. R281, R283-R285: a PLL whose reference stops or that reports loss
of lock coasts, counted and timed, ev 1803, CPLL and MPLL ending the media, ev 1807; where automatic switching is on it locks again on
its reference after a loss of lock, three times at most, or goes to an alternate, at once or by a forced switch, ev 1805. Eight windows
after it locks it relocks at nominal, ev 1804, DRAM recovering once neither CPLL nor MPLL coasts. R291, R292: an access that times out
is reported, ev 1806; the frequency counter shows what it counted. -/
def Obligations.ClocksAreJudgedAndCoast : Prop :=
  (
    ∀ (s : State) (t : Nanos), s.serves →
      let m := s.m.at t
      (∀ (c : Fin 10) (k : Nat),
        let off := (k : Int) - m.gateNominal c.val
        let idle : Prop := c.val = 0 ∨ (c.val ≤ 3 ∧ m.source c.val = 3) ∨ (c.val = 3 ∧ (m.clk.settled = false ∨ m.source 2 = 3))
          ∨ (4 ≤ c.val ∧ m.n (0x1810 + (c.val - 4)) 1 ≠ 1)
        let near : Prop := c.val ≠ 3 ∨ nth m.clk.runs 3 = 0 ∨ m.source 3 = 1 ∨ ((k : Int) - m.clk.xbFirst).natAbs ≤ 2
        let run := if near then min 8 (nth m.clk.runs c.val + 1) else 1
        (idle → Does (.gateWindowEnd t c k) s m)
        ∧ (¬idle → Completes (.gateWindowEnd t c k) s fun m' =>
          (c.val ≤ 3 → m'.z 0x1800 (5 + c.val) = off * 1000000000 / m.gateNominal c.val)
            ∧ (m.gateTolerance c.val < off.natAbs → m'.clk.runs = m.clk.runs.set c.val 0
              ∧ (c.val ≤ 3 → m'.source c.val = (if m.source c.val = 0 then 0 else 2)
                ∧ (m.source c.val ≠ 0 → m'.told 0x1802 c.val [c.val, 2])))
            ∧ (off.natAbs ≤ m.gateTolerance c.val → m'.clk.runs = m.clk.runs.set c.val run
              ∧ (c.val ≤ 3 → m'.source c.val = (if run = 8 then 1 else m.source c.val)
                ∧ (run = 8 → m.source c.val ≠ 1 → m'.told 0x1801 c.val [c.val]))
              ∧ (4 ≤ c.val → run = 8 → nth m.clk.runs c.val ≠ 8 → m'.told 0x1801 c.val [c.val])
              ∧ (c.val = 3 → run = 8 → m.source 3 ≠ 1 → m'.clk.counterOn = 3))))
      ∧ ∀ (c : Fin 4) (gap : Nat),
        let lost : Prop := m.noCrystal = false ∧ (c.val = 2 ∧ (m.source 3 = 3 ∨ m.source 3 = 0) ∨ c.val = 3 ∧ m.source 2 = 3)
        (m.source c.val = 3 → Does (.clockStopDetected t c gap) s m)
        ∧ (m.source c.val ≠ 3 → Completes (.clockStopDetected t c gap) s fun m' => m'.source c.val = 3
          ∧ m'.told 0x1802 c.val [c.val, 3]
          ∧ (c.val = 3 → m.clk.counterOn = 3 → m.source 2 ≠ 3 → m'.clk.counterOn = 2 ∧ m'.now = m.now + gap * 5 / 2
            ∧ m'.told 0x1805 6 [6])
          ∧ (c.val = 0 → m.source 1 ≠ 3 → m'.told 0x1805 7 [7])
          ∧ (lost → m'.role ≠ .active ∧ m'.twinFn = stopped ∧ m'.told 0x1808 0 [])))
  ∧ (
    ∀ (s : State) (t : Nanos), s.serves →
      let m := s.m.at t
      (∀ k : Fin 6,
        let o := 0x1810 + k.val
        let here := m.source (refSource (m.n o 2))
        (∀ lockLoss : Bool,
          let fails : Prop := m.n o 1 ≠ 3 ∧ (lockLoss = true ∨ here = 3)
          (¬fails → Does (.pllReferenceFailure t k lockLoss) s m)
          ∧ (fails → Completes (.pllReferenceFailure t k lockLoss) s fun m' =>
            (m.n o 1 ≠ 1 → m'.n o 5 = 1 ∧ m'.n o 6 = (m.bump o 6).n o 6 ∧ m'.n o 8 = m.now
              ∧ (m.condSet 0x1803 k.val = false → m'.told 0x1803 k.val [k.val, if lockLoss then 1 else 0])
              ∧ (k.val ≤ 1 → m.coreCoasts = false → m'.told 0x1807 0 []))
            ∧ (if m.flag 0x1820 0 = false then m'.n o 1 = 3
              else if lockLoss = true ∧ here = 1 ∧ nth m.clk.tries k.val < 3 then m'.n o 1 = 1 ∧ m'.n o 2 = m.n o 2
                ∧ m'.clk.tries = m.clk.tries.set k.val (nth m.clk.tries k.val + 1)
              else match m.alternate k.val with
                | none => m'.n o 1 = 3
                | some r => if here = 3 then m'.n o 1 = 3 ∧ m'.clk.moving = m.clk.moving.set k.val (some r)
                  else m'.n o 1 = 1 ∧ m'.n o 2 = r)))
        ∧ (nth m.clk.moving k.val = none → Does (.forcedSwitchComplete t k) s m)
        ∧ (∀ r : Nat, nth m.clk.moving k.val = some r → Completes (.forcedSwitchComplete t k) s fun m' => m'.n o 2 = r
          ∧ m'.n o 1 = 1 ∧ m'.n o 7 = 1 ∧ m'.clk.moving = m.clk.moving.set k.val none ∧ m'.told 0x1805 k.val [k.val])
        ∧ (let locks : Prop := m.n o 1 = 1 ∧ nth m.clk.runs (4 + k.val) = 8
          (locks → Completes (.pllRelock t k) s fun m' => m'.n o 1 = 2 ∧ m'.condSet 0x1803 k.val = false
            ∧ m'.told 0x1804 k.val [k.val, m.n o 2] ∧ m'.clk.tries = m.clk.tries.set k.val 0
            ∧ (k.val ≤ 1 → m.pllCoasts (1 - k.val) = false → ∀ c < 16, m.dimmIn c = true → ∃ x ∈ m'.cal.queued, x.1 = 10 + c))
          ∧ (¬locks → Does (.pllRelock t k) s m)))
      ∧ (∀ block addr initiator : Nat,
        let watched : Prop := m.flag 0x1850 1 = true ∧ 10 ≤ block ∧ block ≤ 31
        (watched → Completes (.accessTimeout t block addr initiator) s fun m' => m'.n 0x1850 3 = block ∧ m'.n 0x1850 4 = addr
          ∧ m'.n 0x1850 5 = initiator ∧ m'.n 0x1850 6 = m.now ∧ m'.n 0x1850 2 = (m.bump 0x1850 2).n 0x1850 2
          ∧ m'.told 0x1806 block [block, addr, initiator])
        ∧ (¬watched → Does (.accessTimeout t block addr initiator) s m))
      ∧ ∀ k : Nat,
        let (clock, ref, gate) := m.clk.counting
        let f := k * clockHz ref * 1000 / gate
        (m.n 0x1840 5 ≠ 1 → ∀ void : Bool, Does (.frequencyCounterDone t k void) s m)
        ∧ (m.n 0x1840 5 = 1 →
          Completes (.frequencyCounterDone t k false) s (fun m' => m'.n 0x1840 5 = 2 ∧ m'.n 0x1840 6 = k ∧ m'.n 0x1840 7 = f
            ∧ m'.z 0x1840 8 = ((f : Int) - (clockHz clock * 1000 : Nat)) * 1000000000 / (clockHz clock * 1000 : Nat))
          ∧ Does (.frequencyCounterDone t k true) s (m.put 0x1840 5 3)))

/-- R293-R299: with automatic calibration on, a domain that has moved by more than the threshold, or whose DQS oscillator has drifted by
more than 8 steps, is queued, or keeps its trigger where it is a lane domain without a lane in stage 5; the lowest queued domain that
may start starts; a run ends once it has made its steps: one that converges in range is counted, with temperature and time, ev 1C01, any
other keeps its trims, counted, ev 1C02. -/
def Obligations.CalibrationRunsInOrder : Prop :=
  ∀ (s : State) (t : Nanos), s.serves →
    let m := s.m.at t
    (∀ l : List DomTemp,
      let samples : Prop := m.flag 0x1C00 2 = true ∧ m.cal.runsIn 27 = false
      let moved (x : DomTemp) : Prop := 10 * m.n 0x1C00 1 < (x.temp - m.z (0x1C40 + x.domain.val) 5).natAbs
        ∨ (isDramDomain x.domain.val = true ∧ 8 < x.drift)
      (¬samples → Does (.temperatureSample t l) s m)
      ∧ ((∀ x ∈ l, ¬moved x) → Does (.temperatureSample t l) s m)
      ∧ (samples → Completes (.temperatureSample t l) s fun m' => ∀ x ∈ l, moved x →
        (isDramDomain x.domain.val = true → m.dimmIn (x.domain.val - 10) = true) → (x.domain.val = 26 → m.n 0x1800 2 ≠ 3) →
        (∃ y ∈ m'.cal.queued, y.1 = x.domain.val)
          ∨ (x.domain.val ≤ 9 ∧ m.domainLive x.domain.val = false ∧ ∃ y ∈ m'.cal.kept, y.1 = x.domain.val)))
    ∧ (∀ d : Fin 28,
      (m.cal.queued.find? (fun x => x.1 = d.val) = none → Does (.calibrationRunStart t d) s m)
      ∧ ∀ x : Nat × Nat, m.cal.queued.find? (fun y => y.1 = d.val) = some x →
        let starts : Prop := m.cal.mayStart d.val = true ∧ ∀ y ∈ m.cal.queued, y.1 < d.val → m.cal.mayStart y.1 = false
        (¬starts → Does (.calibrationRunStart t d) s m)
        ∧ (starts → Completes (.calibrationRunStart t d) s fun m' => m'.n (0x1C40 + d.val) 1 = 2
          ∧ (∃ y ∈ m'.cal.running, y.domain = d.val ∧ y.trigger = x.2 ∧ y.stepped = 0
            ∧ (y.inService = true ↔ x.2 ≠ trigBringUp ∧ x.2 ≠ trigRecovery ∧ d.val ≤ 26))
          ∧ ∀ y ∈ m'.cal.queued, y.1 ≠ d.val))
    ∧ ∀ (d : Fin 28) (res : CalResult),
      let o := 0x1C40 + d.val
      let good : Prop := res.converged = true ∧ res.inRange = true ∧ res.steps ≤ stepLimit d.val
      (m.cal.running.find? (fun y => y.domain = d.val) = none → Does (.calibrationRunComplete t d res) s m)
      ∧ ∀ x : CalRun, m.cal.running.find? (fun y => y.domain = d.val) = some x →
        (good → x.stepped < x.needs res.steps → Does (.calibrationRunComplete t d res) s m)
        ∧ (¬good ∨ x.needs res.steps ≤ x.stepped → Completes (.calibrationRunComplete t d res) s fun m' =>
          m'.cal.runsIn d.val = false ∧ m'.n o 2 = (m.bump o 2).n o 2 ∧ m'.n o 4 = m.now ∧ m'.z o 5 = res.temp
            ∧ m'.n o 0x0A = x.trigger
            ∧ (good → m'.n o 3 = m.n o 3 ∧ m'.n o 1 = (if m.cal.queued.any (fun y => y.1 = d.val) then 1 else 0)
              ∧ m'.told 0x1C01 d.val [d.val, x.trigger, if x.inService then max x.stepped (x.needs res.steps) else res.steps])
            ∧ (¬good → m'.n o 3 = (m.bump o 3).n o 3 ∧ m'.n o 1 = (if m.cal.queued.any (fun y => y.1 = d.val) then 1 else 4)
              ∧ m'.told 0x1C02 d.val [d.val, if res.converged then 1 else 0]
              ∧ (x.trigger = trigBringUp → d.val ∈ m'.cal.failed)))

/-- R324, R330, R335, R339: a power-on begins the next boot, halted where rails or FIO fail; a step of Table 17.1 that is not complete
has the consequence shown, one rail failure being retried; the oven settles or XB is declared stopped, ev 1802 and ev 1004; a trial that
has run its time is confirmed, ev 1204, and the rollback floor rises. -/
def Obligations.PowerOnFollowsItsSteps : Prop :=
  (∀ (s : State) (t : Nanos) (b : BootInfo), s.m.rebooting = false →
    (s.m.hw.power = .on ∨ s.m.hw.power = .recovery → Does (.powerOnSequence t b) s (s.m.at t))
    ∧ (s.m.hw.power ≠ .on → s.m.hw.power ≠ .recovery →
      ∃ s', exec (.powerOnSequence t b) s = .next s' ∧ s'.pending = s.pending ∧ s'.events = ⟨s.events.epoch + 1, 0, []⟩
        ∧ s'.m.rebooting = false ∧ s'.m.hw.boot = b ∧ s'.m.preud.sessions = []
        ∧ (b.railsOk = false ∨ b.fioOk = false → s'.m.hw.power = .halted)))
  ∧ ∀ (s : State) (t : Nanos), s.serves →
    let m := s.m.at t
    (∀ ch : Fin 16,
      (∀ k : Fin 10, k.val ≤ 2 → Completes (.powerStepTimeout t k ch) s fun m' => m'.hw.power = .off ∧ m'.n 0x1D40 8 = 0)
      ∧ Completes (.powerStepTimeout t 3 ch) s (fun m' =>
        m'.hw.power = (if m.hw.railRetry then .halted else .off) ∧ m'.hw.railRetry = !m.hw.railRetry)
      ∧ Completes (.powerStepTimeout t 4 ch) s (fun m' => m'.hw.power = .halted)
      ∧ Completes (.powerStepTimeout t 5 ch) s (fun m' => m'.source 2 = 3 ∧ m'.n 0x1810 2 = 2 ∧ m'.n 0x1811 2 = 2
        ∧ m'.told 0x1808 0 [])
      ∧ Completes (.powerStepTimeout t 6 ch) s (fun m' => m'.hw.power = .recovery)
      ∧ (m.n (0x2140 + ch.val) 1 ≠ 0 → Completes (.powerStepTimeout t 7 ch) s fun m' =>
        m'.n (0x2140 + ch.val) 1 = 2 ∧ m'.n 0x2000 2 = 0 ∧ m'.told 0x2001 0 [m.n 0x2000 9, 4])
      ∧ (m.n (0x2140 + ch.val) 1 = 0 → Does (.powerStepTimeout t 7 ch) s m)
      ∧ Does (.powerStepTimeout t 8 ch) s m ∧ exec (.powerStepTimeout t 9 ch) s = exec (.xbWarmupTimeout t) s)
    ∧ Completes (.xbOvenSettled t) s (fun m' => m'.clk.settled = true ∧ m'.objs = m.objs)
    ∧ (let due : Prop := m.n 0x1800 4 = 0 ∧ m.hw.serviceAt + 300 * second ≤ m.ctr
      (due → Completes (.xbWarmupTimeout t) s fun m' => m'.source 3 = 3 ∧ m'.told 0x1802 3 [3, 3] ∧ m'.told 0x1004 0 [])
      ∧ (¬due → Does (.xbWarmupTimeout t) s m))
    ∧ (let due : Prop := m.hw.trialFrom ≠ none ∧ m.hw.steady = true ∧ m.n 0x1210 4 ≠ 0 ∧ m.hw.serviceAt + m.n 0x1210 4 ≤ m.ctr
      let i := m.n 0x1200 1
      (due → Completes (.autoConfirmExpiry t) s fun m' => m'.hw.trialFrom = none ∧ m'.n 0x1200 7 = i ∧ m'.n 0x1210 5 = 0
        ∧ m'.told 0x1204 0 [i]
        ∧ (i ≤ 1 → m'.n 0x1200 (5 + i) = 2 ∧ m'.n 0x1200 8 = max (m.n 0x1200 8) (nth m.hw.images i).floor))
      ∧ (¬due → Does (.autoConfirmExpiry t) s m))

/-- R341, R345, R346, R348, R350: the ejector and the feeds are watched whether or not the processor is powered, ev 1D07, ev 1D04 while
it is; a short opens a feed's switch for 1 s; the bank, once charged, carries a dip for 5 ms and no longer, ev 1D05; while the standby
rail is up the mason's mark is read byte by byte, and reading offset 64 releases the alert. -/
def Obligations.TheStandbyDomainWatches : Prop :=
  ∀ (s : State) (t : Nanos), s.m.rebooting = false →
    let m := s.m.at t
    (∀ opened : Bool,
      (m.hw.ejectorOpen = opened → Does (.ejector t opened) s m)
      ∧ (m.hw.ejectorOpen ≠ opened → Completes (.ejector t opened) s fun m' => m'.hw.ejectorOpen = opened
        ∧ (m.runs = true → m'.told 0x1D07 0 [if opened then 1 else 0]) ∧ (m.runs = false → m'.raised = m.raised)))
    ∧ (∀ (b : Fin 2) (mv : Int),
      (∀ a, nth m.hw.shortAt b.val = some a →
        (m.ctr < a + second → Completes (.feedStateChange t b mv) s fun m' => m'.n 0x1D40 (6 + b.val) = 5)
        ∧ (a + second ≤ m.ctr → Completes (.feedStateChange t b mv) s fun m' => nth m'.hw.shortAt b.val = none
          ∧ m'.n 0x1D40 (1 + 2 * b.val) = mv.toNat ∧ (44000 ≤ mv → mv ≤ 58000 → m'.n 0x1D40 (6 + b.val) = 1)))
      ∧ (nth m.hw.shortAt b.val = none →
        let was := m.n 0x1D40 (6 + b.val)
        let new := m.feedState b.val mv
        Completes (.feedStateChange t b mv) s fun m' => m'.n 0x1D40 (1 + 2 * b.val) = mv.toNat ∧ m'.n 0x1D40 (6 + b.val) = new
          ∧ (m.runs = true → was ≠ new → m'.told 0x1D04 b.val [b.val, was, new])
          ∧ (∀ a, m.hw.dipAt = some a → m.ctr ≤ a + 5000000 → 44000 ≤ mv → mv ≤ 58000 →
            m'.hw.dipAt = none ∧ m'.n 0x1D40 0x0A = (m.bump 0x1D40 0x0A).n 0x1D40 0x0A
              ∧ (m.runs = true → m'.told 0x1D05 0 [m.ctr - a]))
          ∧ (mv < 44000 → m'.hw.dipAt = m.hw.dipAt)))
    ∧ (∀ b : Fin 2, Completes (.internalShortLimit t b) s fun m' => m'.hw.shortAt = m.hw.shortAt.set b.val (some m.ctr)
      ∧ m'.n 0x1D40 (6 + b.val) = 5)
    ∧ (m.standbyUp = false → Does (.holdUpCharged t) s m ∧ Does (.inputDip t) s m ∧ Does (.i2cRead t) s m
      ∧ ∀ o : Byte, Does (.i2cOffsetWrite t o) s m)
    ∧ (m.standbyUp = true →
      Completes (.holdUpCharged t) s (fun m' => m'.n 0x1D40 8 = 1 ∧ m'.n 0x1D40 9 = 800)
      ∧ (m.hw.dipAt ≠ none → Does (.inputDip t) s m)
      ∧ (m.hw.dipAt = none → Completes (.inputDip t) s fun m' =>
        (m.flag 0x1D40 8 = true → m'.hw.dipAt = some m.ctr ∧ m'.hw.power = m.hw.power)
          ∧ (m.flag 0x1D40 8 = false → m'.hw.power = .off))
      ∧ (∀ o : Byte, Completes (.i2cOffsetWrite t o) s fun m' => m'.hw.i2cOffset = o.toNat ∧ m'.out = m.out)
      ∧ Completes (.i2cRead t) s fun m' => m'.out = m.out ++ [.i2cByte (m.markByte m.hw.i2cOffset)]
        ∧ m'.hw.i2cOffset = (m.hw.i2cOffset + 1) % 256 ∧ m'.hw.i2cAlert = (m.hw.i2cAlert && m.hw.i2cOffset ≠ 64))
    ∧ (m.hw.dipAt = none → Does (.holdUpExpiry t) s m)
    ∧ ∀ a : Nanos, m.hw.dipAt = some a →
      (m.ctr < a + 5000000 → Does (.holdUpExpiry t) s m)
      ∧ (a + 5000000 ≤ m.ctr → Completes (.holdUpExpiry t) s fun m' => m'.hw.power = .off ∧ m'.hw.dipAt = none)

/-- R346, R352, R353, R355, Table 18.8: four samples at 115.0 °C trip the rails, at 108.0 °C stop the module's media, ev 1D02, and at
100.0 °C warn, ev 1D01, till 97.0 °C (each 3 °C lower where the sensors are not calibrated); while the sensors calibrate the reading
repeats, but not the trip's, which acts in recovery too. The stop ends after 10 s below its clearing point, ev 1D03; COOL_FAIL and hot
optics are reported; the live bytes and the airflow request follow the sensors, and a change of the watched bytes asserts the alert. -/
def Obligations.HeatIsAnswered : Prop :=
  (∀ (s : State) (t : Nanos) (sample : Int), s.m.rebooting = false → (s.m.at t).runs = false →
    let m := s.m.at t
    (m.hw.power ≠ .recovery → Does (.junctionSample t sample) s m)
    ∧ (m.hw.power = .recovery → Completes (.junctionSample t sample) s fun m' =>
      m'.hw.hot = m.hw.hot.set 2 (m.tripRun sample) ∧ m'.hw.power = (if m.tripRun sample = 4 then .tripped else .recovery)))
  ∧ ∀ (s : State) (t : Nanos), s.serves →
    let m := s.m.at t
    (∀ sample : Int,
      let temp := if m.cal.runsIn 27 then m.z 0x1D00 1 else sample
      let crosses (i : Nat) (limit : Int) : Prop := limit - m.lowered ≤ temp ∧ 3 ≤ nth m.hw.hot i
      (m.tripRun sample = 4 → Completes (.junctionSample t sample) s fun m' => m'.hw.power = .tripped ∧ m'.z 0x1D00 1 = temp)
      ∧ (m.tripRun sample ≠ 4 → Completes (.junctionSample t sample) s fun m' => m'.z 0x1D00 1 = temp
        ∧ (crosses 0 1000 → m.condSet 0x1D01 0 = false → m'.told 0x1D01 0 [temp.toNat, 1]
          ∧ m'.n 0x1D00 0x0A = (m.bump 0x1D00 0x0A).n 0x1D00 0x0A)
        ∧ (temp < 970 - m.lowered → m.condSet 0x1D01 0 = true → m'.told 0x1D01 0 [temp.toNat, 0])
        ∧ (crosses 1 1080 → m.n 0x1D00 5 ≠ 2 → m'.n 0x1D00 5 = 2 ∧ m'.n 0x1D00 0x0B = (m.bump 0x1D00 0x0B).n 0x1D00 0x0B
          ∧ (m.condSet 0x1D02 0 = false → m'.told 0x1D02 0 [temp.toNat, roleNo m.role]))
        ∧ (¬crosses 1 1080 ∨ m.n 0x1D00 5 = 2 → m'.n 0x1D00 5 =
          (if m.n 0x1D00 5 = 2 then 2 else if crosses 0 1000 then 1 else if temp < 970 - m.lowered then 0
            else if m.condSet 0x1D01 0 then 1 else 0))))
    ∧ (m.hw.coolSince = none ∨ m.n 0x1D00 5 ≠ 2 → Does (.thermalStopEnd t) s m)
    ∧ (∀ a : Nanos, m.hw.coolSince = some a → m.n 0x1D00 5 = 2 →
      (m.ctr < a + 10 * second → Does (.thermalStopEnd t) s m)
      ∧ (a + 10 * second ≤ m.ctr → Completes (.thermalStopEnd t) s fun m' => m'.n 0x1D00 5 ≤ 1 ∧ m'.condSet 0x1D02 0 = false
        ∧ m'.hw.thermalWait = false ∧ m'.told 0x1D03 0 []))
    ∧ (∀ on : Bool,
      (m.flag 0x1D00 9 = on → Does (.coolFail t on) s m)
      ∧ (m.flag 0x1D00 9 ≠ on → Completes (.coolFail t on) s fun m' => m'.flag 0x1D00 9 = on ∧ m'.condSet 0x1D06 0 = on
        ∧ (on = true → m.condSet 0x1D06 0 = false → m'.told 0x1D06 0 [1]) ∧ (on = false → m'.told 0x1D06 0 [0])))
    ∧ (∀ (q : Fin 9) (temp high : Int),
      let hot : Prop := (∃ x, (m.cage q.val).info = some x ∧ x.optic = true) ∧ high ≤ temp
      (¬hot → Does (.opticTemperatureRead t q temp high) s m)
      ∧ (hot → Completes (.opticTemperatureRead t q temp high) s fun m' => ∃ l ∈ m'.limits, l.code = 0x1D08 ∧ l.res = q.val
        ∧ (m.limits.find? (fun l => l.code = 0x1D08 && l.res = q.val) = none → m'.told 0x1D08 q.val [q.val, temp.toNat, 1])))
    ∧ Completes (.liveFieldUpdate t) s (fun m' => m'.hw.live = m'.liveOctets
        ∧ (m.serviceDown 0 10 = false → m'.n 0x1D00 6 = airflow (m.z 0x1D00 1))
        ∧ (m.serviceDown 0 10 = true → m'.n 0x1D00 6 = m.n 0x1D00 6)
        ∧ (m'.hw.live.take 4 ≠ m.hw.live.take 4 → m'.hw.i2cAlert = true) ∧ (m.hw.i2cAlert = true → m'.hw.i2cAlert = true))

/-- R13, R364, R371, R386: a core that misses two checks in a row fails and one that misses one does not, which is counted once it
answers; a core that traps fails (cause 2 for its local memory, else 3) and its service moves to the lowest free spare, ev 2801, or
stays down, ev 2802, rate control always, ev 2803; a spare that fails is none more. A built-in test ends with its result, ev 7402 or
7403. -/
def Obligations.CoresFailToSpares : Prop :=
  ∀ (s : State) (t : Nanos), s.serves →
    let m := s.m.at t
    (∀ (c : Fin 64) (l : List (Fin 64)),
      (m.core c.val = 3 → Completes (.heartbeatCheck t l) s fun m' => m'.core c.val = 3)
      ∧ (m.core c.val = 0 → (∀ x ∈ m.claimsNow, x.2.2 ≠ c.val) → Completes (.heartbeatCheck t l) s fun m' =>
        (c ∈ l → nth m.hw.misses c.val ≠ 0 → m'.core c.val = 3)
          ∧ (c ∈ l → nth m.hw.misses c.val = 0 → m'.core c.val = 0
            ∧ (c.val < m.hw.misses.length → nth m'.hw.misses c.val = 1))
          ∧ (c ∉ l → m'.core c.val = 0 ∧ nth m'.hw.misses c.val = 0
            ∧ (nth m.hw.misses c.val ≠ 0 → m'.n (0x2800 + c.val) 5 = (m.bump (0x2800 + c.val) 5).n (0x2800 + c.val) 5))))
    ∧ (∀ (c : Fin 64) (memory : Bool),
      let o := 0x2800 + c.val
      let cls := m.n o 2
      (m.core c.val = 3 → Does (.settCoreTrap t c memory) s m)
      ∧ (m.core c.val ≠ 3 → cls ≤ 12 → Completes (.settCoreTrap t c memory) s fun m' => m'.core c.val = 3
        ∧ m'.n o 7 = (if memory then 2 else 3) ∧ m'.n o 8 = m.now ∧ m'.n 0x2900 4 = c.val
        ∧ (m.core c.val ≠ 0 → m'.told 0x2801 c.val [c.val, 0xFF, 0])
        ∧ (m.core c.val = 0 → cls = 1 → m'.told 0x2803 c.val [c.val, c.val / 8])
        ∧ (m.core c.val = 0 → cls ≠ 1 → m.freeSpare = none → m'.told 0x2802 c.val [c.val, cls])
        ∧ ∀ sp, m.core c.val = 0 → cls ≠ 1 → m.claimsNow = [] → m.freeSpare = some sp →
          m'.core sp = 0 ∧ m'.n (0x2800 + sp) 2 = cls ∧ m'.told 0x2801 c.val [c.val, sp, cls]))
    ∧ (m.hw.test = none → ∀ (pass : Bool) (detail : Nat), Does (.builtInTestComplete t pass detail) s m)
    ∧ ∀ (x : Nat × Nat × Nanos) (detail : Nat), m.hw.test = some x →
      Completes (.builtInTestComplete t true detail) s (fun m' => m'.n 0x7500 5 = 1 ∧ m'.n 0x7500 6 = detail ∧ m'.hw.test = none
        ∧ m'.told 0x7402 x.1 [x.1, x.2.1])
      ∧ Completes (.builtInTestComplete t false detail) s (fun m' => m'.n 0x7500 5 = 2 ∧ m'.n 0x7500 6 = detail ∧ m'.hw.test = none
        ∧ m'.told 0x7403 x.1 [x.1, x.2.1, detail])

/-! ### The whole machine -/

/-- The block's own step: the command at the front of the queue is carried out with the rest of the queue; on an empty queue the block
idles. The queue is the model's own (log 1). -/
def Obligations.StepsRunTheFrontCommand : Prop :=
  (∀ (c : Instr) (rest : List Instr) (s : State), s.pending = c :: rest → step s = exec c { s with pending := rest })
  ∧ ∀ s : State, s.pending = [] → step s = .next s

/-- Every command completes and leaves the queue as it is (no rule stops the block). The event log grows only at BASE_TICK_EDGE (R35),
and a reset begins the next boot's (R335). -/
def Obligations.EveryCommandCompletes : Prop :=
  ∀ (c : Instr) (s : State), ∃ s', exec c s = .next s' ∧ s'.pending = s.pending
    ∧ (c ≠ .baseTickEdge → s'.events = s.events ∨ s'.events = ⟨s.events.epoch + 1, 0, []⟩)

/-- R35, R318: whatever command comes, the events held stay those of one boot, numbered without a gap up to the next number, at most
1,048,576 of them. -/
def Obligations.TheEventLogStaysInOrder : Prop :=
  ∀ s s' : State, s.events.ok → step s = .next s' → s'.events.ok

/-- R12, R35, R335: right after reset no command waits, no event is held, nothing is in a session or pending, every function is STOPPED
(time and twin too), every object reads its default, and the module acts on commands. -/
def Obligations.ResetLeavesTheDefaults : Prop :=
  State.reset.pending = [] ∧ State.reset.events.ok ∧ State.reset.events.next = 0 ∧ State.reset.serves
    ∧ State.reset.m.preud.sessions = [] ∧ State.reset.m.preud.timed = [] ∧ State.reset.m.out = [] ∧ State.reset.m.objs.rising = true
    ∧ (∀ fid, fnExists fid = true → State.reset.m.fn fid = stopped)
    ∧ ∀ idx sub, State.reset.m.get idx sub = defaultVal 0 (dictIdx idx) sub

/-- R325, R347: a module whose processor is not powered does nothing but let time pass, except on the commands of the standby domain and
those that power it. -/
def Obligations.UnpoweredModulesDoNothing : Prop :=
  ∀ (c : Instr) (s : State), actsUnpowered c = false → s.m.rebooting = false →
    (s.m.hw.power = .off ∨ s.m.hw.power = .halted ∨ s.m.hw.power = .tripped) →
    exec c s = .next s ∨ ∃ t, exec c s = .next { s with m := s.m.at t }

/-- R3, R8, R370: an object set reads as set and no other object changes, and the store keeps its form; a counter advanced wraps modulo
2^64 (U64) or stops at its greatest value. -/
def Obligations.ObjectsReadAsSet : Prop :=
  ∀ (m : Mod) (idx sub : Nat) (v : Val), sub < 256 →
    ((m.set idx sub v).get idx sub = v ∨ (idx = 0x1000 ∧ sub = 5))
    ∧ (∀ i x, x < 256 → ¬(i = idx ∧ x = sub) → idx ≠ 0x1000 → (m.set idx sub v).get i x = m.get i x)
    ∧ (m.objs.rising = true → (m.set idx sub v).objs.rising = true)
    ∧ ∀ old k : Nat, advance .u64 old k = (old + k) % 2 ^ 64 ∧ advance .u32 old k = min (old + k) 4294967295

/-- R17, whole: the edges of the ticks, the tick of an instant, and the frame number. -/
def Obligations.TicksHaveTheirEdges : Prop :=
  (Family.a .f30ntsc = 1001 ∧ Family.b .f30ntsc = 4080000 ∧ Family.a .f30 = 1 ∧ Family.b .f30 = 4080 ∧ Family.a .f25 = 1 ∧ Family.b .f25 = 3400
    ∧ Family.a .f24 = 1 ∧ Family.b .f24 = 816 ∧ Family.a .f23976 = 1001 ∧ Family.b .f23976 = 816000)
  ∧ ∀ f : Family,
    (∀ T, f.edge T = T * f.a * 1000000000 / f.b) ∧ f.edge 0 = 0
    ∧ (∀ t, f.edge (f.tickOf t) ≤ t ∧ t < f.edge (f.tickOf t + 1) ∧ ∀ T, f.edge T ≤ t → T ≤ f.tickOf t)
    ∧ (∀ t n, n * (f.a * 1000000000) < (t + 1) * f.b → (t + 1) * f.b ≤ (n + 1) * (f.a * 1000000000) → f.tickOf t = n)
    ∧ (∀ T, f.tickOf (f.edge T) = T)
    ∧ (∀ t T, f.edge T < t → t < f.edge (T + 1) → t * f.b / (f.a * 1000000000) = T)
    ∧ ∀ T, frameOf T = T / 34

/-- R18, whole: course ticks, course indexes and frame ticks of a rate with step k. -/
def Obligations.CoursesAndFramesLieOnTheGrid : Prop :=
  ∀ T k : Nat, 0 < k →
    (isCourseTick T k = true ↔ T % k = 0) ∧ (T % k = 0 → courseIndex T k = T % (34 * k) / k ∧ courseIndex T k < 34)
    ∧ (isFrameTick T k = true ↔ T % (34 * k) = 0) ∧ (isFrameTick T k = true → isCourseTick T k = true ∧ courseIndex T k = 0)
    ∧ (∀ f : Family, isFrameTick T k = true → ∃ n, T = n * (34 * k) ∧ f.edge T = n * (34 * k * f.a * 1000000000) / f.b)

/-- R37, whole: the RTP timestamp of a video picture counts 90 kHz to its frame tick's own time, T × a / b seconds, that of an audio
sample 48 kHz to the sample's time; both wrap modulo 2³². A receiver reads the number of a sample within 40,000 s of its own time back
from its timestamp. -/
def Obligations.TimestampsCountFromTheEpoch : Prop :=
  (∀ (f : Family) (T : Nat), f.videoTimestamp T < 2 ^ 32
    ∧ ∃ q, (f.videoTimestamp T + q * 2 ^ 32) * f.b ≤ T * f.a * 90000 ∧ T * f.a * 90000 < (f.videoTimestamp T + q * 2 ^ 32 + 1) * f.b)
  ∧ ∀ t : Nanos, rtpTimestamp 48000 t < 2 ^ 32
    ∧ (∃ q, (rtpTimestamp 48000 t + q * 2 ^ 32) * 1000000000 ≤ t * 48000
      ∧ t * 48000 < (rtpTimestamp 48000 t + q * 2 ^ 32 + 1) * 1000000000)
    ∧ ∀ m : Mod, t ≤ m.now + 40000 * second → m.now ≤ t + 40000 * second →
      m.sampleOfTimestamp (rtpTimestamp 48000 t) * 1000000000 ≤ t * 48000
        ∧ t * 48000 < (m.sampleOfTimestamp (rtpTimestamp 48000 t) + 1) * 1000000000

/-- Every command completes, and what it leaves alone: the components of the module outside its footprint are as they were. -/
def Obligations.CommandsStayInTheirFootprint : Prop :=
  ∀ (c : Instr) (s : State), s.m.rebooting = false →
    ∃ s', exec c s = .next s' ∧ s'.pending = s.pending ∧ ∀ m', footprint c s.m s'.m = some m' → s'.m = m'

/-- Every command completes, and what it leaves alone of the objects: those outside its windows read as before. -/
def Obligations.CommandsWriteOnlyTheirObjects : Prop :=
  ∀ (c : Instr) (s : State) (p : Nat → Bool), s.m.rebooting = false → writesOnly c = some p →
    ∃ s', exec c s = .next s' ∧ s'.pending = s.pending
      ∧ ∀ idx sub : Nat, sub < 256 → p idx = false → s'.m.get idx sub = s.m.get idx sub

end Statements
end

