-- ==== Sys2Proof/Laws/State.lean ====
section
/-! SUPPORT. What each elementary update of the module leaves alone: one lemma per update and field. -/

namespace Sys2Proof.Machine

variable (m : Mod)

@[simp] theorem Mod.at_tick (t : Nanos) : (m.at t).tick = m.tick := rfl
@[simp] theorem Mod.at_fam (t : Nanos) : (m.at t).fam = m.fam := rfl
@[simp] theorem Mod.at_draws (t : Nanos) : (m.at t).draws = m.draws := rfl
@[simp] theorem Mod.at_objs (t : Nanos) : (m.at t).objs = m.objs := rfl
@[simp] theorem Mod.at_edgeObjs (t : Nanos) : (m.at t).edgeObjs = m.edgeObjs := rfl
@[simp] theorem Mod.at_out (t : Nanos) : (m.at t).out = m.out := rfl
@[simp] theorem Mod.at_raised (t : Nanos) : (m.at t).raised = m.raised := rfl
@[simp] theorem Mod.at_conds (t : Nanos) : (m.at t).conds = m.conds := rfl
@[simp] theorem Mod.at_limits (t : Nanos) : (m.at t).limits = m.limits := rfl
@[simp] theorem Mod.at_seen (t : Nanos) : (m.at t).seen = m.seen := rfl
@[simp] theorem Mod.at_timeFn (t : Nanos) : (m.at t).timeFn = m.timeFn := rfl
@[simp] theorem Mod.at_twinFn (t : Nanos) : (m.at t).twinFn = m.twinFn := rfl
@[simp] theorem Mod.at_rebooting (t : Nanos) : (m.at t).rebooting = m.rebooting := rfl
@[simp] theorem Mod.at_preud (t : Nanos) : (m.at t).preud = m.preud := rfl
@[simp] theorem Mod.at_chans (t : Nanos) : (m.at t).chans = m.chans := rfl
@[simp] theorem Mod.at_rends (t : Nanos) : (m.at t).rends = m.rends := rfl
@[simp] theorem Mod.at_groups (t : Nanos) : (m.at t).groups = m.groups := rfl
@[simp] theorem Mod.at_scalers (t : Nanos) : (m.at t).scalers = m.scalers := rfl
@[simp] theorem Mod.at_lanes (t : Nanos) : (m.at t).lanes = m.lanes := rfl
@[simp] theorem Mod.at_ladderRows (t : Nanos) : (m.at t).ladderRows = m.ladderRows := rfl
@[simp] theorem Mod.at_checks (t : Nanos) : (m.at t).checks = m.checks := rfl
@[simp] theorem Mod.at_twin (t : Nanos) : (m.at t).twin = m.twin := rfl
@[simp] theorem Mod.at_decs (t : Nanos) : (m.at t).decs = m.decs := rfl
@[simp] theorem Mod.at_rings (t : Nanos) : (m.at t).rings = m.rings := rfl
@[simp] theorem Mod.at_slots (t : Nanos) : (m.at t).slots = m.slots := rfl
@[simp] theorem Mod.at_downCores (t : Nanos) : (m.at t).downCores = m.downCores := rfl
@[simp] theorem Mod.at_fab (t : Nanos) : (m.at t).fab = m.fab := rfl
@[simp] theorem Mod.at_servo (t : Nanos) : (m.at t).servo = m.servo := rfl
@[simp] theorem Mod.at_mem (t : Nanos) : (m.at t).mem = m.mem := rfl
@[simp] theorem Mod.at_prt (t : Nanos) : (m.at t).prt = m.prt := rfl
@[simp] theorem Mod.at_clk (t : Nanos) : (m.at t).clk = m.clk := rfl
@[simp] theorem Mod.at_cal (t : Nanos) : (m.at t).cal = m.cal := rfl
@[simp] theorem Mod.at_hw (t : Nanos) : (m.at t).hw = m.hw := rfl

@[simp] theorem Mod.set_now (i s : Nat) (v : Val) : (m.set i s v).now = m.now := rfl
@[simp] theorem Mod.set_ctr (i s : Nat) (v : Val) : (m.set i s v).ctr = m.ctr := rfl
@[simp] theorem Mod.set_tick (i s : Nat) (v : Val) : (m.set i s v).tick = m.tick := rfl
@[simp] theorem Mod.set_fam (i s : Nat) (v : Val) : (m.set i s v).fam = m.fam := rfl
@[simp] theorem Mod.set_draws (i s : Nat) (v : Val) : (m.set i s v).draws = m.draws := rfl
@[simp] theorem Mod.set_edgeObjs (i s : Nat) (v : Val) : (m.set i s v).edgeObjs = m.edgeObjs := rfl
@[simp] theorem Mod.set_out (i s : Nat) (v : Val) : (m.set i s v).out = m.out := rfl
@[simp] theorem Mod.set_raised (i s : Nat) (v : Val) : (m.set i s v).raised = m.raised := rfl
@[simp] theorem Mod.set_conds (i s : Nat) (v : Val) : (m.set i s v).conds = m.conds := rfl
@[simp] theorem Mod.set_limits (i s : Nat) (v : Val) : (m.set i s v).limits = m.limits := rfl
@[simp] theorem Mod.set_seen (i s : Nat) (v : Val) : (m.set i s v).seen = m.seen := rfl
@[simp] theorem Mod.set_timeFn (i s : Nat) (v : Val) : (m.set i s v).timeFn = m.timeFn := rfl
@[simp] theorem Mod.set_twinFn (i s : Nat) (v : Val) : (m.set i s v).twinFn = m.twinFn := rfl
@[simp] theorem Mod.set_rebooting (i s : Nat) (v : Val) : (m.set i s v).rebooting = m.rebooting := rfl
@[simp] theorem Mod.set_preud (i s : Nat) (v : Val) : (m.set i s v).preud = m.preud := rfl
@[simp] theorem Mod.set_chans (i s : Nat) (v : Val) : (m.set i s v).chans = m.chans := rfl
@[simp] theorem Mod.set_rends (i s : Nat) (v : Val) : (m.set i s v).rends = m.rends := rfl
@[simp] theorem Mod.set_groups (i s : Nat) (v : Val) : (m.set i s v).groups = m.groups := rfl
@[simp] theorem Mod.set_scalers (i s : Nat) (v : Val) : (m.set i s v).scalers = m.scalers := rfl
@[simp] theorem Mod.set_lanes (i s : Nat) (v : Val) : (m.set i s v).lanes = m.lanes := rfl
@[simp] theorem Mod.set_ladderRows (i s : Nat) (v : Val) : (m.set i s v).ladderRows = m.ladderRows := rfl
@[simp] theorem Mod.set_checks (i s : Nat) (v : Val) : (m.set i s v).checks = m.checks := rfl
@[simp] theorem Mod.set_twin (i s : Nat) (v : Val) : (m.set i s v).twin = m.twin := rfl
@[simp] theorem Mod.set_decs (i s : Nat) (v : Val) : (m.set i s v).decs = m.decs := rfl
@[simp] theorem Mod.set_rings (i s : Nat) (v : Val) : (m.set i s v).rings = m.rings := rfl
@[simp] theorem Mod.set_slots (i s : Nat) (v : Val) : (m.set i s v).slots = m.slots := rfl
@[simp] theorem Mod.set_downCores (i s : Nat) (v : Val) : (m.set i s v).downCores = m.downCores := rfl
@[simp] theorem Mod.set_fab (i s : Nat) (v : Val) : (m.set i s v).fab = m.fab := rfl
@[simp] theorem Mod.set_servo (i s : Nat) (v : Val) : (m.set i s v).servo = m.servo := rfl
@[simp] theorem Mod.set_mem (i s : Nat) (v : Val) : (m.set i s v).mem = m.mem := rfl
@[simp] theorem Mod.set_prt (i s : Nat) (v : Val) : (m.set i s v).prt = m.prt := rfl
@[simp] theorem Mod.set_clk (i s : Nat) (v : Val) : (m.set i s v).clk = m.clk := rfl
@[simp] theorem Mod.set_cal (i s : Nat) (v : Val) : (m.set i s v).cal = m.cal := rfl
@[simp] theorem Mod.set_hw (i s : Nat) (v : Val) : (m.set i s v).hw = m.hw := rfl

@[simp] theorem Mod.put_now (i s v : Nat) : (m.put i s v).now = m.now := rfl
@[simp] theorem Mod.put_ctr (i s v : Nat) : (m.put i s v).ctr = m.ctr := rfl
@[simp] theorem Mod.put_tick (i s v : Nat) : (m.put i s v).tick = m.tick := rfl
@[simp] theorem Mod.put_fam (i s v : Nat) : (m.put i s v).fam = m.fam := rfl
@[simp] theorem Mod.put_draws (i s v : Nat) : (m.put i s v).draws = m.draws := rfl
@[simp] theorem Mod.put_edgeObjs (i s v : Nat) : (m.put i s v).edgeObjs = m.edgeObjs := rfl
@[simp] theorem Mod.put_out (i s v : Nat) : (m.put i s v).out = m.out := rfl
@[simp] theorem Mod.put_raised (i s v : Nat) : (m.put i s v).raised = m.raised := rfl
@[simp] theorem Mod.put_conds (i s v : Nat) : (m.put i s v).conds = m.conds := rfl
@[simp] theorem Mod.put_limits (i s v : Nat) : (m.put i s v).limits = m.limits := rfl
@[simp] theorem Mod.put_seen (i s v : Nat) : (m.put i s v).seen = m.seen := rfl
@[simp] theorem Mod.put_timeFn (i s v : Nat) : (m.put i s v).timeFn = m.timeFn := rfl
@[simp] theorem Mod.put_twinFn (i s v : Nat) : (m.put i s v).twinFn = m.twinFn := rfl
@[simp] theorem Mod.put_rebooting (i s v : Nat) : (m.put i s v).rebooting = m.rebooting := rfl
@[simp] theorem Mod.put_preud (i s v : Nat) : (m.put i s v).preud = m.preud := rfl
@[simp] theorem Mod.put_chans (i s v : Nat) : (m.put i s v).chans = m.chans := rfl
@[simp] theorem Mod.put_rends (i s v : Nat) : (m.put i s v).rends = m.rends := rfl
@[simp] theorem Mod.put_groups (i s v : Nat) : (m.put i s v).groups = m.groups := rfl
@[simp] theorem Mod.put_scalers (i s v : Nat) : (m.put i s v).scalers = m.scalers := rfl
@[simp] theorem Mod.put_lanes (i s v : Nat) : (m.put i s v).lanes = m.lanes := rfl
@[simp] theorem Mod.put_ladderRows (i s v : Nat) : (m.put i s v).ladderRows = m.ladderRows := rfl
@[simp] theorem Mod.put_checks (i s v : Nat) : (m.put i s v).checks = m.checks := rfl
@[simp] theorem Mod.put_twin (i s v : Nat) : (m.put i s v).twin = m.twin := rfl
@[simp] theorem Mod.put_decs (i s v : Nat) : (m.put i s v).decs = m.decs := rfl
@[simp] theorem Mod.put_rings (i s v : Nat) : (m.put i s v).rings = m.rings := rfl
@[simp] theorem Mod.put_slots (i s v : Nat) : (m.put i s v).slots = m.slots := rfl
@[simp] theorem Mod.put_downCores (i s v : Nat) : (m.put i s v).downCores = m.downCores := rfl
@[simp] theorem Mod.put_fab (i s v : Nat) : (m.put i s v).fab = m.fab := rfl
@[simp] theorem Mod.put_servo (i s v : Nat) : (m.put i s v).servo = m.servo := rfl
@[simp] theorem Mod.put_mem (i s v : Nat) : (m.put i s v).mem = m.mem := rfl
@[simp] theorem Mod.put_prt (i s v : Nat) : (m.put i s v).prt = m.prt := rfl
@[simp] theorem Mod.put_clk (i s v : Nat) : (m.put i s v).clk = m.clk := rfl
@[simp] theorem Mod.put_cal (i s v : Nat) : (m.put i s v).cal = m.cal := rfl
@[simp] theorem Mod.put_hw (i s v : Nat) : (m.put i s v).hw = m.hw := rfl

@[simp] theorem Mod.putZ_now (i s : Nat) (z : Int) : (m.putZ i s z).now = m.now := rfl
@[simp] theorem Mod.putZ_ctr (i s : Nat) (z : Int) : (m.putZ i s z).ctr = m.ctr := rfl
@[simp] theorem Mod.putZ_tick (i s : Nat) (z : Int) : (m.putZ i s z).tick = m.tick := rfl
@[simp] theorem Mod.putZ_fam (i s : Nat) (z : Int) : (m.putZ i s z).fam = m.fam := rfl
@[simp] theorem Mod.putZ_draws (i s : Nat) (z : Int) : (m.putZ i s z).draws = m.draws := rfl
@[simp] theorem Mod.putZ_edgeObjs (i s : Nat) (z : Int) : (m.putZ i s z).edgeObjs = m.edgeObjs := rfl
@[simp] theorem Mod.putZ_out (i s : Nat) (z : Int) : (m.putZ i s z).out = m.out := rfl
@[simp] theorem Mod.putZ_raised (i s : Nat) (z : Int) : (m.putZ i s z).raised = m.raised := rfl
@[simp] theorem Mod.putZ_conds (i s : Nat) (z : Int) : (m.putZ i s z).conds = m.conds := rfl
@[simp] theorem Mod.putZ_limits (i s : Nat) (z : Int) : (m.putZ i s z).limits = m.limits := rfl
@[simp] theorem Mod.putZ_seen (i s : Nat) (z : Int) : (m.putZ i s z).seen = m.seen := rfl
@[simp] theorem Mod.putZ_timeFn (i s : Nat) (z : Int) : (m.putZ i s z).timeFn = m.timeFn := rfl
@[simp] theorem Mod.putZ_twinFn (i s : Nat) (z : Int) : (m.putZ i s z).twinFn = m.twinFn := rfl
@[simp] theorem Mod.putZ_rebooting (i s : Nat) (z : Int) : (m.putZ i s z).rebooting = m.rebooting := rfl
@[simp] theorem Mod.putZ_preud (i s : Nat) (z : Int) : (m.putZ i s z).preud = m.preud := rfl
@[simp] theorem Mod.putZ_chans (i s : Nat) (z : Int) : (m.putZ i s z).chans = m.chans := rfl
@[simp] theorem Mod.putZ_rends (i s : Nat) (z : Int) : (m.putZ i s z).rends = m.rends := rfl
@[simp] theorem Mod.putZ_groups (i s : Nat) (z : Int) : (m.putZ i s z).groups = m.groups := rfl
@[simp] theorem Mod.putZ_scalers (i s : Nat) (z : Int) : (m.putZ i s z).scalers = m.scalers := rfl
@[simp] theorem Mod.putZ_lanes (i s : Nat) (z : Int) : (m.putZ i s z).lanes = m.lanes := rfl
@[simp] theorem Mod.putZ_ladderRows (i s : Nat) (z : Int) : (m.putZ i s z).ladderRows = m.ladderRows := rfl
@[simp] theorem Mod.putZ_checks (i s : Nat) (z : Int) : (m.putZ i s z).checks = m.checks := rfl
@[simp] theorem Mod.putZ_twin (i s : Nat) (z : Int) : (m.putZ i s z).twin = m.twin := rfl
@[simp] theorem Mod.putZ_decs (i s : Nat) (z : Int) : (m.putZ i s z).decs = m.decs := rfl
@[simp] theorem Mod.putZ_rings (i s : Nat) (z : Int) : (m.putZ i s z).rings = m.rings := rfl
@[simp] theorem Mod.putZ_slots (i s : Nat) (z : Int) : (m.putZ i s z).slots = m.slots := rfl
@[simp] theorem Mod.putZ_downCores (i s : Nat) (z : Int) : (m.putZ i s z).downCores = m.downCores := rfl
@[simp] theorem Mod.putZ_fab (i s : Nat) (z : Int) : (m.putZ i s z).fab = m.fab := rfl
@[simp] theorem Mod.putZ_servo (i s : Nat) (z : Int) : (m.putZ i s z).servo = m.servo := rfl
@[simp] theorem Mod.putZ_mem (i s : Nat) (z : Int) : (m.putZ i s z).mem = m.mem := rfl
@[simp] theorem Mod.putZ_prt (i s : Nat) (z : Int) : (m.putZ i s z).prt = m.prt := rfl
@[simp] theorem Mod.putZ_clk (i s : Nat) (z : Int) : (m.putZ i s z).clk = m.clk := rfl
@[simp] theorem Mod.putZ_cal (i s : Nat) (z : Int) : (m.putZ i s z).cal = m.cal := rfl
@[simp] theorem Mod.putZ_hw (i s : Nat) (z : Int) : (m.putZ i s z).hw = m.hw := rfl

@[simp] theorem Mod.putB_now (i s : Nat) (b : Octets) : (m.putB i s b).now = m.now := rfl
@[simp] theorem Mod.putB_ctr (i s : Nat) (b : Octets) : (m.putB i s b).ctr = m.ctr := rfl
@[simp] theorem Mod.putB_tick (i s : Nat) (b : Octets) : (m.putB i s b).tick = m.tick := rfl
@[simp] theorem Mod.putB_fam (i s : Nat) (b : Octets) : (m.putB i s b).fam = m.fam := rfl
@[simp] theorem Mod.putB_draws (i s : Nat) (b : Octets) : (m.putB i s b).draws = m.draws := rfl
@[simp] theorem Mod.putB_edgeObjs (i s : Nat) (b : Octets) : (m.putB i s b).edgeObjs = m.edgeObjs := rfl
@[simp] theorem Mod.putB_out (i s : Nat) (b : Octets) : (m.putB i s b).out = m.out := rfl
@[simp] theorem Mod.putB_raised (i s : Nat) (b : Octets) : (m.putB i s b).raised = m.raised := rfl
@[simp] theorem Mod.putB_conds (i s : Nat) (b : Octets) : (m.putB i s b).conds = m.conds := rfl
@[simp] theorem Mod.putB_limits (i s : Nat) (b : Octets) : (m.putB i s b).limits = m.limits := rfl
@[simp] theorem Mod.putB_seen (i s : Nat) (b : Octets) : (m.putB i s b).seen = m.seen := rfl
@[simp] theorem Mod.putB_timeFn (i s : Nat) (b : Octets) : (m.putB i s b).timeFn = m.timeFn := rfl
@[simp] theorem Mod.putB_twinFn (i s : Nat) (b : Octets) : (m.putB i s b).twinFn = m.twinFn := rfl
@[simp] theorem Mod.putB_rebooting (i s : Nat) (b : Octets) : (m.putB i s b).rebooting = m.rebooting := rfl
@[simp] theorem Mod.putB_preud (i s : Nat) (b : Octets) : (m.putB i s b).preud = m.preud := rfl
@[simp] theorem Mod.putB_chans (i s : Nat) (b : Octets) : (m.putB i s b).chans = m.chans := rfl
@[simp] theorem Mod.putB_rends (i s : Nat) (b : Octets) : (m.putB i s b).rends = m.rends := rfl
@[simp] theorem Mod.putB_groups (i s : Nat) (b : Octets) : (m.putB i s b).groups = m.groups := rfl
@[simp] theorem Mod.putB_scalers (i s : Nat) (b : Octets) : (m.putB i s b).scalers = m.scalers := rfl
@[simp] theorem Mod.putB_lanes (i s : Nat) (b : Octets) : (m.putB i s b).lanes = m.lanes := rfl
@[simp] theorem Mod.putB_ladderRows (i s : Nat) (b : Octets) : (m.putB i s b).ladderRows = m.ladderRows := rfl
@[simp] theorem Mod.putB_checks (i s : Nat) (b : Octets) : (m.putB i s b).checks = m.checks := rfl
@[simp] theorem Mod.putB_twin (i s : Nat) (b : Octets) : (m.putB i s b).twin = m.twin := rfl
@[simp] theorem Mod.putB_decs (i s : Nat) (b : Octets) : (m.putB i s b).decs = m.decs := rfl
@[simp] theorem Mod.putB_rings (i s : Nat) (b : Octets) : (m.putB i s b).rings = m.rings := rfl
@[simp] theorem Mod.putB_slots (i s : Nat) (b : Octets) : (m.putB i s b).slots = m.slots := rfl
@[simp] theorem Mod.putB_downCores (i s : Nat) (b : Octets) : (m.putB i s b).downCores = m.downCores := rfl
@[simp] theorem Mod.putB_fab (i s : Nat) (b : Octets) : (m.putB i s b).fab = m.fab := rfl
@[simp] theorem Mod.putB_servo (i s : Nat) (b : Octets) : (m.putB i s b).servo = m.servo := rfl
@[simp] theorem Mod.putB_mem (i s : Nat) (b : Octets) : (m.putB i s b).mem = m.mem := rfl
@[simp] theorem Mod.putB_prt (i s : Nat) (b : Octets) : (m.putB i s b).prt = m.prt := rfl
@[simp] theorem Mod.putB_clk (i s : Nat) (b : Octets) : (m.putB i s b).clk = m.clk := rfl
@[simp] theorem Mod.putB_cal (i s : Nat) (b : Octets) : (m.putB i s b).cal = m.cal := rfl
@[simp] theorem Mod.putB_hw (i s : Nat) (b : Octets) : (m.putB i s b).hw = m.hw := rfl

@[simp] theorem Mod.putFlag_now (i s : Nat) (b : Bool) : (m.putFlag i s b).now = m.now := rfl
@[simp] theorem Mod.putFlag_ctr (i s : Nat) (b : Bool) : (m.putFlag i s b).ctr = m.ctr := rfl
@[simp] theorem Mod.putFlag_tick (i s : Nat) (b : Bool) : (m.putFlag i s b).tick = m.tick := rfl
@[simp] theorem Mod.putFlag_fam (i s : Nat) (b : Bool) : (m.putFlag i s b).fam = m.fam := rfl
@[simp] theorem Mod.putFlag_draws (i s : Nat) (b : Bool) : (m.putFlag i s b).draws = m.draws := rfl
@[simp] theorem Mod.putFlag_edgeObjs (i s : Nat) (b : Bool) : (m.putFlag i s b).edgeObjs = m.edgeObjs := rfl
@[simp] theorem Mod.putFlag_out (i s : Nat) (b : Bool) : (m.putFlag i s b).out = m.out := rfl
@[simp] theorem Mod.putFlag_raised (i s : Nat) (b : Bool) : (m.putFlag i s b).raised = m.raised := rfl
@[simp] theorem Mod.putFlag_conds (i s : Nat) (b : Bool) : (m.putFlag i s b).conds = m.conds := rfl
@[simp] theorem Mod.putFlag_limits (i s : Nat) (b : Bool) : (m.putFlag i s b).limits = m.limits := rfl
@[simp] theorem Mod.putFlag_seen (i s : Nat) (b : Bool) : (m.putFlag i s b).seen = m.seen := rfl
@[simp] theorem Mod.putFlag_timeFn (i s : Nat) (b : Bool) : (m.putFlag i s b).timeFn = m.timeFn := rfl
@[simp] theorem Mod.putFlag_twinFn (i s : Nat) (b : Bool) : (m.putFlag i s b).twinFn = m.twinFn := rfl
@[simp] theorem Mod.putFlag_rebooting (i s : Nat) (b : Bool) : (m.putFlag i s b).rebooting = m.rebooting := rfl
@[simp] theorem Mod.putFlag_preud (i s : Nat) (b : Bool) : (m.putFlag i s b).preud = m.preud := rfl
@[simp] theorem Mod.putFlag_chans (i s : Nat) (b : Bool) : (m.putFlag i s b).chans = m.chans := rfl
@[simp] theorem Mod.putFlag_rends (i s : Nat) (b : Bool) : (m.putFlag i s b).rends = m.rends := rfl
@[simp] theorem Mod.putFlag_groups (i s : Nat) (b : Bool) : (m.putFlag i s b).groups = m.groups := rfl
@[simp] theorem Mod.putFlag_scalers (i s : Nat) (b : Bool) : (m.putFlag i s b).scalers = m.scalers := rfl
@[simp] theorem Mod.putFlag_lanes (i s : Nat) (b : Bool) : (m.putFlag i s b).lanes = m.lanes := rfl
@[simp] theorem Mod.putFlag_ladderRows (i s : Nat) (b : Bool) : (m.putFlag i s b).ladderRows = m.ladderRows := rfl
@[simp] theorem Mod.putFlag_checks (i s : Nat) (b : Bool) : (m.putFlag i s b).checks = m.checks := rfl
@[simp] theorem Mod.putFlag_twin (i s : Nat) (b : Bool) : (m.putFlag i s b).twin = m.twin := rfl
@[simp] theorem Mod.putFlag_decs (i s : Nat) (b : Bool) : (m.putFlag i s b).decs = m.decs := rfl
@[simp] theorem Mod.putFlag_rings (i s : Nat) (b : Bool) : (m.putFlag i s b).rings = m.rings := rfl
@[simp] theorem Mod.putFlag_slots (i s : Nat) (b : Bool) : (m.putFlag i s b).slots = m.slots := rfl
@[simp] theorem Mod.putFlag_downCores (i s : Nat) (b : Bool) : (m.putFlag i s b).downCores = m.downCores := rfl
@[simp] theorem Mod.putFlag_fab (i s : Nat) (b : Bool) : (m.putFlag i s b).fab = m.fab := rfl
@[simp] theorem Mod.putFlag_servo (i s : Nat) (b : Bool) : (m.putFlag i s b).servo = m.servo := rfl
@[simp] theorem Mod.putFlag_mem (i s : Nat) (b : Bool) : (m.putFlag i s b).mem = m.mem := rfl
@[simp] theorem Mod.putFlag_prt (i s : Nat) (b : Bool) : (m.putFlag i s b).prt = m.prt := rfl
@[simp] theorem Mod.putFlag_clk (i s : Nat) (b : Bool) : (m.putFlag i s b).clk = m.clk := rfl
@[simp] theorem Mod.putFlag_cal (i s : Nat) (b : Bool) : (m.putFlag i s b).cal = m.cal := rfl
@[simp] theorem Mod.putFlag_hw (i s : Nat) (b : Bool) : (m.putFlag i s b).hw = m.hw := rfl

@[simp] theorem Mod.putBit_now (i s b : Nat) (on : Bool) : (m.putBit i s b on).now = m.now := rfl
@[simp] theorem Mod.putBit_ctr (i s b : Nat) (on : Bool) : (m.putBit i s b on).ctr = m.ctr := rfl
@[simp] theorem Mod.putBit_tick (i s b : Nat) (on : Bool) : (m.putBit i s b on).tick = m.tick := rfl
@[simp] theorem Mod.putBit_fam (i s b : Nat) (on : Bool) : (m.putBit i s b on).fam = m.fam := rfl
@[simp] theorem Mod.putBit_draws (i s b : Nat) (on : Bool) : (m.putBit i s b on).draws = m.draws := rfl
@[simp] theorem Mod.putBit_edgeObjs (i s b : Nat) (on : Bool) : (m.putBit i s b on).edgeObjs = m.edgeObjs := rfl
@[simp] theorem Mod.putBit_out (i s b : Nat) (on : Bool) : (m.putBit i s b on).out = m.out := rfl
@[simp] theorem Mod.putBit_raised (i s b : Nat) (on : Bool) : (m.putBit i s b on).raised = m.raised := rfl
@[simp] theorem Mod.putBit_conds (i s b : Nat) (on : Bool) : (m.putBit i s b on).conds = m.conds := rfl
@[simp] theorem Mod.putBit_limits (i s b : Nat) (on : Bool) : (m.putBit i s b on).limits = m.limits := rfl
@[simp] theorem Mod.putBit_seen (i s b : Nat) (on : Bool) : (m.putBit i s b on).seen = m.seen := rfl
@[simp] theorem Mod.putBit_timeFn (i s b : Nat) (on : Bool) : (m.putBit i s b on).timeFn = m.timeFn := rfl
@[simp] theorem Mod.putBit_twinFn (i s b : Nat) (on : Bool) : (m.putBit i s b on).twinFn = m.twinFn := rfl
@[simp] theorem Mod.putBit_rebooting (i s b : Nat) (on : Bool) : (m.putBit i s b on).rebooting = m.rebooting := rfl
@[simp] theorem Mod.putBit_preud (i s b : Nat) (on : Bool) : (m.putBit i s b on).preud = m.preud := rfl
@[simp] theorem Mod.putBit_chans (i s b : Nat) (on : Bool) : (m.putBit i s b on).chans = m.chans := rfl
@[simp] theorem Mod.putBit_rends (i s b : Nat) (on : Bool) : (m.putBit i s b on).rends = m.rends := rfl
@[simp] theorem Mod.putBit_groups (i s b : Nat) (on : Bool) : (m.putBit i s b on).groups = m.groups := rfl
@[simp] theorem Mod.putBit_scalers (i s b : Nat) (on : Bool) : (m.putBit i s b on).scalers = m.scalers := rfl
@[simp] theorem Mod.putBit_lanes (i s b : Nat) (on : Bool) : (m.putBit i s b on).lanes = m.lanes := rfl
@[simp] theorem Mod.putBit_ladderRows (i s b : Nat) (on : Bool) : (m.putBit i s b on).ladderRows = m.ladderRows := rfl
@[simp] theorem Mod.putBit_checks (i s b : Nat) (on : Bool) : (m.putBit i s b on).checks = m.checks := rfl
@[simp] theorem Mod.putBit_twin (i s b : Nat) (on : Bool) : (m.putBit i s b on).twin = m.twin := rfl
@[simp] theorem Mod.putBit_decs (i s b : Nat) (on : Bool) : (m.putBit i s b on).decs = m.decs := rfl
@[simp] theorem Mod.putBit_rings (i s b : Nat) (on : Bool) : (m.putBit i s b on).rings = m.rings := rfl
@[simp] theorem Mod.putBit_slots (i s b : Nat) (on : Bool) : (m.putBit i s b on).slots = m.slots := rfl
@[simp] theorem Mod.putBit_downCores (i s b : Nat) (on : Bool) : (m.putBit i s b on).downCores = m.downCores := rfl
@[simp] theorem Mod.putBit_fab (i s b : Nat) (on : Bool) : (m.putBit i s b on).fab = m.fab := rfl
@[simp] theorem Mod.putBit_servo (i s b : Nat) (on : Bool) : (m.putBit i s b on).servo = m.servo := rfl
@[simp] theorem Mod.putBit_mem (i s b : Nat) (on : Bool) : (m.putBit i s b on).mem = m.mem := rfl
@[simp] theorem Mod.putBit_prt (i s b : Nat) (on : Bool) : (m.putBit i s b on).prt = m.prt := rfl
@[simp] theorem Mod.putBit_clk (i s b : Nat) (on : Bool) : (m.putBit i s b on).clk = m.clk := rfl
@[simp] theorem Mod.putBit_cal (i s b : Nat) (on : Bool) : (m.putBit i s b on).cal = m.cal := rfl
@[simp] theorem Mod.putBit_hw (i s b : Nat) (on : Bool) : (m.putBit i s b on).hw = m.hw := rfl

@[simp] theorem Mod.clear_now (i a b : Nat) : (m.clear i a b).now = m.now := rfl
@[simp] theorem Mod.clear_ctr (i a b : Nat) : (m.clear i a b).ctr = m.ctr := rfl
@[simp] theorem Mod.clear_tick (i a b : Nat) : (m.clear i a b).tick = m.tick := rfl
@[simp] theorem Mod.clear_fam (i a b : Nat) : (m.clear i a b).fam = m.fam := rfl
@[simp] theorem Mod.clear_draws (i a b : Nat) : (m.clear i a b).draws = m.draws := rfl
@[simp] theorem Mod.clear_edgeObjs (i a b : Nat) : (m.clear i a b).edgeObjs = m.edgeObjs := rfl
@[simp] theorem Mod.clear_out (i a b : Nat) : (m.clear i a b).out = m.out := rfl
@[simp] theorem Mod.clear_raised (i a b : Nat) : (m.clear i a b).raised = m.raised := rfl
@[simp] theorem Mod.clear_conds (i a b : Nat) : (m.clear i a b).conds = m.conds := rfl
@[simp] theorem Mod.clear_limits (i a b : Nat) : (m.clear i a b).limits = m.limits := rfl
@[simp] theorem Mod.clear_seen (i a b : Nat) : (m.clear i a b).seen = m.seen := rfl
@[simp] theorem Mod.clear_timeFn (i a b : Nat) : (m.clear i a b).timeFn = m.timeFn := rfl
@[simp] theorem Mod.clear_twinFn (i a b : Nat) : (m.clear i a b).twinFn = m.twinFn := rfl
@[simp] theorem Mod.clear_rebooting (i a b : Nat) : (m.clear i a b).rebooting = m.rebooting := rfl
@[simp] theorem Mod.clear_preud (i a b : Nat) : (m.clear i a b).preud = m.preud := rfl
@[simp] theorem Mod.clear_chans (i a b : Nat) : (m.clear i a b).chans = m.chans := rfl
@[simp] theorem Mod.clear_rends (i a b : Nat) : (m.clear i a b).rends = m.rends := rfl
@[simp] theorem Mod.clear_groups (i a b : Nat) : (m.clear i a b).groups = m.groups := rfl
@[simp] theorem Mod.clear_scalers (i a b : Nat) : (m.clear i a b).scalers = m.scalers := rfl
@[simp] theorem Mod.clear_lanes (i a b : Nat) : (m.clear i a b).lanes = m.lanes := rfl
@[simp] theorem Mod.clear_ladderRows (i a b : Nat) : (m.clear i a b).ladderRows = m.ladderRows := rfl
@[simp] theorem Mod.clear_checks (i a b : Nat) : (m.clear i a b).checks = m.checks := rfl
@[simp] theorem Mod.clear_twin (i a b : Nat) : (m.clear i a b).twin = m.twin := rfl
@[simp] theorem Mod.clear_decs (i a b : Nat) : (m.clear i a b).decs = m.decs := rfl
@[simp] theorem Mod.clear_rings (i a b : Nat) : (m.clear i a b).rings = m.rings := rfl
@[simp] theorem Mod.clear_slots (i a b : Nat) : (m.clear i a b).slots = m.slots := rfl
@[simp] theorem Mod.clear_downCores (i a b : Nat) : (m.clear i a b).downCores = m.downCores := rfl
@[simp] theorem Mod.clear_fab (i a b : Nat) : (m.clear i a b).fab = m.fab := rfl
@[simp] theorem Mod.clear_servo (i a b : Nat) : (m.clear i a b).servo = m.servo := rfl
@[simp] theorem Mod.clear_mem (i a b : Nat) : (m.clear i a b).mem = m.mem := rfl
@[simp] theorem Mod.clear_prt (i a b : Nat) : (m.clear i a b).prt = m.prt := rfl
@[simp] theorem Mod.clear_clk (i a b : Nat) : (m.clear i a b).clk = m.clk := rfl
@[simp] theorem Mod.clear_cal (i a b : Nat) : (m.clear i a b).cal = m.cal := rfl
@[simp] theorem Mod.clear_hw (i a b : Nat) : (m.clear i a b).hw = m.hw := rfl

@[simp] theorem Mod.clearRange_now (i j a b : Nat) : (m.clearRange i j a b).now = m.now := rfl
@[simp] theorem Mod.clearRange_ctr (i j a b : Nat) : (m.clearRange i j a b).ctr = m.ctr := rfl
@[simp] theorem Mod.clearRange_tick (i j a b : Nat) : (m.clearRange i j a b).tick = m.tick := rfl
@[simp] theorem Mod.clearRange_fam (i j a b : Nat) : (m.clearRange i j a b).fam = m.fam := rfl
@[simp] theorem Mod.clearRange_draws (i j a b : Nat) : (m.clearRange i j a b).draws = m.draws := rfl
@[simp] theorem Mod.clearRange_edgeObjs (i j a b : Nat) : (m.clearRange i j a b).edgeObjs = m.edgeObjs := rfl
@[simp] theorem Mod.clearRange_out (i j a b : Nat) : (m.clearRange i j a b).out = m.out := rfl
@[simp] theorem Mod.clearRange_raised (i j a b : Nat) : (m.clearRange i j a b).raised = m.raised := rfl
@[simp] theorem Mod.clearRange_conds (i j a b : Nat) : (m.clearRange i j a b).conds = m.conds := rfl
@[simp] theorem Mod.clearRange_limits (i j a b : Nat) : (m.clearRange i j a b).limits = m.limits := rfl
@[simp] theorem Mod.clearRange_seen (i j a b : Nat) : (m.clearRange i j a b).seen = m.seen := rfl
@[simp] theorem Mod.clearRange_timeFn (i j a b : Nat) : (m.clearRange i j a b).timeFn = m.timeFn := rfl
@[simp] theorem Mod.clearRange_twinFn (i j a b : Nat) : (m.clearRange i j a b).twinFn = m.twinFn := rfl
@[simp] theorem Mod.clearRange_rebooting (i j a b : Nat) : (m.clearRange i j a b).rebooting = m.rebooting := rfl
@[simp] theorem Mod.clearRange_preud (i j a b : Nat) : (m.clearRange i j a b).preud = m.preud := rfl
@[simp] theorem Mod.clearRange_chans (i j a b : Nat) : (m.clearRange i j a b).chans = m.chans := rfl
@[simp] theorem Mod.clearRange_rends (i j a b : Nat) : (m.clearRange i j a b).rends = m.rends := rfl
@[simp] theorem Mod.clearRange_groups (i j a b : Nat) : (m.clearRange i j a b).groups = m.groups := rfl
@[simp] theorem Mod.clearRange_scalers (i j a b : Nat) : (m.clearRange i j a b).scalers = m.scalers := rfl
@[simp] theorem Mod.clearRange_lanes (i j a b : Nat) : (m.clearRange i j a b).lanes = m.lanes := rfl
@[simp] theorem Mod.clearRange_ladderRows (i j a b : Nat) : (m.clearRange i j a b).ladderRows = m.ladderRows := rfl
@[simp] theorem Mod.clearRange_checks (i j a b : Nat) : (m.clearRange i j a b).checks = m.checks := rfl
@[simp] theorem Mod.clearRange_twin (i j a b : Nat) : (m.clearRange i j a b).twin = m.twin := rfl
@[simp] theorem Mod.clearRange_decs (i j a b : Nat) : (m.clearRange i j a b).decs = m.decs := rfl
@[simp] theorem Mod.clearRange_rings (i j a b : Nat) : (m.clearRange i j a b).rings = m.rings := rfl
@[simp] theorem Mod.clearRange_slots (i j a b : Nat) : (m.clearRange i j a b).slots = m.slots := rfl
@[simp] theorem Mod.clearRange_downCores (i j a b : Nat) : (m.clearRange i j a b).downCores = m.downCores := rfl
@[simp] theorem Mod.clearRange_fab (i j a b : Nat) : (m.clearRange i j a b).fab = m.fab := rfl
@[simp] theorem Mod.clearRange_servo (i j a b : Nat) : (m.clearRange i j a b).servo = m.servo := rfl
@[simp] theorem Mod.clearRange_mem (i j a b : Nat) : (m.clearRange i j a b).mem = m.mem := rfl
@[simp] theorem Mod.clearRange_prt (i j a b : Nat) : (m.clearRange i j a b).prt = m.prt := rfl
@[simp] theorem Mod.clearRange_clk (i j a b : Nat) : (m.clearRange i j a b).clk = m.clk := rfl
@[simp] theorem Mod.clearRange_cal (i j a b : Nat) : (m.clearRange i j a b).cal = m.cal := rfl
@[simp] theorem Mod.clearRange_hw (i j a b : Nat) : (m.clearRange i j a b).hw = m.hw := rfl

@[simp] theorem Mod.send_now (o : Output) : (m.send o).now = m.now := rfl
@[simp] theorem Mod.send_ctr (o : Output) : (m.send o).ctr = m.ctr := rfl
@[simp] theorem Mod.send_tick (o : Output) : (m.send o).tick = m.tick := rfl
@[simp] theorem Mod.send_fam (o : Output) : (m.send o).fam = m.fam := rfl
@[simp] theorem Mod.send_draws (o : Output) : (m.send o).draws = m.draws := rfl
@[simp] theorem Mod.send_objs (o : Output) : (m.send o).objs = m.objs := rfl
@[simp] theorem Mod.send_edgeObjs (o : Output) : (m.send o).edgeObjs = m.edgeObjs := rfl
@[simp] theorem Mod.send_raised (o : Output) : (m.send o).raised = m.raised := rfl
@[simp] theorem Mod.send_conds (o : Output) : (m.send o).conds = m.conds := rfl
@[simp] theorem Mod.send_limits (o : Output) : (m.send o).limits = m.limits := rfl
@[simp] theorem Mod.send_seen (o : Output) : (m.send o).seen = m.seen := rfl
@[simp] theorem Mod.send_timeFn (o : Output) : (m.send o).timeFn = m.timeFn := rfl
@[simp] theorem Mod.send_twinFn (o : Output) : (m.send o).twinFn = m.twinFn := rfl
@[simp] theorem Mod.send_rebooting (o : Output) : (m.send o).rebooting = m.rebooting := rfl
@[simp] theorem Mod.send_preud (o : Output) : (m.send o).preud = m.preud := rfl
@[simp] theorem Mod.send_chans (o : Output) : (m.send o).chans = m.chans := rfl
@[simp] theorem Mod.send_rends (o : Output) : (m.send o).rends = m.rends := rfl
@[simp] theorem Mod.send_groups (o : Output) : (m.send o).groups = m.groups := rfl
@[simp] theorem Mod.send_scalers (o : Output) : (m.send o).scalers = m.scalers := rfl
@[simp] theorem Mod.send_lanes (o : Output) : (m.send o).lanes = m.lanes := rfl
@[simp] theorem Mod.send_ladderRows (o : Output) : (m.send o).ladderRows = m.ladderRows := rfl
@[simp] theorem Mod.send_checks (o : Output) : (m.send o).checks = m.checks := rfl
@[simp] theorem Mod.send_twin (o : Output) : (m.send o).twin = m.twin := rfl
@[simp] theorem Mod.send_decs (o : Output) : (m.send o).decs = m.decs := rfl
@[simp] theorem Mod.send_rings (o : Output) : (m.send o).rings = m.rings := rfl
@[simp] theorem Mod.send_slots (o : Output) : (m.send o).slots = m.slots := rfl
@[simp] theorem Mod.send_downCores (o : Output) : (m.send o).downCores = m.downCores := rfl
@[simp] theorem Mod.send_fab (o : Output) : (m.send o).fab = m.fab := rfl
@[simp] theorem Mod.send_servo (o : Output) : (m.send o).servo = m.servo := rfl
@[simp] theorem Mod.send_mem (o : Output) : (m.send o).mem = m.mem := rfl
@[simp] theorem Mod.send_prt (o : Output) : (m.send o).prt = m.prt := rfl
@[simp] theorem Mod.send_clk (o : Output) : (m.send o).clk = m.clk := rfl
@[simp] theorem Mod.send_cal (o : Output) : (m.send o).cal = m.cal := rfl
@[simp] theorem Mod.send_hw (o : Output) : (m.send o).hw = m.hw := rfl

@[simp] theorem Mod.draw_now : (m.draw).now = m.now := rfl
@[simp] theorem Mod.draw_ctr : (m.draw).ctr = m.ctr := rfl
@[simp] theorem Mod.draw_tick : (m.draw).tick = m.tick := rfl
@[simp] theorem Mod.draw_fam : (m.draw).fam = m.fam := rfl
@[simp] theorem Mod.draw_objs : (m.draw).objs = m.objs := rfl
@[simp] theorem Mod.draw_edgeObjs : (m.draw).edgeObjs = m.edgeObjs := rfl
@[simp] theorem Mod.draw_out : (m.draw).out = m.out := rfl
@[simp] theorem Mod.draw_raised : (m.draw).raised = m.raised := rfl
@[simp] theorem Mod.draw_conds : (m.draw).conds = m.conds := rfl
@[simp] theorem Mod.draw_limits : (m.draw).limits = m.limits := rfl
@[simp] theorem Mod.draw_seen : (m.draw).seen = m.seen := rfl
@[simp] theorem Mod.draw_timeFn : (m.draw).timeFn = m.timeFn := rfl
@[simp] theorem Mod.draw_twinFn : (m.draw).twinFn = m.twinFn := rfl
@[simp] theorem Mod.draw_rebooting : (m.draw).rebooting = m.rebooting := rfl
@[simp] theorem Mod.draw_preud : (m.draw).preud = m.preud := rfl
@[simp] theorem Mod.draw_chans : (m.draw).chans = m.chans := rfl
@[simp] theorem Mod.draw_rends : (m.draw).rends = m.rends := rfl
@[simp] theorem Mod.draw_groups : (m.draw).groups = m.groups := rfl
@[simp] theorem Mod.draw_scalers : (m.draw).scalers = m.scalers := rfl
@[simp] theorem Mod.draw_lanes : (m.draw).lanes = m.lanes := rfl
@[simp] theorem Mod.draw_ladderRows : (m.draw).ladderRows = m.ladderRows := rfl
@[simp] theorem Mod.draw_checks : (m.draw).checks = m.checks := rfl
@[simp] theorem Mod.draw_twin : (m.draw).twin = m.twin := rfl
@[simp] theorem Mod.draw_decs : (m.draw).decs = m.decs := rfl
@[simp] theorem Mod.draw_rings : (m.draw).rings = m.rings := rfl
@[simp] theorem Mod.draw_slots : (m.draw).slots = m.slots := rfl
@[simp] theorem Mod.draw_downCores : (m.draw).downCores = m.downCores := rfl
@[simp] theorem Mod.draw_fab : (m.draw).fab = m.fab := rfl
@[simp] theorem Mod.draw_servo : (m.draw).servo = m.servo := rfl
@[simp] theorem Mod.draw_mem : (m.draw).mem = m.mem := rfl
@[simp] theorem Mod.draw_prt : (m.draw).prt = m.prt := rfl
@[simp] theorem Mod.draw_clk : (m.draw).clk = m.clk := rfl
@[simp] theorem Mod.draw_cal : (m.draw).cal = m.cal := rfl
@[simp] theorem Mod.draw_hw : (m.draw).hw = m.hw := rfl

@[simp] theorem Mod.drawN_now (k : Nat) : (m.drawN k).now = m.now := rfl
@[simp] theorem Mod.drawN_ctr (k : Nat) : (m.drawN k).ctr = m.ctr := rfl
@[simp] theorem Mod.drawN_tick (k : Nat) : (m.drawN k).tick = m.tick := rfl
@[simp] theorem Mod.drawN_fam (k : Nat) : (m.drawN k).fam = m.fam := rfl
@[simp] theorem Mod.drawN_objs (k : Nat) : (m.drawN k).objs = m.objs := rfl
@[simp] theorem Mod.drawN_edgeObjs (k : Nat) : (m.drawN k).edgeObjs = m.edgeObjs := rfl
@[simp] theorem Mod.drawN_out (k : Nat) : (m.drawN k).out = m.out := rfl
@[simp] theorem Mod.drawN_raised (k : Nat) : (m.drawN k).raised = m.raised := rfl
@[simp] theorem Mod.drawN_conds (k : Nat) : (m.drawN k).conds = m.conds := rfl
@[simp] theorem Mod.drawN_limits (k : Nat) : (m.drawN k).limits = m.limits := rfl
@[simp] theorem Mod.drawN_seen (k : Nat) : (m.drawN k).seen = m.seen := rfl
@[simp] theorem Mod.drawN_timeFn (k : Nat) : (m.drawN k).timeFn = m.timeFn := rfl
@[simp] theorem Mod.drawN_twinFn (k : Nat) : (m.drawN k).twinFn = m.twinFn := rfl
@[simp] theorem Mod.drawN_rebooting (k : Nat) : (m.drawN k).rebooting = m.rebooting := rfl
@[simp] theorem Mod.drawN_preud (k : Nat) : (m.drawN k).preud = m.preud := rfl
@[simp] theorem Mod.drawN_chans (k : Nat) : (m.drawN k).chans = m.chans := rfl
@[simp] theorem Mod.drawN_rends (k : Nat) : (m.drawN k).rends = m.rends := rfl
@[simp] theorem Mod.drawN_groups (k : Nat) : (m.drawN k).groups = m.groups := rfl
@[simp] theorem Mod.drawN_scalers (k : Nat) : (m.drawN k).scalers = m.scalers := rfl
@[simp] theorem Mod.drawN_lanes (k : Nat) : (m.drawN k).lanes = m.lanes := rfl
@[simp] theorem Mod.drawN_ladderRows (k : Nat) : (m.drawN k).ladderRows = m.ladderRows := rfl
@[simp] theorem Mod.drawN_checks (k : Nat) : (m.drawN k).checks = m.checks := rfl
@[simp] theorem Mod.drawN_twin (k : Nat) : (m.drawN k).twin = m.twin := rfl
@[simp] theorem Mod.drawN_decs (k : Nat) : (m.drawN k).decs = m.decs := rfl
@[simp] theorem Mod.drawN_rings (k : Nat) : (m.drawN k).rings = m.rings := rfl
@[simp] theorem Mod.drawN_slots (k : Nat) : (m.drawN k).slots = m.slots := rfl
@[simp] theorem Mod.drawN_downCores (k : Nat) : (m.drawN k).downCores = m.downCores := rfl
@[simp] theorem Mod.drawN_fab (k : Nat) : (m.drawN k).fab = m.fab := rfl
@[simp] theorem Mod.drawN_servo (k : Nat) : (m.drawN k).servo = m.servo := rfl
@[simp] theorem Mod.drawN_mem (k : Nat) : (m.drawN k).mem = m.mem := rfl
@[simp] theorem Mod.drawN_prt (k : Nat) : (m.drawN k).prt = m.prt := rfl
@[simp] theorem Mod.drawN_clk (k : Nat) : (m.drawN k).clk = m.clk := rfl
@[simp] theorem Mod.drawN_cal (k : Nat) : (m.drawN k).cal = m.cal := rfl
@[simp] theorem Mod.drawN_hw (k : Nat) : (m.drawN k).hw = m.hw := rfl

@[simp] theorem Mod.count_now (i s k : Nat) : (m.count i s k).now = m.now := by
  unfold Mod.count; split <;> rfl
@[simp] theorem Mod.count_ctr (i s k : Nat) : (m.count i s k).ctr = m.ctr := by
  unfold Mod.count; split <;> rfl
@[simp] theorem Mod.count_tick (i s k : Nat) : (m.count i s k).tick = m.tick := by
  unfold Mod.count; split <;> rfl
@[simp] theorem Mod.count_fam (i s k : Nat) : (m.count i s k).fam = m.fam := by
  unfold Mod.count; split <;> rfl
@[simp] theorem Mod.count_draws (i s k : Nat) : (m.count i s k).draws = m.draws := by
  unfold Mod.count; split <;> rfl
@[simp] theorem Mod.count_edgeObjs (i s k : Nat) : (m.count i s k).edgeObjs = m.edgeObjs := by
  unfold Mod.count; split <;> rfl
@[simp] theorem Mod.count_out (i s k : Nat) : (m.count i s k).out = m.out := by
  unfold Mod.count; split <;> rfl
@[simp] theorem Mod.count_raised (i s k : Nat) : (m.count i s k).raised = m.raised := by
  unfold Mod.count; split <;> rfl
@[simp] theorem Mod.count_conds (i s k : Nat) : (m.count i s k).conds = m.conds := by
  unfold Mod.count; split <;> rfl
@[simp] theorem Mod.count_limits (i s k : Nat) : (m.count i s k).limits = m.limits := by
  unfold Mod.count; split <;> rfl
@[simp] theorem Mod.count_seen (i s k : Nat) : (m.count i s k).seen = m.seen := by
  unfold Mod.count; split <;> rfl
@[simp] theorem Mod.count_timeFn (i s k : Nat) : (m.count i s k).timeFn = m.timeFn := by
  unfold Mod.count; split <;> rfl
@[simp] theorem Mod.count_twinFn (i s k : Nat) : (m.count i s k).twinFn = m.twinFn := by
  unfold Mod.count; split <;> rfl
@[simp] theorem Mod.count_rebooting (i s k : Nat) : (m.count i s k).rebooting = m.rebooting := by
  unfold Mod.count; split <;> rfl
@[simp] theorem Mod.count_preud (i s k : Nat) : (m.count i s k).preud = m.preud := by
  unfold Mod.count; split <;> rfl
@[simp] theorem Mod.count_chans (i s k : Nat) : (m.count i s k).chans = m.chans := by
  unfold Mod.count; split <;> rfl
@[simp] theorem Mod.count_rends (i s k : Nat) : (m.count i s k).rends = m.rends := by
  unfold Mod.count; split <;> rfl
@[simp] theorem Mod.count_groups (i s k : Nat) : (m.count i s k).groups = m.groups := by
  unfold Mod.count; split <;> rfl
@[simp] theorem Mod.count_scalers (i s k : Nat) : (m.count i s k).scalers = m.scalers := by
  unfold Mod.count; split <;> rfl
@[simp] theorem Mod.count_lanes (i s k : Nat) : (m.count i s k).lanes = m.lanes := by
  unfold Mod.count; split <;> rfl
@[simp] theorem Mod.count_ladderRows (i s k : Nat) : (m.count i s k).ladderRows = m.ladderRows := by
  unfold Mod.count; split <;> rfl
@[simp] theorem Mod.count_checks (i s k : Nat) : (m.count i s k).checks = m.checks := by
  unfold Mod.count; split <;> rfl
@[simp] theorem Mod.count_twin (i s k : Nat) : (m.count i s k).twin = m.twin := by
  unfold Mod.count; split <;> rfl
@[simp] theorem Mod.count_decs (i s k : Nat) : (m.count i s k).decs = m.decs := by
  unfold Mod.count; split <;> rfl
@[simp] theorem Mod.count_rings (i s k : Nat) : (m.count i s k).rings = m.rings := by
  unfold Mod.count; split <;> rfl
@[simp] theorem Mod.count_slots (i s k : Nat) : (m.count i s k).slots = m.slots := by
  unfold Mod.count; split <;> rfl
@[simp] theorem Mod.count_downCores (i s k : Nat) : (m.count i s k).downCores = m.downCores := by
  unfold Mod.count; split <;> rfl
@[simp] theorem Mod.count_fab (i s k : Nat) : (m.count i s k).fab = m.fab := by
  unfold Mod.count; split <;> rfl
@[simp] theorem Mod.count_servo (i s k : Nat) : (m.count i s k).servo = m.servo := by
  unfold Mod.count; split <;> rfl
@[simp] theorem Mod.count_mem (i s k : Nat) : (m.count i s k).mem = m.mem := by
  unfold Mod.count; split <;> rfl
@[simp] theorem Mod.count_prt (i s k : Nat) : (m.count i s k).prt = m.prt := by
  unfold Mod.count; split <;> rfl
@[simp] theorem Mod.count_clk (i s k : Nat) : (m.count i s k).clk = m.clk := by
  unfold Mod.count; split <;> rfl
@[simp] theorem Mod.count_cal (i s k : Nat) : (m.count i s k).cal = m.cal := by
  unfold Mod.count; split <;> rfl
@[simp] theorem Mod.count_hw (i s k : Nat) : (m.count i s k).hw = m.hw := by
  unfold Mod.count; split <;> rfl

@[simp] theorem Mod.bump_now (i s : Nat) : (m.bump i s).now = m.now := by
  simp only [Mod.bump, Mod.count_now]
@[simp] theorem Mod.bump_ctr (i s : Nat) : (m.bump i s).ctr = m.ctr := by
  simp only [Mod.bump, Mod.count_ctr]
@[simp] theorem Mod.bump_tick (i s : Nat) : (m.bump i s).tick = m.tick := by
  simp only [Mod.bump, Mod.count_tick]
@[simp] theorem Mod.bump_fam (i s : Nat) : (m.bump i s).fam = m.fam := by
  simp only [Mod.bump, Mod.count_fam]
@[simp] theorem Mod.bump_draws (i s : Nat) : (m.bump i s).draws = m.draws := by
  simp only [Mod.bump, Mod.count_draws]
@[simp] theorem Mod.bump_edgeObjs (i s : Nat) : (m.bump i s).edgeObjs = m.edgeObjs := by
  simp only [Mod.bump, Mod.count_edgeObjs]
@[simp] theorem Mod.bump_out (i s : Nat) : (m.bump i s).out = m.out := by
  simp only [Mod.bump, Mod.count_out]
@[simp] theorem Mod.bump_raised (i s : Nat) : (m.bump i s).raised = m.raised := by
  simp only [Mod.bump, Mod.count_raised]
@[simp] theorem Mod.bump_conds (i s : Nat) : (m.bump i s).conds = m.conds := by
  simp only [Mod.bump, Mod.count_conds]
@[simp] theorem Mod.bump_limits (i s : Nat) : (m.bump i s).limits = m.limits := by
  simp only [Mod.bump, Mod.count_limits]
@[simp] theorem Mod.bump_seen (i s : Nat) : (m.bump i s).seen = m.seen := by
  simp only [Mod.bump, Mod.count_seen]
@[simp] theorem Mod.bump_timeFn (i s : Nat) : (m.bump i s).timeFn = m.timeFn := by
  simp only [Mod.bump, Mod.count_timeFn]
@[simp] theorem Mod.bump_twinFn (i s : Nat) : (m.bump i s).twinFn = m.twinFn := by
  simp only [Mod.bump, Mod.count_twinFn]
@[simp] theorem Mod.bump_rebooting (i s : Nat) : (m.bump i s).rebooting = m.rebooting := by
  simp only [Mod.bump, Mod.count_rebooting]
@[simp] theorem Mod.bump_preud (i s : Nat) : (m.bump i s).preud = m.preud := by
  simp only [Mod.bump, Mod.count_preud]
@[simp] theorem Mod.bump_chans (i s : Nat) : (m.bump i s).chans = m.chans := by
  simp only [Mod.bump, Mod.count_chans]
@[simp] theorem Mod.bump_rends (i s : Nat) : (m.bump i s).rends = m.rends := by
  simp only [Mod.bump, Mod.count_rends]
@[simp] theorem Mod.bump_groups (i s : Nat) : (m.bump i s).groups = m.groups := by
  simp only [Mod.bump, Mod.count_groups]
@[simp] theorem Mod.bump_scalers (i s : Nat) : (m.bump i s).scalers = m.scalers := by
  simp only [Mod.bump, Mod.count_scalers]
@[simp] theorem Mod.bump_lanes (i s : Nat) : (m.bump i s).lanes = m.lanes := by
  simp only [Mod.bump, Mod.count_lanes]
@[simp] theorem Mod.bump_ladderRows (i s : Nat) : (m.bump i s).ladderRows = m.ladderRows := by
  simp only [Mod.bump, Mod.count_ladderRows]
@[simp] theorem Mod.bump_checks (i s : Nat) : (m.bump i s).checks = m.checks := by
  simp only [Mod.bump, Mod.count_checks]
@[simp] theorem Mod.bump_twin (i s : Nat) : (m.bump i s).twin = m.twin := by
  simp only [Mod.bump, Mod.count_twin]
@[simp] theorem Mod.bump_decs (i s : Nat) : (m.bump i s).decs = m.decs := by
  simp only [Mod.bump, Mod.count_decs]
@[simp] theorem Mod.bump_rings (i s : Nat) : (m.bump i s).rings = m.rings := by
  simp only [Mod.bump, Mod.count_rings]
@[simp] theorem Mod.bump_slots (i s : Nat) : (m.bump i s).slots = m.slots := by
  simp only [Mod.bump, Mod.count_slots]
@[simp] theorem Mod.bump_downCores (i s : Nat) : (m.bump i s).downCores = m.downCores := by
  simp only [Mod.bump, Mod.count_downCores]
@[simp] theorem Mod.bump_fab (i s : Nat) : (m.bump i s).fab = m.fab := by
  simp only [Mod.bump, Mod.count_fab]
@[simp] theorem Mod.bump_servo (i s : Nat) : (m.bump i s).servo = m.servo := by
  simp only [Mod.bump, Mod.count_servo]
@[simp] theorem Mod.bump_mem (i s : Nat) : (m.bump i s).mem = m.mem := by
  simp only [Mod.bump, Mod.count_mem]
@[simp] theorem Mod.bump_prt (i s : Nat) : (m.bump i s).prt = m.prt := by
  simp only [Mod.bump, Mod.count_prt]
@[simp] theorem Mod.bump_clk (i s : Nat) : (m.bump i s).clk = m.clk := by
  simp only [Mod.bump, Mod.count_clk]
@[simp] theorem Mod.bump_cal (i s : Nat) : (m.bump i s).cal = m.cal := by
  simp only [Mod.bump, Mod.count_cal]
@[simp] theorem Mod.bump_hw (i s : Nat) : (m.bump i s).hw = m.hw := by
  simp only [Mod.bump, Mod.count_hw]

@[simp] theorem Mod.putFirst_now (i s : Nat) (v : Int) : (m.putFirst i s v).now = m.now := rfl
@[simp] theorem Mod.putFirst_ctr (i s : Nat) (v : Int) : (m.putFirst i s v).ctr = m.ctr := rfl
@[simp] theorem Mod.putFirst_tick (i s : Nat) (v : Int) : (m.putFirst i s v).tick = m.tick := rfl
@[simp] theorem Mod.putFirst_fam (i s : Nat) (v : Int) : (m.putFirst i s v).fam = m.fam := rfl
@[simp] theorem Mod.putFirst_draws (i s : Nat) (v : Int) : (m.putFirst i s v).draws = m.draws := rfl
@[simp] theorem Mod.putFirst_edgeObjs (i s : Nat) (v : Int) : (m.putFirst i s v).edgeObjs = m.edgeObjs := rfl
@[simp] theorem Mod.putFirst_out (i s : Nat) (v : Int) : (m.putFirst i s v).out = m.out := rfl
@[simp] theorem Mod.putFirst_raised (i s : Nat) (v : Int) : (m.putFirst i s v).raised = m.raised := rfl
@[simp] theorem Mod.putFirst_conds (i s : Nat) (v : Int) : (m.putFirst i s v).conds = m.conds := rfl
@[simp] theorem Mod.putFirst_limits (i s : Nat) (v : Int) : (m.putFirst i s v).limits = m.limits := rfl
@[simp] theorem Mod.putFirst_timeFn (i s : Nat) (v : Int) : (m.putFirst i s v).timeFn = m.timeFn := rfl
@[simp] theorem Mod.putFirst_twinFn (i s : Nat) (v : Int) : (m.putFirst i s v).twinFn = m.twinFn := rfl
@[simp] theorem Mod.putFirst_rebooting (i s : Nat) (v : Int) : (m.putFirst i s v).rebooting = m.rebooting := rfl
@[simp] theorem Mod.putFirst_preud (i s : Nat) (v : Int) : (m.putFirst i s v).preud = m.preud := rfl
@[simp] theorem Mod.putFirst_chans (i s : Nat) (v : Int) : (m.putFirst i s v).chans = m.chans := rfl
@[simp] theorem Mod.putFirst_rends (i s : Nat) (v : Int) : (m.putFirst i s v).rends = m.rends := rfl
@[simp] theorem Mod.putFirst_groups (i s : Nat) (v : Int) : (m.putFirst i s v).groups = m.groups := rfl
@[simp] theorem Mod.putFirst_scalers (i s : Nat) (v : Int) : (m.putFirst i s v).scalers = m.scalers := rfl
@[simp] theorem Mod.putFirst_lanes (i s : Nat) (v : Int) : (m.putFirst i s v).lanes = m.lanes := rfl
@[simp] theorem Mod.putFirst_ladderRows (i s : Nat) (v : Int) : (m.putFirst i s v).ladderRows = m.ladderRows := rfl
@[simp] theorem Mod.putFirst_checks (i s : Nat) (v : Int) : (m.putFirst i s v).checks = m.checks := rfl
@[simp] theorem Mod.putFirst_twin (i s : Nat) (v : Int) : (m.putFirst i s v).twin = m.twin := rfl
@[simp] theorem Mod.putFirst_decs (i s : Nat) (v : Int) : (m.putFirst i s v).decs = m.decs := rfl
@[simp] theorem Mod.putFirst_rings (i s : Nat) (v : Int) : (m.putFirst i s v).rings = m.rings := rfl
@[simp] theorem Mod.putFirst_slots (i s : Nat) (v : Int) : (m.putFirst i s v).slots = m.slots := rfl
@[simp] theorem Mod.putFirst_downCores (i s : Nat) (v : Int) : (m.putFirst i s v).downCores = m.downCores := rfl
@[simp] theorem Mod.putFirst_fab (i s : Nat) (v : Int) : (m.putFirst i s v).fab = m.fab := rfl
@[simp] theorem Mod.putFirst_servo (i s : Nat) (v : Int) : (m.putFirst i s v).servo = m.servo := rfl
@[simp] theorem Mod.putFirst_mem (i s : Nat) (v : Int) : (m.putFirst i s v).mem = m.mem := rfl
@[simp] theorem Mod.putFirst_prt (i s : Nat) (v : Int) : (m.putFirst i s v).prt = m.prt := rfl
@[simp] theorem Mod.putFirst_clk (i s : Nat) (v : Int) : (m.putFirst i s v).clk = m.clk := rfl
@[simp] theorem Mod.putFirst_cal (i s : Nat) (v : Int) : (m.putFirst i s v).cal = m.cal := rfl
@[simp] theorem Mod.putFirst_hw (i s : Nat) (v : Int) : (m.putFirst i s v).hw = m.hw := rfl

@[simp] theorem Mod.putMax_now (i s : Nat) (v : Int) : (m.putMax i s v).now = m.now := by
  unfold Mod.putMax; split <;> (try split) <;> rfl
@[simp] theorem Mod.putMax_ctr (i s : Nat) (v : Int) : (m.putMax i s v).ctr = m.ctr := by
  unfold Mod.putMax; split <;> (try split) <;> rfl
@[simp] theorem Mod.putMax_tick (i s : Nat) (v : Int) : (m.putMax i s v).tick = m.tick := by
  unfold Mod.putMax; split <;> (try split) <;> rfl
@[simp] theorem Mod.putMax_fam (i s : Nat) (v : Int) : (m.putMax i s v).fam = m.fam := by
  unfold Mod.putMax; split <;> (try split) <;> rfl
@[simp] theorem Mod.putMax_draws (i s : Nat) (v : Int) : (m.putMax i s v).draws = m.draws := by
  unfold Mod.putMax; split <;> (try split) <;> rfl
@[simp] theorem Mod.putMax_edgeObjs (i s : Nat) (v : Int) : (m.putMax i s v).edgeObjs = m.edgeObjs := by
  unfold Mod.putMax; split <;> (try split) <;> rfl
@[simp] theorem Mod.putMax_out (i s : Nat) (v : Int) : (m.putMax i s v).out = m.out := by
  unfold Mod.putMax; split <;> (try split) <;> rfl
@[simp] theorem Mod.putMax_raised (i s : Nat) (v : Int) : (m.putMax i s v).raised = m.raised := by
  unfold Mod.putMax; split <;> (try split) <;> rfl
@[simp] theorem Mod.putMax_conds (i s : Nat) (v : Int) : (m.putMax i s v).conds = m.conds := by
  unfold Mod.putMax; split <;> (try split) <;> rfl
@[simp] theorem Mod.putMax_limits (i s : Nat) (v : Int) : (m.putMax i s v).limits = m.limits := by
  unfold Mod.putMax; split <;> (try split) <;> rfl
@[simp] theorem Mod.putMax_timeFn (i s : Nat) (v : Int) : (m.putMax i s v).timeFn = m.timeFn := by
  unfold Mod.putMax; split <;> (try split) <;> rfl
@[simp] theorem Mod.putMax_twinFn (i s : Nat) (v : Int) : (m.putMax i s v).twinFn = m.twinFn := by
  unfold Mod.putMax; split <;> (try split) <;> rfl
@[simp] theorem Mod.putMax_rebooting (i s : Nat) (v : Int) : (m.putMax i s v).rebooting = m.rebooting := by
  unfold Mod.putMax; split <;> (try split) <;> rfl
@[simp] theorem Mod.putMax_preud (i s : Nat) (v : Int) : (m.putMax i s v).preud = m.preud := by
  unfold Mod.putMax; split <;> (try split) <;> rfl
@[simp] theorem Mod.putMax_chans (i s : Nat) (v : Int) : (m.putMax i s v).chans = m.chans := by
  unfold Mod.putMax; split <;> (try split) <;> rfl
@[simp] theorem Mod.putMax_rends (i s : Nat) (v : Int) : (m.putMax i s v).rends = m.rends := by
  unfold Mod.putMax; split <;> (try split) <;> rfl
@[simp] theorem Mod.putMax_groups (i s : Nat) (v : Int) : (m.putMax i s v).groups = m.groups := by
  unfold Mod.putMax; split <;> (try split) <;> rfl
@[simp] theorem Mod.putMax_scalers (i s : Nat) (v : Int) : (m.putMax i s v).scalers = m.scalers := by
  unfold Mod.putMax; split <;> (try split) <;> rfl
@[simp] theorem Mod.putMax_lanes (i s : Nat) (v : Int) : (m.putMax i s v).lanes = m.lanes := by
  unfold Mod.putMax; split <;> (try split) <;> rfl
@[simp] theorem Mod.putMax_ladderRows (i s : Nat) (v : Int) : (m.putMax i s v).ladderRows = m.ladderRows := by
  unfold Mod.putMax; split <;> (try split) <;> rfl
@[simp] theorem Mod.putMax_checks (i s : Nat) (v : Int) : (m.putMax i s v).checks = m.checks := by
  unfold Mod.putMax; split <;> (try split) <;> rfl
@[simp] theorem Mod.putMax_twin (i s : Nat) (v : Int) : (m.putMax i s v).twin = m.twin := by
  unfold Mod.putMax; split <;> (try split) <;> rfl
@[simp] theorem Mod.putMax_decs (i s : Nat) (v : Int) : (m.putMax i s v).decs = m.decs := by
  unfold Mod.putMax; split <;> (try split) <;> rfl
@[simp] theorem Mod.putMax_rings (i s : Nat) (v : Int) : (m.putMax i s v).rings = m.rings := by
  unfold Mod.putMax; split <;> (try split) <;> rfl
@[simp] theorem Mod.putMax_slots (i s : Nat) (v : Int) : (m.putMax i s v).slots = m.slots := by
  unfold Mod.putMax; split <;> (try split) <;> rfl
@[simp] theorem Mod.putMax_downCores (i s : Nat) (v : Int) : (m.putMax i s v).downCores = m.downCores := by
  unfold Mod.putMax; split <;> (try split) <;> rfl
@[simp] theorem Mod.putMax_fab (i s : Nat) (v : Int) : (m.putMax i s v).fab = m.fab := by
  unfold Mod.putMax; split <;> (try split) <;> rfl
@[simp] theorem Mod.putMax_servo (i s : Nat) (v : Int) : (m.putMax i s v).servo = m.servo := by
  unfold Mod.putMax; split <;> (try split) <;> rfl
@[simp] theorem Mod.putMax_mem (i s : Nat) (v : Int) : (m.putMax i s v).mem = m.mem := by
  unfold Mod.putMax; split <;> (try split) <;> rfl
@[simp] theorem Mod.putMax_prt (i s : Nat) (v : Int) : (m.putMax i s v).prt = m.prt := by
  unfold Mod.putMax; split <;> (try split) <;> rfl
@[simp] theorem Mod.putMax_clk (i s : Nat) (v : Int) : (m.putMax i s v).clk = m.clk := by
  unfold Mod.putMax; split <;> (try split) <;> rfl
@[simp] theorem Mod.putMax_cal (i s : Nat) (v : Int) : (m.putMax i s v).cal = m.cal := by
  unfold Mod.putMax; split <;> (try split) <;> rfl
@[simp] theorem Mod.putMax_hw (i s : Nat) (v : Int) : (m.putMax i s v).hw = m.hw := by
  unfold Mod.putMax; split <;> (try split) <;> rfl

@[simp] theorem Mod.putMin_now (i s : Nat) (v : Int) : (m.putMin i s v).now = m.now := by
  unfold Mod.putMin; split <;> (try split) <;> rfl
@[simp] theorem Mod.putMin_ctr (i s : Nat) (v : Int) : (m.putMin i s v).ctr = m.ctr := by
  unfold Mod.putMin; split <;> (try split) <;> rfl
@[simp] theorem Mod.putMin_tick (i s : Nat) (v : Int) : (m.putMin i s v).tick = m.tick := by
  unfold Mod.putMin; split <;> (try split) <;> rfl
@[simp] theorem Mod.putMin_fam (i s : Nat) (v : Int) : (m.putMin i s v).fam = m.fam := by
  unfold Mod.putMin; split <;> (try split) <;> rfl
@[simp] theorem Mod.putMin_draws (i s : Nat) (v : Int) : (m.putMin i s v).draws = m.draws := by
  unfold Mod.putMin; split <;> (try split) <;> rfl
@[simp] theorem Mod.putMin_edgeObjs (i s : Nat) (v : Int) : (m.putMin i s v).edgeObjs = m.edgeObjs := by
  unfold Mod.putMin; split <;> (try split) <;> rfl
@[simp] theorem Mod.putMin_out (i s : Nat) (v : Int) : (m.putMin i s v).out = m.out := by
  unfold Mod.putMin; split <;> (try split) <;> rfl
@[simp] theorem Mod.putMin_raised (i s : Nat) (v : Int) : (m.putMin i s v).raised = m.raised := by
  unfold Mod.putMin; split <;> (try split) <;> rfl
@[simp] theorem Mod.putMin_conds (i s : Nat) (v : Int) : (m.putMin i s v).conds = m.conds := by
  unfold Mod.putMin; split <;> (try split) <;> rfl
@[simp] theorem Mod.putMin_limits (i s : Nat) (v : Int) : (m.putMin i s v).limits = m.limits := by
  unfold Mod.putMin; split <;> (try split) <;> rfl
@[simp] theorem Mod.putMin_timeFn (i s : Nat) (v : Int) : (m.putMin i s v).timeFn = m.timeFn := by
  unfold Mod.putMin; split <;> (try split) <;> rfl
@[simp] theorem Mod.putMin_twinFn (i s : Nat) (v : Int) : (m.putMin i s v).twinFn = m.twinFn := by
  unfold Mod.putMin; split <;> (try split) <;> rfl
@[simp] theorem Mod.putMin_rebooting (i s : Nat) (v : Int) : (m.putMin i s v).rebooting = m.rebooting := by
  unfold Mod.putMin; split <;> (try split) <;> rfl
@[simp] theorem Mod.putMin_preud (i s : Nat) (v : Int) : (m.putMin i s v).preud = m.preud := by
  unfold Mod.putMin; split <;> (try split) <;> rfl
@[simp] theorem Mod.putMin_chans (i s : Nat) (v : Int) : (m.putMin i s v).chans = m.chans := by
  unfold Mod.putMin; split <;> (try split) <;> rfl
@[simp] theorem Mod.putMin_rends (i s : Nat) (v : Int) : (m.putMin i s v).rends = m.rends := by
  unfold Mod.putMin; split <;> (try split) <;> rfl
@[simp] theorem Mod.putMin_groups (i s : Nat) (v : Int) : (m.putMin i s v).groups = m.groups := by
  unfold Mod.putMin; split <;> (try split) <;> rfl
@[simp] theorem Mod.putMin_scalers (i s : Nat) (v : Int) : (m.putMin i s v).scalers = m.scalers := by
  unfold Mod.putMin; split <;> (try split) <;> rfl
@[simp] theorem Mod.putMin_lanes (i s : Nat) (v : Int) : (m.putMin i s v).lanes = m.lanes := by
  unfold Mod.putMin; split <;> (try split) <;> rfl
@[simp] theorem Mod.putMin_ladderRows (i s : Nat) (v : Int) : (m.putMin i s v).ladderRows = m.ladderRows := by
  unfold Mod.putMin; split <;> (try split) <;> rfl
@[simp] theorem Mod.putMin_checks (i s : Nat) (v : Int) : (m.putMin i s v).checks = m.checks := by
  unfold Mod.putMin; split <;> (try split) <;> rfl
@[simp] theorem Mod.putMin_twin (i s : Nat) (v : Int) : (m.putMin i s v).twin = m.twin := by
  unfold Mod.putMin; split <;> (try split) <;> rfl
@[simp] theorem Mod.putMin_decs (i s : Nat) (v : Int) : (m.putMin i s v).decs = m.decs := by
  unfold Mod.putMin; split <;> (try split) <;> rfl
@[simp] theorem Mod.putMin_rings (i s : Nat) (v : Int) : (m.putMin i s v).rings = m.rings := by
  unfold Mod.putMin; split <;> (try split) <;> rfl
@[simp] theorem Mod.putMin_slots (i s : Nat) (v : Int) : (m.putMin i s v).slots = m.slots := by
  unfold Mod.putMin; split <;> (try split) <;> rfl
@[simp] theorem Mod.putMin_downCores (i s : Nat) (v : Int) : (m.putMin i s v).downCores = m.downCores := by
  unfold Mod.putMin; split <;> (try split) <;> rfl
@[simp] theorem Mod.putMin_fab (i s : Nat) (v : Int) : (m.putMin i s v).fab = m.fab := by
  unfold Mod.putMin; split <;> (try split) <;> rfl
@[simp] theorem Mod.putMin_servo (i s : Nat) (v : Int) : (m.putMin i s v).servo = m.servo := by
  unfold Mod.putMin; split <;> (try split) <;> rfl
@[simp] theorem Mod.putMin_mem (i s : Nat) (v : Int) : (m.putMin i s v).mem = m.mem := by
  unfold Mod.putMin; split <;> (try split) <;> rfl
@[simp] theorem Mod.putMin_prt (i s : Nat) (v : Int) : (m.putMin i s v).prt = m.prt := by
  unfold Mod.putMin; split <;> (try split) <;> rfl
@[simp] theorem Mod.putMin_clk (i s : Nat) (v : Int) : (m.putMin i s v).clk = m.clk := by
  unfold Mod.putMin; split <;> (try split) <;> rfl
@[simp] theorem Mod.putMin_cal (i s : Nat) (v : Int) : (m.putMin i s v).cal = m.cal := by
  unfold Mod.putMin; split <;> (try split) <;> rfl
@[simp] theorem Mod.putMin_hw (i s : Nat) (v : Int) : (m.putMin i s v).hw = m.hw := by
  unfold Mod.putMin; split <;> (try split) <;> rfl

@[simp] theorem Mod.unsee_now (i j a b : Nat) : (m.unsee i j a b).now = m.now := rfl
@[simp] theorem Mod.unsee_ctr (i j a b : Nat) : (m.unsee i j a b).ctr = m.ctr := rfl
@[simp] theorem Mod.unsee_tick (i j a b : Nat) : (m.unsee i j a b).tick = m.tick := rfl
@[simp] theorem Mod.unsee_fam (i j a b : Nat) : (m.unsee i j a b).fam = m.fam := rfl
@[simp] theorem Mod.unsee_draws (i j a b : Nat) : (m.unsee i j a b).draws = m.draws := rfl
@[simp] theorem Mod.unsee_objs (i j a b : Nat) : (m.unsee i j a b).objs = m.objs := rfl
@[simp] theorem Mod.unsee_edgeObjs (i j a b : Nat) : (m.unsee i j a b).edgeObjs = m.edgeObjs := rfl
@[simp] theorem Mod.unsee_out (i j a b : Nat) : (m.unsee i j a b).out = m.out := rfl
@[simp] theorem Mod.unsee_raised (i j a b : Nat) : (m.unsee i j a b).raised = m.raised := rfl
@[simp] theorem Mod.unsee_conds (i j a b : Nat) : (m.unsee i j a b).conds = m.conds := rfl
@[simp] theorem Mod.unsee_limits (i j a b : Nat) : (m.unsee i j a b).limits = m.limits := rfl
@[simp] theorem Mod.unsee_timeFn (i j a b : Nat) : (m.unsee i j a b).timeFn = m.timeFn := rfl
@[simp] theorem Mod.unsee_twinFn (i j a b : Nat) : (m.unsee i j a b).twinFn = m.twinFn := rfl
@[simp] theorem Mod.unsee_rebooting (i j a b : Nat) : (m.unsee i j a b).rebooting = m.rebooting := rfl
@[simp] theorem Mod.unsee_preud (i j a b : Nat) : (m.unsee i j a b).preud = m.preud := rfl
@[simp] theorem Mod.unsee_chans (i j a b : Nat) : (m.unsee i j a b).chans = m.chans := rfl
@[simp] theorem Mod.unsee_rends (i j a b : Nat) : (m.unsee i j a b).rends = m.rends := rfl
@[simp] theorem Mod.unsee_groups (i j a b : Nat) : (m.unsee i j a b).groups = m.groups := rfl
@[simp] theorem Mod.unsee_scalers (i j a b : Nat) : (m.unsee i j a b).scalers = m.scalers := rfl
@[simp] theorem Mod.unsee_lanes (i j a b : Nat) : (m.unsee i j a b).lanes = m.lanes := rfl
@[simp] theorem Mod.unsee_ladderRows (i j a b : Nat) : (m.unsee i j a b).ladderRows = m.ladderRows := rfl
@[simp] theorem Mod.unsee_checks (i j a b : Nat) : (m.unsee i j a b).checks = m.checks := rfl
@[simp] theorem Mod.unsee_twin (i j a b : Nat) : (m.unsee i j a b).twin = m.twin := rfl
@[simp] theorem Mod.unsee_decs (i j a b : Nat) : (m.unsee i j a b).decs = m.decs := rfl
@[simp] theorem Mod.unsee_rings (i j a b : Nat) : (m.unsee i j a b).rings = m.rings := rfl
@[simp] theorem Mod.unsee_slots (i j a b : Nat) : (m.unsee i j a b).slots = m.slots := rfl
@[simp] theorem Mod.unsee_downCores (i j a b : Nat) : (m.unsee i j a b).downCores = m.downCores := rfl
@[simp] theorem Mod.unsee_fab (i j a b : Nat) : (m.unsee i j a b).fab = m.fab := rfl
@[simp] theorem Mod.unsee_servo (i j a b : Nat) : (m.unsee i j a b).servo = m.servo := rfl
@[simp] theorem Mod.unsee_mem (i j a b : Nat) : (m.unsee i j a b).mem = m.mem := rfl
@[simp] theorem Mod.unsee_prt (i j a b : Nat) : (m.unsee i j a b).prt = m.prt := rfl
@[simp] theorem Mod.unsee_clk (i j a b : Nat) : (m.unsee i j a b).clk = m.clk := rfl
@[simp] theorem Mod.unsee_cal (i j a b : Nat) : (m.unsee i j a b).cal = m.cal := rfl
@[simp] theorem Mod.unsee_hw (i j a b : Nat) : (m.unsee i j a b).hw = m.hw := rfl

@[simp] theorem Mod.raiseRaw_now (c r v : Nat) (p : List Nat) : (m.raiseRaw c r v p).now = m.now := by
  simp only [Mod.raiseRaw, Mod.bump_now]
@[simp] theorem Mod.raiseRaw_ctr (c r v : Nat) (p : List Nat) : (m.raiseRaw c r v p).ctr = m.ctr := by
  simp only [Mod.raiseRaw, Mod.bump_ctr]
@[simp] theorem Mod.raiseRaw_tick (c r v : Nat) (p : List Nat) : (m.raiseRaw c r v p).tick = m.tick := by
  simp only [Mod.raiseRaw, Mod.bump_tick]
@[simp] theorem Mod.raiseRaw_fam (c r v : Nat) (p : List Nat) : (m.raiseRaw c r v p).fam = m.fam := by
  simp only [Mod.raiseRaw, Mod.bump_fam]
@[simp] theorem Mod.raiseRaw_draws (c r v : Nat) (p : List Nat) : (m.raiseRaw c r v p).draws = m.draws := by
  simp only [Mod.raiseRaw, Mod.bump_draws]
@[simp] theorem Mod.raiseRaw_edgeObjs (c r v : Nat) (p : List Nat) : (m.raiseRaw c r v p).edgeObjs = m.edgeObjs := by
  simp only [Mod.raiseRaw, Mod.bump_edgeObjs]
@[simp] theorem Mod.raiseRaw_out (c r v : Nat) (p : List Nat) : (m.raiseRaw c r v p).out = m.out := by
  simp only [Mod.raiseRaw, Mod.bump_out]
@[simp] theorem Mod.raiseRaw_conds (c r v : Nat) (p : List Nat) : (m.raiseRaw c r v p).conds = m.conds := by
  simp only [Mod.raiseRaw, Mod.bump_conds]
@[simp] theorem Mod.raiseRaw_limits (c r v : Nat) (p : List Nat) : (m.raiseRaw c r v p).limits = m.limits := by
  simp only [Mod.raiseRaw, Mod.bump_limits]
@[simp] theorem Mod.raiseRaw_seen (c r v : Nat) (p : List Nat) : (m.raiseRaw c r v p).seen = m.seen := by
  simp only [Mod.raiseRaw, Mod.bump_seen]
@[simp] theorem Mod.raiseRaw_timeFn (c r v : Nat) (p : List Nat) : (m.raiseRaw c r v p).timeFn = m.timeFn := by
  simp only [Mod.raiseRaw, Mod.bump_timeFn]
@[simp] theorem Mod.raiseRaw_twinFn (c r v : Nat) (p : List Nat) : (m.raiseRaw c r v p).twinFn = m.twinFn := by
  simp only [Mod.raiseRaw, Mod.bump_twinFn]
@[simp] theorem Mod.raiseRaw_rebooting (c r v : Nat) (p : List Nat) : (m.raiseRaw c r v p).rebooting = m.rebooting := by
  simp only [Mod.raiseRaw, Mod.bump_rebooting]
@[simp] theorem Mod.raiseRaw_preud (c r v : Nat) (p : List Nat) : (m.raiseRaw c r v p).preud = m.preud := by
  simp only [Mod.raiseRaw, Mod.bump_preud]
@[simp] theorem Mod.raiseRaw_chans (c r v : Nat) (p : List Nat) : (m.raiseRaw c r v p).chans = m.chans := by
  simp only [Mod.raiseRaw, Mod.bump_chans]
@[simp] theorem Mod.raiseRaw_rends (c r v : Nat) (p : List Nat) : (m.raiseRaw c r v p).rends = m.rends := by
  simp only [Mod.raiseRaw, Mod.bump_rends]
@[simp] theorem Mod.raiseRaw_groups (c r v : Nat) (p : List Nat) : (m.raiseRaw c r v p).groups = m.groups := by
  simp only [Mod.raiseRaw, Mod.bump_groups]
@[simp] theorem Mod.raiseRaw_scalers (c r v : Nat) (p : List Nat) : (m.raiseRaw c r v p).scalers = m.scalers := by
  simp only [Mod.raiseRaw, Mod.bump_scalers]
@[simp] theorem Mod.raiseRaw_lanes (c r v : Nat) (p : List Nat) : (m.raiseRaw c r v p).lanes = m.lanes := by
  simp only [Mod.raiseRaw, Mod.bump_lanes]
@[simp] theorem Mod.raiseRaw_ladderRows (c r v : Nat) (p : List Nat) : (m.raiseRaw c r v p).ladderRows = m.ladderRows := by
  simp only [Mod.raiseRaw, Mod.bump_ladderRows]
@[simp] theorem Mod.raiseRaw_checks (c r v : Nat) (p : List Nat) : (m.raiseRaw c r v p).checks = m.checks := by
  simp only [Mod.raiseRaw, Mod.bump_checks]
@[simp] theorem Mod.raiseRaw_twin (c r v : Nat) (p : List Nat) : (m.raiseRaw c r v p).twin = m.twin := by
  simp only [Mod.raiseRaw, Mod.bump_twin]
@[simp] theorem Mod.raiseRaw_decs (c r v : Nat) (p : List Nat) : (m.raiseRaw c r v p).decs = m.decs := by
  simp only [Mod.raiseRaw, Mod.bump_decs]
@[simp] theorem Mod.raiseRaw_rings (c r v : Nat) (p : List Nat) : (m.raiseRaw c r v p).rings = m.rings := by
  simp only [Mod.raiseRaw, Mod.bump_rings]
@[simp] theorem Mod.raiseRaw_slots (c r v : Nat) (p : List Nat) : (m.raiseRaw c r v p).slots = m.slots := by
  simp only [Mod.raiseRaw, Mod.bump_slots]
@[simp] theorem Mod.raiseRaw_downCores (c r v : Nat) (p : List Nat) : (m.raiseRaw c r v p).downCores = m.downCores := by
  simp only [Mod.raiseRaw, Mod.bump_downCores]
@[simp] theorem Mod.raiseRaw_fab (c r v : Nat) (p : List Nat) : (m.raiseRaw c r v p).fab = m.fab := by
  simp only [Mod.raiseRaw, Mod.bump_fab]
@[simp] theorem Mod.raiseRaw_servo (c r v : Nat) (p : List Nat) : (m.raiseRaw c r v p).servo = m.servo := by
  simp only [Mod.raiseRaw, Mod.bump_servo]
@[simp] theorem Mod.raiseRaw_mem (c r v : Nat) (p : List Nat) : (m.raiseRaw c r v p).mem = m.mem := by
  simp only [Mod.raiseRaw, Mod.bump_mem]
@[simp] theorem Mod.raiseRaw_prt (c r v : Nat) (p : List Nat) : (m.raiseRaw c r v p).prt = m.prt := by
  simp only [Mod.raiseRaw, Mod.bump_prt]
@[simp] theorem Mod.raiseRaw_clk (c r v : Nat) (p : List Nat) : (m.raiseRaw c r v p).clk = m.clk := by
  simp only [Mod.raiseRaw, Mod.bump_clk]
@[simp] theorem Mod.raiseRaw_cal (c r v : Nat) (p : List Nat) : (m.raiseRaw c r v p).cal = m.cal := by
  simp only [Mod.raiseRaw, Mod.bump_cal]
@[simp] theorem Mod.raiseRaw_hw (c r v : Nat) (p : List Nat) : (m.raiseRaw c r v p).hw = m.hw := by
  simp only [Mod.raiseRaw, Mod.bump_hw]

@[simp] theorem Mod.raise_now (c r : Nat) (p : List Nat) : (m.raise c r p).now = m.now := by
  simp only [Mod.raise, Mod.raiseRaw_now]
@[simp] theorem Mod.raise_ctr (c r : Nat) (p : List Nat) : (m.raise c r p).ctr = m.ctr := by
  simp only [Mod.raise, Mod.raiseRaw_ctr]
@[simp] theorem Mod.raise_tick (c r : Nat) (p : List Nat) : (m.raise c r p).tick = m.tick := by
  simp only [Mod.raise, Mod.raiseRaw_tick]
@[simp] theorem Mod.raise_fam (c r : Nat) (p : List Nat) : (m.raise c r p).fam = m.fam := by
  simp only [Mod.raise, Mod.raiseRaw_fam]
@[simp] theorem Mod.raise_draws (c r : Nat) (p : List Nat) : (m.raise c r p).draws = m.draws := by
  simp only [Mod.raise, Mod.raiseRaw_draws]
@[simp] theorem Mod.raise_edgeObjs (c r : Nat) (p : List Nat) : (m.raise c r p).edgeObjs = m.edgeObjs := by
  simp only [Mod.raise, Mod.raiseRaw_edgeObjs]
@[simp] theorem Mod.raise_out (c r : Nat) (p : List Nat) : (m.raise c r p).out = m.out := by
  simp only [Mod.raise, Mod.raiseRaw_out]
@[simp] theorem Mod.raise_conds (c r : Nat) (p : List Nat) : (m.raise c r p).conds = m.conds := by
  simp only [Mod.raise, Mod.raiseRaw_conds]
@[simp] theorem Mod.raise_limits (c r : Nat) (p : List Nat) : (m.raise c r p).limits = m.limits := by
  simp only [Mod.raise, Mod.raiseRaw_limits]
@[simp] theorem Mod.raise_seen (c r : Nat) (p : List Nat) : (m.raise c r p).seen = m.seen := by
  simp only [Mod.raise, Mod.raiseRaw_seen]
@[simp] theorem Mod.raise_timeFn (c r : Nat) (p : List Nat) : (m.raise c r p).timeFn = m.timeFn := by
  simp only [Mod.raise, Mod.raiseRaw_timeFn]
@[simp] theorem Mod.raise_twinFn (c r : Nat) (p : List Nat) : (m.raise c r p).twinFn = m.twinFn := by
  simp only [Mod.raise, Mod.raiseRaw_twinFn]
@[simp] theorem Mod.raise_rebooting (c r : Nat) (p : List Nat) : (m.raise c r p).rebooting = m.rebooting := by
  simp only [Mod.raise, Mod.raiseRaw_rebooting]
@[simp] theorem Mod.raise_preud (c r : Nat) (p : List Nat) : (m.raise c r p).preud = m.preud := by
  simp only [Mod.raise, Mod.raiseRaw_preud]
@[simp] theorem Mod.raise_chans (c r : Nat) (p : List Nat) : (m.raise c r p).chans = m.chans := by
  simp only [Mod.raise, Mod.raiseRaw_chans]
@[simp] theorem Mod.raise_rends (c r : Nat) (p : List Nat) : (m.raise c r p).rends = m.rends := by
  simp only [Mod.raise, Mod.raiseRaw_rends]
@[simp] theorem Mod.raise_groups (c r : Nat) (p : List Nat) : (m.raise c r p).groups = m.groups := by
  simp only [Mod.raise, Mod.raiseRaw_groups]
@[simp] theorem Mod.raise_scalers (c r : Nat) (p : List Nat) : (m.raise c r p).scalers = m.scalers := by
  simp only [Mod.raise, Mod.raiseRaw_scalers]
@[simp] theorem Mod.raise_lanes (c r : Nat) (p : List Nat) : (m.raise c r p).lanes = m.lanes := by
  simp only [Mod.raise, Mod.raiseRaw_lanes]
@[simp] theorem Mod.raise_ladderRows (c r : Nat) (p : List Nat) : (m.raise c r p).ladderRows = m.ladderRows := by
  simp only [Mod.raise, Mod.raiseRaw_ladderRows]
@[simp] theorem Mod.raise_checks (c r : Nat) (p : List Nat) : (m.raise c r p).checks = m.checks := by
  simp only [Mod.raise, Mod.raiseRaw_checks]
@[simp] theorem Mod.raise_twin (c r : Nat) (p : List Nat) : (m.raise c r p).twin = m.twin := by
  simp only [Mod.raise, Mod.raiseRaw_twin]
@[simp] theorem Mod.raise_decs (c r : Nat) (p : List Nat) : (m.raise c r p).decs = m.decs := by
  simp only [Mod.raise, Mod.raiseRaw_decs]
@[simp] theorem Mod.raise_rings (c r : Nat) (p : List Nat) : (m.raise c r p).rings = m.rings := by
  simp only [Mod.raise, Mod.raiseRaw_rings]
@[simp] theorem Mod.raise_slots (c r : Nat) (p : List Nat) : (m.raise c r p).slots = m.slots := by
  simp only [Mod.raise, Mod.raiseRaw_slots]
@[simp] theorem Mod.raise_downCores (c r : Nat) (p : List Nat) : (m.raise c r p).downCores = m.downCores := by
  simp only [Mod.raise, Mod.raiseRaw_downCores]
@[simp] theorem Mod.raise_fab (c r : Nat) (p : List Nat) : (m.raise c r p).fab = m.fab := by
  simp only [Mod.raise, Mod.raiseRaw_fab]
@[simp] theorem Mod.raise_servo (c r : Nat) (p : List Nat) : (m.raise c r p).servo = m.servo := by
  simp only [Mod.raise, Mod.raiseRaw_servo]
@[simp] theorem Mod.raise_mem (c r : Nat) (p : List Nat) : (m.raise c r p).mem = m.mem := by
  simp only [Mod.raise, Mod.raiseRaw_mem]
@[simp] theorem Mod.raise_prt (c r : Nat) (p : List Nat) : (m.raise c r p).prt = m.prt := by
  simp only [Mod.raise, Mod.raiseRaw_prt]
@[simp] theorem Mod.raise_clk (c r : Nat) (p : List Nat) : (m.raise c r p).clk = m.clk := by
  simp only [Mod.raise, Mod.raiseRaw_clk]
@[simp] theorem Mod.raise_cal (c r : Nat) (p : List Nat) : (m.raise c r p).cal = m.cal := by
  simp only [Mod.raise, Mod.raiseRaw_cal]
@[simp] theorem Mod.raise_hw (c r : Nat) (p : List Nat) : (m.raise c r p).hw = m.hw := by
  simp only [Mod.raise, Mod.raiseRaw_hw]

@[simp] theorem Mod.showConds_now : (m.showConds).now = m.now := rfl
@[simp] theorem Mod.showConds_ctr : (m.showConds).ctr = m.ctr := rfl
@[simp] theorem Mod.showConds_tick : (m.showConds).tick = m.tick := rfl
@[simp] theorem Mod.showConds_fam : (m.showConds).fam = m.fam := rfl
@[simp] theorem Mod.showConds_draws : (m.showConds).draws = m.draws := rfl
@[simp] theorem Mod.showConds_edgeObjs : (m.showConds).edgeObjs = m.edgeObjs := rfl
@[simp] theorem Mod.showConds_out : (m.showConds).out = m.out := rfl
@[simp] theorem Mod.showConds_raised : (m.showConds).raised = m.raised := rfl
@[simp] theorem Mod.showConds_conds : (m.showConds).conds = m.conds := rfl
@[simp] theorem Mod.showConds_limits : (m.showConds).limits = m.limits := rfl
@[simp] theorem Mod.showConds_seen : (m.showConds).seen = m.seen := rfl
@[simp] theorem Mod.showConds_timeFn : (m.showConds).timeFn = m.timeFn := rfl
@[simp] theorem Mod.showConds_twinFn : (m.showConds).twinFn = m.twinFn := rfl
@[simp] theorem Mod.showConds_rebooting : (m.showConds).rebooting = m.rebooting := rfl
@[simp] theorem Mod.showConds_preud : (m.showConds).preud = m.preud := rfl
@[simp] theorem Mod.showConds_chans : (m.showConds).chans = m.chans := rfl
@[simp] theorem Mod.showConds_rends : (m.showConds).rends = m.rends := rfl
@[simp] theorem Mod.showConds_groups : (m.showConds).groups = m.groups := rfl
@[simp] theorem Mod.showConds_scalers : (m.showConds).scalers = m.scalers := rfl
@[simp] theorem Mod.showConds_lanes : (m.showConds).lanes = m.lanes := rfl
@[simp] theorem Mod.showConds_ladderRows : (m.showConds).ladderRows = m.ladderRows := rfl
@[simp] theorem Mod.showConds_checks : (m.showConds).checks = m.checks := rfl
@[simp] theorem Mod.showConds_twin : (m.showConds).twin = m.twin := rfl
@[simp] theorem Mod.showConds_decs : (m.showConds).decs = m.decs := rfl
@[simp] theorem Mod.showConds_rings : (m.showConds).rings = m.rings := rfl
@[simp] theorem Mod.showConds_slots : (m.showConds).slots = m.slots := rfl
@[simp] theorem Mod.showConds_downCores : (m.showConds).downCores = m.downCores := rfl
@[simp] theorem Mod.showConds_fab : (m.showConds).fab = m.fab := rfl
@[simp] theorem Mod.showConds_servo : (m.showConds).servo = m.servo := rfl
@[simp] theorem Mod.showConds_mem : (m.showConds).mem = m.mem := rfl
@[simp] theorem Mod.showConds_prt : (m.showConds).prt = m.prt := rfl
@[simp] theorem Mod.showConds_clk : (m.showConds).clk = m.clk := rfl
@[simp] theorem Mod.showConds_cal : (m.showConds).cal = m.cal := rfl
@[simp] theorem Mod.showConds_hw : (m.showConds).hw = m.hw := rfl

@[simp] theorem Mod.raiseCond_now (c r : Nat) (p : List Nat) : (m.raiseCond c r p).now = m.now := by
  unfold Mod.raiseCond; split <;> simp only [Mod.raise_now, Mod.showConds_now]
@[simp] theorem Mod.raiseCond_ctr (c r : Nat) (p : List Nat) : (m.raiseCond c r p).ctr = m.ctr := by
  unfold Mod.raiseCond; split <;> simp only [Mod.raise_ctr, Mod.showConds_ctr]
@[simp] theorem Mod.raiseCond_tick (c r : Nat) (p : List Nat) : (m.raiseCond c r p).tick = m.tick := by
  unfold Mod.raiseCond; split <;> simp only [Mod.raise_tick, Mod.showConds_tick]
@[simp] theorem Mod.raiseCond_fam (c r : Nat) (p : List Nat) : (m.raiseCond c r p).fam = m.fam := by
  unfold Mod.raiseCond; split <;> simp only [Mod.raise_fam, Mod.showConds_fam]
@[simp] theorem Mod.raiseCond_draws (c r : Nat) (p : List Nat) : (m.raiseCond c r p).draws = m.draws := by
  unfold Mod.raiseCond; split <;> simp only [Mod.raise_draws, Mod.showConds_draws]
@[simp] theorem Mod.raiseCond_edgeObjs (c r : Nat) (p : List Nat) : (m.raiseCond c r p).edgeObjs = m.edgeObjs := by
  unfold Mod.raiseCond; split <;> simp only [Mod.raise_edgeObjs, Mod.showConds_edgeObjs]
@[simp] theorem Mod.raiseCond_out (c r : Nat) (p : List Nat) : (m.raiseCond c r p).out = m.out := by
  unfold Mod.raiseCond; split <;> simp only [Mod.raise_out, Mod.showConds_out]
@[simp] theorem Mod.raiseCond_limits (c r : Nat) (p : List Nat) : (m.raiseCond c r p).limits = m.limits := by
  unfold Mod.raiseCond; split <;> simp only [Mod.raise_limits, Mod.showConds_limits]
@[simp] theorem Mod.raiseCond_seen (c r : Nat) (p : List Nat) : (m.raiseCond c r p).seen = m.seen := by
  unfold Mod.raiseCond; split <;> simp only [Mod.raise_seen, Mod.showConds_seen]
@[simp] theorem Mod.raiseCond_timeFn (c r : Nat) (p : List Nat) : (m.raiseCond c r p).timeFn = m.timeFn := by
  unfold Mod.raiseCond; split <;> simp only [Mod.raise_timeFn, Mod.showConds_timeFn]
@[simp] theorem Mod.raiseCond_twinFn (c r : Nat) (p : List Nat) : (m.raiseCond c r p).twinFn = m.twinFn := by
  unfold Mod.raiseCond; split <;> simp only [Mod.raise_twinFn, Mod.showConds_twinFn]
@[simp] theorem Mod.raiseCond_rebooting (c r : Nat) (p : List Nat) : (m.raiseCond c r p).rebooting = m.rebooting := by
  unfold Mod.raiseCond; split <;> simp only [Mod.raise_rebooting, Mod.showConds_rebooting]
@[simp] theorem Mod.raiseCond_preud (c r : Nat) (p : List Nat) : (m.raiseCond c r p).preud = m.preud := by
  unfold Mod.raiseCond; split <;> simp only [Mod.raise_preud, Mod.showConds_preud]
@[simp] theorem Mod.raiseCond_chans (c r : Nat) (p : List Nat) : (m.raiseCond c r p).chans = m.chans := by
  unfold Mod.raiseCond; split <;> simp only [Mod.raise_chans, Mod.showConds_chans]
@[simp] theorem Mod.raiseCond_rends (c r : Nat) (p : List Nat) : (m.raiseCond c r p).rends = m.rends := by
  unfold Mod.raiseCond; split <;> simp only [Mod.raise_rends, Mod.showConds_rends]
@[simp] theorem Mod.raiseCond_groups (c r : Nat) (p : List Nat) : (m.raiseCond c r p).groups = m.groups := by
  unfold Mod.raiseCond; split <;> simp only [Mod.raise_groups, Mod.showConds_groups]
@[simp] theorem Mod.raiseCond_scalers (c r : Nat) (p : List Nat) : (m.raiseCond c r p).scalers = m.scalers := by
  unfold Mod.raiseCond; split <;> simp only [Mod.raise_scalers, Mod.showConds_scalers]
@[simp] theorem Mod.raiseCond_lanes (c r : Nat) (p : List Nat) : (m.raiseCond c r p).lanes = m.lanes := by
  unfold Mod.raiseCond; split <;> simp only [Mod.raise_lanes, Mod.showConds_lanes]
@[simp] theorem Mod.raiseCond_ladderRows (c r : Nat) (p : List Nat) : (m.raiseCond c r p).ladderRows = m.ladderRows := by
  unfold Mod.raiseCond; split <;> simp only [Mod.raise_ladderRows, Mod.showConds_ladderRows]
@[simp] theorem Mod.raiseCond_checks (c r : Nat) (p : List Nat) : (m.raiseCond c r p).checks = m.checks := by
  unfold Mod.raiseCond; split <;> simp only [Mod.raise_checks, Mod.showConds_checks]
@[simp] theorem Mod.raiseCond_twin (c r : Nat) (p : List Nat) : (m.raiseCond c r p).twin = m.twin := by
  unfold Mod.raiseCond; split <;> simp only [Mod.raise_twin, Mod.showConds_twin]
@[simp] theorem Mod.raiseCond_decs (c r : Nat) (p : List Nat) : (m.raiseCond c r p).decs = m.decs := by
  unfold Mod.raiseCond; split <;> simp only [Mod.raise_decs, Mod.showConds_decs]
@[simp] theorem Mod.raiseCond_rings (c r : Nat) (p : List Nat) : (m.raiseCond c r p).rings = m.rings := by
  unfold Mod.raiseCond; split <;> simp only [Mod.raise_rings, Mod.showConds_rings]
@[simp] theorem Mod.raiseCond_slots (c r : Nat) (p : List Nat) : (m.raiseCond c r p).slots = m.slots := by
  unfold Mod.raiseCond; split <;> simp only [Mod.raise_slots, Mod.showConds_slots]
@[simp] theorem Mod.raiseCond_downCores (c r : Nat) (p : List Nat) : (m.raiseCond c r p).downCores = m.downCores := by
  unfold Mod.raiseCond; split <;> simp only [Mod.raise_downCores, Mod.showConds_downCores]
@[simp] theorem Mod.raiseCond_fab (c r : Nat) (p : List Nat) : (m.raiseCond c r p).fab = m.fab := by
  unfold Mod.raiseCond; split <;> simp only [Mod.raise_fab, Mod.showConds_fab]
@[simp] theorem Mod.raiseCond_servo (c r : Nat) (p : List Nat) : (m.raiseCond c r p).servo = m.servo := by
  unfold Mod.raiseCond; split <;> simp only [Mod.raise_servo, Mod.showConds_servo]
@[simp] theorem Mod.raiseCond_mem (c r : Nat) (p : List Nat) : (m.raiseCond c r p).mem = m.mem := by
  unfold Mod.raiseCond; split <;> simp only [Mod.raise_mem, Mod.showConds_mem]
@[simp] theorem Mod.raiseCond_prt (c r : Nat) (p : List Nat) : (m.raiseCond c r p).prt = m.prt := by
  unfold Mod.raiseCond; split <;> simp only [Mod.raise_prt, Mod.showConds_prt]
@[simp] theorem Mod.raiseCond_clk (c r : Nat) (p : List Nat) : (m.raiseCond c r p).clk = m.clk := by
  unfold Mod.raiseCond; split <;> simp only [Mod.raise_clk, Mod.showConds_clk]
@[simp] theorem Mod.raiseCond_cal (c r : Nat) (p : List Nat) : (m.raiseCond c r p).cal = m.cal := by
  unfold Mod.raiseCond; split <;> simp only [Mod.raise_cal, Mod.showConds_cal]
@[simp] theorem Mod.raiseCond_hw (c r : Nat) (p : List Nat) : (m.raiseCond c r p).hw = m.hw := by
  unfold Mod.raiseCond; split <;> simp only [Mod.raise_hw, Mod.showConds_hw]

@[simp] theorem Mod.raiseAgain_now (c r : Nat) (p : List Nat) : (m.raiseAgain c r p).now = m.now := by
  unfold Mod.raiseAgain; split <;> simp only [Mod.raise_now, Mod.raiseCond_now]
@[simp] theorem Mod.raiseAgain_ctr (c r : Nat) (p : List Nat) : (m.raiseAgain c r p).ctr = m.ctr := by
  unfold Mod.raiseAgain; split <;> simp only [Mod.raise_ctr, Mod.raiseCond_ctr]
@[simp] theorem Mod.raiseAgain_tick (c r : Nat) (p : List Nat) : (m.raiseAgain c r p).tick = m.tick := by
  unfold Mod.raiseAgain; split <;> simp only [Mod.raise_tick, Mod.raiseCond_tick]
@[simp] theorem Mod.raiseAgain_fam (c r : Nat) (p : List Nat) : (m.raiseAgain c r p).fam = m.fam := by
  unfold Mod.raiseAgain; split <;> simp only [Mod.raise_fam, Mod.raiseCond_fam]
@[simp] theorem Mod.raiseAgain_draws (c r : Nat) (p : List Nat) : (m.raiseAgain c r p).draws = m.draws := by
  unfold Mod.raiseAgain; split <;> simp only [Mod.raise_draws, Mod.raiseCond_draws]
@[simp] theorem Mod.raiseAgain_edgeObjs (c r : Nat) (p : List Nat) : (m.raiseAgain c r p).edgeObjs = m.edgeObjs := by
  unfold Mod.raiseAgain; split <;> simp only [Mod.raise_edgeObjs, Mod.raiseCond_edgeObjs]
@[simp] theorem Mod.raiseAgain_out (c r : Nat) (p : List Nat) : (m.raiseAgain c r p).out = m.out := by
  unfold Mod.raiseAgain; split <;> simp only [Mod.raise_out, Mod.raiseCond_out]
@[simp] theorem Mod.raiseAgain_limits (c r : Nat) (p : List Nat) : (m.raiseAgain c r p).limits = m.limits := by
  unfold Mod.raiseAgain; split <;> simp only [Mod.raise_limits, Mod.raiseCond_limits]
@[simp] theorem Mod.raiseAgain_seen (c r : Nat) (p : List Nat) : (m.raiseAgain c r p).seen = m.seen := by
  unfold Mod.raiseAgain; split <;> simp only [Mod.raise_seen, Mod.raiseCond_seen]
@[simp] theorem Mod.raiseAgain_timeFn (c r : Nat) (p : List Nat) : (m.raiseAgain c r p).timeFn = m.timeFn := by
  unfold Mod.raiseAgain; split <;> simp only [Mod.raise_timeFn, Mod.raiseCond_timeFn]
@[simp] theorem Mod.raiseAgain_twinFn (c r : Nat) (p : List Nat) : (m.raiseAgain c r p).twinFn = m.twinFn := by
  unfold Mod.raiseAgain; split <;> simp only [Mod.raise_twinFn, Mod.raiseCond_twinFn]
@[simp] theorem Mod.raiseAgain_rebooting (c r : Nat) (p : List Nat) : (m.raiseAgain c r p).rebooting = m.rebooting := by
  unfold Mod.raiseAgain; split <;> simp only [Mod.raise_rebooting, Mod.raiseCond_rebooting]
@[simp] theorem Mod.raiseAgain_preud (c r : Nat) (p : List Nat) : (m.raiseAgain c r p).preud = m.preud := by
  unfold Mod.raiseAgain; split <;> simp only [Mod.raise_preud, Mod.raiseCond_preud]
@[simp] theorem Mod.raiseAgain_chans (c r : Nat) (p : List Nat) : (m.raiseAgain c r p).chans = m.chans := by
  unfold Mod.raiseAgain; split <;> simp only [Mod.raise_chans, Mod.raiseCond_chans]
@[simp] theorem Mod.raiseAgain_rends (c r : Nat) (p : List Nat) : (m.raiseAgain c r p).rends = m.rends := by
  unfold Mod.raiseAgain; split <;> simp only [Mod.raise_rends, Mod.raiseCond_rends]
@[simp] theorem Mod.raiseAgain_groups (c r : Nat) (p : List Nat) : (m.raiseAgain c r p).groups = m.groups := by
  unfold Mod.raiseAgain; split <;> simp only [Mod.raise_groups, Mod.raiseCond_groups]
@[simp] theorem Mod.raiseAgain_scalers (c r : Nat) (p : List Nat) : (m.raiseAgain c r p).scalers = m.scalers := by
  unfold Mod.raiseAgain; split <;> simp only [Mod.raise_scalers, Mod.raiseCond_scalers]
@[simp] theorem Mod.raiseAgain_lanes (c r : Nat) (p : List Nat) : (m.raiseAgain c r p).lanes = m.lanes := by
  unfold Mod.raiseAgain; split <;> simp only [Mod.raise_lanes, Mod.raiseCond_lanes]
@[simp] theorem Mod.raiseAgain_ladderRows (c r : Nat) (p : List Nat) : (m.raiseAgain c r p).ladderRows = m.ladderRows := by
  unfold Mod.raiseAgain; split <;> simp only [Mod.raise_ladderRows, Mod.raiseCond_ladderRows]
@[simp] theorem Mod.raiseAgain_checks (c r : Nat) (p : List Nat) : (m.raiseAgain c r p).checks = m.checks := by
  unfold Mod.raiseAgain; split <;> simp only [Mod.raise_checks, Mod.raiseCond_checks]
@[simp] theorem Mod.raiseAgain_twin (c r : Nat) (p : List Nat) : (m.raiseAgain c r p).twin = m.twin := by
  unfold Mod.raiseAgain; split <;> simp only [Mod.raise_twin, Mod.raiseCond_twin]
@[simp] theorem Mod.raiseAgain_decs (c r : Nat) (p : List Nat) : (m.raiseAgain c r p).decs = m.decs := by
  unfold Mod.raiseAgain; split <;> simp only [Mod.raise_decs, Mod.raiseCond_decs]
@[simp] theorem Mod.raiseAgain_rings (c r : Nat) (p : List Nat) : (m.raiseAgain c r p).rings = m.rings := by
  unfold Mod.raiseAgain; split <;> simp only [Mod.raise_rings, Mod.raiseCond_rings]
@[simp] theorem Mod.raiseAgain_slots (c r : Nat) (p : List Nat) : (m.raiseAgain c r p).slots = m.slots := by
  unfold Mod.raiseAgain; split <;> simp only [Mod.raise_slots, Mod.raiseCond_slots]
@[simp] theorem Mod.raiseAgain_downCores (c r : Nat) (p : List Nat) : (m.raiseAgain c r p).downCores = m.downCores := by
  unfold Mod.raiseAgain; split <;> simp only [Mod.raise_downCores, Mod.raiseCond_downCores]
@[simp] theorem Mod.raiseAgain_fab (c r : Nat) (p : List Nat) : (m.raiseAgain c r p).fab = m.fab := by
  unfold Mod.raiseAgain; split <;> simp only [Mod.raise_fab, Mod.raiseCond_fab]
@[simp] theorem Mod.raiseAgain_servo (c r : Nat) (p : List Nat) : (m.raiseAgain c r p).servo = m.servo := by
  unfold Mod.raiseAgain; split <;> simp only [Mod.raise_servo, Mod.raiseCond_servo]
@[simp] theorem Mod.raiseAgain_mem (c r : Nat) (p : List Nat) : (m.raiseAgain c r p).mem = m.mem := by
  unfold Mod.raiseAgain; split <;> simp only [Mod.raise_mem, Mod.raiseCond_mem]
@[simp] theorem Mod.raiseAgain_prt (c r : Nat) (p : List Nat) : (m.raiseAgain c r p).prt = m.prt := by
  unfold Mod.raiseAgain; split <;> simp only [Mod.raise_prt, Mod.raiseCond_prt]
@[simp] theorem Mod.raiseAgain_clk (c r : Nat) (p : List Nat) : (m.raiseAgain c r p).clk = m.clk := by
  unfold Mod.raiseAgain; split <;> simp only [Mod.raise_clk, Mod.raiseCond_clk]
@[simp] theorem Mod.raiseAgain_cal (c r : Nat) (p : List Nat) : (m.raiseAgain c r p).cal = m.cal := by
  unfold Mod.raiseAgain; split <;> simp only [Mod.raise_cal, Mod.raiseCond_cal]
@[simp] theorem Mod.raiseAgain_hw (c r : Nat) (p : List Nat) : (m.raiseAgain c r p).hw = m.hw := by
  unfold Mod.raiseAgain; split <;> simp only [Mod.raise_hw, Mod.raiseCond_hw]

@[simp] theorem Mod.raiseClearIf_now (c r : Nat) (g : Condition → Bool) (p : List Nat) : (m.raiseClearIf c r g p).now = m.now := by
  unfold Mod.raiseClearIf; dsimp only; split <;> simp only [Mod.raiseRaw_now, Mod.showConds_now]
@[simp] theorem Mod.raiseClearIf_ctr (c r : Nat) (g : Condition → Bool) (p : List Nat) : (m.raiseClearIf c r g p).ctr = m.ctr := by
  unfold Mod.raiseClearIf; dsimp only; split <;> simp only [Mod.raiseRaw_ctr, Mod.showConds_ctr]
@[simp] theorem Mod.raiseClearIf_tick (c r : Nat) (g : Condition → Bool) (p : List Nat) : (m.raiseClearIf c r g p).tick = m.tick := by
  unfold Mod.raiseClearIf; dsimp only; split <;> simp only [Mod.raiseRaw_tick, Mod.showConds_tick]
@[simp] theorem Mod.raiseClearIf_fam (c r : Nat) (g : Condition → Bool) (p : List Nat) : (m.raiseClearIf c r g p).fam = m.fam := by
  unfold Mod.raiseClearIf; dsimp only; split <;> simp only [Mod.raiseRaw_fam, Mod.showConds_fam]
@[simp] theorem Mod.raiseClearIf_draws (c r : Nat) (g : Condition → Bool) (p : List Nat) : (m.raiseClearIf c r g p).draws = m.draws := by
  unfold Mod.raiseClearIf; dsimp only; split <;> simp only [Mod.raiseRaw_draws, Mod.showConds_draws]
@[simp] theorem Mod.raiseClearIf_edgeObjs (c r : Nat) (g : Condition → Bool) (p : List Nat) : (m.raiseClearIf c r g p).edgeObjs = m.edgeObjs := by
  unfold Mod.raiseClearIf; dsimp only; split <;> simp only [Mod.raiseRaw_edgeObjs, Mod.showConds_edgeObjs]
@[simp] theorem Mod.raiseClearIf_out (c r : Nat) (g : Condition → Bool) (p : List Nat) : (m.raiseClearIf c r g p).out = m.out := by
  unfold Mod.raiseClearIf; dsimp only; split <;> simp only [Mod.raiseRaw_out, Mod.showConds_out]
@[simp] theorem Mod.raiseClearIf_limits (c r : Nat) (g : Condition → Bool) (p : List Nat) : (m.raiseClearIf c r g p).limits = m.limits := by
  unfold Mod.raiseClearIf; dsimp only; split <;> simp only [Mod.raiseRaw_limits, Mod.showConds_limits]
@[simp] theorem Mod.raiseClearIf_seen (c r : Nat) (g : Condition → Bool) (p : List Nat) : (m.raiseClearIf c r g p).seen = m.seen := by
  unfold Mod.raiseClearIf; dsimp only; split <;> simp only [Mod.raiseRaw_seen, Mod.showConds_seen]
@[simp] theorem Mod.raiseClearIf_timeFn (c r : Nat) (g : Condition → Bool) (p : List Nat) : (m.raiseClearIf c r g p).timeFn = m.timeFn := by
  unfold Mod.raiseClearIf; dsimp only; split <;> simp only [Mod.raiseRaw_timeFn, Mod.showConds_timeFn]
@[simp] theorem Mod.raiseClearIf_twinFn (c r : Nat) (g : Condition → Bool) (p : List Nat) : (m.raiseClearIf c r g p).twinFn = m.twinFn := by
  unfold Mod.raiseClearIf; dsimp only; split <;> simp only [Mod.raiseRaw_twinFn, Mod.showConds_twinFn]
@[simp] theorem Mod.raiseClearIf_rebooting (c r : Nat) (g : Condition → Bool) (p : List Nat) : (m.raiseClearIf c r g p).rebooting = m.rebooting := by
  unfold Mod.raiseClearIf; dsimp only; split <;> simp only [Mod.raiseRaw_rebooting, Mod.showConds_rebooting]
@[simp] theorem Mod.raiseClearIf_preud (c r : Nat) (g : Condition → Bool) (p : List Nat) : (m.raiseClearIf c r g p).preud = m.preud := by
  unfold Mod.raiseClearIf; dsimp only; split <;> simp only [Mod.raiseRaw_preud, Mod.showConds_preud]
@[simp] theorem Mod.raiseClearIf_chans (c r : Nat) (g : Condition → Bool) (p : List Nat) : (m.raiseClearIf c r g p).chans = m.chans := by
  unfold Mod.raiseClearIf; dsimp only; split <;> simp only [Mod.raiseRaw_chans, Mod.showConds_chans]
@[simp] theorem Mod.raiseClearIf_rends (c r : Nat) (g : Condition → Bool) (p : List Nat) : (m.raiseClearIf c r g p).rends = m.rends := by
  unfold Mod.raiseClearIf; dsimp only; split <;> simp only [Mod.raiseRaw_rends, Mod.showConds_rends]
@[simp] theorem Mod.raiseClearIf_groups (c r : Nat) (g : Condition → Bool) (p : List Nat) : (m.raiseClearIf c r g p).groups = m.groups := by
  unfold Mod.raiseClearIf; dsimp only; split <;> simp only [Mod.raiseRaw_groups, Mod.showConds_groups]
@[simp] theorem Mod.raiseClearIf_scalers (c r : Nat) (g : Condition → Bool) (p : List Nat) : (m.raiseClearIf c r g p).scalers = m.scalers := by
  unfold Mod.raiseClearIf; dsimp only; split <;> simp only [Mod.raiseRaw_scalers, Mod.showConds_scalers]
@[simp] theorem Mod.raiseClearIf_lanes (c r : Nat) (g : Condition → Bool) (p : List Nat) : (m.raiseClearIf c r g p).lanes = m.lanes := by
  unfold Mod.raiseClearIf; dsimp only; split <;> simp only [Mod.raiseRaw_lanes, Mod.showConds_lanes]
@[simp] theorem Mod.raiseClearIf_ladderRows (c r : Nat) (g : Condition → Bool) (p : List Nat) : (m.raiseClearIf c r g p).ladderRows = m.ladderRows := by
  unfold Mod.raiseClearIf; dsimp only; split <;> simp only [Mod.raiseRaw_ladderRows, Mod.showConds_ladderRows]
@[simp] theorem Mod.raiseClearIf_checks (c r : Nat) (g : Condition → Bool) (p : List Nat) : (m.raiseClearIf c r g p).checks = m.checks := by
  unfold Mod.raiseClearIf; dsimp only; split <;> simp only [Mod.raiseRaw_checks, Mod.showConds_checks]
@[simp] theorem Mod.raiseClearIf_twin (c r : Nat) (g : Condition → Bool) (p : List Nat) : (m.raiseClearIf c r g p).twin = m.twin := by
  unfold Mod.raiseClearIf; dsimp only; split <;> simp only [Mod.raiseRaw_twin, Mod.showConds_twin]
@[simp] theorem Mod.raiseClearIf_decs (c r : Nat) (g : Condition → Bool) (p : List Nat) : (m.raiseClearIf c r g p).decs = m.decs := by
  unfold Mod.raiseClearIf; dsimp only; split <;> simp only [Mod.raiseRaw_decs, Mod.showConds_decs]
@[simp] theorem Mod.raiseClearIf_rings (c r : Nat) (g : Condition → Bool) (p : List Nat) : (m.raiseClearIf c r g p).rings = m.rings := by
  unfold Mod.raiseClearIf; dsimp only; split <;> simp only [Mod.raiseRaw_rings, Mod.showConds_rings]
@[simp] theorem Mod.raiseClearIf_slots (c r : Nat) (g : Condition → Bool) (p : List Nat) : (m.raiseClearIf c r g p).slots = m.slots := by
  unfold Mod.raiseClearIf; dsimp only; split <;> simp only [Mod.raiseRaw_slots, Mod.showConds_slots]
@[simp] theorem Mod.raiseClearIf_downCores (c r : Nat) (g : Condition → Bool) (p : List Nat) : (m.raiseClearIf c r g p).downCores = m.downCores := by
  unfold Mod.raiseClearIf; dsimp only; split <;> simp only [Mod.raiseRaw_downCores, Mod.showConds_downCores]
@[simp] theorem Mod.raiseClearIf_fab (c r : Nat) (g : Condition → Bool) (p : List Nat) : (m.raiseClearIf c r g p).fab = m.fab := by
  unfold Mod.raiseClearIf; dsimp only; split <;> simp only [Mod.raiseRaw_fab, Mod.showConds_fab]
@[simp] theorem Mod.raiseClearIf_servo (c r : Nat) (g : Condition → Bool) (p : List Nat) : (m.raiseClearIf c r g p).servo = m.servo := by
  unfold Mod.raiseClearIf; dsimp only; split <;> simp only [Mod.raiseRaw_servo, Mod.showConds_servo]
@[simp] theorem Mod.raiseClearIf_mem (c r : Nat) (g : Condition → Bool) (p : List Nat) : (m.raiseClearIf c r g p).mem = m.mem := by
  unfold Mod.raiseClearIf; dsimp only; split <;> simp only [Mod.raiseRaw_mem, Mod.showConds_mem]
@[simp] theorem Mod.raiseClearIf_prt (c r : Nat) (g : Condition → Bool) (p : List Nat) : (m.raiseClearIf c r g p).prt = m.prt := by
  unfold Mod.raiseClearIf; dsimp only; split <;> simp only [Mod.raiseRaw_prt, Mod.showConds_prt]
@[simp] theorem Mod.raiseClearIf_clk (c r : Nat) (g : Condition → Bool) (p : List Nat) : (m.raiseClearIf c r g p).clk = m.clk := by
  unfold Mod.raiseClearIf; dsimp only; split <;> simp only [Mod.raiseRaw_clk, Mod.showConds_clk]
@[simp] theorem Mod.raiseClearIf_cal (c r : Nat) (g : Condition → Bool) (p : List Nat) : (m.raiseClearIf c r g p).cal = m.cal := by
  unfold Mod.raiseClearIf; dsimp only; split <;> simp only [Mod.raiseRaw_cal, Mod.showConds_cal]
@[simp] theorem Mod.raiseClearIf_hw (c r : Nat) (g : Condition → Bool) (p : List Nat) : (m.raiseClearIf c r g p).hw = m.hw := by
  unfold Mod.raiseClearIf; dsimp only; split <;> simp only [Mod.raiseRaw_hw, Mod.showConds_hw]

@[simp] theorem Mod.raiseClear_now (c r : Nat) (l p : List Nat) : (m.raiseClear c r l p).now = m.now := by
  simp only [Mod.raiseClear, Mod.raiseClearIf_now]
@[simp] theorem Mod.raiseClear_ctr (c r : Nat) (l p : List Nat) : (m.raiseClear c r l p).ctr = m.ctr := by
  simp only [Mod.raiseClear, Mod.raiseClearIf_ctr]
@[simp] theorem Mod.raiseClear_tick (c r : Nat) (l p : List Nat) : (m.raiseClear c r l p).tick = m.tick := by
  simp only [Mod.raiseClear, Mod.raiseClearIf_tick]
@[simp] theorem Mod.raiseClear_fam (c r : Nat) (l p : List Nat) : (m.raiseClear c r l p).fam = m.fam := by
  simp only [Mod.raiseClear, Mod.raiseClearIf_fam]
@[simp] theorem Mod.raiseClear_draws (c r : Nat) (l p : List Nat) : (m.raiseClear c r l p).draws = m.draws := by
  simp only [Mod.raiseClear, Mod.raiseClearIf_draws]
@[simp] theorem Mod.raiseClear_edgeObjs (c r : Nat) (l p : List Nat) : (m.raiseClear c r l p).edgeObjs = m.edgeObjs := by
  simp only [Mod.raiseClear, Mod.raiseClearIf_edgeObjs]
@[simp] theorem Mod.raiseClear_out (c r : Nat) (l p : List Nat) : (m.raiseClear c r l p).out = m.out := by
  simp only [Mod.raiseClear, Mod.raiseClearIf_out]
@[simp] theorem Mod.raiseClear_limits (c r : Nat) (l p : List Nat) : (m.raiseClear c r l p).limits = m.limits := by
  simp only [Mod.raiseClear, Mod.raiseClearIf_limits]
@[simp] theorem Mod.raiseClear_seen (c r : Nat) (l p : List Nat) : (m.raiseClear c r l p).seen = m.seen := by
  simp only [Mod.raiseClear, Mod.raiseClearIf_seen]
@[simp] theorem Mod.raiseClear_timeFn (c r : Nat) (l p : List Nat) : (m.raiseClear c r l p).timeFn = m.timeFn := by
  simp only [Mod.raiseClear, Mod.raiseClearIf_timeFn]
@[simp] theorem Mod.raiseClear_twinFn (c r : Nat) (l p : List Nat) : (m.raiseClear c r l p).twinFn = m.twinFn := by
  simp only [Mod.raiseClear, Mod.raiseClearIf_twinFn]
@[simp] theorem Mod.raiseClear_rebooting (c r : Nat) (l p : List Nat) : (m.raiseClear c r l p).rebooting = m.rebooting := by
  simp only [Mod.raiseClear, Mod.raiseClearIf_rebooting]
@[simp] theorem Mod.raiseClear_preud (c r : Nat) (l p : List Nat) : (m.raiseClear c r l p).preud = m.preud := by
  simp only [Mod.raiseClear, Mod.raiseClearIf_preud]
@[simp] theorem Mod.raiseClear_chans (c r : Nat) (l p : List Nat) : (m.raiseClear c r l p).chans = m.chans := by
  simp only [Mod.raiseClear, Mod.raiseClearIf_chans]
@[simp] theorem Mod.raiseClear_rends (c r : Nat) (l p : List Nat) : (m.raiseClear c r l p).rends = m.rends := by
  simp only [Mod.raiseClear, Mod.raiseClearIf_rends]
@[simp] theorem Mod.raiseClear_groups (c r : Nat) (l p : List Nat) : (m.raiseClear c r l p).groups = m.groups := by
  simp only [Mod.raiseClear, Mod.raiseClearIf_groups]
@[simp] theorem Mod.raiseClear_scalers (c r : Nat) (l p : List Nat) : (m.raiseClear c r l p).scalers = m.scalers := by
  simp only [Mod.raiseClear, Mod.raiseClearIf_scalers]
@[simp] theorem Mod.raiseClear_lanes (c r : Nat) (l p : List Nat) : (m.raiseClear c r l p).lanes = m.lanes := by
  simp only [Mod.raiseClear, Mod.raiseClearIf_lanes]
@[simp] theorem Mod.raiseClear_ladderRows (c r : Nat) (l p : List Nat) : (m.raiseClear c r l p).ladderRows = m.ladderRows := by
  simp only [Mod.raiseClear, Mod.raiseClearIf_ladderRows]
@[simp] theorem Mod.raiseClear_checks (c r : Nat) (l p : List Nat) : (m.raiseClear c r l p).checks = m.checks := by
  simp only [Mod.raiseClear, Mod.raiseClearIf_checks]
@[simp] theorem Mod.raiseClear_twin (c r : Nat) (l p : List Nat) : (m.raiseClear c r l p).twin = m.twin := by
  simp only [Mod.raiseClear, Mod.raiseClearIf_twin]
@[simp] theorem Mod.raiseClear_decs (c r : Nat) (l p : List Nat) : (m.raiseClear c r l p).decs = m.decs := by
  simp only [Mod.raiseClear, Mod.raiseClearIf_decs]
@[simp] theorem Mod.raiseClear_rings (c r : Nat) (l p : List Nat) : (m.raiseClear c r l p).rings = m.rings := by
  simp only [Mod.raiseClear, Mod.raiseClearIf_rings]
@[simp] theorem Mod.raiseClear_slots (c r : Nat) (l p : List Nat) : (m.raiseClear c r l p).slots = m.slots := by
  simp only [Mod.raiseClear, Mod.raiseClearIf_slots]
@[simp] theorem Mod.raiseClear_downCores (c r : Nat) (l p : List Nat) : (m.raiseClear c r l p).downCores = m.downCores := by
  simp only [Mod.raiseClear, Mod.raiseClearIf_downCores]
@[simp] theorem Mod.raiseClear_fab (c r : Nat) (l p : List Nat) : (m.raiseClear c r l p).fab = m.fab := by
  simp only [Mod.raiseClear, Mod.raiseClearIf_fab]
@[simp] theorem Mod.raiseClear_servo (c r : Nat) (l p : List Nat) : (m.raiseClear c r l p).servo = m.servo := by
  simp only [Mod.raiseClear, Mod.raiseClearIf_servo]
@[simp] theorem Mod.raiseClear_mem (c r : Nat) (l p : List Nat) : (m.raiseClear c r l p).mem = m.mem := by
  simp only [Mod.raiseClear, Mod.raiseClearIf_mem]
@[simp] theorem Mod.raiseClear_prt (c r : Nat) (l p : List Nat) : (m.raiseClear c r l p).prt = m.prt := by
  simp only [Mod.raiseClear, Mod.raiseClearIf_prt]
@[simp] theorem Mod.raiseClear_clk (c r : Nat) (l p : List Nat) : (m.raiseClear c r l p).clk = m.clk := by
  simp only [Mod.raiseClear, Mod.raiseClearIf_clk]
@[simp] theorem Mod.raiseClear_cal (c r : Nat) (l p : List Nat) : (m.raiseClear c r l p).cal = m.cal := by
  simp only [Mod.raiseClear, Mod.raiseClearIf_cal]
@[simp] theorem Mod.raiseClear_hw (c r : Nat) (l p : List Nat) : (m.raiseClear c r l p).hw = m.hw := by
  simp only [Mod.raiseClear, Mod.raiseClearIf_hw]

@[simp] theorem Mod.raiseLimitedBy_now (c r k : Nat) (d : Nanos) (p : List Nat) : (m.raiseLimitedBy c r d k p).now = m.now := by
  unfold Mod.raiseLimitedBy; split <;> (try split) <;> simp only [Mod.raise_now, Mod.bump_now]
@[simp] theorem Mod.raiseLimitedBy_ctr (c r k : Nat) (d : Nanos) (p : List Nat) : (m.raiseLimitedBy c r d k p).ctr = m.ctr := by
  unfold Mod.raiseLimitedBy; split <;> (try split) <;> simp only [Mod.raise_ctr, Mod.bump_ctr]
@[simp] theorem Mod.raiseLimitedBy_tick (c r k : Nat) (d : Nanos) (p : List Nat) : (m.raiseLimitedBy c r d k p).tick = m.tick := by
  unfold Mod.raiseLimitedBy; split <;> (try split) <;> simp only [Mod.raise_tick, Mod.bump_tick]
@[simp] theorem Mod.raiseLimitedBy_fam (c r k : Nat) (d : Nanos) (p : List Nat) : (m.raiseLimitedBy c r d k p).fam = m.fam := by
  unfold Mod.raiseLimitedBy; split <;> (try split) <;> simp only [Mod.raise_fam, Mod.bump_fam]
@[simp] theorem Mod.raiseLimitedBy_draws (c r k : Nat) (d : Nanos) (p : List Nat) : (m.raiseLimitedBy c r d k p).draws = m.draws := by
  unfold Mod.raiseLimitedBy; split <;> (try split) <;> simp only [Mod.raise_draws, Mod.bump_draws]
@[simp] theorem Mod.raiseLimitedBy_edgeObjs (c r k : Nat) (d : Nanos) (p : List Nat) : (m.raiseLimitedBy c r d k p).edgeObjs = m.edgeObjs := by
  unfold Mod.raiseLimitedBy; split <;> (try split) <;> simp only [Mod.raise_edgeObjs, Mod.bump_edgeObjs]
@[simp] theorem Mod.raiseLimitedBy_out (c r k : Nat) (d : Nanos) (p : List Nat) : (m.raiseLimitedBy c r d k p).out = m.out := by
  unfold Mod.raiseLimitedBy; split <;> (try split) <;> simp only [Mod.raise_out, Mod.bump_out]
@[simp] theorem Mod.raiseLimitedBy_conds (c r k : Nat) (d : Nanos) (p : List Nat) : (m.raiseLimitedBy c r d k p).conds = m.conds := by
  unfold Mod.raiseLimitedBy; split <;> (try split) <;> simp only [Mod.raise_conds, Mod.bump_conds]
@[simp] theorem Mod.raiseLimitedBy_seen (c r k : Nat) (d : Nanos) (p : List Nat) : (m.raiseLimitedBy c r d k p).seen = m.seen := by
  unfold Mod.raiseLimitedBy; split <;> (try split) <;> simp only [Mod.raise_seen, Mod.bump_seen]
@[simp] theorem Mod.raiseLimitedBy_timeFn (c r k : Nat) (d : Nanos) (p : List Nat) : (m.raiseLimitedBy c r d k p).timeFn = m.timeFn := by
  unfold Mod.raiseLimitedBy; split <;> (try split) <;> simp only [Mod.raise_timeFn, Mod.bump_timeFn]
@[simp] theorem Mod.raiseLimitedBy_twinFn (c r k : Nat) (d : Nanos) (p : List Nat) : (m.raiseLimitedBy c r d k p).twinFn = m.twinFn := by
  unfold Mod.raiseLimitedBy; split <;> (try split) <;> simp only [Mod.raise_twinFn, Mod.bump_twinFn]
@[simp] theorem Mod.raiseLimitedBy_rebooting (c r k : Nat) (d : Nanos) (p : List Nat) : (m.raiseLimitedBy c r d k p).rebooting = m.rebooting := by
  unfold Mod.raiseLimitedBy; split <;> (try split) <;> simp only [Mod.raise_rebooting, Mod.bump_rebooting]
@[simp] theorem Mod.raiseLimitedBy_preud (c r k : Nat) (d : Nanos) (p : List Nat) : (m.raiseLimitedBy c r d k p).preud = m.preud := by
  unfold Mod.raiseLimitedBy; split <;> (try split) <;> simp only [Mod.raise_preud, Mod.bump_preud]
@[simp] theorem Mod.raiseLimitedBy_chans (c r k : Nat) (d : Nanos) (p : List Nat) : (m.raiseLimitedBy c r d k p).chans = m.chans := by
  unfold Mod.raiseLimitedBy; split <;> (try split) <;> simp only [Mod.raise_chans, Mod.bump_chans]
@[simp] theorem Mod.raiseLimitedBy_rends (c r k : Nat) (d : Nanos) (p : List Nat) : (m.raiseLimitedBy c r d k p).rends = m.rends := by
  unfold Mod.raiseLimitedBy; split <;> (try split) <;> simp only [Mod.raise_rends, Mod.bump_rends]
@[simp] theorem Mod.raiseLimitedBy_groups (c r k : Nat) (d : Nanos) (p : List Nat) : (m.raiseLimitedBy c r d k p).groups = m.groups := by
  unfold Mod.raiseLimitedBy; split <;> (try split) <;> simp only [Mod.raise_groups, Mod.bump_groups]
@[simp] theorem Mod.raiseLimitedBy_scalers (c r k : Nat) (d : Nanos) (p : List Nat) : (m.raiseLimitedBy c r d k p).scalers = m.scalers := by
  unfold Mod.raiseLimitedBy; split <;> (try split) <;> simp only [Mod.raise_scalers, Mod.bump_scalers]
@[simp] theorem Mod.raiseLimitedBy_lanes (c r k : Nat) (d : Nanos) (p : List Nat) : (m.raiseLimitedBy c r d k p).lanes = m.lanes := by
  unfold Mod.raiseLimitedBy; split <;> (try split) <;> simp only [Mod.raise_lanes, Mod.bump_lanes]
@[simp] theorem Mod.raiseLimitedBy_ladderRows (c r k : Nat) (d : Nanos) (p : List Nat) : (m.raiseLimitedBy c r d k p).ladderRows = m.ladderRows := by
  unfold Mod.raiseLimitedBy; split <;> (try split) <;> simp only [Mod.raise_ladderRows, Mod.bump_ladderRows]
@[simp] theorem Mod.raiseLimitedBy_checks (c r k : Nat) (d : Nanos) (p : List Nat) : (m.raiseLimitedBy c r d k p).checks = m.checks := by
  unfold Mod.raiseLimitedBy; split <;> (try split) <;> simp only [Mod.raise_checks, Mod.bump_checks]
@[simp] theorem Mod.raiseLimitedBy_twin (c r k : Nat) (d : Nanos) (p : List Nat) : (m.raiseLimitedBy c r d k p).twin = m.twin := by
  unfold Mod.raiseLimitedBy; split <;> (try split) <;> simp only [Mod.raise_twin, Mod.bump_twin]
@[simp] theorem Mod.raiseLimitedBy_decs (c r k : Nat) (d : Nanos) (p : List Nat) : (m.raiseLimitedBy c r d k p).decs = m.decs := by
  unfold Mod.raiseLimitedBy; split <;> (try split) <;> simp only [Mod.raise_decs, Mod.bump_decs]
@[simp] theorem Mod.raiseLimitedBy_rings (c r k : Nat) (d : Nanos) (p : List Nat) : (m.raiseLimitedBy c r d k p).rings = m.rings := by
  unfold Mod.raiseLimitedBy; split <;> (try split) <;> simp only [Mod.raise_rings, Mod.bump_rings]
@[simp] theorem Mod.raiseLimitedBy_slots (c r k : Nat) (d : Nanos) (p : List Nat) : (m.raiseLimitedBy c r d k p).slots = m.slots := by
  unfold Mod.raiseLimitedBy; split <;> (try split) <;> simp only [Mod.raise_slots, Mod.bump_slots]
@[simp] theorem Mod.raiseLimitedBy_downCores (c r k : Nat) (d : Nanos) (p : List Nat) : (m.raiseLimitedBy c r d k p).downCores = m.downCores := by
  unfold Mod.raiseLimitedBy; split <;> (try split) <;> simp only [Mod.raise_downCores, Mod.bump_downCores]
@[simp] theorem Mod.raiseLimitedBy_fab (c r k : Nat) (d : Nanos) (p : List Nat) : (m.raiseLimitedBy c r d k p).fab = m.fab := by
  unfold Mod.raiseLimitedBy; split <;> (try split) <;> simp only [Mod.raise_fab, Mod.bump_fab]
@[simp] theorem Mod.raiseLimitedBy_servo (c r k : Nat) (d : Nanos) (p : List Nat) : (m.raiseLimitedBy c r d k p).servo = m.servo := by
  unfold Mod.raiseLimitedBy; split <;> (try split) <;> simp only [Mod.raise_servo, Mod.bump_servo]
@[simp] theorem Mod.raiseLimitedBy_mem (c r k : Nat) (d : Nanos) (p : List Nat) : (m.raiseLimitedBy c r d k p).mem = m.mem := by
  unfold Mod.raiseLimitedBy; split <;> (try split) <;> simp only [Mod.raise_mem, Mod.bump_mem]
@[simp] theorem Mod.raiseLimitedBy_prt (c r k : Nat) (d : Nanos) (p : List Nat) : (m.raiseLimitedBy c r d k p).prt = m.prt := by
  unfold Mod.raiseLimitedBy; split <;> (try split) <;> simp only [Mod.raise_prt, Mod.bump_prt]
@[simp] theorem Mod.raiseLimitedBy_clk (c r k : Nat) (d : Nanos) (p : List Nat) : (m.raiseLimitedBy c r d k p).clk = m.clk := by
  unfold Mod.raiseLimitedBy; split <;> (try split) <;> simp only [Mod.raise_clk, Mod.bump_clk]
@[simp] theorem Mod.raiseLimitedBy_cal (c r k : Nat) (d : Nanos) (p : List Nat) : (m.raiseLimitedBy c r d k p).cal = m.cal := by
  unfold Mod.raiseLimitedBy; split <;> (try split) <;> simp only [Mod.raise_cal, Mod.bump_cal]
@[simp] theorem Mod.raiseLimitedBy_hw (c r k : Nat) (d : Nanos) (p : List Nat) : (m.raiseLimitedBy c r d k p).hw = m.hw := by
  unfold Mod.raiseLimitedBy; split <;> (try split) <;> simp only [Mod.raise_hw, Mod.bump_hw]

@[simp] theorem Mod.raiseLimited_now (c r : Nat) (d : Nanos) (p : List Nat) : (m.raiseLimited c r d p).now = m.now := by
  simp only [Mod.raiseLimited, Mod.raiseLimitedBy_now]
@[simp] theorem Mod.raiseLimited_ctr (c r : Nat) (d : Nanos) (p : List Nat) : (m.raiseLimited c r d p).ctr = m.ctr := by
  simp only [Mod.raiseLimited, Mod.raiseLimitedBy_ctr]
@[simp] theorem Mod.raiseLimited_tick (c r : Nat) (d : Nanos) (p : List Nat) : (m.raiseLimited c r d p).tick = m.tick := by
  simp only [Mod.raiseLimited, Mod.raiseLimitedBy_tick]
@[simp] theorem Mod.raiseLimited_fam (c r : Nat) (d : Nanos) (p : List Nat) : (m.raiseLimited c r d p).fam = m.fam := by
  simp only [Mod.raiseLimited, Mod.raiseLimitedBy_fam]
@[simp] theorem Mod.raiseLimited_draws (c r : Nat) (d : Nanos) (p : List Nat) : (m.raiseLimited c r d p).draws = m.draws := by
  simp only [Mod.raiseLimited, Mod.raiseLimitedBy_draws]
@[simp] theorem Mod.raiseLimited_edgeObjs (c r : Nat) (d : Nanos) (p : List Nat) : (m.raiseLimited c r d p).edgeObjs = m.edgeObjs := by
  simp only [Mod.raiseLimited, Mod.raiseLimitedBy_edgeObjs]
@[simp] theorem Mod.raiseLimited_out (c r : Nat) (d : Nanos) (p : List Nat) : (m.raiseLimited c r d p).out = m.out := by
  simp only [Mod.raiseLimited, Mod.raiseLimitedBy_out]
@[simp] theorem Mod.raiseLimited_conds (c r : Nat) (d : Nanos) (p : List Nat) : (m.raiseLimited c r d p).conds = m.conds := by
  simp only [Mod.raiseLimited, Mod.raiseLimitedBy_conds]
@[simp] theorem Mod.raiseLimited_seen (c r : Nat) (d : Nanos) (p : List Nat) : (m.raiseLimited c r d p).seen = m.seen := by
  simp only [Mod.raiseLimited, Mod.raiseLimitedBy_seen]
@[simp] theorem Mod.raiseLimited_timeFn (c r : Nat) (d : Nanos) (p : List Nat) : (m.raiseLimited c r d p).timeFn = m.timeFn := by
  simp only [Mod.raiseLimited, Mod.raiseLimitedBy_timeFn]
@[simp] theorem Mod.raiseLimited_twinFn (c r : Nat) (d : Nanos) (p : List Nat) : (m.raiseLimited c r d p).twinFn = m.twinFn := by
  simp only [Mod.raiseLimited, Mod.raiseLimitedBy_twinFn]
@[simp] theorem Mod.raiseLimited_rebooting (c r : Nat) (d : Nanos) (p : List Nat) : (m.raiseLimited c r d p).rebooting = m.rebooting := by
  simp only [Mod.raiseLimited, Mod.raiseLimitedBy_rebooting]
@[simp] theorem Mod.raiseLimited_preud (c r : Nat) (d : Nanos) (p : List Nat) : (m.raiseLimited c r d p).preud = m.preud := by
  simp only [Mod.raiseLimited, Mod.raiseLimitedBy_preud]
@[simp] theorem Mod.raiseLimited_chans (c r : Nat) (d : Nanos) (p : List Nat) : (m.raiseLimited c r d p).chans = m.chans := by
  simp only [Mod.raiseLimited, Mod.raiseLimitedBy_chans]
@[simp] theorem Mod.raiseLimited_rends (c r : Nat) (d : Nanos) (p : List Nat) : (m.raiseLimited c r d p).rends = m.rends := by
  simp only [Mod.raiseLimited, Mod.raiseLimitedBy_rends]
@[simp] theorem Mod.raiseLimited_groups (c r : Nat) (d : Nanos) (p : List Nat) : (m.raiseLimited c r d p).groups = m.groups := by
  simp only [Mod.raiseLimited, Mod.raiseLimitedBy_groups]
@[simp] theorem Mod.raiseLimited_scalers (c r : Nat) (d : Nanos) (p : List Nat) : (m.raiseLimited c r d p).scalers = m.scalers := by
  simp only [Mod.raiseLimited, Mod.raiseLimitedBy_scalers]
@[simp] theorem Mod.raiseLimited_lanes (c r : Nat) (d : Nanos) (p : List Nat) : (m.raiseLimited c r d p).lanes = m.lanes := by
  simp only [Mod.raiseLimited, Mod.raiseLimitedBy_lanes]
@[simp] theorem Mod.raiseLimited_ladderRows (c r : Nat) (d : Nanos) (p : List Nat) : (m.raiseLimited c r d p).ladderRows = m.ladderRows := by
  simp only [Mod.raiseLimited, Mod.raiseLimitedBy_ladderRows]
@[simp] theorem Mod.raiseLimited_checks (c r : Nat) (d : Nanos) (p : List Nat) : (m.raiseLimited c r d p).checks = m.checks := by
  simp only [Mod.raiseLimited, Mod.raiseLimitedBy_checks]
@[simp] theorem Mod.raiseLimited_twin (c r : Nat) (d : Nanos) (p : List Nat) : (m.raiseLimited c r d p).twin = m.twin := by
  simp only [Mod.raiseLimited, Mod.raiseLimitedBy_twin]
@[simp] theorem Mod.raiseLimited_decs (c r : Nat) (d : Nanos) (p : List Nat) : (m.raiseLimited c r d p).decs = m.decs := by
  simp only [Mod.raiseLimited, Mod.raiseLimitedBy_decs]
@[simp] theorem Mod.raiseLimited_rings (c r : Nat) (d : Nanos) (p : List Nat) : (m.raiseLimited c r d p).rings = m.rings := by
  simp only [Mod.raiseLimited, Mod.raiseLimitedBy_rings]
@[simp] theorem Mod.raiseLimited_slots (c r : Nat) (d : Nanos) (p : List Nat) : (m.raiseLimited c r d p).slots = m.slots := by
  simp only [Mod.raiseLimited, Mod.raiseLimitedBy_slots]
@[simp] theorem Mod.raiseLimited_downCores (c r : Nat) (d : Nanos) (p : List Nat) : (m.raiseLimited c r d p).downCores = m.downCores := by
  simp only [Mod.raiseLimited, Mod.raiseLimitedBy_downCores]
@[simp] theorem Mod.raiseLimited_fab (c r : Nat) (d : Nanos) (p : List Nat) : (m.raiseLimited c r d p).fab = m.fab := by
  simp only [Mod.raiseLimited, Mod.raiseLimitedBy_fab]
@[simp] theorem Mod.raiseLimited_servo (c r : Nat) (d : Nanos) (p : List Nat) : (m.raiseLimited c r d p).servo = m.servo := by
  simp only [Mod.raiseLimited, Mod.raiseLimitedBy_servo]
@[simp] theorem Mod.raiseLimited_mem (c r : Nat) (d : Nanos) (p : List Nat) : (m.raiseLimited c r d p).mem = m.mem := by
  simp only [Mod.raiseLimited, Mod.raiseLimitedBy_mem]
@[simp] theorem Mod.raiseLimited_prt (c r : Nat) (d : Nanos) (p : List Nat) : (m.raiseLimited c r d p).prt = m.prt := by
  simp only [Mod.raiseLimited, Mod.raiseLimitedBy_prt]
@[simp] theorem Mod.raiseLimited_clk (c r : Nat) (d : Nanos) (p : List Nat) : (m.raiseLimited c r d p).clk = m.clk := by
  simp only [Mod.raiseLimited, Mod.raiseLimitedBy_clk]
@[simp] theorem Mod.raiseLimited_cal (c r : Nat) (d : Nanos) (p : List Nat) : (m.raiseLimited c r d p).cal = m.cal := by
  simp only [Mod.raiseLimited, Mod.raiseLimitedBy_cal]
@[simp] theorem Mod.raiseLimited_hw (c r : Nat) (d : Nanos) (p : List Nat) : (m.raiseLimited c r d p).hw = m.hw := by
  simp only [Mod.raiseLimited, Mod.raiseLimitedBy_hw]

@[simp] theorem Mod.modChan_now (n : Nat) (f : ChanS → ChanS) : (m.modChan n f).now = m.now := rfl
@[simp] theorem Mod.modChan_ctr (n : Nat) (f : ChanS → ChanS) : (m.modChan n f).ctr = m.ctr := rfl
@[simp] theorem Mod.modChan_tick (n : Nat) (f : ChanS → ChanS) : (m.modChan n f).tick = m.tick := rfl
@[simp] theorem Mod.modChan_fam (n : Nat) (f : ChanS → ChanS) : (m.modChan n f).fam = m.fam := rfl
@[simp] theorem Mod.modChan_draws (n : Nat) (f : ChanS → ChanS) : (m.modChan n f).draws = m.draws := rfl
@[simp] theorem Mod.modChan_objs (n : Nat) (f : ChanS → ChanS) : (m.modChan n f).objs = m.objs := rfl
@[simp] theorem Mod.modChan_edgeObjs (n : Nat) (f : ChanS → ChanS) : (m.modChan n f).edgeObjs = m.edgeObjs := rfl
@[simp] theorem Mod.modChan_out (n : Nat) (f : ChanS → ChanS) : (m.modChan n f).out = m.out := rfl
@[simp] theorem Mod.modChan_raised (n : Nat) (f : ChanS → ChanS) : (m.modChan n f).raised = m.raised := rfl
@[simp] theorem Mod.modChan_conds (n : Nat) (f : ChanS → ChanS) : (m.modChan n f).conds = m.conds := rfl
@[simp] theorem Mod.modChan_limits (n : Nat) (f : ChanS → ChanS) : (m.modChan n f).limits = m.limits := rfl
@[simp] theorem Mod.modChan_seen (n : Nat) (f : ChanS → ChanS) : (m.modChan n f).seen = m.seen := rfl
@[simp] theorem Mod.modChan_timeFn (n : Nat) (f : ChanS → ChanS) : (m.modChan n f).timeFn = m.timeFn := rfl
@[simp] theorem Mod.modChan_twinFn (n : Nat) (f : ChanS → ChanS) : (m.modChan n f).twinFn = m.twinFn := rfl
@[simp] theorem Mod.modChan_rebooting (n : Nat) (f : ChanS → ChanS) : (m.modChan n f).rebooting = m.rebooting := rfl
@[simp] theorem Mod.modChan_preud (n : Nat) (f : ChanS → ChanS) : (m.modChan n f).preud = m.preud := rfl
@[simp] theorem Mod.modChan_rends (n : Nat) (f : ChanS → ChanS) : (m.modChan n f).rends = m.rends := rfl
@[simp] theorem Mod.modChan_groups (n : Nat) (f : ChanS → ChanS) : (m.modChan n f).groups = m.groups := rfl
@[simp] theorem Mod.modChan_scalers (n : Nat) (f : ChanS → ChanS) : (m.modChan n f).scalers = m.scalers := rfl
@[simp] theorem Mod.modChan_lanes (n : Nat) (f : ChanS → ChanS) : (m.modChan n f).lanes = m.lanes := rfl
@[simp] theorem Mod.modChan_ladderRows (n : Nat) (f : ChanS → ChanS) : (m.modChan n f).ladderRows = m.ladderRows := rfl
@[simp] theorem Mod.modChan_checks (n : Nat) (f : ChanS → ChanS) : (m.modChan n f).checks = m.checks := rfl
@[simp] theorem Mod.modChan_twin (n : Nat) (f : ChanS → ChanS) : (m.modChan n f).twin = m.twin := rfl
@[simp] theorem Mod.modChan_decs (n : Nat) (f : ChanS → ChanS) : (m.modChan n f).decs = m.decs := rfl
@[simp] theorem Mod.modChan_rings (n : Nat) (f : ChanS → ChanS) : (m.modChan n f).rings = m.rings := rfl
@[simp] theorem Mod.modChan_slots (n : Nat) (f : ChanS → ChanS) : (m.modChan n f).slots = m.slots := rfl
@[simp] theorem Mod.modChan_downCores (n : Nat) (f : ChanS → ChanS) : (m.modChan n f).downCores = m.downCores := rfl
@[simp] theorem Mod.modChan_fab (n : Nat) (f : ChanS → ChanS) : (m.modChan n f).fab = m.fab := rfl
@[simp] theorem Mod.modChan_servo (n : Nat) (f : ChanS → ChanS) : (m.modChan n f).servo = m.servo := rfl
@[simp] theorem Mod.modChan_mem (n : Nat) (f : ChanS → ChanS) : (m.modChan n f).mem = m.mem := rfl
@[simp] theorem Mod.modChan_prt (n : Nat) (f : ChanS → ChanS) : (m.modChan n f).prt = m.prt := rfl
@[simp] theorem Mod.modChan_clk (n : Nat) (f : ChanS → ChanS) : (m.modChan n f).clk = m.clk := rfl
@[simp] theorem Mod.modChan_cal (n : Nat) (f : ChanS → ChanS) : (m.modChan n f).cal = m.cal := rfl
@[simp] theorem Mod.modChan_hw (n : Nat) (f : ChanS → ChanS) : (m.modChan n f).hw = m.hw := rfl

@[simp] theorem Mod.modRend_now (n : Nat) (f : RendS → RendS) : (m.modRend n f).now = m.now := rfl
@[simp] theorem Mod.modRend_ctr (n : Nat) (f : RendS → RendS) : (m.modRend n f).ctr = m.ctr := rfl
@[simp] theorem Mod.modRend_tick (n : Nat) (f : RendS → RendS) : (m.modRend n f).tick = m.tick := rfl
@[simp] theorem Mod.modRend_fam (n : Nat) (f : RendS → RendS) : (m.modRend n f).fam = m.fam := rfl
@[simp] theorem Mod.modRend_draws (n : Nat) (f : RendS → RendS) : (m.modRend n f).draws = m.draws := rfl
@[simp] theorem Mod.modRend_objs (n : Nat) (f : RendS → RendS) : (m.modRend n f).objs = m.objs := rfl
@[simp] theorem Mod.modRend_edgeObjs (n : Nat) (f : RendS → RendS) : (m.modRend n f).edgeObjs = m.edgeObjs := rfl
@[simp] theorem Mod.modRend_out (n : Nat) (f : RendS → RendS) : (m.modRend n f).out = m.out := rfl
@[simp] theorem Mod.modRend_raised (n : Nat) (f : RendS → RendS) : (m.modRend n f).raised = m.raised := rfl
@[simp] theorem Mod.modRend_conds (n : Nat) (f : RendS → RendS) : (m.modRend n f).conds = m.conds := rfl
@[simp] theorem Mod.modRend_limits (n : Nat) (f : RendS → RendS) : (m.modRend n f).limits = m.limits := rfl
@[simp] theorem Mod.modRend_seen (n : Nat) (f : RendS → RendS) : (m.modRend n f).seen = m.seen := rfl
@[simp] theorem Mod.modRend_timeFn (n : Nat) (f : RendS → RendS) : (m.modRend n f).timeFn = m.timeFn := rfl
@[simp] theorem Mod.modRend_twinFn (n : Nat) (f : RendS → RendS) : (m.modRend n f).twinFn = m.twinFn := rfl
@[simp] theorem Mod.modRend_rebooting (n : Nat) (f : RendS → RendS) : (m.modRend n f).rebooting = m.rebooting := rfl
@[simp] theorem Mod.modRend_preud (n : Nat) (f : RendS → RendS) : (m.modRend n f).preud = m.preud := rfl
@[simp] theorem Mod.modRend_chans (n : Nat) (f : RendS → RendS) : (m.modRend n f).chans = m.chans := rfl
@[simp] theorem Mod.modRend_groups (n : Nat) (f : RendS → RendS) : (m.modRend n f).groups = m.groups := rfl
@[simp] theorem Mod.modRend_scalers (n : Nat) (f : RendS → RendS) : (m.modRend n f).scalers = m.scalers := rfl
@[simp] theorem Mod.modRend_lanes (n : Nat) (f : RendS → RendS) : (m.modRend n f).lanes = m.lanes := rfl
@[simp] theorem Mod.modRend_ladderRows (n : Nat) (f : RendS → RendS) : (m.modRend n f).ladderRows = m.ladderRows := rfl
@[simp] theorem Mod.modRend_checks (n : Nat) (f : RendS → RendS) : (m.modRend n f).checks = m.checks := rfl
@[simp] theorem Mod.modRend_twin (n : Nat) (f : RendS → RendS) : (m.modRend n f).twin = m.twin := rfl
@[simp] theorem Mod.modRend_decs (n : Nat) (f : RendS → RendS) : (m.modRend n f).decs = m.decs := rfl
@[simp] theorem Mod.modRend_rings (n : Nat) (f : RendS → RendS) : (m.modRend n f).rings = m.rings := rfl
@[simp] theorem Mod.modRend_slots (n : Nat) (f : RendS → RendS) : (m.modRend n f).slots = m.slots := rfl
@[simp] theorem Mod.modRend_downCores (n : Nat) (f : RendS → RendS) : (m.modRend n f).downCores = m.downCores := rfl
@[simp] theorem Mod.modRend_fab (n : Nat) (f : RendS → RendS) : (m.modRend n f).fab = m.fab := rfl
@[simp] theorem Mod.modRend_servo (n : Nat) (f : RendS → RendS) : (m.modRend n f).servo = m.servo := rfl
@[simp] theorem Mod.modRend_mem (n : Nat) (f : RendS → RendS) : (m.modRend n f).mem = m.mem := rfl
@[simp] theorem Mod.modRend_prt (n : Nat) (f : RendS → RendS) : (m.modRend n f).prt = m.prt := rfl
@[simp] theorem Mod.modRend_clk (n : Nat) (f : RendS → RendS) : (m.modRend n f).clk = m.clk := rfl
@[simp] theorem Mod.modRend_cal (n : Nat) (f : RendS → RendS) : (m.modRend n f).cal = m.cal := rfl
@[simp] theorem Mod.modRend_hw (n : Nat) (f : RendS → RendS) : (m.modRend n f).hw = m.hw := rfl

@[simp] theorem Mod.modGroup_now (n : Nat) (f : GroupS → GroupS) : (m.modGroup n f).now = m.now := rfl
@[simp] theorem Mod.modGroup_ctr (n : Nat) (f : GroupS → GroupS) : (m.modGroup n f).ctr = m.ctr := rfl
@[simp] theorem Mod.modGroup_tick (n : Nat) (f : GroupS → GroupS) : (m.modGroup n f).tick = m.tick := rfl
@[simp] theorem Mod.modGroup_fam (n : Nat) (f : GroupS → GroupS) : (m.modGroup n f).fam = m.fam := rfl
@[simp] theorem Mod.modGroup_draws (n : Nat) (f : GroupS → GroupS) : (m.modGroup n f).draws = m.draws := rfl
@[simp] theorem Mod.modGroup_objs (n : Nat) (f : GroupS → GroupS) : (m.modGroup n f).objs = m.objs := rfl
@[simp] theorem Mod.modGroup_edgeObjs (n : Nat) (f : GroupS → GroupS) : (m.modGroup n f).edgeObjs = m.edgeObjs := rfl
@[simp] theorem Mod.modGroup_out (n : Nat) (f : GroupS → GroupS) : (m.modGroup n f).out = m.out := rfl
@[simp] theorem Mod.modGroup_raised (n : Nat) (f : GroupS → GroupS) : (m.modGroup n f).raised = m.raised := rfl
@[simp] theorem Mod.modGroup_conds (n : Nat) (f : GroupS → GroupS) : (m.modGroup n f).conds = m.conds := rfl
@[simp] theorem Mod.modGroup_limits (n : Nat) (f : GroupS → GroupS) : (m.modGroup n f).limits = m.limits := rfl
@[simp] theorem Mod.modGroup_seen (n : Nat) (f : GroupS → GroupS) : (m.modGroup n f).seen = m.seen := rfl
@[simp] theorem Mod.modGroup_timeFn (n : Nat) (f : GroupS → GroupS) : (m.modGroup n f).timeFn = m.timeFn := rfl
@[simp] theorem Mod.modGroup_twinFn (n : Nat) (f : GroupS → GroupS) : (m.modGroup n f).twinFn = m.twinFn := rfl
@[simp] theorem Mod.modGroup_rebooting (n : Nat) (f : GroupS → GroupS) : (m.modGroup n f).rebooting = m.rebooting := rfl
@[simp] theorem Mod.modGroup_preud (n : Nat) (f : GroupS → GroupS) : (m.modGroup n f).preud = m.preud := rfl
@[simp] theorem Mod.modGroup_chans (n : Nat) (f : GroupS → GroupS) : (m.modGroup n f).chans = m.chans := rfl
@[simp] theorem Mod.modGroup_rends (n : Nat) (f : GroupS → GroupS) : (m.modGroup n f).rends = m.rends := rfl
@[simp] theorem Mod.modGroup_scalers (n : Nat) (f : GroupS → GroupS) : (m.modGroup n f).scalers = m.scalers := rfl
@[simp] theorem Mod.modGroup_lanes (n : Nat) (f : GroupS → GroupS) : (m.modGroup n f).lanes = m.lanes := rfl
@[simp] theorem Mod.modGroup_ladderRows (n : Nat) (f : GroupS → GroupS) : (m.modGroup n f).ladderRows = m.ladderRows := rfl
@[simp] theorem Mod.modGroup_checks (n : Nat) (f : GroupS → GroupS) : (m.modGroup n f).checks = m.checks := rfl
@[simp] theorem Mod.modGroup_twin (n : Nat) (f : GroupS → GroupS) : (m.modGroup n f).twin = m.twin := rfl
@[simp] theorem Mod.modGroup_decs (n : Nat) (f : GroupS → GroupS) : (m.modGroup n f).decs = m.decs := rfl
@[simp] theorem Mod.modGroup_rings (n : Nat) (f : GroupS → GroupS) : (m.modGroup n f).rings = m.rings := rfl
@[simp] theorem Mod.modGroup_slots (n : Nat) (f : GroupS → GroupS) : (m.modGroup n f).slots = m.slots := rfl
@[simp] theorem Mod.modGroup_downCores (n : Nat) (f : GroupS → GroupS) : (m.modGroup n f).downCores = m.downCores := rfl
@[simp] theorem Mod.modGroup_fab (n : Nat) (f : GroupS → GroupS) : (m.modGroup n f).fab = m.fab := rfl
@[simp] theorem Mod.modGroup_servo (n : Nat) (f : GroupS → GroupS) : (m.modGroup n f).servo = m.servo := rfl
@[simp] theorem Mod.modGroup_mem (n : Nat) (f : GroupS → GroupS) : (m.modGroup n f).mem = m.mem := rfl
@[simp] theorem Mod.modGroup_prt (n : Nat) (f : GroupS → GroupS) : (m.modGroup n f).prt = m.prt := rfl
@[simp] theorem Mod.modGroup_clk (n : Nat) (f : GroupS → GroupS) : (m.modGroup n f).clk = m.clk := rfl
@[simp] theorem Mod.modGroup_cal (n : Nat) (f : GroupS → GroupS) : (m.modGroup n f).cal = m.cal := rfl
@[simp] theorem Mod.modGroup_hw (n : Nat) (f : GroupS → GroupS) : (m.modGroup n f).hw = m.hw := rfl

@[simp] theorem Mod.modPreud_now (f : PreudS → PreudS) : (m.modPreud f).now = m.now := rfl
@[simp] theorem Mod.modPreud_ctr (f : PreudS → PreudS) : (m.modPreud f).ctr = m.ctr := rfl
@[simp] theorem Mod.modPreud_tick (f : PreudS → PreudS) : (m.modPreud f).tick = m.tick := rfl
@[simp] theorem Mod.modPreud_fam (f : PreudS → PreudS) : (m.modPreud f).fam = m.fam := rfl
@[simp] theorem Mod.modPreud_draws (f : PreudS → PreudS) : (m.modPreud f).draws = m.draws := rfl
@[simp] theorem Mod.modPreud_objs (f : PreudS → PreudS) : (m.modPreud f).objs = m.objs := rfl
@[simp] theorem Mod.modPreud_edgeObjs (f : PreudS → PreudS) : (m.modPreud f).edgeObjs = m.edgeObjs := rfl
@[simp] theorem Mod.modPreud_out (f : PreudS → PreudS) : (m.modPreud f).out = m.out := rfl
@[simp] theorem Mod.modPreud_raised (f : PreudS → PreudS) : (m.modPreud f).raised = m.raised := rfl
@[simp] theorem Mod.modPreud_conds (f : PreudS → PreudS) : (m.modPreud f).conds = m.conds := rfl
@[simp] theorem Mod.modPreud_limits (f : PreudS → PreudS) : (m.modPreud f).limits = m.limits := rfl
@[simp] theorem Mod.modPreud_seen (f : PreudS → PreudS) : (m.modPreud f).seen = m.seen := rfl
@[simp] theorem Mod.modPreud_timeFn (f : PreudS → PreudS) : (m.modPreud f).timeFn = m.timeFn := rfl
@[simp] theorem Mod.modPreud_twinFn (f : PreudS → PreudS) : (m.modPreud f).twinFn = m.twinFn := rfl
@[simp] theorem Mod.modPreud_rebooting (f : PreudS → PreudS) : (m.modPreud f).rebooting = m.rebooting := rfl
@[simp] theorem Mod.modPreud_chans (f : PreudS → PreudS) : (m.modPreud f).chans = m.chans := rfl
@[simp] theorem Mod.modPreud_rends (f : PreudS → PreudS) : (m.modPreud f).rends = m.rends := rfl
@[simp] theorem Mod.modPreud_groups (f : PreudS → PreudS) : (m.modPreud f).groups = m.groups := rfl
@[simp] theorem Mod.modPreud_scalers (f : PreudS → PreudS) : (m.modPreud f).scalers = m.scalers := rfl
@[simp] theorem Mod.modPreud_lanes (f : PreudS → PreudS) : (m.modPreud f).lanes = m.lanes := rfl
@[simp] theorem Mod.modPreud_ladderRows (f : PreudS → PreudS) : (m.modPreud f).ladderRows = m.ladderRows := rfl
@[simp] theorem Mod.modPreud_checks (f : PreudS → PreudS) : (m.modPreud f).checks = m.checks := rfl
@[simp] theorem Mod.modPreud_twin (f : PreudS → PreudS) : (m.modPreud f).twin = m.twin := rfl
@[simp] theorem Mod.modPreud_decs (f : PreudS → PreudS) : (m.modPreud f).decs = m.decs := rfl
@[simp] theorem Mod.modPreud_rings (f : PreudS → PreudS) : (m.modPreud f).rings = m.rings := rfl
@[simp] theorem Mod.modPreud_slots (f : PreudS → PreudS) : (m.modPreud f).slots = m.slots := rfl
@[simp] theorem Mod.modPreud_downCores (f : PreudS → PreudS) : (m.modPreud f).downCores = m.downCores := rfl
@[simp] theorem Mod.modPreud_fab (f : PreudS → PreudS) : (m.modPreud f).fab = m.fab := rfl
@[simp] theorem Mod.modPreud_servo (f : PreudS → PreudS) : (m.modPreud f).servo = m.servo := rfl
@[simp] theorem Mod.modPreud_mem (f : PreudS → PreudS) : (m.modPreud f).mem = m.mem := rfl
@[simp] theorem Mod.modPreud_prt (f : PreudS → PreudS) : (m.modPreud f).prt = m.prt := rfl
@[simp] theorem Mod.modPreud_clk (f : PreudS → PreudS) : (m.modPreud f).clk = m.clk := rfl
@[simp] theorem Mod.modPreud_cal (f : PreudS → PreudS) : (m.modPreud f).cal = m.cal := rfl
@[simp] theorem Mod.modPreud_hw (f : PreudS → PreudS) : (m.modPreud f).hw = m.hw := rfl

@[simp] theorem Mod.modTwin_now (f : TwinS → TwinS) : (m.modTwin f).now = m.now := rfl
@[simp] theorem Mod.modTwin_ctr (f : TwinS → TwinS) : (m.modTwin f).ctr = m.ctr := rfl
@[simp] theorem Mod.modTwin_tick (f : TwinS → TwinS) : (m.modTwin f).tick = m.tick := rfl
@[simp] theorem Mod.modTwin_fam (f : TwinS → TwinS) : (m.modTwin f).fam = m.fam := rfl
@[simp] theorem Mod.modTwin_draws (f : TwinS → TwinS) : (m.modTwin f).draws = m.draws := rfl
@[simp] theorem Mod.modTwin_objs (f : TwinS → TwinS) : (m.modTwin f).objs = m.objs := rfl
@[simp] theorem Mod.modTwin_edgeObjs (f : TwinS → TwinS) : (m.modTwin f).edgeObjs = m.edgeObjs := rfl
@[simp] theorem Mod.modTwin_out (f : TwinS → TwinS) : (m.modTwin f).out = m.out := rfl
@[simp] theorem Mod.modTwin_raised (f : TwinS → TwinS) : (m.modTwin f).raised = m.raised := rfl
@[simp] theorem Mod.modTwin_conds (f : TwinS → TwinS) : (m.modTwin f).conds = m.conds := rfl
@[simp] theorem Mod.modTwin_limits (f : TwinS → TwinS) : (m.modTwin f).limits = m.limits := rfl
@[simp] theorem Mod.modTwin_seen (f : TwinS → TwinS) : (m.modTwin f).seen = m.seen := rfl
@[simp] theorem Mod.modTwin_timeFn (f : TwinS → TwinS) : (m.modTwin f).timeFn = m.timeFn := rfl
@[simp] theorem Mod.modTwin_twinFn (f : TwinS → TwinS) : (m.modTwin f).twinFn = m.twinFn := rfl
@[simp] theorem Mod.modTwin_rebooting (f : TwinS → TwinS) : (m.modTwin f).rebooting = m.rebooting := rfl
@[simp] theorem Mod.modTwin_preud (f : TwinS → TwinS) : (m.modTwin f).preud = m.preud := rfl
@[simp] theorem Mod.modTwin_chans (f : TwinS → TwinS) : (m.modTwin f).chans = m.chans := rfl
@[simp] theorem Mod.modTwin_rends (f : TwinS → TwinS) : (m.modTwin f).rends = m.rends := rfl
@[simp] theorem Mod.modTwin_groups (f : TwinS → TwinS) : (m.modTwin f).groups = m.groups := rfl
@[simp] theorem Mod.modTwin_scalers (f : TwinS → TwinS) : (m.modTwin f).scalers = m.scalers := rfl
@[simp] theorem Mod.modTwin_lanes (f : TwinS → TwinS) : (m.modTwin f).lanes = m.lanes := rfl
@[simp] theorem Mod.modTwin_ladderRows (f : TwinS → TwinS) : (m.modTwin f).ladderRows = m.ladderRows := rfl
@[simp] theorem Mod.modTwin_checks (f : TwinS → TwinS) : (m.modTwin f).checks = m.checks := rfl
@[simp] theorem Mod.modTwin_decs (f : TwinS → TwinS) : (m.modTwin f).decs = m.decs := rfl
@[simp] theorem Mod.modTwin_rings (f : TwinS → TwinS) : (m.modTwin f).rings = m.rings := rfl
@[simp] theorem Mod.modTwin_slots (f : TwinS → TwinS) : (m.modTwin f).slots = m.slots := rfl
@[simp] theorem Mod.modTwin_downCores (f : TwinS → TwinS) : (m.modTwin f).downCores = m.downCores := rfl
@[simp] theorem Mod.modTwin_fab (f : TwinS → TwinS) : (m.modTwin f).fab = m.fab := rfl
@[simp] theorem Mod.modTwin_servo (f : TwinS → TwinS) : (m.modTwin f).servo = m.servo := rfl
@[simp] theorem Mod.modTwin_mem (f : TwinS → TwinS) : (m.modTwin f).mem = m.mem := rfl
@[simp] theorem Mod.modTwin_prt (f : TwinS → TwinS) : (m.modTwin f).prt = m.prt := rfl
@[simp] theorem Mod.modTwin_clk (f : TwinS → TwinS) : (m.modTwin f).clk = m.clk := rfl
@[simp] theorem Mod.modTwin_cal (f : TwinS → TwinS) : (m.modTwin f).cal = m.cal := rfl
@[simp] theorem Mod.modTwin_hw (f : TwinS → TwinS) : (m.modTwin f).hw = m.hw := rfl

@[simp] theorem Mod.modServo_now (f : ServoS → ServoS) : (m.modServo f).now = m.now := rfl
@[simp] theorem Mod.modServo_ctr (f : ServoS → ServoS) : (m.modServo f).ctr = m.ctr := rfl
@[simp] theorem Mod.modServo_tick (f : ServoS → ServoS) : (m.modServo f).tick = m.tick := rfl
@[simp] theorem Mod.modServo_fam (f : ServoS → ServoS) : (m.modServo f).fam = m.fam := rfl
@[simp] theorem Mod.modServo_draws (f : ServoS → ServoS) : (m.modServo f).draws = m.draws := rfl
@[simp] theorem Mod.modServo_objs (f : ServoS → ServoS) : (m.modServo f).objs = m.objs := rfl
@[simp] theorem Mod.modServo_edgeObjs (f : ServoS → ServoS) : (m.modServo f).edgeObjs = m.edgeObjs := rfl
@[simp] theorem Mod.modServo_out (f : ServoS → ServoS) : (m.modServo f).out = m.out := rfl
@[simp] theorem Mod.modServo_raised (f : ServoS → ServoS) : (m.modServo f).raised = m.raised := rfl
@[simp] theorem Mod.modServo_conds (f : ServoS → ServoS) : (m.modServo f).conds = m.conds := rfl
@[simp] theorem Mod.modServo_limits (f : ServoS → ServoS) : (m.modServo f).limits = m.limits := rfl
@[simp] theorem Mod.modServo_seen (f : ServoS → ServoS) : (m.modServo f).seen = m.seen := rfl
@[simp] theorem Mod.modServo_timeFn (f : ServoS → ServoS) : (m.modServo f).timeFn = m.timeFn := rfl
@[simp] theorem Mod.modServo_twinFn (f : ServoS → ServoS) : (m.modServo f).twinFn = m.twinFn := rfl
@[simp] theorem Mod.modServo_rebooting (f : ServoS → ServoS) : (m.modServo f).rebooting = m.rebooting := rfl
@[simp] theorem Mod.modServo_preud (f : ServoS → ServoS) : (m.modServo f).preud = m.preud := rfl
@[simp] theorem Mod.modServo_chans (f : ServoS → ServoS) : (m.modServo f).chans = m.chans := rfl
@[simp] theorem Mod.modServo_rends (f : ServoS → ServoS) : (m.modServo f).rends = m.rends := rfl
@[simp] theorem Mod.modServo_groups (f : ServoS → ServoS) : (m.modServo f).groups = m.groups := rfl
@[simp] theorem Mod.modServo_scalers (f : ServoS → ServoS) : (m.modServo f).scalers = m.scalers := rfl
@[simp] theorem Mod.modServo_lanes (f : ServoS → ServoS) : (m.modServo f).lanes = m.lanes := rfl
@[simp] theorem Mod.modServo_ladderRows (f : ServoS → ServoS) : (m.modServo f).ladderRows = m.ladderRows := rfl
@[simp] theorem Mod.modServo_checks (f : ServoS → ServoS) : (m.modServo f).checks = m.checks := rfl
@[simp] theorem Mod.modServo_twin (f : ServoS → ServoS) : (m.modServo f).twin = m.twin := rfl
@[simp] theorem Mod.modServo_decs (f : ServoS → ServoS) : (m.modServo f).decs = m.decs := rfl
@[simp] theorem Mod.modServo_rings (f : ServoS → ServoS) : (m.modServo f).rings = m.rings := rfl
@[simp] theorem Mod.modServo_slots (f : ServoS → ServoS) : (m.modServo f).slots = m.slots := rfl
@[simp] theorem Mod.modServo_downCores (f : ServoS → ServoS) : (m.modServo f).downCores = m.downCores := rfl
@[simp] theorem Mod.modServo_fab (f : ServoS → ServoS) : (m.modServo f).fab = m.fab := rfl
@[simp] theorem Mod.modServo_mem (f : ServoS → ServoS) : (m.modServo f).mem = m.mem := rfl
@[simp] theorem Mod.modServo_prt (f : ServoS → ServoS) : (m.modServo f).prt = m.prt := rfl
@[simp] theorem Mod.modServo_clk (f : ServoS → ServoS) : (m.modServo f).clk = m.clk := rfl
@[simp] theorem Mod.modServo_cal (f : ServoS → ServoS) : (m.modServo f).cal = m.cal := rfl
@[simp] theorem Mod.modServo_hw (f : ServoS → ServoS) : (m.modServo f).hw = m.hw := rfl

@[simp] theorem Mod.modHw_now (f : HwS → HwS) : (m.modHw f).now = m.now := rfl
@[simp] theorem Mod.modHw_ctr (f : HwS → HwS) : (m.modHw f).ctr = m.ctr := rfl
@[simp] theorem Mod.modHw_tick (f : HwS → HwS) : (m.modHw f).tick = m.tick := rfl
@[simp] theorem Mod.modHw_fam (f : HwS → HwS) : (m.modHw f).fam = m.fam := rfl
@[simp] theorem Mod.modHw_draws (f : HwS → HwS) : (m.modHw f).draws = m.draws := rfl
@[simp] theorem Mod.modHw_objs (f : HwS → HwS) : (m.modHw f).objs = m.objs := rfl
@[simp] theorem Mod.modHw_edgeObjs (f : HwS → HwS) : (m.modHw f).edgeObjs = m.edgeObjs := rfl
@[simp] theorem Mod.modHw_out (f : HwS → HwS) : (m.modHw f).out = m.out := rfl
@[simp] theorem Mod.modHw_raised (f : HwS → HwS) : (m.modHw f).raised = m.raised := rfl
@[simp] theorem Mod.modHw_conds (f : HwS → HwS) : (m.modHw f).conds = m.conds := rfl
@[simp] theorem Mod.modHw_limits (f : HwS → HwS) : (m.modHw f).limits = m.limits := rfl
@[simp] theorem Mod.modHw_seen (f : HwS → HwS) : (m.modHw f).seen = m.seen := rfl
@[simp] theorem Mod.modHw_timeFn (f : HwS → HwS) : (m.modHw f).timeFn = m.timeFn := rfl
@[simp] theorem Mod.modHw_twinFn (f : HwS → HwS) : (m.modHw f).twinFn = m.twinFn := rfl
@[simp] theorem Mod.modHw_rebooting (f : HwS → HwS) : (m.modHw f).rebooting = m.rebooting := rfl
@[simp] theorem Mod.modHw_preud (f : HwS → HwS) : (m.modHw f).preud = m.preud := rfl
@[simp] theorem Mod.modHw_chans (f : HwS → HwS) : (m.modHw f).chans = m.chans := rfl
@[simp] theorem Mod.modHw_rends (f : HwS → HwS) : (m.modHw f).rends = m.rends := rfl
@[simp] theorem Mod.modHw_groups (f : HwS → HwS) : (m.modHw f).groups = m.groups := rfl
@[simp] theorem Mod.modHw_scalers (f : HwS → HwS) : (m.modHw f).scalers = m.scalers := rfl
@[simp] theorem Mod.modHw_lanes (f : HwS → HwS) : (m.modHw f).lanes = m.lanes := rfl
@[simp] theorem Mod.modHw_ladderRows (f : HwS → HwS) : (m.modHw f).ladderRows = m.ladderRows := rfl
@[simp] theorem Mod.modHw_checks (f : HwS → HwS) : (m.modHw f).checks = m.checks := rfl
@[simp] theorem Mod.modHw_twin (f : HwS → HwS) : (m.modHw f).twin = m.twin := rfl
@[simp] theorem Mod.modHw_decs (f : HwS → HwS) : (m.modHw f).decs = m.decs := rfl
@[simp] theorem Mod.modHw_rings (f : HwS → HwS) : (m.modHw f).rings = m.rings := rfl
@[simp] theorem Mod.modHw_slots (f : HwS → HwS) : (m.modHw f).slots = m.slots := rfl
@[simp] theorem Mod.modHw_downCores (f : HwS → HwS) : (m.modHw f).downCores = m.downCores := rfl
@[simp] theorem Mod.modHw_fab (f : HwS → HwS) : (m.modHw f).fab = m.fab := rfl
@[simp] theorem Mod.modHw_servo (f : HwS → HwS) : (m.modHw f).servo = m.servo := rfl
@[simp] theorem Mod.modHw_mem (f : HwS → HwS) : (m.modHw f).mem = m.mem := rfl
@[simp] theorem Mod.modHw_prt (f : HwS → HwS) : (m.modHw f).prt = m.prt := rfl
@[simp] theorem Mod.modHw_clk (f : HwS → HwS) : (m.modHw f).clk = m.clk := rfl
@[simp] theorem Mod.modHw_cal (f : HwS → HwS) : (m.modHw f).cal = m.cal := rfl

@[simp] theorem Mod.modClk_now (f : ClockS → ClockS) : (m.modClk f).now = m.now := rfl
@[simp] theorem Mod.modClk_ctr (f : ClockS → ClockS) : (m.modClk f).ctr = m.ctr := rfl
@[simp] theorem Mod.modClk_tick (f : ClockS → ClockS) : (m.modClk f).tick = m.tick := rfl
@[simp] theorem Mod.modClk_fam (f : ClockS → ClockS) : (m.modClk f).fam = m.fam := rfl
@[simp] theorem Mod.modClk_draws (f : ClockS → ClockS) : (m.modClk f).draws = m.draws := rfl
@[simp] theorem Mod.modClk_objs (f : ClockS → ClockS) : (m.modClk f).objs = m.objs := rfl
@[simp] theorem Mod.modClk_edgeObjs (f : ClockS → ClockS) : (m.modClk f).edgeObjs = m.edgeObjs := rfl
@[simp] theorem Mod.modClk_out (f : ClockS → ClockS) : (m.modClk f).out = m.out := rfl
@[simp] theorem Mod.modClk_raised (f : ClockS → ClockS) : (m.modClk f).raised = m.raised := rfl
@[simp] theorem Mod.modClk_conds (f : ClockS → ClockS) : (m.modClk f).conds = m.conds := rfl
@[simp] theorem Mod.modClk_limits (f : ClockS → ClockS) : (m.modClk f).limits = m.limits := rfl
@[simp] theorem Mod.modClk_seen (f : ClockS → ClockS) : (m.modClk f).seen = m.seen := rfl
@[simp] theorem Mod.modClk_timeFn (f : ClockS → ClockS) : (m.modClk f).timeFn = m.timeFn := rfl
@[simp] theorem Mod.modClk_twinFn (f : ClockS → ClockS) : (m.modClk f).twinFn = m.twinFn := rfl
@[simp] theorem Mod.modClk_rebooting (f : ClockS → ClockS) : (m.modClk f).rebooting = m.rebooting := rfl
@[simp] theorem Mod.modClk_preud (f : ClockS → ClockS) : (m.modClk f).preud = m.preud := rfl
@[simp] theorem Mod.modClk_chans (f : ClockS → ClockS) : (m.modClk f).chans = m.chans := rfl
@[simp] theorem Mod.modClk_rends (f : ClockS → ClockS) : (m.modClk f).rends = m.rends := rfl
@[simp] theorem Mod.modClk_groups (f : ClockS → ClockS) : (m.modClk f).groups = m.groups := rfl
@[simp] theorem Mod.modClk_scalers (f : ClockS → ClockS) : (m.modClk f).scalers = m.scalers := rfl
@[simp] theorem Mod.modClk_lanes (f : ClockS → ClockS) : (m.modClk f).lanes = m.lanes := rfl
@[simp] theorem Mod.modClk_ladderRows (f : ClockS → ClockS) : (m.modClk f).ladderRows = m.ladderRows := rfl
@[simp] theorem Mod.modClk_checks (f : ClockS → ClockS) : (m.modClk f).checks = m.checks := rfl
@[simp] theorem Mod.modClk_twin (f : ClockS → ClockS) : (m.modClk f).twin = m.twin := rfl
@[simp] theorem Mod.modClk_decs (f : ClockS → ClockS) : (m.modClk f).decs = m.decs := rfl
@[simp] theorem Mod.modClk_rings (f : ClockS → ClockS) : (m.modClk f).rings = m.rings := rfl
@[simp] theorem Mod.modClk_slots (f : ClockS → ClockS) : (m.modClk f).slots = m.slots := rfl
@[simp] theorem Mod.modClk_downCores (f : ClockS → ClockS) : (m.modClk f).downCores = m.downCores := rfl
@[simp] theorem Mod.modClk_fab (f : ClockS → ClockS) : (m.modClk f).fab = m.fab := rfl
@[simp] theorem Mod.modClk_servo (f : ClockS → ClockS) : (m.modClk f).servo = m.servo := rfl
@[simp] theorem Mod.modClk_mem (f : ClockS → ClockS) : (m.modClk f).mem = m.mem := rfl
@[simp] theorem Mod.modClk_prt (f : ClockS → ClockS) : (m.modClk f).prt = m.prt := rfl
@[simp] theorem Mod.modClk_cal (f : ClockS → ClockS) : (m.modClk f).cal = m.cal := rfl
@[simp] theorem Mod.modClk_hw (f : ClockS → ClockS) : (m.modClk f).hw = m.hw := rfl

@[simp] theorem Mod.modCal_now (f : CalS → CalS) : (m.modCal f).now = m.now := rfl
@[simp] theorem Mod.modCal_ctr (f : CalS → CalS) : (m.modCal f).ctr = m.ctr := rfl
@[simp] theorem Mod.modCal_tick (f : CalS → CalS) : (m.modCal f).tick = m.tick := rfl
@[simp] theorem Mod.modCal_fam (f : CalS → CalS) : (m.modCal f).fam = m.fam := rfl
@[simp] theorem Mod.modCal_draws (f : CalS → CalS) : (m.modCal f).draws = m.draws := rfl
@[simp] theorem Mod.modCal_objs (f : CalS → CalS) : (m.modCal f).objs = m.objs := rfl
@[simp] theorem Mod.modCal_edgeObjs (f : CalS → CalS) : (m.modCal f).edgeObjs = m.edgeObjs := rfl
@[simp] theorem Mod.modCal_out (f : CalS → CalS) : (m.modCal f).out = m.out := rfl
@[simp] theorem Mod.modCal_raised (f : CalS → CalS) : (m.modCal f).raised = m.raised := rfl
@[simp] theorem Mod.modCal_conds (f : CalS → CalS) : (m.modCal f).conds = m.conds := rfl
@[simp] theorem Mod.modCal_limits (f : CalS → CalS) : (m.modCal f).limits = m.limits := rfl
@[simp] theorem Mod.modCal_seen (f : CalS → CalS) : (m.modCal f).seen = m.seen := rfl
@[simp] theorem Mod.modCal_timeFn (f : CalS → CalS) : (m.modCal f).timeFn = m.timeFn := rfl
@[simp] theorem Mod.modCal_twinFn (f : CalS → CalS) : (m.modCal f).twinFn = m.twinFn := rfl
@[simp] theorem Mod.modCal_rebooting (f : CalS → CalS) : (m.modCal f).rebooting = m.rebooting := rfl
@[simp] theorem Mod.modCal_preud (f : CalS → CalS) : (m.modCal f).preud = m.preud := rfl
@[simp] theorem Mod.modCal_chans (f : CalS → CalS) : (m.modCal f).chans = m.chans := rfl
@[simp] theorem Mod.modCal_rends (f : CalS → CalS) : (m.modCal f).rends = m.rends := rfl
@[simp] theorem Mod.modCal_groups (f : CalS → CalS) : (m.modCal f).groups = m.groups := rfl
@[simp] theorem Mod.modCal_scalers (f : CalS → CalS) : (m.modCal f).scalers = m.scalers := rfl
@[simp] theorem Mod.modCal_lanes (f : CalS → CalS) : (m.modCal f).lanes = m.lanes := rfl
@[simp] theorem Mod.modCal_ladderRows (f : CalS → CalS) : (m.modCal f).ladderRows = m.ladderRows := rfl
@[simp] theorem Mod.modCal_checks (f : CalS → CalS) : (m.modCal f).checks = m.checks := rfl
@[simp] theorem Mod.modCal_twin (f : CalS → CalS) : (m.modCal f).twin = m.twin := rfl
@[simp] theorem Mod.modCal_decs (f : CalS → CalS) : (m.modCal f).decs = m.decs := rfl
@[simp] theorem Mod.modCal_rings (f : CalS → CalS) : (m.modCal f).rings = m.rings := rfl
@[simp] theorem Mod.modCal_slots (f : CalS → CalS) : (m.modCal f).slots = m.slots := rfl
@[simp] theorem Mod.modCal_downCores (f : CalS → CalS) : (m.modCal f).downCores = m.downCores := rfl
@[simp] theorem Mod.modCal_fab (f : CalS → CalS) : (m.modCal f).fab = m.fab := rfl
@[simp] theorem Mod.modCal_servo (f : CalS → CalS) : (m.modCal f).servo = m.servo := rfl
@[simp] theorem Mod.modCal_mem (f : CalS → CalS) : (m.modCal f).mem = m.mem := rfl
@[simp] theorem Mod.modCal_prt (f : CalS → CalS) : (m.modCal f).prt = m.prt := rfl
@[simp] theorem Mod.modCal_clk (f : CalS → CalS) : (m.modCal f).clk = m.clk := rfl
@[simp] theorem Mod.modCal_hw (f : CalS → CalS) : (m.modCal f).hw = m.hw := rfl

@[simp] theorem Mod.modDec_now (e : Nat) (f : DecodeS → DecodeS) : (m.modDec e f).now = m.now := rfl
@[simp] theorem Mod.modDec_ctr (e : Nat) (f : DecodeS → DecodeS) : (m.modDec e f).ctr = m.ctr := rfl
@[simp] theorem Mod.modDec_tick (e : Nat) (f : DecodeS → DecodeS) : (m.modDec e f).tick = m.tick := rfl
@[simp] theorem Mod.modDec_fam (e : Nat) (f : DecodeS → DecodeS) : (m.modDec e f).fam = m.fam := rfl
@[simp] theorem Mod.modDec_draws (e : Nat) (f : DecodeS → DecodeS) : (m.modDec e f).draws = m.draws := rfl
@[simp] theorem Mod.modDec_objs (e : Nat) (f : DecodeS → DecodeS) : (m.modDec e f).objs = m.objs := rfl
@[simp] theorem Mod.modDec_edgeObjs (e : Nat) (f : DecodeS → DecodeS) : (m.modDec e f).edgeObjs = m.edgeObjs := rfl
@[simp] theorem Mod.modDec_out (e : Nat) (f : DecodeS → DecodeS) : (m.modDec e f).out = m.out := rfl
@[simp] theorem Mod.modDec_raised (e : Nat) (f : DecodeS → DecodeS) : (m.modDec e f).raised = m.raised := rfl
@[simp] theorem Mod.modDec_conds (e : Nat) (f : DecodeS → DecodeS) : (m.modDec e f).conds = m.conds := rfl
@[simp] theorem Mod.modDec_limits (e : Nat) (f : DecodeS → DecodeS) : (m.modDec e f).limits = m.limits := rfl
@[simp] theorem Mod.modDec_seen (e : Nat) (f : DecodeS → DecodeS) : (m.modDec e f).seen = m.seen := rfl
@[simp] theorem Mod.modDec_timeFn (e : Nat) (f : DecodeS → DecodeS) : (m.modDec e f).timeFn = m.timeFn := rfl
@[simp] theorem Mod.modDec_twinFn (e : Nat) (f : DecodeS → DecodeS) : (m.modDec e f).twinFn = m.twinFn := rfl
@[simp] theorem Mod.modDec_rebooting (e : Nat) (f : DecodeS → DecodeS) : (m.modDec e f).rebooting = m.rebooting := rfl
@[simp] theorem Mod.modDec_preud (e : Nat) (f : DecodeS → DecodeS) : (m.modDec e f).preud = m.preud := rfl
@[simp] theorem Mod.modDec_chans (e : Nat) (f : DecodeS → DecodeS) : (m.modDec e f).chans = m.chans := rfl
@[simp] theorem Mod.modDec_rends (e : Nat) (f : DecodeS → DecodeS) : (m.modDec e f).rends = m.rends := rfl
@[simp] theorem Mod.modDec_groups (e : Nat) (f : DecodeS → DecodeS) : (m.modDec e f).groups = m.groups := rfl
@[simp] theorem Mod.modDec_scalers (e : Nat) (f : DecodeS → DecodeS) : (m.modDec e f).scalers = m.scalers := rfl
@[simp] theorem Mod.modDec_lanes (e : Nat) (f : DecodeS → DecodeS) : (m.modDec e f).lanes = m.lanes := rfl
@[simp] theorem Mod.modDec_ladderRows (e : Nat) (f : DecodeS → DecodeS) : (m.modDec e f).ladderRows = m.ladderRows := rfl
@[simp] theorem Mod.modDec_checks (e : Nat) (f : DecodeS → DecodeS) : (m.modDec e f).checks = m.checks := rfl
@[simp] theorem Mod.modDec_twin (e : Nat) (f : DecodeS → DecodeS) : (m.modDec e f).twin = m.twin := rfl
@[simp] theorem Mod.modDec_rings (e : Nat) (f : DecodeS → DecodeS) : (m.modDec e f).rings = m.rings := rfl
@[simp] theorem Mod.modDec_slots (e : Nat) (f : DecodeS → DecodeS) : (m.modDec e f).slots = m.slots := rfl
@[simp] theorem Mod.modDec_downCores (e : Nat) (f : DecodeS → DecodeS) : (m.modDec e f).downCores = m.downCores := rfl
@[simp] theorem Mod.modDec_fab (e : Nat) (f : DecodeS → DecodeS) : (m.modDec e f).fab = m.fab := rfl
@[simp] theorem Mod.modDec_servo (e : Nat) (f : DecodeS → DecodeS) : (m.modDec e f).servo = m.servo := rfl
@[simp] theorem Mod.modDec_mem (e : Nat) (f : DecodeS → DecodeS) : (m.modDec e f).mem = m.mem := rfl
@[simp] theorem Mod.modDec_prt (e : Nat) (f : DecodeS → DecodeS) : (m.modDec e f).prt = m.prt := rfl
@[simp] theorem Mod.modDec_clk (e : Nat) (f : DecodeS → DecodeS) : (m.modDec e f).clk = m.clk := rfl
@[simp] theorem Mod.modDec_cal (e : Nat) (f : DecodeS → DecodeS) : (m.modDec e f).cal = m.cal := rfl
@[simp] theorem Mod.modDec_hw (e : Nat) (f : DecodeS → DecodeS) : (m.modDec e f).hw = m.hw := rfl

@[simp] theorem Mod.modSlot_now (n : Nat) (f : SlotS → SlotS) : (m.modSlot n f).now = m.now := rfl
@[simp] theorem Mod.modSlot_ctr (n : Nat) (f : SlotS → SlotS) : (m.modSlot n f).ctr = m.ctr := rfl
@[simp] theorem Mod.modSlot_tick (n : Nat) (f : SlotS → SlotS) : (m.modSlot n f).tick = m.tick := rfl
@[simp] theorem Mod.modSlot_fam (n : Nat) (f : SlotS → SlotS) : (m.modSlot n f).fam = m.fam := rfl
@[simp] theorem Mod.modSlot_draws (n : Nat) (f : SlotS → SlotS) : (m.modSlot n f).draws = m.draws := rfl
@[simp] theorem Mod.modSlot_objs (n : Nat) (f : SlotS → SlotS) : (m.modSlot n f).objs = m.objs := rfl
@[simp] theorem Mod.modSlot_edgeObjs (n : Nat) (f : SlotS → SlotS) : (m.modSlot n f).edgeObjs = m.edgeObjs := rfl
@[simp] theorem Mod.modSlot_out (n : Nat) (f : SlotS → SlotS) : (m.modSlot n f).out = m.out := rfl
@[simp] theorem Mod.modSlot_raised (n : Nat) (f : SlotS → SlotS) : (m.modSlot n f).raised = m.raised := rfl
@[simp] theorem Mod.modSlot_conds (n : Nat) (f : SlotS → SlotS) : (m.modSlot n f).conds = m.conds := rfl
@[simp] theorem Mod.modSlot_limits (n : Nat) (f : SlotS → SlotS) : (m.modSlot n f).limits = m.limits := rfl
@[simp] theorem Mod.modSlot_seen (n : Nat) (f : SlotS → SlotS) : (m.modSlot n f).seen = m.seen := rfl
@[simp] theorem Mod.modSlot_timeFn (n : Nat) (f : SlotS → SlotS) : (m.modSlot n f).timeFn = m.timeFn := rfl
@[simp] theorem Mod.modSlot_twinFn (n : Nat) (f : SlotS → SlotS) : (m.modSlot n f).twinFn = m.twinFn := rfl
@[simp] theorem Mod.modSlot_rebooting (n : Nat) (f : SlotS → SlotS) : (m.modSlot n f).rebooting = m.rebooting := rfl
@[simp] theorem Mod.modSlot_preud (n : Nat) (f : SlotS → SlotS) : (m.modSlot n f).preud = m.preud := rfl
@[simp] theorem Mod.modSlot_chans (n : Nat) (f : SlotS → SlotS) : (m.modSlot n f).chans = m.chans := rfl
@[simp] theorem Mod.modSlot_rends (n : Nat) (f : SlotS → SlotS) : (m.modSlot n f).rends = m.rends := rfl
@[simp] theorem Mod.modSlot_groups (n : Nat) (f : SlotS → SlotS) : (m.modSlot n f).groups = m.groups := rfl
@[simp] theorem Mod.modSlot_scalers (n : Nat) (f : SlotS → SlotS) : (m.modSlot n f).scalers = m.scalers := rfl
@[simp] theorem Mod.modSlot_lanes (n : Nat) (f : SlotS → SlotS) : (m.modSlot n f).lanes = m.lanes := rfl
@[simp] theorem Mod.modSlot_ladderRows (n : Nat) (f : SlotS → SlotS) : (m.modSlot n f).ladderRows = m.ladderRows := rfl
@[simp] theorem Mod.modSlot_checks (n : Nat) (f : SlotS → SlotS) : (m.modSlot n f).checks = m.checks := rfl
@[simp] theorem Mod.modSlot_twin (n : Nat) (f : SlotS → SlotS) : (m.modSlot n f).twin = m.twin := rfl
@[simp] theorem Mod.modSlot_decs (n : Nat) (f : SlotS → SlotS) : (m.modSlot n f).decs = m.decs := rfl
@[simp] theorem Mod.modSlot_rings (n : Nat) (f : SlotS → SlotS) : (m.modSlot n f).rings = m.rings := rfl
@[simp] theorem Mod.modSlot_downCores (n : Nat) (f : SlotS → SlotS) : (m.modSlot n f).downCores = m.downCores := rfl
@[simp] theorem Mod.modSlot_fab (n : Nat) (f : SlotS → SlotS) : (m.modSlot n f).fab = m.fab := rfl
@[simp] theorem Mod.modSlot_servo (n : Nat) (f : SlotS → SlotS) : (m.modSlot n f).servo = m.servo := rfl
@[simp] theorem Mod.modSlot_mem (n : Nat) (f : SlotS → SlotS) : (m.modSlot n f).mem = m.mem := rfl
@[simp] theorem Mod.modSlot_prt (n : Nat) (f : SlotS → SlotS) : (m.modSlot n f).prt = m.prt := rfl
@[simp] theorem Mod.modSlot_clk (n : Nat) (f : SlotS → SlotS) : (m.modSlot n f).clk = m.clk := rfl
@[simp] theorem Mod.modSlot_cal (n : Nat) (f : SlotS → SlotS) : (m.modSlot n f).cal = m.cal := rfl
@[simp] theorem Mod.modSlot_hw (n : Nat) (f : SlotS → SlotS) : (m.modSlot n f).hw = m.hw := rfl

@[simp] theorem Mod.modPortQ_now (n : Nat) (f : PortQ → PortQ) : (m.modPortQ n f).now = m.now := rfl
@[simp] theorem Mod.modPortQ_ctr (n : Nat) (f : PortQ → PortQ) : (m.modPortQ n f).ctr = m.ctr := rfl
@[simp] theorem Mod.modPortQ_tick (n : Nat) (f : PortQ → PortQ) : (m.modPortQ n f).tick = m.tick := rfl
@[simp] theorem Mod.modPortQ_fam (n : Nat) (f : PortQ → PortQ) : (m.modPortQ n f).fam = m.fam := rfl
@[simp] theorem Mod.modPortQ_draws (n : Nat) (f : PortQ → PortQ) : (m.modPortQ n f).draws = m.draws := rfl
@[simp] theorem Mod.modPortQ_objs (n : Nat) (f : PortQ → PortQ) : (m.modPortQ n f).objs = m.objs := rfl
@[simp] theorem Mod.modPortQ_edgeObjs (n : Nat) (f : PortQ → PortQ) : (m.modPortQ n f).edgeObjs = m.edgeObjs := rfl
@[simp] theorem Mod.modPortQ_out (n : Nat) (f : PortQ → PortQ) : (m.modPortQ n f).out = m.out := rfl
@[simp] theorem Mod.modPortQ_raised (n : Nat) (f : PortQ → PortQ) : (m.modPortQ n f).raised = m.raised := rfl
@[simp] theorem Mod.modPortQ_conds (n : Nat) (f : PortQ → PortQ) : (m.modPortQ n f).conds = m.conds := rfl
@[simp] theorem Mod.modPortQ_limits (n : Nat) (f : PortQ → PortQ) : (m.modPortQ n f).limits = m.limits := rfl
@[simp] theorem Mod.modPortQ_seen (n : Nat) (f : PortQ → PortQ) : (m.modPortQ n f).seen = m.seen := rfl
@[simp] theorem Mod.modPortQ_timeFn (n : Nat) (f : PortQ → PortQ) : (m.modPortQ n f).timeFn = m.timeFn := rfl
@[simp] theorem Mod.modPortQ_twinFn (n : Nat) (f : PortQ → PortQ) : (m.modPortQ n f).twinFn = m.twinFn := rfl
@[simp] theorem Mod.modPortQ_rebooting (n : Nat) (f : PortQ → PortQ) : (m.modPortQ n f).rebooting = m.rebooting := rfl
@[simp] theorem Mod.modPortQ_preud (n : Nat) (f : PortQ → PortQ) : (m.modPortQ n f).preud = m.preud := rfl
@[simp] theorem Mod.modPortQ_chans (n : Nat) (f : PortQ → PortQ) : (m.modPortQ n f).chans = m.chans := rfl
@[simp] theorem Mod.modPortQ_rends (n : Nat) (f : PortQ → PortQ) : (m.modPortQ n f).rends = m.rends := rfl
@[simp] theorem Mod.modPortQ_groups (n : Nat) (f : PortQ → PortQ) : (m.modPortQ n f).groups = m.groups := rfl
@[simp] theorem Mod.modPortQ_scalers (n : Nat) (f : PortQ → PortQ) : (m.modPortQ n f).scalers = m.scalers := rfl
@[simp] theorem Mod.modPortQ_lanes (n : Nat) (f : PortQ → PortQ) : (m.modPortQ n f).lanes = m.lanes := rfl
@[simp] theorem Mod.modPortQ_ladderRows (n : Nat) (f : PortQ → PortQ) : (m.modPortQ n f).ladderRows = m.ladderRows := rfl
@[simp] theorem Mod.modPortQ_checks (n : Nat) (f : PortQ → PortQ) : (m.modPortQ n f).checks = m.checks := rfl
@[simp] theorem Mod.modPortQ_twin (n : Nat) (f : PortQ → PortQ) : (m.modPortQ n f).twin = m.twin := rfl
@[simp] theorem Mod.modPortQ_decs (n : Nat) (f : PortQ → PortQ) : (m.modPortQ n f).decs = m.decs := rfl
@[simp] theorem Mod.modPortQ_rings (n : Nat) (f : PortQ → PortQ) : (m.modPortQ n f).rings = m.rings := rfl
@[simp] theorem Mod.modPortQ_slots (n : Nat) (f : PortQ → PortQ) : (m.modPortQ n f).slots = m.slots := rfl
@[simp] theorem Mod.modPortQ_downCores (n : Nat) (f : PortQ → PortQ) : (m.modPortQ n f).downCores = m.downCores := rfl
@[simp] theorem Mod.modPortQ_servo (n : Nat) (f : PortQ → PortQ) : (m.modPortQ n f).servo = m.servo := rfl
@[simp] theorem Mod.modPortQ_mem (n : Nat) (f : PortQ → PortQ) : (m.modPortQ n f).mem = m.mem := rfl
@[simp] theorem Mod.modPortQ_prt (n : Nat) (f : PortQ → PortQ) : (m.modPortQ n f).prt = m.prt := rfl
@[simp] theorem Mod.modPortQ_clk (n : Nat) (f : PortQ → PortQ) : (m.modPortQ n f).clk = m.clk := rfl
@[simp] theorem Mod.modPortQ_cal (n : Nat) (f : PortQ → PortQ) : (m.modPortQ n f).cal = m.cal := rfl
@[simp] theorem Mod.modPortQ_hw (n : Nat) (f : PortQ → PortQ) : (m.modPortQ n f).hw = m.hw := rfl

@[simp] theorem Mod.modBring_now (n : Nat) (f : BringS → BringS) : (m.modBring n f).now = m.now := rfl
@[simp] theorem Mod.modBring_ctr (n : Nat) (f : BringS → BringS) : (m.modBring n f).ctr = m.ctr := rfl
@[simp] theorem Mod.modBring_tick (n : Nat) (f : BringS → BringS) : (m.modBring n f).tick = m.tick := rfl
@[simp] theorem Mod.modBring_fam (n : Nat) (f : BringS → BringS) : (m.modBring n f).fam = m.fam := rfl
@[simp] theorem Mod.modBring_draws (n : Nat) (f : BringS → BringS) : (m.modBring n f).draws = m.draws := rfl
@[simp] theorem Mod.modBring_objs (n : Nat) (f : BringS → BringS) : (m.modBring n f).objs = m.objs := rfl
@[simp] theorem Mod.modBring_edgeObjs (n : Nat) (f : BringS → BringS) : (m.modBring n f).edgeObjs = m.edgeObjs := rfl
@[simp] theorem Mod.modBring_out (n : Nat) (f : BringS → BringS) : (m.modBring n f).out = m.out := rfl
@[simp] theorem Mod.modBring_raised (n : Nat) (f : BringS → BringS) : (m.modBring n f).raised = m.raised := rfl
@[simp] theorem Mod.modBring_conds (n : Nat) (f : BringS → BringS) : (m.modBring n f).conds = m.conds := rfl
@[simp] theorem Mod.modBring_limits (n : Nat) (f : BringS → BringS) : (m.modBring n f).limits = m.limits := rfl
@[simp] theorem Mod.modBring_seen (n : Nat) (f : BringS → BringS) : (m.modBring n f).seen = m.seen := rfl
@[simp] theorem Mod.modBring_timeFn (n : Nat) (f : BringS → BringS) : (m.modBring n f).timeFn = m.timeFn := rfl
@[simp] theorem Mod.modBring_twinFn (n : Nat) (f : BringS → BringS) : (m.modBring n f).twinFn = m.twinFn := rfl
@[simp] theorem Mod.modBring_rebooting (n : Nat) (f : BringS → BringS) : (m.modBring n f).rebooting = m.rebooting := rfl
@[simp] theorem Mod.modBring_preud (n : Nat) (f : BringS → BringS) : (m.modBring n f).preud = m.preud := rfl
@[simp] theorem Mod.modBring_chans (n : Nat) (f : BringS → BringS) : (m.modBring n f).chans = m.chans := rfl
@[simp] theorem Mod.modBring_rends (n : Nat) (f : BringS → BringS) : (m.modBring n f).rends = m.rends := rfl
@[simp] theorem Mod.modBring_groups (n : Nat) (f : BringS → BringS) : (m.modBring n f).groups = m.groups := rfl
@[simp] theorem Mod.modBring_scalers (n : Nat) (f : BringS → BringS) : (m.modBring n f).scalers = m.scalers := rfl
@[simp] theorem Mod.modBring_lanes (n : Nat) (f : BringS → BringS) : (m.modBring n f).lanes = m.lanes := rfl
@[simp] theorem Mod.modBring_ladderRows (n : Nat) (f : BringS → BringS) : (m.modBring n f).ladderRows = m.ladderRows := rfl
@[simp] theorem Mod.modBring_checks (n : Nat) (f : BringS → BringS) : (m.modBring n f).checks = m.checks := rfl
@[simp] theorem Mod.modBring_twin (n : Nat) (f : BringS → BringS) : (m.modBring n f).twin = m.twin := rfl
@[simp] theorem Mod.modBring_decs (n : Nat) (f : BringS → BringS) : (m.modBring n f).decs = m.decs := rfl
@[simp] theorem Mod.modBring_rings (n : Nat) (f : BringS → BringS) : (m.modBring n f).rings = m.rings := rfl
@[simp] theorem Mod.modBring_slots (n : Nat) (f : BringS → BringS) : (m.modBring n f).slots = m.slots := rfl
@[simp] theorem Mod.modBring_downCores (n : Nat) (f : BringS → BringS) : (m.modBring n f).downCores = m.downCores := rfl
@[simp] theorem Mod.modBring_fab (n : Nat) (f : BringS → BringS) : (m.modBring n f).fab = m.fab := rfl
@[simp] theorem Mod.modBring_servo (n : Nat) (f : BringS → BringS) : (m.modBring n f).servo = m.servo := rfl
@[simp] theorem Mod.modBring_mem (n : Nat) (f : BringS → BringS) : (m.modBring n f).mem = m.mem := rfl
@[simp] theorem Mod.modBring_clk (n : Nat) (f : BringS → BringS) : (m.modBring n f).clk = m.clk := rfl
@[simp] theorem Mod.modBring_cal (n : Nat) (f : BringS → BringS) : (m.modBring n f).cal = m.cal := rfl
@[simp] theorem Mod.modBring_hw (n : Nat) (f : BringS → BringS) : (m.modBring n f).hw = m.hw := rfl

@[simp] theorem Mod.modCage_now (n : Nat) (f : CageS → CageS) : (m.modCage n f).now = m.now := rfl
@[simp] theorem Mod.modCage_ctr (n : Nat) (f : CageS → CageS) : (m.modCage n f).ctr = m.ctr := rfl
@[simp] theorem Mod.modCage_tick (n : Nat) (f : CageS → CageS) : (m.modCage n f).tick = m.tick := rfl
@[simp] theorem Mod.modCage_fam (n : Nat) (f : CageS → CageS) : (m.modCage n f).fam = m.fam := rfl
@[simp] theorem Mod.modCage_draws (n : Nat) (f : CageS → CageS) : (m.modCage n f).draws = m.draws := rfl
@[simp] theorem Mod.modCage_objs (n : Nat) (f : CageS → CageS) : (m.modCage n f).objs = m.objs := rfl
@[simp] theorem Mod.modCage_edgeObjs (n : Nat) (f : CageS → CageS) : (m.modCage n f).edgeObjs = m.edgeObjs := rfl
@[simp] theorem Mod.modCage_out (n : Nat) (f : CageS → CageS) : (m.modCage n f).out = m.out := rfl
@[simp] theorem Mod.modCage_raised (n : Nat) (f : CageS → CageS) : (m.modCage n f).raised = m.raised := rfl
@[simp] theorem Mod.modCage_conds (n : Nat) (f : CageS → CageS) : (m.modCage n f).conds = m.conds := rfl
@[simp] theorem Mod.modCage_limits (n : Nat) (f : CageS → CageS) : (m.modCage n f).limits = m.limits := rfl
@[simp] theorem Mod.modCage_seen (n : Nat) (f : CageS → CageS) : (m.modCage n f).seen = m.seen := rfl
@[simp] theorem Mod.modCage_timeFn (n : Nat) (f : CageS → CageS) : (m.modCage n f).timeFn = m.timeFn := rfl
@[simp] theorem Mod.modCage_twinFn (n : Nat) (f : CageS → CageS) : (m.modCage n f).twinFn = m.twinFn := rfl
@[simp] theorem Mod.modCage_rebooting (n : Nat) (f : CageS → CageS) : (m.modCage n f).rebooting = m.rebooting := rfl
@[simp] theorem Mod.modCage_preud (n : Nat) (f : CageS → CageS) : (m.modCage n f).preud = m.preud := rfl
@[simp] theorem Mod.modCage_chans (n : Nat) (f : CageS → CageS) : (m.modCage n f).chans = m.chans := rfl
@[simp] theorem Mod.modCage_rends (n : Nat) (f : CageS → CageS) : (m.modCage n f).rends = m.rends := rfl
@[simp] theorem Mod.modCage_groups (n : Nat) (f : CageS → CageS) : (m.modCage n f).groups = m.groups := rfl
@[simp] theorem Mod.modCage_scalers (n : Nat) (f : CageS → CageS) : (m.modCage n f).scalers = m.scalers := rfl
@[simp] theorem Mod.modCage_lanes (n : Nat) (f : CageS → CageS) : (m.modCage n f).lanes = m.lanes := rfl
@[simp] theorem Mod.modCage_ladderRows (n : Nat) (f : CageS → CageS) : (m.modCage n f).ladderRows = m.ladderRows := rfl
@[simp] theorem Mod.modCage_checks (n : Nat) (f : CageS → CageS) : (m.modCage n f).checks = m.checks := rfl
@[simp] theorem Mod.modCage_twin (n : Nat) (f : CageS → CageS) : (m.modCage n f).twin = m.twin := rfl
@[simp] theorem Mod.modCage_decs (n : Nat) (f : CageS → CageS) : (m.modCage n f).decs = m.decs := rfl
@[simp] theorem Mod.modCage_rings (n : Nat) (f : CageS → CageS) : (m.modCage n f).rings = m.rings := rfl
@[simp] theorem Mod.modCage_slots (n : Nat) (f : CageS → CageS) : (m.modCage n f).slots = m.slots := rfl
@[simp] theorem Mod.modCage_downCores (n : Nat) (f : CageS → CageS) : (m.modCage n f).downCores = m.downCores := rfl
@[simp] theorem Mod.modCage_fab (n : Nat) (f : CageS → CageS) : (m.modCage n f).fab = m.fab := rfl
@[simp] theorem Mod.modCage_servo (n : Nat) (f : CageS → CageS) : (m.modCage n f).servo = m.servo := rfl
@[simp] theorem Mod.modCage_mem (n : Nat) (f : CageS → CageS) : (m.modCage n f).mem = m.mem := rfl
@[simp] theorem Mod.modCage_clk (n : Nat) (f : CageS → CageS) : (m.modCage n f).clk = m.clk := rfl
@[simp] theorem Mod.modCage_cal (n : Nat) (f : CageS → CageS) : (m.modCage n f).cal = m.cal := rfl
@[simp] theorem Mod.modCage_hw (n : Nat) (f : CageS → CageS) : (m.modCage n f).hw = m.hw := rfl

end Sys2Proof.Machine
end

