-- ==== Sys2Proof/Laws/Store.lean ====
section
/-! SUPPORT. The laws of the object store: a value read after it was set, values left alone, and the canonical form. -/

namespace Sys2Proof.Machine

/-! ### Looking up -/

/-- What listing a value makes of a lookup. -/
theorem Store.lookup_insert (st : Store) (k j : Nat) (v : Val) :
    (st.insert k v).lookup j = if k = j then some v else st.lookup j := by
  fun_induction Store.insert st k v <;> grind [Store.lookup]

/-- What taking a key out makes of a lookup. -/
theorem Store.lookup_remove (st : Store) (k j : Nat) : (st.remove k).lookup j = if k = j then none else st.lookup j := by
  fun_induction Store.remove st k <;> grind [Store.lookup]

/-- A listed value is found. -/
@[simp] theorem Store.lookup_insert_same (st : Store) (k : Nat) (v : Val) : (st.insert k v).lookup k = some v := by
  simp [Store.lookup_insert]

/-- Listing one key leaves the others. -/
theorem Store.lookup_insert_other (st : Store) {k j : Nat} (v : Val) (h : k ≠ j) : (st.insert k v).lookup j = st.lookup j := by
  simp [Store.lookup_insert, h]

/-- A key taken out is not found. -/
@[simp] theorem Store.lookup_remove_same (st : Store) (k : Nat) : (st.remove k).lookup k = none := by
  simp [Store.lookup_remove]

/-- Taking one key out leaves the others. -/
theorem Store.lookup_remove_other (st : Store) {k j : Nat} (h : k ≠ j) : (st.remove k).lookup j = st.lookup j := by
  simp [Store.lookup_remove, h]

/-! ### Setting and getting -/

/-- What setting an object makes of a lookup of another key. -/
theorem Store.lookup_set_other (st : Store) {i s k : Nat} (v : Val) (h : keyOf i s ≠ k) : (st.set i s v).lookup k = st.lookup k := by
  unfold Store.set
  split <;> simp [Store.lookup_insert, Store.lookup_remove, h]

/-- Setting any object but the fuse ID leaves the fuse ID. -/
theorem Store.fuse_set (st : Store) (i s : Nat) (v : Val) (h : keyOf i s ≠ keyOf 0x1000 0x05) : (st.set i s v).fuse = st.fuse := by
  simp only [Store.fuse, Store.lookup_set_other st v h]

/-- A value set is the value read. -/
theorem Store.get_set_same (st : Store) (i s : Nat) (v : Val) (h : keyOf i s ≠ keyOf 0x1000 0x05) : (st.set i s v).get i s = v := by
  have hf := Store.fuse_set st i s v h
  by_cases hv : v = st.default i s
  · simp only [Store.get, Store.default, hf]
    simp [Store.set, hv, Store.default]
  · simp [Store.get, Store.set, hv]

/-- Setting one object leaves the others. -/
theorem Store.get_set_other (st : Store) {i s j t : Nat} (v : Val) (h : keyOf i s ≠ keyOf 0x1000 0x05)
    (hk : keyOf i s ≠ keyOf j t) : (st.set i s v).get j t = st.get j t := by
  simp only [Store.get, Store.default, Store.fuse_set st i s v h, Store.lookup_set_other st v hk]

/-! ### The canonical form -/

/-- The canonical form: the keys rise strictly. -/
theorem Store.rising_iff (st : Store) : st.rising = true ↔ st.Pairwise fun x y => x.1 < y.1 := by
  rw [← List.isChain_iff_pairwise (R := fun (x y : Nat × Val) => x.1 < y.1)]
  fun_induction Store.rising st <;> grind

/-- Every key of a canonical tail is above the head. -/
theorem Store.rising_head {x : Nat × Val} {r : Store} (h : Store.rising (x :: r) = true) : ∀ y ∈ r, x.1 < y.1 :=
  (List.pairwise_cons.mp ((Store.rising_iff _).mp h)).1

/-- What a store with a value listed holds. -/
theorem Store.mem_insert {st : Store} {k : Nat} {v : Val} {y : Nat × Val} (h : y ∈ st.insert k v) : y = (k, v) ∨ y ∈ st := by
  fun_induction Store.insert st k v <;> grind

/-- What a store with a key taken out holds. -/
theorem Store.mem_remove {st : Store} {k : Nat} {y : Nat × Val} (h : y ∈ st.remove k) : y ∈ st := by
  fun_induction Store.remove st k <;> grind

/-- Listing a value keeps the canonical form. -/
theorem Store.rising_insert {st : Store} (k : Nat) (v : Val) (h : st.rising = true) : (st.insert k v).rising = true := by
  rw [Store.rising_iff] at h ⊢
  fun_induction Store.insert st k v <;> grind [→ Store.mem_insert, List.pairwise_cons]

/-- Taking a key out keeps the canonical form. -/
theorem Store.rising_remove {st : Store} (k : Nat) (h : st.rising = true) : (st.remove k).rising = true := by
  rw [Store.rising_iff] at h ⊢
  fun_induction Store.remove st k <;> grind [→ Store.mem_remove, List.pairwise_cons]

/-- Setting an object keeps the canonical form. -/
theorem Store.rising_set {st : Store} (i s : Nat) (v : Val) (h : st.rising = true) : (st.set i s v).rising = true := by
  unfold Store.set
  split
  · exact Store.rising_remove _ h
  · exact Store.rising_insert _ _ h

/-- Leaving values out keeps the canonical form. -/
theorem Store.rising_filter {st : Store} (p : Nat × Val → Bool) (h : st.rising = true) : Store.rising (st.filter p) = true :=
  (Store.rising_iff _).mpr (((Store.rising_iff st).mp h).filter p)

/-! ### The same of the module's objects -/

variable (m : Mod)

/-- An object set reads the value set. -/
theorem Mod.get_set_same (i s : Nat) (v : Val) (h : keyOf i s ≠ keyOf 0x1000 0x05) : (m.set i s v).get i s = v :=
  Store.get_set_same m.objs i s v h

/-- Every other object reads as before. -/
theorem Mod.get_set_other {i s j t : Nat} (v : Val) (h : keyOf i s ≠ keyOf 0x1000 0x05) (hk : keyOf i s ≠ keyOf j t) :
    (m.set i s v).get j t = m.get j t := Store.get_set_other m.objs v h hk

/-- A number set is the number read. -/
theorem Mod.n_put_same (i s k : Nat) (h : keyOf i s ≠ keyOf 0x1000 0x05) : (m.put i s k).n i s = k := by
  have := m.get_set_same i s (.num k) h
  unfold Mod.n Mod.put
  rw [this]
  rfl

/-- Every other object reads as before. -/
theorem Mod.get_put_other {i s j t : Nat} (k : Nat) (h : keyOf i s ≠ keyOf 0x1000 0x05) (hk : keyOf i s ≠ keyOf j t) :
    (m.put i s k).get j t = m.get j t := m.get_set_other _ h hk

/-- A counter leaves every other object. -/
theorem Mod.get_count_other {i s j t : Nat} (k : Nat) (h : keyOf i s ≠ keyOf 0x1000 0x05) (hk : keyOf i s ≠ keyOf j t) :
    (m.count i s k).get j t = m.get j t := by
  unfold Mod.count
  split
  · exact m.get_put_other _ h hk
  · rfl

/-- A counter leaves every other object. -/
theorem Mod.get_bump_other {i s j t : Nat} (h : keyOf i s ≠ keyOf 0x1000 0x05) (hk : keyOf i s ≠ keyOf j t) :
    (m.bump i s).get j t = m.get j t := m.get_count_other 1 h hk

/-- An object is none of those that events move: 7400 and 7410. -/
def quiet (j t : Nat) : Prop := keyOf j t < keyOf 0x7400 0 ∨ keyOf 0x7411 0 ≤ keyOf j t

/-- One row of a table of areas keeps the bound. -/
theorem getD_row {c : Prop} [Decidable c] {a n : Nat} {o : Option Nat} (h : a ≤ n) (ho : o.getD 0 ≤ n) :
    (if c then some a else o).getD 0 ≤ n := by
  split
  · exact h
  · exact ho

/-- There are 17 areas. -/
theorem areaOfEvent_le (c : Nat) : areaOfEvent c ≤ 16 := by
  unfold areaOfEvent areaOf
  repeat refine getD_row (by decide) ?_
  decide

/-- An event moves no object but 7400 and 7410. -/
theorem Mod.get_raiseRaw_quiet {j t : Nat} (c r v : Nat) (p : List Nat) (h : quiet j t) :
    (m.raiseRaw c r v p).get j t = m.get j t := by
  have ha := areaOfEvent_le c
  unfold quiet keyOf at h
  unfold Mod.raiseRaw
  rw [Mod.get_bump_other, Mod.get_bump_other]
  · rfl
  · unfold keyOf; omega
  · unfold keyOf; omega
  · unfold keyOf; omega
  · unfold keyOf; omega

/-- An event moves no object but 7400 and 7410. -/
theorem Mod.get_raise_quiet {j t : Nat} (c r : Nat) (p : List Nat) (h : quiet j t) :
    (m.raise c r p).get j t = m.get j t := m.get_raiseRaw_quiet c r _ p h

/-- What is shown of the conditions is in 7400. -/
theorem Mod.get_showConds_quiet {j t : Nat} (h : quiet j t) : m.showConds.get j t = m.get j t := by
  unfold quiet keyOf at h
  unfold Mod.showConds
  rw [Mod.get_put_other, Mod.get_put_other]
  all_goals (unfold keyOf; omega)

/-- A condition moves no object but 7400 and 7410. -/
theorem Mod.get_raiseCond_quiet {j t : Nat} (c r : Nat) (p : List Nat) (h : quiet j t) :
    (m.raiseCond c r p).get j t = m.get j t := by
  unfold Mod.raiseCond
  split
  · rfl
  · dsimp only
    rw [Mod.get_raise_quiet _ _ _ _ h, Mod.get_showConds_quiet _ h]
    rfl

/-- A clearing event moves no object but 7400 and 7410. -/
theorem Mod.get_raiseClearIf_quiet {j t : Nat} (c r : Nat) (g : Condition → Bool) (p : List Nat) (h : quiet j t) :
    (m.raiseClearIf c r g p).get j t = m.get j t := by
  unfold Mod.raiseClearIf
  dsimp only
  split
  · rw [Mod.get_raiseRaw_quiet _ _ _ _ _ h]
  · rw [Mod.get_raiseRaw_quiet _ _ _ _ _ h, Mod.get_showConds_quiet _ h]
    rfl

/-- A limited event moves no object but 7400 and 7410. -/
theorem Mod.get_raiseLimitedBy_quiet {j t : Nat} (c r k : Nat) (d : Nanos) (p : List Nat) (h : quiet j t) :
    (m.raiseLimitedBy c r d k p).get j t = m.get j t := by
  have hb : ∀ m : Mod, (m.bump 0x7400 7).get j t = m.get j t := by
    intro m
    unfold quiet keyOf at h
    rw [Mod.get_bump_other] <;> (unfold keyOf; omega)
  unfold Mod.raiseLimitedBy
  split
  · dsimp only
    rw [Mod.get_raise_quiet _ _ _ _ h]
    rfl
  · split
    · dsimp only
      rw [Mod.get_raise_quiet _ _ _ _ h]
      rfl
    · dsimp only
      rw [hb]
      rfl

/-! ### Events -/

/-- An event is among those of its tick. -/
theorem Mod.mem_raise (c r : Nat) (p : List Nat) : (⟨c, r, severityOf c, p⟩ : Raised) ∈ (m.raise c r p).raised := by
  simp [Mod.raise, Mod.raiseRaw]

/-- An event keeps those raised before it. -/
theorem Mod.raiseRaw_raised (c r v : Nat) (p : List Nat) : (m.raiseRaw c r v p).raised = m.raised ++ [⟨c, r, v, p⟩] := by
  simp [Mod.raiseRaw]

/-- An event keeps those raised before it. -/
theorem Mod.raise_raised (c r : Nat) (p : List Nat) : (m.raise c r p).raised = m.raised ++ [⟨c, r, severityOf c, p⟩] :=
  m.raiseRaw_raised c r _ p

/-- A condition raised is set. -/
theorem Mod.raiseCond_set (c r : Nat) (p : List Nat) : (m.raiseCond c r p).condSet c r = true := by
  unfold Mod.raiseCond
  split
  · assumption
  · simp [Mod.condSet]

end Sys2Proof.Machine
end

