-- ==== Sys2Proof/Laws/Answers.lean ====
section
/-! SUPPORT. What sending and answering leave alone: one lemma per operation and field. -/

namespace Sys2Proof.Machine

variable (m : Mod)

@[simp] theorem Mod.countSent_now (p q n : Nat) : (m.countSent p q n).now = m.now := by
  simp only [Mod.countSent, Mod.count_now, Mod.bump_now]
@[simp] theorem Mod.countSent_ctr (p q n : Nat) : (m.countSent p q n).ctr = m.ctr := by
  simp only [Mod.countSent, Mod.count_ctr, Mod.bump_ctr]
@[simp] theorem Mod.countSent_tick (p q n : Nat) : (m.countSent p q n).tick = m.tick := by
  simp only [Mod.countSent, Mod.count_tick, Mod.bump_tick]
@[simp] theorem Mod.countSent_fam (p q n : Nat) : (m.countSent p q n).fam = m.fam := by
  simp only [Mod.countSent, Mod.count_fam, Mod.bump_fam]
@[simp] theorem Mod.countSent_draws (p q n : Nat) : (m.countSent p q n).draws = m.draws := by
  simp only [Mod.countSent, Mod.count_draws, Mod.bump_draws]
@[simp] theorem Mod.countSent_edgeObjs (p q n : Nat) : (m.countSent p q n).edgeObjs = m.edgeObjs := by
  simp only [Mod.countSent, Mod.count_edgeObjs, Mod.bump_edgeObjs]
@[simp] theorem Mod.countSent_out (p q n : Nat) : (m.countSent p q n).out = m.out := by
  simp only [Mod.countSent, Mod.count_out, Mod.bump_out]
@[simp] theorem Mod.countSent_raised (p q n : Nat) : (m.countSent p q n).raised = m.raised := by
  simp only [Mod.countSent, Mod.count_raised, Mod.bump_raised]
@[simp] theorem Mod.countSent_conds (p q n : Nat) : (m.countSent p q n).conds = m.conds := by
  simp only [Mod.countSent, Mod.count_conds, Mod.bump_conds]
@[simp] theorem Mod.countSent_limits (p q n : Nat) : (m.countSent p q n).limits = m.limits := by
  simp only [Mod.countSent, Mod.count_limits, Mod.bump_limits]
@[simp] theorem Mod.countSent_seen (p q n : Nat) : (m.countSent p q n).seen = m.seen := by
  simp only [Mod.countSent, Mod.count_seen, Mod.bump_seen]
@[simp] theorem Mod.countSent_timeFn (p q n : Nat) : (m.countSent p q n).timeFn = m.timeFn := by
  simp only [Mod.countSent, Mod.count_timeFn, Mod.bump_timeFn]
@[simp] theorem Mod.countSent_twinFn (p q n : Nat) : (m.countSent p q n).twinFn = m.twinFn := by
  simp only [Mod.countSent, Mod.count_twinFn, Mod.bump_twinFn]
@[simp] theorem Mod.countSent_rebooting (p q n : Nat) : (m.countSent p q n).rebooting = m.rebooting := by
  simp only [Mod.countSent, Mod.count_rebooting, Mod.bump_rebooting]
@[simp] theorem Mod.countSent_preud (p q n : Nat) : (m.countSent p q n).preud = m.preud := by
  simp only [Mod.countSent, Mod.count_preud, Mod.bump_preud]
@[simp] theorem Mod.countSent_chans (p q n : Nat) : (m.countSent p q n).chans = m.chans := by
  simp only [Mod.countSent, Mod.count_chans, Mod.bump_chans]
@[simp] theorem Mod.countSent_rends (p q n : Nat) : (m.countSent p q n).rends = m.rends := by
  simp only [Mod.countSent, Mod.count_rends, Mod.bump_rends]
@[simp] theorem Mod.countSent_groups (p q n : Nat) : (m.countSent p q n).groups = m.groups := by
  simp only [Mod.countSent, Mod.count_groups, Mod.bump_groups]
@[simp] theorem Mod.countSent_scalers (p q n : Nat) : (m.countSent p q n).scalers = m.scalers := by
  simp only [Mod.countSent, Mod.count_scalers, Mod.bump_scalers]
@[simp] theorem Mod.countSent_lanes (p q n : Nat) : (m.countSent p q n).lanes = m.lanes := by
  simp only [Mod.countSent, Mod.count_lanes, Mod.bump_lanes]
@[simp] theorem Mod.countSent_ladderRows (p q n : Nat) : (m.countSent p q n).ladderRows = m.ladderRows := by
  simp only [Mod.countSent, Mod.count_ladderRows, Mod.bump_ladderRows]
@[simp] theorem Mod.countSent_checks (p q n : Nat) : (m.countSent p q n).checks = m.checks := by
  simp only [Mod.countSent, Mod.count_checks, Mod.bump_checks]
@[simp] theorem Mod.countSent_twin (p q n : Nat) : (m.countSent p q n).twin = m.twin := by
  simp only [Mod.countSent, Mod.count_twin, Mod.bump_twin]
@[simp] theorem Mod.countSent_decs (p q n : Nat) : (m.countSent p q n).decs = m.decs := by
  simp only [Mod.countSent, Mod.count_decs, Mod.bump_decs]
@[simp] theorem Mod.countSent_rings (p q n : Nat) : (m.countSent p q n).rings = m.rings := by
  simp only [Mod.countSent, Mod.count_rings, Mod.bump_rings]
@[simp] theorem Mod.countSent_slots (p q n : Nat) : (m.countSent p q n).slots = m.slots := by
  simp only [Mod.countSent, Mod.count_slots, Mod.bump_slots]
@[simp] theorem Mod.countSent_downCores (p q n : Nat) : (m.countSent p q n).downCores = m.downCores := by
  simp only [Mod.countSent, Mod.count_downCores, Mod.bump_downCores]
@[simp] theorem Mod.countSent_fab (p q n : Nat) : (m.countSent p q n).fab = m.fab := by
  simp only [Mod.countSent, Mod.count_fab, Mod.bump_fab]
@[simp] theorem Mod.countSent_servo (p q n : Nat) : (m.countSent p q n).servo = m.servo := by
  simp only [Mod.countSent, Mod.count_servo, Mod.bump_servo]
@[simp] theorem Mod.countSent_mem (p q n : Nat) : (m.countSent p q n).mem = m.mem := by
  simp only [Mod.countSent, Mod.count_mem, Mod.bump_mem]
@[simp] theorem Mod.countSent_prt (p q n : Nat) : (m.countSent p q n).prt = m.prt := by
  simp only [Mod.countSent, Mod.count_prt, Mod.bump_prt]
@[simp] theorem Mod.countSent_clk (p q n : Nat) : (m.countSent p q n).clk = m.clk := by
  simp only [Mod.countSent, Mod.count_clk, Mod.bump_clk]
@[simp] theorem Mod.countSent_cal (p q n : Nat) : (m.countSent p q n).cal = m.cal := by
  simp only [Mod.countSent, Mod.count_cal, Mod.bump_cal]
@[simp] theorem Mod.countSent_hw (p q n : Nat) : (m.countSent p q n).hw = m.hw := by
  simp only [Mod.countSent, Mod.count_hw, Mod.bump_hw]

@[simp] theorem Mod.countOwn_now (p q : Nat) : (m.countOwn p q).now = m.now := by
  simp only [Mod.countOwn, Mod.draw_now, Mod.countSent_now]
@[simp] theorem Mod.countOwn_ctr (p q : Nat) : (m.countOwn p q).ctr = m.ctr := by
  simp only [Mod.countOwn, Mod.draw_ctr, Mod.countSent_ctr]
@[simp] theorem Mod.countOwn_tick (p q : Nat) : (m.countOwn p q).tick = m.tick := by
  simp only [Mod.countOwn, Mod.draw_tick, Mod.countSent_tick]
@[simp] theorem Mod.countOwn_fam (p q : Nat) : (m.countOwn p q).fam = m.fam := by
  simp only [Mod.countOwn, Mod.draw_fam, Mod.countSent_fam]
@[simp] theorem Mod.countOwn_edgeObjs (p q : Nat) : (m.countOwn p q).edgeObjs = m.edgeObjs := by
  simp only [Mod.countOwn, Mod.draw_edgeObjs, Mod.countSent_edgeObjs]
@[simp] theorem Mod.countOwn_out (p q : Nat) : (m.countOwn p q).out = m.out := by
  simp only [Mod.countOwn, Mod.draw_out, Mod.countSent_out]
@[simp] theorem Mod.countOwn_raised (p q : Nat) : (m.countOwn p q).raised = m.raised := by
  simp only [Mod.countOwn, Mod.draw_raised, Mod.countSent_raised]
@[simp] theorem Mod.countOwn_conds (p q : Nat) : (m.countOwn p q).conds = m.conds := by
  simp only [Mod.countOwn, Mod.draw_conds, Mod.countSent_conds]
@[simp] theorem Mod.countOwn_limits (p q : Nat) : (m.countOwn p q).limits = m.limits := by
  simp only [Mod.countOwn, Mod.draw_limits, Mod.countSent_limits]
@[simp] theorem Mod.countOwn_seen (p q : Nat) : (m.countOwn p q).seen = m.seen := by
  simp only [Mod.countOwn, Mod.draw_seen, Mod.countSent_seen]
@[simp] theorem Mod.countOwn_timeFn (p q : Nat) : (m.countOwn p q).timeFn = m.timeFn := by
  simp only [Mod.countOwn, Mod.draw_timeFn, Mod.countSent_timeFn]
@[simp] theorem Mod.countOwn_twinFn (p q : Nat) : (m.countOwn p q).twinFn = m.twinFn := by
  simp only [Mod.countOwn, Mod.draw_twinFn, Mod.countSent_twinFn]
@[simp] theorem Mod.countOwn_rebooting (p q : Nat) : (m.countOwn p q).rebooting = m.rebooting := by
  simp only [Mod.countOwn, Mod.draw_rebooting, Mod.countSent_rebooting]
@[simp] theorem Mod.countOwn_preud (p q : Nat) : (m.countOwn p q).preud = m.preud := by
  simp only [Mod.countOwn, Mod.draw_preud, Mod.countSent_preud]
@[simp] theorem Mod.countOwn_chans (p q : Nat) : (m.countOwn p q).chans = m.chans := by
  simp only [Mod.countOwn, Mod.draw_chans, Mod.countSent_chans]
@[simp] theorem Mod.countOwn_rends (p q : Nat) : (m.countOwn p q).rends = m.rends := by
  simp only [Mod.countOwn, Mod.draw_rends, Mod.countSent_rends]
@[simp] theorem Mod.countOwn_groups (p q : Nat) : (m.countOwn p q).groups = m.groups := by
  simp only [Mod.countOwn, Mod.draw_groups, Mod.countSent_groups]
@[simp] theorem Mod.countOwn_scalers (p q : Nat) : (m.countOwn p q).scalers = m.scalers := by
  simp only [Mod.countOwn, Mod.draw_scalers, Mod.countSent_scalers]
@[simp] theorem Mod.countOwn_lanes (p q : Nat) : (m.countOwn p q).lanes = m.lanes := by
  simp only [Mod.countOwn, Mod.draw_lanes, Mod.countSent_lanes]
@[simp] theorem Mod.countOwn_ladderRows (p q : Nat) : (m.countOwn p q).ladderRows = m.ladderRows := by
  simp only [Mod.countOwn, Mod.draw_ladderRows, Mod.countSent_ladderRows]
@[simp] theorem Mod.countOwn_checks (p q : Nat) : (m.countOwn p q).checks = m.checks := by
  simp only [Mod.countOwn, Mod.draw_checks, Mod.countSent_checks]
@[simp] theorem Mod.countOwn_twin (p q : Nat) : (m.countOwn p q).twin = m.twin := by
  simp only [Mod.countOwn, Mod.draw_twin, Mod.countSent_twin]
@[simp] theorem Mod.countOwn_decs (p q : Nat) : (m.countOwn p q).decs = m.decs := by
  simp only [Mod.countOwn, Mod.draw_decs, Mod.countSent_decs]
@[simp] theorem Mod.countOwn_rings (p q : Nat) : (m.countOwn p q).rings = m.rings := by
  simp only [Mod.countOwn, Mod.draw_rings, Mod.countSent_rings]
@[simp] theorem Mod.countOwn_slots (p q : Nat) : (m.countOwn p q).slots = m.slots := by
  simp only [Mod.countOwn, Mod.draw_slots, Mod.countSent_slots]
@[simp] theorem Mod.countOwn_downCores (p q : Nat) : (m.countOwn p q).downCores = m.downCores := by
  simp only [Mod.countOwn, Mod.draw_downCores, Mod.countSent_downCores]
@[simp] theorem Mod.countOwn_fab (p q : Nat) : (m.countOwn p q).fab = m.fab := by
  simp only [Mod.countOwn, Mod.draw_fab, Mod.countSent_fab]
@[simp] theorem Mod.countOwn_servo (p q : Nat) : (m.countOwn p q).servo = m.servo := by
  simp only [Mod.countOwn, Mod.draw_servo, Mod.countSent_servo]
@[simp] theorem Mod.countOwn_mem (p q : Nat) : (m.countOwn p q).mem = m.mem := by
  simp only [Mod.countOwn, Mod.draw_mem, Mod.countSent_mem]
@[simp] theorem Mod.countOwn_prt (p q : Nat) : (m.countOwn p q).prt = m.prt := by
  simp only [Mod.countOwn, Mod.draw_prt, Mod.countSent_prt]
@[simp] theorem Mod.countOwn_clk (p q : Nat) : (m.countOwn p q).clk = m.clk := by
  simp only [Mod.countOwn, Mod.draw_clk, Mod.countSent_clk]
@[simp] theorem Mod.countOwn_cal (p q : Nat) : (m.countOwn p q).cal = m.cal := by
  simp only [Mod.countOwn, Mod.draw_cal, Mod.countSent_cal]
@[simp] theorem Mod.countOwn_hw (p q : Nat) : (m.countOwn p q).hw = m.hw := by
  simp only [Mod.countOwn, Mod.draw_hw, Mod.countSent_hw]

@[simp] theorem Mod.sendOn_now (r : Route) (o : Output) : (m.sendOn r o).now = m.now := by
  unfold Mod.sendOn; dsimp only; split <;> simp only [Mod.countOwn_now, Mod.bump_now, Mod.send_now]
@[simp] theorem Mod.sendOn_ctr (r : Route) (o : Output) : (m.sendOn r o).ctr = m.ctr := by
  unfold Mod.sendOn; dsimp only; split <;> simp only [Mod.countOwn_ctr, Mod.bump_ctr, Mod.send_ctr]
@[simp] theorem Mod.sendOn_tick (r : Route) (o : Output) : (m.sendOn r o).tick = m.tick := by
  unfold Mod.sendOn; dsimp only; split <;> simp only [Mod.countOwn_tick, Mod.bump_tick, Mod.send_tick]
@[simp] theorem Mod.sendOn_fam (r : Route) (o : Output) : (m.sendOn r o).fam = m.fam := by
  unfold Mod.sendOn; dsimp only; split <;> simp only [Mod.countOwn_fam, Mod.bump_fam, Mod.send_fam]
@[simp] theorem Mod.sendOn_edgeObjs (r : Route) (o : Output) : (m.sendOn r o).edgeObjs = m.edgeObjs := by
  unfold Mod.sendOn; dsimp only; split <;> simp only [Mod.countOwn_edgeObjs, Mod.bump_edgeObjs, Mod.send_edgeObjs]
@[simp] theorem Mod.sendOn_raised (r : Route) (o : Output) : (m.sendOn r o).raised = m.raised := by
  unfold Mod.sendOn; dsimp only; split <;> simp only [Mod.countOwn_raised, Mod.bump_raised, Mod.send_raised]
@[simp] theorem Mod.sendOn_conds (r : Route) (o : Output) : (m.sendOn r o).conds = m.conds := by
  unfold Mod.sendOn; dsimp only; split <;> simp only [Mod.countOwn_conds, Mod.bump_conds, Mod.send_conds]
@[simp] theorem Mod.sendOn_limits (r : Route) (o : Output) : (m.sendOn r o).limits = m.limits := by
  unfold Mod.sendOn; dsimp only; split <;> simp only [Mod.countOwn_limits, Mod.bump_limits, Mod.send_limits]
@[simp] theorem Mod.sendOn_seen (r : Route) (o : Output) : (m.sendOn r o).seen = m.seen := by
  unfold Mod.sendOn; dsimp only; split <;> simp only [Mod.countOwn_seen, Mod.bump_seen, Mod.send_seen]
@[simp] theorem Mod.sendOn_timeFn (r : Route) (o : Output) : (m.sendOn r o).timeFn = m.timeFn := by
  unfold Mod.sendOn; dsimp only; split <;> simp only [Mod.countOwn_timeFn, Mod.bump_timeFn, Mod.send_timeFn]
@[simp] theorem Mod.sendOn_twinFn (r : Route) (o : Output) : (m.sendOn r o).twinFn = m.twinFn := by
  unfold Mod.sendOn; dsimp only; split <;> simp only [Mod.countOwn_twinFn, Mod.bump_twinFn, Mod.send_twinFn]
@[simp] theorem Mod.sendOn_rebooting (r : Route) (o : Output) : (m.sendOn r o).rebooting = m.rebooting := by
  unfold Mod.sendOn; dsimp only; split <;> simp only [Mod.countOwn_rebooting, Mod.bump_rebooting, Mod.send_rebooting]
@[simp] theorem Mod.sendOn_preud (r : Route) (o : Output) : (m.sendOn r o).preud = m.preud := by
  unfold Mod.sendOn; dsimp only; split <;> simp only [Mod.countOwn_preud, Mod.bump_preud, Mod.send_preud]
@[simp] theorem Mod.sendOn_chans (r : Route) (o : Output) : (m.sendOn r o).chans = m.chans := by
  unfold Mod.sendOn; dsimp only; split <;> simp only [Mod.countOwn_chans, Mod.bump_chans, Mod.send_chans]
@[simp] theorem Mod.sendOn_rends (r : Route) (o : Output) : (m.sendOn r o).rends = m.rends := by
  unfold Mod.sendOn; dsimp only; split <;> simp only [Mod.countOwn_rends, Mod.bump_rends, Mod.send_rends]
@[simp] theorem Mod.sendOn_groups (r : Route) (o : Output) : (m.sendOn r o).groups = m.groups := by
  unfold Mod.sendOn; dsimp only; split <;> simp only [Mod.countOwn_groups, Mod.bump_groups, Mod.send_groups]
@[simp] theorem Mod.sendOn_scalers (r : Route) (o : Output) : (m.sendOn r o).scalers = m.scalers := by
  unfold Mod.sendOn; dsimp only; split <;> simp only [Mod.countOwn_scalers, Mod.bump_scalers, Mod.send_scalers]
@[simp] theorem Mod.sendOn_lanes (r : Route) (o : Output) : (m.sendOn r o).lanes = m.lanes := by
  unfold Mod.sendOn; dsimp only; split <;> simp only [Mod.countOwn_lanes, Mod.bump_lanes, Mod.send_lanes]
@[simp] theorem Mod.sendOn_ladderRows (r : Route) (o : Output) : (m.sendOn r o).ladderRows = m.ladderRows := by
  unfold Mod.sendOn; dsimp only; split <;> simp only [Mod.countOwn_ladderRows, Mod.bump_ladderRows, Mod.send_ladderRows]
@[simp] theorem Mod.sendOn_checks (r : Route) (o : Output) : (m.sendOn r o).checks = m.checks := by
  unfold Mod.sendOn; dsimp only; split <;> simp only [Mod.countOwn_checks, Mod.bump_checks, Mod.send_checks]
@[simp] theorem Mod.sendOn_twin (r : Route) (o : Output) : (m.sendOn r o).twin = m.twin := by
  unfold Mod.sendOn; dsimp only; split <;> simp only [Mod.countOwn_twin, Mod.bump_twin, Mod.send_twin]
@[simp] theorem Mod.sendOn_decs (r : Route) (o : Output) : (m.sendOn r o).decs = m.decs := by
  unfold Mod.sendOn; dsimp only; split <;> simp only [Mod.countOwn_decs, Mod.bump_decs, Mod.send_decs]
@[simp] theorem Mod.sendOn_rings (r : Route) (o : Output) : (m.sendOn r o).rings = m.rings := by
  unfold Mod.sendOn; dsimp only; split <;> simp only [Mod.countOwn_rings, Mod.bump_rings, Mod.send_rings]
@[simp] theorem Mod.sendOn_slots (r : Route) (o : Output) : (m.sendOn r o).slots = m.slots := by
  unfold Mod.sendOn; dsimp only; split <;> simp only [Mod.countOwn_slots, Mod.bump_slots, Mod.send_slots]
@[simp] theorem Mod.sendOn_downCores (r : Route) (o : Output) : (m.sendOn r o).downCores = m.downCores := by
  unfold Mod.sendOn; dsimp only; split <;> simp only [Mod.countOwn_downCores, Mod.bump_downCores, Mod.send_downCores]
@[simp] theorem Mod.sendOn_fab (r : Route) (o : Output) : (m.sendOn r o).fab = m.fab := by
  unfold Mod.sendOn; dsimp only; split <;> simp only [Mod.countOwn_fab, Mod.bump_fab, Mod.send_fab]
@[simp] theorem Mod.sendOn_servo (r : Route) (o : Output) : (m.sendOn r o).servo = m.servo := by
  unfold Mod.sendOn; dsimp only; split <;> simp only [Mod.countOwn_servo, Mod.bump_servo, Mod.send_servo]
@[simp] theorem Mod.sendOn_mem (r : Route) (o : Output) : (m.sendOn r o).mem = m.mem := by
  unfold Mod.sendOn; dsimp only; split <;> simp only [Mod.countOwn_mem, Mod.bump_mem, Mod.send_mem]
@[simp] theorem Mod.sendOn_prt (r : Route) (o : Output) : (m.sendOn r o).prt = m.prt := by
  unfold Mod.sendOn; dsimp only; split <;> simp only [Mod.countOwn_prt, Mod.bump_prt, Mod.send_prt]
@[simp] theorem Mod.sendOn_clk (r : Route) (o : Output) : (m.sendOn r o).clk = m.clk := by
  unfold Mod.sendOn; dsimp only; split <;> simp only [Mod.countOwn_clk, Mod.bump_clk, Mod.send_clk]
@[simp] theorem Mod.sendOn_cal (r : Route) (o : Output) : (m.sendOn r o).cal = m.cal := by
  unfold Mod.sendOn; dsimp only; split <;> simp only [Mod.countOwn_cal, Mod.bump_cal, Mod.send_cal]
@[simp] theorem Mod.sendOn_hw (r : Route) (o : Output) : (m.sendOn r o).hw = m.hw := by
  unfold Mod.sendOn; dsimp only; split <;> simp only [Mod.countOwn_hw, Mod.bump_hw, Mod.send_hw]

@[simp] theorem Mod.arrives_now (r : Route) : (m.arrives r).now = m.now := by
  unfold Mod.arrives; split <;> simp only [Mod.bump_now]
@[simp] theorem Mod.arrives_ctr (r : Route) : (m.arrives r).ctr = m.ctr := by
  unfold Mod.arrives; split <;> simp only [Mod.bump_ctr]
@[simp] theorem Mod.arrives_tick (r : Route) : (m.arrives r).tick = m.tick := by
  unfold Mod.arrives; split <;> simp only [Mod.bump_tick]
@[simp] theorem Mod.arrives_fam (r : Route) : (m.arrives r).fam = m.fam := by
  unfold Mod.arrives; split <;> simp only [Mod.bump_fam]
@[simp] theorem Mod.arrives_draws (r : Route) : (m.arrives r).draws = m.draws := by
  unfold Mod.arrives; split <;> simp only [Mod.bump_draws]
@[simp] theorem Mod.arrives_edgeObjs (r : Route) : (m.arrives r).edgeObjs = m.edgeObjs := by
  unfold Mod.arrives; split <;> simp only [Mod.bump_edgeObjs]
@[simp] theorem Mod.arrives_out (r : Route) : (m.arrives r).out = m.out := by
  unfold Mod.arrives; split <;> simp only [Mod.bump_out]
@[simp] theorem Mod.arrives_raised (r : Route) : (m.arrives r).raised = m.raised := by
  unfold Mod.arrives; split <;> simp only [Mod.bump_raised]
@[simp] theorem Mod.arrives_conds (r : Route) : (m.arrives r).conds = m.conds := by
  unfold Mod.arrives; split <;> simp only [Mod.bump_conds]
@[simp] theorem Mod.arrives_limits (r : Route) : (m.arrives r).limits = m.limits := by
  unfold Mod.arrives; split <;> simp only [Mod.bump_limits]
@[simp] theorem Mod.arrives_seen (r : Route) : (m.arrives r).seen = m.seen := by
  unfold Mod.arrives; split <;> simp only [Mod.bump_seen]
@[simp] theorem Mod.arrives_timeFn (r : Route) : (m.arrives r).timeFn = m.timeFn := by
  unfold Mod.arrives; split <;> simp only [Mod.bump_timeFn]
@[simp] theorem Mod.arrives_twinFn (r : Route) : (m.arrives r).twinFn = m.twinFn := by
  unfold Mod.arrives; split <;> simp only [Mod.bump_twinFn]
@[simp] theorem Mod.arrives_rebooting (r : Route) : (m.arrives r).rebooting = m.rebooting := by
  unfold Mod.arrives; split <;> simp only [Mod.bump_rebooting]
@[simp] theorem Mod.arrives_preud (r : Route) : (m.arrives r).preud = m.preud := by
  unfold Mod.arrives; split <;> simp only [Mod.bump_preud]
@[simp] theorem Mod.arrives_chans (r : Route) : (m.arrives r).chans = m.chans := by
  unfold Mod.arrives; split <;> simp only [Mod.bump_chans]
@[simp] theorem Mod.arrives_rends (r : Route) : (m.arrives r).rends = m.rends := by
  unfold Mod.arrives; split <;> simp only [Mod.bump_rends]
@[simp] theorem Mod.arrives_groups (r : Route) : (m.arrives r).groups = m.groups := by
  unfold Mod.arrives; split <;> simp only [Mod.bump_groups]
@[simp] theorem Mod.arrives_scalers (r : Route) : (m.arrives r).scalers = m.scalers := by
  unfold Mod.arrives; split <;> simp only [Mod.bump_scalers]
@[simp] theorem Mod.arrives_lanes (r : Route) : (m.arrives r).lanes = m.lanes := by
  unfold Mod.arrives; split <;> simp only [Mod.bump_lanes]
@[simp] theorem Mod.arrives_ladderRows (r : Route) : (m.arrives r).ladderRows = m.ladderRows := by
  unfold Mod.arrives; split <;> simp only [Mod.bump_ladderRows]
@[simp] theorem Mod.arrives_checks (r : Route) : (m.arrives r).checks = m.checks := by
  unfold Mod.arrives; split <;> simp only [Mod.bump_checks]
@[simp] theorem Mod.arrives_twin (r : Route) : (m.arrives r).twin = m.twin := by
  unfold Mod.arrives; split <;> simp only [Mod.bump_twin]
@[simp] theorem Mod.arrives_decs (r : Route) : (m.arrives r).decs = m.decs := by
  unfold Mod.arrives; split <;> simp only [Mod.bump_decs]
@[simp] theorem Mod.arrives_rings (r : Route) : (m.arrives r).rings = m.rings := by
  unfold Mod.arrives; split <;> simp only [Mod.bump_rings]
@[simp] theorem Mod.arrives_slots (r : Route) : (m.arrives r).slots = m.slots := by
  unfold Mod.arrives; split <;> simp only [Mod.bump_slots]
@[simp] theorem Mod.arrives_downCores (r : Route) : (m.arrives r).downCores = m.downCores := by
  unfold Mod.arrives; split <;> simp only [Mod.bump_downCores]
@[simp] theorem Mod.arrives_fab (r : Route) : (m.arrives r).fab = m.fab := by
  unfold Mod.arrives; split <;> simp only [Mod.bump_fab]
@[simp] theorem Mod.arrives_servo (r : Route) : (m.arrives r).servo = m.servo := by
  unfold Mod.arrives; split <;> simp only [Mod.bump_servo]
@[simp] theorem Mod.arrives_mem (r : Route) : (m.arrives r).mem = m.mem := by
  unfold Mod.arrives; split <;> simp only [Mod.bump_mem]
@[simp] theorem Mod.arrives_prt (r : Route) : (m.arrives r).prt = m.prt := by
  unfold Mod.arrives; split <;> simp only [Mod.bump_prt]
@[simp] theorem Mod.arrives_clk (r : Route) : (m.arrives r).clk = m.clk := by
  unfold Mod.arrives; split <;> simp only [Mod.bump_clk]
@[simp] theorem Mod.arrives_cal (r : Route) : (m.arrives r).cal = m.cal := by
  unfold Mod.arrives; split <;> simp only [Mod.bump_cal]
@[simp] theorem Mod.arrives_hw (r : Route) : (m.arrives r).hw = m.hw := by
  unfold Mod.arrives; split <;> simp only [Mod.bump_hw]

@[simp] theorem Mod.answer_now (f : Frame) (c : Nat) (r : Reply) : (m.answer f c r).now = m.now := by
  simp only [Mod.answer, Mod.sendOn_now]
@[simp] theorem Mod.answer_ctr (f : Frame) (c : Nat) (r : Reply) : (m.answer f c r).ctr = m.ctr := by
  simp only [Mod.answer, Mod.sendOn_ctr]
@[simp] theorem Mod.answer_tick (f : Frame) (c : Nat) (r : Reply) : (m.answer f c r).tick = m.tick := by
  simp only [Mod.answer, Mod.sendOn_tick]
@[simp] theorem Mod.answer_fam (f : Frame) (c : Nat) (r : Reply) : (m.answer f c r).fam = m.fam := by
  simp only [Mod.answer, Mod.sendOn_fam]
@[simp] theorem Mod.answer_edgeObjs (f : Frame) (c : Nat) (r : Reply) : (m.answer f c r).edgeObjs = m.edgeObjs := by
  simp only [Mod.answer, Mod.sendOn_edgeObjs]
@[simp] theorem Mod.answer_raised (f : Frame) (c : Nat) (r : Reply) : (m.answer f c r).raised = m.raised := by
  simp only [Mod.answer, Mod.sendOn_raised]
@[simp] theorem Mod.answer_conds (f : Frame) (c : Nat) (r : Reply) : (m.answer f c r).conds = m.conds := by
  simp only [Mod.answer, Mod.sendOn_conds]
@[simp] theorem Mod.answer_limits (f : Frame) (c : Nat) (r : Reply) : (m.answer f c r).limits = m.limits := by
  simp only [Mod.answer, Mod.sendOn_limits]
@[simp] theorem Mod.answer_seen (f : Frame) (c : Nat) (r : Reply) : (m.answer f c r).seen = m.seen := by
  simp only [Mod.answer, Mod.sendOn_seen]
@[simp] theorem Mod.answer_timeFn (f : Frame) (c : Nat) (r : Reply) : (m.answer f c r).timeFn = m.timeFn := by
  simp only [Mod.answer, Mod.sendOn_timeFn]
@[simp] theorem Mod.answer_twinFn (f : Frame) (c : Nat) (r : Reply) : (m.answer f c r).twinFn = m.twinFn := by
  simp only [Mod.answer, Mod.sendOn_twinFn]
@[simp] theorem Mod.answer_rebooting (f : Frame) (c : Nat) (r : Reply) : (m.answer f c r).rebooting = m.rebooting := by
  simp only [Mod.answer, Mod.sendOn_rebooting]
@[simp] theorem Mod.answer_preud (f : Frame) (c : Nat) (r : Reply) : (m.answer f c r).preud = m.preud := by
  simp only [Mod.answer, Mod.sendOn_preud]
@[simp] theorem Mod.answer_chans (f : Frame) (c : Nat) (r : Reply) : (m.answer f c r).chans = m.chans := by
  simp only [Mod.answer, Mod.sendOn_chans]
@[simp] theorem Mod.answer_rends (f : Frame) (c : Nat) (r : Reply) : (m.answer f c r).rends = m.rends := by
  simp only [Mod.answer, Mod.sendOn_rends]
@[simp] theorem Mod.answer_groups (f : Frame) (c : Nat) (r : Reply) : (m.answer f c r).groups = m.groups := by
  simp only [Mod.answer, Mod.sendOn_groups]
@[simp] theorem Mod.answer_scalers (f : Frame) (c : Nat) (r : Reply) : (m.answer f c r).scalers = m.scalers := by
  simp only [Mod.answer, Mod.sendOn_scalers]
@[simp] theorem Mod.answer_lanes (f : Frame) (c : Nat) (r : Reply) : (m.answer f c r).lanes = m.lanes := by
  simp only [Mod.answer, Mod.sendOn_lanes]
@[simp] theorem Mod.answer_ladderRows (f : Frame) (c : Nat) (r : Reply) : (m.answer f c r).ladderRows = m.ladderRows := by
  simp only [Mod.answer, Mod.sendOn_ladderRows]
@[simp] theorem Mod.answer_checks (f : Frame) (c : Nat) (r : Reply) : (m.answer f c r).checks = m.checks := by
  simp only [Mod.answer, Mod.sendOn_checks]
@[simp] theorem Mod.answer_twin (f : Frame) (c : Nat) (r : Reply) : (m.answer f c r).twin = m.twin := by
  simp only [Mod.answer, Mod.sendOn_twin]
@[simp] theorem Mod.answer_decs (f : Frame) (c : Nat) (r : Reply) : (m.answer f c r).decs = m.decs := by
  simp only [Mod.answer, Mod.sendOn_decs]
@[simp] theorem Mod.answer_rings (f : Frame) (c : Nat) (r : Reply) : (m.answer f c r).rings = m.rings := by
  simp only [Mod.answer, Mod.sendOn_rings]
@[simp] theorem Mod.answer_slots (f : Frame) (c : Nat) (r : Reply) : (m.answer f c r).slots = m.slots := by
  simp only [Mod.answer, Mod.sendOn_slots]
@[simp] theorem Mod.answer_downCores (f : Frame) (c : Nat) (r : Reply) : (m.answer f c r).downCores = m.downCores := by
  simp only [Mod.answer, Mod.sendOn_downCores]
@[simp] theorem Mod.answer_fab (f : Frame) (c : Nat) (r : Reply) : (m.answer f c r).fab = m.fab := by
  simp only [Mod.answer, Mod.sendOn_fab]
@[simp] theorem Mod.answer_servo (f : Frame) (c : Nat) (r : Reply) : (m.answer f c r).servo = m.servo := by
  simp only [Mod.answer, Mod.sendOn_servo]
@[simp] theorem Mod.answer_mem (f : Frame) (c : Nat) (r : Reply) : (m.answer f c r).mem = m.mem := by
  simp only [Mod.answer, Mod.sendOn_mem]
@[simp] theorem Mod.answer_prt (f : Frame) (c : Nat) (r : Reply) : (m.answer f c r).prt = m.prt := by
  simp only [Mod.answer, Mod.sendOn_prt]
@[simp] theorem Mod.answer_clk (f : Frame) (c : Nat) (r : Reply) : (m.answer f c r).clk = m.clk := by
  simp only [Mod.answer, Mod.sendOn_clk]
@[simp] theorem Mod.answer_cal (f : Frame) (c : Nat) (r : Reply) : (m.answer f c r).cal = m.cal := by
  simp only [Mod.answer, Mod.sendOn_cal]
@[simp] theorem Mod.answer_hw (f : Frame) (c : Nat) (r : Reply) : (m.answer f c r).hw = m.hw := by
  simp only [Mod.answer, Mod.sendOn_hw]

@[simp] theorem Mod.modSession_now (sid : Nat) (g : Session → Session) : (m.modSession sid g).now = m.now := rfl
@[simp] theorem Mod.modSession_ctr (sid : Nat) (g : Session → Session) : (m.modSession sid g).ctr = m.ctr := rfl
@[simp] theorem Mod.modSession_tick (sid : Nat) (g : Session → Session) : (m.modSession sid g).tick = m.tick := rfl
@[simp] theorem Mod.modSession_fam (sid : Nat) (g : Session → Session) : (m.modSession sid g).fam = m.fam := rfl
@[simp] theorem Mod.modSession_draws (sid : Nat) (g : Session → Session) : (m.modSession sid g).draws = m.draws := rfl
@[simp] theorem Mod.modSession_objs (sid : Nat) (g : Session → Session) : (m.modSession sid g).objs = m.objs := rfl
@[simp] theorem Mod.modSession_edgeObjs (sid : Nat) (g : Session → Session) : (m.modSession sid g).edgeObjs = m.edgeObjs := rfl
@[simp] theorem Mod.modSession_out (sid : Nat) (g : Session → Session) : (m.modSession sid g).out = m.out := rfl
@[simp] theorem Mod.modSession_raised (sid : Nat) (g : Session → Session) : (m.modSession sid g).raised = m.raised := rfl
@[simp] theorem Mod.modSession_conds (sid : Nat) (g : Session → Session) : (m.modSession sid g).conds = m.conds := rfl
@[simp] theorem Mod.modSession_limits (sid : Nat) (g : Session → Session) : (m.modSession sid g).limits = m.limits := rfl
@[simp] theorem Mod.modSession_seen (sid : Nat) (g : Session → Session) : (m.modSession sid g).seen = m.seen := rfl
@[simp] theorem Mod.modSession_timeFn (sid : Nat) (g : Session → Session) : (m.modSession sid g).timeFn = m.timeFn := rfl
@[simp] theorem Mod.modSession_twinFn (sid : Nat) (g : Session → Session) : (m.modSession sid g).twinFn = m.twinFn := rfl
@[simp] theorem Mod.modSession_rebooting (sid : Nat) (g : Session → Session) : (m.modSession sid g).rebooting = m.rebooting := rfl
@[simp] theorem Mod.modSession_chans (sid : Nat) (g : Session → Session) : (m.modSession sid g).chans = m.chans := rfl
@[simp] theorem Mod.modSession_rends (sid : Nat) (g : Session → Session) : (m.modSession sid g).rends = m.rends := rfl
@[simp] theorem Mod.modSession_groups (sid : Nat) (g : Session → Session) : (m.modSession sid g).groups = m.groups := rfl
@[simp] theorem Mod.modSession_scalers (sid : Nat) (g : Session → Session) : (m.modSession sid g).scalers = m.scalers := rfl
@[simp] theorem Mod.modSession_lanes (sid : Nat) (g : Session → Session) : (m.modSession sid g).lanes = m.lanes := rfl
@[simp] theorem Mod.modSession_ladderRows (sid : Nat) (g : Session → Session) : (m.modSession sid g).ladderRows = m.ladderRows := rfl
@[simp] theorem Mod.modSession_checks (sid : Nat) (g : Session → Session) : (m.modSession sid g).checks = m.checks := rfl
@[simp] theorem Mod.modSession_twin (sid : Nat) (g : Session → Session) : (m.modSession sid g).twin = m.twin := rfl
@[simp] theorem Mod.modSession_decs (sid : Nat) (g : Session → Session) : (m.modSession sid g).decs = m.decs := rfl
@[simp] theorem Mod.modSession_rings (sid : Nat) (g : Session → Session) : (m.modSession sid g).rings = m.rings := rfl
@[simp] theorem Mod.modSession_slots (sid : Nat) (g : Session → Session) : (m.modSession sid g).slots = m.slots := rfl
@[simp] theorem Mod.modSession_downCores (sid : Nat) (g : Session → Session) : (m.modSession sid g).downCores = m.downCores := rfl
@[simp] theorem Mod.modSession_fab (sid : Nat) (g : Session → Session) : (m.modSession sid g).fab = m.fab := rfl
@[simp] theorem Mod.modSession_servo (sid : Nat) (g : Session → Session) : (m.modSession sid g).servo = m.servo := rfl
@[simp] theorem Mod.modSession_mem (sid : Nat) (g : Session → Session) : (m.modSession sid g).mem = m.mem := rfl
@[simp] theorem Mod.modSession_prt (sid : Nat) (g : Session → Session) : (m.modSession sid g).prt = m.prt := rfl
@[simp] theorem Mod.modSession_clk (sid : Nat) (g : Session → Session) : (m.modSession sid g).clk = m.clk := rfl
@[simp] theorem Mod.modSession_cal (sid : Nat) (g : Session → Session) : (m.modSession sid g).cal = m.cal := rfl
@[simp] theorem Mod.modSession_hw (sid : Nat) (g : Session → Session) : (m.modSession sid g).hw = m.hw := rfl

@[simp] theorem Mod.heardFrom_now (f : Frame) : (m.heardFrom f).now = m.now := by
  simp only [Mod.heardFrom, Mod.modSession_now, Mod.arrives_now]
@[simp] theorem Mod.heardFrom_ctr (f : Frame) : (m.heardFrom f).ctr = m.ctr := by
  simp only [Mod.heardFrom, Mod.modSession_ctr, Mod.arrives_ctr]
@[simp] theorem Mod.heardFrom_tick (f : Frame) : (m.heardFrom f).tick = m.tick := by
  simp only [Mod.heardFrom, Mod.modSession_tick, Mod.arrives_tick]
@[simp] theorem Mod.heardFrom_fam (f : Frame) : (m.heardFrom f).fam = m.fam := by
  simp only [Mod.heardFrom, Mod.modSession_fam, Mod.arrives_fam]
@[simp] theorem Mod.heardFrom_draws (f : Frame) : (m.heardFrom f).draws = m.draws := by
  simp only [Mod.heardFrom, Mod.modSession_draws, Mod.arrives_draws]
@[simp] theorem Mod.heardFrom_edgeObjs (f : Frame) : (m.heardFrom f).edgeObjs = m.edgeObjs := by
  simp only [Mod.heardFrom, Mod.modSession_edgeObjs, Mod.arrives_edgeObjs]
@[simp] theorem Mod.heardFrom_out (f : Frame) : (m.heardFrom f).out = m.out := by
  simp only [Mod.heardFrom, Mod.modSession_out, Mod.arrives_out]
@[simp] theorem Mod.heardFrom_raised (f : Frame) : (m.heardFrom f).raised = m.raised := by
  simp only [Mod.heardFrom, Mod.modSession_raised, Mod.arrives_raised]
@[simp] theorem Mod.heardFrom_conds (f : Frame) : (m.heardFrom f).conds = m.conds := by
  simp only [Mod.heardFrom, Mod.modSession_conds, Mod.arrives_conds]
@[simp] theorem Mod.heardFrom_limits (f : Frame) : (m.heardFrom f).limits = m.limits := by
  simp only [Mod.heardFrom, Mod.modSession_limits, Mod.arrives_limits]
@[simp] theorem Mod.heardFrom_seen (f : Frame) : (m.heardFrom f).seen = m.seen := by
  simp only [Mod.heardFrom, Mod.modSession_seen, Mod.arrives_seen]
@[simp] theorem Mod.heardFrom_timeFn (f : Frame) : (m.heardFrom f).timeFn = m.timeFn := by
  simp only [Mod.heardFrom, Mod.modSession_timeFn, Mod.arrives_timeFn]
@[simp] theorem Mod.heardFrom_twinFn (f : Frame) : (m.heardFrom f).twinFn = m.twinFn := by
  simp only [Mod.heardFrom, Mod.modSession_twinFn, Mod.arrives_twinFn]
@[simp] theorem Mod.heardFrom_rebooting (f : Frame) : (m.heardFrom f).rebooting = m.rebooting := by
  simp only [Mod.heardFrom, Mod.modSession_rebooting, Mod.arrives_rebooting]
@[simp] theorem Mod.heardFrom_chans (f : Frame) : (m.heardFrom f).chans = m.chans := by
  simp only [Mod.heardFrom, Mod.modSession_chans, Mod.arrives_chans]
@[simp] theorem Mod.heardFrom_rends (f : Frame) : (m.heardFrom f).rends = m.rends := by
  simp only [Mod.heardFrom, Mod.modSession_rends, Mod.arrives_rends]
@[simp] theorem Mod.heardFrom_groups (f : Frame) : (m.heardFrom f).groups = m.groups := by
  simp only [Mod.heardFrom, Mod.modSession_groups, Mod.arrives_groups]
@[simp] theorem Mod.heardFrom_scalers (f : Frame) : (m.heardFrom f).scalers = m.scalers := by
  simp only [Mod.heardFrom, Mod.modSession_scalers, Mod.arrives_scalers]
@[simp] theorem Mod.heardFrom_lanes (f : Frame) : (m.heardFrom f).lanes = m.lanes := by
  simp only [Mod.heardFrom, Mod.modSession_lanes, Mod.arrives_lanes]
@[simp] theorem Mod.heardFrom_ladderRows (f : Frame) : (m.heardFrom f).ladderRows = m.ladderRows := by
  simp only [Mod.heardFrom, Mod.modSession_ladderRows, Mod.arrives_ladderRows]
@[simp] theorem Mod.heardFrom_checks (f : Frame) : (m.heardFrom f).checks = m.checks := by
  simp only [Mod.heardFrom, Mod.modSession_checks, Mod.arrives_checks]
@[simp] theorem Mod.heardFrom_twin (f : Frame) : (m.heardFrom f).twin = m.twin := by
  simp only [Mod.heardFrom, Mod.modSession_twin, Mod.arrives_twin]
@[simp] theorem Mod.heardFrom_decs (f : Frame) : (m.heardFrom f).decs = m.decs := by
  simp only [Mod.heardFrom, Mod.modSession_decs, Mod.arrives_decs]
@[simp] theorem Mod.heardFrom_rings (f : Frame) : (m.heardFrom f).rings = m.rings := by
  simp only [Mod.heardFrom, Mod.modSession_rings, Mod.arrives_rings]
@[simp] theorem Mod.heardFrom_slots (f : Frame) : (m.heardFrom f).slots = m.slots := by
  simp only [Mod.heardFrom, Mod.modSession_slots, Mod.arrives_slots]
@[simp] theorem Mod.heardFrom_downCores (f : Frame) : (m.heardFrom f).downCores = m.downCores := by
  simp only [Mod.heardFrom, Mod.modSession_downCores, Mod.arrives_downCores]
@[simp] theorem Mod.heardFrom_fab (f : Frame) : (m.heardFrom f).fab = m.fab := by
  simp only [Mod.heardFrom, Mod.modSession_fab, Mod.arrives_fab]
@[simp] theorem Mod.heardFrom_servo (f : Frame) : (m.heardFrom f).servo = m.servo := by
  simp only [Mod.heardFrom, Mod.modSession_servo, Mod.arrives_servo]
@[simp] theorem Mod.heardFrom_mem (f : Frame) : (m.heardFrom f).mem = m.mem := by
  simp only [Mod.heardFrom, Mod.modSession_mem, Mod.arrives_mem]
@[simp] theorem Mod.heardFrom_prt (f : Frame) : (m.heardFrom f).prt = m.prt := by
  simp only [Mod.heardFrom, Mod.modSession_prt, Mod.arrives_prt]
@[simp] theorem Mod.heardFrom_clk (f : Frame) : (m.heardFrom f).clk = m.clk := by
  simp only [Mod.heardFrom, Mod.modSession_clk, Mod.arrives_clk]
@[simp] theorem Mod.heardFrom_cal (f : Frame) : (m.heardFrom f).cal = m.cal := by
  simp only [Mod.heardFrom, Mod.modSession_cal, Mod.arrives_cal]
@[simp] theorem Mod.heardFrom_hw (f : Frame) : (m.heardFrom f).hw = m.hw := by
  simp only [Mod.heardFrom, Mod.modSession_hw, Mod.arrives_hw]

@[simp] theorem Mod.replied_now (f : Frame) (n c : Nat) (r : Reply) : (m.replied f n c r).now = m.now := by
  simp only [Mod.replied, Mod.answer_now, Mod.bump_now, Mod.modSession_now]
@[simp] theorem Mod.replied_ctr (f : Frame) (n c : Nat) (r : Reply) : (m.replied f n c r).ctr = m.ctr := by
  simp only [Mod.replied, Mod.answer_ctr, Mod.bump_ctr, Mod.modSession_ctr]
@[simp] theorem Mod.replied_tick (f : Frame) (n c : Nat) (r : Reply) : (m.replied f n c r).tick = m.tick := by
  simp only [Mod.replied, Mod.answer_tick, Mod.bump_tick, Mod.modSession_tick]
@[simp] theorem Mod.replied_fam (f : Frame) (n c : Nat) (r : Reply) : (m.replied f n c r).fam = m.fam := by
  simp only [Mod.replied, Mod.answer_fam, Mod.bump_fam, Mod.modSession_fam]
@[simp] theorem Mod.replied_edgeObjs (f : Frame) (n c : Nat) (r : Reply) : (m.replied f n c r).edgeObjs = m.edgeObjs := by
  simp only [Mod.replied, Mod.answer_edgeObjs, Mod.bump_edgeObjs, Mod.modSession_edgeObjs]
@[simp] theorem Mod.replied_raised (f : Frame) (n c : Nat) (r : Reply) : (m.replied f n c r).raised = m.raised := by
  simp only [Mod.replied, Mod.answer_raised, Mod.bump_raised, Mod.modSession_raised]
@[simp] theorem Mod.replied_conds (f : Frame) (n c : Nat) (r : Reply) : (m.replied f n c r).conds = m.conds := by
  simp only [Mod.replied, Mod.answer_conds, Mod.bump_conds, Mod.modSession_conds]
@[simp] theorem Mod.replied_limits (f : Frame) (n c : Nat) (r : Reply) : (m.replied f n c r).limits = m.limits := by
  simp only [Mod.replied, Mod.answer_limits, Mod.bump_limits, Mod.modSession_limits]
@[simp] theorem Mod.replied_seen (f : Frame) (n c : Nat) (r : Reply) : (m.replied f n c r).seen = m.seen := by
  simp only [Mod.replied, Mod.answer_seen, Mod.bump_seen, Mod.modSession_seen]
@[simp] theorem Mod.replied_timeFn (f : Frame) (n c : Nat) (r : Reply) : (m.replied f n c r).timeFn = m.timeFn := by
  simp only [Mod.replied, Mod.answer_timeFn, Mod.bump_timeFn, Mod.modSession_timeFn]
@[simp] theorem Mod.replied_twinFn (f : Frame) (n c : Nat) (r : Reply) : (m.replied f n c r).twinFn = m.twinFn := by
  simp only [Mod.replied, Mod.answer_twinFn, Mod.bump_twinFn, Mod.modSession_twinFn]
@[simp] theorem Mod.replied_rebooting (f : Frame) (n c : Nat) (r : Reply) : (m.replied f n c r).rebooting = m.rebooting := by
  simp only [Mod.replied, Mod.answer_rebooting, Mod.bump_rebooting, Mod.modSession_rebooting]
@[simp] theorem Mod.replied_chans (f : Frame) (n c : Nat) (r : Reply) : (m.replied f n c r).chans = m.chans := by
  simp only [Mod.replied, Mod.answer_chans, Mod.bump_chans, Mod.modSession_chans]
@[simp] theorem Mod.replied_rends (f : Frame) (n c : Nat) (r : Reply) : (m.replied f n c r).rends = m.rends := by
  simp only [Mod.replied, Mod.answer_rends, Mod.bump_rends, Mod.modSession_rends]
@[simp] theorem Mod.replied_groups (f : Frame) (n c : Nat) (r : Reply) : (m.replied f n c r).groups = m.groups := by
  simp only [Mod.replied, Mod.answer_groups, Mod.bump_groups, Mod.modSession_groups]
@[simp] theorem Mod.replied_scalers (f : Frame) (n c : Nat) (r : Reply) : (m.replied f n c r).scalers = m.scalers := by
  simp only [Mod.replied, Mod.answer_scalers, Mod.bump_scalers, Mod.modSession_scalers]
@[simp] theorem Mod.replied_lanes (f : Frame) (n c : Nat) (r : Reply) : (m.replied f n c r).lanes = m.lanes := by
  simp only [Mod.replied, Mod.answer_lanes, Mod.bump_lanes, Mod.modSession_lanes]
@[simp] theorem Mod.replied_ladderRows (f : Frame) (n c : Nat) (r : Reply) : (m.replied f n c r).ladderRows = m.ladderRows := by
  simp only [Mod.replied, Mod.answer_ladderRows, Mod.bump_ladderRows, Mod.modSession_ladderRows]
@[simp] theorem Mod.replied_checks (f : Frame) (n c : Nat) (r : Reply) : (m.replied f n c r).checks = m.checks := by
  simp only [Mod.replied, Mod.answer_checks, Mod.bump_checks, Mod.modSession_checks]
@[simp] theorem Mod.replied_twin (f : Frame) (n c : Nat) (r : Reply) : (m.replied f n c r).twin = m.twin := by
  simp only [Mod.replied, Mod.answer_twin, Mod.bump_twin, Mod.modSession_twin]
@[simp] theorem Mod.replied_decs (f : Frame) (n c : Nat) (r : Reply) : (m.replied f n c r).decs = m.decs := by
  simp only [Mod.replied, Mod.answer_decs, Mod.bump_decs, Mod.modSession_decs]
@[simp] theorem Mod.replied_rings (f : Frame) (n c : Nat) (r : Reply) : (m.replied f n c r).rings = m.rings := by
  simp only [Mod.replied, Mod.answer_rings, Mod.bump_rings, Mod.modSession_rings]
@[simp] theorem Mod.replied_slots (f : Frame) (n c : Nat) (r : Reply) : (m.replied f n c r).slots = m.slots := by
  simp only [Mod.replied, Mod.answer_slots, Mod.bump_slots, Mod.modSession_slots]
@[simp] theorem Mod.replied_downCores (f : Frame) (n c : Nat) (r : Reply) : (m.replied f n c r).downCores = m.downCores := by
  simp only [Mod.replied, Mod.answer_downCores, Mod.bump_downCores, Mod.modSession_downCores]
@[simp] theorem Mod.replied_fab (f : Frame) (n c : Nat) (r : Reply) : (m.replied f n c r).fab = m.fab := by
  simp only [Mod.replied, Mod.answer_fab, Mod.bump_fab, Mod.modSession_fab]
@[simp] theorem Mod.replied_servo (f : Frame) (n c : Nat) (r : Reply) : (m.replied f n c r).servo = m.servo := by
  simp only [Mod.replied, Mod.answer_servo, Mod.bump_servo, Mod.modSession_servo]
@[simp] theorem Mod.replied_mem (f : Frame) (n c : Nat) (r : Reply) : (m.replied f n c r).mem = m.mem := by
  simp only [Mod.replied, Mod.answer_mem, Mod.bump_mem, Mod.modSession_mem]
@[simp] theorem Mod.replied_prt (f : Frame) (n c : Nat) (r : Reply) : (m.replied f n c r).prt = m.prt := by
  simp only [Mod.replied, Mod.answer_prt, Mod.bump_prt, Mod.modSession_prt]
@[simp] theorem Mod.replied_clk (f : Frame) (n c : Nat) (r : Reply) : (m.replied f n c r).clk = m.clk := by
  simp only [Mod.replied, Mod.answer_clk, Mod.bump_clk, Mod.modSession_clk]
@[simp] theorem Mod.replied_cal (f : Frame) (n c : Nat) (r : Reply) : (m.replied f n c r).cal = m.cal := by
  simp only [Mod.replied, Mod.answer_cal, Mod.bump_cal, Mod.modSession_cal]
@[simp] theorem Mod.replied_hw (f : Frame) (n c : Nat) (r : Reply) : (m.replied f n c r).hw = m.hw := by
  simp only [Mod.replied, Mod.answer_hw, Mod.bump_hw, Mod.modSession_hw]

end Sys2Proof.Machine
end

