-- ==== Sys2Proof/WellFormed.lean ====
section
/-! DEFINITION. Well-formed commands: the bounds that the wire formats put on what a command carries (Table 0.1,
Table 16.2, Table 16.6, Table 16.8, Table 16.13, Table 12.1-12.5). Bounds that a type already fixes (a channel as
`Fin 32`) are not repeated here. -/

namespace Sys2Proof

/-- Fits an unsigned field of 8, 16, 32, 64 or 128 bits. -/
def fits8 (n : Nat) : Bool := n < 2 ^ 8
def fits16 (n : Nat) : Bool := n < 2 ^ 16
def fits32 (n : Nat) : Bool := n < 2 ^ 32
def fits64 (n : Nat) : Bool := n < 2 ^ 64
def fits128 (n : Nat) : Bool := n < 2 ^ 128

/-- A TIME on the wire: 48-bit seconds, nanoseconds up to 999,999,999 (Table 0.1). -/
def TimeVal.wf (x : TimeVal) : Bool := x.sec < 2 ^ 48 && x.nano ≤ 999999999

/-- An instant or a duration of own time: below the end of a TIME. -/
def nanosOk (t : Nanos) : Bool := t < 2 ^ 48 * 1000000000

/-- The fields of a Preud envelope (Table 16.2). -/
def Frame.wf (f : Frame) : Bool := fits32 f.peer && fits16 f.peerPort && fits32 f.sid && fits64 f.req

/-- A READ item (Table 16.6). -/
def ReadItem.wf (i : ReadItem) : Bool := fits16 i.idx && fits8 i.sub

/-- An inline value fits a WRITE (Table 16.6). -/
def inlineOk (v : Octets) : Bool := v.length ≤ 1396

/-- A video packet (R49): 7-bit payload type, 32-bit timestamp, and what a payload of 8,960 octets can hold of it. -/
def VideoPkt.wf (p : VideoPkt) : Bool :=
  p.payloadType < 128 && fits32 p.timestamp && p.srds.length ≤ 64 && p.payload ≤ 8960
    && p.srds.all fun r => fits16 r.row && fits16 r.offset && fits16 r.octets

/-- An audio packet (R56): at most 64 channels at each instant. -/
def AudioPkt.wf (p : AudioPkt) : Bool :=
  p.payloadType < 128 && fits32 p.timestamp && p.samples.all fun c => c.length ≤ 64

/-- An ancillary packet (R58): 8-bit DID and SDID, 11-bit line. -/
def AncPkt.wf (p : AncPkt) : Bool :=
  p.payloadType < 128 && fits32 p.timestamp
    && p.items.all fun i => fits8 i.did && fits8 i.sdid && i.line < 2 ^ 11 && i.body.length ≤ 255

/-- A decode datagram (R169): TS packets of 188 octets, as many as a UDP payload holds. -/
def DecodeDg.wf (d : DecodeDg) : Bool := d.payloadType < 128 && d.packets.length ≤ 348 && d.packets.all fun p => p.length = 188

/-- An Ethernet frame (R198): addresses of the family's length, 12-bit VLAN, 6-bit DSCP, 8-bit TTL. -/
def EthFrame.wf (e : EthFrame) : Bool :=
  e.dst.length = (if e.fam = .v4 then 4 else 16) && e.src.length = (if e.fam = .v4 then 4 else 16)
    && e.dstMac < 2 ^ 48 && fits16 e.dport && (e.vlan.getD 0) < 2 ^ 12 && fits8 e.ttl && e.dscp < 64

/-- A group address fits its family. -/
def groupOk (fam : Fam) (g : Nat) : Bool := if fam = .v4 then fits32 g else fits128 g

/-- A membership report (R211): sources of the family of its group. -/
def MemReport.wf (r : MemReport) : Bool := groupOk r.fam r.group && r.sources.all fun s => groupOk r.fam s

/-- A query (R211). -/
def MemQuery.wf (q : MemQuery) : Bool :=
  groupOk q.fam q.group && groupOk q.fam q.querier && q.sources.all fun s => groupOk q.fam s

/-- A PTP message (R28): an 8-bit domain, a 64-bit clock identity, a 16-bit sequence number. -/
def PtpMsg.wf (p : PtpMsg) : Bool := fits8 p.domain && fits64 p.source && fits16 p.seq

/-- A mortar header (Table 12.1): 32-bit sequence, four credit fields of 16 bits. -/
def MortarHdr.wf (h : MortarHdr) : Bool := fits32 h.seq && h.credits.length = 4 && h.credits.all fits16

/-- A Hello body (R220). -/
def HelloBody.wf (h : HelloBody) : Bool :=
  fits64 h.fuseId && fits32 h.pairId && fits64 h.partnerFuse && fits64 h.term

/-- A Status body (Table 12.2). -/
def StatusBody.wf (h : StatusBody) : Bool := fits64 h.term

/-- A course record (Table 12.4). -/
def CourseRecord.wf (r : CourseRecord) : Bool := r.course < 34 && fits64 r.tick && fits32 r.fingerprint

/-- Repair data (Table 12.2): a 64-bit tick and a 32-bit block number. -/
def RepairBody.wf (r : RepairBody) : Bool := fits64 r.tick && fits32 r.firstBlock

/-- A Placement body (Table 12.2): pipelines 0-7 and scaler units 0-15 of channels 0-31. -/
def PlacementBody.wf (p : PlacementBody) : Bool :=
  (p.pipelines.all fun x => x.1 < 32 && x.2 < 8) && p.scalers.all fun x => x.1.1 < 32 && x.2 < 16

/-- A Komund message (Table 12.5). -/
def KMsg.wf (m : KMsg) : Bool :=
  fits32 m.pair && fits64 m.sender && fits64 m.subject && fits64 m.term && fits32 m.req && fits32 m.lease

/-- A local datagram (R300): IPv4 addresses. -/
def LocalMsg.wf : LocalMsg → Bool
  | .arp target => fits32 target
  | .icmpEcho target ident => fits32 target && fits16 ident
  | .other target => fits32 target

/-- What a boot finds: at most one DIMM per channel (R247). -/
def BootInfo.wf (b : BootInfo) : Bool := (b.dimms.map (·.1)).Nodup

/-- Temperatures of a sample pass name each domain once (R293). -/
def domTempsOk (l : List DomTemp) : Bool := (l.map (·.domain)).Nodup

/-- Whether every bound of the command's fields holds. -/
def Instr.wf (i : Instr) : Bool :=
  match i with
  | .hello t f _ cnonce => nanosOk t && f.wf && fits128 cnonce
  | .openReq t f mnonce => nanosOk t && f.wf && fits128 mnonce
  | .close t f => nanosOk t && f.wf
  | .keepalive t f => nanosOk t && f.wf
  | .read t f items => nanosOk t && f.wf && (items.length ≤ 350 && items.all ReadItem.wf)
  | .write t f idx sub _ value => nanosOk t && f.wf && fits16 idx && fits8 sub && inlineOk value
  | .timedWrite t f idx sub at_ value => nanosOk t && f.wf && fits16 idx && fits8 sub && at_.wf && inlineOk value
  | .cancelTimed t f target sub kind applyTick => nanosOk t && f.wf && fits16 target && fits8 sub && fits8 kind && fits64 applyTick
  | .listTimed t f first => nanosOk t && f.wf && fits64 first
  | .functionStart t f fid timed => nanosOk t && f.wf && fits16 fid && timed.all TimeVal.wf
  | .functionStop t f fid timed => nanosOk t && f.wf && fits16 fid && timed.all TimeVal.wf
  | .functionRestart t f fid timed => nanosOk t && f.wf && fits16 fid && timed.all TimeVal.wf
  | .openChangeSet t f fid => nanosOk t && f.wf && fits16 fid
  | .discardChangeSet t f fid => nanosOk t && f.wf && fits16 fid
  | .subscribe t f mask severity start => nanosOk t && f.wf && fits32 mask && fits8 severity && fits64 start
  | .eventAck t f first => nanosOk t && f.wf && fits64 first
  | .bulkBegin t f idx sub _ _ length crc => nanosOk t && f.wf && fits16 idx && fits8 sub && fits64 length && fits32 crc
  | .bulkData t f tid offset len data => nanosOk t && f.wf && fits16 tid && fits64 offset && fits16 len && (data.length ≤ 1344)
  | .bulkEnd t f tid => nanosOk t && f.wf && fits16 tid
  | .bulkAbort t f tid => nanosOk t && f.wf && fits16 tid
  | .malformedDatagram t _ _ => nanosOk t
  | .challengeExpiry t sid => nanosOk t && fits32 sid
  | .sessionIdleExpiry t sid => nanosOk t && fits32 sid
  | .sequenceGapExpiry t sid => nanosOk t && fits32 sid
  | .eventResend t sid first => nanosOk t && fits32 sid && fits64 first
  | .bulkIdleAbort t tid => nanosOk t && fits16 tid
  | .stepCommand t f => nanosOk t && f.wf
  | .veneerCommitCommand t f _ => nanosOk t && f.wf
  | .veneerCommitCancel t f _ => nanosOk t && f.wf
  | .clipStart t f _ => nanosOk t && f.wf
  | .clipStop t f _ => nanosOk t && f.wf
  | .clipClear t f _ => nanosOk t && f.wf
  | .handoverPlain t f => nanosOk t && f.wf
  | .handoverWithRestart t f => nanosOk t && f.wf
  | .retest t f _ => nanosOk t && f.wf
  | .cagePowerReset t f _ => nanosOk t && f.wf
  | .injectOneError t f _ => nanosOk t && f.wf
  | .injectionInterval t f _ k => nanosOk t && f.wf && fits8 k
  | .frequencyCounterStart t f => nanosOk t && f.wf
  | .calibrate t f domain => nanosOk t && f.wf && fits8 domain
  | .builtInTestStart t f => nanosOk t && f.wf
  | .builtInTestAbort t f => nanosOk t && f.wf
  | .imageSave t f image => nanosOk t && f.wf && fits8 image
  | .imageLoad t f image => nanosOk t && f.wf && fits8 image
  | .imageErase t f image => nanosOk t && f.wf && fits8 image
  | .resetCommand t f => nanosOk t && f.wf
  | .forcedReset t f => nanosOk t && f.wf
  | .activateTrial t f => nanosOk t && f.wf
  | .confirmTrial t f => nanosOk t && f.wf
  | .roleKeyWrite t f _ key => nanosOk t && f.wf && inlineOk key
  | .komundKeyWrite t f _ key => nanosOk t && f.wf && inlineOk key
  | .moduleRoleWrite t f value => nanosOk t && f.wf && fits32 value
  | .addressingWrite t f sub value => nanosOk t && f.wf && fits8 sub && inlineOk value
  | .servicePortEnable t f value => nanosOk t && f.wf && fits32 value
  | .flowEntryEnable t f => nanosOk t && f.wf
  | .flowEntryDisable t f => nanosOk t && f.wf
  | .legMaskWrite t f _ mask => nanosOk t && f.wf && fits32 mask
  | .ledTest t f => nanosOk t && f.wf
  | .clearFlags t f => nanosOk t && f.wf
  | .checkRunningValueWrite t f _ value => nanosOk t && f.wf && fits32 value
  | .checkChannelEnable t f _ => nanosOk t && f.wf
  | .backplaneGeneratorWrite t f _ pattern => nanosOk t && f.wf && fits8 pattern
  | .groupRateWrite t f _ rate => nanosOk t && f.wf && fits32 rate
  | .witnessSlotEnable t f _ => nanosOk t && f.wf
  | .otherObjectWrite t f idx sub value => nanosOk t && f.wf && fits16 idx && fits8 sub && inlineOk value
  | .ingestResetStatistics t f mask => nanosOk t && f.wf && fits32 mask
  | .compositionResetStatistics t f mask => nanosOk t && f.wf && fits32 mask
  | .encodeResetStatistics t f value => nanosOk t && f.wf && fits32 value
  | .refreshResetCounters t f _ => nanosOk t && f.wf
  | .rateControlResetStatistics t f value => nanosOk t && f.wf && fits32 value
  | .outputResetStatistics t f value => nanosOk t && f.wf && fits32 value
  | .decodeResetStatistics t f value => nanosOk t && f.wf && fits32 value
  | .replayResetStatistics t f value => nanosOk t && f.wf && fits32 value
  | .flowResetStatistics t f value => nanosOk t && f.wf && fits32 value
  | .portQueueResetStatistics t f value => nanosOk t && f.wf && fits32 value
  | .hardwareResetStatistics t f => nanosOk t && f.wf
  | .memoryResetStatistics t f value => nanosOk t && f.wf && fits32 value
  | .laneResetStatistics t f value => nanosOk t && f.wf && fits32 value
  | .settResetStatistics t f value => nanosOk t && f.wf && fits32 value
  | .twinResetStatistics t f => nanosOk t && f.wf
  | .eventResetStatistics t f => nanosOk t && f.wf
  | .baseTickEdge  => true
  | .timedLaunchApply t kind target sub applyTick => nanosOk t && fits8 kind && fits16 target && fits8 sub && fits64 applyTick
  | .veneerCommitAbandon t _ => nanosOk t
  | .stoppingEnd t fid => nanosOk t && fits16 fid
  | .holdLimitReached t _ => nanosOk t
  | .lateCtuCutoff t _ _ => nanosOk t
  | .ctuComplete t _ _ _ _ => nanosOk t
  | .videoPacket t _ _ pkt => nanosOk t && pkt.wf
  | .pathTimeout t _ _ => nanosOk t
  | .audioPacket t _ _ _ pkt => nanosOk t && pkt.wf
  | .audioFlowLoss t _ _ => nanosOk t
  | .audioFlowRestore t _ _ => nanosOk t
  | .ancPacket t _ _ _ pkt => nanosOk t && pkt.wf
  | .ancFlowLoss t _ _ => nanosOk t
  | .datagramLaunch t _ => nanosOk t
  | .lateDatagram t _ => nanosOk t
  | .egressFrameBoundary t _ => nanosOk t
  | .decodeDatagram t _ _ dg => nanosOk t && dg.wf
  | .decodeLoss t _ => nanosOk t
  | .decodeStart t _ => nanosOk t
  | .decodeEnd t _ => nanosOk t
  | .presentationTick t _ => nanosOk t
  | .decodeOutputPacket t _ => nanosOk t
  | .frameReceived t _ fr => nanosOk t && fr.wf
  | .igmpMldReport t _ rep => nanosOk t && rep.wf
  | .igmpMldQuery t _ q => nanosOk t && q.wf
  | .queryIntervalExpiry t => nanosOk t
  | .queueSample t => nanosOk t
  | .sampleWindowEnd t => nanosOk t
  | .ptpMessage t _ msg => nanosOk t && msg.wf
  | .servoLocked t => nanosOk t
  | .announceReceiptTimeout t => nanosOk t
  | .holdoverLimit t => nanosOk t
  | .ptpMasterSend t _ _ => nanosOk t
  | .ppsOutPulse t => nanosOk t
  | .ppsInEdge t => nanosOk t
  | .ppsInAbsent t => nanosOk t
  | .mortarIdle t hdr => nanosOk t && hdr.wf
  | .idleSendTimer t => nanosOk t
  | .mortarHello t hdr hb => nanosOk t && hdr.wf && hb.wf
  | .helloTimer t => nanosOk t
  | .statusTimer t => nanosOk t
  | .mortarNak t hdr _ expected => nanosOk t && hdr.wf && fits32 expected
  | .mortarStatus t hdr st => nanosOk t && hdr.wf && st.wf
  | .courseRecords t hdr recs => nanosOk t && hdr.wf && recs.all CourseRecord.wf
  | .repairData t hdr rep => nanosOk t && hdr.wf && rep.wf
  | .countersignRequest t hdr term req => nanosOk t && hdr.wf && fits64 term && fits32 req
  | .countersign t hdr term req lease => nanosOk t && hdr.wf && fits64 term && fits32 req && fits32 lease
  | .handover t hdr boundary _ => nanosOk t && hdr.wf && fits64 boundary
  | .handoverAccept t hdr boundary => nanosOk t && hdr.wf && fits64 boundary
  | .placement t hdr pl => nanosOk t && hdr.wf && pl.wf
  | .linkSilent t => nanosOk t
  | .linkDown t => nanosOk t
  | .courseRecordClose t _ => nanosOk t
  | .recordMissing t _ tick => nanosOk t && fits64 tick
  | .eligibilityHoldExpiry t => nanosOk t
  | .renewTimer t => nanosOk t
  | .countersignRequestTimer t => nanosOk t
  | .acquireTimer t => nanosOk t
  | .probeTimer t => nanosOk t
  | .witnessUnreachable t _ => nanosOk t
  | .leaseFence t => nanosOk t
  | .grant t _ m => nanosOk t && m.wf
  | .refuse t _ m => nanosOk t && m.wf
  | .released t _ m => nanosOk t && m.wf
  | .probeAck t _ m => nanosOk t && m.wf
  | .renew t m => nanosOk t && m.wf
  | .acquire t m => nanosOk t && m.wf
  | .release t m => nanosOk t && m.wf
  | .probe t m => nanosOk t && m.wf
  | .witnessDeadline t _ => nanosOk t
  | .witnessRestartHoldEnd t => nanosOk t
  | .handoverBoundary t => nanosOk t
  | .releasePoint t => nanosOk t
  | .outputPortsDown t => nanosOk t
  | .refreshDue t _ _ _ => nanosOk t
  | .refreshForced t _ _ => nanosOk t
  | .dimmTemperatureChange t _ _ => nanosOk t
  | .dramCorrectableError t _ _ _ _ => nanosOk t
  | .dramUncorrectableRead t _ _ _ => nanosOk t
  | .patrolScrubPass t _ => nanosOk t
  | .dimmSupplyTrip t _ => nanosOk t
  | .cageInsertion t _ => nanosOk t
  | .cagePresenceStable t _ _ => nanosOk t
  | .moduleReady t _ => nanosOk t
  | .moduleReadyTimeout t _ => nanosOk t
  | .cageRemoval t _ => nanosOk t
  | .efuseTrip t _ => nanosOk t
  | .detectRepeat t _ _ => nanosOk t
  | .autoNegotiationResolved t _ _ => nanosOk t
  | .trainingComplete t _ _ => nanosOk t
  | .lockComplete t _ _ => nanosOk t
  | .capabilityComplete t _ _ => nanosOk t
  | .stageLimitExpiry t _ _ => nanosOk t
  | .lossOfLock t _ _ _ => nanosOk t
  | .fastRelockComplete t _ _ _ => nanosOk t
  | .retrainTrigger t _ _ => nanosOk t
  | .figureOfMeritLow t _ _ => nanosOk t
  | .checkerLock t _ _ _ => nanosOk t
  | .backplaneLinkChange t _ _ => nanosOk t
  | .servicePortLinkChange t _ => nanosOk t
  | .gateWindowEnd t _ count => nanosOk t && fits64 count
  | .clockStopDetected t _ _ => nanosOk t
  | .pllReferenceFailure t _ _ => nanosOk t
  | .forcedSwitchComplete t _ => nanosOk t
  | .pllRelock t _ => nanosOk t
  | .accessTimeout t block addr _ => nanosOk t && fits8 block && fits64 addr
  | .frequencyCounterDone t count _ => nanosOk t && fits64 count
  | .temperatureSample t temps => nanosOk t && domTempsOk temps
  | .calibrationRunStart t _ => nanosOk t
  | .calibrationRunComplete t _ _ => nanosOk t
  | .powerOnSequence t boot => nanosOk t && boot.wf
  | .powerStepTimeout t _ _ => nanosOk t
  | .xbOvenSettled t => nanosOk t
  | .xbWarmupTimeout t => nanosOk t
  | .chassisReset t _ boot => nanosOk t && boot.wf
  | .watchdogExpiry t _ => nanosOk t
  | .autoConfirmExpiry t => nanosOk t
  | .ejector t _ => nanosOk t
  | .i2cOffsetWrite t _ => nanosOk t
  | .i2cRead t => nanosOk t
  | .liveFieldUpdate t => nanosOk t
  | .feedStateChange t _ _ => nanosOk t
  | .internalShortLimit t _ => nanosOk t
  | .holdUpCharged t => nanosOk t
  | .inputDip t => nanosOk t
  | .holdUpExpiry t => nanosOk t
  | .coolFail t _ => nanosOk t
  | .junctionSample t _ => nanosOk t
  | .thermalStopEnd t => nanosOk t
  | .opticTemperatureRead t _ _ _ => nanosOk t
  | .heartbeatCheck t missed => nanosOk t && missed.Nodup
  | .settCoreTrap t _ _ => nanosOk t
  | .builtInTestComplete t _ _ => nanosOk t
  | .datagramQueued t _ => nanosOk t
  | .komundMessageDiscarded t m => nanosOk t && m.wf
  | .unknownOpcode t f opcode => nanosOk t && f.wf && fits8 opcode
  | .arpAndIcmpEcho t _ msg => nanosOk t && msg.wf
  | .delayReqSend t => nanosOk t
  | .membershipTimeout t _ _ _ => nanosOk t
  | .otherQuerierPresentTimeout t _ _ => nanosOk t
  | .unsolicitedReportTimer t _ => nanosOk t

end Sys2Proof
end

