-- ==== Sys2Proof/Laws/PerInstr.lean ====
section
/-! SUPPORT. Statements about every command as it is written, one lemma per constructor. -/

namespace Sys2Proof.Laws.Timed

/-- The instant a command carries lies within the range of a TIME (Table 0.1); BASE_TICK_EDGE carries none. -/
def inRange (i : Instr) : Bool :=
  match i with
  | .baseTickEdge => true
  | .hello t .. | .openReq t .. | .close t .. | .keepalive t .. | .read t .. | .write t .. | .timedWrite t ..
  | .cancelTimed t .. | .listTimed t .. | .functionStart t .. | .functionStop t .. | .functionRestart t .. | .openChangeSet t ..
  | .discardChangeSet t .. | .subscribe t .. | .eventAck t .. | .bulkBegin t .. | .bulkData t .. | .bulkEnd t ..
  | .bulkAbort t .. | .malformedDatagram t .. | .challengeExpiry t .. | .sessionIdleExpiry t .. | .sequenceGapExpiry t ..
  | .eventResend t .. | .bulkIdleAbort t .. | .stepCommand t .. | .veneerCommitCommand t .. | .veneerCommitCancel t ..
  | .clipStart t .. | .clipStop t .. | .clipClear t .. | .handoverPlain t .. | .handoverWithRestart t .. | .retest t ..
  | .cagePowerReset t .. | .injectOneError t .. | .injectionInterval t .. | .frequencyCounterStart t .. | .calibrate t ..
  | .builtInTestStart t .. | .builtInTestAbort t .. | .imageSave t .. | .imageLoad t .. | .imageErase t .. | .resetCommand t ..
  | .forcedReset t .. | .activateTrial t .. | .confirmTrial t .. | .roleKeyWrite t .. | .komundKeyWrite t ..
  | .moduleRoleWrite t .. | .addressingWrite t .. | .servicePortEnable t .. | .flowEntryEnable t .. | .flowEntryDisable t ..
  | .legMaskWrite t .. | .ledTest t .. | .clearFlags t .. | .checkRunningValueWrite t .. | .checkChannelEnable t ..
  | .backplaneGeneratorWrite t .. | .groupRateWrite t .. | .witnessSlotEnable t .. | .otherObjectWrite t ..
  | .ingestResetStatistics t .. | .compositionResetStatistics t .. | .encodeResetStatistics t .. | .refreshResetCounters t ..
  | .rateControlResetStatistics t .. | .outputResetStatistics t .. | .decodeResetStatistics t .. | .replayResetStatistics t ..
  | .flowResetStatistics t .. | .portQueueResetStatistics t .. | .hardwareResetStatistics t .. | .memoryResetStatistics t ..
  | .laneResetStatistics t .. | .settResetStatistics t .. | .twinResetStatistics t .. | .eventResetStatistics t ..
  | .timedLaunchApply t .. | .veneerCommitAbandon t .. | .stoppingEnd t .. | .holdLimitReached t .. | .lateCtuCutoff t ..
  | .ctuComplete t .. | .videoPacket t .. | .pathTimeout t .. | .audioPacket t .. | .audioFlowLoss t .. | .audioFlowRestore t ..
  | .ancPacket t .. | .ancFlowLoss t .. | .datagramLaunch t .. | .lateDatagram t .. | .egressFrameBoundary t ..
  | .decodeDatagram t .. | .decodeLoss t .. | .decodeStart t .. | .decodeEnd t .. | .presentationTick t ..
  | .decodeOutputPacket t .. | .frameReceived t .. | .igmpMldReport t .. | .igmpMldQuery t .. | .queryIntervalExpiry t
  | .queueSample t | .sampleWindowEnd t | .ptpMessage t .. | .servoLocked t | .announceReceiptTimeout t | .holdoverLimit t
  | .ptpMasterSend t .. | .ppsOutPulse t | .ppsInEdge t | .ppsInAbsent t | .mortarIdle t .. | .idleSendTimer t
  | .mortarHello t .. | .helloTimer t | .statusTimer t | .mortarNak t .. | .mortarStatus t .. | .courseRecords t ..
  | .repairData t .. | .countersignRequest t .. | .countersign t .. | .handover t .. | .handoverAccept t .. | .placement t ..
  | .linkSilent t | .linkDown t | .courseRecordClose t .. | .recordMissing t .. | .eligibilityHoldExpiry t | .renewTimer t
  | .countersignRequestTimer t | .acquireTimer t | .probeTimer t | .witnessUnreachable t .. | .leaseFence t | .grant t ..
  | .refuse t .. | .released t .. | .probeAck t .. | .renew t .. | .acquire t .. | .release t .. | .probe t ..
  | .witnessDeadline t .. | .witnessRestartHoldEnd t | .handoverBoundary t | .releasePoint t | .outputPortsDown t
  | .refreshDue t .. | .refreshForced t .. | .dimmTemperatureChange t .. | .dramCorrectableError t ..
  | .dramUncorrectableRead t .. | .patrolScrubPass t .. | .dimmSupplyTrip t .. | .cageInsertion t .. | .cagePresenceStable t ..
  | .moduleReady t .. | .moduleReadyTimeout t .. | .cageRemoval t .. | .efuseTrip t .. | .detectRepeat t ..
  | .autoNegotiationResolved t .. | .trainingComplete t .. | .lockComplete t .. | .capabilityComplete t ..
  | .stageLimitExpiry t .. | .lossOfLock t .. | .fastRelockComplete t .. | .retrainTrigger t .. | .figureOfMeritLow t ..
  | .checkerLock t .. | .backplaneLinkChange t .. | .servicePortLinkChange t .. | .gateWindowEnd t .. | .clockStopDetected t ..
  | .pllReferenceFailure t .. | .forcedSwitchComplete t .. | .pllRelock t .. | .accessTimeout t .. | .frequencyCounterDone t ..
  | .temperatureSample t .. | .calibrationRunStart t .. | .calibrationRunComplete t .. | .powerOnSequence t ..
  | .powerStepTimeout t .. | .xbOvenSettled t | .xbWarmupTimeout t | .chassisReset t .. | .watchdogExpiry t ..
  | .autoConfirmExpiry t | .ejector t .. | .i2cOffsetWrite t .. | .i2cRead t | .liveFieldUpdate t | .feedStateChange t ..
  | .internalShortLimit t .. | .holdUpCharged t | .inputDip t | .holdUpExpiry t | .coolFail t .. | .junctionSample t ..
  | .thermalStopEnd t | .opticTemperatureRead t .. | .heartbeatCheck t .. | .settCoreTrap t .. | .builtInTestComplete t ..
  | .datagramQueued t .. | .komundMessageDiscarded t .. | .unknownOpcode t .. | .arpAndIcmpEcho t .. | .delayReqSend t
  | .membershipTimeout t .. | .otherQuerierPresentTimeout t .. | .unsolicitedReportTimer t .. =>
    nanosOk t

/-- A well-formed command carries an instant in range. -/
def Statement (i : Instr) : Prop := i.wf = true → inRange i = true

/-- It does, whatever the command. -/
theorem all (i : Instr) : Statement i := by
  intro h
  cases i <;> simp only [Instr.wf, Bool.and_eq_true, and_assoc] at h <;> first | rfl | exact h | exact h.1

theorem hello (t : Nanos) (f : Frame) (role : Fin 4) (cnonce : Nat) : Statement (.hello t f role cnonce) := all _
theorem openReq (t : Nanos) (f : Frame) (mnonce : Nat) : Statement (.openReq t f mnonce) := all _
theorem close (t : Nanos) (f : Frame) : Statement (.close t f) := all _
theorem keepalive (t : Nanos) (f : Frame) : Statement (.keepalive t f) := all _
theorem read (t : Nanos) (f : Frame) (items : List ReadItem) : Statement (.read t f items) := all _
theorem write (t : Nanos) (f : Frame) (idx : Nat) (sub : Nat) (staged : Bool) (value : Octets) : Statement (.write t f idx sub staged value) := all _
theorem timedWrite (t : Nanos) (f : Frame) (idx : Nat) (sub : Nat) (at_ : TimeVal) (value : Octets) : Statement (.timedWrite t f idx sub at_ value) := all _
theorem cancelTimed (t : Nanos) (f : Frame) (target : Nat) (sub : Nat) (kind : Nat) (applyTick : Nat) : Statement (.cancelTimed t f target sub kind applyTick) := all _
theorem listTimed (t : Nanos) (f : Frame) (first : Nat) : Statement (.listTimed t f first) := all _
theorem functionStart (t : Nanos) (f : Frame) (fid : Nat) (timed : Option TimeVal) : Statement (.functionStart t f fid timed) := all _
theorem functionStop (t : Nanos) (f : Frame) (fid : Nat) (timed : Option TimeVal) : Statement (.functionStop t f fid timed) := all _
theorem functionRestart (t : Nanos) (f : Frame) (fid : Nat) (timed : Option TimeVal) : Statement (.functionRestart t f fid timed) := all _
theorem openChangeSet (t : Nanos) (f : Frame) (fid : Nat) : Statement (.openChangeSet t f fid) := all _
theorem discardChangeSet (t : Nanos) (f : Frame) (fid : Nat) : Statement (.discardChangeSet t f fid) := all _
theorem subscribe (t : Nanos) (f : Frame) (mask : Nat) (severity : Nat) (start : Nat) : Statement (.subscribe t f mask severity start) := all _
theorem eventAck (t : Nanos) (f : Frame) (first : Nat) : Statement (.eventAck t f first) := all _
theorem bulkBegin (t : Nanos) (f : Frame) (idx : Nat) (sub : Nat) (wr : Bool) (staged : Bool) (length : Nat) (crc : Nat) : Statement (.bulkBegin t f idx sub wr staged length crc) := all _
theorem bulkData (t : Nanos) (f : Frame) (tid : Nat) (offset : Nat) (len : Nat) (data : Octets) : Statement (.bulkData t f tid offset len data) := all _
theorem bulkEnd (t : Nanos) (f : Frame) (tid : Nat) : Statement (.bulkEnd t f tid) := all _
theorem bulkAbort (t : Nanos) (f : Frame) (tid : Nat) : Statement (.bulkAbort t f tid) := all _
theorem malformedDatagram (t : Nanos) (route : Route) (kind : MalformedKind) : Statement (.malformedDatagram t route kind) := all _
theorem challengeExpiry (t : Nanos) (sid : Nat) : Statement (.challengeExpiry t sid) := all _
theorem sessionIdleExpiry (t : Nanos) (sid : Nat) : Statement (.sessionIdleExpiry t sid) := all _
theorem sequenceGapExpiry (t : Nanos) (sid : Nat) : Statement (.sequenceGapExpiry t sid) := all _
theorem eventResend (t : Nanos) (sid : Nat) (first : Nat) : Statement (.eventResend t sid first) := all _
theorem bulkIdleAbort (t : Nanos) (tid : Nat) : Statement (.bulkIdleAbort t tid) := all _
theorem stepCommand (t : Nanos) (f : Frame) : Statement (.stepCommand t f) := all _
theorem veneerCommitCommand (t : Nanos) (f : Frame) (n : Fin 32) : Statement (.veneerCommitCommand t f n) := all _
theorem veneerCommitCancel (t : Nanos) (f : Frame) (n : Fin 32) : Statement (.veneerCommitCancel t f n) := all _
theorem clipStart (t : Nanos) (f : Frame) (slot : Fin 16) : Statement (.clipStart t f slot) := all _
theorem clipStop (t : Nanos) (f : Frame) (slot : Fin 16) : Statement (.clipStop t f slot) := all _
theorem clipClear (t : Nanos) (f : Frame) (slot : Fin 16) : Statement (.clipClear t f slot) := all _
theorem handoverPlain (t : Nanos) (f : Frame) : Statement (.handoverPlain t f) := all _
theorem handoverWithRestart (t : Nanos) (f : Frame) : Statement (.handoverWithRestart t f) := all _
theorem retest (t : Nanos) (f : Frame) (cage : Fin 9) : Statement (.retest t f cage) := all _
theorem cagePowerReset (t : Nanos) (f : Frame) (cage : Fin 9) : Statement (.cagePowerReset t f cage) := all _
theorem injectOneError (t : Nanos) (f : Frame) (lane : Fin 38) : Statement (.injectOneError t f lane) := all _
theorem injectionInterval (t : Nanos) (f : Frame) (lane : Fin 38) (k : Nat) : Statement (.injectionInterval t f lane k) := all _
theorem frequencyCounterStart (t : Nanos) (f : Frame) : Statement (.frequencyCounterStart t f) := all _
theorem calibrate (t : Nanos) (f : Frame) (domain : Nat) : Statement (.calibrate t f domain) := all _
theorem builtInTestStart (t : Nanos) (f : Frame) : Statement (.builtInTestStart t f) := all _
theorem builtInTestAbort (t : Nanos) (f : Frame) : Statement (.builtInTestAbort t f) := all _
theorem imageSave (t : Nanos) (f : Frame) (image : Nat) : Statement (.imageSave t f image) := all _
theorem imageLoad (t : Nanos) (f : Frame) (image : Nat) : Statement (.imageLoad t f image) := all _
theorem imageErase (t : Nanos) (f : Frame) (image : Nat) : Statement (.imageErase t f image) := all _
theorem resetCommand (t : Nanos) (f : Frame) : Statement (.resetCommand t f) := all _
theorem forcedReset (t : Nanos) (f : Frame) : Statement (.forcedReset t f) := all _
theorem activateTrial (t : Nanos) (f : Frame) : Statement (.activateTrial t f) := all _
theorem confirmTrial (t : Nanos) (f : Frame) : Statement (.confirmTrial t f) := all _
theorem roleKeyWrite (t : Nanos) (f : Frame) (role : Fin 4) (key : Octets) : Statement (.roleKeyWrite t f role key) := all _
theorem komundKeyWrite (t : Nanos) (f : Frame) (slot : Option (Fin 64)) (key : Octets) : Statement (.komundKeyWrite t f slot key) := all _
theorem moduleRoleWrite (t : Nanos) (f : Frame) (value : Nat) : Statement (.moduleRoleWrite t f value) := all _
theorem addressingWrite (t : Nanos) (f : Frame) (sub : Nat) (value : Octets) : Statement (.addressingWrite t f sub value) := all _
theorem servicePortEnable (t : Nanos) (f : Frame) (value : Nat) : Statement (.servicePortEnable t f value) := all _
theorem flowEntryEnable (t : Nanos) (f : Frame) : Statement (.flowEntryEnable t f) := all _
theorem flowEntryDisable (t : Nanos) (f : Frame) : Statement (.flowEntryDisable t f) := all _
theorem legMaskWrite (t : Nanos) (f : Frame) (entry : Fin 32768) (mask : Nat) : Statement (.legMaskWrite t f entry mask) := all _
theorem ledTest (t : Nanos) (f : Frame) : Statement (.ledTest t f) := all _
theorem clearFlags (t : Nanos) (f : Frame) : Statement (.clearFlags t f) := all _
theorem checkRunningValueWrite (t : Nanos) (f : Frame) (k : Fin 16) (value : Nat) : Statement (.checkRunningValueWrite t f k value) := all _
theorem checkChannelEnable (t : Nanos) (f : Frame) (k : Fin 16) : Statement (.checkChannelEnable t f k) := all _
theorem backplaneGeneratorWrite (t : Nanos) (f : Frame) (b : Fin 2) (pattern : Nat) : Statement (.backplaneGeneratorWrite t f b pattern) := all _
theorem groupRateWrite (t : Nanos) (f : Frame) (g : Fin 32) (rate : Nat) : Statement (.groupRateWrite t f g rate) := all _
theorem witnessSlotEnable (t : Nanos) (f : Frame) (slot : Fin 64) : Statement (.witnessSlotEnable t f slot) := all _
theorem otherObjectWrite (t : Nanos) (f : Frame) (idx : Nat) (sub : Nat) (value : Octets) : Statement (.otherObjectWrite t f idx sub value) := all _
theorem ingestResetStatistics (t : Nanos) (f : Frame) (mask : Nat) : Statement (.ingestResetStatistics t f mask) := all _
theorem compositionResetStatistics (t : Nanos) (f : Frame) (mask : Nat) : Statement (.compositionResetStatistics t f mask) := all _
theorem encodeResetStatistics (t : Nanos) (f : Frame) (value : Nat) : Statement (.encodeResetStatistics t f value) := all _
theorem refreshResetCounters (t : Nanos) (f : Frame) (r : Fin 128) : Statement (.refreshResetCounters t f r) := all _
theorem rateControlResetStatistics (t : Nanos) (f : Frame) (value : Nat) : Statement (.rateControlResetStatistics t f value) := all _
theorem outputResetStatistics (t : Nanos) (f : Frame) (value : Nat) : Statement (.outputResetStatistics t f value) := all _
theorem decodeResetStatistics (t : Nanos) (f : Frame) (value : Nat) : Statement (.decodeResetStatistics t f value) := all _
theorem replayResetStatistics (t : Nanos) (f : Frame) (value : Nat) : Statement (.replayResetStatistics t f value) := all _
theorem flowResetStatistics (t : Nanos) (f : Frame) (value : Nat) : Statement (.flowResetStatistics t f value) := all _
theorem portQueueResetStatistics (t : Nanos) (f : Frame) (value : Nat) : Statement (.portQueueResetStatistics t f value) := all _
theorem hardwareResetStatistics (t : Nanos) (f : Frame) : Statement (.hardwareResetStatistics t f) := all _
theorem memoryResetStatistics (t : Nanos) (f : Frame) (value : Nat) : Statement (.memoryResetStatistics t f value) := all _
theorem laneResetStatistics (t : Nanos) (f : Frame) (value : Nat) : Statement (.laneResetStatistics t f value) := all _
theorem settResetStatistics (t : Nanos) (f : Frame) (value : Nat) : Statement (.settResetStatistics t f value) := all _
theorem twinResetStatistics (t : Nanos) (f : Frame) : Statement (.twinResetStatistics t f) := all _
theorem eventResetStatistics (t : Nanos) (f : Frame) : Statement (.eventResetStatistics t f) := all _
theorem baseTickEdge : Statement .baseTickEdge := all _
theorem timedLaunchApply (t : Nanos) (kind : Nat) (target : Nat) (sub : Nat) (applyTick : Nat) : Statement (.timedLaunchApply t kind target sub applyTick) := all _
theorem veneerCommitAbandon (t : Nanos) (n : Fin 32) : Statement (.veneerCommitAbandon t n) := all _
theorem stoppingEnd (t : Nanos) (fid : Nat) : Statement (.stoppingEnd t fid) := all _
theorem holdLimitReached (t : Nanos) (n : Fin 32) : Statement (.holdLimitReached t n) := all _
theorem lateCtuCutoff (t : Nanos) (pipe : Fin 8) (lane : Fin 8) : Statement (.lateCtuCutoff t pipe lane) := all _
theorem ctuComplete (t : Nanos) (pipe : Fin 8) (lane : Fin 8) (r : Fin 128) (tile : Fin 8) : Statement (.ctuComplete t pipe lane r tile) := all _
theorem videoPacket (t : Nanos) (target : VideoTarget) (path : Path) (pkt : VideoPkt) : Statement (.videoPacket t target path pkt) := all _
theorem pathTimeout (t : Nanos) (target : VideoTarget) (path : Path) : Statement (.pathTimeout t target path) := all _
theorem audioPacket (t : Nanos) (n : Fin 32) (flow : Fin 4) (path : Path) (pkt : AudioPkt) : Statement (.audioPacket t n flow path pkt) := all _
theorem audioFlowLoss (t : Nanos) (n : Fin 32) (flow : Fin 4) : Statement (.audioFlowLoss t n flow) := all _
theorem audioFlowRestore (t : Nanos) (n : Fin 32) (flow : Fin 4) : Statement (.audioFlowRestore t n flow) := all _
theorem ancPacket (t : Nanos) (n : Fin 32) (flow : Fin 2) (path : Path) (pkt : AncPkt) : Statement (.ancPacket t n flow path pkt) := all _
theorem ancFlowLoss (t : Nanos) (n : Fin 32) (flow : Fin 2) : Statement (.ancFlowLoss t n flow) := all _
theorem datagramLaunch (t : Nanos) (src : LaunchSrc) : Statement (.datagramLaunch t src) := all _
theorem lateDatagram (t : Nanos) (src : LaunchSrc) : Statement (.lateDatagram t src) := all _
theorem egressFrameBoundary (t : Nanos) (port : Fin 32) : Statement (.egressFrameBoundary t port) := all _
theorem decodeDatagram (t : Nanos) (e : Fin 2) (path : Path) (dg : DecodeDg) : Statement (.decodeDatagram t e path dg) := all _
theorem decodeLoss (t : Nanos) (e : Fin 2) : Statement (.decodeLoss t e) := all _
theorem decodeStart (t : Nanos) (e : Fin 2) : Statement (.decodeStart t e) := all _
theorem decodeEnd (t : Nanos) (e : Fin 2) : Statement (.decodeEnd t e) := all _
theorem presentationTick (t : Nanos) (e : Fin 2) : Statement (.presentationTick t e) := all _
theorem decodeOutputPacket (t : Nanos) (e : Fin 2) : Statement (.decodeOutputPacket t e) := all _
theorem frameReceived (t : Nanos) (port : Fin 32) (fr : EthFrame) : Statement (.frameReceived t port fr) := all _
theorem igmpMldReport (t : Nanos) (port : Fin 32) (rep : MemReport) : Statement (.igmpMldReport t port rep) := all _
theorem igmpMldQuery (t : Nanos) (port : Fin 32) (q : MemQuery) : Statement (.igmpMldQuery t port q) := all _
theorem queryIntervalExpiry (t : Nanos) : Statement (.queryIntervalExpiry t) := all _
theorem queueSample (t : Nanos) : Statement (.queueSample t) := all _
theorem sampleWindowEnd (t : Nanos) : Statement (.sampleWindowEnd t) := all _
theorem ptpMessage (t : Nanos) (port : Fin 32) (msg : PtpMsg) : Statement (.ptpMessage t port msg) := all _
theorem servoLocked (t : Nanos) : Statement (.servoLocked t) := all _
theorem announceReceiptTimeout (t : Nanos) : Statement (.announceReceiptTimeout t) := all _
theorem holdoverLimit (t : Nanos) : Statement (.holdoverLimit t) := all _
theorem ptpMasterSend (t : Nanos) (port : Fin 32) (announce : Bool) : Statement (.ptpMasterSend t port announce) := all _
theorem ppsOutPulse (t : Nanos) : Statement (.ppsOutPulse t) := all _
theorem ppsInEdge (t : Nanos) : Statement (.ppsInEdge t) := all _
theorem ppsInAbsent (t : Nanos) : Statement (.ppsInAbsent t) := all _
theorem mortarIdle (t : Nanos) (hdr : MortarHdr) : Statement (.mortarIdle t hdr) := all _
theorem idleSendTimer (t : Nanos) : Statement (.idleSendTimer t) := all _
theorem mortarHello (t : Nanos) (hdr : MortarHdr) (hello : HelloBody) : Statement (.mortarHello t hdr hello) := all _
theorem helloTimer (t : Nanos) : Statement (.helloTimer t) := all _
theorem statusTimer (t : Nanos) : Statement (.statusTimer t) := all _
theorem mortarNak (t : Nanos) (hdr : MortarHdr) (vc : Fin 4) (expected : Nat) : Statement (.mortarNak t hdr vc expected) := all _
theorem mortarStatus (t : Nanos) (hdr : MortarHdr) (st : StatusBody) : Statement (.mortarStatus t hdr st) := all _
theorem courseRecords (t : Nanos) (hdr : MortarHdr) (recs : List CourseRecord) : Statement (.courseRecords t hdr recs) := all _
theorem repairData (t : Nanos) (hdr : MortarHdr) (rep : RepairBody) : Statement (.repairData t hdr rep) := all _
theorem countersignRequest (t : Nanos) (hdr : MortarHdr) (term : Nat) (req : Nat) : Statement (.countersignRequest t hdr term req) := all _
theorem countersign (t : Nanos) (hdr : MortarHdr) (term : Nat) (req : Nat) (lease : Nat) : Statement (.countersign t hdr term req lease) := all _
theorem handover (t : Nanos) (hdr : MortarHdr) (boundary : Nat) (withRestart : Bool) : Statement (.handover t hdr boundary withRestart) := all _
theorem handoverAccept (t : Nanos) (hdr : MortarHdr) (boundary : Nat) : Statement (.handoverAccept t hdr boundary) := all _
theorem placement (t : Nanos) (hdr : MortarHdr) (pl : PlacementBody) : Statement (.placement t hdr pl) := all _
theorem linkSilent (t : Nanos) : Statement (.linkSilent t) := all _
theorem linkDown (t : Nanos) : Statement (.linkDown t) := all _
theorem courseRecordClose (t : Nanos) (r : Fin 128) : Statement (.courseRecordClose t r) := all _
theorem recordMissing (t : Nanos) (r : Fin 128) (tick : Nat) : Statement (.recordMissing t r tick) := all _
theorem eligibilityHoldExpiry (t : Nanos) : Statement (.eligibilityHoldExpiry t) := all _
theorem renewTimer (t : Nanos) : Statement (.renewTimer t) := all _
theorem countersignRequestTimer (t : Nanos) : Statement (.countersignRequestTimer t) := all _
theorem acquireTimer (t : Nanos) : Statement (.acquireTimer t) := all _
theorem probeTimer (t : Nanos) : Statement (.probeTimer t) := all _
theorem witnessUnreachable (t : Nanos) (w : Fin 3) : Statement (.witnessUnreachable t w) := all _
theorem leaseFence (t : Nanos) : Statement (.leaseFence t) := all _
theorem grant (t : Nanos) (w : Fin 3) (m : KMsg) : Statement (.grant t w m) := all _
theorem refuse (t : Nanos) (w : Fin 3) (m : KMsg) : Statement (.refuse t w m) := all _
theorem released (t : Nanos) (w : Fin 3) (m : KMsg) : Statement (.released t w m) := all _
theorem probeAck (t : Nanos) (w : Fin 3) (m : KMsg) : Statement (.probeAck t w m) := all _
theorem renew (t : Nanos) (m : KMsg) : Statement (.renew t m) := all _
theorem acquire (t : Nanos) (m : KMsg) : Statement (.acquire t m) := all _
theorem release (t : Nanos) (m : KMsg) : Statement (.release t m) := all _
theorem probe (t : Nanos) (m : KMsg) : Statement (.probe t m) := all _
theorem witnessDeadline (t : Nanos) (slot : Fin 64) : Statement (.witnessDeadline t slot) := all _
theorem witnessRestartHoldEnd (t : Nanos) : Statement (.witnessRestartHoldEnd t) := all _
theorem handoverBoundary (t : Nanos) : Statement (.handoverBoundary t) := all _
theorem releasePoint (t : Nanos) : Statement (.releasePoint t) := all _
theorem outputPortsDown (t : Nanos) : Statement (.outputPortsDown t) := all _
theorem refreshDue (t : Nanos) (ch : Fin 16) (bank : Fin 4) (urgentWaiting : Bool) : Statement (.refreshDue t ch bank urgentWaiting) := all _
theorem refreshForced (t : Nanos) (ch : Fin 16) (bank : Fin 4) : Statement (.refreshForced t ch bank) := all _
theorem dimmTemperatureChange (t : Nanos) (ch : Fin 16) (temp : Int) : Statement (.dimmTemperatureChange t ch temp) := all _
theorem dramCorrectableError (t : Nanos) (ch : Fin 16) (subch : Fin 2) (rank : Fin 2) (dev : Fin 10) : Statement (.dramCorrectableError t ch subch rank dev) := all _
theorem dramUncorrectableRead (t : Nanos) (ch : Fin 16) (port : Fin 24) (what : DramReader) : Statement (.dramUncorrectableRead t ch port what) := all _
theorem patrolScrubPass (t : Nanos) (ch : Fin 16) : Statement (.patrolScrubPass t ch) := all _
theorem dimmSupplyTrip (t : Nanos) (ch : Fin 16) : Statement (.dimmSupplyTrip t ch) := all _
theorem cageInsertion (t : Nanos) (cage : Fin 9) : Statement (.cageInsertion t cage) := all _
theorem cagePresenceStable (t : Nanos) (cage : Fin 9) (info : CageModule) : Statement (.cagePresenceStable t cage info) := all _
theorem moduleReady (t : Nanos) (cage : Fin 9) : Statement (.moduleReady t cage) := all _
theorem moduleReadyTimeout (t : Nanos) (cage : Fin 9) : Statement (.moduleReadyTimeout t cage) := all _
theorem cageRemoval (t : Nanos) (cage : Fin 9) : Statement (.cageRemoval t cage) := all _
theorem efuseTrip (t : Nanos) (cage : Fin 9) : Statement (.efuseTrip t cage) := all _
theorem detectRepeat (t : Nanos) (port : BringPort) (seen : List DetectObs) : Statement (.detectRepeat t port seen) := all _
theorem autoNegotiationResolved (t : Nanos) (port : BringPort) (offer : AnOffer) : Statement (.autoNegotiationResolved t port offer) := all _
theorem trainingComplete (t : Nanos) (port : BringPort) (snrs : List Int) : Statement (.trainingComplete t port snrs) := all _
theorem lockComplete (t : Nanos) (port : BringPort) (obs : LockObs) : Statement (.lockComplete t port obs) := all _
theorem capabilityComplete (t : Nanos) (port : BringPort) (agreed : Bool) : Statement (.capabilityComplete t port agreed) := all _
theorem stageLimitExpiry (t : Nanos) (port : BringPort) (badLanes : List (Fin 38)) : Statement (.stageLimitExpiry t port badLanes) := all _
theorem lossOfLock (t : Nanos) (port : BringPort) (badCodewords : Nat) (lane : Fin 38) : Statement (.lossOfLock t port badCodewords lane) := all _
theorem fastRelockComplete (t : Nanos) (port : BringPort) (ok : Bool) (lane : Fin 38) : Statement (.fastRelockComplete t port ok lane) := all _
theorem retrainTrigger (t : Nanos) (lane : Fin 38) (snr : Int) : Statement (.retrainTrigger t lane snr) := all _
theorem figureOfMeritLow (t : Nanos) (lane : Fin 38) (snr : Int) : Statement (.figureOfMeritLow t lane snr) := all _
theorem checkerLock (t : Nanos) (lane : Fin 38) (inverted : Bool) (errorFree : Nat) : Statement (.checkerLock t lane inverted errorFree) := all _
theorem backplaneLinkChange (t : Nanos) (b : Fin 2) (up : Bool) : Statement (.backplaneLinkChange t b up) := all _
theorem servicePortLinkChange (t : Nanos) (link : ServiceLink) : Statement (.servicePortLinkChange t link) := all _
theorem gateWindowEnd (t : Nanos) (clk : Fin 10) (count : Nat) : Statement (.gateWindowEnd t clk count) := all _
theorem clockStopDetected (t : Nanos) (src : Fin 4) (gapFio : Nat) : Statement (.clockStopDetected t src gapFio) := all _
theorem pllReferenceFailure (t : Nanos) (k : Fin 6) (lockLoss : Bool) : Statement (.pllReferenceFailure t k lockLoss) := all _
theorem forcedSwitchComplete (t : Nanos) (k : Fin 6) : Statement (.forcedSwitchComplete t k) := all _
theorem pllRelock (t : Nanos) (k : Fin 6) : Statement (.pllRelock t k) := all _
theorem accessTimeout (t : Nanos) (block : Nat) (addr : Nat) (initiator : Nat) : Statement (.accessTimeout t block addr initiator) := all _
theorem frequencyCounterDone (t : Nanos) (count : Nat) (refStopped : Bool) : Statement (.frequencyCounterDone t count refStopped) := all _
theorem temperatureSample (t : Nanos) (temps : List DomTemp) : Statement (.temperatureSample t temps) := all _
theorem calibrationRunStart (t : Nanos) (d : Fin 28) : Statement (.calibrationRunStart t d) := all _
theorem calibrationRunComplete (t : Nanos) (d : Fin 28) (res : CalResult) : Statement (.calibrationRunComplete t d res) := all _
theorem powerOnSequence (t : Nanos) (boot : BootInfo) : Statement (.powerOnSequence t boot) := all _
theorem powerStepTimeout (t : Nanos) (stp : Fin 10) (ch : Fin 16) : Statement (.powerStepTimeout t stp ch) := all _
theorem xbOvenSettled (t : Nanos) : Statement (.xbOvenSettled t) := all _
theorem xbWarmupTimeout (t : Nanos) : Statement (.xbWarmupTimeout t) := all _
theorem chassisReset (t : Nanos) (lowNs : Nat) (boot : BootInfo) : Statement (.chassisReset t lowNs boot) := all _
theorem watchdogExpiry (t : Nanos) (cls : Fin 13) : Statement (.watchdogExpiry t cls) := all _
theorem autoConfirmExpiry (t : Nanos) : Statement (.autoConfirmExpiry t) := all _
theorem ejector (t : Nanos) (opened : Bool) : Statement (.ejector t opened) := all _
theorem i2cOffsetWrite (t : Nanos) (offset : Byte) : Statement (.i2cOffsetWrite t offset) := all _
theorem i2cRead (t : Nanos) : Statement (.i2cRead t) := all _
theorem liveFieldUpdate (t : Nanos) : Statement (.liveFieldUpdate t) := all _
theorem feedStateChange (t : Nanos) (feed : Fin 2) (mv : Int) : Statement (.feedStateChange t feed mv) := all _
theorem internalShortLimit (t : Nanos) (feed : Fin 2) : Statement (.internalShortLimit t feed) := all _
theorem holdUpCharged (t : Nanos) : Statement (.holdUpCharged t) := all _
theorem inputDip (t : Nanos) : Statement (.inputDip t) := all _
theorem holdUpExpiry (t : Nanos) : Statement (.holdUpExpiry t) := all _
theorem coolFail (t : Nanos) (asserted : Bool) : Statement (.coolFail t asserted) := all _
theorem junctionSample (t : Nanos) (temp : Int) : Statement (.junctionSample t temp) := all _
theorem thermalStopEnd (t : Nanos) : Statement (.thermalStopEnd t) := all _
theorem opticTemperatureRead (t : Nanos) (cage : Fin 9) (temp : Int) (highAlarm : Int) : Statement (.opticTemperatureRead t cage temp highAlarm) := all _
theorem heartbeatCheck (t : Nanos) (missed : List (Fin 64)) : Statement (.heartbeatCheck t missed) := all _
theorem settCoreTrap (t : Nanos) (core : Fin 64) (memory : Bool) : Statement (.settCoreTrap t core memory) := all _
theorem builtInTestComplete (t : Nanos) (pass : Bool) (detail : Nat) : Statement (.builtInTestComplete t pass detail) := all _
theorem datagramQueued (t : Nanos) (r : Fin 128) : Statement (.datagramQueued t r) := all _
theorem komundMessageDiscarded (t : Nanos) (m : KMsg) : Statement (.komundMessageDiscarded t m) := all _
theorem unknownOpcode (t : Nanos) (f : Frame) (opcode : Nat) : Statement (.unknownOpcode t f opcode) := all _
theorem arpAndIcmpEcho (t : Nanos) (route : Route) (msg : LocalMsg) : Statement (.arpAndIcmpEcho t route msg) := all _
theorem delayReqSend (t : Nanos) : Statement (.delayReqSend t) := all _
theorem membershipTimeout (t : Nanos) (port : Fin 32) (group : Nat) (source : Option Nat) : Statement (.membershipTimeout t port group source) := all _
theorem otherQuerierPresentTimeout (t : Nanos) (port : Fin 32) (family : Fam) : Statement (.otherQuerierPresentTimeout t port family) := all _
theorem unsolicitedReportTimer (t : Nanos) (entry : Fin 32768) : Statement (.unsolicitedReportTimer t entry) := all _

end Sys2Proof.Laws.Timed
end

