-- ==== Sys2Proof/Laws/Preud.lean ====
section
/-! SUPPORT. What a request in its turn comes to: nothing lapses, it is executed, answered, and no held request follows. -/

namespace Sys2Proof.Machine

variable (m : Mod)

/-! ### Sessions -/

/-- No session holds a request back. -/
def Mod.noneHeld (m : Mod) : Prop := ∀ y ∈ m.preud.sessions, y.held = []

/-- A change of the sessions leaves everything else of the module. -/
theorem Mod.modSession_sessions (sid : Nat) (g : Session → Session) :
    (m.modSession sid g).preud.sessions = m.preud.sessions.map fun y => if y.sid = sid then g y else y := rfl

/-- A session changed is found changed. -/
theorem Mod.session_modSession {sid : Nat} {x : Session} (g : Session → Session) (hg : ∀ y, (g y).sid = y.sid)
    (h : m.session sid = some x) : (m.modSession sid g).session sid = some (g x) := by
  unfold Mod.session at h ⊢
  rw [Mod.modSession_sessions]
  generalize m.preud.sessions = l at h ⊢
  induction l with
  | nil => simp at h
  | cons y l ih =>
    rw [List.find?_cons] at h
    rw [List.map_cons, List.find?_cons]
    by_cases hy : y.sid = sid
    · simp only [hy, decide_true, if_true, hg] at h ⊢
      simp only [Option.some.injEq] at h
      simp [h]
    · simp only [hy, decide_false, if_false] at h ⊢
      exact ih h

/-- A change that holds nothing back leaves none held. -/
theorem Mod.noneHeld_modSession {m : Mod} {sid : Nat} (g : Session → Session) (hg : ∀ y, y.held = [] → (g y).held = [])
    (h : m.noneHeld) : (m.modSession sid g).noneHeld := by
  intro y hy
  rw [Mod.modSession_sessions, List.mem_map] at hy
  obtain ⟨z, hz, rfl⟩ := hy
  split
  · exact hg z (h z hz)
  · exact h z hz

/-- What a session holds decides whether requests follow: none held, none run. -/
theorem Mod.drainHeld_none (e : EventLog) (sid n : Nat) {m : Mod} (h : m.noneHeld) : Mod.drainHeld e sid n m = m := by
  cases n with
  | zero => rfl
  | succ n =>
    unfold Mod.drainHeld
    split
    · rfl
    · rename_i s hs
      have hh : s.held = [] := h s (List.mem_of_find?_eq_some hs)
      rw [hh]
      rfl

/-- With nothing held no gap is open. -/
theorem Mod.skipGaps_none (e : EventLog) (sid n : Nat) {m : Mod} (h : m.noneHeld) : Mod.skipGaps e sid n m = m := by
  cases n with
  | zero => rfl
  | succ n =>
    unfold Mod.skipGaps
    split
    · rfl
    · rename_i s hs
      have hh : s.held = [] := h s (List.mem_of_find?_eq_some hs)
      rw [hh]
      rfl

/-- An operation that changes nothing changes nothing over a list. -/
theorem Mod.each_id {α : Type} (l : List α) (g : Mod → α → Mod) (h : ∀ x ∈ l, g m x = m) : m.each l g = m := by
  unfold Mod.each
  induction l with
  | nil => rfl
  | cons x l ih =>
    rw [List.foldl_cons, h x (List.mem_cons_self ..)]
    exact ih fun y hy => h y (List.mem_cons_of_mem _ hy)

/-- Nothing lapses in a module that nothing disturbs. -/
theorem Mod.lapse_undisturbed (e : EventLog) {m : Mod} (h : m.undisturbed) : m.lapse e = m := by
  have hc : m.preud.challenges.filter (fun c => decide (m.ctr < c.at_ + second)) = m.preud.challenges := by
    rw [List.filter_eq_self]
    intro c hc
    simpa using h.1 c hc
  have h1 : m.expireChallenges = m := by
    unfold Mod.expireChallenges Mod.modPreud
    dsimp only
    rw [hc]
  have hs : m.preud.sessions.filter (fun s => decide (s.lastHeard + 10 * second ≤ m.ctr)) = [] := by
    rw [List.filter_eq_nil_iff]
    intro s hs
    have := (h.2 s hs).1
    simp only [decide_eq_true_eq]
    exact Nat.not_le.mpr this
  have h2 : m.expireSessions = m := by
    unfold Mod.expireSessions
    rw [hs]
    rfl
  unfold Mod.lapse
  rw [h1, h2]
  exact m.each_id _ _ fun s _ => Mod.skipGaps_none e s.sid 8 fun y hy => (h.2 y hy).2

/-! ### A request in its turn -/

/-- A frame's arrival changes no object but the service port's frame count (2610:03). -/
theorem Mod.get_arrives_other (r : Route) {j t : Nat} (h : keyOf 0x2610 3 ≠ keyOf j t) : (m.arrives r).get j t = m.get j t := by
  unfold Mod.arrives
  split
  · exact m.get_bump_other (by decide) h
  · rfl

/-- A frame's arrival opens and closes no route. -/
theorem Mod.routeOpen_arrives (r q : Route) : (m.arrives r).routeOpen q = m.routeOpen q := by
  unfold Mod.routeOpen Mod.routeCarries Mod.flag Mod.n
  rw [m.get_arrives_other r (j := 0x1100) (t := 0x0D) (by decide), m.get_arrives_other r (j := 0x1100) (t := 7) (by decide),
    Mod.arrives_hw]

/-- A frame's arrival disturbs nothing. -/
theorem Mod.undisturbed_arrives {m : Mod} (r : Route) (h : m.undisturbed) : (m.arrives r).undisturbed := by
  unfold Mod.undisturbed
  rw [Mod.arrives_preud, Mod.arrives_ctr]
  exact h

/-- The sessions are those of before the arrival. -/
theorem Mod.session_arrives (r : Route) (sid : Nat) : (m.arrives r).session sid = m.session sid := by
  unfold Mod.session
  rw [Mod.arrives_preud]

/-- An undisturbed module holds nothing back. -/
theorem Mod.undisturbed_noneHeld {m : Mod} (h : m.undisturbed) : m.noneHeld := fun y hy => (h.2 y hy).2

/-- The session of an expected frame, heard. -/
theorem Mod.session_heardFrom {m : Mod} {f : Frame} {x : Session} (h : m.session f.sid = some x) :
    (m.heardFrom f).session f.sid = some { x with lastHeard := m.ctr } :=
  (m.arrives f.route).session_modSession (fun y => { y with lastHeard := m.ctr }) (fun _ => rfl)
    ((m.session_arrives f.route f.sid).trans h)

/-- Hearing a session holds nothing back. -/
theorem Mod.noneHeld_heardFrom {m : Mod} (f : Frame) (h : m.noneHeld) : (m.heardFrom f).noneHeld :=
  Mod.noneHeld_modSession _ (fun _ h => h) fun y hy => h y (by rwa [Mod.arrives_preud] at hy)

/-- An answer holds nothing back. -/
theorem Mod.noneHeld_replied {m : Mod} (f : Frame) (slot op : Nat) (r : Reply) (h : m.noneHeld) :
    (m.replied f slot op r).noneHeld := by
  have h1 := Mod.noneHeld_modSession (sid := f.sid) (fun y : Session =>
    { y with
      expected := f.req + 1
      replies := (y.replies ++ [(f.req, r)]).drop (y.replies.length + 1 - 16) }) (fun _ h => h) h
  intro y hy
  unfold Mod.replied at hy
  rw [Mod.answer_preud, Mod.bump_preud] at hy
  exact h1 y hy

/-- A request in its turn is executed and answered; what follows the answer comes last. -/
theorem Mod.request_turn {m m2 : Mod} {f : Frame} {x : Session} (e : EventLog) (q : Req) {r : Reply} {a : After}
    (h : m.expects f x) (hq : q.opcode ≠ 0x30)
    (hx : (m.heardFrom f).execute e { x with lastHeard := m.ctr } f q = (m2, r, a))
    (hh : ((m2.replied f x.slot q.opcode r).afterwards f.sid a).noneHeld) :
    m.request e f q = (m2.replied f x.slot q.opcode r).afterwards f.sid a := by
  obtain ⟨hr, hs, hk, hn, hw, hu⟩ := h
  have ht : (m.heardFrom f).turn e f q = (m2.replied f x.slot q.opcode r).afterwards f.sid a := by
    unfold Mod.turn
    rw [Mod.session_heardFrom hs]
    dsimp only
    rw [hx]
    dsimp only
    cases q <;> first | rfl | exact absurd rfl hq
  unfold Mod.request Mod.ofSession
  dsimp only
  rw [Mod.routeOpen_arrives, hr, Mod.lapse_undisturbed e (Mod.undisturbed_arrives f.route hu), Mod.session_arrives,
    Mod.arrives_ctr]
  simp only [Bool.not_true, Bool.false_eq_true, if_false, hs, hk, ne_eq, not_true_eq_false]
  unfold Mod.sequence
  rw [if_pos hn]
  show Mod.drainHeld e f.sid 8 ((m.heardFrom f).turn e f q) = _
  rw [ht]
  exact Mod.drainHeld_none e f.sid 8 hh

/-! ### Commands -/

/-- A command that acts, acts: its effect is the next module, where it resets nothing. -/
theorem act_next {s : State} {t : Nanos} {g : Mod → Mod} {m' : Mod} (h : s.serves) (hg : g (s.m.at t) = m')
    (hb : m'.rebooting = false) : act t g s = .next { s with m := m' } := by
  subst hg
  have hr : (s.m.at t).runs = true := h.1
  simp only [act, actE, actAnyE, hr, if_true, State.settle, hb, Bool.false_eq_true, if_false]

/-- The same of a command that sees the event log. -/
theorem actE_next {s : State} {t : Nanos} {g : EventLog → Mod → Mod} {m' : Mod} (h : s.serves)
    (hg : g s.events (s.m.at t) = m') (hb : m'.rebooting = false) : actE t g s = .next { s with m := m' } := by
  subst hg
  have hr : (s.m.at t).runs = true := h.1
  simp only [actE, actAnyE, hr, if_true, State.settle, hb, Bool.false_eq_true, if_false]

/-- The same of a command of the standby domain. -/
theorem actAny_next {s : State} {t : Nanos} {g : Mod → Mod} {m' : Mod} (hg : g (s.m.at t) = m') (hb : m'.rebooting = false) :
    actAny t g s = .next { s with m := m' } := by
  subst hg
  simp only [actAny, actAnyE, State.settle, hb, Bool.false_eq_true, if_false]

/-- The same of a frame of a controller. -/
theorem preudAct_next {s : State} {t : Nanos} {g : EventLog → Mod → Mod} {m' : Mod} (h : s.serves)
    (hg : g s.events (s.m.at t) = m') (hb : m'.rebooting = false) : preudAct t g s = .next { s with m := m' } := by
  subst hg
  have hr : (s.m.at t).hears = true := by
    have : (s.m.at t).runs = true := h.1
    simp only [Mod.hears, this, Bool.true_or]
  simp only [preudAct, actAnyE, hr, if_true, State.settle, hb, Bool.false_eq_true, if_false]

/-- What holds of a command's effect holds of the state it answers. -/
theorem settle_holds {s : State} {m : Mod} {P : Mod → Prop} (h : P m) (hp : ∀ m, P m → P { m with rebooting := false }) :
    ∃ s', (.next (s.settle m) : Host.Outcome State Fault Refusal) = .next s' ∧ s'.pending = s.pending ∧ P s'.m := by
  refine ⟨_, rfl, ?_, ?_⟩
  · unfold State.settle
    split <;> rfl
  · unfold State.settle
    split
    · exact hp m h
    · exact h

/-- A command that sees the event log completes with its effect. -/
theorem completes_actE {i : Instr} {s : State} {t : Nanos} {g : EventLog → Mod → Mod} {P : Mod → Prop}
    (he : exec i s = actE t g s) (h : s.serves) (hg : P (g s.events (s.m.at t)))
    (hp : ∀ m, P m → P { m with rebooting := false }) : Completes i s P := by
  unfold Completes
  rw [he]
  have hr : (s.m.at t).runs = true := h.1
  unfold actE actAnyE
  simp only [hr, if_true]
  exact settle_holds hg hp

/-- A command completes with its effect. -/
theorem completes_act {i : Instr} {s : State} {t : Nanos} {g : Mod → Mod} {P : Mod → Prop} (he : exec i s = act t g s)
    (h : s.serves) (hg : P (g (s.m.at t))) (hp : ∀ m, P m → P { m with rebooting := false }) : Completes i s P :=
  completes_actE (g := fun _ m => g m) he h hg hp

/-- A command of the standby domain completes with its effect. -/
theorem completes_actAny {i : Instr} {s : State} {t : Nanos} {g : Mod → Mod} {P : Mod → Prop} (he : exec i s = actAny t g s)
    (hg : P (g (s.m.at t))) (hp : ∀ m, P m → P { m with rebooting := false }) : Completes i s P := by
  unfold Completes
  rw [he]
  exact settle_holds (s := s) hg hp

/-- A frame of a controller completes with its effect. -/
theorem completes_preud {i : Instr} {s : State} {t : Nanos} {g : EventLog → Mod → Mod} {P : Mod → Prop}
    (he : exec i s = preudAct t g s) (h : s.serves) (hg : P (g s.events (s.m.at t)))
    (hp : ∀ m, P m → P { m with rebooting := false }) : Completes i s P := by
  unfold Completes
  rw [he]
  have hr : (s.m.at t).hears = true := by
    have : (s.m.at t).runs = true := h.1
    simp only [Mod.hears, this, Bool.true_or]
  unfold preudAct actAnyE
  simp only [hr, if_true]
  exact settle_holds hg hp

/-- A module that runs is not in the recovery loader. -/
theorem Mod.runs_not_recovery {m : Mod} (h : m.runs = true) : m.hw.power ≠ .recovery := by
  intro hp
  simp [Mod.runs, hp] at h

/-- A request of a full session of a module that runs is not turned away before it is looked at. -/
theorem Mod.execute_full {m : Mod} (e : EventLog) (s : Session) (f : Frame) (q : Req) (hw : s.weak = false) (hr : m.runs = true) :
    m.execute e s f q = match q with
    | .close => (m, done .empty, .close)
    | .keepalive => (m, done .empty, .nothing)
    | .read l => (m, m.readReq s.selector l, .nothing)
    | .write idx sub staged b => m.writeReq (s.writer f.route false) idx sub (if staged then .staged else .direct) b
    | .timedWrite idx sub t b => m.timedWriteReq (s.writer f.route false) idx sub t b
    | .cancelTimed target sub kind applyTick =>
      ((m.cancelReq s target sub kind applyTick).1, (m.cancelReq s target sub kind applyTick).2, .nothing)
    | .listTimed first => (m, done (.timedList m.timedEntries.length ((m.timedEntries.drop first).take 80)), .nothing)
    | .function fid cmd timed => ((m.functionReq s fid cmd timed).1, (m.functionReq s fid cmd timed).2, .nothing)
    | .subscribe mask sev start => ((m.subscribeReq e s mask sev start).1, (m.subscribeReq e s mask sev start).2, .nothing)
    | .bulkBegin idx sub wr staged length crc =>
      ((m.bulkBegin (s.writer f.route true) idx sub wr staged length crc).1,
        (m.bulkBegin (s.writer f.route true) idx sub wr staged length crc).2, .nothing)
    | .bulkEnd tid => m.bulkEnd s f.route tid
    | .bulkAbort tid => ((m.bulkAbort s.sid tid).1, (m.bulkAbort s.sid tid).2, .nothing) := by
  unfold Mod.execute
  have hp := Mod.runs_not_recovery hr
  cases q <;> simp only [hw, hp, Bool.false_and, Bool.false_eq_true, if_false, decide_false]

end Sys2Proof.Machine
end

