-- ==== Sys2Proof/Tests/Slice0.lean ====
section
/-! SUPPORT. The model's own tests: the bounds of the commands refuse what breaks them, single steps give the spec's worked figures,
and for every statement with hypotheses a state and operands that meet all of them together. -/

namespace Sys2Proof.Tests

open Sys2Proof.Machine

set_option Elab.async false
set_option linter.unusedVariables false

/-! ### Helpers -/

/-- The state right after reset, its module changed. -/
def setUp (f : Mod → Mod) : State := { State.reset with m := f Mod.reset }

/-- A session of the Service role on backplane port B0, and the envelope of its next request. -/
def ses : Session := ⟨7, 0, 3, .b0, 1, 2, .session [] 0 0 7, false, 1, [], [], 0, none, [], 0⟩
def frm : Frame := ⟨.b0, 1, 2, 7, 1, .session [] 0 0 7⟩

/-- A module with that session open. -/
def up (f : Mod → Mod) : State := setUp fun m => f (m.modPreud fun p => { p with sessions := [ses] })

/-- A write that its checks let through is accepted. -/
theorem accepts_of {m : Mod} {f : Frame} {x : Session} {idx sub : Nat} {b : Octets}
    (h : ((m.heardFrom f).writeChecked (x.writer f.route false) idx sub .direct b).toBool = true) : m.accepts f x idx sub b := by
  unfold Mod.accepts
  cases hc : (m.heardFrom f).writeChecked (x.writer f.route false) idx sub .direct b with
  | error e => rw [hc] at h; exact absurd h (by simp [Except.toBool])
  | ok y => exact ⟨y, rfl⟩

/-- Each of a list of writes is accepted. -/
theorem all_accepted {m : Mod} {f : Frame} {x : Session} {l : List (Nat × Nat × Octets)}
    (h : (l.all fun y => ((m.heardFrom f).writeChecked (x.writer f.route false) y.1 y.2.1 .direct y.2.2).toBool) = true) :
    ∀ y ∈ l, m.accepts f x y.1 y.2.1 y.2.2 := fun y hy => accepts_of (List.all_eq_true.mp h y hy)

/-- A result that is no refusal is some value. -/
theorem ok_of {ε α : Type} {x : Except ε α} (h : x.toBool = true) : ∃ y, x = .ok y := by
  cases x with
  | error e => exact absurd h (by simp [Except.toBool])
  | ok y => exact ⟨y, rfl⟩

/-- What is asked of every value of an option is met where it has none. -/
theorem of_none {α : Type} {x : Option α} {p : α → Prop} (h : x = none) : ∀ a, x = some a → p a := by
  intro a ha
  rw [h] at ha
  cases ha

/-! ### Well-formedness: for each bound a command that breaks it is refused -/

/-- A frame, a chassis and a message whose fields are all in their bounds. -/
def wfFrm : Frame := ⟨.b0, 1, 2, 7, 1, .zero⟩
def wfEth : EthFrame := ⟨0, 64, 46, true, .udp, .v4, [239, 0, 0, 1], [10, 0, 0, 1], 0, 5004, none, 64, 0⟩
def wfHdr : MortarHdr := ⟨0, 40, [0, 0, 0, 0], true⟩
def wfKmsg : KMsg := ⟨1, 64, 0, 0, 0, 0, 0, 0, 0, false, false, []⟩
def wfSrd : WireSrd := ⟨0, 0, 0, false, ⟨[], [], []⟩⟩
def wfBoot : BootInfo := ⟨[], [], 0, false, [], true, true, true⟩
def wfDimm : Dimm := ⟨32, 2, 4, 16, true, true, true, 4800⟩
def wfRec : CourseRecord := ⟨0, 0, 0, 0, 0, 34, 0, 0, 0, 0, 0, 0, 0, 0, 0, 0, 0, 0, [], 0, 0, 0, [], 0, 0, 0⟩

theorem test_wf_accepts : (Instr.keepalive 0 wfFrm).wf ∧ (Instr.frameReceived 0 0 wfEth).wf ∧ (Instr.mortarIdle 0 wfHdr).wf
    ∧ (Instr.grant 0 0 wfKmsg).wf ∧ (Instr.powerOnSequence 0 wfBoot).wf ∧ (Instr.courseRecords 0 wfHdr [wfRec]).wf := by decide
theorem test_wf_instant : (Instr.queueSample (2 ^ 48 * 1000000000)).wf = false := by decide
theorem test_wf_peer : (Instr.keepalive 0 { wfFrm with peer := 2 ^ 32 }).wf = false := by decide
theorem test_wf_peer_port : (Instr.keepalive 0 { wfFrm with peerPort := 65536 }).wf = false := by decide
theorem test_wf_sid : (Instr.keepalive 0 { wfFrm with sid := 2 ^ 32 }).wf = false := by decide
theorem test_wf_req : (Instr.keepalive 0 { wfFrm with req := 2 ^ 64 }).wf = false := by decide
theorem test_wf_cnonce : (Instr.hello 0 wfFrm 0 (2 ^ 128)).wf = false := by decide
theorem test_wf_mnonce : (Instr.openReq 0 wfFrm (2 ^ 128)).wf = false := by decide
theorem test_wf_time_seconds : (Instr.functionStart 0 wfFrm 2 (some ⟨2 ^ 48, 0⟩)).wf = false := by decide
theorem test_wf_time_nanos : (Instr.timedWrite 0 wfFrm 0x1100 2 ⟨0, 1000000000⟩ []).wf = false := by decide
theorem test_wf_read_index : (Instr.read 0 wfFrm [⟨65536, 0, false⟩]).wf = false := by decide
theorem test_wf_read_sub : (Instr.read 0 wfFrm [⟨0x1000, 256, false⟩]).wf = false := by decide
theorem test_wf_read_items : (Instr.read 0 wfFrm (List.replicate 351 ⟨0x1000, 0, false⟩)).wf = false := by decide +kernel
theorem test_wf_inline_value : (Instr.write 0 wfFrm 0x1100 2 false (List.replicate 1397 0)).wf = false := by decide +kernel
theorem test_wf_bulk_data : (Instr.bulkData 0 wfFrm 1 0 1345 (List.replicate 1345 0)).wf = false := by decide +kernel
theorem test_wf_transfer : (Instr.bulkEnd 0 wfFrm 65536).wf = false := by decide
theorem test_wf_crc : (Instr.bulkBegin 0 wfFrm 0x3010 1 true false 80 (2 ^ 32)).wf = false := by decide
theorem test_wf_function : (Instr.openChangeSet 0 wfFrm 65536).wf = false := by decide
theorem test_wf_opcode : (Instr.unknownOpcode 0 wfFrm 256).wf = false := by decide
theorem test_wf_event_number : (Instr.eventAck 0 wfFrm (2 ^ 64)).wf = false := by decide
theorem test_wf_mask : (Instr.legMaskWrite 0 wfFrm 0 (2 ^ 32)).wf = false := by decide
theorem test_wf_video_payload_type : (Instr.videoPacket 0 (.channel 0) .red ⟨0, 128, 0, [], 0, false⟩).wf = false := by decide
theorem test_wf_video_timestamp : (Instr.videoPacket 0 (.channel 0) .red ⟨0, 96, 2 ^ 32, [], 0, false⟩).wf = false := by decide
theorem test_wf_video_row : (Instr.videoPacket 0 (.channel 0) .red ⟨0, 96, 0, [{ wfSrd with row := 65536 }], 0, false⟩).wf = false := by decide
theorem test_wf_video_srds : (Instr.videoPacket 0 (.channel 0) .red ⟨0, 96, 0, List.replicate 65 wfSrd, 0, false⟩).wf = false := by decide +kernel
theorem test_wf_audio_channels : (Instr.audioPacket 0 0 0 .red ⟨0, 97, 0, [List.replicate 65 0]⟩).wf = false := by decide +kernel
theorem test_wf_anc_line : (Instr.ancPacket 0 0 0 .red ⟨0, 98, 0, [⟨0x60, 0x60, false, 2048, 0, []⟩]⟩).wf = false := by decide
theorem test_wf_anc_did : (Instr.ancPacket 0 0 0 .red ⟨0, 98, 0, [⟨256, 0x60, false, 9, 0, []⟩]⟩).wf = false := by decide
theorem test_wf_video_payload : (Instr.videoPacket 0 (.channel 0) .red ⟨0, 96, 0, [], 8961, false⟩).wf = false := by decide
theorem test_wf_decode_packet : (Instr.decodeDatagram 0 0 .red ⟨0, 33, [List.replicate 187 0]⟩).wf = false := by decide +kernel
theorem test_wf_frame_address : (Instr.frameReceived 0 0 { wfEth with fam := .v6 }).wf = false := by decide
theorem test_wf_frame_vlan : (Instr.frameReceived 0 0 { wfEth with vlan := some 4096 }).wf = false := by decide
theorem test_wf_frame_dscp : (Instr.frameReceived 0 0 { wfEth with dscp := 64 }).wf = false := by decide
theorem test_wf_report_group : (Instr.igmpMldReport 0 0 ⟨.v4, 3, 2 ^ 32, .include, []⟩).wf = false := by decide
theorem test_wf_report_source : (Instr.igmpMldReport 0 0 ⟨.v4, 3, 0xE8000001, .include, [2 ^ 32]⟩).wf = false := by decide
theorem test_wf_query : (Instr.igmpMldQuery 0 0 ⟨.v6, 2, 2 ^ 128, 0, [], false⟩).wf = false := by decide
theorem test_wf_query_source : (Instr.igmpMldQuery 0 0 ⟨.v4, 3, 0x0A000000, 0xE8000001, [2 ^ 32], false⟩).wf = false := by decide
theorem test_wf_ptp_domain : (Instr.ptpMessage 0 0 ⟨0, 0, 256, true, false, 0, 319, .other⟩).wf = false := by decide
theorem test_wf_ptp_source : (Instr.ptpMessage 0 0 ⟨2 ^ 64, 0, 0, true, false, 0, 319, .other⟩).wf = false := by decide
theorem test_wf_ptp_number : (Instr.ptpMessage 0 0 ⟨0, 65536, 0, true, false, 0, 319, .other⟩).wf = false := by decide
theorem test_wf_mortar_sequence : (Instr.mortarIdle 0 { wfHdr with seq := 2 ^ 32 }).wf = false := by decide
theorem test_wf_mortar_credits : (Instr.mortarIdle 0 { wfHdr with credits := [0, 0, 0] }).wf = false := by decide
theorem test_wf_hello_term : (Instr.mortarHello 0 wfHdr ⟨0, 0, 0, .standby, 2 ^ 64, 0, 0, 0, 0⟩).wf = false := by decide
theorem test_wf_status_term : (Instr.mortarStatus 0 wfHdr ⟨.standby, 2 ^ 64, true, 0⟩).wf = false := by decide
theorem test_wf_course : (Instr.courseRecords 0 wfHdr [{ wfRec with course := 34 }]).wf = false := by decide
theorem test_wf_repair : (Instr.repairData 0 wfHdr ⟨0, 2 ^ 64, 0, []⟩).wf = false ∧ (Instr.repairData 0 wfHdr ⟨0, 0, 2 ^ 32, []⟩).wf = false := by decide
theorem test_wf_placement : (Instr.placement 0 wfHdr ⟨[(0, 8)], []⟩).wf = false ∧ (Instr.placement 0 wfHdr ⟨[], [((32, 0), 0)]⟩).wf = false := by
  decide
theorem test_wf_komund : (Instr.grant 0 0 { wfKmsg with lease := 2 ^ 32 }).wf = false := by decide
theorem test_wf_local_address : (Instr.arpAndIcmpEcho 0 .b0 (.arp (2 ^ 32))).wf = false := by decide
theorem test_wf_local_ident : (Instr.arpAndIcmpEcho 0 .b0 (.icmpEcho 1 65536)).wf = false := by decide
theorem test_wf_one_dimm_a_channel : (Instr.powerOnSequence 0 { wfBoot with dimms := [(3, wfDimm), (3, wfDimm)] }).wf = false := by decide
theorem test_wf_one_temperature_a_domain : (Instr.temperatureSample 0 [⟨1, 0, 0⟩, ⟨1, 5, 0⟩]).wf = false := by decide
theorem test_wf_one_miss_a_core : (Instr.heartbeatCheck 0 [4, 4]).wf = false := by decide

/-! ### Worked figures of the spec -/

-- ch. 2, worked example: 30-NTSC, 1,900,000,000 s
theorem test_tick_of_a_time : Family.f30ntsc.tickOf (1900000000 * second) = 7744255744255 := by decide
theorem test_tick_edges : Family.f30ntsc.edge 7744255744255 = 1899999999999817401
    ∧ Family.f30ntsc.edge 7744255744256 = 1900000000000062745 := by decide
theorem test_frame_number : frameOf 7744255744256 = 227772227772 ∧ 7744255744256 % 34 = 8 := by decide
theorem test_course_indexes : courseIndex 7744255744256 1 = 8 ∧ courseIndex 7744255744256 2 = 4 ∧ courseIndex 7744255744256 4 = 2 := by
  decide
theorem test_serve_order_scalers : serveOrder 7744255744256 32 ([5, 17, 28, 30].contains ·) = [28, 30, 5, 17] := by decide +kernel
theorem test_serve_order_dram_ports : serveOrder 7744255744256 24 ([3, 14, 20].contains ·) = [14, 20, 3] := by decide +kernel
-- ch. 16: the first tick at or after a time
theorem test_apply_tick : Family.f30ntsc.firstAt 1900000000000062745 1 = 7744255744256
    ∧ Family.f30ntsc.firstAt 1900000000000062746 1 = 7744255744257 := by decide
-- ch. 3, worked example: channel 4, O = 640 µs, G = 50 µs
theorem test_alignment : alignment .f30ntsc 2 640000 50000 = 3 := by decide
theorem test_receipt_ticks : Family.f30ntsc.edge (3 * 2) = 1472058 ∧ Family.f30ntsc.edge (36 * 2) = 17664705 := by decide
-- R43: the rates of ST 2110-20 flows of ch. 11's and ch. 3's examples
theorem test_video_rates : Family.f30ntsc.videoRate 1 20 2 = 10441 ∧ Family.f30ntsc.videoRate 0 20 2 = 41763 := by decide
-- ch. 4, worked example: channel 9's ladder
def ladder9 (above pre : Nat) : Mod :=
  let rungs := [(1, 0), (6, 1), (7, 0), (8, 2), (9, 0), (0x0B, 2), (0x0C, 1), (0x0D, 3), (0x0E, 0), (0x10, 3), (0x11, above),
    (0x12, 3), (0x13, pre)]
  rungs.foldl (fun m x => m.put 0x48C9 x.1 x.2) (((Mod.reset.put 0x4009 2 1).put 0x4009 3 0).put 0x4009 4 0)
theorem test_line_buffer : (ladder9 0 0).lineBuffer 9 3 = 92160 ∧ (ladder9 0 1).lineBuffer 9 3 = 46080
    ∧ (ladder9 1 0).lineBuffer 9 3 = 23040 := by decide +kernel
theorem test_pass_loads : (ladder9 1 0).passLoad 9 1 = 491520 ∧ (ladder9 1 0).passLoad 9 2 = 122880
    ∧ (ladder9 1 0).passLoad 9 3 = 30720 ∧ (ladder9 0 1).passLoad 9 3 = 491520 := by decide +kernel
-- ch. 6, worked example: UHD HEVC, N = 16, position 5
theorem test_clean_edges : cleanEdge 1 5 16 = 1472 ∧ cleanEdge 1 4 16 = 1216 ∧ cleanEdge 1 3 16 = 960 := by decide
theorem test_intra_region : intraRegion 1 false 5 16 = (1208, 1472) := by decide
theorem test_intra_ctu : ctuIntra 1 false 5 16 18 = true ∧ ctuIntra 1 false 5 16 17 = false := by decide
-- ch. 7, worked example: bond group 5
theorem test_group_refill : Family.f30ntsc.groupRefill 40800 2 = 20020 * Family.f30ntsc.b := by decide
theorem test_estimates_step : [1, 2, 3, 4, 5].map (fun d => scaleBits 4000 (-d)) = [3563, 3174, 2828, 2519, 2244] := by decide
theorem test_skip_floors : skipFloor 1 = 2208 ∧ skipFloor 2 = 1104 := by decide
def claims5 : List Claim :=
  [⟨20, 0, 0, 40000, 18000, 0, 0, 2208, 2208, 0, 12, false⟩, ⟨33, 0, 0, 40000, 5000, 0, 0, 1104, 1104, 1, 12, false⟩,
    ⟨70, 0, 0, 40000, 4000, 0, 0, 1104, 1104, 3, 12, false⟩, ⟨71, 0, 0, 40000, 3000, 0, 0, 1104, 1104, 3, 12, false⟩]
def est5 (c : Claim) (d : Nat) : Nat :=
  scaleBits (if c.r = 20 then 14400 else if c.r = 33 then 4000 else if c.r = 70 then 3200 else 2400) (-d)
theorem test_grants : (grants est5 [3, 0, 1, 2] claims5 23228).map (fun x => (x.req, x.delta))
    = [(18000, 0), (2805, 5), (1104, 12), (1104, 12)] := by decide +kernel
theorem test_grants_short_by_1000 : (grants est5 [3, 0, 1, 2] claims5 29000).map (fun x => x.req) = [18000, 5000, 3562, 2380] := by
  decide +kernel
-- ch. 8, worked example: rendition 20 at k = 2, a = 3, H = 500 µs, M = 1,000 µs
theorem test_launch_times : Mod.reset.launchTime 10 2 0 40 = 2973431 ∧ Mod.reset.launchTime 10 2 39 40 = 3451850 := by decide +kernel
theorem test_presentation_offset : Mod.reset.presentOffset 2 1000000 3 = 20656764 := by decide +kernel
-- ch. 11: a port's load limit is 95 % of its rate
theorem test_load_limit : (Mod.reset.put 0x2402 1 2).loadLimit 8 = 95000000 := by decide +kernel
-- ch. 13, worked example: one 8K ladder channel at 59.94
theorem test_bandwidth_items : [133693440, 33423360, 8355840, 2088960, 385935360, 96483840, 24120960, 6030240, 4 * 8355840].map
    (fun n => Family.f30ntsc.mbps n 2) = [8014, 2004, 501, 126, 23133, 5784, 1446, 362, 2004] := by decide
theorem test_picture_buffers : pictureBuffer 0 0 = 133693440 ∧ pictureBuffer 3 0 = 2088960 := by decide
theorem test_stream_demand : (Mod.reset.put 0x5400 6 200000).streamDemand 0 = 29 := by decide +kernel
-- R250: the replay room of sixteen 128 GiB DIMMs with the default regions
theorem test_replay_room : (Mod.reset.put 0x2000 3 2048).replayRoom = 1813 := by decide +kernel
-- ch. 17, worked example: the rate of an 8K repair
theorem test_repair_rate : ((Mod.reset.put 0x4000 2 1).put 0x5000 3 0).repairRate 0 / 1000000 = 40318 := by decide +kernel
-- ch. 19, worked example: the CRC of "123456789"
theorem test_crc : crcRun 0xFFFFFFFF#32 [0x31, 0x32, 0x33, 0x34, 0x35, 0x36, 0x37, 0x38, 0x39] = 0x1CF96D7C#32
    ∧ crc32c [0x31, 0x32, 0x33, 0x34, 0x35, 0x36, 0x37, 0x38, 0x39] = 0xE3069283 := by decide +kernel
-- R370: U64 counters wrap, U32 counters stop
theorem test_counters : advance .u64 (2 ^ 64 - 1) 1 = 0 ∧ advance .u32 4294967295 1 = 4294967295 := by decide

/-! ### Witnesses: sessions and requests -/
theorem witness_HandshakeOpensASession_hello : ∃ (s : State) (t : Nanos) (f : Frame) (role : Fin 4),
    s.serves ∧ (s.m.at t).routeOpen f.route = true ∧ (s.m.at t).undisturbed
    ∧ (s.m.at t).octets 0x1110 (role.val + 1) ≠ [] ∧ f.key = .role ((s.m.at t).octets 0x1110 (role.val + 1))
    ∧ (s.m.at t).slotsTaken.length < 32 :=
  ⟨setUp fun m => m.putB 0x1110 1 [1], 0, { frm with sid := 0, key := .role [1] }, 0, by decide +kernel⟩

theorem witness_HandshakeOpensASession_open : ∃ (s : State) (t : Nanos) (f : Frame) (c : Challenge),
    s.serves ∧ (s.m.at t).routeOpen f.route = true ∧ (s.m.at t).undisturbed
    ∧ (s.m.at t).preud.challenges.find? (fun c => c.sid = f.sid) = some c ∧ f.key = c.key :=
  ⟨setUp fun m => m.modPreud fun p => { p with challenges := [⟨7, 0, 3, .b0, 1, 2, frm.key, false, 9, 0⟩] }, 999999999, frm,
    ⟨7, 0, 3, .b0, 1, 2, frm.key, false, 9, 0⟩, by decide +kernel⟩

theorem witness_HandshakeOpensASession_number : ∃ (drawn : Nat) (n : Nat) (taken : List Nat),
    taken.length + 2 ≤ n :=
  ⟨0, 3, [1], by decide +kernel⟩

theorem witness_PlainRequestsAreAnswered : ∃ (s : State) (t : Nanos) (f : Frame) (x : Session) (items : List ReadItem)
    (l : List (Option Octets)),
    s.serves ∧ (s.m.at t).expects f x ∧ items ≠ [] ∧ items.length ≤ 64
    ∧ ((s.m.at t).heardFrom f).readAll x.selector items = .ok l ∧ (l.map fun v => 2 + (v.getD []).length).sum ≤ 1400 :=
  ⟨up id, 9999999999, frm, ses, [⟨0x1100, 0x0D, false⟩], [some [0, 0, 0, 3]], by decide +kernel⟩

theorem witness_PlainWritesTakeEffect_direct : ∃ (s : State) (t : Nanos) (f : Frame) (x : Session) (idx : Nat) (sub : Nat) (b : Octets)
    (fl : Field) (v : Val),
    s.serves ∧ (s.m.at t).expects f x
    ∧ ((s.m.at t).heardFrom f).writeChecked (x.writer f.route false) idx sub .direct b = .ok (fl, v) ∧ fl.acc = .rw
    ∧ ((0x3800 ≤ idx ∧ idx ≤ 0x381F) ∨ (0x4A00 ≤ idx ∧ idx ≤ 0x4A7F)) :=
  ⟨up id, 0, frm, ses, 0x381F, 0x0B, [0, 1, 0, 0], (findField 0x381F 0x0B).get!, .num 65536, by decide +kernel⟩

theorem witness_PlainWritesTakeEffect_layer : ∃ (s : State) (t : Nanos) (f : Frame) (x : Session) (idx : Nat) (sub : Nat) (b : Octets)
    (fl : Field) (v : Val),
    s.serves ∧ (s.m.at t).expects f x
    ∧ ((s.m.at t).heardFrom f).writeChecked (x.writer f.route false) idx sub .direct b = .ok (fl, v) ∧ fl.acc = .rw
    ∧ ((0x3800 ≤ idx ∧ idx ≤ 0x381F) ∨ (0x4A00 ≤ idx ∧ idx ≤ 0x4A7F)) :=
  ⟨up fun m => m.put 0x2000 8 1000000, 0, frm, ses, 0x4A00, 5, [0, 4], (findField 0x4A00 5).get!, .num 4, by decide +kernel⟩

theorem witness_PlainWritesTakeEffect_staged : ∃ (s : State) (t : Nanos) (f : Frame) (x : Session) (idx : Nat) (sub : Nat) (b : Octets)
    (fl : Field) (v : Val),
    s.serves ∧ (s.m.at t).expects f x
    ∧ ((s.m.at t).heardFrom f).writeChecked (x.writer f.route false) idx sub .staged b = .ok (fl, v) ∧ 0x4000 ≤ idx ∧ idx ≤ 0x60FF :=
  ⟨up fun m => (m.put 0x4100 1 2).modPreud fun p => { p with changeSets := [⟨0x100, some 7, false, 0, []⟩] }, 0, frm, ses, 0x4000, 2,
    [1], (findField 0x4000 2).get!, .num 1, by decide +kernel⟩

theorem witness_TimedWritesWait_timed : ∃ (s : State) (t : Nanos) (f : Frame) (x : Session) (idx : Nat) (sub : Nat) (at_ : TimeVal)
    (tn : Nanos) (b : Octets) (fl : Field) (v : Val),
    s.serves ∧ (s.m.at t).expects f x ∧ TimeVal_nanos at_ = some tn
    ∧ ((s.m.at t).heardFrom f).writeChecked (x.writer f.route false) idx sub (.timed tn) b = .ok (fl, v) ∧ fl.acc = .rt :=
  ⟨up fun m => m.put 0x1420 1 2, 0, frm, ses, 0x547F, 1, ⟨0, 2000000⟩, 2000000, [0, 30], (findField 0x547F 1).get!, .num 30,
    by decide +kernel⟩

theorem witness_TimedWritesWait_cancel : ∃ (s : State) (t : Nanos) (f : Frame) (x : Session) (target : Nat) (sub : Nat) (applyTick : Nat)
    (w : TimedWrite),
    s.serves ∧ (s.m.at t).expects f x ∧ (∀ g, findField target sub = some g → leastRole g.acc target sub 0 ≤ x.role)
    ∧ (s.m.at t).preud.timed.find? (fun w => w.idx = target && w.sub = sub && w.applyTick = applyTick) = some w
    ∧ (s.m.at t).now + 1000000 < (s.m.at t).fam.edge applyTick :=
  ⟨up fun m => m.modPreud fun p => { p with timed := [⟨0x5400, 1, .num 30, 2000000, 34, 7, 0⟩] }, 0, frm, ses, 0x5400, 1, 34,
    ⟨0x5400, 1, .num 30, 2000000, 34, 7, 0⟩,
    by refine ⟨by decide +kernel, by decide +kernel, fun g hg => ?_, by decide +kernel, by decide +kernel⟩; rw [show findField 0x5400 1 = some (findField 0x5400 1).get! by decide +kernel, Option.some.injEq] at hg; rw [← hg]; decide +kernel⟩

theorem witness_FunctionCommandsWait_start : ∃ (s : State) (t : Nanos) (f : Frame) (x : Session) (fid : Nat) (timed : Option TimeVal)
    (named : Option Nanos),
    s.serves ∧ (s.m.at t).expects f x ∧ 2 ≤ x.role ∧ fnExists fid = true ∧ named = timed.bind TimeVal_nanos
    ∧ (∀ v ∈ timed, v.nano < second) ∧ (s.m.at t).fn fid = stopped
    ∧ ((s.m.at t).heardFrom f).cmdFault fid 1 ((s.m.at t).timedApply 2000000 ((s.m.at t).fnGrain fid)) named = none :=
  ⟨up fun m => m.put 0x1420 1 2, 0, frm, ses, 1, some ⟨0, 2000000⟩, some 2000000, by decide +kernel⟩

theorem witness_FunctionCommandsWait_stop : ∃ (s : State) (t : Nanos) (f : Frame) (x : Session) (fid : Nat) (timed : Option TimeVal)
    (named : Option Nanos),
    s.serves ∧ (s.m.at t).expects f x ∧ 2 ≤ x.role ∧ fnExists fid = true ∧ named = timed.bind TimeVal_nanos
    ∧ (∀ v ∈ timed, v.nano < second) ∧ (s.m.at t).fn fid = running
    ∧ ((s.m.at t).heardFrom f).cmdFault fid 2 ((s.m.at t).nextApply ((s.m.at t).fnGrain fid)) named = none
    ∧ ((s.m.at t).heardFrom f).cmdFault fid 3 ((s.m.at t).nextApply ((s.m.at t).fnGrain fid)) named = none :=
  ⟨up fun m => m.setFn 0x10 2, 0, frm, ses, 0x10, none, none, by decide +kernel⟩

theorem witness_ChangeSetsOpenAndClose_open : ∃ (s : State) (t : Nanos) (f : Frame) (x : Session) (fid : Nat),
    s.serves ∧ (s.m.at t).expects f x ∧ 2 ≤ x.role ∧ fnExists fid = true ∧ (s.m.at t).changeSet fid = none ∧ (s.m.at t).fn fid = running :=
  ⟨up fun m => m.put 0x5C80 1 2, 0, frm, ses, 0x300, by decide +kernel⟩

theorem witness_ChangeSetsOpenAndClose_discard : ∃ (s : State) (t : Nanos) (f : Frame) (x : Session) (fid : Nat) (c : ChangeSet),
    s.serves ∧ (s.m.at t).expects f x ∧ 2 ≤ x.role ∧ fnExists fid = true ∧ (s.m.at t).changeSet fid = some c ∧ c.owner = some f.sid
      ∧ c.sealed = false :=
  ⟨up fun m => m.modPreud fun p => { p with changeSets := [⟨0x300, some 7, false, 0, []⟩] }, 0, frm, ses, 0x300,
    ⟨0x300, some 7, false, 0, []⟩, by decide +kernel⟩

theorem witness_EventDelivery : ∃ (s : State) (t : Nanos) (f : Frame) (x : Session) (first : Nat) (g : EventFrame),
    s.serves ∧ (s.m.at t).expects f x ∧ (s.m.at t).attends f x ∧ x.subscription = none ∧ (s.m.at t).session f.sid = some x
    ∧ x.unacked.find? (fun g => g.first = first) = some g ∧ g.sentAt + 50000000 ≤ (s.m.at t).ctr :=
  ⟨setUp fun m => m.modPreud fun p => { p with sessions := [{ ses with unacked := [⟨3, none, [], 0⟩] }] }, 50000000, frm,
    { ses with unacked := [⟨3, none, [], 0⟩] }, 3, ⟨3, none, [], 0⟩, by decide +kernel⟩

theorem witness_EventDelivery_early : ∃ (s : State) (t : Nanos) (x : Session) (sid : Nat) (g : EventFrame),
    s.serves ∧ (s.m.at t).session sid = some x ∧ x.unacked.find? (fun g => g.first = 3) = some g ∧ (s.m.at t).ctr < g.sentAt + 50000000 :=
  ⟨setUp fun m => m.modPreud fun p => { p with sessions := [{ ses with unacked := [⟨3, none, [], 0⟩] }] }, 49999999,
    { ses with unacked := [⟨3, none, [], 0⟩] }, 7, ⟨3, none, [], 0⟩, by decide +kernel⟩

abbrev logged (n : Nat) : List EventRec := (List.range n).map fun k => ⟨5 + k, 0, 0, 0x1101, 2, []⟩
theorem witness_EventDelivery_subscribe : ∃ (s : State) (t : Nanos) (f : Frame) (x : Session) (start : Nat) (due : List EventRec),
    s.serves ∧ (s.m.at t).expects f x ∧ start < s.events.oldest
    ∧ s.events.oldest = 5 ∧ due = (s.events.log.filter fun r => 5 ≤ r.seq && (⟨2 ^ 32 - 1, 0, 5⟩ : Subscription).takes r)
    ∧ due.head? = some ⟨5, 0, 0, 0x1101, 2, []⟩ :=
  ⟨{ up id with events := ⟨0, 30, logged 25⟩ }, 0, frm, ses, 4, logged 25, by decide +kernel⟩

theorem witness_EventDelivery_ack : ∃ (s : State) (t : Nanos) (f : Frame) (x : Session) (sub : Subscription),
    s.serves ∧ (s.m.at t).attends f x ∧ x.subscription = some sub ∧ (x.unacked.filter fun g => g.first ≠ 3).length < 16
      ∧ s.events.oldest ≤ sub.next
    ∧ (s.events.log.filter fun r => sub.next ≤ r.seq && sub.takes r).head? = some ⟨5, 0, 0, 0x1101, 2, []⟩ :=
  ⟨{ (setUp fun m => m.modPreud fun p => { p with sessions := [{ ses with subscription := some ⟨2 ^ 32 - 1, 0, 5⟩, unacked := [⟨3, none, [], 0⟩] }] }) with events := ⟨0, 30, logged 25⟩ },
    0, frm, { ses with subscription := some ⟨2 ^ 32 - 1, 0, 5⟩, unacked := [⟨3, none, [], 0⟩] }, ⟨2 ^ 32 - 1, 0, 5⟩, by decide +kernel⟩

theorem witness_BulkTransfers_begin : ∃ (s : State) (t : Nanos) (f : Frame) (x : Session) (idx : Nat) (sub : Nat) (wr : Bool)
    (staged : Bool) (length : Nat),
    s.serves ∧ (s.m.at t).expects f x
    ∧ ((s.m.at t).heardFrom f).bulkFault (x.writer f.route true) idx sub wr staged length = none :=
  ⟨up id, 0, frm, ses, 0x4C00, 7, true, false, 1344, by decide +kernel⟩

theorem witness_BulkTransfers_data : ∃ (s : State) (t : Nanos) (f : Frame) (x : Session) (tid : Nat) (offset : Nat) (len : Nat)
    (data : Octets) (y : Transfer),
    s.serves ∧ (s.m.at t).expects f x ∧ (s.m.at t).transfer f.sid tid = some y ∧ y.wr = true ∧ y.failed = false
    ∧ 1 ≤ len ∧ len ≤ 1344 ∧ offset % 1344 = 0 ∧ data.length = len ∧ offset + len ≤ y.length ∧ (len = 1344 ∨ offset + len = y.length) :=
  ⟨up fun m => m.modPreud fun p => { p with transfers := [⟨9, 7, 0x4C00, 7, true, false, 1345, 0, [], [], 0, false⟩] }, 10000000000 - 1,
    frm, ses, 9, 1344, 1, [5], ⟨9, 7, 0x4C00, 7, true, false, 1345, 0, [], [], 0, false⟩, by decide +kernel⟩

theorem witness_BulkTransfers_end : ∃ (s : State) (t : Nanos) (f : Frame) (x : Session) (tid : Nat) (y : Transfer),
    s.serves ∧ (s.m.at t).expects f x ∧ (s.m.at t).transfer f.sid tid = some y ∧ y.wr = false ∧ y.failed = false :=
  ⟨up fun m => m.modPreud fun p => { p with transfers := [⟨9, 7, 0x4C00, 7, false, false, 0, 0, [], [], 0, false⟩] }, 0, frm, ses, 9,
    ⟨9, 7, 0x4C00, 7, false, false, 0, 0, [], [], 0, false⟩, by decide +kernel⟩

theorem witness_BulkTransfers_idle : ∃ (s : State) (t : Nanos) (f : Frame) (x : Session) (tid : Nat) (y : Transfer),
    s.serves ∧ (s.m.at t).expects f x ∧ (s.m.at t).preud.transfers.find? (fun y => y.tid = tid) = some y
    ∧ y.heardAt + 10 * second ≤ (s.m.at t).ctr :=
  ⟨setUp fun m => { m with ctr := 10000000000, preud := { m.preud with sessions := [{ ses with lastHeard := 1 }], transfers := [⟨9, 7, 0x4C00, 7, false, false, 0, 0, [], [], 0, false⟩] } },
    0, frm, { ses with lastHeard := 1 }, 9, ⟨9, 7, 0x4C00, 7, false, false, 0, 0, [], [], 0, false⟩, by decide +kernel⟩

theorem witness_BadFramesAndLocalMessages_frames : ∃ (s : State) (t : Nanos) (f : Frame) (x : Session) (r : Route) (k : MalformedKind),
    s.serves ∧ (s.m.at t).routeOpen r = true ∧ k ≠ .mac ∧ (s.m.at t).expects f x :=
  ⟨up id, 0, frm, ses, .service, .version, by decide +kernel⟩

theorem witness_BadFramesAndLocalMessages_local : ∃ (s : State) (t : Nanos) (r : Route) (a : Nat),
    s.serves ∧ (s.m.at t).routeCarries r = true ∧ a ≠ (s.m.at t).routeAddress r :=
  ⟨setUp id, 0, .b1, 1, by decide +kernel⟩

theorem witness_SessionsRunOut_challenge : ∃ (s : State) (t : Nanos) (sid : Nat) (c : Challenge),
    s.serves ∧ c ∈ (s.m.at t).preud.challenges ∧ c.sid = sid ∧ c.at_ + second ≤ (s.m.at t).ctr :=
  ⟨setUp fun m => m.modPreud fun p => { p with challenges := [⟨7, 0, 3, .b0, 1, 2, frm.key, false, 9, 0⟩] }, 1000000000, 7,
    ⟨7, 0, 3, .b0, 1, 2, frm.key, false, 9, 0⟩, by decide +kernel⟩

theorem witness_SessionsRunOut_idle : ∃ (s : State) (t : Nanos) (sid : Nat) (x : Session),
    s.serves ∧ (s.m.at t).session sid = some x ∧ x.lastHeard + 10 * second ≤ (s.m.at t).ctr :=
  ⟨up id, 10000000000, 7, ses, by decide +kernel⟩

theorem witness_SessionsRunOut_gap : ∃ (s : State) (t : Nanos) (sid : Nat) (x : Session) (q : Nat) (at_ : Nanos) (f : Frame),
    s.serves ∧ (s.m.at t).session sid = some x ∧ x.weak = false ∧ f.sid = sid ∧ f.req = q
    ∧ x.held = [(q, at_, f, .keepalive)] ∧ at_ + 50000000 ≤ (s.m.at t).ctr :=
  ⟨setUp fun m => m.modPreud fun p => { p with sessions := [{ ses with held := [(8, 0, { frm with req := 8 }, .keepalive)] }] },
    50000000, 7, { ses with held := [(8, 0, { frm with req := 8 }, .keepalive)] }, 8, 0, { frm with req := 8 }, by decide +kernel⟩

theorem witness_UnauthorisedFramesDoNothing_route : ∃ (s : State) (t : Nanos) (f : Frame),
    s.serves ∧ (s.m.at t).routeOpen f.route = false :=
  ⟨up id, 0, { frm with route := .inband }, by decide +kernel⟩

theorem witness_UnauthorisedFramesDoNothing_key : ∃ (s : State) (t : Nanos) (f : Frame) (x : Session),
    s.serves ∧ (s.m.at t).routeOpen f.route = true ∧ (s.m.at t).undisturbed
    ∧ (s.m.at t).session f.sid = some x ∧ f.key ≠ x.key :=
  ⟨up id, 0, { frm with key := .bad }, ses, by decide +kernel⟩

/-! ### Witnesses: named writes -/
theorem witness_StatisticsResetsZeroWhatTheyName_writes : ∃ (s : State) (t : Nanos) (f : Frame) (x : Session),
    s.serves ∧ (s.m.at t).expects f x ∧ ∀ y ∈ [(0x4201, 0, beOctets 4 (2 ^ 32 - 1)), (0x4F00, 0, beOctets 4 (2 ^ 32 - 1)),
        (0x3600, 0, beOctets 2 (2 ^ 16 - 1)), (0x5251, 0, [255]), (0x5680, 0, [159]), (0x5A10, 0, [127]), (0x5D10, 0, [1]),
        (0x6300, 0, [0]), (0x3A10, 0, [31]), (0x21C0, 0, [0x4F]), (0x2700, 0, [37]), (0x2910, 0, [63]), (0x53FF, 0x0A, [1]),
        (0x1D80, 0, [1]), (0x7081, 0, [1]), (0x7420, 0, [1]), (0x1830, 0, [1])],
      (s.m.at t).accepts f x y.1 y.2.1 y.2.2 :=
  ⟨up id, 0, frm, ses, by decide +kernel, by decide +kernel, all_accepted (by decide +kernel)⟩

theorem witness_StatisticsResetsZeroWhatTheyName : ∃ (idx : Nat) (v : Nat) (i : Nat) (sub : Nat) (j : Nat) (m : Mod),
    idx ≠ 0x1830 ∧ i ≠ 0x1000 ∧ (∃ x ∈ resetTargets idx v, x.1 ≤ i ∧ i ≤ x.2.1 ∧ x.2.2.1 ≤ sub ∧ sub ≤ x.2.2.2) ∧ sub < 256
    ∧ ∀ x ∈ resetTargets idx v, ¬(x.1 ≤ j ∧ j ≤ x.2.1 ∧ x.2.2.1 ≤ sub ∧ sub ≤ x.2.2.2) :=
  ⟨0x4201, 0x80000000, 0x415F, 255, 0x4140, (Mod.reset.put 0x415F 3 5).put 0x4140 3 6, by decide +kernel⟩

def rtUp : State := up fun m =>
  let g : RingPicture := ⟨0, 1, .idr, 0, 4, List.replicate 34 default⟩
  let m := { m with rings := m.rings.set 0 (some ⟨100000, 50, [g, { g with frame := 34 }, { g with frame := 68 }], [], 0, none⟩) }
  let m := (((m.put 0x1420 7 1).setFn 0x100 2).put 0x2000 8 10000000).put 0x7040 1 4
  { ((((m.put 0x7040 7 3).put 0x6200 2 1).putZ 0x6200 5 2000000000).putZ 0x6200 0x0E 2000000000) with
    twin := { m.twin with partner := some ⟨.standby, 1, true, 0⟩ } }
theorem witness_CommandWritesWaitForTheirTick : ∃ (s : State) (t : Nanos) (f : Frame) (x : Session),
    s.serves ∧ (s.m.at t).expects f x ∧ (s.m.at t).commitPending 0 = false ∧ (s.m.at t).n 0x6240 1 ≠ 3
    ∧ ∀ y ∈ [(0x1433, 0, [1]), (0x4900, 1, [1]), (0x491F, 1, [2]), (0x6200, 1, [1]), (0x6200, 1, [2]), (0x620F, 1, [0]),
        (0x7010, 0, [1]), (0x7010, 0, [2]), (0x2408, 0x0A, [1]), (0x744F, 7, beOctets 4 (2 ^ 32 - 1)), (0x561F, 1, beOctets 4 65536),
        (0x34FF, 32, [0, 0, 0, 1])], (s.m.at t).accepts f x y.1 y.2.1 y.2.2 :=
  ⟨rtUp, 0, frm, ses, by decide +kernel, by decide +kernel, by decide +kernel, by decide +kernel, all_accepted (by decide +kernel)⟩

def actUp : State := up fun m =>
  let m := ((((m.put 0x2440 2 4).put 0x2500 1 5).put 0x2400 1 2).put 0x2480 1 5).put 0x2600 2 5
  let m := (m.setFn 0x10 2).put 0x2400 0x0C 1
  { (m.putB (flowIdx 0) 4 [239, 1, 1, 1]) with
    prt := { m.prt with cages := m.prt.cages.set 0 { (default : CageS) with present := true, info := some ⟨true, 14, [2], 0, 0, 0⟩ } } }
theorem witness_OtherWritesActAtOnce : ∃ (s : State) (t : Nanos) (f : Frame) (x : Session) (i : CageModule),
    s.serves ∧ (s.m.at t).expects f x ∧ (s.m.at t).domainLive 0 = true ∧ (s.m.at t).cal.queued = [] ∧ (s.m.at t).n 0x2440 2 = 4
    ∧ ((s.m.at t).cage 0).info = some i ∧ i.optic = true ∧ (s.m.at t).takesModule 0 i = true
    ∧ (s.m.at t).generates 0 = true ∧ (s.m.at t).n 0x2500 8 < 2 ^ 32 - 1
    ∧ ∀ y ∈ [(0x1010, 2, [1]), (0x1840, 4, [1]), (0x1C01, 0, [27]), (0x1C01, 0, [0]), (0x2400, 0x0B, [1]), (0x2500, 3, [1]),
        (0x2525, 4, [40]), (0x7500, 3, [1]), (0x2610, 1, [0]), (0x2610, 1, [1]), (0x1020, 0, [1]),
        (0x7000, 0x0C, List.replicate 32 7), (0x744F, 0x0A, [1]), (0x2525, 1, [1]), (0x2525, 1, [0]), (0x3010, 2, [1]),
        (0x3010, 2, [0])], (s.m.at t).accepts f x y.1 y.2.1 y.2.2 :=
  ⟨actUp, 0, frm, ses, ⟨true, 14, [2], 0, 0, 0⟩, by decide +kernel, by decide +kernel, by decide +kernel, by decide +kernel,
    by decide +kernel, by decide +kernel, by decide +kernel, by decide +kernel, by decide +kernel, by decide +kernel,
    all_accepted (by decide +kernel)⟩

theorem witness_OtherWritesActAtOnce_abort : ∃ (s : State) (t : Nanos) (f : Frame) (x : Session),
    s.serves ∧ (s.m.at t).expects f x ∧ (s.m.at t).hw.test ≠ none ∧ (s.m.at t).accepts f x 0x7500 8 [1] :=
  ⟨up fun m => { m with hw := { m.hw with test := some (1, 0, 0) } }, 0, frm, ses, by decide +kernel, by decide +kernel,
    by decide +kernel, accepts_of (by decide +kernel)⟩

theorem witness_OtherWritesActAtOnce_witness : ∃ (s : State) (t : Nanos) (f : Frame) (x : Session),
    s.serves ∧ (s.m.at t).expects f x ∧ (s.m.at t).accepts f x 0x713F 6 (List.replicate 32 7) ∧ (s.m.at t).accepts f x 0x713F 1 [1] :=
  ⟨up fun m => m.put 0x1021 0 1, 0, frm, ses, by decide +kernel, by decide +kernel, accepts_of (by decide +kernel),
    accepts_of (by decide +kernel)⟩

theorem witness_CommandWritesWaitForTheirTick_export : ∃ (s : State) (t : Nanos) (f : Frame) (x : Session),
    s.serves ∧ (s.m.at t).expects f x ∧ (s.m.at t).n 0x6249 1 = 3 ∧ (s.m.at t).accepts f x 0x6209 1 [2] :=
  ⟨up fun m => ((m.put 0x7040 1 4).put 0x6249 1 3).put 0x6209 2 1, 0, frm, ses, by decide +kernel, by decide +kernel, by decide +kernel,
    accepts_of (by decide +kernel)⟩

theorem witness_ImagesTrialsAndResets_saveAndErase : ∃ (s : State) (t : Nanos) (f : Frame) (x : Session) (i : Fin 8),
    s.serves ∧ (s.m.at t).expects f x ∧ (s.m.at t).accepts f x 0x1180 2 [BitVec.ofNat 8 i.val]
    ∧ (s.m.at t).accepts f x 0x1180 4 [BitVec.ofNat 8 i.val] :=
  ⟨up fun m => (m.put 0x1180 5 0).put 0x3700 1 4, 0, frm, ses, 7, by decide +kernel, by decide +kernel, accepts_of (by decide +kernel),
    accepts_of (by decide +kernel)⟩

def imgUp : State := up fun m => m.putB 0x1181 5 (imageOctets [⟨0x3010, 1, [0, 0]⟩])
theorem witness_ImagesTrialsAndResets_load : ∃ (s : State) (t : Nanos) (f : Frame) (x : Session) (i : Fin 8) (l : List ImageRec),
    s.serves ∧ (s.m.at t).expects f x ∧ (s.m.at t).accepts f x 0x1180 3 [BitVec.ofNat 8 i.val]
      ∧ ((s.m.at t).heardFrom f).loadable = true ∧ parseImage ((s.m.at t).octets (0x1181 + i.val) 5) = some l
     
      ∧ ∃ m1 w1, (((s.m.at t).heardFrom f).clearFlows.modPreud fun p => { p with awaitBoot := [] }).loadRecords (loader f.sid f.route) false l
        = .ok (m1, w1) ∧ m1.crossFault = none :=
  ⟨imgUp, 0, frm, ses, 0, [⟨0x3010, 1, [0, 0]⟩], by decide +kernel, by decide +kernel, accepts_of (by decide +kernel),
    by decide +kernel, by decide +kernel, (by
    have h : (match (((imgUp.m.at 0).heardFrom frm).clearFlows.modPreud fun p => { p with awaitBoot := [] }).loadRecords (loader 7 .b0) false
        [⟨0x3010, 1, [0, 0]⟩] with | .ok y => decide (y.1.crossFault = none) | .error _ => false) = true := by decide +kernel
    split at h
    · rename_i y hy; exact ⟨y.1, y.2, hy, by simpa using h⟩
    · cases h)⟩

theorem witness_ImagesTrialsAndResets_confirm : ∃ (s : State) (t : Nanos) (f : Frame) (x : Session),
    s.serves ∧ (s.m.at t).expects f x ∧ (s.m.at t).hw.trialFrom ≠ none ∧ (s.m.at t).accepts f x 0x1210 3 [1] :=
  ⟨up fun m => { m with hw := { m.hw with trialFrom := some 0 } }, 0, frm, ses, by decide +kernel, by decide +kernel, by decide +kernel,
    accepts_of (by decide +kernel)⟩

theorem witness_ImagesTrialsAndResets_noTrial : ∃ (s : State) (t : Nanos) (f : Frame) (x : Session),
    s.serves ∧ (s.m.at t).expects f x ∧ (s.m.at t).hw.trialFrom = none ∧ (s.m.at t).accepts f x 0x1210 3 [1] :=
  ⟨up id, 0, frm, ses, by decide +kernel, by decide +kernel, by decide +kernel, accepts_of (by decide +kernel)⟩

theorem witness_KeysAndAddressesEndSessions : ∃ (s : State) (t : Nanos) (f : Frame) (x : Session) (role : Fin 4) (key : Octets)
    (sub : Nat) (b : Octets) (fl : Field) (v : Val),
    s.serves ∧ (s.m.at t).expects f x ∧ 1 ≤ sub ∧ sub ≤ 0x0C
    ∧ ((s.m.at t).heardFrom f).writeChecked (x.writer f.route false) 0x1100 sub .direct b = .ok (fl, v)
    ∧ (s.m.at t).accepts f x 0x1110 (1 + role.val) key :=
  ⟨setUp fun m => m.modPreud fun p => { p with sessions := [ses, { ses with sid := 8, slot := 1, role := 0 }] }, 0, frm, ses, 3,
    List.replicate 32 7, 0x0C, [0, 0, 0, 0], (findField 0x1100 0x0C).get!, .num 0, by decide +kernel, by decide +kernel,
    by decide +kernel, by decide +kernel, by decide +kernel, accepts_of (by decide +kernel)⟩

theorem witness_KeysAndAddressesEndSessions_address : ∃ (s : State) (t : Nanos) (f : Frame) (x : Session) (sub : Nat) (b : Octets)
    (fl : Field) (v : Val),
    s.serves ∧ (s.m.at t).expects f x ∧ 1 ≤ sub ∧ sub ≤ 0x0C
    ∧ ((s.m.at t).heardFrom f).writeChecked (x.writer f.route false) 0x1100 sub .direct b = .ok (fl, v)
    ∧ (s.m.at t).get 0x1100 sub ≠ v :=
  ⟨setUp fun m => m.modPreud fun p => { p with sessions := [ses, { ses with sid := 8, slot := 1, role := 0 }] }, 0, frm, ses, 1,
    [10, 0, 0, 9], (findField 0x1100 1).get!, .num 0x0A000009, by decide +kernel⟩

theorem witness_ImagesTrialsAndResets_boots : ∃ (s : State) (t : Nanos) (f : Frame) (x : Session) (low : Nat),
    s.serves ∧ (s.m.at t).expects f x ∧ 1000000 ≤ low ∧ (s.m.at t).accepts f x 0x1030 1 [1] ∧ (s.m.at t).accepts f x 0x1030 1 [2] :=
  ⟨up id, 0, frm, ses, 1000000, by decide +kernel, by decide +kernel, by decide +kernel, accepts_of (by decide +kernel),
    accepts_of (by decide +kernel)⟩

theorem witness_ImagesTrialsAndResets_activate : ∃ (s : State) (t : Nanos) (f : Frame) (x : Session),
    s.serves ∧ (s.m.at t).expects f x ∧ (s.m.at t).accepts f x 0x1210 2 [1] :=
  ⟨up fun m => m.put 0x1200 6 1, 0, frm, ses, by decide +kernel, by decide +kernel, accepts_of (by decide +kernel)⟩

/-! ### Witnesses: ticks, ingest, coding, output, decode -/
theorem witness_EdgesAndLaunchesTakeTheirTurn : ∃ (s : State),
    s.serves :=
  ⟨up id, by decide +kernel⟩

theorem witness_EdgesAndLaunchesTakeTheirTurn_write : ∃ (s : State) (t : Nanos) (w : TimedWrite),
    s.serves ∧ w ∈ (s.m.at t).preud.timed ∧ w.idx ≠ 0x1433 ∧ w.idx ≠ 0x1440 ∧ 0x5400 ≤ w.idx ∧ w.idx ≤ 0x547F ∧ w.sub < 256
    ∧ w.applyTick ≤ (s.m.at t).fam.tickOf (s.m.at t).now
    ∧ ∀ y ∈ (s.m.at t).preud.timed, y.idx = w.idx → y.sub = w.sub → y.applyTick = w.applyTick → y = w :=
  ⟨up fun m => m.modPreud fun p => { p with timed := [⟨0x547F, 1, .num 20, 0, 0, 7, 0⟩] }, 0, ⟨0x547F, 1, .num 20, 0, 0, 7, 0⟩,
    by decide +kernel⟩

theorem witness_EdgesAndLaunchesTakeTheirTurn_stop : ∃ (s : State) (t : Nanos) (k : Nat) (x : FnCmd),
    s.serves ∧ k ≠ 0 ∧ x ∈ (s.m.at t).preud.fnCmds ∧ x.named ≠ none ∧ x.applyTick ≤ (s.m.at t).fam.tickOf (s.m.at t).now
    ∧ (∀ y ∈ (s.m.at t).preud.fnCmds, y.fid = x.fid → y.named ≠ none → y.applyTick = x.applyTick → y = x)
    ∧ within x.fid 0x100 0x11F = true ∧ x.cmd = 2 ∧ (s.m.at t).fn x.fid = running :=
  ⟨up fun m => (m.setFn 0x11F 2).modPreud fun p => { p with fnCmds := [{ (default : FnCmd) with fid := 0x11F, cmd := 2, applyTick := 0, named := some 0 }] },
    0, 1, { (default : FnCmd) with fid := 0x11F, cmd := 2, applyTick := 0, named := some 0 }, by decide +kernel⟩

theorem witness_EdgesAndLaunchesTakeTheirTurn_start : ∃ (s : State) (t : Nanos) (k : Nat) (x : FnCmd),
    s.serves ∧ k ≠ 0 ∧ x ∈ (s.m.at t).preud.fnCmds ∧ x.named ≠ none ∧ x.applyTick ≤ (s.m.at t).fam.tickOf (s.m.at t).now
    ∧ (∀ y ∈ (s.m.at t).preud.fnCmds, y.fid = x.fid → y.named ≠ none → y.applyTick = x.applyTick → y = x)
    ∧ within x.fid 0x300 0x301 = true ∧ x.cmd = 1 ∧ (s.m.at t).fn x.fid ≠ stopping :=
  ⟨up fun m => (m.setFn 0x301 1).modPreud fun p => { p with fnCmds := [{ (default : FnCmd) with fid := 0x301, cmd := 1, applyTick := 0, named := some 0 }] },
    0, 1, { (default : FnCmd) with fid := 0x301, cmd := 1, applyTick := 0, named := some 0 }, by decide +kernel⟩

theorem witness_EdgesAndLaunchesTakeTheirTurn_abandon : ∃ (s : State) (t : Nanos) (n : Fin 32),
    s.serves ∧ (s.m.at t).n (0x4900 + n.val) 1 = 1 ∧ (s.m.at t).n (0x4900 + n.val) 2 < ((s.m.at t).chan n.val).deferred :=
  ⟨setUp fun m => ((m.put 0x491F 1 1).put 0x491F 2 3).modChan 31 fun c => { c with deferred := 4 }, 0, 31, by decide +kernel⟩

theorem witness_EdgesAndLaunchesTakeTheirTurn_deferred : ∃ (s : State) (t : Nanos) (n : Fin 32),
    s.serves ∧ ((s.m.at t).n (0x4900 + n.val) 1 ≠ 1 ∨ ((s.m.at t).chan n.val).deferred ≤ (s.m.at t).n (0x4900 + n.val) 2) :=
  ⟨setUp fun m => ((m.put 0x491F 1 1).put 0x491F 2 3).modChan 31 fun c => { c with deferred := 3 }, 0, 31, by decide +kernel⟩

theorem witness_EdgesAndLaunchesTakeTheirTurn_stopping : ∃ (s : State) (t : Nanos) (fid : Nat),
    s.serves ∧ fnExists fid = true ∧ (s.m.at t).fn fid = stopping ∧ (s.m.at t).drained fid = true
    ∧ fnExists 0x101 = true ∧ (s.m.at t).fn 0x101 ≠ stopping :=
  ⟨setUp fun m => m.setFn 0x100 3, 0, 0x100, by decide +kernel⟩

def runAt (k a first : Nat) : Run := { (default : Run) with grid := ⟨k, a, first, none, default⟩ }
def vidUp : State := setUp fun m => m.modChan 31 fun c => { c with video := { c.video with runs := [runAt 1 33 0], seen := [⟨9, 0, .blue⟩] } }
abbrev vpk (seq pt ts : Nat) (field : Bool) (octets : Nat) : VideoPkt := ⟨seq, pt, ts, [⟨0, 0, octets, field, default⟩, ⟨1, 0, 5, false, default⟩], 20, false⟩
theorem witness_VideoFlowsAreReceived_placed : ∃ (s : State) (t : Nanos) (g : VideoTarget) (p : VideoPkt) (f : Nat) (r : Run),
    s.serves ∧ ((s.m.at t).video g).runs ≠ [] ∧ (s.m.at t).takesPackets g = true ∧ p.bufferFull = false
    ∧ (∀ y ∈ keptNumbers (s.m.at t).now ((s.m.at t).skewWindow (targetChan g)) ((s.m.at t).video g).seen, y.seq ≠ p.seq)
    ∧ (s.m.at t).judge g ((s.m.at t).video g) p = .placed f ∧ ((s.m.at t).video g).runOf f = some r
    ∧ (splitLate r.grid f (s.m.at t).tick p.srds).1 ≠ [] :=
  ⟨vidUp, 2000000, .channel 31, vpk 5 96 0 false 5, 0, runAt 1 33 0, by decide +kernel⟩

theorem witness_VideoFlowsAreReceived_discarded : ∃ (s : State) (t : Nanos) (g : VideoTarget) (full : VideoPkt) (y : Seen),
    s.serves ∧ ((s.m.at t).video g).runs ≠ [] ∧ (s.m.at t).takesPackets g = true ∧ full.bufferFull = true
    ∧ (keptNumbers (s.m.at t).now ((s.m.at t).skewWindow (targetChan g)) ((s.m.at t).video g).seen).find? (fun y => y.seq = 9) = some y
    ∧ (s.m.at t).judge g ((s.m.at t).video g) (vpk 5 97 0 false 5) = .malformed
    ∧ (s.m.at t).judge g ((s.m.at t).video g) (vpk 5 96 300000 false 5) = .mismatchedTime
    ∧ (s.m.at t).judge g ((s.m.at t).video g) (vpk 5 96 0 true 5) = .fieldBit :=
  ⟨vidUp, 2000000, .channel 31, { vpk 5 96 0 false 5 with bufferFull := true }, ⟨9, 0, .blue⟩, by decide +kernel⟩

theorem witness_VideoFlowsAreReceived_older : ∃ (s : State) (t : Nanos) (g : VideoTarget) (p : VideoPkt),
    s.serves ∧ ((s.m.at t).video g).runs ≠ [] ∧ (s.m.at t).takesPackets g = true ∧ p.bufferFull = false
      ∧ (s.m.at t).judge g ((s.m.at t).video g) p = .older :=
  ⟨setUp fun m => { (m.modVideo (.layer 31 3) fun v => { v with runs := [runAt 1 33 34] }) with now := 2000000 }, 0, .layer 31 3,
    vpk 5 98 0 false 5, by decide +kernel⟩

theorem witness_VideoFlowsAreReceived_none : ∃ (s : State) (t : Nanos) (g : VideoTarget),
    s.serves ∧ ((s.m.at t).video g).runs = [] :=
  ⟨setUp id, 0, .layer 0 0, by decide +kernel⟩

theorem witness_VideoFlowsAreReceived_timeout : ∃ (s : State) (t : Nanos) (n : Fin 32) (path : Path) (a : Nanos),
    s.serves ∧ ((s.m.at t).chan n.val).video.redAt = some a
    ∧ (s.m.at t).flag (0x4100 + n.val) 5 = true ∧ a + (s.m.at t).n (0x4000 + n.val) 0x0D ≤ (s.m.at t).now
   
      ∧ (∀ a : Nanos, ((s.m.at t).chan n.val).video.blueAt = some a → (s.m.at t).flag (0x4100 + n.val) 6 = false ∨ (s.m.at t).now < a + (s.m.at t).n (0x4000 + n.val) 0x0D) :=
  ⟨setUp fun m => ((m.put 0x411F 5 1).put 0x401F 0x0D 10000000000).modChan 31 fun c => { c with video := { c.video with redAt := some 0 } },
    10000000000, 31, .red, 0, by decide +kernel, by decide +kernel, by decide +kernel, by decide +kernel,
    fun _ _ => .inl (by decide +kernel)⟩

theorem witness_VideoFlowsAreReceived_hold : ∃ (s : State) (t : Nanos) (n : Fin 32) (r : Run),
    s.serves ∧ ((s.m.at t).chan n.val).video.runs.getLast? = some r ∧ r.lost = true
      ∧ ((s.m.at t).policySnap n.val (s.m.at t).tick).policy = 0
    ∧ ((s.m.at t).policySnap n.val (s.m.at t).tick).hold ≠ 0 ∧ ((s.m.at t).policySnap n.val (s.m.at t).tick).hold ≤ r.heldPics
      ∧ r.holdReached = false
    ∧ (((s.m.at t).chan 0).video.runs.getLast?.getD default).lost = false :=
  ⟨setUp fun m => (m.put 0x401F 0x10 10).modChan 31 fun c => { c with video := { c.video with runs := [{ runAt 1 33 0 with lost := true, heldPics := 10 }] } },
    0, 31, { runAt 1 33 0 with lost := true, heldPics := 10 }, by decide +kernel⟩

def audUp : State := setUp fun m =>
  let m := ((m.setFn 0x100 2).put 0x4040 (audioSub 3 1) 0).put 0x4080 4 7
  m.modChan 0 fun c => { c with video := { c.video with runs := [runAt 1 33 0] }, audio := c.audio.set 3 { nth c.audio 3 with seen := [⟨9, 0, .red⟩] }, anc := c.anc.set 1 { nth c.anc 1 with seen := [⟨9, 0, .red⟩], lost := true } }
theorem witness_AudioAndAncillaryFlowsAreMerged_audio : ∃ (s : State) (t : Nanos) (n : Fin 32) (flow : Fin 4) (p : AudioPkt) (y : Seen),
    s.serves ∧ flow.val < ((s.m.at t).chan n.val).audio.length ∧ ((s.m.at t).chan n.val).video.runs ≠ []
      ∧ (s.m.at t).audioBound n.val flow.val = true
    ∧ p.payloadType = (s.m.at t).n (0x4040 + n.val) (audioSub flow.val 3)
    ∧ (∀ z ∈ keptNumbers (s.m.at t).now ((s.m.at t).skewWindow n.val) (nth ((s.m.at t).chan n.val).audio flow.val).seen, z.seq ≠ p.seq)
   
      ∧ (keptNumbers (s.m.at t).now ((s.m.at t).skewWindow n.val) (nth ((s.m.at t).chan n.val).audio flow.val).seen).find? (fun y => y.seq = 9) = some y
    ∧ (s.m.at t).audioSentTo n.val flow.val < (s.m.at t).sampleOfTimestamp p.timestamp :=
  ⟨audUp, 1000000, 0, 3, ⟨5, audUp.m.n 0x4040 (audioSub 3 3), 4800, [[1], [2]]⟩, ⟨9, 0, .red⟩, by decide +kernel⟩

theorem witness_AudioAndAncillaryFlowsAreMerged_anc : ∃ (s : State) (t : Nanos) (n : Fin 32) (flow : Fin 2) (p : AncPkt) (y : Seen)
    (f : Nat) (r : Run),
    s.serves ∧ flow.val < ((s.m.at t).chan n.val).anc.length ∧ ((s.m.at t).chan n.val).video.runs ≠ []
    ∧ p.payloadType = (s.m.at t).n (0x4080 + n.val) (3 * flow.val + 3)
    ∧ (∀ z ∈ keptNumbers (s.m.at t).now ((s.m.at t).skewWindow n.val) (nth ((s.m.at t).chan n.val).anc flow.val).seen, z.seq ≠ p.seq)
   
      ∧ (keptNumbers (s.m.at t).now ((s.m.at t).skewWindow n.val) (nth ((s.m.at t).chan n.val).anc flow.val).seen).find? (fun y => y.seq = 9) = some y
    ∧ (s.m.at t).frameNamed ((s.m.at t).chan n.val).video p.timestamp = some f ∧ ((s.m.at t).chan n.val).video.runOf f = some r
    ∧ (s.m.at t).tick < r.grid.receipt f 33
    ∧ (s.m.at t).frameNamed ((s.m.at t).chan n.val).video 2000000000 = none :=
  ⟨audUp, 1000000, 0, 1, ⟨5, audUp.m.n 0x4080 6, 0, [⟨0x61, 1, false, 9, 0, [1, 2, 3]⟩]⟩, ⟨9, 0, .red⟩, 0, runAt 1 33 0,
    by decide +kernel, by decide +kernel, by decide +kernel, by decide +kernel, by decide +kernel, by decide +kernel, by decide +kernel,
    by decide +kernel, by decide +kernel, by decide +kernel⟩

theorem witness_AudioAndAncillaryFlowsAreMerged_loss : ∃ (s : State) (t : Nanos) (n : Fin 32) (flow : Fin 4) (anc : Fin 2),
    s.serves ∧ flow.val < ((s.m.at t).chan n.val).audio.length ∧ (s.m.at t).fn (chanFid n.val) = running
    ∧ (s.m.at t).audioBound n.val flow.val = true ∧ (nth ((s.m.at t).chan n.val).audio flow.val).lost = false
    ∧ (nth ((s.m.at t).chan n.val).audio flow.val).lastAt + (s.m.at t).n (0x4040 + n.val) 0x1A ≤ (s.m.at t).now
    ∧ anc.val < ((s.m.at t).chan n.val).anc.length
    ∧ ((s.m.at t).n (0x4080 + n.val) (3 * anc.val + 1) ≠ 0xFFFF ∨ (s.m.at t).n (0x4080 + n.val) (3 * anc.val + 2) ≠ 0xFFFF)
    ∧ (nth ((s.m.at t).chan n.val).anc anc.val).lost = false
   
      ∧ (nth ((s.m.at t).chan n.val).anc anc.val).quietFrom + 4 * (34 * (s.m.at t).chanStep n.val) ≤ ((s.m.at t).chan n.val).video.current (s.m.at t).tick
    ∧ (nth ((s.m.at t).chan n.val).audio flow.val).runSince = none :=
  ⟨setUp fun m => { (audUp.m.modChan 0 fun c => { c with anc := c.anc.set 1 default }) with tick := 204 }, 1000000000, 0, 3, 1,
    by decide +kernel⟩

theorem witness_AudioAndAncillaryFlowsAreMerged_restore : ∃ (s : State) (t : Nanos) (n : Fin 32) (flow : Fin 4) (since : Nanos),
    s.serves ∧ flow.val < ((s.m.at t).chan n.val).audio.length ∧ (nth ((s.m.at t).chan n.val).audio flow.val).runSince = some since
    ∧ (nth ((s.m.at t).chan n.val).audio flow.val).lost = true ∧ since + (s.m.at t).n (0x4040 + n.val) 0x1A ≤ (s.m.at t).now
   
      ∧ (s.m.at t).n (0x4040 + n.val) 0x1A * 48000 ≤ ((nth ((s.m.at t).chan n.val).audio flow.val).runNext - (nth ((s.m.at t).chan n.val).audio flow.val).runFirst) * second :=
  ⟨setUp fun m => m.modChan 31 fun c => { c with audio := List.replicate 4 { (default : AudioIn) with runSince := some 0, runNext := 480000, lost := true } },
    1000000000, 31, 0, 0, by decide +kernel⟩

def slc : SliceS := ⟨0, 1000, 4, 3, 0, false, 0, 0, 0, 0, [], []⟩
def cod0 : Coding := { (default : Coding) with slices := [slc], endTick := 1 }
def codUp : State := setUp fun m => { m.modRend 127 fun z => { z with cfgs := [(0, { (default : RendCfg) with k := 1, pipe := 7, lanes := [7] })], coding := [cod0] } with now := 10000000 }
theorem witness_CtusAreCodedOrSubstituted_kept : ∃ (s : State) (t : Nanos) (pipe : Fin 8) (lane : Fin 8) (r : Fin 128) (tile : Fin 8)
    (k : LaneTask) (c : Coding),
    s.serves ∧ (s.m.at t).taskOf pipe.val lane.val = some k ∧ k.r = r.val ∧ k.tile = tile.val
      ∧ ((s.m.at t).rend k.r).coding.find? (fun c => c.frame = k.frame) = some c
    ∧ k.tile < c.slices.length ∧ (nth c.slices k.tile).tile = k.tile ∧ (nth c.slices k.tile).done < (nth c.slices k.tile).ctus
    ∧ (nth c.slices k.tile).exhausted = false ∧ (s.m.at t).taskOf 7 6 = none :=
  ⟨codUp, 0, 7, 7, 127, 0, ⟨7, 7, 127, 0, 0, 1⟩, cod0, by decide +kernel⟩

theorem witness_CtusAreCodedOrSubstituted_cutoff : ∃ (s : State) (t : Nanos) (pipe : Fin 8) (lane : Fin 8) (z : LaneTask),
    s.serves ∧ (s.m.at t).fam.cutoff ((s.m.at t).tick + 1) ≤ (s.m.at t).now
      ∧ (State.reset.m.at t).now < (State.reset.m.at t).fam.cutoff ((State.reset.m.at t).tick + 1)
    ∧ (∀ r, (((s.m.at t).rend r).coding.map fun c => c.frame).Nodup
        ∧ ∀ c ∈ ((s.m.at t).rend r).coding, c.slices.map (fun x => x.tile) = List.range c.slices.length)
    ∧ z ∈ (s.m.at t).laneTasks ∧ z.pipe = pipe.val ∧ z.lane = lane.val ∧ z.endTick = (s.m.at t).tick + 1 :=
  ⟨codUp, 0, 7, 7, ⟨7, 7, 127, 0, 0, 1⟩, by decide +kernel, by decide +kernel, by decide +kernel, (by
    have h : ∀ r < 128, (((codUp.m.at 0).rend r).coding.map fun c => c.frame).Nodup
        ∧ ∀ c ∈ ((codUp.m.at 0).rend r).coding, c.slices.map (fun x => x.tile) = List.range c.slices.length := by decide +kernel
    have hl : (codUp.m.at 0).rends.length = 128 := by decide +kernel
    intro r
    by_cases hr : r < 128
    · exact h r hr
    · have e : (codUp.m.at 0).rend r = default := by
        unfold Mod.rend nth
        rw [List.getD_eq_getElem?_getD, List.getElem?_eq_none (by rw [hl]; omega)]; rfl
      rw [e]; decide), by decide +kernel, by decide +kernel, by decide +kernel, by decide +kernel⟩

theorem witness_SlicesStayWithinTheirBudget : ∃ (x : SliceS) (site : Site) (u : Nat),
    u = ctuFloor site.cfg.rung ∧ x.done ≤ x.ctus ∧ x.bits + u * (x.ctus - x.done) ≤ x.budget :=
  ⟨slc, default, 24, by decide +kernel⟩

def dg0 : Datagram := { (default : Datagram) with launch := 5 }
def outUp (f : Mod → Mod) : State := setUp fun m => f (((m.put 0x2440 5 5).put 0x6200 6 1).modRend 127 fun z => { z with queue := [dg0] })
theorem witness_DatagramsAndPlayoutsAreLaunched : ∃ (s : State) (t : Nanos) (r : Fin 128) (d : Datagram),
    s.serves ∧ ((s.m.at t).rend r.val).packing = [d] ∧ ((s.m.at t).rend r.val).queue = [d] ∧ (s.m.at t).now ≤ d.launch
      ∧ d.launch ≤ (s.m.at t).now
    ∧ (s.m.at t).launchBefore (.rendition r) = none ∧ (s.m.at t).serviceDown r.val 2 = false ∧ d.failed = false
      ∧ (s.m.at t).entitled d.launch = true
    ∧ d.via.red.logical < 32 ∧ (s.m.at t).portUp d.via.red.logical = true ∧ (s.m.at t).strictRoom d.via.red.logical d.frameLength = true
    ∧ ((s.m.at t).rend 0).packing = [] ∧ ((s.m.at t).rend 0).queue = [] ∧ (s.m.at t).launchBefore (.rendition 0) = none :=
  ⟨outUp fun m => m.modRend 127 fun z => { z with packing := [dg0] }, 5, 127, dg0, by decide +kernel⟩

theorem witness_DatagramsAndPlayoutsAreLaunched_before : ∃ (s : State) (t : Nanos) (r : Fin 128) (d : Datagram),
    s.serves ∧ ((s.m.at t).rend r.val).queue = [d] ∧ (s.m.at t).launchBefore (.rendition 0) = some (.rendition r) :=
  ⟨outUp fun m => m.modRend 0 fun z => { z with queue := [{ dg0 with launch := 6 }] }, 6, 127, dg0, by decide +kernel⟩

theorem witness_DatagramsAndPlayoutsAreLaunched_early : ∃ (s : State) (t : Nanos) (r : Fin 128) (d : Datagram),
    s.serves ∧ ((s.m.at t).rend r.val).queue = [d] ∧ (s.m.at t).now < d.launch ∧ (s.m.at t).launchBefore (.rendition r) = none
    ∧ ((s.m.at t).rend 0).queue = [] ∧ (s.m.at t).launchBefore (.rendition 0) = none
    ∧ ((s.m.at t).slot 0).queue = [] ∧ (s.m.at t).launchBefore (.slot 0) = none :=
  ⟨outUp id, 4, 127, dg0, by decide +kernel⟩

theorem witness_DatagramsAndPlayoutsAreLaunched_late : ∃ (s : State) (t : Nanos) (r : Fin 128) (d : Datagram),
    s.serves ∧ ((s.m.at t).rend r.val).packing = [d] ∧ d.launch < (s.m.at t).now ∧ (s.m.at t).serviceDown r.val 2 = false
      ∧ d.failed = false ∧ (s.m.at t).entitled d.launch = true
    ∧ d.via.red.logical < 32 ∧ (s.m.at t).portUp d.via.red.logical = true ∧ (s.m.at t).strictRoom d.via.red.logical d.frameLength = true :=
  ⟨outUp fun m => m.modRend 0 fun z => { z with packing := [dg0] }, 6, 0, dg0, by decide +kernel⟩

theorem witness_DatagramsAndPlayoutsAreLaunched_notEntitled : ∃ (s : State) (t : Nanos) (r : Fin 128) (d : Datagram),
    s.serves ∧ ((s.m.at t).rend r.val).queue = [d] ∧ d.launch ≤ (s.m.at t).now ∧ (s.m.at t).launchBefore (.rendition r) = none
    ∧ (s.m.at t).serviceDown r.val 2 = false ∧ d.failed = false ∧ (s.m.at t).entitled d.launch = false :=
  ⟨outUp fun m => m.put 0x7040 1 3, 6, 127, dg0, by decide +kernel⟩

def dgEnd : Datagram := { dg0 with last := true, course := 33, frame := 68, via := ⟨default, some { (default : PathAddr) with logical := 8 }, 0, 0, 0, none⟩ }
def playUp : State := outUp fun m => { ((m.modRend 127 fun z => { z with queue := [] }).put 0x6240 1 2).put 0x2441 5 5 with slots := m.slots.set 0 { (default : SlotS) with queue := [dgEnd], clip := [34, 68] } }
theorem witness_DatagramsAndPlayoutsAreLaunched_playout : ∃ (s : State) (t : Nanos) (k : Fin 16) (d : Datagram),
    s.serves ∧ ((s.m.at t).slot k.val).queue = [d] ∧ d.via.red.logical < 32 ∧ (∀ pa, d.via.blue = some pa → pa.logical < 32)
    ∧ d.launch < (s.m.at t).now ∧ (s.m.at t).launchBefore (.slot k) = none ∧ (s.m.at t).flag (0x6200 + k.val) 6 = true
      ∧ (s.m.at t).entitled d.launch = true
    ∧ (s.m.at t).portUp d.via.red.logical = true ∧ (s.m.at t).strictRoom d.via.red.logical d.frameLength = true
    ∧ d.last = true ∧ d.course = 33 ∧ some d.frame = ((s.m.at t).slot k.val).clip.getLast? ∧ (s.m.at t).n (0x6240 + k.val) 1 = 2 :=
  ⟨playUp, 6, 0, dgEnd, by decide +kernel, by decide +kernel, by decide +kernel, (by intro pa h; cases h; decide), by decide +kernel,
    by decide +kernel, by decide +kernel, by decide +kernel, by decide +kernel, by decide +kernel, by decide +kernel, by decide +kernel,
    by decide +kernel, by decide +kernel⟩

abbrev auAt (d : Bool) : WaitingAu := ⟨false, default, [], 0, 0, 0, 1, d, false⟩
abbrev picAt (tick : Nat) : DecPicture := ⟨4, tick, 0, 0, none, default, []⟩
def decUp (f : DecodeS → DecodeS) : State := setUp fun m => let m := (m.setFn 0x301 2).put 0x5C81 2 1; { m with decs := m.decs.set 1 (f (m.dec 1)) }
abbrev ddg (seq pt n : Nat) : DecodeDg := ⟨seq, pt, List.replicate n (0x47 :: List.replicate 187 0)⟩
theorem witness_DecodeEnginesTakeTheirFlows : ∃ (s : State) (t : Nanos) (e : Fin 2) (g : DecodeDg) (y : Seen),
    s.serves ∧ e.val < (s.m.at t).decs.length ∧ (s.m.at t).decRuns e.val = true ∧ (s.m.at t).takesFlows e.val = true
    ∧ (g.payloadType = 33 ∨ g.payloadType = (s.m.at t).n (0x5C00 + e.val) 0x0C) ∧ 1 ≤ g.packets.length ∧ g.packets.length ≤ 7
    ∧ (∀ z ∈ keptNumbers (s.m.at t).now ((s.m.at t).n (0x5C00 + e.val) 0x0A) ((s.m.at t).dec e.val).seen, z.seq ≠ g.seq)
    ∧ (keptNumbers (s.m.at t).now ((s.m.at t).n (0x5C00 + e.val) 0x0A) ((s.m.at t).dec e.val).seen).find? (fun y => y.seq = 9) = some y
    ∧ (s.m.at t).now ≤ y.at_ + (s.m.at t).n (0x5C00 + e.val) 0x0A
    ∧ ((s.m.at t).dec e.val).next.getD g.seq = g.seq ∧ ((s.m.at t).dec e.val).ahead = []
    ∧ ((s.m.at t).dec e.val).fill + 188 * g.packets.length ≤ 67108864
    ∧ (s.m.at t).decRuns 0 = false :=
  ⟨decUp fun d => { d with seen := [⟨9, 0, .red⟩] }, 1000000, 1, ddg 5 33 7, ⟨9, 0, .red⟩, by decide +kernel⟩

theorem witness_DecodeEnginesTakeTheirFlows_loss : ∃ (s : State) (t : Nanos) (e : Fin 2),
    s.serves ∧ e.val < (s.m.at t).decs.length ∧ (s.m.at t).decRuns e.val = true ∧ (s.m.at t).decState e.val ≠ decLost
    ∧ ((s.m.at t).dec e.val).lastAt + (s.m.at t).n (0x5C00 + e.val) 0x0B ≤ (s.m.at t).now :=
  ⟨decUp id, 10000000000, 1, by decide +kernel⟩

theorem witness_DecodeEnginesDecodeAndPresent_start : ∃ (s : State) (t : Nanos) (e : Fin 2) (a : WaitingAu) (rest : List WaitingAu),
    s.serves ∧ e.val < (s.m.at t).decs.length ∧ (s.m.at t).decRuns e.val = true ∧ (((s.m.at t).release e.val).dec e.val).decoding = none
    ∧ (((s.m.at t).release e.val).dec e.val).waiting = a :: rest ∧ ((s.m.at t).release e.val).decodeTick e.val a ≤ (s.m.at t).tick
    ∧ (s.m.at t).tick < ((s.m.at t).release e.val).decodeTick e.val a + decodeAllowance ((s.m.at t).n (0x5C00 + e.val) 6)
    ∧ (s.m.at t).decRuns 0 = false :=
  ⟨setUp fun _ => (decUp fun d => { d with waiting := [auAt false] }).m.put 0x5C01 8 1, 0, 1, auAt false, [], by decide +kernel⟩

theorem witness_DecodeEnginesDecodeAndPresent_startEarly : ∃ (s : State) (t : Nanos) (e : Fin 2) (a : WaitingAu) (rest : List WaitingAu),
    s.serves ∧ e.val < (s.m.at t).decs.length ∧ (s.m.at t).decRuns e.val = true ∧ (((s.m.at t).release e.val).dec e.val).decoding = none
    ∧ (((s.m.at t).release e.val).dec e.val).waiting = a :: rest ∧ (s.m.at t).tick < ((s.m.at t).release e.val).decodeTick e.val a :=
  ⟨decUp fun d => { d with waiting := [{ auAt false with complete := 5000000 }] }, 0, 1, { auAt false with complete := 5000000 }, [],
    by decide +kernel⟩

theorem witness_DecodeEnginesDecodeAndPresent_startNone : ∃ (s : State) (t : Nanos) (e : Fin 2),
    s.serves ∧ e.val < (s.m.at t).decs.length ∧ (s.m.at t).decRuns e.val = true ∧ (((s.m.at t).release e.val).dec e.val).decoding = none
    ∧ (((s.m.at t).release e.val).dec e.val).waiting = [] ∧ ((s.m.at t).dec e.val).packets = [] :=
  ⟨decUp id, 0, 1, by decide +kernel⟩

theorem witness_DecodeEnginesDecodeAndPresent_end : ∃ (s : State) (t : Nanos) (e : Fin 2) (y : Decoding),
    s.serves ∧ e.val < (s.m.at t).decs.length ∧ ((s.m.at t).dec e.val).decoding = some y ∧ y.au.damaged = true :=
  ⟨decUp fun d => { d with decoding := some ⟨auAt true, 0, 5, 0⟩ }, 0, 1, ⟨auAt true, 0, 5, 0⟩, by decide +kernel⟩

theorem witness_DecodeEnginesDecodeAndPresent_present : ∃ (s : State) (t : Nanos) (e : Fin 2) (p : DecPicture),
    s.serves ∧ e.val < (s.m.at t).decs.length ∧ isFrameTick (s.m.at t).tick ((s.m.at t).decodeStep e.val) = true
      ∧ ((s.m.at t).dec e.val).outAt ≠ some (s.m.at t).tick
    ∧ (s.m.at t).decRuns e.val = true ∧ (s.m.at t).decState e.val = decDecoding
    ∧ (((s.m.at t).settleDecode e.val).markLate e.val (s.m.at t).tick).duePicture e.val (s.m.at t).tick = some p
    ∧ isFrameTick (s.m.at t).tick ((s.m.at t).decodeStep 0) = true ∧ ((s.m.at t).dec 0).outAt ≠ some (s.m.at t).tick
      ∧ (s.m.at t).decRuns 0 = false :=
  ⟨decUp fun d => { d with ready := [picAt 0] }, 0, 1, picAt 0, by decide +kernel⟩

theorem witness_DecodeEnginesDecodeAndPresent_repeat : ∃ (s : State) (t : Nanos) (e : Fin 2) (p : DecPicture),
    s.serves ∧ e.val < (s.m.at t).decs.length ∧ isFrameTick (s.m.at t).tick ((s.m.at t).decodeStep e.val) = true
      ∧ ((s.m.at t).dec e.val).outAt ≠ some (s.m.at t).tick
    ∧ (s.m.at t).decRuns e.val = true ∧ (s.m.at t).decState e.val = decDecoding
    ∧ (((s.m.at t).settleDecode e.val).markLate e.val (s.m.at t).tick).duePicture e.val (s.m.at t).tick = none
    ∧ ((((s.m.at t).settleDecode e.val).markLate e.val (s.m.at t).tick).dec e.val).current = some p :=
  ⟨decUp fun d => { d with current := some (picAt 0) }, 0, 1, picAt 0, by decide +kernel⟩

theorem witness_DecodeEnginesDecodeAndPresent_noTick : ∃ (s : State) (t : Nanos) (e : Fin 2),
    s.serves ∧ e.val < (s.m.at t).decs.length ∧ isFrameTick (s.m.at t).tick ((s.m.at t).decodeStep e.val) = false
      ∧ ((s.m.at t).dec e.val).outAt = some (s.m.at t).tick :=
  ⟨setUp fun m => { (decUp fun d => { d with outAt := some 1 }).m with tick := 1 }, 0, 1, by decide +kernel⟩

theorem witness_DecodeEnginesDecodeAndPresent_packet : ∃ (s : State) (t : Nanos) (e : Fin 2) (y : Nanos × Bool × Nat × Srd)
    (rest : List (Nanos × Bool × Nat × Srd)),
    s.serves ∧ e.val < (s.m.at t).decs.length ∧ ((s.m.at t).dec e.val).packets = y :: rest ∧ y.1 ≤ (s.m.at t).now
      ∧ (s.m.at t).entitled y.1 = true
    ∧ ((s.m.at t).decodePath e.val false).logical < 32 ∧ (s.m.at t).portUp ((s.m.at t).decodePath e.val false).logical = true :=
  ⟨setUp fun m => (decUp fun d => { d with packets := [(0, false, 7, default), (9, true, 7, default)] }).m.put 0x2440 5 5 |>.put 0x5C41 8 0,
    0, 1, (0, false, 7, default), [(9, true, 7, default)], by decide +kernel⟩

theorem witness_DecodeEnginesDecodeAndPresent_packetEarly : ∃ (s : State) (t : Nanos) (e : Fin 2),
    s.serves ∧ e.val < (s.m.at t).decs.length ∧ ∀ y ∈ ((s.m.at t).dec e.val).packets.head?, (s.m.at t).now < y.1 :=
  ⟨decUp fun d => { d with packets := [(9, true, 7, default)] }, 8, 1, by decide +kernel⟩

/-! ### Witnesses: the fabric and PTP -/
def fr (len : Nat) (dst : Octets) : EthFrame := ⟨1, len, 100, true, .udp, .v4, dst, [10, 0, 0, 1], 0x01005E010101, 5004, none, 64, 0⟩
def fabUp : State := setUp fun m =>
  let m := (m.put 0x2447 8 5).put 0x2407 1 2
  let m := (((m.put (flowIdx 0) 2 1).putB (flowIdx 0) 4 [239, 1, 1, 1]).put (flowIdx 0) 5 5004).put (flowIdx 0) 8 (2 ^ 31)
  { m with fab := { m.fab with ports := m.fab.ports.modify 31 fun p => { p with queues := p.queues.set 3 [⟨0, 100, 0, 1, 0, 0, none, 64, true⟩] } } }
theorem witness_FramesAreMatchedSentAndSampled_received : ∃ (s : State) (t : Nanos) (n : Fin 32) (long : EthFrame) (other : EthFrame)
    (x : EthFrame) (e : Nat),
    s.serves ∧ (s.m.at t).portUp n.val = true ∧ 9216 < long.length
    ∧ other.length ≤ 9216 ∧ other.kind = .udp ∧ (s.m.at t).flowLookup n.val other = none
    ∧ x.length ≤ 9216 ∧ x.kind = .udp ∧ (s.m.at t).flowLookup n.val x = some e ∧ (s.m.at t).flow e 9 ≤ 7 :=
  ⟨fabUp, 0, 31, fr 9217 [239, 1, 1, 1], fr 9216 [239, 1, 1, 2], fr 9216 [239, 1, 1, 1], 0, by decide +kernel⟩

theorem witness_FramesAreMatchedSentAndSampled_forwarded : ∃ (s : State) (t : Nanos) (n : Fin 32) (x : EthFrame) (e : Nat),
    s.serves ∧ (s.m.at t).portUp n.val = true ∧ x.length ≤ 9216 ∧ x.kind = .udp ∧ (s.m.at t).flowLookup n.val x = some e
      ∧ (s.m.at t).flow e 9 ≤ 7
    ∧ ((s.m.at t).police e x.ipLength x.dscp).1 = .green ∧ (s.m.at t).portLegs e = [n.val] ∧ x.vlan = none
      ∧ (s.m.at t).flow e 0x0A = 0xFFFF ∧ x.fcsOk = true
    ∧ x.ipLength = x.length ∧ n.val < (s.m.at t).fab.ports.length ∧ (s.m.at t).flow e 9 < ((s.m.at t).portQ n.val).queues.length
   
      ∧ (s.m.at t).admitFrame n.val ((s.m.at t).flow e 9) ⟨(s.m.at t).fab.serial, x.length, (s.m.at t).ctr, x.ident, copyMac x, (s.m.at t).portMac n.val, none, x.ttl, true⟩ false = .ok :=
  ⟨setUp fun _ => { (fabUp.m.put (flowIdx 0) 6 0).put (flowIdx 0) 9 5 with fab := { fabUp.m.fab with legs := [(0, 31)] } }, 0, 31,
    { fr 100 [239, 1, 1, 1] with ipLength := 100 }, 0, by decide +kernel⟩

def bndUp : State := setUp fun m => { (m.put 0x2447 8 5).put 0x2407 1 2 with ctr := 5 }
theorem witness_FramesAreMatchedSentAndSampled_boundary : ∃ (s : State) (t : Nanos) (n : Fin 32) (b : State) (d : State),
    s.serves ∧ b.serves ∧ d.serves ∧ (s.m.at t).portUp n.val = true ∧ ((s.m.at t).portQ n.val).busyUntil ≤ (s.m.at t).ctr
      ∧ (s.m.at t).choose n.val ((s.m.at t).portQ n.val) = .idle
    ∧ (b.m.at t).portUp n.val = true ∧ (b.m.at t).ctr < ((b.m.at t).portQ n.val).busyUntil
    ∧ (d.m.at t).portUp n.val = true ∧ ((d.m.at t).portQ n.val).busyUntil ≤ (d.m.at t).ctr
      ∧ (d.m.at t).choose n.val ((d.m.at t).portQ n.val) = .timed (.rendition 127) :=
  ⟨bndUp, 0, 31,
    setUp fun _ => { bndUp.m with fab := { bndUp.m.fab with ports := bndUp.m.fab.ports.modify 31 fun p => { p with busyUntil := 6 } } },
    setUp fun _ => { (bndUp.m.modRend 127 fun z => { z with queue := [{ (default : Datagram) with via := ⟨{ (default : PathAddr) with logical := 31 }, none, 0, 0, 0, none⟩ }] }) with now := 5 },
    by decide +kernel⟩

theorem witness_FramesAreMatchedSentAndSampled_sent : ∃ (s : State) (t : Nanos) (n : Fin 32) (q : Nat) (cur : Nat) (fresh : Bool)
    (d : List Nat) (f : QFrame) (rest : List QFrame),
    s.serves ∧ (s.m.at t).portUp n.val = true ∧ ((s.m.at t).portQ n.val).busyUntil ≤ (s.m.at t).ctr
    ∧ (s.m.at t).choose n.val ((s.m.at t).portQ n.val) = .queue q cur fresh d ∧ ((s.m.at t).portQ n.val).q q = f :: rest :=
  ⟨fabUp, 0, 31, 3, 0, false, [fabUp.m.atEdge.n 0x381F 1 * 9216 - 100, 0, 0, 0, 0], ⟨0, 100, 0, 1, 0, 0, none, 64, true⟩, [],
    by decide +kernel⟩

theorem witness_FramesAreMatchedSentAndSampled_sampled : ∃ (s : State) (t : Nanos) (n : Fin 32),
    s.serves ∧ (s.m.at t).now % max 1 ((s.m.at t).n 0x3A00 1) = 0 ∧ (s.m.at t).now % (max 1 ((s.m.at t).n 0x3A00 2) * 1000000) = 0
    ∧ (s.m.at t).portExists n.val = true ∧ n.val < (s.m.at t).fab.ports.length :=
  ⟨fabUp, 0, 31, by decide +kernel⟩

theorem witness_GreenFramesKeepTheCommittedRate : ∃ (m : Mod) (e : Nat),
    m.atEdge.flow e 0x0B ≠ 0 :=
  ⟨{ Mod.reset with edgeObjs := [(flowIdx 32767 * 256 + 0x0B, .num 1)] }, 32767, by decide +kernel⟩

def memUp : State := setUp fun m =>
  let m := ((((m.put 0x2447 8 5).put 0x2407 1 2).put 0x3002 1 (2 ^ 31)).put 0x3002 6 0x0A000001).put (flowIdx 32767) 0x13 (2 ^ 31)
  { (m.putB (flowIdx 32767) 4 [239, 1, 1, 1]) with fab := { m.fab with
    members := [⟨31, .v4, 0xEF010102, true, [], [], 0, 0⟩], others := [(31, .v6, 0)], roles := [(31, .v4)], reports := [(32767, 2)] } }
theorem witness_MembershipsAndQueriersAreKept : ∃ (s : State) (t : Nanos) (n : Fin 32) (ex : MemReport) (inc : MemReport)
    (lv : MemReport) (x : Membership),
    s.serves ∧ (s.m.at t).portUp n.val = true ∧ ((s.m.at t).n 0x3002 1).testBit n.val = true ∧ (ex.fam = .v4 → ex.version ≠ 1)
      ∧ ex.mode = .exclude ∧ ex.sources = []
    ∧ ((s.m.at t).fab.members.map Membership.size).sum + 3 ≤ 65536 ∧ inc.mode = .allow ∧ 3 ≤ inc.version
    ∧ lv.mode = .toInclude ∧ lv.sources = [] ∧ 3 ≤ lv.version ∧ x.exclude = true
    ∧ (s.m.at t).fab.members.find? (fun y => y.port = n.val && y.fam = lv.fam && y.group = lv.group) = some x
    ∧ (s.m.at t).fab.roles.contains (n.val, lv.fam) = true ∧ (s.m.at t).portUp 0 = false :=
  ⟨memUp, 0, 31, ⟨.v4, 3, 0xEF010101, .exclude, []⟩, ⟨.v4, 3, 0xEF010101, .allow, [5, 6]⟩, ⟨.v4, 3, 0xEF010102, .toInclude, []⟩,
    ⟨31, .v4, 0xEF010102, true, [], [], 0, 0⟩, by decide +kernel⟩

theorem witness_MembershipsAndQueriersAreKept_queriers : ∃ (s : State) (t : Nanos) (n : Fin 32) (q : MemQuery) (e : Fin 32768) (k : Nat),
    s.serves ∧ (s.m.at t).portUp n.val = true ∧ (q.fam = .v4 → q.version ≠ 1) ∧ ((s.m.at t).n 0x3002 1).testBit n.val = true ∧ q.querier ≠ 0
    ∧ q.querier < (s.m.at t).querierAddress n.val q.fam
    ∧ (s.m.at t).fab.queryAt ≤ (s.m.at t).ctr ∧ (s.m.at t).portExists n.val = true
    ∧ (∀ z ∈ (s.m.at t).fab.others, z.1 = n.val → z.2.1 = .v6 → z.2.2 ≤ (s.m.at t).ctr)
    ∧ (s.m.at t).fab.reports.find? (fun x => x.1 = e.val) = some (e.val, k) ∧ 1 < k ∧ ((s.m.at t).flow e.val 0x13).testBit n.val = true
    ∧ (s.m.at t).fab.reports.find? (fun x => x.1 = 0) = none :=
  ⟨memUp, 0, 31, ⟨.v4, 3, 0x0A000000, 0, [], false⟩, 32767, 2, by decide +kernel⟩

theorem witness_MembershipsAndQueriersAreKept_answer : ∃ (s : State) (t : Nanos) (n : Fin 32) (q : MemQuery) (e : Nat),
    s.serves ∧ (s.m.at t).portUp n.val = true ∧ q.group = 0 ∧ q.sources = [] ∧ e ∈ (s.m.at t).flowsOn
      ∧ ((s.m.at t).flow e 0x13).testBit n.val = true ∧ (s.m.at t).flow e 3 = famNo q.fam
    ∧ (s.m.at t).ctr < (s.m.at t).fab.queryAt ∧ (s.m.at t).fab.reports.find? (fun x => x.1 = e) = some (e, 1) :=
  ⟨setUp fun _ => { (memUp.m.put (flowIdx 32767) 3 0).put (flowIdx 32767) 2 1 with fab := { memUp.m.fab with queryAt := 9, reports := [(32767, 1)] } },
    0, 31, ⟨.v4, 3, 0x0A000000, 0, [], false⟩, 32767, by decide +kernel⟩

def gmd : GmData := ⟨128, 6, 0x20, 0x4E5D, 128, 9, 0⟩
def frn : Foreign := ⟨5, 31, 127, gmd, 1, 0, 2, 37, false, false⟩
def timUp (st : Nat) (f : ServoS → ServoS) : State := setUp fun m =>
  { ((((m.put 0x2447 8 5).put 0x1413 0 (2 ^ 31)).put 0x1414 0 1).put 0x1420 1 st).put 0x1451 0 1 with timeFn := 2, servo := f m.servo }
abbrev ptp (b : PtpBody) (log : Int) : PtpMsg := ⟨5, 3, 127, true, false, log, 31, b⟩
abbrev sel (v : ServoS) : ServoS := { v with selected := some frn, masters := [frn], awaiting := some 3 }
theorem witness_PtpMessagesAreTaken : ∃ (s : State) (a : State) (h : State) (t : Nanos) (n : Fin 32) (bad : PtpMsg) (x : PtpMsg)
    (z : PtpMsg),
    s.serves ∧ a.serves ∧ h.serves ∧ (s.m.at t).timeFn = running ∧ (s.m.at t).portUp n.val = true
      ∧ ((s.m.at t).n 0x1413 0).testBit n.val = true
    ∧ (s.m.at t).ptpOutside bad = true ∧ (s.m.at t).ptpOutside x = false ∧ (s.m.at t).ptpOutside z = false
      ∧ (s.m.at t).servo.selected = some frn
    ∧ frn.port = n.val ∧ frn.source = x.source ∧ (s.m.at t).servo.awaiting = some z.seq ∧ (s.m.at t).servoState = locked
      ∧ (a.m.at t).servoState = acquiring
    ∧ (h.m.at t).servoState = holdover ∧ (s.m.at t).mediaRunning = false ∧ (s.m.at t).servo.masters.length < 8
      ∧ (s.m.at t).flag 0x1414 0 = true
    ∧ (s.m.at t).portUp 30 = false ∧ (s.m.at t).ptpOutside (ptp (.announce gmd 37 false false) (-3)) = false
      ∧ (s.m.at t).ptpOutside (ptp (.delayResp 8) (-7)) = false :=
  ⟨timUp 2 sel, timUp 1 sel, timUp 3 sel, 10, 31, { ptp .other 0 with domain := 128 }, ptp (.sync 5 4) (-7),
    ptp (.followUp 5 (-41)) (-1), by decide +kernel⟩

theorem witness_PtpMessagesAreTaken_media : ∃ (s : State) (a : State) (t : Nanos) (n : Fin 32) (near : PtpMsg) (far : PtpMsg),
    s.serves ∧ a.serves ∧ (s.m.at t).servoState = freerun ∧ (a.m.at t).servoState = acquiring ∧ (s.m.at t).mediaRunning = true
      ∧ (s.m.at t).flag 0x1420 7 = false
    ∧ (1000 : Nat) ≤ (s.m.at t).n 0x1432 0 ∧ (s.m.at t).n 0x1432 0 < 2000000000 ∧ (s.m.at t).ptpOutside near = false
      ∧ (s.m.at t).ptpOutside far = false :=
  ⟨setUp fun _ => (timUp 0 sel).m.setFn 0x100 2, setUp fun _ => (timUp 1 sel).m.setFn 0x100 2, 10, 31, ptp (.sync (-1000) 4) (-7),
    ptp (.sync (-2000000000) 4) (-7), by decide +kernel⟩

theorem witness_PtpMessagesAreTaken_master : ∃ (s : State) (t : Nanos) (n : Fin 32) (x : PtpMsg),
    s.serves ∧ (s.m.at t).timeFn = running ∧ (s.m.at t).portUp n.val = true ∧ ((s.m.at t).n 0x1413 0).testBit n.val = true
      ∧ (s.m.at t).ptpOutside x = false
    ∧ (s.m.at t).flag 0x1414 0 = true ∧ (s.m.at t).servo.selected = none :=
  ⟨timUp 0 id, 10, 31, ptp .delayReq 0, by decide +kernel⟩

theorem witness_TimeIsKeptAndSent : ∃ (s : State) (t : Nanos) (f : Foreign),
    s.serves ∧ (s.m.at t).servo.selected = some f
      ∧ (s.m.at t).servo.lastSync + (s.m.at t).n 0x1412 0 * announceNanos f.logAnnounce ≤ (s.m.at t).ctr
    ∧ (∀ z ∈ (s.m.at t).servo.masters, z.port = f.port ∧ z.source = f.source) ∧ (s.m.at t).servoState = locked
    ∧ (s.m.at t).timeFn = running ∧ (s.m.at t).portUp f.port = true ∧ (s.m.at t).servo.delayAt = none ∧ (s.m.at t).servo.lockSince = none
    ∧ (s.m.at t).now % second = 0 ∧ (s.m.at t).flag 0x1451 0 = true ∧ (s.m.at t).servo.ppsAbsent = false
      ∧ (s.m.at t).servo.ppsAt + 2 * second ≤ (s.m.at t).ctr :=
  ⟨timUp 2 sel, 10000000000, frn, by decide +kernel⟩

theorem witness_TimeIsKeptAndSent_states : ∃ (s : State) (h : State) (t : Nanos) (n : Fin 32) (since : Nanos),
    s.serves ∧ h.serves ∧ (s.m.at t).servo.lockSince = some since ∧ (s.m.at t).servoState = acquiring ∧ since + 8 * second ≤ (s.m.at t).ctr
    ∧ (h.m.at t).servoState = holdover ∧ (h.m.at t).servo.stateAt + (h.m.at t).n 0x1430 0 * second ≤ (h.m.at t).ctr
    ∧ (s.m.at t).timeFn = running ∧ (s.m.at t).flag 0x1414 0 = true ∧ ((s.m.at t).n 0x1413 0).testBit n.val = true
    ∧ (s.m.at t).portUp n.val = true ∧ (s.m.at t).servo.selected = none ∧ (∀ f, (s.m.at t).servo.selected = some f → f.port ≠ n.val)
    ∧ intervalOver (s.m.at t).servo.sentAnnounce n.val logAnnounce (s.m.at t).ctr = true
    ∧ intervalOver (s.m.at t).servo.sentSync n.val logSync (s.m.at t).ctr = true :=
  ⟨timUp 1 fun v => { v with lockSince := some 0 }, timUp 3 id, 1000000000000000, 31, 0, by decide +kernel, by decide +kernel,
    by decide +kernel, by decide +kernel, by decide +kernel, by decide +kernel, by decide +kernel, by decide +kernel, by decide +kernel,
    by decide +kernel, by decide +kernel, by decide +kernel, (fun f h => nomatch h), by decide +kernel, by decide +kernel⟩

/-! ### Witnesses: the twin -/
def twUp (r : Nat) (f : TwinS → TwinS) : State := setUp fun m =>
  { (((m.put 0x24A0 1 5).put 0x7040 7 3).put 0x7040 1 r).put 0x7000 1 9 with twinFn := 2, twin := f m.twin }
def hdr0 : MortarHdr := ⟨0, 64, [0, 0, 0, 0], true⟩
abbrev heard (v : TwinS) : TwinS := { v with mortar := { v.mortar with helloHeard := true, silent := false } }
theorem witness_TheMortarLinkFollowsHello_hello : ∃ (s : State) (t : Nanos) (hdr : MortarHdr) (b : HelloBody) (bad : HelloBody),
    s.serves ∧ (s.m.at t).goodFrame hdr = true ∧ b.partnerFuse = (s.m.at t).fuse ∧ b.pairId = (s.m.at t).n 0x7000 1
      ∧ (s.m.at t).twin.mortar.helloHeard = false ∧ (s.m.at t).role = .active
    ∧ ¬(bad.partnerFuse = (s.m.at t).fuse ∧ bad.pairId = (s.m.at t).n 0x7000 1) ∧ (s.m.at t).twin.mortar.helloBad = false
      ∧ (s.m.at t).goodFrame { hdr with crcOk := false } = false :=
  ⟨twUp 4 id, 0, hdr0, ⟨4, 9, 0, .standby, 1, 0, 3, 2, 0⟩, ⟨4, 9, 1, .standby, 1, 0, 3, 4, 0⟩, by decide +kernel⟩

theorem witness_TheMortarLinkFollowsHello_again : ∃ (s : State) (t : Nanos) (hdr : MortarHdr) (b : HelloBody),
    s.serves ∧ (s.m.at t).goodFrame hdr = true ∧ b.partnerFuse = (s.m.at t).fuse ∧ b.pairId = (s.m.at t).n 0x7000 1
      ∧ ¬((s.m.at t).twin.mortar.helloHeard = false ∨ (s.m.at t).linkUp = false) :=
  ⟨twUp 4 heard, 0, hdr0, ⟨4, 9, 0, .standby, 1, 0, 3, 4, 0⟩, by decide +kernel⟩

theorem witness_TheMortarLinkFollowsHello_timers : ∃ (s : State) (t : Nanos) (hdr : MortarHdr),
    s.serves ∧ (s.m.at t).twinRuns = true ∧ (s.m.at t).mortarLanes = true ∧ (s.m.at t).twin.mortar.helloHeard = false
    ∧ (s.m.at t).twin.mortar.helloAt + 100000 ≤ (s.m.at t).ctr ∧ (s.m.at t).twin.mortar.sentAt + 1000 ≤ (s.m.at t).ctr
    ∧ (s.m.at t).linkUp = true ∧ (s.m.at t).twin.mortar.silent = false
    ∧ (s.m.at t).twin.mortar.heardAt + 50000 ≤ (s.m.at t).ctr ∧ (s.m.at t).twin.mortar.heardAt + 1000000 ≤ (s.m.at t).ctr
      ∧ (s.m.at t).condSet 0x7008 0 = false :=
  ⟨twUp 2 fun v => { v with mortar := { v.mortar with silent := false } }, 1000000, hdr0, by decide +kernel⟩

theorem witness_GapsAreNakkedAndResent : ∃ (s : State) (t : Nanos) (hdr : MortarHdr) (i : Instr) (vc : Fin 4) (expected : Nat),
    s.serves ∧ (s.m.at t).goodFrame hdr = true ∧ (s.m.at t).linkUp = true ∧ mortarFrame i = some (t, hdr, vc.val)
    ∧ hdr.seq ≠ nth (s.m.at t).twin.mortar.recvSeq vc.val ∧ seqFrom hdr.seq (nth (s.m.at t).twin.mortar.recvSeq vc.val) = true
    ∧ (s.m.at t).twin.mortar.naksOf vc.val expected < 15 ∧ (s.m.at t).goodFrame { hdr with crcOk := false } = false :=
  ⟨twUp 3 fun v => { v with mortar := { v.mortar with held := [⟨3, 2 ^ 32 - 1, 1, .mortarIdle []⟩], naks := [((3, 2 ^ 32 - 1), 14)] } },
    0, { hdr0 with seq := 1 }, .placement 0 { hdr0 with seq := 1 } ⟨[], []⟩, 3, 2 ^ 32 - 1, by decide +kernel⟩

theorem witness_GapsAreNakkedAndResent_old : ∃ (s : State) (t : Nanos) (hdr : MortarHdr) (i : Instr) (vc : Nat),
    s.serves ∧ (s.m.at t).goodFrame hdr = true ∧ (s.m.at t).linkUp = true ∧ mortarFrame i = some (t, hdr, vc)
    ∧ hdr.seq ≠ nth (s.m.at t).twin.mortar.recvSeq vc ∧ seqFrom hdr.seq (nth (s.m.at t).twin.mortar.recvSeq vc) = false :=
  ⟨twUp 3 fun v => { v with mortar := { v.mortar with recvSeq := [2, 0, 0, 0] } }, 0, { hdr0 with seq := 1 },
    .handover 0 { hdr0 with seq := 1 } 5 true, 0, by decide +kernel⟩

theorem witness_GapsAreNakkedAndResent_down : ∃ (s : State) (t : Nanos) (hdr : MortarHdr) (vc : Fin 4) (expected : Nat),
    s.serves ∧ (s.m.at t).goodFrame hdr = true ∧ (s.m.at t).linkUp = true ∧ 15 ≤ (s.m.at t).twin.mortar.naksOf vc.val expected :=
  ⟨twUp 3 fun v => { v with mortar := { v.mortar with naks := [((0, 7), 15)] } }, 0, hdr0, 0, 7, by decide +kernel⟩

theorem witness_PartnersAreJudged : ∃ (s : State) (fenced : State) (t : Nanos) (hdr : MortarHdr) (p : StatusBody) (q : StatusBody),
    s.serves ∧ fenced.serves ∧ (s.m.at t).inOrder hdr 0 ∧ (fenced.m.at t).inOrder hdr 0 ∧ (s.m.at t).role = .active ∧ p.role = .active
    ∧ (s.m.at t).term < p.term ∧ (s.m.at t).releasing = false ∧ (fenced.m.at t).role = .fenced ∧ (fenced.m.at t).twinFn = running
    ∧ q.role = .unsynced ∧ q.digest = (s.m.at t).n 0x7040 0x0B ∧ (s.m.at t).twin.awaiting = [] ∧ (s.m.at t).twin.repairs = []
    ∧ (s.m.at t).inOrder hdr 3 ∧ (fenced.m.at t).inOrder hdr 3 ∧ (fenced.m.at t).role ≠ .active :=
  ⟨twUp 4 id, twUp 1 id, 0, hdr0, ⟨.active, 1, true, 5⟩, ⟨.unsynced, 1, true, 0⟩, by decide +kernel⟩

theorem witness_PartnersAreJudged_standby : ∃ (s : State) (t : Nanos) (hdr : MortarHdr) (p : StatusBody) (q : StatusBody),
    s.serves ∧ (s.m.at t).inOrder hdr 0 ∧ (s.m.at t).role = .standby ∧ p.role = .active ∧ p.digest ≠ (s.m.at t).n 0x7040 0x0B
      ∧ (s.m.at t).twin.digestDiffers = false ∧ (s.m.at t).condSet 0x700D 0 = false
     ∧ ¬(q.role = .active ∧ q.digest ≠ (s.m.at t).n 0x7040 0x0B) :=
  ⟨twUp 3 id, 0, hdr0, ⟨.active, 1, true, 5⟩, ⟨.active, 1, true, 0⟩, by decide +kernel⟩

theorem witness_PartnersAreJudged_unsynced : ∃ (s : State) (t : Nanos) (hdr : MortarHdr) (q : StatusBody),
    s.serves ∧ (s.m.at t).inOrder hdr 0 ∧ (s.m.at t).role = .unsynced ∧ q.role = .active ∧ ¬(q.role = .active
      ∧ q.digest ≠ (s.m.at t).n 0x7040 0x0B)
    ∧ (s.m.at t).runningRends.all (fun r => ((s.m.at t).syncOf r).inSync) = true ∧ (s.m.at t).twin.missingSince = none
      ∧ (s.m.at t).twin.sync.any (fun x => x.lastTick ≠ none) = true ∧ (s.m.at t).n 0x7040 0x10 = 3 :=
  ⟨setUp fun _ => (twUp 2 fun v => { v with sync := [{ (default : RendSync) with lastTick := some 3 }] }).m.put 0x7040 0x10 3, 0, hdr0,
    ⟨.active, 1, true, 0⟩, by decide +kernel, by decide +kernel, by decide +kernel, by decide +kernel, by decide +kernel,
    by decide +kernel, by decide +kernel, by decide +kernel, by decide +kernel⟩

def rec0 : CourseRecord := { (default : CourseRecord) with rendition := 127, fingerprint := 1 }
theorem witness_TheStandbyComparesRecords_close : ∃ (s : State) (t : Nanos) (r : Fin 128) (x : CourseRecord) (rest : List CourseRecord),
    s.serves ∧ ((s.m.at t).rend r.val).unclosed = x :: rest ∧ (s.m.at t).role = .active ∧ (s.m.at t).linkUp = true
      ∧ (s.m.at t).serviceDown r.val 3 = false ∧ ((s.m.at t).rend 0).unclosed = [] :=
  ⟨setUp fun _ => ((twUp 4 id).m.modRend 127 fun z => { z with unclosed := [rec0] }), 0, 127, rec0, [], by decide +kernel⟩

theorem witness_TheStandbyComparesRecords_closeStandby : ∃ (s : State) (t : Nanos) (r : Fin 128) (x : CourseRecord)
    (rest : List CourseRecord),
    s.serves ∧ ((s.m.at t).rend r.val).unclosed = x :: rest ∧ ¬((s.m.at t).role = .active ∧ (s.m.at t).linkUp = true
      ∧ (s.m.at t).serviceDown r.val 3 = false) :=
  ⟨setUp fun _ => ((twUp 3 id).m.modRend 127 fun z => { z with unclosed := [rec0] }), 0, 127, rec0, [], by decide +kernel⟩

def recUp : State := setUp fun _ => ((((twUp 3 fun v => { v with missingSince := some 0 }).m.modRend 127 fun z => { z with records := [default, { rec0 with fingerprint := 0 }] }).put 0x507F 1 1).setFn 0x27F 2)
theorem witness_TheStandbyComparesRecords_missing : ∃ (s : State) (t : Nanos) (hdr : MortarHdr) (r : Fin 128) (k : Nat) (since : Nanos),
    s.serves ∧ (s.m.at t).inOrder hdr 1 ∧ (s.m.at t).role = .standby ∧ (s.m.at t).runningRends.contains r.val = true
      ∧ ((s.m.at t).syncOf r.val).lastTick = none ∧ (∀ T, ((s.m.at t).syncOf r.val).lastTick = some T → T < k)
    ∧ isCourseTick k ((s.m.at t).rendStep r.val) = true ∧ (s.m.at t).recordDue r.val k ≤ (s.m.at t).now
    ∧ (s.m.at t).twin.missingSince = some since ∧ since + (s.m.at t).n 0x7000 0x0A ≤ (s.m.at t).ctr ∧ (s.m.at t).condSet 0x700E 0 = false :=
  ⟨recUp, 1000000000, hdr0, 127, 0, 0, by decide +kernel, by decide +kernel, by decide +kernel, by decide +kernel, by decide +kernel,
    of_none (by decide +kernel), by decide +kernel, by decide +kernel, by decide +kernel, by decide +kernel, by decide +kernel⟩

theorem witness_TheStandbyComparesRecords_record : ∃ (m : Mod) (x : CourseRecord) (r : Nat) (y : CourseRecord),
    r = x.rendition.val ∧ m.role = .standby ∧ m.runningRends.contains r = true
    ∧ ((m.rend r).records ++ (m.rend r).unclosed).find? (fun z => z.tick = x.tick && z.course = x.course) = some y ∧ recordDiff x y ≠ 0
      ∧ m.condSet 0x7002 r = false :=
  ⟨recUp.m, rec0, 127, default, by decide +kernel⟩

theorem witness_TheStandbyComparesRecords_match : ∃ (m : Mod) (x : CourseRecord) (y : CourseRecord) (r : Nat),
    m.role = .unsynced ∧ m.runningRends.contains r = true
    ∧ ((m.rend r).records ++ (m.rend r).unclosed).find? (fun z => z.tick = x.tick && z.course = x.course) = some y ∧ recordDiff x y = 0
    ∧ (m.syncOf r).inSync = false ∧ (m.syncOf r).mismatch = false ∧ (m.syncOf r).matches_ = 33 :=
  ⟨((recUp.m.put 0x7040 1 2).modTwin fun v => { v with sync := [{ (default : RendSync) with rend := 127, matches_ := 33 }] }), default,
    default, 127, by decide +kernel⟩

theorem witness_TheStandbyComparesRecords_others : ∃ (a : Mod) (f : Mod) (b : Mod),
    a.role = .active ∧ f.role = .fenced ∧ b.role = .standby ∧ b.runningRends.contains 127 = false :=
  ⟨(twUp 4 id).m, (twUp 1 id).m, (twUp 3 id).m, by decide +kernel⟩

def ref0 : RefPic := ⟨0, List.replicate 34 (List.replicate 4080 1), [0, 1], List.replicate 4 (1, false)⟩
theorem witness_RepairsReplaceTheReconstruction : ∃ (s : State) (t : Nanos) (hdr : MortarHdr) (b : RepairBody),
    s.serves ∧ (s.m.at t).inOrder hdr 2 ∧ (s.m.at t).role = .unsynced ∧ ((s.m.at t).syncOf b.rendition.val).repair = none
      ∧ (∀ j, ((s.m.at t).syncOf b.rendition.val).repair = some j → j + (s.m.at t).n 0x507F 9 * 34 * (s.m.at t).rendStep b.rendition.val ≤ b.tick) :=
  ⟨setUp fun _ => ((twUp 2 id).m.modRend 127 fun z => { z with refs := [ref0] }), 0, hdr0,
    ⟨127, 0, 1, [((2, true), List.replicate 512 9)]⟩, by decide +kernel, by decide +kernel, by decide +kernel, by decide +kernel,
    of_none (by decide +kernel)⟩

theorem witness_RepairsReplaceTheReconstruction_others : ∃ (s : State) (u : State) (t : Nanos) (hdr : MortarHdr) (b : RepairBody),
    s.serves ∧ u.serves ∧ (s.m.at t).inOrder hdr 2 ∧ (s.m.at t).role ≠ .unsynced ∧ (u.m.at t).inOrder hdr 2
      ∧ (u.m.at t).role = .unsynced ∧ (u.m.at t).syncOf 127 = { (default : RendSync) with rend := 127, repair := some 5 }
    ∧ b.tick < 5 :=
  ⟨twUp 3 id, twUp 2 fun v => { v with sync := [{ (default : RendSync) with rend := 127, repair := some 5 }] }, 0, hdr0,
    ⟨127, 0, 1, []⟩, by decide +kernel⟩

theorem witness_RepairsReplaceTheReconstruction_blocks : ∃ (p : RefPic) (first : Nat) (blocks : List ((Nat × Bool) × Octets)) (i : Nat),
    i < blocks.length ∧ first + i < p.headers.length ∧ first ≤ 1 ∧ 1 < first + blocks.length ∧ 1 ∈ p.bad ∧ 0 ∈ p.bad :=
  ⟨ref0, 1, [((2, true), List.replicate 512 9)], 0, by decide +kernel⟩

theorem witness_TheLeaseIsKeptOrFenced_active : ∃ (s : State) (t : Nanos) (early : Nanos) (a : Nanos),
    s.serves ∧ (s.m.at t).twinRuns = true ∧ (s.m.at t).linkUp = true ∧ (s.m.at t).coreCoasts = false
    ∧ (s.m.at t).twin.mortar.statusAt + 10000 ≤ (s.m.at t).ctr ∧ (s.m.at t).role = .active
      ∧ (s.m.at t).twin.renewAt + 100000 ≤ (s.m.at t).ctr ∧ (s.m.at t).effectiveStart = some a
    ∧ a + (s.m.at t).lease * 9999 / 10000 ≤ (s.m.at t).ctr ∧ (s.m.at early).effectiveStart = some a
    ∧ (s.m.at early).ctr < a + (s.m.at early).lease * 9999 / 10000 ∧ (s.m.at t).releasedByQuorum = false
    ∧ (s.m.at t).twin.askAt + 100000 ≤ (s.m.at t).ctr ∧ (s.m.at t).quorumStart = some a ∧ a + (s.m.at t).lease < (s.m.at t).ctr + 200000 :=
  ⟨twUp 4 fun v => { v with renewed := [(0, 0)] }, 400000 * 9999 / 10000, 400000 * 9999 / 10000 - 1, 0, by decide +kernel⟩

theorem witness_TheLeaseIsKeptOrFenced_fromFreshStart : ∃ (s : State) (t : Nanos),
    s.serves ∧ (s.m.at t).role = .active ∧ (s.m.at t).releasedByQuorum = false ∧ (s.m.at t).effectiveStart = none
      ∧ ∀ a, (s.m.at t).effectiveStart = some a → a + (s.m.at t).lease * 9999 / 10000 ≤ (s.m.at t).ctr :=
  ⟨twUp 4 id, 0, by decide +kernel, by decide +kernel, by decide +kernel, by decide +kernel, of_none (by decide +kernel)⟩

abbrev kmsg : KMsg := ⟨1, 80, 9, 5, 0, 0, 1, 400000, 0, false, false, List.replicate 32 0⟩
theorem witness_TheLeaseIsKeptOrFenced_standby : ∃ (s : State) (t : Nanos) (w : Fin 3) (x : KMsg),
    s.serves ∧ (s.m.at t).twinRuns = true ∧ (s.m.at t).twin.probeAt + 10000000 ≤ (s.m.at t).ctr ∧ (s.m.at t).acquires = true
      ∧ (s.m.at t).twin.acquireAt = none ∧ (∀ a, (s.m.at t).twin.acquireAt = some a → a + 100000 ≤ (s.m.at t).ctr)
    ∧ (s.m.at t).witnesses.contains w.val = true
      ∧ (((s.m.at t).twin.acks.find? fun x => x.1 = w.val).map (·.2)).getD 0 + 30000000 ≤ (s.m.at t).ctr
    ∧ 30000000 ≤ (s.m.at t).ctr ∧ (s.m.at t).condSet 0x700A w.val = false ∧ (s.m.at t).fromPair w.val 0x14 x
      ∧ KMsg_bad { x with version := 2 } (s.m.at t).komundKey = true :=
  ⟨twUp 3 id, 30000000, 0, { kmsg with key := (twUp 3 id).m.komundKey }, by decide +kernel, by decide +kernel, by decide +kernel,
    by decide +kernel, by decide +kernel, of_none (by decide +kernel), by decide +kernel, by decide +kernel, by decide +kernel,
    by decide +kernel, by decide +kernel, by decide +kernel⟩

theorem witness_TheLeaseIsKeptOrFenced_replies : ∃ (s : State) (u : State) (t : Nanos) (w : Nat) (x : KMsg) (i : Instr),
    s.serves ∧ u.serves ∧ witnessReply i = some (t, w, 0x11, x) ∧ (s.m.at t).twinRuns = true ∧ KMsg_bad x (s.m.at t).komundKey = false
      ∧ x.pair = (s.m.at t).n 0x7000 1 ∧ (s.m.at t).witnesses.contains w = true
    ∧ (s.m.at t).twin.replies.contains (w, x.req, 0x11) = true ∧ (u.m.at t).twinRuns = false :=
  ⟨setUp fun _ => (twUp 3 fun v => { v with replies := [(2, 1, 0x11)] }).m.put 0x7000 4 3, setUp fun m => m, 0, 2,
    { kmsg with key := (twUp 3 id).m.komundKey }, .grant 0 2 { kmsg with key := (twUp 3 id).m.komundKey }, by decide +kernel⟩

theorem witness_GrantsMakeTheActive_active : ∃ (s : State) (t : Nanos) (w : Fin 3) (x : KMsg) (hdr : MortarHdr) (a : Nanos)
    (y : HandoverS) (req : Nat),
    s.serves ∧ (s.m.at t).fromPair w.val 0x11 x ∧ x.subject = (s.m.at t).fuse ∧ (s.m.at t).role = .active ∧ x.term = (s.m.at t).term
    ∧ ((s.m.at t).twin.outstanding.find? fun y => y.1 = x.req && y.2.1 = w.val).map (·.2.2) = some a
    ∧ (s.m.at t).fromPair w.val 0x12 x ∧ x.result = 6 ∧ (s.m.at t).limits.find? (fun l => l.code = 0x7013 && l.res = w.val) = none
    ∧ (s.m.at t).fromPair w.val 0x13 x ∧ (s.m.at t).twin.handover = some y ∧ (s.m.at t).inOrder hdr 0
    ∧ ((s.m.at t).twin.outstanding.find? fun y => y.1 = req && y.2.1 = 3).map (·.2.2) = some 78 :=
  ⟨twUp 4 fun v => { v with outstanding := [(1, 0, 77), (2, 3, 78)], viaPartner := false, handover := some ⟨4, 100, false, true, false, true, []⟩ },
    100, 0, { kmsg with sender := 0, subject := 0, result := 6, key := (twUp 3 id).m.komundKey }, hdr0, 77,
    ⟨4, 100, false, true, false, true, []⟩, 2, by decide +kernel⟩

theorem witness_GrantsMakeTheActive_standby : ∃ (s : State) (t : Nanos) (w : Fin 3) (x : KMsg) (hdr : MortarHdr),
    s.serves ∧ (s.m.at t).fromPair w.val 0x11 x ∧ x.subject = (s.m.at t).fuse ∧ (s.m.at t).role ≠ .active ∧ (s.m.at t).role ≠ .notPaired
    ∧ ((s.m.at t).twin.outstanding.find? fun y => y.1 = x.req && y.2.1 = w.val).map (·.2.2) = some 5
    ∧ (s.m.at t).quorum ≤ ((s.m.at t).twin.grants.filter fun y => y.1 ≠ w.val && y.2.1 = x.term).length + 1
      ∧ (s.m.at t).lastConfirmed = none
    ∧ (s.m.at t).inOrder hdr 0 ∧ (s.m.at t).role = .standby ∧ (s.m.at t).coreCoasts = false ∧ (s.m.at t).twin.acquireAt = none
      ∧ (s.m.at t).twin.handover = none :=
  ⟨twUp 3 fun v => { v with outstanding := [(1, 0, 5)] }, 0, 0,
    { kmsg with sender := 0, subject := 0, term := 7, key := (twUp 3 id).m.komundKey }, hdr0, by decide +kernel⟩

theorem witness_GrantsMakeTheActive_noQuorum : ∃ (s : State) (t : Nanos) (w : Fin 3) (x : KMsg),
    s.serves ∧ (s.m.at t).fromPair w.val 0x11 x ∧ x.subject = (s.m.at t).fuse ∧ (s.m.at t).role = .standby
    ∧ ((s.m.at t).twin.outstanding.find? fun y => y.1 = x.req && y.2.1 = w.val).map (·.2.2) = some 5
    ∧ ((s.m.at t).twin.grants.filter fun y => y.1 ≠ w.val && y.2.1 = x.term).length + 1 < (s.m.at t).quorum :=
  ⟨setUp fun _ => (twUp 3 fun v => { v with outstanding := [(1, 2, 5)] }).m.put 0x7000 4 3, 0, 2,
    { kmsg with sender := 0, subject := 0, term := 7, key := (twUp 3 id).m.komundKey }, by decide +kernel⟩

theorem witness_GrantsMakeTheActive_unsynced : ∃ (s : State) (t : Nanos) (w : Fin 3) (x : KMsg),
    s.serves ∧ (s.m.at t).fromPair w.val 0x11 x ∧ x.subject = (s.m.at t).fuse ∧ (s.m.at t).role = .unsynced
      ∧ (s.m.at t).flag 0x7000 9 = false
    ∧ ((s.m.at t).twin.outstanding.find? fun y => y.1 = x.req && y.2.1 = w.val).map (·.2.2) = some 5 :=
  ⟨twUp 2 fun v => { v with outstanding := [(1, 0, 5)] }, 0, 0,
    { kmsg with sender := 0, subject := 0, term := 7, key := (twUp 3 id).m.komundKey }, by decide +kernel⟩

theorem witness_GrantsMakeTheActive_successor : ∃ (s : State) (t : Nanos) (w : Fin 3) (x : KMsg) (B : Nat) (X : Nanos),
    s.serves ∧ (s.m.at t).fromPair w.val 0x11 x ∧ x.subject = (s.m.at t).fuse ∧ (s.m.at t).role = .unsynced
      ∧ (s.m.at t).twin.successor = some (B, X, true)
    ∧ ((s.m.at t).twin.outstanding.find? fun y => y.1 = x.req && y.2.1 = w.val).map (·.2.2) = none
    ∧ (s.m.at t).quorum ≤ ((s.m.at t).twin.grants.filter fun y => y.1 ≠ w.val && y.2.1 = x.term).length + 1 :=
  ⟨twUp 2 fun v => { v with successor := some (4, 100, true) }, 0, 0,
    { kmsg with sender := 0, subject := 0, term := 7, key := (twUp 3 id).m.komundKey }, 4, 100, by decide +kernel⟩

theorem witness_HandoversMoveTheKeystone_successor : ∃ (s : State) (t : Nanos) (hdr : MortarHdr) (B : Nat),
    s.serves ∧ (s.m.at t).inOrder hdr 0 ∧ (s.m.at t).role = .standby ∧ (s.m.at t).twin.handover = none :=
  ⟨twUp 3 id, 0, hdr0, 4, by decide +kernel⟩

theorem witness_HandoversMoveTheKeystone_active : ∃ (s : State) (t : Nanos) (hdr : MortarHdr) (x : HandoverS),
    s.serves ∧ (s.m.at t).twin.handover = some x ∧ (s.m.at t).role = .active ∧ (s.m.at t).inOrder hdr 0 ∧ x.accepted = true
    ∧ x.sent = false ∧ (s.m.at t).fam.edge x.boundary ≤ (s.m.at t).now ∧ x.release ≤ (s.m.at t).now
      ∧ (s.m.at t).quorum ≤ x.released.length ∧ x.boundary ≠ 4 :=
  ⟨twUp 4 fun v => { v with handover := some ⟨0, 0, false, true, false, false, [0]⟩ }, 0, hdr0, ⟨0, 0, false, true, false, false, [0]⟩,
    by decide +kernel⟩

theorem witness_HandoversMoveTheKeystone_waiting : ∃ (s : State) (t : Nanos) (hdr : MortarHdr) (x : HandoverS),
    s.serves ∧ (s.m.at t).twin.handover = some x ∧ (s.m.at t).role = .active ∧ (s.m.at t).inOrder hdr 0 ∧ x.boundary = 4
      ∧ (s.m.at t).now < (s.m.at t).fam.edge x.boundary ∧ (s.m.at t).now < x.release :=
  ⟨twUp 4 fun v => { v with handover := some ⟨4, 100000000, false, false, false, false, [0]⟩ }, 0, hdr0,
    ⟨4, 100000000, false, false, false, false, [0]⟩, by decide +kernel⟩

theorem witness_HandoversMoveTheKeystone_thermal : ∃ (s : State) (t : Nanos) (x : HandoverS),
    s.serves ∧ (s.m.at t).twin.handover = some x ∧ (s.m.at t).role = .active ∧ x.release ≤ (s.m.at t).now
      ∧ (s.m.at t).quorum ≤ x.released.length ∧ x.thermal = true ∧ (s.m.at t).fn (rendFid 127) = running :=
  ⟨setUp fun _ => (twUp 4 fun v => { v with handover := some ⟨0, 0, false, true, true, false, [0]⟩ }).m.setFn 0x27F 2, 0,
    ⟨0, 0, false, true, true, false, [0]⟩, by decide +kernel⟩

theorem witness_HandoversMoveTheKeystone_noQuorum : ∃ (s : State) (t : Nanos) (x : HandoverS),
    s.serves ∧ (s.m.at t).twin.handover = some x ∧ (s.m.at t).role = .active ∧ x.release ≤ (s.m.at t).now
      ∧ x.released.length < (s.m.at t).quorum :=
  ⟨twUp 4 fun v => { v with handover := some ⟨0, 0, false, true, false, true, []⟩ }, 0, ⟨0, 0, false, true, false, true, []⟩,
    by decide +kernel⟩

theorem witness_HandoversMoveTheKeystone_portsDown : ∃ (s : State) (t : Nanos) (a : Nanos),
    s.serves ∧ (s.m.at t).twin.portsDownAt = some a ∧ (s.m.at t).outputsDown = true ∧ a + 10000000 ≤ (s.m.at t).ctr
      ∧ (s.m.at t).role = .active ∧ (s.m.at t).twin.handover = none ∧ (s.m.at t).partnerIs .standby = true :=
  ⟨setUp fun _ => (((twUp 4 fun v => { v with portsDownAt := some 0, partner := some ⟨.standby, 1, true, 0⟩ }).m.put 0x507F 1 1).put 0x587F 1 1).setFn 0x27F 2,
    10000000, 0, by decide +kernel⟩

def witUp (k : Nat) (holder : Nat) (f : WitnessSlot → WitnessSlot) : State := setUp fun m =>
  let o := 0x7100 + k
  let m := ((((m.put 0x1021 0 1).put o 1 1).put o 2 9).put o 3 5).put o 4 6
  let m := (m.put o 7 holder).putB o 6 (List.replicate 32 0)
  { m with twin := { m.twin with restartUntil := 0, slots := [f ⟨k, 0, none, []⟩] } }
abbrev eli : KMsg := { kmsg with sender := 6, req := 3, eligible := true }
theorem witness_WitnessesGrantAndRefuse_held : ∃ (s : State) (t : Nanos) (x : KMsg) (y : KMsg) (k : Nat),
    s.serves ∧ (s.m.at t).heeds x k ∧ (s.m.at t).heeds y k ∧ (s.m.at t).twin.restartUntil ≤ (s.m.at t).ctr
      ∧ x.lease = (s.m.at t).n (0x7100 + k) 5 ∧ (s.m.at t).holds k x.sender = true ∧ x.term = (s.m.at t).n (0x7100 + k) 8
    ∧ (s.m.at t).n (0x7100 + k) 7 ≠ 0 ∧ x.eligible = false ∧ x.unsyncedOk = false ∧ x.subject = 0 ∧ y.eligible = true
      ∧ (s.m.at t).ctr < ((s.m.at t).wslot k).deadline + guardTime
    ∧ ((s.m.at t).wslot k).pending = some eli ∧ (s.m.at t).holds k y.sender = false :=
  ⟨witUp 63 1 fun v => { v with pending := some eli, deadline := 100 }, 0, kmsg, { eli with req := 4 }, 63, by decide +kernel⟩

theorem witness_WitnessesGrantAndRefuse_endHolder : ∃ (s : State) (t : Nanos) (x : KMsg) (y : KMsg) (k : Nat),
    s.serves ∧ (s.m.at t).heeds x k ∧ (s.m.at t).heeds y k ∧ (s.m.at t).twin.restartUntil ≤ (s.m.at t).ctr
      ∧ (s.m.at t).holds k x.sender = true ∧ x.term = (s.m.at t).n (0x7100 + k) 8 ∧ x.subject = 0
    ∧ (s.m.at t).n (0x7100 + k) 7 ≠ 0 ∧ y.lease = (s.m.at t).n (0x7100 + k) 5 ∧ y.eligible = true
      ∧ ((s.m.at t).wslot k).deadline + guardTime ≤ (s.m.at t).ctr ∧ ((s.m.at t).wslot k).pending = none :=
  ⟨witUp 63 1 id, guardTime, kmsg, eli, 63, by decide +kernel⟩

theorem witness_WitnessesGrantAndRefuse_free : ∃ (s : State) (h : State) (u : State) (t : Nanos) (x : KMsg) (k : Nat) (bad : KMsg)
    (i : Instr),
    s.serves ∧ h.serves ∧ u.serves ∧ (s.m.at t).heeds x k ∧ x.lease = (s.m.at t).n (0x7100 + k) 5 ∧ (s.m.at t).n (0x7100 + k) 7 = 0
      ∧ (u.m.at t).isWitness = false
    ∧ witnessAsked i = some (t, true, true, x) ∧ (h.m.at t).heeds x k ∧ (h.m.at t).ctr < (h.m.at t).twin.restartUntil
    ∧ (s.m.at t).isWitness = true ∧ (s.m.at t).twin.restartUntil ≤ (s.m.at t).ctr ∧ (s.m.at t).witnessDiscards bad = true :=
  ⟨witUp 0 0 id, setUp fun _ => (witUp 0 0 id).m.modTwin fun v => { v with restartUntil := 9 }, setUp id, 0, kmsg, 0,
    { kmsg with version := 2 }, .acquire 0 kmsg, by decide +kernel⟩

theorem witness_WitnessesGrantAndRefuse_deadline : ∃ (s : State) (t : Nanos) (x : KMsg) (k : Fin 64),
    s.serves ∧ ((s.m.at t).wslot k.val).pending = some x ∧ (s.m.at t).isWitness = true
      ∧ ((s.m.at t).wslot k.val).deadline + guardTime ≤ (s.m.at t).ctr ∧ ((s.m.at t).wslot 0).pending = none :=
  ⟨witUp 63 1 fun v => { v with pending := some eli }, guardTime, eli, 63, by decide +kernel⟩

theorem witness_AtMostOneModuleHoldsTheKeystone_witness : ∃ (s : State) (t : Nanos) (x : KMsg) (k : Fin 64),
    (s.m.at t).n (0x7100 + k.val) 7 ≠ 0 ∧ (s.m.at t).ctr < ((s.m.at t).wslot k.val).deadline + guardTime
    ∧ s.m.rebooting = false ∧ ∃ s', exec (.acquire t x) s = .next s' :=
  ⟨witUp 63 1 fun v => { v with deadline := 1 }, guardTime, eli, 63, by decide +kernel, by decide +kernel, by decide +kernel, ⟨_, rfl⟩⟩

theorem witness_AtMostOneModuleHoldsTheKeystone_pair : ∃ (a : Mod) (b : Mod) (X : Nanos),
    a.n 0x7040 1 ≠ 0 ∧ b.n 0x7040 1 ≠ 0 ∧ a.twin.launchUntil = some X ∧ b.twin.launchFrom = some X ∧ b.twin.launchUntil = none
    ∧ a.twin.launchFrom = some 0 :=
  ⟨(twUp 4 fun v => { v with launchFrom := some 0, launchUntil := some 10 }).m, (twUp 3 fun v => { v with launchFrom := some 10 }).m,
    10, by decide +kernel⟩

/-! ### Witnesses: memory and ports -/
def drmUp (owed : Nat) : State := setUp fun m =>
  { (m.put 0x214F 1 1).modRend 127 (fun z => { z with queue := [default] }) with mem := { m.mem with owed := [((15, 3), owed)], devices := [⟨15, 1, 1, 9, 0, m.n 0x2020 3, false⟩] } }
def drmHot : State := setUp fun m => { (drmUp 0).m.put 0x214F 9 1 with draws := m.draws }
theorem witness_DramIsRefreshed_refresh : ∃ (s : State) (forced : State) (t : Nanos) (c : Fin 16) (b : Fin 4) (none_ : Fin 4),
    s.serves ∧ forced.serves ∧ (s.m.at t).channelLive c.val = true ∧ (s.m.at t).coreCoasts = false
      ∧ (s.m.at t).refreshTime c.val b.val = true ∧ (s.m.at t).owedTo c.val b.val < 4
    ∧ (forced.m.at t).channelLive c.val = true ∧ (forced.m.at t).coreCoasts = false ∧ (forced.m.at t).refreshTime c.val b.val = true
    ∧ 4 ≤ (forced.m.at t).owedTo c.val b.val ∧ (forced.m.at t).limits.find? (fun l => l.code = 0x2005 && l.res = c.val) = none :=
  ⟨drmUp 3, drmUp 4, 0, 15, 3, 2, by decide +kernel⟩

theorem witness_DramIsRefreshed_temperature : ∃ (s : State) (hot : State) (t : Nanos) (c : Fin 16) (high : Int) (low : Int) (mid : Int)
    (top : Int),
    s.serves ∧ hot.serves ∧ (s.m.at t).n (0x2140 + c.val) 1 ≠ 0 ∧ (hot.m.at t).n (0x2140 + c.val) 1 ≠ 0
    ∧ (s.m.at t).n (0x2140 + c.val) 9 ≠ 1 ∧ 85 < high ∧ (s.m.at t).condSet 0x2006 c.val = false
    ∧ (hot.m.at t).n (0x2140 + c.val) 9 = 1 ∧ low ≤ 83 ∧ 83 < mid ∧ mid ≤ 85 ∧ 95 ≤ top
    ∧ (s.m.at t).limits.find? (fun l => l.code = 0x1D09 && l.res = c.val) = none :=
  ⟨drmUp 0, drmHot, 0, 15, 86, 83, 85, 95, by decide +kernel⟩

theorem witness_DramIsRefreshed_dead : ∃ (s : State) (t : Nanos) (c : Fin 16) (b : Fin 4),
    s.serves ∧ (s.m.at t).channelLive c.val = false ∧ (s.m.at t).refreshTime c.val b.val = true ∧ (s.m.at t).owedTo c.val b.val < 4
      ∧ (s.m.at t).n (0x2140 + c.val) 1 = 0 :=
  ⟨setUp id, 0, 15, 3, by decide +kernel⟩

theorem witness_DramErrorsAreCounted_errors : ∃ (s : State) (t : Nanos) (c : Fin 16) (sub : Fin 2) (rank : Fin 2) (dev : Fin 10)
    (fresh : Fin 10) (r : Fin 128),
    s.serves ∧ (s.m.at t).channelLive c.val = true
   
      ∧ (((s.m.at t).mem.devices.find? (fun y => y.channel = c.val && y.subch = sub.val && y.rank = rank.val && y.device = dev.val)).filter (fun x => x.hour = (s.m.at t).now / (3600 * second))).map (·.count) = some ((s.m.at t).n 0x2020 3)
   
      ∧ (((s.m.at t).mem.devices.find? (fun y => y.channel = c.val && y.subch = sub.val && y.rank = rank.val && y.device = dev.val)).filter (fun x => x.hour = (s.m.at t).now / (3600 * second))).map (·.warned) = some false
    ∧ (s.m.at t).mem.devices.find? (fun y => y.channel = c.val && y.subch = sub.val && y.rank = rank.val && y.device = fresh.val) = none
      ∧ 1 ≤ (s.m.at t).n 0x2020 3
    ∧ ((s.m.at t).rend r.val).queue ≠ [] ∧ (s.m.at t).n (0x2140 + c.val) 1 ≠ 0
      ∧ (s.m.at t).limits.find? (fun l => l.code = 0x2003 && l.res = c.val) = none :=
  ⟨drmUp 0, 0, 15, 1, 1, 9, 0, 127, by decide +kernel⟩

def cagUp (state : Nat) (c : CageS) : State := setUp fun m => { m.put 0x2448 2 state with prt := { m.prt with cages := m.prt.cages.set 8 c } }
def cagMod (x : CageModule) : CageS := { (default : CageS) with present := true, info := some x }
theorem witness_CagesTakeTheirModules_plugged : ∃ (s : State) (stable : State) (t : Nanos) (q : Fin 9) (hot : CageModule)
    (other : CageModule) (fine : CageModule) (copper : CageModule),
    s.serves ∧ stable.serves ∧ q.val < (s.m.at t).prt.cages.length ∧ ((s.m.at t).cage q.val).present = false
    ∧ q.val < (stable.m.at t).prt.cages.length ∧ ((stable.m.at t).cage q.val).present = true ∧ ((stable.m.at t).cage q.val).info = none
    ∧ ((stable.m.at t).cage q.val).presentAt + 100000000 ≤ (stable.m.at t).ctr ∧ (s.m.at t).n (0x2440 + q.val) 2 ≠ 2
      ∧ ¬(1 ≤ (s.m.at t).n (0x2440 + q.val) 2 ∧ (s.m.at t).n (0x2440 + q.val) 2 ≤ 3)
    ∧ 14 < hot.watts ∧ (other.watts ≤ 14 ∧ other.optic = true ∧ (stable.m.at t).n (0x2400 + q.val) 1 ∉ other.modes)
    ∧ (fine.optic = true ∧ fine.watts ≤ 14 ∧ (stable.m.at t).n (0x2400 + q.val) 1 ∈ fine.modes) ∧ (copper.optic = false
      ∧ copper.watts ≤ 14) :=
  ⟨cagUp 0 default, cagUp 0 { (default : CageS) with present := true }, 100000000, 8, ⟨true, 15, [0], 0, 0, 7⟩,
    ⟨true, 14, [1], 0, 0, 7⟩, ⟨true, 14, [0], 0, 3, 20001⟩, ⟨false, 2, [], 0, 1, 8⟩, by decide +kernel⟩

def cagForced : State := setUp fun m => { (cagUp 2 (cagMod ⟨true, 14, [0], 5, 1, 0⟩)).m.put 0x2408 2 2 with draws := m.draws }
theorem witness_CagesTakeTheirModules_ready : ∃ (s : State) (forced : State) (t : Nanos) (q : Fin 9) (x : CageModule) (cable : CageModule),
    s.serves ∧ forced.serves ∧ q.val < (s.m.at t).prt.cages.length ∧ (s.m.at t).n (0x2440 + q.val) 2 = 2
    ∧ q.val < (forced.m.at t).prt.cages.length ∧ (forced.m.at t).n (0x2440 + q.val) 2 = 2 ∧ (forced.m.at t).mediumOk q.val = false
    ∧ ((s.m.at t).cage q.val).info = some x ∧ ((s.m.at t).cage q.val).initAt + min x.readyLimitNs (60 * second) ≤ (s.m.at t).ctr
    ∧ ((s.m.at t).cage q.val).present = true ∧ 1 ≤ (s.m.at t).n (0x2440 + q.val) 2 ∧ (s.m.at t).n (0x2440 + q.val) 2 ≤ 3
    ∧ (forced.m.at t).n (0x2400 + q.val) 2 ≠ 0 ∧ (forced.m.at t).n (0x2400 + q.val) 2 ≠ cable.medium :=
  ⟨cagUp 2 (cagMod ⟨true, 14, [0], 5, 0, 0⟩), cagForced, 5, 8, ⟨true, 14, [0], 5, 0, 0⟩, ⟨false, 2, [], 0, 1, 8⟩, by decide +kernel⟩

def brUp (stage : Nat) (f : BringS → BringS) : State := setUp fun m =>
  let m := (((m.put 0x2447 2 3).setFn 0x17 2).put 0x2447 5 stage).put 0x24A0 1 stage
  { (((m.put 0x2448 2 3).put 0x24A1 1 stage).put 0x2600 3 stage) with twinFn := 2, prt := { m.prt with units := (((m.prt.units.modify 28 f).modify 32 f).modify 34 f) } }
theorem witness_BringUpRunsItsStages_stage1 : ∃ (s : State) (t : Nanos) (p : BringPort) (x : DetectObs) (y : DetectObs)
    (seen : List DetectObs) (a : Option Nat) (none_ : BringPort),
    s.serves ∧ unitOf p < (s.m.at t).prt.units.length ∧ (s.m.at t).stageShows (unitOf p) ∧ (s.m.at t).unitRuns (unitOf p) = true
      ∧ (s.m.at t).unitStage (unitOf p) = 1 ∧ (s.m.at t).detectDue (unitOf p) = true
    ∧ (DetectObs_fault x ≠ 0 ∧ DetectObs_fault y ≠ 0 ∧ (s.m.at t).laneBad x.lane.val = false
      ∧ x.lane.val ∈ (s.m.at t).unitLanes (unitOf p) ∧ (∀ z ∈ [x], z.lane = x.lane → z = x))
    ∧ (s.m.at t).attemptOf (unitOf p) = some a ∧ (∀ z ∈ seen, DetectObs_fault z = 0 ∧ z.signal = true)
    ∧ (∀ l ∈ (s.m.at t).unitLanes (unitOf p), ∃ z ∈ seen, z.lane.val = l)
    ∧ ((s.m.at t).negotiates (unitOf p) = true → ((s.m.at t).bring (unitOf p)).negotiated = true ∧ ((s.m.at t).bring (unitOf p)).pair = a)
    ∧ unitOf none_ < (s.m.at t).prt.units.length ∧ (s.m.at t).stageShows (unitOf none_) ∧ (s.m.at t).unitRuns (unitOf none_) = false :=
  ⟨brUp 1 id, 0, .front 28, ⟨31, false, (0, 0), false⟩, ⟨31, true, (12000, 12001), false⟩,
    [⟨28, true, (12000, 12000), true⟩, ⟨29, true, (0, 0), true⟩, ⟨30, true, (0, 0), true⟩, ⟨31, true, (0, 0), true⟩], none, .front 0,
    by decide +kernel⟩

def anUp : State := setUp fun m => { ((brUp 1 id).m.put 0x2600 1 1) with draws := m.draws }
theorem witness_BringUpRunsItsStages_negotiated : ∃ (s : State) (t : Nanos) (p : BringPort) (x : AnOffer) (bad : AnOffer),
    s.serves ∧ unitOf p < (s.m.at t).prt.units.length ∧ (s.m.at t).stageShows (unitOf p) ∧ (s.m.at t).unitRuns (unitOf p) = true
    ∧ (s.m.at t).unitStage (unitOf p) = 1 ∧ (s.m.at t).negotiates (unitOf p) = true ∧ (s.m.at t).resolves (unitOf p) x = true
      ∧ (s.m.at t).resolves (unitOf p) bad = false ∧ cageOf (unitOf p) = none :=
  ⟨anUp, 0, .backplane 1, ⟨[10000], false, true⟩, ⟨[400000], true, true⟩, by decide +kernel⟩

def anCage : State := setUp fun m => { (((brUp 1 id).m.put 0x2407 3 1).put 0x2407 2 1).put 0x2447 3 1 with draws := m.draws }
theorem witness_BringUpRunsItsStages_offered : ∃ (s : State) (t : Nanos) (p : BringPort) (x : AnOffer) (bad : AnOffer) (q : Nat),
    s.serves ∧ unitOf p < (s.m.at t).prt.units.length ∧ (s.m.at t).stageShows (unitOf p) ∧ (s.m.at t).unitRuns (unitOf p) = true
    ∧ (s.m.at t).unitStage (unitOf p) = 1 ∧ (s.m.at t).negotiates (unitOf p) = true ∧ (s.m.at t).resolves (unitOf p) x = true
      ∧ (s.m.at t).resolves (unitOf p) bad = false ∧ cageOf (unitOf p) = some q :=
  ⟨anCage, 0, .front 28, ⟨[400000], true, true⟩, ⟨[400000], false, true⟩, 7, by decide +kernel⟩

theorem witness_BringUpRunsItsStages_stage2 : ∃ (s : State) (t : Nanos) (p : BringPort) (q : BringPort) (snrs : List Int) (low : List Int),
    s.serves ∧ unitOf p < (s.m.at t).prt.units.length ∧ (s.m.at t).unitRuns (unitOf p) = true ∧ (s.m.at t).stageShows (unitOf p)
      ∧ 2 ≤ (s.m.at t).unitStage (unitOf p)
    ∧ (s.m.at t).unitStage (unitOf p) < 5 ∧ ((s.m.at t).bring (unitOf p)).entered + (s.m.at t).stageLimit (unitOf p) ≤ (s.m.at t).ctr
    ∧ unitOf q < (s.m.at t).prt.units.length ∧ (s.m.at t).stageShows (unitOf q) ∧ (s.m.at t).within_ (unitOf q) 2 = true
    ∧ snrs.length = ((s.m.at t).attemptLanes (unitOf q)).length ∧ (∀ x ∈ snrs, 60 ≤ meritOf x) ∧ ¬(∀ x ∈ low, 60 ≤ meritOf x) :=
  ⟨brUp 2 id, 500000000, .mortar, .backplane 1, [16000000], [15999999], by decide +kernel⟩

theorem witness_BringUpRunsItsStages_stage3 : ∃ (s : State) (t : Nanos) (p : BringPort) (obs : LockObs) (twice : LockObs) (skew : LockObs),
    s.serves ∧ unitOf p < (s.m.at t).prt.units.length ∧ (s.m.at t).stageShows (unitOf p) ∧ (s.m.at t).within_ (unitOf p) 3 = true
      ∧ ((s.m.at t).bring (unitOf p)).relock = false
    ∧ ((s.m.at t).attemptLanes (unitOf p)).length = 4
    ∧ badPartners (fun y => (s.m.at t).partnerMay (unitOf p) y) ((s.m.at t).attemptLanes (unitOf p)) obs.partner [] = []
    ∧ badPartners (fun y => (s.m.at t).partnerMay (unitOf p) y) ((s.m.at t).attemptLanes (unitOf p)) twice.partner [] ≠ []
    ∧ obs.lockedAll = true ∧ obs.skewNs ≤ 200 ∧ obs.partner.length = ((s.m.at t).attemptLanes (unitOf p)).length :=
  ⟨brUp 3 id, 0, .front 28, ⟨[31], [3, 2, 1, 0], true, 200⟩, ⟨[], [3, 2, 1, 3], true, 200⟩, ⟨[], [3, 2, 1, 0], true, 201⟩,
    by decide +kernel⟩

def helloUp : State := setUp fun m => { (brUp 4 id).m with draws := m.draws, twin := { (brUp 4 id).m.twin with mortar := { (brUp 4 id).m.twin.mortar with helloHeard := true } } }
def degUp : State := setUp fun m => { (brUp 4 fun b => { b with pair := some 0 }).m with draws := m.draws }
theorem witness_BringUpRunsItsStages_stage4 : ∃ (s : State) (deg : State) (t : Nanos) (p : BringPort) (q : BringPort),
    s.serves ∧ unitOf p < (s.m.at t).prt.units.length ∧ (s.m.at t).stageShows (unitOf p) ∧ (s.m.at t).within_ (unitOf p) 4 = true
    ∧ (s.m.at t).unitTests (unitOf p) = false ∧ (s.m.at t).twin.mortar.helloHeard = true ∧ ((s.m.at t).bring (unitOf p)).pair = none
    ∧ deg.serves ∧ unitOf q < (deg.m.at t).prt.units.length ∧ (deg.m.at t).stageShows (unitOf q) ∧ (deg.m.at t).within_ (unitOf q) 4 = true
    ∧ (deg.m.at t).unitTests (unitOf q) = false ∧ ((deg.m.at t).bring (unitOf q)).entered + 1000000 ≤ (deg.m.at t).ctr
    ∧ ((deg.m.at t).bring (unitOf q)).pair ≠ none ∧ ((deg.m.at t).bring (unitOf q)).declined = false :=
  ⟨helloUp, degUp, 1000000, .mortar, .front 28, by decide +kernel⟩

def expUp : State := setUp fun m => { (brUp 4 fun b => { b with pair := some 0 }).m with draws := m.draws }
theorem witness_BringUpRunsItsStages_expiry : ∃ (s : State) (relock : State) (t : Nanos) (p : BringPort),
    s.serves ∧ relock.serves ∧ unitOf p < (s.m.at t).prt.units.length ∧ (s.m.at t).unitRuns (unitOf p) = true
      ∧ (s.m.at t).stageShows (unitOf p) ∧ (s.m.at t).unitStage (unitOf p) = 4
    ∧ ((s.m.at t).bring (unitOf p)).entered + (s.m.at t).stageLimit (unitOf p) ≤ (s.m.at t).ctr ∧ unitOf p < 32
      ∧ ((s.m.at t).bring (unitOf p)).pair ≠ none ∧ ((s.m.at t).bring (unitOf p)).declined = false
      ∧ ((s.m.at t).bring (unitOf p)).relock = false
    ∧ unitOf p < (relock.m.at t).prt.units.length ∧ (relock.m.at t).unitRuns (unitOf p) = true ∧ (relock.m.at t).stageShows (unitOf p)
      ∧ (relock.m.at t).unitStage (unitOf p) = 3
    ∧ ((relock.m.at t).bring (unitOf p)).entered + (relock.m.at t).stageLimit (unitOf p) ≤ (relock.m.at t).ctr
      ∧ ((relock.m.at t).bring (unitOf p)).relock = true
    ∧ (relock.m.at t).condSet 0x2402 (unitOf p) = false :=
  ⟨expUp, brUp 3 fun z => { z with relock := true }, 500000000, .front 28, by decide +kernel⟩

theorem witness_LinksLoseLockAndRecover_relock : ∃ (s : State) (relock : State) (t : Nanos) (lane : Fin 38) (p : BringPort) (bad : Nat)
    (few : Nat),
    s.serves ∧ relock.serves ∧ unitOf p < (s.m.at t).prt.units.length ∧ (s.m.at t).stageShows (unitOf p)
    ∧ (s.m.at t).unitStage (unitOf p) = 5 ∧ lane.val ∈ (s.m.at t).attemptLanes (unitOf p) ∧ 16 < bad ∧ few ≤ 16
    ∧ unitOf p < (relock.m.at t).prt.units.length ∧ (relock.m.at t).stageShows (unitOf p)
    ∧ ((relock.m.at t).bring (unitOf p)).relock = true ∧ (relock.m.at t).within_ (unitOf p) 3 = true
      ∧ (relock.m.at t).condSet 0x2402 (unitOf p) = false :=
  ⟨brUp 5 id, brUp 3 fun z => { z with relock := true }, 0, 28, .front 28, 17, 16, by decide +kernel⟩

theorem witness_LinksLoseLockAndRecover_retrain : ∃ (s : State) (t : Nanos) (lane : Fin 38) (snr : Int) (fair : Int) (fine : Int),
    s.serves ∧ (s.m.at t).unitStage ((s.m.at t).laneUnit lane.val) = 5 ∧ (s.m.at t).stageShows ((s.m.at t).laneUnit lane.val)
      ∧ lane.val ∈ (s.m.at t).attemptLanes ((s.m.at t).laneUnit lane.val)
    ∧ meritOf snr < (match cageOf ((s.m.at t).laneUnit lane.val) with | none => 40 | some q => (s.m.at t).n (0x2400 + q) 8)
    ∧ (match cageOf ((s.m.at t).laneUnit lane.val) with | none => 40 | some q => (s.m.at t).n (0x2400 + q) 8) ≤ meritOf fair
      ∧ meritOf fair < 80 ∧ 80 ≤ meritOf fine
    ∧ (s.m.at t).condSet 0x2402 ((s.m.at t).laneUnit lane.val) = false :=
  ⟨brUp 5 id, 0, 33, 13900000, 17999999, 18000000, by decide +kernel⟩

def fomUp : State := setUp fun m => { ((brUp 5 id).m.put 0x24A1 3 200) with draws := m.draws }
theorem witness_LinksLoseLockAndRecover_merit : ∃ (s : State) (t : Nanos) (lane : Fin 38) (fair : Int) (fine : Int) (off : Fin 38),
    s.serves ∧ (s.m.at t).n (0x2480 + lane.val) 1 = 5 ∧ meritOf fair < 80 ∧ 80 ≤ meritOf fine ∧ (s.m.at t).n (0x2480 + off.val) 1 < 2
    ∧ (s.m.at t).limits.find? (fun l => l.code = 0x240B && l.res = lane.val) = none :=
  ⟨fomUp, 0, 33, 17999999, 18000000, 5, by decide +kernel⟩

def bistUp : State := setUp fun m => { (m.put 0x2525 1 1).put 0x2525 2 1 with draws := m.draws }
theorem witness_ManagementLinksFollowTheirPartners_checker : ∃ (s : State) (t : Nanos) (lane : Fin 38) (k : Nat),
    s.serves ∧ (s.m.at t).laneTests lane.val = true ∧ (s.m.at t).n (0x2500 + lane.val) 2 ≠ 0 ∧ 64 ≤ k
      ∧ (s.m.at t).flag (0x2500 + lane.val) 5 = false :=
  ⟨bistUp, 0, 37, 64, by decide +kernel⟩

theorem witness_ManagementLinksFollowTheirPartners_backplane : ∃ (s : State) (active : State) (t : Nanos) (b : Fin 2),
    s.serves ∧ active.serves ∧ (s.m.at t).within_ (33 + b.val) 4 = true ∧ (s.m.at t).unitTests (33 + b.val) = false
      ∧ ((s.m.at t).bring (33 + b.val)).entered + 1000000 ≤ (s.m.at t).ctr
    ∧ (active.m.at t).unitStage (33 + b.val) = 5 ∧ (active.m.at t).condSet 0x240D b.val = false
      ∧ (active.m.at t).condSet 0x2402 (33 + b.val) = false
    ∧ (s.m.at t).unitStage (33 + b.val) ≠ 5 :=
  ⟨brUp 4 id, brUp 5 id, 1000000, 1, by decide +kernel⟩

def svcUp : State := setUp fun m => m.put 0x2610 2 2
def svcOff : State := setUp fun m => m.put 0x2610 1 0
theorem witness_ManagementLinksFollowTheirPartners_service : ∃ (s : State) (up5 : State) (off : State) (t : Nanos) (link : ServiceLink),
    s.serves ∧ up5.serves ∧ off.serves ∧ (s.m.at t).flag 0x2610 1 = true ∧ (s.m.at t).n 0x2610 2 ≠ 2 ∧ (up5.m.at t).flag 0x2610 1 = true
      ∧ (up5.m.at t).n 0x2610 2 = 2
    ∧ (up5.m.at t).condSet 0x240E 0 = false ∧ (off.m.at t).flag 0x2610 1 = false ∧ link ≠ .up :=
  ⟨setUp id, svcUp, svcOff, 0, .speedUnsupported, by decide +kernel⟩

/-! ### Witnesses: clocks, calibration, power, hardware, Sett cores -/
def gateUp : State := setUp fun m => { (((m.put 0x1800 2 1).put 0x1800 4 2).put 0x1810 1 1) with clk := { m.clk with runs := List.replicate 10 7, xbFirst := 20000000, settled := true } }
theorem witness_SourcesAreJudged_gates : ∃ (s : State) (t : Nanos) (c : Fin 10) (k : Nat) (d : Fin 10) (j : Nat) (e : Fin 10) (i : Nat)
    (idle : Fin 10),
    s.serves ∧ (c.val ≠ 0 ∧ c.val < 3 ∧ (s.m.at t).source c.val ≠ 3 ∧ (s.m.at t).source c.val ≠ 0)
      ∧ (s.m.at t).gateTolerance c.val < ((k : Int) - (s.m.at t).gateNominal c.val).natAbs
    ∧ (d.val = 3 ∧ (s.m.at t).source 3 ≠ 3 ∧ (s.m.at t).clk.settled = true ∧ (s.m.at t).source 2 ≠ 3)
      ∧ ((j : Int) - (s.m.at t).gateNominal d.val).natAbs ≤ (s.m.at t).gateTolerance d.val
    ∧ nth (s.m.at t).clk.runs d.val = 7 ∧ ((j : Int) - (s.m.at t).clk.xbFirst).natAbs ≤ 2 ∧ (s.m.at t).source d.val ≠ 1
    ∧ (4 ≤ e.val ∧ (s.m.at t).n (0x1810 + (e.val - 4)) 1 = 1) ∧ nth (s.m.at t).clk.runs e.val = 7
      ∧ ((i : Int) - (s.m.at t).gateNominal e.val).natAbs ≤ (s.m.at t).gateTolerance e.val ∧ idle.val = 0 :=
  ⟨gateUp, 0, 1, 460001, 3, 20000002, 4, 64000, 0, by decide +kernel⟩

def clkUp : State := setUp fun m => { (((m.put 0x1800 1 1).put 0x1800 2 1).put 0x1800 3 3).put 0x1800 4 1 with clk := { m.clk with counterOn := 3 } }
def clkOn3 : State := setUp fun m => { (((m.put 0x1800 1 1).put 0x1800 2 1).put 0x1800 3 1).put 0x1800 4 1 with clk := { m.clk with counterOn := 3 } }
theorem witness_SourcesAreJudged_stop : ∃ (s : State) (on3 : State) (t : Nanos) (c : Fin 4) (gone : Fin 4) (sio : Fin 4) (gap : Nat),
    s.serves ∧ on3.serves ∧ (s.m.at t).source c.val ≠ 3 ∧ (s.m.at t).source gone.val = 3 ∧ (s.m.at t).noCrystal = false
      ∧ (s.m.at t).source sio.val ≠ 3 ∧ (s.m.at t).source 1 ≠ 3
    ∧ (on3.m.at t).source c.val ≠ 3 ∧ (on3.m.at t).clk.counterOn = 3 ∧ (on3.m.at t).source 2 ≠ 3 :=
  ⟨clkUp, clkOn3, 0, 3, 2, 0, 4, by decide +kernel⟩

def pllUp : State := setUp fun m => { (((m.put 0x1800 3 3).put 0x1800 4 1).put 0x1810 1 2) with clk := { m.clk with moving := [none, none, none, none, none, some 1] } }
def pllStill : State := setUp fun m => { ((((m.put 0x1820 0 0).put 0x1810 1 2).put 0x1815 1 1).put 0x1800 3 1) with clk := { m.clk with runs := List.replicate 10 8 } }
def pllAuto : State := setUp fun m => { (((m.put 0x1810 1 2).put 0x1800 3 1).put 0x1800 4 1) with clk := { m.clk with tries := [2, 3, 0, 0, 0, 0] } }
theorem witness_PllsCoastAndRelock_plls : ∃ (s : State) (still : State) (auto : State) (t : Nanos) (k : Fin 6) (j : Fin 6) (r : Nat),
    s.serves ∧ still.serves ∧ auto.serves ∧ (s.m.at t).n (0x1810 + k.val) 1 = 2
    ∧ (s.m.at t).source (refSource ((s.m.at t).n (0x1810 + k.val) 2)) = 3 ∧ (s.m.at t).condSet 0x1803 k.val = false
      ∧ (s.m.at t).coreCoasts = false ∧ (s.m.at t).flag 0x1820 0 = true ∧ (s.m.at t).alternate k.val = some r
    ∧ nth (s.m.at t).clk.moving k.val = none ∧ nth (s.m.at t).clk.moving j.val = some r
    ∧ (still.m.at t).n (0x1810 + k.val) 1 = 2 ∧ (still.m.at t).flag 0x1820 0 = false ∧ (still.m.at t).n (0x1810 + j.val) 1 = 1
      ∧ nth (still.m.at t).clk.runs (4 + j.val) = 8
    ∧ (still.m.at t).source (refSource ((still.m.at t).n (0x1810 + k.val) 2)) ≠ 3
    ∧ (auto.m.at t).n (0x1810 + k.val) 1 = 2 ∧ (auto.m.at t).flag 0x1820 0 = true
      ∧ (auto.m.at t).source (refSource ((auto.m.at t).n (0x1810 + k.val) 2)) = 1 ∧ nth (auto.m.at t).clk.tries k.val < 3
    ∧ ¬ nth (auto.m.at t).clk.tries 1 < 3 :=
  ⟨pllUp, pllStill, pllAuto, 0, 0, 5, 1, by decide +kernel⟩

def pllCore : State := setUp fun m => { ((m.put 0x1810 1 1).put 0x2141 1 1) with clk := { m.clk with runs := List.replicate 10 8 } }
theorem witness_PllsCoastAndRelock_core : ∃ (s : State) (t : Nanos) (k : Fin 6) (c : Nat),
    s.serves ∧ (s.m.at t).n (0x1810 + k.val) 1 = 1 ∧ nth (s.m.at t).clk.runs (4 + k.val) = 8 ∧ k.val ≤ 1
      ∧ (s.m.at t).pllCoasts (1 - k.val) = false ∧ c < 16 ∧ (s.m.at t).dimmIn c = true :=
  ⟨pllCore, 0, 0, 1, by decide +kernel⟩

def ctrUp : State := setUp fun m => { m.put 0x1840 5 1 with clk := { m.clk with counting := (2, 1, 400000) } }
theorem witness_PllsCoastAndRelock_counter : ∃ (s : State) (idle : State) (t : Nanos) (k : Nat) (block : Nat) (addr : Nat)
    (initiator : Nat),
    s.serves ∧ idle.serves ∧ (s.m.at t).n 0x1840 5 = 1 ∧ (idle.m.at t).n 0x1840 5 ≠ 1 ∧ (s.m.at t).flag 0x1850 1 = true ∧ 10 ≤ block
      ∧ block ≤ 31 :=
  ⟨ctrUp, setUp id, 0, 24999, 31, 2, 3, by decide +kernel⟩

theorem witness_CalibrationRunsInOrder_sample : ∃ (s : State) (t : Nanos) (x : DomTemp) (lane : DomTemp) (still : DomTemp),
    s.serves ∧ (s.m.at t).flag 0x1C00 2 = true ∧ (s.m.at t).cal.runsIn 27 = false
    ∧ 10 * (s.m.at t).n 0x1C00 1 < (x.temp - (s.m.at t).z (0x1C40 + x.domain.val) 5).natAbs
      ∧ 10 * (s.m.at t).n 0x1C00 1 < (lane.temp - (s.m.at t).z (0x1C40 + lane.domain.val) 5).natAbs
    ∧ (isDramDomain x.domain.val = true → (s.m.at t).dimmIn (x.domain.val - 10) = true) ∧ (x.domain.val = 26 → (s.m.at t).n 0x1800 2 ≠ 3)
    ∧ lane.domain.val ≤ 9 ∧ (s.m.at t).domainLive lane.domain.val = false
   
      ∧ ¬(10 * (s.m.at t).n 0x1C00 1 < (still.temp - (s.m.at t).z (0x1C40 + still.domain.val) 5).natAbs ∨ (isDramDomain still.domain.val = true
      ∧ 8 < still.drift)) :=
  ⟨setUp id, 0, ⟨27, 61, 0⟩, ⟨9, -61, 0⟩, ⟨27, 60, 9⟩, by decide +kernel⟩

def calUp : State := setUp fun m => { m with cal := { m.cal with queued := [(26, 3), (10, 4)], running := [⟨11, 2, false, 0, []⟩, ⟨9, 1, true, 5, []⟩] } }
theorem witness_CalibrationRunsInOrder_runs : ∃ (s : State) (t : Nanos) (d : Fin 28) (y : Nat × Nat) (e : Fin 28) (x : CalRun)
    (z : CalRun) (other : Fin 28) (none_ : Fin 28) (good : CalResult) (more : CalResult) (wide : CalResult),
    s.serves ∧ (s.m.at t).cal.queued.find? (fun x => x.1 = d.val) = some y ∧ (s.m.at t).cal.mayStart d.val = true
    ∧ (∀ y ∈ (s.m.at t).cal.queued, y.1 < d.val → (s.m.at t).cal.mayStart y.1 = false)
    ∧ (s.m.at t).cal.queued.find? (fun x => x.1 = other.val) = some (10, 4) ∧ (s.m.at t).cal.mayStart other.val = false
      ∧ (s.m.at t).cal.queued.find? (fun x => x.1 = none_.val) = none
    ∧ (s.m.at t).cal.running.find? (fun y => y.domain = e.val) = some x ∧ (s.m.at t).cal.running.find? (fun y => y.domain = 9) = some z
    ∧ (x.needs good.steps ≤ x.stepped ∧ z.needs good.steps ≤ z.stepped ∧ z.stepped < z.needs more.steps) ∧ good.steps ≤ stepLimit e.val
      ∧ ¬(wide.steps ≤ stepLimit e.val)
    ∧ (s.m.at t).cal.running.find? (fun y => y.domain = none_.val) = none :=
  ⟨calUp, 0, 26, (26, 3), 11, ⟨11, 2, false, 0, []⟩, ⟨9, 1, true, 5, []⟩, 10, 0, ⟨true, true, 5, 44, 1, 2, 3⟩,
    ⟨true, true, 6, 44, 1, 2, 3⟩, ⟨true, true, 257, 44, 1, 2, 3⟩, by decide +kernel⟩

def powUp (f : HwS → HwS) : State := setUp fun m => { m with hw := f m.hw }
theorem witness_PowerOnFollowsItsSteps_powerOn : ∃ (s : State) (reco : State) (t : Nanos),
    s.m.rebooting = false ∧ reco.m.rebooting = false ∧ s.m.hw.power ≠ .on ∧ s.m.hw.power ≠ .recovery ∧ reco.m.hw.power = .recovery :=
  ⟨powUp fun h => { h with power := .off }, powUp fun h => { h with power := .recovery }, 0, by decide +kernel⟩

def stepUp : State := setUp fun m => { (m.put 0x214F 1 1).put 0x1210 4 5 with hw := { m.hw with trialFrom := some 1 } }
theorem witness_PowerOnFollowsItsSteps_steps : ∃ (s : State) (t : Nanos) (ch : Fin 16) (bare : Fin 16) (early : Nanos),
    s.serves ∧ (s.m.at t).n (0x2140 + ch.val) 1 ≠ 0 ∧ (s.m.at t).n (0x2140 + bare.val) 1 = 0 ∧ (s.m.at t).n 0x1800 4 = 0
      ∧ (s.m.at t).hw.serviceAt + 300 * second ≤ (s.m.at t).ctr
    ∧ (s.m.at t).hw.trialFrom ≠ none ∧ (s.m.at t).hw.steady = true ∧ (s.m.at t).n 0x1210 4 ≠ 0
      ∧ (s.m.at t).hw.serviceAt + (s.m.at t).n 0x1210 4 ≤ (s.m.at t).ctr ∧ (s.m.at t).n 0x1200 1 ≤ 1
    ∧ (s.m.at early).ctr < (s.m.at early).hw.serviceAt + (s.m.at early).n 0x1210 4 :=
  ⟨stepUp, 300000000000, 15, 0, 4, by decide +kernel⟩

theorem witness_TheStandbyDomainWatches_feeds : ∃ (s : State) (shorted : State) (dead : State) (t : Nanos) (late : Nanos) (opened : Bool)
    (b : Fin 2) (mv : Int) (a : Nanos),
    s.m.rebooting = false ∧ (s.m.at t).runs = true ∧ (s.m.at t).hw.ejectorOpen ≠ opened ∧ nth (s.m.at t).hw.shortAt b.val = none
    ∧ (s.m.at t).n 0x1D40 (6 + b.val) ≠ (s.m.at t).feedState b.val mv ∧ (s.m.at t).hw.dipAt = some a ∧ (s.m.at t).ctr ≤ a + 5000000
      ∧ 44000 ≤ mv ∧ mv ≤ 58000
    ∧ shorted.m.rebooting = false ∧ nth (shorted.m.at t).hw.shortAt b.val = some a ∧ (shorted.m.at t).ctr < a + second
      ∧ nth (shorted.m.at late).hw.shortAt b.val = some a ∧ a + second ≤ (shorted.m.at late).ctr
    ∧ dead.m.rebooting = false ∧ (dead.m.at t).runs = false ∧ (dead.m.at t).hw.ejectorOpen ≠ opened :=
  ⟨powUp fun h => { h with dipAt := some 0, i2cOffset := 64, i2cAlert := true }, powUp fun h => { h with shortAt := [none, some 0] },
    powUp fun h => { h with power := .off }, 5000000, 1000000000, true, 1, 44000, 0, by decide +kernel⟩

theorem witness_TheStandbyDomainWatches_i2c : ∃ (s : State) (t : Nanos) (a : Nanos),
    s.m.rebooting = false ∧ (s.m.at t).standbyUp = true ∧ (s.m.at t).hw.dipAt = some a ∧ a + 5000000 ≤ (s.m.at t).ctr :=
  ⟨powUp fun h => { h with dipAt := some 0, i2cOffset := 64, i2cAlert := true }, 5000000, 0, by decide +kernel⟩

theorem witness_TheStandbyDomainWatches_dip : ∃ (s : State) (empty : State) (t : Nanos),
    s.m.rebooting = false ∧ empty.m.rebooting = false ∧ (s.m.at t).standbyUp = true ∧ (s.m.at t).hw.dipAt = none
    ∧ (s.m.at t).flag 0x1D40 8 = true ∧ (empty.m.at t).standbyUp = true ∧ (empty.m.at t).hw.dipAt = none
      ∧ (empty.m.at t).flag 0x1D40 8 = false :=
  ⟨setUp fun m => m.put 0x1D40 8 1, setUp id, 0, by decide +kernel⟩

def deadFeed : State := setUp fun m => { ((m.put 0x1D40 6 2).put 0x1D40 7 2) with hw := { m.hw with power := .off } }
theorem witness_TheStandbyDomainWatches_dead : ∃ (s : State) (t : Nanos) (o : Byte),
    s.m.rebooting = false ∧ (s.m.at t).standbyUp = false :=
  ⟨deadFeed, 0, 5, by decide +kernel⟩

def hotUp : State := setUp fun m => { m with hw := { m.hw with hot := [3, 3, 3] }, cal := { m.cal with failed := [27] } }
def hotRec : State := powUp fun h => { h with power := .recovery, hot := [0, 0, 3] }
def warnUp : State := setUp fun m => (m.raiseCond 0x1D01 0 [5, 1]).put 0x1D00 5 1
theorem witness_HeatIsAnswered_junction : ∃ (s : State) (reco : State) (dead : State) (warm : State) (t : Nanos),
    s.serves ∧ ((s.m.at t).tripRun 1120 = 4 ∧ (s.m.at t).tripRun 1119 ≠ 4 ∧ (s.m.at t).tripRun 970 ≠ 4) ∧ (s.m.at t).cal.runsIn 27 = false
    ∧ (1080 - (s.m.at t).lowered ≤ 1119 ∧ 3 ≤ nth (s.m.at t).hw.hot 1) ∧ (s.m.at t).n 0x1D00 5 ≠ 2 ∧ (1000 - (s.m.at t).lowered ≤ 970
      ∧ 970 < 1080 - (s.m.at t).lowered ∧ 3 ≤ nth (s.m.at t).hw.hot 0)
    ∧ (s.m.at t).n 0x1D00 5 = 0 ∧ (s.m.at t).condSet 0x1D01 0 = false ∧ (s.m.at t).condSet 0x1D02 0 = false
    ∧ reco.m.rebooting = false ∧ (reco.m.at t).runs = false ∧ (reco.m.at t).hw.power = .recovery ∧ (reco.m.at t).tripRun 1150 = 4
    ∧ dead.m.rebooting = false ∧ (dead.m.at t).runs = false ∧ (dead.m.at t).hw.power ≠ .recovery
    ∧ warm.serves ∧ 969 < 970 - (warm.m.at t).lowered ∧ (warm.m.at t).condSet 0x1D01 0 = true ∧ (warm.m.at t).n 0x1D00 5 ≠ 2 :=
  ⟨hotUp, hotRec, powUp fun h => { h with power := .off }, warnUp, 0, by decide +kernel⟩

def opticMod : CageModule := ⟨true, 14, [0], 0, 0, 0⟩
def coolUp : State := setUp fun m => { ((m.put 0x1D00 5 2).put 0x2448 2 3) with hw := { m.hw with coolSince := some 0 }, prt := { m.prt with cages := m.prt.cages.set 8 { (default : CageS) with present := true, info := some opticMod } } }
theorem witness_HeatIsAnswered_others : ∃ (s : State) (t : Nanos) (a : Nanos) (on : Bool) (q : Fin 9),
    s.serves ∧ (s.m.at t).hw.coolSince = some a ∧ (s.m.at t).n 0x1D00 5 = 2 ∧ a + 10 * second ≤ (s.m.at t).ctr
      ∧ (s.m.at t).flag 0x1D00 9 ≠ on ∧ (s.m.at t).condSet 0x1D06 0 = false
    ∧ ((s.m.at t).cage q.val).info = some opticMod ∧ opticMod.optic = true
      ∧ (s.m.at t).limits.find? (fun l => l.code = 0x1D08 && l.res = q.val) = none ∧ (s.m.at t).serviceDown 0 10 = false :=
  ⟨coolUp, 10000000000, 0, true, 8, by decide +kernel⟩

def coreUp : State := setUp fun m => { m with hw := { m.hw with misses := (List.replicate 64 1).set 3 0, test := some (1, 63, 0) } }
theorem witness_CoresFailToSpares : ∃ (s : State) (t : Nanos) (c : Fin 64) (l : List (Fin 64)) (d : Fin 64) (once : Fin 64)
    (rate : Fin 64) (sp : Nat) (x : Nat × Nat × Nanos),
    s.serves ∧ ((s.m.at t).core c.val = 0 ∧ c ∈ l ∧ nth (s.m.at t).hw.misses c.val ≠ 0) ∧ ((s.m.at t).core d.val = 0 ∧ d ∉ l
      ∧ nth (s.m.at t).hw.misses d.val ≠ 0)
    ∧ ((s.m.at t).core once.val = 0 ∧ once ∈ l ∧ nth (s.m.at t).hw.misses once.val = 0 ∧ once.val < (s.m.at t).hw.misses.length)
    ∧ (s.m.at t).n (0x2800 + c.val) 2 ≤ 12 ∧ (s.m.at t).n (0x2800 + c.val) 2 ≠ 1 ∧ (s.m.at t).core rate.val = 0
      ∧ (s.m.at t).n (0x2800 + rate.val) 2 = 1
    ∧ (s.m.at t).claimsNow = [] ∧ (s.m.at t).freeSpare = some sp ∧ (s.m.at t).hw.test = some x :=
  ⟨coreUp, 0, 2, [2, 3], 4, 3, 1, 46, (1, 63, 0), by decide +kernel⟩

def sparesGone : State := setUp fun m => { m.each (List.range 64) (fun (m : Mod) (c : Nat) => if m.core c = 1 ∨ m.core c = 2 then m.put (0x2800 + c) 1 3 else m) with hw := m.hw }
theorem witness_CoresFailToSpares_down : ∃ (s : State) (t : Nanos) (c : Fin 64) (failed : Fin 64),
    s.serves ∧ (s.m.at t).core c.val = 0 ∧ (s.m.at t).n (0x2800 + c.val) 2 ≤ 12 ∧ (s.m.at t).n (0x2800 + c.val) 2 ≠ 1
      ∧ (s.m.at t).freeSpare = none ∧ (s.m.at t).core failed.val = 3 ∧ (s.m.at t).hw.test = none :=
  ⟨sparesGone, 0, 2, 46, by decide +kernel⟩

/-! ### Witnesses: the whole machine -/
theorem witness_StepsRunTheFrontCommand : ∃ (c : Instr) (rest : List Instr) (s : State),
    s.pending = c :: rest :=
  ⟨.keepalive 0 frm, [.baseTickEdge], { up id with pending := [.keepalive 0 frm, .baseTickEdge] }, by decide +kernel⟩

def logUp : State := ⟨Mod.reset, ⟨1, 8, [⟨7, 1, 0, 0x1001, 0, []⟩]⟩, [.queueSample 0]⟩
theorem witness_TheEventLogStaysInOrder : ∃ (s : State),
    s.events.ok ∧ ∃ s', step s = .next s' :=
  ⟨logUp, ⟨by decide, by decide, fun i h => by
    have hi : i = 0 := by simpa [logUp] using h
    subst hi; exact ⟨rfl, rfl⟩⟩, ⟨_, rfl⟩⟩

theorem witness_ObjectsReadAsSet : ∃ (m : Mod) (idx : Nat) (sub : Nat),
    sub < 256 ∧ m.objs.rising = true :=
  ⟨Mod.reset, 0x7FFF, 255, by decide +kernel⟩

theorem witness_TicksHaveTheirEdges : ∃ (f : Family) (t : Nanos) (n : Nat),
    n * (f.a * 1000000000) < (t + 1) * f.b ∧ (t + 1) * f.b ≤ (n + 1) * (f.a * 1000000000) ∧ f.edge n < t ∧ t < f.edge (n + 1) :=
  ⟨.f24, 1225489, 0, by decide +kernel⟩

theorem witness_CoursesAndFramesLieOnTheGrid : ∃ (T : Nat) (k : Nat),
    0 < k ∧ T % k = 0 ∧ isFrameTick T k = true :=
  ⟨68, 2, by decide +kernel⟩

theorem witness_TimestampsCountFromTheEpoch : ∃ (m : Mod) (t : Nanos),
    t ≤ m.now + 40000 * second ∧ m.now ≤ t + 40000 * second :=
  ⟨{ Mod.reset with now := 40000000000000 }, 0, by decide +kernel⟩

theorem witness_CommandsStayInTheirFootprint : ∃ (s : State) (c : Instr) (m' : Mod),
    s.m.rebooting = false ∧ footprint c s.m m' ≠ none :=
  ⟨setUp id, .queueSample 0, (setUp id).m.at 0, by decide +kernel⟩

theorem witness_CommandsWriteOnlyTheirObjects : ∃ (s : State) (c : Instr) (idx : Nat) (sub : Nat),
    s.m.rebooting = false ∧ sub < 256 ∧ ∃ p, writesOnly c = some p ∧ p idx = false :=
  ⟨setUp id, .checkerLock 0 3 true 64, 0x2504, 255, by decide +kernel, by decide +kernel, ⟨_, rfl, by decide +kernel⟩⟩

end Sys2Proof.Tests
end

section
/-! SUPPORT. The laws of the tick grid: edges and ticks as adjoints, courses and frames on the grid, wrapped timestamps (R17, R18, R37). -/

namespace Sys2Proof.Machine

/-! ### Edges and the tick of an instant (R17) -/

/-- What lies below a rounded-up quotient. -/
theorem le_pred_ceil_iff {x p : Nat} (hx : 0 < x) (hp : 0 < p) (n : Nat) : n ≤ (x + p - 1) / p - 1 ↔ n * p < x := by
  have hlt (c : Nat) : c < (x + p - 1) / p ↔ c * p < x := by
    rw [← Nat.ceilDiv_eq_add_pred_div, ← Nat.not_le, ceilDiv_le_iff_le_mul hp, Nat.not_le, Nat.mul_comm]
  rw [← hlt, Nat.lt_iff_le_pred ((hlt 0).2 (by omega))]

namespace Family

variable (f : Family)

theorem a_pos : 0 < f.a := by cases f <;> decide

theorem b_pos : 0 < f.b := by cases f <;> decide

/-- A base tick lasts a nanosecond or more. -/
theorem b_le_tickLength : f.b ≤ f.a * second := by cases f <;> decide

theorem tickLength_pos : 0 < f.a * second := f.b_pos.trans_le f.b_le_tickLength

/-- An edge lies at or before an instant when its exact time lies before the next nanosecond. -/
theorem edge_le_iff (T : Nat) (t : Nanos) : f.edge T ≤ t ↔ T * (f.a * second) < (t + 1) * f.b := by
  rw [Family.edge, ← Nat.lt_succ_iff, Nat.div_lt_iff_lt_mul f.b_pos, Nat.mul_assoc]

/-- The ceiling of R17 counts the edges at or before an instant. -/
theorem le_tickOf_iff (T : Nat) (t : Nanos) : T ≤ f.tickOf t ↔ f.edge T ≤ t := by
  rw [f.edge_le_iff]
  exact le_pred_ceil_iff (Nat.mul_pos t.succ_pos f.b_pos) f.tickLength_pos T

/-- An instant belongs to the one tick whose edge it has reached and whose next edge it has not. -/
theorem tickOf_eq_iff (t : Nanos) (T : Nat) : f.tickOf t = T ↔ f.edge T ≤ t ∧ t < f.edge (T + 1) := by
  rw [← f.le_tickOf_iff, ← Nat.not_le, ← f.le_tickOf_iff]
  omega

@[simp] theorem edge_zero : f.edge 0 = 0 := by simp [Family.edge]

/-- No two ticks share an edge: the next edge is a nanosecond or more later. -/
theorem edge_lt_edge_succ (T : Nat) : f.edge T < f.edge (T + 1) := by
  have hlen := f.b_le_tickLength
  have hT : f.edge T * f.b ≤ T * f.a * second := Nat.div_mul_le_self _ _
  rw [Nat.mul_assoc] at hT
  rw [← Nat.not_le, f.edge_le_iff, Nat.succ_mul, Nat.succ_mul, Nat.not_lt]
  exact Nat.add_le_add hT hlen

/-- R17: an instant on an edge belongs to the tick of that edge. -/
@[simp] theorem tickOf_edge (T : Nat) : f.tickOf (f.edge T) = T :=
  (f.tickOf_eq_iff _ _).2 ⟨le_rfl, f.edge_lt_edge_succ T⟩

/-- R17: between edges the tick is the floor of the exact quotient. -/
theorem div_tickLength_of_between {t : Nanos} {T : Nat} (hlo : f.edge T < t) (hhi : t < f.edge (T + 1)) :
    t * f.b / (f.a * second) = T := by
  refine Nat.div_eq_of_lt_le ?_ ?_
  · obtain ⟨u, rfl⟩ := Nat.exists_eq_add_one_of_ne_zero (Nat.ne_zero_of_lt hlo)
    exact ((f.edge_le_iff T u).1 (Nat.lt_succ_iff.1 hlo)).le
  · refine Nat.lt_of_not_le fun hge => hhi.not_ge ((f.edge_le_iff _ _).2 (hge.trans_lt ?_))
    exact Nat.mul_lt_mul_of_pos_right t.lt_succ_self f.b_pos

end Family

/-! ### Courses and frames (R18) -/

theorem isCourseTick_iff (T k : Nat) : isCourseTick T k = true ↔ T % k = 0 := by simp [isCourseTick]

theorem isFrameTick_iff (T k : Nat) : isFrameTick T k = true ↔ T % (34 * k) = 0 := by simp [isFrameTick]

/-- A frame has 34 courses. -/
theorem courseIndex_lt (T : Nat) {k : Nat} (hk : 0 < k) : courseIndex T k < 34 :=
  (Nat.div_lt_iff_lt_mul hk).2 (Nat.mod_lt _ (by omega))

theorem isCourseTick_of_isFrameTick {T k : Nat} (h : isFrameTick T k = true) : isCourseTick T k = true :=
  (isCourseTick_iff T k).2 (Nat.mod_eq_zero_of_dvd
    ((Nat.dvd_mul_left k 34).trans (Nat.dvd_of_mod_eq_zero ((isFrameTick_iff T k).1 h))))

/-- Course 0 of a frame is due on the frame tick. -/
theorem courseIndex_of_isFrameTick {T k : Nat} (h : isFrameTick T k = true) : courseIndex T k = 0 := by
  rw [courseIndex, (isFrameTick_iff T k).1 h, Nat.zero_div]

/-- The frame ticks are the whole multiples of the frame's length, and so are their exact times. -/
theorem exists_frame_of_isFrameTick (f : Family) {T k : Nat} (h : isFrameTick T k = true) :
    ∃ n, T = n * (34 * k) ∧ f.edge T = n * (34 * k * f.a * second) / f.b := by
  obtain ⟨n, rfl⟩ := Nat.dvd_of_mod_eq_zero ((isFrameTick_iff T k).1 h)
  refine ⟨n, Nat.mul_comm _ _, ?_⟩
  have hprod : 34 * k * n * f.a * second = n * (34 * k * f.a * second) := by ring
  rw [Family.edge, hprod]

/-! ### Timestamps (R37) -/

/-- A quotient wrapped at 32 bits is the floor but for whole wraps. -/
theorem exists_wraps_of_div_mod (x : Nat) {d : Nat} (hd : 0 < d) :
    ∃ q, (x / d % 2 ^ 32 + q * 2 ^ 32) * d ≤ x ∧ x < (x / d % 2 ^ 32 + q * 2 ^ 32 + 1) * d := by
  refine ⟨x / d / 2 ^ 32, ?_⟩
  rw [Nat.mod_add_div']
  exact ⟨Nat.div_mul_le_self x d, (Nat.div_lt_iff_lt_mul hd).1 (Nat.lt_succ_self _)⟩

theorem rtpTimestamp_lt (rate : Nat) (t : Nanos) : rtpTimestamp rate t < 2 ^ 32 := Nat.mod_lt _ (by decide)

theorem Family.videoTimestamp_lt (f : Family) (T : Nat) : f.videoTimestamp T < 2 ^ 32 := Nat.mod_lt _ (by decide)

/-- A count within half a wrap of a known one is read back from its low 32 bits, as `Mod.sampleOfTimestamp` does. -/
theorem unwrap_mod {q base : Nat} (hahead : q < base + 2 ^ 31) (hbehind : base ≤ q + 2 ^ 31) :
    (let fwd := (q % 2 ^ 32 + 2 ^ 32 - base % 2 ^ 32) % 2 ^ 32
      if fwd < 2 ^ 31 then base + fwd else base + fwd - 2 ^ 32) = q := by
  dsimp only
  split <;> omega

/-- 40,000 s are fewer 48 kHz samples than half a wrap. -/
theorem samples_lt_of_within {t u : Nat} (h : t ≤ u + 40000 * second) :
    t * 48000 / second < u * 48000 / second + 2 ^ 31 := by
  simp only [second] at h ⊢
  omega

/-- R37: a sample within 40,000 s of now is read back from its timestamp. -/
theorem Mod.sampleOfTimestamp_rtpTimestamp (m : Mod) {t : Nanos} (hahead : t ≤ m.now + 40000 * second)
    (hbehind : m.now ≤ t + 40000 * second) : m.sampleOfTimestamp (rtpTimestamp 48000 t) = t * 48000 / second :=
  unwrap_mod (samples_lt_of_within hahead) (samples_lt_of_within hbehind).le

/-! ### The statements -/

/-- Settles O56: the tick of an instant and the edge of a tick are adjoint, from which the cases of R17 follow. -/
theorem ticksHaveTheirEdges : Obligations.TicksHaveTheirEdges := by
  refine ⟨by decide, fun f => ⟨fun T => rfl, f.edge_zero, fun t => ?_, fun t n hlo hhi => ?_, f.tickOf_edge,
    fun t T => f.div_tickLength_of_between, fun T => rfl⟩⟩
  · obtain ⟨hreached, hnext⟩ := (f.tickOf_eq_iff t _).1 rfl
    exact ⟨hreached, hnext, fun T => (f.le_tickOf_iff T t).2⟩
  · exact (f.tickOf_eq_iff t n).2
      ⟨(f.edge_le_iff n t).2 hlo, Nat.lt_of_not_le fun hedge => hhi.not_gt ((f.edge_le_iff _ t).1 hedge)⟩

/-- Settles O57: the grid of R18 is divisibility by the course's and the frame's length. -/
theorem coursesAndFramesLieOnTheGrid : Obligations.CoursesAndFramesLieOnTheGrid := by
  intro T k hk
  exact ⟨isCourseTick_iff T k, fun _ => ⟨rfl, courseIndex_lt T hk⟩, isFrameTick_iff T k,
    fun hframe => ⟨isCourseTick_of_isFrameTick hframe, courseIndex_of_isFrameTick hframe⟩,
    fun f hframe => exists_frame_of_isFrameTick f hframe⟩

/-- Settles O58: timestamps are floors less whole wraps, and 40,000 s lie within half a wrap. -/
theorem timestampsCountFromTheEpoch : Obligations.TimestampsCountFromTheEpoch := by
  refine ⟨fun f T => ⟨f.videoTimestamp_lt T, exists_wraps_of_div_mod _ f.b_pos⟩, fun t =>
    ⟨rtpTimestamp_lt 48000 t, exists_wraps_of_div_mod _ (by decide), fun m hahead hbehind => ?_⟩⟩
  rw [m.sampleOfTimestamp_rtpTimestamp hahead hbehind]
  exact ⟨Nat.div_mul_le_self _ _, (Nat.div_lt_iff_lt_mul (by decide)).1 (Nat.lt_succ_self _)⟩

end Sys2Proof.Machine
end

section
/-! SUPPORT. What every command does: it completes, the log stays in order, and an unpowered module is left alone (R35, R318, R325). -/

namespace Sys2Proof.Machine

/-! ### Every command completes (R35, R335) -/

/-- What settles keeps the queue. -/
@[simp] theorem State.settle_pending (s : State) (m : Mod) : (s.settle m).pending = s.pending := by
  unfold State.settle
  split <;> rfl

/-- What settles keeps the log or begins that of the next boot (R335). -/
theorem State.settle_events (s : State) (m : Mod) :
    (s.settle m).events = s.events ∨ (s.settle m).events = ⟨s.events.epoch + 1, 0, []⟩ := by
  unfold State.settle
  split
  · exact .inr rfl
  · exact .inl rfl

/-- The edge of a tick keeps the queue. -/
@[simp] theorem State.tickEdge_pending (s : State) : s.tickEdge.pending = s.pending := by
  unfold State.tickEdge
  split <;> rfl

/-- What a command answers: the edge of the tick, or a settled effect. -/
theorem exec_cases (c : Instr) (s : State) :
    (c = .baseTickEdge ∧ exec c s = .next s.tickEdge) ∨ ∃ m, exec c s = .next (s.settle m) := by
  cases c
  case baseTickEdge => exact .inl ⟨rfl, rfl⟩
  case komundKeyWrite t f slot key => cases slot <;> exact .inr ⟨_, rfl⟩
  all_goals exact .inr ⟨_, rfl⟩

/-- Settles O51: the edge of the tick is the only command that is no settled effect. -/
theorem everyCommandCompletes : Obligations.EveryCommandCompletes := by
  intro c s
  obtain ⟨rfl, h⟩ | ⟨m, h⟩ := exec_cases c s
  · exact ⟨_, h, s.tickEdge_pending, fun hc => absurd rfl hc⟩
  · exact ⟨_, h, s.settle_pending m, fun _ => s.settle_events m⟩

/-- Settles O50: a step takes the front command off the queue. -/
theorem stepsRunTheFrontCommand : Obligations.StepsRunTheFrontCommand := by
  refine ⟨fun c rest s h => ?_, fun s h => ?_⟩
  · unfold step
    rw [h]
  · unfold step
    rw [h]

/-! ### The event log (R35, R318) -/

@[simp] theorem numberEvents_length (epoch : Nat) (time : Nanos) (n : Nat) (l : List Raised) :
    (numberEvents epoch time n l).length = l.length := by
  induction l generalizing n with
  | nil => rfl
  | cons x l ih => simp [numberEvents, ih]

/-- The i-th event numbered carries the first number plus i, and the boot's epoch. -/
theorem numberEvents_getElem (epoch : Nat) (time : Nanos) (n : Nat) (l : List Raised) (i : Nat)
    (h : i < (numberEvents epoch time n l).length) :
    (numberEvents epoch time n l)[i].seq = n + i ∧ (numberEvents epoch time n l)[i].epoch = epoch := by
  induction l generalizing n i with
  | nil => exact absurd h (Nat.not_lt_zero i)
  | cons x l ih =>
    cases i with
    | zero => exact ⟨rfl, rfl⟩
    | succ i =>
      obtain ⟨hseq, hepoch⟩ := ih (n + 1) i (by simpa [numberEvents] using h)
      exact ⟨hseq.trans (Nat.add_right_comm n 1 i), hepoch⟩

/-- Records numbered on from the last keep the log in order. -/
theorem EventLog.ok_extend {e : EventLog} (h : e.ok) (recs : List EventRec)
    (hrecs : ∀ i, ∀ hi : i < recs.length, recs[i].seq = e.next + i ∧ recs[i].epoch = e.epoch) (i : Nat)
    (hi : i < (e.log ++ recs).length) :
    (e.log ++ recs)[i].seq + (e.log ++ recs).length = e.next + recs.length + i ∧ (e.log ++ recs)[i].epoch = e.epoch := by
  obtain ⟨-, hnext, hheld⟩ := h
  rw [List.length_append] at hi ⊢
  by_cases hold : i < e.log.length
  · rw [List.getElem_append_left hold]
    obtain ⟨hseq, hepoch⟩ := hheld i hold
    exact ⟨by omega, hepoch⟩
  · rw [List.getElem_append_right (Nat.le_of_not_lt hold)]
    obtain ⟨hseq, hepoch⟩ := hrecs (i - e.log.length) (by omega)
    exact ⟨by omega, hepoch⟩

/-- The events of a tick enter a log in order, and the oldest beyond the limit leave it (R35, R318). -/
theorem EventLog.ok_append {e : EventLog} (h : e.ok) (time : Nanos) (l : List Raised) : (e.append time l).ok := by
  have hext := EventLog.ok_extend h (numberEvents e.epoch time e.next (sortRaised l))
    (numberEvents_getElem e.epoch time e.next (sortRaised l))
  obtain ⟨-, hnext, -⟩ := h
  unfold EventLog.append EventLog.ok
  dsimp only
  generalize numberEvents e.epoch time e.next (sortRaised l) = recs at hext ⊢
  have hlen : (e.log ++ recs).length = e.log.length + recs.length := List.length_append
  generalize e.log ++ recs = log at hext hlen ⊢
  generalize logLimit = limit
  have hdrop : (log.drop (log.length - limit)).length = log.length - (log.length - limit) := List.length_drop
  refine ⟨by omega, by omega, fun i hi => ?_⟩
  rw [List.getElem_drop]
  obtain ⟨hseq, hepoch⟩ := hext (log.length - limit + i) (by omega)
  exact ⟨by omega, hepoch⟩

/-- The log of a boot that has just begun is in order. -/
theorem EventLog.ok_empty (epoch : Nat) : EventLog.ok ⟨epoch, 0, []⟩ :=
  ⟨Nat.zero_le _, Nat.le_refl _, fun i hi => absurd hi (Nat.not_lt_zero i)⟩

/-- The edge of a tick leaves the log or appends to it. -/
theorem State.tickEdge_events_ok {s : State} (h : s.events.ok) : s.tickEdge.events.ok := by
  unfold State.tickEdge
  split
  · exact h
  · exact EventLog.ok_append h _ _

/-- Every command keeps the log in order. -/
theorem exec_events_ok {c : Instr} {s s' : State} (h : s.events.ok) (hs : exec c s = .next s') : s'.events.ok := by
  obtain ⟨-, he⟩ | ⟨m, he⟩ := exec_cases c s
  · obtain rfl : s.tickEdge = s' := by simpa [he] using hs
    exact State.tickEdge_events_ok h
  · obtain rfl : s.settle m = s' := by simpa [he] using hs
    obtain hk | hb := s.settle_events m
    · rwa [hk]
    · rw [hb]
      exact EventLog.ok_empty _

/-- Settles O52: a settled effect keeps the log or begins an empty one, and the edge of a tick appends in order. -/
theorem theEventLogStaysInOrder : Obligations.TheEventLogStaysInOrder := by
  intro s s' h hs
  unfold step at hs
  split at hs
  · obtain rfl : s = s' := by simpa using hs
    exact h
  · next c rest hpending => exact exec_events_ok (s := { s with pending := rest }) h hs

/-! ### Reset (R335) -/

/-- Settles O53: the state after reset is closed data. -/
theorem resetLeavesTheDefaults : Obligations.ResetLeavesTheDefaults := by
  have hfn : ∀ fid : Fin 0x302, fnExists fid.val = true → State.reset.m.fn fid.val = stopped := by decide +kernel
  refine ⟨rfl, EventLog.ok_empty 0, rfl, ⟨rfl, rfl⟩, rfl, rfl, rfl, rfl, fun fid h => ?_, fun _ _ => rfl⟩
  refine hfn ⟨fid, ?_⟩ h
  simp only [fnExists, within, Bool.or_eq_true, Bool.and_eq_true, decide_eq_true_eq] at h
  omega

/-! ### A module that is not powered (R325, R347) -/

/-- A processor without power does not run. -/
theorem Mod.not_runs_of_unpowered {m : Mod} (h : m.hw.power = .off ∨ m.hw.power = .halted ∨ m.hw.power = .tripped) :
    m.runs = false := by
  obtain h | h | h := h <;> simp [Mod.runs, h]

/-- Nor does it hear controllers. -/
theorem Mod.not_hears_of_unpowered {m : Mod} (h : m.hw.power = .off ∨ m.hw.power = .halted ∨ m.hw.power = .tripped) :
    m.hears = false := by
  obtain h | h | h := h <;> simp [Mod.hears, Mod.runs, h]

/-- Of an effect that asks a condition that does not hold, the passing of time is left. -/
theorem settle_idle {s : State} {t : Nanos} {c : Bool} {m : Mod} (hb : s.m.rebooting = false) (hc : c = false) :
    (.next (s.settle (if c = true then m else s.m.at t)) : Host.Outcome State Fault Refusal) = .next { s with m := s.m.at t } := by
  simp [hc, State.settle, hb]

/-- The trip of a module without power is not judged. -/
theorem Mod.junctionSample_unpowered {m : Mod} (sample : Int)
    (h : m.hw.power = .off ∨ m.hw.power = .halted ∨ m.hw.power = .tripped) : m.junctionSample sample = m := by
  have hr := Mod.not_runs_of_unpowered h
  obtain h | h | h := h <;> simp [Mod.junctionSample, hr, h]

/-- Settles O54: every command but those of the standby domain asks whether the processor runs, or hears. -/
theorem unpoweredModulesDoNothing : Obligations.UnpoweredModulesDoNothing := by
  intro c s hc hb hp
  have hruns : ∀ t, (s.m.at t).runs = false := fun t => Mod.not_runs_of_unpowered hp
  have hhears : ∀ t, (s.m.at t).hears = false := fun t => Mod.not_hears_of_unpowered hp
  have hedge : s.m.runs = false := Mod.not_runs_of_unpowered hp
  cases c
  case baseTickEdge => exact .inl (by simp [exec, execBaseTickEdge, State.tickEdge, hedge])
  case junctionSample t sample =>
    have hidle := Mod.junctionSample_unpowered (m := s.m.at t) sample hp
    exact .inr ⟨t, by simp [exec, execJunctionSample, actAny, actAnyE, hidle, State.settle, hb]⟩
  case komundKeyWrite t f slot key => cases slot <;> exact .inr ⟨t, settle_idle hb (hhears t)⟩
  all_goals first
    | exact .inr ⟨_, settle_idle hb (hruns _)⟩
    | exact .inr ⟨_, settle_idle hb (hhears _)⟩
    | exact Bool.noConfusion (show true = false from hc)

/-! ### Objects (R3, R370) -/

/-- The keys of two objects differ where their addresses do. -/
theorem keyOf_ne {i s j t : Nat} (hs : s < 256) (ht : t < 256) (h : ¬(j = i ∧ t = s)) : keyOf i s ≠ keyOf j t := by
  unfold keyOf
  omega

/-- Settles O55: the laws of the object store, read at the module's objects. -/
theorem objectsReadAsSet : Obligations.ObjectsReadAsSet := by
  intro m idx sub v hsub
  refine ⟨?_, fun i x hx hne hidx => ?_, Store.rising_set idx sub v, fun old k => ⟨rfl, rfl⟩⟩
  · by_cases hfuse : 0x1000 = idx ∧ 5 = sub
    · exact .inr ⟨hfuse.1.symm, hfuse.2.symm⟩
    · exact .inl (m.get_set_same idx sub v (keyOf_ne hsub (by decide) hfuse))
  · exact m.get_set_other v (keyOf_ne hsub (by decide) fun h => hidx h.1.symm) (keyOf_ne hsub hx hne)

end Sys2Proof.Machine
end

section
/-! SUPPORT. The components of the module, and which of them an operation touches: one lemma per operation says that the others
stay. -/

namespace Sys2Proof.Machine

/-! ### Components -/

/-- A component of the module: a field of `Mod`. -/
inductive Part
  | now | ctr | tick | fam | draws | objs | edgeObjs | out | raised | conds | limits | seen | timeFn | twinFn |
    rebooting | preud | chans | rends | groups | scalers | lanes | serving | fallbacks | ladderRows | checks |
    twin | decs | rings | slots | downCores | fab | servo | mem | prt | clk | cal | hw
  deriving DecidableEq

/-- What a component holds. -/
def Part.Holds : Part → Type
  | .now => Nanos
  | .ctr => Nanos
  | .tick => Nat
  | .fam => Family
  | .draws => Nat
  | .objs => Store
  | .edgeObjs => Store
  | .out => List Output
  | .raised => List Raised
  | .conds => List Condition
  | .limits => List Limiter
  | .seen => List Nat
  | .timeFn => Nat
  | .twinFn => Nat
  | .rebooting => Bool
  | .preud => PreudS
  | .chans => List ChanS
  | .rends => List RendS
  | .groups => List GroupS
  | .scalers => List ((Nat × Nat) × Nat)
  | .lanes => List (Nat × Nat × Nat × Nat × Nat)
  | .serving => List ((Nat × Nat) × Nat × Nat × Nat)
  | .fallbacks => List (Nat × List Nat)
  | .ladderRows => List ((Nat × Nat) × List (List Row))
  | .checks => List CheckS
  | .twin => TwinS
  | .decs => List DecodeS
  | .rings => List (Option Ring)
  | .slots => List SlotS
  | .downCores => List Nat
  | .fab => FabricS
  | .servo => ServoS
  | .mem => MemoryS
  | .prt => PortsS
  | .clk => ClockS
  | .cal => CalS
  | .hw => HwS

/-- A component of a module. -/
def Mod.part (m : Mod) : (p : Part) → p.Holds
  | .now => m.now
  | .ctr => m.ctr
  | .tick => m.tick
  | .fam => m.fam
  | .draws => m.draws
  | .objs => m.objs
  | .edgeObjs => m.edgeObjs
  | .out => m.out
  | .raised => m.raised
  | .conds => m.conds
  | .limits => m.limits
  | .seen => m.seen
  | .timeFn => m.timeFn
  | .twinFn => m.twinFn
  | .rebooting => m.rebooting
  | .preud => m.preud
  | .chans => m.chans
  | .rends => m.rends
  | .groups => m.groups
  | .scalers => m.scalers
  | .lanes => m.lanes
  | .serving => m.serving
  | .fallbacks => m.fallbacks
  | .ladderRows => m.ladderRows
  | .checks => m.checks
  | .twin => m.twin
  | .decs => m.decs
  | .rings => m.rings
  | .slots => m.slots
  | .downCores => m.downCores
  | .fab => m.fab
  | .servo => m.servo
  | .mem => m.mem
  | .prt => m.prt
  | .clk => m.clk
  | .cal => m.cal
  | .hw => m.hw

/-- A module whose listed components are those of another. -/
def Mod.patched (a b : Mod) (L : List Part) : Mod :=
  { now := if .now ∈ L then b.now else a.now
    ctr := if .ctr ∈ L then b.ctr else a.ctr
    tick := if .tick ∈ L then b.tick else a.tick
    fam := if .fam ∈ L then b.fam else a.fam
    draws := if .draws ∈ L then b.draws else a.draws
    objs := if .objs ∈ L then b.objs else a.objs
    edgeObjs := if .edgeObjs ∈ L then b.edgeObjs else a.edgeObjs
    out := if .out ∈ L then b.out else a.out
    raised := if .raised ∈ L then b.raised else a.raised
    conds := if .conds ∈ L then b.conds else a.conds
    limits := if .limits ∈ L then b.limits else a.limits
    seen := if .seen ∈ L then b.seen else a.seen
    timeFn := if .timeFn ∈ L then b.timeFn else a.timeFn
    twinFn := if .twinFn ∈ L then b.twinFn else a.twinFn
    rebooting := if .rebooting ∈ L then b.rebooting else a.rebooting
    preud := if .preud ∈ L then b.preud else a.preud
    chans := if .chans ∈ L then b.chans else a.chans
    rends := if .rends ∈ L then b.rends else a.rends
    groups := if .groups ∈ L then b.groups else a.groups
    scalers := if .scalers ∈ L then b.scalers else a.scalers
    lanes := if .lanes ∈ L then b.lanes else a.lanes
    serving := if .serving ∈ L then b.serving else a.serving
    fallbacks := if .fallbacks ∈ L then b.fallbacks else a.fallbacks
    ladderRows := if .ladderRows ∈ L then b.ladderRows else a.ladderRows
    checks := if .checks ∈ L then b.checks else a.checks
    twin := if .twin ∈ L then b.twin else a.twin
    decs := if .decs ∈ L then b.decs else a.decs
    rings := if .rings ∈ L then b.rings else a.rings
    slots := if .slots ∈ L then b.slots else a.slots
    downCores := if .downCores ∈ L then b.downCores else a.downCores
    fab := if .fab ∈ L then b.fab else a.fab
    servo := if .servo ∈ L then b.servo else a.servo
    mem := if .mem ∈ L then b.mem else a.mem
    prt := if .prt ∈ L then b.prt else a.prt
    clk := if .clk ∈ L then b.clk else a.clk
    cal := if .cal ∈ L then b.cal else a.cal
    hw := if .hw ∈ L then b.hw else a.hw }

/-- A component of a patched module is that of the one or of the other. -/
theorem Mod.part_patched (a b : Mod) (L : List Part) (p : Part) :
    (a.patched b L).part p = if p ∈ L then b.part p else a.part p := by
  cases p <;> rfl

/-- A module is its components. -/
theorem Mod.ext_part {a b : Mod} (h : ∀ p, a.part p = b.part p) : a = b := by
  cases a
  cases b
  rw [Mod.mk.injEq]
  exact ⟨h .now, h .ctr, h .tick, h .fam, h .draws, h .objs, h .edgeObjs, h .out, h .raised, h .conds, h .limits, h .seen, h .timeFn, h .twinFn, h .rebooting, h .preud, h .chans, h .rends, h .groups, h .scalers, h .lanes, h .serving, h .fallbacks, h .ladderRows, h .checks, h .twin, h .decs, h .rings, h .slots, h .downCores, h .fab, h .servo, h .mem, h .prt, h .clk, h .cal, h .hw⟩

/-- Two modules that agree outside some components differ by those. -/
theorem Mod.eq_patched {a b : Mod} {L : List Part} (h : ∀ p, p ∉ L → b.part p = a.part p) : b = a.patched b L := by
  refine Mod.ext_part fun p => ?_
  rw [Mod.part_patched]
  split
  · rfl
  · exact h p ‹_›

section

variable (m : Mod) {p : Part}

@[simp] theorem Mod.part_with_draws (h : p ≠ .draws) (x : Nat) : ({ m with draws := x } : Mod).part p = m.part p := by
  cases p with
  | draws => exact absurd rfl h
  | _ => rfl
@[simp] theorem Mod.part_with_objs (h : p ≠ .objs) (x : Store) : ({ m with objs := x } : Mod).part p = m.part p := by
  cases p with
  | objs => exact absurd rfl h
  | _ => rfl
@[simp] theorem Mod.part_with_out (h : p ≠ .out) (x : List Output) : ({ m with out := x } : Mod).part p = m.part p := by
  cases p with
  | out => exact absurd rfl h
  | _ => rfl
@[simp] theorem Mod.part_with_raised (h : p ≠ .raised) (x : List Raised) : ({ m with raised := x } : Mod).part p = m.part p := by
  cases p with
  | raised => exact absurd rfl h
  | _ => rfl
@[simp] theorem Mod.part_with_conds (h : p ≠ .conds) (x : List Condition) : ({ m with conds := x } : Mod).part p = m.part p := by
  cases p with
  | conds => exact absurd rfl h
  | _ => rfl
@[simp] theorem Mod.part_with_limits (h : p ≠ .limits) (x : List Limiter) : ({ m with limits := x } : Mod).part p = m.part p := by
  cases p with
  | limits => exact absurd rfl h
  | _ => rfl
@[simp] theorem Mod.part_with_seen (h : p ≠ .seen) (x : List Nat) : ({ m with seen := x } : Mod).part p = m.part p := by
  cases p with
  | seen => exact absurd rfl h
  | _ => rfl
@[simp] theorem Mod.part_with_timeFn (h : p ≠ .timeFn) (x : Nat) : ({ m with timeFn := x } : Mod).part p = m.part p := by
  cases p with
  | timeFn => exact absurd rfl h
  | _ => rfl
@[simp] theorem Mod.part_with_twinFn (h : p ≠ .twinFn) (x : Nat) : ({ m with twinFn := x } : Mod).part p = m.part p := by
  cases p with
  | twinFn => exact absurd rfl h
  | _ => rfl
@[simp] theorem Mod.part_with_preud (h : p ≠ .preud) (x : PreudS) : ({ m with preud := x } : Mod).part p = m.part p := by
  cases p with
  | preud => exact absurd rfl h
  | _ => rfl
@[simp] theorem Mod.part_with_chans (h : p ≠ .chans) (x : List ChanS) : ({ m with chans := x } : Mod).part p = m.part p := by
  cases p with
  | chans => exact absurd rfl h
  | _ => rfl
@[simp] theorem Mod.part_with_rends (h : p ≠ .rends) (x : List RendS) : ({ m with rends := x } : Mod).part p = m.part p := by
  cases p with
  | rends => exact absurd rfl h
  | _ => rfl
@[simp] theorem Mod.part_with_groups (h : p ≠ .groups) (x : List GroupS) : ({ m with groups := x } : Mod).part p = m.part p := by
  cases p with
  | groups => exact absurd rfl h
  | _ => rfl
@[simp] theorem Mod.part_with_scalers (h : p ≠ .scalers) (x : List ((Nat × Nat) × Nat)) : ({ m with scalers := x } : Mod).part p = m.part p := by
  cases p with
  | scalers => exact absurd rfl h
  | _ => rfl
@[simp] theorem Mod.part_with_lanes (h : p ≠ .lanes) (x : List (Nat × Nat × Nat × Nat × Nat)) : ({ m with lanes := x } : Mod).part p = m.part p := by
  cases p with
  | lanes => exact absurd rfl h
  | _ => rfl
@[simp] theorem Mod.part_with_serving (h : p ≠ .serving) (x : List ((Nat × Nat) × Nat × Nat × Nat)) : ({ m with serving := x } : Mod).part p = m.part p := by
  cases p with
  | serving => exact absurd rfl h
  | _ => rfl
@[simp] theorem Mod.part_with_fallbacks (h : p ≠ .fallbacks) (x : List (Nat × List Nat)) : ({ m with fallbacks := x } : Mod).part p = m.part p := by
  cases p with
  | fallbacks => exact absurd rfl h
  | _ => rfl
@[simp] theorem Mod.part_with_ladderRows (h : p ≠ .ladderRows) (x : List ((Nat × Nat) × List (List Row))) : ({ m with ladderRows := x } : Mod).part p = m.part p := by
  cases p with
  | ladderRows => exact absurd rfl h
  | _ => rfl
@[simp] theorem Mod.part_with_checks (h : p ≠ .checks) (x : List CheckS) : ({ m with checks := x } : Mod).part p = m.part p := by
  cases p with
  | checks => exact absurd rfl h
  | _ => rfl
@[simp] theorem Mod.part_with_twin (h : p ≠ .twin) (x : TwinS) : ({ m with twin := x } : Mod).part p = m.part p := by
  cases p with
  | twin => exact absurd rfl h
  | _ => rfl
@[simp] theorem Mod.part_with_decs (h : p ≠ .decs) (x : List DecodeS) : ({ m with decs := x } : Mod).part p = m.part p := by
  cases p with
  | decs => exact absurd rfl h
  | _ => rfl
@[simp] theorem Mod.part_with_rings (h : p ≠ .rings) (x : List (Option Ring)) : ({ m with rings := x } : Mod).part p = m.part p := by
  cases p with
  | rings => exact absurd rfl h
  | _ => rfl
@[simp] theorem Mod.part_with_slots (h : p ≠ .slots) (x : List SlotS) : ({ m with slots := x } : Mod).part p = m.part p := by
  cases p with
  | slots => exact absurd rfl h
  | _ => rfl
@[simp] theorem Mod.part_with_downCores (h : p ≠ .downCores) (x : List Nat) : ({ m with downCores := x } : Mod).part p = m.part p := by
  cases p with
  | downCores => exact absurd rfl h
  | _ => rfl
@[simp] theorem Mod.part_with_fab (h : p ≠ .fab) (x : FabricS) : ({ m with fab := x } : Mod).part p = m.part p := by
  cases p with
  | fab => exact absurd rfl h
  | _ => rfl
@[simp] theorem Mod.part_with_servo (h : p ≠ .servo) (x : ServoS) : ({ m with servo := x } : Mod).part p = m.part p := by
  cases p with
  | servo => exact absurd rfl h
  | _ => rfl
@[simp] theorem Mod.part_with_mem (h : p ≠ .mem) (x : MemoryS) : ({ m with mem := x } : Mod).part p = m.part p := by
  cases p with
  | mem => exact absurd rfl h
  | _ => rfl
@[simp] theorem Mod.part_with_prt (h : p ≠ .prt) (x : PortsS) : ({ m with prt := x } : Mod).part p = m.part p := by
  cases p with
  | prt => exact absurd rfl h
  | _ => rfl
@[simp] theorem Mod.part_with_clk (h : p ≠ .clk) (x : ClockS) : ({ m with clk := x } : Mod).part p = m.part p := by
  cases p with
  | clk => exact absurd rfl h
  | _ => rfl
@[simp] theorem Mod.part_with_cal (h : p ≠ .cal) (x : CalS) : ({ m with cal := x } : Mod).part p = m.part p := by
  cases p with
  | cal => exact absurd rfl h
  | _ => rfl
@[simp] theorem Mod.part_with_hw (h : p ≠ .hw) (x : HwS) : ({ m with hw := x } : Mod).part p = m.part p := by
  cases p with
  | hw => exact absurd rfl h
  | _ => rfl

end
end Sys2Proof.Machine
end

section
/-! SUPPORT. The frame of each operation: the components outside its list are as they were. -/

namespace Sys2Proof.Machine
section
variable (m : Mod) {p : Part}

@[simp] theorem Mod.part_ite (c : Prop) [Decidable c] (a b : Mod) :
    (if c then a else b).part p = if c then a.part p else b.part p := apply_ite (fun x : Mod => x.part p) c a b

theorem Mod.ite_part {c : Prop} [Decidable c] {a b m : Mod} (ha : a.part p = m.part p) (hb : b.part p = m.part p) :
    (if c then a else b).part p = m.part p := by
  split
  · exact ha
  · exact hb

theorem Mod.foldl_part {α : Type} (l : List α) (f : Mod → α → Mod) (h : ∀ m x, (f m x).part p = m.part p) :
    (l.foldl f m).part p = m.part p := by
  induction l generalizing m with
  | nil => rfl
  | cons x l ih => exact (ih _).trans (h m x)

@[simp] theorem Mod.each_part {α : Type} (l : List α) (f : Mod → α → Mod) (h : ∀ m x, (f m x).part p = m.part p) :
    (m.each l f).part p = m.part p := m.foldl_part l f h

@[simp] theorem Mod.when_part (c : Bool) (f : Mod → Mod) (h : (f m).part p = m.part p) : (m.when c f).part p = m.part p := by
  unfold Mod.when
  split
  · exact h
  · rfl
@[simp] theorem Mod.set_part (idx sub : Nat) (v : Val) (h : p ∉ [.objs]) :
    (m.set idx sub v).part p = m.part p := by
  simp_all [Mod.set]

@[simp] theorem Mod.put_part (idx sub : Nat) (n : Nat) (h : p ∉ [.objs]) :
    (m.put idx sub n).part p = m.part p := by
  simp_all [Mod.put]

@[simp] theorem Mod.putZ_part (idx sub : Nat) (z : Int) (h : p ∉ [.objs]) :
    (m.putZ idx sub z).part p = m.part p := by
  simp_all [Mod.putZ]

@[simp] theorem Mod.putB_part (idx sub : Nat) (b : Octets) (h : p ∉ [.objs]) :
    (m.putB idx sub b).part p = m.part p := by
  simp_all [Mod.putB]

@[simp] theorem Mod.putFlag_part (idx sub : Nat) (b : Bool) (h : p ∉ [.objs]) :
    (m.putFlag idx sub b).part p = m.part p := by
  simp_all [Mod.putFlag]

@[simp] theorem Mod.clear_part (idx first last : Nat) (h : p ∉ [.objs]) :
    (m.clear idx first last).part p = m.part p := by
  simp_all [Mod.clear]

@[simp] theorem Mod.clearRange_part (idx0 idx1 first last : Nat) (h : p ∉ [.objs]) :
    (m.clearRange idx0 idx1 first last).part p = m.part p := by
  simp_all [Mod.clearRange]

@[simp] theorem Mod.putBit_part (idx sub b : Nat) (on : Bool) (h : p ∉ [.objs]) :
    (m.putBit idx sub b on).part p = m.part p := by
  simp_all [Mod.putBit]

@[simp] theorem Mod.count_part (idx sub k : Nat) (h : p ∉ [.objs]) :
    (m.count idx sub k).part p = m.part p := by
  unfold Mod.count
  split <;> simp_all

@[simp] theorem Mod.bump_part (idx sub : Nat) (h : p ∉ [.objs]) :
    (m.bump idx sub).part p = m.part p := by
  simp_all [Mod.bump]

@[simp] theorem Mod.putFirst_part (idx sub : Nat) (v : Int) (h : p ∉ [.objs, .seen]) :
    (m.putFirst idx sub v).part p = m.part p := by
  simp at h
  unfold Mod.putFirst
  rw [Mod.part_with_seen _ h.2]
  simp [h]

@[simp] theorem Mod.putMax_part (idx sub : Nat) (v : Int) (h : p ∉ [.objs, .seen]) :
    (m.putMax idx sub v).part p = m.part p := by
  simp_all [Mod.putMax]

@[simp] theorem Mod.setFn_part (fid st : Nat) (h : p ∉ [.objs, .timeFn, .twinFn]) :
    (m.setFn fid st).part p = m.part p := by
  simp at h
  unfold Mod.setFn
  split
  · simp [h]
  · split
    · simp [h]
    · split <;> simp [h]

@[simp] theorem Mod.raiseRaw_part (code res severity : Nat) (params : List Nat) (h : p ∉ [.objs, .raised]) :
    (m.raiseRaw code res severity params).part p = m.part p := by
  simp_all [Mod.raiseRaw]

@[simp] theorem Mod.raise_part (code res : Nat) (params : List Nat) (h : p ∉ [.objs, .raised]) :
    (m.raise code res params).part p = m.part p := by
  simp_all [Mod.raise]

@[simp] theorem Mod.showConds_part (h : p ∉ [.objs]) :
    (m.showConds).part p = m.part p := by
  simp_all [Mod.showConds]

@[simp] theorem Mod.raiseCond_part (code res : Nat) (params : List Nat) (h : p ∉ [.objs, .raised, .conds]) :
    (m.raiseCond code res params).part p = m.part p := by
  simp_all [Mod.raiseCond]

@[simp] theorem Mod.raiseAgain_part (code res : Nat) (params : List Nat) (h : p ∉ [.objs, .raised, .conds]) :
    (m.raiseAgain code res params).part p = m.part p := by
  simp_all [Mod.raiseAgain]

@[simp] theorem Mod.raiseClearIf_part (code res : Nat) (clears : Condition → Bool) (params : List Nat) (h : p ∉ [.objs, .raised, .conds]) :
    (m.raiseClearIf code res clears params).part p = m.part p := by
  simp_all [Mod.raiseClearIf]

@[simp] theorem Mod.raiseClear_part (code res : Nat) (clears : List Nat) (params : List Nat) (h : p ∉ [.objs, .raised, .conds]) :
    (m.raiseClear code res clears params).part p = m.part p := by
  simp_all [Mod.raiseClear]

@[simp] theorem Mod.raiseClearAll_part (code res : Nat) (clears : List Nat) (params : List Nat) (h : p ∉ [.objs, .raised, .conds]) :
    (m.raiseClearAll code res clears params).part p = m.part p := by
  simp_all [Mod.raiseClearAll]

@[simp] theorem Mod.raiseLimitedBy_part (code res : Nat) (period : Nanos) (k : Nat) (params : List Nat) (h : p ∉ [.objs, .raised, .limits]) :
    (m.raiseLimitedBy code res period k params).part p = m.part p := by
  unfold Mod.raiseLimitedBy
  split <;> simp_all

@[simp] theorem Mod.raiseLimited_part (code res : Nat) (period : Nanos) (params : List Nat) (h : p ∉ [.objs, .raised, .limits]) :
    (m.raiseLimited code res period params).part p = m.part p := by
  simp_all [Mod.raiseLimited]

@[simp] theorem Mod.send_part (o : Output) (h : p ∉ [.out]) :
    (m.send o).part p = m.part p := by
  simp_all [Mod.send]

@[simp] theorem Mod.draw_part (h : p ∉ [.draws]) :
    (m.draw).part p = m.part p := by
  simp_all [Mod.draw]

@[simp] theorem Mod.drawN_part (k : Nat) (h : p ∉ [.draws]) :
    (m.drawN k).part p = m.part p := by
  simp_all [Mod.drawN]

@[simp] theorem Mod.modChan_part (n : Nat) (f : ChanS → ChanS) (h : p ∉ [.chans]) :
    (m.modChan n f).part p = m.part p := by
  simp_all [Mod.modChan]

@[simp] theorem Mod.modRend_part (r : Nat) (f : RendS → RendS) (h : p ∉ [.rends]) :
    (m.modRend r f).part p = m.part p := by
  simp_all [Mod.modRend]

@[simp] theorem Mod.modGroup_part (g : Nat) (f : GroupS → GroupS) (h : p ∉ [.groups]) :
    (m.modGroup g f).part p = m.part p := by
  simp_all [Mod.modGroup]

@[simp] theorem Mod.countSent_part (port q bytes : Nat) (h : p ∉ [.objs]) :
    (m.countSent port q bytes).part p = m.part p := by
  simp_all [Mod.countSent]

@[simp] theorem Mod.countOwn_part (port q : Nat) (h : p ∉ [.draws, .objs]) :
    (m.countOwn port q).part p = m.part p := by
  simp_all [Mod.countOwn]

@[simp] theorem Mod.modCheck_part (k : Nat) (f : CheckS → CheckS) (h : p ∉ [.checks]) :
    (m.modCheck k f).part p = m.part p := by
  simp_all [Mod.modCheck]

@[simp] theorem Mod.latch_part (k result tick : Nat) (h : p ∉ [.objs, .raised, .limits]) :
    (m.latch k result tick).part p = m.part p := by
  simp_all [Mod.latch]

@[simp] theorem Mod.snoopOne_part (k : Nat) (bytes : Octets) (x : Span) (courseTick frameTick : Nat) (h : p ∉ [.objs, .raised, .limits, .checks]) :
    (m.snoopOne k bytes x courseTick frameTick).part p = m.part p := by
  simp_all [Mod.snoopOne]

@[simp] theorem Mod.snoop_part (point sel sub : Nat) (bytes : Unit → Octets) (x : Span) (courseTick frameTick : Nat) (h : p ∉ [.objs, .raised, .limits, .checks]) :
    (m.snoop point sel sub bytes x courseTick frameTick).part p = m.part p := by
  exact m.foldl_part _ _ fun m k => m.snoopOne_part k _ x courseTick frameTick h

@[simp] theorem Mod.modVideo_part (g : VideoTarget) (f : VideoIn → VideoIn) (h : p ∉ [.chans]) :
    (m.modVideo g f).part p = m.part p := by
  unfold Mod.modVideo
  split <;> simp_all

@[simp] theorem Mod.stat_part (g : VideoTarget) (sub k : Nat) (h : p ∉ [.objs]) :
    (m.stat g sub k).part p = m.part p := by
  unfold Mod.stat
  split <;> simp_all

@[simp] theorem Mod.modRun_part (g : VideoTarget) (first : Nat) (f : Run → Run) (h : p ∉ [.chans]) :
    (m.modRun g first f).part p = m.part p := by
  simp_all [Mod.modRun]

@[simp] theorem Mod.pathHeard_part (g : VideoTarget) (path : Path) (h : p ∉ [.objs, .raised, .conds, .chans]) :
    (m.pathHeard g path).part p = m.part p := by
  unfold Mod.pathHeard
  dsimp only
  split <;> simp_all

@[simp] theorem Mod.noteSkew_part (g : VideoTarget) (s : Seen) (path : Path) (h : p ∉ [.objs, .seen]) :
    (m.noteSkew g s path).part p = m.part p := by
  unfold Mod.noteSkew
  split <;> simp_all

@[simp] theorem Mod.noteCopy_part (g : VideoTarget) (window : Nanos) (s : Seen) (path : Path) (h : p ∉ [.objs, .seen]) :
    (m.noteCopy g window s path).part p = m.part p := by
  simp_all [Mod.noteCopy]

@[simp] theorem Mod.placeSrds_part (g : VideoTarget) (path : Path) (frame : Nat) (p : VideoPkt) (h : pt ∉ [.objs, .raised, .conds, .chans]) :
    (m.placeSrds g path frame p).part pt = m.part pt := by
  unfold Mod.placeSrds
  split <;> simp_all

@[simp] theorem Mod.notePacket_part (g : VideoTarget) (bad : Bool) (h : p ∉ [.chans]) :
    (m.notePacket g bad).part p = m.part p := by
  simp_all [Mod.notePacket]

@[simp] theorem Mod.takeVideo_part (g : VideoTarget) (path : Path) (p : VideoPkt) (h : pt ∉ [.objs, .raised, .conds, .seen, .chans]) :
    (m.takeVideo g path p).part pt = m.part pt := by
  simp at h
  unfold Mod.takeVideo
  dsimp only
  repeat' split
  all_goals simp [h]

@[simp] theorem Mod.pathTimeout_part (g : VideoTarget) (path : Path) (h : p ∉ [.objs, .raised, .conds]) :
    (m.pathTimeout g path).part p = m.part p := by
  simp at h
  unfold Mod.pathTimeout
  dsimp only
  repeat' split
  all_goals simp [h]

@[simp] theorem Mod.modAudio_part (n flow : Nat) (f : AudioIn → AudioIn) (h : p ∉ [.chans]) :
    (m.modAudio n flow f).part p = m.part p := by
  simp_all [Mod.modAudio]

@[simp] theorem Mod.takeAudio_part (n flow : Nat) (path : Path) (p : AudioPkt) (h : pt ∉ [.objs, .seen, .chans]) :
    (m.takeAudio n flow path p).part pt = m.part pt := by
  simp at h
  unfold Mod.takeAudio
  dsimp only
  repeat' split
  all_goals simp [h]

@[simp] theorem Mod.audioLoss_part (n flow : Nat) (h : p ∉ [.objs, .raised, .conds, .chans]) :
    (m.audioLoss n flow).part p = m.part p := by
  simp_all [Mod.audioLoss]

@[simp] theorem Mod.audioRestore_part (n flow : Nat) (h : p ∉ [.objs, .raised, .conds, .chans]) :
    (m.audioRestore n flow).part p = m.part p := by
  unfold Mod.audioRestore
  dsimp only
  split <;> simp_all

@[simp] theorem Mod.modAnc_part (n flow : Nat) (f : AncIn → AncIn) (h : p ∉ [.chans]) :
    (m.modAnc n flow f).part p = m.part p := by
  simp_all [Mod.modAnc]

@[simp] theorem Mod.placeAnc_part (n f : Nat) (gr : Grid) (items : List AncItem) (h : p ∉ [.objs, .chans]) :
    (m.placeAnc n f gr items).part p = m.part p := by
  simp_all [Mod.placeAnc]

@[simp] theorem Mod.takeAnc_part (n flow : Nat) (path : Path) (p : AncPkt) (h : pt ∉ [.objs, .raised, .conds, .seen, .chans]) :
    (m.takeAnc n flow path p).part pt = m.part pt := by
  simp at h
  unfold Mod.takeAnc
  dsimp only
  repeat' split
  all_goals simp [h]

@[simp] theorem Mod.ancLoss_part (n flow : Nat) (h : p ∉ [.objs, .raised, .conds, .chans]) :
    (m.ancLoss n flow).part p = m.part p := by
  simp_all [Mod.ancLoss]

@[simp] theorem Mod.showScalers_part (h : p ∉ [.objs]) :
    (m.showScalers).part p = m.part p := by
  exact m.foldl_part _ _ fun m u => by simp_all

@[simp] theorem Mod.abandonCommit_part (n : Nat) (h : p ∉ [.objs, .raised, .chans]) :
    (m.abandonCommit n).part p = m.part p := by
  simp_all [Mod.abandonCommit]

@[simp] theorem Mod.modPic_part (r frame : Nat) (f : PicS → PicS) (h : p ∉ [.rends]) :
    (m.modPic r frame f).part p = m.part p := by
  simp_all [Mod.modPic]

@[simp] theorem Mod.showPipelines_part (h : p ∉ [.objs]) :
    (m.showPipelines).part p = m.part p := by
  simp at h
  unfold Mod.showPipelines
  dsimp only
  rw [Mod.put_part _ _ _ _ (by simp [h])]
  refine m.foldl_part _ _ fun m k => (Mod.foldl_part _ _ _ fun m l => by simp [h]).trans (by simp [h])

@[simp] theorem Mod.keepModel_part (r : Nat) (h : p ∉ [.rends]) :
    (m.keepModel r).part p = m.part p := by
  unfold Mod.keepModel
  split <;> simp_all

@[simp] theorem Mod.dropModel_part (r : Nat) (h : p ∉ [.rends]) :
    (m.dropModel r).part p = m.part p := by
  simp_all [Mod.dropModel]

@[simp] theorem Mod.showSlots_part (h : p ∉ [.objs]) :
    (m.showSlots).part p = m.part p := by
  simp_all [Mod.showSlots]

@[simp] theorem Mod.freePipe_part (n : Nat) (h : p ∉ [.objs]) :
    (m.freePipe n).part p = m.part p := by
  simp_all [Mod.freePipe]

@[simp] theorem Mod.releaseRendition_part (r : Nat) (h : p ∉ [.objs, .rends, .lanes]) :
    (m.releaseRendition r).part p = m.part p := by
  simp_all [Mod.releaseRendition]

@[simp] theorem Mod.serveNext_part (pipe lane : Nat) (h : p ∉ [.serving]) :
    (m.serveNext pipe lane).part p = m.part p := by
  unfold Mod.serveNext
  split <;> simp_all

@[simp] theorem Mod.countIntraLost_part (r T k : Nat) (h : p ∉ [.objs, .raised, .limits]) :
    (m.countIntraLost r T k).part p = m.part p := by
  simp_all [Mod.countIntraLost]

@[simp] theorem Mod.referenceError_part (r frame ctus : Nat) (h : p ∉ [.objs, .raised, .rends]) :
    (m.referenceError r frame ctus).part p = m.part p := by
  simp_all [Mod.referenceError]

@[simp] theorem Mod.countLateCtus_part (r : Nat) (c : Coding) (pipe n lost : Nat) (h : p ∉ [.objs, .raised, .limits]) :
    (m.countLateCtus r c pipe n lost).part p = m.part p := by
  simp_all [Mod.countLateCtus]

@[simp] theorem Mod.takeCtu_part (r : Nat) (c : Coding) (x : SliceS) (h : p ∉ [.objs, .raised, .limits, .rends]) :
    (m.takeCtu r c x).part p = m.part p := by
  simp_all [Mod.takeCtu]

@[simp] theorem Mod.ctuComplete_part (pipe lane r tile : Nat) (h : p ∉ [.objs, .raised, .limits, .rends, .serving]) :
    (m.ctuComplete pipe lane r tile).part p = m.part p := by
  simp at h
  unfold Mod.ctuComplete
  split
  · rfl
  · split
    · rfl
    · split <;> simp [h]

@[simp] theorem Mod.cutSlice_part (r : Nat) (c : Coding) (x : SliceS) (h : p ∉ [.draws, .objs, .raised, .limits, .rends]) :
    (m.cutSlice r c x).part p = m.part p := by
  simp_all [Mod.cutSlice]

@[simp] theorem Mod.cutTasks_part (l : List LaneTask) (h : p ∉ [.draws, .objs, .raised, .limits, .rends]) :
    (m.cutTasks l).part p = m.part p := by
  simp at h
  refine m.each_part _ _ fun m k => ?_
  split <;> simp [h]

@[simp] theorem Mod.lateCutoff_part (pipe lane : Nat) (h : p ∉ [.draws, .objs, .raised, .limits, .rends, .serving]) :
    (m.lateCutoff pipe lane).part p = m.part p := by
  simp_all [Mod.lateCutoff]

@[simp] theorem Mod.settleNext_part (r : Nat) (p : PicS) (h : pt ∉ [.objs, .rends]) :
    (m.settleNext r p).part pt = m.part pt := by
  unfold Mod.settleNext
  dsimp only
  split <;> simp_all

@[simp] theorem Mod.snoopDatagram_part (point r : Nat) (d : Datagram) (gone : Nat → Bool) (h : p ∉ [.objs, .raised, .limits, .checks]) :
    (m.snoopDatagram point r d gone).part p = m.part p := by
  simp_all [Mod.snoopDatagram]

@[simp] theorem Mod.takeWire_part (port len : Nat) (h : p ∉ [.fab]) :
    (m.takeWire port len).part p = m.part p := by
  simp_all [Mod.takeWire]

@[simp] theorem Mod.strictFull_part (port q : Nat) (h : p ∉ [.objs, .raised, .limits]) :
    (m.strictFull port q).part p = m.part p := by
  simp_all [Mod.strictFull]

@[simp] theorem Mod.launchPath_part (r : Nat) (d : Datagram) (pa : PathAddr) (b : Nat) (h : p ∉ [.objs, .out, .raised, .limits, .seen, .fab]) :
    (m.launchPath r d pa b).part p = m.part p := by
  simp_all [Mod.launchPath]

@[simp] theorem Mod.launchDatagram_part (r : Nat) (d : Datagram) (h : p ∉ [.objs, .out, .raised, .limits, .seen, .rends, .fab]) :
    (m.launchDatagram r d).part p = m.part p := by
  simp at h
  unfold Mod.launchDatagram
  repeat' split
  all_goals simp [h]

@[simp] theorem Mod.launchOne_part (r : Nat) (d : Datagram) (h : p ∉ [.objs, .out, .raised, .limits, .seen, .rends, .checks, .fab]) :
    (m.launchOne r d).part p = m.part p := by
  simp at h
  refine (Mod.snoopDatagram_part _ _ _ _ _ (by simp [h])).trans (Mod.ite_part ?_ (Mod.ite_part ?_ ?_)) <;> simp [h]

@[simp] theorem Mod.launchHead_part (r : Nat) (h : p ∉ [.objs, .out, .raised, .limits, .seen, .rends, .checks, .fab]) :
    (m.launchHead r).part p = m.part p := by
  unfold Mod.launchHead
  split <;> simp_all

@[simp] theorem Mod.launchLate_part (r : Nat) (h : p ∉ [.objs, .out, .raised, .limits, .seen, .rends, .checks, .fab]) :
    (m.launchLate r).part p = m.part p := by
  unfold Mod.launchLate
  split <;> simp_all

@[simp] theorem Mod.queueDatagram_part (r : Nat) (h : p ∉ [.objs, .out, .raised, .limits, .seen, .rends, .checks, .fab]) :
    (m.queueDatagram r).part p = m.part p := by
  unfold Mod.queueDatagram
  split <;> simp_all

@[simp] theorem Mod.generateSdp_part (r : Nat) (h : p ∉ [.objs, .raised]) :
    (m.generateSdp r).part p = m.part p := by
  simp_all [Mod.generateSdp]

@[simp] theorem Mod.adoptSdp_part (r version : Nat) (h : p ∉ [.objs]) :
    (m.adoptSdp r version).part p = m.part p := by
  simp_all [Mod.adoptSdp]

@[simp] theorem Mod.refreshSdp_part (h : p ∉ [.objs, .raised]) :
    (m.refreshSdp).part p = m.part p := by
  simp_all [Mod.refreshSdp]

@[simp] theorem Mod.modDec_part (e : Nat) (f : DecodeS → DecodeS) (h : p ∉ [.decs]) :
    (m.modDec e f).part p = m.part p := by
  simp_all [Mod.modDec]

@[simp] theorem Mod.generateDecodeSdp_part (e : Nat) (h : p ∉ [.objs, .decs]) :
    (m.generateDecodeSdp e).part p = m.part p := by
  simp_all [Mod.generateDecodeSdp]

@[simp] theorem Mod.judgeSps_part (e : Nat) (vvc : Bool) (sps : Octets) (h : p ∉ [.objs, .raised, .conds, .decs]) :
    (m.judgeSps e vvc sps).part p = m.part p := by
  unfold Mod.judgeSps
  dsimp only
  split <;> simp_all

@[simp] theorem Mod.takeSps_part (e : Nat) (vvc : Bool) (sps : Octets) (h : p ∉ [.objs, .raised, .conds, .decs]) :
    (m.takeSps e vvc sps).part p = m.part p := by
  simp at h
  unfold Mod.takeSps
  split
  · simp [h]
  · split <;> simp [h]

@[simp] theorem Mod.countLate_part (e : Nat) (h : p ∉ [.objs, .raised, .limits]) :
    (m.countLate e).part p = m.part p := by
  simp_all [Mod.countLate]

@[simp] theorem Mod.conceal_part (e : Nat) (h : p ∉ [.objs, .raised, .conds, .decs]) :
    (m.conceal e).part p = m.part p := by
  simp_all [Mod.conceal]

@[simp] theorem Mod.closeAu_part (e : Nat) (h : p ∉ [.objs, .raised, .limits, .decs]) :
    (m.closeAu e).part p = m.part p := by
  simp at h
  unfold Mod.closeAu
  dsimp only
  split
  · split
    · simp [h]
    · rw [Mod.modDec_part _ _ _ (by simp [h]), Mod.when_part _ _ _ (by simp [h])]
      simp [h]
  · simp [h]

@[simp] theorem Mod.judgeNew_part (e : Nat) (h : p ∉ [.objs, .raised, .conds, .decs]) :
    (m.judgeNew e).part p = m.part p := by
  unfold Mod.judgeNew
  split <;> simp_all

@[simp] theorem Mod.takeVideoTs_part (e : Nat) (x : TsRead) (at_ : Nanos) (h : p ∉ [.objs, .raised, .conds, .limits, .decs]) :
    (m.takeVideoTs e x at_).part p = m.part p := by
  simp at h
  unfold Mod.takeVideoTs
  repeat' split
  all_goals simp [h]

@[simp] theorem Mod.takeSection_part (e : Nat) (s : Octets) (h : p ∉ [.objs, .raised, .limits, .decs]) :
    (m.takeSection e s).part p = m.part p := by
  simp at h
  unfold Mod.takeSection
  dsimp only
  repeat' split
  all_goals simp [h]

@[simp] theorem Mod.takeTs_part (e : Nat) (at_ : Nanos) (p : Octets) (h : pt ∉ [.objs, .raised, .conds, .limits, .decs]) :
    (m.takeTs e at_ p).part pt = m.part pt := by
  unfold Mod.takeTs
  split <;> simp_all

@[simp] theorem Mod.loseDecode_part (e k : Nat) (h : p ∉ [.objs, .decs]) :
    (m.loseDecode e k).part p = m.part p := by
  simp_all [Mod.loseDecode]

@[simp] theorem Mod.releaseDecode_part (m : Mod) (e fuel : Nat) (h : p ∉ [.objs, .raised, .conds, .limits, .decs]) : (m.releaseDecode e fuel).part p = m.part p := by
  simp at h
  induction fuel generalizing m with
  | zero => rfl
  | succ fuel ih =>
    unfold Mod.releaseDecode
    dsimp only
    split
    · simp [ih, h]
    · rfl

@[simp] theorem Mod.release_part (e : Nat) (h : p ∉ [.objs, .raised, .conds, .limits, .decs]) :
    (m.release e).part p = m.part p := by
  simp_all [Mod.release]

@[simp] theorem Mod.bufferDecode_part (e seq : Nat) (packets : List Octets) (h : p ∉ [.objs, .decs]) :
    (m.bufferDecode e seq packets).part p = m.part p := by
  simp_all [Mod.bufferDecode]

@[simp] theorem Mod.takeDecode_part (e : Nat) (path : Path) (dg : DecodeDg) (h : p ∉ [.objs, .raised, .conds, .limits, .decs]) :
    (m.takeDecode e path dg).part p = m.part p := by
  simp at h
  unfold Mod.takeDecode
  dsimp only
  repeat' split
  all_goals simp [h]

@[simp] theorem Mod.takeOwn_part (e : Nat) (d : Datagram) (h : p ∉ [.objs, .raised, .conds, .limits, .decs]) :
    (m.takeOwn e d).part p = m.part p := by
  simp_all [Mod.takeOwn]

@[simp] theorem Mod.feedEngines_part (source idx : Nat) (d : Datagram) (h : p ∉ [.objs, .raised, .conds, .limits, .decs]) :
    (m.feedEngines source idx d).part p = m.part p := by
  simp_all [Mod.feedEngines]

@[simp] theorem Mod.queueFed_part (r : Nat) (h : p ∉ [.objs, .out, .raised, .conds, .limits, .seen, .rends, .checks, .decs, .fab]) :
    (m.queueFed r).part p = m.part p := by
  unfold Mod.queueFed
  split <;> simp_all

@[simp] theorem Mod.decodeLoss_part (e : Nat) (h : p ∉ [.objs, .raised, .conds, .decs]) :
    (m.decodeLoss e).part p = m.part p := by
  simp_all [Mod.decodeLoss]

@[simp] theorem Mod.enqueuePicture_part (e : Nat) (p : DecPicture) (late : Bool) (h : pt ∉ [.objs, .decs]) :
    (m.enqueuePicture e p late).part pt = m.part pt := by
  simp at h
  unfold Mod.enqueuePicture
  dsimp only
  repeat' split
  all_goals simp [h]

@[simp] theorem Mod.beginPicture_part (e : Nat) (a : WaitingAu) (T : Nat) (h : p ∉ [.decs]) :
    (m.beginPicture e a T).part p = m.part p := by
  simp_all [Mod.beginPicture]

@[simp] theorem Mod.endPicture_part (e : Nat) (x : Decoding) (at_ : Nanos) (h : p ∉ [.objs, .raised, .conds, .limits, .decs]) :
    (m.endPicture e x at_).part p = m.part p := by
  simp at h
  unfold Mod.endPicture
  dsimp only
  rw [Mod.enqueuePicture_part _ _ _ _ (by simp [h])]
  split <;> split <;> (try split) <;> simp [h]

@[simp] theorem Mod.settleFrom_part (m : Mod) (e fuel : Nat) (h : p ∉ [.objs, .raised, .conds, .limits, .decs]) : (m.settleFrom e fuel).part p = m.part p := by
  simp at h
  induction fuel generalizing m with
  | zero => rfl
  | succ fuel ih =>
    unfold Mod.settleFrom
    split <;> simp [ih, h]

@[simp] theorem Mod.settleDecode_part (e : Nat) (h : p ∉ [.objs, .raised, .conds, .limits, .decs]) :
    (m.settleDecode e).part p = m.part p := by
  simp_all [Mod.settleDecode]

@[simp] theorem Mod.decodeStart_part (e : Nat) (h : p ∉ [.objs, .raised, .conds, .limits, .decs]) :
    (m.decodeStart e).part p = m.part p := by
  simp_all [Mod.decodeStart]

@[simp] theorem Mod.decodeEnd_part (e : Nat) (h : p ∉ [.objs, .raised, .conds, .limits, .decs]) :
    (m.decodeEnd e).part p = m.part p := by
  simp at h
  unfold Mod.decodeEnd
  split <;> simp [h]

@[simp] theorem Mod.schedulePicture_part (e T : Nat) (rows : List Row) (h : p ∉ [.decs]) :
    (m.schedulePicture e T rows).part p = m.part p := by
  simp_all [Mod.schedulePicture]

@[simp] theorem Mod.outputPicture_part (e T : Nat) (h : p ∉ [.decs]) :
    (m.outputPicture e T).part p = m.part p := by
  simp at h
  unfold Mod.outputPicture
  dsimp only
  repeat' split
  all_goals simp [h]

@[simp] theorem Mod.markLate_part (e T : Nat) (h : p ∉ [.objs, .raised, .limits, .decs]) :
    (m.markLate e T).part p = m.part p := by
  simp_all [Mod.markLate]

@[simp] theorem Mod.presentNew_part (e T : Nat) (p : DecPicture) (h : pt ∉ [.objs, .raised, .conds, .decs]) :
    (m.presentNew e T p).part pt = m.part pt := by
  simp_all [Mod.presentNew]

@[simp] theorem Mod.present_part (e : Nat) (h : p ∉ [.objs, .raised, .conds, .limits, .checks, .decs]) :
    (m.present e).part p = m.part p := by
  simp at h
  unfold Mod.present
  dsimp only
  repeat' split
  all_goals simp [h]

@[simp] theorem Mod.sendDecode_part (e : Nat) (h : p ∉ [.objs, .out, .decs]) :
    (m.sendDecode e).part p = m.part p := by
  unfold Mod.sendDecode
  split <;> simp_all

@[simp] theorem Mod.endDecode_part (e : Nat) (h : p ∉ [.objs, .raised, .conds, .decs]) :
    (m.endDecode e).part p = m.part p := by
  simp at h
  unfold Mod.endDecode
  dsimp only
  repeat' split
  all_goals simp [h]

@[simp] theorem Mod.modSlot_part (s : Nat) (f : SlotS → SlotS) (h : p ∉ [.slots]) :
    (m.modSlot s f).part p = m.part p := by
  simp_all [Mod.modSlot]

@[simp] theorem Mod.abortSlot_part (s why reason : Nat) (h : p ∉ [.objs, .raised]) :
    (m.abortSlot s why reason).part p = m.part p := by
  simp_all [Mod.abortSlot]

@[simp] theorem Mod.endReplay_part (h : p ∉ [.objs, .raised, .rings, .slots]) :
    (m.endReplay).part p = m.part p := by
  simp at h
  unfold Mod.endReplay
  dsimp only
  rw [Mod.put_part _ _ _ _ (by simp [h]), Mod.put_part _ _ _ _ (by simp [h]), Mod.clearRange_part _ _ _ _ _ (by simp [h]),
    Mod.part_with_rings _ (by simp [h])]
  exact m.foldl_part _ _ fun m s => by simp [h]

@[simp] theorem Mod.launchSlotPath_part (s : Nat) (d : Datagram) (pa : PathAddr) (path : Path) (h : p ∉ [.objs, .out, .raised, .limits, .fab]) :
    (m.launchSlotPath s d pa path).part p = m.part p := by
  simp_all [Mod.launchSlotPath]

@[simp] theorem Mod.launchSlot_part (s : Nat) (h : p ∉ [.objs, .out, .raised, .conds, .limits, .decs, .slots, .fab]) :
    (m.launchSlot s).part p = m.part p := by
  simp at h
  unfold Mod.launchSlot
  dsimp only
  repeat' split
  all_goals simp [h]

@[simp] theorem Mod.ringReadError_part (r s tick : Nat) (h : p ∉ [.draws, .objs, .raised, .slots]) :
    (m.ringReadError r s tick).part p = m.part p := by
  simp at h
  unfold Mod.ringReadError
  repeat' split
  all_goals simp [h]

@[simp] theorem Mod.report_part (e : Nat) (ports : Nat → Bool) (join : Bool) (h : p ∉ [.draws, .objs, .out]) :
    (m.report e ports join).part p = m.part p := by
  simp_all [Mod.report]

@[simp] theorem Mod.repeatReport_part (e : Nat) (h : p ∉ [.draws, .objs, .out, .fab]) :
    (m.repeatReport e).part p = m.part p := by
  unfold Mod.repeatReport
  split <;> simp_all

@[simp] theorem Mod.police_part (e len dscp : Nat) (h : p ∉ [.objs, .fab]) :
    ((m.police e len dscp).2).part p = m.part p := by
  unfold Mod.police
  dsimp only
  split <;> simp_all

@[simp] theorem Mod.modPortQ_part (n : Nat) (f : PortQ → PortQ) (h : p ∉ [.fab]) :
    (m.modPortQ n f).part p = m.part p := by
  simp_all [Mod.modPortQ]

@[simp] theorem Mod.launchFrom_part (src : LaunchSrc) (h : p ∉ [.objs, .out, .raised, .conds, .limits, .seen, .rends, .checks, .decs, .slots, .fab]) :
    (m.launchFrom src).part p = m.part p := by
  unfold Mod.launchFrom
  split <;> simp_all

@[simp] theorem Mod.launchTurn_part (m : Mod) (src : LaunchSrc) (fuel : Nat) (h : p ∉ [.objs, .out, .raised, .conds, .limits, .seen, .rends, .checks, .decs, .slots, .fab]) : (m.launchTurn src fuel).part p = m.part p := by
  simp at h
  induction fuel generalizing m with
  | zero => simp [Mod.launchTurn, h]
  | succ fuel ih =>
    unfold Mod.launchTurn
    split <;> simp [ih, h]

@[simp] theorem Mod.sendFrame_part (n q : Nat) (f : QFrame) (h : p ∉ [.objs, .out, .fab]) :
    (m.sendFrame n q f).part p = m.part p := by
  simp_all [Mod.sendFrame]

@[simp] theorem Mod.frameBoundary_part (n : Nat) (h : p ∉ [.objs, .out, .raised, .conds, .limits, .seen, .rends, .checks, .decs, .slots, .fab]) :
    (m.frameBoundary n).part p = m.part p := by
  simp at h
  unfold Mod.frameBoundary
  dsimp only
  split
  · rfl
  · split
    · simp [h]
    · rfl
    · split <;> simp [h]

@[simp] theorem Mod.discardAt_part (n q : Nat) (h : p ∉ [.objs]) :
    (m.discardAt n q).part p = m.part p := by
  simp_all [Mod.discardAt]

@[simp] theorem Mod.flushPort_part (n : Nat) (h : p ∉ [.objs, .fab]) :
    (m.flushPort n).part p = m.part p := by
  simp_all [Mod.flushPort]

@[simp] theorem Mod.copyLeg_part (ingress e serial : Nat) (x : EthFrame) (yellow bad : Bool) (n : Nat) (h : p ∉ [.objs, .out, .raised, .limits, .fab]) :
    (m.copyLeg ingress e serial x yellow bad n).part p = m.part p := by
  simp at h
  unfold Mod.copyLeg
  dsimp only
  refine Mod.ite_part (by simp [h]) (Mod.ite_part (by simp [h]) ?_)
  split
  · simp [h]
  · simp [h]
  · simp [h]
  · refine Mod.ite_part ?_ (Mod.ite_part rfl ?_)
    · refine Mod.ite_part ?_ ?_
      all_goals
        simp only [↓Mod.bump_part, ↓Mod.sendFrame_part, h, List.mem_cons, List.not_mem_nil, or_false, not_false_eq_true]
        split <;> simp [h]
    · rw [Mod.bump_part _ _ _ (by simp [h]), Mod.modPortQ_part _ _ _ (by simp [h])]

@[simp] theorem Mod.receiveFrame_part (port : Nat) (x : EthFrame) (h : p ∉ [.objs, .out, .raised, .limits, .fab]) :
    (m.receiveFrame port x).part p = m.part p := by
  simp at h
  unfold Mod.receiveFrame
  dsimp only
  refine Mod.ite_part rfl (Mod.ite_part (by simp [h]) (Mod.ite_part rfl (Mod.ite_part rfl ?_)))
  split
  · simp [h]
  · split
    · simp [h]
    · refine Mod.ite_part (by simp [h]) ?_
      rw [Mod.each_part _ _ _ fun m n => by simp [h], Mod.part_with_fab _ (by simp [h])]
      simp [h]

@[simp] theorem Mod.takeReport_part (port : Nat) (rep : MemReport) (h : p ∉ [.draws, .objs, .out, .raised, .fab]) :
    (m.takeReport port rep).part p = m.part p := by
  simp at h
  unfold Mod.takeReport
  dsimp only
  refine Mod.ite_part rfl ?_
  split
  · rfl
  · refine Mod.ite_part ?_ (Mod.ite_part ?_ ?_)
    · rw [Mod.put_part _ _ _ _ (by simp [h]), Mod.part_with_fab _ (by simp [h]), Mod.part_with_fab _ (by simp [h])]
    · rw [Mod.raise_part _ _ _ _ (by simp [h]), Mod.bump_part _ _ _ (by simp [h]), Mod.part_with_fab _ (by simp [h])]
    · rw [Mod.put_part _ _ _ _ (by simp [h]), Mod.when_part _ _ _ (by simp [h]), Mod.when_part _ _ _ (by simp [h]),
        Mod.part_with_fab _ (by simp [h]), Mod.part_with_fab _ (by simp [h])]

@[simp] theorem Mod.membershipTimeout_part (port group : Nat) (source : Option Nat) (h : p ∉ [.objs, .fab]) :
    (m.membershipTimeout port group source).part p = m.part p := by
  simp_all [Mod.membershipTimeout]

@[simp] theorem Mod.settleQuerier_part (port : Nat) (fam : Fam) (h : p ∉ [.objs, .raised, .fab]) :
    (m.settleQuerier port fam).part p = m.part p := by
  simp_all [Mod.settleQuerier]

@[simp] theorem Mod.answerQuery_part (port : Nat) (fam : Fam) (group : Nat) (sources : List Nat) (h : p ∉ [.draws, .objs, .out]) :
    (m.answerQuery port fam group sources).part p = m.part p := by
  simp_all [Mod.answerQuery]

@[simp] theorem Mod.hearQuery_part (port : Nat) (q : MemQuery) (h : p ∉ [.fab]) :
    (m.hearQuery port q).part p = m.part p := by
  simp_all [Mod.hearQuery]

@[simp] theorem Mod.takeQuery_part (port : Nat) (q : MemQuery) (h : p ∉ [.draws, .objs, .out, .raised, .fab]) :
    (m.takeQuery port q).part p = m.part p := by
  simp_all [Mod.takeQuery]

@[simp] theorem Mod.otherQuerierGone_part (port : Nat) (fam : Fam) (h : p ∉ [.objs, .raised, .fab]) :
    (m.otherQuerierGone port fam).part p = m.part p := by
  simp_all [Mod.otherQuerierGone]

@[simp] theorem Mod.generalQuery_part (h : p ∉ [.draws, .objs, .out, .fab]) :
    (m.generalQuery).part p = m.part p := by
  simp at h
  refine Mod.ite_part rfl ((Mod.each_part _ _ _ fun m x => ?_).trans (Mod.part_with_fab _ (by simp [h]) _))
  simp [h]

@[simp] theorem Mod.sampleQueues_part (h : p ∉ [.fab]) :
    (m.sampleQueues).part p = m.part p := by
  simp at h
  unfold Mod.sampleQueues
  dsimp only
  split
  · rfl
  · exact (Mod.each_part _ _ _ fun m x => Mod.each_part _ _ _ fun m q => by simp [h]).trans (Mod.part_with_fab _ h _)

@[simp] theorem Mod.endSampleWindow_part (h : p ∉ [.objs, .fab]) :
    (m.endSampleWindow).part p = m.part p := by
  simp_all [Mod.endSampleWindow]

@[simp] theorem Mod.modServo_part (f : ServoS → ServoS) (h : p ∉ [.servo]) :
    (m.modServo f).part p = m.part p := by
  simp_all [Mod.modServo]

@[simp] theorem Mod.setServo_part (st : Nat) (h : p ∉ [.objs, .raised, .servo]) :
    (m.setServo st).part p = m.part p := by
  simp_all [Mod.setServo]

@[simp] theorem Mod.retime_part (h : p ∉ [.objs, .raised, .preud]) :
    (m.retime).part p = m.part p := by
  simp at h
  exact (Mod.each_part _ _ _ fun m x => by simp [h]).trans (Mod.part_with_preud _ (by simp [h]) _)

@[simp] theorem Mod.showTick_part (h : p ∉ [.objs]) :
    (m.showTick).part p = m.part p := by
  simp_all [Mod.showTick]

@[simp] theorem Mod.shiftTime_part (delta : Int) (h : p ∉ [.now, .tick, .objs, .raised, .preud, .rends, .slots]) :
    (m.shiftTime delta).part p = m.part p := by
  simp at h
  unfold Mod.shiftTime
  dsimp only
  rw [Mod.showTick_part _ (by simp [h]), Mod.retime_part _ (by simp [h])]
  cases p with
  | now | tick | rends | slots | preud => simp at h
  | _ => rfl

@[simp] theorem Mod.dropCourses_part (h : p ∉ [.chans, .rends, .serving]) :
    (m.dropCourses).part p = m.part p := by
  cases p with
  | chans | rends | serving => simp at h
  | _ => rfl

@[simp] theorem Mod.stepTime_part (h : p ∉ [.now, .tick, .objs, .raised, .preud, .chans, .rends, .serving, .slots, .servo]) :
    (m.stepTime).part p = m.part p := by
  simp_all [Mod.stepTime]

@[simp] theorem Mod.stepToMaster_part (h : p ∉ [.now, .tick, .objs, .raised, .preud, .chans, .rends, .serving, .slots, .servo]) :
    (m.stepToMaster).part p = m.part p := by
  simp_all [Mod.stepToMaster]

@[simp] theorem Mod.slewOffset_part (h : p ∉ [.servo]) :
    (m.slewOffset).part p = m.part p := by
  simp_all [Mod.slewOffset]

@[simp] theorem Mod.masterReturn_part (h : p ∉ [.now, .tick, .objs, .raised, .preud, .chans, .rends, .serving, .slots, .servo]) :
    (m.masterReturn).part p = m.part p := by
  simp_all [Mod.masterReturn]

@[simp] theorem Mod.showMaster_part (x : Foreign) (h : p ∉ [.objs, .servo]) :
    (m.showMaster x).part p = m.part p := by
  simp_all [Mod.showMaster]

@[simp] theorem Mod.refreshDescriptions_part (h : p ∉ [.objs, .raised, .decs]) :
    (m.refreshDescriptions).part p = m.part p := by
  simp_all [Mod.refreshDescriptions]

@[simp] theorem Mod.loseMaster_part (h : p ∉ [.objs, .raised, .servo]) :
    (m.loseMaster).part p = m.part p := by
  simp_all [Mod.loseMaster]

@[simp] theorem Mod.selectMaster_part (h : p ∉ [.objs, .raised, .servo]) :
    (m.selectMaster).part p = m.part p := by
  unfold Mod.selectMaster
  split <;> simp_all

@[simp] theorem Mod.takeAnnounce_part (port : Nat) (x : PtpMsg) (gm : GmData) (utc : Int) (l61 l59 : Bool) (h : p ∉ [.objs, .raised, .servo]) :
    (m.takeAnnounce port x gm utc l61 l59).part p = m.part p := by
  simp_all [Mod.takeAnnounce]

@[simp] theorem Mod.takeSync_part (off filtered : Int) (h : p ∉ [.now, .tick, .objs, .raised, .preud, .chans, .rends, .serving, .slots, .servo]) :
    (m.takeSync off filtered).part p = m.part p := by
  simp_all [Mod.takeSync]

@[simp] theorem Mod.takePtp_part (port : Nat) (x : PtpMsg) (h : p ∉ [.now, .tick, .draws, .objs, .out, .raised, .preud, .chans, .rends, .serving, .decs, .slots, .servo]) :
    (m.takePtp port x).part p = m.part p := by
  simp at h
  unfold Mod.takePtp
  repeat' split
  all_goals simp [h]

@[simp] theorem Mod.servoLock_part (h : p ∉ [.objs, .raised, .decs, .servo]) :
    (m.servoLock).part p = m.part p := by
  unfold Mod.servoLock
  split <;> simp_all

@[simp] theorem Mod.announceTimeout_part (h : p ∉ [.objs, .raised, .decs, .servo]) :
    (m.announceTimeout).part p = m.part p := by
  unfold Mod.announceTimeout
  split <;> simp_all

@[simp] theorem Mod.holdoverEnd_part (h : p ∉ [.objs, .raised, .decs, .servo]) :
    (m.holdoverEnd).part p = m.part p := by
  simp_all [Mod.holdoverEnd]

@[simp] theorem Mod.masterSend_part (port : Nat) (announce : Bool) (h : p ∉ [.draws, .objs, .out, .servo]) :
    (m.masterSend port announce).part p = m.part p := by
  simp_all [Mod.masterSend]

@[simp] theorem Mod.delayReq_part (h : p ∉ [.draws, .objs, .out, .servo]) :
    (m.delayReq).part p = m.part p := by
  unfold Mod.delayReq
  dsimp only
  split <;> simp_all

@[simp] theorem Mod.ppsOut_part (h : p ∉ [.out]) :
    (m.ppsOut).part p = m.part p := by
  simp_all [Mod.ppsOut]

@[simp] theorem Mod.ppsIn_part (h : p ∉ [.objs, .servo]) :
    (m.ppsIn).part p = m.part p := by
  simp_all [Mod.ppsIn]

@[simp] theorem Mod.ppsLost_part (h : p ∉ [.objs, .raised, .servo]) :
    (m.ppsLost).part p = m.part p := by
  simp_all [Mod.ppsLost]

@[simp] theorem Mod.endMemory_part (h : p ∉ [.objs, .rings]) :
    (m.endMemory).part p = m.part p := by
  simp at h
  unfold Mod.endMemory
  dsimp only
  rw [Mod.put_part _ _ _ _ (by simp [h]), Mod.part_with_rings _ (by simp [h])]
  simp [h]

@[simp] theorem Mod.setOwed_part (c b k : Nat) (h : p ∉ [.mem]) :
    (m.setOwed c b k).part p = m.part p := by
  simp_all [Mod.setOwed]

@[simp] theorem Mod.noteDue_part (c b : Nat) (h : p ∉ [.mem]) :
    (m.noteDue c b).part p = m.part p := by
  simp_all [Mod.noteDue]

@[simp] theorem Mod.forceRefresh_part (c : Nat) (h : p ∉ [.objs, .raised, .limits, .mem]) :
    (m.forceRefresh c).part p = m.part p := by
  simp at h
  unfold Mod.forceRefresh
  dsimp only
  rw [Mod.part_with_mem _ (by simp [h])]
  simp [h]

@[simp] theorem Mod.refreshDue_part (c b : Nat) (urgent : Bool) (h : p ∉ [.objs, .raised, .limits, .mem]) :
    (m.refreshDue c b urgent).part p = m.part p := by
  simp_all [Mod.refreshDue]

@[simp] theorem Mod.refreshForced_part (c b : Nat) (h : p ∉ [.objs, .raised, .limits, .mem]) :
    (m.refreshForced c b).part p = m.part p := by
  simp_all [Mod.refreshForced]

@[simp] theorem Mod.dimmTemperature_part (c : Nat) (temp : Int) (h : p ∉ [.objs, .raised, .conds, .limits]) :
    (m.dimmTemperature c temp).part p = m.part p := by
  simp_all [Mod.dimmTemperature]

@[simp] theorem Mod.correctable_part (c sub rank dev : Nat) (h : p ∉ [.objs, .raised, .mem]) :
    (m.correctable c sub rank dev).part p = m.part p := by
  simp at h
  unfold Mod.correctable
  dsimp only
  have hm (x : MemoryS) : ({m.bump (0x2140 + c) 4 with mem := x} : Mod).part p = m.part p := by
    rw [Mod.part_with_mem _ (by simp [h]), Mod.bump_part _ _ _ (by simp [h])]
  exact Mod.ite_part rfl (Mod.ite_part ((Mod.raise_part _ _ _ _ (by simp [h])).trans (hm _)) (hm _))

@[simp] theorem Mod.uncorrectable_part (c port : Nat) (what : DramReader) (h : p ∉ [.draws, .objs, .raised, .limits]) :
    (m.uncorrectable c port what).part p = m.part p := by
  simp_all [Mod.uncorrectable]

@[simp] theorem Mod.burnPicture_part (n : Nat) (h : p ∉ [.draws, .chans]) :
    (m.burnPicture n).part p = m.part p := by
  simp_all [Mod.burnPicture]

@[simp] theorem Mod.burnLayer_part (n l : Nat) (h : p ∉ [.draws, .chans]) :
    (m.burnLayer n l).part p = m.part p := by
  simp_all [Mod.burnLayer]

@[simp] theorem Mod.burnRung_part (r column line : Nat) (h : p ∉ [.rends]) :
    (m.burnRung r column line).part p = m.part p := by
  simp_all [Mod.burnRung]

@[simp] theorem Mod.burnReference_part (r index block : Nat) (h : p ∉ [.rends]) :
    (m.burnReference r index block).part p = m.part p := by
  unfold Mod.burnReference
  dsimp only
  split <;> simp_all

@[simp] theorem Mod.loseDatagram_part (r : Nat) (h : p ∉ [.rends]) :
    (m.loseDatagram r).part p = m.part p := by
  simp_all [Mod.loseDatagram]

@[simp] theorem Mod.burnDecode_part (e : Nat) (h : p ∉ [.decs]) :
    (m.burnDecode e).part p = m.part p := by
  simp_all [Mod.burnDecode]

@[simp] theorem Mod.scrubPass_part (c : Nat) (h : p ∉ [.objs]) :
    (m.scrubPass c).part p = m.part p := by
  simp_all [Mod.scrubPass]

@[simp] theorem Mod.modTwin_part (f : TwinS → TwinS) (h : p ∉ [.twin]) :
    (m.modTwin f).part p = m.part p := by
  simp_all [Mod.modTwin]

@[simp] theorem Mod.modMortar_part (f : MortarS → MortarS) (h : p ∉ [.twin]) :
    (m.modMortar f).part p = m.part p := by
  simp_all [Mod.modMortar]

@[simp] theorem Mod.flushMortar_part (h : p ∉ [.out, .twin]) :
    (m.flushMortar).part p = m.part p := by
  simp_all [Mod.flushMortar]

@[simp] theorem Mod.mortarSend_part (vc n : Nat) (frame : Nat → Output) (h : p ∉ [.out, .twin]) :
    (m.mortarSend vc n frame).part p = m.part p := by
  simp_all [Mod.mortarSend]

@[simp] theorem Mod.takeCredits_part (credits : List Nat) (h : p ∉ [.out, .twin]) :
    (m.takeCredits credits).part p = m.part p := by
  simp_all [Mod.takeCredits]

@[simp] theorem Mod.heardMortar_part (h : MortarHdr) (hp : p ∉ [.out, .twin]) :
    (m.heardMortar h).part p = m.part p := by
  simp_all [Mod.heardMortar]

@[simp] theorem Mod.mortarDown_part (h : p ∉ [.objs, .raised, .conds, .twin]) :
    (m.mortarDown).part p = m.part p := by
  simp_all [Mod.mortarDown]

theorem Mod.sequenced_part (m : Mod) (h : MortarHdr) (vc : Nat) (take : Mod → Mod) (hp : p ∉ [.out, .twin])
    (ht : ∀ m : Mod, (take m).part p = m.part p) : (m.sequenced h vc take).part p = m.part p := by
  simp at hp
  simp [Mod.sequenced, ht, hp]

@[simp] theorem Mod.takeIdle_part (h : MortarHdr) (hp : p ∉ [.out, .twin]) :
    (m.takeIdle h).part p = m.part p := by
  simp_all [Mod.takeIdle]

@[simp] theorem Mod.sendIdle_part (h : p ∉ [.out, .twin]) :
    (m.sendIdle).part p = m.part p := by
  simp_all [Mod.sendIdle]

@[simp] theorem Mod.takeNak_part (h : MortarHdr) (vc expected : Nat) (hp : p ∉ [.objs, .out, .raised, .conds, .twin]) :
    (m.takeNak h vc expected).part p = m.part p := by
  simp_all [Mod.takeNak]

@[simp] theorem Mod.linkSilent_part (h : p ∉ [.objs, .raised, .conds, .twin]) :
    (m.linkSilent).part p = m.part p := by
  simp_all [Mod.linkSilent]

@[simp] theorem Mod.linkLost_part (h : p ∉ [.objs, .raised, .conds, .twin]) :
    (m.linkLost).part p = m.part p := by
  simp_all [Mod.linkLost]

@[simp] theorem Mod.sendHello_part (h : p ∉ [.out, .twin]) :
    (m.sendHello).part p = m.part p := by
  simp_all [Mod.sendHello]

@[simp] theorem Mod.helloTimer_part (h : p ∉ [.objs, .out, .twin]) :
    (m.helloTimer).part p = m.part p := by
  simp_all [Mod.helloTimer]

@[simp] theorem Mod.sendStatus_part (h : p ∉ [.out, .twin]) :
    (m.sendStatus).part p = m.part p := by
  simp_all [Mod.sendStatus]

@[simp] theorem Mod.sendPlacement_part (h : p ∉ [.out, .twin]) :
    (m.sendPlacement).part p = m.part p := by
  simp_all [Mod.sendPlacement]

@[simp] theorem Mod.takePlacement_part (h : MortarHdr) (p : PlacementBody) (hp : pt ∉ [.out, .twin]) :
    (m.takePlacement h p).part pt = m.part pt := by
  simp at hp
  exact m.sequenced_part _ _ _ (by simp [hp]) fun m => by simp [hp]

@[simp] theorem Mod.komundFrames_part (h : p ∉ [.draws, .objs]) :
    (m.komundFrames).part p = m.part p := by
  simp_all [Mod.komundFrames]

@[simp] theorem Mod.askWitnesses_part (epoch kind subject flags : Nat) (h : p ∉ [.draws, .objs, .out, .twin]) :
    (m.askWitnesses epoch kind subject flags).part p = m.part p := by
  simp_all [Mod.askWitnesses]

@[simp] theorem Mod.discardKomund_part (h : p ∉ [.objs, .raised, .limits]) :
    (m.discardKomund).part p = m.part p := by
  simp_all [Mod.discardKomund]

theorem Mod.fromWitness_part (m : Mod) (w kind : Nat) (x : KMsg) (take : Mod → Mod) (hp : p ∉ [.objs, .raised, .limits, .twin])
    (ht : ∀ m : Mod, (take m).part p = m.part p) : (m.fromWitness w kind x take).part p = m.part p := by
  simp at hp
  simp [Mod.fromWitness, ht, hp]

@[simp] theorem Mod.probe_part (epoch : Nat) (h : p ∉ [.draws, .objs, .out, .twin]) :
    (m.probe epoch).part p = m.part p := by
  simp_all [Mod.probe]

@[simp] theorem Mod.takeProbeAck_part (w : Nat) (x : KMsg) (h : p ∉ [.objs, .raised, .conds, .limits, .twin]) :
    (m.takeProbeAck w x).part p = m.part p := by
  simp at h
  exact m.fromWitness_part _ _ _ _ (by simp [h]) fun m => by simp [h]

@[simp] theorem Mod.witnessLost_part (w : Nat) (h : p ∉ [.objs, .raised, .conds]) :
    (m.witnessLost w).part p = m.part p := by
  simp_all [Mod.witnessLost]

@[simp] theorem Mod.setRole_part (r : Role) (h : p ∉ [.objs, .raised]) :
    (m.setRole r).part p = m.part p := by
  simp_all [Mod.setRole]

@[simp] theorem Mod.fence_part (reason : Nat) (until_ : Option Nanos) (h : p ∉ [.objs, .raised, .twin]) :
    (m.fence reason until_).part p = m.part p := by
  unfold Mod.fence
  dsimp only
  split <;> simp_all

@[simp] theorem Mod.setSync_part (x : RendSync) (h : p ∉ [.twin]) :
    (m.setSync x).part p = m.part p := by
  simp_all [Mod.setSync]

@[simp] theorem Mod.markUnsynced_part (r : Nat) (on : Bool) (h : p ∉ [.objs]) :
    (m.markUnsynced r on).part p = m.part p := by
  simp_all [Mod.markUnsynced]

@[simp] theorem Mod.tryStandby_part (h : p ∉ [.objs, .raised, .conds]) :
    (m.tryStandby).part p = m.part p := by
  simp_all [Mod.tryStandby]

@[simp] theorem Mod.judgePartner_part (p : StatusBody) (h : pt ∉ [.objs, .raised, .conds, .twin]) :
    (m.judgePartner p).part pt = m.part pt := by
  simp_all [Mod.judgePartner]

@[simp] theorem Mod.notePartnerUnsynced_part (p : StatusBody) (h : pt ∉ [.twin]) :
    (m.notePartnerUnsynced p).part pt = m.part pt := by
  simp_all [Mod.notePartnerUnsynced]

@[simp] theorem Mod.takeStatus_part (h : MortarHdr) (p : StatusBody) (hp : pt ∉ [.objs, .out, .raised, .conds, .twin]) :
    (m.takeStatus h p).part pt = m.part pt := by
  simp at hp
  exact m.sequenced_part _ _ _ (by simp [hp]) fun m => by simp [hp]

@[simp] theorem Mod.takeHello_part (h : MortarHdr) (b : HelloBody) (hp : p ∉ [.objs, .out, .raised, .conds, .twin]) :
    (m.takeHello h b).part p = m.part p := by
  simp_all [Mod.takeHello]

@[simp] theorem Mod.snoopRecord_part (x : CourseRecord) (h : p ∉ [.objs, .raised, .limits, .checks]) :
    (m.snoopRecord x).part p = m.part p := by
  simp_all [Mod.snoopRecord]

@[simp] theorem Mod.sendBand_part (r : Nat) (x : CourseRecord) (h : p ∉ [.objs, .out, .twin]) :
    (m.sendBand r x).part p = m.part p := by
  unfold Mod.sendBand
  split <;> simp_all

@[simp] theorem Mod.closeRecord_part (r : Nat) (h : p ∉ [.objs, .out, .raised, .limits, .rends, .checks, .twin]) :
    (m.closeRecord r).part p = m.part p := by
  unfold Mod.closeRecord
  split <;> simp_all

@[simp] theorem Mod.mismatch_part (x : CourseRecord) (diff : Nat) (h : p ∉ [.objs, .raised, .conds, .twin]) :
    (m.mismatch x diff).part p = m.part p := by
  simp_all [Mod.mismatch]

@[simp] theorem Mod.matched_part (x : CourseRecord) (h : p ∉ [.objs, .twin]) :
    (m.matched x).part p = m.part p := by
  simp_all [Mod.matched]

@[simp] theorem Mod.adopt_part (x : CourseRecord) (own : Option CourseRecord) (h : p ∉ [.objs, .rends, .groups]) :
    (m.adopt x own).part p = m.part p := by
  simp at h
  unfold Mod.adopt
  dsimp only
  split
  · rfl
  · split
    · rfl
    · simp only [↓Mod.adoptSdp_part, ↓Mod.put_part, ↓Mod.part_ite, ↓Mod.modGroup_part, ↓Mod.settleNext_part, ↓Mod.modRend_part, h,
        List.mem_cons, List.not_mem_nil, or_false, not_false_eq_true, ite_self]

@[simp] theorem Mod.takeRecord_part (x : CourseRecord) (h : p ∉ [.objs, .raised, .conds, .limits, .rends, .groups, .checks, .twin]) :
    (m.takeRecord x).part p = m.part p := by
  simp at h
  unfold Mod.takeRecord
  dsimp only
  repeat' split
  all_goals simp [h]

@[simp] theorem Mod.takeRecords_part (h : MortarHdr) (l : List CourseRecord) (hp : p ∉ [.objs, .out, .raised, .conds, .limits, .rends, .groups, .checks, .twin]) :
    (m.takeRecords h l).part p = m.part p := by
  simp at hp
  exact m.sequenced_part _ _ _ (by simp [hp]) fun m => by simp [hp]

@[simp] theorem Mod.recordMissing_part (r tick : Nat) (h : p ∉ [.objs, .twin]) :
    (m.recordMissing r tick).part p = m.part p := by
  simp_all [Mod.recordMissing]

@[simp] theorem Mod.holdExpired_part (h : p ∉ [.objs, .raised, .conds]) :
    (m.holdExpired).part p = m.part p := by
  unfold Mod.holdExpired
  split <;> simp_all

@[simp] theorem Mod.takeRepair_part (h : MortarHdr) (b : RepairBody) (hp : p ∉ [.objs, .out, .raised, .rends, .twin]) :
    (m.takeRepair h b).part p = m.part p := by
  simp at hp
  refine m.sequenced_part _ _ _ (by simp [hp]) fun m => ?_
  dsimp only
  split
  · rfl
  · split <;> simp [hp]

@[simp] theorem Mod.takeCountersignRequest_part (h : MortarHdr) (term req : Nat) (hp : p ∉ [.out, .twin]) :
    (m.takeCountersignRequest h term req).part p = m.part p := by
  simp at hp
  exact m.sequenced_part _ _ _ (by simp [hp]) fun m => by simp [hp]

@[simp] theorem Mod.takeCountersign_part (h : MortarHdr) (term req : Nat) (hp : p ∉ [.objs, .out, .raised, .twin]) :
    (m.takeCountersign h term req).part p = m.part p := by
  simp at hp
  refine m.sequenced_part _ _ _ (by simp [hp]) fun m => ?_
  split <;> simp [hp]

@[simp] theorem Mod.askPartner_part (epoch : Nat) (h : p ∉ [.out, .twin]) :
    (m.askPartner epoch).part p = m.part p := by
  simp_all [Mod.askPartner]

@[simp] theorem Mod.renewLease_part (epoch : Nat) (h : p ∉ [.draws, .objs, .out, .twin]) :
    (m.renewLease epoch).part p = m.part p := by
  simp_all [Mod.renewLease]

@[simp] theorem Mod.acquireLease_part (epoch : Nat) (h : p ∉ [.draws, .objs, .out, .twin]) :
    (m.acquireLease epoch).part p = m.part p := by
  simp_all [Mod.acquireLease]

@[simp] theorem Mod.leaseFence_part (h : p ∉ [.objs, .raised, .twin]) :
    (m.leaseFence).part p = m.part p := by
  simp at h
  unfold Mod.leaseFence
  split
  · rfl
  · split <;> simp [h]

@[simp] theorem Mod.newSequences_part (from_ : Nat) (h : p ∉ [.objs, .raised, .rends]) :
    (m.newSequences from_).part p = m.part p := by
  simp_all [Mod.newSequences]

@[simp] theorem Mod.becomeActive_part (term : Nat) (starts : List (Nat × Nanos)) (h : p ∉ [.objs, .out, .raised, .seen, .rends, .twin]) :
    (m.becomeActive term starts).part p = m.part p := by
  unfold Mod.becomeActive
  dsimp only
  split <;> simp_all

@[simp] theorem Mod.takeGrant_part (w : Nat) (x : KMsg) (h : p ∉ [.objs, .out, .raised, .limits, .seen, .rends, .twin]) :
    (m.takeGrant w x).part p = m.part p := by
  simp at h
  refine m.fromWitness_part _ _ _ _ (by simp [h]) fun m => ?_
  split
  · rfl
  · dsimp only
    split
    · split <;> simp [h]
    · simp [h]

@[simp] theorem Mod.takeRefuse_part (w : Nat) (x : KMsg) (h : p ∉ [.objs, .raised, .limits, .twin]) :
    (m.takeRefuse w x).part p = m.part p := by
  simp at h
  exact m.fromWitness_part _ _ _ _ (by simp [h]) fun m => by simp [h]

@[simp] theorem Mod.beginHandover_part (B : Nat) (withRestart thermal : Bool) (h : p ∉ [.objs, .out, .twin]) :
    (m.beginHandover B withRestart thermal).part p = m.part p := by
  simp_all [Mod.beginHandover]

@[simp] theorem Mod.autoHandover_part (B : Nat) (thermal : Bool) (h : p ∉ [.objs, .out, .twin]) :
    ((m.autoHandover B thermal).1).part p = m.part p := by
  simp at h
  unfold Mod.autoHandover
  split
  · rfl
  · split
    · simp [h]
    · split <;> simp [h]

@[simp] theorem Mod.takeHandover_part (h : MortarHdr) (B : Nat) (withRestart : Bool) (hp : p ∉ [.out, .twin]) :
    (m.takeHandover h B withRestart).part p = m.part p := by
  simp at hp
  exact m.sequenced_part _ _ _ (by simp [hp]) fun m => by simp [hp]

@[simp] theorem Mod.handoverBoundary_part (epoch : Nat) (h : p ∉ [.draws, .objs, .out, .twin]) :
    (m.handoverBoundary epoch).part p = m.part p := by
  unfold Mod.handoverBoundary
  split <;> simp_all

@[simp] theorem Mod.takeAccept_part (epoch : Nat) (h : MortarHdr) (B : Nat) (hp : p ∉ [.draws, .objs, .out, .twin]) :
    (m.takeAccept epoch h B).part p = m.part p := by
  simp at hp
  exact m.sequenced_part _ _ _ (by simp [hp]) fun m => by simp [hp]

@[simp] theorem Mod.takeReleased_part (w : Nat) (x : KMsg) (h : p ∉ [.objs, .raised, .limits, .twin]) :
    (m.takeReleased w x).part p = m.part p := by
  simp at h
  exact m.fromWitness_part _ _ _ _ (by simp [h]) fun m => by simp [h]

@[simp] theorem Mod.stopRenditions_part (after : Nat) (h : p ∉ [.objs, .raised, .timeFn, .twinFn, .preud]) :
    (m.stopRenditions after).part p = m.part p := by
  simp_all [Mod.stopRenditions]

@[simp] theorem Mod.releasePoint_part (h : p ∉ [.objs, .raised, .timeFn, .twinFn, .preud, .twin]) :
    (m.releasePoint).part p = m.part p := by
  unfold Mod.releasePoint
  split <;> simp_all

@[simp] theorem Mod.portsDownHandover_part (h : p ∉ [.objs, .out, .twin]) :
    (m.portsDownHandover).part p = m.part p := by
  unfold Mod.portsDownHandover
  split <;> simp_all

@[simp] theorem Mod.settleRole_part (h : p ∉ [.objs, .raised]) :
    (m.settleRole).part p = m.part p := by
  simp_all [Mod.settleRole]

@[simp] theorem Mod.endTwin_part (epoch : Nat) (h : p ∉ [.draws, .objs, .out, .raised, .twinFn, .twin]) :
    (m.endTwin epoch).part p = m.part p := by
  simp at h
  unfold Mod.endTwin
  dsimp only
  rw [Mod.settleRole_part _ (by simp [h]), Mod.part_with_twinFn _ (by simp [h])]
  simp [h]

@[simp] theorem Mod.setWslot_part (x : WitnessSlot) (h : p ∉ [.twin]) :
    (m.setWslot x).part p = m.part p := by
  simp_all [Mod.setWslot]

@[simp] theorem Mod.reply_part (s kind subject req lease result : Nat) (h : p ∉ [.draws, .objs, .out]) :
    (m.reply s kind subject req lease result).part p = m.part p := by
  simp_all [Mod.reply]

@[simp] theorem Mod.grantPair_part (s fuse req : Nat) (from_ : Nanos) (h : p ∉ [.draws, .objs, .out, .twin]) :
    (m.grantPair s fuse req from_).part p = m.part p := by
  simp_all [Mod.grantPair]

theorem Mod.atWitness_part (m : Mod) (x : KMsg) (leased grants : Bool) (take : Mod → Nat → Mod)
    (hp : p ∉ [.draws, .objs, .out, .raised, .limits, .twin]) (ht : ∀ (m : Mod) (s : Nat), (take m s).part p = m.part p) :
    (m.atWitness x leased grants take).part p = m.part p := by
  simp at hp
  unfold Mod.atWitness
  dsimp only
  repeat' split
  all_goals simp [ht, hp]

@[simp] theorem Mod.witnessRenew_part (x : KMsg) (h : p ∉ [.draws, .objs, .out, .raised, .limits, .twin]) :
    (m.witnessRenew x).part p = m.part p := by
  simp at h
  refine m.atWitness_part _ _ _ _ (by simp [h]) fun m k => ?_
  dsimp only
  split
  · split <;> simp [h]
  · simp [h]

@[simp] theorem Mod.witnessAcquire_part (x : KMsg) (h : p ∉ [.draws, .objs, .out, .raised, .limits, .twin]) :
    (m.witnessAcquire x).part p = m.part p := by
  simp at h
  refine m.atWitness_part _ _ _ _ (by simp [h]) fun m k => ?_
  dsimp only
  repeat' split
  all_goals simp [h]

@[simp] theorem Mod.witnessDeadline_part (s : Nat) (h : p ∉ [.draws, .objs, .out, .twin]) :
    (m.witnessDeadline s).part p = m.part p := by
  unfold Mod.witnessDeadline
  dsimp only
  split <;> simp_all

@[simp] theorem Mod.witnessRelease_part (x : KMsg) (h : p ∉ [.draws, .objs, .out, .raised, .limits, .twin]) :
    (m.witnessRelease x).part p = m.part p := by
  simp at h
  refine m.atWitness_part _ _ _ _ (by simp [h]) fun m k => ?_
  dsimp only
  repeat' split
  all_goals simp [h]

@[simp] theorem Mod.witnessProbe_part (x : KMsg) (h : p ∉ [.draws, .objs, .out, .raised, .limits, .twin]) :
    (m.witnessProbe x).part p = m.part p := by
  simp at h
  exact m.atWitness_part _ _ _ _ (by simp [h]) fun m k => by simp [h]

@[simp] theorem Mod.komundDiscarded_part (x : KMsg) (h : p ∉ [.objs, .raised, .limits]) :
    (m.komundDiscarded x).part p = m.part p := by
  simp_all [Mod.komundDiscarded]

@[simp] theorem Mod.restartHoldEnd_part (h : p ∉ [.objs]) :
    (m.restartHoldEnd).part p = m.part p := by
  simp_all [Mod.restartHoldEnd]

@[simp] theorem Mod.modCal_part (f : CalS → CalS) (h : p ∉ [.cal]) :
    (m.modCal f).part p = m.part p := by
  simp_all [Mod.modCal]

@[simp] theorem Mod.trigger_part (d trig : Nat) (h : p ∉ [.objs, .cal]) :
    (m.trigger d trig).part p = m.part p := by
  simp_all [Mod.trigger]

@[simp] theorem Mod.sampleTemperatures_part (l : List DomTemp) (h : p ∉ [.objs, .cal]) :
    (m.sampleTemperatures l).part p = m.part p := by
  simp_all [Mod.sampleTemperatures]

@[simp] theorem Mod.startRun_part (d : Nat) (h : p ∉ [.objs, .cal]) :
    (m.startRun d).part p = m.part p := by
  unfold Mod.startRun
  split <;> simp_all

@[simp] theorem Mod.cancelSteps_part (lanes : List Nat) (h : p ∉ [.cal]) :
    (m.cancelSteps lanes).part p = m.part p := by
  simp_all [Mod.cancelSteps]

@[simp] theorem Mod.judgeFigure_part (key width height : Nat) (residual : Int) (h : p ∉ [.objs, .raised, .cal]) :
    (m.judgeFigure key width height residual).part p = m.part p := by
  simp_all [Mod.judgeFigure]

@[simp] theorem Mod.laneFigures_part (l : Nat) (h : p ∉ [.draws, .objs, .raised, .cal]) :
    (m.laneFigures l).part p = m.part p := by
  simp_all [Mod.laneFigures]

@[simp] theorem Mod.domainFigures_part (d : Nat) (x : CalResult) (h : p ∉ [.objs, .raised, .cal]) :
    (m.domainFigures d x).part p = m.part p := by
  simp_all [Mod.domainFigures]

@[simp] theorem Mod.failRun_part (x : CalRun) (temp : Int) (cause : Nat) (h : p ∉ [.objs, .raised, .cal]) :
    (m.failRun x temp cause).part p = m.part p := by
  simp_all [Mod.failRun]

@[simp] theorem Mod.passRun_part (x : CalRun) (res : CalResult) (h : p ∉ [.objs, .raised, .cal]) :
    (m.passRun x res).part p = m.part p := by
  simp_all [Mod.passRun]

@[simp] theorem Mod.endRun_part (d : Nat) (res : CalResult) (h : p ∉ [.objs, .raised, .cal]) :
    (m.endRun d res).part p = m.part p := by
  unfold Mod.endRun
  split <;> simp_all

@[simp] theorem Mod.requeueRuns_part (h : p ∉ [.objs, .cal]) :
    (m.requeueRuns).part p = m.part p := by
  simp_all [Mod.requeueRuns]

@[simp] theorem Mod.modBring_part (u : Nat) (f : BringS → BringS) (h : p ∉ [.prt]) :
    (m.modBring u f).part p = m.part p := by
  simp_all [Mod.modBring]

@[simp] theorem Mod.modCage_part (q : Nat) (f : CageS → CageS) (h : p ∉ [.prt]) :
    (m.modCage q f).part p = m.part p := by
  simp_all [Mod.modCage]

@[simp] theorem Mod.setStage_part (u stage : Nat) (h : p ∉ [.objs, .prt]) :
    (m.setStage u stage).part p = m.part p := by
  simp_all [Mod.setStage]

@[simp] theorem Mod.goDown_part (u : Nat) (h : p ∉ [.objs, .raised, .conds, .fab]) :
    (m.goDown u).part p = m.part p := by
  simp_all [Mod.goDown]

@[simp] theorem Mod.leave_part (u cause : Nat) (h : p ∉ [.objs, .raised, .conds, .fab]) :
    (m.leave u cause).part p = m.part p := by
  simp_all [Mod.leave]

@[simp] theorem Mod.toDetect_part (u : Nat) (h : p ∉ [.objs, .raised, .conds, .twin, .prt]) :
    (m.toDetect u).part p = m.part p := by
  unfold Mod.toDetect
  split <;> simp_all

@[simp] theorem Mod.drop_part (u cause : Nat) (h : p ∉ [.objs, .raised, .conds, .twin, .fab, .prt]) :
    (m.drop u cause).part p = m.part p := by
  simp_all [Mod.drop]

@[simp] theorem Mod.failStage_part (u : Nat) (h : p ∉ [.objs, .raised, .conds, .twin, .prt]) :
    (m.failStage u).part p = m.part p := by
  unfold Mod.failStage
  split <;> simp_all

@[simp] theorem Mod.laneFails_part (l : Nat) (h : p ∉ [.objs, .raised, .prt]) :
    (m.laneFails l).part p = m.part p := by
  simp_all [Mod.laneFails]

@[simp] theorem Mod.lanePasses_part (l : Nat) (h : p ∉ [.prt]) :
    (m.lanePasses l).part p = m.part p := by
  simp_all [Mod.lanePasses]

@[simp] theorem Mod.toTraining_part (u trig : Nat) (h : p ∉ [.objs, .prt, .cal]) :
    (m.toTraining u trig).part p = m.part p := by
  simp_all [Mod.toTraining]

@[simp] theorem Mod.toActive_part (u : Nat) (h : p ∉ [.objs, .raised, .conds, .prt]) :
    (m.toActive u).part p = m.part p := by
  simp at h
  unfold Mod.toActive
  dsimp only
  repeat' split
  all_goals simp [h]

@[simp] theorem Mod.disableLane_part (l fault : Nat) (h : p ∉ [.objs, .raised]) :
    (m.disableLane l fault).part p = m.part p := by
  simp_all [Mod.disableLane]

@[simp] theorem Mod.tryTrain_part (u : Nat) (h : p ∉ [.objs, .prt, .cal]) :
    (m.tryTrain u).part p = m.part p := by
  unfold Mod.tryTrain
  split <;> simp_all

@[simp] theorem Mod.detect_part (u : Nat) (seen : List DetectObs) (h : p ∉ [.objs, .raised, .prt, .cal]) :
    (m.detect u seen).part p = m.part p := by
  simp_all [Mod.detect]

@[simp] theorem Mod.negotiated_part (u : Nat) (x : AnOffer) (h : p ∉ [.objs, .prt, .cal]) :
    (m.negotiated u x).part p = m.part p := by
  simp at h
  unfold Mod.negotiated
  split
  · rfl
  · split
    · simp [h]
    · split <;> simp [h]

@[simp] theorem Mod.showFom_part (l v : Nat) (h : p ∉ [.objs]) :
    (m.showFom l v).part p = m.part p := by
  simp_all [Mod.showFom]

@[simp] theorem Mod.settleTaps_part (l : Nat) (h : p ∉ [.draws, .objs]) :
    (m.settleTaps l).part p = m.part p := by
  simp_all [Mod.settleTaps]

@[simp] theorem Mod.trained_part (u : Nat) (snrs : List Int) (h : p ∉ [.draws, .objs, .prt]) :
    (m.trained u snrs).part p = m.part p := by
  simp_all [Mod.trained]

@[simp] theorem Mod.locked_part (u : Nat) (obs : LockObs) (h : p ∉ [.draws, .objs, .raised, .conds, .twin, .prt, .cal]) :
    (m.locked u obs).part p = m.part p := by
  unfold Mod.locked
  split <;> simp_all

@[simp] theorem Mod.capable_part (u : Nat) (agreed : Bool) (h : p ∉ [.objs, .raised, .conds, .twin, .prt]) :
    (m.capable u agreed).part p = m.part p := by
  simp_all [Mod.capable]

@[simp] theorem Mod.relockFails_part (u : Nat) (h : p ∉ [.objs, .raised, .conds, .twin, .fab, .prt]) :
    (m.relockFails u).part p = m.part p := by
  simp_all [Mod.relockFails]

@[simp] theorem Mod.stageExpired_part (u : Nat) (bad : List Nat) (h : p ∉ [.objs, .raised, .conds, .twin, .fab, .prt]) :
    (m.stageExpired u bad).part p = m.part p := by
  simp_all [Mod.stageExpired]

@[simp] theorem Mod.lockLost_part (u bad lane : Nat) (h : p ∉ [.objs, .raised, .conds, .fab, .prt, .cal]) :
    (m.lockLost u bad lane).part p = m.part p := by
  simp_all [Mod.lockLost]

@[simp] theorem Mod.relocked_part (u : Nat) (ok : Bool) (lane : Nat) (h : p ∉ [.draws, .objs, .raised, .conds, .twin, .fab, .prt, .cal]) :
    (m.relocked u ok lane).part p = m.part p := by
  simp_all [Mod.relocked]

@[simp] theorem Mod.retrain_part (l : Nat) (snr : Int) (h : p ∉ [.objs, .raised, .conds, .fab, .prt, .cal]) :
    (m.retrain l snr).part p = m.part p := by
  simp_all [Mod.retrain]

@[simp] theorem Mod.fomLow_part (l : Nat) (snr : Int) (h : p ∉ [.objs, .raised, .limits]) :
    (m.fomLow l snr).part p = m.part p := by
  simp_all [Mod.fomLow]

@[simp] theorem Mod.freeLanes_part (q : Nat) (h : p ∉ [.objs]) :
    (m.freeLanes q).part p = m.part p := by
  simp_all [Mod.freeLanes]

@[simp] theorem Mod.dropCage_part (q cause : Nat) (h : p ∉ [.objs, .raised, .conds, .twin, .fab, .prt]) :
    (m.dropCage q cause).part p = m.part p := by
  simp_all [Mod.dropCage]

@[simp] theorem Mod.cageOff_part (q state : Nat) (h : p ∉ [.objs]) :
    (m.cageOff q state).part p = m.part p := by
  simp_all [Mod.cageOff]

@[simp] theorem Mod.refuseCage_part (q : Nat) (h : p ∉ [.objs, .raised]) :
    (m.refuseCage q).part p = m.part p := by
  simp_all [Mod.refuseCage]

@[simp] theorem Mod.judgeMedium_part (q : Nat) (h : p ∉ [.objs, .raised]) :
    (m.judgeMedium q).part p = m.part p := by
  simp_all [Mod.judgeMedium]

@[simp] theorem Mod.powerCage_part (q : Nat) (h : p ∉ [.objs, .raised, .prt]) :
    (m.powerCage q).part p = m.part p := by
  unfold Mod.powerCage
  split <;> simp_all

@[simp] theorem Mod.insertCage_part (q : Nat) (h : p ∉ [.objs, .raised, .prt]) :
    (m.insertCage q).part p = m.part p := by
  simp_all [Mod.insertCage]

@[simp] theorem Mod.stableCage_part (q : Nat) (x : CageModule) (h : p ∉ [.objs, .raised, .prt]) :
    (m.stableCage q x).part p = m.part p := by
  simp_all [Mod.stableCage]

@[simp] theorem Mod.readyCage_part (q : Nat) (h : p ∉ [.objs, .raised]) :
    (m.readyCage q).part p = m.part p := by
  simp_all [Mod.readyCage]

@[simp] theorem Mod.readyTimeout_part (q : Nat) (h : p ∉ [.objs, .raised]) :
    (m.readyTimeout q).part p = m.part p := by
  unfold Mod.readyTimeout
  split <;> simp_all

@[simp] theorem Mod.removeCage_part (q : Nat) (h : p ∉ [.objs, .raised, .conds, .twin, .fab, .prt]) :
    (m.removeCage q).part p = m.part p := by
  simp_all [Mod.removeCage]

@[simp] theorem Mod.tripCage_part (q : Nat) (h : p ∉ [.objs, .raised, .conds, .twin, .fab, .prt]) :
    (m.tripCage q).part p = m.part p := by
  simp_all [Mod.tripCage]

@[simp] theorem Mod.endPort_part (q : Nat) (h : p ∉ [.objs, .raised, .conds, .timeFn, .twinFn, .twin, .fab, .prt]) :
    (m.endPort q).part p = m.part p := by
  simp_all [Mod.endPort]

@[simp] theorem Mod.checkerLocks_part (l : Nat) (inverted : Bool) (errorFree : Nat) (h : p ∉ [.objs]) :
    (m.checkerLocks l inverted errorFree).part p = m.part p := by
  simp_all [Mod.checkerLocks]

@[simp] theorem Mod.backplaneLink_part (b : Nat) (up : Bool) (h : p ∉ [.objs, .raised, .conds, .twin, .fab, .prt]) :
    (m.backplaneLink b up).part p = m.part p := by
  simp_all [Mod.backplaneLink]

@[simp] theorem Mod.serviceTo_part (link : Nat) (h : p ∉ [.objs, .raised, .conds]) :
    (m.serviceTo link).part p = m.part p := by
  simp_all [Mod.serviceTo]

@[simp] theorem Mod.serviceLink_part (x : ServiceLink) (h : p ∉ [.objs, .raised, .conds]) :
    (m.serviceLink x).part p = m.part p := by
  simp_all [Mod.serviceLink]

@[simp] theorem Mod.dropUnclocked_part (h : p ∉ [.objs, .raised, .conds, .twin, .fab, .prt]) :
    (m.dropUnclocked).part p = m.part p := by
  simp_all [Mod.dropUnclocked]

@[simp] theorem Mod.modPreud_part (f : PreudS → PreudS) (h : p ∉ [.preud]) :
    (m.modPreud f).part p = m.part p := by
  simp_all [Mod.modPreud]

@[simp] theorem Mod.showTimed_part (h : p ∉ [.objs]) :
    (m.showTimed).part p = m.part p := by
  simp_all [Mod.showTimed]

@[simp] theorem Mod.removeChangeSet_part (fid : Nat) (h : p ∉ [.preud]) :
    (m.removeChangeSet fid).part p = m.part p := by
  simp_all [Mod.removeChangeSet]

@[simp] theorem Mod.discardOpen_part (fid cause : Nat) (h : p ∉ [.objs, .raised, .preud]) :
    (m.discardOpen fid cause).part p = m.part p := by
  unfold Mod.discardOpen
  split <;> simp_all

@[simp] theorem Mod.restRendition_part (r : Nat) (h : p ∉ [.objs, .timeFn, .twinFn, .rends, .lanes]) :
    (m.restRendition r).part p = m.part p := by
  simp_all [Mod.restRendition]

@[simp] theorem Mod.endRendition_part (r : Nat) (h : p ∉ [.objs, .timeFn, .twinFn, .rends, .lanes]) :
    (m.endRendition r).part p = m.part p := by
  simp_all [Mod.endRendition]

@[simp] theorem Mod.rescale_part (h : p ∉ [.objs, .scalers]) :
    (m.rescale).part p = m.part p := by
  simp_all [Mod.rescale]

@[simp] theorem Mod.restChannel_part (n : Nat) (h : p ∉ [.objs, .timeFn, .twinFn, .chans, .scalers, .ladderRows]) :
    (m.restChannel n).part p = m.part p := by
  simp at h
  unfold Mod.restChannel
  dsimp only
  rw [Mod.rescale_part _ (by simp [h]), Mod.setFn_part _ _ _ (by simp [h]), Mod.part_with_ladderRows _ (by simp [h])]
  simp [h]

@[simp] theorem Mod.endStopping_part (epoch fid : Nat) (h : p ∉ [.draws, .objs, .out, .raised, .conds, .timeFn, .twinFn, .preud, .chans, .rends, .scalers, .lanes, .ladderRows, .twin, .fab, .prt]) :
    (m.endStopping epoch fid).part p = m.part p := by
  simp_all [Mod.endStopping]

@[simp] theorem Mod.haltFn_part (fid : Nat) (drop : Bool) (h : p ∉ [.objs, .raised, .conds, .timeFn, .twinFn, .preud, .chans, .rends, .scalers, .lanes, .ladderRows, .decs, .rings, .slots]) :
    (m.haltFn fid drop).part p = m.part p := by
  simp_all [Mod.haltFn]

@[simp] theorem Mod.haltMedia_part (h : p ∉ [.objs, .raised, .conds, .timeFn, .twinFn, .preud, .chans, .rends, .scalers, .lanes, .ladderRows, .decs, .rings, .slots]) :
    (m.haltMedia).part p = m.part p := by
  simp_all [Mod.haltMedia]

@[simp] theorem Mod.modClk_part (f : ClockS → ClockS) (h : p ∉ [.clk]) :
    (m.modClk f).part p = m.part p := by
  simp_all [Mod.modClk]

@[simp] theorem Mod.judgeStable_part (c : Nat) (h : p ∉ [.objs, .raised, .clk]) :
    (m.judgeStable c).part p = m.part p := by
  simp_all [Mod.judgeStable]

@[simp] theorem Mod.gateWindow_part (c count : Nat) (h : p ∉ [.objs, .raised, .clk]) :
    (m.gateWindow c count).part p = m.part p := by
  simp at h
  unfold Mod.gateWindow
  dsimp only
  refine Mod.ite_part rfl (Mod.ite_part (Mod.ite_part ?_ ?_) (Mod.ite_part ?_ (Mod.ite_part ?_ ?_)))
  all_goals
    simp only [↓Mod.judgeStable_part, ↓Mod.raise_part, ↓Mod.put_part, ↓Mod.modClk_part, h, List.mem_cons, List.not_mem_nil,
      or_false, not_false_eq_true]
    exact Mod.ite_part (by simp [h]) rfl

@[simp] theorem Mod.coreStops_part (already : Bool) (h : p ∉ [.objs, .raised, .conds, .timeFn, .twinFn, .preud, .chans, .rends, .scalers, .lanes, .ladderRows, .twin, .decs, .rings, .slots, .fab, .prt]) :
    (m.coreStops already).part p = m.part p := by
  simp_all [Mod.coreStops]

@[simp] theorem Mod.lockPll_part (k r : Nat) (h : p ∉ [.objs, .clk]) :
    (m.lockPll k r).part p = m.part p := by
  simp_all [Mod.lockPll]

@[simp] theorem Mod.movePll_part (k : Nat) (lockLoss : Bool) (h : p ∉ [.objs, .clk]) :
    (m.movePll k lockLoss).part p = m.part p := by
  simp at h
  unfold Mod.movePll
  repeat' split
  all_goals simp [h]

@[simp] theorem Mod.pllFails_part (k : Nat) (lockLoss : Bool) (h : p ∉ [.objs, .raised, .conds, .timeFn, .twinFn, .preud, .chans, .rends, .scalers, .lanes, .ladderRows, .twin, .decs, .rings, .slots, .fab, .prt, .clk]) :
    (m.pllFails k lockLoss).part p = m.part p := by
  simp_all [Mod.pllFails]

@[simp] theorem Mod.forcedSwitch_part (k : Nat) (h : p ∉ [.objs, .raised, .clk]) :
    (m.forcedSwitch k).part p = m.part p := by
  unfold Mod.forcedSwitch
  split <;> simp_all

@[simp] theorem Mod.recoverDram_part (h : p ∉ [.objs, .cal]) :
    (m.recoverDram).part p = m.part p := by
  simp_all [Mod.recoverDram]

@[simp] theorem Mod.pllRelocks_part (k : Nat) (h : p ∉ [.objs, .raised, .conds, .clk, .cal]) :
    (m.pllRelocks k).part p = m.part p := by
  simp_all [Mod.pllRelocks]

@[simp] theorem Mod.loseCrystals_part (epoch : Nat) (h : p ∉ [.draws, .objs, .out, .raised, .conds, .timeFn, .twinFn, .preud, .chans, .rends, .scalers, .lanes, .ladderRows, .twin, .decs, .rings, .slots, .fab, .prt]) :
    (m.loseCrystals epoch).part p = m.part p := by
  simp_all [Mod.loseCrystals]

@[simp] theorem Mod.sourceStops_part (epoch c gapFio : Nat) (h : p ∉ [.now, .ctr, .draws, .objs, .out, .raised, .conds, .timeFn, .twinFn, .preud, .chans, .rends, .scalers, .lanes, .ladderRows, .twin, .decs, .rings, .slots, .fab, .prt, .clk]) :
    (m.sourceStops epoch c gapFio).part p = m.part p := by
  simp at h
  have hgap (m : Mod) (k : Nat) : ({ m with now := m.now + k, ctr := m.ctr + k } : Mod).part p = m.part p := by
    cases p with
    | now | ctr => simp at h
    | _ => rfl
  unfold Mod.sourceStops
  dsimp only
  simp only [↓Mod.part_ite, ↓Mod.loseCrystals_part, ↓Mod.raise_part, ↓Mod.modClk_part, ↓hgap, ↓Mod.raiseAgain_part, ↓Mod.put_part, h,
    List.mem_cons, List.not_mem_nil, or_false, not_false_eq_true, ite_self]

@[simp] theorem Mod.coastPll_part (k : Nat) (h : p ∉ [.objs, .raised, .conds]) :
    (m.coastPll k).part p = m.part p := by
  simp_all [Mod.coastPll]

@[simp] theorem Mod.xaFails_part (epoch : Nat) (h : p ∉ [.draws, .objs, .out, .raised, .conds, .timeFn, .twinFn, .preud, .chans, .rends, .scalers, .lanes, .ladderRows, .twin, .decs, .rings, .slots, .fab, .prt, .clk]) :
    (m.xaFails epoch).part p = m.part p := by
  simp_all [Mod.xaFails]

@[simp] theorem Mod.accessTimeout_part (block addr initiator : Nat) (h : p ∉ [.objs, .raised]) :
    (m.accessTimeout block addr initiator).part p = m.part p := by
  simp_all [Mod.accessTimeout]

@[simp] theorem Mod.counterDone_part (count : Nat) (refStopped : Bool) (h : p ∉ [.objs]) :
    (m.counterDone count refStopped).part p = m.part p := by
  simp_all [Mod.counterDone]

@[simp] theorem Mod.modHw_part (f : HwS → HwS) (h : p ∉ [.hw]) :
    (m.modHw f).part p = m.part p := by
  simp_all [Mod.modHw]

@[simp] theorem Mod.putCore_part (cls c : Nat) (on : Bool) (h : p ∉ [.objs]) :
    (m.putCore cls c on).part p = m.part p := by
  simp_all [Mod.putCore]

@[simp] theorem Mod.showSett_part (h : p ∉ [.objs]) :
    (m.showSett).part p = m.part p := by
  simp_all [Mod.showSett]

@[simp] theorem Mod.useSpare_part (c : Nat) (h : p ∉ [.objs]) :
    (m.useSpare c).part p = m.part p := by
  simp_all [Mod.useSpare]

@[simp] theorem Mod.loseRateControl_part (c : Nat) (h : p ∉ [.objs, .out, .rends, .fallbacks, .twin]) :
    (m.loseRateControl c).part p = m.part p := by
  simp at h
  have hm (m : Mod) (rs qs : List Nat) (f g : Mod → Nat → RendS → RendS) :
      ((m.each rs fun m r => m.modRend r (f m r)).each qs fun m r => m.modRend r (g m r)).part p = m.part p := by simp [h]
  unfold Mod.loseRateControl
  dsimp only
  refine Mod.ite_part (hm ..) ?_
  rw [Mod.autoHandover_part _ _ _ (by simp [h]), Mod.part_with_fallbacks _ (by simp [h])]
  exact hm ..

@[simp] theorem Mod.houseService_part (c sp cls : Nat) (h : p ∉ [.objs, .raised, .cal, .hw]) :
    (m.houseService c sp cls).part p = m.part p := by
  simp_all [Mod.houseService]

@[simp] theorem Mod.moveService_part (c sp cls : Nat) (h : p ∉ [.objs, .raised, .cal, .hw]) :
    (m.moveService c sp cls).part p = m.part p := by
  simp_all [Mod.moveService]

@[simp] theorem Mod.dropService_part (c cls : Nat) (h : p ∉ [.objs, .out, .raised, .rends, .fallbacks, .twin, .downCores]) :
    (m.dropService c cls).part p = m.part p := by
  simp_all [Mod.dropService]

@[simp] theorem Mod.failCore_part (c cause : Nat) (h : p ∉ [.objs, .out, .raised, .rends, .fallbacks, .twin, .downCores, .cal, .hw]) :
    (m.failCore c cause).part p = m.part p := by
  simp at h
  unfold Mod.failCore
  dsimp only
  repeat' split
  all_goals simp [h]

@[simp] theorem Mod.heartbeat_part (missed : List Nat) (h : p ∉ [.objs, .out, .raised, .rends, .fallbacks, .twin, .downCores, .cal, .hw]) :
    (m.heartbeat missed).part p = m.part p := by
  simp_all [Mod.heartbeat]

@[simp] theorem Mod.testSpares_part (on : Bool) (h : p ∉ [.objs]) :
    (m.testSpares on).part p = m.part p := by
  simp_all [Mod.testSpares]

@[simp] theorem Mod.endTest_part (result : Nat) (h : p ∉ [.objs, .hw]) :
    (m.endTest result).part p = m.part p := by
  simp_all [Mod.endTest]

@[simp] theorem Mod.testDone_part (pass : Bool) (detail : Nat) (h : p ∉ [.objs, .raised, .hw]) :
    (m.testDone pass detail).part p = m.part p := by
  unfold Mod.testDone
  split <;> simp_all

@[simp] theorem Mod.i2cOffset_part (offset : Nat) (h : p ∉ [.hw]) :
    (m.i2cOffset offset).part p = m.part p := by
  simp_all [Mod.i2cOffset]

@[simp] theorem Mod.i2cRead_part (h : p ∉ [.out, .hw]) :
    (m.i2cRead).part p = m.part p := by
  simp_all [Mod.i2cRead]

@[simp] theorem Mod.readSensors_part (h : p ∉ [.draws, .objs, .seen]) :
    (m.readSensors).part p = m.part p := by
  simp_all [Mod.readSensors]

@[simp] theorem Mod.updateLive_part (h : p ∉ [.draws, .objs, .seen, .hw]) :
    (m.updateLive).part p = m.part p := by
  simp_all [Mod.updateLive]

@[simp] theorem Mod.powerDown_part (p : Power) (h : pt ∉ [.objs, .hw]) :
    (m.powerDown p).part pt = m.part pt := by
  simp_all [Mod.powerDown]

@[simp] theorem Mod.setFeed_part (b st : Nat) (h : p ∉ [.objs, .raised, .conds]) :
    (m.setFeed b st).part p = m.part p := by
  simp_all [Mod.setFeed]

@[simp] theorem Mod.feedChange_part (b : Nat) (mv : Int) (h : p ∉ [.objs, .raised, .conds, .hw]) :
    (m.feedChange b mv).part p = m.part p := by
  simp at h
  unfold Mod.feedChange
  dsimp only
  repeat' split
  all_goals simp [h]

@[simp] theorem Mod.feedShort_part (b : Nat) (h : p ∉ [.objs, .raised, .conds, .hw]) :
    (m.feedShort b).part p = m.part p := by
  simp_all [Mod.feedShort]

@[simp] theorem Mod.holdUpCharged_part (h : p ∉ [.objs]) :
    (m.holdUpCharged).part p = m.part p := by
  simp_all [Mod.holdUpCharged]

@[simp] theorem Mod.inputDip_part (h : p ∉ [.objs, .hw]) :
    (m.inputDip).part p = m.part p := by
  simp_all [Mod.inputDip]

@[simp] theorem Mod.holdUpExpiry_part (h : p ∉ [.objs, .hw]) :
    (m.holdUpExpiry).part p = m.part p := by
  unfold Mod.holdUpExpiry
  split <;> simp_all

@[simp] theorem Mod.thermalRenditions_part (h : p ∉ [.objs, .raised, .timeFn, .twinFn, .preud]) :
    (m.thermalRenditions).part p = m.part p := by
  simp_all [Mod.thermalRenditions]

@[simp] theorem Mod.thermalTwin_part (h : p ∉ [.twinFn, .preud]) :
    (m.thermalTwin).part p = m.part p := by
  simp_all [Mod.thermalTwin]

@[simp] theorem Mod.thermalAct_part (h : p ∉ [.objs, .out, .raised, .timeFn, .twinFn, .preud, .twin, .hw]) :
    (m.thermalAct).part p = m.part p := by
  simp_all [Mod.thermalAct]

@[simp] theorem Mod.showThermal_part (stop : Bool) (h : p ∉ [.objs]) :
    (m.showThermal stop).part p = m.part p := by
  simp_all [Mod.showThermal]

@[simp] theorem Mod.junction_part (sample : Int) (h : p ∉ [.objs, .out, .raised, .conds, .seen, .timeFn, .twinFn, .preud, .twin, .hw]) :
    (m.junction sample).part p = m.part p := by
  simp at h
  unfold Mod.junction
  dsimp only
  simp only [↓Mod.part_ite, ↓Mod.powerDown_part, ↓Mod.thermalAct_part, ↓Mod.showThermal_part, ↓Mod.raiseCond_part, ↓Mod.raiseClear_part,
    ↓Mod.bump_part, ↓Mod.putMax_part, ↓Mod.putZ_part, ↓Mod.modHw_part, h, List.mem_cons, List.not_mem_nil, or_false, not_false_eq_true,
    ite_self]

@[simp] theorem Mod.junctionSample_part (sample : Int) (h : p ∉ [.objs, .out, .raised, .conds, .seen, .timeFn, .twinFn, .preud, .twin, .hw]) :
    (m.junctionSample sample).part p = m.part p := by
  simp_all [Mod.junctionSample]

@[simp] theorem Mod.thermalEnd_part (h : p ∉ [.objs, .raised, .conds, .hw]) :
    (m.thermalEnd).part p = m.part p := by
  unfold Mod.thermalEnd
  split <;> simp_all

@[simp] theorem Mod.coolFail_part (on : Bool) (h : p ∉ [.objs, .raised, .conds]) :
    (m.coolFail on).part p = m.part p := by
  simp_all [Mod.coolFail]

@[simp] theorem Mod.ejector_part (opened : Bool) (h : p ∉ [.objs, .raised, .hw]) :
    (m.ejector opened).part p = m.part p := by
  simp_all [Mod.ejector]

@[simp] theorem Mod.opticTemperature_part (q : Nat) (temp highAlarm : Int) (h : p ∉ [.objs, .raised, .limits]) :
    (m.opticTemperature q temp highAlarm).part p = m.part p := by
  simp_all [Mod.opticTemperature]

@[simp] theorem Mod.xbTimeout_part (h : p ∉ [.objs, .raised, .conds]) :
    (m.xbTimeout).part p = m.part p := by
  simp_all [Mod.xbTimeout]

@[simp] theorem Mod.ovenSettled_part (h : p ∉ [.clk]) :
    (m.ovenSettled).part p = m.part p := by
  simp_all [Mod.ovenSettled]

@[simp] theorem Mod.trainingFails_part (c : Nat) (h : p ∉ [.objs, .raised]) :
    (m.trainingFails c).part p = m.part p := by
  simp_all [Mod.trainingFails]

@[simp] theorem Mod.stepTimeout_part (epoch step ch : Nat) (h : p ∉ [.draws, .objs, .out, .raised, .conds, .timeFn, .twinFn, .preud, .chans, .rends, .scalers, .lanes, .ladderRows, .twin, .decs, .rings, .slots, .fab, .prt, .clk, .hw]) :
    (m.stepTimeout epoch step ch).part p = m.part p := by
  simp_all [Mod.stepTimeout]

@[simp] theorem Mod.confirmTrial_part (h : p ∉ [.objs, .raised, .hw]) :
    (m.confirmTrial).part p = m.part p := by
  unfold Mod.confirmTrial
  split <;> simp_all

@[simp] theorem Mod.autoConfirm_part (h : p ∉ [.objs, .raised, .hw]) :
    (m.autoConfirm).part p = m.part p := by
  simp_all [Mod.autoConfirm]

@[simp] theorem Mod.sendOn_part (r : Route) (o : Output) (h : p ∉ [.draws, .objs, .out]) :
    (m.sendOn r o).part p = m.part p := by
  unfold Mod.sendOn
  dsimp only
  split <;> simp_all

@[simp] theorem Mod.arrives_part (r : Route) (h : p ∉ [.objs]) :
    (m.arrives r).part p = m.part p := by
  simp_all [Mod.arrives]

@[simp] theorem Mod.localMsg_part (r : Route) (x : LocalMsg) (h : p ∉ [.draws, .objs, .out]) :
    (m.localMsg r x).part p = m.part p := by
  unfold Mod.localMsg
  split <;> simp_all

@[simp] theorem Mod.macFailure_part (r : Route) (h : p ∉ [.objs, .raised, .limits]) :
    (m.macFailure r).part p = m.part p := by
  simp_all [Mod.macFailure]

@[simp] theorem Mod.malformed_part (r : Route) (k : MalformedKind) (h : p ∉ [.objs, .raised, .limits]) :
    (m.malformed r k).part p = m.part p := by
  simp_all [Mod.malformed]

@[simp] theorem Mod.modSession_part (sid : Nat) (f : Session → Session) (h : p ∉ [.preud]) :
    (m.modSession sid f).part p = m.part p := by
  simp_all [Mod.modSession]

@[simp] theorem Mod.showSessions_part (h : p ∉ [.objs]) :
    (m.showSessions).part p = m.part p := by
  simp_all [Mod.showSessions]

@[simp] theorem Mod.dropTransfer_part (x : Transfer) (h : p ∉ [.objs, .preud]) :
    (m.dropTransfer x).part p = m.part p := by
  simp_all [Mod.dropTransfer]

@[simp] theorem Mod.endSession_part (sid cause : Nat) (h : p ∉ [.objs, .raised, .preud]) :
    (m.endSession sid cause).part p = m.part p := by
  unfold Mod.endSession
  split <;> simp_all

@[simp] theorem Mod.eventResend_part (sid first : Nat) (h : p ∉ [.draws, .objs, .out, .preud]) :
    (m.eventResend sid first).part p = m.part p := by
  simp at h
  unfold Mod.eventResend
  repeat' split
  all_goals simp [h]

@[simp] theorem Mod.modTransfer_part (tid : Nat) (f : Transfer → Transfer) (h : p ∉ [.preud]) :
    (m.modTransfer tid f).part p = m.part p := by
  simp_all [Mod.modTransfer]

@[simp] theorem Mod.bulkIdle_part (tid : Nat) (h : p ∉ [.objs, .preud]) :
    (m.bulkIdle tid).part p = m.part p := by
  unfold Mod.bulkIdle
  split <;> simp_all

@[simp] theorem Mod.expireChallenge_part (sid : Nat) (h : p ∉ [.preud]) :
    (m.expireChallenge sid).part p = m.part p := by
  simp_all [Mod.expireChallenge]

@[simp] theorem Mod.expireSession_part (sid : Nat) (h : p ∉ [.objs, .raised, .preud]) :
    (m.expireSession sid).part p = m.part p := by
  unfold Mod.expireSession
  split <;> simp_all

@[simp] theorem Mod.readerActs_part (m : Mod) (x : DramReader) (h : p ∉ [.draws, .objs, .out, .raised, .preud, .chans, .rends, .fallbacks, .twin, .decs, .slots, .downCores, .cal, .hw]) : (m.readerActs x).part p = m.part p := by
  simp at h
  cases x <;> simp [Mod.readerActs, h]

@[simp] theorem Mod.badRead_part (c port : Nat) (what : DramReader) (h : p ∉ [.draws, .objs, .out, .raised, .limits, .preud, .chans, .rends, .fallbacks, .twin, .decs, .slots, .downCores, .cal, .hw]) :
    (m.badRead c port what).part p = m.part p := by
  simp_all [Mod.badRead]

@[simp] theorem Mod.lever_part (opened : Bool) (h : p ∉ [.objs, .raised, .hw]) :
    (m.lever opened).part p = m.part p := by
  simp_all [Mod.lever]

@[simp] theorem Mod.holdLimit_part (n : Nat) (h : p ∉ [.objs, .raised, .chans]) :
    (m.holdLimit n).part p = m.part p := by
  simp_all [Mod.holdLimit]

@[simp] theorem Mod.launchSlotLate_part (s : Nat) (h : p ∉ [.objs, .out, .raised, .conds, .limits, .decs, .slots, .fab]) :
    (m.launchSlotLate s).part p = m.part p := by
  unfold Mod.launchSlotLate
  split <;> simp_all

@[simp] theorem Mod.launchRendLate_part (r : Nat) (h : p ∉ [.objs, .out, .raised, .conds, .limits, .seen, .rends, .checks, .decs, .fab]) :
    (m.launchRendLate r).part p = m.part p := by
  unfold Mod.launchRendLate
  split <;> simp_all

@[simp] theorem Mod.launchLateOf_part (m : Mod) (x : LaunchSrc) (h : p ∉ [.objs, .out, .raised, .conds, .limits, .seen, .rends, .checks, .decs, .slots, .fab]) : (m.launchLateOf x).part p = m.part p := by
  simp at h
  cases x <;> simp [Mod.launchLateOf, h]

@[simp] theorem Mod.supplyTrip_part (c : Nat) (h : p ∉ [.objs, .raised, .conds, .timeFn, .twinFn, .preud, .chans, .rends, .scalers, .lanes, .ladderRows, .decs, .rings, .slots]) :
    (m.supplyTrip c).part p = m.part p := by
  simp_all [Mod.supplyTrip]

@[simp] theorem Mod.plugCage_part (q : Nat) (h : p ∉ [.objs, .raised, .prt]) :
    (m.plugCage q).part p = m.part p := by
  simp_all [Mod.plugCage]

@[simp] theorem Mod.unplugCage_part (q : Nat) (h : p ∉ [.objs, .raised, .conds, .twin, .fab, .prt]) :
    (m.unplugCage q).part p = m.part p := by
  simp_all [Mod.unplugCage]

end
end Sys2Proof.Machine
end

section
/-! SUPPORT. The commands stay in their footprints. -/

namespace Sys2Proof.Machine

/-- A command completes, and what is outside its footprint it leaves alone. -/
def Framed (c : Instr) : Prop :=
  ∀ s : State, s.m.rebooting = false →
    ∃ s', exec c s = .next s' ∧ s'.pending = s.pending ∧ ∀ m', footprint c s.m s'.m = some m' → s'.m = m'

/-- A module that resets nothing settles as it is. -/
theorem State.settle_quiet {s : State} {m : Mod} (h : m.rebooting = false) : s.settle m = { s with m := m } := by
  simp only [State.settle, h, Bool.false_eq_true, if_false]

/-- The parts that the time's passing leaves alone. -/
theorem Mod.at_part_other (m : Mod) (t : Nanos) {p : Part} {L : List Part} (h : p ∉ .now :: .ctr :: L) : (m.at t).part p = m.part p := by
  cases p with
  | now | ctr => simp at h
  | _ => rfl

section
variable {c : Instr} {t : Nanos}

/-- A command of any kind stays in the footprint of its effect. -/
theorem framed_actAnyE {L : List Part} {g : EventLog → Mod → Mod} (hg : ∀ e m p, p ∉ L → (g e m).part p = m.part p)
    (he : ∀ s, exec c s = actAnyE t g s) (hf : ∀ a b, footprint c a b = some (a.patched b (.now :: .ctr :: L)))
    (hr : .rebooting ∉ L) : Framed c := by
  intro s hs
  have hb : (g s.events (s.m.at t)).rebooting = false := (hg s.events (s.m.at t) .rebooting hr).trans hs
  refine ⟨{ s with m := g s.events (s.m.at t) }, (he s).trans (congrArg Host.Outcome.next (State.settle_quiet hb)), rfl, fun m' hm => ?_⟩
  rw [hf, Option.some.injEq] at hm
  rw [← hm]
  exact Mod.eq_patched fun p hp =>
    (hg _ _ p fun hl => hp (List.mem_cons_of_mem _ (List.mem_cons_of_mem _ hl))).trans (s.m.at_part_other t hp)

theorem framed_actAny {L : List Part} {g : Mod → Mod} (hg : ∀ m p, p ∉ L → (g m).part p = m.part p)
    (he : ∀ s, exec c s = actAny t g s := by intros; rfl)
    (hf : ∀ a b, footprint c a b = some (a.patched b (.now :: .ctr :: L)) := by intros; rfl) (hr : .rebooting ∉ L := by decide) : Framed c :=
  framed_actAnyE (fun _ => hg) he hf hr

theorem framed_actE {L : List Part} {g : EventLog → Mod → Mod} (hg : ∀ e m p, p ∉ L → (g e m).part p = m.part p)
    (he : ∀ s, exec c s = actE t g s := by intros; rfl)
    (hf : ∀ a b, footprint c a b = some (a.patched b (.now :: .ctr :: L)) := by intros; rfl) (hr : .rebooting ∉ L := by decide) : Framed c :=
  framed_actAnyE (fun e m p hp => Mod.ite_part (hg e m p hp) rfl) he hf hr

theorem framed_preudAct {L : List Part} {g : EventLog → Mod → Mod} (hg : ∀ e m p, p ∉ L → (g e m).part p = m.part p)
    (he : ∀ s, exec c s = preudAct t g s := by intros; rfl)
    (hf : ∀ a b, footprint c a b = some (a.patched b (.now :: .ctr :: L)) := by intros; rfl) (hr : .rebooting ∉ L := by decide) : Framed c :=
  framed_actAnyE (fun e m p hp => Mod.ite_part (hg e m p hp) rfl) he hf hr

theorem framed_act {L : List Part} {g : Mod → Mod} (hg : ∀ m p, p ∉ L → (g m).part p = m.part p)
    (he : ∀ s, exec c s = act t g s := by intros; rfl)
    (hf : ∀ a b, footprint c a b = some (a.patched b (.now :: .ctr :: L)) := by intros; rfl) (hr : .rebooting ∉ L := by decide) : Framed c :=
  framed_actE (fun _ => hg) he hf hr

end

/-- The commands that have a footprint stay in it. -/
theorem framed_of_footprint {c : Instr} {a b : Mod} (h : footprint c a b ≠ none) : Framed c := by
  cases c with
  | malformedDatagram _ route kind => exact framed_preudAct fun _ m _ => m.malformed_part route kind
  | figureOfMeritLow _ lane snr => exact framed_act fun m _ => m.fomLow_part lane.val snr
  | opticTemperatureRead _ cage temp highAlarm => exact framed_act fun m _ => m.opticTemperature_part cage.val temp highAlarm
  | komundMessageDiscarded _ msg => exact framed_act fun m _ => m.komundDiscarded_part msg
  | challengeExpiry _ sid => exact framed_preudAct fun _ m _ => m.expireChallenge_part sid
  | sessionIdleExpiry _ sid => exact framed_preudAct fun _ m _ => m.expireSession_part sid
  | eventResend _ sid first => exact framed_preudAct fun _ m _ => m.eventResend_part sid first
  | bulkIdleAbort _ tid => exact framed_preudAct fun _ m _ => m.bulkIdle_part tid
  | veneerCommitAbandon _ n => exact framed_act fun m _ => m.abandonCommit_part n.val
  | holdLimitReached _ n => exact framed_act fun m _ => m.holdLimit_part n.val
  | stoppingEnd _ fid => exact framed_actE fun e m _ => m.endStopping_part e.epoch fid
  | lateCtuCutoff _ pipe lane => exact framed_act fun m _ => m.lateCutoff_part pipe.val lane.val
  | ctuComplete _ pipe lane r tile => exact framed_act fun m _ => m.ctuComplete_part pipe.val lane.val r.val tile.val
  | videoPacket _ target path pkt => exact framed_act fun m _ => m.takeVideo_part target path pkt
  | ancPacket _ n flow path pkt => exact framed_act fun m _ => m.takeAnc_part n.val flow.val path pkt
  | pathTimeout _ target path => exact framed_act fun m _ => m.pathTimeout_part target path
  | eligibilityHoldExpiry => exact framed_act fun m _ => m.holdExpired_part
  | witnessUnreachable _ w => exact framed_act fun m _ => m.witnessLost_part w.val
  | servicePortLinkChange _ link => exact framed_act fun m _ => m.serviceLink_part link
  | xbWarmupTimeout => exact framed_act fun m _ => m.xbTimeout_part
  | coolFail _ asserted => exact framed_act fun m _ => m.coolFail_part asserted
  | audioPacket _ n flow path pkt => exact framed_act fun m _ => m.takeAudio_part n.val flow.val path pkt
  | audioFlowLoss _ n flow => exact framed_act fun m _ => m.audioLoss_part n.val flow.val
  | audioFlowRestore _ n flow => exact framed_act fun m _ => m.audioRestore_part n.val flow.val
  | ancFlowLoss _ n flow => exact framed_act fun m _ => m.ancLoss_part n.val flow.val
  | datagramLaunch _ src => exact framed_act fun m _ => m.launchTurn_part src 4096
  | lateDatagram _ src => exact framed_act fun m _ => m.launchLateOf_part src
  | egressFrameBoundary _ port => exact framed_act fun m _ => m.frameBoundary_part port.val
  | decodeDatagram _ e path dg => exact framed_act fun m _ => m.takeDecode_part e.val path dg
  | decodeStart _ e => exact framed_act fun m _ => m.decodeStart_part e.val
  | decodeEnd _ e => exact framed_act fun m _ => m.decodeEnd_part e.val
  | decodeLoss _ e => exact framed_act fun m _ => m.decodeLoss_part e.val
  | presentationTick _ e => exact framed_act fun m _ => m.present_part e.val
  | decodeOutputPacket _ e => exact framed_act fun m _ => m.sendDecode_part e.val
  | frameReceived _ port fr => exact framed_act fun m _ => m.receiveFrame_part port.val fr
  | igmpMldReport _ port rep => exact framed_act fun m _ => m.takeReport_part port.val rep
  | igmpMldQuery _ port q => exact framed_act fun m _ => m.takeQuery_part port.val q
  | queryIntervalExpiry => exact framed_act fun m _ => m.generalQuery_part
  | unsolicitedReportTimer _ entry => exact framed_act fun m _ => m.repeatReport_part entry.val
  | queueSample => exact framed_act fun m _ => m.sampleQueues_part
  | sampleWindowEnd => exact framed_act fun m _ => m.endSampleWindow_part
  | membershipTimeout _ port group source => exact framed_act fun m _ => m.membershipTimeout_part port.val group source
  | ptpMessage _ port msg => exact framed_act fun m _ => m.takePtp_part port.val msg
  | servoLocked => exact framed_act fun m _ => m.servoLock_part
  | announceReceiptTimeout => exact framed_act fun m _ => m.announceTimeout_part
  | holdoverLimit => exact framed_act fun m _ => m.holdoverEnd_part
  | ptpMasterSend _ port announce => exact framed_act fun m _ => m.masterSend_part port.val announce
  | delayReqSend => exact framed_act fun m _ => m.delayReq_part
  | ppsOutPulse => exact framed_act fun m _ => m.ppsOut_part
  | ppsInEdge => exact framed_act fun m _ => m.ppsIn_part
  | ppsInAbsent => exact framed_act fun m _ => m.ppsLost_part
  | mortarIdle _ hdr => exact framed_act fun m _ => m.takeIdle_part hdr
  | idleSendTimer => exact framed_act fun m _ => m.sendIdle_part
  | statusTimer => exact framed_act fun m _ => m.sendStatus_part
  | countersignRequest _ hdr term req => exact framed_act fun m _ => m.takeCountersignRequest_part hdr term req
  | handover _ hdr boundary withRestart => exact framed_act fun m _ => m.takeHandover_part hdr boundary withRestart
  | placement _ hdr pl => exact framed_act fun m _ => m.takePlacement_part hdr pl
  | countersignRequestTimer => exact framed_actE fun e m _ => m.askPartner_part e.epoch
  | mortarHello _ hdr hello => exact framed_act fun m _ => m.takeHello_part hdr hello
  | mortarNak _ hdr vc expected => exact framed_act fun m _ => m.takeNak_part hdr vc.val expected
  | mortarStatus _ hdr st => exact framed_act fun m _ => m.takeStatus_part hdr st
  | helloTimer => exact framed_act fun m _ => m.helloTimer_part
  | outputPortsDown => exact framed_act fun m _ => m.portsDownHandover_part
  | courseRecords _ hdr recs => exact framed_act fun m _ => m.takeRecords_part hdr recs
  | repairData _ hdr rep => exact framed_act fun m _ => m.takeRepair_part hdr rep
  | countersign _ hdr term req => exact framed_act fun m _ => m.takeCountersign_part hdr term req
  | handoverAccept _ hdr boundary => exact framed_actE fun e m _ => m.takeAccept_part e.epoch hdr boundary
  | renewTimer => exact framed_actE fun e m _ => m.renewLease_part e.epoch
  | acquireTimer => exact framed_actE fun e m _ => m.acquireLease_part e.epoch
  | probeTimer => exact framed_actE fun e m _ => m.probe_part e.epoch
  | witnessDeadline _ slot => exact framed_act fun m _ => m.witnessDeadline_part slot.val
  | handoverBoundary => exact framed_actE fun e m _ => m.handoverBoundary_part e.epoch
  | linkSilent => exact framed_act fun m _ => m.linkSilent_part
  | linkDown => exact framed_act fun m _ => m.linkLost_part
  | courseRecordClose _ r => exact framed_act fun m _ => m.closeRecord_part r.val
  | recordMissing _ r tick => exact framed_act fun m _ => m.recordMissing_part r.val tick
  | leaseFence => exact framed_act fun m _ => m.leaseFence_part
  | grant _ w msg => exact framed_act fun m _ => m.takeGrant_part w.val msg
  | refuse _ w msg => exact framed_act fun m _ => m.takeRefuse_part w.val msg
  | released _ w msg => exact framed_act fun m _ => m.takeReleased_part w.val msg
  | probeAck _ w msg => exact framed_act fun m _ => m.takeProbeAck_part w.val msg
  | renew _ msg => exact framed_act fun m _ => m.witnessRenew_part msg
  | acquire _ msg => exact framed_act fun m _ => m.witnessAcquire_part msg
  | release _ msg => exact framed_act fun m _ => m.witnessRelease_part msg
  | probe _ msg => exact framed_act fun m _ => m.witnessProbe_part msg
  | witnessRestartHoldEnd => exact framed_act fun m _ => m.restartHoldEnd_part
  | patrolScrubPass _ ch => exact framed_act fun m _ => m.scrubPass_part ch.val
  | checkerLock _ lane inverted errorFree => exact framed_act fun m _ => m.checkerLocks_part lane.val inverted errorFree
  | frequencyCounterDone _ count refStopped => exact framed_act fun m _ => m.counterDone_part count refStopped
  | holdUpCharged => exact framed_actAny fun m _ => m.holdUpCharged_part
  | releasePoint => exact framed_act fun m _ => m.releasePoint_part
  | refreshDue _ ch bank urgentWaiting => exact framed_act fun m _ => m.refreshDue_part ch.val bank.val urgentWaiting
  | refreshForced _ ch bank => exact framed_act fun m _ => m.refreshForced_part ch.val bank.val
  | dimmTemperatureChange _ ch temp => exact framed_act fun m _ => m.dimmTemperature_part ch.val temp
  | dramCorrectableError _ ch subch rank dev => exact framed_act fun m _ => m.correctable_part ch.val subch.val rank.val dev.val
  | dramUncorrectableRead _ ch port what => exact framed_act fun m _ => m.badRead_part ch.val port.val what
  | dimmSupplyTrip _ ch => exact framed_act fun m _ => m.supplyTrip_part ch.val
  | cageInsertion _ cage => exact framed_actAny fun m _ => m.plugCage_part cage.val
  | cagePresenceStable _ cage info => exact framed_act fun m _ => m.stableCage_part cage.val info
  | moduleReady _ cage => exact framed_act fun m _ => m.readyCage_part cage.val
  | moduleReadyTimeout _ cage => exact framed_act fun m _ => m.readyTimeout_part cage.val
  | accessTimeout _ block addr initiator => exact framed_act fun m _ => m.accessTimeout_part block addr initiator
  | cageRemoval _ cage => exact framed_actAny fun m _ => m.unplugCage_part cage.val
  | efuseTrip _ cage => exact framed_act fun m _ => m.tripCage_part cage.val
  | stageLimitExpiry _ port badLanes => exact framed_act fun m _ => m.stageExpired_part (unitOf port) (badLanes.map fun l => l.val)
  | backplaneLinkChange _ b up => exact framed_act fun m _ => m.backplaneLink_part b.val up
  | detectRepeat _ port seen => exact framed_act fun m _ => m.detect_part (unitOf port) seen
  | autoNegotiationResolved _ port offer => exact framed_act fun m _ => m.negotiated_part (unitOf port) offer
  | trainingComplete _ port snrs => exact framed_act fun m _ => m.trained_part (unitOf port) snrs
  | lockComplete _ port obs => exact framed_act fun m _ => m.locked_part (unitOf port) obs
  | capabilityComplete _ port agreed => exact framed_act fun m _ => m.capable_part (unitOf port) agreed
  | lossOfLock _ port badCodewords lane => exact framed_act fun m _ => m.lockLost_part (unitOf port) badCodewords lane.val
  | retrainTrigger _ lane snr => exact framed_act fun m _ => m.retrain_part lane.val snr
  | fastRelockComplete _ port ok lane => exact framed_act fun m _ => m.relocked_part (unitOf port) ok lane.val
  | gateWindowEnd _ clk count => exact framed_act fun m _ => m.gateWindow_part clk.val count
  | forcedSwitchComplete _ k => exact framed_act fun m _ => m.forcedSwitch_part k.val
  | clockStopDetected _ src gapFio => exact framed_actE fun e m _ => m.sourceStops_part e.epoch src.val gapFio
  | pllReferenceFailure _ k lockLoss => exact framed_act fun m _ => m.pllFails_part k.val lockLoss
  | pllRelock _ k => exact framed_act fun m _ => m.pllRelocks_part k.val
  | temperatureSample _ temps => exact framed_act fun m _ => m.sampleTemperatures_part temps
  | calibrationRunStart _ d => exact framed_act fun m _ => m.startRun_part d.val
  | calibrationRunComplete _ d res => exact framed_act fun m _ => m.endRun_part d.val res
  | powerStepTimeout _ stp ch => exact framed_actE fun e m _ => m.stepTimeout_part e.epoch stp.val ch.val
  | xbOvenSettled => exact framed_act fun m _ => m.ovenSettled_part
  | autoConfirmExpiry => exact framed_act fun m _ => m.autoConfirm_part
  | ejector _ opened => exact framed_actAny fun m _ => m.lever_part opened
  | builtInTestComplete _ pass detail => exact framed_act fun m _ => m.testDone_part pass detail
  | i2cOffsetWrite _ offset => exact framed_actAny fun m _ => m.i2cOffset_part offset.toNat
  | i2cRead => exact framed_actAny fun m _ => m.i2cRead_part
  | liveFieldUpdate => exact framed_act fun m _ => m.updateLive_part
  | feedStateChange _ feed mv => exact framed_actAny fun m _ => m.feedChange_part feed.val mv
  | internalShortLimit _ feed => exact framed_actAny fun m _ => m.feedShort_part feed.val
  | thermalStopEnd => exact framed_act fun m _ => m.thermalEnd_part
  | inputDip => exact framed_actAny fun m _ => m.inputDip_part
  | holdUpExpiry => exact framed_actAny fun m _ => m.holdUpExpiry_part
  | junctionSample _ temp => exact framed_actAny fun m _ => m.junctionSample_part temp
  | heartbeatCheck _ missed => exact framed_act (g := fun m => m.heartbeat (missed.map fun c => c.val)) fun m _ => m.heartbeat_part _
  | settCoreTrap _ core memory => exact framed_act fun m _ => m.failCore_part core.val (if memory then 2 else 3)
  | datagramQueued _ r => exact framed_act fun m _ => m.queueFed_part r.val
  | arpAndIcmpEcho _ route msg => exact framed_preudAct fun _ m _ => m.localMsg_part route msg
  | otherQuerierPresentTimeout _ port family => exact framed_act fun m _ => m.otherQuerierGone_part port.val family
  | _ => exact absurd rfl h

/-- Settles O59: each command's effect is one operation, and the frame of that operation is the command's footprint. -/
theorem commandsStayInTheirFootprint : Obligations.CommandsStayInTheirFootprint := by
  intro c s hs
  obtain ⟨s', hx, hp, -⟩ := everyCommandCompletes c s
  by_cases hf : footprint c s.m s'.m = none
  · exact ⟨s', hx, hp, fun m' h => absurd (h.symm.trans hf) (Option.some_ne_none _)⟩
  · exact framed_of_footprint hf s hs

end Sys2Proof.Machine
end

section
/-! SUPPORT. Slices keep room for the CTUs still to come (R135, R136). -/

namespace Sys2Proof.Machine

/-- A slice of the budget and the CTUs of another, in whose budget the CTUs still to come fit at u bits each. -/
def SliceS.fitsAs (x : SliceS) (u : Nat) (y : SliceS) : Prop :=
  y.done ≤ y.ctus ∧ y.bits + u * (y.ctus - y.done) ≤ y.budget ∧ y.budget = x.budget ∧ y.ctus = x.ctus

/-- A CTU more leaves room for the rest, where it and the rest fit. -/
theorem SliceS.fitsAs_push {x y : SliceS} {u : Nat} (h : x.fitsAs u y) (form : CtuForm) {bits : Nat} (error : Bool)
    (hd : y.done ≠ y.ctus) (hb : y.bits + bits + u * (y.ctus - y.done - 1) ≤ y.budget) : x.fitsAs u (y.push form bits error) := by
  obtain ⟨hle, -, hbud, hctus⟩ := h
  refine ⟨Nat.lt_of_le_of_ne hle hd, ?_, hbud, hctus⟩
  exact hb

/-- CTUs in the exhaustion form take no more than what is kept for them. -/
theorem SliceS.fitsAs_exhaust {x : SliceS} (site : Site) (u k : Nat) {y : SliceS} (h : x.fitsAs u y) (hk : k ≤ y.ctus - y.done) :
    x.fitsAs u (SliceS.exhaust site u k y) := by
  induction k generalizing y with
  | zero => exact h
  | succ k ih =>
    obtain ⟨d, hd⟩ : ∃ d, y.ctus - y.done = d + 1 := ⟨y.ctus - y.done - 1, by omega⟩
    refine ih (SliceS.fitsAs_push h _ _ (by omega) ?_) ?_
    · have hroom := h.2.1
      rw [hd, Nat.mul_succ] at hroom
      rw [hd, Nat.add_sub_cancel]
      omega
    · show k ≤ y.ctus - (y.done + 1)
      omega

/-- A CTU that passes the test of R135 leaves room for the rest. -/
theorem SliceS.fitsAs_keeps {x y : SliceS} {u bits : Nat} (h : x.fitsAs u y) (form : CtuForm) (error : Bool)
    (hd : y.done ≠ y.ctus) (hb : y.keeps u bits = true) : x.fitsAs u (y.push form bits error) := by
  refine SliceS.fitsAs_push h form error hd ?_
  have := of_decide_eq_true hb
  omega

theorem SliceS.fitsAs_take {x y : SliceS} (site : Site) (now : Nanos) (h : x.fitsAs (ctuFloor site.cfg.rung) y) :
    x.fitsAs (ctuFloor site.cfg.rung) (y.take site now) := by
  unfold SliceS.take
  dsimp only
  generalize (if y.holes.contains y.done = true then _ else _) = bits
  split
  case isTrue => exact h
  case isFalse hd =>
    split
    case isTrue hk => exact SliceS.fitsAs_keeps h (site.lateForm y.before) (site.hits y.done) hd (Bool.and_eq_true_iff.mp hk).1
    case isFalse =>
      split
      case isTrue hk => exact SliceS.fitsAs_keeps h (.coded (site.code y.before)) (site.code y.before).missed hd hk
      case isFalse => exact SliceS.fitsAs_exhaust site _ _ h le_rfl

theorem SliceS.fitsAs_cutoff {x : SliceS} (site : Site) (fuel : Nat) {y : SliceS} (h : x.fitsAs (ctuFloor site.cfg.rung) y) :
    x.fitsAs (ctuFloor site.cfg.rung) (SliceS.cutoff site fuel y) := by
  induction fuel generalizing y with
  | zero => exact h
  | succ fuel ih =>
    unfold SliceS.cutoff
    dsimp only
    split
    case isTrue => exact h
    case isFalse hd =>
      split
      case isTrue hk => exact ih (SliceS.fitsAs_keeps h (site.lateForm y.before) (site.hits y.done) hd hk)
      case isFalse => exact SliceS.fitsAs_exhaust site _ _ h le_rfl

/-- Settles O21: a slice that has room for the CTUs still to come keeps it, whether one is kept, exhausted or substituted. -/
theorem slicesStayWithinTheirBudget : Obligations.SlicesStayWithinTheirBudget := by
  intro x site at_ fuel u hd hb fits
  have h : x.fitsAs u x := ⟨hd, hb, rfl, rfl⟩
  exact ⟨SliceS.fitsAs_take site at_ h, SliceS.fitsAs_cutoff site fuel h⟩

end Sys2Proof.Machine
end

section
/-! SUPPORT. The policer's first bucket bounds what passes green (R203). -/

namespace Sys2Proof.Machine

/-- A bucket's first content as time passes: at most what was refilled at the committed rate is more. -/
theorem Mod.bucket_c_later (m : Mod) (e : Nat) (d : Nanos) :
    (({ m with ctr := m.ctr + d } : Mod).bucket e).c ≤ (m.bucket e).c + m.flow e 0x0C * d := by
  unfold Mod.bucket
  dsimp only
  split
  · exact Nat.le_add_right _ _
  · next b hb =>
    have hage : m.ctr + d - b.at_ ≤ m.ctr - b.at_ + d := Nat.sub_le_iff_le_add.mpr (by dsimp only [Nanos]; omega)
    have hfill := Nat.mul_le_mul_left (m.flow e 0x0C) hage
    rw [Nat.mul_add] at hfill
    show min (m.flow e 0x0D * bucketUnit) (b.c + m.flow e 0x0C * (m.ctr + d - b.at_))
      ≤ min (m.flow e 0x0D * bucketUnit) (b.c + m.flow e 0x0C * (m.ctr - b.at_)) + _
    omega

/-- The first bucket never holds more than its size. -/
theorem Mod.bucket_c_le (m : Mod) (e : Nat) : (m.bucket e).c ≤ m.flow e 0x0D * bucketUnit := by
  unfold Mod.bucket
  dsimp only
  split
  · exact le_rfl
  · exact Nat.min_le_left _ _

@[simp] theorem Mod.bucket_entry (m : Mod) (e : Nat) : (m.bucket e).entry = e := by
  unfold Mod.bucket
  dsimp only
  split <;> rfl

@[simp] theorem Mod.bucket_at (m : Mod) (e : Nat) : (m.bucket e).at_ = m.ctr := by
  unfold Mod.bucket
  dsimp only
  split <;> rfl

/-- A bucket just held is cut to its size, not filled. -/
theorem Mod.bucket_c_held {m : Mod} {e : Nat} {b : Bucket} (he : b.entry = e) (hat : b.at_ = m.ctr) :
    (({ m with fab := { m.fab with buckets := (m.fab.buckets.filter fun b => b.entry ≠ e) ++ [b] } } : Mod).bucket e).c ≤ b.c := by
  have hfind : ((m.fab.buckets.filter fun b => b.entry ≠ e) ++ [b]).find? (fun b => b.entry = e) = some b := by
    have hnone : (m.fab.buckets.filter fun b => b.entry ≠ e).find? (fun b => b.entry = e) = none :=
      List.find?_eq_none.mpr fun x hx => by simpa using (List.mem_filter.mp hx).2
    rw [List.find?_append, hnone]
    simp [he]
  unfold Mod.bucket
  simp only [hfind, hat, Nat.sub_self, Nat.mul_zero, Nat.add_zero]
  exact Nat.min_le_right _ _

/-- What the first bucket pays for a frame of a colour. -/
def paid (colour : Colour) (x : Nat) : Nat := if colour = .green then x else 0

/-- A frame coloured green has taken its units out of the first bucket; any other leaves that as it was. -/
theorem rfc2698_first (inc : Colour) (x : Nat) (b : Bucket) : ∃ c p, (rfc2698 inc x b).2 = ⟨b.entry, c, p, b.at_⟩
    ∧ paid (rfc2698 inc x b).1 x + c = b.c := by
  unfold rfc2698
  split
  · exact ⟨b.c, b.p, rfl, Nat.zero_add _⟩
  · split
    · exact ⟨b.c, b.p - x, rfl, Nat.zero_add _⟩
    · next h => exact ⟨b.c - x, b.p - x, rfl, Nat.add_sub_of_le (Nat.not_lt.mp fun hx => h (.inr hx))⟩

theorem rfc4115_first (inc : Colour) (x : Nat) (b : Bucket) : ∃ c p, (rfc4115 inc x b).2 = ⟨b.entry, c, p, b.at_⟩
    ∧ paid (rfc4115 inc x b).1 x + c = b.c := by
  unfold rfc4115
  split
  · next h => exact ⟨b.c - x, b.p, rfl, Nat.add_sub_of_le h.2⟩
  · split
    · exact ⟨b.c, b.p - x, rfl, Nat.zero_add _⟩
    · exact ⟨b.c, b.p, rfl, Nat.zero_add _⟩

/-- A policed frame: what it took, if green, and what is left are what the first bucket held. -/
theorem Mod.police_first (m : Mod) (e len dscp : Nat) (h : m.atEdge.flow e 0x0B ≠ 0) :
    paid (m.police e len dscp).1 ((len + m.atEdge.flow e 0x10) * bucketUnit) + ((m.police e len dscp).2.atEdge.bucket e).c
      ≤ (m.atEdge.bucket e).c := by
  unfold Mod.police
  dsimp only
  rw [if_neg h]
  generalize hcol : (if m.atEdge.flow e 0x0B ≤ 2 then rfc2698 else rfc4115) = colour
  obtain ⟨c, p, hb, hsum⟩ : ∃ c p,
      (colour (m.incoming (m.atEdge.flow e 0x0B) dscp) ((len + m.atEdge.flow e 0x10) * bucketUnit) (m.atEdge.bucket e)).2
        = ⟨(m.atEdge.bucket e).entry, c, p, (m.atEdge.bucket e).at_⟩
      ∧ paid (colour (m.incoming (m.atEdge.flow e 0x0B) dscp) ((len + m.atEdge.flow e 0x10) * bucketUnit) (m.atEdge.bucket e)).1
          ((len + m.atEdge.flow e 0x10) * bucketUnit) + c = (m.atEdge.bucket e).c := by
    rw [← hcol]
    split
    · exact rfc2698_first _ _ _
    · exact rfc4115_first _ _ _
  rw [hb, ← hsum]
  exact Nat.add_le_add_left (Mod.bucket_c_held (m := m.atEdge) (b := ⟨_, c, p, _⟩) (Mod.bucket_entry _ _) (Mod.bucket_at _ _)) _

/-- Policing changes no setting of an entry. -/
theorem Mod.police_flow (m : Mod) (e len dscp e' k : Nat) : (m.police e len dscp).2.atEdge.flow e' k = m.atEdge.flow e' k := by
  unfold Mod.police
  dsimp only
  split <;> rfl

/-- Whatever frames come, the green ones are paid for by the first bucket and its refills. -/
theorem Mod.greenUnits_le (e : Nat) (l : List (Nanos × Nat × Nat)) (m : Mod) (h : m.atEdge.flow e 0x0B ≠ 0) :
    m.greenUnits e l ≤ (m.atEdge.bucket e).c + m.atEdge.flow e 0x0C * (l.map fun x => x.1).sum := by
  induction l generalizing m with
  | nil => exact Nat.zero_le _
  | cons x r ih =>
    obtain ⟨d, len, dscp⟩ := x
    let m1 : Mod := { m with ctr := m.ctr + d }
    have hrest := ih (m1.police e len dscp).2 (by rwa [Mod.police_flow])
    have hfirst := m1.police_first e len dscp h
    have hlater : (m1.atEdge.bucket e).c ≤ (m.atEdge.bucket e).c + m.atEdge.flow e 0x0C * d := m.atEdge.bucket_c_later e d
    rw [Mod.police_flow] at hrest
    rw [List.map_cons, List.sum_cons, Nat.mul_add]
    change paid (m1.police e len dscp).1 ((len + m1.atEdge.flow e 0x10) * bucketUnit)
      + (m1.police e len dscp).2.greenUnits e r ≤ _
    have hcir : m1.atEdge.flow e 0x0C = m.atEdge.flow e 0x0C := rfl
    rw [hcir] at hrest
    show _ ≤ _ + (m.atEdge.flow e 0x0C * d + _)
    omega

/-- Settles O26: by induction on the frames, each paid for by the first bucket. -/
theorem greenFramesKeepTheCommittedRate : Obligations.GreenFramesKeepTheCommittedRate := by
  intro m e l h
  exact ⟨m.greenUnits_le e l h, m.atEdge.bucket_c_le e⟩

end Sys2Proof.Machine
end

section
/-! SUPPORT. Frames on closed routes and frames of another key (R300, R303). -/

namespace Sys2Proof.Machine

/-- A frame of a controller does what its effect is. -/
theorem does_preud {i : Instr} {s : State} {t : Nanos} {g : EventLog → Mod → Mod} {m' : Mod} (h : s.serves)
    (hg : ∀ e, g e (s.m.at t) = m') (hb : m'.rebooting = false) (he : exec i s = preudAct t g s) : Does i s m' :=
  he.trans (preudAct_next h (hg _) hb)

section
variable {m : Mod} {f : Frame}

/-- A frame of a session on a route that is not open only arrives. -/
theorem Mod.ofSession_closed (h : m.routeOpen f.route = false) (e : EventLog) (opcode : Nat) (take : Mod → Session → Mod) :
    m.ofSession e f opcode take = m.arrives f.route := by
  unfold Mod.ofSession
  dsimp only
  rw [Mod.routeOpen_arrives, h]
  rfl

/-- The same of a frame of the handshake. -/
theorem Mod.handshake_closed (h : m.routeOpen f.route = false) (e : EventLog) (take : Mod → Mod) :
    m.handshake e f take = m.arrives f.route := by
  unfold Mod.handshake
  dsimp only
  rw [Mod.routeOpen_arrives, h]
  rfl

/-- The same of a malformed one. -/
theorem Mod.malformed_closed {r : Route} (h : m.routeOpen r = false) (k : MalformedKind) : m.malformed r k = m.arrives r := by
  unfold Mod.malformed
  dsimp only
  rw [Mod.routeOpen_arrives, h]
  rfl

/-- What a frame of another key than its session's leaves: a failure of the MAC, counted and told. -/
theorem Mod.ofSession_otherKey {x : Session} (hr : m.routeOpen f.route = true) (hu : m.undisturbed) (hs : m.session f.sid = some x)
    (hk : f.key ≠ x.key) (e : EventLog) (opcode : Nat) (take : Mod → Session → Mod) :
    m.ofSession e f opcode take
      = ((m.arrives f.route).bump 0x1120 4).raiseLimited 0x1102 (routeNo f.route) second [routeNo f.route] := by
  unfold Mod.ofSession
  dsimp only
  rw [Mod.routeOpen_arrives, hr, Mod.lapse_undisturbed e (Mod.undisturbed_arrives f.route hu), Mod.session_arrives, hs]
  exact if_pos hk

end

/-- Settles O11: a closed route takes no frame further than its arrival, and another key none further than the MAC. -/
theorem unauthorisedFramesDoNothing : Obligations.UnauthorisedFramesDoNothing := by
  constructor
  · intro s t f hs hr m'
    have hb : m'.rebooting = false := by simpa [m'] using hs.2
    have hshake {c : Instr} {take : EventLog → Mod → Mod} (he : exec c s = preudAct t (fun e m => m.handshake e f (take e)) s) :
        Does c s m' := does_preud hs (fun e => Mod.handshake_closed hr e (take e)) hb he
    have hreq {c : Instr} {q : Req} (he : exec c s = preudAct t (fun e m => m.request e f q) s) : Does c s m' :=
      does_preud hs (fun e => Mod.ofSession_closed hr e q.opcode _) hb he
    exact ⟨fun role cnonce => hshake (take := fun e m => m.hello e.epoch f role.val cnonce) rfl,
      fun n => hshake (take := fun e m => m.openReq e f n) rfl, hreq rfl, hreq rfl, fun _ => hreq rfl, fun _ _ _ _ => hreq rfl,
      fun _ _ _ _ => hreq rfl, fun _ _ => ⟨hreq rfl, hreq rfl, hreq rfl⟩,
      fun tid o n d => does_preud (g := fun e m => m.dataFrame e f tid o n d) hs (fun e => Mod.ofSession_closed hr e _ _) hb rfl,
      fun op => does_preud (g := fun e m => m.unknownFrame e f op) hs (fun e => Mod.ofSession_closed hr e _ _) hb rfl,
      hreq rfl, hreq rfl, fun k => does_preud (t := t) (g := fun _ m => m.malformed f.route k) hs (fun _ => Mod.malformed_closed hr k) hb rfl⟩
  · intro s t f x hs hr hu hx hk m'
    have hb : m'.rebooting = false := by simpa [m'] using hs.2
    have hreq {c : Instr} {q : Req} (he : exec c s = preudAct t (fun e m => m.request e f q) s) : Does c s m' :=
      does_preud hs (fun e => Mod.ofSession_otherKey hr hu hx hk e q.opcode _) hb he
    exact ⟨hreq rfl, hreq rfl, fun _ => hreq rfl, fun _ _ _ _ => hreq rfl, fun _ _ _ _ => hreq rfl,
      fun _ _ => ⟨hreq rfl, hreq rfl⟩,
      fun n => does_preud (g := fun e m => m.ackFrame e f n) hs (fun e => Mod.ofSession_otherKey hr hu hx hk e _ _) hb rfl,
      fun tid o n d => does_preud (g := fun e m => m.dataFrame e f tid o n d) hs (fun e => Mod.ofSession_otherKey hr hu hx hk e _ _) hb rfl,
      hreq rfl,
      fun op => does_preud (g := fun e m => m.unknownFrame e f op) hs (fun e => Mod.ofSession_otherKey hr hu hx hk e _ _) hb rfl⟩

end Sys2Proof.Machine
end

section
/-! SUPPORT. What a write in its turn comes to (R4, R307, R310): the value its octets mean, what it does, and its answer. -/

namespace Sys2Proof.Machine

/-! ### Octets of a number -/

/-- The octets of a number, read on from a number before them. -/
theorem foldl_beOctets (n v a : Nat) :
    (beOctets n v).foldl (fun (a : Nat) (x : Byte) => a * 256 + x.toNat) a = a * 256 ^ n + v % 256 ^ n := by
  induction n generalizing a with
  | zero => simp [beOctets, Nat.mod_one]
  | succ n ih =>
    have hsplit : v % 256 ^ (n + 1) = v % 256 ^ n + 256 ^ n * (v / 256 ^ n % 256) := by rw [Nat.pow_succ, Nat.mod_mul]
    rw [beOctets, List.foldl_cons, ih, hsplit, BitVec.toNat_ofNat]
    ring

/-- A number that fits in its octets is what they read as. -/
theorem natOf_beOctets {n v : Nat} (h : v < 256 ^ n) : natOf (beOctets n v) = v := by
  rw [natOf, foldl_beOctets, Nat.mod_eq_of_lt h, Nat.zero_mul, Nat.zero_add]

/-- The types whose octets are a number without sign. -/
def Ty.counts : Ty → Bool
  | .u8 | .u16 | .u32 | .u64 | .bits32 | .enum8 | .bool => true
  | _ => false

/-- The value of such a type is the number its octets read as. -/
theorem decodeVal_counts {ty : Ty} {b : Octets} {v : Val} (hty : ty.counts = true) (h : decodeVal ty b = some v) :
    v = .num (natOf b) := by
  have sized {c : Prop} [Decidable c] (hc : (if c then some (.num (natOf b)) else none) = some v) : v = .num (natOf b) := by
    split at hc
    · exact (Option.some.inj hc).symm
    · cases hc
  cases ty with
  | bool =>
    unfold decodeVal at h
    dsimp only at h
    split at h
    · exact sized h
    · cases h
  | u8 | u16 | u32 | u64 | bits32 | enum8 => exact sized h
  | _ => cases hty

/-! ### The checks -/

/-- A write that passes its checks is of a field of the dictionary, with the value of its octets. -/
theorem Mod.writeChecked_ok {m : Mod} {w : Writer} {idx sub : Nat} {form : Form} {b : Octets} {fd : Field} {v : Val}
    (h : m.writeChecked w idx sub form b = .ok (fd, v)) : findField idx sub = some fd ∧ decodeVal fd.ty b = some v ∧ idx < 0x10000 := by
  unfold Mod.writeChecked at h
  split at h
  · cases h
  · next f hw =>
    have hfield : findField idx sub = some f ∧ idx < 0x10000 := by
      unfold Mod.writable at hw
      split at hw
      · cases hw
      · next hidx =>
        split at hw
        · cases hw
        · next g hg =>
          split at hw
          · cases hw
          · rw [Except.ok.inj hw] at hg
            exact ⟨hg, Nat.not_le.mp hidx⟩
    split at h
    · cases h
    · next u hu =>
      split at h
      · cases h
      · dsimp only at h
        split at h
        · cases h
        · obtain ⟨rfl, rfl⟩ := Prod.mk.inj (Except.ok.inj h)
          exact ⟨hfield.1, hu, hfield.2⟩

/-- An accepted write of a field whose type counts: its field, and the number as its value. -/
theorem Mod.accepts_counts {m : Mod} {f : Frame} {x : Session} {idx sub : Nat} {b : Octets} {acc : Acc}
    (h : m.accepts f x idx sub b) (hf : (findField idx sub).map (fun fd => (fd.ty.counts, fd.acc)) = some (true, acc)) :
    ∃ fd, fd.acc = acc ∧ (m.heardFrom f).writeChecked (x.writer f.route false) idx sub .direct b = .ok (fd, .num (natOf b)) := by
  obtain ⟨⟨fd, v⟩, hw⟩ := h
  obtain ⟨hfield, hval, -⟩ := Mod.writeChecked_ok hw
  rw [hfield, Option.map_some, Option.some.injEq, Prod.mk.injEq] at hf
  rw [decodeVal_counts hf.1 hval] at hw
  exact ⟨fd, hf.2, hw⟩

/-! ### What a write does -/

/-- The objects whose writes act on the module as such: resets, addresses, keys, images, firmware, the entry selector. -/
def performsItself (idx sub : Nat) : Bool :=
  idx = 0x1030 || idx = 0x1100 || idx = 0x1110 || (idx = 0x1180 && within sub 2 4) || (within idx 0x1181 0x1188 && sub = 5)
    || (idx = 0x1210 && within sub 1 3) || (idx = 0x3010 && sub = 1)

/-- A write of any other object commits its value. -/
theorem Mod.perform_commits (m : Mod) (w : Writer) (fd : Field) {idx sub : Nat} (v : Val) (form : Form)
    (h : performsItself idx sub = false) : m.perform w fd idx sub v form
      = (m.commit w fd idx sub v form, if form.isTimed then done (.applyTick (m.writeTick idx form)) else done .empty, .nothing) := by
  have hn : idx ≠ 0x1030 ∧ idx ≠ 0x1100 ∧ idx ≠ 0x1110 ∧ (idx = 0x1180 → sub ≠ 2 ∧ sub ≠ 3 ∧ sub ≠ 4)
      ∧ (within idx 0x1181 0x1188 = true → sub ≠ 5) ∧ (idx = 0x1210 → sub ≠ 1 ∧ sub ≠ 2 ∧ sub ≠ 3) ∧ (idx = 0x3010 → sub ≠ 1) := by
    unfold performsItself within at h
    unfold within
    simp only [Bool.or_eq_false_iff, decide_eq_false_iff_not, Bool.and_eq_false_iff, Bool.and_eq_true_iff, decide_eq_true_eq] at h ⊢
    omega
  obtain ⟨h1, h2, h3, h4, h5, h6, h7⟩ := hn
  unfold Mod.perform
  dsimp only
  rw [if_neg h1, if_neg h2, if_neg h3, if_neg, if_neg, if_neg, if_neg, if_neg, if_neg, if_neg, if_neg]
  all_goals
    simp only [Bool.and_eq_true_iff, decide_eq_true_eq]
    rintro ⟨ha, hb⟩
    simp_all

/-- A direct write of any other object commits its value. -/
theorem Mod.perform_commit (m : Mod) (w : Writer) (fd : Field) {idx sub : Nat} (v : Val) (h : performsItself idx sub = false) :
    m.perform w fd idx sub v .direct = (m.commit w fd idx sub v .direct, done .empty, .nothing) := m.perform_commits w fd v .direct h

/-! ### A write in its turn -/

section
variable {m : Mod} {f : Frame} {x : Session} {idx sub : Nat} {b : Octets}

/-- A write in its turn, whatever its form, is performed and answered. -/
theorem Mod.request_write (e : EventLog) (h : m.expects f x) (hr : m.runs = true) {staged : Bool} {m2 : Mod} {r : Reply} {a : After}
    (hw : (m.heardFrom f).writeReq (x.writer f.route false) idx sub (if staged then .staged else .direct) b = (m2, r, a))
    (hh : ((m2.replied f x.slot 0x11 r).afterwards f.sid a).noneHeld) :
    m.request e f (.write idx sub staged b) = (m2.replied f x.slot 0x11 r).afterwards f.sid a := by
  refine Mod.request_turn e (.write idx sub staged b) h (show 0x11 ≠ 0x30 by decide) ?_ hh
  rw [Mod.execute_full e { x with lastHeard := m.ctr } f _ h.2.2.2.2.1 (by rwa [Mod.runs, Mod.heardFrom_hw])]
  exact hw

/-- A direct write in its turn that passes its checks is performed. -/
theorem Mod.request_direct (e : EventLog) (h : m.expects f x) (hr : m.runs = true) {fd : Field} {v : Val}
    (hc : (m.heardFrom f).writeChecked (x.writer f.route false) idx sub .direct b = .ok (fd, v)) {m2 : Mod} {r : Reply} {a : After}
    (hp : (m.heardFrom f).perform (x.writer f.route false) fd idx sub v .direct = (m2, r, a))
    (hh : ((m2.replied f x.slot 0x11 r).afterwards f.sid a).noneHeld) :
    m.request e f (.write idx sub false b) = (m2.replied f x.slot 0x11 r).afterwards f.sid a := by
  refine Mod.request_write e h hr ?_ hh
  unfold Mod.writeReq
  rw [if_neg Bool.false_ne_true, hc]
  exact hp

end

end Sys2Proof.Machine
end

section
/-! SUPPORT. The statistics resets (R382, R395). -/

namespace Sys2Proof.Machine

/-! ### What a reset zeroes -/

/-- What leaving out keys makes of a lookup. -/
theorem Store.lookup_filter (st : Store) (p : Nat → Bool) (k : Nat) :
    Store.lookup (st.filter fun kv => p kv.1) k = if p k then st.lookup k else none := by
  induction st with
  | nil => simp [Store.lookup]
  | cons kv st ih =>
    obtain ⟨j, v⟩ := kv
    rw [List.filter_cons]
    by_cases hj : j = k
    · subst hj
      by_cases hp : p j = true <;> simp [hp, Store.lookup, ih]
    · by_cases hp : p j = true <;> simp [hp, Store.lookup, ih, hj]

/-- A key is within a range of indexes and subitems. -/
abbrev aimed (x : Nat × Nat × Nat × Nat) (i sub : Nat) : Prop := x.1 ≤ i ∧ i ≤ x.2.1 ∧ x.2.2.1 ≤ sub ∧ sub ≤ x.2.2.2

section
variable (m : Mod) (x : Nat × Nat × Nat × Nat) {i sub : Nat}

/-- Clearing a range makes its listed values unlisted. -/
theorem Mod.lookup_clearRange (hs : sub < 256) : (m.clearRange x.1 x.2.1 x.2.2.1 x.2.2.2).objs.lookup (keyOf i sub)
    = if aimed x i sub then none else m.objs.lookup (keyOf i sub) := by
  have hi : keyOf i sub / 256 = i := by unfold keyOf; omega
  have hsub : keyOf i sub % 256 = sub := by unfold keyOf; omega
  unfold Mod.clearRange
  rw [Store.lookup_filter m.objs fun k => !(within (k / 256) x.1 x.2.1 && within (k % 256) x.2.2.1 x.2.2.2), hi, hsub]
  simp only [within, Bool.not_eq_true', Bool.and_eq_false_iff, decide_eq_false_iff_not]
  split <;> split <;> first | rfl | omega

/-- Clearing above the fuse ID leaves the defaults. -/
theorem Mod.default_clearRange (h : 0x1000 < x.1) (j t : Nat) :
    (m.clearRange x.1 x.2.1 x.2.2.1 x.2.2.2).objs.default j t = m.objs.default j t := by
  have hl := m.lookup_clearRange x (i := 0x1000) (sub := 5) (by decide)
  rw [if_neg fun ha => absurd ha.1 (Nat.not_le.mpr h)] at hl
  unfold Store.default Store.fuse
  rw [hl]

theorem Mod.get_clearRange_aimed (h : 0x1000 < x.1) (hs : sub < 256) (ha : aimed x i sub) :
    (m.clearRange x.1 x.2.1 x.2.2.1 x.2.2.2).get i sub = m.objs.default i sub := by
  unfold Mod.get Store.get
  rw [m.lookup_clearRange x hs, if_pos ha, m.default_clearRange x h]

theorem Mod.get_clearRange_other (h : 0x1000 < x.1) (hs : sub < 256) (ha : ¬aimed x i sub) :
    (m.clearRange x.1 x.2.1 x.2.2.1 x.2.2.2).get i sub = m.get i sub := by
  unfold Mod.get Store.get
  rw [m.lookup_clearRange x hs, if_neg ha, m.default_clearRange x h]

end

/-- Ranges that begin above the identity of the module. -/
abbrev allAbove (l : List (Nat × Nat × Nat × Nat)) : Prop := ∀ x ∈ l, 0x1000 < x.1

theorem allAbove_bits {v base a b : Nat} (hb : 0x1000 < base) :
    allAbove (((List.range 32).filter fun n => v.testBit n).map fun n => (base + n, base + n, a, b)) := by
  intro x hx
  obtain ⟨n, -, rfl⟩ := List.mem_map.mp hx
  exact Nat.lt_add_right n hb

theorem allAbove_cons {x : Nat × Nat × Nat × Nat} {l : List (Nat × Nat × Nat × Nat)} (hx : 0x1000 < x.1) (hl : allAbove l) :
    allAbove (x :: l) := List.forall_mem_cons.mpr ⟨hx, hl⟩

theorem allAbove_append {l r : List (Nat × Nat × Nat × Nat)} (hl : allAbove l) (hr : allAbove r) : allAbove (l ++ r) :=
  List.forall_mem_append.mpr ⟨hl, hr⟩

theorem allAbove_ite {c : Prop} [Decidable c] {l r : List (Nat × Nat × Nat × Nat)} (hl : c → allAbove l) (hr : ¬c → allAbove r) :
    allAbove (if c then l else r) := by
  split
  · exact hl ‹_›
  · exact hr ‹_›

/-- Every range a reset names is above the identity of the module. -/
theorem resetTargets_above (idx v : Nat) : allAbove (resetTargets idx v) := by
  simp only [resetTargets, within, Bool.and_eq_true_iff, decide_eq_true_eq]
  repeat' refine allAbove_ite (fun _ => ?_) fun _ => ?_
  all_goals repeat' first
    | exact List.forall_mem_nil _
    | exact allAbove_bits (by decide)
    | refine allAbove_append ?_ ?_
    | refine allAbove_cons ?_ ?_
  all_goals
    dsimp only
    omega

/-- What clearing ranges one after another makes of an object. -/
theorem Mod.get_each_clearRange (l : List (Nat × Nat × Nat × Nat)) (m : Mod) {i sub : Nat} (hl : ∀ x ∈ l, 0x1000 < x.1) (hs : sub < 256) :
    ((∃ x ∈ l, aimed x i sub) → (m.each l fun (m : Mod) (x : Nat × Nat × Nat × Nat) =>
      (m.clearRange x.1 x.2.1 x.2.2.1 x.2.2.2).unsee x.1 x.2.1 x.2.2.1 x.2.2.2).get i sub = m.objs.default i sub)
    ∧ ((∀ x ∈ l, ¬aimed x i sub) → (m.each l fun (m : Mod) (x : Nat × Nat × Nat × Nat) =>
      (m.clearRange x.1 x.2.1 x.2.2.1 x.2.2.2).unsee x.1 x.2.1 x.2.2.1 x.2.2.2).get i sub = m.get i sub) := by
  induction l generalizing m with
  | nil => exact ⟨fun ⟨x, hx, _⟩ => absurd hx List.not_mem_nil, fun _ => rfl⟩
  | cons x l ih =>
    have hx := hl x List.mem_cons_self
    let m1 := (m.clearRange x.1 x.2.1 x.2.2.1 x.2.2.2).unsee x.1 x.2.1 x.2.2.1 x.2.2.2
    obtain ⟨hcl, hkeep⟩ := ih m1 fun y hy => hl y (List.mem_cons_of_mem x hy)
    have hd : m1.objs.default i sub = m.objs.default i sub := m.default_clearRange x hx i sub
    constructor
    · intro ⟨y, hy, ha⟩
      by_cases hr : ∃ z ∈ l, aimed z i sub
      · exact (hcl hr).trans hd
      · have hxa : aimed x i sub := by
          rcases List.mem_cons.mp hy with rfl | hy
          · exact ha
          · exact absurd ⟨y, hy, ha⟩ hr
        exact (hkeep fun z hz hza => hr ⟨z, hz, hza⟩).trans (m.get_clearRange_aimed x hx hs hxa)
    · intro hn
      exact (hkeep fun z hz => hn z (List.mem_cons_of_mem x hz)).trans (m.get_clearRange_other x hx hs (hn x List.mem_cons_self))

/-- Clearing the clock flags of some PLLs zeroes their 05 and 07 and leaves every other object. -/
theorem Mod.get_clearClockFlags (l : List Nat) (m : Mod) {k : Nat} (hk : k < 6) (hl : ∀ j ∈ l, j < 6) :
    let m' := m.each l fun (m : Mod) (k : Nat) => (m.put (0x1810 + k) 5 0).put (0x1810 + k) 7 0
    ((k ∈ l ∨ m.n (0x1810 + k) 5 = 0 ∧ m.n (0x1810 + k) 7 = 0) → m'.n (0x1810 + k) 5 = 0 ∧ m'.n (0x1810 + k) 7 = 0)
      ∧ ∀ sub < 256, sub ≠ 5 → sub ≠ 7 → m'.get (0x1810 + k) sub = m.get (0x1810 + k) sub := by
  induction l generalizing m with
  | nil => exact ⟨fun h => h.resolve_left List.not_mem_nil, fun _ _ _ _ => rfl⟩
  | cons j l ih =>
    have hj := hl j List.mem_cons_self
    obtain ⟨hzero, hkeep⟩ := ih ((m.put (0x1810 + j) 5 0).put (0x1810 + j) 7 0) fun i hi => hl i (List.mem_cons_of_mem j hi)
    have hget (sub : Nat) (hs : sub < 256) (hne : k = j → sub ≠ 5 ∧ sub ≠ 7) :
        ((m.put (0x1810 + j) 5 0).put (0x1810 + j) 7 0).get (0x1810 + k) sub = m.get (0x1810 + k) sub := by
      rw [Mod.get_put_other, Mod.get_put_other] <;> unfold keyOf <;> omega
    refine ⟨fun h => hzero ?_, fun sub hs h5 h7 => (hkeep sub hs h5 h7).trans (hget sub hs fun _ => ⟨h5, h7⟩)⟩
    by_cases hkj : k = j
    · subst hkj
      refine .inr ⟨?_, Mod.n_put_same _ _ _ _ (by unfold keyOf; omega)⟩
      unfold Mod.n
      rw [Mod.get_put_other _ _ (by unfold keyOf; omega) (by unfold keyOf; omega)]
      exact Mod.n_put_same _ _ _ _ (by unfold keyOf; omega)
    · refine h.imp (fun hm => (List.mem_cons.mp hm).resolve_left hkj) fun hz => ?_
      unfold Mod.n
      rw [hget 5 (by decide) fun h => absurd h hkj, hget 7 (by decide) fun h => absurd h hkj]
      exact hz

/-! ### The writes of reset objects -/

/-- A reset object's field: a number to be written. -/
abbrev resetField (idx sub : Nat) : Prop :=
  isResetObject idx sub = true ∧ performsItself idx sub = false ∧ idx ≠ 0x1433
    ∧ (findField idx sub).map (fun fd => (fd.ty.counts, fd.acc)) = some (true, .wo)

/-- A write of a reset object notes object and value for the next edge. -/
theorem does_reset {s : State} {t : Nanos} {f : Frame} {x : Session} {c : Instr} {idx sub v : Nat} {b : Octets} (hs : s.serves)
    (hx : (s.m.at t).expects f x) (hf : resetField idx sub) (hv : natOf b = v) (ha : (s.m.at t).accepts f x idx sub b)
    (he : exec c s = writeOf t f idx sub b s) :
    Does c s ((((s.m.at t).heardFrom f).modPreud fun p => { p with resets := p.resets ++ [(idx, v)] }).replied f x.slot 0x11
      (done .empty)) := by
  obtain ⟨hreset, hperf, hstep, hfield⟩ := hf
  obtain ⟨fd, hacc, hc⟩ := Mod.accepts_counts ha hfield
  have hp := ((s.m.at t).heardFrom f).perform_commit (x.writer f.route false) fd (.num (natOf b)) hperf
  have hcommit : ((s.m.at t).heardFrom f).commit (x.writer f.route false) fd idx sub (.num (natOf b)) .direct
      = ((s.m.at t).heardFrom f).modPreud fun p => { p with resets := p.resets ++ [(idx, v)] } := by
    unfold Mod.commit
    dsimp only
    rw [if_neg (by rw [hacc]; decide), if_neg hstep, if_pos hreset, ← hv]
    rfl
  rw [hcommit] at hp
  refine does_preud hs (fun e => Mod.request_direct e hx hs.1 hc hp ?_) ?_ he
  · exact Mod.noneHeld_replied f _ _ _ fun y hy => (Mod.noneHeld_heardFrom f (Mod.undisturbed_noneHeld hx.2.2.2.2.2)) y hy
  · simpa [Mod.afterwards] using hs.2

theorem resetField_refresh : ∀ r : Fin 128, resetField (0x5380 + r.val) 0x0A := by decide +kernel

/-- Settles O12: a reset is noted for the edge, where the ranges it names are made unlisted. -/
theorem statisticsResetsZeroWhatTheyName : Obligations.StatisticsResetsZeroWhatTheyName := by
  refine ⟨fun s t f x hs hx => ?_, fun m idx v i sub hidx _ => ?_, fun m v k => ?_⟩
  · have wide {n : Nat} {c : Instr} {idx v : Nat} (hf : resetField idx 0) (hv : v < 256 ^ n)
        (he : exec c s = writeOf t f idx 0 (beOctets n v) s) (ha : (s.m.at t).accepts f x idx 0 (beOctets n v)) :=
      does_reset hs hx hf (natOf_beOctets hv) ha he
    refine ⟨fun v hv => ⟨wide (by decide) hv rfl, wide (by decide) hv rfl⟩, fun v hv => wide (by decide) hv rfl,
      fun v hv => ⟨wide (by decide) hv rfl, wide (by decide) hv rfl, wide (by decide) hv rfl, wide (by decide) hv rfl,
        wide (by decide) hv rfl, wide (by decide) hv rfl, wide (by decide) hv rfl, wide (by decide) hv rfl, wide (by decide) hv rfl⟩,
      fun r ha => does_reset hs hx (resetField_refresh r) rfl ha rfl, fun ha => does_reset hs hx (by decide) rfl ha rfl,
      fun ha => does_reset hs hx (by decide) rfl ha rfl, fun ha => does_reset hs hx (by decide) rfl ha rfl,
      fun ha => does_reset hs hx (by decide) rfl ha rfl⟩
  · have hz : m.zero idx v = m.each (resetTargets idx v) fun (m : Mod) (x : Nat × Nat × Nat × Nat) =>
        (m.clearRange x.1 x.2.1 x.2.2.1 x.2.2.2).unsee x.1 x.2.1 x.2.2.1 x.2.2.2 := if_neg hidx
    rw [hz]
    exact ⟨fun h hs => (m.get_each_clearRange _ (resetTargets_above idx v) hs).1 h,
      fun h hs => (m.get_each_clearRange _ (resetTargets_above idx v) hs).2 h⟩
  · obtain ⟨hzero, hkeep⟩ := m.get_clearClockFlags (List.range 6) k.isLt fun j hj => List.mem_range.mp hj
    obtain ⟨h5, h7⟩ := hzero (.inl (List.mem_range.mpr k.isLt))
    exact ⟨h5, h7, hkeep⟩

end Sys2Proof.Machine
end

section
/-! SUPPORT. What an operation leaves of the objects. Objects are told apart by their key, index * 256 + subitem, so that a side
condition of these laws is a linear one; 0x100005 is the key of the fuse ID, on which some defaults rest. -/

namespace Sys2Proof.Machine

variable (m : Mod) {i s j t : Nat}

/-! ### Values set -/

@[simp] theorem Mod.get_set_frame (v : Val) (hf : i * 256 + s ≠ 0x100005) (hk : i * 256 + s ≠ j * 256 + t) : (m.set i s v).get j t = m.get j t := m.get_set_other v hf hk

@[simp] theorem Mod.get_put_frame (v : Nat) (hf : i * 256 + s ≠ 0x100005) (hk : i * 256 + s ≠ j * 256 + t) : (m.put i s v).get j t = m.get j t := m.get_set_other _ hf hk

@[simp] theorem Mod.get_putZ_frame (v : Int) (hf : i * 256 + s ≠ 0x100005) (hk : i * 256 + s ≠ j * 256 + t) : (m.putZ i s v).get j t = m.get j t := m.get_set_other _ hf hk

@[simp] theorem Mod.get_putB_frame (v : Octets) (hf : i * 256 + s ≠ 0x100005) (hk : i * 256 + s ≠ j * 256 + t) : (m.putB i s v).get j t = m.get j t := m.get_set_other _ hf hk

@[simp] theorem Mod.get_putFlag_frame (v : Bool) (hf : i * 256 + s ≠ 0x100005) (hk : i * 256 + s ≠ j * 256 + t) : (m.putFlag i s v).get j t = m.get j t := m.get_set_other _ hf hk

@[simp] theorem Mod.get_putBit_frame (b : Nat) (on : Bool) (hf : i * 256 + s ≠ 0x100005) (hk : i * 256 + s ≠ j * 256 + t) : (m.putBit i s b on).get j t = m.get j t := m.get_set_other _ hf hk

@[simp] theorem Mod.get_count_frame (k : Nat) (hf : i * 256 + s ≠ 0x100005) (hk : i * 256 + s ≠ j * 256 + t) : (m.count i s k).get j t = m.get j t := m.get_count_other k hf hk

@[simp] theorem Mod.get_bump_frame (hf : i * 256 + s ≠ 0x100005) (hk : i * 256 + s ≠ j * 256 + t) : (m.bump i s).get j t = m.get j t := m.get_count_other 1 hf hk

@[simp] theorem Mod.get_putFirst_frame (v : Int) (hf : i * 256 + s ≠ 0x100005) (hk : i * 256 + s ≠ j * 256 + t) : (m.putFirst i s v).get j t = m.get j t := m.get_set_other _ hf hk

@[simp] theorem Mod.get_putMax_frame (v : Int) (hf : i * 256 + s ≠ 0x100005) (hk : i * 256 + s ≠ j * 256 + t) :
    (m.putMax i s v).get j t = m.get j t := by
  unfold Mod.putMax
  split
  · exact m.get_putFirst_frame v hf hk
  · split
    · exact m.get_putZ_frame v hf hk
    · rfl

@[simp] theorem Mod.get_putMin_frame (v : Int) (hf : i * 256 + s ≠ 0x100005) (hk : i * 256 + s ≠ j * 256 + t) :
    (m.putMin i s v).get j t = m.get j t := by
  unfold Mod.putMin
  split
  · exact m.get_putFirst_frame v hf hk
  · split
    · exact m.get_putZ_frame v hf hk
    · rfl

/-- Unlisting some subitems of an index leaves every other object. -/
@[simp] theorem Mod.get_clear_frame (a b : Nat) (hf : 0x100005 < i * 256 + a ∨ i * 256 + b < 0x100005)
    (hk : j * 256 + t < i * 256 + a ∨ i * 256 + b < j * 256 + t) : (m.clear i a b).get j t = m.get j t := by
  have hl {k : Nat} (h : k < i * 256 + a ∨ i * 256 + b < k) : (m.clear i a b).objs.lookup k = m.objs.lookup k := by
    unfold Mod.clear
    rw [Store.lookup_filter m.objs fun k => !(keyOf i a ≤ k && k ≤ keyOf i b), if_pos]
    exact Bool.not_eq_true' _ |>.mpr (Bool.and_eq_false_iff.mpr
      (h.imp (fun h => decide_eq_false (Nat.not_le.mpr h)) fun h => decide_eq_false (Nat.not_le.mpr h)))
  unfold Mod.get Store.get Store.default Store.fuse
  rw [hl (k := keyOf j t) hk, hl (k := keyOf 0x1000 0x05) (hf.elim .inl .inr)]

/-! ### The value set -/

/-- A counter's value after it has counted: that of its type, and as it was where the dictionary has none. -/
def counted (i s old k : Nat) : Nat :=
  match findField (dictIdx i) s with
  | some f => advance f.ty old k
  | none => old

@[simp] theorem Mod.get_set_same_frame (v : Val) (hf : i * 256 + s ≠ 0x100005) : (m.set i s v).get i s = v := m.get_set_same i s v hf

@[simp] theorem Mod.get_put_same (v : Nat) (hf : i * 256 + s ≠ 0x100005) : (m.put i s v).get i s = .num v := m.get_set_same i s _ hf

@[simp] theorem Mod.get_putZ_same (v : Int) (hf : i * 256 + s ≠ 0x100005) : (m.putZ i s v).get i s = .num v := m.get_set_same i s _ hf

@[simp] theorem Mod.get_putB_same (v : Octets) (hf : i * 256 + s ≠ 0x100005) : (m.putB i s v).get i s = .bytes v :=
  m.get_set_same i s _ hf

@[simp] theorem Mod.get_putFlag_same (v : Bool) (hf : i * 256 + s ≠ 0x100005) :
    (m.putFlag i s v).get i s = .num (if v then 1 else 0 : Nat) := m.get_set_same i s _ hf

@[simp] theorem Mod.get_putBit_same (b : Nat) (on : Bool) (hf : i * 256 + s ≠ 0x100005) :
    (m.putBit i s b on).get i s = .num (setBit (m.n i s) b on) := m.get_set_same i s _ hf

@[simp] theorem Mod.n_count_same (k : Nat) (hf : i * 256 + s ≠ 0x100005) : (m.count i s k).n i s = counted i s (m.n i s) k := by
  unfold Mod.count counted
  cases findField (dictIdx i) s with
  | some f => exact m.n_put_same i s _ hf
  | none => rfl

@[simp] theorem Mod.n_bump_same (hf : i * 256 + s ≠ 0x100005) : (m.bump i s).n i s = counted i s (m.n i s) 1 := m.n_count_same 1 hf

/-- A number read back is the number. -/
@[simp] theorem Val.nat_num (v : Nat) : Val.nat (.num v) = v := rfl

/-! ### Events -/


@[simp] theorem Mod.get_raiseRaw_frame (c r v : Nat) (p : List Nat) (hq : j * 256 + t < 0x740000 ∨ 0x741100 ≤ j * 256 + t) : (m.raiseRaw c r v p).get j t = m.get j t := m.get_raiseRaw_quiet c r v p hq

@[simp] theorem Mod.get_raise_frame (c r : Nat) (p : List Nat) (hq : j * 256 + t < 0x740000 ∨ 0x741100 ≤ j * 256 + t) : (m.raise c r p).get j t = m.get j t := m.get_raise_quiet c r p hq

@[simp] theorem Mod.get_showConds_frame (hq : j * 256 + t < 0x740000 ∨ 0x741100 ≤ j * 256 + t) : (m.showConds).get j t = m.get j t := m.get_showConds_quiet hq

@[simp] theorem Mod.get_raiseCond_frame (c r : Nat) (p : List Nat) (hq : j * 256 + t < 0x740000 ∨ 0x741100 ≤ j * 256 + t) : (m.raiseCond c r p).get j t = m.get j t := m.get_raiseCond_quiet c r p hq

@[simp] theorem Mod.get_raiseAgain_frame (c r : Nat) (p : List Nat) (hq : j * 256 + t < 0x740000 ∨ 0x741100 ≤ j * 256 + t) : (m.raiseAgain c r p).get j t = m.get j t := by
  unfold Mod.raiseAgain
  split
  · exact m.get_raise_quiet c r p hq
  · exact m.get_raiseCond_quiet c r p hq

@[simp] theorem Mod.get_raiseClearIf_frame (c r : Nat) (g : Condition → Bool) (p : List Nat) (hq : j * 256 + t < 0x740000 ∨ 0x741100 ≤ j * 256 + t) : (m.raiseClearIf c r g p).get j t = m.get j t := m.get_raiseClearIf_quiet c r g p hq

@[simp] theorem Mod.get_raiseClear_frame (c r : Nat) (l p : List Nat) (hq : j * 256 + t < 0x740000 ∨ 0x741100 ≤ j * 256 + t) : (m.raiseClear c r l p).get j t = m.get j t := m.get_raiseClearIf_quiet c r _ p hq

@[simp] theorem Mod.get_raiseLimitedBy_frame (c r : Nat) (d : Nanos) (k : Nat) (p : List Nat) (hq : j * 256 + t < 0x740000 ∨ 0x741100 ≤ j * 256 + t) : (m.raiseLimitedBy c r d k p).get j t = m.get j t := m.get_raiseLimitedBy_quiet c r k d p hq

@[simp] theorem Mod.get_raiseLimited_frame (c r : Nat) (d : Nanos) (p : List Nat) (hq : j * 256 + t < 0x740000 ∨ 0x741100 ≤ j * 256 + t) : (m.raiseLimited c r d p).get j t = m.get j t := m.get_raiseLimitedBy_quiet c r 1 d p hq

/-! ### What has no objects -/

@[simp] theorem Mod.get_at (x : Nanos) : (m.at x).get j t = m.get j t := rfl

@[simp] theorem Mod.get_send (o : Output) : (m.send o).get j t = m.get j t := rfl

@[simp] theorem Mod.get_draw : (m.draw).get j t = m.get j t := rfl

@[simp] theorem Mod.get_drawN (k : Nat) : (m.drawN k).get j t = m.get j t := rfl

@[simp] theorem Mod.get_unsee (a b c d : Nat) : (m.unsee a b c d).get j t = m.get j t := rfl

@[simp] theorem Mod.get_modChan (n : Nat) (f : ChanS → ChanS) : (m.modChan n f).get j t = m.get j t := rfl

@[simp] theorem Mod.get_modRend (r : Nat) (f : RendS → RendS) : (m.modRend r f).get j t = m.get j t := rfl

@[simp] theorem Mod.get_modGroup (g : Nat) (f : GroupS → GroupS) : (m.modGroup g f).get j t = m.get j t := rfl

@[simp] theorem Mod.get_modCheck (k : Nat) (f : CheckS → CheckS) : (m.modCheck k f).get j t = m.get j t := rfl

@[simp] theorem Mod.get_modAudio (n flow : Nat) (f : AudioIn → AudioIn) : (m.modAudio n flow f).get j t = m.get j t := rfl

@[simp] theorem Mod.get_modAnc (n flow : Nat) (f : AncIn → AncIn) : (m.modAnc n flow f).get j t = m.get j t := rfl

@[simp] theorem Mod.get_modPic (r frame : Nat) (f : PicS → PicS) : (m.modPic r frame f).get j t = m.get j t := rfl

@[simp] theorem Mod.get_modDec (e : Nat) (f : DecodeS → DecodeS) : (m.modDec e f).get j t = m.get j t := rfl

@[simp] theorem Mod.get_modRing (r : Nat) (f : Ring → Ring) : (m.modRing r f).get j t = m.get j t := rfl

@[simp] theorem Mod.get_modSlot (s : Nat) (f : SlotS → SlotS) : (m.modSlot s f).get j t = m.get j t := rfl

@[simp] theorem Mod.get_modPortQ (n : Nat) (f : PortQ → PortQ) : (m.modPortQ n f).get j t = m.get j t := rfl

@[simp] theorem Mod.get_modServo (f : ServoS → ServoS) : (m.modServo f).get j t = m.get j t := rfl

@[simp] theorem Mod.get_modTwin (f : TwinS → TwinS) : (m.modTwin f).get j t = m.get j t := rfl

@[simp] theorem Mod.get_modMortar (f : MortarS → MortarS) : (m.modMortar f).get j t = m.get j t := rfl

@[simp] theorem Mod.get_modCal (f : CalS → CalS) : (m.modCal f).get j t = m.get j t := rfl

@[simp] theorem Mod.get_modBring (u : Nat) (f : BringS → BringS) : (m.modBring u f).get j t = m.get j t := rfl

@[simp] theorem Mod.get_modCage (q : Nat) (f : CageS → CageS) : (m.modCage q f).get j t = m.get j t := rfl

@[simp] theorem Mod.get_modPreud (f : PreudS → PreudS) : (m.modPreud f).get j t = m.get j t := rfl

@[simp] theorem Mod.get_modClk (f : ClockS → ClockS) : (m.modClk f).get j t = m.get j t := rfl

@[simp] theorem Mod.get_modHw (f : HwS → HwS) : (m.modHw f).get j t = m.get j t := rfl

@[simp] theorem Mod.get_modSession (sid : Nat) (f : Session → Session) : (m.modSession sid f).get j t = m.get j t := rfl

@[simp] theorem Mod.get_modTransfer (tid : Nat) (f : Transfer → Transfer) : (m.modTransfer tid f).get j t = m.get j t := rfl

@[simp] theorem Mod.get_modVideo (g : VideoTarget) (f : VideoIn → VideoIn) : (m.modVideo g f).get j t = m.get j t := by
  cases g <;> rfl

@[simp] theorem Mod.get_modRun (g : VideoTarget) (n : Nat) (f : Run → Run) : (m.modRun g n f).get j t = m.get j t := m.get_modVideo g _

end Sys2Proof.Machine
end

section
/-! SUPPORT. A request in its turn: what its answer adds to the outputs and leaves of the objects, and the commands that bring one. -/

namespace Sys2Proof.Machine

section
variable (m : Mod) (f : Frame) {j t : Nat}

/-! ### Outputs of an answer -/

@[simp] theorem Mod.sendOn_out (r : Route) (o : Output) : (m.sendOn r o).out = m.out ++ [o] := by
  unfold Mod.sendOn
  dsimp only
  split <;> simp [Mod.send]

@[simp] theorem Mod.answer_out (op : Nat) (r : Reply) :
    (m.answer f op r).out = m.out ++ [.reply f.route f.peer f.peerPort f.sid op f.req r] := m.sendOn_out _ _

@[simp] theorem Mod.replied_out (slot op : Nat) (r : Reply) :
    (m.replied f slot op r).out = m.out ++ [.reply f.route f.peer f.peerPort f.sid op f.req r] := by
  simp [Mod.replied]

/-! ### What of control an answer changes -/

/-- The sessions once a frame has been heard. -/
def heardSessions (l : List Session) (sid : Nat) (ctr : Nanos) : List Session :=
  l.map fun y => if y.sid = sid then { y with lastHeard := ctr } else y

/-- The sessions once a request has been answered. -/
def repliedSessions (l : List Session) (f : Frame) (r : Reply) : List Session :=
  l.map fun y => if y.sid = f.sid then { y with
    expected := f.req + 1, replies := (y.replies ++ [(f.req, r)]).drop (y.replies.length + 1 - 16) } else y

@[simp] theorem Mod.heardFrom_preud : (m.heardFrom f).preud = { m.preud with sessions := heardSessions m.preud.sessions f.sid m.ctr } := by
  simp [Mod.heardFrom, Mod.modSession, Mod.modPreud, heardSessions]

@[simp] theorem Mod.replied_preud (slot op : Nat) (r : Reply) :
    (m.replied f slot op r).preud = { m.preud with sessions := repliedSessions m.preud.sessions f r } := by
  simp [Mod.replied, Mod.modSession, Mod.modPreud, repliedSessions]

/-! ### Objects of an answer -/

/-- The indexes that no answer moves: those of sessions, of the service port and of the in-band ports are left out. -/
abbrev unanswered (j : Nat) : Prop := (j < 0x1121 ∨ 0x1140 < j) ∧ j ≠ 0x2610 ∧ (j < 0x3840 ∨ 0x385F < j)

@[simp] theorem Mod.get_arrives (r : Route) (h : j ≠ 0x2610) (ht : t < 256) : (m.arrives r).get j t = m.get j t := by
  unfold Mod.arrives
  split
  · exact m.get_bump_frame (by decide) (by omega)
  · rfl

@[simp] theorem Mod.get_heardFrom (h : j ≠ 0x2610) (ht : t < 256) : (m.heardFrom f).get j t = m.get j t :=
  m.get_arrives f.route h ht

@[simp] theorem Mod.get_countOwn (p q : Nat) (hp : p < 32) (hq : q < 255) (h : j < 0x3840 ∨ 0x385F < j) (ht : t < 256) :
    (m.countOwn p q).get j t = m.get j t := by
  unfold Mod.countOwn Mod.countSent
  rw [Mod.get_draw, Mod.get_count_frame, Mod.get_bump_frame] <;> omega

theorem maskPorts_lt {mask p : Nat} (h : p ∈ maskPorts mask) : p < 32 := List.mem_range.mp (List.mem_filter.mp h).1

@[simp] theorem Mod.get_sendOn (r : Route) (o : Output) (h : j ≠ 0x2610) (h' : j < 0x3840 ∨ 0x385F < j) (ht : t < 256) :
    (m.sendOn r o).get j t = m.get j t := by
  unfold Mod.sendOn
  dsimp only
  split
  · next p l hp =>
    rw [Mod.get_countOwn _ _ _ (maskPorts_lt (hp ▸ List.mem_cons_self)) (by decide) h' ht]
    rfl
  · rw [Mod.get_bump_frame _ (by decide) (by omega)]
    rfl
  · rfl

@[simp] theorem Mod.get_answer (op : Nat) (r : Reply) (h : j ≠ 0x2610) (h' : j < 0x3840 ∨ 0x385F < j) (ht : t < 256) :
    (m.answer f op r).get j t = m.get j t := m.get_sendOn _ _ h h' ht

theorem Mod.get_replied (slot op : Nat) (r : Reply) (h : unanswered j) (ht : t < 256) :
    (m.replied f slot op r).get j t = m.get j t := by
  obtain ⟨hs, h1, h2⟩ := h
  unfold Mod.replied slotObj
  rw [Mod.get_answer _ _ _ _ h1 h2 ht, Mod.get_bump_frame _ (by omega) (by omega)]
  rfl

end

/-! ### Commands that bring a frame of a session -/

section
variable {c : Instr} {s : State} {t : Nanos} {f : Frame} {x : Session}

theorem State.heardFrom_runs (hs : s.serves) : ((s.m.at t).heardFrom f).runs = true := by
  rw [Mod.runs, Mod.heardFrom_hw]
  exact hs.1

/-- What is asked of a full session's request: that it is executed to a module, its reply and what follows. -/
abbrev Mod.executes (m : Mod) (e : EventLog) (f : Frame) (x : Session) (q : Req) (m2 : Mod) (r : Reply) (a : After) : Prop :=
  (m.heardFrom f).execute e { x with lastHeard := m.ctr } f q = (m2, r, a)

/-- A command that brings a request in its turn does what the request does, and its answer. -/
theorem does_request {q : Req} {m2 : Mod} {r : Reply} {a : After} (hs : s.serves) (hx : (s.m.at t).expects f x)
    (he : exec c s = preudAct t (fun e m => m.request e f q) s) (hq : q.opcode ≠ 0x30)
    (hexec : ∀ e, (s.m.at t).executes e f x q m2 r a)
    (hh : ((m2.replied f x.slot q.opcode r).afterwards f.sid a).noneHeld)
    (hb : ((m2.replied f x.slot q.opcode r).afterwards f.sid a).rebooting = false) :
    Does c s ((m2.replied f x.slot q.opcode r).afterwards f.sid a) :=
  does_preud hs (fun e => Mod.request_turn e q hx hq (hexec e) hh) hb he

/-- The same, where only a property of the module after it is asked for. -/
theorem completes_request {q : Req} {m2 : Mod} {r : Reply} {a : After} {P : Mod → Prop} (hs : s.serves)
    (hx : (s.m.at t).expects f x) (he : exec c s = preudAct t (fun e m => m.request e f q) s) (hq : q.opcode ≠ 0x30)
    (hexec : (s.m.at t).executes s.events f x q m2 r a)
    (hh : ((m2.replied f x.slot q.opcode r).afterwards f.sid a).noneHeld)
    (hP : P ((m2.replied f x.slot q.opcode r).afterwards f.sid a)) (hp : ∀ m, P m → P { m with rebooting := false }) :
    Completes c s P :=
  completes_preud he hs (by
    rw [Mod.request_turn s.events q hx hq hexec hh]
    exact hP) hp

/-- The same of a request that nothing follows. -/
theorem completes_plain {q : Req} {m2 : Mod} {r : Reply} {P : Mod → Prop} (hs : s.serves)
    (hx : (s.m.at t).expects f x) (he : exec c s = preudAct t (fun e m => m.request e f q) s) (hq : q.opcode ≠ 0x30)
    (hexec : (s.m.at t).executes s.events f x q m2 r .nothing) (hh : m2.noneHeld)
    (hP : P (m2.replied f x.slot q.opcode r)) (hp : ∀ m, P m → P { m with rebooting := false }) : Completes c s P :=
  completes_request hs hx he hq hexec (Mod.noneHeld_replied f _ _ _ hh) hP hp

theorem does_plain {q : Req} {m2 : Mod} {r : Reply} (hs : s.serves)
    (hx : (s.m.at t).expects f x) (he : exec c s = preudAct t (fun e m => m.request e f q) s) (hq : q.opcode ≠ 0x30)
    (hexec : ∀ e, (s.m.at t).executes e f x q m2 r .nothing) (hh : m2.noneHeld) (hb : m2.rebooting = false) :
    Does c s (m2.replied f x.slot q.opcode r) :=
  does_request hs hx he hq hexec (Mod.noneHeld_replied f _ _ _ hh) ((Mod.replied_rebooting m2 f _ _ r).trans hb)

/-- What a full session's request comes to. -/
theorem Mod.executes_full {m : Mod} (e : EventLog) (q : Req) (hx : m.expects f x) (hr : m.runs = true) :
    (m.heardFrom f).execute e { x with lastHeard := m.ctr } f q = match q with
    | .close => (m.heardFrom f, done .empty, .close)
    | .keepalive => (m.heardFrom f, done .empty, .nothing)
    | .read l => (m.heardFrom f, (m.heardFrom f).readReq x.selector l, .nothing)
    | .write idx sub staged b =>
      (m.heardFrom f).writeReq (x.writer f.route false) idx sub (if staged then .staged else .direct) b
    | .timedWrite idx sub t b => (m.heardFrom f).timedWriteReq (x.writer f.route false) idx sub t b
    | .cancelTimed target sub kind applyTick =>
      (((m.heardFrom f).cancelReq { x with lastHeard := m.ctr } target sub kind applyTick).1,
        ((m.heardFrom f).cancelReq { x with lastHeard := m.ctr } target sub kind applyTick).2, .nothing)
    | .listTimed first => (m.heardFrom f,
        done (.timedList (m.heardFrom f).timedEntries.length (((m.heardFrom f).timedEntries.drop first).take 80)), .nothing)
    | .function fid cmd timed => (((m.heardFrom f).functionReq { x with lastHeard := m.ctr } fid cmd timed).1,
        ((m.heardFrom f).functionReq { x with lastHeard := m.ctr } fid cmd timed).2, .nothing)
    | .subscribe mask sev start => (((m.heardFrom f).subscribeReq e { x with lastHeard := m.ctr } mask sev start).1,
        ((m.heardFrom f).subscribeReq e { x with lastHeard := m.ctr } mask sev start).2, .nothing)
    | .bulkBegin idx sub wr staged length crc =>
      (((m.heardFrom f).bulkBegin (x.writer f.route true) idx sub wr staged length crc).1,
        ((m.heardFrom f).bulkBegin (x.writer f.route true) idx sub wr staged length crc).2, .nothing)
    | .bulkEnd tid => (m.heardFrom f).bulkEnd { x with lastHeard := m.ctr } f.route tid
    | .bulkAbort tid => (((m.heardFrom f).bulkAbort x.sid tid).1, ((m.heardFrom f).bulkAbort x.sid tid).2, .nothing) := by
  rw [Mod.execute_full e { x with lastHeard := m.ctr } f q hx.2.2.2.2.1 (by rwa [Mod.runs, Mod.heardFrom_hw])]
  cases q <;> rfl

end

end Sys2Proof.Machine
end

section
/-! SUPPORT. Plain requests, bad frames and local messages (R300, R302-R306, R309, R310). -/

namespace Sys2Proof.Machine

/-- A frame of a session that need not be in order is given to its handler. -/
theorem Mod.ofSession_attended {m : Mod} {f : Frame} {x : Session} (e : EventLog) (opcode : Nat) (take : Mod → Session → Mod)
    (h : m.attends f x) : m.ofSession e f opcode take = take (m.heardFrom f) x := by
  obtain ⟨hr, hs, hk, -, hu⟩ := h
  unfold Mod.ofSession
  dsimp only
  rw [Mod.routeOpen_arrives, hr, Mod.lapse_undisturbed e (Mod.undisturbed_arrives f.route hu), Mod.session_arrives, hs,
    Mod.arrives_ctr]
  exact if_neg (not_not_intro hk)

theorem Mod.heardFrom_noneHeld {m : Mod} {f : Frame} {x : Session} (h : m.expects f x) : (m.heardFrom f).noneHeld :=
  Mod.noneHeld_heardFrom f (Mod.undisturbed_noneHeld h.2.2.2.2.2)

/-- Settles O9: a frame that cannot be used is counted or answered as its fault says, a local message as its address says. -/
theorem badFramesAndLocalMessages : Obligations.BadFramesAndLocalMessages := by
  refine ⟨fun s t hs => ⟨fun r k hr hk => ?_, fun r hr => ?_, fun f x op hx => ?_⟩, fun s t r hs hr => ?_⟩
  · refine does_preud (t := t) (g := fun _ m => m.malformed r k) hs (fun _ => ?_) (by simpa using hs.2) rfl
    simp [Mod.malformed, Mod.routeOpen_arrives, hr, hk]
  · refine does_preud (t := t) (g := fun _ m => m.malformed r .mac) hs (fun _ => ?_) (by simpa using hs.2) rfl
    simp [Mod.malformed, Mod.routeOpen_arrives, hr, Mod.macFailure]
  · exact does_preud (g := fun e m => m.unknownFrame e f op) hs (fun e => Mod.ofSession_attended e op _ hx)
      (by simpa using hs.2) rfl
  · have hget (j k : Nat) (h : j ≠ 0x2610) (hk : k < 256) : ((s.m.at t).arrives r).n j k = (s.m.at t).n j k := by
      unfold Mod.n
      rw [Mod.get_arrives _ r h hk]
    have ha : ((s.m.at t).arrives r).routeAddress r = (s.m.at t).routeAddress r := by
      unfold Mod.routeAddress
      rw [hget 0x1100 1 (by decide) (by decide), hget 0x1100 4 (by decide) (by decide), hget 0x1100 9 (by decide) (by decide)]
    have hc : ((s.m.at t).arrives r).routeCarries r = true := by
      unfold Mod.routeCarries Mod.flag at hr ⊢
      rwa [hget 0x1100 7 (by decide) (by decide)]
    have hb : ((s.m.at t).arrives r).rebooting = false := by simpa using hs.2
    refine ⟨?_, fun i => ?_, fun k => ?_, fun a hne => ?_⟩
    · refine completes_preud (t := t) (g := fun _ m => m.localMsg r (.arp ((s.m.at t).routeAddress r))) rfl hs ?_ fun _ h => h
      simp [Mod.localMsg, hc, ha]
    · refine completes_preud (t := t) (g := fun _ m => m.localMsg r (.icmpEcho ((s.m.at t).routeAddress r) i)) rfl hs ?_ fun _ h => h
      simp [Mod.localMsg, hc, ha]
    · refine does_preud (t := t) (g := fun _ m => m.localMsg r (.other k)) hs (fun _ => ?_) hb rfl
      simp [Mod.localMsg, hc]
    · refine does_preud (t := t) (g := fun _ m => m.localMsg r (.arp a)) hs (fun _ => ?_) hb rfl
      simp [Mod.localMsg, hc, ha, hne]

/-! ### Sessions that end -/

section
variable (m : Mod)

/-- What one operation keeps, operating over a list keeps. -/
theorem Mod.each_keeps {α β : Type} (F : Mod → β) (l : List α) (g : Mod → α → Mod) (h : ∀ m x, F (g m x) = F m) :
    F (m.each l g) = F m := by
  unfold Mod.each
  induction l generalizing m with
  | nil => rfl
  | cons x l ih => exact (ih _).trans (h m x)

theorem Mod.discardOpen_sessions (fid cause : Nat) : (m.discardOpen fid cause).preud.sessions = m.preud.sessions := by
  unfold Mod.discardOpen
  split
  · rfl
  · split
    · rfl
    · rw [Mod.raise_preud]
      rfl

theorem Mod.dropTransfer_sessions (x : Transfer) : (m.dropTransfer x).preud.sessions = m.preud.sessions := by
  unfold Mod.dropTransfer
  dsimp only
  split <;> rfl

/-- A session that ends is a session no more. -/
theorem Mod.endSession_sessions (sid cause : Nat) :
    (m.endSession sid cause).preud.sessions = m.preud.sessions.filter fun y => y.sid ≠ sid := by
  unfold Mod.endSession
  split
  · next h =>
    exact (List.filter_eq_self.mpr fun y hy => by simpa using List.find?_eq_none.mp h y hy).symm
  · dsimp only
    have hdrop (m : Mod) (l : List Transfer) :
        (m.each l fun (m : Mod) (x : Transfer) => m.dropTransfer x).preud.sessions = m.preud.sessions :=
      m.each_keeps (fun m => m.preud.sessions) l _ fun m x => m.dropTransfer_sessions x
    have hdisc (m : Mod) (l : List ChangeSet) :
        (m.each l fun (m : Mod) (c : ChangeSet) => m.discardOpen c.fid 0).preud.sessions = m.preud.sessions :=
      m.each_keeps (fun m => m.preud.sessions) l _ fun m c => m.discardOpen_sessions c.fid 0
    have hshow (m : Mod) (b : Bool) : (m.showSessions.when b fun m => m.bump 0x1120 3).preud.sessions = m.preud.sessions := by
      unfold Mod.when
      split <;> simp [Mod.showSessions]
    rw [Mod.raise_preud, hshow, Mod.clear_preud, hdrop]
    exact congrArg _ (hdisc ..)

theorem Mod.session_endSession (sid cause : Nat) : (m.endSession sid cause).session sid = none := by
  unfold Mod.session
  rw [Mod.endSession_sessions]
  exact List.find?_eq_none.mpr fun y hy => by simpa using (List.mem_filter.mp hy).2

/-- The end of a session is told with its cause. -/
theorem Mod.endSession_told {m : Mod} {sid : Nat} {x : Session} (h : m.session sid = some x) (cause : Nat) :
    (m.endSession sid cause).told 0x1101 x.slot [sid, x.role, routeNo x.route, cause] := by
  unfold Mod.endSession
  rw [h]
  exact ⟨_, Mod.mem_raise _ _ _ _⟩

theorem Mod.endSession_out (sid cause : Nat) : (m.endSession sid cause).out = m.out := m.endSession_part sid cause (p := .out) (by decide)

theorem Mod.endSession_rebooting (sid cause : Nat) : (m.endSession sid cause).rebooting = m.rebooting :=
  m.endSession_part sid cause (p := .rebooting) (by decide)

theorem Mod.endSession_noneHeld {m : Mod} (sid cause : Nat) (h : m.noneHeld) : (m.endSession sid cause).noneHeld := by
  intro y hy
  rw [Mod.endSession_sessions] at hy
  exact h y (List.mem_filter.mp hy).1

/-- The session of a request answered has its reply kept and the next number expected. -/
theorem Mod.session_replied {m : Mod} {f : Frame} {x : Session} (h : m.session f.sid = some x) (slot op : Nat) (r : Reply) :
    (m.replied f slot op r).session f.sid = some { x with
      expected := f.req + 1, replies := (x.replies ++ [(f.req, r)]).drop (x.replies.length + 1 - 16) } := by
  have := m.session_modSession (fun y => { y with
    expected := f.req + 1, replies := (y.replies ++ [(f.req, r)]).drop (y.replies.length + 1 - 16) }) (fun _ => rfl) h
  unfold Mod.session at this ⊢
  unfold Mod.replied
  rwa [Mod.answer_preud, Mod.bump_preud]

end

/-- Settles O2: requests that ask for nothing but an answer get it, and CLOSE ends the session after it. -/
theorem plainRequestsAreAnswered : Obligations.PlainRequestsAreAnswered := by
  intro s t f x hs hx
  have hh := Mod.heardFrom_noneHeld hx
  have hb : ((s.m.at t).heardFrom f).rebooting = false := by simpa using hs.2
  refine ⟨?_, fun items l h0 h64 hl hlen => ?_, fun first => ?_, ?_⟩
  · exact does_plain (q := .keepalive) hs hx rfl (by decide) (fun e => Mod.executes_full e .keepalive hx hs.1) hh hb
  · refine does_plain (q := .read items) hs hx rfl (show 0x10 ≠ 0x30 by decide) (fun e => (Mod.executes_full e (.read items) hx hs.1).trans ?_) hh hb
    have hr : ((s.m.at t).heardFrom f).readReq x.selector items = done (.values l) := by
      unfold Mod.readReq
      rw [if_neg (by simpa [h0] using h64), hl]
      exact if_neg (Nat.not_lt.mpr hlen)
    dsimp only
    rw [hr]
  · refine does_plain (q := .listTimed first) hs hx rfl (show 0x14 ≠ 0x30 by decide)
      (fun e => (Mod.executes_full e (.listTimed first) hx hs.1).trans ?_) hh hb
    have htimed : ((s.m.at t).heardFrom f).timedEntries = (s.m.at t).timedEntries := by
      simp [Mod.timedEntries, Mod.heardFrom, Mod.modSession, Mod.modPreud]
    dsimp only
    rw [htimed]
  · have hx' := Mod.session_heardFrom (f := f) hx.2.1
    refine completes_request (q := .close) hs hx rfl (by decide) (Mod.executes_full s.events .close hx hs.1)
      (Mod.endSession_noneHeld _ _ (Mod.noneHeld_replied f _ _ _ hh))
      ⟨Mod.session_endSession _ _ _, ?_, Mod.endSession_told (Mod.session_replied hx' _ _ _) 1⟩ fun _ h => h
    simp only [Mod.afterwards]
    rw [Mod.endSession_out]
    simp [Req.opcode]

end Sys2Proof.Machine
end

section
/-! SUPPORT. Writes that take effect at once or are staged (R4, R310, R314). -/

namespace Sys2Proof.Machine

/-- The objects of layers and scalers that a direct write only sets. -/
abbrev plainIndex (idx : Nat) : Prop := (0x3800 ≤ idx ∧ idx ≤ 0x381F) ∨ (0x4A00 ≤ idx ∧ idx ≤ 0x4A7F)

theorem Mod.store_plain (m : Mod) (sel : Nat) {idx sub : Nat} (v : Val) (h : plainIndex idx) : m.store sel idx sub v = m.set idx sub v := by
  have hi : storeIdx sel idx sub = idx := if_neg (by simp only [Bool.and_eq_true_iff, decide_eq_true_eq]; omega)
  simp only [Mod.store, hi, within, Bool.and_eq_true_iff, decide_eq_true_eq]
  repeat rw [if_neg (by omega)]

theorem isResetObject_plain {idx sub : Nat} (h : plainIndex idx) : isResetObject idx sub = false := by
  simp only [isResetObject, within, Bool.or_eq_false_iff, Bool.and_eq_false_iff, decide_eq_false_iff_not]
  omega

/-- The objects of Table 20.2's functions and the plain ones are none of those that act as such. -/
theorem performsItself_media {idx sub : Nat} (h : plainIndex idx ∨ (0x4000 ≤ idx ∧ idx ≤ 0x60FF)) : performsItself idx sub = false := by
  simp only [performsItself, within, Bool.or_eq_false_iff, Bool.and_eq_false_iff, decide_eq_false_iff_not]
  omega

/-- Settles O3: an RW object's write commits by setting it, a staged one by entering the change set. -/
theorem plainWritesTakeEffect : Obligations.PlainWritesTakeEffect := by
  intro s t f x idx sub b fl v hs hx
  have hh := Mod.heardFrom_noneHeld hx
  have hb : ((s.m.at t).heardFrom f).rebooting = false := by simpa using hs.2
  refine ⟨fun hc hacc hidx => ?_, fun hc hlo hhi => ?_⟩
  · have hp := ((s.m.at t).heardFrom f).perform_commit (x.writer f.route false) fl v (performsItself_media (sub := sub) (.inl hidx))
    have hcommit : ((s.m.at t).heardFrom f).commit (x.writer f.route false) fl idx sub v .direct = ((s.m.at t).heardFrom f).set idx sub v := by
      unfold Mod.commit
      dsimp only
      rw [if_neg (by rw [hacc]; decide), if_neg (by omega), if_neg (by rw [isResetObject_plain hidx]; decide), Mod.store_plain _ _ _ hidx]
    rw [hcommit] at hp
    have hdoes {c : Instr} (he : exec c s = writeOf t f idx sub b s) :
        Does c s ((((s.m.at t).heardFrom f).set idx sub v).replied f x.slot 0x11 (done .empty)) :=
      does_preud hs (fun e => Mod.request_direct e hx hs.1 hc hp (Mod.noneHeld_replied f _ _ _ hh)) (by simpa [Mod.afterwards] using hs.2) he
    exact ⟨hdoes rfl, hdoes rfl⟩
  · have hp := ((s.m.at t).heardFrom f).perform_commits (x.writer f.route false) fl v .staged
      (performsItself_media (sub := sub) (.inr ⟨hlo, hhi⟩))
    have hw : ((s.m.at t).heardFrom f).writeReq (x.writer f.route false) idx sub (if true then .staged else .direct) b
        = (((s.m.at t).heardFrom f).stage idx sub v, done .empty, .nothing) := by
      unfold Mod.writeReq
      rw [if_pos rfl, hc]
      exact hp
    have hst : (((s.m.at t).heardFrom f).stage idx sub v).noneHeld ∧ (((s.m.at t).heardFrom f).stage idx sub v).rebooting = false := by
      unfold Mod.stage
      split <;> exact ⟨hh, hb⟩
    exact does_plain (q := .write idx sub true b) hs hx rfl (show 0x11 ≠ 0x30 by decide)
      (fun e => (Mod.executes_full e (.write idx sub true b) hx hs.1).trans hw) hst.1 hst.2

end Sys2Proof.Machine
end

section
/-! SUPPORT. Timed writes, function commands and change sets (R22, R23, R310-R314). -/

namespace Sys2Proof.Machine

/-! ### The state of a function -/

/-- Where the state of a function is read. -/
theorem fnObject_some {fid i k : Nat} (h : fnObject fid = some (i, k)) :
    k = 1 ∧ (i = 0x2000 ∨ i = 0x6001 ∨ (0x2440 ≤ i ∧ i ≤ 0x2447) ∨ (0x4100 ≤ i ∧ i ≤ 0x411F) ∨ (0x5080 ≤ i ∧ i ≤ 0x50FF)
      ∨ (0x5C80 ≤ i ∧ i ≤ 0x5C81)) := by
  simp only [fnObject, within, Bool.and_eq_true_iff, decide_eq_true_eq] at h
  grind

/-- A function's state is its object's, or for time and twin its own. -/
theorem Mod.fn_congr {a b : Mod} (fid : Nat) (h1 : a.timeFn = b.timeFn) (h2 : a.twinFn = b.twinFn)
    (hget : ∀ i, fnObject fid = some (i, 1) → a.get i 1 = b.get i 1) : a.fn fid = b.fn fid := by
  unfold Mod.fn
  rw [h1, h2]
  split
  · rfl
  · split
    · rfl
    · split
      · next i k h =>
        obtain ⟨rfl, -⟩ := fnObject_some h
        exact congrArg Val.nat (hget i h)
      · rfl

section
variable (m : Mod) (f : Frame) (fid : Nat)

theorem Mod.fn_heardFrom : (m.heardFrom f).fn fid = m.fn fid := by
  refine Mod.fn_congr fid (m.heardFrom_timeFn f) (m.heardFrom_twinFn f) fun i h => ?_
  have := fnObject_some h
  exact m.get_heardFrom f (by omega) (by decide)

theorem Mod.fn_replied (slot op : Nat) (r : Reply) : (m.replied f slot op r).fn fid = m.fn fid := by
  refine Mod.fn_congr fid (m.replied_timeFn f slot op r) (m.replied_twinFn f slot op r) fun i h => ?_
  have := fnObject_some h
  exact m.get_replied f slot op r (by omega) (by decide)

/-- A state set is the function's state. -/
theorem Mod.fn_setFn (st : Nat) (h : fnExists fid = true) : (m.setFn fid st).fn fid = st := by
  unfold Mod.setFn
  split
  · next h1 => simp [Mod.fn, h1]
  · next h1 =>
    split
    · next h4 => simp [Mod.fn, h4]
    · next h4 =>
      obtain ⟨⟨i, k⟩, hi⟩ : ∃ p, fnObject fid = some p := by
        refine Option.ne_none_iff_exists'.mp fun hn => ?_
        simp only [fnExists, within, Bool.or_eq_true_iff, Bool.and_eq_true_iff, decide_eq_true_eq] at h
        simp only [fnObject, within, Bool.and_eq_true_iff, decide_eq_true_eq] at hn
        grind
      obtain ⟨rfl, hrange⟩ := fnObject_some hi
      simp only [Mod.fn, h1, h4, if_false, hi]
      exact m.n_put_same i 1 st (by unfold keyOf; omega)

end

/-! ### Launch ticks -/

section
variable (m : Mod) (f : Frame)

theorem Mod.chanStep_heardFrom (n : Nat) : (m.heardFrom f).chanStep n = m.chanStep n := by
  unfold Mod.chanStep Mod.n
  rw [Mod.get_heardFrom _ _ (by omega) (by decide)]

theorem Mod.rendStep_heardFrom (r : Nat) : (m.heardFrom f).rendStep r = m.rendStep r := by
  unfold Mod.rendStep Mod.rendChan Mod.n
  rw [Mod.get_heardFrom _ _ (by omega) (by decide), Mod.chanStep_heardFrom]

theorem Mod.grainOf_heardFrom (idx : Nat) : (m.heardFrom f).grainOf idx = m.grainOf idx := by
  unfold Mod.grainOf
  split
  · rw [Mod.chanStep_heardFrom]
  split
  · rw [Mod.chanStep_heardFrom]
  split
  · rw [Mod.rendStep_heardFrom]
  split
  · rw [Mod.rendStep_heardFrom]
  split
  · next h =>
    have hidx : idx ≠ 0x2610 := by rintro rfl; exact absurd h (by decide)
    unfold Mod.n
    rw [Mod.get_heardFrom _ _ hidx (by decide), Mod.rendStep_heardFrom]
  · rfl

theorem Mod.fnGrain_heardFrom (fid : Nat) : (m.heardFrom f).fnGrain fid = m.fnGrain fid := by
  have hd (e : Nat) : (m.heardFrom f).decodeStep e = m.decodeStep e := by
    unfold Mod.decodeStep Mod.n
    rw [Mod.get_heardFrom _ _ (by omega) (by decide)]
  unfold Mod.fnGrain
  simp only [Mod.chanStep_heardFrom, Mod.rendStep_heardFrom, hd]

theorem Mod.timedApply_heardFrom (tn : Nanos) (g : Nat) : (m.heardFrom f).timedApply tn g = m.timedApply tn g := by
  unfold Mod.timedApply
  rw [Mod.heardFrom_fam]

theorem Mod.nextApply_heardFrom (g : Nat) : (m.heardFrom f).nextApply g = m.nextApply g := by
  unfold Mod.nextApply
  rw [Mod.heardFrom_fam, Mod.heardFrom_tick, Mod.heardFrom_now]

end

theorem Mod.session_sid {m : Mod} {sid : Nat} {x : Session} (h : m.session sid = some x) : x.sid = sid := by
  simpa using List.find?_some h

/-! ### Timed writes -/

/-- A field of timed writes is of no object that acts as such. -/
theorem performsItself_rt {idx sub : Nat} {fl : Field} (h : findField idx sub = some fl) (hacc : fl.acc = .rt) :
    performsItself idx sub = false := by
  have hgroup : ∀ i ∈ [0x1030, 0x1100, 0x1110, 0x1180, 0x1181, 0x1182, 0x1183, 0x1184, 0x1185, 0x1186, 0x1187, 0x1188, 0x1210, 0x3010],
      ((findGroup i).all fun g => g.1.fields.all fun f => f.acc ≠ .rt) = true := by decide
  by_contra hp
  have hidx : idx ∈ [0x1030, 0x1100, 0x1110, 0x1180, 0x1181, 0x1182, 0x1183, 0x1184, 0x1185, 0x1186, 0x1187, 0x1188, 0x1210, 0x3010] := by
    simp only [performsItself, within, Bool.not_eq_false, Bool.or_eq_true_iff, Bool.and_eq_true_iff, decide_eq_true_eq] at hp
    simp only [List.mem_cons, List.not_mem_nil, or_false]
    omega
  have hall := hgroup idx hidx
  unfold findField at h
  split at h
  · cases h
  · next g c hg =>
    rw [hg, Option.all_some, List.all_eq_true] at hall
    have := hall fl (List.mem_of_find?_eq_some h)
    simp [hacc] at this

theorem Mod.acceptRt_preud (m : Mod) (idx sub : Nat) (v : Val) : (m.acceptRt idx sub v).preud = m.preud := by
  unfold Mod.acceptRt
  split
  · split
    · exact m.put_preud _ _ _
    · rfl
  · split
    · exact m.put_preud _ _ _
    · rfl

/-- Settles O4: a timed write joins those that wait; one cancelled is among them no more. -/
theorem timedWritesWait : Obligations.TimedWritesWait := by
  intro s t f x hs hx
  have hh := Mod.heardFrom_noneHeld hx
  refine ⟨fun idx sub at_ tn b fl v hat hc hacc hpend => ?_, fun target sub applyTick w hrole hfind hfar => ?_⟩
  · have hp := ((s.m.at t).heardFrom f).perform_commits (x.writer f.route false) fl v (.timed tn)
      (performsItself_rt (Mod.writeChecked_ok hc).1 hacc)
    have htick : ((s.m.at t).heardFrom f).writeTick idx (.timed tn) = (s.m.at t).timedApply tn ((s.m.at t).grainOf idx) := by
      unfold Mod.writeTick
      dsimp only
      rw [Mod.timedApply_heardFrom, Mod.grainOf_heardFrom]
    have hcommit : ((s.m.at t).heardFrom f).commit (x.writer f.route false) fl idx sub v (.timed tn)
        = (((s.m.at t).heardFrom f).pendTimed (x.writer f.route false) idx sub v tn).acceptRt idx sub v := by
      refine if_neg fun h => hpend ?_
      simp only [within, Bool.and_eq_true_iff, decide_eq_true_eq] at h
      exact ⟨h.1.1.1, h.1.1.2, h.1.2, h.2⟩
    rw [hcommit, htick] at hp
    have hw : ((s.m.at t).heardFrom f).timedWriteReq (x.writer f.route false) idx sub at_ b
        = ((((s.m.at t).heardFrom f).pendTimed (x.writer f.route false) idx sub v tn).acceptRt idx sub v,
          done (.applyTick ((s.m.at t).timedApply tn ((s.m.at t).grainOf idx))), .nothing) := by
      unfold Mod.timedWriteReq
      rw [hat]
      dsimp only
      unfold Mod.writeReq
      rw [hc]
      exact hp
    have hsid : (x.writer f.route false).sid = f.sid := Mod.session_sid hx.2.1
    refine completes_plain (q := .timedWrite idx sub at_ b) hs hx rfl (show 0x12 ≠ 0x30 by decide)
      ((Mod.executes_full s.events (.timedWrite idx sub at_ b) hx hs.1).trans hw) ?_ ⟨?_, by simp [Req.opcode]⟩ fun _ h => h
    · intro y hy
      rw [Mod.acceptRt_preud] at hy
      exact hh y hy
    · simp [Mod.acceptRt_preud, Mod.pendTimed, Mod.showTimed, Mod.modPreud, htick, hsid]
  · have hx' : ((s.m.at t).heardFrom f).cancelReq { x with lastHeard := (s.m.at t).ctr } target sub 0 applyTick
        = (((s.m.at t).heardFrom f).cancelWrite w, done .empty) := by
      have hleast : ¬ x.role < (match findField target sub with | none => 0 | some f => leastRole f.acc target sub 0) := by
        split
        · exact Nat.not_lt_zero _
        · next g hg => exact Nat.not_lt.mpr (hrole g hg)
      have hfar' : ((s.m.at t).heardFrom f).cancelable applyTick = true := by
        simpa [Mod.cancelable] using hfar
      unfold Mod.cancelReq
      simp only [if_true]
      refine (if_neg hleast).trans ?_
      simp only [Mod.heardFrom_preud, hfind, hfar', if_true]
    have hp : (((s.m.at t).heardFrom f).cancelWrite w).preud
        = { ((s.m.at t).heardFrom f).preud with timed := (s.m.at t).preud.timed.filter fun y => y.order ≠ w.order } := by
      unfold Mod.cancelWrite
      dsimp only
      split
      · simp [Mod.showTimed, Mod.modPreud]
      · split <;> simp [Mod.showTimed, Mod.modPreud]
    refine completes_plain (q := .cancelTimed target sub 0 applyTick) hs hx rfl (show 0x13 ≠ 0x30 by decide)
      (m2 := ((s.m.at t).heardFrom f).cancelWrite w) (r := done .empty)
      ((Mod.executes_full s.events (.cancelTimed target sub 0 applyTick) hx hs.1).trans (by dsimp only; rw [hx'])) ?_
      ⟨fun y hy => ?_, by simp [Req.opcode]⟩ fun _ h => h
    · intro y hy
      rw [hp] at hy
      exact hh y hy
    · rw [Mod.replied_preud, hp] at hy
      simpa using (List.mem_filter.mp hy).2

end Sys2Proof.Machine
end

section
/-! SUPPORT. Change sets and function commands (R311-R314). -/

namespace Sys2Proof.Machine

section
variable {s : State} {t : Nanos} {f : Frame} {x : Session}

/-- A function request of an engineer that needs no launch time is the change set's. -/
theorem functionReq_changeSet (m : Mod) {x : Session} {fid cmd : Nat} (hr : 2 ≤ x.role) (hf : fnExists fid = true)
    (hc : cmd = 4 ∨ cmd = 5) : m.functionReq x fid cmd none = m.changeSetReq x fid cmd := by
  unfold Mod.functionReq
  dsimp only
  rw [if_neg (Nat.not_lt.mpr hr), if_neg (by rcases hc with rfl | rfl <;> simp [hf, within]), if_pos (by omega)]

/-- A request of the change set completes with the set it leaves. -/
theorem completes_changeSet {c : Instr} {fid cmd : Nat} {m2 : Mod} {P : Mod → Prop} (hs : s.serves) (hx : (s.m.at t).expects f x)
    (hr : 2 ≤ x.role) (hf : fnExists fid = true) (hc : cmd = 4 ∨ cmd = 5)
    (he : exec c s = preudAct t (fun e m => m.request e f (.function fid cmd none)) s)
    (hreq : ((s.m.at t).heardFrom f).changeSetReq { x with lastHeard := (s.m.at t).ctr } fid cmd = (m2, done (.applyTick 0)))
    (hh : m2.noneHeld) (hP : P (m2.replied f x.slot 0x20 (done (.applyTick 0)))) (hp : ∀ m, P m → P { m with rebooting := false }) :
    Completes c s P := by
  refine completes_plain (q := .function fid cmd none) hs hx he (show 0x20 ≠ 0x30 by decide)
    ((Mod.executes_full s.events (.function fid cmd none) hx hs.1).trans ?_) hh hP hp
  have hboth := (functionReq_changeSet (x := { x with lastHeard := (s.m.at t).ctr }) ((s.m.at t).heardFrom f) hr hf hc).trans hreq
  dsimp only
  rw [hboth]

end

/-- Settles O6: the two requests of a change set, on a session that may make them. -/
theorem changeSetsOpenAndClose : Obligations.ChangeSetsOpenAndClose := by
  intro s t f x fid hs hx hrole hfid
  have hh := Mod.heardFrom_noneHeld hx
  have hsid : x.sid = f.sid := Mod.session_sid hx.2.1
  refine ⟨fun hnone hrun => ?_, fun c hset howner hopen => ?_⟩
  · have hset : ((s.m.at t).heardFrom f).changeSet fid = none := by simpa [Mod.changeSet] using hnone
    have hfn : ((s.m.at t).heardFrom f).fn fid = running := (Mod.fn_heardFrom _ _ _).trans hrun
    have hreq : ((s.m.at t).heardFrom f).changeSetReq { x with lastHeard := (s.m.at t).ctr } fid 4
        = (((s.m.at t).heardFrom f).modPreud fun p => { p with changeSets := p.changeSets ++ [⟨fid, some f.sid, false, 0, []⟩] },
            done (.applyTick 0)) := by
      simp [Mod.changeSetReq, hset, hfn, hsid]
    exact completes_changeSet hs hx hrole hfid (.inl rfl) rfl hreq hh ⟨by simp [Mod.modPreud], by simp⟩ fun _ h => h
  · have hset' : ((s.m.at t).heardFrom f).changeSet fid = some c := by simpa [Mod.changeSet] using hset
    have hreq : ((s.m.at t).heardFrom f).changeSetReq { x with lastHeard := (s.m.at t).ctr } fid 5
        = (((s.m.at t).heardFrom f).removeChangeSet fid, done (.applyTick 0)) := by
      simp [Mod.changeSetReq, hset', howner, hopen, hsid]
    refine completes_changeSet hs hx hrole hfid (.inr rfl) rfl hreq hh ⟨?_, by simp [Mod.removeChangeSet]⟩ fun _ h => h
    simp [Mod.changeSet, Mod.removeChangeSet, Mod.modPreud]

/-! ### Commands that wait for their tick -/

section
variable (m : Mod)

/-- The command as it is accepted. -/
def Mod.newCmd (m : Mod) (x : Session) (fid cmd : Nat) (named : Option Nanos) (T : Nat) : FnCmd :=
  ⟨fid, cmd, T, named, false, x.sid, x.role, m.preud.nextOrder⟩

/-- The tick of a command that waits for no stop: the one it names, or the next of its function's grain. -/
def Mod.launchTick (m : Mod) (fid : Nat) (named : Option Nanos) : Nat :=
  match named with
  | some tn => m.timedApply tn (m.fnGrain fid)
  | none => m.nextApply (m.fnGrain fid)

theorem Mod.applyTickOf_free (y : FnCmd) (h : y.held = false) : m.applyTickOf y = (m.launchTick y.fid y.named, m.launchTick y.fid y.named) := by
  unfold Mod.applyTickOf Mod.launchTick
  cases y.named <;> simp [h]

/-- The module with a command that waits. -/
def Mod.waitingCmd (m : Mod) (y : FnCmd) : Mod :=
  (m.modPreud fun p => { p with fnCmds := p.fnCmds ++ [y], nextOrder := p.nextOrder + 1 }).showTimed

/-- A command that is not held by a stop is accepted. -/
theorem Mod.acceptCmd_free (x : Session) (fid cmd : Nat) (named : Option Nanos) (h : (cmd = 1 && m.fn fid = stopping) = false) :
    m.acceptCmd x fid cmd named =
      let T := m.launchTick fid named
      let m := m.waitingCmd (m.newCmd x fid cmd named T)
      if cmd = 1 then (m.setFn fid starting, T)
      else if cmd = 2 then (m.discardOpen fid 1, T)
      else (m.modPreud fun p => { p with changeSets := p.changeSets.map fun (c : ChangeSet) =>
        if c.fid = fid then { c with sealed := true, sealRole := x.role } else c }, T) := by
  unfold Mod.acceptCmd
  simp only [h, Bool.false_eq_true, if_false, Bool.false_and]
  rw [Mod.applyTickOf_free _ _ rfl]
  rfl

end

/-- A request for a function's command that passes its checks is accepted. -/
theorem Mod.functionReq_accepts (m : Mod) {x : Session} {fid cmd : Nat} {timed : Option TimeVal} (hr : 2 ≤ x.role)
    (hf : fnExists fid = true) (hc : within cmd 1 3 = true) (hv : ∀ v, timed = some v → v.nano < second)
    (hheld : (cmd = 1 && m.fn fid = stopping) = false) (hstart : cmd = 2 → m.fn fid ≠ starting)
    (hfault : m.cmdFault fid cmd (m.launchTick fid (timed.bind TimeVal_nanos)) (timed.bind TimeVal_nanos) = none) :
    m.functionReq x fid cmd timed = ((m.acceptCmd x fid cmd (timed.bind TimeVal_nanos)).1,
      done (.applyTick (m.acceptCmd x fid cmd (timed.bind TimeVal_nanos)).2)) := by
  have hcmd : 1 ≤ cmd ∧ cmd ≤ 3 := by simpa [within] using hc
  have htime : (match (generalizing := false) timed with | none => false | some x => decide (TimeVal_nanos x = none)) = false := by
    cases timed with
    | none => rfl
    | some v => simp [TimeVal_nanos, hv v rfl]
  have hok {b : Bool} (hb : b = false) : (!fnExists fid || !within cmd 1 5 || b) = false := by
    simp only [hb, hf, within, Bool.not_true, Bool.false_or, Bool.or_false, Bool.not_eq_false', Bool.and_eq_true_iff, decide_eq_true_eq]
    omega
  have htick := m.applyTickOf_free ⟨fid, cmd, 0, timed.bind TimeVal_nanos, cmd = 1 && m.fn fid = stopping, x.sid, x.role, 0⟩ hheld
  unfold Mod.functionReq
  dsimp only
  rw [if_neg (Nat.not_lt.mpr hr)]
  refine (if_neg (ne_true_of_eq_false (hok htime))).trans ?_
  rw [if_neg (by omega), htick]
  dsimp only
  rw [hfault]
  exact if_neg (by simp only [Bool.and_eq_true_iff, decide_eq_true_eq]; exact fun h => hstart h.1.1 h.2)

section
variable (m : Mod) (y : FnCmd) (f : Frame)

@[simp] theorem Mod.waitingCmd_preud :
    (m.waitingCmd y).preud = { m.preud with fnCmds := m.preud.fnCmds ++ [y], nextOrder := m.preud.nextOrder + 1 } := by
  simp [Mod.waitingCmd, Mod.showTimed, Mod.modPreud]

theorem Mod.setFn_preud (fid st : Nat) : (m.setFn fid st).preud = m.preud := m.setFn_part fid st (p := .preud) (by decide)

theorem Mod.discardOpen_fnCmds (fid cause : Nat) : (m.discardOpen fid cause).preud.fnCmds = m.preud.fnCmds := by
  unfold Mod.discardOpen
  split
  · rfl
  · split
    · rfl
    · rw [Mod.raise_preud]
      rfl

theorem Mod.launchTick_heardFrom (fid : Nat) (named : Option Nanos) : (m.heardFrom f).launchTick fid named = m.launchTick fid named := by
  unfold Mod.launchTick
  rw [Mod.fnGrain_heardFrom]
  split
  · rw [Mod.timedApply_heardFrom]
  · rw [Mod.nextApply_heardFrom]

end

/-- Settles O5: a command that passes its checks is accepted, and what it makes of function and change set is seen in the answer. -/
theorem functionCommandsWait : Obligations.FunctionCommandsWait := by
  intro s t f x fid timed named hs hx hrole hfid hnamed hv T answered
  subst hnamed
  have hh := Mod.heardFrom_noneHeld hx
  have hT : ((s.m.at t).heardFrom f).launchTick fid (timed.bind TimeVal_nanos) = T := Mod.launchTick_heardFrom _ _ _ _
  let x' : Session := { x with lastHeard := (s.m.at t).ctr }
  let m1 := (s.m.at t).heardFrom f
  have hfn : m1.fn fid = (s.m.at t).fn fid := Mod.fn_heardFrom _ _ _
  have hexec {c : Instr} {cmd : Nat} {m2 : Mod} {P : Mod → Prop} (hc : within cmd 1 3 = true)
      (hheld : (cmd = 1 && m1.fn fid = stopping) = false) (hstart : cmd = 2 → m1.fn fid ≠ starting)
      (hfault : m1.cmdFault fid cmd T (timed.bind TimeVal_nanos) = none)
      (he : exec c s = preudAct t (fun e m => m.request e f (.function fid cmd timed)) s)
      (hacc : m1.acceptCmd x' fid cmd (timed.bind TimeVal_nanos) = (m2, T)) (hn : m2.noneHeld)
      (hP : P (m2.replied f x.slot 0x20 (done (.applyTick T)))) (hp : ∀ m, P m → P { m with rebooting := false }) : Completes c s P := by
    refine completes_plain (q := .function fid cmd timed) hs hx he (show 0x20 ≠ 0x30 by decide)
      ((Mod.executes_full s.events (.function fid cmd timed) hx hs.1).trans ?_) hn hP hp
    have := m1.functionReq_accepts (x := x') hrole hfid hc hv hheld hstart (by rw [hT]; exact hfault)
    rw [hacc] at this
    dsimp only
    rw [this]
  refine ⟨fun hstopped hfault => ?_, fun hrun hfault => ?_, fun hfault => ?_⟩
  · have hheld : (decide (1 = 1) && m1.fn fid = stopping) = false := by rw [hfn, hstopped]; decide
    have hacc := m1.acceptCmd_free x' fid 1 (timed.bind TimeVal_nanos) hheld
    rw [hT] at hacc
    refine hexec rfl hheld (fun h => absurd h (by decide)) hfault rfl hacc (fun y hy => ?_)
      ⟨?_, ⟨m1.newCmd x' fid 1 (timed.bind TimeVal_nanos) T, ?_, rfl, rfl, rfl⟩, by simp [answered]⟩ fun _ h => h
    · rw [Mod.setFn_preud, Mod.waitingCmd_preud] at hy
      exact hh y hy
    · rw [Mod.fn_replied, Mod.fn_setFn _ _ _ hfid]
    · rw [Mod.replied_preud, Mod.setFn_preud, Mod.waitingCmd_preud]
      exact List.mem_append_right _ List.mem_cons_self
  · have hacc := m1.acceptCmd_free x' fid 2 (timed.bind TimeVal_nanos) rfl
    rw [hT] at hacc
    refine hexec rfl rfl (fun _ => by rw [hfn, hrun]; decide) hfault rfl hacc (fun y hy => ?_)
      ⟨⟨m1.newCmd x' fid 2 (timed.bind TimeVal_nanos) T, ?_, rfl, rfl, rfl⟩, by simp [answered]⟩ fun _ h => h
    · rw [Mod.discardOpen_sessions, Mod.waitingCmd_preud] at hy
      exact hh y hy
    · rw [Mod.replied_preud]
      show _ ∈ (Mod.discardOpen _ _ _).preud.fnCmds
      rw [Mod.discardOpen_fnCmds, Mod.waitingCmd_preud]
      exact List.mem_append_right _ List.mem_cons_self
  · have hacc := m1.acceptCmd_free x' fid 3 (timed.bind TimeVal_nanos) rfl
    rw [hT] at hacc
    refine hexec rfl rfl (fun h => absurd h (by decide)) hfault rfl hacc (fun y hy => ?_)
      ⟨⟨m1.newCmd x' fid 3 (timed.bind TimeVal_nanos) T, ?_, rfl, rfl, rfl⟩, ?_, by simp [answered]⟩ fun _ h => h
    · exact hh y (by simpa [Mod.modPreud, m1] using hy)
    · rw [Mod.replied_preud]
      simp only [Mod.modPreud, Mod.waitingCmd_preud]
      exact List.mem_append_right _ List.mem_cons_self
    · intro y hy hyf
      rw [Mod.replied_preud] at hy
      obtain ⟨z, -, rfl⟩ := List.mem_map.mp hy
      by_cases hz : z.fid = fid
      · simp [hz]
      · simp [hz] at hyf

end Sys2Proof.Machine
end

section
/-! SUPPORT. The handshake and what runs out (R305, R306, R308). -/

namespace Sys2Proof.Machine

/-- A frame of the handshake on an open route is taken as it arrives. -/
theorem Mod.handshake_open {m : Mod} {f : Frame} (hr : m.routeOpen f.route = true) (hu : m.undisturbed) (e : EventLog)
    (take : Mod → Mod) : m.handshake e f take = take (m.arrives f.route) := by
  unfold Mod.handshake
  dsimp only
  rw [Mod.routeOpen_arrives, hr, Mod.lapse_undisturbed e (Mod.undisturbed_arrives f.route hu)]
  rfl

/-- Among the numbers tried there is one that is neither 0 nor taken: they are all different, and one more than those. -/
theorem freeNumber_found {drawn n : Nat} {taken : List Nat} (h : taken.length + 2 ≤ n) :
    ∃ v ∈ (List.range (taken.length + 2)).map (fun i => (drawn + i) % n), v ∉ 0 :: taken := by
  by_contra hall
  have hsub : (List.range (taken.length + 2)).map (fun i => (drawn + i) % n) ⊆ 0 :: taken := by
    intro v hv
    by_contra hn
    exact hall ⟨v, hv, hn⟩
  have hnodup : ((List.range (taken.length + 2)).map fun i => (drawn + i) % n).Nodup := by
    refine List.Nodup.map_on (fun i hi j hj hij => ?_) List.nodup_range
    have hi := List.mem_range.mp hi
    have hj := List.mem_range.mp hj
    have hmod : i ≡ j [MOD n] := Nat.ModEq.add_left_cancel' drawn hij
    exact Nat.ModEq.eq_of_lt_of_lt hmod (by omega) (by omega)
  have := (List.subperm_of_subset hnodup hsub).length_le
  simp at this

theorem freeNumber_free {drawn n : Nat} {taken : List Nat} (h : taken.length + 2 ≤ n) :
    freeNumber drawn n taken ≠ 0 ∧ freeNumber drawn n taken < n ∧ freeNumber drawn n taken ∉ taken := by
  obtain ⟨w, hw, hfree⟩ := freeNumber_found (drawn := drawn) h
  obtain ⟨v, hv⟩ : ∃ v, ((List.range (taken.length + 2)).map fun i => (drawn + i) % n).find?
      (fun x => x ≠ 0 && !taken.contains x) = some v := by
    refine Option.isSome_iff_exists.mp (List.find?_isSome.mpr ⟨w, hw, ?_⟩)
    simpa using hfree
  have heq : freeNumber drawn n taken = v := by
    unfold freeNumber
    dsimp only
    rw [hv]
    rfl
  have hp := List.find?_some hv
  obtain ⟨i, -, hi⟩ := List.mem_map.mp (List.mem_of_find?_eq_some hv)
  rw [heq]
  refine ⟨by simp at hp; exact hp.1, ?_, by simp at hp; exact hp.2⟩
  rw [← hi]
  exact Nat.mod_lt _ (by omega)

theorem Mod.octets_arrives (m : Mod) (r : Route) {j k : Nat} (h : j ≠ 0x2610) (hk : k < 256) : (m.arrives r).octets j k = m.octets j k := by
  unfold Mod.octets
  rw [Mod.get_arrives _ _ h hk]

theorem Mod.fuse_arrives (m : Mod) (r : Route) : (m.arrives r).fuse = m.fuse := by
  unfold Mod.fuse Mod.n
  rw [Mod.get_arrives _ _ (by decide) (by decide)]

/-- Settles O1: HELLO with a held key leaves a challenge, OPEN with its key a session, under a number that is free. -/
theorem handshakeOpensASession : Obligations.HandshakeOpensASession := by
  refine ⟨fun s t f hs hr hu => ⟨fun role cnonce hkey hf hslots => ?_, fun c hfind hk => ?_⟩, fun drawn n taken h => freeNumber_free h⟩
  · refine completes_preud (g := fun e m => m.handshake e f fun m => m.hello e.epoch f role.val cnonce) rfl hs ?_ fun _ h => h
    rw [Mod.handshake_open hr hu]
    have hpow : ((s.m.at t).arrives f.route).hw.power ≠ .recovery := by
      rw [Mod.arrives_hw]
      exact Mod.runs_not_recovery hs.1
    have hok : ((s.m.at t).arrives f.route).octets 0x1110 (role.val + 1) = (s.m.at t).octets 0x1110 (role.val + 1) :=
      Mod.octets_arrives _ _ (by decide) (by omega)
    let m1 := (s.m.at t).arrives f.route
    have hpow' : m1.hw.power ≠ .recovery := hpow
    let key := (s.m.at t).octets 0x1110 (role.val + 1)
    let weak : Bool := role.val = roleService && key = [] && f.route = .service && f.key = .zero
    let sid := freeNumber (Config.sessionId m1.draws).toNat (2 ^ 32) m1.preud.usedSids
    let nonce := (Config.moduleNonce m1.draws).toNat
    let slot := ((List.range 32).find? fun s => !m1.slotsTaken.contains s).getD 0
    let c : Challenge := ⟨sid, slot, role.val, f.route, f.peer, f.peerPort, .session key cnonce nonce sid, weak, nonce, m1.ctr⟩
    have hhello : m1.hello s.events.epoch f role.val cnonce = (m1.draw.modPreud fun p => { p with
        challenges := p.challenges ++ [c], usedSids := p.usedSids ++ [sid] }).sendOn f.route
          (.challenge f.route f.peer f.peerPort sid nonce s.events.epoch m1.fuse 0) := by
      unfold Mod.hello
      dsimp only
      rw [hok, if_neg (by simp [hkey, hf, hpow']), if_neg (by simpa [Mod.slotsTaken, m1] using hslots)]
      rfl
    rw [hhello]
    refine ⟨c, by simp [Mod.modPreud, m1], rfl, by simp [c, m1], rfl, ?_⟩
    simp [m1, c, Mod.fuse_arrives]
  · refine completes_preud (g := fun e m => m.handshake e f fun m => m.openReq e f c.mnonce) rfl hs ?_ fun _ h => h
    rw [Mod.handshake_open hr hu]
    have hsid : c.sid = f.sid := by simpa using List.find?_some hfind
    unfold Mod.openReq
    rw [Mod.arrives_preud, hfind]
    dsimp only
    rw [if_neg (by simp [hk])]
    refine ⟨⟨c.sid, c.slot, c.role, c.route, f.peer, f.peerPort, c.key, c.weak, 1, [], [], (s.m.at t).ctr, none, [], 0⟩, ?_, hsid, rfl,
      rfl, ?_, ?_⟩
    · simp [Mod.showSessions, Mod.modPreud]
    · intro y hy
      simp only [Mod.answer_preud, Mod.raise_preud, Mod.bump_preud, Mod.showSessions, Mod.put_preud, Mod.modPreud, Mod.arrives_preud] at hy
      simpa [hsid] using (List.mem_filter.mp hy).2
    · refine ⟨severityOf 0x1101, ?_⟩
      rw [Mod.answer_raised, ← hsid]
      exact Mod.mem_raise _ _ _ _

end Sys2Proof.Machine
end

section
/-! SUPPORT. Challenges, sessions and gaps that run out (R305, R306, R308). -/

namespace Sys2Proof.Machine

/-- A session that holds nothing back is followed by no request. -/
theorem Mod.drainHeld_empty (e : EventLog) (sid n : Nat) {m : Mod} {x : Session} (h : m.session sid = some x) (hx : x.held = []) :
    Mod.drainHeld e sid n m = m := by
  cases n with
  | zero => rfl
  | succ n =>
    unfold Mod.drainHeld
    rw [h]
    dsimp only
    rw [hx]
    rfl

/-- A held request whose turn has come is run. -/
theorem Mod.drainHeld_one (e : EventLog) (sid n : Nat) {m : Mod} {x : Session} {at_ : Nanos} {f : Frame} {q : Req}
    (h : m.session sid = some x) (hx : x.held = [(x.expected, at_, f, q)]) :
    Mod.drainHeld e sid (n + 1) m = Mod.drainHeld e sid n
      ((m.modSession sid fun y => { y with held := y.held.filter fun z => z.1 ≠ x.expected }).turn e f q) := by
  rw [Mod.drainHeld]
  rw [h]
  dsimp only
  rw [hx]
  simp

/-- A keepalive in its turn is answered, and does nothing else. -/
theorem Mod.turn_keepalive (e : EventLog) {m : Mod} {f : Frame} {x : Session} (h : m.session f.sid = some x) (hw : x.weak = false)
    (hr : m.runs = true) : m.turn e f .keepalive = m.replied f x.slot 0x05 (done .empty) := by
  unfold Mod.turn
  rw [h]
  dsimp only
  rw [Mod.execute_full e x f .keepalive hw hr]
  rfl

/-- Settles O10: what has run out is taken away, and a gap skipped runs the request it held up. -/
theorem sessionsRunOut : Obligations.SessionsRunOut := by
  intro s t sid hs
  refine ⟨fun c hc hsid hout => ?_, fun x hx hout => ?_, fun x q at_ f hx hw hf hq hheld hout => ?_⟩
  · refine completes_preud (t := t) (g := fun _ m => m.expireChallenge sid) rfl hs ⟨fun h => ?_, fun y hy hne => ?_⟩ fun _ h => h
    · have := (List.mem_filter.mp h).2
      simp only [hsid, ne_eq, not_true_eq_false, decide_false, Bool.false_or, decide_eq_true_eq] at this
      exact Nat.not_lt.mpr hout this
    · exact List.mem_filter.mpr ⟨hy, by simp [hne]⟩
  · have hend : (s.m.at t).expireSession sid = (s.m.at t).endSession sid 2 := by
      unfold Mod.expireSession
      rw [hx]
      exact if_pos hout
    refine completes_preud (t := t) (g := fun _ m => m.expireSession sid) rfl hs ?_ fun _ h => h
    rw [hend]
    exact ⟨Mod.session_endSession _ _ _, Mod.endSession_told hx 2⟩
  · let m1 := (s.m.at t).modSession sid fun y => { y with expected := q }
    have hx1 : m1.session sid = some { x with expected := q } :=
      (s.m.at t).session_modSession (fun y => { y with expected := q }) (fun _ => rfl) hx
    let m2 := m1.modSession sid fun y => { y with held := y.held.filter fun z => z.1 ≠ q }
    have hx2 : m2.session sid = some { x with expected := q, held := [] } := by
      refine (m1.session_modSession (fun y => { y with held := y.held.filter fun z => z.1 ≠ q }) (fun _ => rfl) hx1).trans ?_
      simp [hheld]
    subst hf
    have hturn : m2.turn s.events f .keepalive = m2.replied f x.slot 0x05 (done .empty) := 
      Mod.turn_keepalive (x := { x with expected := q, held := [] }) s.events hx2 hw hs.1
    have hx3 := Mod.session_replied hx2 x.slot 0x05 (done .empty)
    have hskip : Mod.skipGaps s.events f.sid 1 (s.m.at t) = m2.replied f x.slot 0x05 (done .empty) := by
      rw [Mod.skipGaps]
      rw [hx]
      simp only [hheld, List.map_cons, List.map_nil, List.min?_singleton]
      rw [if_neg (Nat.not_lt.mpr hout)]
      show Mod.drainHeld s.events f.sid 8 m1 = _
      rw [Mod.drainHeld_one s.events f.sid 7 hx1 hheld, ← hturn]
      exact Mod.drainHeld_empty s.events f.sid 7 (hturn ▸ hx3) rfl
    refine completes_preud (t := t) (g := fun e m => Mod.skipGaps e f.sid 1 m) rfl hs ?_ fun _ h => h
    rw [hskip]
    exact ⟨⟨_, hx3, by rw [hq], rfl⟩, by simp [hq]⟩

end Sys2Proof.Machine
end

section
/-! SUPPORT. The delivery of events (R316, R317). -/

namespace Sys2Proof.Machine

/-- What a subscription is due of the log. -/
abbrev EventLog.due (e : EventLog) (x : Subscription) : List EventRec := e.log.filter fun r => x.next ≤ r.seq && x.takes r

section
variable {e : EventLog} {sid : Nat} {m : Mod} {y : Session} {x : Subscription} (n : Nat)

/-! ### One frame of a delivery -/

/-- A session without a subscription, or with 16 frames unacknowledged, is sent nothing. -/
theorem Mod.deliver_idle (h : m.session sid = some y) (hy : y.subscription = none ∨ 16 ≤ y.unacked.length) :
    Mod.deliver e sid n m = m := by
  cases n with
  | zero => rfl
  | succ n =>
    rw [Mod.deliver]
    rw [h]
    cases hs : y.subscription with
    | none => simp only [hs]
    | some x =>
      simp only [hs]
      exact if_pos (hy.resolve_left (by simp [hs]))

/-- A loss before what is held is told first. -/
theorem Mod.deliver_lost (h : m.session sid = some y) (hs : y.subscription = some x) (hu : y.unacked.length < 16)
    (hl : x.next < e.oldest) : Mod.deliver e sid (n + 1) m = Mod.deliver e sid n
      ((m.modSession sid fun y => { y with subscription := some { x with next := e.oldest } }).sendEvents y
        ⟨x.next, some (x.next, e.oldest - 1), [], m.ctr⟩) := by
  rw [Mod.deliver]
  rw [h]
  simp only [hs]
  rw [if_neg (Nat.not_le.mpr hu), if_pos hl]

/-- What is due goes out, 21 records at most in the frame. -/
theorem Mod.deliver_due {a : EventRec} (h : m.session sid = some y) (hs : y.subscription = some x) (hu : y.unacked.length < 16)
    (hl : e.oldest ≤ x.next) (hd : (e.due x).head? = some a) : ∃ m' : Mod, Mod.deliver e sid (n + 1) m = Mod.deliver e sid n
      (m'.sendEvents y ⟨a.seq, none, (e.due x).take 21, m.ctr⟩) := by
  obtain ⟨r, hr⟩ : ∃ r, (e.due x).take 21 = a :: r := by
    cases hdue : e.due x with
    | nil => rw [hdue] at hd; cases hd
    | cons b r =>
      rw [hdue] at hd
      cases hd
      exact ⟨_, rfl⟩
  obtain ⟨z, hz⟩ : ∃ z, ((e.due x).take 21).getLast? = some z := by
    rw [hr]
    exact ⟨_, List.getLast?_eq_some_getLast (List.cons_ne_nil a r)⟩
  refine ⟨m.modSession sid fun y => { y with subscription := some { x with next := z.seq + 1 } }, ?_⟩
  unfold EventLog.due at hr hz ⊢
  rw [Mod.deliver]
  rw [h]
  simp only [hs]
  rw [if_neg (Nat.not_le.mpr hu), if_neg (Nat.not_lt.mpr hl), hz]
  simp only [hr]
  rfl

/-- Where nothing is due the subscription moves on to the next event. -/
theorem Mod.deliver_none (h : m.session sid = some y) (hs : y.subscription = some x) (hu : y.unacked.length < 16)
    (hl : e.oldest ≤ x.next) (hd : e.due x = []) : Mod.deliver e sid (n + 1) m
      = m.modSession sid fun y => { y with subscription := some { x with next := max x.next e.next } } := by
  unfold EventLog.due at hd
  rw [Mod.deliver]
  rw [h]
  simp only [hs]
  rw [if_neg (Nat.not_le.mpr hu), if_neg (Nat.not_lt.mpr hl), hd]
  rfl

end

/-! ### A whole delivery -/

theorem Mod.sendEvents_out (m : Mod) (s : Session) (f : EventFrame) :
    (m.sendEvents s f).out = m.out ++ [.events s.route s.peer s.port s.sid f] := by
  simp [Mod.sendEvents]

/-- What every change of a session but of its held requests, and every frame sent, keeps, a delivery keeps. -/
theorem Mod.deliver_keeps {P : Mod → Prop} (e : EventLog) (sid n : Nat) {m : Mod} (h : P m)
    (hmod : ∀ m sid g, (∀ y : Session, (g y).held = y.held) → P m → P (m.modSession sid g))
    (hsend : ∀ m r o, P m → P (m.sendOn r o)) : P (Mod.deliver e sid n m) := by
  have hevents (m : Mod) (s : Session) (f : EventFrame) (h : P m) : P (m.sendEvents s f) :=
    hsend _ _ _ (hmod m s.sid (fun x => { x with unacked := (x.unacked.filter fun y => y.first ≠ f.first) ++ [f] }) (fun _ => rfl) h)
  induction n generalizing m with
  | zero => exact h
  | succ n ih =>
    rw [Mod.deliver]
    split
    · exact h
    · split
      · exact h
      · next x _ =>
        split
        · exact h
        · split
          · exact ih (hevents _ _ _ (hmod m sid (fun y => { y with subscription := some { x with next := e.oldest } }) (fun _ => rfl) h))
          · dsimp only
            split
            · next z _ _ =>
              exact ih (hevents _ _ _ (hmod m sid (fun y => { y with subscription := some { x with next := z.seq + 1 } }) (fun _ => rfl) h))
            · exact hmod m sid (fun y => { y with subscription := some { x with next := max x.next e.next } }) (fun _ => rfl) h

theorem Mod.mem_deliver {o : Output} (e : EventLog) (sid n : Nat) {m : Mod} (h : o ∈ m.out) : o ∈ (Mod.deliver e sid n m).out :=
  Mod.deliver_keeps (P := fun m => o ∈ m.out) e sid n h (fun _ _ _ _ h => h) fun m r o h => by
    rw [Mod.sendOn_out]
    exact List.mem_append_left _ h

theorem Mod.session_sendOn (m : Mod) (r : Route) (o : Output) (sid : Nat) : (m.sendOn r o).session sid = m.session sid := by
  unfold Mod.session
  rw [Mod.sendOn_preud]

theorem Mod.noneHeld_deliver (e : EventLog) (sid n : Nat) {m : Mod} (h : m.noneHeld) : (Mod.deliver e sid n m).noneHeld :=
  Mod.deliver_keeps e sid n h (fun m sid g hg h => Mod.noneHeld_modSession g (fun y hy => (hg y).trans hy) h) fun m r o h y hy =>
    h y (by rwa [Mod.sendOn_preud] at hy)

theorem Mod.deliver_rebooting (e : EventLog) (sid n : Nat) {m : Mod} (h : m.rebooting = false) : (Mod.deliver e sid n m).rebooting = false :=
  Mod.deliver_keeps (P := fun m => m.rebooting = false) e sid n h (fun _ _ _ _ h => h) fun m r o h =>
    (m.sendOn_part r o (p := .rebooting) (by decide)).trans h

/-- What is due is among what a delivery sends. -/
theorem Mod.deliver_sends {e : EventLog} {sid n : Nat} {m : Mod} {y : Session} {x : Subscription} {a : EventRec}
    (h : m.session sid = some y) (hs : y.subscription = some x) (hu : y.unacked.length < 16) (hl : e.oldest ≤ x.next)
    (hd : (e.due x).head? = some a) :
    Output.events y.route y.peer y.port y.sid ⟨a.seq, none, (e.due x).take 21, m.ctr⟩ ∈ (Mod.deliver e sid (n + 1) m).out := by
  obtain ⟨m', hm⟩ := Mod.deliver_due (e := e) n h hs hu hl hd
  rw [hm]
  refine Mod.mem_deliver _ _ _ ?_
  rw [Mod.sendEvents_out]
  exact List.mem_append_right _ List.mem_cons_self

/-- A loss is among what a delivery sends. -/
theorem Mod.deliver_sends_lost {e : EventLog} {sid n : Nat} {m : Mod} {y : Session} {x : Subscription}
    (h : m.session sid = some y) (hs : y.subscription = some x) (hu : y.unacked.length < 16) (hl : x.next < e.oldest) :
    Output.events y.route y.peer y.port y.sid ⟨x.next, some (x.next, e.oldest - 1), [], m.ctr⟩ ∈ (Mod.deliver e sid (n + 1) m).out := by
  rw [Mod.deliver_lost (e := e) n h hs hu hl]
  refine Mod.mem_deliver _ _ _ ?_
  rw [Mod.sendEvents_out]
  exact List.mem_append_right _ List.mem_cons_self

/-! ### The requests of events -/

/-- The module when a subscription has been answered, and nothing has been delivered yet. -/
def Mod.subscribed (m : Mod) (e : EventLog) (f : Frame) (x : Session) (mask sev start : Nat) : Mod :=
  let r := (m.heardFrom f).subscribeReq e { x with lastHeard := m.ctr } mask sev start
  r.1.replied f x.slot 0x30 r.2

/-- A subscription in its turn is answered, then delivered. -/
theorem Mod.request_subscribe {m : Mod} {f : Frame} {x : Session} (e : EventLog) (mask sev start : Nat) (hx : m.expects f x)
    (hr : m.runs = true) : m.request e f (.subscribe mask sev start) = Mod.deliver e f.sid 17 (m.subscribed e f x mask sev start) := by
  have hexec := Mod.executes_full e (.subscribe mask sev start) hx hr
  have hh : (m.subscribed e f x mask sev start).noneHeld :=
    Mod.noneHeld_replied f _ _ _ (Mod.noneHeld_modSession _ (fun _ h => h) (Mod.heardFrom_noneHeld hx))
  obtain ⟨hopen, hs, hk, hn, hw, hu⟩ := hx
  have hturn : (m.heardFrom f).turn e f (.subscribe mask sev start) = Mod.deliver e f.sid 17 (m.subscribed e f x mask sev start) := by
    unfold Mod.turn
    rw [Mod.session_heardFrom hs]
    dsimp only
    rw [hexec]
    rfl
  have hof : m.request e f (.subscribe mask sev start) = (m.heardFrom f).sequence e x f (.subscribe mask sev start) :=
    Mod.ofSession_attended e _ _ ⟨hopen, hs, hk, hw, hu⟩
  rw [hof]
  unfold Mod.sequence
  rw [if_pos hn, hturn]
  exact Mod.drainHeld_none e f.sid 8 (Mod.noneHeld_deliver e f.sid 17 hh)

/-- The session of a subscription answered. -/
theorem Mod.session_subscribed {m : Mod} {f : Frame} {x : Session} (e : EventLog) (mask sev start : Nat) (h : m.session f.sid = some x) :
    ∃ y, (m.subscribed e f x mask sev start).session f.sid = some y ∧ y.unacked = [] ∧ y.route = x.route ∧ y.peer = x.peer
      ∧ y.port = x.port ∧ y.sid = f.sid ∧ y.subscription = if mask = 0 then none else
        some ⟨mask, sev, if start = 2 ^ 64 - 1 then m.nextEvent e else start⟩ := by
  have hsid := Mod.session_sid h
  have hnext : (m.heardFrom f).nextEvent e = m.nextEvent e := by simp [Mod.nextEvent]
  have hheard := Mod.session_heardFrom h
  rw [← hsid] at hheard
  have hsub := (m.heardFrom f).session_modSession (fun y => { y with
    subscription := if mask = 0 then none else some ⟨mask, sev, if start = 2 ^ 64 - 1 then (m.heardFrom f).nextEvent e else start⟩,
    unacked := [] }) (fun _ => rfl) hheard
  have hmod : ((m.heardFrom f).subscribeReq e { x with lastHeard := m.ctr } mask sev start).1.session f.sid = some { x with
      lastHeard := m.ctr
      subscription := if mask = 0 then none else some ⟨mask, sev, if start = 2 ^ 64 - 1 then (m.heardFrom f).nextEvent e else start⟩
      unacked := [] } := by
    rw [← hsid]
    exact hsub
  exact ⟨_, Mod.session_replied hmod x.slot 0x30 _, rfl, rfl, rfl, rfl, hsid, by rw [hnext]⟩

/-- Settles O7: a subscription, an acknowledgement and a resend, each followed by what is due. -/
theorem eventDelivery : Obligations.EventDelivery := by
  intro s t hs
  refine ⟨?_, ?_, fun sid first x g hx hg => ⟨fun hout => ?_, fun hin => ?_⟩⟩
  · intro f x mask sev start hx from_ due
    have hreq := Mod.request_subscribe s.events mask sev start hx hs.1
    obtain ⟨y, hy, hun, hroute, hpeer, hport, hsid, hsub⟩ := Mod.session_subscribed (f := f) s.events mask sev start hx.2.1
    refine completes_preud (g := fun e m => m.request e f (.subscribe mask sev start)) rfl hs ?_ fun _ h => h
    rw [hreq]
    have hshort : y.unacked.length < 16 := by rw [hun]; decide
    have hctr : ((s.m.at t).subscribed s.events f x mask sev start).ctr = (s.m.at t).ctr := by
      simp [Mod.subscribed, Mod.subscribeReq]
    refine ⟨Mod.mem_deliver _ _ _ ?_, fun h0 => ?_, fun h0 hold hd => ?_, fun a h0 hold hd => ?_, fun h0 hlost => ?_⟩
    · have hnext : ((s.m.at t).heardFrom f).nextEvent s.events = (s.m.at t).nextEvent s.events := by simp [Mod.nextEvent]
      simp [Mod.subscribed, Mod.subscribeReq, hnext]
    · rw [if_pos h0] at hsub
      exact ⟨y, by rw [Mod.deliver_idle 17 hy (.inl hsub)]; exact hy, hsub, hun⟩
    · rw [if_neg h0] at hsub
      rw [Mod.deliver_none 16 hy hsub hshort hold hd]
      exact ⟨_, Mod.session_modSession _ _ (fun _ => rfl) hy, rfl, hun⟩
    · rw [if_neg h0] at hsub
      have := Mod.deliver_sends (n := 16) hy hsub hshort hold hd
      rwa [hroute, hpeer, hport, hsid, hctr] at this
    · rw [if_neg h0] at hsub
      have := Mod.deliver_sends_lost (n := 16) hy hsub hshort hlost
      rwa [hroute, hpeer, hport, hsid, hctr] at this
  · intro f x first hx left m1
    have hsid := Mod.session_sid hx.2.1
    have hack : (s.m.at t).ackFrame s.events f first = Mod.deliver s.events f.sid 17 m1 := by
      have := Mod.ofSession_attended s.events 0x32
        (fun m s' => if s'.weak then m.answer f 0x32 (refuseAs roleDenied) else m.eventAck s.events s' first) hx
      rw [hx.2.2.2.1] at this
      refine this.trans ?_
      unfold Mod.eventAck
      rw [hsid]
      rfl
    have hb : m1.rebooting = false := by simpa [m1] using hs.2
    have hdoes {m' : Mod} (h : Mod.deliver s.events f.sid 17 m1 = m') (hb : m'.rebooting = false) : Does (.eventAck t f first) s m' :=
      preudAct_next (g := fun e m => m.ackFrame e f first) hs (hack.trans h) hb
    have hm1 := ((s.m.at t).heardFrom f).session_modSession
      (fun y => { y with unacked := y.unacked.filter fun g => g.first ≠ first }) (fun _ => rfl) (Mod.session_heardFrom hx.2.1)
    refine ⟨hdoes rfl (Mod.deliver_rebooting _ _ _ hb), fun hidle => hdoes (Mod.deliver_idle 17 hm1 hidle) hb,
      fun sub a hsub hleft hold hd => ?_⟩
    refine completes_preud (g := fun e m => m.ackFrame e f first) rfl hs ?_ fun _ h => h
    rw [hack]
    have := Mod.deliver_sends (n := 16) hm1 hsub hleft hold hd
    simpa [m1, hsid] using this
  · refine completes_preud (t := t) (g := fun _ m => m.eventResend sid first) rfl hs ?_ fun _ h => h
    unfold Mod.eventResend
    simp only [hx, hg]
    rw [if_neg (Nat.not_lt.mpr hout)]
    have hfirst : g.first = first := by simpa using List.find?_some hg
    have hy := (s.m.at t).session_modSession (fun y => { y with unacked := y.unacked.map fun z =>
      if z.first = first then { g with sentAt := (s.m.at t).ctr } else z }) (fun _ => rfl) hx
    refine ⟨?_, _, (Mod.session_sendOn _ _ _ _).trans hy, List.mem_map.mpr ⟨g, List.mem_of_find?_eq_some hg, if_pos hfirst⟩⟩
    rw [Mod.sendOn_out, Mod.session_sid hx]
    exact List.mem_append_right _ List.mem_cons_self
  · refine does_preud (t := t) (g := fun _ m => m.eventResend sid first) hs (fun _ => ?_) hs.2 rfl
    unfold Mod.eventResend
    simp only [hx, hg]
    exact if_pos hin

end Sys2Proof.Machine
end

section
/-! SUPPORT. Bulk transfers (R319, R320). -/

namespace Sys2Proof.Machine

section
variable {m : Mod} {sid tid : Nat} {y : Transfer}

theorem Mod.transfer_tid (h : m.transfer sid tid = some y) : y.tid = tid ∧ y.sid = sid := by
  simpa [Mod.transfer] using List.find?_some h

/-- A transfer changed is found changed. -/
theorem Mod.transfer_modTransfer (g : Transfer → Transfer) (hg : ∀ y, (g y).tid = y.tid ∧ (g y).sid = y.sid)
    (h : m.transfer sid tid = some y) : (m.modTransfer tid g).transfer sid tid = some (g y) := by
  unfold Mod.transfer at h ⊢
  show (m.preud.transfers.map fun x => if x.tid = tid then g x else x).find? (fun x => x.tid = tid && x.sid = sid) = _
  have hp : (fun x : Transfer => (x.tid = tid && x.sid = sid : Bool)) ∘ (fun x => if x.tid = tid then g x else x)
      = fun x => x.tid = tid && x.sid = sid := by
    funext x
    by_cases hx : x.tid = tid <;> simp [hx, hg]
  rw [List.find?_map, hp, h]
  exact congrArg some (if_pos (Mod.transfer_tid (m := m) h).1)

/-- A transfer dropped is gone, and with it every one of its number. -/
theorem Mod.dropTransfer_transfers (m : Mod) (y : Transfer) :
    (m.dropTransfer y).preud.transfers = m.preud.transfers.filter fun z => z.tid ≠ y.tid := by
  unfold Mod.dropTransfer
  dsimp only
  split <;> rfl

theorem Mod.transfer_dropTransfer (h : m.transfer sid tid = some y) : (m.dropTransfer y).transfer sid tid = none := by
  unfold Mod.transfer
  rw [Mod.dropTransfer_transfers, (Mod.transfer_tid h).1]
  exact List.find?_eq_none.mpr fun z hz => by
    have := (List.mem_filter.mp hz).2
    simp at this
    simp [this]

theorem Mod.noneHeld_dropTransfer (y : Transfer) (h : m.noneHeld) : (m.dropTransfer y).noneHeld := fun z hz =>
  h z (by rwa [Mod.dropTransfer_sessions] at hz)

theorem Mod.transfer_heardFrom (m : Mod) (f : Frame) (sid tid : Nat) : (m.heardFrom f).transfer sid tid = m.transfer sid tid := by
  simp [Mod.transfer]

theorem Mod.transfer_replied (m : Mod) (f : Frame) (slot op : Nat) (r : Reply) (sid tid : Nat) :
    (m.replied f slot op r).transfer sid tid = m.transfer sid tid := by
  simp [Mod.transfer]

end

/-- A BULK BEGIN that passes its checks opens the transfer. -/
theorem Mod.bulkBegin_opens (m : Mod) (w : Writer) {idx sub : Nat} {wr staged : Bool} {length crc : Nat}
    (h : m.bulkFault w idx sub wr staged length = none) : ∃ y : Transfer,
      (m.bulkBegin w idx sub wr staged length crc).1.preud = { m.preud with transfers := m.preud.transfers ++ [y] } ∧ y.sid = w.sid
        ∧ y.wr = wr ∧ y.sub = sub ∧ y.idx = storeIdx w.selector idx sub ∧ y.crc = crc ∧ y.chunks = [] ∧ y.failed = false := by
  have hpreud (m : Mod) (b : Bool) : (if b then m.put idx 1 1 else m).preud = m.preud := by split <;> rfl
  unfold Mod.bulkBegin
  rw [h]
  dsimp only
  rw [hpreud]
  exact ⟨_, rfl, rfl, rfl, rfl, rfl, rfl, rfl, rfl⟩

/-- A chunk of a write joins its transfer. -/
theorem Mod.bulkData_write (m : Mod) {sid tid offset len : Nat} {data : Octets} {y : Transfer} (h : m.transfer sid tid = some y)
    (hw : y.wr = true) (hf : y.failed = false) (h1 : 1 ≤ len) (h2 : len ≤ 1344) (ho : offset % 1344 = 0) (hd : data.length = len)
    (hl : offset + len ≤ y.length) (hlast : len = 1344 ∨ offset + len = y.length) :
    m.bulkData sid tid offset len data = (((m.modTransfer tid fun y => { y with heardAt := m.ctr }).modTransfer tid fun y =>
      { y with chunks := (y.chunks.filter fun c => c.1 ≠ offset) ++ [(offset, data)] }), done (.bulkChunk tid len offset [])) := by
  unfold Mod.bulkData
  rw [h]
  dsimp only
  rw [if_neg (by simp [within, h1, h2, ho, hd]), if_neg (Nat.not_lt.mpr hl), if_neg (by simp; omega), if_neg (by simp [hf]),
    if_neg (by simp [hw])]

/-- Settles O8: each bulk command's effect on the transfer it names. -/
theorem bulkTransfers : Obligations.BulkTransfers := by
  intro s t f x hs hx
  have hsid := Mod.session_sid hx.2.1
  have hexp (h : f.req = x.expected) : (s.m.at t).expects f x := ⟨hx.1, hx.2.1, hx.2.2.1, h, hx.2.2.2.1, hx.2.2.2.2⟩
  have hh := Mod.noneHeld_heardFrom f (Mod.undisturbed_noneHeld hx.2.2.2.2)
  refine ⟨fun idx sub wr staged length crc hreq hfault => ?_, fun tid offset len data y hy hwr hfail h1 h2 ho hd hl hlast => ?_,
    fun tid y hreq hy hwr hfail => ?_, fun tid y hreq hy => ?_, fun tid y hy hout => ?_⟩
  · obtain ⟨y, hp, hysid, hywr, hysub, hyidx, hycrc, hych, hyf⟩ := Mod.bulkBegin_opens (crc := crc) ((s.m.at t).heardFrom f) _ hfault
    refine completes_plain (q := .bulkBegin idx sub wr staged length crc) hs (hexp hreq) rfl (show 0x40 ≠ 0x30 by decide)
      (Mod.executes_full s.events (.bulkBegin idx sub wr staged length crc) (hexp hreq) hs.1) (fun z hz => ?_)
      ⟨y, ?_, hysid.trans hsid, hywr, hysub, hyidx, hycrc, hych, hyf⟩ fun _ h => h
    · rw [hp] at hz
      exact hh z hz
    · rw [Mod.replied_preud, hp]
      simp
  · refine completes_preud (g := fun e m => m.dataFrame e f tid offset len data) rfl hs ?_ fun _ h => h
    have hy' : ((s.m.at t).heardFrom f).transfer x.sid tid = some y := by rwa [Mod.transfer_heardFrom, hsid]
    have hdata : (s.m.at t).dataFrame s.events f tid offset len data = _ := Mod.ofSession_attended s.events 0x41 _ hx
    rw [hdata]
    simp only [hx.2.2.2.1, Bool.false_eq_true, if_false]
    rw [Mod.bulkData_write _ hy' hwr hfail h1 h2 ho hd hl hlast]
    have h3 := Mod.transfer_modTransfer (fun y => { y with heardAt := ((s.m.at t).heardFrom f).ctr }) (fun _ => ⟨rfl, rfl⟩) hy'
    have h4 := Mod.transfer_modTransfer (fun y => { y with chunks := (y.chunks.filter fun c => c.1 ≠ offset) ++ [(offset, data)] })
      (fun _ => ⟨rfl, rfl⟩) h3
    rw [hsid] at h4
    have hanswer (m : Mod) (r : Reply) : (m.answer f 0x41 r).transfer f.sid tid = m.transfer f.sid tid := by simp [Mod.transfer]
    exact ⟨⟨_, (hanswer _ _).trans h4, List.mem_append_right _ List.mem_cons_self,
      Mod.heardFrom_ctr _ _⟩, by simp⟩
  · have hy' : ((s.m.at t).heardFrom f).transfer x.sid tid = some y := by rwa [Mod.transfer_heardFrom, hsid]
    have hend : ((s.m.at t).heardFrom f).bulkEnd { x with lastHeard := (s.m.at t).ctr } f.route tid
        = (((s.m.at t).heardFrom f).dropTransfer y, done .empty, .nothing) := by
      unfold Mod.bulkEnd
      dsimp only
      rw [hy']
      simp [hfail, hwr]
    refine completes_plain (q := .bulkEnd tid) hs (hexp hreq) rfl (show 0x42 ≠ 0x30 by decide)
      ((Mod.executes_full s.events (.bulkEnd tid) (hexp hreq) hs.1).trans hend) (Mod.noneHeld_dropTransfer y hh)
      ⟨?_, by simp [Req.opcode]⟩ fun _ h => h
    rw [Mod.transfer_replied, ← hsid]
    exact Mod.transfer_dropTransfer hy'
  · have hy' : ((s.m.at t).heardFrom f).transfer x.sid tid = some y := by rwa [Mod.transfer_heardFrom, hsid]
    have habort : ((s.m.at t).heardFrom f).bulkAbort x.sid tid = (((s.m.at t).heardFrom f).dropTransfer y, done .empty) := by
      unfold Mod.bulkAbort
      rw [hy']
    refine completes_plain (q := .bulkAbort tid) hs (hexp hreq) rfl (show 0x43 ≠ 0x30 by decide)
      ((Mod.executes_full s.events (.bulkAbort tid) (hexp hreq) hs.1).trans (by dsimp only; rw [habort]))
      (Mod.noneHeld_dropTransfer y hh) ⟨?_, by simp [Req.opcode]⟩ fun _ h => h
    rw [Mod.transfer_replied, ← hsid]
    exact Mod.transfer_dropTransfer hy'
  · refine completes_preud (t := t) (g := fun _ m => m.bulkIdle tid) rfl hs ?_ fun _ h => h
    have hidle : (s.m.at t).bulkIdle tid = (s.m.at t).dropTransfer y := by
      unfold Mod.bulkIdle
      rw [hy]
      exact if_pos hout
    have htid : y.tid = tid := by simpa using List.find?_some hy
    rw [hidle]
    intro z hz
    rw [Mod.dropTransfer_transfers, htid] at hz
    simpa using (List.mem_filter.mp hz).2

end Sys2Proof.Machine
end

section
/-! SUPPORT. Writes that wait for the next edge (R4, R19). -/

namespace Sys2Proof.Machine

/-! ### The fields of an object with instances -/

/-- No index is of two groups of the dictionary. -/
theorem dictionary_disjoint : dictionary.Pairwise fun a b => a.base + a.count ≤ b.base ∨ b.base + b.count ≤ a.base := by
  decide +kernel

/-- In a list of disjoint groups the group of an index is found. -/
theorem find_group {l : List Group} (hl : l.Pairwise fun a b => a.base + a.count ≤ b.base ∨ b.base + b.count ≤ a.base) {g : Group}
    (hg : g ∈ l) {idx : Nat} (h1 : g.base ≤ idx) (h2 : idx < g.base + g.count) :
    l.find? (fun g => g.base ≤ idx && idx < g.base + g.count) = some g := by
  induction l with
  | nil => cases hg
  | cons a l ih =>
    obtain ⟨hhead, htail⟩ := List.pairwise_cons.mp hl
    rw [List.find?_cons]
    rcases List.mem_cons.mp hg with rfl | hg
    · simp [h1, h2]
    · have hno : (a.base ≤ idx && idx < a.base + a.count : Bool) = false := by
        have := hhead g hg
        simp only [Bool.and_eq_false_iff, decide_eq_false_iff_not]
        omega
      rw [hno]
      exact ih htail hg

/-- The instances of an object have the fields of the first. -/
theorem findField_instance {base count k : Nat} (h : (dictionary.any fun g => g.base = base && count ≤ g.count) = true) (hk : k < count)
    (sub : Nat) : findField (base + k) sub = findField base sub := by
  obtain ⟨g, hg, hp⟩ := List.any_eq_true.mp h
  simp only [Bool.and_eq_true_iff, decide_eq_true_eq] at hp
  obtain ⟨rfl, hc⟩ := hp
  unfold findField findGroup
  rw [find_group dictionary_disjoint hg (Nat.le_add_right _ _) (by omega), find_group dictionary_disjoint hg le_rfl (by omega)]
  rfl

/-! ### Fields of real-time writes -/

/-- A field of real-time writes, whose type counts. -/
abbrev rtField (idx sub : Nat) : Prop :=
  (findField idx sub).map (fun fd => (fd.ty.counts, fd.acc)) = some (true, .rt) ∧ performsItself idx sub = false

/-- The real-time fields of the dictionary, group by group. -/
theorem rtFields : (∀ n : Fin 32, rtField (0x4900 + n.val) 1) ∧ (∀ k : Fin 16, rtField (0x6200 + k.val) 1)
    ∧ (∀ q : Fin 9, rtField (0x2400 + q.val) 0x0A) ∧ (∀ k : Fin 16, rtField (0x7440 + k.val) 7) ∧ (∀ g : Fin 32, rtField (0x5600 + g.val) 1)
    ∧ ∀ k : Fin 32, (findField 0x3100 (1 + k.val)).map (fun fd => (fd.ty.counts, fd.acc)) = some (true, .rt) := by decide +kernel

theorem rtField_commit : ∀ n : Fin 32, rtField (0x4900 + n.val) 1 := rtFields.1

theorem rtField_clip : ∀ k : Fin 16, rtField (0x6200 + k.val) 1 := rtFields.2.1

theorem rtField_retest : ∀ q : Fin 9, rtField (0x2400 + q.val) 0x0A := rtFields.2.2.1

theorem rtField_check : ∀ k : Fin 16, rtField (0x7440 + k.val) 7 := rtFields.2.2.2.1

theorem rtField_groupRate : ∀ g : Fin 32, rtField (0x5600 + g.val) 1 := rtFields.2.2.2.2.1

theorem rtField_legMask (e : Fin 32768) : rtField (0x3100 + e.val / 32) (1 + e.val % 32) := by
  obtain ⟨-, -, -, -, -, hfield⟩ := rtFields
  have := e.isLt
  refine ⟨?_, ?_⟩
  · rw [findField_instance (count := 1024) (by decide +kernel) (by omega)]
    exact hfield ⟨e.val % 32, Nat.mod_lt _ (by decide)⟩
  · simp only [performsItself, within, Bool.or_eq_false_iff, Bool.and_eq_false_iff, decide_eq_false_iff_not]
    omega

/-! ### What a real-time write leaves -/

section
variable (m : Mod) (idx sub : Nat) (v : Val)

/-- A real-time write waits for the next tick in the place of one of the same object; a clear may show that a clip starts no more. -/
theorem Mod.pendRt_eq : ∃ m1 : Mod, (m1 = m ∨ ∃ i k n, m1 = m.put i k n) ∧ m.pendRt idx sub v = m1.modPreud fun p => { p with rt :=
    (p.rt.filter fun x => !(x.idx = idx && x.sub = sub && x.applyTick = m.nextApply 1)) ++ [⟨idx, sub, v, m.nextApply 1⟩] } := by
  refine ⟨_, ?_, rfl⟩
  split
  · exact .inr ⟨_, _, _, rfl⟩
  · exact .inl rfl

theorem Mod.pendRt_preud : (m.pendRt idx sub v).preud = { m.preud with rt :=
    (m.preud.rt.filter fun x => !(x.idx = idx && x.sub = sub && x.applyTick = m.nextApply 1)) ++ [⟨idx, sub, v, m.nextApply 1⟩] } := by
  obtain ⟨m1, rfl | ⟨i, k, n, rfl⟩, h⟩ := m.pendRt_eq idx sub v
  · rw [h]
    rfl
  · rw [h]
    rfl

theorem Mod.pendRt_rebooting : (m.pendRt idx sub v).rebooting = m.rebooting := by
  obtain ⟨m1, rfl | ⟨i, k, n, rfl⟩, h⟩ := m.pendRt_eq idx sub v
  · rw [h]
    rfl
  · rw [h]
    rfl

theorem Mod.acceptRt_rebooting : (m.acceptRt idx sub v).rebooting = m.rebooting := by
  unfold Mod.acceptRt
  split
  · split
    · exact m.put_rebooting _ _ _
    · rfl
  · split
    · exact m.put_rebooting _ _ _
    · rfl

end

section
variable {s : State} {t : Nanos} {f : Frame} {x : Session} {c : Instr} {idx sub v : Nat} {b : Octets}

/-- A real-time write that is accepted waits, and is answered; what else its acceptance shows is seen in the answer. -/
theorem completes_rt (hs : s.serves) (hx : (s.m.at t).expects f x) (hf : performsItself idx sub = false) {acc : Acc}
    (hfd : (findField idx sub).map (fun fd => (fd.ty.counts, fd.acc)) = some (true, acc)) (hv : natOf b = v) {m2 : Mod}
    (hcommit : ∀ fd : Field, fd.acc = acc →
      ((s.m.at t).heardFrom f).commit (x.writer f.route false) fd idx sub (.num v) .direct = m2)
    (hm2 : m2.preud = (((s.m.at t).heardFrom f).pendRt idx sub (.num v)).preud) {also : Mod → Prop}
    (halso : also (m2.replied f x.slot 0x11 (done .empty))) (hp : ∀ m, also m → also { m with rebooting := false })
    (he : exec c s = writeOf t f idx sub b s) (ha : (s.m.at t).accepts f x idx sub b) :
    Completes c s fun m' => (⟨idx, sub, .num v, (s.m.at t).nextApply 1⟩ : RtWrite) ∈ m'.preud.rt
      ∧ Output.reply f.route f.peer f.peerPort f.sid 0x11 f.req (done .empty) ∈ m'.out ∧ also m' := by
  obtain ⟨fd, hacc, hc⟩ := Mod.accepts_counts ha hfd
  rw [hv] at hc
  have hp' := ((s.m.at t).heardFrom f).perform_commit (x.writer f.route false) fd (.num v) hf
  rw [hcommit fd hacc] at hp'
  have hsessions : m2.preud.sessions = ((s.m.at t).heardFrom f).preud.sessions := by rw [hm2, Mod.pendRt_preud]
  have hh : m2.noneHeld := fun y hy => Mod.heardFrom_noneHeld hx y (by rwa [hsessions] at hy)
  refine completes_preud (g := fun e m => m.request e f (.write idx sub false b)) he hs ?_ fun m h => ⟨h.1, h.2.1, hp m h.2.2⟩
  rw [Mod.request_direct s.events hx hs.1 hc hp' (Mod.noneHeld_replied f _ _ _ hh)]
  refine ⟨?_, by simp [Mod.afterwards], halso⟩
  simp only [Mod.afterwards]
  rw [Mod.replied_preud, hm2, Mod.pendRt_preud, Mod.nextApply_heardFrom]
  exact List.mem_append_right _ List.mem_cons_self

end

/-- The commit of a real-time write of which nothing is shown but that it waits. -/
theorem Mod.commit_rt (m : Mod) (w : Writer) {fd : Field} {idx sub : Nat} {v : Val} (hacc : fd.acc = .rt)
    (h1 : (within idx 0x4900 0x491F && v.nat = 1 && m.commitPending (idx - 0x4900)) = false)
    (h2 : (within idx 0x6200 0x620F && v.nat = 2 && m.n (0x6240 + (idx - 0x6200)) 1 = 3) = false) :
    m.commit w fd idx sub v .direct = (m.pendRt idx sub v).acceptRt idx sub v := by
  unfold Mod.commit
  dsimp only
  rw [if_pos hacc, if_neg (ne_true_of_eq_false h1), if_neg (ne_true_of_eq_false h2)]

/-- The commit that stops an export acts at once. -/
theorem Mod.commit_stop (m : Mod) (w : Writer) {fd : Field} {k : Fin 16} (hacc : fd.acc = .rt) (h : m.n (0x6240 + k.val) 1 = 3) :
    m.commit w fd (0x6200 + k.val) 1 (.num (2 : Nat)) .direct = m.stopClip k.val := by
  unfold Mod.commit
  dsimp only
  rw [if_pos hacc, if_neg (by simp [within]; omega), Nat.add_sub_cancel_left, if_pos]
  simp only [within, h, Bool.and_eq_true_iff, decide_eq_true_eq]
  exact ⟨⟨by omega, rfl⟩, trivial⟩

/-- The stop of an export ends it, and neither the sessions nor the module's boot. -/
theorem Mod.stopClip_export {m : Mod} {k : Nat} (h : m.n (0x6240 + k) 1 = 3) :
    (m.stopClip k).preud = m.preud ∧ (m.stopClip k).rebooting = m.rebooting := by
  unfold Mod.stopClip
  dsimp only
  rw [if_neg (by omega), if_pos (by simp [h])]
  unfold Mod.abortSlot
  simp

/-- Settles O13: each write waits for the next tick; two of them show at once that they do, and the stop of an export acts. -/
theorem commandWritesWaitForTheirTick : Obligations.CommandWritesWaitForTheirTick := by
  intro s t f x hs hx waits
  have hn (i k : Nat) (hi : i ≠ 0x2610) (hk : k < 256) : ((s.m.at t).heardFrom f).n i k = (s.m.at t).n i k := by
    unfold Mod.n
    rw [Mod.get_heardFrom _ _ hi hk]
  have hwait {c : Instr} {idx sub v : Nat} {b : Octets} {also : Mod → Prop} (hf : rtField idx sub) (hv : natOf b = v)
      (he : exec c s = writeOf t f idx sub b s)
      (h1 : (within idx 0x4900 0x491F && v = 1 && ((s.m.at t).heardFrom f).commitPending (idx - 0x4900)) = false)
      (h2 : (within idx 0x6200 0x620F && v = 2 && (s.m.at t).n (0x6240 + (idx - 0x6200)) 1 = 3) = false)
      (halso : also (((((s.m.at t).heardFrom f).pendRt idx sub (.num v)).acceptRt idx sub (.num v)).replied f x.slot 0x11 (done .empty)))
      (hp : ∀ m, also m → also { m with rebooting := false }) : waits c idx sub v b also :=
    completes_rt hs hx hf.2 hf.1 hv (fun fd hacc => Mod.commit_rt _ _ hacc h1 (by rwa [hn _ _ (by omega) (by decide)]))
      (Mod.acceptRt_preud _ _ _ _) halso hp he
  have hplain {c : Instr} {idx sub v : Nat} {b : Octets} (hf : rtField idx sub) (hv : natOf b = v)
      (he : exec c s = writeOf t f idx sub b s) (h1 : v = 1 → ¬(0x4900 ≤ idx ∧ idx ≤ 0x491F))
      (h2 : v = 2 → ¬(0x6200 ≤ idx ∧ idx ≤ 0x620F)) : waits c idx sub v b fun _ => True := by
    refine hwait hf hv he ?_ ?_ trivial fun _ _ => trivial
    · by_cases h : v = 1 <;> simp [h, within]
      have := h1 h
      omega
    · by_cases h : v = 2 <;> simp [h, within]
      have := h2 h
      omega
  have hshown {m : Mod} {i k n : Nat} (hi : unanswered i) (hk : k < 256) (hfuse : i ≠ 0x1000) (r : Reply) :
      ((m.put i k n).replied f x.slot 0x11 r).n i k = n := by
    unfold Mod.n
    rw [Mod.get_replied _ _ _ _ _ hi hk, Mod.get_put_same _ _ (by omega), Val.nat_num]
  refine ⟨?_, fun n => ⟨fun hpend => ?_, hplain (rtField_commit n) rfl rfl (by omega) (by omega)⟩, fun k => ⟨?_, fun hne => ?_,
    fun heq hacc => ?_, hplain (rtField_clip k) rfl rfl (by omega) (by omega)⟩, ?_, ?_,
    fun q => hplain (rtField_retest q) rfl rfl (by omega) (by omega),
    fun k v hv => hplain (rtField_check k) (natOf_beOctets hv) rfl (by omega) (by omega),
    fun g v hv => hplain (rtField_groupRate g) (natOf_beOctets hv) rfl (by omega) (by omega),
    fun e v hv => hplain (rtField_legMask e) (natOf_beOctets hv) rfl (by omega) (by omega)⟩
  · refine completes_rt hs hx (by decide) (acc := .wo) (by decide) rfl (fun fd hacc => ?_) rfl trivial (fun _ _ => trivial) rfl
    unfold Mod.commit
    dsimp only
    rw [if_neg (by rw [hacc]; decide)]
    rfl
  · refine hwait (rtField_commit n) rfl rfl ?_ (by simp) trivial fun _ _ => trivial
    have : ((s.m.at t).heardFrom f).commitPending n.val = false := by
      unfold Mod.commitPending at hpend ⊢
      rwa [hn _ _ (by omega) (by decide)]
    rw [Nat.add_sub_cancel_left, this, Bool.and_false]
  · refine hwait (rtField_clip k) rfl rfl (by simp [within]; omega) (by simp) ?_ fun _ h => h
    have hput (m : Mod) : m.acceptRt (0x6200 + k.val) 1 (.num (1 : Nat)) = m.put (0x6240 + k.val) 1 1 := by
      unfold Mod.acceptRt
      rw [if_pos (by simp [within]; omega), if_pos (show (Val.num (1 : Nat)).nat = 1 from rfl), Nat.add_sub_cancel_left]
    rw [hput]
    exact hshown (by omega) (by decide) (by omega) _
  · refine hwait (rtField_clip k) rfl rfl (by simp) ?_ trivial fun _ _ => trivial
    rw [Nat.add_sub_cancel_left]
    simp [hne]
  · obtain ⟨fd, hrt, hc⟩ := Mod.accepts_counts hacc (rtField_clip k).1
    have hp := ((s.m.at t).heardFrom f).perform_commit (x.writer f.route false) fd (.num (2 : Nat)) (rtField_clip k).2
    have hexport : ((s.m.at t).heardFrom f).n (0x6240 + k.val) 1 = 3 := by rwa [hn _ _ (by omega) (by decide)]
    rw [Mod.commit_stop _ _ hrt hexport] at hp
    have hpreud := Mod.stopClip_export hexport
    refine does_preud hs (t := t) (g := fun e m => m.request e f (.write (0x6200 + k.val) 1 false [2])) (fun e => ?_) ?_ rfl
    · exact Mod.request_direct e hx hs.1 hc hp (Mod.noneHeld_replied f _ _ _ fun y hy =>
        Mod.heardFrom_noneHeld hx y (by rwa [hpreud.1] at hy))
    · rw [Mod.replied_rebooting, hpreud.2]
      simpa using hs.2
  · refine hwait (idx := 0x7010) (by decide) rfl rfl rfl rfl ?_ fun _ h => h
    exact hshown (by decide) (by decide) (by decide) _
  · refine hwait (idx := 0x7010) (by decide) rfl rfl rfl rfl ?_ fun _ h => h
    exact hshown (by decide) (by decide) (by decide) _

end Sys2Proof.Machine
end

section
/-! SUPPORT. A role key written while two sessions share a number (R306): no premise of the statement keeps their numbers apart. -/

namespace Sys2Proof.Machine

/-- A Service session on backplane port B0, and the envelope of its next request. -/
def serviceSession : Session := ⟨7, 0, 3, .b0, 1, 2, .session [] 0 0 7, false, 1, [], [], 0, none, [], 0⟩
def serviceFrame : Frame := ⟨.b0, 1, 2, 7, 1, .session [] 0 0 7⟩

/-- A second session with the same number, of another role. -/
def sessionOfSameNumber : Session := { serviceSession with slot := 1, role := 0 }

/-- The module right after reset with both sessions open. -/
def twoOfOneNumber : State :=
  { State.reset with m := Mod.reset.modPreud fun p => { p with sessions := [serviceSession, sessionOfSameNumber] } }

/-- The write of the Service role's key. -/
def serviceKeyWrite : Instr := .roleKeyWrite 0 serviceFrame 3 (List.replicate 32 7)

/-- A write that its checks let through is accepted. -/
theorem Mod.accepts_of_isSome {m : Mod} {f : Frame} {x : Session} {idx sub : Nat} {b : Octets}
    (h : ((m.heardFrom f).writeChecked (x.writer f.route false) idx sub .direct b).toOption.isSome = true) :
    m.accepts f x idx sub b := by
  unfold Mod.accepts
  cases hw : (m.heardFrom f).writeChecked (x.writer f.route false) idx sub .direct b with
  | error e => exact nomatch (congrArg (fun r => r.toOption.isSome) hw).symm.trans h
  | ok y => exact ⟨y, rfl⟩

/-- Whether a command leaves no session. -/
def leavesNoSession : Host.Outcome State Fault Refusal → Bool
  | .next s => s.m.preud.sessions.isEmpty
  | _ => false

/-- A session ends by its number, so the key written ends both. -/
theorem serviceKeyWrite_endsBoth : leavesNoSession (exec serviceKeyWrite twoOfOneNumber) = true := by decide +kernel

/-- Refutes O16: the Service key written ends the Service session by its number, and with it the session of another role that
shares the number. -/
theorem not_keysAndAddressesEndSessions : ¬ Obligations.KeysAndAddressesEndSessions := by
  intro h
  have haccepts : (twoOfOneNumber.m.at 0).accepts serviceFrame serviceSession 0x1110 (1 + (3 : Fin 4).val) (List.replicate 32 7) :=
    Mod.accepts_of_isSome (by decide +kernel)
  obtain ⟨s', hs', -, -, -, hkept, -⟩ :=
    h.1 twoOfOneNumber 0 serviceFrame serviceSession 3 _ (by decide +kernel) (by decide +kernel) haccepts
  obtain ⟨z, hz, -⟩ := hkept sessionOfSameNumber (by decide +kernel) (by decide)
  have hnone := serviceKeyWrite_endsBoth
  rw [serviceKeyWrite, hs'] at hnone
  rw [List.isEmpty_iff.mp hnone] at hz
  exact List.not_mem_nil hz

end Sys2Proof.Machine
end

section
/-! SUPPORT. Writes that act at once (R4, R199, R200, R265, R276, R277, R292, R293, R371). -/

namespace Sys2Proof.Machine

/-! ### What the store of a value does -/

section
variable (m : Mod) (sel : Nat) (v : Val)

theorem Mod.store_cageReset {q : Nat} (h : q < 9) : m.store sel (0x2400 + q) 0x0B v = m.repowerCage q := by
  simp only [Mod.store, within, Bool.and_eq_true_iff, decide_eq_true_eq, and_true]
  repeat rw [if_neg (by omega)]
  rw [if_pos (by omega), Nat.add_sub_cancel_left]

theorem Mod.store_injection {l : Nat} (h : l < 38) : m.store sel (0x2500 + l) 3 v = m.injectOne l := by
  simp only [Mod.store, within, Bool.and_eq_true_iff, decide_eq_true_eq, and_true]
  repeat rw [if_neg (by omega)]
  rw [if_pos (by omega), Nat.add_sub_cancel_left]

theorem Mod.store_generator {b : Nat} (h : b < 2) : m.store sel (0x2524 + b) 1 v = m.writeGenerator b v.nat := by
  simp only [Mod.store, within, Bool.and_eq_true_iff, decide_eq_true_eq, and_true]
  repeat rw [if_neg (by omega)]
  rw [if_pos (by omega), Nat.add_sub_cancel_left]

theorem Mod.store_checkChannel {k : Nat} (h : k < 16) : m.store sel (0x7440 + k) 0x0A v = m.enableCheck k (v.nat = 1) := by
  simp only [Mod.store, within, Bool.and_eq_true_iff, decide_eq_true_eq, and_true]
  repeat rw [if_neg (by omega)]
  rw [if_pos (by omega), Nat.add_sub_cancel_left]

theorem Mod.store_injectionInterval {l : Nat} (h : l < 38) : m.store sel (0x2500 + l) 4 v = m.set (0x2500 + l) 4 v := by
  have hi : storeIdx sel (0x2500 + l) 4 = 0x2500 + l := if_neg (by simp; omega)
  simp only [Mod.store, hi, within, Bool.and_eq_true_iff, decide_eq_true_eq]
  repeat rw [if_neg (by omega)]

theorem Mod.store_witness {k sub : Nat} (h : k < 64) : m.store sel (0x7100 + k) sub v = m.set (0x7100 + k) sub v := by
  have hi : storeIdx sel (0x7100 + k) sub = 0x7100 + k := if_neg (by simp; omega)
  simp only [Mod.store, hi, within, Bool.and_eq_true_iff, decide_eq_true_eq]
  repeat rw [if_neg (by omega)]

end

/-! ### Calibration runs asked for -/

/-- Whether a domain asked for is queued at once. -/
abbrev Mod.calibrates (m : Mod) (d : Nat) : Prop :=
  (isDramDomain d = true → m.dimmIn (d - 10) = true) ∧ (d ≤ 9 → m.domainLive d = true) ∧ (d = 26 → m.n 0x1800 2 ≠ 3)

theorem Mod.get_trigger (m : Mod) (d trig : Nat) {j t : Nat} (hj : (0x1C40 + d) * 256 + 1 ≠ j * 256 + t) :
    (m.trigger d trig).get j t = m.get j t := by
  unfold Mod.trigger
  split
  · rfl
  · split
    · rfl
    · split
      · split <;> rfl
      · dsimp only
        split
        · rfl
        · rw [Mod.get_put_frame _ _ (by omega) hj]
          rfl

/-- What is queued stays queued. -/
theorem Mod.mem_queued_trigger (m : Mod) (d trig : Nat) {y : Nat × Nat} (h : y ∈ m.cal.queued) : y ∈ (m.trigger d trig).cal.queued := by
  unfold Mod.trigger
  split
  · exact h
  · split
    · exact h
    · split
      · split
        · exact h
        · exact h
      · dsimp only
        split <;> exact List.mem_append_left _ h

/-- A domain that may calibrate is queued once it is asked for. -/
theorem Mod.queued_trigger {m : Mod} {d : Nat} (trig : Nat) (h : m.calibrates d) :
    (d, trig) ∈ (m.trigger d trig).cal.queued ∨ ∃ y ∈ m.cal.queued, y.1 = d := by
  obtain ⟨hdimm, hlive, hclock⟩ := h
  unfold Mod.trigger
  rw [if_neg (by simp; exact ⟨hdimm, hclock⟩)]
  split
  · next hq => exact .inr (by simpa using hq)
  · rw [if_neg (by simp; intro hd hl; simp [hlive hd] at hl)]
    dsimp only
    left
    split <;> exact List.mem_append_right _ List.mem_cons_self

theorem Mod.calibrates_trigger {m : Mod} {d x : Nat} (trig : Nat) (hx : x < 28) (h : m.calibrates d) :
    (m.trigger x trig).calibrates d := by
  obtain ⟨hdimm, hlive, hclock⟩ := h
  have hn {j t : Nat} (ht : t < 256) (hj : j < 0x1C40 ∨ 0x1C5B < j) : (m.trigger x trig).n j t = m.n j t := by
    unfold Mod.n
    rw [Mod.get_trigger _ _ _ (by omega)]
  refine ⟨fun hd => ?_, fun hd => ?_, fun hd => ?_⟩
  · unfold Mod.dimmIn
    rw [hn (by decide) (by omega)]
    exact hdimm hd
  · have := hlive hd
    unfold Mod.domainLive at this ⊢
    refine List.any_eq_true.mpr ?_
    obtain ⟨l, hl, h⟩ := List.any_eq_true.mp this
    exact ⟨l, hl, by rwa [hn (by decide) (by omega)]⟩
  · rw [hn (by decide) (by omega)]
    exact hclock hd

/-- Of the domains asked for together, each that may calibrate is queued. -/
theorem Mod.queued_each {d : Nat} (trig : Nat) {l : List Nat} (hl : ∀ x ∈ l, x < 28) (hd : d ∈ l) {m : Mod} (h : m.calibrates d) :
    ∃ y ∈ (m.each l fun (m : Mod) (x : Nat) => m.trigger x trig).cal.queued, y.1 = d := by
  have hkeep (l : List Nat) (m : Mod) (h : ∃ y ∈ m.cal.queued, y.1 = d) :
      ∃ y ∈ (m.each l fun (m : Mod) (x : Nat) => m.trigger x trig).cal.queued, y.1 = d := by
    induction l generalizing m with
    | nil => exact h
    | cons x l ih =>
      obtain ⟨y, hy, hyd⟩ := h
      exact ih _ ⟨y, m.mem_queued_trigger x trig hy, hyd⟩
  induction l generalizing m with
  | nil => cases hd
  | cons x l ih =>
    rcases List.mem_cons.mp hd with rfl | hd
    · refine hkeep l _ ?_
      rcases Mod.queued_trigger trig h with h | ⟨y, hy, hyd⟩
      · exact ⟨_, h, rfl⟩
      · exact ⟨y, m.mem_queued_trigger d trig hy, hyd⟩
    · exact ih (fun y hy => hl y (List.mem_cons_of_mem _ hy)) hd (Mod.calibrates_trigger trig (hl x List.mem_cons_self) h)

/-! ### Effects of single stores -/

section
variable (m : Mod)

theorem Mod.repowerCage_optic {q : Nat} {i : CageModule} (hq : m.n (0x2440 + q) 2 = 4) (hi : (m.cage q).info = some i)
    (ho : i.optic = true) (ht : m.takesModule q i = true) (hq9 : q < 9) : (m.repowerCage q).n (0x2440 + q) 2 = 2 := by
  unfold Mod.repowerCage
  rw [if_pos hq]
  unfold Mod.powerCage
  rw [hi]
  dsimp only
  have htake {m' : Mod} (h : m'.n (0x2400 + q) 1 = m.n (0x2400 + q) 1) : m'.takesModule q i = true := by
    unfold Mod.takesModule at ht ⊢
    rwa [h]
  rw [htake (by simp (disch := omega) [Mod.n])]
  simp (disch := omega) [ho, Mod.n]
  rfl

end

/-- What each step of a run leaves of an object, the run leaves of it. -/
theorem Mod.get_each {α : Type} {m : Mod} {l : List α} {g : Mod → α → Mod} {j t : Nat} (h : ∀ m, ∀ x ∈ l, (g m x).get j t = m.get j t) :
    (m.each l g).get j t = m.get j t := by
  unfold Mod.each
  induction l generalizing m with
  | nil => rfl
  | cons x l ih => exact (ih fun m y hy => h m y (List.mem_cons_of_mem _ hy)).trans (h m x List.mem_cons_self)

/-- The drop of a backplane link leaves the generator's pattern. -/
theorem Mod.get_drop_pattern (m : Mod) {b : Nat} (hb : b < 2) (cause : Nat) :
    (m.drop (33 + b) cause).get (0x2524 + b) 1 = m.get (0x2524 + b) 1 := by
  have hleave (m : Mod) : (m.leave (33 + b) cause).get (0x2524 + b) 1 = m.get (0x2524 + b) 1 := by
    have hdown : (m.goDown (33 + b)).get (0x2524 + b) 1 = m.get (0x2524 + b) 1 := by
      unfold Mod.goDown
      rw [if_neg (by omega), if_pos (by omega)]
      simp (disch := omega)
    unfold Mod.leave
    split
    · rw [Mod.get_raiseCond_frame _ _ _ _ (by omega), hdown]
    · split
      · simp (disch := omega)
      · rfl
  have hlanes (m : Mod) : m.unitLanes (33 + b) = [36 + b] := by
    unfold Mod.unitLanes
    rw [if_neg (by omega), if_neg (by omega), Nat.add_right_comm]
  have hstage (m : Mod) : (m.setStage (33 + b) 1).get (0x2524 + b) 1 = m.get (0x2524 + b) 1 := by
    have hlane {g : Mod → Nat → Mod} (hg : ∀ m, (g m (36 + b)).get (0x2524 + b) 1 = m.get (0x2524 + b) 1) (m' m : Mod) :
        (m.each (m'.unitLanes (33 + b)) g).get (0x2524 + b) 1 = m.get (0x2524 + b) 1 := by
      rw [hlanes]
      exact hg m
    have h1 : ¬ 33 + b < 32 := by omega
    have h2 : ¬ 33 + b = 32 := by omega
    simp only [Mod.setStage, h1, h2, if_false, Nat.one_lt_two, if_true]
    rw [hlane fun m => by simp (disch := omega), Mod.get_modBring, hlane fun m => by simp (disch := omega)]
    simp (disch := omega)
  have hcage : cageOf (33 + b) = none := by
    unfold cageOf
    rw [if_neg (by omega), if_neg (by omega)]
  unfold Mod.drop Mod.toDetect
  rw [hcage]
  dsimp only
  rw [if_neg (by simp; omega), Mod.get_modBring, hstage, hlanes]
  refine Eq.trans ?_ (hleave m)
  show Mod.get (if _ then _ else _) _ _ = _
  split <;> simp (disch := omega)

section
variable (m : Mod) {p : Part}

@[simp] theorem Mod.repowerCage_part (q : Nat) (h : p ∉ [.objs, .raised, .prt]) : (m.repowerCage q).part p = m.part p := by
  unfold Mod.repowerCage
  split <;> simp_all

@[simp] theorem Mod.injectOne_part (l : Nat) (h : p ∉ [.objs]) : (m.injectOne l).part p = m.part p := by
  unfold Mod.injectOne
  split <;> simp_all

@[simp] theorem Mod.writeGenerator_part (b k : Nat) (h : p ∉ [.objs, .raised, .conds, .twin, .fab, .prt]) :
    (m.writeGenerator b k).part p = m.part p := by
  simp_all [Mod.writeGenerator]

@[simp] theorem Mod.enableCheck_part (k : Nat) (on : Bool) (h : p ∉ [.objs, .checks]) : (m.enableCheck k on).part p = m.part p := by
  unfold Mod.enableCheck
  dsimp only
  split <;> simp_all

@[simp] theorem Mod.calibrate_part (d : Nat) (h : p ∉ [.objs, .cal]) : (m.calibrate d).part p = m.part p := by
  unfold Mod.calibrate
  simp_all

@[simp] theorem Mod.startTest_part (h : p ∉ [.objs, .hw]) : m.startTest.part p = m.part p := by
  unfold Mod.startTest
  dsimp only
  split <;> simp_all

@[simp] theorem Mod.abortTest_part (h : p ∉ [.objs, .hw]) : m.abortTest.part p = m.part p := by
  unfold Mod.abortTest
  split <;> simp_all

@[simp] theorem Mod.serviceEnable_part (on : Bool) (h : p ∉ [.objs, .raised, .conds]) : (m.serviceEnable on).part p = m.part p := by
  unfold Mod.serviceEnable
  split
  · split <;> simp_all
  · simp_all

@[simp] theorem Mod.enableFlow_part (e : Nat) (h : p ∉ [.draws, .objs, .out, .fab]) : (m.enableFlow e).part p = m.part p := by
  unfold Mod.enableFlow
  split
  · rfl
  · dsimp only
    rw [Mod.part_with_fab _ (by simp_all)]
    simp_all

@[simp] theorem Mod.disableFlow_part (e : Nat) (h : p ∉ [.draws, .objs, .out, .fab]) : (m.disableFlow e).part p = m.part p := by
  unfold Mod.disableFlow
  split
  · rfl
  · dsimp only
    rw [Mod.part_with_fab _ (by simp_all)]
    simp_all

end

/-! ### Values that the acts leave -/

section
variable (m : Mod)

theorem Mod.n_put (i k v : Nat) (h : i * 256 + k ≠ 0x100005) : (m.put i k v).n i k = v := by
  unfold Mod.n
  rw [Mod.get_put_same _ _ h, Val.nat_num]

theorem Mod.flag_putFlag (i k : Nat) (b : Bool) (h : i * 256 + k ≠ 0x100005) : (m.putFlag i k b).flag i k = b := by
  unfold Mod.flag Mod.n
  rw [Mod.get_putFlag_same _ _ h]
  cases b <;> rfl

theorem Mod.get_testSpares (on : Bool) {j t : Nat} (h : j < 0x2800 ∨ 0x283F < j) (ht : t < 256) :
    (m.testSpares on).get j t = m.get j t := by
  unfold Mod.testSpares
  refine Mod.get_each fun m c hc => ?_
  have := List.mem_range.mp hc
  split
  · exact m.get_put_frame _ (by omega) (by omega)
  · split
    · exact m.get_put_frame _ (by omega) (by omega)
    · rfl

theorem Mod.testSpares_hw (on : Bool) : (m.testSpares on).hw = m.hw := m.testSpares_part on (p := .hw) (by decide)

theorem Mod.startTest_runs : m.startTest.n 0x7500 4 = 1 ∧ m.startTest.hw.test = some (m.n 0x7500 1, m.n 0x7500 2, m.now) := by
  unfold Mod.startTest
  dsimp only
  split
  · refine ⟨?_, congrArg HwS.test (Mod.testSpares_hw _ _)⟩
    unfold Mod.n
    rw [Mod.get_testSpares _ _ (by decide) (by decide)]
    simp (disch := omega)
    rfl
  · refine ⟨?_, rfl⟩
    unfold Mod.n
    simp (disch := omega)
    rfl

theorem Mod.abortTest_ends (h : m.hw.test ≠ none) : m.abortTest.n 0x7500 5 = 3 ∧ m.abortTest.hw.test = none := by
  unfold Mod.abortTest
  rw [if_neg h]
  unfold Mod.endTest
  refine ⟨?_, ?_⟩
  · unfold Mod.n
    rw [Mod.get_testSpares _ _ (by decide) (by decide)]
    simp (disch := omega)
    rfl
  · simp [Mod.testSpares_hw, Mod.modHw]

theorem Mod.serviceEnable_enabled (on : Bool) : (m.serviceEnable on).n 0x2610 1 = if on then 1 else 0 := by
  have hto (m : Mod) (k : Nat) : (m.serviceTo k).n 0x2610 1 = m.n 0x2610 1 := by
    unfold Mod.serviceTo
    dsimp only
    split
    · simp (disch := omega) [Mod.n]
    · split <;> simp (disch := omega) [Mod.n]
  unfold Mod.serviceEnable
  split
  · split
    · exact (hto _ _).trans (m.n_put _ _ 1 (by decide))
    · exact m.n_put _ _ 1 (by decide)
  · exact (hto _ _).trans (m.n_put _ _ 0 (by decide))

/-- An answer counts on the service port, and leaves whether it is enabled. -/
theorem Mod.get_replied_service (f : Frame) (slot op : Nat) (r : Reply) : (m.replied f slot op r).get 0x2610 1 = m.get 0x2610 1 := by
  unfold Mod.replied slotObj Mod.answer Mod.sendOn
  dsimp only
  split
  · next p l hp =>
    rw [Mod.get_countOwn _ _ _ (maskPorts_lt (hp ▸ List.mem_cons_self)) (by decide) (by decide) (by decide)]
    simp (disch := omega)
  · simp (disch := omega)
  · simp (disch := omega)

theorem Mod.enableCheck_enabled {k : Nat} (hk : k < 16) : (m.enableCheck k true).n (0x7440 + k) 0x0A = 1 := by
  unfold Mod.enableCheck
  rw [if_pos rfl]
  unfold Mod.n
  rw [Mod.get_clear_frame _ _ _ (by omega) (by omega)]
  exact m.n_put _ _ 1 (by omega)

theorem Mod.octets_komundKey (sel : Nat) (key : Octets) : (m.store sel 0x7000 0x0C (.bytes key)).octets 0x7000 0x0C = key := by
  show ((((m.set 0x7000 0x0C (.bytes key)).putFlag 0x7000 0x0D true).get 0x7000 0x0C).octets) = key
  rw [Mod.get_putFlag_frame _ _ (by decide) (by decide), Mod.get_set_same_frame _ _ (by decide)]
  rfl

theorem Mod.get_report (e : Nat) (ports : Nat → Bool) (join : Bool) {j t : Nat} (h : j < 0x3840 ∨ 0x385F < j) (ht : t < 256) :
    (m.report e ports join).get j t = m.get j t := by
  unfold Mod.report
  refine Mod.get_each fun m n hn => ?_
  split
  · rw [Mod.get_countOwn _ _ _ (maskPorts_lt hn) (by decide) h ht]
    rfl
  · rfl

theorem Mod.enableFlow_on (e : Nat) : (m.enableFlow e).flowOn e = true := by
  unfold Mod.enableFlow
  split
  · next h => exact h
  · unfold Mod.flowOn Mod.flag Mod.n
    refine Eq.trans (congrArg (fun v : Val => decide (v.nat ≠ 0)) (Mod.get_report _ _ _ _ ?_ (by decide))) (Mod.flag_putFlag m _ _ true ?_)
    all_goals unfold flowIdx; omega

theorem Mod.disableFlow_off (e : Nat) : (m.disableFlow e).flowOn e = false := by
  unfold Mod.disableFlow
  split
  · next h => simpa using h
  · exact Mod.flag_putFlag (m.report e (fun _ => true) false) _ _ false (by unfold flowIdx; omega)

end

/-- The errors injected are counted one by one up to the greatest of them. -/
theorem counted_injections (l : Fin 38) {v : Nat} (h : v < 2 ^ 32 - 1) : counted (0x2500 + l.val) 8 v 1 = v + 1 := by
  have hty : ∀ l : Fin 38, (findField (dictIdx (0x2500 + l.val)) 8).map (fun fd => fd.ty) = some .u64 := by decide +kernel
  unfold counted
  obtain ⟨fd, hfd, hu⟩ := Option.map_eq_some_iff.mp (hty l)
  rw [hfd]
  dsimp only
  rw [hu]
  exact Nat.mod_eq_of_lt (by omega)

/-! ### Accepted writes of such objects -/

/-- A field that acts at once, of a type that counts. -/
abbrev actingField (idx sub : Nat) : Prop :=
  (findField idx sub).map (fun fd => (fd.ty.counts, decide (fd.acc = .rt))) = some (true, false) ∧ performsItself idx sub = false
    ∧ idx ≠ 0x1433 ∧ isResetObject idx sub = false

/-- The same of a field that holds octets. -/
abbrev octetField (idx sub : Nat) : Prop :=
  (findField idx sub).map (fun fd => (decide (fd.ty = .blob), decide (fd.acc = .rt))) = some (true, false)
    ∧ performsItself idx sub = false ∧ idx ≠ 0x1433 ∧ isResetObject idx sub = false

/-- The fields that act at once, object by object. -/
theorem actingFields : (∀ q : Fin 9, actingField (0x2400 + q.val) 0x0B) ∧ (∀ l : Fin 38, actingField (0x2500 + l.val) 3)
    ∧ (∀ l : Fin 38, actingField (0x2500 + l.val) 4) ∧ (∀ k : Fin 16, actingField (0x7440 + k.val) 0x0A)
    ∧ (∀ k : Fin 64, actingField (0x7100 + k.val) 1) ∧ (∀ k : Fin 64, octetField (0x7100 + k.val) 6)
    ∧ ∀ b : Fin 2, actingField (0x2524 + b.val) 1 := by decide +kernel

theorem actingField_cageReset : ∀ q : Fin 9, actingField (0x2400 + q.val) 0x0B := actingFields.1
theorem actingField_injection : ∀ l : Fin 38, actingField (0x2500 + l.val) 3 := actingFields.2.1
theorem actingField_injectionInterval : ∀ l : Fin 38, actingField (0x2500 + l.val) 4 := actingFields.2.2.1
theorem actingField_checkChannel : ∀ k : Fin 16, actingField (0x7440 + k.val) 0x0A := actingFields.2.2.2.1
theorem actingField_witness : ∀ k : Fin 64, actingField (0x7100 + k.val) 1 := actingFields.2.2.2.2.1
theorem octetField_witness : ∀ k : Fin 64, octetField (0x7100 + k.val) 6 := actingFields.2.2.2.2.2.1
theorem actingField_generator : ∀ b : Fin 2, actingField (0x2524 + b.val) 1 := actingFields.2.2.2.2.2.2

/-- A write that does not wait stores its value at once. -/
theorem Mod.commit_store (m : Mod) (w : Writer) {fd : Field} {idx sub : Nat} (v : Val) (hacc : fd.acc ≠ .rt) (h1 : idx ≠ 0x1433)
    (h2 : isResetObject idx sub = false) : m.commit w fd idx sub v .direct = m.store w.selector idx sub v := by
  unfold Mod.commit
  dsimp only
  rw [if_neg hacc, if_neg h1, if_neg (ne_true_of_eq_false h2)]

section
variable {s : State} {t : Nanos} {f : Frame} {x : Session} {c : Instr} {idx sub : Nat} {b : Octets} {n : Nat} {v : Val} {also : Mod → Prop}

/-- An accepted write that acts at once is answered, and leaves what its store leaves and the answer keeps. -/
theorem completes_stored {fd : Field} (hs : s.serves) (hx : (s.m.at t).expects f x) (hf : performsItself idx sub = false)
    (hacc : fd.acc ≠ .rt) (h1 : idx ≠ 0x1433) (h2 : isResetObject idx sub = false)
    (hc : ((s.m.at t).heardFrom f).writeChecked (x.writer f.route false) idx sub .direct b = .ok (fd, v))
    (he : exec c s = writeOf t f idx sub b s)
    (hpreud : (((s.m.at t).heardFrom f).store x.selector idx sub v).preud = ((s.m.at t).heardFrom f).preud)
    (halso : also ((((s.m.at t).heardFrom f).store x.selector idx sub v).replied f x.slot 0x11 (done .empty)))
    (hp : ∀ m, also m → also { m with rebooting := false }) :
    Completes c s fun m' => Output.reply f.route f.peer f.peerPort f.sid 0x11 f.req (done .empty) ∈ m'.out ∧ also m' := by
  have hp' := ((s.m.at t).heardFrom f).perform_commit (x.writer f.route false) fd v hf
  rw [Mod.commit_store _ _ _ hacc h1 h2] at hp'
  refine completes_preud (g := fun e m => m.request e f (.write idx sub false b)) he hs ?_ fun m h => ⟨h.1, hp m h.2⟩
  rw [Mod.request_direct s.events hx hs.1 hc hp' (Mod.noneHeld_replied f _ _ _ fun y hy =>
    Mod.heardFrom_noneHeld hx y (by
      change y ∈ (Mod.store _ x.selector idx sub v).preud.sessions at hy
      rwa [hpreud] at hy))]
  exact ⟨by simp [Mod.afterwards], halso⟩

theorem completes_acting (hs : s.serves) (hx : (s.m.at t).expects f x) (hf : actingField idx sub) (hv : natOf b = n)
    (he : exec c s = writeOf t f idx sub b s)
    (hpreud : (((s.m.at t).heardFrom f).store x.selector idx sub (.num n)).preud = ((s.m.at t).heardFrom f).preud)
    (halso : also ((((s.m.at t).heardFrom f).store x.selector idx sub (.num n)).replied f x.slot 0x11 (done .empty)))
    (hp : ∀ m, also m → also { m with rebooting := false }) (ha : (s.m.at t).accepts f x idx sub b) :
    Completes c s fun m' => Output.reply f.route f.peer f.peerPort f.sid 0x11 f.req (done .empty) ∈ m'.out ∧ also m' := by
  obtain ⟨hfd, hself, h1, h2⟩ := hf
  obtain ⟨⟨fd, w⟩, hw⟩ := ha
  obtain ⟨hfield, hval, -⟩ := Mod.writeChecked_ok hw
  rw [hfield, Option.map_some, Option.some.injEq, Prod.mk.injEq] at hfd
  rw [decodeVal_counts hfd.1 hval, hv] at hw
  exact completes_stored hs hx hself (by simpa using hfd.2) h1 h2 hw he hpreud halso hp

theorem completes_octets (hs : s.serves) (hx : (s.m.at t).expects f x) (hf : octetField idx sub)
    (he : exec c s = writeOf t f idx sub b s)
    (hpreud : (((s.m.at t).heardFrom f).store x.selector idx sub (.bytes b)).preud = ((s.m.at t).heardFrom f).preud)
    (halso : also ((((s.m.at t).heardFrom f).store x.selector idx sub (.bytes b)).replied f x.slot 0x11 (done .empty)))
    (hp : ∀ m, also m → also { m with rebooting := false }) (ha : (s.m.at t).accepts f x idx sub b) :
    Completes c s fun m' => Output.reply f.route f.peer f.peerPort f.sid 0x11 f.req (done .empty) ∈ m'.out ∧ also m' := by
  obtain ⟨hfd, hself, h1, h2⟩ := hf
  obtain ⟨⟨fd, w⟩, hw⟩ := ha
  obtain ⟨hfield, hval, -⟩ := Mod.writeChecked_ok hw
  rw [hfield, Option.map_some, Option.some.injEq, Prod.mk.injEq] at hfd
  rw [of_decide_eq_true hfd.1] at hval
  rw [← Option.some.inj hval] at hw
  exact completes_stored hs hx hself (by simpa using hfd.2) h1 h2 hw he hpreud halso hp

end

/-- Settles O14: each write's store is the act its object stands for, and its answer leaves what it did. -/
theorem otherWritesActAtOnce : Obligations.OtherWritesActAtOnce := by
  intro s t f x hs hx acts
  have hn {i k : Nat} (hi : i ≠ 0x2610) (hk : k < 256) : ((s.m.at t).heardFrom f).n i k = (s.m.at t).n i k := by
    unfold Mod.n
    rw [Mod.get_heardFrom _ _ hi hk]
  have hr {m : Mod} {i k : Nat} (hi : unanswered i) (hk : k < 256) : (m.replied f x.slot 0x11 (done .empty)).n i k = m.n i k := by
    unfold Mod.n
    rw [Mod.get_replied _ _ _ _ _ hi hk]
  have hput {m : Mod} {i k : Nat} (v : Nat) (hi : i * 256 + k ≠ 0x100005) : (m.put i k v).n i k = v := by
    unfold Mod.n
    rw [Mod.get_put_same _ _ hi, Val.nat_num]
  have hset {m : Mod} {i k : Nat} (v : Nat) (hi : i * 256 + k ≠ 0x100005) : (m.set i k (.num v)).n i k = v := hput v hi
  have hflow {m : Mod} {e : Nat} : (m.replied f x.slot 0x11 (done .empty)).flowOn e = m.flowOn e := by
    unfold Mod.flowOn Mod.flag
    rw [hr (by unfold flowIdx; omega) (by decide)]
  have hgen (l : Fin 38) : ((s.m.at t).heardFrom f).generates l.val = (s.m.at t).generates l.val := by
    unfold Mod.generates Mod.laneTests Mod.cageTests Mod.flag
    rw [hn (by omega) (by decide), hn (by omega) (by decide), Mod.heardFrom_twinFn, Mod.fn_heardFrom]
  have hready {d : Nat} (hd : isDramDomain d = true → (s.m.at t).dimmIn (d - 10) = true)
      (hlive : d ≤ 9 → (s.m.at t).domainLive d = true) (hclock : d = 26 → (s.m.at t).n 0x1800 2 ≠ 3) :
      ((s.m.at t).heardFrom f).calibrates d := by
    refine ⟨fun h => ?_, fun h => ?_, fun h => ?_⟩
    · unfold Mod.dimmIn at hd ⊢
      rw [hn (by unfold isDramDomain within at h; simp at h; omega) (by decide)]
      exact hd h
    · have := hlive h
      unfold Mod.domainLive at this ⊢
      obtain ⟨l, hl, h⟩ := List.any_eq_true.mp this
      exact List.any_eq_true.mpr ⟨l, hl, by rwa [hn (by unfold domainLanes at hl; grind) (by decide)]⟩
    · rw [hn (by decide) (by decide)]
      exact hclock h
  have hcal {d : Nat} {also : Mod → Prop} (hd : d < 256)
      (halso : also ((((s.m.at t).heardFrom f).calibrate d).replied f x.slot 0x11 (done .empty)))
      (hp : ∀ m, also m → also { m with rebooting := false }) : acts (.calibrate t f d) 0x1C01 0 (beOctets 1 d) also :=
    completes_acting hs hx (by decide) (natOf_beOctets hd) rfl (Mod.calibrate_part _ _ (p := .preud) (by decide)) halso hp
  refine ⟨?_, ?_, fun d hd hlive hq hclock => ?_, ?_, fun q i hq hi ho ht => ?_, fun l hg hlt => ?_, fun l k hk => ?_, ?_, fun htest => ?_,
    fun v hv => ?_, fun v hv => ?_, fun key => ⟨?_, fun k => ?_⟩, fun k => ?_, fun k => ?_, fun b p hp => ?_, ?_, ?_⟩
  · refine completes_acting hs hx (n := 1) (by decide) rfl rfl rfl ?_ fun m h => h
    rw [Mod.replied_hw]
    show some ((s.m.at t).heardFrom f).ctr = _
    rw [Mod.heardFrom_ctr]
  · refine completes_acting hs hx (n := 1) (by decide) rfl rfl rfl ?_ fun m h => h
    rw [hr (by decide) (by decide)]
    exact hput (m := (s.m.at t).heardFrom f) (i := 0x1840) (k := 5) 1 (by decide)
  · refine hcal (by omega) ?_ fun m h => h
    rw [Mod.replied_cal]
    unfold Mod.calibrate
    rw [if_neg (by omega)]
    rcases Mod.queued_trigger trigCommand (hready hd hlive hclock) with h | ⟨y, hy, hyd⟩
    · exact h
    · rw [Mod.heardFrom_cal] at hy
      exact absurd hyd (hq y hy)
  · refine hcal (d := 0xFF) (by decide) (fun d hd hlive hclock => ?_) fun m h => h
    rw [Mod.replied_cal]
    unfold Mod.calibrate
    rw [if_pos rfl]
    exact Mod.queued_each _ (fun x hx => List.mem_range.mp hx) (List.mem_range.mpr d.isLt) (hready hd hlive hclock)
  · refine completes_acting hs hx (n := 1) (actingField_cageReset q) rfl rfl ?_ ?_ fun m h => h
    · rw [Mod.store_cageReset _ _ _ q.isLt]
      exact Mod.repowerCage_part _ _ (p := .preud) (by decide)
    · rw [Mod.store_cageReset _ _ _ q.isLt, hr (by omega) (by decide)]
      refine Mod.repowerCage_optic _ ((hn (by omega) (by decide)).trans hq) ?_ ho ?_ q.isLt
      · unfold Mod.cage at hi ⊢
        rwa [Mod.heardFrom_prt]
      · unfold Mod.takesModule at ht ⊢
        rwa [hn (by omega) (by decide)]
  · refine completes_acting hs hx (n := 1) (actingField_injection l) rfl rfl ?_ ?_ fun m h => h
    · rw [Mod.store_injection _ _ _ l.isLt]
      exact Mod.injectOne_part _ _ (p := .preud) (by decide)
    · rw [Mod.store_injection _ _ _ l.isLt, hr (by omega) (by decide)]
      unfold Mod.injectOne
      rw [if_pos (by rwa [hgen]), Mod.n_bump_same _ (by omega), hn (by omega) (by decide), counted_injections l hlt]
  · refine completes_acting hs hx (n := k) (actingField_injectionInterval l) (natOf_beOctets hk) rfl ?_ ?_ fun m h => h
    · rw [Mod.store_injectionInterval _ _ _ l.isLt]
      exact Mod.set_preud _ _ _ _
    · rw [Mod.store_injectionInterval _ _ _ l.isLt, hr (by omega) (by decide)]
      exact hset k (by omega)
  · refine completes_acting hs hx (n := 1) (by decide) rfl rfl ?_ ?_ fun m h => h
    · exact Mod.startTest_part _ (p := .preud) (by decide)
    · rw [hr (by decide) (by decide), Mod.replied_hw]
      have := ((s.m.at t).heardFrom f).startTest_runs
      rwa [hn (by decide) (by decide), hn (by decide) (by decide), Mod.heardFrom_now] at this
  · refine completes_acting hs hx (n := 1) (by decide) rfl rfl ?_ ?_ fun m h => h
    · exact Mod.abortTest_part _ (p := .preud) (by decide)
    · rw [hr (by decide) (by decide), Mod.replied_hw]
      exact Mod.abortTest_ends _ (by rwa [Mod.heardFrom_hw])
  · refine completes_acting hs hx (n := v) (by decide) (natOf_beOctets (by omega)) rfl ?_ ?_ fun m h => h
    · exact Mod.serviceEnable_part _ _ (p := .preud) (by decide)
    · unfold Mod.n
      rw [Mod.get_replied_service]
      refine (Mod.serviceEnable_enabled _ _).trans ?_
      interval_cases v <;> rfl
  · refine completes_acting hs hx (n := v) (by decide) (natOf_beOctets hv) rfl (Mod.set_preud _ _ _ _) ?_ fun m h => h
    · rw [hr (by decide) (by decide)]
      exact hset (i := 0x1020) (k := 0) v (by decide)
  · refine completes_octets hs hx (by decide) rfl rfl ?_ fun m h => h
    unfold Mod.octets
    rw [hr (by decide) (by decide), Mod.get_replied _ _ _ _ _ (by decide) (by decide)]
    exact ⟨Mod.octets_komundKey _ _ key, Mod.n_put _ _ _ 1 (by decide)⟩
  · refine completes_octets hs hx (octetField_witness k) rfl ?_ ?_ fun m h => h
    · rw [Mod.store_witness _ _ _ k.isLt]
      exact Mod.set_preud _ _ _ _
    · rw [Mod.store_witness _ _ _ k.isLt]
      unfold Mod.octets
      rw [Mod.get_replied _ _ _ _ _ (by omega) (by decide), Mod.get_set_same_frame _ _ (by omega)]
      rfl
  · refine completes_acting hs hx (n := 1) (actingField_checkChannel k) rfl rfl ?_ ?_ fun m h => h
    · rw [Mod.store_checkChannel _ _ _ k.isLt]
      exact Mod.enableCheck_part _ _ _ (p := .preud) (by decide)
    · rw [Mod.store_checkChannel _ _ _ k.isLt, hr (by omega) (by decide)]
      exact Mod.enableCheck_enabled _ k.isLt
  · refine completes_acting hs hx (n := 1) (actingField_witness k) rfl rfl ?_ ?_ fun m h => h
    · rw [Mod.store_witness _ _ _ k.isLt]
      exact Mod.set_preud _ _ _ _
    · rw [Mod.store_witness _ _ _ k.isLt, hr (by omega) (by decide)]
      exact hset 1 (by omega)
  · refine completes_acting hs hx (n := p) (actingField_generator b) (natOf_beOctets hp) rfl ?_ ?_ fun m h => h
    · rw [Mod.store_generator _ _ _ b.isLt]
      exact Mod.writeGenerator_part _ _ _ (p := .preud) (by decide)
    · rw [Mod.store_generator _ _ _ b.isLt, hr (by omega) (by decide)]
      unfold Mod.writeGenerator Mod.n
      rw [Mod.get_drop_pattern _ b.isLt, Mod.get_put_same _ _ (by omega)]
      rfl
  · refine completes_acting hs hx (n := 1) (by decide) rfl rfl ?_ ?_ fun m h => h
    · exact Mod.enableFlow_part _ _ (p := .preud) (by decide)
    · rw [hflow]
      exact Mod.enableFlow_on _ _
  · refine completes_acting hs hx (n := 0) (by decide) rfl rfl ?_ ?_ fun m h => h
    · exact Mod.disableFlow_part _ _ (p := .preud) (by decide)
    · rw [hflow]
      exact Mod.disableFlow_off _ _

end Sys2Proof.Machine
end

section
/-! SUPPORT. Images, trials and resets (R35, R322, R335, R336, R339). -/

namespace Sys2Proof.Machine

/-! ### What a store leaves -/

section
variable (m : Mod) {p : Part}

@[simp] theorem Mod.startCounter_part (h : p ∉ [.objs, .clk]) : m.startCounter.part p = m.part p := by
  unfold Mod.startCounter
  simp_all

@[simp] theorem Mod.ledTest_part (h : p ∉ [.hw]) : m.ledTest.part p = m.part p := by
  unfold Mod.ledTest
  simp_all

@[simp] theorem Mod.storeKey_part (sub : Nat) (v : Val) (h : p ∉ [.objs]) : (m.storeKey sub v).part p = m.part p := by
  unfold Mod.storeKey
  simp_all

@[simp] theorem Mod.showContent_part (idx a b c : Nat) (x : Octets) (h : p ∉ [.objs]) : (m.showContent idx a b c x).part p = m.part p := by
  unfold Mod.showContent
  simp_all

@[simp] theorem Mod.showLut_part (idx sub : Nat) (x : Octets) (h : p ∉ [.objs]) : (m.showLut idx sub x).part p = m.part p := by
  unfold Mod.showLut
  simp_all

@[simp] theorem Mod.clearFlows_part (h : p ∉ [.draws, .objs, .out, .fab]) : m.clearFlows.part p = m.part p := by
  unfold Mod.clearFlows
  simp_all

@[simp] theorem Mod.putImage_part (i : Nat) (b : Octets) (h : p ∉ [.objs]) : (m.putImage i b).part p = m.part p := by
  unfold Mod.putImage
  simp_all

/-- Control and the boot, which no store of a value touches. -/
abbrev controlPart (p : Part) : Prop := p = .preud ∨ p = .rebooting

theorem Mod.store_part (sel idx sub : Nat) (v : Val) (h : controlPart p) : (m.store sel idx sub v).part p = m.part p := by
  unfold Mod.store
  dsimp only
  rcases h with rfl | rfl <;> simp

/-- Control but for the values that await the next boot. -/
def PreudS.control (q : PreudS) : PreudS := { q with awaitBoot := [] }

theorem PreudS.of_control_eq {q q' : PreudS} (h : q.control = q'.control) :
    q.sessions = q'.sessions ∧ q.changeSets = q'.changeSets ∧ q.transfers = q'.transfers ∧ q.timed = q'.timed := by
  simp only [PreudS.control, PreudS.mk.injEq] at h
  obtain ⟨hsessions, -, -, htimed, -, -, hsets, htransfers, -⟩ := h
  exact ⟨hsessions, hsets, htransfers, htimed⟩

/-- A record of an image changes of control only the values that await the next boot. -/
theorem Mod.loadRecord_control {m m' : Mod} {w w' : Writer} {boot : Bool} {x : ImageRec} (hl : m.loadRecord w boot x = .ok (m', w')) :
    m'.rebooting = m.rebooting ∧ m'.preud.control = m.preud.control := by
  unfold Mod.loadRecord at hl
  split at hl
  · cases hl
  · have hstore (sel : Nat) (v : Val) : (m.store sel x.idx x.sub v).rebooting = m.rebooting
        ∧ (m.store sel x.idx x.sub v).preud.control = m.preud.control :=
      ⟨m.store_part _ _ _ _ (p := .rebooting) (.inr rfl),
        congrArg PreudS.control (m.store_part _ _ _ _ (p := .preud) (.inl rfl))⟩
    split_ifs at hl <;> obtain ⟨rfl, -⟩ := Prod.mk.inj (Except.ok.inj hl)
    · exact ⟨rfl, rfl⟩
    · exact ⟨rfl, rfl⟩
    · exact ⟨rfl, rfl⟩
    · exact ⟨rfl, rfl⟩
    · exact hstore _ _

theorem Mod.loadRecords_control {l : List ImageRec} {boot : Bool} {m m' : Mod} {w w' : Writer}
    (hl : m.loadRecords w boot l = .ok (m', w')) :
    m'.rebooting = m.rebooting ∧ m'.preud.control = m.preud.control := by
  induction l generalizing m w with
  | nil =>
    obtain ⟨rfl, -⟩ := Prod.mk.inj (Except.ok.inj hl)
    exact ⟨rfl, rfl⟩
  | cons x l ih =>
    unfold Mod.loadRecords at hl
    split at hl
    · cases hl
    · next h =>
      obtain ⟨hr, hp⟩ := Mod.loadRecord_control h
      obtain ⟨hr', hp'⟩ := ih hl
      exact ⟨hr'.trans hr, hp'.trans hp⟩

end

/-! ### Images saved and erased (R322) -/

theorem testBit_setBit (n b : Nat) (on : Bool) : (setBit n b on).testBit b = on := by
  unfold setBit
  cases on <;> cases h : n.testBit b <;> simp only [h, Bool.false_eq_true, if_true, if_false]
  · have hle : 2 ^ b ≤ n := Nat.ge_two_pow_of_testBit h
    have := Nat.testBit_two_pow_add_eq (n - 2 ^ b) b
    rw [Nat.add_sub_cancel' hle, h] at this
    simpa using this.symm
  · rw [Nat.add_comm, Nat.testBit_two_pow_add_eq, h]
    rfl

section
variable (m : Mod) {i : Nat} (hi : i < 8) (b : Octets)
include hi

theorem Mod.octets_putImage : (m.putImage i b).octets (0x1181 + i) 5 = b := by
  unfold Mod.octets Mod.putImage
  simp (disch := omega)
  rfl

theorem Mod.n_putImage_time : (m.putImage i b).n (0x1181 + i) 2 = if b ≠ [] then m.now else 0 := by
  unfold Mod.n Mod.putImage
  simp (disch := omega)
  split <;> rfl

theorem Mod.n_putImage_length : (m.putImage i b).n (0x1181 + i) 3 = b.length := by
  unfold Mod.n Mod.putImage
  simp (disch := omega)

theorem Mod.n_putImage_crc : (m.putImage i b).n (0x1181 + i) 4 = natOf ((b.drop 8).take 4) := by
  unfold Mod.n Mod.putImage
  simp (disch := omega)

omit hi in
theorem Mod.n_putImage_valid : ((m.putImage i b).n 0x1180 5).testBit i = decide (b ≠ []) := by
  unfold Mod.putImage
  dsimp only
  unfold Mod.n
  rw [Mod.get_putBit_same _ _ _ (by omega), Val.nat_num, testBit_setBit]

end

theorem imageOctets_ne_nil (l : List ImageRec) : imageOctets l ≠ [] := by
  unfold imageOctets
  simp [beOctets]

theorem imageOctets_crc (l : List ImageRec) : natOf (((imageOctets l).drop 8).take 4) = crc32c (l.flatMap ImageRec.octets) := by
  have : ((imageOctets l).drop 8).take 4 = beOctets 4 (crc32c (l.flatMap ImageRec.octets)) := by
    unfold imageOctets
    simp [beOctets]
  rw [this]
  exact natOf_beOctets (BitVec.isLt _)

theorem beOctets_imageNumber (i : Fin 8) : beOctets 1 i.val = [BitVec.ofNat 8 i.val] := by
  revert i
  decide

theorem natOf_imageNumber (i : Fin 8) : natOf [BitVec.ofNat 8 i.val] = i.val := by
  revert i
  decide

section
variable {s : State} {t : Nanos} {f : Frame} {x : Session} {c : Instr} {idx sub n : Nat} {b : Octets} {m2 : Mod}

/-- An accepted write that acts on the module as such, and leaves control as it was, is answered with what it did. -/
theorem completes_performed {P : Mod → Prop} (hs : s.serves) (hx : (s.m.at t).expects f x) {acc : Acc}
    (hf : (findField idx sub).map (fun fd => (fd.ty.counts, fd.acc)) = some (true, acc)) (hv : natOf b = n)
    (hp : ∀ fd, ((s.m.at t).heardFrom f).perform (x.writer f.route false) fd idx sub (.num n) .direct = (m2, done .empty, .nothing))
    (hpreud : m2.preud = ((s.m.at t).heardFrom f).preud) (he : exec c s = writeOf t f idx sub b s)
    (ha : (s.m.at t).accepts f x idx sub b) (hP : P (m2.replied f x.slot 0x11 (done .empty)))
    (hb : ∀ m, P m → P { m with rebooting := false }) : Completes c s P := by
  obtain ⟨fd, -, hc⟩ := Mod.accepts_counts ha hf
  rw [hv] at hc
  refine completes_preud (g := fun e m => m.request e f (.write idx sub false b)) he hs ?_ hb
  rw [Mod.request_direct s.events hx hs.1 hc (hp fd) (Mod.noneHeld_replied f _ _ _ fun y hy =>
    Mod.heardFrom_noneHeld hx y (by rwa [hpreud] at hy))]
  exact hP

theorem Mod.perform_save (m : Mod) (w : Writer) (fd : Field) (n : Nat) :
    m.perform w fd 0x1180 2 (.num n) .direct = (m.saveImage n, done .empty, .nothing) := rfl

theorem Mod.perform_erase (m : Mod) (w : Writer) (fd : Field) (n : Nat) :
    m.perform w fd 0x1180 4 (.num n) .direct = (m.eraseImage n, done .empty, .nothing) := rfl

theorem Mod.perform_confirm (m : Mod) (w : Writer) (fd : Field) (n : Nat) :
    m.perform w fd 0x1210 3 (.num n) .direct = (m.confirmTrial, done .empty, .nothing) := rfl

theorem image_saved (i : Fin 8) (hs : s.serves) (hx : (s.m.at t).expects f x)
    (ha : (s.m.at t).accepts f x 0x1180 2 [BitVec.ofNat 8 i.val]) :
    Completes (.imageSave t f i.val) s fun m' => m'.octets (0x1181 + i.val) 5 = imageOctets ((s.m.at t).heardFrom f).imageRecords
      ∧ m'.n (0x1181 + i.val) 2 = (s.m.at t).now
      ∧ m'.n (0x1181 + i.val) 3 = (imageOctets ((s.m.at t).heardFrom f).imageRecords).length
      ∧ m'.n (0x1181 + i.val) 4 = crc32c (((s.m.at t).heardFrom f).imageRecords.flatMap ImageRec.octets)
      ∧ (m'.n 0x1180 5).testBit i.val = true ∧ m'.told 0x1105 i.val [i.val, 0]
      ∧ Output.reply f.route f.peer f.peerPort f.sid 0x11 f.req (done .empty) ∈ m'.out := by
  have he : exec (.imageSave t f i.val) s = writeOf t f 0x1180 2 [BitVec.ofNat 8 i.val] s := by
    rw [← beOctets_imageNumber]
    rfl
  refine completes_performed hs hx (acc := .wo) (by decide) (natOf_imageNumber i) (fun fd => Mod.perform_save _ _ fd _) ?_ he ha ?_
    fun _ h => h
  · unfold Mod.saveImage
    rw [Mod.raise_preud]
    exact Mod.putImage_part _ _ _ (p := .preud) (by decide)
  · have hkept {j k : Nat} (hj : unanswered j) (hk : k < 256) (hq : j < 0x7400) :
        ((((s.m.at t).heardFrom f).saveImage i.val).replied f x.slot 0x11 (done .empty)).get j k
          = (((s.m.at t).heardFrom f).putImage i.val (imageOctets ((s.m.at t).heardFrom f).imageRecords)).get j k := by
      rw [Mod.get_replied _ _ _ _ _ hj hk]
      exact Mod.get_raise_frame _ _ _ _ (by omega)
    unfold Mod.octets Mod.n
    rw [hkept (by omega) (by decide) (by omega), hkept (by omega) (by decide) (by omega), hkept (by omega) (by decide) (by omega),
      hkept (by omega) (by decide) (by omega), hkept (by omega) (by decide) (by omega)]
    refine ⟨Mod.octets_putImage _ i.isLt _, (Mod.n_putImage_time _ i.isLt _).trans ?_, Mod.n_putImage_length _ i.isLt _,
      (Mod.n_putImage_crc _ i.isLt _).trans (imageOctets_crc _), (Mod.n_putImage_valid _ _).trans ?_, ⟨severityOf 0x1105, ?_⟩, by simp⟩
    · rw [if_pos (imageOctets_ne_nil _), Mod.heardFrom_now]
    · exact decide_eq_true (imageOctets_ne_nil _)
    · rw [Mod.replied_raised]
      exact Mod.mem_raise _ _ _ _

theorem image_erased (i : Fin 8) (hs : s.serves) (hx : (s.m.at t).expects f x)
    (ha : (s.m.at t).accepts f x 0x1180 4 [BitVec.ofNat 8 i.val]) :
    Completes (.imageErase t f i.val) s fun m' => m'.octets (0x1181 + i.val) 5 = [] ∧ m'.n (0x1181 + i.val) 3 = 0
      ∧ (m'.n 0x1180 5).testBit i.val = false ∧ m'.told 0x1105 i.val [i.val, 2]
      ∧ Output.reply f.route f.peer f.peerPort f.sid 0x11 f.req (done .empty) ∈ m'.out := by
  have he : exec (.imageErase t f i.val) s = writeOf t f 0x1180 4 [BitVec.ofNat 8 i.val] s := by
    rw [← beOctets_imageNumber]
    rfl
  refine completes_performed hs hx (acc := .wo) (by decide) (natOf_imageNumber i) (fun fd => Mod.perform_erase _ _ fd _) ?_ he ha ?_
    fun _ h => h
  · unfold Mod.eraseImage
    rw [Mod.raise_preud, Mod.clear_preud]
    exact Mod.putImage_part _ _ _ (p := .preud) (by decide)
  · have hkept {j k : Nat} (hj : unanswered j) (hk : 1 < k ∧ k < 256) (hq : j < 0x7400) :
        ((((s.m.at t).heardFrom f).eraseImage i.val).replied f x.slot 0x11 (done .empty)).get j k
          = (((s.m.at t).heardFrom f).putImage i.val []).get j k := by
      rw [Mod.get_replied _ _ _ _ _ hj hk.2]
      unfold Mod.eraseImage
      rw [Mod.get_raise_frame _ _ _ _ (by omega), Mod.get_clear_frame _ _ _ (by omega) (by omega)]
    unfold Mod.octets Mod.n
    rw [hkept (by omega) (by decide) (by omega), hkept (by omega) (by decide) (by omega), hkept (by omega) (by decide) (by omega)]
    refine ⟨Mod.octets_putImage _ i.isLt _, Mod.n_putImage_length _ i.isLt _, Mod.n_putImage_valid _ _, ⟨severityOf 0x1105, ?_⟩, by simp⟩
    rw [Mod.replied_raised]
    exact Mod.mem_raise _ _ _ _

/-- An image that loads leaves the module as its records leave it. -/
theorem image_loaded (i : Fin 8) (hs : s.serves) (hx : (s.m.at t).expects f x) {l : List ImageRec} {m1 : Mod} {w1 : Writer}
    (ha : (s.m.at t).accepts f x 0x1180 3 [BitVec.ofNat 8 i.val]) (hload : ((s.m.at t).heardFrom f).loadable = true)
    (hparse : parseImage ((s.m.at t).octets (0x1181 + i.val) 5) = some l)
    (hrecs : (((s.m.at t).heardFrom f).clearFlows.modPreud fun p => { p with awaitBoot := [] }).loadRecords (loader f.sid f.route)
      false l = .ok (m1, w1)) (hcross : m1.crossFault = none) :
    let m2 := ((m1.put 0x1180 6 i.val).putFlag 0x1180 7 (m1.preud.awaitBoot ≠ [])).raise 0x1105 i.val [i.val, 1]
    Does (.imageLoad t f i.val) s ((m2.modSession f.sid fun y => { y with selector := w1.selector }).replied f x.slot 0x11
      (done .empty)) := by
  intro m2
  have he : exec (.imageLoad t f i.val) s = writeOf t f 0x1180 3 [BitVec.ofNat 8 i.val] s := by
    rw [← beOctets_imageNumber]
    rfl
  obtain ⟨fd, -, hc⟩ := Mod.accepts_counts ha (acc := .wo) (by decide)
  rw [natOf_imageNumber] at hc
  have hsid : x.sid = f.sid := Mod.session_sid hx.2.1
  have hoctets : ((s.m.at t).heardFrom f).octets (0x1181 + i.val) 5 = (s.m.at t).octets (0x1181 + i.val) 5 := by
    unfold Mod.octets
    rw [Mod.get_heardFrom _ _ (by omega) (by decide)]
  have hloads : ((s.m.at t).heardFrom f).loadImage f.sid f.route i.val = .ok (m2, w1.selector) := by
    unfold Mod.loadImage Mod.applyImage
    rw [hload, if_neg (by decide), hoctets, hparse]
    dsimp only
    rw [hrecs]
    dsimp only
    rw [hcross]
  have hp : ((s.m.at t).heardFrom f).perform (x.writer f.route false) fd 0x1180 3 (.num i.val) .direct
      = (m2.modSession f.sid fun y => { y with selector := w1.selector }, done .empty, .nothing) := by
    show (match ((s.m.at t).heardFrom f).loadImage x.sid f.route i.val with
      | .error e => (((s.m.at t).heardFrom f), e.reply, After.nothing)
      | .ok (m, e) => (m.modSession x.sid fun y => { y with selector := e }, done .empty, .nothing)) = _
    rw [hsid, hloads]
  obtain ⟨hreb, hpreud⟩ := Mod.loadRecords_control hrecs
  have hflows : ((s.m.at t).heardFrom f).clearFlows.preud = ((s.m.at t).heardFrom f).preud :=
    ((s.m.at t).heardFrom f).clearFlows_part (p := .preud) (by decide)
  have hloaded : m1.preud.sessions = ((s.m.at t).heardFrom f).clearFlows.preud.sessions :=
    (PreudS.of_control_eq hpreud).1
  have hsessions : m2.preud.sessions = ((s.m.at t).heardFrom f).preud.sessions := by
    rw [Mod.raise_preud, Mod.putFlag_preud, Mod.put_preud, hloaded, hflows]
  have hheld : m2.noneHeld := fun y hy => Mod.heardFrom_noneHeld hx y (by rwa [hsessions] at hy)
  have hboot : m2.rebooting = false := by
    have hcleared : ((s.m.at t).heardFrom f).clearFlows.rebooting = ((s.m.at t).heardFrom f).rebooting :=
      ((s.m.at t).heardFrom f).clearFlows_part (p := .rebooting) (by decide)
    rw [Mod.raise_rebooting, Mod.putFlag_rebooting, Mod.put_rebooting, hreb, Mod.modPreud_rebooting, hcleared]
    simpa using hs.2
  refine does_preud (t := t) (g := fun e m => m.request e f (.write 0x1180 3 false [BitVec.ofNat 8 i.val])) hs (fun e => ?_) ?_ he
  · exact Mod.request_direct e hx hs.1 hc hp (Mod.noneHeld_replied f _ _ _ (Mod.noneHeld_modSession _ (fun _ h => h) hheld))
  · rwa [Mod.replied_rebooting, Mod.modSession_rebooting]

/-! ### Trials (R339) -/

theorem Mod.confirmTrial_preud (m : Mod) : m.confirmTrial.preud = m.preud := by
  unfold Mod.confirmTrial
  split
  · rfl
  · simp

theorem Mod.n_put_other (m : Mod) {i k j t : Nat} (v : Nat) (hf : i * 256 + k ≠ 0x100005) (hk : i * 256 + k ≠ j * 256 + t) :
    (m.put i k v).n j t = m.n j t := congrArg Val.nat (m.get_put_frame v hf hk)

theorem Mod.n_raise (m : Mod) (c r : Nat) (l : List Nat) {j t : Nat} (hq : j * 256 + t < 0x740000 ∨ 0x741100 ≤ j * 256 + t) :
    (m.raise c r l).n j t = m.n j t := congrArg Val.nat (m.get_raise_frame c r l hq)

/-- A trial that is confirmed makes the running image the preferred one. -/
theorem Mod.confirmTrial_confirms {m : Mod} (h : m.hw.trialFrom ≠ none) :
    m.confirmTrial.n 0x1200 7 = m.n 0x1200 1 ∧ (m.n 0x1200 1 ≤ 1 → m.confirmTrial.n 0x1200 (5 + m.n 0x1200 1) = 2)
      ∧ m.confirmTrial.n 0x1200 8 = max (m.n 0x1200 8) (nth m.hw.images (m.n 0x1200 1)).floor ∧ m.confirmTrial.n 0x1210 5 = 0
      ∧ m.confirmTrial.hw.trialFrom = none ∧ m.confirmTrial.told 0x1204 0 [m.n 0x1200 1] := by
  obtain ⟨y, hy⟩ := Option.ne_none_iff_exists'.mp h
  unfold Mod.confirmTrial
  rw [hy]
  dsimp only
  have hhw (m : Mod) (g : HwS → HwS) (j t : Nat) : (m.modHw g).n j t = m.n j t := rfl
  refine ⟨?_, fun hle => ?_, ?_, ?_, ?_, ⟨severityOf 0x1204, Mod.mem_raise _ _ _ _⟩⟩
  · rw [Mod.n_raise _ _ _ _ (by omega), Mod.n_put_other _ _ (by omega) (by omega), hhw, Mod.n_put_other _ _ (by omega) (by omega),
      Mod.n_put _ _ _ _ (by omega)]
  · rw [Mod.n_raise _ _ _ _ (by omega), Mod.n_put_other _ _ (by omega) (by omega), hhw, Mod.n_put_other _ _ (by omega) (by omega),
      Mod.n_put_other _ _ (by omega) (by omega), Mod.n_put _ _ _ _ (by omega)]
  · rw [Mod.n_raise _ _ _ _ (by omega), Mod.n_put_other _ _ (by omega) (by omega), hhw, Mod.n_put _ _ _ _ (by omega)]
  · rw [Mod.n_raise _ _ _ _ (by omega), Mod.n_put _ _ _ _ (by omega)]
  · rw [Mod.raise_hw, Mod.put_hw]
    rfl

theorem trial_confirmed (hs : s.serves) (hx : (s.m.at t).expects f x) (ha : (s.m.at t).accepts f x 0x1210 3 [1])
    (htrial : (s.m.at t).hw.trialFrom ≠ none) :
    Completes (.confirmTrial t f) s fun m' =>
      m'.n 0x1200 7 = (s.m.at t).n 0x1200 1 ∧ ((s.m.at t).n 0x1200 1 ≤ 1 → m'.n 0x1200 (5 + (s.m.at t).n 0x1200 1) = 2)
        ∧ m'.n 0x1200 8 = max ((s.m.at t).n 0x1200 8) (nth (s.m.at t).hw.images ((s.m.at t).n 0x1200 1)).floor
        ∧ m'.n 0x1210 5 = 0 ∧ m'.hw.trialFrom = none ∧ m'.told 0x1204 0 [(s.m.at t).n 0x1200 1]
        ∧ Output.reply f.route f.peer f.peerPort f.sid 0x11 f.req (done .empty) ∈ m'.out := by
  have hn {i k : Nat} (hi : i ≠ 0x2610) (hk : k < 256) : ((s.m.at t).heardFrom f).n i k = (s.m.at t).n i k := by
    unfold Mod.n
    rw [Mod.get_heardFrom _ _ hi hk]
  have hr {m : Mod} {i k : Nat} (hi : unanswered i) (hk : k < 256) : (m.replied f x.slot 0x11 (done .empty)).n i k = m.n i k := by
    unfold Mod.n
    rw [Mod.get_replied _ _ _ _ _ hi hk]
  obtain ⟨hran, hfirst, hfloor, hstate, hended, htold⟩ := Mod.confirmTrial_confirms (m := (s.m.at t).heardFrom f) (by rwa [Mod.heardFrom_hw])
  rw [hn (by decide) (by decide)] at hran hfirst hfloor htold
  refine completes_performed hs hx (acc := .wo) (n := 1) (by decide) rfl (fun fd => Mod.perform_confirm _ _ fd _) ?_ rfl ha
    ⟨?_, fun hle => ?_, ?_, ?_, ?_, ?_, by simp⟩ fun _ h => h
  · exact Mod.confirmTrial_preud _
  · rw [hr (by decide) (by decide), hran]
  · rw [hr (by decide) (by omega), hfirst hle]
  · rw [hr (by decide) (by decide), hfloor, hn (by decide) (by decide), Mod.heardFrom_hw]
  · rw [hr (by decide) (by decide), hstate]
  · rw [Mod.replied_hw, hended]
  · obtain ⟨v, hv⟩ := htold
    exact ⟨v, by rwa [Mod.replied_raised]⟩

theorem no_trial_confirmed (hs : s.serves) (hx : (s.m.at t).expects f x) (ha : (s.m.at t).accepts f x 0x1210 3 [1])
    (htrial : (s.m.at t).hw.trialFrom = none) :
    Does (.confirmTrial t f) s (((s.m.at t).heardFrom f).replied f x.slot 0x11 (done .empty)) := by
  obtain ⟨fd, -, hc⟩ := Mod.accepts_counts ha (acc := .wo) (by decide)
  have hp := Mod.perform_confirm ((s.m.at t).heardFrom f) (x.writer f.route false) fd (natOf [1])
  have hnone : ((s.m.at t).heardFrom f).confirmTrial = (s.m.at t).heardFrom f := by
    unfold Mod.confirmTrial
    rw [Mod.heardFrom_hw, htrial]
  rw [hnone] at hp
  refine does_preud (t := t) (g := fun e m => m.request e f (.write 0x1210 3 false [1])) hs (fun e => ?_) ?_ rfl
  · exact Mod.request_direct e hx hs.1 hc hp (Mod.noneHeld_replied f _ _ _ (Mod.heardFrom_noneHeld hx))
  · rw [Mod.replied_rebooting]
    simpa using hs.2

end

/-! ### Boots (R335, Table 17.5) -/

/-- A boot is under way, and nothing of control is left. -/
abbrev Mod.blank (m : Mod) : Prop :=
  m.rebooting = true ∧ m.preud.sessions = [] ∧ m.preud.changeSets = [] ∧ m.preud.transfers = [] ∧ m.preud.timed = []

theorem Mod.blank_of_part {m m' : Mod} (h : ∀ p, controlPart p → m'.part p = m.part p) (hb : m.blank) : m'.blank := by
  have hr : m'.rebooting = m.rebooting := h .rebooting (.inr rfl)
  have hp : m'.preud = m.preud := h .preud (.inl rfl)
  unfold Mod.blank
  rwa [hr, hp]

theorem Mod.blank_each {α : Type} {l : List α} {g : Mod → α → Mod} (h : ∀ m x, m.blank → (g m x).blank) {m : Mod} (hb : m.blank) :
    (m.each l g).blank := by
  unfold Mod.each
  induction l generalizing m with
  | nil => exact hb
  | cons x l ih => exact ih (h m x hb)

theorem Mod.blank_discardOpen (m : Mod) (fid cause : Nat) (hb : m.blank) : (m.discardOpen fid cause).blank := by
  obtain ⟨-, -, hsets, -⟩ := id hb
  unfold Mod.discardOpen Mod.changeSet
  rw [hsets]
  exact hb

theorem Mod.blank_haltFn (m : Mod) (fid : Nat) (drop : Bool) (hb : m.blank) : (m.haltFn fid drop).blank := by
  have hstop : (m.modPreud fun p => { p with stopping := p.stopping.filter fun (x : Nat × Nanos) => x.1 ≠ fid }).blank := hb
  unfold Mod.haltFn
  refine Mod.blank_of_part (fun p hp => ?_) hstop
  rcases hp with rfl | rfl <;> simp

theorem Mod.blank_haltMedia (m : Mod) (hb : m.blank) : m.haltMedia.blank := by
  obtain ⟨hr, hs, hc, ht, hw⟩ := hb
  unfold Mod.haltMedia
  dsimp only
  refine Mod.blank_of_part (fun p hp => Mod.showTimed_part _ (by rcases hp with rfl | rfl <;> decide)) ?_
  refine Mod.blank_each (fun m x hb => m.blank_haltFn x true hb) (Mod.blank_each (fun m x hb => m.blank_discardOpen x 2 hb)
    ⟨hr, hs, ?_, ht, hw⟩)
  simp [Mod.modPreud, hc]

section
variable {m : Mod} (hb : m.blank)
include hb

theorem Mod.blank_set (i k : Nat) (v : Val) : (m.set i k v).blank := hb

theorem Mod.blank_put (i k v : Nat) : (m.put i k v).blank := hb

theorem Mod.blank_modClk (g : ClockS → ClockS) : (m.modClk g).blank := hb

theorem Mod.blank_edgeObjs (x : Store) : ({ m with edgeObjs := x } : Mod).blank := hb

end

/-- Commands of functions may go. -/
theorem Mod.blank_commands (m : Mod) (g : List FnCmd → List FnCmd) (hb : m.blank) :
    (m.modPreud fun p => { p with fnCmds := g p.fnCmds }).blank := hb

theorem Mod.blank_loseCrystals (m : Mod) (hb : m.blank) : (m.loseCrystals 0).blank := by
  have hfence : (if m.role = Role.active then m.fence 1 none else m).blank := by
    split
    · exact Mod.blank_of_part (fun p hp => Mod.fence_part _ _ _ (by rcases hp with rfl | rfl <;> decide)) hb
    · exact hb
  have hcmds := Mod.blank_commands _ (fun l => l.filter fun (x : FnCmd) => x.fid ≠ twinFid) (Mod.blank_haltMedia _ hfence)
  unfold Mod.loseCrystals
  dsimp only
  refine Mod.blank_of_part (fun p hp => ?_) (Mod.blank_discardOpen _ twinFid 2 hcmds)
  rcases hp with rfl | rfl <;> simp

theorem Mod.blank_xaFails (m : Mod) (hb : m.blank) : (m.xaFails 0).blank := by
  unfold Mod.xaFails
  refine Mod.blank_of_part (fun p hp => ?_) (m.blank_loseCrystals hb)
  rcases hp with rfl | rfl <;> simp

/-- What changes of control only the values that await the next boot leaves a boot blank. -/
theorem Mod.blank_of_control {m m' : Mod} (hr : m'.rebooting = m.rebooting) (hp : m'.preud.control = m.preud.control) (hb : m.blank) :
    m'.blank := by
  obtain ⟨h1, h2, h3, h4⟩ := PreudS.of_control_eq hp
  unfold Mod.blank
  rwa [hr, h1, h2, h3, h4]

theorem Mod.blank_loadAtBoot (m : Mod) (hb : m.blank) : m.loadAtBoot.blank := by
  have hflows : m.clearFlows.blank := Mod.blank_of_part (fun p hp => Mod.clearFlows_part _ (by rcases hp with rfl | rfl <;> decide)) hb
  have hloaded {l : List ImageRec} {m1 : Mod} {e : Nat} (h : m.applyImage (loader 0 .b0) true l = .ok (m1, e)) : m1.blank := by
    unfold Mod.applyImage at h
    dsimp only at h
    split at h
    · cases h
    · next hl =>
      split at h
      · cases h
      · obtain ⟨rfl, -⟩ := Prod.mk.inj (Except.ok.inj h)
        obtain ⟨hr, hp⟩ := Mod.loadRecords_control hl
        exact Mod.blank_of_control hr hp hflows
  unfold Mod.loadAtBoot
  dsimp only
  split
  · next h =>
    split at h
    · cases h
    · split at h
      · cases h
      · next h' =>
        have := hloaded h'
        rw [← Option.some.inj h]
        exact this
  · have hraised : (m.raise 0x1106 (m.n 0x1180 1) [m.n 0x1180 1]).blank :=
      Mod.blank_of_part (fun p hp => Mod.raise_part _ _ _ _ (by rcases hp with rfl | rfl <;> decide)) hb
    exact hraised

theorem Mod.blank_retime (m : Mod) (hb : m.blank) : m.retime.blank := by
  obtain ⟨hr, hs, hc, ht, hw⟩ := hb
  unfold Mod.retime
  refine Mod.blank_each (fun m x hb => Mod.blank_of_part (fun p hp => Mod.raise_part _ _ _ _ (by rcases hp with rfl | rfl <;> decide)) hb)
    ⟨hr, hs, hc, ht, ?_⟩
  rw [hw]
  rfl

theorem Mod.blank_shiftTime (m : Mod) (delta : Int) (hb : m.blank) : (m.shiftTime delta).blank := by
  unfold Mod.shiftTime
  exact Mod.blank_of_part (fun p hp => Mod.showTick_part _ (by rcases hp with rfl | rfl <;> decide)) (Mod.blank_retime _ hb)

theorem Mod.blank_beginTime (m : Mod) (hb : m.blank) : m.beginTime.blank := by
  have hshift (fam : Family) : (Mod.shiftTime { m with fam := fam, timeFn := running } 0).blank := Mod.blank_shiftTime _ 0 hb
  unfold Mod.beginTime
  dsimp only
  split <;> refine Mod.blank_of_part (fun p hp => ?_) (hshift (familyOf (m.n 0x1400 0) (m.n 0x1401 0))) <;> rcases hp with rfl | rfl
    <;> simp

theorem Mod.blank_bootService (m : Mod) (hb : m.blank) : m.bootService.blank := by
  have hmem : (if m.loadAtBoot.regionsFit then m.loadAtBoot.beginMemory else m.loadAtBoot).blank := by
    split
    · exact Mod.blank_of_part (fun p hp => Mod.put_part _ _ _ _ (by rcases hp with rfl | rfl <;> decide)) (m.blank_loadAtBoot hb)
    · exact m.blank_loadAtBoot hb
  unfold Mod.bootService Mod.beginManagement
  refine Mod.blank_of_part (fun p hp => ?_) (Mod.blank_beginTime _ hmem)
  rcases hp with rfl | rfl <;> simp

theorem Mod.blank_bootClocks (m old : Mod) (cold : Nat) (xaOk : Bool) (hb : m.blank) : (m.bootClocks old cold xaOk).blank := by
  unfold Mod.bootClocks
  split
  · exact Mod.blank_modClk (Mod.blank_each (fun m k hb => Mod.blank_each (fun m s hb => Mod.blank_set hb _ _ _) hb)
      (Mod.blank_each (fun m s hb => Mod.blank_set hb _ _ _) hb)) _
  · dsimp only
    split
    · refine Mod.blank_of_part (fun p hp => ?_) hb
      rcases hp with rfl | rfl <;> simp
    · refine Mod.blank_xaFails _ (Mod.blank_of_part (fun p hp => ?_) hb)
      rcases hp with rfl | rfl <;> simp

theorem Mod.bootFirmware_part (m : Mod) (i cause : Nat) (trial : Option Nat) (ended : Bool) (failed : List (Nat × Nat)) {p : Part}
    (hp : controlPart p) : (m.bootFirmware i cause trial ended failed).part p = m.part p := by
  unfold Mod.bootFirmware
  rcases hp with rfl | rfl <;> simp

theorem Mod.bootMemory_part (m : Mod) (info : BootInfo) {p : Part} (hp : controlPart p) : (m.bootMemory info).part p = m.part p := by
  unfold Mod.bootMemory Mod.judgePopulation Mod.calibrated
  rcases hp with rfl | rfl <;> simp

theorem Mod.blank_reboot (m : Mod) (cause cold : Nat) (info : BootInfo) (fallback : Bool) : (m.reboot cause cold info fallback).blank := by
  have hreset (m : Mod) : (m.afterReset info cold).blank := ⟨rfl, rfl, rfl, rfl, rfl⟩
  unfold Mod.reboot
  dsimp only
  generalize (Mod.put _ 0x1030 2 cause) = old
  split
  · exact hreset old
  · split
    · refine Mod.blank_of_part (m := old.afterReset info cold) (fun p hp => ?_) (hreset old)
      rcases hp with rfl | rfl <;> simp
    · next i failed _ =>
      refine Mod.blank_edgeObjs (Mod.blank_bootService _ (Mod.blank_of_part (fun p hp => Mod.bootMemory_part _ _ hp) ?_)) _
      refine Mod.blank_each (fun m j hb => Mod.blank_put hb _ _ _) (Mod.blank_put (Mod.blank_put ?_ _ _ _) _ _ _)
      have hclocks (i : Nat) (trial : Option Nat) (ended : Bool) (failed : List (Nat × Nat)) :
          (((old.afterReset info cold).bootFirmware i cause trial ended failed).bootClocks old cold info.xaOk).blank :=
        Mod.blank_bootClocks _ _ _ _ (Mod.blank_of_part (fun p hp => Mod.bootFirmware_part _ _ _ _ _ _ hp) (hreset old))
      have hfeeds {m : Mod} (hb : m.blank) : ((m.bootAddress info).bootFeeds old).blank := by
        unfold Mod.bootFeeds Mod.bootAddress
        refine Mod.blank_of_part (fun p hp => ?_) hb
        rcases hp with rfl | rfl <;> simp
      exact hfeeds (hclocks _ _ _ _)

/-- A command that boots the module begins the next boot's events, with nothing of control left. -/
theorem boots_of {s : State} {t : Nanos} {g : EventLog → Mod → Mod} {c : Instr} (he : exec c s = actAnyE t g s)
    (hb : (g s.events (s.m.at t)).blank) :
    ∃ s', exec c s = .next s' ∧ s'.events = ⟨s.events.epoch + 1, 0, []⟩ ∧ s'.pending = s.pending ∧ s'.m.preud.sessions = []
      ∧ s'.m.preud.changeSets = [] ∧ s'.m.preud.transfers = [] ∧ s'.m.preud.timed = [] ∧ s'.m.rebooting = false := by
  obtain ⟨hr, hs, hc, ht, hw⟩ := hb
  refine ⟨_, he, ?_⟩
  unfold State.settle
  rw [if_pos hr]
  exact ⟨rfl, rfl, hs, hc, ht, hw, rfl⟩

theorem Mod.perform_reset (m : Mod) (w : Writer) (fd : Field) (v : Val) : m.perform w fd 0x1030 1 v .direct = (m, done .empty, .reset) := rfl

theorem Mod.perform_activate (m : Mod) (w : Writer) (fd : Field) (v : Val) :
    m.perform w fd 0x1210 2 v .direct = (m, done .empty, .activate) := rfl

/-- An accepted write that the module answers and then boots for. -/
theorem Mod.request_boots {m : Mod} {f : Frame} {x : Session} {idx sub : Nat} {b : Octets} {a : After} (e : EventLog) (hr : m.runs = true)
    (hx : m.expects f x) (ha : m.accepts f x idx sub b)
    (hp : ∀ fd v, (m.heardFrom f).perform (x.writer f.route false) fd idx sub v .direct = (m.heardFrom f, done .empty, a))
    (hb : (((m.heardFrom f).replied f x.slot 0x11 (done .empty)).afterwards f.sid a).blank) :
    (m.request e f (.write idx sub false b)).blank := by
  obtain ⟨⟨fd, v⟩, hc⟩ := ha
  rw [Mod.request_direct e hx hr hc (hp fd v) fun y hy => by rw [hb.2.1] at hy; cases hy]
  exact hb

/-- Settles O15: images are kept, emptied and loaded as a whole, a trial is confirmed once, and a reset begins the next boot. -/
theorem imagesTrialsAndResets : Obligations.ImagesTrialsAndResets := by
  refine ⟨fun s t f x i hs hx => ?_, fun s t f x hs hx ha => ⟨trial_confirmed hs hx ha, no_trial_confirmed hs hx ha⟩, fun s t hs => ?_⟩
  · exact ⟨image_saved i hs hx, image_erased i hs hx, fun l m1 w1 ha hload hparse hrecs hcross =>
      image_loaded i hs hx ha hload hparse hrecs hcross⟩
  · intro boots
    have hruns : (s.m.at t).runs = true := hs.1
    have hhears : (s.m.at t).hears = true := by
      unfold Mod.hears
      rw [hruns, Bool.true_or]
    refine ⟨fun f x hx => ⟨fun ha => ?_, fun ha => ?_, fun ha => ?_⟩, fun cls => ?_, fun low b hlow => ?_⟩
    · refine boots_of (t := t) (g := fun e m => if m.hears then m.request e f (.write 0x1030 1 false [1]) else m) rfl ?_
      rw [if_pos hhears]
      exact Mod.request_boots _ hruns hx ha (fun fd v => Mod.perform_reset _ _ fd v) (Mod.blank_reboot _ _ _ _ _)
    · refine boots_of (t := t) (g := fun e m => if m.hears then m.request e f (.write 0x1030 1 false [2]) else m) rfl ?_
      rw [if_pos hhears]
      exact Mod.request_boots _ hruns hx ha (fun fd v => Mod.perform_reset _ _ fd v) (Mod.blank_reboot _ _ _ _ _)
    · refine boots_of (t := t) (g := fun e m => if m.hears then m.request e f (.write 0x1210 2 false [1]) else m) rfl ?_
      rw [if_pos hhears]
      exact Mod.request_boots _ hruns hx ha (fun fd v => Mod.perform_activate _ _ fd v) (Mod.blank_reboot _ _ _ _ _)
    · refine boots_of (t := t) (g := fun _ m => if m.runs then m.watchdogReset else m) rfl ?_
      rw [if_pos hruns]
      exact Mod.blank_reboot _ _ _ _ _
    · refine boots_of (t := t) (g := fun _ m => m.chassisReset low b) rfl ?_
      have hon : (s.m.at t).hw.power ≠ .off := fun hoff => by
        unfold Mod.runs at hruns
        rw [hoff] at hruns
        cases hruns
      unfold Mod.chassisReset
      have hno : ¬(decide (low < 1000000) || decide ((s.m.at t).hw.power = .off)) = true := by
        rw [Bool.or_eq_true_iff, decide_eq_true_eq, decide_eq_true_eq]
        rintro (h | h)
        · omega
        · exact hon h
      rw [if_neg hno]
      exact Mod.blank_reboot _ _ _ _ _

end Sys2Proof.Machine
end

section
/-! SUPPORT. One holder of the keystone at a time (R215, R232, R239). -/

namespace Sys2Proof.Machine

/-- What a witness holds of a pair: the holder, the term and the deadline. -/
def Mod.pairView (m : Mod) (k : Nat) : Nat × Nat × Nanos := (m.n (0x7100 + k) 7, m.n (0x7100 + k) 8, (m.wslot k).deadline)

section
variable (m : Mod) {k : Nat} (hk : k < 64)

theorem Mod.pairView_of {m' : Mod} (h7 : m'.get (0x7100 + k) 7 = m.get (0x7100 + k) 7) (h8 : m'.get (0x7100 + k) 8 = m.get (0x7100 + k) 8)
    (ht : m'.twin = m.twin) : m'.pairView k = m.pairView k := by
  unfold Mod.pairView Mod.n Mod.wslot
  rw [h7, h8, ht]

/-- A Komund frame counts where it goes out. -/
theorem Mod.get_komundFrames {j t : Nat} (hj : j ≠ 0x2610 ∧ (j < 0x3840 ∨ 0x385F < j)) (ht : t < 256) :
    m.komundFrames.get j t = m.get j t := by
  obtain ⟨hservice, hport⟩ := hj
  have hbump (m : Mod) : (if (m.n 0x7000 8).testBit 1 then m.bump 0x2610 4 else m).get j t = m.get j t := by
    split
    · exact m.get_bump_frame (by decide) (by omega)
    · rfl
  refine Eq.trans ?_ (hbump m)
  unfold Mod.komundFrames
  dsimp only
  generalize (if (m.n 0x7000 8).testBit 1 then m.bump 0x2610 4 else m) = m1
  split
  · refine Mod.get_each fun m n hn => ?_
    split
    · exact m.get_countOwn n 0 (maskPorts_lt hn) (by decide) hport ht
    · rfl
  · rfl

include hk

theorem Mod.pairView_reply (s kind subject req lease result : Nat) : (m.reply s kind subject req lease result).pairView k = m.pairView k := by
  have hget (t : Nat) (ht : t = 7 ∨ t = 8) :
      (m.reply s kind subject req lease result).get (0x7100 + k) t = m.get (0x7100 + k) t := by
    have hsent (o : Output) : (m.send o).komundFrames.get (0x7100 + k) t = m.get (0x7100 + k) t :=
      Mod.get_komundFrames _ (by omega) (by omega)
    unfold Mod.reply
    dsimp only
    split
    · rw [Mod.get_bump_frame _ (by decide) (by omega), hsent]
    · split
      · rw [Mod.get_bump_frame _ (by omega) (by omega), hsent]
      · exact hsent _
  exact m.pairView_of (hget 7 (.inl rfl)) (hget 8 (.inr rfl)) (Mod.reply_part _ _ _ _ _ _ _ (p := .twin) (by decide))

theorem Mod.pairView_discardKomund : m.discardKomund.pairView k = m.pairView k := by
  have hget (t : Nat) (ht : t < 256) : m.discardKomund.get (0x7100 + k) t = m.get (0x7100 + k) t := by
    unfold Mod.discardKomund
    rw [Mod.get_raiseLimited_frame _ _ _ _ _ (by omega), Mod.get_bump_frame _ (by decide) (by omega)]
  exact m.pairView_of (hget 7 (by decide)) (hget 8 (by decide)) (Mod.discardKomund_part _ (p := .twin) (by decide))

omit hk

/-- The witness slot of a pair is that pair's. -/
theorem Mod.wslot_slot (s : Nat) : (m.wslot s).slot = s := by
  unfold Mod.wslot
  cases h : m.twin.slots.find? fun x => x.slot = s with
  | none => rfl
  | some x => simpa using List.find?_some h

/-- The slot set is the slot read, and no other changes. -/
theorem Mod.wslot_setWslot (x : WitnessSlot) (k : Nat) : (m.setWslot x).wslot k = if k = x.slot then x else m.wslot k := by
  unfold Mod.wslot Mod.setWslot Mod.modTwin
  dsimp only
  rw [List.find?_append, List.find?_filter]
  by_cases h : k = x.slot
  · rw [if_pos h, List.find?_eq_none.mpr, Option.none_or, List.find?_singleton, if_pos (by simp [h])]
    · rfl
    · intro y _
      simp [h]
  · rw [if_neg h, List.find?_singleton, if_neg (by simpa using fun e => h e.symm), Option.or_none]
    refine congrArg (fun o => Option.getD o _) (congrArg (fun q => List.find? q m.twin.slots) (funext fun y => ?_))
    by_cases hy : y.slot = k
    · simp [hy, h]
    · simp [hy]

theorem Mod.pairView_setWslot {x : WitnessSlot} (h : x.slot = k → x.deadline = (m.wslot k).deadline) :
    (m.setWslot x).pairView k = m.pairView k := by
  unfold Mod.pairView
  rw [Mod.wslot_setWslot]
  by_cases hk : k = x.slot
  · rw [if_pos hk, h hk.symm]
    rfl
  · rw [if_neg hk]
    rfl

theorem Mod.pairView_grantPair {s : Nat} (hs : s < 64) (hk : k < 64) (h : s ≠ k) (fuse req : Nat) (from_ : Nanos) :
    (m.grantPair s fuse req from_).pairView k = m.pairView k := by
  unfold Mod.grantPair
  dsimp only
  rw [Mod.pairView_reply _ hk, Mod.pairView_setWslot]
  rotate_left
  · exact fun he => absurd ((m.wslot_slot s).symm.trans he) h
  exact m.pairView_of ((Mod.get_put_frame _ _ (by omega) (by omega)).trans (Mod.get_put_frame _ _ (by omega) (by omega)))
    ((Mod.get_put_frame _ _ (by omega) (by omega)).trans (Mod.get_put_frame _ _ (by omega) (by omega))) rfl

theorem Mod.slotOfPair_lt {m : Mod} {pair s : Nat} (h : m.slotOfPair pair = some s) : s < 64 :=
  List.mem_range.mp (List.mem_of_find?_eq_some h)

/-- While a pair has a holder and its deadline with the guard time has not passed, an ACQUIRE moves none of it. -/
theorem Mod.pairView_witnessAcquire {x : KMsg} (hk : k < 64) (hheld : m.n (0x7100 + k) 7 ≠ 0)
    (hrun : m.ctr < (m.wslot k).deadline + guardTime) : (m.witnessAcquire x).pairView k = m.pairView k := by
  unfold Mod.witnessAcquire Mod.atWitness
  split
  · rfl
  · split
    · exact m.pairView_discardKomund hk
    · split
      · rfl
      · next s hs =>
        have hs64 := Mod.slotOfPair_lt hs
        have hset := m.pairView_setWslot (k := k) (x := { m.wslot s with
          last := ((m.wslot s).last.filter fun (y : Nat × Nat) => y.1 ≠ x.sender) ++ [(x.sender, x.req)] })
          fun he => by rw [← he, m.wslot_slot s]
        dsimp only
        refine Eq.trans ?_ hset
        generalize hm1 : m.setWslot _ = m1 at hset ⊢
        obtain ⟨h7, -, hd⟩ : m1.n (0x7100 + k) 7 = m.n (0x7100 + k) 7 ∧ _ ∧ (m1.wslot k).deadline = (m.wslot k).deadline := by
          simpa only [Mod.pairView, Prod.mk.injEq] using hset
        have hctr : m1.ctr = m.ctr := hm1 ▸ rfl
        have hgrant (f q : Nat) (d : Nanos) (h : s ≠ k) := m1.pairView_grantPair hs64 hk h f q d
        split_ifs with _ _ hfree _ hpast
        · exact m1.pairView_reply hk _ _ _ _ _ _
        · exact m1.pairView_reply hk _ _ _ _ _ _
        · exact hgrant _ _ _ fun e => hheld (h7.symm.trans (e ▸ hfree))
        · exact m1.pairView_reply hk _ _ _ _ _ _
        · refine hgrant _ _ _ fun e => ?_
          rw [e, hd, hctr] at hpast
          exact Nat.not_lt.mpr hpast hrun
        · exact m1.pairView_setWslot fun he => by rw [← he, m1.wslot_slot s]

end

/-- A module of the pair launches from one instant on, up to another where there is one. -/
theorem Mod.entitled_iff {m : Mod} (h : m.n 0x7040 1 ≠ 0) (launch : Nanos) :
    m.entitled launch = true ↔ ∃ a, m.twin.launchFrom = some a ∧ a ≤ launch ∧ ∀ x, m.twin.launchUntil = some x → launch < x := by
  unfold Mod.entitled
  rw [decide_eq_false h, Bool.false_or]
  cases m.twin.launchFrom with
  | none => simp
  | some a => cases m.twin.launchUntil <;> simp

/-- Settles O39: the witness keeps the pair's holder while its deadline runs, and two launch times split by X are of one module each. -/
theorem atMostOneModuleHoldsTheKeystone : Obligations.AtMostOneModuleHoldsTheKeystone := by
  refine ⟨fun s s' t x k hheld hrun hb he => ?_, fun a b X ha hb hau hbf hbu launch => ?_⟩
  · have hview : (s.m.at t).pairView k.val = s.m.pairView k.val := rfl
    have hstep : (if (s.m.at t).runs then (s.m.at t).witnessAcquire x else s.m.at t).pairView k.val = s.m.pairView k.val := by
      split
      · exact (Mod.pairView_witnessAcquire _ k.isLt hheld hrun).trans hview
      · exact hview
    have hsettled : s'.m.pairView k.val = s.m.pairView k.val := by
      rw [← Host.Outcome.next.inj he]
      unfold State.settle
      split
      · exact hstep
      · exact hstep
    simpa only [Mod.pairView, Prod.mk.injEq] using hsettled
  · rw [Mod.entitled_iff ha, Mod.entitled_iff hb, hau, hbf, hbu]
    refine ⟨?_, fun from_ hf hle => ?_⟩
    · rintro ⟨⟨_, -, -, hbefore⟩, _, hX, hafter, -⟩
      rw [← Option.some.inj hX] at hafter
      exact Nat.not_lt.mpr hafter (hbefore X rfl)
    · rcases Nat.lt_or_ge launch X with h | h
      · exact .inl ⟨from_, hf, hle, fun x hx => by rwa [← Option.some.inj hx]⟩
      · exact .inr ⟨X, rfl, h, fun x hx => by cases hx⟩

end Sys2Proof.Machine
end

section
/-! SUPPORT. The standby domain: ejector, feeds, hold-up bank and the mason's mark (R341, R345, R346, R348, R350). -/

namespace Sys2Proof.Machine

section
variable {i : Instr} {s : State} {t : Nanos} {g : Mod → Mod}

/-- A command of the standby domain that boots nothing does what its effect is. -/
theorem does_actAny {m' : Mod} (he : exec i s = actAny t g s) (hg : g (s.m.at t) = m') (hb : m'.rebooting = false) : Does i s m' := by
  subst hg
  refine he.trans ?_
  simp only [actAny, actAnyE, State.settle, hb, Bool.false_eq_true, if_false]

/-- A command of a module that runs, and boots nothing, does what its effect is. -/
theorem does_act {m' : Mod} (hs : s.serves) (he : exec i s = act t g s) (hg : g (s.m.at t) = m') (hb : m'.rebooting = false) :
    Does i s m' := he.trans (act_next hs hg hb)

end

section
variable (m : Mod)

theorem Mod.mem_raiseRaw (c r v : Nat) (p : List Nat) : (⟨c, r, v, p⟩ : Raised) ∈ (m.raiseRaw c r v p).raised := by
  unfold Mod.raiseRaw
  simp

theorem Mod.raiseRaw_told (c r v : Nat) (p : List Nat) : (m.raiseRaw c r v p).told c r p := ⟨v, m.mem_raiseRaw c r v p⟩

theorem Mod.raise_told (c r : Nat) (p : List Nat) : (m.raise c r p).told c r p := ⟨_, Mod.mem_raise _ _ _ _⟩

theorem Mod.raiseClear_told (c r : Nat) (l p : List Nat) : (m.raiseClear c r l p).told c r p := by
  unfold Mod.raiseClear Mod.raiseClearIf
  dsimp only
  split <;> exact Mod.raiseRaw_told _ _ _ _ _

theorem Mod.raiseCond_told {c r : Nat} (h : m.condSet c r = false) (p : List Nat) : (m.raiseCond c r p).told c r p := by
  unfold Mod.raiseCond
  rw [h]
  exact Mod.raise_told _ _ _ _

/-! ### A feed's state -/

variable {b : Nat} (hb : b < 2) (st : Nat)

theorem Mod.get_setFeed {j k : Nat} (hj : 0x1D40 * 256 + (6 + b) ≠ j * 256 + k) (hq : j * 256 + k < 0x740000 ∨ 0x741100 ≤ j * 256 + k) :
    (m.setFeed b st).get j k = m.get j k := by
  unfold Mod.setFeed
  dsimp only
  split_ifs <;> simp (disch := omega)

theorem Mod.n_setFeed_other {j k : Nat} (hj : 0x1D40 * 256 + (6 + b) ≠ j * 256 + k)
    (hq : j * 256 + k < 0x740000 ∨ 0x741100 ≤ j * 256 + k) : (m.setFeed b st).n j k = m.n j k := congrArg Val.nat (m.get_setFeed st hj hq)

include hb in
theorem Mod.n_setFeed : (m.setFeed b st).n 0x1D40 (6 + b) = st := by
  unfold Mod.setFeed
  dsimp only
  split_ifs with h
  · exact h
  all_goals simp (disch := omega) [Mod.n]

theorem Mod.setFeed_told (hr : m.runs = true) (h : m.n 0x1D40 (6 + b) ≠ st) :
    (m.setFeed b st).told 0x1D04 b [b, m.n 0x1D40 (6 + b), st] := by
  unfold Mod.setFeed
  dsimp only
  rw [if_neg h]
  split_ifs with h1 h2 h3
  · rw [show (m.put 0x1D40 (6 + b) st).runs = m.runs from rfl, hr] at h1
    cases h1
  · exact Mod.raiseClear_told _ _ _ _ _
  · exact Mod.raise_told _ _ _ _
  · exact Mod.raiseCond_told _ (Bool.eq_false_iff.mpr h3) _

@[simp] theorem Mod.setFeed_hw : (m.setFeed b st).hw = m.hw := m.setFeed_part b st (p := .hw) (by decide)

theorem Mod.told_mono {m m' : Mod} {c r : Nat} {p : List Nat} (h : ∀ x ∈ m.raised, x ∈ m'.raised) (ht : m.told c r p) : m'.told c r p := by
  obtain ⟨v, hv⟩ := ht
  exact ⟨v, h _ hv⟩

/-! ### The commands -/

/-- The short of a feed that has been open for its time is forgotten. -/
def Mod.shortEnds (m : Mod) (b : Nat) : Mod :=
  match nth m.hw.shortAt b with
  | none => m
  | some t => if t + second ≤ m.ctr then m.modHw fun h => { h with shortAt := h.shortAt.set b none } else m

/-- The feed shows its voltage and its state. -/
def Mod.feedShown (m : Mod) (b : Nat) (mv : Int) : Mod := (m.put 0x1D40 (1 + 2 * b) mv.toNat).setFeed b (m.feedState b mv)

/-- A dip that the bank has carried ends. -/
def Mod.dipEnds (m : Mod) (b : Nat) : Mod :=
  match m.hw.dipAt with
  | none => m
  | some t =>
    if m.feedCarries b && m.ctr ≤ t + 5000000 then
      let m := (m.modHw fun h => { h with dipAt := none }).bump 0x1D40 0x0A
      if m.runs then m.raise 0x1D05 0 [m.ctr - t] else m
    else m

theorem Mod.feedChange_eq (mv : Int) : m.feedChange b mv = ((m.shortEnds b).feedShown b mv).dipEnds b := rfl

include hb in
theorem Mod.n_feedShown_volts (mv : Int) : (m.feedShown b mv).n 0x1D40 (1 + 2 * b) = mv.toNat := by
  unfold Mod.feedShown
  rw [Mod.n_setFeed_other _ _ (by omega) (by omega), Mod.n_put _ _ _ _ (by omega)]

include hb in
theorem Mod.n_feedShown_state (mv : Int) : (m.feedShown b mv).n 0x1D40 (6 + b) = m.feedState b mv := Mod.n_setFeed _ hb _

theorem Mod.n_dipEnds {k : Nat} (hk : k < 9) : (m.dipEnds b).n 0x1D40 k = m.n 0x1D40 k := by
  unfold Mod.dipEnds
  split
  · rfl
  · split
    · dsimp only
      split <;> simp (disch := omega) [Mod.n]
    · rfl

theorem Mod.feedState_short (mv : Int) (h : nth m.hw.shortAt b ≠ none) : m.feedState b mv = 5 := if_pos h

theorem Mod.feedState_usable {mv : Int} (h : nth m.hw.shortAt b = none) (h1 : 44000 ≤ mv) (h2 : mv ≤ 58000) : m.feedState b mv = 1 := by
  have hnot : ¬(decide (m.n 0x1D40 (6 + b) = 5) && decide (59000 ≤ mv)) = true := by
    rw [Bool.and_eq_true_iff, decide_eq_true_eq, decide_eq_true_eq]
    omega
  unfold Mod.feedState
  rw [if_neg (by simp [h]), if_neg (by omega), if_neg hnot, if_neg (by omega), if_neg (by omega), if_neg (by omega), if_neg (by omega)]

/-- A short that has run its time is forgotten, and nothing else. -/
theorem Mod.shortEnds_over {a : Nanos} (h : nth m.hw.shortAt b = some a) (ha : a + second ≤ m.ctr) :
    nth (m.shortEnds b).hw.shortAt b = none := by
  have hlen : b < m.hw.shortAt.length := by
    by_contra hlen
    rw [nth, List.getD_eq_default _ _ (Nat.not_lt.mp hlen)] at h
    cases h
  unfold Mod.shortEnds
  rw [h]
  dsimp only
  rw [if_pos ha]
  simp [nth, Mod.modHw, hlen]

theorem Mod.shortEnds_running {a : Nanos} (h : nth m.hw.shortAt b = some a) (ha : m.ctr < a + second) : m.shortEnds b = m := by
  unfold Mod.shortEnds
  rw [h]
  exact if_neg (Nat.not_le.mpr ha)

theorem Mod.shortEnds_none (h : nth m.hw.shortAt b = none) : m.shortEnds b = m := by
  unfold Mod.shortEnds
  rw [h]

theorem Mod.dipEnds_shortAt : (m.dipEnds b).hw.shortAt = m.hw.shortAt := by
  unfold Mod.dipEnds
  split
  · rfl
  · split
    · dsimp only
      split <;> simp [Mod.modHw]
    · rfl

theorem Mod.dipEnds_raised {x : Raised} (h : x ∈ m.raised) : x ∈ (m.dipEnds b).raised := by
  unfold Mod.dipEnds
  split
  · exact h
  · split
    · dsimp only
      split
      · simp [Mod.raise, Mod.raiseRaw, h]
      · simpa using h
    · exact h

/-- A dip that the bank has carried and a usable feed has ended is counted and told. -/
theorem Mod.dipEnds_carried {a : Nanos} (hd : m.hw.dipAt = some a) (hc : m.feedCarries b = true) (ha : m.ctr ≤ a + 5000000) :
    (m.dipEnds b).hw.dipAt = none ∧ (m.dipEnds b).n 0x1D40 0x0A = (m.bump 0x1D40 0x0A).n 0x1D40 0x0A
      ∧ (m.runs = true → (m.dipEnds b).told 0x1D05 0 [m.ctr - a]) := by
  have hruns : ((m.modHw fun h => { h with dipAt := none }).bump 0x1D40 0x0A).runs = m.runs := by simp [Mod.runs, Mod.modHw]
  have hcount : ((m.modHw fun h => { h with dipAt := none }).bump 0x1D40 0x0A).n 0x1D40 0x0A = (m.bump 0x1D40 0x0A).n 0x1D40 0x0A := by
    rw [Mod.n_bump_same _ (by decide), Mod.n_bump_same _ (by decide)]
    rfl
  unfold Mod.dipEnds
  rw [hd]
  dsimp only
  rw [if_pos (by simp [hc, ha])]
  split
  · refine ⟨by simp [Mod.modHw], ?_, fun _ => Mod.raise_told _ _ _ _⟩
    rw [Mod.n_raise _ _ _ _ (by decide), hcount]
  · next h => exact ⟨by simp [Mod.modHw], hcount, fun hr => absurd (hruns.trans hr) h⟩

theorem Mod.dipEnds_low (h : m.feedCarries b = false) : m.dipEnds b = m := by
  unfold Mod.dipEnds
  split
  · rfl
  · rw [h]
    rfl

theorem Mod.feedCarries_low (h : m.n 0x1D40 (1 + 2 * b) < 44000) : m.feedCarries b = false := by
  unfold Mod.feedCarries
  rw [decide_eq_false (Nat.not_le.mpr h), Bool.and_false]

/-- The bank is spent and the module off. -/
theorem Mod.powerDown_off : (m.powerDown .off).hw.power = .off ∧ (m.powerDown .off).hw.dipAt = none := ⟨rfl, rfl⟩

end

/-- Settles O47: the watch of the standby domain, command by command. -/
theorem theStandbyDomainWatches : Obligations.TheStandbyDomainWatches := by
  intro s t hb m
  have hbm : m.rebooting = false := hb
  refine ⟨fun opened => ⟨fun h => ?_, fun h => ?_⟩, fun b mv => ⟨fun a ha => ⟨fun hlt => ?_, fun hle => ?_⟩, fun hnone => ?_⟩, fun b => ?_,
    fun hdown => ⟨?_, ?_, ?_, fun o => ?_⟩, fun hup => ⟨?_, fun hdip => ?_, fun hdip => ?_, fun o => ?_, ?_⟩, fun hnone => ?_,
    fun a ha => ⟨fun hlt => ?_, fun hle => ?_⟩⟩
  · refine does_actAny (t := t) (g := fun m => m.lever opened) rfl ?_ hbm
    show m.lever opened = m
    unfold Mod.lever
    split
    · exact if_pos h
    · rw [← h]
      rfl
  · refine completes_actAny (t := t) (g := fun m => m.lever opened) rfl ?_ fun _ h => h
    show (m.lever opened).hw.ejectorOpen = opened ∧ _
    unfold Mod.lever
    split
    · next hr =>
      unfold Mod.ejector
      rw [if_neg h]
      exact ⟨by simp [Mod.modHw], fun _ => Mod.raise_told _ _ _ _, fun h => absurd (hr.symm.trans h) (by decide)⟩
    · next hr => exact ⟨rfl, fun h => absurd h hr, fun _ => rfl⟩
  · refine completes_actAny (t := t) (g := fun m => m.feedChange b.val mv) rfl ?_ fun _ h => h
    show (m.feedChange b.val mv).n _ _ = 5
    rw [Mod.feedChange_eq, Mod.n_dipEnds _ (by omega), Mod.shortEnds_running _ ha hlt, Mod.n_feedShown_state _ b.isLt]
    exact m.feedState_short _ (by rw [ha]; nofun)
  · refine completes_actAny (t := t) (g := fun m => m.feedChange b.val mv) rfl ?_ fun _ h => h
    show nth (m.feedChange b.val mv).hw.shortAt b.val = none ∧ (m.feedChange b.val mv).n _ _ = _ ∧ (_ → _ → (m.feedChange b.val mv).n _ _ = 1)
    have hover := m.shortEnds_over ha hle
    rw [Mod.feedChange_eq, Mod.dipEnds_shortAt, Mod.n_dipEnds _ (by omega), Mod.n_dipEnds _ (by omega), Mod.n_feedShown_volts _ b.isLt,
      Mod.n_feedShown_state _ b.isLt]
    refine ⟨?_, rfl, fun h1 h2 => Mod.feedState_usable _ hover h1 h2⟩
    rwa [Mod.feedShown, Mod.setFeed_hw]
  · intro was new
    refine completes_actAny (t := t) (g := fun m => m.feedChange b.val mv) rfl ?_ fun _ h => h
    show (m.feedChange b.val mv).n _ _ = _ ∧ (m.feedChange b.val mv).n _ _ = _ ∧ (_ → _ → (m.feedChange b.val mv).told _ _ _) ∧ _
    have hhw : (m.feedShown b.val mv).hw = m.hw := by
      unfold Mod.feedShown
      rw [Mod.setFeed_hw]
      rfl
    have hctr : (m.feedShown b.val mv).ctr = m.ctr := Mod.setFeed_part _ _ _ (p := .ctr) (by decide)
    have hvolts := m.n_feedShown_volts b.isLt mv
    have hstate := m.n_feedShown_state b.isLt mv
    rw [Mod.feedChange_eq, Mod.shortEnds_none _ hnone, Mod.n_dipEnds _ (by omega), Mod.n_dipEnds _ (by omega), hvolts, hstate]
    refine ⟨rfl, rfl, fun hr hne => ?_, fun a ha hle h1 h2 => ?_, fun hlow => ?_⟩
    · have hwas : (m.put 0x1D40 (1 + 2 * b.val) mv.toNat).n 0x1D40 (6 + b.val) = was := m.n_put_other _ (by omega) (by omega)
      have htold := (m.put 0x1D40 (1 + 2 * b.val) mv.toNat).setFeed_told new (b := b.val) hr (by rwa [hwas])
      rw [hwas] at htold
      exact Mod.told_mono (fun x hx => Mod.dipEnds_raised _ hx) htold
    · have hcarries : (m.feedShown b.val mv).feedCarries b.val = true := by
        unfold Mod.feedCarries
        rw [hstate, hvolts, m.feedState_usable hnone h1 h2]
        simp
        omega
      obtain ⟨hend, hcount, htold⟩ := Mod.dipEnds_carried _ (by rw [hhw, ha]) hcarries (by rwa [hctr])
      refine ⟨hend, ?_, fun hr => ?_⟩
      · rw [hcount, Mod.n_bump_same _ (by decide), Mod.n_bump_same _ (by decide), Mod.feedShown,
          Mod.n_setFeed_other _ _ (by omega) (by omega), Mod.n_put_other _ _ (by omega) (by omega)]
      · rw [← hctr]
        exact htold (by unfold Mod.runs at hr ⊢; rwa [hhw])
    · rw [Mod.dipEnds_low _ (Mod.feedCarries_low _ (by rw [hvolts]; omega)), hhw]
  · refine completes_actAny (t := t) (g := fun m => m.feedShort b.val) rfl ?_ fun _ h => h
    refine ⟨?_, Mod.n_setFeed _ b.isLt _⟩
    rw [Mod.feedShort, Mod.setFeed_hw]
    rfl
  · refine does_actAny (t := t) (g := fun m => m.holdUpCharged) rfl ?_ hbm
    exact if_neg (ne_true_of_eq_false hdown)
  · refine does_actAny (t := t) (g := fun m => m.inputDip) rfl ?_ hbm
    exact if_pos (by rw [show (s.m.at t).standbyUp = false from hdown]; rfl)
  · refine does_actAny (t := t) (g := fun m => m.i2cRead) rfl ?_ hbm
    exact if_neg (ne_true_of_eq_false hdown)
  · refine does_actAny (t := t) (g := fun m => m.i2cOffset o.toNat) rfl ?_ hbm
    exact if_neg (ne_true_of_eq_false hdown)
  · refine completes_actAny (t := t) (g := fun m => m.holdUpCharged) rfl ?_ fun _ h => h
    show m.holdUpCharged.n 0x1D40 8 = 1 ∧ m.holdUpCharged.n 0x1D40 9 = 800
    unfold Mod.holdUpCharged
    rw [if_pos hup, Mod.n_put_other _ _ (by decide) (by decide), Mod.n_put _ _ _ _ (by decide), Mod.n_put _ _ _ _ (by decide)]
    exact ⟨rfl, rfl⟩
  · refine does_actAny (t := t) (g := fun m => m.inputDip) rfl ?_ hbm
    exact if_pos (by rw [Bool.or_eq_true_iff]; exact .inr (decide_eq_true hdip))
  · refine completes_actAny (t := t) (g := fun m => m.inputDip) rfl ?_ fun _ h => h
    show (_ → m.inputDip.hw.dipAt = _ ∧ m.inputDip.hw.power = _) ∧ (_ → m.inputDip.hw.power = .off)
    unfold Mod.inputDip
    rw [if_neg (by simp [hup, hdip])]
    refine ⟨fun h => ?_, fun h => ?_⟩
    · rw [if_pos h]
      exact ⟨rfl, rfl⟩
    · rw [if_neg (ne_true_of_eq_false h)]
      exact m.powerDown_off.1
  · refine completes_actAny (t := t) (g := fun m => m.i2cOffset o.toNat) rfl ?_ fun _ h => h
    show (m.i2cOffset o.toNat).hw.i2cOffset = _ ∧ (m.i2cOffset o.toNat).out = _
    unfold Mod.i2cOffset
    rw [if_pos hup]
    exact ⟨rfl, rfl⟩
  · refine completes_actAny (t := t) (g := fun m => m.i2cRead) rfl ?_ fun _ h => h
    show m.i2cRead.out = _ ∧ m.i2cRead.hw.i2cOffset = _ ∧ m.i2cRead.hw.i2cAlert = _
    unfold Mod.i2cRead
    rw [if_pos hup]
    exact ⟨rfl, rfl, rfl⟩
  · refine does_actAny (t := t) (g := fun m => m.holdUpExpiry) rfl ?_ hbm
    show m.holdUpExpiry = m
    unfold Mod.holdUpExpiry
    rw [hnone]
  · refine does_actAny (t := t) (g := fun m => m.holdUpExpiry) rfl ?_ hbm
    show m.holdUpExpiry = m
    unfold Mod.holdUpExpiry
    rw [ha]
    exact if_neg (Nat.not_le.mpr hlt)
  · refine completes_actAny (t := t) (g := fun m => m.holdUpExpiry) rfl ?_ fun _ h => h
    show m.holdUpExpiry.hw.power = .off ∧ m.holdUpExpiry.hw.dipAt = none
    unfold Mod.holdUpExpiry
    rw [ha]
    dsimp only
    rw [if_pos hle]
    exact m.powerDown_off

end Sys2Proof.Machine
end

section
/-! SUPPORT. A core trap while a claim of a spare names a service class that Table 21.3 does not have (R13, R364). -/

namespace Sys2Proof.Machine

/-- The module right after reset, with a claim on core 1 of a class beyond the twelve: no premise of the statement bounds it. -/
def claimBeyondClasses : State :=
  { State.reset with m := Mod.reset.modHw fun h => { h with claims := (0, [(63, 128, 1)]) } }

/-- What 2900:04 shows after a command. -/
def shownFailure : Host.Outcome State Fault Refusal → Nat
  | .next s => s.m.n 0x2900 4
  | _ => 0

/-- Core 2's failure moves the claim, whose class count, at 2880 + 128, is the object that is to show the failed core. -/
theorem trapCountsAtFailedCore : shownFailure (exec (.settCoreTrap 0 2 true) claimBeyondClasses) = 3 := by decide +kernel

/-- Refutes O49: core 2 traps, but 2900:04 does not show it, since a claim of class 128 counts its move there. -/
theorem not_coresFailToSpares : ¬ Obligations.CoresFailToSpares := by
  intro h
  obtain ⟨-, htrap, -⟩ := h claimBeyondClasses 0 (by decide +kernel)
  obtain ⟨s', hs', -, -, -, -, hfailed, -⟩ := (htrap 2 true).2 (by decide +kernel) (by decide +kernel)
  have hshown := trapCountsAtFailedCore
  rw [hs'] at hshown
  exact absurd (hfailed.symm.trans hshown) (by decide)

end Sys2Proof.Machine
end

section
/-! SUPPORT. Power-on, its steps and the trial that confirms itself (R324, R330, R335, R339). -/

namespace Sys2Proof.Machine

/-! ### Events told stay told -/

/-- Every event raised before is among those raised after. -/
def Mod.tells (m m' : Mod) : Prop := ∀ x ∈ m.raised, x ∈ m'.raised

section
variable {a m m' : Mod}

theorem Mod.tells_refl : m.tells m := fun _ h => h

theorem Mod.tells_of_raised (hr : m'.raised = m.raised) (h : a.tells m) : a.tells m' := fun x hx => hr ▸ h x hx

theorem Mod.tells_of_part (hr : m'.part .raised = m.part .raised) (h : a.tells m) : a.tells m' := Mod.tells_of_raised hr h

theorem Mod.told_of_tells {c r : Nat} {p : List Nat} (h : m.tells m') (ht : m.told c r p) : m'.told c r p := Mod.told_mono h ht

theorem Mod.tells_raiseRaw (c r v : Nat) (p : List Nat) (h : a.tells m) : a.tells (m.raiseRaw c r v p) := fun x hx => by
  unfold Mod.raiseRaw
  simp [h x hx]

theorem Mod.tells_raise (c r : Nat) (p : List Nat) (h : a.tells m) : a.tells (m.raise c r p) := Mod.tells_raiseRaw _ _ _ _ h

theorem Mod.tells_raiseCond (c r : Nat) (p : List Nat) (h : a.tells m) : a.tells (m.raiseCond c r p) := by
  unfold Mod.raiseCond
  split
  · exact h
  · exact Mod.tells_raise _ _ _ (Mod.tells_of_raised (by simp) h)

theorem Mod.tells_raiseAgain (c r : Nat) (p : List Nat) (h : a.tells m) : a.tells (m.raiseAgain c r p) := by
  unfold Mod.raiseAgain
  split
  · exact Mod.tells_raise _ _ _ h
  · exact Mod.tells_raiseCond _ _ _ h

theorem Mod.tells_ite {c : Prop} [Decidable c] {m1 m2 : Mod} (h1 : a.tells m1) (h2 : a.tells m2) : a.tells (if c then m1 else m2) := by
  split
  · exact h1
  · exact h2

theorem Mod.tells_each {α : Type} {l : List α} {g : Mod → α → Mod} (hg : ∀ m x, a.tells m → a.tells (g m x)) (h : a.tells m) :
    a.tells (m.each l g) := by
  unfold Mod.each
  induction l generalizing m with
  | nil => exact h
  | cons x l ih => exact ih (hg m x h)

theorem Mod.tells_leave (u cause : Nat) (h : a.tells m) : a.tells (m.leave u cause) := by
  have hdown : a.tells (m.goDown u) := by
    unfold Mod.goDown
    refine Mod.tells_ite (Mod.tells_of_part (Mod.flushPort_part _ _ (by decide)) h) (Mod.tells_ite (Mod.tells_raiseCond _ _ _ h) h)
  unfold Mod.leave
  exact Mod.tells_ite (Mod.tells_raiseCond _ _ _ hdown) (Mod.tells_ite (Mod.tells_raiseCond _ _ _ h) h)

theorem Mod.tells_toDetect (u : Nat) (h : a.tells m) : a.tells (m.toDetect u) := by
  have hmortar {m : Mod} (h : a.tells m) : a.tells m.mortarDown := by
    unfold Mod.mortarDown
    exact Mod.tells_ite h (Mod.tells_raiseAgain _ _ _ h)
  unfold Mod.toDetect
  cases cageOf u <;> exact Mod.tells_ite (hmortar (Mod.tells_of_part (by simp) h)) (Mod.tells_of_part (by simp) h)

theorem Mod.tells_xaFails (epoch : Nat) : (m.loseCrystals epoch).tells (m.xaFails epoch) := by
  have hdrop {a m : Mod} (h : a.tells m) : a.tells m.dropUnclocked := by
    unfold Mod.dropUnclocked
    exact Mod.tells_each (fun m u h => Mod.tells_ite (Mod.tells_toDetect _ (Mod.tells_leave _ _ h)) h) h
  have hcoast {a m : Mod} (k : Nat) (h : a.tells m) : a.tells (m.coastPll k) := by
    unfold Mod.coastPll
    exact Mod.tells_ite h (Mod.tells_raiseCond _ _ _ (Mod.tells_of_part (by simp) h))
  unfold Mod.xaFails
  exact Mod.tells_of_part (by simp) (hdrop (Mod.tells_each (l := [2, 3, 4, 5]) (fun m k h => hcoast k h) Mod.tells_refl))

end

/-! ### The boot that a power-on begins -/

section
variable {m m' : Mod} {info : BootInfo}

/-- What the last boot found. -/
def Mod.bootOf (m : Mod) : BootInfo := m.hw.boot

theorem Mod.bootOf_of_part (h : m'.part .hw = m.part .hw) : m'.bootOf = m.bootOf := congrArg HwS.boot h

theorem Mod.bootOf_ite (c : Prop) [Decidable c] (a b : Mod) : (if c then a else b).bootOf = if c then a.bootOf else b.bootOf :=
  apply_ite Mod.bootOf c a b

theorem Mod.bootOf_startTest (m : Mod) : m.startTest.bootOf = m.bootOf := by
  simp [Mod.startTest, Mod.bootOf, Mod.testSpares_hw, Mod.modHw, apply_ite Mod.hw]

theorem Mod.bootOf_abortTest (m : Mod) : m.abortTest.bootOf = m.bootOf := by
  simp [Mod.abortTest, Mod.endTest, Mod.bootOf, Mod.testSpares_hw, Mod.modHw, apply_ite Mod.hw, apply_ite HwS.boot]

/-- A store of a value leaves what the last boot found. -/
theorem Mod.bootOf_store (sel idx sub : Nat) (v : Val) : (m.store sel idx sub v).bootOf = m.bootOf := by
  have hof {m' : Mod} (h : m'.part .hw = m.part .hw) : m'.bootOf = m.bootOf := Mod.bootOf_of_part h
  unfold Mod.store
  simp only [Mod.bootOf_ite, Mod.bootOf_startTest, Mod.bootOf_abortTest]
  simp [hof]
  exact fun _ _ => rfl

theorem Mod.bootOf_each {α : Type} {l : List α} {g : Mod → α → Mod} (h : ∀ m x, (g m x).bootOf = m.bootOf) :
    (m.each l g).bootOf = m.bootOf := m.each_keeps Mod.bootOf l g h

theorem Mod.bootOf_loadRecords {l : List ImageRec} {boot : Bool} {w w' : Writer} (hl : m.loadRecords w boot l = .ok (m', w')) :
    m'.bootOf = m.bootOf := by
  have hrecord {m m' : Mod} {w w' : Writer} {x : ImageRec} (hl : m.loadRecord w boot x = .ok (m', w')) : m'.bootOf = m.bootOf := by
    unfold Mod.loadRecord at hl
    split at hl
    · cases hl
    · split_ifs at hl <;> obtain ⟨rfl, -⟩ := Prod.mk.inj (Except.ok.inj hl)
      · rfl
      · rfl
      · rfl
      · rfl
      · exact Mod.bootOf_store _ _ _ _
  induction l generalizing m w with
  | nil =>
    obtain ⟨rfl, -⟩ := Prod.mk.inj (Except.ok.inj hl)
    rfl
  | cons x l ih =>
    unfold Mod.loadRecords at hl
    split at hl
    · cases hl
    · next h => exact (ih hl).trans (hrecord h)

theorem Mod.bootOf_loadAtBoot : m.loadAtBoot.bootOf = m.bootOf := by
  have hloaded {l : List ImageRec} {m1 : Mod} {e : Nat} (h : m.applyImage (loader 0 .b0) true l = .ok (m1, e)) : m1.bootOf = m.bootOf := by
    unfold Mod.applyImage at h
    dsimp only at h
    split at h
    · cases h
    · next hl =>
      split at h
      · cases h
      · obtain ⟨rfl, -⟩ := Prod.mk.inj (Except.ok.inj h)
        exact (Mod.bootOf_loadRecords hl).trans (Mod.bootOf_of_part (m := m) (Mod.clearFlows_part _ (p := .hw) (by decide)))
  unfold Mod.loadAtBoot
  dsimp only
  split
  · next h =>
    split at h
    · cases h
    · split at h
      · cases h
      · next h' =>
        have := hloaded h'
        rw [← Option.some.inj h]
        exact this
  · exact Mod.bootOf_of_part (m := m) (Mod.raise_part _ _ _ _ (p := .hw) (by decide))

theorem Mod.bootOf_bootService : m.bootService.bootOf = m.bootOf := by
  have htime (m : Mod) : m.beginTime.bootOf = m.bootOf := by
    unfold Mod.beginTime
    dsimp only
    split <;> exact Mod.bootOf_of_part (m := m) (by simp; rfl)
  have hmem : (if m.loadAtBoot.regionsFit then m.loadAtBoot.beginMemory else m.loadAtBoot).bootOf = m.loadAtBoot.bootOf := by
    rw [Mod.bootOf_ite]
    exact ite_self _
  refine Eq.trans ?_ ((htime _).trans (hmem.trans Mod.bootOf_loadAtBoot))
  unfold Mod.bootService Mod.beginManagement
  exact Mod.bootOf_of_part (by simp)

theorem Mod.bootOf_raise (m : Mod) (c r : Nat) (p : List Nat) : (m.raise c r p).bootOf = m.bootOf :=
  Mod.bootOf_of_part (Mod.raise_part _ _ _ _ (by decide))

theorem Mod.bootOf_put (m : Mod) (i k v : Nat) : (m.put i k v).bootOf = m.bootOf := rfl

theorem Mod.bootOf_set (m : Mod) (i k : Nat) (v : Val) : (m.set i k v).bootOf = m.bootOf := rfl

theorem Mod.bootOf_trial (m : Mod) (x : Option Nat) : (m.modHw fun h => { h with trialFrom := x }).bootOf = m.bootOf := rfl

theorem Mod.bootOf_recover (m : Mod) : (m.modHw fun h => { h with power := .recovery, trialFrom := none }).bootOf = m.bootOf := rfl

theorem Mod.bootOf_modClk (m : Mod) (g : ClockS → ClockS) : (m.modClk g).bootOf = m.bootOf := rfl

theorem Mod.bootOf_edgeObjs (m : Mod) (x : Store) : ({ m with edgeObjs := x } : Mod).bootOf = m.bootOf := rfl

theorem Mod.bootOf_bootFirmware (i cause : Nat) (trial : Option Nat) (ended : Bool) (failed : List (Nat × Nat)) :
    (m.bootFirmware i cause trial ended failed).bootOf = m.bootOf := by
  have hfailed (m : Mod) : (m.each failed fun (m : Mod) (x : Nat × Nat) =>
      (m.put 0x1200 (5 + x.1) 4).raise 0x1205 x.1 [x.1, x.2]).bootOf = m.bootOf :=
    Mod.bootOf_each fun m x => Mod.bootOf_raise _ _ _ _
  unfold Mod.bootFirmware
  simp only [Mod.bootOf_ite, Mod.bootOf_raise, Mod.bootOf_put, Mod.bootOf_trial, hfailed, ite_self]

theorem Mod.bootOf_bootClocks (old : Mod) (cold : Nat) (xaOk : Bool) : (m.bootClocks old cold xaOk).bootOf = m.bootOf := by
  have hsets (m : Mod) : ((m.each [1, 2, 3, 5, 6, 7, 8] fun (m : Mod) (s : Nat) => m.set 0x1800 s (old.get 0x1800 s)).each (List.range 6)
      fun (m : Mod) (k : Nat) => m.each (List.range 8) fun (m : Mod) (s : Nat) =>
        m.set (0x1810 + k) (1 + s) (old.get (0x1810 + k) (1 + s))).bootOf = m.bootOf :=
    (Mod.bootOf_each fun m k => Mod.bootOf_each fun m s => Mod.bootOf_set _ _ _ _).trans
      (Mod.bootOf_each fun m s => Mod.bootOf_set _ _ _ _)
  unfold Mod.bootClocks
  split
  · dsimp only
    rw [Mod.bootOf_modClk]
    exact hsets m
  · exact Mod.bootOf_of_part (by simp)

/-- A power-on leaves what it found, and halts where the rails or FIO fail. -/
theorem Mod.powerOn_boots (m : Mod) (info : BootInfo) (h1 : m.hw.power ≠ .on) (h2 : m.hw.power ≠ .recovery) :
    (m.powerOn info).blank ∧ (m.powerOn info).bootOf = info ∧ (info.railsOk = false ∨ info.fioOk = false → (m.powerOn info).hw.power = .halted) := by
  have hp : m.powerOn info = m.reboot (if m.hw.power = .tripped then 2 else 0) 0 info false := if_neg (by simp [h1, h2])
  rw [hp]
  refine ⟨Mod.blank_reboot _ _ _ _ _, ?_, fun h => ?_⟩
  · unfold Mod.reboot
    dsimp only
    generalize (Mod.put _ 0x1030 2 _) = old
    have hfound : (old.afterReset info 0).bootOf = info := rfl
    split
    · exact hfound
    · split
      · exact (Mod.bootOf_recover _).trans ((Mod.bootOf_each fun m x => Mod.bootOf_put _ _ _ _).trans hfound)
      · have hfeeds (m : Mod) : ((m.bootAddress info).bootFeeds old).bootOf = m.bootOf := by
          unfold Mod.bootFeeds Mod.bootAddress
          exact Mod.bootOf_of_part (by simp)
        have hmemory (m : Mod) : (m.bootMemory info).bootOf = m.bootOf := by
          unfold Mod.bootMemory Mod.judgePopulation Mod.calibrated
          exact Mod.bootOf_of_part (by simp)
        have hclocks (i c : Nat) (trial : Option Nat) (ended : Bool) (failed : List (Nat × Nat)) :=
          (hfeeds (((old.afterReset info 0).bootFirmware i c trial ended failed).bootClocks old 0 info.xaOk)).trans ((Mod.bootOf_bootClocks old 0 info.xaOk).trans ((Mod.bootOf_bootFirmware _ _ _ _ _).trans hfound))
        refine (Mod.bootOf_edgeObjs _ _).trans (Mod.bootOf_bootService.trans ((hmemory _).trans
          ((Mod.bootOf_each fun m j => Mod.bootOf_put _ _ _ _).trans ?_)))
        exact (Mod.bootOf_put _ _ _ _).trans ((Mod.bootOf_put _ _ _ _).trans (hclocks _ _ _ _ _))
  · unfold Mod.reboot
    dsimp only
    rw [if_pos (by rcases h with h | h <;> simp [h])]
    rfl

end

/-! ### The steps -/

section
variable {m : Mod}

theorem Mod.powerDown_power (m : Mod) (p : Power) : (m.powerDown p).hw.power = p := rfl

theorem Mod.n_powerDown_off (m : Mod) : (m.powerDown .off).n 0x1D40 8 = 0 := by
  show ((m.put 0x1D40 8 0).put 0x1D40 9 0).n 0x1D40 8 = 0
  rw [Mod.n_put_other _ _ (by decide) (by decide), Mod.n_put _ _ _ _ (by decide)]

/-- Without its crystal XA the module tells so, and its clocks show it. -/
theorem Mod.xaFails_shows (m : Mod) (epoch : Nat) : (m.xaFails epoch).source 2 = 3 ∧ (m.xaFails epoch).n 0x1810 2 = 2
    ∧ (m.xaFails epoch).n 0x1811 2 = 2 ∧ (m.xaFails epoch).told 0x1808 0 [] := by
  have hlost : (m.loseCrystals epoch).told 0x1808 0 [] := Mod.raise_told _ _ _ _
  have hclk (m : Mod) (g : ClockS → ClockS) (j t : Nat) : (m.modClk g).n j t = m.n j t := rfl
  refine ⟨?_, ?_, ?_, Mod.told_of_tells (Mod.tells_xaFails epoch) hlost⟩
  · unfold Mod.source Mod.xaFails
    dsimp only
    rw [hclk, Mod.n_put_other _ _ (by decide) (by decide), Mod.n_put_other _ _ (by decide) (by decide), Mod.n_put _ _ _ _ (by decide)]
  · unfold Mod.xaFails
    dsimp only
    rw [hclk, Mod.n_put_other _ _ (by decide) (by decide), Mod.n_put _ _ _ _ (by decide)]
  · unfold Mod.xaFails
    dsimp only
    rw [hclk, Mod.n_put _ _ _ _ (by decide)]

theorem Mod.raiseAgain_told (c r : Nat) (p : List Nat) : (m.raiseAgain c r p).told c r p := by
  unfold Mod.raiseAgain
  split
  · exact Mod.raise_told _ _ _ _
  · next h => exact Mod.raiseCond_told _ (Bool.eq_false_iff.mpr h) _

theorem Mod.n_raiseAgain (c r : Nat) (p : List Nat) {j t : Nat} (hq : j * 256 + t < 0x740000 ∨ 0x741100 ≤ j * 256 + t) :
    (m.raiseAgain c r p).n j t = m.n j t := congrArg Val.nat (m.get_raiseAgain_frame c r p hq)

end

/-- Settles O46: a power-on boots, each step not complete has the consequence of Table 17.1, and a trial that has run confirms itself. -/
theorem powerOnFollowsItsSteps : Obligations.PowerOnFollowsItsSteps := by
  refine ⟨fun s t b hb => ⟨fun hp => ?_, fun h1 h2 => ?_⟩, fun s t hs => ?_⟩
  · refine does_actAny (t := t) (g := fun m => m.powerOn b) rfl ?_ hb
    refine if_pos ?_
    rw [Bool.or_eq_true_iff, decide_eq_true_eq, decide_eq_true_eq]
    exact hp
  · obtain ⟨hblank, hboot, hhalt⟩ := Mod.powerOn_boots (s.m.at t) b h1 h2
    obtain ⟨s', he, hev, hpend, -⟩ := boots_of (t := t) (g := fun _ m => m.powerOn b) (c := .powerOnSequence t b) rfl hblank
    refine ⟨s', he, hpend, hev, ?_⟩
    have hm : s'.m = { (s.m.at t).powerOn b with rebooting := false } := by
      have hexec : exec (.powerOnSequence t b) s = .next (s.settle ((s.m.at t).powerOn b)) := rfl
      rw [← Host.Outcome.next.inj (hexec.symm.trans he)]
      unfold State.settle
      rw [if_pos hblank.1]
    rw [hm]
    exact ⟨rfl, hboot, hblank.2.1, hhalt⟩
  · intro m
    have hbm : m.rebooting = false := hs.2
    have hstep {st : Fin 10} {ch : Fin 16} {P : Mod → Prop} (h : P (m.stepTimeout s.events.epoch st.val ch.val))
        (hp : ∀ m, P m → P { m with rebooting := false }) : Completes (.powerStepTimeout t st ch) s P :=
      completes_actE (t := t) (g := fun e m => m.stepTimeout e.epoch st.val ch.val) rfl hs h hp
    refine ⟨fun ch => ⟨fun k hk => ?_, ?_, ?_, ?_, ?_, fun hn => ?_, fun hn => ?_, ?_, ?_⟩, ?_, ⟨fun hdue => ?_, fun hdue => ?_⟩, ?_⟩
    · refine hstep ?_ fun _ h => h
      unfold Mod.stepTimeout
      rw [if_pos hk]
      exact ⟨rfl, m.n_powerDown_off⟩
    · refine hstep ?_ fun _ h => h
      show (Mod.stepTimeout m _ 3 _).hw.power = _ ∧ (Mod.stepTimeout m _ 3 _).hw.railRetry = _
      unfold Mod.stepTimeout
      rw [if_neg (by decide), if_pos rfl]
      cases h : m.hw.railRetry <;> exact ⟨rfl, rfl⟩
    · exact hstep (m.powerDown_power .halted) fun _ h => h
    · exact hstep (m.xaFails_shows _) fun _ h => h
    · exact hstep (m.powerDown_power .recovery) fun _ h => h
    · refine hstep ?_ fun _ h => h
      show (m.trainingFails ch.val).n _ _ = _ ∧ (m.trainingFails ch.val).n _ _ = _ ∧ (m.trainingFails ch.val).told _ _ _
      unfold Mod.trainingFails
      rw [if_neg hn]
      refine ⟨?_, ?_, Mod.raiseRaw_told _ _ _ _ _⟩ <;> unfold Mod.n
      · rw [Mod.get_raiseRaw_frame _ _ _ _ _ (by omega), Mod.get_put_frame _ _ (by decide) (by omega), Mod.get_put_same _ _ (by omega)]
        rfl
      · rw [Mod.get_raiseRaw_frame _ _ _ _ _ (by omega), Mod.get_put_same _ _ (by decide)]
        rfl
    · refine (does_act (m' := m) hs (show exec (.powerStepTimeout t 7 ch) s = act t (fun m => m.trainingFails ch.val) s from rfl) ?_ hbm)
      exact if_pos hn
    · exact does_act (t := t) (g := fun m => m) hs rfl rfl hbm
    · rfl
    · exact completes_act (t := t) (g := fun m => m.ovenSettled) rfl hs ⟨rfl, rfl⟩ fun _ h => h
    · refine completes_act (t := t) (g := fun m => m.xbTimeout) rfl hs ?_ fun _ h => h
      show m.xbTimeout.n 0x1800 4 = 3 ∧ m.xbTimeout.told _ _ _ ∧ m.xbTimeout.told _ _ _
      unfold Mod.xbTimeout
      rw [if_pos (by simpa using hdue)]
      refine ⟨?_, Mod.told_of_tells (Mod.tells_raise _ _ _ Mod.tells_refl) (Mod.raiseAgain_told _ _ _), Mod.raise_told _ _ _ _⟩
      rw [Mod.n_raise _ _ _ _ (by decide), Mod.n_raiseAgain _ _ _ (by decide), Mod.n_put _ _ _ _ (by decide)]
    · refine does_act (t := t) (g := fun m => m.xbTimeout) hs rfl ?_ hbm
      exact if_neg (by rw [Bool.and_eq_true_iff, decide_eq_true_eq, decide_eq_true_eq]; exact hdue)
    · refine ⟨fun hdue => ?_, fun hdue => ?_⟩
      · obtain ⟨htrial, hsteady, ht, hle⟩ := hdue
        refine completes_act (t := t) (g := fun m => m.autoConfirm) rfl hs ?_ fun _ h => h
        have hconf : m.autoConfirm = m.confirmTrial := if_pos (by simp [hsteady, ht]; exact hle)
        obtain ⟨hran, hfirst, hfloor, hstate, hended, htold⟩ := Mod.confirmTrial_confirms (m := m) htrial
        show m.autoConfirm.hw.trialFrom = none ∧ m.autoConfirm.n _ _ = _ ∧ m.autoConfirm.n _ _ = _ ∧ m.autoConfirm.told _ _ _
          ∧ (_ → m.autoConfirm.n _ _ = _ ∧ m.autoConfirm.n _ _ = _)
        rw [hconf]
        exact ⟨hended, hran, hstate, htold, fun hi => ⟨hfirst hi, hfloor⟩⟩
      · refine does_act (t := t) (g := fun m => m.autoConfirm) hs rfl ?_ hbm
        show m.autoConfirm = m
        unfold Mod.autoConfirm
        dsimp only
        split
        · next h =>
          unfold Mod.confirmTrial
          have hnone : m.hw.trialFrom = none := by
            by_contra hne
            simp only [Bool.and_eq_true_iff, decide_eq_true_eq] at h
            exact hdue ⟨hne, h.1.1, h.1.2, h.2⟩
          rw [hnone]
        · rfl

end Sys2Proof.Machine
end

section
/-! SUPPORT. DRAM: refresh, errors and the loss of its supply (R247, R256, R260-R262, R351, R355). -/

namespace Sys2Proof.Machine

/-! ### What the end of the media leaves of the platform's objects -/

/-- The objects of chapter 13's memory and of the ports, and the role of the twin: none of them is a media function's. -/
abbrev platformObject (j t : Nat) : Prop := (0x1500 ≤ j ∧ j < 0x4100) ∨ (j = 0x7040 ∧ t = 1)

section
variable (m : Mod) {j t : Nat}

theorem Mod.get_setFn_platform {fid st : Nat} (hf : 0x100 ≤ fid) (hj : platformObject j t) (ht : t < 256) :
    (m.setFn fid st).get j t = m.get j t := by
  unfold Mod.setFn
  rw [if_neg (by omega), if_neg (by omega)]
  unfold fnObject within
  simp only [Bool.and_eq_true_iff, decide_eq_true_eq]
  rw [if_neg (by omega), if_neg (by omega), if_neg (by omega)]
  by_cases h1 : 0x100 ≤ fid ∧ fid ≤ 0x11F
  · rw [if_pos h1]
    exact m.get_put_frame _ (by omega) (by omega)
  · rw [if_neg h1]
    by_cases h2 : 0x200 ≤ fid ∧ fid ≤ 0x27F
    · rw [if_pos h2]
      exact m.get_put_frame _ (by omega) (by omega)
    · rw [if_neg h2]
      by_cases h3 : 0x300 ≤ fid ∧ fid ≤ 0x301
      · rw [if_pos h3]
        exact m.get_put_frame _ (by omega) (by omega)
      · rw [if_neg h3]

theorem Mod.get_showScalers (hj : j < 0x4D00 ∨ 0x4D0F < j) (ht : t < 256) : m.showScalers.get j t = m.get j t := by
  unfold Mod.showScalers
  refine Mod.get_each (l := List.range 16) fun m u hu => ?_
  have := List.mem_range.mp hu
  simp (disch := omega)

theorem Mod.get_rescale (hj : j < 0x4D00 ∨ 0x4D0F < j) (ht : t < 256) : m.rescale.get j t = m.get j t := by
  unfold Mod.rescale
  exact Mod.get_showScalers _ hj ht

theorem Mod.get_restChannel {n : Nat} (hj : platformObject j t) (ht : t < 256) : (m.restChannel n).get j t = m.get j t := by
  unfold Mod.restChannel
  rw [Mod.get_rescale _ (by omega) ht, Mod.get_setFn_platform _ (by unfold chanFid; omega) hj ht]
  rfl

theorem Mod.get_showPipelines (hj : j < 0x5240 ∨ 0x5250 < j) (ht : t < 256) : m.showPipelines.get j t = m.get j t := by
  unfold Mod.showPipelines
  dsimp only
  rw [Mod.get_put_frame _ _ (by decide) (by omega)]
  refine Mod.get_each (l := List.range 8) fun m p hp => ?_
  have := List.mem_range.mp hp
  refine (Mod.get_each (l := List.range 8) fun m l hl => ?_).trans ?_
  · have := List.mem_range.mp hl
    exact m.get_put_frame _ (by omega) (by omega)
  · simp (disch := omega)

theorem Mod.get_freePipe {n : Nat} (hj : j < 0x5200 ∨ t = 1) (ht : t < 256) : (m.freePipe n).get j t = m.get j t := by
  unfold Mod.freePipe
  split
  · rfl
  · simp (disch := omega)

theorem Mod.get_keepModel {r : Nat} : (m.keepModel r).get j t = m.get j t := by
  unfold Mod.keepModel
  split <;> rfl

theorem Mod.get_releaseRendition {r : Nat} (hr : r < 128) (hj : j < 0x5080 ∨ (j = 0x7040 ∧ t = 1)) (ht : t < 256) : (m.releaseRendition r).get j t = m.get j t := by
  unfold Mod.releaseRendition Mod.showSlots
  rw [Mod.get_showPipelines _ (by omega) ht, Mod.get_freePipe _ (by omega) ht, Mod.get_put_frame _ _ (by decide) (by omega),
    Mod.get_clear_frame _ _ _ (by omega) (by omega), Mod.get_put_frame _ _ (by omega) (by omega),
    Mod.get_putZ_frame _ _ (by omega) (by omega), Mod.get_modRend, Mod.get_clear_frame _ _ _ (by omega) (by omega), Mod.get_keepModel]
  rfl

theorem Mod.get_restRendition {r : Nat} (hr : r < 128) (hj : platformObject j t) (ht : t < 256) : (m.restRendition r).get j t = m.get j t := by
  unfold Mod.restRendition
  rw [Mod.get_setFn_platform _ (by unfold rendFid; omega) hj ht, Mod.get_releaseRendition _ hr (by omega) ht]
  rfl

theorem Mod.get_endRendition {r : Nat} (hr : r < 128) (hj : platformObject j t) (ht : t < 256) : (m.endRendition r).get j t = m.get j t := by
  unfold Mod.endRendition Mod.dropModel
  rw [Mod.get_modRend, Mod.get_restRendition _ (by omega) hj ht]

theorem Mod.get_endDecode {e : Nat} (he : e < 2) (hj : platformObject j t) (ht : t < 256) : (m.endDecode e).get j t = m.get j t := by
  unfold Mod.endDecode
  dsimp only
  split_ifs <;> simp (disch := omega)

theorem Mod.get_abortSlot {k why reason : Nat} (hk : k < 16) (hj : platformObject j t) (ht : t < 256) :
    (m.abortSlot k why reason).get j t = m.get j t := by
  unfold Mod.abortSlot
  simp (disch := omega)

theorem Mod.get_endReplay (hj : platformObject j t) (ht : t < 256) : m.endReplay.get j t = m.get j t := by
  unfold Mod.endReplay
  dsimp only
  rw [Mod.get_put_frame _ _ (by decide) (by omega), Mod.get_put_frame _ _ (by decide) (by omega),
    Mod.get_clearRange_other _ (0x6100, 0x617F, 1, 7) (by decide) ht (by dsimp only [aimed]; omega)]
  have hslots (m : Mod) (x : List (Option Ring)) : ({ m with rings := x } : Mod).get j t = m.get j t := rfl
  rw [hslots]
  refine Mod.get_each (l := List.range 16) fun m k hk => ?_
  have := List.mem_range.mp hk
  split
  · rw [Mod.get_abortSlot _ this hj ht, Mod.get_modSlot]
  · rw [Mod.get_modSlot]

theorem Mod.get_haltFn {fid : Nat} {drop : Bool} (hj : platformObject j t) (ht : t < 256) :
    (m.haltFn fid drop).get j t = m.get j t := by
  unfold Mod.haltFn
  simp only [within, Bool.and_eq_true_iff, decide_eq_true_eq]
  split_ifs with _ h1 h2 _ h3 h4
  · rfl
  · rw [Mod.get_restChannel _ hj ht, Mod.get_modPreud]
  · rw [Mod.get_modRend, Mod.get_endRendition _ (by omega) hj ht, Mod.get_modPreud]
  · rw [Mod.get_restRendition _ (by omega) hj ht, Mod.get_modPreud]
  · rw [Mod.get_setFn_platform _ (by omega) hj ht, Mod.get_endDecode _ (by omega) hj ht, Mod.get_modPreud]
  · rw [h4]
    show (Mod.put _ 0x6001 1 stopped).get j t = _
    rw [Mod.get_put_frame _ _ (by decide) (by omega), Mod.get_endReplay _ hj ht, Mod.get_modPreud]
  · rfl

theorem Mod.get_discardOpen {fid cause : Nat} (hq : j * 256 + t < 0x740000 ∨ 0x741100 ≤ j * 256 + t) :
    (m.discardOpen fid cause).get j t = m.get j t := by
  unfold Mod.discardOpen
  split
  · rfl
  · split
    · rfl
    · rw [Mod.get_raise_frame _ _ _ _ hq]
      rfl

theorem Mod.get_haltMedia (hj : platformObject j t) (ht : t < 256) : m.haltMedia.get j t = m.get j t := by
  unfold Mod.haltMedia Mod.showTimed
  dsimp only
  rw [Mod.get_put_frame _ _ (by decide) (by omega)]
  refine (Mod.get_each fun m f _ => Mod.get_haltFn _ hj ht).trans ((Mod.get_each fun m f _ => Mod.get_discardOpen _ (by omega)).trans rfl)

end

/-! ### Refresh (R256) -/

section
variable {α β : Type} [DecidableEq α] (l : List (α × β)) (k : α)

theorem find?_replaced (v : β) : (l.filter (fun x => x.1 ≠ k) ++ [(k, v)]).find? (fun x => x.1 = k) = some (k, v) := by
  rw [List.find?_append, List.find?_eq_none.mpr fun x hx => by simpa using (List.mem_filter.mp hx).2]
  simp

theorem find?_removed : (l.filter fun x => x.1 ≠ k).find? (fun x => x.1 = k) = none :=
  List.find?_eq_none.mpr fun x hx => by simpa using (List.mem_filter.mp hx).2

end

section
variable (m : Mod) (c b : Nat)

theorem Mod.owedTo_setOwed (k : Nat) : (m.setOwed c b k).owedTo c b = k := by
  unfold Mod.owedTo Mod.setOwed
  dsimp only
  split
  · next h => rw [find?_removed, h]; rfl
  · rw [find?_replaced]; rfl

theorem Mod.refreshTime_noteDue : (m.noteDue c b).refreshTime c b = false := by
  have hpos (m : Mod) : 0 < m.refreshInterval c := by
    unfold Mod.refreshInterval
    split <;> decide
  unfold Mod.refreshTime Mod.noteDue
  dsimp only
  rw [find?_replaced]
  exact decide_eq_false (Nat.not_le.mpr (Nat.lt_add_of_pos_right (hpos _)))

theorem Mod.refreshTime_of {m' : Mod} (hdue : m'.mem.dueAt = m.mem.dueAt) (hctr : m'.ctr = m.ctr)
    (hrate : m'.n (0x2140 + c) 9 = m.n (0x2140 + c) 9) : m'.refreshTime c b = m.refreshTime c b := by
  unfold Mod.refreshTime Mod.refreshInterval
  rw [hdue, hctr, hrate]

theorem Mod.owedTo_of {m' : Mod} (h : m'.mem.owed = m.mem.owed) : m'.owedTo c b = m.owedTo c b := by
  unfold Mod.owedTo
  rw [h]

/-- An event that has not been told within its period is told, with the count of one. -/
theorem Mod.raiseLimited_told {code res : Nat} (period : Nanos) (p : List Nat)
    (h : m.limits.find? (fun l => l.code = code && l.res = res) = none) : (m.raiseLimited code res period p).told code res (p ++ [1]) := by
  unfold Mod.raiseLimited Mod.raiseLimitedBy
  rw [h]
  exact Mod.raise_told _ _ _ _

theorem Mod.n_bump_congr {m m' : Mod} {i k : Nat} (hf : i * 256 + k ≠ 0x100005) (h : m'.n i k = m.n i k) :
    (m'.bump i k).n i k = (m.bump i k).n i k := by
  rw [Mod.n_bump_same _ hf, Mod.n_bump_same _ hf, h]

theorem Mod.n_raiseLimited (code res : Nat) (period : Nanos) (p : List Nat) {j t : Nat}
    (hq : j * 256 + t < 0x740000 ∨ 0x741100 ≤ j * 256 + t) : (m.raiseLimited code res period p).n j t = m.n j t :=
  congrArg Val.nat (m.get_raiseLimited_frame code res period p hq)

/-- A refresh forced is counted and told, and what is owed stands. -/
theorem Mod.forceRefresh_shows (hc : c < 16) : (m.forceRefresh c).mem.forced = true ∧ (m.forceRefresh c).mem.owed = m.mem.owed
    ∧ (m.forceRefresh c).n (0x2140 + c) 7 = (m.bump (0x2140 + c) 7).n (0x2140 + c) 7
    ∧ (m.forceRefresh c).n (0x2140 + c) 6 = m.n (0x2140 + c) 6
    ∧ (m.limits.find? (fun l => l.code = 0x2005 && l.res = c) = none → (m.forceRefresh c).told 0x2005 c [c, 1]) := by
  have hmem (m : Mod) (x : MemoryS) (j t : Nat) : ({ m with mem := x } : Mod).n j t = m.n j t := rfl
  unfold Mod.forceRefresh
  refine ⟨rfl, ?_, ?_, ?_, fun h => ?_⟩
  · simp
  · rw [hmem, Mod.n_raiseLimited _ _ _ _ _ (by omega)]
  · rw [hmem, Mod.n_raiseLimited _ _ _ _ _ (by omega)]
    simp (disch := omega) [Mod.n]
  · exact Mod.raiseLimited_told _ _ [c] (by rwa [Mod.bump_limits])

end

/-! ### Temperature (R256, R355) -/

section
variable (m : Mod) {c : Nat} (hc : c < 16) (temp : Int)
include hc

/-- The module with a channel's temperature shown, and told where it is too high. -/
def Mod.dimmShown (m : Mod) (c : Nat) (temp : Int) : Mod :=
  let m := m.putZ (0x2140 + c) 8 temp
  if temp < 95 then m else m.raiseLimited 0x1D09 c (60 * second) [c, temp.toNat]

theorem Mod.get_dimmShown {k : Nat} (hk : k ≠ 8) (h : k < 256) : (m.dimmShown c temp).get (0x2140 + c) k = m.get (0x2140 + c) k := by
  unfold Mod.dimmShown
  dsimp only
  split
  · exact m.get_putZ_frame _ (by omega) (by omega)
  · rw [Mod.get_raiseLimited_frame _ _ _ _ _ (by omega), Mod.get_putZ_frame _ _ (by omega) (by omega)]

theorem Mod.z_dimmShown : (m.dimmShown c temp).get (0x2140 + c) 8 = .num temp := by
  unfold Mod.dimmShown
  dsimp only
  split
  · exact m.get_putZ_same _ (by omega)
  · rw [Mod.get_raiseLimited_frame _ _ _ _ _ (by omega), Mod.get_putZ_same _ _ (by omega)]

omit hc in
theorem Mod.dimmShown_conds : (m.dimmShown c temp).conds = m.conds := by
  unfold Mod.dimmShown
  dsimp only
  split
  · rfl
  · exact Mod.raiseLimited_part _ _ _ _ _ (p := .conds) (by decide)

omit hc in
theorem Mod.dimmShown_told (h : 95 ≤ temp) (hl : m.limits.find? (fun l => l.code = 0x1D09 && l.res = c) = none) :
    (m.dimmShown c temp).told 0x1D09 c [c, temp.toNat, 1] := by
  unfold Mod.dimmShown
  dsimp only
  rw [if_neg (by omega)]
  exact Mod.raiseLimited_told _ _ [c, temp.toNat] (by rwa [Mod.putZ_limits])

omit hc in
theorem Mod.tells_raiseClear {a m : Mod} (c r : Nat) (l p : List Nat) (h : a.tells m) : a.tells (m.raiseClear c r l p) := by
  unfold Mod.raiseClear Mod.raiseClearIf
  dsimp only
  split
  · exact Mod.tells_raiseRaw _ _ _ _ h
  · exact Mod.tells_raiseRaw _ _ _ _ (Mod.tells_of_raised (by simp) h)

theorem Mod.dimmTemperature_shows (h : m.n (0x2140 + c) 1 ≠ 0) :
    (m.dimmTemperature c temp).z (0x2140 + c) 8 = temp
      ∧ (m.dimmTemperature c temp).n (0x2140 + c) 9
        = (if 85 < temp then 1 else if temp ≤ 83 ∧ m.n (0x2140 + c) 9 = 1 then 0 else m.n (0x2140 + c) 9)
      ∧ (85 < temp → m.n (0x2140 + c) 9 ≠ 1 → m.condSet 0x2006 c = false → (m.dimmTemperature c temp).told 0x2006 c [c, 1])
      ∧ (temp ≤ 83 → m.n (0x2140 + c) 9 = 1 → (m.dimmTemperature c temp).told 0x2006 c [c, 0])
      ∧ (95 ≤ temp → m.limits.find? (fun l => l.code = 0x1D09 && l.res = c) = none →
        (m.dimmTemperature c temp).told 0x1D09 c [c, temp.toNat, 1]) := by
  have hdoubled : (m.dimmShown c temp).n (0x2140 + c) 9 = m.n (0x2140 + c) 9 :=
    congrArg Val.nat (m.get_dimmShown hc temp (by decide) (by decide))
  have hset : (m.dimmShown c temp).condSet 0x2006 c = m.condSet 0x2006 c := by
    unfold Mod.condSet
    rw [Mod.dimmShown_conds]
  have hz := m.z_dimmShown hc temp
  have hint : (Val.num temp).int = temp := rfl
  have htold := m.dimmShown_told (c := c) temp
  have heq : m.dimmTemperature c temp =
      (if !decide ((m.dimmShown c temp).n (0x2140 + c) 9 = 1) && decide (85 < temp) then
        ((m.dimmShown c temp).put (0x2140 + c) 9 1).raiseCond 0x2006 c [c, 1]
      else if decide ((m.dimmShown c temp).n (0x2140 + c) 9 = 1) && decide (temp ≤ 83) then
        ((m.dimmShown c temp).put (0x2140 + c) 9 0).raiseClear 0x2006 c [0x2006] [c, 0]
      else m.dimmShown c temp) := if_neg h
  rw [heq, hdoubled]
  generalize m.dimmShown c temp = m1 at *
  unfold Mod.z
  by_cases hd : m.n (0x2140 + c) 9 = 1
  · by_cases ht : temp ≤ 83
    · have h85 : ¬85 < temp := by omega
      have h95 : ¬95 ≤ temp := by omega
      simp only [hd, decide_true, Bool.not_true, Bool.false_and, Bool.false_eq_true, if_false, Bool.true_and, ht, if_true, h85,
        h95, and_self, true_and, false_imp_iff, true_imp_iff, ne_eq, not_true, implies_true, and_true]
      refine ⟨?_, ?_, Mod.raiseClear_told _ _ _ _ _⟩
      · rw [Mod.get_raiseClear_frame _ _ _ _ _ (by omega), Mod.get_put_frame _ _ (by omega) (by omega), hz, hint]
      · unfold Mod.n
        rw [Mod.get_raiseClear_frame _ _ _ _ _ (by omega), Mod.get_put_same _ _ (by omega)]
        rfl
    · simp only [hd, decide_true, Bool.not_true, Bool.false_and, Bool.false_eq_true, if_false, Bool.true_and, ht, decide_false,
        false_and, false_imp_iff, ne_eq, not_true, implies_true, true_and, ite_self]
      exact ⟨by rw [hz, hint], by rw [hdoubled, hd], htold⟩
  · by_cases ht : 85 < temp
    · have h83 : ¬temp ≤ 83 := by omega
      simp only [hd, ht, h83, decide_true, decide_false, Bool.not_false, Bool.true_and, if_true, ne_eq, not_false_eq_true, true_imp_iff,
        false_imp_iff, true_and]
      refine ⟨?_, ?_, fun hs => Mod.raiseCond_told _ (by rw [← hset] at hs; exact hs) _, fun h95 hl =>
        Mod.told_of_tells (Mod.tells_raiseCond _ _ _ (Mod.tells_of_raised (Mod.put_raised _ _ _ _) Mod.tells_refl)) (htold h95 hl)⟩
      · rw [Mod.get_raiseCond_frame _ _ _ _ (by omega), Mod.get_put_frame _ _ (by omega) (by omega), hz, hint]
      · unfold Mod.n
        rw [Mod.get_raiseCond_frame _ _ _ _ (by omega), Mod.get_put_same _ _ (by omega)]
        rfl
    · simp only [hd, ht, decide_false, Bool.not_false, Bool.true_and, Bool.false_eq_true, if_false, Bool.false_and, false_imp_iff,
        and_false, implies_true, true_and]
      exact ⟨by rw [hz, hint], hdoubled, htold⟩

end

/-! ### Refreshes of a bank (R256) -/

section
variable {m : Mod} {c b : Nat}

/-- A bank's refresh is due: the channel is in service, its clock runs and its time has come. -/
abbrev Mod.refreshIsDue (m : Mod) (c b : Nat) : Prop :=
  m.channelLive c = true ∧ m.coreCoasts = false ∧ m.refreshTime c b = true

theorem Mod.refreshDue_not (h : ¬m.refreshIsDue c b) (urgent : Bool) : m.refreshDue c b urgent = m := by
  unfold Mod.refreshDue
  refine if_pos (by_contra fun hn => h ?_)
  simp only [Bool.or_eq_true, Bool.not_eq_true', not_or, Bool.not_eq_false, Bool.not_eq_true] at hn
  exact ⟨hn.1.1, hn.1.2, hn.2⟩

end

section
variable {m : Mod} {c b : Nat}

theorem Mod.refreshDue_due (h : m.refreshIsDue c b) (urgent : Bool) : m.refreshDue c b urgent =
    if !urgent then (m.noteDue c b).setOwed c b 0
    else if m.owedTo c b < 4 then ((m.noteDue c b).bump (0x2140 + c) 6).setOwed c b (m.owedTo c b + 1)
    else ((m.noteDue c b).bump (0x2140 + c) 6).forceRefresh c := by
  have howed : ((m.noteDue c b).bump (0x2140 + c) 6).owedTo c b = m.owedTo c b :=
    Mod.owedTo_of m c b (by rw [Mod.bump_mem]; rfl)
  obtain ⟨hl, hk, ht⟩ := h
  unfold Mod.refreshDue
  rw [if_neg (by simp [hl, hk, ht])]
  dsimp only
  rw [howed]

theorem Mod.refreshTime_setOwed (k : Nat) : (m.setOwed c b k).refreshTime c b = m.refreshTime c b := rfl

/-- A refresh not postponed leaves nothing owed. -/
theorem Mod.refreshDue_issued (h : m.refreshIsDue c b) : (m.refreshDue c b false).owedTo c b = 0
    ∧ (m.refreshDue c b false).refreshTime c b = false ∧ (m.refreshDue c b false).objs = m.objs := by
  rw [Mod.refreshDue_due h]
  exact ⟨Mod.owedTo_setOwed _ c b 0, (m.noteDue c b).refreshTime_setOwed 0 |>.trans (m.refreshTime_noteDue c b), rfl⟩

theorem Mod.refreshTime_postponed (hc : c < 16) : ((m.noteDue c b).bump (0x2140 + c) 6).refreshTime c b = false := by
  rw [Mod.refreshTime_of (m.noteDue c b) c b (by rw [Mod.bump_mem]) (by rw [Mod.bump_ctr])
    (congrArg Val.nat (Mod.get_bump_frame _ (by omega) (by omega)))]
  exact m.refreshTime_noteDue c b

/-- A refresh postponed is owed and counted. -/
theorem Mod.refreshDue_postponed (hc : c < 16) (h : m.refreshIsDue c b) (h4 : m.owedTo c b < 4) :
    (m.refreshDue c b true).owedTo c b = m.owedTo c b + 1 ∧ (m.refreshDue c b true).refreshTime c b = false
      ∧ (m.refreshDue c b true).n (0x2140 + c) 6 = (m.bump (0x2140 + c) 6).n (0x2140 + c) 6 := by
  rw [Mod.refreshDue_due h, if_neg (by decide), if_pos h4]
  exact ⟨Mod.owedTo_setOwed _ c b _, Mod.refreshTime_postponed hc, m.n_bump_congr (m' := m.noteDue c b) (by omega) rfl⟩

/-- What is told of a forced refresh, R256. -/
abbrev Mod.tellsForced (m m' : Mod) (c : Nat) : Prop := m'.n (0x2140 + c) 7 = (m.bump (0x2140 + c) 7).n (0x2140 + c) 7
  ∧ (m.limits.find? (fun l => l.code = 0x2005 && l.res = c) = none → m'.told 0x2005 c [c, 1])

/-- With four owed a refresh is forced in its stead. -/
theorem Mod.refreshDue_forced (hc : c < 16) (h : m.refreshIsDue c b) (h4 : 4 ≤ m.owedTo c b) :
    (m.refreshDue c b true).owedTo c b = m.owedTo c b
      ∧ (m.refreshDue c b true).n (0x2140 + c) 6 = (m.bump (0x2140 + c) 6).n (0x2140 + c) 6
      ∧ m.tellsForced (m.refreshDue c b true) c ∧ (m.refreshDue c b true).mem.forced = true := by
  rw [Mod.refreshDue_due h, if_neg (by decide), if_neg (by omega)]
  obtain ⟨hforced, howed, h7, h6, htold⟩ := ((m.noteDue c b).bump (0x2140 + c) 6).forceRefresh_shows c hc
  refine ⟨Mod.owedTo_of m c b (howed.trans (by rw [Mod.bump_mem]; rfl)), h6.trans (m.n_bump_congr (m' := m.noteDue c b) (by omega) rfl),
    ⟨h7.trans (m.n_bump_congr (by omega) (congrArg Val.nat (Mod.get_bump_frame _ (by omega) (by omega)))), fun hl => htold ?_⟩, hforced⟩
  rw [Mod.bump_limits]
  exact hl

theorem Mod.refreshForced_not (h : m.owedTo c b < 4 ∨ m.refreshTime c b = false) : m.refreshForced c b = m := by
  unfold Mod.refreshForced
  obtain h | h := h
  · rw [decide_eq_true h, Bool.true_or, if_pos rfl]
  · rw [h, Bool.not_false, Bool.or_true, if_pos rfl]

/-- A refresh postponed for four intervals is forced at once. -/
theorem Mod.refreshForced_forced (hc : c < 16) (h4 : 4 ≤ m.owedTo c b) (ht : m.refreshTime c b = true) :
    (m.refreshForced c b).owedTo c b = m.owedTo c b - 1 ∧ m.tellsForced (m.refreshForced c b) c
      ∧ (m.refreshForced c b).mem.forced = true := by
  have heq : m.refreshForced c b = (m.setOwed c b (m.owedTo c b - 1)).forceRefresh c := if_neg (by simp [ht]; omega)
  rw [heq]
  obtain ⟨hforced, howed, h7, h6, htold⟩ := (m.setOwed c b (m.owedTo c b - 1)).forceRefresh_shows c hc
  exact ⟨(Mod.owedTo_of _ c b howed).trans (Mod.owedTo_setOwed m c b _), ⟨h7.trans (m.n_bump_congr (by omega) rfl), htold⟩, hforced⟩

end

/-! ### Errors (R247, R260-R262) -/

section
variable {m : Mod} {c : Nat}

/-- The device of an error. -/
def errorOf (c sub rank dev : Nat) (x : DevErrors) : Bool := x.channel = c && x.subch = sub && x.rank = rank && x.device = dev

/-- What a device has shown within the hour. -/
def Mod.errorsOf (m : Mod) (c sub rank dev : Nat) : DevErrors :=
  match m.mem.devices.find? (errorOf c sub rank dev) with
  | none => ⟨c, sub, rank, dev, m.now / (3600 * second), 0, false⟩
  | some x => if x.hour = m.now / (3600 * second) then x else ⟨c, sub, rank, dev, m.now / (3600 * second), 0, false⟩

variable (m c) in
theorem Mod.errorsOf_known (sub rank dev : Nat) :
    let known := (m.mem.devices.find? (errorOf c sub rank dev)).filter fun x => x.hour = m.now / (3600 * second)
    (m.errorsOf c sub rank dev).count = (known.map (·.count)).getD 0
      ∧ (m.errorsOf c sub rank dev).warned = (known.map (·.warned)).getD false
      ∧ (m.errorsOf c sub rank dev).hour = m.now / (3600 * second)
      ∧ errorOf c sub rank dev (m.errorsOf c sub rank dev) = true := by
  unfold Mod.errorsOf
  have hnew : errorOf c sub rank dev ⟨c, sub, rank, dev, m.now / (3600 * second), 0, false⟩ = true := by simp [errorOf]
  cases hx : m.mem.devices.find? (errorOf c sub rank dev) with
  | none => exact ⟨rfl, rfl, rfl, hnew⟩
  | some x =>
    by_cases hh : x.hour = m.now / (3600 * second)
    · simp [Option.filter, hh, List.find?_some hx]
    · simp [Option.filter, hh, hnew]

/-- The module with an error added to what its device has shown. -/
def Mod.errorAdded (m : Mod) (old : DevErrors) (c sub rank dev : Nat) : Mod :=
  let above := m.n 0x2020 3 < old.count + 1 && !old.warned
  let new : DevErrors := { old with count := old.count + 1, warned := old.warned || above }
  let m : Mod := { m with mem := { m.mem with devices := (m.mem.devices.filter fun x => !errorOf c sub rank dev x) ++ [new] } }
  if above then m.raise 0x2002 c [c, sub, rank, dev] else m

theorem Mod.correctable_live (h : m.channelLive c = true) (sub rank dev : Nat) : m.correctable c sub rank dev =
    (m.bump (0x2140 + c) 4).errorAdded (m.errorsOf c sub rank dev) c sub rank dev := by
  have hold : (m.bump (0x2140 + c) 4).errorsOf c sub rank dev = m.errorsOf c sub rank dev := by
    unfold Mod.errorsOf
    rw [Mod.bump_mem, Mod.bump_now]
  rw [← hold]
  exact if_neg (by simp [h])

variable (m c) in
theorem Mod.errorAdded_shows (old : DevErrors) (hc : c < 16) (sub rank dev : Nat) :
    (m.errorAdded old c sub rank dev).n (0x2140 + c) 4 = m.n (0x2140 + c) 4
      ∧ (m.n 0x2020 3 < old.count + 1 → old.warned = false → (m.errorAdded old c sub rank dev).told 0x2002 c [c, sub, rank, dev])
      ∧ (old.count + 1 ≤ m.n 0x2020 3 → (m.errorAdded old c sub rank dev).raised = m.raised)
      ∧ (errorOf c sub rank dev old = true → ∃ y ∈ (m.errorAdded old c sub rank dev).mem.devices,
        errorOf c sub rank dev y = true ∧ y.hour = old.hour ∧ y.count = old.count + 1) := by
  have hmem (m : Mod) (x : MemoryS) (j t : Nat) : ({ m with mem := x } : Mod).n j t = m.n j t := rfl
  unfold Mod.errorAdded
  dsimp only
  refine ⟨?_, fun h1 h2 => ?_, fun h1 => ?_, fun h => ?_⟩
  · split
    · rw [Mod.n_raise _ _ _ _ (by omega), hmem]
    · rw [hmem]
  · rw [if_pos (by simp [h1, h2])]
    exact Mod.raise_told _ _ _ _
  · rw [if_neg (by simp; omega)]
  · refine ⟨{ old with count := old.count + 1, warned := old.warned || (decide (m.n 0x2020 3 < old.count + 1) && !old.warned) },
      ?_, h, rfl, rfl⟩
    split
    · rw [Mod.raise_mem]
      exact List.mem_append_right _ (List.mem_singleton_self _)
    · exact List.mem_append_right _ (List.mem_singleton_self _)

end

/-! ### Reads that fail (R262) -/

section
variable {m : Mod} {c j t : Nat}

theorem Mod.get_of_part {m m' : Mod} (h : m'.part .objs = m.part .objs) : m'.get j t = m.get j t := congrArg (Store.get · j t) h

theorem Mod.get_autoHandover (B : Nat) (thermal : Bool) (h : 0x7010 * 256 ≠ j * 256 + t) : (m.autoHandover B thermal).1.get j t = m.get j t := by
  have hbegin (r : Bool) : (m.beginHandover B r thermal).get j t = m.get j t := by
    unfold Mod.beginHandover
    dsimp only
    rw [Mod.get_of_part (Mod.mortarSend_part _ _ _ _ (by decide)), Mod.get_put_frame _ _ (by decide) (by omega), Mod.get_modTwin]
  unfold Mod.autoHandover
  split_ifs
  · rfl
  · exact hbegin false
  · exact hbegin true
  · rfl

theorem Mod.get_loseRateControl (h : 0x7010 * 256 ≠ j * 256 + t) : (m.loseRateControl c).get j t = m.get j t := by
  unfold Mod.loseRateControl
  dsimp only
  split
  · exact (Mod.get_each fun m x _ => m.get_modRend _ _).trans (Mod.get_each fun m x _ => m.get_modRend _ _)
  · rw [Mod.get_autoHandover _ _ h]
    exact (Mod.get_each fun m x _ => m.get_modRend _ _).trans (Mod.get_each fun m x _ => m.get_modRend _ _)

theorem Mod.get_requeueRuns (h : t ≠ 1) (ht : t < 256) : m.requeueRuns.get j t = m.get j t := by
  unfold Mod.requeueRuns
  dsimp only
  rw [Mod.get_modCal]
  exact Mod.get_each fun m x _ => m.get_put_frame _ (by omega) (by omega)

section
variable (hj : j < 0x2800) (h : t ≠ 1) (ht : t < 256)
include hj h ht

theorem Mod.get_houseService (c sp cls : Nat) : (m.houseService c sp cls).get j t = m.get j t := by
  unfold Mod.houseService Mod.putCore
  dsimp only
  rw [apply_ite (Mod.get · j t), Mod.get_requeueRuns h ht, ite_self]
  simp (disch := omega)

theorem Mod.get_moveService (c sp cls : Nat) : (m.moveService c sp cls).get j t = m.get j t := by
  unfold Mod.moveService Mod.useSpare Mod.putCore
  dsimp only
  rw [Mod.get_modHw]
  refine (Mod.get_each fun m x _ => Mod.get_houseService hj h ht _ _ _).trans ?_
  refine (Mod.get_each fun m x _ => m.get_putBit_frame _ _ (by omega) (by omega)).trans ?_
  simp (disch := omega)

omit h in
theorem Mod.get_dropService (c cls : Nat) : (m.dropService c cls).get j t = m.get j t := by
  have hdown (m : Mod) (x : List Nat) : ({ m with downCores := x } : Mod).get j t = m.get j t := rfl
  unfold Mod.dropService Mod.putCore
  dsimp only
  split
  · rw [Mod.get_loseRateControl (by omega)]
    simp (disch := omega)
  · rw [Mod.get_raise_frame _ _ _ _ (by omega)]
    rw [hdown]
    simp (disch := omega)

/-- A core that fails leaves the objects of the platform below its own alone. -/
theorem Mod.get_failCore (c cause : Nat) : (m.failCore c cause).get j t = m.get j t := by
  unfold Mod.failCore Mod.showSett
  dsimp only
  split_ifs
  · rfl
  · simp (disch := omega) [Mod.useSpare, Mod.putCore]
  · simp (disch := omega) [Mod.get_dropService hj ht]
  · cases Mod.freeSpare _
    · simp (disch := omega) [Mod.get_dropService hj ht]
    · simp (disch := omega) [Mod.get_moveService hj h ht]

end

/-- What reads badly leaves the objects of DRAM alone. -/
theorem Mod.get_readerActs (hj : j < 0x2800) (h : t ≠ 1) (ht : t < 256) (what : DramReader) : (m.readerActs what).get j t = m.get j t := by
  have hring (r s tick : Nat) : (m.ringReadError r s tick).get j t = m.get j t := by
    unfold Mod.ringReadError
    split
    · rfl
    · split
      · rfl
      · rw [Mod.get_raise_frame _ _ _ _ (by omega), Mod.get_bump_frame _ (by omega) (by omega), Mod.get_modSlot, Mod.get_draw]
  have href (r i b : Nat) : (m.burnReference r i b).get j t = m.get j t := by
    unfold Mod.burnReference
    dsimp only
    split
    · rfl
    · exact Mod.get_modRend _ _ _
  cases what with
  | reference r i block => exact href _ _ _
  | replay r s tick => exact hring _ _ _
  | sett c => exact Mod.get_failCore hj h ht _ _
  | _ => rfl

theorem Mod.tells_loseRateControl {a : Mod} (h : a.tells m) : a.tells (m.loseRateControl c) := by
  refine Mod.tells_of_part (Mod.loseRateControl_part _ _ (by decide)) h

section
variable {a : Mod} (h : a.tells m)
include h

theorem Mod.tells_put (i k v : Nat) : a.tells (m.put i k v) := Mod.tells_of_part (Mod.put_part _ _ _ _ (by decide)) h

theorem Mod.tells_bump (i k : Nat) : a.tells (m.bump i k) := Mod.tells_of_part (Mod.bump_part _ _ _ (by decide)) h

theorem Mod.tells_putCore (cls c : Nat) (on : Bool) : a.tells (m.putCore cls c on) :=
  Mod.tells_of_part (Mod.putCore_part _ _ _ _ (by decide)) h

theorem Mod.tells_useSpare (c : Nat) : a.tells (m.useSpare c) := Mod.tells_of_part (Mod.useSpare_part _ _ (by decide)) h

theorem Mod.tells_houseService (c sp cls : Nat) : a.tells (m.houseService c sp cls) := by
  have hraise {m : Mod} (h : a.tells m) (p : List Nat) (g : HwS → HwS) : a.tells ((m.raise 0x2801 c p).modHw g) :=
    Mod.tells_of_raised rfl (Mod.tells_raise 0x2801 c p h)
  have hrequeue {m : Mod} (h : a.tells m) : a.tells m.requeueRuns := Mod.tells_of_part (Mod.requeueRuns_part _ (by decide)) h
  unfold Mod.houseService
  dsimp only
  have hshown (x y : Nat) := Mod.tells_put (Mod.tells_bump (Mod.tells_putCore (Mod.tells_put (Mod.tells_bump (Mod.tells_put (Mod.tells_put h
    (0x2800 + sp) 1 0) (0x2800 + sp) 2 cls) (0x2800 + sp) 6) (0x2800 + sp) 4 x) cls sp true) (0x2880 + cls) 4) (0x2880 + cls) 5 y
  split
  · exact hrequeue (hraise (hshown _ _) _ _)
  · exact hraise (hshown _ _) _ _

theorem Mod.tells_modHw (g : HwS → HwS) : a.tells (m.modHw g) := Mod.tells_of_raised rfl h

theorem Mod.tells_moveService (c sp cls : Nat) : a.tells (m.moveService c sp cls) := by
  unfold Mod.moveService
  dsimp only
  refine Mod.tells_modHw ?_ _
  refine Mod.tells_each (fun m x h => Mod.tells_houseService h x.1.1 x.2 x.1.2.1) ?_
  have hfreed := Mod.tells_putCore (Mod.tells_useSpare h sp) cls c false
  exact Mod.tells_each (fun m x h => Mod.tells_putCore h x.1.2.1 x.1.2.2 false) hfreed

theorem Mod.tells_dropService (c cls : Nat) : a.tells (m.dropService c cls) := by
  have hshown := Mod.tells_putCore (Mod.tells_put (Mod.tells_put h (0x2880 + cls) 2 (m.n (0x2880 + cls) 2 - 1)) (0x2880 + cls) 3
    (m.n (0x2880 + cls) 3 + 1)) cls c false
  unfold Mod.dropService
  dsimp only
  split
  · exact Mod.tells_of_part (Mod.loseRateControl_part _ _ (by decide)) (Mod.tells_raise _ _ _ hshown)
  · exact Mod.tells_raise _ _ _ (Mod.tells_of_raised rfl hshown)

theorem Mod.tells_failCore (c cause : Nat) : a.tells (m.failCore c cause) := by
  have hfailed := Mod.tells_put (Mod.tells_bump (Mod.tells_put (Mod.tells_put (Mod.tells_put h (0x2800 + c) 1 3) (0x2800 + c) 7 cause)
    (0x2800 + c) 8 m.now) 0x2900 2) 0x2900 4 c
  unfold Mod.failCore Mod.showSett
  dsimp only
  split_ifs
  · exact h
  · exact Mod.tells_put (Mod.tells_put (Mod.tells_put (Mod.tells_raise _ _ _ (Mod.tells_useSpare hfailed _)) _ _ _) _ _ _) _ _ _
  · exact Mod.tells_put (Mod.tells_put (Mod.tells_put (Mod.tells_dropService hfailed _ _) _ _ _) _ _ _) _ _ _
  · refine Mod.tells_put (Mod.tells_put (Mod.tells_put ?_ _ _ _) _ _ _) _ _ _
    cases Mod.freeSpare _
    · exact Mod.tells_dropService hfailed _ _
    · exact Mod.tells_moveService hfailed _ _ _

end

/-- What the reader of a bad burst does takes no event back. -/
theorem Mod.tells_readerActs (what : DramReader) : m.tells (m.readerActs what) := by
  have hring (r s tick : Nat) : m.tells (m.ringReadError r s tick) := by
    unfold Mod.ringReadError
    split
    · exact Mod.tells_refl
    · split
      · exact Mod.tells_refl
      · exact Mod.tells_raise _ _ _ (Mod.tells_of_part (by simp) Mod.tells_refl)
  cases what with
  | replay r s tick => exact hring _ _ _
  | sett c => exact Mod.tells_failCore Mod.tells_refl _ _
  | reference r i block => exact Mod.tells_of_part (Mod.burnReference_part _ _ _ _ (by decide)) Mod.tells_refl
  | _ => exact Mod.tells_of_raised rfl Mod.tells_refl

variable (m c) in
/-- A bad read is counted at its channel and its port, and told of. -/
theorem Mod.uncorrectable_shows (hc : c < 16) {p : Nat} (hp : p < 24) (what : DramReader) :
    (m.uncorrectable c p what).get (0x2140 + c) 5 = (m.bump (0x2140 + c) 5).get (0x2140 + c) 5
      ∧ (m.uncorrectable c p what).n (0x2100 + p) 8 = (m.bump (0x2100 + p) 8).n (0x2100 + p) 8
      ∧ (m.limits.find? (fun l => l.code = 0x2003 && l.res = c) = none →
        ∃ region < 8, (m.uncorrectable c p what).told 0x2003 c [p, region, 1]) := by
  have hregion (k : Nat) : (readerRegion what).getD (k % 8) < 8 := by
    cases what <;> simp [readerRegion] <;> omega
  unfold Mod.uncorrectable
  dsimp only
  refine ⟨?_, ?_, fun h => ⟨_, hregion _, Mod.raiseLimited_told _ _ [p, _] ?_⟩⟩
  · rw [Mod.get_raiseLimited_frame _ _ _ _ _ (by omega), Mod.get_draw, Mod.get_bump_frame _ (by omega) (by omega)]
  · rw [Mod.n_raiseLimited _ _ _ _ _ (by omega)]
    exact m.n_bump_congr (by omega) (congrArg Val.nat (Mod.get_bump_frame _ (by omega) (by omega)))
  · rw [Mod.draw_limits, Mod.bump_limits, Mod.bump_limits]
    exact h

theorem Mod.readerActs_repair (m : Mod) (r : Fin 128) : r.val ∈ (m.readerActs (.repair r)).twin.skipBand :=
  List.mem_append_right _ (List.mem_singleton_self _)

theorem Mod.uncorrectable_media (m : Mod) (c p : Nat) (what : DramReader) :
    (m.uncorrectable c p what).rends = m.rends ∧ (m.uncorrectable c p what).chans = m.chans ∧ (m.uncorrectable c p what).twin = m.twin := by
  unfold Mod.uncorrectable
  simp

end

/-! ### The loss of a supply (R261) -/

section
variable {m : Mod} {c : Nat}

theorem Mod.n_endMemory_channel (hc : c < 16) : m.endMemory.n (0x2140 + c) 1 = m.n (0x2140 + c) 1 := by
  have hrings (m : Mod) (x : List (Option Ring)) (j t : Nat) : ({ m with rings := x } : Mod).get j t = m.get j t := rfl
  unfold Mod.endMemory Mod.n
  dsimp only
  rw [Mod.get_put_frame _ _ (by decide) (by omega), hrings, Mod.get_clearRange_other _ (0x4C00, 0x4CFF, 5, 7) (by decide) (by decide) (by omega),
    Mod.get_clearRange_other _ (0x4C00, 0x4CFF, 1, 1) (by decide) (by decide) (by omega),
    Mod.get_clearRange_other _ (0x4210, 0x421F, 4, 6) (by decide) (by decide) (by omega),
    Mod.get_clearRange_other _ (0x4210, 0x421F, 1, 1) (by decide) (by decide) (by omega)]

theorem Mod.n_endMemory_cause : m.endMemory.n 0x2000 9 = m.n 0x2000 9 := by
  have hrings (m : Mod) (x : List (Option Ring)) (j t : Nat) : ({ m with rings := x } : Mod).get j t = m.get j t := rfl
  unfold Mod.endMemory Mod.n
  dsimp only
  rw [Mod.get_put_frame _ _ (by decide) (by omega), hrings, Mod.get_clearRange_other _ (0x4C00, 0x4CFF, 5, 7) (by decide) (by decide) (by decide),
    Mod.get_clearRange_other _ (0x4C00, 0x4CFF, 1, 1) (by decide) (by decide) (by decide),
    Mod.get_clearRange_other _ (0x4210, 0x421F, 4, 6) (by decide) (by decide) (by decide),
    Mod.get_clearRange_other _ (0x4210, 0x421F, 1, 1) (by decide) (by decide) (by decide)]

/-- Every populated channel shows that it is out of service. -/
def Mod.channelsOut (m : Mod) : Mod :=
  m.each (List.range 16) fun (m : Mod) (k : Nat) => if m.n (0x2140 + k) 1 = 0 then m else m.put (0x2140 + k) 1 2

theorem Mod.n_channelOut (k c : Nat) (hc : c < 16) (hk : k < 16) :
    (if m.n (0x2140 + k) 1 = 0 then m else m.put (0x2140 + k) 1 2).n (0x2140 + c) 1
      = if c = k ∧ m.n (0x2140 + c) 1 ≠ 0 then 2 else m.n (0x2140 + c) 1 := by
  by_cases hck : c = k
  · subst hck
    by_cases h0 : m.n (0x2140 + c) 1 = 0
    · simp [h0]
    · rw [if_neg h0, if_pos ⟨rfl, h0⟩]
      exact Mod.n_put _ _ _ _ (by omega)
  · rw [if_neg (c := c = k ∧ _) fun h => hck h.1]
    split
    · rfl
    · exact Mod.n_put_other _ _ (by omega) (by omega)

theorem Mod.n_channelsOut (hc : c < 16) (h : m.n (0x2140 + c) 1 ≠ 0) : m.channelsOut.n (0x2140 + c) 1 = 2 := by
  have hgen (l : List Nat) (hl : ∀ k ∈ l, k < 16) (m : Mod) (h : m.n (0x2140 + c) 1 ≠ 0) :
      (m.each l fun (m : Mod) (k : Nat) => if m.n (0x2140 + k) 1 = 0 then m else m.put (0x2140 + k) 1 2).n (0x2140 + c) 1
        = if c ∈ l then 2 else m.n (0x2140 + c) 1 := by
    unfold Mod.each
    induction l generalizing m with
    | nil => simp
    | cons k l ih =>
      have hstep := m.n_channelOut k c hc (hl k (by simp))
      have hne : (if m.n (0x2140 + k) 1 = 0 then m else m.put (0x2140 + k) 1 2).n (0x2140 + c) 1 ≠ 0 := by
        rw [hstep]
        split
        · decide
        · exact h
      rw [List.foldl_cons, ih (fun k hk => hl k (by simp [hk])) _ hne, hstep]
      by_cases hck : c = k
      · rw [if_pos (c := c = k ∧ _) ⟨hck, h⟩, ite_self, if_pos (List.mem_cons.mpr (.inl hck))]
      · simp [hck]
  unfold Mod.channelsOut
  rw [hgen _ (fun k hk => List.mem_range.mp hk) m h, if_pos (List.mem_range.mpr hc)]

theorem Mod.get_channelsOut {j t : Nat} (hj : j = 0x2000) (ht : t < 256) : m.channelsOut.get j t = m.get j t := by
  unfold Mod.channelsOut
  refine Mod.get_each fun m k hk => ?_
  have := List.mem_range.mp hk
  split
  · rfl
  · exact m.get_put_frame _ (by omega) (by omega)

theorem Mod.supplyTrip_populated (h : m.n (0x2140 + c) 1 ≠ 0) : m.supplyTrip c =
    (((m.haltMedia.endMemory.put 0x2000 1 (m.n 0x2000 1)).put 0x2000 2 0).channelsOut).raise 0x2001 0
      [((m.haltMedia.endMemory.put 0x2000 1 (m.n 0x2000 1)).put 0x2000 2 0).channelsOut.n 0x2000 9, 5] := if_neg h

/-- A supply lost takes every channel out of service, and what DRAM held. -/
theorem Mod.supplyTrip_shows (hc : c < 16) (h : m.n (0x2140 + c) 1 ≠ 0) :
    (m.supplyTrip c).n (0x2140 + c) 1 = 2 ∧ (m.supplyTrip c).n 0x2000 2 = 0 ∧ (m.supplyTrip c).n 0x2000 1 = m.n 0x2000 1
      ∧ (m.supplyTrip c).rings = List.replicate 128 none ∧ (m.supplyTrip c).told 0x2001 0 [m.n 0x2000 9, 5] := by
  have hshow (j t : Nat) (hj : j = 0x2000) (ht : t < 256) (m : Mod) : m.channelsOut.n j t = m.n j t :=
    congrArg Val.nat (Mod.get_channelsOut hj ht)
  have hhalt (j t : Nat) (hj : 0x1500 ≤ j ∧ j < 0x4100) (ht : t < 256) : m.haltMedia.n j t = m.n j t :=
    congrArg Val.nat (m.get_haltMedia (.inl hj) ht)
  have hcause : ((m.haltMedia.endMemory.put 0x2000 1 (m.n 0x2000 1)).put 0x2000 2 0).channelsOut.n 0x2000 9 = m.n 0x2000 9 := by
    rw [hshow _ _ rfl (by decide), Mod.n_put_other _ _ (by decide) (by decide), Mod.n_put_other _ _ (by decide) (by decide),
      Mod.n_endMemory_cause, hhalt _ _ (by decide) (by decide)]
  rw [Mod.supplyTrip_populated h, hcause]
  refine ⟨?_, ?_, ?_, ?_, Mod.raise_told _ _ _ _⟩
  · rw [Mod.n_raise _ _ _ _ (by omega)]
    refine Mod.n_channelsOut hc ?_
    rw [Mod.n_put_other _ _ (by decide) (by omega), Mod.n_put_other _ _ (by decide) (by omega), Mod.n_endMemory_channel hc,
      hhalt _ _ (by omega) (by decide)]
    exact h
  · rw [Mod.n_raise _ _ _ _ (by decide), hshow _ _ rfl (by decide), Mod.n_put _ _ _ _ (by decide)]
  · rw [Mod.n_raise _ _ _ _ (by decide), hshow _ _ rfl (by decide), Mod.n_put_other _ _ (by decide) (by decide),
      Mod.n_put _ _ _ _ (by decide)]
  · have hout (m : Mod) : m.channelsOut.rings = m.rings :=
      m.each_keeps Mod.rings _ _ fun m k => by split <;> rfl
    rw [Mod.raise_rings, hout, Mod.put_rings, Mod.put_rings]
    rfl

end

/-- Settles O40: refresh by its interval and what is owed, errors by their counts, a supply by its channels. -/
theorem dramIsRefreshedAndWatched : Obligations.DramIsRefreshedAndWatched := by
  unfold Obligations.DramIsRefreshedAndWatched
  refine ⟨fun s t c h => ?_, fun s t c h => ?_⟩
  · intro m o tells
    have hb : m.rebooting = false := h.2
    refine ⟨fun b => ?_, fun temp => ⟨fun h0 => ?_, fun h0 => ?_⟩⟩
    · intro due
      refine ⟨fun hd u => does_act (g := fun m => m.refreshDue c.val b.val u) h rfl (Mod.refreshDue_not hd u) hb, fun hd => ⟨?_, fun h4 => ?_, fun h4 => ?_⟩, fun hn => ?_, fun h4 ht => ?_⟩
      · exact completes_act (g := fun m => m.refreshDue c.val b.val false) rfl h (Mod.refreshDue_issued hd) fun _ h => h
      · exact completes_act (g := fun m => m.refreshDue c.val b.val true) rfl h (Mod.refreshDue_postponed c.isLt hd h4) fun _ h => h
      · exact completes_act (g := fun m => m.refreshDue c.val b.val true) rfl h (Mod.refreshDue_forced c.isLt hd h4) fun _ h => h
      · exact does_act (g := fun m => m.refreshForced c.val b.val) h rfl (Mod.refreshForced_not hn) hb
      · exact completes_act (g := fun m => m.refreshForced c.val b.val) rfl h (Mod.refreshForced_forced c.isLt h4 ht) fun _ h => h
    · exact does_act (g := fun m => m.dimmTemperature c.val temp) h rfl (if_pos h0) hb
    · exact completes_act (g := fun m => m.dimmTemperature c.val temp) rfl h (m.dimmTemperature_shows c.isLt temp h0) fun _ h => h
  · intro m o
    have hb : m.rebooting = false := h.2
    refine ⟨fun hd => ⟨fun sub rank dev => ?_, fun p what => ?_, ?_⟩, fun hl => ⟨fun sub rank dev => ?_, fun p what => ?_, ?_⟩, fun h0 => ?_,
      fun h0 => ?_⟩
    · exact does_act (g := fun m => m.correctable c.val sub.val rank.val dev.val) h rfl (if_pos (by rw [hd]; rfl)) hb
    · exact does_act (g := fun m => m.badRead c.val p.val what) h rfl (if_neg (by rw [hd]; decide)) hb
    · exact does_act (g := fun m => m.scrubPass c.val) h rfl (if_neg (by rw [hd]; decide)) hb
    · intro is hour known count
      obtain ⟨hcount, hwarned, hhour, his⟩ := m.errorsOf_known c.val sub.val rank.val dev.val
      obtain ⟨h4, htold, hraised, hy⟩ := (m.bump o 4).errorAdded_shows c.val (m.errorsOf c.val sub.val rank.val dev.val) c.isLt
        sub.val rank.val dev.val
      have hlimit : (m.bump o 4).n 0x2020 3 = m.n 0x2020 3 := congrArg Val.nat (m.get_bump_frame (by omega) (by omega))
      rw [hlimit, hcount] at htold hraised
      rw [hwarned] at htold
      refine completes_act (g := fun m => m.correctable c.val sub.val rank.val dev.val) rfl h ?_ fun _ h => h
      rw [Mod.correctable_live hl]
      refine ⟨h4, htold, fun hn => (hraised hn).trans (Mod.bump_raised _ _ _), ?_⟩
      have := hy his
      rw [hhour, hcount] at this
      exact this
    · obtain ⟨h5, h8, htold⟩ := m.uncorrectable_shows c.val c.isLt p.isLt what
      obtain ⟨hrends, hchans, htwin⟩ := m.uncorrectable_media c.val p.val what
      refine completes_act (g := fun m => m.badRead c.val p.val what) rfl h ?_ fun _ h => h
      have heq : m.badRead c.val p.val what = (m.uncorrectable c.val p.val what).readerActs what := if_pos hl
      show _ ∧ _ ∧ _
      rw [heq]
      refine ⟨?_, ?_, fun hn => ?_, fun r hr => ?_, fun r hr => ?_, fun hw => ?_⟩
      · exact congrArg Val.nat ((Mod.get_readerActs (by omega) (by decide) (by decide) what).trans h5)
      · exact (congrArg Val.nat (Mod.get_readerActs (by omega) (by decide) (by decide) what)).trans h8
      · obtain ⟨region, hr, ht⟩ := htold hn
        exact ⟨region, hr, Mod.told_of_tells (Mod.tells_readerActs what) ht⟩
      · subst hr
        exact congrArg (fun l => List.modify l r.val _) hrends
      · subst hr
        exact Mod.readerActs_repair _ r
      · obtain rfl | rfl := hw <;> exact ⟨hrends, hchans, htwin⟩
    · exact does_act (g := fun m => m.scrubPass c.val) h rfl (if_pos hl) ((Mod.bump_rebooting _ _ _).trans hb)
    · exact does_act (g := fun m => m.supplyTrip c.val) h rfl (if_pos h0) hb
    · exact completes_act (g := fun m => m.supplyTrip c.val) rfl h (Mod.supplyTrip_shows c.isLt h0) fun _ h => h

end Sys2Proof.Machine
end

section
/-! SUPPORT. A backplane unit in training whose attempt names a pair of lanes that no module has (R266, R273). -/

namespace Sys2Proof.Machine

/-- The module right after reset, with backplane port 0 in stage 2 of an attempt on a pair of lanes, 384 and 385, that no premise of the statement
excludes: the figure of merit of lane 384 would stand at 2600:02, which is the port's own stage. -/
def trainingBeyondLanes : State :=
  { State.reset with m := (Mod.reset.put 0x2600 2 2).modBring 33 fun b => { b with pair := some 351 } }

/-- The stage that backplane port 0 shows after a command. -/
def shownStage : Host.Outcome State Fault Refusal → Nat
  | .next s => s.m.unitStage 33
  | _ => 0

/-- One figure of merit is too few to end the stage, but it overwrites the stage. -/
theorem trainingShowsMeritAsStage : shownStage (exec (.trainingComplete 0 (.backplane 0) [15000000]) trainingBeyondLanes) = 50 := by
  decide +kernel

/-- Refutes O42: an attempt on a single good figure of two stays in stage 2, but the figure of lane 384 overwrites the stage at 2600:02. -/
theorem not_bringUpRunsItsStages : ¬ Obligations.BringUpRunsItsStages := by
  intro h
  obtain ⟨-, -, htrain, -⟩ := h trainingBeyondLanes 0 (.backplane 0) (by decide +kernel) (by decide +kernel) (by decide +kernel)
  obtain ⟨s', hs', -, hstage, -⟩ := (htrain [15000000]).2 (by decide +kernel)
  have hshown := trainingShowsMeritAsStage
  rw [hs'] at hshown
  split at hstage <;> exact absurd (hstage.symm.trans hshown) (by decide)

end Sys2Proof.Machine
end

section
/-! SUPPORT. A late datagram whose second path names a port beyond the thirty-two (R10, R157, R160). -/

namespace Sys2Proof.Machine

/-- A datagram to be launched at 0 on two paths: on logical port 0, and on one that no premise of the statement bounds, whose stage would be
shown by 5980:06, the count of late datagrams itself. -/
def strayDatagram : Datagram :=
  { (default : Datagram) with via := { (default : SendTo) with
    red := ⟨0, 0, 0, 0⟩
    blue := some ⟨0, 0, 0, 54529⟩ } }

/-- The module right after reset, with that datagram packed for rendition 0 and five late ones counted before. -/
def latePastPorts : State :=
  { State.reset with m := (Mod.reset.put 0x5980 6 5).modRend 0 fun s => { s with packing := [strayDatagram] } }

/-- How many outputs a command leaves. -/
def shownOutputs : Host.Outcome State Fault Refusal → Nat
  | .next s => s.m.out.length
  | _ => 0

/-- Counting the datagram as late moves the stage shown for the port away from 5, so that nothing leaves. -/
theorem lateDatagramLeavesNowhere : shownOutputs (exec (.datagramQueued 1 0) latePastPorts) = 0 := by decide +kernel

/-- Refutes O22: the late datagram's second path is open, but the count of late datagrams, which shows its port's stage, closes it. -/
theorem not_datagramsAndPlayoutsAreLaunched : ¬ Obligations.DatagramsAndPlayoutsAreLaunched := by
  intro h
  obtain ⟨hpacked, -⟩ := h.1 latePastPorts 1 0 (by decide +kernel)
  obtain ⟨s', hs', -, -, -, hsent⟩ := (hpacked strayDatagram [] (by decide +kernel)).2 (by decide +kernel) (.datagramQueued 1 0) (.inl rfl)
  obtain ⟨-, hblue⟩ := hsent (by decide +kernel) (by decide +kernel) (by decide +kernel) (by decide +kernel)
  have hout := hblue ⟨0, 0, 0, 54529⟩ (by decide +kernel) (by decide +kernel) (by decide +kernel)
  have hshown := lateDatagramLeavesNowhere
  rw [hs'] at hshown
  rw [List.length_eq_zero_iff.mp hshown] at hout
  exact List.not_mem_nil hout

end Sys2Proof.Machine
end

section
/-! SUPPORT. Ports and cages: what a unit that goes back to stage 1 shows and leaves alone (R265, R266, R274, R275). -/

namespace Sys2Proof.Machine

/-! ### Lists of parts -/

section
variable {α : Type} [Inhabited α] (l : List α) (f : α → α) {i j : Nat}

theorem nth_modify (h : i < l.length) : nth (l.modify i f) i = f (nth l i) := by
  unfold nth
  simp [List.getD_eq_getElem?_getD, h]

theorem nth_modify_ne (h : i ≠ j) : nth (l.modify i f) j = nth l j := by
  unfold nth
  simp [List.getD_eq_getElem?_getD, h]

end

/-- What a step of a run establishes of its item and later steps keep holds of every item after the run. -/
theorem Mod.each_establishes {α : Type} {P : α → Mod → Prop} {g : Mod → α → Mod} {l : List α} (hnew : ∀ m, ∀ x ∈ l, P x (g m x))
    (hkeep : ∀ m, ∀ x ∈ l, ∀ y ∈ l, P y m → P y (g m x)) (m : Mod) : ∀ y ∈ l, P y (m.each l g) := by
  have hkept {k : List α} (hk : ∀ x ∈ k, x ∈ l) (m : Mod) {y : α} (hy : y ∈ l) (h : P y m) : P y (m.each k g) := by
    unfold Mod.each
    induction k generalizing m with
    | nil => exact h
    | cons x k ih =>
      exact ih (fun z hz => hk z (List.mem_cons_of_mem _ hz)) _ (hkeep m x (hk x List.mem_cons_self) y hy h)
  have hall {k : List α} (hk : ∀ x ∈ k, x ∈ l) (m : Mod) : ∀ y ∈ k, P y (m.each k g) := by
    induction k generalizing m with
    | nil => exact fun y hy => absurd hy List.not_mem_nil
    | cons x k ih =>
      have hrest := fun z hz => hk z (List.mem_cons_of_mem x hz)
      refine fun y hy => (List.mem_cons.mp hy).elim (fun h => ?_) fun h => ih hrest (g m x) y h
      subst h
      exact hkept (k := k) hrest (g m y) (hk y List.mem_cons_self) (hnew m y (hk y List.mem_cons_self))
  exact hall (fun x hx => hx) m

/-! ### Objects that show links -/

/-- The objects that show a unit's stage, its lanes and what a port that goes down discards; and those of the events. -/
abbrev linkObject (j t : Nat) : Prop :=
  (0x2440 ≤ j ∧ j ≤ 0x2448 ∧ 5 ≤ t ∧ t ≤ 9) ∨ (0x2480 ≤ j ∧ j ≤ 0x24A5 ∧ (t = 1 ∨ t = 2 ∨ t = 5 ∨ t = 6))
    ∨ (0x2500 ≤ j ∧ j ≤ 0x2525 ∧ (t = 5 ∨ t = 6)) ∨ (0x2580 ≤ j ∧ j ≤ 0x25A5) ∨ j = 0x2600 ∨ (j = 0x7040 ∧ t = 7)
    ∨ (0x3840 ≤ j ∧ j ≤ 0x385F) ∨ (0x7400 ≤ j ∧ j ≤ 0x7410)

theorem Mod.get_mortarDown (m : Mod) {j t : Nat} (h : ¬((j = 0x7040 ∧ t = 7) ∨ (0x7400 ≤ j ∧ j ≤ 0x7410))) (ht : t < 256) :
    m.mortarDown.get j t = m.get j t := by
  unfold Mod.mortarDown
  dsimp only
  split
  · rfl
  · rw [Mod.get_raiseAgain_frame _ _ _ _ (by omega), Mod.get_put_frame _ _ (by omega) (by omega)]
    rfl

section
variable (m : Mod) {u : Nat} (hu : u < 35)
include hu

theorem Mod.unitLanes_lt : ∀ l ∈ m.unitLanes u, l < 38 := by
  intro l hl
  unfold Mod.unitLanes at hl
  split_ifs at hl with h1 h2
  · simp only [List.mem_map, List.mem_range] at hl
    obtain ⟨i, hi, rfl⟩ := hl
    split_ifs at hi <;> omega
  · simp only [List.mem_cons, List.not_mem_nil, or_false] at hl
    omega
  · simp only [List.mem_cons, List.not_mem_nil, or_false] at hl
    omega

/-- Of a unit that enters a stage the unit's entry, the stages and the merits of its lanes change. -/
theorem Mod.get_setStage (stage : Nat) {j t : Nat} (h : ¬((0x2440 ≤ j ∧ j ≤ 0x2447 ∧ 5 ≤ t ∧ t ≤ 8)
    ∨ (0x2480 ≤ j ∧ j ≤ 0x24A5 ∧ (t = 1 ∨ (stage < 2 ∧ t = 2))) ∨ (stage < 2 ∧ 0x2580 ≤ j ∧ j ≤ 0x25A5) ∨ j = 0x2600)) (ht : t < 256) :
    (m.setStage u stage).get j t = m.get j t := by
  unfold Mod.setStage
  dsimp only
  have hlanes (m m' : Mod) (f : Mod → Nat → Nat) : (m.each (m'.unitLanes u) fun m l => m.put (0x2480 + l) 1 (f m l)).get j t = m.get j t :=
    Mod.get_each fun m l hl => by
      have := m'.unitLanes_lt hu l hl
      exact m.get_put_frame _ (by omega) (by omega)
  have hunit : (if u < 32 then m.put (0x2440 + u / 4) (5 + u % 4) stage else if u = 32 then m else m.put 0x2600 (u - 31) stage).get j t
      = m.get j t := by
    split_ifs
    · exact m.get_put_frame _ (by omega) (by omega)
    · rfl
    · exact m.get_put_frame _ (by omega) (by omega)
  split
  · next hlow =>
    refine (Mod.get_each fun m l hl => ?_).trans ((Mod.get_modBring _ _ _).trans ((hlanes _ _ _).trans hunit))
    have := Mod.unitLanes_lt _ hu l hl
    rw [Mod.get_put_frame _ _ (by omega) (by omega), Mod.get_clear_frame _ _ _ (by omega) (by omega)]
  · exact (Mod.get_modBring _ _ _).trans ((hlanes _ _ _).trans hunit)

variable {j t : Nat} (h : ¬linkObject j t) (ht : t < 256)
include h ht

/-- Stage 1 shown on the lanes of a unit. -/
def Mod.lanesToDetect (m : Mod) (u : Nat) : Mod :=
  m.each (m.unitLanes u) fun (m : Mod) (l : Nat) =>
    let m := ((m.put (0x2500 + l) 5 0).put (0x2500 + l) 6 0).put (0x2480 + l) 6 0
    if m.n (0x2480 + l) 5 = 4 then m.put (0x2480 + l) 5 0 else m

/-- A unit's cage shows it at full width. -/
def Mod.fullWidth (m : Mod) (u : Nat) : Mod :=
  match cageOf u with
  | none => m
  | some q => if u < 32 && m.n (0x2400 + q) 1 ≠ 0 then m else m.put (0x2440 + q) 9 0

/-- The bring-up of a unit begins anew. -/
def Mod.beginsAnew (m : Mod) (u : Nat) : Mod :=
  (m.setStage u 1).modBring u fun b =>
    { b with
      began := m.ctr,
      detectAt := none,
      negotiated := false,
      fec74 := false,
      relock := false,
      pair := none,
      inverted := [],
      reordered := false }

omit hu h ht in
theorem Mod.toDetect_eq : m.toDetect u = if u = 32 && (((m.lanesToDetect u).fullWidth u).beginsAnew u).linkUp then
    (((m.lanesToDetect u).fullWidth u).beginsAnew u).mortarDown else ((m.lanesToDetect u).fullWidth u).beginsAnew u := rfl

theorem Mod.get_lanesToDetect : (m.lanesToDetect u).get j t = m.get j t := by
  unfold Mod.lanesToDetect
  refine Mod.get_each fun m l hl => ?_
  have := Mod.unitLanes_lt _ hu l hl
  dsimp only
  split <;> simp (disch := omega)

theorem Mod.get_fullWidth : (m.fullWidth u).get j t = m.get j t := by
  unfold Mod.fullWidth cageOf
  split_ifs
  · dsimp only
    split
    · rfl
    · exact m.get_put_frame _ (by omega) (by omega)
  · dsimp only
    split
    · rfl
    · exact m.get_put_frame _ (by omega) (by omega)
  · rfl

theorem Mod.get_toDetect : (m.toDetect u).get j t = m.get j t := by
  have hanew : (((m.lanesToDetect u).fullWidth u).beginsAnew u).get j t = m.get j t := by
    unfold Mod.beginsAnew
    rw [Mod.get_modBring, Mod.get_setStage _ hu _ (by omega) ht, Mod.get_fullWidth _ hu h ht, Mod.get_lanesToDetect _ hu h ht]
  rw [Mod.toDetect_eq]
  split
  · rw [Mod.get_mortarDown _ (by omega) ht, hanew]
  · exact hanew

omit hu in
theorem Mod.get_flushPort {n : Nat} (hn : n < 32) : (m.flushPort n).get j t = m.get j t := by
  unfold Mod.flushPort
  dsimp only
  rw [Mod.get_modPortQ]
  refine Mod.get_each fun m q hq => ?_
  have := List.mem_range.mp hq
  exact m.get_count_frame _ (by omega) (by omega)

omit hu in
theorem Mod.get_leave (cause : Nat) : (m.leave u cause).get j t = m.get j t := by
  have hdown : (m.goDown u).get j t = m.get j t := by
    unfold Mod.goDown
    split_ifs with h1
    · exact m.get_flushPort h ht h1
    · exact m.get_raiseCond_frame _ _ _ (by omega)
    · rfl
  unfold Mod.leave
  split_ifs
  · rw [Mod.get_raiseCond_frame _ _ _ _ (by omega), hdown]
  · exact m.get_raiseCond_frame _ _ _ (by omega)
  · rfl

theorem Mod.get_drop (cause : Nat) : (m.drop u cause).get j t = m.get j t := by
  unfold Mod.drop
  rw [Mod.get_toDetect _ hu h ht, Mod.get_leave _ h ht]

end

/-! ### The stage of a unit -/

section
variable (m : Mod) {u v : Nat}

/-- A front unit's stage stands in its cage's row. -/
theorem Mod.unitStage_front (h : u < 32) : m.unitStage u = m.n (0x2440 + u / 4) (5 + u % 4) := if_pos h

theorem Mod.unitStage_mortar : m.unitStage 32 = m.n 0x24A0 1 := rfl

theorem Mod.unitStage_backplane (h : 32 < u) : m.unitStage u = m.n 0x2600 (u - 31) := by
  unfold Mod.unitStage
  rw [if_neg (by omega), if_neg (by omega)]

/-- Two modules that agree where a unit's stage stands agree on the stage. -/
theorem Mod.unitStage_congr {m m' : Mod} (hu : u < 35)
    (h : ∀ j t, (0x2440 ≤ j ∧ j ≤ 0x2447 ∧ 5 ≤ t ∧ t ≤ 8) ∨ (u = 32 ∧ j = 0x24A0 ∧ t = 1) ∨ (j = 0x2600 ∧ 2 ≤ t ∧ t ≤ 3) → m'.get j t = m.get j t) :
    m'.unitStage u = m.unitStage u := by
  unfold Mod.unitStage
  split_ifs with h1 h2
  · exact congrArg Val.nat (h _ _ (by omega))
  · exact congrArg Val.nat (h _ _ (by omega))
  · exact congrArg Val.nat (h _ _ (by omega))

/-- A unit's own entry of a stage, before its lanes follow. -/
def Mod.putStage (m : Mod) (u stage : Nat) : Mod :=
  if u < 32 then m.put (0x2440 + u / 4) (5 + u % 4) stage else if u = 32 then m else m.put 0x2600 (u - 31) stage

/-- The lanes of a unit show the stage of the attempt. -/
def Mod.laneStages (m : Mod) (u stage : Nat) (on : List Nat) : Mod :=
  m.each (m.unitLanes u) fun (m : Mod) (l : Nat) => m.put (0x2480 + l) 1 (if m.laneOff l then 0 else if on.contains l then stage else 1)

/-- The merits of a unit's lanes are those of a lane in no stage. -/
def Mod.lanesClear (m : Mod) (u : Nat) : Mod :=
  m.each (m.unitLanes u) fun (m : Mod) (l : Nat) => (m.clear (0x2580 + l) 1 7).put (0x2480 + l) 2 0

theorem Mod.setStage_eq (stage : Nat) : m.setStage u stage =
    (let m' := ((m.putStage u stage).laneStages u stage ((m.putStage u stage).attemptLanes u)).modBring u fun b =>
      { b with entered := ((m.putStage u stage).laneStages u stage ((m.putStage u stage).attemptLanes u)).ctr }
    if stage < 2 then m'.lanesClear u else m') := rfl

section
variable (hu : u < 35) (stage : Nat) {j t : Nat}
include hu

theorem Mod.get_laneStages (on : List Nat) (h : j < 0x2480 ∨ 0x24A5 < j) (ht : t < 256) : (m.laneStages u stage on).get j t = m.get j t := by
  unfold Mod.laneStages
  refine Mod.get_each fun m l hl => ?_
  have := Mod.unitLanes_lt _ hu l hl
  exact m.get_put_frame _ (by omega) (by omega)

theorem Mod.get_lanesClear (h : j < 0x2480 ∨ 0x25A5 < j ∨ j < 0x2500 ∧ t = 1) (ht : t < 256) : (m.lanesClear u).get j t = m.get j t := by
  unfold Mod.lanesClear
  refine Mod.get_each fun m l hl => ?_
  have := Mod.unitLanes_lt _ hu l hl
  rw [Mod.get_put_frame _ _ (by omega) (by omega), Mod.get_clear_frame _ _ _ (by omega) (by omega)]

/-- Of the objects outside the lanes a stage set shows in the unit's own entry only. -/
theorem Mod.get_setStage_unit (h : j < 0x2480 ∨ 0x25A5 < j) (ht : t < 256) : (m.setStage u stage).get j t = (m.putStage u stage).get j t := by
  rw [Mod.setStage_eq]
  dsimp only
  have hl := fun on => Mod.get_laneStages (m.putStage u stage) hu stage on (j := j) (t := t) (by omega) ht
  split
  · rw [Mod.get_lanesClear _ hu (by omega) ht, Mod.get_modBring, hl]
  · rw [Mod.get_modBring, hl]

omit hu in
/-- The first lane of the mortar link shows the stage where it is in service and of the attempt. -/
theorem Mod.unitStage_setStage_mortar : (m.setStage 32 stage).unitStage 32
    = if m.laneOff 32 then 0 else if (m.attemptLanes 32).contains 32 then stage else 1 := by
  have hset (on : List Nat) : (m.laneStages 32 stage on).n 0x24A0 1 = if m.laneOff 32 then 0 else if on.contains 32 then stage else 1 := by
    change ((((m.put 0x24A0 1 _).put 0x24A1 1 _).put 0x24A2 1 _).put 0x24A3 1 _).n 0x24A0 1 = _
    rw [Mod.n_put_other _ _ (by decide) (by decide), Mod.n_put_other _ _ (by decide) (by decide), Mod.n_put_other _ _ (by decide) (by decide),
      Mod.n_put _ _ _ _ (by decide)]
  rw [Mod.setStage_eq, Mod.unitStage_mortar]
  dsimp only
  split
  · exact (congrArg Val.nat (Mod.get_lanesClear _ (by decide) (by omega) (by decide))).trans
      ((congrArg Val.nat (Mod.get_modBring _ _ _)).trans (hset _))
  · exact (congrArg Val.nat (Mod.get_modBring _ _ _)).trans (hset _)

end

theorem Mod.unitStage_putStage (hu : u < 35) (hn : u ≠ 32) (stage : Nat) : (m.putStage u stage).unitStage u = stage := by
  unfold Mod.putStage Mod.unitStage
  by_cases h : u < 32
  · simp only [h, if_true]
    exact m.n_put _ _ _ (by omega)
  · simp only [h, hn, if_false]
    exact m.n_put _ _ _ (by omega)

/-- The stage set is the stage shown, but on a mortar link whose first lane is out of service or not of the attempt. -/
theorem Mod.unitStage_setStage (hu : u < 35) (hn : u ≠ 32) (stage : Nat) : (m.setStage u stage).unitStage u = stage := by
  refine Eq.trans (Mod.unitStage_congr hu fun j t h => ?_) (m.unitStage_putStage hu hn stage)
  exact m.get_setStage_unit hu stage (by omega) (by omega)

/-- Another unit's stage is as it was. -/
theorem Mod.unitStage_setStage_other (hu : u < 35) (hv : v < 32) (hn : v ≠ u) (stage : Nat) : (m.setStage u stage).unitStage v = m.unitStage v := by
  rw [Mod.unitStage_front _ hv, Mod.unitStage_front _ hv]
  refine congrArg Val.nat ((m.get_setStage_unit hu stage (by omega) (by omega)).trans ?_)
  unfold Mod.putStage
  split_ifs
  · exact m.get_put_frame _ (by omega) (by omega)
  · rfl
  · exact m.get_put_frame _ (by omega) (by omega)

/-- In stage 1 a unit shows stage 1, or stage 0 where its first lane is out of service. -/
theorem Mod.unitStage_setStage_detect (hu : u < 35) : (m.setStage u 1).unitStage u ≤ 1 := by
  by_cases h : u = 32
  · subst h
    rw [m.unitStage_setStage_mortar]
    split_ifs <;> decide
  · rw [m.unitStage_setStage hu h]

/-- What a bring-up that begins anew leaves of another unit's stage, and shows as its own. -/
theorem Mod.unitStage_toDetect_eq (m : Mod) {u v : Nat} (hv : v < 35) :
    (m.toDetect u).unitStage v = (((m.lanesToDetect u).fullWidth u).setStage u 1).unitStage v := by
  rw [Mod.toDetect_eq]
  split
  · exact Mod.unitStage_congr hv fun j t h => Mod.get_mortarDown _ (by omega) (by omega)
  · rfl

theorem Mod.unitStage_lanesToDetect (hu : u < 35) (hv : v < 35) : ((m.lanesToDetect u).fullWidth u).unitStage v = m.unitStage v := by
  refine Mod.unitStage_congr hv fun j t h => ?_
  have hlanes : (m.lanesToDetect u).get j t = m.get j t := by
    unfold Mod.lanesToDetect
    refine Mod.get_each fun m l hl => ?_
    have := Mod.unitLanes_lt _ hu l hl
    dsimp only
    split <;> simp (disch := omega)
  refine Eq.trans ?_ hlanes
  unfold Mod.fullWidth cageOf
  split_ifs
  · dsimp only
    split
    · rfl
    · exact Mod.get_put_frame _ _ (by omega) (by omega)
  · dsimp only
    split
    · rfl
    · exact Mod.get_put_frame _ _ (by omega) (by omega)
  · rfl

theorem Mod.unitStage_leave (hv : v < 35) (cause : Nat) : (m.leave u cause).unitStage v = m.unitStage v := by
  refine Mod.unitStage_congr hv fun j t h => ?_
  have hdown : (m.goDown u).get j t = m.get j t := by
    unfold Mod.goDown
    split_ifs with h1
    · unfold Mod.flushPort
      dsimp only
      rw [Mod.get_modPortQ]
      refine Mod.get_each fun m q hq => ?_
      have := List.mem_range.mp hq
      exact m.get_count_frame _ (by omega) (by omega)
    · exact m.get_raiseCond_frame _ _ _ (by omega)
    · rfl
  unfold Mod.leave
  split_ifs
  · rw [Mod.get_raiseCond_frame _ _ _ _ (by omega), hdown]
  · exact m.get_raiseCond_frame _ _ _ (by omega)
  · rfl

/-- A unit dropped is in stage 1, or its first lane out of service. -/
theorem Mod.unitStage_drop (hu : u < 35) (cause : Nat) : (m.drop u cause).unitStage u ≤ 1 := by
  unfold Mod.drop
  rw [Mod.unitStage_toDetect_eq _ hu]
  exact Mod.unitStage_setStage_detect _ hu

theorem Mod.unitStage_drop_other (hu : u < 35) (hv : v < 32) (hn : v ≠ u) (cause : Nat) : (m.drop u cause).unitStage v = m.unitStage v := by
  unfold Mod.drop
  rw [Mod.unitStage_toDetect_eq _ (by omega), Mod.unitStage_setStage_other _ hu hv hn, Mod.unitStage_lanesToDetect _ hu (by omega),
    Mod.unitStage_leave _ (by omega)]

/-- A backplane unit dropped is in stage 1. -/
theorem Mod.unitStage_drop_shown (hu : u < 35) (hn : u ≠ 32) (cause : Nat) : (m.drop u cause).unitStage u = 1 := by
  unfold Mod.drop
  rw [Mod.unitStage_toDetect_eq _ hu, Mod.unitStage_setStage _ hu hn]

end

/-! ### The ports of a cage -/

section
variable (m : Mod) {q : Nat} (hq : q < 9)
include hq

/-- A cage's units: its four ports as far as they exist, or the mortar link. -/
theorem Mod.cageUnits_cases {u : Nat} (hu : u ∈ m.cageUnits q) : (q = 8 ∧ u = 32) ∨ (q ≠ 8 ∧ u < 32 ∧ u / 4 = q) := by
  unfold Mod.cageUnits at hu
  split_ifs at hu with h
  · exact .inl ⟨h, List.mem_singleton.mp hu⟩
  · have := (List.mem_filter.mp hu).1
    simp only [List.mem_cons, List.not_mem_nil, or_false] at this
    omega

/-- Every unit of a cage dropped is in stage 1. -/
theorem Mod.unitStage_dropCage (cause : Nat) : ∀ u ∈ m.cageUnits q, (m.dropCage q cause).unitStage u ≤ 1 := by
  unfold Mod.dropCage
  refine Mod.each_establishes (P := fun u m => m.unitStage u ≤ 1) (fun m' u hu => ?_) (fun m' x hx y hy h => ?_) m
  · have := m.cageUnits_cases hq hu
    exact m'.unitStage_drop (by omega) cause
  · have hxc := m.cageUnits_cases hq hx
    have hyc := m.cageUnits_cases hq hy
    by_cases hxy : y = x
    · rw [hxy]
      exact m'.unitStage_drop (by omega) cause
    · rw [m'.unitStage_drop_other (by omega) (by omega) hxy]
      exact h

theorem Mod.get_dropCage (cause : Nat) {j t : Nat} (h : ¬linkObject j t) (ht : t < 256) : (m.dropCage q cause).get j t = m.get j t := by
  unfold Mod.dropCage
  refine Mod.get_each fun m' u hu => ?_
  have := m.cageUnits_cases hq hu
  exact m'.get_drop (by omega) h ht cause

end

/-! ### What a cage holds, and what is told of it -/

section
variable {a m : Mod}

theorem Mod.cages_setStage (u stage : Nat) : (m.setStage u stage).prt.cages = m.prt.cages := by
  have hput : (m.putStage u stage).prt = m.prt := by
    unfold Mod.putStage
    split_ifs <;> rfl
  have hlanes (on : List Nat) : ((m.putStage u stage).laneStages u stage on).prt = m.prt :=
    (Mod.each_keeps _ Mod.prt _ _ fun m l => Mod.put_prt _ _ _ _).trans hput
  have hbring (m : Mod) (f : BringS → BringS) : (m.modBring u f).prt.cages = m.prt.cages := rfl
  have hclear (m : Mod) : (m.lanesClear u).prt = m.prt := m.each_keeps Mod.prt _ _ fun m l => rfl
  rw [Mod.setStage_eq]
  dsimp only
  split
  · rw [hclear, hbring, hlanes]
  · rw [hbring, hlanes]

theorem Mod.cages_drop (u cause : Nat) : (m.drop u cause).prt.cages = m.prt.cages := by
  have hleave : (m.leave u cause).prt = m.prt := Mod.leave_part m u cause (p := .prt) (by decide)
  have hlanes (m : Mod) : (m.lanesToDetect u).prt = m.prt := m.each_keeps Mod.prt _ _ fun m l => by
    dsimp only
    split <;> rfl
  have hwidth (m : Mod) : (m.fullWidth u).prt = m.prt := by
    unfold Mod.fullWidth cageOf
    split_ifs <;> dsimp only <;> split <;> rfl
  have hanew (m : Mod) : (((m.lanesToDetect u).fullWidth u).beginsAnew u).prt.cages = m.prt.cages :=
    (Mod.cages_setStage u 1).trans (congrArg PortsS.cages ((hwidth _).trans (hlanes m)))
  unfold Mod.drop
  rw [Mod.toDetect_eq, ← hleave]
  split
  · rw [show Mod.prt (Mod.mortarDown _) = Mod.prt _ from Mod.mortarDown_part _ (p := .prt) (by decide)]
    exact hanew _
  · exact hanew _

theorem Mod.cages_dropCage (q cause : Nat) : (m.dropCage q cause).prt.cages = m.prt.cages :=
  m.each_keeps (fun m => m.prt.cages) _ _ fun _ _ => Mod.cages_drop _ _

theorem Mod.tells_dropCage (q cause : Nat) (h : a.tells m) : a.tells (m.dropCage q cause) :=
  Mod.tells_each (fun _ _ h => Mod.tells_toDetect _ (Mod.tells_leave _ _ h)) h

variable {q : Nat}

theorem Mod.cage_modCage (h : q < m.prt.cages.length) (f : CageS → CageS) : (m.modCage q f).cage q = f (m.cage q) := nth_modify _ _ h

theorem Mod.cage_of_prt {m' : Mod} (h : m'.prt = m.prt) : m'.cage q = m.cage q := by
  unfold Mod.cage
  rw [h]

end

/-! ### The commands -/

section
variable (m : Mod) {q : Nat} (hq : q < 9) (hc : q < m.prt.cages.length)

include hc in
/-- A module plugged in is seen. -/
theorem Mod.insertCage_shows (h : (m.cage q).present = false) : ((m.insertCage q).cage q).present = true
    ∧ ((m.insertCage q).cage q).presentAt = m.ctr ∧ ((m.insertCage q).cage q).info = none ∧ (m.insertCage q).told 0x2408 q [q, 1] := by
  have hcage : (m.insertCage q).cage q = { m.cage q with present := true, presentAt := m.ctr, info := none } := by
    unfold Mod.insertCage
    rw [h, if_neg Bool.false_ne_true, Mod.cage_of_prt (Mod.raise_prt _ _ _ _)]
    exact Mod.cage_modCage hc _
  rw [hcage]
  refine ⟨rfl, rfl, rfl, ?_⟩
  unfold Mod.insertCage
  rw [h, if_neg Bool.false_ne_true]
  exact Mod.raise_told _ _ _ _

/-- The module of a cage is forgotten. -/
def Mod.cageEmpty (m : Mod) (q : Nat) : Mod := (((m.dropCage q causeRemoval).freeLanes q).cageOff q 0).put (0x2440 + q) 3 0

theorem Mod.removeCage_eq (h : (m.cage q).present = true) :
    m.removeCage q = ((m.cageEmpty q).modCage q fun _ => ⟨false, 0, none, 0⟩).raise 0x2408 q [q, 0] := by
  unfold Mod.removeCage
  rw [h]
  rfl

theorem Mod.cages_cageEmpty : (m.cageEmpty q).prt.cages = m.prt.cages := by
  have hfree (m : Mod) : (m.freeLanes q).prt = m.prt := by
    unfold Mod.freeLanes
    rw [Mod.put_prt]
    refine Mod.each_keeps _ Mod.prt _ _ fun m l => ?_
    split
    · exact Mod.put_prt _ _ _ _
    · rfl
  unfold Mod.cageEmpty Mod.cageOff
  rw [Mod.put_prt, Mod.put_prt, Mod.put_prt, hfree]
  exact Mod.cages_dropCage _ _

include hq in
theorem Mod.unitStage_cageEmpty {u : Nat} (hu : u ∈ m.cageUnits q) : (m.cageEmpty q).unitStage u = (m.dropCage q causeRemoval).unitStage u := by
  have := m.cageUnits_cases hq hu
  refine Mod.unitStage_congr (by omega) fun j t h => ?_
  have hfree (m : Mod) : (m.freeLanes q).get j t = m.get j t := by
    unfold Mod.freeLanes
    rw [Mod.get_put_frame _ _ (by omega) (by omega)]
    refine Mod.get_each fun m l hl => ?_
    simp only [List.mem_cons, List.not_mem_nil, or_false] at hl
    split
    · exact m.get_put_frame _ (by omega) (by omega)
    · rfl
  unfold Mod.cageEmpty Mod.cageOff
  rw [Mod.get_put_frame _ _ (by omega) (by omega), Mod.get_put_frame _ _ (by omega) (by omega), Mod.get_put_frame _ _ (by omega) (by omega),
    hfree]

include hq hc in
/-- A module taken out takes the ports of its cage to stage 1. -/
theorem Mod.removeCage_shows (h : (m.cage q).present = true) : ((m.removeCage q).cage q).present = false
    ∧ ((m.removeCage q).cage q).info = none ∧ (m.removeCage q).n (0x2440 + q) 2 = 0 ∧ (m.removeCage q).n (0x2440 + q) 0x0B = 0
    ∧ (m.removeCage q).told 0x2408 q [q, 0] ∧ ∀ u ∈ m.cageUnits q, (m.removeCage q).unitStage u ≤ 1 := by
  have hcage : (m.removeCage q).cage q = ⟨false, 0, none, 0⟩ := by
    rw [m.removeCage_eq h, Mod.cage_of_prt (Mod.raise_prt _ _ _ _)]
    exact Mod.cage_modCage (by rwa [m.cages_cageEmpty]) _
  have hshown (j t : Nat) (hj : j < 0x7400) (ht : t < 256) : (m.removeCage q).get j t = (m.cageEmpty q).get j t := by
    rw [m.removeCage_eq h, Mod.get_raise_frame _ _ _ _ (by omega), Mod.get_modCage]
  rw [hcage]
  refine ⟨rfl, rfl, ?_, ?_, ?_, fun u hu => ?_⟩
  · refine (congrArg Val.nat (hshown _ _ (by omega) (by decide))).trans ?_
    unfold Mod.cageEmpty Mod.cageOff
    change Mod.n _ _ _ = 0
    rw [Mod.n_put_other _ _ (by omega) (by omega), Mod.n_put_other _ _ (by omega) (by omega), Mod.n_put _ _ _ _ (by omega)]
  · refine (congrArg Val.nat (hshown _ _ (by omega) (by decide))).trans ?_
    unfold Mod.cageEmpty Mod.cageOff Mod.freeLanes
    change Mod.n _ _ _ = 0
    rw [Mod.n_put_other _ _ (by omega) (by omega), Mod.n_put_other _ _ (by omega) (by omega), Mod.n_put_other _ _ (by omega) (by omega),
      Mod.n_put _ _ _ _ (by omega)]
  · rw [m.removeCage_eq h]
    exact Mod.raise_told _ _ _ _
  · have := m.cageUnits_cases hq hu
    rw [Mod.unitStage_congr (by omega) fun j t h => hshown j t (by omega) (by omega), m.unitStage_cageEmpty hq hu]
    exact m.unitStage_dropCage hq _ u hu

/-- A cage whose module has been read shows its medium and its power. -/
def Mod.cagePowered (m : Mod) (q : Nat) (x : CageModule) : Mod :=
  (((m.modCage q fun c => { c with info := some x }).put (0x2440 + q) 3 x.medium).put (0x2440 + q) 4 (min x.powerMw 20000)).put (0x2440 + q) 2 1

include hc in
/-- A module read in its time is refused, or powered to be initialised, or ready. -/
theorem Mod.stableCage_due (x : CageModule)
    (hdue : (m.cage q).present = true ∧ (m.cage q).info = none ∧ (m.cage q).presentAt + 100000000 ≤ m.ctr) :
    m.stableCage q x =
      if !(m.cagePowered q x).takesModule q x then (m.cagePowered q x).refuseCage q
      else if x.optic then
        ((m.cagePowered q x).modCage q fun c => { c with initAt := (m.cagePowered q x).ctr }).put (0x2440 + q) 2 2
      else ((m.cagePowered q x).put (0x2440 + q) 2 3).judgeMedium q := by
  obtain ⟨hp, hi, ht⟩ := hdue
  have hread : ((m.modCage q fun c => { c with info := some x }).cage q).info = some x := by rw [Mod.cage_modCage hc]
  unfold Mod.stableCage
  dsimp only
  rw [hp, hi, if_neg (by simpa using ht)]
  unfold Mod.powerCage
  rw [hread]
  rfl

theorem Mod.stableCage_early (x : CageModule)
    (h : ¬((m.cage q).present = true ∧ (m.cage q).info = none ∧ (m.cage q).presentAt + 100000000 ≤ m.ctr)) : m.stableCage q x = m := by
  unfold Mod.stableCage
  refine if_pos ?_
  by_cases hp : (m.cage q).present = true <;> by_cases hi : (m.cage q).info = none <;> simp_all

include hc in
theorem Mod.cage_cagePowered (x : CageModule) : (m.cagePowered q x).cage q = { m.cage q with info := some x } := by
  unfold Mod.cagePowered
  rw [Mod.cage_of_prt (Mod.put_prt _ _ _ _), Mod.cage_of_prt (Mod.put_prt _ _ _ _), Mod.cage_of_prt (Mod.put_prt _ _ _ _)]
  exact Mod.cage_modCage hc _

include hq in
theorem Mod.takesModule_cagePowered (x : CageModule) : (m.cagePowered q x).takesModule q x = true ↔
    x.watts ≤ 14 ∧ (x.optic = true → m.n (0x2400 + q) 1 ∈ x.modes) := by
  have hmode : (m.cagePowered q x).n (0x2400 + q) 1 = m.n (0x2400 + q) 1 := by
    unfold Mod.cagePowered
    rw [Mod.n_put_other _ _ (by omega) (by omega), Mod.n_put_other _ _ (by omega) (by omega), Mod.n_put_other _ _ (by omega) (by omega)]
    rfl
  unfold Mod.takesModule
  rw [hmode]
  cases x.optic <;> simp

include hq in
theorem Mod.n_cagePowered (x : CageModule) : (m.cagePowered q x).n (0x2440 + q) 3 = x.medium
    ∧ (m.cagePowered q x).n (0x2440 + q) 4 = min x.powerMw 20000 ∧ (m.cagePowered q x).n (0x2400 + q) 2 = m.n (0x2400 + q) 2 := by
  unfold Mod.cagePowered
  refine ⟨?_, ?_, ?_⟩
  · rw [Mod.n_put_other _ _ (by omega) (by omega), Mod.n_put_other _ _ (by omega) (by omega), Mod.n_put _ _ _ _ (by omega)]
  · rw [Mod.n_put_other _ _ (by omega) (by omega), Mod.n_put _ _ _ _ (by omega)]
  · rw [Mod.n_put_other _ _ (by omega) (by omega), Mod.n_put_other _ _ (by omega) (by omega), Mod.n_put_other _ _ (by omega) (by omega)]
    rfl

include hq in
/-- A cage refused shows it, without power, and tells of it. -/
theorem Mod.refuseCage_shows : (m.refuseCage q).n (0x2440 + q) 2 = 5 ∧ (m.refuseCage q).n (0x2440 + q) 4 = 0
    ∧ (m.refuseCage q).n (0x2440 + q) 3 = m.n (0x2440 + q) 3 ∧ (m.refuseCage q).cage q = m.cage q ∧ (m.refuseCage q).told 0x2409 q [q] := by
  unfold Mod.refuseCage Mod.cageOff
  refine ⟨?_, ?_, ?_, ?_, Mod.raise_told _ _ _ _⟩
  · rw [Mod.n_raise _ _ _ _ (by omega), Mod.n_put_other _ _ (by omega) (by omega), Mod.n_put _ _ _ _ (by omega)]
  · rw [Mod.n_raise _ _ _ _ (by omega), Mod.n_put _ _ _ _ (by omega)]
  · rw [Mod.n_raise _ _ _ _ (by omega), Mod.n_put_other _ _ (by omega) (by omega), Mod.n_put_other _ _ (by omega) (by omega)]
  · rw [Mod.cage_of_prt (Mod.raise_prt _ _ _ _), Mod.cage_of_prt (Mod.put_prt _ _ _ _), Mod.cage_of_prt (Mod.put_prt _ _ _ _)]

theorem Mod.cage_judgeMedium : (m.judgeMedium q).cage q = m.cage q := by
  unfold Mod.judgeMedium
  split
  · exact Mod.cage_of_prt (Mod.raise_prt _ _ _ _)
  · rfl

include hq in
theorem Mod.n_judgeMedium {k : Nat} (hk : k < 256) : (m.judgeMedium q).n (0x2440 + q) k = m.n (0x2440 + q) k := by
  unfold Mod.judgeMedium
  split
  · exact Mod.n_raise _ _ _ _ (by omega)
  · rfl

/-- A module that is ready on a medium that is not the forced one is told of. -/
theorem Mod.judgeMedium_told (h : m.n (0x2440 + q) 2 = 3) (hok : m.mediumOk q = false) : (m.judgeMedium q).told 0x2409 q [q] := by
  unfold Mod.judgeMedium
  rw [if_pos (by simp [h, hok])]
  exact Mod.raise_told _ _ _ _

include hq in
theorem Mod.mediumOk_put : (m.put (0x2440 + q) 2 3).mediumOk q = m.mediumOk q := by
  unfold Mod.mediumOk
  rw [Mod.n_put_other _ _ (by omega) (by omega), Mod.n_put_other _ _ (by omega) (by omega)]

include hq in
/-- A cage shows its module ready, and tells of one on a medium that is not the forced one. -/
theorem Mod.readied_shows : ((m.put (0x2440 + q) 2 3).judgeMedium q).n (0x2440 + q) 2 = 3
    ∧ (m.mediumOk q = false → ((m.put (0x2440 + q) 2 3).judgeMedium q).told 0x2409 q [q]) := by
  refine ⟨(Mod.n_judgeMedium _ hq (by decide)).trans (Mod.n_put _ _ _ _ (by omega)), fun h => ?_⟩
  exact Mod.judgeMedium_told _ (Mod.n_put _ _ _ _ (by omega)) ((m.mediumOk_put hq).trans h)

include hq hc in
/-- A module read in its time shows what it is, and what became of it. -/
theorem Mod.stableCage_shows (x : CageModule) {fits : Prop}
    (hfits : fits ↔ x.watts ≤ 14 ∧ (x.optic = true → m.n (0x2400 + q) 1 ∈ x.modes))
    (hdue : (m.cage q).present = true ∧ (m.cage q).info = none ∧ (m.cage q).presentAt + 100000000 ≤ m.ctr) :
    ((m.stableCage q x).cage q).info = some x ∧ (m.stableCage q x).n (0x2440 + q) 3 = x.medium
      ∧ (¬fits → (m.stableCage q x).n (0x2440 + q) 2 = 5 ∧ (m.stableCage q x).n (0x2440 + q) 4 = 0 ∧ (m.stableCage q x).told 0x2409 q [q])
      ∧ (fits → (m.stableCage q x).n (0x2440 + q) 4 = min x.powerMw 20000
        ∧ (x.optic = true → (m.stableCage q x).n (0x2440 + q) 2 = 2 ∧ ((m.stableCage q x).cage q).initAt = m.ctr
          ∧ (m.stableCage q x).raised = m.raised)
        ∧ (x.optic = false → (m.stableCage q x).n (0x2440 + q) 2 = 3
          ∧ (m.n (0x2400 + q) 2 ≠ 0 → m.n (0x2400 + q) 2 ≠ x.medium → (m.stableCage q x).told 0x2409 q [q]))) := by
  obtain ⟨h3, h4, hforced⟩ := m.n_cagePowered hq x
  have hcage := m.cage_cagePowered hc x
  have htakes := (m.takesModule_cagePowered hq x).trans hfits.symm
  rw [m.stableCage_due hc x hdue]
  by_cases hf : fits
  · rw [htakes.mpr hf, Bool.not_true, if_neg Bool.false_ne_true]
    cases ho : x.optic with
    | true =>
      rw [if_pos rfl]
      have hlen : q < (m.cagePowered q x).prt.cages.length := by
        unfold Mod.cagePowered Mod.modCage
        simpa using hc
      have hinit : ((((m.cagePowered q x).modCage q fun c => { c with initAt := (m.cagePowered q x).ctr }).put (0x2440 + q) 2 2).cage q)
          = { m.cage q with info := some x, initAt := m.ctr } := by
        rw [Mod.cage_of_prt (Mod.put_prt _ _ _ _), Mod.cage_modCage hlen, hcage]
        rfl
      rw [hinit]
      refine ⟨rfl, ?_, fun h => absurd hf h, fun _ => ⟨?_, fun _ => ⟨?_, rfl, rfl⟩, fun h => absurd h (by decide)⟩⟩
      · rw [Mod.n_put_other _ _ (by omega) (by omega)]
        exact h3
      · rw [Mod.n_put_other _ _ (by omega) (by omega)]
        exact h4
      · exact Mod.n_put _ _ _ _ (by omega)
    | false =>
      rw [if_neg Bool.false_ne_true]
      obtain ⟨h2, htold⟩ := (m.cagePowered q x).readied_shows hq
      rw [Mod.cage_judgeMedium, Mod.cage_of_prt (Mod.put_prt _ _ _ _), hcage, Mod.n_judgeMedium _ hq (by decide),
        Mod.n_judgeMedium _ hq (k := 4) (by decide), Mod.n_put_other _ _ (by omega) (by omega), Mod.n_put_other _ _ (by omega) (by omega)]
      refine ⟨rfl, h3, fun h => absurd hf h, fun _ => ⟨h4, fun h => absurd h (by decide), fun _ => ⟨h2, fun h0 hx => htold ?_⟩⟩⟩
      unfold Mod.mediumOk
      rw [hforced, h3]
      simp [h0, hx]
  · rw [Bool.eq_false_iff.mpr fun h => hf (htakes.mp h), Bool.not_false, if_pos rfl]
    obtain ⟨h2, h4', h3', hc', htold⟩ := (m.cagePowered q x).refuseCage_shows hq
    rw [hc', hcage, h3']
    exact ⟨rfl, h3, fun _ => ⟨h2, h4', htold⟩, fun h => absurd h hf⟩

include hq in
/-- A tripped eFuse takes the ports of its cage to stage 1. -/
theorem Mod.tripCage_shows (h1 : 1 ≤ m.n (0x2440 + q) 2) (h3 : m.n (0x2440 + q) 2 ≤ 3) : (m.tripCage q).n (0x2440 + q) 2 = 4
    ∧ (m.tripCage q).n (0x2440 + q) 4 = 0 ∧ (m.tripCage q).told 0x240A q [q] ∧ ∀ u ∈ m.cageUnits q, (m.tripCage q).unitStage u ≤ 1 := by
  have heq : m.tripCage q = ((m.dropCage q causeFuse).cageOff q 4).raise 0x240A q [q] := by
    unfold Mod.tripCage within
    exact if_neg (by simp [h1, h3])
  rw [heq]
  unfold Mod.cageOff
  refine ⟨?_, ?_, Mod.raise_told _ _ _ _, fun u hu => ?_⟩
  · rw [Mod.n_raise _ _ _ _ (by omega), Mod.n_put_other _ _ (by omega) (by omega), Mod.n_put _ _ _ _ (by omega)]
  · rw [Mod.n_raise _ _ _ _ (by omega), Mod.n_put _ _ _ _ (by omega)]
  · have := m.cageUnits_cases hq hu
    rw [Mod.unitStage_congr (m := m.dropCage q causeFuse) (by omega) fun j t h => ?_]
    · exact m.unitStage_dropCage hq _ u hu
    · rw [Mod.get_raise_frame _ _ _ _ (by omega), Mod.get_put_frame _ _ (by omega) (by omega), Mod.get_put_frame _ _ (by omega) (by omega)]

end

/-- Settles O41: a cage's module from its insertion to its removal, command by command. -/
theorem cagesTakeTheirModules : Obligations.CagesTakeTheirModules := by
  unfold Obligations.CagesTakeTheirModules
  intro s t q h hc m c o
  have hq := q.isLt
  have hb : m.rebooting = false := h.2
  have hr : m.runs = true := h.1
  have hplug : m.plugCage q.val = m.insertCage q.val := if_pos hr
  have hunplug : m.unplugCage q.val = m.removeCage q.val := if_pos hr
  refine ⟨fun hp => ?_, fun hp => ⟨?_, ?_⟩, fun x => ?_, fun h2 => ⟨?_, ?_⟩, fun h2 => ⟨?_, fun hi => ?_, fun x hx => ?_⟩, fun hp => ?_,
    fun hn => ?_, fun h1 h3 => ?_⟩
  · refine does_actAny (g := fun m => m.plugCage q.val) rfl (hplug.trans ?_) hb
    exact if_pos hp
  · refine completes_actAny (g := fun m => m.plugCage q.val) rfl ?_ fun _ h => h
    show ((m.plugCage q.val).cage q.val).present = true ∧ _
    rw [hplug]
    exact m.insertCage_shows hc hp
  · refine does_actAny (g := fun m => m.unplugCage q.val) rfl (hunplug.trans ?_) hb
    exact if_pos (by simpa using hp)
  · intro due fits
    refine ⟨fun hd => does_act (g := fun m => m.stableCage q.val x) h rfl (m.stableCage_early x hd) hb, fun hd => ?_⟩
    exact completes_act (g := fun m => m.stableCage q.val x) rfl h (m.stableCage_shows hq hc x (fits := fits) Iff.rfl hd) fun _ h => h
  · exact does_act (g := fun m => m.readyCage q.val) h rfl (if_pos h2) hb
  · refine does_act (g := fun m => m.readyTimeout q.val) h rfl ?_ hb
    unfold Mod.readyTimeout
    split
    · rfl
    · exact if_neg fun h => h2 (of_decide_eq_true (Bool.and_eq_true_iff.mp h).1)
  · refine completes_act (g := fun m => m.readyCage q.val) rfl h ?_ fun _ h => h
    have heq : m.readyCage q.val = (m.put (0x2440 + q.val) 2 3).judgeMedium q.val := if_neg (not_not.mpr h2)
    show (m.readyCage q.val).n o 2 = 3 ∧ (_ → (m.readyCage q.val).told _ _ _)
    rw [heq]
    exact m.readied_shows hq
  · refine does_act (g := fun m => m.readyTimeout q.val) h rfl ?_ hb
    unfold Mod.readyTimeout
    rw [show (m.cage q.val).info = none from hi]
  · have heq : m.readyTimeout q.val
        = if m.n o 2 = 2 && (m.cage q.val).initAt + min x.readyLimitNs (60 * second) ≤ m.ctr then m.refuseCage q.val else m := by
      unfold Mod.readyTimeout
      rw [show (m.cage q.val).info = some x from hx]
    refine ⟨fun hl => ?_, fun hl => ?_⟩
    · refine does_act (g := fun m => m.readyTimeout q.val) h rfl (heq.trans (if_neg ?_)) hb
      simpa [h2] using hl
    · refine completes_act (g := fun m => m.readyTimeout q.val) rfl h ?_ fun _ h => h
      show (m.readyTimeout q.val).n o 2 = 5 ∧ (m.readyTimeout q.val).n o 4 = 0 ∧ (m.readyTimeout q.val).told _ _ _
      rw [heq, if_pos (by simpa [h2] using hl)]
      obtain ⟨h5, h0, -, -, ht⟩ := m.refuseCage_shows hq
      exact ⟨h5, h0, ht⟩
  · refine completes_actAny (g := fun m => m.unplugCage q.val) rfl ?_ fun _ h => h
    show ((m.unplugCage q.val).cage q.val).present = false ∧ _
    rw [hunplug]
    exact m.removeCage_shows hq hc hp
  · refine does_act (g := fun m => m.tripCage q.val) h rfl (if_pos ?_) hb
    have hn : ¬(1 ≤ m.n o 2 ∧ m.n o 2 ≤ 3) := hn
    show (!within (m.n o 2) 1 3) = true
    simpa [within, Nat.pos_iff_ne_zero, imp_iff_not_or] using hn
  · exact completes_act (g := fun m => m.tripCage q.val) rfl h (m.tripCage_shows hq h1 h3) fun _ h => h

end Sys2Proof.Machine
end

section
/-! SUPPORT. Links in service: what conditions stand, what a unit that comes up shows, and the commands of a link that loses lock or trains again
(R267, R269, R276, R278, R279). -/

namespace Sys2Proof.Machine

/-! ### Conditions -/

section
variable {m m' : Mod} {c r : Nat}

theorem Mod.condSet_of_conds (h : m'.conds = m.conds) : m'.condSet c r = m.condSet c r := congrArg (fun l => List.any l _) h

theorem Mod.condSet_of_part (h : m'.part .conds = m.part .conds) : m'.condSet c r = m.condSet c r := Mod.condSet_of_conds h

theorem Mod.conds_raiseCond (m : Mod) (c r : Nat) (p : List Nat) :
    (m.raiseCond c r p).conds = if m.condSet c r then m.conds else m.conds ++ [⟨c, r, severityOf c⟩] := by
  unfold Mod.raiseCond
  split
  · rfl
  · exact (Mod.raise_conds _ _ _ _).trans rfl

/-- A condition raised is set. -/
theorem Mod.condSet_raiseCond (m : Mod) (c r : Nat) (p : List Nat) : (m.raiseCond c r p).condSet c r = true := by
  unfold Mod.condSet
  rw [m.conds_raiseCond]
  split
  · assumption
  · simp

theorem Mod.condSet_raiseCond_other (m : Mod) {c k : Nat} (h : c ≠ k) (r s : Nat) (p : List Nat) :
    (m.raiseCond c r p).condSet k s = m.condSet k s := by
  unfold Mod.condSet
  rw [m.conds_raiseCond]
  split
  · rfl
  · simp [h]

/-- A condition set stays set where others are raised. -/
theorem Mod.condSet_raiseCond_mono (m : Mod) (c r : Nat) (p : List Nat) {k s : Nat} (h : m.condSet k s = true) :
    (m.raiseCond c r p).condSet k s = true := by
  unfold Mod.condSet at h ⊢
  rw [m.conds_raiseCond]
  split
  · exact h
  · simp [h]

theorem Mod.conds_raiseClear (m : Mod) (c r : Nat) (l p : List Nat) :
    (m.raiseClear c r l p).conds = m.conds.filter fun x => !(l.contains x.code && x.res = r) := by
  unfold Mod.raiseClear Mod.raiseClearIf
  dsimp only
  split
  · next h =>
    rw [Mod.raiseRaw_conds, List.filter_eq_self.mpr]
    intro x hx
    rw [Bool.not_eq_true']
    exact Bool.eq_false_iff.mpr fun hc => List.not_mem_nil (h ▸ List.mem_filter.mpr ⟨hx, hc⟩)
  · rw [Mod.raiseRaw_conds]
    rfl

/-- A condition that an event clears is not set. -/
theorem Mod.condSet_raiseClear (m : Mod) (c r : Nat) {k : Nat} {l : List Nat} (hk : k ∈ l) (p : List Nat) : (m.raiseClear c r l p).condSet k r = false := by
  unfold Mod.condSet
  rw [m.conds_raiseClear]
  simp only [List.any_filter, List.any_eq_false, Bool.and_eq_true, decide_eq_true_eq, not_and]
  rintro x - hx rfl rfl
  simp [hk] at hx

/-- An event that clears conditions sets none. -/
theorem Mod.condSet_raiseClear_mono (m : Mod) (c r : Nat) (l p : List Nat) {k s : Nat} (h : m.condSet k s = false) :
    (m.raiseClear c r l p).condSet k s = false := by
  unfold Mod.condSet at h ⊢
  rw [m.conds_raiseClear, List.any_filter]
  simp only [List.any_eq_false, Bool.and_eq_true, decide_eq_true_eq, not_and] at h ⊢
  exact fun x hx _ => h x hx

end

/-- What every step of a run keeps holds after the run where it held before. -/
theorem Mod.each_holds {α : Type} {P : Mod → Prop} {g : Mod → α → Mod} {l : List α} {m : Mod} (hg : ∀ m x, P m → P (g m x)) (h : P m) :
    P (m.each l g) := by
  unfold Mod.each
  induction l generalizing m with
  | nil => exact h
  | cons x l ih => exact ih (hg m x h)

/-! ### The bring-up of a unit -/

section
variable {m : Mod} {u : Nat}

theorem Mod.bring_of_prt {m' : Mod} (h : m'.prt = m.prt) : m'.bring u = m.bring u := by
  unfold Mod.bring
  rw [h]

theorem Mod.bring_modBring (h : u < m.prt.units.length) (f : BringS → BringS) : (m.modBring u f).bring u = f (m.bring u) := nth_modify _ _ h

theorem Mod.prt_putStage (stage : Nat) : (m.putStage u stage).prt = m.prt := by
  unfold Mod.putStage
  split_ifs
  · exact Mod.put_prt _ _ _ _
  · rfl
  · exact Mod.put_prt _ _ _ _

theorem Mod.prt_laneStages (stage : Nat) (on : List Nat) : (m.laneStages u stage on).prt = m.prt :=
  m.each_keeps Mod.prt _ _ fun _ _ => Mod.put_prt _ _ _ _

theorem Mod.prt_lanesClear : (m.lanesClear u).prt = m.prt := m.each_keeps Mod.prt _ _ fun _ _ => rfl

theorem Mod.units_setStage (stage : Nat) :
    (m.setStage u stage).prt.units.length = m.prt.units.length := by
  have hbring (m : Mod) (f : BringS → BringS) : (m.modBring u f).prt.units.length = m.prt.units.length := List.length_modify _ _ _
  rw [Mod.setStage_eq]
  dsimp only
  split
  · rw [Mod.prt_lanesClear, hbring, Mod.prt_laneStages, Mod.prt_putStage]
  · rw [hbring, Mod.prt_laneStages, Mod.prt_putStage]

/-- Of a unit's bring-up a stage set changes its beginning only. -/
theorem Mod.relock_setStage (h : u < m.prt.units.length) (stage : Nat) : ((m.setStage u stage).bring u).relock = (m.bring u).relock := by
  have hon (on : List Nat) : ((m.putStage u stage).laneStages u stage on).prt = m.prt := Mod.prt_laneStages _ _ |>.trans (Mod.prt_putStage _)
  rw [Mod.setStage_eq]
  dsimp only
  split
  · rw [Mod.bring_of_prt Mod.prt_lanesClear, Mod.bring_modBring (by rwa [hon]), Mod.bring_of_prt (hon _)]
  · rw [Mod.bring_modBring (by rwa [hon]), Mod.bring_of_prt (hon _)]

/-- A unit dropped has no fast relock under way. -/
theorem Mod.bring_drop (h : u < m.prt.units.length) (cause : Nat) : ((m.drop u cause).bring u).relock = false := by
  have hleave : (m.leave u cause).prt = m.prt := Mod.leave_part m u cause (p := .prt) (by decide)
  have hlanes (m : Mod) : (m.lanesToDetect u).prt = m.prt := m.each_keeps Mod.prt _ _ fun m l => by
    dsimp only
    split <;> rfl
  have hwidth (m : Mod) : (m.fullWidth u).prt = m.prt := by
    unfold Mod.fullWidth cageOf
    split_ifs <;> dsimp only <;> split <;> rfl
  have hanew : (((((m.leave u cause).lanesToDetect u).fullWidth u).beginsAnew u).bring u).relock = false := by
    unfold Mod.beginsAnew
    rw [Mod.bring_modBring (by rwa [Mod.units_setStage, hwidth, hlanes, hleave])]
  unfold Mod.drop
  rw [Mod.toDetect_eq]
  split
  · rw [Mod.bring_of_prt (Mod.mortarDown_part _ (p := .prt) (by decide))]
    exact hanew
  · exact hanew

theorem Mod.condSet_toDetect {c r : Nat} (h : m.condSet c r = true) : (m.toDetect u).condSet c r = true := by
  have hlanes (m : Mod) : (m.lanesToDetect u).conds = m.conds := m.each_keeps Mod.conds _ _ fun m l => by
    dsimp only
    split <;> rfl
  have hwidth (m : Mod) : (m.fullWidth u).conds = m.conds := by
    unfold Mod.fullWidth cageOf
    split_ifs <;> dsimp only <;> split <;> rfl
  have hanew (m : Mod) : (m.beginsAnew u).conds = m.conds :=
    (show (m.beginsAnew u).conds = (m.setStage u 1).conds from rfl).trans (Mod.setStage_part m u 1 (p := .conds) (by decide))
  have hset : (((m.lanesToDetect u).fullWidth u).beginsAnew u).condSet c r = true := by
    rw [Mod.condSet_of_conds (hanew _), Mod.condSet_of_conds (hwidth _), Mod.condSet_of_conds (hlanes _), h]
  have hagain (m : Mod) (c' r' : Nat) (p : List Nat) (h : m.condSet c r = true) : (m.raiseAgain c' r' p).condSet c r = true := by
    unfold Mod.raiseAgain
    split
    · rwa [Mod.condSet_of_conds (Mod.raise_conds _ _ _ _)]
    · exact Mod.condSet_raiseCond_mono _ _ _ _ h
  rw [Mod.toDetect_eq]
  split
  · unfold Mod.mortarDown
    dsimp only
    split
    · exact hset
    · exact hagain _ _ _ _ hset
  · exact hset

/-- The first lane of the mortar link is in service, and of the attempt, in the same cases where lane states and bring-up agree. -/
theorem Mod.stageShows_congr {m' : Mod} (h : m.stageShows u) (hoff : u = 32 → m.laneOff 32 = false → m'.laneOff 32 = false)
    (hprt : (m'.bring 32).pair = (m.bring 32).pair) : m'.stageShows u := fun hu => by
  obtain ⟨ho, hon⟩ := h hu
  refine ⟨hoff hu ho, ?_⟩
  unfold Mod.attemptLanes at hon ⊢
  rw [hprt]
  exact hon

theorem Mod.laneOff_congr {m' : Mod} {l : Nat} (h : m'.get (0x2480 + l) 5 = m.get (0x2480 + l) 5) : m'.laneOff l = m.laneOff l := by
  unfold Mod.laneOff Mod.n
  rw [h]

/-- A unit whose first lane shows its stage is in the stage set. -/
theorem Mod.unitStage_setStage_shown (hu : u < 35) (h : m.stageShows u) (stage : Nat) : (m.setStage u stage).unitStage u = stage := by
  by_cases hm : u = 32
  · obtain ⟨ho, hon⟩ := h hm
    subst hm
    rw [m.unitStage_setStage_mortar, ho, List.contains_iff_mem.mpr hon]
    rfl
  · exact m.unitStage_setStage hu hm stage

end

/-! ### A unit that comes up (R266) -/

theorem cageOf_lt {u q : Nat} (h : cageOf u = some q) : q < 9 := by
  unfold cageOf at h
  split_ifs at h <;> injection h <;> omega

section
variable (m : Mod) (u : Nat)

/-- A unit's cage shows how long the bring-up took and, where it is one of a pair, half width. -/
def Mod.cageTook (m : Mod) (u : Nat) (b : BringS) (took : Nanos) : Mod :=
  match cageOf u with
  | none => m
  | some q => (m.put (0x2440 + q) 0x0D took).when (b.pair ≠ none) fun m => m.put (0x2440 + q) 9 1

/-- A front unit on a pair of lanes is told of. -/
def Mod.pairTold (m : Mod) (u : Nat) (b : BringS) : Mod :=
  match b.pair with
  | none => m
  | some p => if u < 32 then m.raise 0x2406 u [u, p / 2] else m

/-- A unit in stage 5, with what it shows, before the event. -/
def Mod.activeShown (m : Mod) (u : Nat) : Mod :=
  let x := ((m.setStage u 5).modBring u fun b => { b with relock := false, declined := false }).cageTook u (m.bring u) (m.ctr - (m.bring u).began)
  x.each (x.attemptLanes u) fun (m : Mod) (l : Nat) => m.put (0x1E00 + l) 4 1

/-- The event of a unit in stage 5. -/
def Mod.activeTold (m : Mod) (u : Nat) : Mod :=
  (m.activeShown u).raiseClear 0x2401 u [0x2402] [u, (m.activeShown u).unitRate u, m.ctr - (m.bring u).began]

theorem Mod.toActive_eq : m.toActive u = if 33 ≤ u then
    ((m.activeTold u).pairTold u (m.bring u)).raiseClear 0x240D (u - 33) [0x240D] [u - 33, 1] else (m.activeTold u).pairTold u (m.bring u) := rfl

variable {m u}

/-- Beyond the stage a unit that comes up shows its time, its width, and that its lanes' figures hold. -/
theorem Mod.get_toActive {j t : Nat} (hj : j < 0x7400) (h4 : t ≠ 4) (h : t ≠ 9 ∧ t ≠ 0x0D ∨ j < 0x2440 ∨ 0x2448 < j) (ht : t < 256) :
    (m.toActive u).get j t = (m.setStage u 5).get j t := by
  have htook (m : Mod) (b : BringS) (took : Nanos) : (m.cageTook u b took).get j t = m.get j t := by
    unfold Mod.cageTook
    split
    · rfl
    · next q hq =>
      have := cageOf_lt hq
      unfold Mod.when
      split
      · rw [Mod.get_put_frame _ _ (by omega) (by omega), Mod.get_put_frame _ _ (by omega) (by omega)]
      · exact m.get_put_frame _ (by omega) (by omega)
  have hshown : (m.activeShown u).get j t = (m.setStage u 5).get j t := by
    unfold Mod.activeShown
    dsimp only
    refine (Mod.get_each fun m l _ => m.get_put_frame _ (by omega) (by omega)).trans ?_
    rw [htook, Mod.get_modBring]
  have hpair (m : Mod) (b : BringS) : (m.pairTold u b).get j t = m.get j t := by
    unfold Mod.pairTold
    split
    · rfl
    · split
      · exact m.get_raise_frame _ _ _ (by omega)
      · rfl
  have htold : ((m.activeTold u).pairTold u (m.bring u)).get j t = (m.setStage u 5).get j t := by
    rw [hpair]
    exact (Mod.get_raiseClear_frame _ _ _ _ _ (by omega)).trans hshown
  rw [Mod.toActive_eq]
  split
  · rw [Mod.get_raiseClear_frame _ _ _ _ _ (by omega), htold]
  · exact htold

/-- A unit that comes up is in stage 5. -/
theorem Mod.unitStage_toActive (hu : u < 35) (h : m.stageShows u) : (m.toActive u).unitStage u = 5 :=
  (Mod.unitStage_congr hu fun _ _ _ => Mod.get_toActive (by omega) (by omega) (by omega) (by omega)).trans
    (Mod.unitStage_setStage_shown hu h 5)

theorem Mod.tells_pairTold {a : Mod} (b : BringS) (h : a.tells m) : a.tells (m.pairTold u b) := by
  unfold Mod.pairTold
  split
  · exact h
  · exact Mod.tells_ite (Mod.tells_raise _ _ _ h) h

/-- A unit that comes up is told of, with its rate and the time it took. -/
theorem Mod.toActive_told : ∃ rate took, (m.toActive u).told 0x2401 u [u, rate, took] := by
  have htells := Mod.tells_pairTold (u := u) (m.bring u) (m.activeTold u).tells_refl
  have hall : (m.activeTold u).tells (m.toActive u) := by
    rw [Mod.toActive_eq]
    exact Mod.tells_ite (Mod.tells_raiseClear _ _ _ _ htells) htells
  exact ⟨(m.activeShown u).unitRate u, m.ctr - (m.bring u).began, Mod.told_of_tells hall (Mod.raiseClear_told _ _ _ _ _)⟩

theorem Mod.conds_pairTold (m : Mod) (b : BringS) : (m.pairTold u b).conds = m.conds := by
  unfold Mod.pairTold
  split
  · rfl
  · split
    · exact Mod.raise_conds _ _ _ _
    · rfl

/-- A unit that comes up is no link down. -/
theorem Mod.condSet_toActive : (m.toActive u).condSet 0x2402 u = false := by
  have hclear : ((m.activeTold u).pairTold u (m.bring u)).condSet 0x2402 u = false := by
    rw [Mod.condSet_of_conds (Mod.conds_pairTold _ _)]
    exact Mod.condSet_raiseClear _ _ _ (by simp) _
  rw [Mod.toActive_eq]
  split
  · exact Mod.condSet_raiseClear_mono _ _ _ _ _ hclear
  · exact hclear

theorem Mod.prt_cageTook (m : Mod) (b : BringS) (took : Nanos) : (m.cageTook u b took).prt = m.prt := by
  unfold Mod.cageTook
  split
  · rfl
  · unfold Mod.when
    split <;> rfl

/-- A unit that comes up has no fast relock under way. -/
theorem Mod.bring_toActive (h : u < m.prt.units.length) : ((m.toActive u).bring u).relock = false := by
  have hshown : ((m.activeShown u).bring u).relock = false := by
    have heach (m : Mod) (l : List Nat) : (m.each l fun (m : Mod) (l : Nat) => m.put (0x1E00 + l) 4 1).prt = m.prt :=
      m.each_keeps Mod.prt _ _ fun _ _ => Mod.put_prt _ _ _ _
    unfold Mod.activeShown
    dsimp only
    rw [Mod.bring_of_prt (heach _ _), Mod.bring_of_prt (Mod.prt_cageTook _ _ _), Mod.bring_modBring (by rwa [Mod.units_setStage])]
  have hpair (m : Mod) (b : BringS) : (m.pairTold u b).prt = m.prt := by
    unfold Mod.pairTold
    split
    · rfl
    · split
      · exact Mod.raise_prt _ _ _ _
      · rfl
  have hclear (m : Mod) (c r : Nat) (l p : List Nat) : (m.raiseClear c r l p).prt = m.prt := Mod.raiseClear_part _ _ _ _ _ (p := .prt) (by decide)
  rw [Mod.toActive_eq]
  split
  · rw [Mod.bring_of_prt (hclear _ _ _ _ _), Mod.bring_of_prt (hpair _ _)]
    unfold Mod.activeTold
    rw [Mod.bring_of_prt (hclear _ _ _ _ _)]
    exact hshown
  · rw [Mod.bring_of_prt (hpair _ _)]
    unfold Mod.activeTold
    rw [Mod.bring_of_prt (hclear _ _ _ _ _)]
    exact hshown

end

theorem unitOf_lt (p : BringPort) : unitOf p < 35 := by
  cases p with
  | front n => exact Nat.lt_trans n.isLt (by decide)
  | mortar => decide
  | backplane b =>
    exact Nat.add_lt_add_left b.isLt 33

/-! ### Lock lost and regained (R269) -/

section
variable {m : Mod} {u lane : Nat} (hl : lane < 38)

theorem Mod.get_goDown (m : Mod) (u : Nat) {j t : Nat} (h : ¬((0x3840 ≤ j ∧ j ≤ 0x385F) ∨ (0x7400 ≤ j ∧ j ≤ 0x7410))) (ht : t < 256) :
    (m.goDown u).get j t = m.get j t := by
  unfold Mod.goDown
  split_ifs with h1
  · unfold Mod.flushPort
    dsimp only
    rw [Mod.get_modPortQ]
    refine Mod.get_each fun m q hq => ?_
    have := List.mem_range.mp hq
    exact m.get_count_frame _ (by omega) (by omega)
  · exact m.get_raiseCond_frame _ _ _ (by omega)
  · rfl

theorem Mod.get_leave_unit (m : Mod) (u cause : Nat) {j t : Nat} (h : ¬((0x3840 ≤ j ∧ j ≤ 0x385F) ∨ (0x7400 ≤ j ∧ j ≤ 0x7410))) (ht : t < 256) :
    (m.leave u cause).get j t = m.get j t := by
  unfold Mod.leave
  split_ifs
  · rw [Mod.get_raiseCond_frame _ _ _ _ (by omega), m.get_goDown u h ht]
  · exact m.get_raiseCond_frame _ _ _ (by omega)
  · rfl

/-- A unit that lost lock on a lane, with its fast relock under way. -/
def Mod.lockGone (m : Mod) (u bad lane : Nat) : Mod :=
  let c := m.count (0x2480 + lane) 0x0B bad
  (((c.goDown u).put (0x2480 + lane) 5 4).cancelSteps (c.attemptLanes u)).modBring u fun b => { b with relock := true }

theorem Mod.lockLost_eq (bad : Nat) : m.lockLost u bad lane =
    if m.unitStage u ≠ 5 || !(m.attemptLanes u).contains lane then m
    else if 0 < bad && bad ≤ 16 then m.count (0x2480 + lane) 0x0B bad else (m.lockGone u bad lane).setStage u 3 := rfl

theorem Mod.prt_lockGone (bad : Nat) :
    (((((m.count (0x2480 + lane) 0x0B bad).goDown u).put (0x2480 + lane) 5 4).cancelSteps
      ((m.count (0x2480 + lane) 0x0B bad).attemptLanes u)).prt) = m.prt := by
  rw [show Mod.prt (Mod.cancelSteps _ _) = _ from Mod.cancelSteps_part _ _ (p := .prt) (by decide)]
  rw [show Mod.part _ Part.prt = Mod.prt _ from rfl, Mod.put_prt, show Mod.prt (Mod.goDown _ _) = _ from Mod.goDown_part _ _ (p := .prt) (by decide)]
  exact Mod.count_prt _ _ _ _

include hl in
/-- A lane that lost lock shows it, and its bad codewords. -/
theorem Mod.get_lockGone (bad : Nat) {j t : Nat} (h : ¬((0x3840 ≤ j ∧ j ≤ 0x385F) ∨ (0x7400 ≤ j ∧ j ≤ 0x7410))) (ht : t < 256) (h5 : ¬(j = 0x2480 + lane ∧ t = 5)) :
    (m.lockGone u bad lane).get j t = (m.count (0x2480 + lane) 0x0B bad).get j t := by
  unfold Mod.lockGone
  dsimp only
  rw [Mod.get_modBring]
  unfold Mod.cancelSteps
  rw [Mod.get_modCal, Mod.get_put_frame _ _ (by omega) (by omega), Mod.get_goDown _ _ h ht]

include hl in
theorem Mod.n_lockGone (bad : Nat) : (m.lockGone u bad lane).n (0x2480 + lane) 5 = 4 := by
  unfold Mod.lockGone Mod.cancelSteps Mod.n
  dsimp only
  rw [Mod.get_modBring, Mod.get_modCal]
  exact Mod.n_put _ _ _ _ (by omega)

include hl in
theorem Mod.stageShows_lockGone (bad : Nat) (hlen : u < m.prt.units.length) (h : m.stageShows u) : (m.lockGone u bad lane).stageShows u := by
  refine Mod.stageShows_congr h (fun hu ho => ?_) ?_
  · by_cases hx : lane = 32
    · subst hx
      have h4 : (m.lockGone u bad 32).n 0x24A0 5 = 4 := Mod.n_lockGone hl bad
      unfold Mod.laneOff
      rw [h4]
      rfl
    · rw [Mod.laneOff_congr ((Mod.get_lockGone hl bad (by omega) (by omega) (by omega)).trans (m.get_count_frame _ (by omega) (by omega)))]
      exact ho
  · unfold Mod.lockGone
    dsimp only
    by_cases hu : u = 32
    · subst hu
      rw [Mod.bring_modBring (by rwa [Mod.prt_lockGone]), Mod.bring_of_prt (Mod.prt_lockGone bad)]
    · unfold Mod.bring Mod.modBring
      dsimp only
      rw [nth_modify_ne _ _ hu, Mod.prt_lockGone]

include hl in
/-- A lane that loses lock takes its unit to a fast relock. -/
theorem Mod.lockLost_shows (hu : u < 35) (hlen : u < m.prt.units.length) (hs : m.stageShows u) {bad : Nat}
    (h : m.unitStage u = 5 ∧ lane ∈ m.attemptLanes u) (hbad : bad = 0 ∨ 16 < bad) :
    ((m.lockLost u bad lane).bring u).relock = true ∧ (m.lockLost u bad lane).unitStage u = 3 ∧ (m.lockLost u bad lane).n (0x2480 + lane) 5 = 4
      ∧ (m.lockLost u bad lane).n (0x2480 + lane) 0x0B = (m.count (0x2480 + lane) 0x0B bad).n (0x2480 + lane) 0x0B := by
  obtain ⟨h5, hon⟩ := h
  rw [Mod.lockLost_eq, if_neg (by simp [h5, hon]), if_neg (by simp; omega)]
  have hlen' : u < (m.lockGone u bad lane).prt.units.length := by
    unfold Mod.lockGone Mod.modBring
    dsimp only
    rwa [List.length_modify, Mod.prt_lockGone]
  refine ⟨?_, Mod.unitStage_setStage_shown hu (Mod.stageShows_lockGone hl bad hlen hs) 3, ?_, ?_⟩
  · rw [Mod.relock_setStage hlen']
    unfold Mod.lockGone
    dsimp only
    rw [Mod.bring_modBring (by rwa [Mod.prt_lockGone])]
  · refine (congrArg Val.nat (Mod.get_setStage _ hu 3 (by omega) (by omega))).trans ?_
    exact Mod.n_lockGone hl bad
  · exact congrArg Val.nat ((Mod.get_setStage _ hu 3 (by omega) (by omega)).trans (Mod.get_lockGone hl bad (by omega) (by omega) (by omega)))

/-- The lanes of a unit after a fast relock: in service again, their figures taken. -/
def Mod.relockShown (m : Mod) (u lane : Nat) : Mod :=
  let c := (m.bump (0x2480 + lane) 0x0A).raiseCond 0x2402 u [u, causeRelock]
  c.each (c.attemptLanes u) fun (m : Mod) (l : Nat) => (if m.n (0x2480 + l) 5 = 4 then m.put (0x2480 + l) 5 0 else m).laneFigures l

theorem Mod.relocked_eq (ok : Bool) : m.relocked u ok lane =
    if !(m.bring u).relock || !m.within_ u 3 then m
    else if !ok then m.drop u causeFault else (m.relockShown u lane).toActive u := rfl

theorem Mod.get_laneFigures (m : Mod) (l : Nat) {j t : Nat} (hj : j < 0x7400) (h : t = 0 ∨ 4 < t) (ht : t < 256) :
    (m.laneFigures l).get j t = m.get j t := by
  have hjudge (m : Mod) (k w x : Nat) (r : Int) : (m.judgeFigure k w x r).get j t = m.get j t := by
    unfold Mod.judgeFigure
    dsimp only
    rw [apply_ite (Mod.get · j t), Mod.get_raise_frame _ _ _ _ (by omega), Mod.get_modCal, ite_self]
  unfold Mod.laneFigures
  dsimp only
  rw [Mod.get_draw, hjudge, Mod.get_put_frame _ _ (by omega) (by omega), Mod.get_putZ_frame _ _ (by omega) (by omega),
    Mod.get_put_frame _ _ (by omega) (by omega), Mod.get_put_frame _ _ (by omega) (by omega)]

/-- A lane whose state is none of those out of service has none after its figures are taken. -/
theorem Mod.laneOff_relockShown (h : m.laneOff 32 = false) : (m.relockShown u lane).laneOff 32 = false := by
  have hkept (m : Mod) (l : Nat) (h : m.laneOff 32 = false) :
      ((if m.n (0x2480 + l) 5 = 4 then m.put (0x2480 + l) 5 0 else m).laneFigures l).laneOff 32 = false := by
    rw [Mod.laneOff_congr (Mod.get_laneFigures _ _ (by decide) (by decide) (by decide))]
    split
    · by_cases hx : l = 32
      · subst hx
        unfold Mod.laneOff
        rw [Mod.n_put _ _ _ _ (by decide)]
        rfl
      · rw [Mod.laneOff_congr (m.get_put_frame _ (by omega) (by omega))]
        exact h
    · exact h
  unfold Mod.relockShown
  refine Mod.each_holds (P := fun m => m.laneOff 32 = false) hkept ?_
  rw [Mod.laneOff_congr (Mod.get_raiseCond_frame _ _ _ _ (by decide)), Mod.laneOff_congr (m.get_bump_frame (by omega) (by omega))]
  exact h

theorem Mod.prt_relockShown : (m.relockShown u lane).prt = m.prt := by
  have hlane (m : Mod) (l : Nat) : ((if m.n (0x2480 + l) 5 = 4 then m.put (0x2480 + l) 5 0 else m).laneFigures l).prt = m.prt := by
    rw [show Mod.prt (Mod.laneFigures _ l) = _ from Mod.laneFigures_part _ l (p := .prt) (by decide)]
    split <;> rfl
  unfold Mod.relockShown
  refine (Mod.each_keeps _ Mod.prt _ _ hlane).trans ?_
  exact (Mod.raiseCond_part _ _ _ _ (p := .prt) (by decide)).trans (Mod.bump_prt _ _ _)

include hl in
/-- A fast relock that succeeds brings its unit back. -/
theorem Mod.relocked_shows (hu : u < 35) (hlen : u < m.prt.units.length) (hs : m.stageShows u)
    (h : (m.bring u).relock = true ∧ m.within_ u 3 = true) :
    (m.relocked u true lane).unitStage u = 5 ∧ ((m.relocked u true lane).bring u).relock = false
      ∧ (m.relocked u true lane).n (0x2480 + lane) 0x0A = (m.bump (0x2480 + lane) 0x0A).n (0x2480 + lane) 0x0A
      ∧ (m.relocked u true lane).condSet 0x2402 u = false ∧ ∃ rate took, (m.relocked u true lane).told 0x2401 u [u, rate, took] := by
  obtain ⟨hr, hw⟩ := h
  rw [Mod.relocked_eq, if_neg (by simp [hr, hw]), if_neg (by decide)]
  have hshows : (m.relockShown u lane).stageShows u :=
    Mod.stageShows_congr hs (fun _ => Mod.laneOff_relockShown) (congrArg BringS.pair (Mod.bring_of_prt Mod.prt_relockShown))
  refine ⟨Mod.unitStage_toActive hu hshows, Mod.bring_toActive (by rwa [Mod.prt_relockShown]), congrArg Val.nat ?_,
    Mod.condSet_toActive, Mod.toActive_told⟩
  rw [Mod.get_toActive (by omega) (by omega) (by omega) (by omega), Mod.get_setStage _ hu 5 (by omega) (by omega)]
  unfold Mod.relockShown
  refine (Mod.get_each fun m l _ => ?_).trans (Mod.get_raiseCond_frame _ _ _ _ (by omega))
  rw [Mod.get_laneFigures _ _ (by omega) (by omega) (by omega)]
  split
  · exact m.get_put_frame _ (by omega) (by omega)
  · rfl

/-- A fast relock that fails takes its unit to stage 1. -/
theorem Mod.relockFailed_shows (hu : u < 35) (hlen : u < m.prt.units.length) (h : (m.bring u).relock = true ∧ m.within_ u 3 = true) :
    (m.relocked u false lane).unitStage u ≤ 1 ∧ ((m.relocked u false lane).bring u).relock = false
      ∧ (m.relocked u false lane).condSet 0x2402 u = true
      ∧ (m.condSet 0x2402 u = false → (m.relocked u false lane).told 0x2402 u [u, 2]) := by
  obtain ⟨hr, hw⟩ := h
  have h3 : m.unitStage u = 3 := by
    unfold Mod.within_ at hw
    simp only [Bool.and_eq_true, decide_eq_true_eq] at hw
    exact hw.1.2
  have hleave : m.leave u causeFault = m.raiseCond 0x2402 u [u, causeFault] := by
    unfold Mod.leave
    rw [if_neg (by omega), if_pos hr]
  rw [Mod.relocked_eq, if_neg (by simp [hr, hw]), if_pos (by decide)]
  refine ⟨m.unitStage_drop hu _, Mod.bring_drop hlen _, ?_, fun hc => ?_⟩
  · unfold Mod.drop
    rw [hleave]
    exact Mod.condSet_toDetect (m.condSet_raiseCond _ _ _)
  · unfold Mod.drop
    rw [hleave]
    exact Mod.told_of_tells (Mod.tells_toDetect _ Mod.tells_refl) (Mod.raiseCond_told _ hc _)

/-! ### Merits and retraining (R267, R269) -/

theorem Mod.laneUnit_lt (m : Mod) {l : Nat} (h : l < 38) : m.laneUnit l < 35 := by
  unfold Mod.laneUnit
  dsimp only
  split_ifs <;> omega

/-- The figure of merit below which a unit trains again. -/
def Mod.meritLimit (m : Mod) (u : Nat) : Nat :=
  match cageOf u with
  | none => 40
  | some q => m.n (0x2400 + q) 8

/-- A unit that leaves its service to train again, before its stage is set. -/
def Mod.retraining (m : Mod) (u lane v : Nat) : Mod :=
  (((m.showFom lane v).bump (0x2480 + lane) 9).leave u causeRetrain).cancelSteps ((m.showFom lane v).attemptLanes u)

theorem Mod.retrain_eq (snr : Int) : m.retrain lane snr =
    if m.unitStage (m.laneUnit lane) ≠ 5 || !(m.attemptLanes (m.laneUnit lane)).contains lane then m
    else if m.meritLimit (m.laneUnit lane) ≤ meritOf snr then m.showFom lane (meritOf snr)
    else (m.retraining (m.laneUnit lane) lane (meritOf snr)).toTraining (m.laneUnit lane) trigRecovery := rfl

theorem Mod.get_showFom (m : Mod) (lane v : Nat) {j t : Nat} (h : ¬(j = 0x2480 + lane ∧ (t = 2 ∨ t = 3))) (ht : t < 256) :
    (m.showFom lane v).get j t = m.get j t := by
  unfold Mod.showFom
  dsimp only
  split
  · rw [Mod.get_put_frame _ _ (by omega) (by omega), Mod.get_put_frame _ _ (by omega) (by omega)]
  · exact m.get_put_frame _ (by omega) (by omega)

/-- A lane shows its merit, and in stage 5 the least of them. -/
theorem Mod.n_showFom (m : Mod) (lane v : Nat) : (m.showFom lane v).n (0x2480 + lane) 2 = v
    ∧ (m.showFom lane v).n (0x2480 + lane) 3 = (if m.n (0x2480 + lane) 1 = 5 then min v (m.n (0x2480 + lane) 3) else m.n (0x2480 + lane) 3) := by
  have h1 : (m.put (0x2480 + lane) 2 v).n (0x2480 + lane) 1 = m.n (0x2480 + lane) 1 := m.n_put_other _ (by omega) (by omega)
  have h3 : (m.put (0x2480 + lane) 2 v).n (0x2480 + lane) 3 = m.n (0x2480 + lane) 3 := m.n_put_other _ (by omega) (by omega)
  unfold Mod.showFom
  dsimp only
  rw [h1, h3]
  split
  · next h =>
    simp only [Bool.and_eq_true, decide_eq_true_eq] at h
    obtain ⟨h5, hlt⟩ := h
    refine ⟨?_, ?_⟩
    · rw [Mod.n_put_other _ _ (by omega) (by omega), Mod.n_put _ _ _ _ (by omega)]
    · rw [Mod.n_put _ _ _ _ (by omega), if_pos h5, Nat.min_eq_left (Nat.le_of_lt hlt)]
  · next h =>
    refine ⟨Mod.n_put _ _ _ _ (by omega), ?_⟩
    simp only [Bool.and_eq_true, decide_eq_true_eq, not_and, Nat.not_lt] at h
    split
    · next h5 => rw [h3, Nat.min_eq_right (h h5)]
    · exact h3

include hl in
theorem Mod.unitStage_showFom (m : Mod) (v : Nat) {w : Nat} (hw : w < 35) : (m.showFom lane v).unitStage w = m.unitStage w :=
  Mod.unitStage_congr hw fun j t h => m.get_showFom lane v (by omega) (by omega)

theorem Mod.prt_showFom (m : Mod) (lane v : Nat) : (m.showFom lane v).prt = m.prt := by
  unfold Mod.showFom
  dsimp only
  split <;> rfl

theorem Mod.get_retraining (v : Nat) {j t : Nat} (h : ¬((0x3840 ≤ j ∧ j ≤ 0x385F) ∨ (0x7400 ≤ j ∧ j ≤ 0x7410))) (ht : t < 256) :
    (m.retraining u lane v).get j t = ((m.showFom lane v).bump (0x2480 + lane) 9).get j t := by
  unfold Mod.retraining Mod.cancelSteps
  rw [Mod.get_modCal, Mod.get_leave_unit _ _ _ h ht]

theorem Mod.prt_retraining (v : Nat) : (m.retraining u lane v).prt = m.prt := by
  unfold Mod.retraining
  rw [show Mod.prt (Mod.cancelSteps _ _) = _ from Mod.cancelSteps_part _ _ (p := .prt) (by decide),
    show Mod.part _ Part.prt = Mod.prt _ from rfl, show Mod.prt (Mod.leave _ _ _) = _ from Mod.leave_part _ _ _ (p := .prt) (by decide),
    show Mod.part _ Part.prt = Mod.prt _ from rfl, Mod.bump_prt, Mod.prt_showFom]

theorem Mod.get_toTraining (m : Mod) (trig : Nat) {j t : Nat} (h : ¬(0x1C40 ≤ j ∧ j ≤ 0x1C49)) (ht : t < 256) :
    (m.toTraining u trig).get j t = (m.setStage u 2).get j t := by
  have hdomain : laneDomain ((m.unitLanes u).headD 0) ≤ 9 := by
    unfold laneDomain
    split <;> omega
  exact Mod.get_trigger _ _ _ (by omega)

include hl in
/-- A merit below the limit takes the unit to stage 2 of a new training. -/
theorem Mod.retrain_shows (hs : m.stageShows (m.laneUnit lane)) {snr : Int}
    (h : m.unitStage (m.laneUnit lane) = 5 ∧ lane ∈ m.attemptLanes (m.laneUnit lane)) (hlow : meritOf snr < m.meritLimit (m.laneUnit lane)) :
    (m.retrain lane snr).unitStage (m.laneUnit lane) = 2 ∧ (m.retrain lane snr).n (0x2480 + lane) 2 = meritOf snr
      ∧ (m.retrain lane snr).n (0x2480 + lane) 9 = (m.bump (0x2480 + lane) 9).n (0x2480 + lane) 9
      ∧ (m.condSet 0x2402 (m.laneUnit lane) = false → (m.retrain lane snr).told 0x2402 (m.laneUnit lane) [m.laneUnit lane, 1]) := by
  obtain ⟨h5, hon⟩ := h
  have hu := m.laneUnit_lt hl
  rw [Mod.retrain_eq, if_neg (by simp [h5, hon]), if_neg (Nat.not_le.mpr hlow)]
  generalize m.laneUnit lane = u at *
  have hshown (k : Nat) (hk : k ≠ 1) (hk2 : k < 256) : ((m.retraining u lane (meritOf snr)).toTraining u trigRecovery).n (0x2480 + lane) k
      = ((m.showFom lane (meritOf snr)).bump (0x2480 + lane) 9).n (0x2480 + lane) k := by
    refine congrArg Val.nat ?_
    rw [Mod.get_toTraining _ _ (by omega) hk2, Mod.get_setStage _ hu 2 (by omega) hk2, Mod.get_retraining _ (by omega) hk2]
  refine ⟨?_, ?_, ?_, fun hc => ?_⟩
  · rw [Mod.unitStage_congr hu fun j t h => Mod.get_toTraining _ _ (by omega) (by omega)]
    refine Mod.unitStage_setStage_shown hu (Mod.stageShows_congr hs (fun _ ho => ?_) ?_) 2
    · rw [Mod.laneOff_congr ((Mod.get_retraining _ (by omega) (by omega)).trans ((Mod.get_bump_frame _ (by omega) (by omega)).trans
        (m.get_showFom _ _ (by omega) (by omega))))]
      exact ho
    · exact congrArg BringS.pair (Mod.bring_of_prt (Mod.prt_retraining _))
  · rw [hshown 2 (by decide) (by decide)]
    exact (congrArg Val.nat (Mod.get_bump_frame _ (by omega) (by omega))).trans (m.n_showFom lane _).1
  · rw [hshown 9 (by decide) (by decide)]
    exact Mod.n_bump_congr (by omega) (congrArg Val.nat (m.get_showFom _ _ (by omega) (by omega)))
  · have hstage : ((m.showFom lane (meritOf snr)).bump (0x2480 + lane) 9).unitStage u = 5 := by
      rw [Mod.unitStage_congr hu fun j t h => Mod.get_bump_frame _ (by omega) (by omega), Mod.unitStage_showFom hl m _ hu, h5]
    have hset : (((m.showFom lane (meritOf snr)).bump (0x2480 + lane) 9).goDown u).condSet 0x2402 u = false := by
      rw [show m.condSet 0x2402 u = _ from (Mod.condSet_of_part (m' := (m.showFom lane (meritOf snr)).bump (0x2480 + lane) 9) (by simp)).symm] at hc
      unfold Mod.goDown
      split_ifs
      · rwa [Mod.condSet_of_part (Mod.flushPort_part _ _ (by decide))]
      · rwa [Mod.condSet_raiseCond_other _ (by decide)]
      · exact hc
    have htold : (m.retraining u lane (meritOf snr)).told 0x2402 u [u, 1] := by
      unfold Mod.retraining Mod.leave
      rw [if_pos hstage]
      exact Mod.raiseCond_told _ hset _
    refine Mod.told_of_tells (Mod.tells_of_part ?_ Mod.tells_refl) htold
    unfold Mod.toTraining
    exact (Mod.trigger_part _ _ _ (by decide)).trans (Mod.setStage_part _ _ _ (by decide))

end

/-- A merit low in stage 5 is told of, at most once a minute. -/
theorem Mod.fomLow_shows {m : Mod} {lane : Nat} (h : 2 ≤ m.n (0x2480 + lane) 1) (hl : lane < 38) (snr : Int) :
    (m.fomLow lane snr).n (0x2480 + lane) 2 = meritOf snr
      ∧ (m.fomLow lane snr).n (0x2480 + lane) 3
        = (if m.n (0x2480 + lane) 1 = 5 then min (meritOf snr) (m.n (0x2480 + lane) 3) else m.n (0x2480 + lane) 3)
      ∧ (m.n (0x2480 + lane) 1 = 5 → meritOf snr < 80 → m.limits.find? (fun l => l.code = 0x240B && l.res = lane) = none →
        (m.fomLow lane snr).told 0x240B lane [lane, meritOf snr, 1])
      ∧ (m.n (0x2480 + lane) 1 ≠ 5 ∨ 80 ≤ meritOf snr → (m.fomLow lane snr).raised = m.raised) := by
  obtain ⟨h2, h3⟩ := m.n_showFom lane (meritOf snr)
  have h1 : (m.showFom lane (meritOf snr)).n (0x2480 + lane) 1 = m.n (0x2480 + lane) 1 :=
    congrArg Val.nat (m.get_showFom _ _ (by omega) (by decide))
  unfold Mod.fomLow
  dsimp only
  rw [if_neg (by omega), h1]
  split
  · next hlow =>
    simp only [Bool.and_eq_true, decide_eq_true_eq] at hlow
    obtain ⟨h5, h80⟩ := hlow
    refine ⟨(Mod.n_raiseLimited _ _ _ _ _ (by omega)).trans h2, (Mod.n_raiseLimited _ _ _ _ _ (by omega)).trans h3, fun _ _ hn => ?_,
      fun h => absurd h (by omega)⟩
    refine Mod.raiseLimited_told _ _ [lane, meritOf snr] ?_
    rwa [show (m.showFom lane (meritOf snr)).limits = m.limits from Mod.showFom_part _ _ _ (p := .limits) (by decide)]
  · next hlow =>
    simp only [Bool.and_eq_true, decide_eq_true_eq, not_and] at hlow
    exact ⟨h2, h3, fun h5 h80 => absurd h80 (hlow h5), fun _ => Mod.showFom_part _ _ _ (p := .raised) (by decide)⟩

/-! ### Backplane and service links (R278, R279) -/

section
variable {m : Mod} {b : Nat}

/-- The last event of a backplane unit that comes up is of its link. -/
theorem Mod.toActive_linkTold (h : 33 ≤ u) : (m.toActive u).told 0x240D (u - 33) [u - 33, 1] := by
  rw [Mod.toActive_eq, if_pos h]
  exact Mod.raiseClear_told _ _ _ _ _

theorem Mod.capable_backplane (hb : b < 2) :
    m.capable (33 + b) true = if m.within_ (33 + b) 4 = true ∧ m.unitTests (33 + b) = false ∧ (m.bring (33 + b)).entered + 1000000 ≤ m.ctr then
      m.toActive (33 + b) else m := by
  unfold Mod.capable
  dsimp only
  rw [if_neg (c := 33 + b = 32) (by omega), if_pos (c := true = true) rfl]
  by_cases hw : m.within_ (33 + b) 4 = true <;> by_cases ht : m.unitTests (33 + b) = true <;>
    by_cases he : m.ctr < (m.bring (33 + b)).entered + 1000000 <;> simp_all

/-- A backplane link that goes down takes its unit to stage 1. -/
theorem Mod.backplaneDown_shows (hb : b < 2) (h : m.unitStage (33 + b) = 5) : (m.drop (33 + b) causeFault).unitStage (33 + b) = 1
    ∧ (m.condSet 0x240D b = false → (m.drop (33 + b) causeFault).told 0x240D b [b, 0])
    ∧ (m.condSet 0x2402 (33 + b) = false → (m.drop (33 + b) causeFault).told 0x2402 (33 + b) [33 + b, 2]) := by
  have hleave : m.leave (33 + b) causeFault = (m.raiseCond 0x240D b [b, 0]).raiseCond 0x2402 (33 + b) [33 + b, causeFault] := by
    unfold Mod.leave Mod.goDown
    rw [if_pos h, if_neg (by omega), if_pos (by omega), Nat.add_sub_cancel_left]
  refine ⟨m.unitStage_drop_shown (by omega) (by omega) _, fun hc => ?_, fun hc => ?_⟩
  · unfold Mod.drop
    rw [hleave]
    exact Mod.told_of_tells (Mod.tells_toDetect _ (Mod.tells_raiseCond _ _ _ Mod.tells_refl)) (Mod.raiseCond_told _ hc _)
  · unfold Mod.drop
    rw [hleave]
    refine Mod.told_of_tells (Mod.tells_toDetect _ Mod.tells_refl) (Mod.raiseCond_told _ ?_ _)
    rwa [Mod.condSet_raiseCond_other _ (by decide)]

/-- The state that the service port shows of a link. -/
def linkShown : ServiceLink → Nat
  | .down => 1
  | .up => 2
  | .speedUnsupported => 3

theorem linkShown_up (x : ServiceLink) : linkShown x = 2 ↔ x = .up := by cases x <;> decide

/-- The service port shows its link, and tells of one that changed. -/
theorem Mod.serviceTo_shows (link : Nat) : (m.serviceTo link).n 0x2610 2 = link
    ∧ (link = 2 → m.n 0x2610 2 ≠ 2 → (m.serviceTo link).told 0x240E 0 [1])
    ∧ (link ≠ 2 → m.n 0x2610 2 = 2 → m.condSet 0x240E 0 = false → (m.serviceTo link).told 0x240E 0 [0])
    ∧ ((link = 2 ↔ m.n 0x2610 2 = 2) → (m.serviceTo link).raised = m.raised) := by
  have hput : (m.put 0x2610 2 link).n 0x2610 2 = link := m.n_put _ _ _ (by decide)
  unfold Mod.serviceTo
  dsimp only
  split_ifs with h1 h2
  · simp only [Bool.and_eq_true, decide_eq_true_eq] at h1
    obtain ⟨hl, hw⟩ := h1
    exact ⟨(congrArg Val.nat (Mod.get_raiseClear_frame _ _ _ _ _ (by decide))).trans hput, fun _ _ => Mod.raiseClear_told _ _ _ _ _,
      fun h => absurd hl h, fun h => absurd (h.mp hl) hw⟩
  · simp only [Bool.and_eq_true, decide_eq_true_eq] at h2
    obtain ⟨hl, hw⟩ := h2
    exact ⟨(congrArg Val.nat (Mod.get_raiseCond_frame _ _ _ _ (by decide))).trans hput, fun h => absurd h hl,
      fun _ _ hc => Mod.raiseCond_told _ ((Mod.condSet_of_conds (Mod.put_conds _ _ _ _)).trans hc) _, fun h => absurd (h.mpr hw) hl⟩
  · simp only [Bool.and_eq_true, decide_eq_true_eq, not_and, not_not] at h1 h2
    exact ⟨hput, fun h hw => absurd (h1 h) hw, fun h hw => absurd hw (h2 h), fun _ => rfl⟩

end

/-- Settles O43: lock lost, relocks, merits and retraining by the unit's stage; checkers, backplane and service links by their own state. -/
theorem linksLoseLockAndRecover : Obligations.LinksLoseLockAndRecover := by
  unfold Obligations.LinksLoseLockAndRecover
  refine ⟨fun s t lane h => ?_, fun s t h => ?_⟩
  · intro m o
    have hl := lane.isLt
    have hb : m.rebooting = false := h.2
    refine ⟨fun p hlen hs => ?_, fun snr => ?_, fun snr => ⟨fun h2 => ?_, fun h2 => ?_⟩⟩
    · intro u
      have hu : u < 35 := unitOf_lt p
      refine ⟨fun bad => ?_, ?_⟩
      · intro runs
        have heq := Mod.lockLost_eq (m := m) (u := u) (lane := lane.val) bad
        refine ⟨fun hn => ?_, fun hr h0 h16 => ?_, fun hr hbad => ?_⟩
        · refine does_act (g := fun m => m.lockLost (unitOf p) bad lane.val) h rfl (heq.trans (if_pos ?_)) hb
          by_cases h5 : m.unitStage u = 5
          · simpa [h5] using fun hon => hn ⟨h5, hon⟩
          · simp [h5]
        · obtain ⟨h5, hon⟩ := hr
          refine does_act (g := fun m => m.lockLost (unitOf p) bad lane.val) h rfl (heq.trans ?_) ((Mod.count_rebooting _ _ _ _).trans hb)
          rw [if_neg (by simp [h5, hon]), if_pos (by simp [h0, h16])]
        · exact completes_act (g := fun m => m.lockLost (unitOf p) bad lane.val) rfl h (Mod.lockLost_shows hl hu hlen hs hr hbad) fun _ h => h
      · intro due
        refine ⟨fun hn ok => ?_, fun hd => ?_, fun hd => ?_⟩
        · refine does_act (g := fun m => m.relocked (unitOf p) ok lane.val) h rfl (if_pos ?_) hb
          have hn : ¬((m.bring u).relock = true ∧ m.within_ u 3 = true) := hn
          show (!(m.bring u).relock || !m.within_ u 3) = true
          simpa [imp_iff_not_or] using hn
        · exact completes_act (g := fun m => m.relocked (unitOf p) true lane.val) rfl h (Mod.relocked_shows hl hu hlen hs hd) fun _ h => h
        · exact completes_act (g := fun m => m.relocked (unitOf p) false lane.val) rfl h (Mod.relockFailed_shows hu hlen hd) fun _ h => h
    · intro u limit runs
      have hlimit : limit = m.meritLimit u := rfl
      have heq := Mod.retrain_eq (m := m) (lane := lane.val) snr
      refine ⟨fun hn => ?_, fun hr hmerit => ?_, fun hr hs hmerit => ?_⟩
      · refine does_act (g := fun m => m.retrain lane.val snr) h rfl (heq.trans (if_pos ?_)) hb
        by_cases h5 : m.unitStage u = 5
        · simpa [u, h5] using fun hon => hn ⟨h5, hon⟩
        · simp [u, h5]
      · obtain ⟨h5, hon⟩ := hr
        refine completes_act (g := fun m => m.retrain lane.val snr) rfl h ?_ fun _ h => h
        show (m.retrain lane.val snr).unitStage u = 5 ∧ (m.retrain lane.val snr).n o 2 = meritOf snr ∧ (m.retrain lane.val snr).n o 9 = m.n o 9
        rw [heq, if_neg (by simp [u] at h5 hon; simp [h5, hon]), if_pos (hlimit ▸ hmerit)]
        exact ⟨(Mod.unitStage_showFom hl m _ (m.laneUnit_lt hl)).trans h5, (m.n_showFom lane.val _).1,
          congrArg Val.nat (m.get_showFom _ _ (by omega) (by decide))⟩
      · exact completes_act (g := fun m => m.retrain lane.val snr) rfl h (Mod.retrain_shows hl hs hr (hlimit ▸ hmerit)) fun _ h => h
    · exact does_act (g := fun m => m.fomLow lane.val snr) h rfl (if_pos h2) hb
    · exact completes_act (g := fun m => m.fomLow lane.val snr) rfl h (Mod.fomLow_shows h2 hl snr) fun _ h => h
  · intro m
    have hb : m.rebooting = false := h.2
    refine ⟨fun lane inverted k => ?_, fun b => ?_, fun link => ⟨fun h0 => ?_, fun h1 => ?_⟩⟩
    · intro o locks
      refine ⟨fun hl => ?_, fun hn => ?_⟩
      · obtain ⟨ht, h2, h64, h5⟩ := hl
        refine does_act (g := fun m => m.checkerLocks lane.val inverted k) h rfl (if_neg ?_) hb
        have h2 : m.n (0x2500 + lane.val) 2 ≠ 0 := h2
        show ¬((!m.laneTests lane.val || m.n (0x2500 + lane.val) 2 = 0 || k < 64 || m.flag (0x2500 + lane.val) 5) = true)
        rw [ht, show m.flag (0x2500 + lane.val) 5 = false from h5]
        simp [h2, h64]
      · refine does_act (g := fun m => m.checkerLocks lane.val inverted k) h rfl (if_pos ?_) hb
        show (!m.laneTests lane.val || m.n (0x2500 + lane.val) 2 = 0 || k < 64 || m.flag (0x2500 + lane.val) 5) = true
        by_contra hc
        simp only [Bool.or_eq_true, Bool.not_eq_true', decide_eq_true_eq, not_or, Bool.not_eq_false, Nat.not_lt, Bool.not_eq_true] at hc
        obtain ⟨⟨⟨ht, h2⟩, h64⟩, h5⟩ := hc
        exact hn ⟨ht, h2, h64, h5⟩
    · intro u due
      have hb2 := b.isLt
      have heq : m.backplaneLink b.val true = if due then m.toActive u else m := Mod.capable_backplane hb2
      refine ⟨fun hd => ?_, fun hn => ?_, fun h5 => ?_, fun h5 => ?_⟩
      · refine completes_act (g := fun m => m.backplaneLink b.val true) rfl h ?_ fun _ h => h
        show (m.backplaneLink b.val true).unitStage u = 5 ∧ (m.backplaneLink b.val true).told 0x240D b.val [b.val, 1]
        rw [heq, if_pos hd]
        have htold := Mod.toActive_linkTold (m := m) (u := u) (by omega)
        rw [show u - 33 = b.val from Nat.add_sub_cancel_left _ _] at htold
        exact ⟨Mod.unitStage_toActive (by omega) fun h32 => absurd h32 (by omega), htold⟩
      · exact does_act (g := fun m => m.backplaneLink b.val true) h rfl (heq.trans (if_neg hn)) hb
      · have heq' : m.backplaneLink b.val false = m.drop u causeFault := if_pos h5
        refine completes_act (g := fun m => m.backplaneLink b.val false) rfl h ?_ fun _ h => h
        show (m.backplaneLink b.val false).unitStage u = 1 ∧ (_ → (m.backplaneLink b.val false).told _ _ _)
          ∧ (_ → (m.backplaneLink b.val false).told _ _ _)
        rw [heq']
        exact Mod.backplaneDown_shows hb2 h5
      · exact does_act (g := fun m => m.backplaneLink b.val false) h rfl (if_neg h5) hb
    · refine does_act (g := fun m => m.serviceLink link) h rfl (if_pos ?_) hb
      rw [show (s.m.at t).flag 0x2610 1 = false from h0]
      rfl
    · refine completes_act (g := fun m => m.serviceLink link) rfl h ?_ fun _ h => h
      have heq : m.serviceLink link = m.serviceTo (linkShown link) := if_neg (by rw [show (s.m.at t).flag 0x2610 1 = true from h1]; decide)
      obtain ⟨hshown, hup, hdown, hsame⟩ := m.serviceTo_shows (linkShown link)
      rw [← heq] at hshown hup hdown hsame
      exact ⟨hshown, fun hl => hup ((linkShown_up link).mpr hl), fun hl => hdown fun hk => hl ((linkShown_up link).mp hk),
        fun hl => hsame ((linkShown_up link).trans hl)⟩

end Sys2Proof.Machine
end

section
/-! SUPPORT. Calibration: triggers of temperature and drift, runs that start and end (R293-R299). -/

namespace Sys2Proof.Machine

/-! ### Temperature and drift (R293, R294) -/

section
variable {m : Mod} {d : Nat}

/-- Whether a domain may be triggered: a channel with its socket populated, FIO while it is not stopped. -/
abbrev Mod.mayAsk (m : Mod) (d : Nat) : Prop := (isDramDomain d = true → m.dimmIn (d - 10) = true) ∧ (d = 26 → m.n 0x1800 2 ≠ 3)

/-- Whether a domain is queued, or its trigger kept for the next bring-up. -/
abbrev Mod.asked (m : Mod) (d : Nat) : Prop :=
  (∃ y ∈ m.cal.queued, y.1 = d) ∨ (d ≤ 9 ∧ m.domainLive d = false ∧ ∃ y ∈ m.cal.kept, y.1 = d)

/-- Whether a sample shows a domain to have moved, or drifted, beyond what is allowed. -/
abbrev Mod.moved (m : Mod) (x : DomTemp) : Prop :=
  10 * m.n 0x1C00 1 < (x.temp - m.z (0x1C40 + x.domain.val) 5).natAbs ∨ (isDramDomain x.domain.val = true ∧ 8 < x.drift)

/-- One domain of a sample. -/
def Mod.sampleOne (m : Mod) (x : DomTemp) : Mod :=
  if 10 * m.n 0x1C00 1 < (x.temp - m.z (0x1C40 + x.domain.val) 5).natAbs then m.trigger x.domain.val trigTemperature
  else if isDramDomain x.domain.val && 8 < x.drift then m.trigger x.domain.val trigDrift else m

theorem Mod.sampleTemperatures_eq (l : List DomTemp) :
    m.sampleTemperatures l = if !m.flag 0x1C00 2 || m.cal.runsIn 27 then m else m.each l fun (m : Mod) (x : DomTemp) => m.sampleOne x := rfl

theorem Mod.sampleOne_still {x : DomTemp} (h : ¬m.moved x) : m.sampleOne x = m := by
  obtain ⟨ht, hd⟩ := not_or.mp h
  unfold Mod.sampleOne
  rw [if_neg ht, if_neg (by simpa using hd)]

/-- A domain that has moved is triggered, by its temperature or its drift. -/
theorem Mod.sampleOne_moved {x : DomTemp} (h : m.moved x) :
    ∃ trig, m.sampleOne x = m.trigger x.domain.val trig := by
  unfold Mod.sampleOne
  by_cases ht : 10 * m.n 0x1C00 1 < (x.temp - m.z (0x1C40 + x.domain.val) 5).natAbs
  · exact ⟨trigTemperature, if_pos ht⟩
  · exact ⟨trigDrift, by rw [if_neg ht, if_pos (by simpa using h.resolve_left ht)]⟩

theorem Mod.get_sampleOne (m : Mod) (x : DomTemp) {j t : Nat} (h : ¬(0x1C40 ≤ j ∧ j ≤ 0x1C5B ∧ t = 1)) (ht : t < 256) :
    (m.sampleOne x).get j t = m.get j t := by
  have := x.domain.isLt
  by_cases hm : m.moved x
  · obtain ⟨trig, heq⟩ := Mod.sampleOne_moved hm
    rw [heq, Mod.get_trigger _ _ _ (by omega)]
  · rw [Mod.sampleOne_still hm]

/-- Two modules that agree on what judges samples and domains. -/
abbrev Mod.judgesAlike (m m' : Mod) : Prop := ∀ j t, ¬(0x1C40 ≤ j ∧ j ≤ 0x1C5B ∧ t = 1) → t < 256 → m'.get j t = m.get j t

theorem Mod.domainLive_congr {m' : Mod} (h : m.judgesAlike m') (d : Nat) : m'.domainLive d = m.domainLive d := by
  have hl (l : Nat) : m'.n (0x2480 + l) 1 = m.n (0x2480 + l) 1 := congrArg Val.nat (h _ _ (by omega) (by decide))
  unfold Mod.domainLive
  simp only [hl]

theorem Mod.mayAsk_congr {m' : Mod} (h : m.judgesAlike m') (d : Nat) : m'.mayAsk d ↔ m.mayAsk d := by
  unfold Mod.mayAsk Mod.dimmIn
  rw [show m'.n (0x2140 + (d - 10)) 1 = m.n (0x2140 + (d - 10)) 1 from congrArg Val.nat (h _ _ (by omega) (by decide)),
    show m'.n 0x1800 2 = m.n 0x1800 2 from congrArg Val.nat (h _ _ (by decide) (by decide))]

theorem Mod.moved_congr {m' : Mod} (h : m.judgesAlike m') (x : DomTemp) : m'.moved x ↔ m.moved x := by
  unfold Mod.moved Mod.z
  rw [h _ _ (by omega) (by decide), show m'.n 0x1C00 1 = m.n 0x1C00 1 from congrArg Val.nat (h _ _ (by decide) (by decide))]

theorem Mod.judgesAlike_trigger (m : Mod) (hd : d < 28) (trig : Nat) : m.judgesAlike (m.trigger d trig) :=
  fun _ _ _ _ => Mod.get_trigger _ _ _ (by omega)

theorem Mod.judgesAlike_sampleOne (m : Mod) (x : DomTemp) : m.judgesAlike (m.sampleOne x) := fun _ _ h ht => m.get_sampleOne x h ht

/-- A domain triggered by what a sample shows is queued, or its trigger kept. -/
theorem Mod.asked_trigger (hd : d < 28) (trig : Nat) (h : m.mayAsk d) : (m.trigger d trig).asked d := by
  obtain ⟨hdimm, hclock⟩ := h
  have hlive : (m.trigger d trig).domainLive d = m.domainLive d := Mod.domainLive_congr (m.judgesAlike_trigger hd trig) d
  unfold Mod.asked
  rw [hlive]
  unfold Mod.trigger
  rw [if_neg (by simp; exact ⟨hdimm, hclock⟩)]
  split
  · next hq => exact .inl (by simpa using hq)
  · split
    · next hl =>
      simp only [Bool.and_eq_true, decide_eq_true_eq, Bool.not_eq_true'] at hl
      obtain ⟨⟨⟨h9, hl⟩, -⟩, -⟩ := hl
      refine .inr ⟨h9, hl, ?_⟩
      split
      · next hk => simpa using hk
      · exact ⟨(d, trig), List.mem_append_right _ List.mem_cons_self, rfl⟩
    · dsimp only
      left
      split <;> exact ⟨(d, trig), List.mem_append_right _ List.mem_cons_self, rfl⟩

/-- A trigger of a domain takes that of no domain back. -/
theorem Mod.asked_trigger_mono {e : Nat} (he : e < 28) (trig : Nat) (h : m.asked d) : (m.trigger e trig).asked d := by
  have hlive : (m.trigger e trig).domainLive d = m.domainLive d := Mod.domainLive_congr (m.judgesAlike_trigger he trig) d
  obtain ⟨y, hy, hyd⟩ | ⟨h9, hl, y, hy, hyd⟩ := h
  · exact .inl ⟨y, m.mem_queued_trigger e trig hy, hyd⟩
  · have hsame : y ∈ (m.trigger e trig).cal.kept ∨ (e = d ∧ (e, trig) ∈ (m.trigger e trig).cal.queued) := by
      unfold Mod.trigger
      split
      · exact .inl hy
      · split
        · exact .inl hy
        · split
          · split
            · exact .inl hy
            · exact .inl (List.mem_append_left _ hy)
          · dsimp only
            by_cases hed : e = d
            · right
              split <;> exact ⟨hed, List.mem_append_right _ List.mem_cons_self⟩
            · left
              split <;> exact List.mem_filter.mpr ⟨hy, by simpa [hyd] using Ne.symm hed⟩
    rcases hsame with h | ⟨rfl, h⟩
    · exact .inr ⟨h9, hlive.trans hl, y, h, hyd⟩
    · exact .inl ⟨_, h, rfl⟩

theorem Mod.asked_sampleOne_mono (x : DomTemp) (h : m.asked d) : (m.sampleOne x).asked d := by
  by_cases hm : m.moved x
  · obtain ⟨trig, heq⟩ := Mod.sampleOne_moved hm
    rw [heq]
    exact Mod.asked_trigger_mono x.domain.isLt _ h
  · rwa [Mod.sampleOne_still hm]

/-- Every domain that a sample shows to have moved is asked for after it. -/
theorem Mod.asked_sample (m : Mod) (l : List DomTemp) : ∀ x ∈ l, m.moved x → m.mayAsk x.domain.val →
    (∃ y ∈ (m.each l fun (m : Mod) (x : DomTemp) => m.sampleOne x).cal.queued, y.1 = x.domain.val)
      ∨ (x.domain.val ≤ 9 ∧ m.domainLive x.domain.val = false
        ∧ ∃ y ∈ (m.each l fun (m : Mod) (x : DomTemp) => m.sampleOne x).cal.kept, y.1 = x.domain.val) := by
  have halike (l : List DomTemp) : m.judgesAlike (m.each l fun (m : Mod) (x : DomTemp) => m.sampleOne x) := fun j t h ht =>
    Mod.get_each fun m x _ => m.get_sampleOne x h ht
  have hall := Mod.each_establishes (l := l) (P := fun (x : DomTemp) (m : Mod) => m.moved x → m.mayAsk x.domain.val → m.asked x.domain.val)
    (g := fun (m : Mod) (x : DomTemp) => m.sampleOne x)
    (fun m x _ hm ha => by
      have hm := (Mod.moved_congr (m.judgesAlike_sampleOne x) x).mp hm
      have ha := (Mod.mayAsk_congr (m.judgesAlike_sampleOne x) _).mp ha
      obtain ⟨trig, heq⟩ := Mod.sampleOne_moved hm
      rw [heq]
      exact Mod.asked_trigger x.domain.isLt trig ha)
    (fun m x _ y _ h hm ha => Mod.asked_sampleOne_mono x
      (h ((Mod.moved_congr (m.judgesAlike_sampleOne x) y).mp hm) ((Mod.mayAsk_congr (m.judgesAlike_sampleOne x) _).mp ha))) m
  intro x hx hm ha
  have := hall x hx ((Mod.moved_congr (halike l) x).mpr hm) ((Mod.mayAsk_congr (halike l) _).mpr ha)
  unfold Mod.asked at this
  rwa [Mod.domainLive_congr (halike l)] at this

end

/-! ### Runs (R294-R299) -/

section
variable {m : Mod} {d : Nat}

theorem Mod.startRun_idle (h : m.cal.queued.find? (fun x => x.1 = d) = none) : m.startRun d = m := by
  unfold Mod.startRun
  rw [h]

theorem Mod.startRun_queued {x : Nat × Nat} (h : m.cal.queued.find? (fun y => y.1 = d) = some x) : m.startRun d =
    if !m.cal.mayStart d || m.cal.queued.any (fun y => y.1 < d && m.cal.mayStart y.1) then m
    else (m.modCal fun c =>
      { c with
        queued := c.queued.filter fun (y : Nat × Nat) => y.1 ≠ d,
        running := c.running ++ [⟨d, x.2, x.2 ≠ trigBringUp && x.2 ≠ trigRecovery && (d ≤ 26), 0, []⟩] }).put (0x1C40 + d) 1 2 := by
  unfold Mod.startRun
  rw [h]

theorem CalS.mayStart_lowest (c : CalS) (d : Nat) : (!c.mayStart d || c.queued.any (fun y => y.1 < d && c.mayStart y.1)) = false
    ↔ c.mayStart d = true ∧ ∀ y ∈ c.queued, y.1 < d → c.mayStart y.1 = false := by
  simp

/-- A run that starts is in progress, and queued no more. -/
theorem Mod.startRun_shows (hd : d < 28) {x : Nat × Nat} (h : m.cal.queued.find? (fun y => y.1 = d) = some x)
    (hs : m.cal.mayStart d = true ∧ ∀ y ∈ m.cal.queued, y.1 < d → m.cal.mayStart y.1 = false) : (m.startRun d).n (0x1C40 + d) 1 = 2
      ∧ (∃ y ∈ (m.startRun d).cal.running, y.domain = d ∧ y.trigger = x.2 ∧ y.stepped = 0
        ∧ (y.inService = true ↔ x.2 ≠ trigBringUp ∧ x.2 ≠ trigRecovery ∧ d ≤ 26))
      ∧ ∀ y ∈ (m.startRun d).cal.queued, y.1 ≠ d := by
  rw [Mod.startRun_queued h, (m.cal.mayStart_lowest d).mpr hs, if_neg Bool.false_ne_true]
  refine ⟨Mod.n_put _ _ _ _ (by omega), ⟨_, List.mem_append_right _ List.mem_cons_self, rfl, rfl, rfl, ?_⟩, fun y hy => ?_⟩
  · simp [and_assoc]
  · simpa using (List.mem_filter.mp hy).2

/-- The module with a domain's run taken out of those in progress. -/
def Mod.runTaken (m : Mod) (d : Nat) : Mod := m.modCal fun c => { c with running := c.running.filter fun (y : CalRun) => y.domain ≠ d }

theorem Mod.endRun_idle (res : CalResult) (h : m.cal.running.find? (fun y => y.domain = d) = none) : m.endRun d res = m := by
  unfold Mod.endRun
  rw [h]

/-- A run that ends, with the state its domain shows where another is queued. -/
def Mod.runEnded (m : Mod) (d : Nat) (x : CalRun) (res : CalResult) (good : Bool) : Mod :=
  if good then (m.runTaken d).passRun x res else (m.runTaken d).failRun x res.temp (if res.converged then 1 else 0)

theorem Mod.endRun_running {x : CalRun} (res : CalResult) (h : m.cal.running.find? (fun y => y.domain = d) = some x) : m.endRun d res =
    if (res.converged && res.inRange && res.steps ≤ stepLimit d) && x.stepped < x.needs res.steps then m
    else if (m.runEnded d x res (res.converged && res.inRange && res.steps ≤ stepLimit d)).cal.queued.any (fun y => y.1 = d) then
      (m.runEnded d x res (res.converged && res.inRange && res.steps ≤ stepLimit d)).put (0x1C40 + d) 1 1
    else m.runEnded d x res (res.converged && res.inRange && res.steps ≤ stepLimit d) := by
  unfold Mod.endRun
  rw [h]
  rfl

theorem Mod.domain_of_find {x : CalRun} (h : m.cal.running.find? (fun y => y.domain = d) = some x) : x.domain = d := by
  simpa using List.find?_some h

/-- Figures written leave the runs, the queue and what failed alone. -/
theorem Mod.cal_domainFigures (m : Mod) (d : Nat) (res : CalResult) : (m.domainFigures d res).cal.running = m.cal.running
    ∧ (m.domainFigures d res).cal.queued = m.cal.queued := by
  have hjudge (m : Mod) (k w h : Nat) (r : Int) : (m.judgeFigure k w h r).cal.running = m.cal.running
      ∧ (m.judgeFigure k w h r).cal.queued = m.cal.queued := by
    unfold Mod.judgeFigure
    dsimp only
    generalize (if 64 ≤ k then _ else _ : Bool) = low
    cases low
    · exact ⟨rfl, rfl⟩
    · simp only [if_true, Mod.raise_cal]
      exact ⟨rfl, rfl⟩
  unfold Mod.domainFigures
  dsimp only
  split_ifs <;> simp [hjudge]

/-- What every run that ends shows: its count, its time and temperature, its trigger. -/
def Mod.runShown (m m' : Mod) (x : CalRun) (temp : Int) : Prop :=
  m'.n (0x1C40 + x.domain) 2 = (m.bump (0x1C40 + x.domain) 2).n (0x1C40 + x.domain) 2 ∧ m'.n (0x1C40 + x.domain) 4 = m.now
    ∧ m'.z (0x1C40 + x.domain) 5 = temp ∧ m'.n (0x1C40 + x.domain) 0x0A = x.trigger

/-- A run that passes shows it, is told of, and leaves runs and queue alone. -/
theorem Mod.passRun_shows (m : Mod) (x : CalRun) (res : CalResult) (hd : x.domain < 28) : m.runShown (m.passRun x res) x res.temp
    ∧ (m.passRun x res).n (0x1C40 + x.domain) 3 = m.n (0x1C40 + x.domain) 3 ∧ (m.passRun x res).n (0x1C40 + x.domain) 1 = 0
    ∧ (m.passRun x res).told 0x1C01 x.domain [x.domain, x.trigger, if x.inService then max x.stepped (x.needs res.steps) else res.steps]
    ∧ (m.passRun x res).cal.running = m.cal.running ∧ (m.passRun x res).cal.queued = m.cal.queued := by
  have hfig (m : Mod) (c : Prop) [Decidable c] {k : Nat} (hk : k < 6 ∨ k = 0x0A) :
      (if c then m.domainFigures x.domain res else m).get (0x1C40 + x.domain) k = m.get (0x1C40 + x.domain) k := by
    have hjudge (m : Mod) (q w h : Nat) (r : Int) : (m.judgeFigure q w h r).get (0x1C40 + x.domain) k = m.get (0x1C40 + x.domain) k := by
      unfold Mod.judgeFigure
      dsimp only
      rw [apply_ite (Mod.get · _ _), Mod.get_raise_frame _ _ _ _ (by omega), Mod.get_modCal, ite_self]
    unfold Mod.domainFigures
    dsimp only
    split_ifs <;> simp (disch := omega) [hjudge]
  unfold Mod.passRun Mod.runShown Mod.n Mod.z
  dsimp only
  have hcal (m : Mod) (c : Prop) [Decidable c] : (if c then m.domainFigures x.domain res else m).cal.running = m.cal.running
      ∧ (if c then m.domainFigures x.domain res else m).cal.queued = m.cal.queued := by
    split
    · exact m.cal_domainFigures _ _
    · exact ⟨rfl, rfl⟩
  refine ⟨⟨?_, ?_, ?_, ?_⟩, ?_, ?_, Mod.raise_told _ _ _ _, ?_, ?_⟩
  · rw [Mod.get_raise_frame _ _ _ _ (by omega), hfig _ _ (by decide), Mod.get_modCal]
    simp (disch := omega)
  · rw [Mod.get_raise_frame _ _ _ _ (by omega), hfig _ _ (by decide), Mod.get_modCal]
    simp (disch := omega) [Val.nat, Val.int]
  · rw [Mod.get_raise_frame _ _ _ _ (by omega), hfig _ _ (by decide), Mod.get_modCal]
    simp (disch := omega) [Val.int]
  · rw [Mod.get_raise_frame _ _ _ _ (by omega), hfig _ _ (by decide), Mod.get_modCal]
    simp (disch := omega) [Val.nat, Val.int]
  · rw [Mod.get_raise_frame _ _ _ _ (by omega), hfig _ _ (by decide), Mod.get_modCal]
    simp (disch := omega)
  · rw [Mod.get_raise_frame _ _ _ _ (by omega), hfig _ _ (by decide), Mod.get_modCal]
    simp (disch := omega) [Val.nat, Val.int]
  · rw [Mod.raise_cal, (hcal _ _).1]
    simp [Mod.modCal]
  · rw [Mod.raise_cal, (hcal _ _).2]
    simp [Mod.modCal]

/-- A run that fails shows it, is told of and counted, and is noted where it was of the bring-up. -/
theorem Mod.failRun_shows (m : Mod) (x : CalRun) (temp : Int) (cause : Nat) (hd : x.domain < 28) : m.runShown (m.failRun x temp cause) x temp
    ∧ (m.failRun x temp cause).n (0x1C40 + x.domain) 3 = (m.bump (0x1C40 + x.domain) 3).n (0x1C40 + x.domain) 3
    ∧ (m.failRun x temp cause).n (0x1C40 + x.domain) 1 = 4 ∧ (m.failRun x temp cause).told 0x1C02 x.domain [x.domain, cause]
    ∧ (m.failRun x temp cause).cal.running = m.cal.running ∧ (m.failRun x temp cause).cal.queued = m.cal.queued
    ∧ (x.trigger = trigBringUp → x.domain ∈ (m.failRun x temp cause).cal.failed) := by
  have hshown (j t : Nat) (hj : j < 0x7400) (ht : t < 256) : (m.failRun x temp cause).get j t =
      ((((((m.bump (0x1C40 + x.domain) 2).bump (0x1C40 + x.domain) 3).put (0x1C40 + x.domain) 4 m.now).putZ (0x1C40 + x.domain) 5 temp).put
        (0x1C40 + x.domain) 1 4).put (0x1C40 + x.domain) 0x0A x.trigger).get j t := by
    unfold Mod.failRun
    dsimp only
    rw [apply_ite (Mod.get · j t), Mod.get_modCal, ite_self, Mod.get_raise_frame _ _ _ _ (by omega)]
  have hcal (m : Mod) (c : Bool) : (if (c && !m.cal.failed.contains x.domain) = true then
        m.modCal fun k => { k with failed := k.failed ++ [x.domain] } else m).cal.running = m.cal.running
      ∧ (if (c && !m.cal.failed.contains x.domain) = true then m.modCal fun k => { k with failed := k.failed ++ [x.domain] } else m).cal.queued
        = m.cal.queued
      ∧ (c = true → x.domain ∈
        (if (c && !m.cal.failed.contains x.domain) = true then m.modCal fun k => { k with failed := k.failed ++ [x.domain] } else m).cal.failed) := by
    split
    · exact ⟨rfl, rfl, fun _ => List.mem_append_right _ List.mem_cons_self⟩
    · next h => exact ⟨rfl, rfl, fun hc => by simpa [hc] using h⟩
  refine ⟨⟨?_, ?_, ?_, ?_⟩, ?_, ?_, ?_, ?_, ?_, fun ht => ?_⟩
  · unfold Mod.n
    rw [hshown _ _ (by omega) (by decide)]
    simp (disch := omega)
  · unfold Mod.n
    rw [hshown _ _ (by omega) (by decide)]
    simp (disch := omega) [Val.nat, Val.int]
  · unfold Mod.z
    rw [hshown _ _ (by omega) (by decide)]
    simp (disch := omega) [Val.int]
  · unfold Mod.n
    rw [hshown _ _ (by omega) (by decide)]
    simp (disch := omega) [Val.nat, Val.int]
  · refine (congrArg Val.nat (hshown _ _ (by omega) (by decide))).trans ?_
    refine Eq.trans ?_ (Mod.n_bump_congr (m' := m.bump (0x1C40 + x.domain) 2) (by omega) (congrArg Val.nat (Mod.get_bump_frame _ (by omega) (by omega))))
    unfold Mod.n
    simp (disch := omega)
  · unfold Mod.n
    rw [hshown _ _ (by omega) (by decide)]
    simp (disch := omega) [Val.nat, Val.int]
  · unfold Mod.failRun
    dsimp only
    split <;> exact ⟨_, Mod.mem_raise _ _ _ _⟩
  · unfold Mod.failRun
    dsimp only
    rw [(hcal _ _).1, Mod.raise_cal]
    simp
  · unfold Mod.failRun
    dsimp only
    rw [(hcal _ _).2.1, Mod.raise_cal]
    simp
  · unfold Mod.failRun
    dsimp only
    exact (hcal _ _).2.2 (by simp [ht])

/-- A domain's state after a run: queued where it is queued again. -/
def Mod.requeuedShown (m : Mod) (d : Nat) : Mod := if m.cal.queued.any (fun y => y.1 = d) then m.put (0x1C40 + d) 1 1 else m

theorem Mod.get_requeuedShown (m : Mod) {k : Nat} (hk : k ≠ 1) : (m.requeuedShown d).get (0x1C40 + d) k = m.get (0x1C40 + d) k := by
  unfold Mod.requeuedShown
  split
  · exact m.get_put_frame _ (by omega) (by omega)
  · rfl

theorem Mod.n_requeuedShown (m : Mod) (hd : d < 28) :
    (m.requeuedShown d).n (0x1C40 + d) 1 = if m.cal.queued.any (fun y => y.1 = d) then 1 else m.n (0x1C40 + d) 1 := by
  unfold Mod.requeuedShown
  split
  · exact Mod.n_put _ _ _ _ (by omega)
  · rfl

theorem Mod.requeuedShown_part (m : Mod) {p : Part} (h : p ∉ [.objs]) : (m.requeuedShown d).part p = m.part p := by
  unfold Mod.requeuedShown
  split
  · exact Mod.put_part _ _ _ _ h
  · rfl

/-- A run that ends is one that passes or one that fails. -/
theorem Mod.endRun_ended {x : CalRun} (res : CalResult) (h : m.cal.running.find? (fun y => y.domain = d) = some x)
    {good : Prop} (hgood : good ↔ res.converged = true ∧ res.inRange = true ∧ res.steps ≤ stepLimit d)
    (hend : ¬good ∨ x.needs res.steps ≤ x.stepped) :
    (good → m.endRun d res = ((m.runTaken d).passRun x res).requeuedShown d)
      ∧ (¬good → m.endRun d res = ((m.runTaken d).failRun x res.temp (if res.converged then 1 else 0)).requeuedShown d) := by
  have hb : (res.converged && res.inRange && res.steps ≤ stepLimit d) = true ↔ good := by
    rw [hgood]
    simp [and_assoc]
  refine ⟨fun hg => ?_, fun hg => ?_⟩
  · rw [Mod.endRun_running res h, hb.mpr hg, if_neg (by simpa using hend.resolve_left (not_not.mpr hg))]
    rfl
  · rw [Mod.endRun_running res h, Bool.eq_false_iff.mpr fun hc => hg (hb.mp hc), if_neg (by simp)]
    rfl

/-- What a run that ends shows, with the state its domain is left in. -/
theorem Mod.endRun_shows (hd : d < 28) {x : CalRun} (res : CalResult) (h : m.cal.running.find? (fun y => y.domain = d) = some x)
    {good : Prop} (hgood : good ↔ res.converged = true ∧ res.inRange = true ∧ res.steps ≤ stepLimit d)
    (hend : ¬good ∨ x.needs res.steps ≤ x.stepped) :
    (m.endRun d res).cal.runsIn d = false ∧ (m.endRun d res).n (0x1C40 + d) 2 = (m.bump (0x1C40 + d) 2).n (0x1C40 + d) 2
      ∧ (m.endRun d res).n (0x1C40 + d) 4 = m.now ∧ (m.endRun d res).z (0x1C40 + d) 5 = res.temp
      ∧ (m.endRun d res).n (0x1C40 + d) 0x0A = x.trigger
      ∧ (good → (m.endRun d res).n (0x1C40 + d) 3 = m.n (0x1C40 + d) 3
        ∧ (m.endRun d res).n (0x1C40 + d) 1 = (if m.cal.queued.any (fun y => y.1 = d) then 1 else 0)
        ∧ (m.endRun d res).told 0x1C01 d [d, x.trigger, if x.inService then max x.stepped (x.needs res.steps) else res.steps])
      ∧ (¬good → (m.endRun d res).n (0x1C40 + d) 3 = (m.bump (0x1C40 + d) 3).n (0x1C40 + d) 3
        ∧ (m.endRun d res).n (0x1C40 + d) 1 = (if m.cal.queued.any (fun y => y.1 = d) then 1 else 4)
        ∧ (m.endRun d res).told 0x1C02 d [d, if res.converged then 1 else 0]
        ∧ (x.trigger = trigBringUp → d ∈ (m.endRun d res).cal.failed)) := by
  obtain ⟨hpass, hfail⟩ := Mod.endRun_ended res h hgood hend
  have hdom := Mod.domain_of_find h
  have htaken {k : Nat} (hk : k < 6) : ((m.runTaken d).bump (0x1C40 + d) k).n (0x1C40 + d) k = (m.bump (0x1C40 + d) k).n (0x1C40 + d) k :=
    Mod.n_bump_congr (by omega) rfl
  have hruns (m' : Mod) (hr : m'.cal.running = (m.runTaken d).cal.running) : m'.cal.runsIn d = false := by
    unfold CalS.runsIn
    rw [hr]
    simp [Mod.runTaken, Mod.modCal]
  have hcal (m' : Mod) : (m'.requeuedShown d).cal = m'.cal := m'.requeuedShown_part (p := .cal) (by decide)
  have htold {m' : Mod} {c r : Nat} {p : List Nat} (ht : m'.told c r p) : (m'.requeuedShown d).told c r p :=
    Mod.told_of_tells (Mod.tells_of_part (m'.requeuedShown_part (by decide)) Mod.tells_refl) ht
  have hn (m' : Mod) {k : Nat} (hk : k ≠ 1) : (m'.requeuedShown d).n (0x1C40 + d) k = m'.n (0x1C40 + d) k :=
    congrArg Val.nat (m'.get_requeuedShown hk)
  have hz (m' : Mod) : (m'.requeuedShown d).z (0x1C40 + d) 5 = m'.z (0x1C40 + d) 5 :=
    congrArg Val.int (m'.get_requeuedShown (by decide))
  by_cases hg : good
  · obtain ⟨⟨h2, h4, h5, hA⟩, h3, h1, ht, hrun, hq⟩ := (m.runTaken d).passRun_shows x res (hdom ▸ hd)
    rw [hdom] at h2 h4 h5 hA h3 h1 ht
    rw [hpass hg, hcal, hn _ (by decide), hn _ (by decide), hz, hn _ (by decide), hn _ (by decide),
      Mod.n_requeuedShown _ hd, h1, hq]
    exact ⟨hruns _ hrun, h2.trans (htaken (by decide)), h4, h5, hA, fun _ => ⟨h3, rfl, htold ht⟩, fun hn => absurd hg hn⟩
  · obtain ⟨⟨h2, h4, h5, hA⟩, h3, h1, ht, hrun, hq, hf⟩ :=
      (m.runTaken d).failRun_shows x res.temp (if res.converged then 1 else 0) (hdom ▸ hd)
    rw [hdom] at h2 h4 h5 hA h3 h1 ht hf
    rw [hfail hg, hcal, hn _ (by decide), hn _ (by decide), hz, hn _ (by decide), hn _ (by decide),
      Mod.n_requeuedShown _ hd, h1, hq]
    exact ⟨hruns _ hrun, h2.trans (htaken (by decide)), h4, h5, hA, fun hp => absurd hp hg, fun _ => ⟨h3.trans (htaken (by decide)), rfl, htold ht, hf⟩⟩

end

/-- Settles O45: samples by what they trigger, runs by what starts and ends them. -/
theorem calibrationRunsInOrder : Obligations.CalibrationRunsInOrder := by
  unfold Obligations.CalibrationRunsInOrder
  intro s t h m
  have hb : m.rebooting = false := h.2
  refine ⟨fun l => ?_, fun d => ⟨fun hn => ?_, fun x hx => ?_⟩, fun d res => ?_⟩
  · intro samples moved
    have heq : m.sampleTemperatures l = if !m.flag 0x1C00 2 || m.cal.runsIn 27 then m else m.each l fun (m : Mod) (x : DomTemp) => m.sampleOne x :=
      Mod.sampleTemperatures_eq l
    refine ⟨fun hn => ?_, fun hstill => ?_, fun hs => ?_⟩
    · refine does_act (g := fun m => m.sampleTemperatures l) h rfl (heq.trans (if_pos ?_)) hb
      have hn : ¬(m.flag 0x1C00 2 = true ∧ m.cal.runsIn 27 = false) := hn
      simpa [imp_iff_not_or] using hn
    · have hnone : (m.each l fun (m : Mod) (x : DomTemp) => m.sampleOne x) = m := by
        unfold Mod.each
        induction l with
        | nil => rfl
        | cons x l ih =>
          rw [List.foldl_cons, Mod.sampleOne_still (hstill x List.mem_cons_self)]
          exact ih (Mod.sampleTemperatures_eq l) fun y hy => hstill y (List.mem_cons_of_mem _ hy)
      exact does_act (g := fun m => m.sampleTemperatures l) h rfl (heq.trans (by rw [hnone, ite_self])) hb
    · obtain ⟨hon, hrun⟩ := hs
      refine completes_act (g := fun m => m.sampleTemperatures l) rfl h ?_ fun _ h => h
      intro x hx hm hd hc
      show (∃ y ∈ (m.sampleTemperatures l).cal.queued, _) ∨ (_ ∧ _ ∧ ∃ y ∈ (m.sampleTemperatures l).cal.kept, _)
      rw [heq, if_neg (by rw [hon, hrun]; decide)]
      exact m.asked_sample l x hx hm ⟨hd, hc⟩
  · exact does_act (g := fun m => m.startRun d.val) h rfl (Mod.startRun_idle hn) hb
  · intro starts
    refine ⟨fun hn => ?_, fun hs => ?_⟩
    · refine does_act (g := fun m => m.startRun d.val) h rfl ((Mod.startRun_queued hx).trans (if_pos ?_)) hb
      exact Bool.not_eq_false _ ▸ fun hc => hn ((m.cal.mayStart_lowest d.val).mp hc)
    · exact completes_act (g := fun m => m.startRun d.val) rfl h (Mod.startRun_shows d.isLt hx hs) fun _ h => h
  · intro o good
    refine ⟨fun hn => ?_, fun x hx => ⟨fun hg hlt => ?_, fun hend => ?_⟩⟩
    · exact does_act (g := fun m => m.endRun d.val res) h rfl (Mod.endRun_idle res hn) hb
    · obtain ⟨hconv, hrange, hsteps⟩ := hg
      refine does_act (g := fun m => m.endRun d.val res) h rfl ((Mod.endRun_running res hx).trans (if_pos ?_)) hb
      simp [hconv, hrange, hsteps, hlt]
    · exact completes_act (g := fun m => m.endRun d.val res) rfl h (Mod.endRun_shows d.isLt res hx (good := good) Iff.rfl hend) fun _ h => h

end Sys2Proof.Machine
end

section
/-! SUPPORT. Clocks: the windows that judge them, sources that stop, PLLs that coast and lock again (R281-R292). -/

namespace Sys2Proof.Machine

/-! ### What the end of the media tells, and what it leaves of the clocks -/

section
variable {a m : Mod} (h : a.tells m)
include h

theorem Mod.tells_endDecode (e : Nat) : a.tells (m.endDecode e) := by
  unfold Mod.endDecode
  dsimp only
  refine Mod.tells_put (Mod.tells_ite (Mod.tells_raiseClear _ _ _ _ ?_) ?_) _ _ _ <;>
    exact Mod.tells_ite (Mod.tells_raiseClear _ _ _ _ (Mod.tells_of_part (by simp) h)) (Mod.tells_of_part (by simp) h)

theorem Mod.tells_endReplay : a.tells m.endReplay := by
  have hslot (m : Mod) (k : Nat) (g : SlotS → SlotS) (c : Prop) [Decidable c] (h : a.tells m) :
      a.tells (if c then (m.modSlot k g).abortSlot k 1 0 else m.modSlot k g) := by
    have hmod : a.tells (m.modSlot k g) := Mod.tells_of_raised rfl h
    refine Mod.tells_ite ?_ hmod
    unfold Mod.abortSlot
    exact Mod.tells_raise _ _ _ (Mod.tells_put (Mod.tells_put hmod _ _ _) _ _ _)
  unfold Mod.endReplay
  dsimp only
  refine Mod.tells_put (Mod.tells_put (Mod.tells_of_part (Mod.clearRange_part _ _ _ _ _ (by decide)) ?_) _ _ _) _ _ _
  have hrings {m : Mod} (x : List (Option Ring)) (h : a.tells m) : a.tells { m with rings := x } := Mod.tells_of_raised rfl h
  exact hrings _ (Mod.tells_each (fun m k h => hslot m k _ _ h) h)

theorem Mod.tells_haltFn (fid : Nat) (drop : Bool) : a.tells (m.haltFn fid drop) := by
  have hmod (g : PreudS → PreudS) : a.tells (m.modPreud g) := Mod.tells_of_raised rfl h
  have hrend {m : Mod} (h : a.tells m) (r : Nat) (g : RendS → RendS) : a.tells (m.modRend r g) := Mod.tells_of_raised rfl h
  have hset {m : Mod} (h : a.tells m) (f st : Nat) : a.tells (m.setFn f st) := Mod.tells_of_part (Mod.setFn_part _ _ _ (by decide)) h
  unfold Mod.haltFn
  dsimp only
  split_ifs
  · exact hmod _
  · exact Mod.tells_of_part (Mod.restChannel_part _ _ (by decide)) (hmod _)
  · exact hrend (Mod.tells_of_part (Mod.endRendition_part _ _ (by decide)) (hmod _)) _ _
  · exact Mod.tells_of_part (Mod.restRendition_part _ _ (by decide)) (hmod _)
  · exact hset (Mod.tells_endDecode (hmod _) _) _ _
  · exact hset (Mod.tells_endReplay (hmod _)) _ _
  · exact hmod _

theorem Mod.tells_discardOpen (fid cause : Nat) : a.tells (m.discardOpen fid cause) := by
  unfold Mod.discardOpen
  split
  · exact h
  · exact Mod.tells_ite h (Mod.tells_raise _ _ _ (Mod.tells_of_part (Mod.removeChangeSet_part _ _ (by decide)) h))

/-- The end of the media takes no event back. -/
theorem Mod.tells_haltMedia : a.tells m.haltMedia := by
  unfold Mod.haltMedia
  dsimp only
  refine Mod.tells_of_part (Mod.showTimed_part _ (by decide)) (Mod.tells_each (fun m f h => Mod.tells_haltFn h _ _) ?_)
  exact Mod.tells_each (fun m f h => Mod.tells_discardOpen h _ _) (Mod.tells_of_raised rfl h)

theorem Mod.tells_dropUnclocked : a.tells m.dropUnclocked := by
  unfold Mod.dropUnclocked
  exact Mod.tells_each (fun m u h => Mod.tells_ite (Mod.tells_toDetect _ (Mod.tells_leave _ _ h)) h) h

end

theorem Mod.get_dropUnclocked (m : Mod) {j t : Nat} (h : ¬linkObject j t) (ht : t < 256) : m.dropUnclocked.get j t = m.get j t := by
  unfold Mod.dropUnclocked
  refine Mod.get_each fun m u hu => ?_
  have := List.mem_range.mp hu
  split
  · exact m.get_drop this h ht _
  · rfl

/-! ### Windows (R281, R282) -/

section
variable (m : Mod) {c : Nat} (k : Nat)

/-- A source shows how far the count of its window is off. -/
def Mod.gateShown (m : Mod) (c k : Nat) : Mod :=
  if c ≤ 3 then m.putZ 0x1800 (5 + c) (((k : Int) - m.gateNominal c) * 1000000000 / m.gateNominal c) else m

/-- The windows in a row within tolerance, with this one. -/
def Mod.gateRun (m : Mod) (c k : Nat) : Nat :=
  if c ≠ 3 || nth m.clk.runs c = 0 || m.source 3 = 1 || ((k : Int) - m.clk.xbFirst).natAbs ≤ 2 then min 8 (nth m.clk.runs c + 1) else 1

/-- A window out of tolerance: the eight begin anew. -/
def Mod.gateOutside (m : Mod) (c : Nat) : Mod :=
  let m := m.modClk fun s => { s with runs := s.runs.set c 0 }
  if c ≤ 3 && m.source c ≠ 0 then (m.put 0x1800 (1 + c) 2).raise 0x1802 c [c, 2] else m

/-- A window within tolerance: the eighth in a row judges the clock stable. -/
def Mod.gateInside (m : Mod) (c k run' : Nat) : Mod :=
  let run := nth m.clk.runs c
  let m := m.modClk fun s =>
    { s with
      runs := s.runs.set c run'
      xbFirst := if c = 3 && run' = 1 then k else s.xbFirst }
  if run' = 8 && c ≤ 3 && m.source c ≠ 1 then m.judgeStable c
  else if run' = 8 && run ≠ 8 && 4 ≤ c then m.raise 0x1801 c [c] else m

theorem Mod.gateWindow_eq : m.gateWindow c k =
    if c = 0 || (c ≤ 3 && m.source c = 3) || (c = 3 && (!m.clk.settled || m.source 2 = 3))
      || (4 ≤ c && m.n (0x1810 + (c - 4)) 1 ≠ 1) then m
    else if !(decide (((k : Int) - m.gateNominal c).natAbs ≤ (m.gateShown c k).gateTolerance c)) then (m.gateShown c k).gateOutside c
    else (m.gateShown c k).gateInside c k ((m.gateShown c k).gateRun c k) := rfl

/-- The count of windows goes on where the count is near the first one's, or need not be. -/
theorem Mod.gateRun_eq : (if c ≠ 3 ∨ nth m.clk.runs 3 = 0 ∨ m.source 3 = 1 ∨ ((k : Int) - m.clk.xbFirst).natAbs ≤ 2 then
    min 8 (nth m.clk.runs c + 1) else 1) = m.gateRun c k := by
  unfold Mod.gateRun
  by_cases h : c = 3
  · subst h
    simp [or_assoc]
  · simp [h]

theorem Mod.n_gateShown {j t : Nat} (h : j ≠ 0x1800 ∨ t < 5) (ht : t < 256) : (m.gateShown c k).n j t = m.n j t := by
  unfold Mod.gateShown
  split
  · exact congrArg Val.nat (m.get_putZ_frame _ (by omega) (by omega))
  · rfl

theorem Mod.gateShown_clk : (m.gateShown c k).clk = m.clk := by
  unfold Mod.gateShown
  split <;> rfl

theorem Mod.source_gateShown {d : Nat} (hd : d < 4) : (m.gateShown c k).source d = m.source d := m.n_gateShown k (by omega) (by omega)

theorem Mod.gateTolerance_gateShown : (m.gateShown c k).gateTolerance c = m.gateTolerance c := by
  unfold Mod.gateTolerance Mod.gateNominal Mod.gateOf
  rw [m.n_gateShown k (by omega) (by decide)]

theorem Mod.gateRun_gateShown : (m.gateShown c k).gateRun c k = m.gateRun c k := by
  unfold Mod.gateRun
  rw [Mod.gateShown_clk, Mod.source_gateShown _ _ (by decide)]

theorem Mod.z_gateShown (hc : c ≤ 3) :
    (m.gateShown c k).z 0x1800 (5 + c) = ((k : Int) - m.gateNominal c) * 1000000000 / m.gateNominal c := by
  unfold Mod.gateShown
  rw [if_pos hc]
  exact congrArg Val.int (m.get_putZ_same _ (by omega))

/-- A clock judged stable shows it and is told of; XB takes the counters over. -/
theorem Mod.judgeStable_shows (hc : c ≤ 3) : (m.judgeStable c).source c = 1 ∧ (m.judgeStable c).told 0x1801 c [c]
    ∧ (m.judgeStable c).clk.runs = m.clk.runs ∧ (c = 3 → (m.judgeStable c).clk.counterOn = 3)
    ∧ (m.judgeStable c).z 0x1800 (5 + c) = m.z 0x1800 (5 + c) := by
  have hput : ((m.put 0x1800 (1 + c) 1).raise 0x1801 c [c]).source c = 1 :=
    (Mod.n_raise _ _ _ _ (by omega)).trans (m.n_put _ _ _ (by omega))
  have hz : ((m.put 0x1800 (1 + c) 1).raise 0x1801 c [c]).z 0x1800 (5 + c) = m.z 0x1800 (5 + c) :=
    congrArg Val.int ((Mod.get_raise_frame _ _ _ _ (by omega)).trans (m.get_put_frame _ (by omega) (by omega)))
  have hclk : ((m.put 0x1800 (1 + c) 1).raise 0x1801 c [c]).clk = m.clk := (Mod.raise_clk _ _ _ _).trans (Mod.put_clk _ _ _ _)
  have htold := Mod.raise_told (m.put 0x1800 (1 + c) 1) 0x1801 c [c]
  unfold Mod.judgeStable
  dsimp only
  generalize (m.put 0x1800 (1 + c) 1).raise 0x1801 c [c] = x at *
  have hruns : x.clk.runs = m.clk.runs := congrArg ClockS.runs hclk
  split
  · next h3 =>
    split
    · refine ⟨?_, htold, hruns, fun _ => rfl, ?_⟩
      · exact (Mod.n_put_other _ _ (by decide) (by omega)).trans hput
      · exact (congrArg Val.int (Mod.get_put_frame _ _ (by decide) (by omega))).trans hz
    · exact ⟨hput, htold, hruns, fun _ => rfl, hz⟩
  · next h3 => exact ⟨hput, htold, hruns, fun h => absurd h h3, hz⟩

/-- A window out of tolerance shows it, and where the clock ran puts it out of tolerance. -/
theorem Mod.gateOutside_shows : (m.gateOutside c).clk.runs = m.clk.runs.set c 0
    ∧ (c ≤ 3 → (m.gateOutside c).source c = (if m.source c = 0 then 0 else 2) ∧ (m.source c ≠ 0 → (m.gateOutside c).told 0x1802 c [c, 2])
      ∧ (m.gateOutside c).z 0x1800 (5 + c) = m.z 0x1800 (5 + c)) := by
  have hsource (g : ClockS → ClockS) : (m.modClk g).source c = m.source c := rfl
  unfold Mod.gateOutside
  dsimp only
  rw [hsource]
  split
  · next h =>
    simp only [Bool.and_eq_true, decide_eq_true_eq] at h
    obtain ⟨hc, h0⟩ := h
    refine ⟨?_, fun _ => ⟨?_, fun _ => Mod.raise_told _ _ _ _, ?_⟩⟩
    · rw [Mod.raise_clk, Mod.put_clk]
      rfl
    · rw [if_neg h0]
      exact (Mod.n_raise _ _ _ _ (by omega)).trans (Mod.n_put _ _ _ _ (by omega))
    · refine congrArg Val.int ?_
      rw [Mod.get_raise_frame _ _ _ _ (by omega), Mod.get_put_frame _ _ (by omega) (by omega)]
      rfl
  · next h =>
    refine ⟨rfl, fun hc => ?_⟩
    have h0 : m.source c = 0 := by simpa [hc] using h
    exact ⟨by rw [if_pos h0]; exact h0, fun hn => absurd h0 hn, rfl⟩

/-- A window within tolerance shows it, and the eighth in a row judges the clock. -/
theorem Mod.gateInside_shows (hc : c < 10) (run : Nat) : (m.gateInside c k run).clk.runs = m.clk.runs.set c run
    ∧ (c ≤ 3 → (m.gateInside c k run).source c = (if run = 8 then 1 else m.source c)
      ∧ (run = 8 → m.source c ≠ 1 → (m.gateInside c k run).told 0x1801 c [c])
      ∧ (m.gateInside c k run).z 0x1800 (5 + c) = m.z 0x1800 (5 + c))
    ∧ (4 ≤ c → run = 8 → nth m.clk.runs c ≠ 8 → (m.gateInside c k run).told 0x1801 c [c])
    ∧ (c = 3 → run = 8 → m.source 3 ≠ 1 → (m.gateInside c k run).clk.counterOn = 3) := by
  have hsource (g : ClockS → ClockS) (d : Nat) : (m.modClk g).source d = m.source d := rfl
  have hz (g : ClockS → ClockS) : (m.modClk g).z 0x1800 (5 + c) = m.z 0x1800 (5 + c) := rfl
  have hruns (f : ClockS → Nat) : (m.modClk fun s => { s with runs := s.runs.set c run, xbFirst := f s }).clk.runs = m.clk.runs.set c run := rfl
  unfold Mod.gateInside
  dsimp only
  have hsrc := hsource fun s => { s with runs := s.runs.set c run, xbFirst := if c = 3 && run = 1 then k else s.xbFirst }
  have hz := hz fun s => { s with runs := s.runs.set c run, xbFirst := if c = 3 && run = 1 then k else s.xbFirst }
  have hruns := hruns fun s => if c = 3 && run = 1 then k else s.xbFirst
  generalize (m.modClk fun s => { s with runs := s.runs.set c run, xbFirst := if c = 3 && run = 1 then k else s.xbFirst }) = x at *
  rw [hsrc]
  by_cases h1 : (run = 8 && c ≤ 3 && m.source c ≠ 1) = true
  · rw [if_pos h1]
    simp only [Bool.and_eq_true, decide_eq_true_eq] at h1
    obtain ⟨⟨h8, h3⟩, hn1⟩ := h1
    obtain ⟨hs, ht, hr, hco, hz'⟩ := x.judgeStable_shows h3
    exact ⟨hr.trans hruns, fun _ => ⟨by rw [if_pos h8]; exact hs, fun _ _ => ht, hz'.trans hz⟩, fun h4 => absurd h4 (by omega),
      fun hc3 _ _ => hco hc3⟩
  rw [if_neg h1]
  by_cases h2 : (run = 8 && nth m.clk.runs c ≠ 8 && 4 ≤ c) = true
  · rw [if_pos h2]
    simp only [Bool.and_eq_true, decide_eq_true_eq] at h2
    obtain ⟨⟨h8, hr8⟩, h4⟩ := h2
    exact ⟨by rw [Mod.raise_clk, hruns], fun h3 => absurd h3 (by omega), fun _ _ _ => Mod.raise_told _ _ _ _, fun h3 => absurd h3 (by omega)⟩
  · rw [if_neg h2]
    simp only [Bool.and_eq_true, decide_eq_true_eq, not_and, not_not] at h1 h2
    refine ⟨hruns, fun h3 => ⟨?_, fun h8 hn => absurd (h1 ⟨h8, h3⟩) hn, hz⟩, fun h4 h8 hr => absurd h4 (h2 ⟨h8, hr⟩), fun h3 h8 hn => ?_⟩
    · rw [hsrc]
      split
      · next h8 => exact h1 ⟨h8, h3⟩
      · rfl
    · subst h3
      exact absurd (h1 ⟨h8, by decide⟩) hn

/-- What a window of a clock that is judged shows. -/
theorem Mod.gateWindow_shows (hc : c < 10) (hi : ¬(c = 0 ∨ (c ≤ 3 ∧ m.source c = 3) ∨ (c = 3 ∧ (m.clk.settled = false ∨ m.source 2 = 3))
      ∨ (4 ≤ c ∧ m.n (0x1810 + (c - 4)) 1 ≠ 1))) :
    (c ≤ 3 → (m.gateWindow c k).z 0x1800 (5 + c) = ((k : Int) - m.gateNominal c) * 1000000000 / m.gateNominal c)
      ∧ (m.gateTolerance c < ((k : Int) - m.gateNominal c).natAbs → (m.gateWindow c k).clk.runs = m.clk.runs.set c 0
        ∧ (c ≤ 3 → (m.gateWindow c k).source c = (if m.source c = 0 then 0 else 2)
          ∧ (m.source c ≠ 0 → (m.gateWindow c k).told 0x1802 c [c, 2])))
      ∧ (((k : Int) - m.gateNominal c).natAbs ≤ m.gateTolerance c → (m.gateWindow c k).clk.runs = m.clk.runs.set c (m.gateRun c k)
        ∧ (c ≤ 3 → (m.gateWindow c k).source c = (if m.gateRun c k = 8 then 1 else m.source c)
          ∧ (m.gateRun c k = 8 → m.source c ≠ 1 → (m.gateWindow c k).told 0x1801 c [c]))
        ∧ (4 ≤ c → m.gateRun c k = 8 → nth m.clk.runs c ≠ 8 → (m.gateWindow c k).told 0x1801 c [c])
        ∧ (c = 3 → m.gateRun c k = 8 → m.source 3 ≠ 1 → (m.gateWindow c k).clk.counterOn = 3)) := by
  have hclk := m.gateShown_clk (c := c) k
  have hz := m.z_gateShown (c := c) k
  have hs (d : Nat) (hd : d < 4) := m.source_gateShown (c := c) k hd
  rw [m.gateWindow_eq k, if_neg (by simpa [not_or, and_assoc] using hi), m.gateTolerance_gateShown, m.gateRun_gateShown]
  by_cases ho : ((k : Int) - m.gateNominal c).natAbs ≤ m.gateTolerance c
  · rw [decide_eq_true ho, Bool.not_true, if_neg Bool.false_ne_true]
    obtain ⟨hr, h3, h4, h5⟩ := (m.gateShown c k).gateInside_shows k hc (m.gateRun c k)
    rw [hclk] at hr h4
    refine ⟨fun hc3 => (h3 hc3).2.2.trans (hz hc3), fun hn => absurd ho (Nat.not_le.mpr hn), fun _ => ⟨hr, fun hc3 => ?_, h4, ?_⟩⟩
    · obtain ⟨hsrc, htold, -⟩ := h3 hc3
      rw [hs c (by omega)] at hsrc htold
      exact ⟨hsrc, htold⟩
    · rwa [hs 3 (by decide)] at h5
  · rw [decide_eq_false ho, Bool.not_false, if_pos rfl]
    obtain ⟨hr, h3⟩ := (m.gateShown c k).gateOutside_shows (c := c)
    rw [hclk] at hr
    refine ⟨fun hc3 => (h3 hc3).2.2.trans (hz hc3), fun _ => ⟨hr, fun hc3 => ?_⟩, fun hn => absurd hn ho⟩
    obtain ⟨hsrc, htold, -⟩ := h3 hc3
    rw [hs c (by omega)] at hsrc htold
    exact ⟨hsrc, htold⟩

end

/-! ### Sources that stop (R284, R287-R289) -/

section
variable {m : Mod}

theorem Mod.role_of_get {m' : Mod} (h : m'.get 0x7040 1 = m.get 0x7040 1) : m'.role = m.role :=
  congrArg (fun v : Val => roleOf v.nat) h

/-- A role set is the role. -/
theorem Mod.role_setRole (m : Mod) (r : Role) : (m.setRole r).role = r := by
  unfold Mod.setRole
  split
  · assumption
  · unfold Mod.role
    rw [Mod.n_raise _ _ _ _ (by decide)]
    rw [show ((m.put 0x7040 1 (roleNo r)).putFlag 0x7040 2 (r = .standby)).n 0x7040 1 = roleNo r from
      (congrArg Val.nat (Mod.get_putFlag_frame _ _ (by decide) (by decide))).trans (m.n_put _ _ _ (by decide))]
    cases r <;> rfl

theorem Mod.get_setRole (m : Mod) (r : Role) {j t : Nat} (h : ¬(j = 0x7040 ∧ (t = 1 ∨ t = 2)))
    (hq : j * 256 + t < 0x740000 ∨ 0x741100 ≤ j * 256 + t) (ht : t < 256) : (m.setRole r).get j t = m.get j t := by
  unfold Mod.setRole
  split
  · rfl
  · rw [Mod.get_raise_frame _ _ _ _ hq, Mod.get_putFlag_frame _ _ (by decide) (by omega), Mod.get_put_frame _ _ (by decide) (by omega)]

/-- A fence leaves all but the role, its reason, a handover and the count of fences alone. -/
theorem Mod.get_fence (m : Mod) (reason : Nat) (u : Option Nanos) {j t : Nat} (h : j ≠ 0x7040 ∧ j ≠ 0x7010 ∧ j ≠ 0x7080 ∧ j < 0x7400) (ht : t < 256) :
    (m.fence reason u).get j t = m.get j t := by
  have hrole : ((m.setRole .fenced).put 0x7040 0x0F reason).get j t = m.get j t := by
    rw [Mod.get_put_frame _ _ (by decide) (by omega), Mod.get_setRole _ _ (by omega) (by omega) ht]
  unfold Mod.fence
  dsimp only
  rw [Mod.get_bump_frame _ (by decide) (by omega), Mod.get_modTwin, Mod.get_raise_frame _ _ _ _ (by omega)]
  split
  · exact hrole
  · rw [Mod.get_put_frame _ _ (by decide) (by omega), hrole]

theorem Mod.role_fence (m : Mod) (reason : Nat) (u : Option Nanos) : (m.fence reason u).role = .fenced := by
  have hrole : ((m.setRole .fenced).put 0x7040 0x0F reason).role = .fenced :=
    (Mod.role_of_get (Mod.get_put_frame _ _ (by decide) (by decide))).trans (m.role_setRole _)
  unfold Mod.fence
  dsimp only
  rw [Mod.role_of_get ((Mod.get_bump_frame _ (by decide) (by decide)).trans ((Mod.get_modTwin _ _).trans (Mod.get_raise_frame _ _ _ _ (by decide))))]
  split
  · exact hrole
  · rw [Mod.role_of_get (Mod.get_put_frame _ _ (by decide) (by decide)), hrole]

theorem Mod.tells_setRole {a : Mod} (r : Role) (h : a.tells m) : a.tells (m.setRole r) := by
  unfold Mod.setRole
  exact Mod.tells_ite h (Mod.tells_raise _ _ _ (Mod.tells_of_part (by simp) h))

theorem Mod.tells_fence {a : Mod} (reason : Nat) (u : Option Nanos) (h : a.tells m) : a.tells (m.fence reason u) := by
  have hrole := Mod.tells_put (Mod.tells_setRole .fenced h) 0x7040 0x0F reason
  have hmod {m : Mod} (g : TwinS → TwinS) (h : a.tells m) : a.tells (m.modTwin g) := Mod.tells_of_raised rfl h
  unfold Mod.fence
  dsimp only
  exact Mod.tells_bump (hmod _ (Mod.tells_raise _ _ _ (Mod.tells_ite hrole (Mod.tells_put hrole _ _ _)))) _ _

/-- The twin's function ends with a module that is fenced or of no pair. -/
theorem Mod.role_settleRole (h : m.twinFn = stopped) : m.settleRole.role ≠ .active := by
  unfold Mod.settleRole
  rw [if_neg (by simp [h])]
  split_ifs with h1 h2
  · rw [m.role_setRole]
    decide
  · rw [Mod.role_of_get (Mod.get_put_frame _ _ (by decide) (by decide)), h2]
    decide
  · rw [Mod.role_of_get (Mod.get_put_frame _ _ (by decide) (by decide)), m.role_setRole]
    decide

theorem Mod.get_settleRole (m : Mod) {j t : Nat} (h : j ≠ 0x7040 ∧ j < 0x7400) (ht : t < 256) : m.settleRole.get j t = m.get j t := by
  unfold Mod.settleRole
  split_ifs
  · rfl
  · exact m.get_setRole _ (by omega) (by omega) ht
  · exact m.get_put_frame _ (by decide) (by omega)
  · rw [Mod.get_put_frame _ _ (by decide) (by omega), m.get_setRole _ (by omega) (by omega) ht]

theorem Mod.tells_settleRole {a : Mod} (h : a.tells m) : a.tells m.settleRole := by
  unfold Mod.settleRole
  exact Mod.tells_ite h (Mod.tells_ite (Mod.tells_setRole _ h) (Mod.tells_ite (Mod.tells_put h _ _ _) (Mod.tells_put (Mod.tells_setRole _ h) _ _ _)))

theorem Mod.get_askWitnesses (m : Mod) (epoch kind subject flags : Nat) {j t : Nat} (hj : j ≠ 0x2610 ∧ (j < 0x3840 ∨ 0x385F < j)) (ht : t < 256) :
    (m.askWitnesses epoch kind subject flags).get j t = m.get j t := by
  unfold Mod.askWitnesses
  dsimp only
  rw [Mod.get_modTwin]
  exact Mod.get_each fun m w _ => (Mod.get_komundFrames _ hj ht).trans rfl

/-- The objects of the clocks. -/
abbrev clockIndex (j : Nat) : Prop := 0x1800 ≤ j ∧ j < 0x1C00

/-- The end of the twin's function, before its role settles. -/
def Mod.twinEnded (m : Mod) (epoch : Nat) : Mod :=
  let m := if m.role = .active then m.askWitnesses epoch 3 0 0 else m
  let m := if m.role = .fenced then m.put 0x7040 0x0F 4 else m.fence 4 none
  let m := m.modTwin fun t => t.begin m.ctr
  let m := ((m.put 0x7040 7 0).put 0x7040 8 0xFF).put 0x7040 6 0
  { m with twinFn := stopped }

theorem Mod.endTwin_eq (epoch : Nat) : m.endTwin epoch = (m.twinEnded epoch).settleRole := rfl

theorem Mod.get_twinEnded (m : Mod) (epoch : Nat) {j t : Nat} (hj : clockIndex j) (ht : t < 256) : (m.twinEnded epoch).get j t = m.get j t := by
  have hfn (m : Mod) (x : Nat) : ({ m with twinFn := x } : Mod).get j t = m.get j t := rfl
  have hask : (if m.role = .active then m.askWitnesses epoch 3 0 0 else m).get j t = m.get j t := by
    split
    · exact m.get_askWitnesses _ _ _ _ (by omega) ht
    · rfl
  unfold Mod.twinEnded
  dsimp only
  rw [hfn, Mod.get_put_frame _ _ (by decide) (by omega), Mod.get_put_frame _ _ (by decide) (by omega), Mod.get_put_frame _ _ (by decide) (by omega),
    Mod.get_modTwin]
  generalize (if m.role = .active then m.askWitnesses epoch 3 0 0 else m) = x at *
  split
  · rw [Mod.get_put_frame _ _ (by decide) (by omega), hask]
  · rw [Mod.get_fence _ _ _ (by omega) ht, hask]

theorem Mod.tells_twinEnded {a : Mod} (epoch : Nat) (h : a.tells m) : a.tells (m.twinEnded epoch) := by
  have hask : a.tells (if m.role = .active then m.askWitnesses epoch 3 0 0 else m) :=
    Mod.tells_ite (Mod.tells_of_part (Mod.askWitnesses_part _ _ _ _ _ (by decide)) h) h
  have hfn {m : Mod} (x : Nat) (h : a.tells m) : a.tells { m with twinFn := x } := Mod.tells_of_raised rfl h
  have hmod {m : Mod} (g : TwinS → TwinS) (h : a.tells m) : a.tells (m.modTwin g) := Mod.tells_of_raised rfl h
  unfold Mod.twinEnded
  dsimp only
  exact hfn _ (Mod.tells_put (Mod.tells_put (Mod.tells_put (hmod _ (Mod.tells_ite (Mod.tells_put hask _ _ _) (Mod.tells_fence _ _ hask))) _ _ _) _ _ _) _ _ _)

/-- What the loss of both crystals does first: fenced, media ended, no command of the twin's function left. -/
def Mod.mediaGone (m : Mod) : Mod :=
  ((if m.role = .active then m.fence 1 none else m).haltMedia.modPreud fun p =>
    { p with fnCmds := p.fnCmds.filter fun (x : FnCmd) => x.fid ≠ twinFid }).discardOpen twinFid 2

/-- And then: the twin's function and the ports of the mortar link ended. -/
def Mod.crystalsGone (m : Mod) (epoch : Nat) : Mod :=
  if m.mediaGone.twinFn = stopped then m.mediaGone else (m.mediaGone.endTwin epoch).endPort 8

theorem Mod.loseCrystals_eq (epoch : Nat) : m.loseCrystals epoch = (m.crystalsGone epoch).raise 0x1808 0 [] := rfl

theorem Mod.get_mediaGone_clock (m : Mod) {j t : Nat} (hj : clockIndex j) (ht : t < 256) : m.mediaGone.get j t = m.get j t := by
  unfold Mod.mediaGone
  rw [Mod.get_discardOpen _ (by omega), Mod.get_modPreud, Mod.get_haltMedia _ (.inl (by omega)) ht]
  split
  · exact m.get_fence _ _ (by omega) ht
  · rfl

theorem Mod.role_mediaGone (m : Mod) : m.mediaGone.role ≠ .active := by
  unfold Mod.mediaGone
  rw [Mod.role_of_get ((Mod.get_discardOpen _ (by decide)).trans ((Mod.get_modPreud _ _).trans (Mod.get_haltMedia _ (.inr ⟨rfl, rfl⟩) (by decide))))]
  split
  · rw [m.role_fence]
    decide
  · assumption

theorem Mod.tells_mediaGone {a : Mod} (h : a.tells m) : a.tells m.mediaGone := by
  have hmod {m : Mod} (g : PreudS → PreudS) (h : a.tells m) : a.tells (m.modPreud g) := Mod.tells_of_raised rfl h
  unfold Mod.mediaGone
  exact Mod.tells_discardOpen (hmod _ (Mod.tells_haltMedia (Mod.tells_ite (Mod.tells_fence 1 none h) h))) twinFid 2

theorem Mod.endPort_mortar : m.endPort 8 = m.dropCage 8 causeStop := by
  unfold Mod.endPort
  rw [if_pos rfl]

theorem Mod.get_crystalsGone (m : Mod) (epoch : Nat) {j t : Nat} (hj : clockIndex j) (ht : t < 256) : (m.crystalsGone epoch).get j t = m.get j t := by
  unfold Mod.crystalsGone
  split
  · exact m.get_mediaGone_clock hj ht
  · rw [Mod.endPort_mortar, Mod.get_dropCage _ (by decide) _ (by omega) ht, Mod.endTwin_eq, Mod.get_settleRole _ (by omega) ht,
      Mod.get_twinEnded _ _ hj ht, m.get_mediaGone_clock hj ht]

/-- Without a crystal the module is not the ACTIVE, and its twin function is STOPPED. -/
theorem Mod.crystalsGone_shows (m : Mod) (epoch : Nat) : (m.crystalsGone epoch).role ≠ .active ∧ (m.crystalsGone epoch).twinFn = stopped := by
  unfold Mod.crystalsGone
  split
  · next h => exact ⟨m.role_mediaGone, h⟩
  · have hport (m : Mod) : (m.dropCage 8 causeStop).twinFn = m.twinFn := Mod.each_keeps _ Mod.twinFn _ _ fun m u => by
      unfold Mod.drop
      exact (Mod.toDetect_part _ _ (p := .twinFn) (by decide)).trans (Mod.leave_part _ _ _ (p := .twinFn) (by decide))
    rw [Mod.endPort_mortar, hport, Mod.role_of_get (Mod.get_dropCage _ (by decide) _ (by decide) (by decide)), Mod.endTwin_eq]
    exact ⟨Mod.role_settleRole rfl, Mod.settleRole_part _ (p := .twinFn) (by decide)⟩

theorem Mod.tells_crystalsGone {a : Mod} (epoch : Nat) (h : a.tells m) : a.tells (m.crystalsGone epoch) := by
  unfold Mod.crystalsGone
  rw [Mod.endPort_mortar, Mod.endTwin_eq]
  exact Mod.tells_ite (Mod.tells_mediaGone h) (Mod.tells_dropCage _ _ (Mod.tells_settleRole (Mod.tells_twinEnded _ (Mod.tells_mediaGone h))))

/-- A source shows that it has stopped, and is told of. -/
def Mod.stopShown (m : Mod) (c : Nat) : Mod :=
  ((m.put 0x1800 (1 + c) 3).modClk fun s => { s with runs := s.runs.set c 0 }).raiseAgain 0x1802 c [c, 3]

/-- The counters go to XA, their gap made up. -/
def Mod.countersMove (m : Mod) (c gapFio : Nat) : Mod :=
  if c = 3 && m.clk.counterOn = 3 && m.source 2 ≠ 3 then
    (({ m with now := m.now + gapFio * 5 / 2, ctr := m.ctr + gapFio * 5 / 2 } : Mod).modClk fun s => { s with counterOn := 2 }).raise 0x1805
      muxCounters [muxCounters]
  else m

/-- The always-on domain leaves SIO. -/
def Mod.alwaysOnMoves (m : Mod) (c : Nat) : Mod := if c = 0 && m.source 1 ≠ 3 then m.raise 0x1805 muxAlwaysOn [muxAlwaysOn] else m

/-- A source that stopped, with what the counters and the always-on domain do about it. -/
def Mod.stopMoved (m : Mod) (c gapFio : Nat) : Mod := ((m.stopShown c).countersMove c gapFio).alwaysOnMoves c

theorem Mod.sourceStops_eq (epoch c gapFio : Nat) : m.sourceStops epoch c gapFio = if m.source c = 3 then m
    else if (m.stopMoved c gapFio).noCrystal && !m.noCrystal then (m.stopMoved c gapFio).loseCrystals epoch else m.stopMoved c gapFio := rfl

theorem Mod.source_countersMove (m : Mod) (c gapFio d : Nat) (hd : d < 4) : (m.countersMove c gapFio).source d = m.source d := by
  unfold Mod.countersMove
  split
  · exact (Mod.n_raise _ _ _ _ (by omega)).trans rfl
  · rfl

theorem Mod.source_alwaysOnMoves (m : Mod) (c d : Nat) (hd : d < 4) : (m.alwaysOnMoves c).source d = m.source d := by
  unfold Mod.alwaysOnMoves
  split
  · exact Mod.n_raise _ _ _ _ (by omega)
  · rfl

theorem Mod.source_stopShown (m : Mod) {c d : Nat} (hc : c < 4) (hd : d < 4) : (m.stopShown c).source d = if d = c then 3 else m.source d := by
  have hclk (g : ClockS → ClockS) : ((m.put 0x1800 (1 + c) 3).modClk g).source d = (m.put 0x1800 (1 + c) 3).source d := rfl
  unfold Mod.stopShown
  refine (Mod.n_raiseAgain _ _ _ (by omega)).trans ((hclk _).trans ?_)
  unfold Mod.source
  split
  · next h => rw [h, Mod.n_put _ _ _ _ (by omega)]
  · exact m.n_put_other _ (by omega) (by omega)

theorem Mod.source_stopMoved (m : Mod) {c d gap : Nat} (hc : c < 4) (hd : d < 4) : (m.stopMoved c gap).source d = if d = c then 3 else m.source d := by
  unfold Mod.stopMoved
  rw [Mod.source_alwaysOnMoves _ _ _ hd, Mod.source_countersMove _ _ _ _ hd, m.source_stopShown hc hd]

theorem Mod.clk_stopShown (m : Mod) (c : Nat) : (m.stopShown c).clk.counterOn = m.clk.counterOn ∧ (m.stopShown c).now = m.now := by
  unfold Mod.stopShown
  rw [show Mod.clk (Mod.raiseAgain _ _ _ _) = _ from Mod.raiseAgain_part _ _ _ _ (p := .clk) (by decide),
    show Mod.now (Mod.raiseAgain _ _ _ _) = _ from Mod.raiseAgain_part _ _ _ _ (p := .now) (by decide)]
  exact ⟨rfl, rfl⟩

/-- A source that stops is told of, once. -/
theorem Mod.stopMoved_told (m : Mod) (c gap : Nat) : (m.stopMoved c gap).told 0x1802 c [c, 3] := by
  have hshown : (m.stopShown c).told 0x1802 c [c, 3] := Mod.raiseAgain_told _ _ _
  have hmove {a m : Mod} (h : a.tells m) : a.tells (m.countersMove c gap) := by
    have hclk (x y : Nanos) (g : ClockS → ClockS) : a.tells (({ m with now := x, ctr := y } : Mod).modClk g) := Mod.tells_of_raised rfl h
    unfold Mod.countersMove
    exact Mod.tells_ite (Mod.tells_raise _ _ _ (hclk _ _ _)) h
  have hon {a m : Mod} (h : a.tells m) : a.tells (m.alwaysOnMoves c) := by
    unfold Mod.alwaysOnMoves
    exact Mod.tells_ite (Mod.tells_raise _ _ _ h) h
  exact Mod.told_of_tells (hon (hmove Mod.tells_refl)) hshown

theorem Mod.noCrystal_stopMoved (m : Mod) {c : Nat} (hc : c < 4) (gap : Nat) (hs : m.source c ≠ 3) :
    ((m.stopMoved c gap).noCrystal && !m.noCrystal) = true
      ↔ m.noCrystal = false ∧ (c = 2 ∧ (m.source 3 = 3 ∨ m.source 3 = 0) ∨ c = 3 ∧ m.source 2 = 3) := by
  unfold Mod.noCrystal
  rw [m.source_stopMoved hc (by decide), m.source_stopMoved hc (by decide)]
  have hcases : c = 0 ∨ c = 1 ∨ c = 2 ∨ c = 3 := by omega
  rcases hcases with rfl | rfl | rfl | rfl <;> simp <;> tauto

/-- A counter that loses its crystal runs on from the other, the gap made up. -/
theorem Mod.stopMoved_counters (m : Mod) (gap : Nat) (h : m.clk.counterOn = 3) (h2 : m.source 2 ≠ 3) :
    (m.stopMoved 3 gap).clk.counterOn = 2 ∧ (m.stopMoved 3 gap).now = m.now + gap * 5 / 2 ∧ (m.stopMoved 3 gap).told 0x1805 6 [6] := by
  obtain ⟨hon, hnow⟩ := m.clk_stopShown 3
  have hon' : ((m.stopShown 3).countersMove 3 gap).alwaysOnMoves 3 = (m.stopShown 3).countersMove 3 gap := if_neg (by simp)
  have hsrc : (m.stopShown 3).source 2 ≠ 3 := by
    rw [m.source_stopShown (by decide) (by decide)]
    exact h2
  unfold Mod.stopMoved
  rw [hon', ← hnow]
  unfold Mod.countersMove
  rw [if_pos (by simp [hon, h, hsrc])]
  exact ⟨by rw [Mod.raise_clk]; rfl, by rw [Mod.raise_now]; rfl, Mod.raise_told _ _ _ _⟩

theorem Mod.stopMoved_alwaysOn (m : Mod) (gap : Nat) (h : m.source 1 ≠ 3) : (m.stopMoved 0 gap).told 0x1805 7 [7] := by
  unfold Mod.stopMoved Mod.alwaysOnMoves
  rw [Mod.source_countersMove _ _ _ _ (by decide), m.source_stopShown (by decide) (by decide), if_pos (by simpa using h)]
  exact Mod.raise_told _ _ _ _

/-- What a source that stops shows, and does where it was the last crystal. -/
theorem Mod.sourceStops_shows (m : Mod) (epoch : Nat) {c : Nat} (hc : c < 4) (gap : Nat) (hs : m.source c ≠ 3) {lost : Prop}
    (hlost : lost ↔ m.noCrystal = false ∧ (c = 2 ∧ (m.source 3 = 3 ∨ m.source 3 = 0) ∨ c = 3 ∧ m.source 2 = 3)) :
    (m.sourceStops epoch c gap).source c = 3 ∧ (m.sourceStops epoch c gap).told 0x1802 c [c, 3]
      ∧ (c = 3 → m.clk.counterOn = 3 → m.source 2 ≠ 3 → (m.sourceStops epoch c gap).clk.counterOn = 2
        ∧ (m.sourceStops epoch c gap).now = m.now + gap * 5 / 2 ∧ (m.sourceStops epoch c gap).told 0x1805 6 [6])
      ∧ (c = 0 → m.source 1 ≠ 3 → (m.sourceStops epoch c gap).told 0x1805 7 [7])
      ∧ (lost → (m.sourceStops epoch c gap).role ≠ .active ∧ (m.sourceStops epoch c gap).twinFn = stopped
        ∧ (m.sourceStops epoch c gap).told 0x1808 0 []) := by
  have hgone := (m.noCrystal_stopMoved hc gap hs).trans hlost.symm
  have hsrc : (m.stopMoved c gap).source c = 3 := by rw [m.source_stopMoved hc hc, if_pos rfl]
  have htold := m.stopMoved_told c gap
  rw [Mod.sourceStops_eq, if_neg hs]
  by_cases hl : lost
  · obtain ⟨-, hwhich⟩ := hlost.mp hl
    obtain ⟨hrole, hfn⟩ := (m.stopMoved c gap).crystalsGone_shows epoch
    rw [hgone.mpr hl, if_pos rfl, Mod.loseCrystals_eq]
    refine ⟨?_, Mod.told_of_tells (Mod.tells_raise _ _ _ (Mod.tells_crystalsGone _ Mod.tells_refl)) htold, fun h3 _ h2 => absurd hwhich (by simp [h3, h2]),
      fun h0 => absurd hwhich (by simp [h0]), fun _ => ⟨?_, ?_, Mod.raise_told _ _ _ _⟩⟩
    · exact ((Mod.n_raise _ _ _ _ (by omega)).trans (congrArg Val.nat (Mod.get_crystalsGone _ _ (by decide) (by omega)))).trans hsrc
    · rw [Mod.role_of_get (Mod.get_raise_frame _ _ _ _ (by decide))]
      exact hrole
    · rw [Mod.raise_twinFn, hfn]
  · rw [Bool.eq_false_iff.mpr fun h => hl (hgone.mp h), if_neg Bool.false_ne_true]
    refine ⟨hsrc, htold, fun h3 hon h2 => ?_, fun h0 h1 => ?_, fun h => absurd h hl⟩
    · subst h3
      exact m.stopMoved_counters gap hon h2
    · subst h0
      exact m.stopMoved_alwaysOn gap h1

end

/-! ### PLLs (R281, R283-R285) -/

section
variable (m : Mod) {k : Nat} (hk : k < 6)

/-- A PLL that coasts shows it, counted and timed, and is told of. -/
def Mod.coastShown (m : Mod) (k : Nat) (lockLoss : Bool) : Mod :=
  ((((m.put (0x1810 + k) 1 3).put (0x1810 + k) 5 1).bump (0x1810 + k) 6).put (0x1810 + k) 8 m.now).raiseCond 0x1803 k
    [k, if lockLoss then 1 else 0]

/-- What a PLL that begins to coast ends. -/
def Mod.coastEnds (m : Mod) (k : Nat) (already : Bool) : Mod := if k ≤ 1 then m.coreStops already else m.dropUnclocked

/-- A PLL that fails coasts; where it did so for the first time the rest follows. -/
def Mod.coasted (m : Mod) (k : Nat) (lockLoss : Bool) : Mod :=
  if m.n (0x1810 + k) 1 = 1 then m.put (0x1810 + k) 1 3 else (m.coastShown k lockLoss).coastEnds k m.coreCoasts

theorem Mod.pllFails_eq (lockLoss : Bool) : m.pllFails k lockLoss =
    if m.n (0x1810 + k) 1 = 3 || (!lockLoss && !decide (m.source (refSource (m.n (0x1810 + k) 2)) = 3)) then m
    else (m.coasted k lockLoss).movePll k lockLoss := rfl

theorem Mod.get_coastEnds (already : Bool) {j t : Nat} (hj : clockIndex j) (ht : t < 256) : (m.coastEnds k already).get j t = m.get j t := by
  have hdrop : m.dropUnclocked.get j t = m.get j t := m.get_dropUnclocked (by omega) ht
  have hhalt : m.dropUnclocked.haltMedia.get j t = m.get j t := by rw [Mod.get_haltMedia _ (.inl (by omega)) ht, hdrop]
  unfold Mod.coastEnds Mod.coreStops
  split_ifs
  · exact hhalt
  · rw [Mod.get_raise_frame _ _ _ _ (by omega), hhalt]
  · exact hdrop

theorem Mod.tells_coastEnds {a m : Mod} (already : Bool) (h : a.tells m) : a.tells (m.coastEnds k already) := by
  have hhalt := Mod.tells_haltMedia (Mod.tells_dropUnclocked h)
  unfold Mod.coastEnds Mod.coreStops
  exact Mod.tells_ite (Mod.tells_ite hhalt (Mod.tells_raise _ _ _ hhalt)) (Mod.tells_dropUnclocked h)

theorem Mod.clk_coastEnds (already : Bool) : (m.coastEnds k already).clk = m.clk := by
  have hdrop : m.dropUnclocked.clk = m.clk := Mod.dropUnclocked_part _ (p := .clk) (by decide)
  have hhalt : m.dropUnclocked.haltMedia.clk = m.clk := (Mod.haltMedia_part _ (p := .clk) (by decide)).trans hdrop
  unfold Mod.coastEnds Mod.coreStops
  split_ifs
  · exact hhalt
  · exact (Mod.raise_clk _ _ _ _).trans hhalt
  · exact hdrop

theorem Mod.clk_coasted (lockLoss : Bool) : (m.coasted k lockLoss).clk = m.clk := by
  unfold Mod.coasted
  split
  · exact Mod.put_clk _ _ _ _
  · have hraise (m : Mod) (p : List Nat) : (m.raiseCond 0x1803 k p).clk = m.clk := Mod.raiseCond_part _ _ _ _ (p := .clk) (by decide)
    unfold Mod.coastShown
    rw [Mod.clk_coastEnds, hraise, Mod.put_clk, Mod.bump_clk, Mod.put_clk, Mod.put_clk]

include hk in
theorem Mod.get_coasted (lockLoss : Bool) {j t : Nat} (hj : clockIndex j) (ht : t < 256) (h : j ≠ 0x1810 + k ∨ (t ≠ 1 ∧ t ≠ 5 ∧ t ≠ 6 ∧ t ≠ 8)) :
    (m.coasted k lockLoss).get j t = m.get j t := by
  unfold Mod.coasted
  split
  · exact m.get_put_frame _ (by omega) (by omega)
  · rw [Mod.get_coastEnds _ _ hj ht]
    unfold Mod.coastShown
    rw [Mod.get_raiseCond_frame _ _ _ _ (by omega)]
    simp (disch := omega)

include hk in
theorem Mod.n_coasted (lockLoss : Bool) : (m.coasted k lockLoss).n (0x1810 + k) 1 = 3 := by
  unfold Mod.coasted
  split
  · exact Mod.n_put _ _ _ _ (by omega)
  · unfold Mod.n
    rw [Mod.get_coastEnds _ _ (by omega) (by decide)]
    unfold Mod.coastShown
    rw [Mod.get_raiseCond_frame _ _ _ _ (by omega)]
    simp (disch := omega) [Val.nat, Val.int]

include hk in
/-- A PLL that begins to coast is counted and timed, and what it ends is told of. -/
theorem Mod.coasted_first (lockLoss : Bool) (h : m.n (0x1810 + k) 1 ≠ 1) : (m.coasted k lockLoss).n (0x1810 + k) 5 = 1
    ∧ (m.coasted k lockLoss).n (0x1810 + k) 6 = (m.bump (0x1810 + k) 6).n (0x1810 + k) 6 ∧ (m.coasted k lockLoss).n (0x1810 + k) 8 = m.now
    ∧ (m.condSet 0x1803 k = false → (m.coasted k lockLoss).told 0x1803 k [k, if lockLoss then 1 else 0])
    ∧ (k ≤ 1 → m.coreCoasts = false → (m.coasted k lockLoss).told 0x1807 0 []) := by
  have hshown {t : Nat} (ht : t < 256) : ((m.coastShown k lockLoss).coastEnds k m.coreCoasts).get (0x1810 + k) t =
      ((((m.put (0x1810 + k) 1 3).put (0x1810 + k) 5 1).bump (0x1810 + k) 6).put (0x1810 + k) 8 m.now).get (0x1810 + k) t := by
    rw [Mod.get_coastEnds _ _ (by omega) ht]
    exact Mod.get_raiseCond_frame _ _ _ _ (by omega)
  unfold Mod.coasted
  rw [if_neg h]
  refine ⟨?_, ?_, ?_, fun hc => ?_, fun h1 hcore => ?_⟩
  · unfold Mod.n
    rw [hshown (by decide)]
    simp (disch := omega) [Val.nat, Val.int]
  · refine (congrArg Val.nat (hshown (by decide))).trans ((Mod.n_put_other _ _ (by omega) (by omega)).trans (Mod.n_bump_congr (by omega) ?_))
    rw [Mod.n_put_other _ _ (by omega) (by omega), Mod.n_put_other _ _ (by omega) (by omega)]
  · unfold Mod.n
    rw [hshown (by decide)]
    simp (disch := omega) [Val.nat, Val.int]
  · refine Mod.told_of_tells (Mod.tells_coastEnds _ Mod.tells_refl) (Mod.raiseCond_told _ ?_ _)
    exact (Mod.condSet_of_conds (by rw [Mod.put_conds, Mod.bump_conds, Mod.put_conds, Mod.put_conds])).trans hc
  · unfold Mod.coastEnds Mod.coreStops
    rw [if_pos h1, hcore, if_neg Bool.false_ne_true]
    exact Mod.raise_told _ _ _ _

/-- A PLL put to lock shows its reference; its eight windows begin. -/
theorem Mod.lockPll_shows (hk : k < 6) (r : Nat) : (m.lockPll k r).n (0x1810 + k) 1 = 1 ∧ (m.lockPll k r).n (0x1810 + k) 2 = r := by
  have hclk (m : Mod) (g : ClockS → ClockS) (j t : Nat) : (m.modClk g).n j t = m.n j t := rfl
  unfold Mod.lockPll
  rw [hclk, hclk, Mod.n_put _ _ _ _ (by omega), Mod.n_put_other _ _ (by omega) (by omega), Mod.n_put _ _ _ _ (by omega)]
  exact ⟨rfl, rfl⟩

theorem Mod.get_lockPll (hk : k < 6) (r : Nat) {j t : Nat} (h : j ≠ 0x1810 + k ∨ (t ≠ 1 ∧ t ≠ 2)) (ht : t < 256) :
    (m.lockPll k r).get j t = m.get j t := by
  have hclk (m : Mod) (g : ClockS → ClockS) : (m.modClk g).get j t = m.get j t := rfl
  unfold Mod.lockPll
  rw [hclk, Mod.get_put_frame _ _ (by omega) (by omega), Mod.get_put_frame _ _ (by omega) (by omega)]

theorem Mod.movePll_off (lockLoss : Bool) (h : m.flag 0x1820 0 = false) : m.movePll k lockLoss = m := by
  unfold Mod.movePll
  exact if_pos (by rw [h]; rfl)

/-- A PLL whose reference runs locks on it again after a loss of lock, three times at most. -/
theorem Mod.movePll_again {lockLoss : Bool} (hf : m.flag 0x1820 0 = true)
    (h : lockLoss = true ∧ m.source (refSource (m.n (0x1810 + k) 2)) = 1 ∧ nth m.clk.tries k < 3) :
    m.movePll k lockLoss = (m.lockPll k (m.n (0x1810 + k) 2)).modClk fun s => { s with tries := s.tries.set k (nth s.tries k + 1) } := by
  obtain ⟨hl, hs, ht⟩ := h
  unfold Mod.movePll
  dsimp only
  rw [if_neg (by simp [hf]), if_pos (by simp [hl, hs, ht])]

/-- Where it does not, it goes to an alternate reference, or waits for one. -/
theorem Mod.movePll_alternate {lockLoss : Bool} (hf : m.flag 0x1820 0 = true)
    (h : ¬(lockLoss = true ∧ m.source (refSource (m.n (0x1810 + k) 2)) = 1 ∧ nth m.clk.tries k < 3)) :
    (m.alternate k = none → m.movePll k lockLoss = m)
      ∧ ∀ r, m.alternate k = some r → m.movePll k lockLoss = if m.source (refSource (m.n (0x1810 + k) 2)) = 3 then
        m.modClk fun s => { s with moving := s.moving.set k (some r) } else m.lockPll k r := by
  have hn : ¬((lockLoss && decide (m.source (refSource (m.n (0x1810 + k) 2)) = 1) && decide (nth m.clk.tries k < 3)) = true) := by
    simpa [and_assoc] using h
  refine ⟨fun ha => ?_, fun r ha => ?_⟩ <;>
  · unfold Mod.movePll
    dsimp only
    rw [if_neg (by simp [hf]), if_neg hn, ha]

theorem Mod.alternate_congr {m' : Mod} (h2 : m'.n (0x1810 + k) 2 = m.n (0x1810 + k) 2) (hs : ∀ r, m'.source (refSource r) = m.source (refSource r)) :
    m'.alternate k = m.alternate k := by
  unfold Mod.alternate
  simp only [h2, hs]

end

/-- Two modules of which the second shows what a PLL's coasting shows in the first, and tells no less. -/
def Mod.coastsAlike (m m' : Mod) (k : Nat) : Prop :=
  (∀ t < 256, t ≠ 1 → t ≠ 2 → m'.get (0x1810 + k) t = m.get (0x1810 + k) t) ∧ m.tells m'

section
variable {m : Mod} {k : Nat}

theorem Mod.coastsAlike_refl : m.coastsAlike m k := ⟨fun _ _ _ _ => rfl, Mod.tells_refl⟩

theorem Mod.coastsAlike_modClk {m' : Mod} (g : ClockS → ClockS) (h : m.coastsAlike m' k) : m.coastsAlike (m'.modClk g) k :=
  ⟨fun t ht h1 h2 => h.1 t ht h1 h2, Mod.tells_of_raised rfl h.2⟩

theorem Mod.coastsAlike_lockPll (hk : k < 6) (r : Nat) : m.coastsAlike (m.lockPll k r) k :=
  ⟨fun _ ht h1 h2 => m.get_lockPll hk r (.inr ⟨h1, h2⟩) ht, Mod.tells_of_raised rfl Mod.tells_refl⟩

/-- What a move leaves of the coasting. -/
theorem Mod.coastsAlike_movePll (hk : k < 6) (lockLoss : Bool) : m.coastsAlike (m.movePll k lockLoss) k := by
  by_cases hf : m.flag 0x1820 0 = true
  · by_cases h : lockLoss = true ∧ m.source (refSource (m.n (0x1810 + k) 2)) = 1 ∧ nth m.clk.tries k < 3
    · rw [m.movePll_again hf h]
      exact Mod.coastsAlike_modClk _ (Mod.coastsAlike_lockPll hk _)
    · obtain ⟨hnone, hsome⟩ := m.movePll_alternate hf h
      cases ha : m.alternate k with
      | none =>
        rw [hnone ha]
        exact Mod.coastsAlike_refl
      | some r =>
        rw [hsome r ha]
        split
        · exact Mod.coastsAlike_modClk _ Mod.coastsAlike_refl
        · exact Mod.coastsAlike_lockPll hk _
  · rw [m.movePll_off lockLoss (Bool.eq_false_iff.mpr hf)]
    exact Mod.coastsAlike_refl

/-- What a PLL that fails for the first time shows and tells. -/
theorem Mod.pllFails_first (hk : k < 6) {lockLoss : Bool} (h : m.n (0x1810 + k) 1 ≠ 1) {m' : Mod} (hm : (m.coasted k lockLoss).coastsAlike m' k) :
    m'.n (0x1810 + k) 5 = 1 ∧ m'.n (0x1810 + k) 6 = (m.bump (0x1810 + k) 6).n (0x1810 + k) 6 ∧ m'.n (0x1810 + k) 8 = m.now
      ∧ (m.condSet 0x1803 k = false → m'.told 0x1803 k [k, if lockLoss then 1 else 0]) ∧ (k ≤ 1 → m.coreCoasts = false → m'.told 0x1807 0 []) := by
  obtain ⟨hget, htells⟩ := hm
  obtain ⟨h5, h6, h8, ht3, ht7⟩ := m.coasted_first hk lockLoss h
  have hn {t : Nat} (ht : t < 256) (h1 : t ≠ 1) (h2 : t ≠ 2) : m'.n (0x1810 + k) t = (m.coasted k lockLoss).n (0x1810 + k) t :=
    congrArg Val.nat (hget t ht h1 h2)
  exact ⟨(hn (by decide) (by decide) (by decide)).trans h5, (hn (by decide) (by decide) (by decide)).trans h6,
    (hn (by decide) (by decide) (by decide)).trans h8, fun hc => Mod.told_of_tells htells (ht3 hc), fun h1 hc => Mod.told_of_tells htells (ht7 h1 hc)⟩

/-- What a PLL that coasts finds of its reference and of the switching is what the module found before. -/
theorem Mod.coasted_judges (hk : k < 6) (lockLoss : Bool) : (m.coasted k lockLoss).n (0x1810 + k) 2 = m.n (0x1810 + k) 2
    ∧ (∀ r, (m.coasted k lockLoss).source (refSource r) = m.source (refSource r)) ∧ (m.coasted k lockLoss).flag 0x1820 0 = m.flag 0x1820 0 := by
  have hget {j t : Nat} := m.get_coasted hk lockLoss (j := j) (t := t)
  have hn {j t : Nat} (hj : clockIndex j) (ht : t < 256) (h : j ≠ 0x1810 + k ∨ (t ≠ 1 ∧ t ≠ 5 ∧ t ≠ 6 ∧ t ≠ 8)) :
      (m.coasted k lockLoss).n j t = m.n j t := congrArg Val.nat (hget hj ht h)
  refine ⟨hn (by omega) (by decide) (by omega), fun r => hn (by decide) ?_ (by omega), ?_⟩
  · unfold refSource
    split_ifs <;> decide
  · unfold Mod.flag
    rw [hn (by decide) (by decide) (by omega)]

theorem Mod.forcedSwitch_idle (h : nth m.clk.moving k = none) : m.forcedSwitch k = m := by
  unfold Mod.forcedSwitch
  rw [h]

/-- A forced switch locks the PLL on its new reference, and is told of. -/
theorem Mod.forcedSwitch_shows (hk : k < 6) {r : Nat} (h : nth m.clk.moving k = some r) : (m.forcedSwitch k).n (0x1810 + k) 2 = r
    ∧ (m.forcedSwitch k).n (0x1810 + k) 1 = 1 ∧ (m.forcedSwitch k).n (0x1810 + k) 7 = 1
    ∧ (m.forcedSwitch k).clk.moving = m.clk.moving.set k none ∧ (m.forcedSwitch k).told 0x1805 k [k] := by
  have heq : m.forcedSwitch k = (((m.put (0x1810 + k) 7 1).lockPll k r).modClk fun s => { s with moving := s.moving.set k none }).raise 0x1805 k [k] := by
    unfold Mod.forcedSwitch
    rw [h]
  have hclk (m : Mod) (g : ClockS → ClockS) (j t : Nat) : (m.modClk g).n j t = m.n j t := rfl
  obtain ⟨h1, h2⟩ := (m.put (0x1810 + k) 7 1).lockPll_shows hk r
  have h7 : ((m.put (0x1810 + k) 7 1).lockPll k r).n (0x1810 + k) 7 = 1 :=
    (congrArg Val.nat (Mod.get_lockPll _ hk _ (by omega) (by decide))).trans (m.n_put _ _ _ (by omega))
  rw [heq, Mod.n_raise _ _ _ _ (by omega), Mod.n_raise _ _ _ _ (by omega), Mod.n_raise _ _ _ _ (by omega), hclk, hclk, hclk]
  exact ⟨h2, h1, h7, by rw [Mod.raise_clk]; rfl, Mod.raise_told _ _ _ _⟩

/-- A PLL that has its eight windows is back at nominal, before DRAM recovers. -/
def Mod.pllLocked (m : Mod) (k : Nat) : Mod :=
  let x := (m.put (0x1810 + k) 1 2).modClk fun s => { s with tries := s.tries.set k 0 }
  x.raiseClear 0x1804 k [0x1803] [k, x.n (0x1810 + k) 2]

theorem Mod.pllRelocks_eq : m.pllRelocks k = if m.n (0x1810 + k) 1 ≠ 1 || nth m.clk.runs (4 + k) ≠ 8 then m
    else if k ≤ 1 && !(m.pllLocked k).coreCoasts then (m.pllLocked k).recoverDram else m.pllLocked k := rfl

theorem Mod.pllLocked_shows (hk : k < 6) : (m.pllLocked k).n (0x1810 + k) 1 = 2 ∧ (m.pllLocked k).condSet 0x1803 k = false
    ∧ (m.pllLocked k).told 0x1804 k [k, m.n (0x1810 + k) 2] ∧ (m.pllLocked k).clk.tries = m.clk.tries.set k 0 := by
  have hclk (m : Mod) (g : ClockS → ClockS) (j t : Nat) : (m.modClk g).n j t = m.n j t := rfl
  have hraise (m : Mod) (p : List Nat) : (m.raiseClear 0x1804 k [0x1803] p).clk = m.clk := Mod.raiseClear_part _ _ _ _ _ (p := .clk) (by decide)
  unfold Mod.pllLocked
  dsimp only
  rw [hclk, Mod.n_put_other _ _ (by omega) (by omega), hraise]
  refine ⟨?_, Mod.condSet_raiseClear _ _ _ List.mem_cons_self _, Mod.raiseClear_told _ _ _ _ _, rfl⟩
  exact (congrArg Val.nat (Mod.get_raiseClear_frame _ _ _ _ _ (by omega))).trans ((hclk _ _ _ _).trans (Mod.n_put _ _ _ _ (by omega)))

theorem Mod.get_recoverDram {j t : Nat} (h : ¬(0x1C4A ≤ j ∧ j ≤ 0x1C59 ∧ t = 1)) (ht : t < 256) : m.recoverDram.get j t = m.get j t := by
  unfold Mod.recoverDram
  refine Mod.get_each fun m c hc => ?_
  have := List.mem_range.mp (List.mem_filter.mp hc).1
  exact m.get_trigger _ _ (by omega)

/-- Every populated channel's trims are queued for recovery. -/
theorem Mod.queued_recoverDram {c : Nat} (hc : c < 16) (h : m.dimmIn c = true) : ∃ x ∈ m.recoverDram.cal.queued, x.1 = 10 + c := by
  have hall (l : List Nat) (m : Mod) : (m.each l fun (m : Mod) (c : Nat) => m.trigger (10 + c) trigRecovery)
      = m.each (l.map fun c => 10 + c) fun (m : Mod) (d : Nat) => m.trigger d trigRecovery := by
    unfold Mod.each
    rw [List.foldl_map]
  unfold Mod.recoverDram
  rw [hall]
  refine Mod.queued_each trigRecovery (fun x hx => ?_) (List.mem_map.mpr ⟨c, List.mem_filter.mpr ⟨List.mem_range.mpr hc, h⟩, rfl⟩) ?_
  · obtain ⟨y, hy, rfl⟩ := List.mem_map.mp hx
    have := List.mem_range.mp (List.mem_filter.mp hy).1
    omega
  · exact ⟨fun _ => by rwa [Nat.add_sub_cancel_left], fun h9 => absurd h9 (by omega), fun h26 => absurd h26 (by omega)⟩

/-- What a PLL that has its eight windows shows; DRAM recovers once neither of its clocks coasts. -/
theorem Mod.pllRelocks_shows (hk : k < 6) (h : m.n (0x1810 + k) 1 = 1 ∧ nth m.clk.runs (4 + k) = 8) :
    (m.pllRelocks k).n (0x1810 + k) 1 = 2 ∧ (m.pllRelocks k).condSet 0x1803 k = false
      ∧ (m.pllRelocks k).told 0x1804 k [k, m.n (0x1810 + k) 2] ∧ (m.pllRelocks k).clk.tries = m.clk.tries.set k 0
      ∧ (k ≤ 1 → m.pllCoasts (1 - k) = false → ∀ c < 16, m.dimmIn c = true → ∃ x ∈ (m.pllRelocks k).cal.queued, x.1 = 10 + c) := by
  obtain ⟨h1, h8⟩ := h
  obtain ⟨hstate, hcond, htold, htries⟩ := m.pllLocked_shows hk
  rw [Mod.pllRelocks_eq, if_neg (by simp [h1, h8])]
  have hget {j t : Nat} (hj : j < 0x7400) (ht : t < 256) (h : j ≠ 0x1810 + k ∨ t ≠ 1) : (m.pllLocked k).n j t = m.n j t := by
    have hclk (m : Mod) (g : ClockS → ClockS) : (m.modClk g).n j t = m.n j t := rfl
    unfold Mod.pllLocked
    dsimp only
    exact (congrArg Val.nat (Mod.get_raiseClear_frame _ _ _ _ _ (by omega))).trans ((hclk _ _).trans (Mod.n_put_other _ _ (by omega) (by omega)))
  have hcore : k ≤ 1 → m.pllCoasts (1 - k) = false → (m.pllLocked k).coreCoasts = false := fun hk1 hp => by
    have hown : (m.pllLocked k).pllCoasts k = false := by
      unfold Mod.pllCoasts
      rw [hstate]
      rfl
    have hother : (m.pllLocked k).pllCoasts (1 - k) = false := by
      unfold Mod.pllCoasts at hp ⊢
      rwa [hget (by omega) (by decide) (by omega)]
    unfold Mod.coreCoasts
    obtain rfl | rfl : k = 0 ∨ k = 1 := by omega
    · rw [hown, hother]
      rfl
    · rw [hown, hother]
      rfl
  split
  · next hr =>
    refine ⟨?_, ?_, Mod.told_of_tells (Mod.tells_of_part (Mod.recoverDram_part _ (by decide)) Mod.tells_refl) htold, ?_, fun _ _ c hc hd => ?_⟩
    · exact (congrArg Val.nat (Mod.get_recoverDram (by omega) (by decide))).trans hstate
    · exact (Mod.condSet_of_part (Mod.recoverDram_part _ (by decide))).trans hcond
    · exact (congrArg ClockS.tries (Mod.recoverDram_part _ (p := .clk) (by decide))).trans htries
    · refine Mod.queued_recoverDram hc ?_
      unfold Mod.dimmIn at hd ⊢
      rwa [hget (by omega) (by decide) (by omega)]
  · next hr =>
    exact ⟨hstate, hcond, htold, htries, fun hk1 hp => absurd (by simp [hk1, hcore hk1 hp]) hr⟩

end

/-! ### Access timeouts and the frequency counter (R291, R292) -/

section
variable {m : Mod}

theorem Mod.accessTimeout_shows {block : Nat} (addr initiator : Nat) (h : m.flag 0x1850 1 = true ∧ 10 ≤ block ∧ block ≤ 31) :
    (m.accessTimeout block addr initiator).n 0x1850 3 = block ∧ (m.accessTimeout block addr initiator).n 0x1850 4 = addr
      ∧ (m.accessTimeout block addr initiator).n 0x1850 5 = initiator ∧ (m.accessTimeout block addr initiator).n 0x1850 6 = m.now
      ∧ (m.accessTimeout block addr initiator).n 0x1850 2 = (m.bump 0x1850 2).n 0x1850 2
      ∧ (m.accessTimeout block addr initiator).told 0x1806 block [block, addr, initiator] := by
  obtain ⟨hf, h10, h31⟩ := h
  have heq : m.accessTimeout block addr initiator = ((((((m.bump 0x1850 2).put 0x1850 3 block).put 0x1850 4 addr).put 0x1850 5 initiator).put
      0x1850 6 (((m.bump 0x1850 2).put 0x1850 3 block).put 0x1850 4 addr).now).raise 0x1806 block [block, addr, initiator]) :=
    if_neg (by simp [hf, within, h10, h31])
  have hnow : (((m.bump 0x1850 2).put 0x1850 3 block).put 0x1850 4 addr).now = m.now := by rw [Mod.put_now, Mod.put_now, Mod.bump_now]
  rw [heq, hnow]
  refine ⟨?_, ?_, ?_, ?_, ?_, Mod.raise_told _ _ _ _⟩
  all_goals rw [Mod.n_raise _ _ _ _ (by decide)]
  · simp (disch := omega) [Mod.n, Val.nat, Val.int]
  · simp (disch := omega) [Mod.n, Val.nat, Val.int]
  · simp (disch := omega) [Mod.n, Val.nat, Val.int]
  · simp (disch := omega) [Mod.n, Val.nat, Val.int]
  · simp (disch := omega) [Mod.n]

theorem Mod.counterDone_shows (k : Nat) (h : m.n 0x1840 5 = 1) : (m.counterDone k false).n 0x1840 5 = 2 ∧ (m.counterDone k false).n 0x1840 6 = k
    ∧ (m.counterDone k false).n 0x1840 7 = k * clockHz m.clk.counting.2.1 * 1000 / m.clk.counting.2.2
    ∧ (m.counterDone k false).z 0x1840 8 = (((k * clockHz m.clk.counting.2.1 * 1000 / m.clk.counting.2.2 : Nat) : Int)
      - (clockHz m.clk.counting.1 * 1000 : Nat)) * 1000000000 / (clockHz m.clk.counting.1 * 1000 : Nat) := by
  unfold Mod.counterDone
  rw [if_neg (not_not.mpr h), if_neg Bool.false_ne_true]
  dsimp only
  refine ⟨?_, ?_, ?_, ?_⟩
  · simp (disch := omega) [Mod.n, Val.nat, Val.int]
  · simp (disch := omega) [Mod.n, Val.nat, Val.int]
  · exact (congrArg Val.nat (Mod.get_putZ_frame _ _ (by decide) (by decide))).trans (Mod.n_put _ _ _ _ (by decide))
  · simp (disch := omega) [Mod.z, Val.int]

end
/-- A command of a module that runs, and boots nothing, does what its effect is, where the effect needs the log. -/
theorem does_actE {i : Instr} {s : State} {t : Nanos} {g : EventLog → Mod → Mod} {m' : Mod} (hs : s.serves) (he : exec i s = actE t g s)
    (hg : g s.events (s.m.at t) = m') (hb : m'.rebooting = false) : Does i s m' := he.trans (actE_next hs hg hb)

/-- Settles O44: windows, sources, PLLs, accesses and the counter, each by what it finds. -/
theorem clocksAreJudgedAndCoast : Obligations.ClocksAreJudgedAndCoast := by
  unfold Obligations.ClocksAreJudgedAndCoast
  refine ⟨fun s t h => ?_, fun s t h => ?_⟩
  · intro m
    have hb : m.rebooting = false := h.2
    refine ⟨fun c k => ?_, fun c gap => ?_⟩
    · intro off idle near run
      have hrun : run = m.gateRun c.val k := m.gateRun_eq k
      refine ⟨fun hi => ?_, fun hi => ?_⟩
      · refine does_act (g := fun m => m.gateWindow c.val k) h rfl ((m.gateWindow_eq k).trans (if_pos ?_)) hb
        have hi : c.val = 0 ∨ (c.val ≤ 3 ∧ m.source c.val = 3) ∨ (c.val = 3 ∧ (m.clk.settled = false ∨ m.source 2 = 3))
          ∨ (4 ≤ c.val ∧ m.n (0x1810 + (c.val - 4)) 1 ≠ 1) := hi
        simpa [or_assoc] using hi
      · have := m.gateWindow_shows k c.isLt hi
        rw [← hrun] at this
        exact completes_act (g := fun m => m.gateWindow c.val k) rfl h this fun _ h => h
    · intro lost
      refine ⟨fun hs => ?_, fun hs => ?_⟩
      · exact does_actE (g := fun e m => m.sourceStops e.epoch c.val gap) h rfl (if_pos hs) hb
      · exact completes_actE (g := fun e m => m.sourceStops e.epoch c.val gap) rfl h (m.sourceStops_shows _ c.isLt gap hs (lost := lost) Iff.rfl) fun _ h => h
  · intro m
    have hb : m.rebooting = false := h.2
    refine ⟨fun k => ?_, fun block addr initiator => ?_, fun k => ?_⟩
    · intro o here
      have heq (lockLoss : Bool) := m.pllFails_eq (k := k.val) lockLoss
      have hk := k.isLt
      refine ⟨fun lockLoss => ?_, fun hn => ?_, fun r hr => ?_, ?_⟩
      · intro fails
        refine ⟨fun hn => ?_, fun hf => ?_⟩
        · refine does_act (g := fun m => m.pllFails k.val lockLoss) h rfl ((heq lockLoss).trans (if_pos ?_)) hb
          have hn : ¬(m.n (0x1810 + k.val) 1 ≠ 3 ∧ (lockLoss = true ∨ m.source (refSource (m.n (0x1810 + k.val) 2)) = 3)) := hn
          by_cases h3 : m.n (0x1810 + k.val) 1 = 3
          · simp [h3]
          · simpa [h3, not_or] using hn
        · have hfails : m.pllFails k.val lockLoss = (m.coasted k.val lockLoss).movePll k.val lockLoss := by
            have hf : m.n (0x1810 + k.val) 1 ≠ 3 ∧ (lockLoss = true ∨ m.source (refSource (m.n (0x1810 + k.val) 2)) = 3) := hf
            rw [heq lockLoss, if_neg]
            simpa [not_or, imp_iff_not_or] using hf
          refine completes_act (g := fun m => m.pllFails k.val lockLoss) rfl h ?_ fun _ h => h
          refine ⟨fun h1 => ?_, ?_⟩
          · exact Mod.pllFails_first hk h1 (hfails ▸ Mod.coastsAlike_movePll hk lockLoss)
          · rw [show (s.m.at t).pllFails k.val lockLoss = _ from hfails]
            obtain ⟨h2, hsrc, hfl⟩ := m.coasted_judges hk lockLoss
            have h1 := m.n_coasted hk lockLoss
            have hclk := m.clk_coasted (k := k.val) lockLoss
            have halt := Mod.alternate_congr m h2 hsrc
            generalize m.coasted k.val lockLoss = x at *
            by_cases hflag : m.flag 0x1820 0 = false
            · rw [if_pos hflag, x.movePll_off lockLoss (hfl.trans hflag)]
              exact h1
            · have hxf : x.flag 0x1820 0 = true := hfl.trans (Bool.not_eq_false _ ▸ hflag)
              have hsrc : x.source (refSource (x.n (0x1810 + k.val) 2)) = here := by rw [h2, hsrc]
              rw [if_neg hflag]
              by_cases hagain : lockLoss = true ∧ here = 1 ∧ nth m.clk.tries k.val < 3
              · rw [if_pos hagain, x.movePll_again hxf (by rwa [hsrc, hclk])]
                obtain ⟨hl1, hl2⟩ := x.lockPll_shows hk (x.n (0x1810 + k.val) 2)
                exact ⟨hl1, hl2.trans h2, by rw [← hclk]; rfl⟩
              · obtain ⟨hnone, hsome⟩ := x.movePll_alternate (lockLoss := lockLoss) hxf (by rwa [hsrc, hclk])
                rw [if_neg hagain]
                rcases ha : m.alternate k.val with _ | r
                · rw [hnone (halt.trans ha)]
                  exact h1
                · rw [hsome r (halt.trans ha), hsrc]
                  by_cases hhere : here = 3
                  · rw [if_pos hhere]
                    dsimp only
                    rw [if_pos hhere]
                    exact ⟨h1, by rw [← hclk]; rfl⟩
                  · rw [if_neg hhere]
                    dsimp only
                    rw [if_neg hhere]
                    exact x.lockPll_shows hk r
      · exact does_act (g := fun m => m.forcedSwitch k.val) h rfl (Mod.forcedSwitch_idle hn) hb
      · exact completes_act (g := fun m => m.forcedSwitch k.val) rfl h (Mod.forcedSwitch_shows hk hr) fun _ h => h
      · intro locks
        refine ⟨fun hl => ?_, fun hn => ?_⟩
        · exact completes_act (g := fun m => m.pllRelocks k.val) rfl h (Mod.pllRelocks_shows hk hl) fun _ h => h
        · refine does_act (g := fun m => m.pllRelocks k.val) h rfl (if_pos ?_) hb
          have hn : ¬(m.n (0x1810 + k.val) 1 = 1 ∧ nth m.clk.runs (4 + k.val) = 8) := hn
          show (decide (m.n (0x1810 + k.val) 1 ≠ 1) || decide (nth m.clk.runs (4 + k.val) ≠ 8)) = true
          simpa [imp_iff_not_or] using hn
    · intro watched
      refine ⟨fun hw => ?_, fun hn => ?_⟩
      · exact completes_act (g := fun m => m.accessTimeout block addr initiator) rfl h (Mod.accessTimeout_shows addr initiator hw) fun _ h => h
      · refine does_act (g := fun m => m.accessTimeout block addr initiator) h rfl (if_pos ?_) hb
        have hn : ¬(m.flag 0x1850 1 = true ∧ 10 ≤ block ∧ block ≤ 31) := hn
        show (!m.flag 0x1850 1 || !within block 10 31) = true
        simpa [within, imp_iff_not_or] using hn
    · have hdone := Mod.counterDone_shows (m := m) k
      rcases hcount : m.clk.counting with ⟨clock, ref, gate⟩
      rw [hcount] at hdone
      dsimp only
      refine ⟨fun hn void => ?_, fun h1 => ⟨?_, ?_⟩⟩
      · exact does_act (g := fun m => m.counterDone k void) h rfl (if_pos hn) hb
      · exact completes_act (g := fun m => m.counterDone k false) rfl h (hdone h1) fun _ h => h
      · refine does_act (g := fun m => m.counterDone k true) h rfl ?_ hb
        unfold Mod.counterDone
        rw [if_neg (not_not.mpr h1), if_pos rfl]

end Sys2Proof.Machine
end

section
/-! SUPPORT. Heat: the junction's thresholds, the thermal stop and its end, optics and the live bytes (R346, R352-R355). -/

namespace Sys2Proof.Machine

/-! ### What a thermal stop does to the media (R354) -/

section
variable {a m : Mod}

/-- The objects of the sensors. -/
abbrev sensorIndex (j : Nat) : Prop := j = 0x1D00

theorem Mod.get_stopRenditions (m : Mod) (after : Nat) {j t : Nat} (hj : sensorIndex j) (ht : t < 256) : (m.stopRenditions after).get j t = m.get j t := by
  have hqueue (m : Mod) (p : PreudS) : ({ m with preud := p } : Mod).get j t = m.get j t := rfl
  unfold Mod.stopRenditions
  dsimp only
  refine (Mod.get_each fun m r _ => hqueue m _).trans ?_
  refine (Mod.get_each fun m f hf => ?_).trans ((Mod.get_each fun m f _ => m.get_raise_frame _ _ _ (by omega)).trans (hqueue m _))
  obtain ⟨c, hc, rfl⟩ := List.mem_map.mp hf
  have hrend : 0x200 ≤ c.fid := by
    have := (List.mem_filter.mp hc).2
    simp only [within, Bool.and_eq_true, decide_eq_true_eq] at this
    exact this.1.1
  split
  · exact m.get_setFn_platform (by omega) (.inl (by omega)) ht
  · rfl

theorem Mod.tells_stopRenditions (after : Nat) (h : a.tells m) : a.tells (m.stopRenditions after) := by
  have hqueue {m : Mod} (p : PreudS) (h : a.tells m) : a.tells { m with preud := p } := Mod.tells_of_raised rfl h
  unfold Mod.stopRenditions
  dsimp only
  refine Mod.tells_each (fun m r h => hqueue _ h) (Mod.tells_each (fun m f h => Mod.tells_ite (Mod.tells_of_part (Mod.setFn_part _ _ _ (by decide)) h) h) ?_)
  exact Mod.tells_each (fun m f h => Mod.tells_raise _ _ _ h) (hqueue _ h)

theorem Mod.get_thermalTwin (m : Mod) {j t : Nat} : m.thermalTwin.get j t = m.get j t := Mod.get_of_part (Mod.thermalTwin_part _ (by decide))

theorem Mod.get_thermalAct (m : Mod) {j t : Nat} (hj : sensorIndex j) (ht : t < 256) : m.thermalAct.get j t = m.get j t := by
  have hhw (m : Mod) (g : HwS → HwS) : (m.modHw g).get j t = m.get j t := rfl
  unfold Mod.thermalAct Mod.thermalRenditions
  dsimp only
  split_ifs
  · exact hhw m _
  · exact Mod.get_autoHandover _ _ (by omega)
  · exact m.get_stopRenditions _ hj ht
  · exact m.get_stopRenditions _ hj ht
  · rw [Mod.get_stopRenditions _ _ hj ht, Mod.get_thermalTwin]

theorem Mod.tells_thermalAct (h : a.tells m) : a.tells m.thermalAct := by
  have hhw (m : Mod) (g : HwS → HwS) (h : a.tells m) : a.tells (m.modHw g) := Mod.tells_of_raised rfl h
  have hover (B : Nat) : a.tells (m.autoHandover B true).1 := Mod.tells_of_part (Mod.autoHandover_part _ _ _ (by decide)) h
  unfold Mod.thermalAct Mod.thermalRenditions
  dsimp only
  split_ifs
  · exact hhw m _ h
  · exact hover _
  · exact Mod.tells_stopRenditions _ h
  · exact Mod.tells_stopRenditions _ h
  · exact Mod.tells_stopRenditions _ (Mod.tells_of_part (Mod.thermalTwin_part _ (by decide)) h)

end

/-! ### The junction (R353) -/

section
variable (m : Mod) (sample : Int)

/-- The temperature a sample shows: while the sensors calibrate, that of the sample before. -/
def Mod.junctionTemp : Int := if m.cal.runsIn 27 then m.z 0x1D00 1 else sample

/-- How many samples in a row lie at or above a threshold. -/
def Mod.junctionRun (i : Nat) (limit : Int) : Nat :=
  if limit - m.lowered ≤ m.junctionTemp sample then min 4 (nth m.hw.hot i + 1) else 0

/-- A sample shown, with the runs of the thresholds. -/
def Mod.junctionShown : Mod :=
  let cool : Option Nanos := if m.junctionTemp sample < 950 - m.lowered then some (m.hw.coolSince.getD m.ctr) else none
  ((m.modHw fun h =>
    { h with
      hot := [m.junctionRun sample 0 1000, m.junctionRun sample 1 1080, m.tripRun sample]
      coolSince := cool }).putZ 0x1D00 1 (m.junctionTemp sample)).putMax 0x1D00 2 (m.junctionTemp sample)

/-- The warning, raised or cleared. -/
def Mod.heatWarned (x : Mod) (d temp : Int) (run : Nat) : Mod :=
  if run = 4 && !x.condSet 0x1D01 0 then (x.bump 0x1D00 0x0A).raiseCond 0x1D01 0 [temp.toNat, 1]
  else if temp < 970 - d && x.condSet 0x1D01 0 then x.raiseClear 0x1D01 0 [0x1D01] [temp.toNat, 0]
  else x

/-- The stop, begun or going on. -/
def Mod.heatStopped (x : Mod) (temp : Int) (run : Nat) (stop : Bool) : Mod :=
  if run = 4 && !stop then (((x.bump 0x1D00 0x0B).raiseCond 0x1D02 0 [temp.toNat, roleNo x.role]).showThermal true).thermalAct
  else x.showThermal stop

theorem Mod.junction_eq : m.junction sample = if m.tripRun sample = 4 then (m.junctionShown sample).powerDown .tripped
    else ((m.junctionShown sample).heatWarned m.lowered (m.junctionTemp sample) (m.junctionRun sample 0 1000)).heatStopped
      (m.junctionTemp sample) (m.junctionRun sample 1 1080) (m.n 0x1D00 5 = 2) := rfl

theorem Mod.junctionRun_four (i : Nat) (limit : Int) :
    m.junctionRun sample i limit = 4 ↔ limit - m.lowered ≤ m.junctionTemp sample ∧ 3 ≤ nth m.hw.hot i := by
  unfold Mod.junctionRun
  split
  · next h =>
    simp only [h, true_and]
    omega
  · next h => simp [h]

theorem Mod.get_junctionShown {j t : Nat} (h : j ≠ 0x1D00 ∨ t ≠ 1 ∧ t ≠ 2) (ht : t < 256) : (m.junctionShown sample).get j t = m.get j t := by
  unfold Mod.junctionShown
  dsimp only
  rw [Mod.get_putMax_frame _ _ (by decide) (by omega), Mod.get_putZ_frame _ _ (by decide) (by omega)]
  rfl

theorem Mod.z_junctionShown : (m.junctionShown sample).z 0x1D00 1 = m.junctionTemp sample := by
  unfold Mod.junctionShown
  dsimp only
  exact congrArg Val.int ((Mod.get_putMax_frame _ _ (by decide) (by decide)).trans (Mod.get_putZ_same _ _ (by decide)))

theorem Mod.conds_junctionShown : (m.junctionShown sample).conds = m.conds := by
  unfold Mod.junctionShown
  dsimp only
  rw [Mod.putMax_conds, Mod.putZ_conds]
  rfl

variable {x : Mod} {d temp : Int} {run : Nat}

/-- A warning changes its count, its condition and what is told of it, and nothing else of the sensors. -/
theorem Mod.get_heatWarned {t : Nat} (ht : t ≠ 0x0A) (ht2 : t < 256) : (x.heatWarned d temp run).get 0x1D00 t = x.get 0x1D00 t := by
  unfold Mod.heatWarned
  split_ifs
  · rw [Mod.get_raiseCond_frame _ _ _ _ (by omega), Mod.get_bump_frame _ (by decide) (by omega)]
  · exact x.get_raiseClear_frame _ _ _ _ (by omega)
  · rfl

theorem Mod.get_heatWarned_other {j t : Nat} (hj : j ≠ 0x1D00) (ht : t < 256) (hq : j < 0x7400) : (x.heatWarned d temp run).get j t = x.get j t := by
  unfold Mod.heatWarned
  split_ifs
  · rw [Mod.get_raiseCond_frame _ _ _ _ (by omega), Mod.get_bump_frame _ (by decide) (by omega)]
  · exact x.get_raiseClear_frame _ _ _ _ (by omega)
  · rfl

/-- Four samples in a row at the warning's threshold raise it, unless it stands. -/
theorem Mod.heatWarned_raised (hr : run = 4) (hc : x.condSet 0x1D01 0 = false) : (x.heatWarned d temp run).told 0x1D01 0 [temp.toNat, 1]
    ∧ (x.heatWarned d temp run).n 0x1D00 0x0A = (x.bump 0x1D00 0x0A).n 0x1D00 0x0A := by
  unfold Mod.heatWarned
  rw [if_pos (by simp [hr, hc])]
  refine ⟨Mod.raiseCond_told _ ?_ _, congrArg Val.nat (Mod.get_raiseCond_frame _ _ _ _ (by decide))⟩
  rwa [Mod.condSet_of_conds (Mod.bump_conds _ _ _)]

/-- A temperature below the clearing point clears the warning. -/
theorem Mod.heatWarned_cleared (hr : run ≠ 4) (ht : temp < 970 - d) (hc : x.condSet 0x1D01 0 = true) :
    (x.heatWarned d temp run).told 0x1D01 0 [temp.toNat, 0] := by
  unfold Mod.heatWarned
  rw [if_neg (by simp [hr]), if_pos (by simp [ht, hc])]
  exact Mod.raiseClear_told _ _ _ _ _

/-- Whether the warning stands after a sample. -/
theorem Mod.condSet_heatWarned (h : run = 4 → ¬temp < 970 - d) : (x.heatWarned d temp run).condSet 0x1D01 0
    = if run = 4 then true else if temp < 970 - d then false else x.condSet 0x1D01 0 := by
  unfold Mod.heatWarned
  by_cases hr : run = 4
  · have hn := h hr
    rw [if_pos hr]
    cases hc : x.condSet 0x1D01 0 with
    | false =>
      rw [if_pos (by simp [hr])]
      exact Mod.condSet_raiseCond _ _ _ _
    | true =>
      rw [if_neg (by simp), if_neg (by simp [hn])]
      exact hc
  · rw [if_neg (c := run = 4) hr, if_neg (c := (_ && _) = true) (by simp [hr])]
    by_cases ht : temp < 970 - d
    · rw [if_pos ht]
      cases hc : x.condSet 0x1D01 0 with
      | false =>
        rw [if_neg (by simp)]
        exact hc
      | true =>
        rw [if_pos (by simp [ht])]
        exact Mod.condSet_raiseClear _ _ _ List.mem_cons_self _
    · rw [if_neg ht, if_neg (by simp [ht])]

theorem Mod.condSet_raiseClear_other (m : Mod) (c r : Nat) {l : List Nat} {k : Nat} (hk : k ∉ l) (s : Nat) (p : List Nat) :
    (m.raiseClear c r l p).condSet k s = m.condSet k s := by
  unfold Mod.condSet
  rw [m.conds_raiseClear, List.any_filter]
  congr 1
  funext y
  by_cases hy : y.code = k
  · simp [hy, hk]
  · simp [hy]

theorem Mod.condSet_heatWarned_other {k : Nat} (hk : k ≠ 0x1D01) : (x.heatWarned d temp run).condSet k 0 = x.condSet k 0 := by
  unfold Mod.heatWarned
  split_ifs
  · rw [Mod.condSet_raiseCond_other _ hk.symm]
    exact Mod.condSet_of_conds (Mod.bump_conds _ _ _)
  · exact x.condSet_raiseClear_other _ _ (by simpa using hk) _ _
  · rfl

theorem Mod.get_showThermal (m : Mod) (stop : Bool) {t : Nat} (h : t ≠ 5) : (m.showThermal stop).get 0x1D00 t = m.get 0x1D00 t :=
  m.get_put_frame _ (by decide) (by omega)

theorem Mod.get_heatStopped {t : Nat} {stop : Bool} (h : t ≠ 5 ∧ t ≠ 0x0B) (ht : t < 256) : (x.heatStopped temp run stop).get 0x1D00 t = x.get 0x1D00 t := by
  unfold Mod.heatStopped
  split
  · rw [Mod.get_thermalAct _ rfl ht, Mod.get_showThermal _ _ h.1, Mod.get_raiseCond_frame _ _ _ _ (by omega),
      Mod.get_bump_frame _ (by decide) (by omega)]
  · exact x.get_showThermal _ h.1

theorem Mod.tells_showThermal {a m : Mod} (stop : Bool) (h : a.tells m) : a.tells (m.showThermal stop) :=
  Mod.tells_of_part (Mod.showThermal_part _ _ (by decide)) h

theorem Mod.tells_heatStopped {a : Mod} (stop : Bool) (h : a.tells x) : a.tells (x.heatStopped temp run stop) := by
  unfold Mod.heatStopped
  exact Mod.tells_ite (Mod.tells_thermalAct (Mod.tells_showThermal _ (Mod.tells_raiseCond _ _ _ (Mod.tells_bump h _ _)))) (Mod.tells_showThermal _ h)

/-- Four samples in a row at the stop's threshold begin a stop. -/
theorem Mod.heatStopped_begins (hr : run = 4) : (x.heatStopped temp run false).n 0x1D00 5 = 2
    ∧ (x.heatStopped temp run false).n 0x1D00 0x0B = (x.bump 0x1D00 0x0B).n 0x1D00 0x0B
    ∧ (x.condSet 0x1D02 0 = false → (x.heatStopped temp run false).told 0x1D02 0 [temp.toNat, roleNo x.role]) := by
  unfold Mod.heatStopped
  rw [if_pos (by simp [hr])]
  refine ⟨?_, ?_, fun hc => Mod.told_of_tells (Mod.tells_thermalAct (Mod.tells_showThermal _ Mod.tells_refl)) (Mod.raiseCond_told _ ?_ _)⟩
  · exact (congrArg Val.nat (Mod.get_thermalAct _ rfl (by decide))).trans (Mod.n_put _ _ _ _ (by decide))
  · refine (congrArg Val.nat (Mod.get_thermalAct _ rfl (by decide))).trans ?_
    exact (Mod.n_put_other _ _ (by decide) (by decide)).trans (congrArg Val.nat (Mod.get_raiseCond_frame _ _ _ _ (by decide)))
  · rwa [Mod.condSet_of_conds (Mod.bump_conds _ _ _)]

/-- A stop that goes on, or does not begin, is shown with the warning. -/
theorem Mod.heatStopped_shown {stop : Bool} (h : run ≠ 4 ∨ stop = true) :
    (x.heatStopped temp run stop).n 0x1D00 5 = if stop then 2 else if x.condSet 0x1D01 0 then 1 else 0 := by
  unfold Mod.heatStopped
  rw [if_neg (by rcases h with h | h <;> simp [h])]
  exact Mod.n_put _ _ _ _ (by decide)

/-- What a sample that is no trip shows and tells. -/
theorem Mod.junction_shows (h4 : m.tripRun sample ≠ 4) : (m.junction sample).z 0x1D00 1 = m.junctionTemp sample
    ∧ (m.junctionRun sample 0 1000 = 4 → m.condSet 0x1D01 0 = false → (m.junction sample).told 0x1D01 0 [(m.junctionTemp sample).toNat, 1]
      ∧ (m.junction sample).n 0x1D00 0x0A = (m.bump 0x1D00 0x0A).n 0x1D00 0x0A)
    ∧ (m.junctionTemp sample < 970 - m.lowered → m.condSet 0x1D01 0 = true → (m.junction sample).told 0x1D01 0 [(m.junctionTemp sample).toNat, 0])
    ∧ (m.junctionRun sample 1 1080 = 4 → m.n 0x1D00 5 ≠ 2 → (m.junction sample).n 0x1D00 5 = 2
      ∧ (m.junction sample).n 0x1D00 0x0B = (m.bump 0x1D00 0x0B).n 0x1D00 0x0B
      ∧ (m.condSet 0x1D02 0 = false → (m.junction sample).told 0x1D02 0 [(m.junctionTemp sample).toNat, roleNo m.role]))
    ∧ (m.junctionRun sample 1 1080 ≠ 4 ∨ m.n 0x1D00 5 = 2 → (m.junction sample).n 0x1D00 5 =
      (if m.n 0x1D00 5 = 2 then 2 else if m.junctionRun sample 0 1000 = 4 then 1 else if m.junctionTemp sample < 970 - m.lowered then 0
        else if m.condSet 0x1D01 0 then 1 else 0)) := by
  have hclear : m.junctionRun sample 0 1000 = 4 → ¬m.junctionTemp sample < 970 - m.lowered := fun hr => by
    have := ((m.junctionRun_four sample 0 1000).mp hr).1
    omega
  have hcond {c : Nat} : (m.junctionShown sample).condSet c 0 = m.condSet c 0 := Mod.condSet_of_conds (m.conds_junctionShown sample)
  have hn {t : Nat} (h : t ≠ 1 ∧ t ≠ 2) (ht : t < 256) : (m.junctionShown sample).n 0x1D00 t = m.n 0x1D00 t :=
    congrArg Val.nat (m.get_junctionShown sample (.inr h) ht)
  have hrole : ((m.junctionShown sample).heatWarned m.lowered (m.junctionTemp sample) (m.junctionRun sample 0 1000)).role = m.role :=
    Mod.role_of_get ((Mod.get_heatWarned_other (by decide) (by decide) (by decide)).trans (m.get_junctionShown sample (.inl (by decide)) (by decide)))
  have hwarn5 {t : Nat} (h : t ≠ 1 ∧ t ≠ 2 ∧ t ≠ 0x0A) (ht : t < 256) :
      ((m.junctionShown sample).heatWarned m.lowered (m.junctionTemp sample) (m.junctionRun sample 0 1000)).n 0x1D00 t = m.n 0x1D00 t :=
    (congrArg Val.nat (Mod.get_heatWarned h.2.2 ht)).trans (hn ⟨h.1, h.2.1⟩ ht)
  rw [m.junction_eq, if_neg h4]
  refine ⟨?_, fun hr hc => ⟨?_, ?_⟩, fun ht hc => ?_, fun hr h5 => ?_, fun hr => ?_⟩
  · exact (congrArg Val.int ((Mod.get_heatStopped (by decide) (by decide)).trans (Mod.get_heatWarned (by decide) (by decide)))).trans (m.z_junctionShown sample)
  · exact Mod.told_of_tells (Mod.tells_heatStopped _ Mod.tells_refl) (Mod.heatWarned_raised hr (hcond.trans hc)).1
  · refine (congrArg Val.nat (Mod.get_heatStopped (by decide) (by decide))).trans ((Mod.heatWarned_raised hr (hcond.trans hc)).2.trans ?_)
    exact Mod.n_bump_congr (by decide) (hn (by decide) (by decide))
  · exact Mod.told_of_tells (Mod.tells_heatStopped _ Mod.tells_refl) (Mod.heatWarned_cleared (fun hr => hclear hr ht) ht (hcond.trans hc))
  · rw [decide_eq_false h5]
    obtain ⟨hstop, hcount, htold⟩ := Mod.heatStopped_begins (temp := m.junctionTemp sample)
      (x := (m.junctionShown sample).heatWarned m.lowered (m.junctionTemp sample) (m.junctionRun sample 0 1000)) hr
    refine ⟨hstop, hcount.trans (Mod.n_bump_congr (by decide) (hwarn5 (by decide) (by decide))), fun hc => ?_⟩
    rw [hrole] at htold
    exact htold (by rw [Mod.condSet_heatWarned_other (by decide), hcond, hc])
  · rw [Mod.heatStopped_shown (by simpa using hr), Mod.condSet_heatWarned hclear, hcond]
    simp only [decide_eq_true_eq]
    split_ifs <;> simp_all

end

/-! ### The end of a stop, cooling, optics and the live bytes (R346, R352-R355) -/

section
variable {m : Mod}

theorem Mod.thermalEnd_idle (h : m.hw.coolSince = none ∨ m.n 0x1D00 5 ≠ 2) : m.thermalEnd = m := by
  unfold Mod.thermalEnd
  split
  · rfl
  · next hs => exact if_neg (by simp [h.resolve_left (by simp [hs])])

theorem Mod.thermalEnd_cooling {a : Nanos} (hs : m.hw.coolSince = some a) (h5 : m.n 0x1D00 5 = 2) : m.thermalEnd =
    if a + 10 * second ≤ m.ctr then ((m.modHw fun h => { h with thermalWait := false }).raiseClear 0x1D03 0 [0x1D02] []).showThermal false
    else m := by
  unfold Mod.thermalEnd
  rw [hs]
  simp [h5]

/-- A stop that ends is told of, and no stop waits any more. -/
theorem Mod.stopEnded_shows (m : Mod) : (((m.raiseClear 0x1D03 0 [0x1D02] []).showThermal false).n 0x1D00 5 ≤ 1)
    ∧ ((m.raiseClear 0x1D03 0 [0x1D02] []).showThermal false).condSet 0x1D02 0 = false
    ∧ ((m.raiseClear 0x1D03 0 [0x1D02] []).showThermal false).hw = m.hw
    ∧ ((m.raiseClear 0x1D03 0 [0x1D02] []).showThermal false).told 0x1D03 0 [] := by
  unfold Mod.showThermal
  refine ⟨?_, ?_, ?_, ?_⟩
  · rw [Mod.n_put _ _ _ _ (by decide), if_neg Bool.false_ne_true]
    split <;> decide
  · rw [Mod.condSet_of_conds (Mod.put_conds _ _ _ _)]
    exact Mod.condSet_raiseClear _ _ _ List.mem_cons_self _
  · rw [Mod.put_hw]
    exact Mod.raiseClear_part _ _ _ _ _ (p := .hw) (by decide)
  · exact Mod.told_of_tells (Mod.tells_put Mod.tells_refl _ _ _) (Mod.raiseClear_told _ _ _ _ _)

/-- Cooling that fails, or is back, shows it and is told of. -/
theorem Mod.coolFail_shows {on : Bool} (h : m.flag 0x1D00 9 ≠ on) : (m.coolFail on).flag 0x1D00 9 = on ∧ (m.coolFail on).condSet 0x1D06 0 = on
    ∧ (on = true → m.condSet 0x1D06 0 = false → (m.coolFail on).told 0x1D06 0 [1]) ∧ (on = false → (m.coolFail on).told 0x1D06 0 [0]) := by
  have hflag {m' : Mod} {v : Nat} (h : m'.n 0x1D00 9 = v) : m'.flag 0x1D00 9 = decide (v ≠ 0) := by
    unfold Mod.flag
    rw [h]
  unfold Mod.coolFail
  rw [if_neg h]
  cases on with
  | true =>
    rw [if_pos rfl]
    refine ⟨hflag ((congrArg Val.nat (Mod.get_raiseCond_frame _ _ _ _ (by decide))).trans (m.n_put _ _ _ (by decide))), Mod.condSet_raiseCond _ _ _ _,
      fun _ hc => Mod.raiseCond_told _ ?_ _, fun h => absurd h (by decide)⟩
    rwa [Mod.condSet_of_conds (Mod.put_conds _ _ _ _)]
  | false =>
    rw [if_neg Bool.false_ne_true]
    exact ⟨hflag ((congrArg Val.nat (Mod.get_raiseClear_frame _ _ _ _ _ (by decide))).trans (m.n_put _ _ _ (by decide))),
      Mod.condSet_raiseClear _ _ _ List.mem_cons_self _, fun h => absurd h (by decide), fun _ => Mod.raiseClear_told _ _ _ _ _⟩

/-- An event raised at most once in a while leaves its limit behind. -/
theorem Mod.raiseLimited_limits (code res : Nat) (period : Nanos) (p : List Nat) :
    ∃ l ∈ (m.raiseLimited code res period p).limits, l.code = code ∧ l.res = res := by
  unfold Mod.raiseLimited Mod.raiseLimitedBy
  split
  · rw [Mod.raise_limits]
    exact ⟨_, List.mem_append_right _ List.mem_cons_self, rfl, rfl⟩
  · dsimp only
    split
    · rw [Mod.raise_limits]
      exact ⟨_, List.mem_append_right _ List.mem_cons_self, rfl, rfl⟩
    · rw [Mod.bump_limits]
      exact ⟨_, List.mem_append_right _ List.mem_cons_self, rfl, rfl⟩

/-- Whether a cage holds an optic. -/
def Mod.opticIn (m : Mod) (q : Nat) : Bool :=
  match (m.cage q).info with
  | none => false
  | some x => x.optic

theorem Mod.opticTemperature_eq (q : Nat) (temp high : Int) : m.opticTemperature q temp high =
    if m.opticIn q && high ≤ temp then m.raiseLimited 0x1D08 q (60 * second) [q, temp.toNat] else m := rfl

theorem Mod.opticIn_iff (q : Nat) : m.opticIn q = true ↔ ∃ x, (m.cage q).info = some x ∧ x.optic = true := by
  unfold Mod.opticIn
  split
  · next h => simp [h]
  · next x h => simp [h]

/-- The sensors read, with the airflow that follows them. -/
def Mod.sensed (m : Mod) : Mod := if m.serviceDown 0 10 then m.readSensors else m.readSensors.put 0x1D00 6 (airflow (m.z 0x1D00 1))

/-- The bytes of the live fields whose change asserts the alert. -/
def watchedOctets (b : Octets) : Octets := b.take 4 ++ (b.drop 8).take 2

/-- The live bytes taken, with the alert of their change. -/
def Mod.liveTaken (m : Mod) : Mod := m.modHw fun h =>
  { h with live := m.liveOctets, i2cAlert := h.i2cAlert || watchedOctets m.liveOctets ≠ watchedOctets h.live }

theorem Mod.updateLive_cases : m.updateLive = (if !(if !m.runs then m else m.sensed).standbyUp then (if !m.runs then m else m.sensed)
    else (if !m.runs then m else m.sensed).liveTaken) := rfl

theorem Mod.sensed_hw : m.sensed.hw = m.hw := by
  have hread : m.readSensors.hw = m.hw := Mod.readSensors_part _ (p := .hw) (by decide)
  unfold Mod.sensed
  split
  · exact hread
  · rw [Mod.put_hw, hread]

theorem Mod.updateLive_eq (hr : m.runs = true) : m.updateLive = m.sensed.liveTaken := by
  have hs : m.sensed.standbyUp = true := by
    unfold Mod.standbyUp
    rw [m.sensed_hw]
    unfold Mod.runs at hr
    simp only [Bool.or_eq_true, decide_eq_true_eq] at hr
    rcases hr with h | h <;> simp [h]
  rw [Mod.updateLive_cases, hr, Bool.not_true, if_neg (c := false = true) Bool.false_ne_true, hs, Bool.not_true,
    if_neg Bool.false_ne_true]

/-- The live bytes taken are those that stand. -/
theorem Mod.liveOctets_liveTaken : m.liveTaken.liveOctets = m.liveOctets := by
  unfold Mod.liveOctets
  rfl

theorem Mod.n_sensed_airflow (m : Mod) : m.sensed.n 0x1D00 6 = if m.serviceDown 0 10 then m.n 0x1D00 6 else airflow (m.z 0x1D00 1) := by
  unfold Mod.sensed
  split
  · unfold Mod.readSensors
    dsimp only
    refine congrArg Val.nat ?_
    simp (disch := omega)
  · exact Mod.n_put _ _ _ _ (by decide)

theorem length_beOctets (n v : Nat) : (beOctets n v).length = n := by
  induction n generalizing v with
  | zero => rfl
  | succ n ih => simp [beOctets, ih]

/-- The live bytes reach beyond the watched ones. -/
theorem Mod.ten_le_liveOctets (m : Mod) : 10 ≤ m.liveOctets.length := by
  unfold Mod.liveOctets word16
  dsimp only
  split
  · simp [length_beOctets]
  · simp [length_beOctets, liveBefore]

/-- Where the watched bytes are the same, so are the first four. -/
theorem take_of_watched {a b : Octets} (ha : 10 ≤ a.length) (h : watchedOctets a = watchedOctets b) : a.take 4 = b.take 4 := by
  unfold watchedOctets at h
  have hlen := congrArg List.length h
  simp only [List.length_append, List.length_take, List.length_drop] at hlen
  exact (List.append_inj h (by simp only [List.length_take]; omega)).1

/-- The live bytes taken raise the alert where the watched ones changed, and take none back. -/
theorem Mod.liveTaken_shows (m : Mod) : m.liveTaken.hw.live = m.liveOctets
    ∧ (m.liveOctets.take 4 ≠ m.hw.live.take 4 → m.liveTaken.hw.i2cAlert = true) ∧ (m.hw.i2cAlert = true → m.liveTaken.hw.i2cAlert = true) := by
  have halert : m.liveTaken.hw.i2cAlert = (m.hw.i2cAlert || decide (watchedOctets m.liveOctets ≠ watchedOctets m.hw.live)) := rfl
  refine ⟨rfl, fun h => ?_, fun h => ?_⟩
  · rw [halert, Bool.or_eq_true, decide_eq_true_eq]
    refine .inr fun hw => h ?_
    exact take_of_watched m.ten_le_liveOctets hw
  · rw [halert, h, Bool.true_or]

end
/-- Settles O48: samples by the thresholds they cross, stops by their end, the live bytes by what they read. -/
theorem heatIsAnswered : Obligations.HeatIsAnswered := by
  unfold Obligations.HeatIsAnswered
  refine ⟨fun s t sample hb hr => ?_, fun s t h => ?_⟩
  · intro m
    have hbm : m.rebooting = false := hb
    refine ⟨fun hp => ?_, fun hp => ?_⟩
    · refine does_actAny (g := fun m => m.junctionSample sample) rfl ?_ hbm
      exact (if_neg (by rw [hr]; decide)).trans (if_neg hp)
    · have heq : m.junctionSample sample = if m.tripRun sample = 4 then
          (m.modHw fun h => { h with hot := h.hot.set 2 (m.tripRun sample) }).powerDown .tripped
          else m.modHw fun h => { h with hot := h.hot.set 2 (m.tripRun sample) } :=
        (if_neg (by rw [hr]; decide)).trans (if_pos hp)
      refine completes_actAny (g := fun m => m.junctionSample sample) rfl ?_ fun _ h => h
      show (m.junctionSample sample).hw.hot = _ ∧ (m.junctionSample sample).hw.power = _
      rw [heq]
      split
      · exact ⟨rfl, rfl⟩
      · exact ⟨rfl, hp⟩
  · intro m
    have hb : m.rebooting = false := h.2
    have hr : m.runs = true := h.1
    refine ⟨fun sample => ?_, fun hn => ?_, fun a ha h5 => ⟨fun hlt => ?_, fun hle => ?_⟩, fun on => ⟨fun hf => ?_, fun hf => ?_⟩,
      fun q temp high => ?_, ?_⟩
    · intro temp crosses
      have hsample : m.junctionSample sample = m.junction sample := if_pos hr
      refine ⟨fun h4 => ?_, fun h4 => ?_⟩
      · refine completes_actAny (g := fun m => m.junctionSample sample) rfl ?_ fun _ h => h
        show (m.junctionSample sample).hw.power = _ ∧ (m.junctionSample sample).z 0x1D00 1 = _
        rw [hsample, m.junction_eq, if_pos h4]
        exact ⟨rfl, m.z_junctionShown sample⟩
      · refine completes_actAny (g := fun m => m.junctionSample sample) rfl ?_ fun _ h => h
        obtain ⟨hz, hwarn, hclear, hstop, hshown⟩ := m.junction_shows sample h4
        rw [← hsample] at hz hwarn hclear hstop hshown
        have hc (i : Nat) (limit : Int) : crosses i limit ↔ m.junctionRun sample i limit = 4 := (m.junctionRun_four sample i limit).symm
        refine ⟨hz, fun hx => hwarn ((hc _ _).mp hx), hclear, fun hx => hstop ((hc _ _).mp hx), fun hx => ?_⟩
        refine (hshown (hx.imp_left fun hn hr => hn ((hc _ _).mpr hr))).trans ?_
        simp only [hc]
        rfl
    · exact does_act (g := fun m => m.thermalEnd) h rfl (Mod.thermalEnd_idle hn) hb
    · exact does_act (g := fun m => m.thermalEnd) h rfl ((Mod.thermalEnd_cooling ha h5).trans (if_neg (Nat.not_le.mpr hlt))) hb
    · have heq := (Mod.thermalEnd_cooling ha h5).trans (if_pos hle)
      obtain ⟨h5', hcond, hhw, htold⟩ := (m.modHw fun h => { h with thermalWait := false }).stopEnded_shows
      refine completes_act (g := fun m => m.thermalEnd) rfl h ?_ fun _ h => h
      show m.thermalEnd.n 0x1D00 5 ≤ 1 ∧ m.thermalEnd.condSet 0x1D02 0 = false ∧ m.thermalEnd.hw.thermalWait = false ∧ m.thermalEnd.told 0x1D03 0 []
      rw [heq]
      exact ⟨h5', hcond, by rw [hhw]; rfl, htold⟩
    · exact does_act (g := fun m => m.coolFail on) h rfl (if_pos hf) hb
    · exact completes_act (g := fun m => m.coolFail on) rfl h (Mod.coolFail_shows hf) fun _ h => h
    · intro hot
      have hiff : hot ↔ (m.opticIn q.val && high ≤ temp) = true := by
        rw [Bool.and_eq_true, Mod.opticIn_iff, decide_eq_true_eq]
      refine ⟨fun hn => ?_, fun hh => ?_⟩
      · exact does_act (g := fun m => m.opticTemperature q.val temp high) h rfl ((m.opticTemperature_eq _ _ _).trans (if_neg fun hc => hn (hiff.mpr hc))) hb
      · have heq := (m.opticTemperature_eq q.val temp high).trans (if_pos (hiff.mp hh))
        refine completes_act (g := fun m => m.opticTemperature q.val temp high) rfl h ?_ fun _ h => h
        show ∃ l ∈ (m.opticTemperature q.val temp high).limits, _ ∧ _ ∧ (_ → (m.opticTemperature q.val temp high).told _ _ _)
        rw [heq]
        obtain ⟨l, hl, hcode, hres⟩ := m.raiseLimited_limits 0x1D08 q.val (60 * second) [q.val, temp.toNat]
        exact ⟨l, hl, hcode, hres, fun hn => Mod.raiseLimited_told _ _ [q.val, temp.toNat] hn⟩
    · have heq := m.updateLive_eq hr
      obtain ⟨hlive, hchange, hkeep⟩ := m.sensed.liveTaken_shows
      have hair := m.n_sensed_airflow
      refine completes_act (g := fun m => m.updateLive) rfl h ?_ fun _ h => h
      show m.updateLive.hw.live = m.updateLive.liveOctets ∧ (_ → m.updateLive.n _ _ = _) ∧ (_ → m.updateLive.n _ _ = _)
        ∧ (m.updateLive.hw.live.take 4 ≠ _ → m.updateLive.hw.i2cAlert = true) ∧ (_ → m.updateLive.hw.i2cAlert = true)
      rw [heq, hlive, Mod.liveOctets_liveTaken]
      rw [m.sensed_hw] at hchange hkeep
      refine ⟨rfl, fun hd => ?_, fun hd => ?_, hchange, hkeep⟩
      · exact hair.trans (by rw [hd, if_neg Bool.false_ne_true])
      · exact hair.trans (by rw [hd, if_pos rfl])

end Sys2Proof.Machine
end

section
/-! SUPPORT. The mortar link: what moves on it and what it leaves of the module (R216-R220). -/

namespace Sys2Proof.Machine

/-! ### What credit and queue change -/

/-- The module with other outputs and another state of the link. -/
def Mod.onLink (m : Mod) (o : List Output) (r : MortarS) : Mod := { m with out := o, twin := { m.twin with mortar := r } }

/-- Frames move on the link: of the module only its outputs and, of the link, queue, credits and the time last sent; what has been
sent stays sent, and what was put on the link has been sent or still waits. -/
structure Mod.flows (a b : Mod) : Prop where
  link : b = a.onLink b.out b.twin.mortar
  mortar : b.twin.mortar = { a.twin.mortar with
    waiting := b.twin.mortar.waiting, held := b.twin.mortar.held, spent := b.twin.mortar.spent,
    peerFreed := b.twin.mortar.peerFreed, sentAt := b.twin.mortar.sentAt }
  sent : ∀ o ∈ a.out, o ∈ b.out
  keeps : ∀ o, a.mortared o → b.mortared o

section
variable {a b c m : Mod}

theorem Mod.flows_refl : m.flows m := ⟨rfl, rfl, fun _ h => h, fun _ h => h⟩

theorem Mod.flows_trans (h : a.flows b) (h' : b.flows c) : a.flows c := by
  refine ⟨?_, ?_, fun o ho => h'.sent o (h.sent o ho), fun o ho => h'.keeps o (h.keeps o ho)⟩
  · have := h'.link
    rw [h.link] at this
    exact this
  · have := h'.mortar
    rw [h.mortar] at this
    exact this

theorem Mod.flows_each {α : Type} (l : List α) (f : Mod → α → Mod) (h : ∀ (m : Mod) (x : α), m.flows (f m x)) (m : Mod) : m.flows (m.each l f) := by
  induction l generalizing m with
  | nil => exact Mod.flows_refl
  | cons x l ih => exact Mod.flows_trans (h m x) (ih (f m x))

theorem Mod.flows_flushMortar (m : Mod) : m.flows m.flushMortar := by
  refine Mod.flows_each _ _ (fun m x => ?_) m
  dsimp only
  split
  · refine ⟨rfl, rfl, fun o ho => List.mem_append_left _ ho, fun o ho => ?_⟩
    obtain ho | ⟨y, hy, rfl⟩ := ho
    · exact .inl (List.mem_append_left _ ho)
    · obtain rfl | hne := eq_or_ne y x
      · exact .inl (List.mem_append_right _ (List.mem_singleton_self _))
      · exact .inr ⟨y, (List.mem_erase_of_ne hne).mpr hy, rfl⟩
  · exact Mod.flows_refl

theorem Mod.flows_takeCredits (m : Mod) (credits : List Nat) : m.flows (m.takeCredits credits) := by
  refine Mod.flows_trans (Mod.flows_each _ _ (fun m vc => ?_) m) (Mod.flows_flushMortar _)
  dsimp only
  split
  · exact Mod.flows_refl
  · exact ⟨rfl, rfl, fun _ h => h, fun _ h => h⟩

/-- What the twin holds but for the link. -/
theorem Mod.flows.twin (h : a.flows b) : b.twin = { a.twin with mortar := b.twin.mortar } := (congrArg Mod.twin h.link :)

theorem Mod.flows.objs (h : a.flows b) : b.objs = a.objs := (congrArg Mod.objs h.link :)
theorem Mod.flows.raised (h : a.flows b) : b.raised = a.raised := (congrArg Mod.raised h.link :)
theorem Mod.flows.conds (h : a.flows b) : b.conds = a.conds := (congrArg Mod.conds h.link :)
theorem Mod.flows.rebooting (h : a.flows b) : b.rebooting = a.rebooting := (congrArg Mod.rebooting h.link :)
theorem Mod.flows.get (h : a.flows b) {j t : Nat} : b.get j t = a.get j t := congrArg (Store.get · j t) h.objs
theorem Mod.flows.n (h : a.flows b) {j t : Nat} : b.n j t = a.n j t := congrArg Val.nat h.get

end

/-! ### A frame heard, a frame sent -/

section
variable {m : Mod}

theorem Mod.heardMortar_flows (m : Mod) (h : MortarHdr) :
    (m.modMortar fun s => { s with heardAt := m.ctr, silent := false }).flows (m.heardMortar h) := Mod.flows_takeCredits _ _

theorem Mod.heardMortar_onLink (m : Mod) (h : MortarHdr) : m.heardMortar h = m.onLink (m.heardMortar h).out (m.heardMortar h).twin.mortar :=
  (m.heardMortar_flows h).link

theorem Mod.n_heardMortar (m : Mod) (h : MortarHdr) {j k : Nat} : (m.heardMortar h).n j k = m.n j k := (m.heardMortar_flows h).n

/-- A frame heard changes neither what was sent of a channel, nor what is awaited, nor the Naks. -/
theorem Mod.heardMortar_shows (m : Mod) (h : MortarHdr) : (m.heardMortar h).twin.mortar.heardAt = m.ctr
    ∧ (m.heardMortar h).twin.mortar.silent = false ∧ (m.heardMortar h).twin.mortar.recvSeq = m.twin.mortar.recvSeq
    ∧ (m.heardMortar h).twin.mortar.sendSeq = m.twin.mortar.sendSeq ∧ (m.heardMortar h).twin.mortar.naks = m.twin.mortar.naks := by
  have hf := m.heardMortar_flows h
  generalize m.heardMortar h = b at hf ⊢
  rw [hf.mortar]
  exact ⟨rfl, rfl, rfl, rfl, rfl⟩

/-- A frame taken leaves all but outputs and link, and the numbers sent. -/
theorem Mod.taken_onLink (m : Mod) (h : MortarHdr) (vc : Nat) : ∃ o r, m.taken h vc = m.onLink o r ∧ r.sendSeq = m.twin.mortar.sendSeq := by
  obtain ⟨-, -, -, hsend, -⟩ := m.heardMortar_shows h
  have hlink := m.heardMortar_onLink h
  unfold Mod.taken
  generalize m.heardMortar h = b at hlink hsend
  rw [hlink]
  exact ⟨_, _, rfl, hsend⟩

/-- A frame put on a link that is up. -/
theorem Mod.mortarSend_flows {vc n : Nat} {frame : Nat → Output} (hl : m.linkUp = true) :
    (m.modMortar fun s =>
      { s with
        sendSeq := s.sendSeq.modify vc seqNext
        waiting := s.waiting ++ [⟨vc, nth m.twin.mortar.sendSeq vc, frameCredits n, frame (nth m.twin.mortar.sendSeq vc)⟩] }).flows
      (m.mortarSend vc n frame) := by
  unfold Mod.mortarSend
  rw [if_neg (by rw [hl]; decide)]
  exact Mod.flows_flushMortar _

theorem Mod.mortarSend_mortared (vc n : Nat) (frame : Nat → Output) (hl : m.linkUp = true) :
    (m.mortarSend vc n frame).mortared (frame (nth m.twin.mortar.sendSeq vc)) :=
  (m.mortarSend_flows hl).keeps _ (.inr ⟨_, List.mem_append_right _ (List.mem_singleton_self _), rfl⟩)

theorem Mod.mortarSend_onLink (m : Mod) (vc n : Nat) (frame : Nat → Output) : m.mortarSend vc n frame
    = m.onLink (m.mortarSend vc n frame).out (m.mortarSend vc n frame).twin.mortar := by
  obtain hl | hl := Bool.eq_false_or_eq_true m.linkUp
  · exact (m.mortarSend_flows hl).link
  · have heq : m.mortarSend vc n frame = m := if_pos (by rw [hl]; rfl)
    rw [heq]
    rfl

theorem Mod.mortarSend_sent (vc n : Nat) (frame : Nat → Output) {o : Output} (h : o ∈ m.out) : o ∈ (m.mortarSend vc n frame).out := by
  obtain hl | hl := Bool.eq_false_or_eq_true m.linkUp
  · exact (m.mortarSend_flows hl).sent o h
  · rw [Mod.mortarSend, if_pos (by rw [hl]; rfl)]
    exact h

theorem Mod.mem_send (m : Mod) (o : Output) : o ∈ (m.send o).out := List.mem_append_right _ (List.mem_singleton_self _)

/-! ### Sequenced frames (R218) -/

variable {h : MortarHdr} {vc : Nat} {take : Mod → Mod}

theorem Mod.sequenced_idle (hn : m.goodFrame h = false ∨ m.linkUp = false) : m.sequenced h vc take = m := by
  unfold Mod.sequenced
  obtain hn | hn := hn <;> simp [hn]

theorem Mod.sequenced_good (hg : m.goodFrame h = true) (hl : m.linkUp = true) : m.sequenced h vc take
    = if h.seq = nth m.twin.mortar.recvSeq vc then take (m.taken h vc)
      else if seqFrom h.seq (nth m.twin.mortar.recvSeq vc) then (m.heardMortar h).send (.mortarNak vc (nth m.twin.mortar.recvSeq vc))
      else m.heardMortar h := by
  unfold Mod.sequenced Mod.taken
  rw [if_neg (by rw [hg, hl]; decide)]
  dsimp only
  rw [(m.heardMortar_shows h).2.2.1]

theorem Mod.sequenced_inOrder (hi : m.inOrder h vc) : m.sequenced h vc take = take (m.taken h vc) := by
  obtain ⟨hg, hl, hs⟩ := hi
  rw [Mod.sequenced_good hg hl, if_pos hs]

theorem Mod.sequenced_gap (hg : m.goodFrame h = true) (hl : m.linkUp = true) (hne : h.seq ≠ nth m.twin.mortar.recvSeq vc) :
    m.sequenced h vc take = if seqFrom h.seq (nth m.twin.mortar.recvSeq vc)
      then (m.heardMortar h).send (.mortarNak vc (nth m.twin.mortar.recvSeq vc)) else m.heardMortar h := by
  rw [Mod.sequenced_good hg hl, if_neg hne]

/-- Every frame with a number passes the same test first. -/
theorem exec_mortarFrame {i : Instr} {t : Nanos} (hi : mortarFrame i = some (t, h, vc)) (s : State) :
    ∃ g : EventLog → Mod → Mod, exec i s = actE t g s ∧ ∀ e m, ∃ take, g e m = m.sequenced h vc take := by
  unfold mortarFrame at hi
  split at hi
  all_goals simp only [Option.some.injEq, Prod.mk.injEq, reduceCtorEq] at hi
  all_goals
    obtain ⟨rfl, rfl, rfl⟩ := hi
    exact ⟨_, rfl, fun _ _ => ⟨_, rfl⟩⟩

end

end Sys2Proof.Machine
end

section
/-! SUPPORT. Frames ahead of their turn, and Naks (R217, R218). -/

namespace Sys2Proof.Machine

theorem Mod.n_count_congr {m m' : Mod} {i k : Nat} (x : Nat) (hf : i * 256 + k ≠ 0x100005) (h : m'.n i k = m.n i k) :
    (m'.count i k x).n i k = (m.count i k x).n i k := by
  unfold Mod.count
  split
  · rw [Mod.n_put _ _ _ _ hf, Mod.n_put _ _ _ _ hf, h]
  · exact h

theorem Mod.condSet_raiseAgain (m : Mod) (c r : Nat) (p : List Nat) : (m.raiseAgain c r p).condSet c r = true := by
  unfold Mod.raiseAgain
  split
  · next h => exact (Mod.condSet_of_conds (Mod.raise_conds ..)).trans h
  · exact m.condSet_raiseCond c r p

section
variable (m : Mod) (vc expected : Nat)

/-- The frames a Nak brings again. -/
def MortarS.resent (s : MortarS) : List MortarHeld := s.held.filter fun x => x.vc = vc && seqFrom x.seq expected

/-- A Nak has been noted. -/
def MortarS.nakked (s : MortarS) : MortarS :=
  { s with naks := (s.naks.filter fun (x : (Nat × Nat) × Nat) => x.1.1 ≠ vc) ++ [((vc, expected), s.naksOf vc expected + 1)] }

theorem MortarS.naksOf_nakked (s : MortarS) : (s.nakked vc expected).naksOf vc expected = s.naksOf vc expected + 1 := by
  have hnone : (s.naks.filter fun (x : (Nat × Nat) × Nat) => x.1.1 ≠ vc).find? (fun x => x.1 = (vc, expected)) = none := by
    refine List.find?_eq_none.mpr fun x hx => ?_
    have hne := of_decide_eq_true (List.mem_filter.mp hx).2
    exact fun h => hne (congrArg Prod.fst (of_decide_eq_true h))
  unfold MortarS.nakked
  show (((List.find? _ (_ ++ _)).map _).getD 0) = _
  rw [List.find?_append, hnone]
  simp

/-- Marks and frames go out one after the other. -/
theorem Mod.each_resend (l : List MortarHeld) : (m.each l fun (m : Mod) (x : MortarHeld) => (m.send (.mortarResend vc x.seq)).send x.frame)
    = { m with out := m.out ++ l.flatMap fun x => [.mortarResend vc x.seq, x.frame] } := by
  induction l generalizing m with
  | nil => simp [Mod.each]
  | cons x l ih =>
    refine (ih _).trans ?_
    simp [Mod.send]

/-- The frames named by a Nak have gone out again, counted. -/
def Mod.resends (m : Mod) (l : List MortarHeld) : Mod :=
  (({ m with out := m.out ++ l.flatMap fun x => [.mortarResend vc x.seq, x.frame] } : Mod).count 0x7080 0x0B l.length).modMortar fun s =>
    { s with sentAt := m.ctr }

variable {m} {h : MortarHdr}

theorem Mod.takeNak_idle (hn : m.goodFrame h = false ∨ m.linkUp = false) : m.takeNak h vc expected = m := by
  unfold Mod.takeNak
  obtain hn | hn := hn <;> simp [hn]

/-- What a Nak asks for, once its frame has been heard. -/
def Mod.answerNak (m : Mod) : Mod :=
  if 15 ≤ m.twin.mortar.naksOf vc expected then m.mortarDown
  else (m.modMortar (MortarS.nakked vc expected)).resends vc (m.twin.mortar.resent vc expected)

theorem Mod.takeNak_good (hg : m.goodFrame h = true) (hl : m.linkUp = true) :
    m.takeNak h vc expected = (m.heardMortar h).answerNak vc expected := by
  unfold Mod.takeNak
  rw [if_neg (by rw [hg, hl]; decide)]
  generalize m.heardMortar h = b
  simp only [Mod.each_resend]
  rfl

/-- Fewer than sixteen Naks bring the frames again. -/
theorem Mod.answerNak_shows (hlt : m.twin.mortar.naksOf vc expected < 15) :
    let again := m.twin.mortar.resent vc expected
    (∀ x ∈ again, Output.mortarResend vc x.seq ∈ (m.answerNak vc expected).out ∧ x.frame ∈ (m.answerNak vc expected).out)
      ∧ (m.answerNak vc expected).n 0x7080 0x0B = (m.count 0x7080 0x0B again.length).n 0x7080 0x0B
      ∧ (m.answerNak vc expected).twin.mortar.naksOf vc expected = m.twin.mortar.naksOf vc expected + 1 := by
  intro again
  have heq : m.answerNak vc expected = (m.modMortar (MortarS.nakked vc expected)).resends vc again := if_neg (by omega)
  rw [heq]
  unfold Mod.resends
  refine ⟨fun x hx => ?_, ?_, ?_⟩
  · have hmem {o : Output} (ho : o ∈ [.mortarResend vc x.seq, x.frame]) : o ∈ m.out ++ again.flatMap fun x => [.mortarResend vc x.seq, x.frame] :=
      List.mem_append_right _ (List.mem_flatMap.mpr ⟨x, hx, ho⟩)
    have hout (b : Mod) (g : MortarS → MortarS) : (b.modMortar g).out = b.out := rfl
    rw [hout, Mod.count_out]
    exact ⟨hmem (by simp), hmem (by simp)⟩
  · exact Mod.n_count_congr _ (by decide) rfl
  · have hnaks (b : Mod) (x : Nanos) : (b.modMortar fun s => { s with sentAt := x }).twin.mortar.naksOf vc expected = b.twin.mortar.naksOf vc expected := rfl
    rw [hnaks, Mod.count_twin]
    exact m.twin.mortar.naksOf_nakked vc expected

end

theorem Mod.mortarDown_shows {m : Mod} (hl : m.linkUp = true) : m.mortarDown.n 0x7040 7 = 0 ∧ m.mortarDown.twin.mortar = m.twin.mortar.restart
    ∧ m.mortarDown.condSet 0x7008 0 = true ∧ m.mortarDown.told 0x7008 0 [1] := by
  have hne : ¬(m.modMortar MortarS.restart).n 0x7040 7 = 0 := by
    show ¬m.n 0x7040 7 = 0
    unfold Mod.linkUp at hl
    simp only [Bool.or_eq_true, decide_eq_true_eq] at hl
    omega
  have heq : m.mortarDown = ((m.modMortar MortarS.restart).put 0x7040 7 0).raiseAgain 0x7008 0 [1] := if_neg hne
  rw [heq]
  refine ⟨?_, ?_, Mod.condSet_raiseAgain _ _ _ _, Mod.raiseAgain_told _ _ _⟩
  · rw [Mod.n_raiseAgain _ _ _ (by decide), Mod.n_put _ _ _ _ (by decide)]
  · rw [Mod.raiseAgain_twin, Mod.put_twin]
    rfl

section
variable {m : Mod} {vc expected : Nat} {h : MortarHdr}

theorem Mod.naksOf_heardMortar (m : Mod) (h : MortarHdr) (vc expected : Nat) :
    (m.heardMortar h).twin.mortar.naksOf vc expected = m.twin.mortar.naksOf vc expected := by
  obtain ⟨-, -, -, -, hnaks⟩ := m.heardMortar_shows h
  unfold MortarS.naksOf
  rw [hnaks]

/-- Fewer than sixteen Naks for a frame. -/
theorem Mod.takeNak_again (hg : m.goodFrame h = true) (hl : m.linkUp = true) (hlt : m.twin.mortar.naksOf vc expected < 15) :
    let again := (m.heardMortar h).twin.mortar.resent vc expected
    (∀ x ∈ again, Output.mortarResend vc x.seq ∈ (m.takeNak h vc expected).out ∧ x.frame ∈ (m.takeNak h vc expected).out)
      ∧ (m.takeNak h vc expected).n 0x7080 0x0B = (m.count 0x7080 0x0B again.length).n 0x7080 0x0B
      ∧ (m.takeNak h vc expected).twin.mortar.naksOf vc expected = m.twin.mortar.naksOf vc expected + 1 := by
  have hof := m.naksOf_heardMortar h vc expected
  have hobj : (m.heardMortar h).n 0x7080 0x0B = m.n 0x7080 0x0B := m.n_heardMortar h
  rw [m.takeNak_good vc expected hg hl]
  generalize m.heardMortar h = b at hof hobj ⊢
  obtain ⟨hagain, hcount, hmore⟩ := b.answerNak_shows vc expected (by omega)
  exact ⟨hagain, hcount.trans (Mod.n_count_congr _ (by decide) hobj), hmore.trans (by rw [hof])⟩

/-- The sixteenth. -/
theorem Mod.takeNak_last (hg : m.goodFrame h = true) (hl : m.linkUp = true) (hle : 15 ≤ m.twin.mortar.naksOf vc expected) :
    (m.takeNak h vc expected).n 0x7040 7 = 0 ∧ (m.takeNak h vc expected).twin.mortar.held = []
      ∧ (m.takeNak h vc expected).told 0x7008 0 [1] := by
  have hof := m.naksOf_heardMortar h vc expected
  have hobj : (m.heardMortar h).n 0x7040 7 = m.n 0x7040 7 := m.n_heardMortar h
  rw [m.takeNak_good vc expected hg hl]
  generalize m.heardMortar h = b at hof hobj ⊢
  have hdown : b.answerNak vc expected = b.mortarDown := if_pos (by omega)
  have hup : b.linkUp = true := by
    unfold Mod.linkUp at hl ⊢
    rwa [hobj]
  obtain ⟨h7, hlink, -, htold⟩ := Mod.mortarDown_shows hup
  rw [hdown]
  exact ⟨h7, by rw [hlink]; rfl, htold⟩

/-- A frame that carries a number out of its turn, from whatever command. -/
theorem exec_outOfTurn {s : State} {t : Nanos} {i : Instr} (hs : s.serves) (hi : mortarFrame i = some (t, h, vc)) :
    ((s.m.at t).goodFrame h = false ∨ (s.m.at t).linkUp = false → Does i s (s.m.at t))
    ∧ ((s.m.at t).goodFrame h = true → (s.m.at t).linkUp = true → h.seq ≠ nth (s.m.at t).twin.mortar.recvSeq vc →
      Does i s (if seqFrom h.seq (nth (s.m.at t).twin.mortar.recvSeq vc)
        then ((s.m.at t).heardMortar h).send (.mortarNak vc (nth (s.m.at t).twin.mortar.recvSeq vc)) else (s.m.at t).heardMortar h)) := by
  obtain ⟨g, he, hseq⟩ := exec_mortarFrame hi s
  have hb : (s.m.at t).rebooting = false := hs.2
  generalize hm : s.m.at t = m at hb
  obtain ⟨take, htake⟩ := hseq s.events m
  have hheard : (m.heardMortar h).rebooting = false := (m.heardMortar_flows h).rebooting.trans hb
  refine ⟨fun hn => ?_, fun hg hl hne => ?_⟩
  · exact does_actE hs he (by rw [hm]; exact htake.trans (Mod.sequenced_idle hn)) hb
  · have hgap := htake.trans (Mod.sequenced_gap hg hl hne)
    generalize m.heardMortar h = b at hheard hgap ⊢
    refine does_actE hs he (by rw [hm]; exact hgap) ?_
    split
    · exact hheard
    · exact hheard

end

/-- Settles O31: a frame out of turn by the gap it shows, a Nak by how many have named its frame. -/
theorem gapsAreNakkedAndResent : Obligations.GapsAreNakkedAndResent := by
  unfold Obligations.GapsAreNakkedAndResent
  intro s t hdr hs m
  refine ⟨fun i vc hi => ?_, fun vc expected => ⟨fun hn => ?_, fun hg hl => ?_⟩⟩
  · obtain ⟨hidle, hout⟩ := exec_outOfTurn hs hi
    refine ⟨hidle, fun hg hl hne => ⟨fun hf => ?_, fun hf => ?_⟩⟩
    · have := hout hg hl hne
      rwa [if_pos hf] at this
    · have := hout hg hl hne
      rwa [if_neg (by rw [hf]; decide)] at this
  · exact does_act (g := fun m => m.takeNak hdr vc.val expected) hs rfl (Mod.takeNak_idle _ _ hn) hs.2
  · intro again
    refine ⟨fun hlt => ?_, fun hle => ?_⟩
    · have hagain := Mod.takeNak_again hg hl hlt
      unfold MortarS.resent at hagain
      exact completes_act (g := fun m => m.takeNak hdr vc.val expected) rfl hs hagain fun _ h => h
    · refine completes_act (g := fun m => m.takeNak hdr vc.val expected) rfl hs ?_ fun _ h => h
      exact Mod.takeNak_last hg hl hle

end Sys2Proof.Machine
end

section
/-! SUPPORT. A Hello whose release is read where the link's stage stands (R220). -/

namespace Sys2Proof.Machine

/-- The module right after reset, its twin function and mortar lanes running, and 1200:01 naming an image so far off that the release
Hello carries (1200:02 and on) is read at 7040:07, the link's stage, which holds an octet. -/
def releaseAtStage : State :=
  { State.reset with m :=
    { ((Mod.reset.put 0x1200 1 6176773).set 0x7040 7 (.bytes [1])).put (0x2480 + 32) 1 4 with twinFn := running } }

/-- The releases named by the Hellos that a command sends. -/
def shownReleases : Host.Outcome State Fault Refusal → List Nat
  | .next s => s.m.out.filterMap fun o => match o with
    | .mortarHello _ b => some b.release
    | _ => none
  | _ => []

/-- HELLO_TIMER sets the link's stage before it sends, so that Hello carries no longer what was read before. -/
theorem helloReadsTheNewStage : shownReleases (exec (.helloTimer 1000000) releaseAtStage) = [0] := by decide +kernel

/-- Refutes O30: the Hello sent at the timer is not the one of the module before it, where the release it names is read at the stage of
the link, which the timer moves from none to Hello. -/
theorem not_theMortarLinkFollowsHello : ¬ Obligations.TheMortarLinkFollowsHello := by
  intro h
  obtain ⟨-, -, htimer, -⟩ := h releaseAtStage 1000000 ⟨0, 0, [], true⟩ (by decide +kernel)
  obtain ⟨s', hs', -, hsent, -⟩ := htimer.1 (by decide +kernel)
  have hshown := helloReadsTheNewStage
  rw [hs'] at hshown
  have hmem : 1 ∈ shownReleases (.next s') := List.mem_filterMap.mpr ⟨_, hsent, by decide +kernel⟩
  rw [hshown] at hmem
  exact absurd hmem (by decide)

end Sys2Proof.Machine
end

section
/-! SUPPORT. Repair data: the standing of renditions, and pictures that take received blocks (R92, R100, R225). -/

namespace Sys2Proof.Machine

/-! ### The standing of a rendition -/

section
variable (m : Mod)

theorem Mod.rend_syncOf (r : Nat) : (m.syncOf r).rend = r := by
  unfold Mod.syncOf
  cases h : m.twin.sync.find? fun x => x.rend = r with
  | none => rfl
  | some x =>
    have hx := List.find?_some h
    exact of_decide_eq_true hx

theorem Mod.syncOf_setSync (x : RendSync) : (m.setSync x).syncOf x.rend = x := by
  unfold Mod.setSync
  show ((List.find? _ (_ ++ [x])).getD _) = x
  have hnone : (m.twin.sync.filter fun (y : RendSync) => y.rend ≠ x.rend).find? (fun y => y.rend = x.rend) = none := by
    refine List.find?_eq_none.mpr fun y hy => ?_
    exact fun h => of_decide_eq_true (List.mem_filter.mp hy).2 (of_decide_eq_true h)
  rw [List.find?_append, hnone]
  simp

theorem Mod.syncOf_of_twin {m m' : Mod} (h : m'.twin = m.twin) (r : Nat) : m'.syncOf r = m.syncOf r := by
  unfold Mod.syncOf
  rw [h]

/-! ### A repair begins or goes on -/

variable (b : RepairBody)

/-- Whether received blocks begin a repair: none in hand covers their picture. -/
def Mod.repairFresh : Bool := match (m.syncOf b.rendition.val).repair with
  | none => true
  | some j => j + m.n (0x5000 + b.rendition.val) 9 * 34 * m.rendStep b.rendition.val ≤ b.tick

theorem Mod.repairFresh_iff : m.repairFresh b = true ↔ ∀ j, (m.syncOf b.rendition.val).repair = some j →
    j + m.n (0x5000 + b.rendition.val) 9 * 34 * m.rendStep b.rendition.val ≤ b.tick := by
  unfold Mod.repairFresh
  cases (m.syncOf b.rendition.val).repair with
  | none => exact ⟨fun _ _ h => (Option.some_ne_none _ h.symm).elim, fun _ => rfl⟩
  | some j => exact ⟨fun h i hi => Option.some.inj hi ▸ of_decide_eq_true h, fun h => decide_eq_true (h j rfl)⟩

/-- A repair begins with these blocks. -/
def Mod.beginRepair (s : RendSync) : Mod :=
  (m.setSync { s with repair := some b.tick, after := 0, mismatch := true }).raise 0x7003 b.rendition.val [b.rendition.val, b.tick]

/-- What an UNSYNCED module makes of repair data. -/
def Mod.repaired (n : Nat) : Mod :=
  (if m.repairFresh b then (m.count 0x7080 6 n).beginRepair b (m.syncOf b.rendition.val) else m.count 0x7080 6 n).modRend b.rendition.val fun s =>
    s.modRef b.tick fun p => p.takeBlocks (s.cfgFor b.tick) b.firstBlock b.blocks

variable {m b} {h : MortarHdr}

theorem Mod.takeRepair_eq (hi : m.inOrder h 2) : m.takeRepair h b
    = if m.role ≠ .unsynced then m.taken h 2 else (m.taken h 2).repaired b h.length := by
  have heq : m.takeRepair h b = if (m.taken h 2).role ≠ .unsynced then m.taken h 2 else (m.taken h 2).repaired b h.length := by
    unfold Mod.takeRepair
    rw [Mod.sequenced_inOrder hi]
    generalize m.taken h 2 = a
    rfl
  obtain ⟨o, r, htaken, -⟩ := m.taken_onLink h 2
  rw [heq, htaken]
  rfl

theorem Mod.n_taken (m : Mod) (h : MortarHdr) (vc : Nat) {j k : Nat} : (m.taken h vc).n j k = m.n j k := by
  obtain ⟨o, r, htaken, -⟩ := m.taken_onLink h vc
  rw [htaken]
  rfl

/-- Repair data in an UNSYNCED module. -/
theorem Mod.repaired_shows (m : Mod) (b : RepairBody) (n : Nat) :
    (m.repaired b n).rends = m.rends.modify b.rendition.val
        (fun y => y.modRef b.tick fun p => p.takeBlocks (y.cfgFor b.tick) b.firstBlock b.blocks)
      ∧ (m.repaired b n).n 0x7080 6 = (m.count 0x7080 6 n).n 0x7080 6
      ∧ (m.repairFresh b = true → (m.repaired b n).told 0x7003 b.rendition.val [b.rendition.val, b.tick]
        ∧ ((m.repaired b n).syncOf b.rendition.val).repair = some b.tick ∧ ((m.repaired b n).syncOf b.rendition.val).mismatch = true)
      ∧ (m.repairFresh b = false → (m.repaired b n).raised = m.raised
        ∧ ((m.repaired b n).syncOf b.rendition.val).repair = (m.syncOf b.rendition.val).repair) := by
  have hrends : ((m.count 0x7080 6 n).beginRepair b (m.syncOf b.rendition.val)).rends = m.rends := by
    refine (Mod.raise_rends ..).trans ?_
    exact m.count_rends ..
  unfold Mod.repaired
  refine ⟨?_, ?_, fun hf => ?_, fun hf => ?_⟩
  · have hmod (a : Mod) (f : RendS → RendS) : (a.modRend b.rendition.val f).rends = a.rends.modify b.rendition.val f := rfl
    rw [hmod]
    split
    · rw [hrends]
    · rw [m.count_rends]
  · have hmod (a : Mod) (f : RendS → RendS) : (a.modRend b.rendition.val f).n 0x7080 6 = a.n 0x7080 6 := rfl
    rw [hmod]
    split
    · exact Mod.n_raise _ _ _ _ (.inl (by decide))
    · rfl
  · rw [if_pos hf]
    have hsync (a : Mod) (s : RendSync) (hs : s.rend = b.rendition.val) : (a.beginRepair b s).syncOf b.rendition.val
        = { s with repair := some b.tick, after := 0, mismatch := true } := by
      refine (Mod.syncOf_of_twin (Mod.raise_twin ..) _).trans ?_
      rw [← hs]
      exact Mod.syncOf_setSync _ _
    have hs := hsync (m.count 0x7080 6 n) _ (m.rend_syncOf b.rendition.val)
    have htold : ((m.count 0x7080 6 n).beginRepair b (m.syncOf b.rendition.val)).told 0x7003 b.rendition.val [b.rendition.val, b.tick] :=
      Mod.raise_told _ _ _ _
    generalize (m.count 0x7080 6 n).beginRepair b (m.syncOf b.rendition.val) = a at hs htold
    have hof (f : RendS → RendS) : (a.modRend b.rendition.val f).syncOf b.rendition.val = a.syncOf b.rendition.val := rfl
    rw [hof, hs]
    exact ⟨htold, rfl, rfl⟩
  · rw [if_neg (by rw [hf]; decide)]
    have htwin : (m.count 0x7080 6 n).twin = m.twin := m.count_twin ..
    have hraised : (m.count 0x7080 6 n).raised = m.raised := m.count_raised ..
    generalize m.count 0x7080 6 n = a at htwin hraised
    refine ⟨hraised, congrArg RendSync.repair ?_⟩
    exact (Mod.syncOf_of_twin (by exact htwin) _)

end

/-! ### Blocks that take their places -/

section
variable (p : RefPic) (cfg : RendCfg)

/-- A picture takes one received block. -/
def RefPic.takeBlock (k : Nat) (x : (Nat × Bool) × Octets) : RefPic :=
  { p with
    bands := p.bands.modify (cfg.courseOfBlock k) fun b => cfg.setBlock (cfg.courseOfBlock k) k x.2 b
    headers := p.headers.set k x.1
    bad := p.bad.filter fun y => y ≠ k }

/-- It takes blocks one after another, from a number on. -/
def RefPic.takeFrom (p : RefPic) (cfg : RendCfg) (k : Nat) : List ((Nat × Bool) × Octets) → RefPic
  | [] => p
  | x :: r => (p.takeBlock cfg k x).takeFrom cfg (k + 1) r

theorem RefPic.takeBlocks_eq (first : Nat) (blocks : List ((Nat × Bool) × Octets)) : p.takeBlocks cfg first blocks = p.takeFrom cfg first blocks := by
  have hfrom (i : Nat) : (blocks.zipIdx i).foldl (fun (p : RefPic) x => p.takeBlock cfg (first + x.2) x.1) p = p.takeFrom cfg (first + i) blocks := by
    induction blocks generalizing p i with
    | nil => rfl
    | cons x r ih => exact ih _ _
  exact hfrom 0

variable {p cfg}

theorem RefPic.takeFrom_frame (k : Nat) (l : List ((Nat × Bool) × Octets)) : (p.takeFrom cfg k l).frame = p.frame := by
  induction l generalizing p k with
  | nil => rfl
  | cons x r ih => exact ih _

theorem RefPic.takeFrom_bands (k : Nat) (l : List ((Nat × Bool) × Octets)) : (p.takeFrom cfg k l).bands.length = p.bands.length := by
  induction l generalizing p k with
  | nil => rfl
  | cons x r ih => exact (ih _).trans (List.length_modify ..)

theorem RefPic.takeFrom_bad (k : Nat) (l : List ((Nat × Bool) × Octets)) (j : Nat) :
    j ∈ (p.takeFrom cfg k l).bad ↔ j ∈ p.bad ∧ (j < k ∨ k + l.length ≤ j) := by
  induction l generalizing p k with
  | nil => exact ⟨fun h => ⟨h, by simp only [List.length_nil]; omega⟩, fun h => h.1⟩
  | cons x r ih =>
    have hblock : j ∈ (p.takeBlock cfg k x).bad ↔ j ∈ p.bad ∧ j ≠ k := by simp [RefPic.takeBlock]
    rw [RefPic.takeFrom, ih, hblock, List.length_cons]
    constructor
    · rintro ⟨⟨h, hne⟩, ho⟩
      exact ⟨h, by omega⟩
    · rintro ⟨h, ho⟩
      exact ⟨⟨h, by omega⟩, by omega⟩

theorem RefPic.takeFrom_headers_other {k j : Nat} {l : List ((Nat × Bool) × Octets)} (h : j < k ∨ k + l.length ≤ j) :
    (p.takeFrom cfg k l).headers[j]? = p.headers[j]? := by
  induction l generalizing p k with
  | nil => rfl
  | cons x r ih =>
    rw [List.length_cons] at h
    exact (ih (by omega)).trans (List.getElem?_set_ne (by omega))

theorem RefPic.takeFrom_headers {k i : Nat} {l : List ((Nat × Bool) × Octets)} (h : i < l.length) (hk : k + i < p.headers.length) :
    (p.takeFrom cfg k l).headers[k + i]? = some l[i].1 := by
  induction l generalizing p k i with
  | nil => exact absurd h (Nat.not_lt_zero _)
  | cons x r ih =>
    cases i with
    | zero =>
      refine (RefPic.takeFrom_headers_other (k := k + 1) (.inl (Nat.lt_succ_self k))).trans ?_
      exact List.getElem?_set_self hk
    | succ i =>
      have hlen : (p.takeBlock cfg k x).headers.length = p.headers.length := List.length_set ..
      have := ih (p := p.takeBlock cfg k x) (k := k + 1) (i := i) (Nat.lt_of_succ_lt_succ h) (by omega)
      rw [show k + (i + 1) = k + 1 + i by omega]
      exact this

end

/-- Settles O34: repair data by role and by whether a repair covers their picture, and blocks by the places they take. -/
theorem repairsReplaceTheReconstruction : Obligations.RepairsReplaceTheReconstruction := by
  unfold Obligations.RepairsReplaceTheReconstruction
  refine ⟨fun s t hdr b hs hi => ?_, fun p cfg first blocks => ?_⟩
  · intro m r fresh
    have hb : m.rebooting = false := hs.2
    have heq := Mod.takeRepair_eq (b := b) hi
    have hobj : (m.taken hdr 2).n 0x7080 6 = m.n 0x7080 6 := m.n_taken hdr 2
    obtain ⟨o, l, htaken, -⟩ := m.taken_onLink hdr 2
    refine ⟨fun hr => ?_, fun hr => ?_⟩
    · refine does_act (g := fun m => m.takeRepair hdr b) hs rfl (heq.trans (if_pos hr)) ?_
      rw [htaken]
      exact hb
    · obtain ⟨hrends, hcount, hfresh, hnot⟩ := (m.taken hdr 2).repaired_shows b hdr.length
      have hcount := hcount.trans (Mod.n_count_congr _ (by decide) hobj)
      have hiff : (m.taken hdr 2).repairFresh b = true ↔ fresh := by
        rw [htaken]
        exact m.repairFresh_iff b
      have hraised : (m.taken hdr 2).raised = m.raised := by rw [htaken]; rfl
      have hsync : (m.taken hdr 2).syncOf b.rendition.val = m.syncOf b.rendition.val := by rw [htaken]; rfl
      have hsame : (m.taken hdr 2).rends = m.rends := by rw [htaken]; rfl
      have heq : m.takeRepair hdr b = (m.taken hdr 2).repaired b hdr.length := heq.trans (if_neg fun h => h hr)
      rw [hraised, hsync] at hnot
      rw [hsame] at hrends
      rw [← heq] at hrends hcount hfresh hnot
      refine completes_act (g := fun m => m.takeRepair hdr b) rfl hs ?_ fun _ h => h
      refine ⟨hrends, hcount, fun hf => hfresh (hiff.mpr hf), fun hf => hnot ?_⟩
      exact Bool.eq_false_iff.mpr fun h => hf (hiff.mp h)
  · rw [p.takeBlocks_eq cfg first blocks]
    refine ⟨p.takeFrom_frame _ _, p.takeFrom_bands _ _, fun k h1 h2 h => ?_, fun k h => ⟨RefPic.takeFrom_headers_other h, fun hk => ?_⟩,
      fun i h hk => RefPic.takeFrom_headers h hk⟩
    · have := ((p.takeFrom_bad _ _ _).mp h).2
      omega
    · exact (p.takeFrom_bad _ _ _).mpr ⟨hk, h⟩

end Sys2Proof.Machine
end

section
/-! SUPPORT. The partner's Status: fencing before a higher term, digests compared, and the way to STANDBY (R224, R228, R238). -/

namespace Sys2Proof.Machine

/-! ### Changes of role -/

/-- No object but the role changes, and what has been told stays told. -/
structure Mod.roleMoves (a b : Mod) : Prop where
  get : ∀ {j t : Nat}, ¬(j = 0x7040 ∧ (t = 1 ∨ t = 2)) → j < 0x7400 → t < 256 → b.get j t = a.get j t
  tells : a.tells b

section
variable {a b c m : Mod}

theorem Mod.roleMoves_refl : m.roleMoves m := ⟨fun _ _ _ => rfl, Mod.tells_refl⟩

theorem Mod.roleMoves_trans (h : a.roleMoves b) (h' : b.roleMoves c) : a.roleMoves c :=
  ⟨fun h1 h2 h3 => (h'.get h1 h2 h3).trans (h.get h1 h2 h3), fun x hx => h'.tells x (h.tells x hx)⟩

theorem Mod.roleMoves_setRole (m : Mod) (r : Role) : m.roleMoves (m.setRole r) :=
  ⟨fun h1 h2 h3 => m.get_setRole r h1 (by omega) h3, Mod.tells_setRole r Mod.tells_refl⟩

theorem Mod.roleMoves_raiseCond (m : Mod) (k r : Nat) (p : List Nat) : m.roleMoves (m.raiseCond k r p) :=
  ⟨fun _ _ _ => m.get_raiseCond_frame k r p (by omega), Mod.tells_raiseCond _ _ _ Mod.tells_refl⟩

theorem Mod.tells_raiseClearAll (k r : Nat) (l p : List Nat) (h : a.tells m) : a.tells (m.raiseClearAll k r l p) := by
  have hshown (x : List Condition) : ({ m with conds := x } : Mod).showConds.raised = m.raised := Mod.showConds_part (m := { m with conds := x }) (p := .raised) (by decide)
  unfold Mod.raiseClearAll Mod.raiseClearIf
  dsimp only
  split
  · exact Mod.tells_raiseRaw _ _ _ _ h
  · exact Mod.tells_raiseRaw _ _ _ _ (Mod.tells_of_raised (hshown _) h)

theorem Mod.raiseClearAll_told (m : Mod) (k r : Nat) (l p : List Nat) : (m.raiseClearAll k r l p).told k r p := by
  unfold Mod.raiseClearAll Mod.raiseClearIf
  dsimp only
  split <;> exact Mod.raiseRaw_told _ _ _ _ _

theorem Mod.get_raiseClearAll (m : Mod) (k r : Nat) (l p : List Nat) {j t : Nat} (hq : j * 256 + t < 0x740000) :
    (m.raiseClearAll k r l p).get j t = m.get j t := m.get_raiseClearIf_frame k r _ p (.inl hq)

theorem Mod.roleMoves_raiseClearAll (m : Mod) (k r : Nat) (l p : List Nat) : m.roleMoves (m.raiseClearAll k r l p) :=
  ⟨fun _ _ _ => m.get_raiseClearAll k r l p (by omega), Mod.tells_raiseClearAll _ _ _ _ Mod.tells_refl⟩

theorem Mod.roleMoves_modTwin (m : Mod) (f : TwinS → TwinS) : m.roleMoves (m.modTwin f) := ⟨fun _ _ _ => rfl, fun _ h => h⟩

theorem Mod.roleMoves.n (h : a.roleMoves b) {j t : Nat} (h1 : ¬(j = 0x7040 ∧ (t = 1 ∨ t = 2))) (h2 : j < 0x7400) (h3 : t < 256) :
    b.n j t = a.n j t := congrArg Val.nat (h.get h1 h2 h3)

theorem Mod.roleMoves.linkUp (h : a.roleMoves b) : b.linkUp = a.linkUp := by
  unfold Mod.linkUp
  rw [h.n (by decide) (by decide) (by decide)]

theorem Mod.roleMoves.term (h : a.roleMoves b) : b.term = a.term := h.n (by decide) (by decide) (by decide)

theorem fnObject_rend {r : Nat} (h : r < 128) : fnObject (rendFid r) = some (0x5080 + r, 1) := by
  unfold fnObject rendFid within
  simp (disch := omega) [show 512 + r ≠ 2 by omega, show 512 + r ≠ 3 by omega, show ¬(512 + r ≤ 23) by omega, show ¬(512 + r ≤ 287) by omega,
    show 512 + r ≤ 639 by omega]

theorem Mod.fn_rend (m : Mod) {r : Nat} (h : r < 128) : m.fn (rendFid r) = m.n (0x5080 + r) 1 := by
  unfold Mod.fn
  rw [if_neg (by unfold rendFid; omega), if_neg (by unfold rendFid; omega), fnObject_rend h]

theorem Mod.runningRends_congr (h : ∀ j, 0x5000 ≤ j → j < 0x5100 → b.n j 1 = a.n j 1) : b.runningRends = a.runningRends := by
  unfold Mod.runningRends
  refine List.filter_congr fun r hr => ?_
  have hlt := List.mem_range.mp hr
  rw [b.fn_rend hlt, a.fn_rend hlt, h _ (by omega) (by omega)]
  unfold Mod.rendOn Mod.flag
  rw [h _ (by omega) (by omega)]

theorem Mod.roleMoves.runningRends (h : a.roleMoves b) : b.runningRends = a.runningRends :=
  Mod.runningRends_congr fun j h1 h2 => h.n (by omega) (by omega) (by decide)

theorem Mod.setRole_told {r : Role} (h : m.role ≠ r) : (m.setRole r).told 0x7001 0 [roleNo m.role, roleNo r, m.term] := by
  unfold Mod.setRole
  rw [if_neg h]
  exact Mod.raise_told _ _ _ _

theorem Mod.setRole_twin (m : Mod) (r : Role) : (m.setRole r).twin = m.twin := Mod.setRole_part (m := m) r (p := .twin) (by decide)

theorem Mod.setRole_conds (m : Mod) (r : Role) : (m.setRole r).conds = m.conds := Mod.setRole_part (m := m) r (p := .conds) (by decide)

end

/-! ### The way to STANDBY -/

section
variable (m : Mod)

/-- What R228 asks of an UNSYNCED module besides its role. -/
def Mod.inStep : Bool :=
  m.linkUp && m.partnerActive && !m.twin.digestDiffers && m.n 0x7040 0x10 = 3 && m.runningRends.all (fun r => (m.syncOf r).inSync)
    && m.twin.missingSince = none && m.twin.sync.any (fun x => x.lastTick ≠ none)

theorem Mod.tryStandby_eq : m.tryStandby
    = if m.role = .unsynced ∧ m.inStep = true then (m.setRole .standby).raiseClearAll 0x7004 0 [0x7002, 0x700D, 0x700E] [] else m := by
  unfold Mod.tryStandby Mod.inStep
  dsimp only
  congr 1
  simp only [Bool.and_eq_true, decide_eq_true_eq, Bool.and_assoc]

theorem Mod.tryStandby_moves : m.roleMoves m.tryStandby := by
  rw [m.tryStandby_eq]
  split
  · exact Mod.roleMoves_trans (m.roleMoves_setRole _) (Mod.roleMoves_raiseClearAll _ _ _ _ _)
  · exact Mod.roleMoves_refl

theorem Mod.tryStandby_twin : m.tryStandby.twin = m.twin := by
  rw [m.tryStandby_eq]
  split
  · exact (Mod.raiseClearAll_part (m := m.setRole .standby) 0x7004 0 _ [] (p := .twin) (by decide)).trans (m.setRole_twin _)
  · rfl

theorem Mod.tryStandby_ready (hr : m.role = .unsynced) (h : m.inStep = true) : m.tryStandby.role = .standby ∧ m.tryStandby.told 0x7004 0 [] := by
  rw [m.tryStandby_eq, if_pos ⟨hr, h⟩]
  exact ⟨(Mod.role_of_get (Mod.get_raiseClearAll _ _ _ _ _ (by decide))).trans (m.role_setRole _), Mod.raiseClearAll_told (m.setRole .standby) _ _ _ _⟩

theorem Mod.tryStandby_not (h : ¬(m.role = .unsynced ∧ m.inStep = true)) : m.tryStandby = m := by
  rw [m.tryStandby_eq, if_neg h]

/-! ### A Status judged by a module that is not ACTIVE -/

variable (p : StatusBody)

/-- A FENCED module becomes UNSYNCED where its partner is ACTIVE. -/
def Mod.awakes : Mod := if m.role = .fenced && m.twinFn = running && p.role = .active then m.setRole .unsynced else m

/-- Whether an ACTIVE's digest is another. -/
def Mod.digestsDiffer : Bool := p.role = .active && p.digest ≠ m.n 0x7040 0x0B

/-- Digests compared and noted. -/
def Mod.digestsNoted : Mod :=
  let differs := m.digestsDiffer p
  let news := differs && !m.twin.digestDiffers && (m.role = .standby || m.role = .unsynced)
  let m := m.modTwin fun t => { t with digestDiffers := differs }
  if news then m.raiseCond 0x700D 0 [m.n 0x7040 0x0B, p.digest] else m

/-- A STANDBY whose digest differs is UNSYNCED. -/
def Mod.digestsCompared : Mod :=
  if m.digestsDiffer p && (m.digestsNoted p).role = .standby then (m.digestsNoted p).setRole .unsynced else m.digestsNoted p

theorem Mod.judgePartner_eq : m.judgePartner p = if m.role = .active then
    (if p.role = .active && m.term < p.term && !m.releasing then m.fence 5 none else m)
  else ((m.awakes p).digestsCompared p).tryStandby := rfl

theorem Mod.awakes_moves : m.roleMoves (m.awakes p) := by
  unfold Mod.awakes
  split
  · exact m.roleMoves_setRole _
  · exact Mod.roleMoves_refl

theorem Mod.awakes_twin : (m.awakes p).twin = m.twin := by
  unfold Mod.awakes
  split
  · exact m.setRole_twin _
  · rfl

theorem Mod.awakes_conds : (m.awakes p).conds = m.conds := by
  unfold Mod.awakes
  split
  · exact m.setRole_conds _
  · rfl

theorem Mod.digestsNoted_moves : m.roleMoves (m.digestsNoted p) := by
  unfold Mod.digestsNoted
  dsimp only
  split
  · exact Mod.roleMoves_trans (m.roleMoves_modTwin _) (Mod.roleMoves_raiseCond _ _ _ _)
  · exact m.roleMoves_modTwin _

theorem Mod.digestsNoted_twin : (m.digestsNoted p).twin = { m.twin with digestDiffers := m.digestsDiffer p } := by
  unfold Mod.digestsNoted
  dsimp only
  split
  · exact Mod.raiseCond_twin ..
  · rfl

theorem Mod.digestsNoted_role : (m.digestsNoted p).role = m.role := by
  unfold Mod.digestsNoted
  dsimp only
  split
  · exact Mod.role_of_get (Mod.get_raiseCond_frame _ _ _ _ (by decide))
  · rfl

theorem Mod.digestsNoted_told (hd : m.digestsDiffer p = true) (hn : m.twin.digestDiffers = false) (hr : m.role = .standby ∨ m.role = .unsynced)
    (hc : m.condSet 0x700D 0 = false) : (m.digestsNoted p).told 0x700D 0 [m.n 0x7040 0x0B, p.digest] := by
  unfold Mod.digestsNoted
  dsimp only
  rw [if_pos (by rw [hd, hn]; obtain hr | hr := hr <;> simp [hr])]
  exact Mod.raiseCond_told _ (by exact hc) _

theorem Mod.digestsCompared_moves : m.roleMoves (m.digestsCompared p) := by
  unfold Mod.digestsCompared
  split
  · exact Mod.roleMoves_trans (m.digestsNoted_moves p) (Mod.roleMoves_setRole _ _)
  · exact m.digestsNoted_moves p

theorem Mod.digestsCompared_twin : (m.digestsCompared p).twin = { m.twin with digestDiffers := m.digestsDiffer p } := by
  unfold Mod.digestsCompared
  split
  · exact (Mod.setRole_twin _ _).trans (m.digestsNoted_twin p)
  · exact m.digestsNoted_twin p

theorem Mod.digestsCompared_tells {a : Mod} (h : a.tells (m.digestsNoted p)) : a.tells (m.digestsCompared p) := by
  unfold Mod.digestsCompared
  split
  · exact Mod.tells_setRole _ h
  · exact h

/-- A STANDBY whose digest differs. -/
theorem Mod.digestsCompared_standby (hr : m.role = .standby) (hd : m.digestsDiffer p = true) :
    (m.digestsCompared p).role = .unsynced ∧ (m.digestsCompared p).told 0x7001 0 [3, 2, m.term] := by
  have hrole := (m.digestsNoted_role p).trans hr
  have htold := Mod.setRole_told (m := m.digestsNoted p) (r := .unsynced) (by rw [hrole]; decide)
  unfold Mod.digestsCompared
  rw [if_pos (by rw [hd, hrole]; rfl)]
  rw [hrole, (m.digestsNoted_moves p).term] at htold
  exact ⟨Mod.role_setRole _ _, htold⟩

theorem Mod.digestsCompared_role (h : ¬(m.role = .standby ∧ m.digestsDiffer p = true)) : (m.digestsCompared p).role = m.role := by
  unfold Mod.digestsCompared
  rw [if_neg (by rw [Bool.and_eq_true, decide_eq_true_eq, m.digestsNoted_role]; exact fun hc => h ⟨hc.2, hc.1⟩)]
  exact m.digestsNoted_role p

end

/-! ### What a fence shows -/

section
variable (m : Mod) (reason : Nat) (u : Option Nanos)

/-- The module as the fence tells of itself. -/
def Mod.fencing : Mod :=
  let m := (m.setRole .fenced).put 0x7040 0x0F reason
  if m.twin.handover = none then m else m.put 0x7010 0 0

theorem Mod.fence_eq : m.fence reason u = (((m.fencing reason).raise 0x7007 0 [reason]).modTwin fun t =>
    { t with
      launchFrom := if u = none then none else t.launchFrom,
      launchUntil := u,
      renewed := [],
      countersigned := none,
      grants := [],
      outstanding := [],
      handover := none }).bump 0x7080 9 := rfl

theorem Mod.get_fencing {j t : Nat} (h : ¬(j = 0x7010 ∧ t = 0)) (ht : t < 256) :
    (m.fencing reason).get j t = ((m.setRole .fenced).put 0x7040 0x0F reason).get j t := by
  unfold Mod.fencing
  dsimp only
  split
  · rfl
  · exact Mod.get_put_frame _ _ (by decide) (by omega)

theorem Mod.n_fence {t : Nat} (ht : t < 256) : (m.fence reason u).n 0x7040 t = ((m.setRole .fenced).put 0x7040 0x0F reason).n 0x7040 t := by
  rw [m.fence_eq]
  unfold Mod.n
  rw [Mod.get_bump_frame _ (by decide) (by omega), Mod.get_modTwin, Mod.get_raise_frame _ _ _ _ (.inl (by omega)),
    m.get_fencing reason (by omega) ht]

theorem Mod.n_fence_other {t : Nat} (h : t ≠ 1 ∧ t ≠ 2 ∧ t ≠ 0x0F) (ht : t < 256) : (m.fence reason u).n 0x7040 t = m.n 0x7040 t := by
  rw [m.n_fence reason u ht, Mod.n_put_other _ _ (by decide) (by omega)]
  exact (m.roleMoves_setRole _).n (by omega) (by decide) ht

theorem Mod.n_fence_reason : (m.fence reason u).n 0x7040 0x0F = reason := by
  rw [m.n_fence reason u (by decide), Mod.n_put _ _ _ _ (by decide)]

theorem Mod.fence_partner : (m.fence reason u).twin.partner = m.twin.partner := by
  have hfencing : (m.fencing reason).twin = m.twin := by
    unfold Mod.fencing
    dsimp only
    have hrole : ((m.setRole .fenced).put 0x7040 0x0F reason).twin = m.twin := (Mod.put_twin ..).trans (m.setRole_twin _)
    split
    · exact hrole
    · exact (Mod.put_twin ..).trans hrole
  have htwin (b : Mod) (f : TwinS → TwinS) : (b.modTwin f).twin = f b.twin := rfl
  rw [m.fence_eq, Mod.bump_twin, htwin, Mod.raise_twin, hfencing]

theorem Mod.fence_told : (m.fence reason u).told 0x7007 0 [reason]
    ∧ (m.role ≠ .fenced → (m.fence reason u).told 0x7001 0 [roleNo m.role, 1, m.term]) := by
  have hmod (b : Mod) (f : TwinS → TwinS) : b.tells (b.modTwin f) := Mod.tells_of_raised rfl Mod.tells_refl
  have hlast (b : Mod) (f : TwinS → TwinS) : b.tells ((b.modTwin f).bump 0x7080 9) := Mod.tells_bump (hmod b f) _ _
  have hfencing : (m.setRole .fenced).tells (m.fencing reason) := by
    have hput : (m.setRole .fenced).tells ((m.setRole .fenced).put 0x7040 0x0F reason) := Mod.tells_put Mod.tells_refl _ _ _
    unfold Mod.fencing
    exact Mod.tells_ite hput (Mod.tells_put hput _ _ _)
  rw [m.fence_eq]
  refine ⟨Mod.told_of_tells (hlast _ _) (Mod.raise_told _ _ _ _), fun hr => ?_⟩
  have htold := Mod.setRole_told hr
  exact Mod.told_of_tells (hlast _ _) (Mod.told_of_tells (Mod.tells_raise _ _ _ hfencing) htold)

end

/-! ### A Status kept and judged -/

section
variable (m : Mod) (p : StatusBody)

/-- A Status is held. -/
def Mod.statusKept : Mod := ((m.put 0x7040 8 (roleNo p.role)).put 0x7040 0x0C p.digest).modTwin fun t => { t with partner := some p }

/-- A Status is held, and the repairs that it asks for noted. -/
def Mod.statusNoted : Mod := (m.statusKept p).notePartnerUnsynced p

theorem Mod.takeStatus_eq {h : MortarHdr} (hi : m.inOrder h 0) : m.takeStatus h p = ((m.taken h 0).statusNoted p).judgePartner p := by
  unfold Mod.takeStatus
  rw [Mod.sequenced_inOrder hi]
  generalize m.taken h 0 = a
  rfl

theorem Mod.notePartnerUnsynced_eq : ∃ x y, m.notePartnerUnsynced p = m.modTwin fun t => { t with awaiting := x, repairs := y } := by
  unfold Mod.notePartnerUnsynced
  split_ifs
  · exact ⟨_, m.twin.repairs, rfl⟩
  · exact ⟨m.twin.awaiting, m.twin.repairs, rfl⟩
  · exact ⟨_, _, rfl⟩
  · exact ⟨m.twin.awaiting, m.twin.repairs, rfl⟩

/-- Of the twin only the Status held and the repairs change, of the objects only what the Status says. -/
theorem Mod.statusNoted_eq : ∃ x y, m.statusNoted p = ((m.put 0x7040 8 (roleNo p.role)).put 0x7040 0x0C p.digest).modTwin fun t =>
    { t with partner := some p, awaiting := x, repairs := y } := by
  obtain ⟨x, y, h⟩ := (m.statusKept p).notePartnerUnsynced_eq p
  exact ⟨x, y, h⟩

theorem Mod.n_modTwin (f : TwinS → TwinS) {j t : Nat} : (m.modTwin f).n j t = m.n j t := rfl

theorem Mod.twin_modTwin (f : TwinS → TwinS) : (m.modTwin f).twin = f m.twin := rfl

theorem Mod.n_statusNoted {j t : Nat} (h : ¬(j = 0x7040 ∧ (t = 8 ∨ t = 0x0C))) (ht : t < 256) : (m.statusNoted p).n j t = m.n j t := by
  obtain ⟨x, y, heq⟩ := m.statusNoted_eq p
  rw [heq, Mod.n_modTwin]
  exact (Mod.n_put_other _ _ (by decide) (by omega)).trans (m.n_put_other _ (by decide) (by omega))

theorem Mod.statusNoted_shows : (m.statusNoted p).n 0x7040 8 = roleNo p.role ∧ (m.statusNoted p).n 0x7040 0x0C = p.digest
    ∧ (m.statusNoted p).twin.partner = some p ∧ (m.statusNoted p).conds = m.conds ∧ (m.statusNoted p).twinFn = m.twinFn
    ∧ (m.statusNoted p).role = m.role := by
  refine ⟨?_, ?_, ?_, ?_, ?_, congrArg roleOf (m.n_statusNoted p (by decide) (by decide))⟩ <;>
    obtain ⟨x, y, heq⟩ := m.statusNoted_eq p <;> rw [heq]
  · rw [Mod.n_modTwin, Mod.n_put_other _ _ (by decide) (by decide), Mod.n_put _ _ _ _ (by decide)]
  · rw [Mod.n_modTwin, Mod.n_put _ _ _ _ (by decide)]
  · rw [Mod.twin_modTwin]
  · rw [Mod.modTwin_conds, Mod.put_conds, Mod.put_conds]
  · rw [Mod.modTwin_twinFn, Mod.put_twinFn, Mod.put_twinFn]

theorem Mod.runningRends_statusNoted : (m.statusNoted p).runningRends = m.runningRends :=
  Mod.runningRends_congr fun j h1 h2 => m.n_statusNoted p (by omega) (by decide)

theorem Mod.statusNoted_sync : (m.statusNoted p).twin.sync = m.twin.sync ∧ (m.statusNoted p).twin.missingSince = m.twin.missingSince
    ∧ (m.statusNoted p).twin.digestDiffers = m.twin.digestDiffers ∧ (m.statusNoted p).twin.handover = m.twin.handover := by
  obtain ⟨x, y, heq⟩ := m.statusNoted_eq p
  have htwin : (m.statusNoted p).twin = { m.twin with partner := some p, awaiting := x, repairs := y } := by
    have hput : ((m.put 0x7040 8 (roleNo p.role)).put 0x7040 0x0C p.digest).twin = m.twin := (Mod.put_twin ..).trans (Mod.put_twin ..)
    rw [heq, ← hput]
    rfl
  rw [htwin]
  exact ⟨rfl, rfl, rfl, rfl⟩

/-- An ACTIVE whose partner shows itself UNSYNCED with its digest awaits repair of what runs. -/
theorem Mod.statusNoted_awaiting (hr : m.role = .active) (hp : p.role = .unsynced) (hd : p.digest = m.n 0x7040 0x0B) (ha : m.twin.awaiting = [])
    (hrep : m.twin.repairs = []) : (m.statusNoted p).twin.awaiting = m.runningRends := by
  have htwin : (m.statusKept p).twin = { m.twin with partner := some p } := by
    have hput : ((m.put 0x7040 8 (roleNo p.role)).put 0x7040 0x0C p.digest).twin = m.twin := (Mod.put_twin ..).trans (Mod.put_twin ..)
    unfold Mod.statusKept
    rw [← hput]
    rfl
  have hn {j t : Nat} (h : ¬(j = 0x7040 ∧ (t = 8 ∨ t = 0x0C))) (ht : t < 256) : (m.statusKept p).n j t = m.n j t := by
    unfold Mod.statusKept
    rw [Mod.n_modTwin, Mod.n_put_other _ _ (by decide) (by omega), Mod.n_put_other _ _ (by decide) (by omega)]
  have hrole : (m.statusKept p).role = .active := (congrArg roleOf (hn (by decide) (by decide))).trans hr
  have hrends : (m.statusKept p).runningRends = m.runningRends := Mod.runningRends_congr fun j h1 h2 => hn (by omega) (by decide)
  unfold Mod.statusNoted Mod.notePartnerUnsynced
  have hasks : p.digest = (m.statusKept p).n 0x7040 0x0B ∧ (m.statusKept p).twin.awaiting = [] ∧ (m.statusKept p).twin.repairs = [] := by
    rw [hn (by decide) (by decide), htwin]
    exact ⟨hd, ha, hrep⟩
  simp only [hrole, hp, decide_true, Bool.and_self, if_true]
  rw [if_pos (by simpa [and_assoc] using hasks), hrends]
  rfl

theorem Mod.judgePartner_keeps {t : Nat} (h : t ≠ 1 ∧ t ≠ 2 ∧ t ≠ 0x0F) (ht : t < 256) :
    (m.judgePartner p).n 0x7040 t = m.n 0x7040 t ∧ (m.judgePartner p).twin.partner = m.twin.partner := by
  rw [m.judgePartner_eq]
  split_ifs
  · exact ⟨m.n_fence_other 5 none h ht, m.fence_partner 5 none⟩
  · exact ⟨rfl, rfl⟩
  · have hmoves := Mod.roleMoves_trans (Mod.roleMoves_trans (m.awakes_moves p) (Mod.digestsCompared_moves _ p)) (Mod.tryStandby_moves _)
    refine ⟨hmoves.n (by omega) (by decide) ht, ?_⟩
    rw [Mod.tryStandby_twin, Mod.digestsCompared_twin, m.awakes_twin]

end

/-! ### Each role's judgement -/

section
variable {m : Mod} {p : StatusBody}

/-- Whether an ACTIVE partner has another digest. -/
theorem Mod.digestsDiffer_iff : m.digestsDiffer p = true ↔ p.role = .active ∧ p.digest ≠ m.n 0x7040 0x0B := by
  unfold Mod.digestsDiffer
  simp only [Bool.and_eq_true, decide_eq_true_eq]

theorem Mod.digestsDiffer_congr {a : Mod} (h : a.n 0x7040 0x0B = m.n 0x7040 0x0B) : a.digestsDiffer p = m.digestsDiffer p := by
  unfold Mod.digestsDiffer
  rw [h]

/-- The module as it stands before it may become STANDBY. -/
def Mod.compared (m : Mod) (p : StatusBody) : Mod := ((m.statusNoted p).awakes p).digestsCompared p

theorem Mod.judged_eq (h : m.role ≠ .active) : (m.statusNoted p).judgePartner p = (m.compared p).tryStandby := by
  obtain ⟨-, -, -, -, -, hrole⟩ := m.statusNoted_shows p
  rw [Mod.judgePartner_eq, if_neg (by rw [hrole]; exact h)]
  rfl

theorem Mod.compared_moves (m : Mod) (p : StatusBody) : (m.statusNoted p).roleMoves (m.compared p) :=
  Mod.roleMoves_trans (Mod.awakes_moves _ p) (Mod.digestsCompared_moves _ p)

theorem Mod.digestsDiffer_awakes : ((m.statusNoted p).awakes p).digestsDiffer p = m.digestsDiffer p :=
  Mod.digestsDiffer_congr (((m.statusNoted p).awakes_moves p).n (by decide) (by decide) (by decide) |>.trans (m.n_statusNoted p (by decide) (by decide)))

/-- What of R228 holds of the renditions and their records. -/
abbrev Mod.rests (m : Mod) : Prop := m.runningRends.all (fun r => (m.syncOf r).inSync) = true ∧ m.twin.missingSince = none
  ∧ m.twin.sync.any (fun x => x.lastTick ≠ none) = true ∧ m.n 0x7040 0x10 = 3

theorem Mod.inStep_compared (hl : m.linkUp = true) :
    (m.compared p).inStep = true ↔ p.role = .active ∧ ¬m.digestsDiffer p = true ∧ m.rests := by
  have hmoves := m.compared_moves p
  obtain ⟨-, -, hpartner, -, -, -⟩ := m.statusNoted_shows p
  obtain ⟨hsync, hmissing, -, -⟩ := m.statusNoted_sync p
  have htwin : (m.compared p).twin = { (m.statusNoted p).twin with digestDiffers := m.digestsDiffer p } := by
    unfold Mod.compared
    rw [Mod.digestsCompared_twin, Mod.awakes_twin, m.digestsDiffer_awakes]
  have hup : (m.compared p).linkUp = true := by
    rw [hmoves.linkUp, ← hl]
    unfold Mod.linkUp
    rw [m.n_statusNoted p (by decide) (by decide)]
  have hgen : (m.compared p).n 0x7040 0x10 = m.n 0x7040 0x10 := (hmoves.n (by decide) (by decide) (by decide)).trans (m.n_statusNoted p (by decide) (by decide))
  have hrends : (m.compared p).runningRends = m.runningRends := hmoves.runningRends.trans (m.runningRends_statusNoted p)
  have hof (r : Nat) : (m.compared p).syncOf r = m.syncOf r := by
    unfold Mod.syncOf
    rw [htwin, ← hsync]
  have hactive : (m.compared p).partnerActive = decide (p.role = .active) := by
    unfold Mod.partnerActive
    rw [htwin, hpartner]
  unfold Mod.inStep
  rw [hup, hactive, hgen, hrends, htwin, hmissing, hsync]
  simp only [hof, Bool.and_eq_true, decide_eq_true_eq, Bool.not_eq_true', true_and, Bool.not_eq_true]
  constructor
  · rintro ⟨⟨⟨⟨⟨ha, hd⟩, hg⟩, hr⟩, hm⟩, hs⟩
    exact ⟨ha, hd, hr, hm, hs, hg⟩
  · rintro ⟨ha, hd, hr, hm, hs, hg⟩
    exact ⟨⟨⟨⟨⟨ha, hd⟩, hg⟩, hr⟩, hm⟩, hs⟩

theorem Mod.statusNoted_term : (m.statusNoted p).term = m.term := m.n_statusNoted p (by decide) (by decide)

theorem Mod.statusNoted_releasing : (m.statusNoted p).releasing = m.releasing := by
  unfold Mod.releasing
  rw [(m.statusNoted_sync p).2.2.2]

/-- An ACTIVE before an ACTIVE of a higher term. -/
theorem Mod.judged_fence (hr : m.role = .active) (hp : p.role = .active) (ht : m.term < p.term) (hn : m.releasing = false) :
    ((m.statusNoted p).judgePartner p).role = .fenced ∧ ((m.statusNoted p).judgePartner p).n 0x7040 0x0F = 5
      ∧ ((m.statusNoted p).judgePartner p).told 0x7001 0 [4, 1, m.term] ∧ ((m.statusNoted p).judgePartner p).told 0x7007 0 [5] := by
  obtain ⟨-, -, -, -, -, hrole⟩ := m.statusNoted_shows p
  have hrole := hrole.trans hr
  obtain ⟨h7007, h7001⟩ := (m.statusNoted p).fence_told 5 none
  have h7001 := h7001 (by rw [hrole]; decide)
  rw [hrole, m.statusNoted_term] at h7001
  rw [Mod.judgePartner_eq, if_pos hrole, if_pos (by rw [m.statusNoted_term, m.statusNoted_releasing, hp, hn, decide_eq_true ht]; rfl)]
  exact ⟨Mod.role_fence _ _ _, Mod.n_fence_reason _ _ _, h7001, h7007⟩

theorem Mod.judged_active (hr : m.role = .active) (h : p.role ≠ .active ∨ p.term ≤ m.term ∨ m.releasing = true) :
    (m.statusNoted p).judgePartner p = m.statusNoted p := by
  obtain ⟨-, -, -, -, -, hrole⟩ := m.statusNoted_shows p
  rw [Mod.judgePartner_eq, if_pos (hrole.trans hr), if_neg ?_]
  rw [m.statusNoted_term, m.statusNoted_releasing]
  simp only [Bool.and_eq_true, decide_eq_true_eq, Bool.not_eq_true', not_and, Bool.not_eq_false]
  rintro ⟨hp, ht⟩
  obtain h | h | h := h
  · exact absurd hp h
  · omega
  · exact h

/-- A FENCED module whose partner is ACTIVE. -/
theorem Mod.judged_fenced (hr : m.role = .fenced) (hf : m.twinFn = running) (hp : p.role = .active) :
    (((m.statusNoted p).judgePartner p).role = .unsynced ∨ ((m.statusNoted p).judgePartner p).role = .standby)
      ∧ ((m.statusNoted p).judgePartner p).told 0x7001 0 [1, 2, m.term] := by
  obtain ⟨-, -, -, -, hfn, hrole⟩ := m.statusNoted_shows p
  have hrole := hrole.trans hr
  have hawake : (m.statusNoted p).awakes p = (m.statusNoted p).setRole .unsynced := if_pos (by rw [hrole, hfn, hf, hp]; rfl)
  have htold : ((m.statusNoted p).awakes p).told 0x7001 0 [1, 2, m.term] := by
    have := Mod.setRole_told (m := m.statusNoted p) (r := .unsynced) (by rw [hrole]; decide)
    rwa [hrole, m.statusNoted_term, ← hawake] at this
  have hunsynced : ((m.statusNoted p).awakes p).role = .unsynced := by
    rw [hawake]
    exact Mod.role_setRole _ _
  have hcompared : (m.compared p).role = .unsynced :=
    (Mod.digestsCompared_role _ p (by rw [hunsynced]; exact fun h => absurd h.1 (by decide))).trans hunsynced
  rw [m.judged_eq (by rw [hr]; decide)]
  refine ⟨?_, Mod.told_of_tells (Mod.roleMoves_trans (Mod.digestsCompared_moves _ p) (Mod.tryStandby_moves _)).tells htold⟩
  obtain hs | hs := Bool.eq_false_or_eq_true (m.compared p).inStep
  · exact .inr ((m.compared p).tryStandby_ready hcompared hs).1
  · rw [Mod.tryStandby_not _ (by rw [hs]; exact fun h => absurd h.2 (by decide))]
    exact .inl hcompared

theorem Mod.awakes_not (h : m.role ≠ .fenced) : (m.statusNoted p).awakes p = m.statusNoted p := by
  obtain ⟨-, -, -, -, -, hrole⟩ := m.statusNoted_shows p
  refine if_neg ?_
  rw [hrole, decide_eq_false h]
  simp

/-- A STANDBY by its digest. -/
theorem Mod.judged_standby (hr : m.role = .standby) :
    (m.digestsDiffer p = true → ((m.statusNoted p).judgePartner p).role = .unsynced ∧ ((m.statusNoted p).judgePartner p).told 0x7001 0 [3, 2, m.term])
      ∧ (¬m.digestsDiffer p = true → ((m.statusNoted p).judgePartner p).role = .standby) := by
  have hne : m.role ≠ .fenced := by rw [hr]; decide
  obtain ⟨-, -, -, -, -, hrole⟩ := m.statusNoted_shows p
  have hrole := hrole.trans hr
  have hawake := m.awakes_not (p := p) hne
  have hdiffer : (m.statusNoted p).digestsDiffer p = m.digestsDiffer p := by
    rw [← hawake]
    exact m.digestsDiffer_awakes
  have hcompared : m.compared p = (m.statusNoted p).digestsCompared p := by
    unfold Mod.compared
    rw [hawake]
  rw [m.judged_eq (by rw [hr]; decide), hcompared]
  refine ⟨fun hd => ?_, fun hd => ?_⟩
  · obtain ⟨hunsynced, htold⟩ := (m.statusNoted p).digestsCompared_standby p hrole (hdiffer.trans hd)
    rw [m.statusNoted_term] at htold
    have hstays : ¬(((m.statusNoted p).digestsCompared p).role = .unsynced ∧ ((m.statusNoted p).digestsCompared p).inStep = true) := fun h => by
      have hin := h.2
      unfold Mod.inStep at hin
      rw [Mod.digestsCompared_twin] at hin
      simp [hdiffer, hd] at hin
    rw [Mod.tryStandby_not _ hstays]
    exact ⟨hunsynced, htold⟩
  · have hsame := (m.statusNoted p).digestsCompared_role p (by rw [hdiffer]; exact fun h => hd h.2)
    rw [Mod.tryStandby_not _ (by rw [hsame, hrole]; exact fun h => absurd h.1 (by decide)), hsame, hrole]

/-- Digests found to differ. -/
theorem Mod.judged_digests (hr : m.role = .standby ∨ m.role = .unsynced) (hd : m.digestsDiffer p = true) (hn : m.twin.digestDiffers = false)
    (hc : m.condSet 0x700D 0 = false) : ((m.statusNoted p).judgePartner p).told 0x700D 0 [m.n 0x7040 0x0B, p.digest] := by
  have hne : m.role ≠ .fenced ∧ m.role ≠ .active := by obtain h | h := hr <;> rw [h] <;> decide
  obtain ⟨-, -, -, hconds, -, hrole⟩ := m.statusNoted_shows p
  obtain ⟨-, -, hdiffers, -⟩ := m.statusNoted_sync p
  have hawake := m.awakes_not (p := p) hne.1
  have hdiffer : (m.statusNoted p).digestsDiffer p = m.digestsDiffer p := by
    rw [← hawake]
    exact m.digestsDiffer_awakes
  have htold := (m.statusNoted p).digestsNoted_told p (hdiffer.trans hd) (hdiffers.trans hn) (by rwa [hrole])
    ((Mod.condSet_of_conds hconds).trans hc)
  rw [m.n_statusNoted p (by decide) (by decide)] at htold
  rw [m.judged_eq hne.2]
  unfold Mod.compared
  rw [hawake]
  exact Mod.told_of_tells (fun x hx => (Mod.tryStandby_moves _).tells x (Mod.digestsCompared_tells _ p Mod.tells_refl x hx)) htold

/-- An UNSYNCED module. -/
theorem Mod.judged_unsynced (hl : m.linkUp = true) (hr : m.role = .unsynced) :
    (p.role = .active → ¬m.digestsDiffer p = true → m.rests →
      ((m.statusNoted p).judgePartner p).role = .standby ∧ ((m.statusNoted p).judgePartner p).told 0x7004 0 [])
      ∧ (¬(p.role = .active ∧ ¬m.digestsDiffer p = true ∧ m.rests) → ((m.statusNoted p).judgePartner p).role = .unsynced) := by
  have hne : m.role ≠ .fenced := by rw [hr]; decide
  obtain ⟨-, -, -, -, -, hrole⟩ := m.statusNoted_shows p
  have hawake := m.awakes_not (p := p) hne
  have hcompared : (m.compared p).role = .unsynced := by
    unfold Mod.compared
    rw [hawake, Mod.digestsCompared_role _ p (by rw [hrole, hr]; exact fun h => absurd h.1 (by decide)), hrole, hr]
  rw [m.judged_eq (by rw [hr]; decide)]
  refine ⟨fun hp hd hrest => ?_, fun hn => ?_⟩
  · exact (m.compared p).tryStandby_ready hcompared ((Mod.inStep_compared hl).mpr ⟨hp, hd, hrest⟩)
  · rw [Mod.tryStandby_not _ fun h => hn ((Mod.inStep_compared hl).mp h.2)]
    exact hcompared

end

/-- Settles O32: a Status by the role of the module that hears it, a placement held by all but the ACTIVE. -/
theorem partnersAreJudged : Obligations.PartnersAreJudged := by
  unfold Obligations.PartnersAreJudged
  intro s t hdr hs m
  refine ⟨fun p hi => ?_, fun p hi => ⟨fun hr => ?_, fun hr => ?_⟩⟩
  · intro differs rests
    have hl : m.linkUp = true := hi.2.1
    have heq := m.takeStatus_eq p hi
    obtain ⟨o, r, htaken, -⟩ := m.taken_onLink hdr 0
    rw [htaken] at heq
    obtain ⟨h8, hC, hpartner, -, -, hrole⟩ := (m.onLink o r).statusNoted_shows p
    obtain ⟨hk8, hkp⟩ := ((m.onLink o r).statusNoted p).judgePartner_keeps p (t := 8) (by decide) (by decide)
    obtain ⟨hkC, -⟩ := ((m.onLink o r).statusNoted p).judgePartner_keeps p (t := 0x0C) (by decide) (by decide)
    have hd : (m.onLink o r).digestsDiffer p = true ↔ differs := Mod.digestsDiffer_iff
    refine completes_act (g := fun m => m.takeStatus hdr p) rfl hs ?_ fun _ h => h
    show (m.takeStatus hdr p).n 0x7040 8 = _ ∧ (m.takeStatus hdr p).n 0x7040 0x0C = _ ∧ _
    rw [heq]
    refine ⟨hk8.trans h8, hkC.trans hC, hkp.trans hpartner, fun hr => ⟨?_, fun h => ?_, fun hp hdig ha hrep => ?_⟩, ?_, fun hr => ?_,
      fun hr hdiff hn hc => ?_, fun hr => ?_⟩
    · exact fun hp ht hn => Mod.judged_fence (m := m.onLink o r) hr hp ht hn
    · rw [Mod.judged_active (m := m.onLink o r) hr h, hrole]
      exact hr
    · rw [Mod.judged_active (m := m.onLink o r) hr (.inl (by rw [hp]; decide))]
      exact Mod.statusNoted_awaiting _ p hr hp hdig ha hrep
    · exact fun hr hf hp => Mod.judged_fenced (m := m.onLink o r) hr hf hp
    · obtain ⟨hdiff, hsame⟩ := Mod.judged_standby (m := m.onLink o r) (p := p) hr
      exact ⟨fun h => hdiff (hd.mpr h), fun h => hsame fun h' => h (hd.mp h')⟩
    · exact Mod.judged_digests (m := m.onLink o r) hr (hd.mpr hdiff) hn hc
    · obtain ⟨hready, hnot⟩ := Mod.judged_unsynced (m := m.onLink o r) (p := p) hl hr
      exact ⟨fun hp hsame hrest => hready hp (fun h => hsame (hd.mp h)) hrest,
        fun hn => hnot fun h => hn ⟨h.1, fun h' => h.2.1 (hd.mpr h'), h.2.2⟩⟩
  · have heq : m.takePlacement hdr p = (m.taken hdr 3).modTwin fun t => { t with placement := some p } := by
      unfold Mod.takePlacement
      rw [Mod.sequenced_inOrder hi]
      obtain ⟨o, r, htaken, -⟩ := m.taken_onLink hdr 3
      rw [htaken]
      exact if_neg hr
    obtain ⟨o, r, htaken, -⟩ := m.taken_onLink hdr 3
    refine completes_act (g := fun m => m.takePlacement hdr p) rfl hs ?_ fun _ h => h
    show (m.takePlacement hdr p).twin.placement = some p ∧ (m.takePlacement hdr p).objs = m.objs
    rw [heq, htaken]
    exact ⟨rfl, rfl⟩
  · have heq : m.takePlacement hdr p = m.taken hdr 3 := by
      unfold Mod.takePlacement
      rw [Mod.sequenced_inOrder hi]
      obtain ⟨o, r, htaken, -⟩ := m.taken_onLink hdr 3
      rw [htaken]
      exact if_pos hr
    refine does_act (g := fun m => m.takePlacement hdr p) hs rfl heq ?_
    obtain ⟨o, r, htaken, -⟩ := m.taken_onLink hdr 3
    rw [htaken]
    exact hs.2

end Sys2Proof.Machine
end

section
/-! SUPPORT. Grants: renewals, a quorum, and what becomes of the module that holds one (R235, R236, R240, R241, R243). -/

namespace Sys2Proof.Machine

/-! ### New sequences and placement -/

section
variable (m : Mod)

theorem Mod.roleMoves_newSequences (from_ : Nat) : m.roleMoves (m.newSequences from_) := by
  have hrend (m : Mod) (r : Nat) (f : RendS → RendS) : m.roleMoves (m.modRend r f) := ⟨fun _ _ _ => rfl, fun _ h => h⟩
  have hraise (m : Mod) : m.roleMoves (m.raise 0x700F 0 []) :=
    ⟨fun _ _ _ => m.get_raise_frame _ _ _ (by omega), Mod.tells_raise _ _ _ Mod.tells_refl⟩
  unfold Mod.newSequences
  dsimp only
  refine Mod.roleMoves_trans ?_ (hraise _)
  exact Mod.each_holds (P := fun a => m.roleMoves a) (fun a r h => Mod.roleMoves_trans h (hrend a r _)) Mod.roleMoves_refl

theorem Mod.newSequences_told (from_ : Nat) : (m.newSequences from_).told 0x700F 0 [] := Mod.raise_told _ _ _ _

theorem Mod.newSequences_twin (from_ : Nat) : (m.newSequences from_).twin = m.twin := Mod.newSequences_part (m := m) from_ (p := .twin) (by decide)

theorem Mod.role_newSequences (from_ : Nat) : (m.newSequences from_).role = m.role := by
  have hget : (m.newSequences from_).get 0x7040 1 = m.get 0x7040 1 := by
    unfold Mod.newSequences
    exact (Mod.get_raise_frame _ _ _ _ (.inl (by decide))).trans (Mod.get_each fun _ _ _ => rfl)
  exact Mod.role_of_get hget

theorem Mod.sendPlacement_onLink : ∃ o r, m.sendPlacement = m.onLink o r := by
  unfold Mod.sendPlacement
  split
  · exact ⟨_, _, m.mortarSend_onLink _ _ _⟩
  · exact ⟨m.out, m.twin.mortar, rfl⟩

theorem Mod.lastConfirmed_congr {a : Mod} (hs : a.twin.sync = m.twin.sync) (hr : a.rends = m.rends) : a.lastConfirmed = m.lastConfirmed := by
  unfold Mod.lastConfirmed Mod.rend
  rw [hs, hr]

/-! ### The module becomes ACTIVE -/

variable (term : Nat) (starts : List (Nat × Nanos))

/-- A term held with its leases, all that was under way dropped. -/
def Mod.crowned : Mod :=
  (m.put 0x7040 3 term).modTwin fun t =>
    { t with
      renewed := starts,
      countersigned := none,
      viaPartner := false,
      grants := [],
      renewAt := 0,
      handover := none,
      awaiting := [],
      repairs := [] }

/-- ACTIVE, entitled to launch by what `f` sets. -/
def Mod.enthroned (f : TwinS → TwinS) : Mod := ((m.crowned term starts).modTwin f).setRole .active

/-- Becoming ACTIVE as the successor of a handover. -/
def Mod.succeeded (B : Nat) (X : Nanos) (withRestart : Bool) : Mod :=
  let m := (m.enthroned term starts fun t => { t with launchFrom := some (max X (m.crowned term starts).now), launchUntil := none, successor := none }).put 0x7040 0x0D B
  if withRestart then m.newSequences B else m

/-- Becoming ACTIVE by its own ACQUIRE, told with the span since the last confirmed launch. -/
def Mod.ascended (f : TwinS → TwinS) (span : Nat) : Mod :=
  let m := m.enthroned term starts f
  let m := ((m.put 0x7040 0x0D m.tick).put 0x7040 0x0E span).putMax 0x7080 0x0D span
  (m.bump 0x7080 7).raise 0x7005 0 [m.now, span]

/-- The span since the last confirmed launch. -/
def Mod.darkFor : Nat := match m.lastConfirmed with
  | none => 0
  | some c => m.now - c

/-- Entitled from this instant on. -/
def Mod.launchesNow (t : TwinS) : TwinS := { t with launchFrom := some m.now, launchUntil := none }

variable {m term starts}

theorem Mod.crowned_successor : (m.crowned term starts).twin.successor = m.twin.successor := by
  unfold Mod.crowned
  rw [Mod.twin_modTwin, Mod.put_twin]

theorem Mod.becomeActive_successor {B : Nat} {X : Nanos} {withRestart : Bool} (h : m.twin.successor = some (B, X, withRestart)) :
    m.becomeActive term starts = (m.succeeded term starts B X withRestart).sendPlacement := by
  have hs := (m.crowned_successor (term := term) (starts := starts)).trans h
  unfold Mod.becomeActive
  dsimp only
  split
  · next B' X' withRestart' h' =>
    obtain ⟨rfl, rfl, rfl⟩ : B' = B ∧ X' = X ∧ withRestart' = withRestart := by simpa using h'.symm.trans hs
    rfl
  · next h' => exact absurd (h'.symm.trans hs) (by simp)

/-- A new sequence for all that ran out of step. -/
def Mod.resequenced (m : Mod) (unsynced : Prop) [Decidable unsynced] : Mod :=
  if unsynced then m.newSequences (m.fam.firstAt (m.now - (m.n 0x5A00 1 + 20000)) 1) else m

theorem Mod.becomeActive_acquired (h : m.twin.successor = none) : m.becomeActive term starts
    = ((m.ascended term starts (m.crowned term starts).launchesNow (m.crowned term starts).darkFor).resequenced (m.role = .unsynced)).sendPlacement := by
  have hs := (m.crowned_successor (term := term) (starts := starts)).trans h
  unfold Mod.becomeActive
  dsimp only
  split
  · next h' => exact absurd (h'.symm.trans hs) (by simp)
  · rfl

end

section
variable (m : Mod) (term : Nat) (starts : List (Nat × Nanos)) (f : TwinS → TwinS)

theorem Mod.role_crowned : (m.crowned term starts).role = m.role := by
  unfold Mod.crowned Mod.role
  rw [Mod.n_modTwin, Mod.n_put_other _ _ (by decide) (by decide)]

/-- Enthroned: ACTIVE with the term and its leases, and told so. -/
theorem Mod.enthroned_shows (hr : m.role ≠ .active) : (m.enthroned term starts f).role = .active ∧ (m.enthroned term starts f).term = term
    ∧ (m.enthroned term starts f).told 0x7001 0 [roleNo m.role, 4, term] ∧ (m.enthroned term starts f).twin = f (m.crowned term starts).twin
    ∧ (m.enthroned term starts f).n 0x7080 7 = m.n 0x7080 7 := by
  have hterm : ((m.crowned term starts).modTwin f).term = term := by
    unfold Mod.crowned Mod.term
    rw [Mod.n_modTwin, Mod.n_modTwin, Mod.n_put _ _ _ _ (by decide)]
  have hrole : ((m.crowned term starts).modTwin f).role = m.role := m.role_crowned term starts
  have htold := Mod.setRole_told (m := (m.crowned term starts).modTwin f) (r := .active) (by rw [hrole]; exact hr)
  rw [hrole, hterm] at htold
  have hmoves := ((m.crowned term starts).modTwin f).roleMoves_setRole .active
  refine ⟨Mod.role_setRole _ _, hmoves.term.trans hterm, htold, Mod.setRole_twin _ _, (hmoves.n (by decide) (by decide) (by decide)).trans ?_⟩
  unfold Mod.crowned
  rw [Mod.n_modTwin, Mod.n_modTwin, Mod.n_put_other _ _ (by decide) (by decide)]

/-- The successor of a handover. -/
theorem Mod.succeeded_shows (hr : m.role ≠ .active) (B : Nat) (X : Nanos) (withRestart : Bool) :
    let a := m.succeeded term starts B X withRestart
    a.role = .active ∧ a.term = term ∧ a.told 0x7001 0 [roleNo m.role, 4, term] ∧ a.twin.launchUntil = none ∧ a.twin.renewed = starts
      ∧ a.twin.launchFrom = some (max X m.now) ∧ a.n 0x7040 0x0D = B ∧ (withRestart = true → a.told 0x700F 0 []) := by
  have hnow : (m.crowned term starts).now = m.now := (Mod.modTwin_now ..).trans (Mod.put_now ..)
  obtain ⟨hrole, hterm, htold, htwin, -⟩ := m.enthroned_shows term starts
    (fun t => { t with launchFrom := some (max X (m.crowned term starts).now), launchUntil := none, successor := none }) hr
  unfold Mod.succeeded
  rw [hnow] at *
  dsimp only
  generalize m.enthroned term starts _ = b at *
  have hput : (b.put 0x7040 0x0D B).role = .active ∧ (b.put 0x7040 0x0D B).term = term ∧ (b.put 0x7040 0x0D B).twin = b.twin
      ∧ (b.put 0x7040 0x0D B).n 0x7040 0x0D = B ∧ (b.put 0x7040 0x0D B).told 0x7001 0 [roleNo m.role, 4, term] := by
    refine ⟨(congrArg roleOf (Mod.n_put_other _ _ (by decide) (by decide))).trans hrole, (Mod.n_put_other _ _ (by decide) (by decide)).trans hterm,
      Mod.put_twin .., Mod.n_put _ _ _ _ (by decide), Mod.told_of_tells (Mod.tells_put Mod.tells_refl _ _ _) htold⟩
  generalize b.put 0x7040 0x0D B = c at hput ⊢
  obtain ⟨hrole, hterm, hsame, hB, htold⟩ := hput
  rw [htwin] at hsame
  split
  · have hmoves := c.roleMoves_newSequences B
    have hlaunch := c.newSequences_told B
    have htw := (c.newSequences_twin B).trans hsame
    rw [htw]
    exact ⟨(c.role_newSequences B).trans hrole, hmoves.term.trans hterm, Mod.told_of_tells hmoves.tells htold, rfl, rfl, rfl,
      (hmoves.n (by decide) (by decide) (by decide)).trans hB, fun _ => hlaunch⟩
  · next hn =>
    rw [hsame]
    exact ⟨hrole, hterm, htold, rfl, rfl, rfl, hB, fun h => absurd h hn⟩

/-- ACTIVE by its own ACQUIRE. -/
theorem Mod.ascended_shows (hr : m.role ≠ .active) (span : Nat) :
    let a := m.ascended term starts f span
    a.role = .active ∧ a.term = term ∧ a.told 0x7001 0 [roleNo m.role, 4, term] ∧ a.twin = f (m.crowned term starts).twin
      ∧ a.told 0x7005 0 [m.now, span] ∧ a.n 0x7040 0x0E = span ∧ a.n 0x7040 0x0D = m.tick ∧ a.n 0x7080 7 = (m.bump 0x7080 7).n 0x7080 7 := by
  obtain ⟨hrole, hterm, htold, htwin, h7⟩ := m.enthroned_shows term starts f hr
  have hnow : (m.enthroned term starts f).now = m.now :=
    (Mod.setRole_part (m := (m.crowned term starts).modTwin f) .active (p := .now) (by decide)).trans ((Mod.modTwin_now ..).trans ((Mod.modTwin_now ..).trans (Mod.put_now ..)))
  have htick : (m.enthroned term starts f).tick = m.tick :=
    (Mod.setRole_part (m := (m.crowned term starts).modTwin f) .active (p := .tick) (by decide)).trans ((Mod.modTwin_tick ..).trans ((Mod.modTwin_tick ..).trans (Mod.put_tick ..)))
  unfold Mod.ascended
  dsimp only
  generalize m.enthroned term starts f = b at *
  have hget {t : Nat} (h : t ≠ 0x0D ∧ t ≠ 0x0E) (ht : t < 256) : (((((b.put 0x7040 0x0D b.tick).put 0x7040 0x0E span).putMax 0x7080 0x0D span).bump 0x7080 7).raise 0x7005 0
      [(((b.put 0x7040 0x0D b.tick).put 0x7040 0x0E span).putMax 0x7080 0x0D span).now, span]).n 0x7040 t = b.n 0x7040 t := by
    unfold Mod.n
    rw [Mod.get_raise_frame _ _ _ _ (.inl (by omega)), Mod.get_bump_frame _ (by decide) (by omega), Mod.get_putMax_frame _ _ (by decide) (by omega),
      Mod.get_put_frame _ _ (by decide) (by omega), Mod.get_put_frame _ _ (by decide) (by omega)]
  refine ⟨(congrArg roleOf (hget (by decide) (by decide))).trans hrole, (hget (by decide) (by decide)).trans hterm, ?_, ?_, ?_, ?_, ?_, ?_⟩
  · exact Mod.told_of_tells (Mod.tells_raise _ _ _ (Mod.tells_bump (Mod.tells_of_part (Mod.putMax_part _ _ _ _ (by decide)) (Mod.tells_put (Mod.tells_put Mod.tells_refl _ _ _) _ _ _)) _ _)) htold
  · rw [Mod.raise_twin, Mod.bump_twin, Mod.putMax_twin, Mod.put_twin, Mod.put_twin, htwin]
  · rw [Mod.putMax_now, Mod.put_now, Mod.put_now, hnow]
    exact Mod.raise_told _ _ _ _
  · unfold Mod.n
    rw [Mod.get_raise_frame _ _ _ _ (.inl (by decide)), Mod.get_bump_frame _ (by decide) (by decide), Mod.get_putMax_frame _ _ (by decide) (by decide),
      Mod.get_put_same _ _ (by decide)]
    rfl
  · unfold Mod.n
    rw [Mod.get_raise_frame _ _ _ _ (.inl (by decide)), Mod.get_bump_frame _ (by decide) (by decide), Mod.get_putMax_frame _ _ (by decide) (by decide),
      Mod.get_put_frame _ _ (by decide) (by decide), Mod.get_put_same _ _ (by decide), htick]
    rfl
  · refine (Mod.n_raise _ _ _ _ (.inl (by decide))).trans (Mod.n_bump_congr (by decide) (.trans ?_ h7))
    unfold Mod.n
    rw [Mod.get_putMax_frame _ _ (by decide) (by decide), Mod.get_put_frame _ _ (by decide) (by decide), Mod.get_put_frame _ _ (by decide) (by decide)]

end

/-! ### Replies of witnesses -/

section
variable (m : Mod) (w : Nat) (x : KMsg)

/-- A reply is noted as taken. -/
def Mod.replyTaken (kind : Nat) : Mod := m.modTwin fun t => { t with replies := ((w, x.req, kind) :: t.replies).take 64 }

variable {m w x}

theorem Mod.fromWitness_pair {kind : Nat} {take : Mod → Mod} (h : m.fromPair w kind x) : m.fromWitness w kind x take = take (m.replyTaken w x kind) := by
  obtain ⟨hruns, hbad, hpair, hw, hnew⟩ := h
  unfold Mod.fromWitness
  rw [if_neg (by rw [hruns]; decide), if_neg (by rw [hbad, hw]; simp [hpair]), if_neg (by rw [hnew]; decide)]
  rfl

variable (m w x)

/-- When the request was sent that a reply of a witness answers. -/
def Mod.sentTo (req : Nat) : Option Nanos := (m.twin.outstanding.find? fun y => y.1 = req && y.2.1 = w).map (·.2.2)

/-- A grant held toward a quorum. -/
def Mod.grantHeld (m : Mod) (w : Nat) (x : KMsg) : List (Nat × Nat × Nanos) :=
  (m.twin.grants.filter fun y => y.1 ≠ w) ++ [(w, x.term, (m.sentTo w x.req).getD m.ctr)]

/-- The grants of one term. -/
def Mod.votes : List (Nat × Nat × Nanos) := (m.grantHeld w x).filter fun y => y.2.1 = x.term

/-- Whether a grant counts toward a quorum in a module that is not ACTIVE. -/
def Mod.grantCounts : Prop := m.role ≠ .notPaired ∧ (m.sentTo w x.req = none → m.twin.successor ≠ none)
  ∧ (m.sentTo w x.req ≠ none → m.role = .unsynced → m.flag 0x7000 9 = true)

theorem Mod.grantCounts_iff : ¬m.grantCounts w x ↔ (m.role = .notPaired ∨ (m.sentTo w x.req = none ∧ m.twin.successor = none)
    ∨ (m.sentTo w x.req ≠ none ∧ m.role = .unsynced ∧ m.flag 0x7000 9 = false)) := by
  unfold Mod.grantCounts
  rw [← Bool.not_eq_true]
  tauto

/-- A renewal of the ACTIVE's lease. -/
def Mod.grantRenewal (sent : Nanos) : Mod :=
  let m := m.modTwin fun s =>
    { s with
      renewed := (s.renewed.filter fun (y : Nat × Nanos) => y.1 ≠ w) ++ [(w, sent)],
      outstanding := s.outstanding.filter fun (y : Nat × Nat × Nanos) => !(y.1 = x.req && y.2.1 = w) }
  (m.putMax 0x7080 0x0E ((m.ctr : Int) - sent)).modTwin fun s =>
    { s with viaPartner := s.viaPartner && (match m.quorumStart with
      | none => true
      | some q => q + m.lease < m.ctr + 200000) }

/-- The grant that completes a quorum. -/
def Mod.grantQuorum : Mod :=
  let a := m.modTwin fun s => { s with grants := m.grantHeld w x }
  let a := if m.sentTo w x.req = none then a else a.modTwin fun s => { s with successor := none }
  a.becomeActive x.term ((m.votes w x).map fun y => (y.1, y.2.2))

variable {m w x} {b : Mod} (h : m.fromPair w 0x11 x) (hb : b = m.replyTaken w x 0x11)
include h hb

theorem Mod.takeGrant_other (hsub : x.subject ≠ b.fuse) : m.takeGrant w x = b := by
  unfold Mod.takeGrant
  rw [Mod.fromWitness_pair h, ← hb]
  exact if_pos hsub

theorem Mod.takeGrant_idleActive (hsub : x.subject = b.fuse) (hr : b.role = .active) (hn : b.sentTo w x.req = none ∨ x.term ≠ b.term) :
    m.takeGrant w x = b := by
  unfold Mod.takeGrant
  rw [Mod.fromWitness_pair h, ← hb]
  dsimp only
  rw [if_neg (not_not_intro hsub), if_pos hr]
  split
  · rfl
  · next hs => exact if_pos (hn.resolve_left fun hs' => absurd (hs.symm.trans hs') (by simp))

theorem Mod.takeGrant_renews (hsub : x.subject = b.fuse) (hr : b.role = .active) {sent : Nanos} (hs : b.sentTo w x.req = some sent) (ht : x.term = b.term) :
    m.takeGrant w x = b.grantRenewal w x sent := by
  unfold Mod.takeGrant
  rw [Mod.fromWitness_pair h, ← hb]
  dsimp only
  rw [if_neg (not_not_intro hsub), if_pos hr]
  split
  · next hs' => exact absurd (hs.symm.trans hs') (by simp)
  · next t hs' =>
    obtain rfl : sent = t := Option.some.inj (hs.symm.trans hs')
    rw [if_neg (not_not_intro ht)]
    rfl

theorem Mod.takeGrant_idle (hsub : x.subject = b.fuse) (hr : b.role ≠ .active) (hn : ¬b.grantCounts w x) : m.takeGrant w x = b := by
  unfold Mod.takeGrant
  rw [Mod.fromWitness_pair h, ← hb]
  dsimp only
  rw [if_neg (not_not_intro hsub), if_neg hr, if_pos]
  have hn := (b.grantCounts_iff w x).mp hn
  unfold Mod.sentTo at hn
  simp only [Bool.or_eq_true, decide_eq_true_eq]
  refine hn.imp_right fun h => ?_
  split
  · next hs => exact decide_eq_true (h.resolve_right fun h' => h'.1 hs).2
  · next hs => simpa using (h.resolve_left fun h' => hs h'.1).2

theorem Mod.takeGrant_counts (hsub : x.subject = b.fuse) (hr : b.role ≠ .active) (hc : b.grantCounts w x) : m.takeGrant w x
    = if b.quorum ≤ (b.votes w x).length then b.grantQuorum w x else b.modTwin fun s => { s with grants := b.grantHeld w x } := by
  unfold Mod.takeGrant
  rw [Mod.fromWitness_pair h, ← hb]
  dsimp only
  rw [if_neg (not_not_intro hsub), if_neg hr, if_neg]
  · rfl
  · obtain ⟨hp, hs, hu⟩ := hc
    unfold Mod.sentTo at hs hu
    simp only [Bool.or_eq_true, decide_eq_true_eq, not_or]
    refine ⟨hp, ?_⟩
    split
    · next h => exact fun h' => hs h (of_decide_eq_true h')
    · next h => simpa using hu h

end

section
variable {m : Mod} {w : Nat} {x : KMsg}

theorem Mod.votes_length (m : Mod) (w : Nat) (x : KMsg) :
    (m.votes w x).length = (m.twin.grants.filter fun y => y.1 ≠ w && y.2.1 = x.term).length + 1 := by
  unfold Mod.votes Mod.grantHeld
  rw [List.filter_append, List.filter_filter, List.length_append]
  simp [Bool.and_comm]

/-- A lease renewed. -/
theorem Mod.grantRenewal_shows (m : Mod) (w : Nat) (x : KMsg) (sent : Nanos) : (w, sent) ∈ (m.grantRenewal w x sent).twin.renewed
    ∧ (m.grantRenewal w x sent).role = m.role ∧ ∀ y ∈ (m.grantRenewal w x sent).twin.outstanding, y.1 = x.req → y.2.1 ≠ w := by
  unfold Mod.grantRenewal
  dsimp only
  rw [Mod.twin_modTwin, Mod.putMax_twin, Mod.twin_modTwin]
  refine ⟨List.mem_append_right _ (List.mem_singleton_self _), ?_, fun y hy h1 h2 => ?_⟩
  · refine Mod.role_of_get ?_
    rw [Mod.get_modTwin, Mod.get_putMax_frame _ _ (by decide) (by decide), Mod.get_modTwin]
  · have := (List.mem_filter.mp hy).2
    simp [h1, h2] at this

/-- A quorum makes the module ACTIVE. -/
theorem Mod.grantQuorum_shows (m : Mod) (w : Nat) (x : KMsg) (hr : m.role ≠ .active) (hc : m.grantCounts w x) :
    let a := m.grantQuorum w x
    a.role = .active ∧ a.term = x.term ∧ a.twin.launchUntil = none ∧ (w, (m.sentTo w x.req).getD m.ctr) ∈ a.twin.renewed
      ∧ a.told 0x7001 0 [roleNo m.role, 4, x.term]
      ∧ (m.sentTo w x.req ≠ none → a.twin.launchFrom = some m.now ∧ a.told 0x7005 0 [m.now, m.darkFor] ∧ a.n 0x7040 0x0E = m.darkFor
        ∧ a.n 0x7040 0x0D = m.tick ∧ a.n 0x7080 7 = (m.bump 0x7080 7).n 0x7080 7 ∧ (m.role = .unsynced → a.told 0x700F 0 []))
      ∧ ∀ (B : Nat) (X : Nanos) (withRestart : Bool), m.sentTo w x.req = none → m.twin.successor = some (B, X, withRestart) →
        a.twin.launchFrom = some (max X m.now) ∧ a.n 0x7040 0x0D = B ∧ (withRestart = true → a.told 0x700F 0 []) := by
  have hown : (w, (m.sentTo w x.req).getD m.ctr) ∈ (m.votes w x).map fun y => (y.1, y.2.2) := by
    refine List.mem_map.mpr ⟨(w, x.term, (m.sentTo w x.req).getD m.ctr), List.mem_filter.mpr ⟨?_, decide_eq_true rfl⟩, rfl⟩
    exact List.mem_append_right _ (List.mem_singleton_self _)
  unfold Mod.grantQuorum
  dsimp only
  generalize (m.votes w x).map (fun y => (y.1, y.2.2)) = starts at hown ⊢
  by_cases hs : m.sentTo w x.req = none
  · rw [if_pos hs]
    obtain ⟨⟨B, X, withRestart⟩, hsucc⟩ := Option.ne_none_iff_exists'.mp (hc.2.1 hs)
    obtain ⟨hrole, hterm, htold, huntil, hstarts, hfrom, hB, hnew⟩ :=
      (m.modTwin fun s => { s with grants := m.grantHeld w x }).succeeded_shows x.term starts hr B X withRestart
    rw [Mod.becomeActive_successor (m := m.modTwin fun s => { s with grants := m.grantHeld w x }) (by exact hsucc)]
    generalize (m.modTwin fun s => { s with grants := m.grantHeld w x }).succeeded x.term starts B X withRestart = b at *
    obtain ⟨o, r, hlink⟩ := b.sendPlacement_onLink
    rw [hlink]
    refine ⟨hrole, hterm, huntil, (congrArg (_ ∈ ·) hstarts).mpr hown, htold, fun h => absurd hs h, fun B' X' withRestart' _ h => ?_⟩
    obtain ⟨rfl, rfl, rfl⟩ : B = B' ∧ X = X' ∧ withRestart = withRestart' := by simpa using hsucc.symm.trans h
    exact ⟨hfrom, hB, hnew⟩
  · rw [if_neg hs]
    generalize ha : (m.modTwin fun s => { s with grants := m.grantHeld w x }).modTwin (fun s => { s with successor := none }) = a
    have hsame : a.role = m.role ∧ a.now = m.now ∧ a.tick = m.tick ∧ a.n 0x7080 7 = m.n 0x7080 7 ∧ a.twin.sync = m.twin.sync
        ∧ a.rends = m.rends ∧ a.twin.successor = none := by rw [← ha]; exact ⟨rfl, rfl, rfl, rfl, rfl, rfl, rfl⟩
    obtain ⟨hrl, hnow, htick, h7, hsync, hrends, hsucc⟩ := hsame
    have hdark : (a.crowned x.term starts).darkFor = m.darkFor := by
      have hcr : (a.crowned x.term starts).twin.sync = a.twin.sync ∧ (a.crowned x.term starts).rends = a.rends
          ∧ (a.crowned x.term starts).now = a.now := by
        unfold Mod.crowned
        rw [Mod.twin_modTwin, Mod.put_twin, Mod.modTwin_rends, Mod.put_rends, Mod.modTwin_now, Mod.put_now]
        exact ⟨rfl, rfl, rfl⟩
      obtain ⟨h1, h2, h3⟩ := hcr
      unfold Mod.darkFor
      rw [m.lastConfirmed_congr (h1.trans hsync) (h2.trans hrends), h3, hnow]
    have hcnow : (a.crowned x.term starts).now = m.now := ((Mod.modTwin_now ..).trans (Mod.put_now ..)).trans hnow
    have hcounts : (a.bump 0x7080 7).n 0x7080 7 = (m.bump 0x7080 7).n 0x7080 7 := Mod.n_bump_congr (by decide) h7
    obtain ⟨hrole, hterm, htold, htwin, h7005, hE, hD, hn7⟩ := a.ascended_shows x.term starts
      (a.crowned x.term starts).launchesNow (hrl ▸ hr) (a.crowned x.term starts).darkFor
    rw [Mod.becomeActive_acquired hsucc]
    rw [hdark, hrl, hnow, htick, hcounts] at *
    generalize a.ascended x.term starts (a.crowned x.term starts).launchesNow m.darkFor = b at *
    have hre : (b.resequenced (m.role = .unsynced)).role = .active ∧ (b.resequenced (m.role = .unsynced)).twin = b.twin
        ∧ b.roleMoves (b.resequenced (m.role = .unsynced)) ∧ (m.role = .unsynced → (b.resequenced (m.role = .unsynced)).told 0x700F 0 []) := by
      unfold Mod.resequenced
      split
      · exact ⟨(b.role_newSequences _).trans hrole, b.newSequences_twin _, b.roleMoves_newSequences _, fun _ => b.newSequences_told _⟩
      · next hn => exact ⟨hrole, rfl, Mod.roleMoves_refl, fun h => absurd h hn⟩
    generalize b.resequenced (m.role = .unsynced) = c at hre
    obtain ⟨hrole', htwin', hmoves, hnew⟩ := hre
    obtain ⟨o, r, hlink⟩ := c.sendPlacement_onLink
    have htw : c.twin = (a.crowned x.term starts).launchesNow (a.crowned x.term starts).twin := htwin'.trans htwin
    have hfrom : c.twin.launchFrom = some m.now := by rw [htw, ← hcnow]; rfl
    have huntil : c.twin.launchUntil = none := by rw [htw]; rfl
    have hstarts : c.twin.renewed = starts := by rw [htw]; rfl
    rw [hlink]
    refine ⟨hrole', hmoves.term.trans hterm, huntil, (congrArg (_ ∈ ·) hstarts).mpr hown, Mod.told_of_tells hmoves.tells htold,
      fun _ => ⟨hfrom, Mod.told_of_tells hmoves.tells h7005, ?_, ?_, ?_, hnew⟩, fun _ _ _ h => absurd h hs⟩
    · exact (hmoves.n (by decide) (by decide) (by decide)).trans hE
    · exact (hmoves.n (by decide) (by decide) (by decide)).trans hD
    · exact (hmoves.n (by decide) (by decide) (by decide)).trans hn7

end

/-! ### Countersigning -/

section
variable (m : Mod)

/-- Whether the module has lately sent ACQUIRE. -/
def Mod.acquiredLately : Bool := match m.twin.acquireAt with
  | none => false
  | some t => m.ctr < t + m.lease + guardTime + 100000

theorem Mod.acquiredLately_iff : m.acquiredLately = false ↔ ∀ a, m.twin.acquireAt = some a → a + m.lease + guardTime + 100000 ≤ m.ctr := by
  unfold Mod.acquiredLately
  cases m.twin.acquireAt with
  | none => exact ⟨fun _ _ h => (Option.some_ne_none _ h.symm).elim, fun _ => rfl⟩
  | some a =>
    constructor
    · rintro h b hb
      obtain rfl := Option.some.inj hb
      exact Nat.not_lt.mp (of_decide_eq_false h)
    · exact fun h => decide_eq_false (Nat.not_lt.mpr (h a rfl))

/-- A countersign is sent. -/
def Mod.countersigns (term req : Nat) : Mod :=
  (m.modTwin fun t => { t with countersignHold := m.ctr + m.lease + guardTime }).mortarSend 0 20 fun seq =>
    .mortarCountersign seq term req m.lease

theorem Mod.takeCountersignRequest_eq {h : MortarHdr} (term req : Nat) (hi : m.inOrder h 0) : m.takeCountersignRequest h term req
    = if (m.role = .standby ∨ m.role = .unsynced) ∧ m.acquiredLately = false ∧ m.coreCoasts = false
      then (m.taken h 0).countersigns term req else m.taken h 0 := by
  have hcond (a : Mod) : ((a.role = .standby || a.role = .unsynced) && !a.acquiredLately && !a.coreCoasts) = true
      ↔ (a.role = .standby ∨ a.role = .unsynced) ∧ a.acquiredLately = false ∧ a.coreCoasts = false := by
    simp [and_assoc]
  have heq (a : Mod) : (if ((a.role = .standby || a.role = .unsynced) && !a.acquiredLately && !a.coreCoasts) = true then a.countersigns term req else a)
      = if (a.role = .standby ∨ a.role = .unsynced) ∧ a.acquiredLately = false ∧ a.coreCoasts = false then a.countersigns term req else a := by
    simp only [hcond]
  unfold Mod.takeCountersignRequest
  rw [Mod.sequenced_inOrder hi]
  obtain ⟨o, r, htaken, -⟩ := m.taken_onLink h 0
  rw [htaken]
  exact heq (m.onLink o r)

theorem Mod.countersigns_shows (term req : Nat) (hl : m.linkUp = true) : (m.countersigns term req).twin.countersignHold = m.ctr + m.lease + guardTime
    ∧ (m.countersigns term req).mortared (.mortarCountersign (nth m.twin.mortar.sendSeq 0) term req m.lease) := by
  unfold Mod.countersigns
  refine ⟨?_, Mod.mortarSend_mortared _ _ _ hl⟩
  rw [Mod.mortarSend_onLink]
  rfl

/-- A countersign has come for a request sent at `sent`. -/
def Mod.countersigned (sent : Nanos) : Mod :=
  let began := !m.twin.viaPartner
  let m := (m.modTwin fun t => { t with countersigned := some sent, viaPartner := true }).bump 0x7080 0x0A
  if began then m.raise 0x700C 0 [] else m

variable {m} {h : MortarHdr} {term req : Nat}

theorem Mod.takeCountersign_idle (hi : m.inOrder h 0) (hn : m.sentTo 3 req = none ∨ m.role ≠ .active ∨ term ≠ m.term) :
    m.takeCountersign h term req = m.taken h 0 := by
  obtain ⟨o, r, htaken, -⟩ := m.taken_onLink h 0
  unfold Mod.takeCountersign
  rw [Mod.sequenced_inOrder hi, htaken]
  dsimp only
  split
  · rfl
  · next x hx =>
    have hsent : m.sentTo 3 req = some x.2.2 := congrArg (Option.map fun y : Nat × Nat × Nanos => y.2.2) hx
    have hn : m.role ≠ .active ∨ term ≠ m.term := hn.resolve_left fun hs => absurd (hsent.symm.trans hs) (by simp)
    have hn : (m.onLink o r).role ≠ .active ∨ term ≠ (m.onLink o r).term := hn
    exact if_pos (by simpa using hn)

theorem Mod.takeCountersign_asked (hi : m.inOrder h 0) {sent : Nanos} (hs : m.sentTo 3 req = some sent) (hr : m.role = .active) (ht : term = m.term) :
    m.takeCountersign h term req = (m.taken h 0).countersigned sent := by
  obtain ⟨o, r, htaken, -⟩ := m.taken_onLink h 0
  unfold Mod.takeCountersign
  rw [Mod.sequenced_inOrder hi, htaken]
  dsimp only
  split
  · next hx =>
    have hsent : m.sentTo 3 req = none := congrArg (Option.map fun y : Nat × Nat × Nanos => y.2.2) hx
    exact absurd (hsent.symm.trans hs) (by simp)
  · next x hx =>
    have hsent : m.sentTo 3 req = some x.2.2 := congrArg (Option.map fun y : Nat × Nat × Nanos => y.2.2) hx
    obtain rfl : x.2.2 = sent := Option.some.inj (hsent.symm.trans hs)
    have hn : (m.onLink o r).role = .active ∧ term = (m.onLink o r).term := ⟨hr, ht⟩
    exact if_neg (by simpa using hn)

theorem Mod.countersigned_shows (m : Mod) (sent : Nanos) : (m.countersigned sent).twin.countersigned = some sent
    ∧ (m.countersigned sent).twin.viaPartner = true ∧ (m.countersigned sent).n 0x7080 0x0A = (m.bump 0x7080 0x0A).n 0x7080 0x0A
    ∧ (m.twin.viaPartner = false → (m.countersigned sent).told 0x700C 0 [])
    ∧ (m.twin.viaPartner = true → (m.countersigned sent).raised = m.raised) := by
  have hbump : ((m.modTwin fun t => { t with countersigned := some sent, viaPartner := true }).bump 0x7080 0x0A).n 0x7080 0x0A
      = (m.bump 0x7080 0x0A).n 0x7080 0x0A := Mod.n_bump_congr (by decide) rfl
  have htwin : ((m.modTwin fun t => { t with countersigned := some sent, viaPartner := true }).bump 0x7080 0x0A).twin
      = { m.twin with countersigned := some sent, viaPartner := true } := by rw [Mod.bump_twin, Mod.twin_modTwin]
  have hraised : ((m.modTwin fun t => { t with countersigned := some sent, viaPartner := true }).bump 0x7080 0x0A).raised = m.raised :=
    (Mod.bump_raised ..).trans (Mod.modTwin_raised ..)
  unfold Mod.countersigned
  dsimp only
  generalize (m.modTwin fun t => { t with countersigned := some sent, viaPartner := true }).bump 0x7080 0x0A = a at *
  obtain hv | hv := Bool.eq_false_or_eq_true m.twin.viaPartner
  · rw [if_neg (by rw [hv]; decide), htwin]
    exact ⟨rfl, rfl, hbump, fun h => absurd (hv.symm.trans h) (by decide), fun _ => hraised⟩
  · rw [if_pos (by rw [hv]; rfl), Mod.raise_twin, htwin]
    exact ⟨rfl, rfl, (Mod.n_raise _ _ _ _ (.inl (by decide))).trans hbump, fun _ => Mod.raise_told _ _ _ _, fun h => absurd (hv.symm.trans h) (by decide)⟩

end

/-- Settles O36: a reply by its witness, its request and the role; a countersign by what was asked. -/
theorem grantsMakeTheActive : Obligations.GrantsMakeTheActive := by
  unfold Obligations.GrantsMakeTheActive
  intro s t w x hdr hs m sent votes span nothing
  have hgrant {m' : Mod} (heq : m.takeGrant w.val x = m') {P : Mod → Prop} (hP : P m') (hp : ∀ m, P m → P { m with rebooting := false }) :
      Completes (.grant t w x) s P := completes_act (g := fun m => m.takeGrant w.val x) rfl hs (by rw [heq]; exact hP) hp
  refine ⟨fun hp => ⟨fun hsub => ?_, fun hsub hr => ⟨fun hn => ?_, fun a ha ht => ?_⟩, fun hsub hr => ?_⟩, fun hp => ?_,
    fun hp => ⟨fun hn => ?_, fun y hy => ?_⟩, fun term req hi => ?_, fun term req lease hi => ?_⟩
  · exact hgrant (Mod.takeGrant_other hp rfl hsub) ⟨rfl, rfl, rfl, rfl, rfl⟩ fun _ h => h
  · exact hgrant (Mod.takeGrant_idleActive hp rfl hsub hr hn) ⟨rfl, rfl, rfl, rfl, rfl⟩ fun _ h => h
  · obtain ⟨hrenewed, hrole, hdone⟩ := (m.replyTaken w.val x 0x11).grantRenewal_shows w.val x a
    exact hgrant (Mod.takeGrant_renews hp rfl hsub hr ha ht) ⟨hrenewed, hrole.trans hr, hdone⟩ fun _ h => h
  · intro counts
    have hvotes : ((m.replyTaken w.val x 0x11).votes w.val x).length = votes := Mod.votes_length _ _ _
    refine ⟨fun hn => ?_, fun hc hlt => ?_, fun hc hle => ?_⟩
    · exact hgrant (Mod.takeGrant_idle hp rfl hsub hr hn) ⟨rfl, rfl, rfl, rfl, rfl⟩ fun _ h => h
    · have heq := (Mod.takeGrant_counts hp rfl hsub hr hc).trans (if_neg (by rw [hvotes]; exact Nat.not_le.mpr hlt))
      exact hgrant heq ⟨rfl, rfl, List.mem_append_right _ (List.mem_singleton_self _)⟩ fun _ h => h
    · have heq := (Mod.takeGrant_counts hp rfl hsub hr hc).trans (if_pos (by rw [hvotes]; exact hle))
      exact hgrant heq ((m.replyTaken w.val x 0x11).grantQuorum_shows w.val x hr hc) fun _ h => h
  · have heq : m.takeRefuse w.val x = if x.result = 6 then (m.replyTaken w.val x 0x12).raiseLimited 0x7013 w.val second [w.val, m.lease]
        else m.replyTaken w.val x 0x12 := Mod.fromWitness_pair hp
    refine completes_act (g := fun m => m.takeRefuse w.val x) rfl hs ?_ fun _ h => h
    show (m.takeRefuse w.val x).role = m.role ∧ (_ → _ → (m.takeRefuse w.val x).told 0x7013 w.val _) ∧ (_ → (m.takeRefuse w.val x).raised = m.raised)
    rw [heq]
    split
    · next h6 =>
      refine ⟨Mod.role_of_get (Mod.get_raiseLimited_frame _ _ _ _ _ (.inl (by decide))), fun _ hl => ?_, fun h => absurd h6 h⟩
      exact Mod.raiseLimited_told _ second [w.val, m.lease] hl
    · next h6 => exact ⟨rfl, fun h => absurd h h6, fun _ => rfl⟩
  · have heq : m.takeReleased w.val x = (m.replyTaken w.val x 0x13).modTwin fun t => { t with handover := t.handover.map fun (y : HandoverS) =>
        { y with released := (y.released.filter fun (z : Nat) => z ≠ w.val) ++ [w.val] } } := Mod.fromWitness_pair hp
    refine completes_act (g := fun m => m.takeReleased w.val x) rfl hs ?_ fun _ h => h
    show nothing (m.takeReleased w.val x)
    rw [heq]
    exact ⟨rfl, rfl, rfl, rfl, rfl⟩
  · have heq : m.takeReleased w.val x = (m.replyTaken w.val x 0x13).modTwin fun t => { t with handover := t.handover.map fun (y : HandoverS) =>
        { y with released := (y.released.filter fun (z : Nat) => z ≠ w.val) ++ [w.val] } } := Mod.fromWitness_pair hp
    have hnew : (m.takeReleased w.val x).twin.handover = some { y with released := (y.released.filter fun (z : Nat) => z ≠ w.val) ++ [w.val] } := by
      rw [heq, Mod.twin_modTwin]
      exact congrArg (Option.map _) hy
    refine completes_act (g := fun m => m.takeReleased w.val x) rfl hs ?_ fun _ h => h
    refine ⟨_, hnew, List.mem_append_right _ (List.mem_singleton_self _), fun v hv => ?_, rfl, rfl⟩
    by_cases h : v = w.val
    · exact List.mem_append_right _ (List.mem_singleton.mpr h)
    · exact List.mem_append_left _ (List.mem_filter.mpr ⟨hv, decide_eq_true h⟩)
  · intro signs
    have hiff : (m.role = .standby ∨ m.role = .unsynced) ∧ m.acquiredLately = false ∧ m.coreCoasts = false ↔ signs := by
      rw [m.acquiredLately_iff]
      exact and_congr_right fun _ => and_comm
    have heq := m.takeCountersignRequest_eq term req hi
    obtain ⟨o, r, htaken, hsend⟩ := m.taken_onLink hdr 0
    rw [htaken] at heq ⊢
    refine ⟨fun hsign => ?_, fun hn => ?_⟩
    · obtain ⟨hhold, hsent⟩ := (m.onLink o r).countersigns_shows term req hi.2.1
      rw [← heq.trans (if_pos (hiff.mpr hsign))] at hhold hsent
      rw [← hsend]
      exact completes_act (g := fun m => m.takeCountersignRequest hdr term req) rfl hs ⟨hhold, hsent⟩ fun _ h => h
    · exact does_act (g := fun m => m.takeCountersignRequest hdr term req) hs rfl (heq.trans (if_neg fun h => hn (hiff.mp h))) hs.2
  · obtain ⟨o, r, htaken, -⟩ := m.taken_onLink hdr 0
    refine ⟨fun hn => ?_, fun a ha hr ht => ?_⟩
    · refine does_act (g := fun m => m.takeCountersign hdr term req) hs rfl (Mod.takeCountersign_idle hi hn) ?_
      rw [htaken]
      exact hs.2
    · have heq := Mod.takeCountersign_asked hi ha hr ht
      rw [htaken] at heq
      obtain ⟨h1, h2, h3, h4, h5⟩ := (m.onLink o r).countersigned_shows a
      rw [← heq] at h1 h2 h3 h4 h5
      exact completes_act (g := fun m => m.takeCountersign hdr term req) rfl hs ⟨h1, h2, h3, h4, h5⟩ fun _ h => h

end Sys2Proof.Machine
end

section
/-! SUPPORT. Course records: sent by the ACTIVE, compared by its partner (R221-R223, R227, R228). -/

namespace Sys2Proof.Machine

/-! ### What taps and adoption leave of the objects -/

section
variable {m : Mod} {j t : Nat}

theorem Mod.get_latch (m : Mod) {k : Nat} (hk : k < 16) (result tick : Nat) (hj : j < 0x7400) (ht : t < 256) : (m.latch k result tick).get j t = m.get j t := by
  have hshown : (((m.put (0x7480 + k) 2 result).put (0x7480 + k) 3 tick).bump (0x7480 + k) 4).get j t = m.get j t := by
    rw [Mod.get_bump_frame _ (by omega) (by omega), Mod.get_put_frame _ _ (by omega) (by omega), Mod.get_put_frame _ _ (by omega) (by omega)]
  unfold Mod.latch
  dsimp only
  split
  · rw [Mod.get_raiseLimited_frame _ _ _ _ _ (by omega), Mod.get_put_frame _ _ (by omega) (by omega), Mod.get_bump_frame _ (by omega) (by omega), hshown]
  · exact hshown

theorem Mod.get_snoop (m : Mod) (point sel sub : Nat) (bytes : Unit → Octets) (x : Span) (courseTick frameTick : Nat) (hj : j < 0x7400) (ht : t < 256) :
    (m.snoop point sel sub bytes x courseTick frameTick).get j t = m.get j t := by
  unfold Mod.snoop
  refine Mod.get_each fun m k hk => ?_
  have hlt : k < 16 := List.mem_range.mp (List.mem_filter.mp hk).1
  have hmod (f : CheckS → CheckS) : (m.modCheck k f).get j t = m.get j t := rfl
  unfold Mod.snoopOne
  dsimp only
  generalize (if x.begins (m.n (0x7440 + k) 4) = true then _ else _) = c
  split
  · rfl
  · split
    · rw [Mod.get_latch _ hlt _ _ hj ht, Mod.get_put_frame _ _ (by omega) (by omega), hmod]
    · rw [Mod.get_put_frame _ _ (by omega) (by omega), hmod]

theorem Mod.get_snoopRecord (m : Mod) (x : CourseRecord) (hj : j < 0x7400) (ht : t < 256) : (m.snoopRecord x).get j t = m.get j t := by
  unfold Mod.snoopRecord
  dsimp only
  rw [Mod.get_snoop _ _ _ _ _ _ _ _ hj ht]

theorem Mod.get_settleNext (m : Mod) (r : Nat) (p : PicS) (hr : r < 128) (hj : j < 0x5480 ∨ 0x5980 ≤ j) (ht : t < 256) :
    (m.settleNext r p).get j t = m.get j t := by
  have hpic (m : Mod) (r frame : Nat) (f : PicS → PicS) : (m.modPic r frame f).get j t = m.get j t := rfl
  unfold Mod.settleNext
  dsimp only
  split
  · rfl
  · split
    · rfl
    · rw [Mod.get_put_frame _ _ (by omega) (by omega), hpic]

theorem Mod.get_adoptSdp (m : Mod) (r version : Nat) (hr : r < 128) (hj : j < 0x5480 ∨ 0x5980 ≤ j) (ht : t < 256) :
    (m.adoptSdp r version).get j t = m.get j t := by
  unfold Mod.adoptSdp
  split
  · rfl
  · rw [Mod.get_putB_frame _ _ (by omega) (by omega), Mod.get_put_frame _ _ (by omega) (by omega)]

/-- Adoption changes only what a rendition shows of its rate control and tables. -/
theorem Mod.get_adopt (m : Mod) (x : CourseRecord) (own : Option CourseRecord) (hj : j < 0x5480 ∨ 0x5980 ≤ j) (ht : t < 256) :
    (m.adopt x own).get j t = m.get j t := by
  have hr := x.rendition.isLt
  have hgroup (m : Mod) (c : Prop) [Decidable c] (g : Nat) (f : GroupS → GroupS) : (if c then m.modGroup g f else m).get j t = m.get j t := by
    split <;> rfl
  have hrend (m : Mod) (r : Nat) (f : RendS → RendS) : (m.modRend r f).get j t = m.get j t := rfl
  unfold Mod.adopt
  dsimp only
  split
  · rfl
  · split
    · rfl
    · rw [Mod.get_adoptSdp _ _ _ hr hj ht, Mod.get_put_frame _ _ (by omega) (by omega), Mod.get_put_frame _ _ (by omega) (by omega), hgroup,
        Mod.get_settleNext _ _ _ hr hj ht, hrend]

end

/-! ### A record that differs, a record that matches -/

section
variable (m : Mod) (x : CourseRecord)

theorem Mod.syncOf_setSync_of (r : Nat) (s : RendSync) (h : s.rend = r) : (m.setSync s).syncOf r = s := by
  rw [← h]
  exact m.syncOf_setSync s

/-- A mismatch counted, shown and told. -/
def Mod.mismatchTold (diff : Nat) : Mod :=
  ((m.bump 0x7080 4).markUnsynced x.rendition.val true).raiseCond 0x7002 x.rendition.val [x.rendition.val, x.tick, diff]

theorem Mod.mismatch_eq (diff : Nat) : ∃ repair, m.mismatch x diff = (
    let s : RendSync := { m.syncOf x.rendition.val with mismatch := true, matches_ := 0, after := 0, inSync := false, repair := repair }
    if ((m.mismatchTold x diff).setSync s).role = .standby then ((m.mismatchTold x diff).setSync s).setRole .unsynced
    else (m.mismatchTold x diff).setSync s) := ⟨_, rfl⟩

theorem Mod.mismatchTold_shows (diff : Nat) : (∀ t, t < 256 → (m.mismatchTold x diff).n 0x7040 t = m.n 0x7040 t)
    ∧ (m.mismatchTold x diff).twin = m.twin ∧ (m.mismatchTold x diff).n 0x7080 2 = m.n 0x7080 2
    ∧ (m.mismatchTold x diff).n 0x7080 4 = (m.bump 0x7080 4).n 0x7080 4
    ∧ ((m.mismatchTold x diff).n 0x7041 (1 + x.rendition.val / 32)).testBit (x.rendition.val % 32) = true
    ∧ (m.condSet 0x7002 x.rendition.val = false →
      (m.mismatchTold x diff).told 0x7002 x.rendition.val [x.rendition.val, x.tick, diff]) := by
  have hr := x.rendition.isLt
  have hcond : ((m.bump 0x7080 4).markUnsynced x.rendition.val true).conds = m.conds := (Mod.put_conds ..).trans (Mod.bump_conds ..)
  have hget {j t : Nat} (hj : j < 0x7400) (ht : t < 256) : (m.mismatchTold x diff).n j t = ((m.bump 0x7080 4).markUnsynced x.rendition.val true).n j t :=
    congrArg Val.nat (Mod.get_raiseCond_frame _ _ _ _ (by omega))
  have hmark {j t : Nat} (h : j ≠ 0x7041) (ht : t < 256) : ((m.bump 0x7080 4).markUnsynced x.rendition.val true).n j t = (m.bump 0x7080 4).n j t :=
    Mod.n_put_other _ _ (by omega) (by omega)
  refine ⟨fun t ht => ?_, ?_, ?_, ?_, ?_, fun hc => Mod.raiseCond_told _ ((Mod.condSet_of_conds hcond).trans hc) _⟩
  · rw [hget (by decide) ht, hmark (by decide) ht]
    exact congrArg Val.nat (Mod.get_bump_frame _ (by decide) (by omega))
  · exact (Mod.raiseCond_twin ..).trans ((Mod.put_twin ..).trans (Mod.bump_twin ..))
  · rw [hget (by decide) (by decide), hmark (by decide) (by decide)]
    exact congrArg Val.nat (Mod.get_bump_frame _ (by decide) (by decide))
  · rw [hget (by decide) (by decide), hmark (by decide) (by decide)]
  · rw [hget (by decide) (by omega)]
    unfold Mod.markUnsynced Mod.putBit
    rw [Mod.n_put _ _ _ _ (by omega)]
    exact testBit_setBit _ _ _

/-- A record that differs from the module's own. -/
theorem Mod.mismatch_shows (diff : Nat) (hr : m.role = .standby ∨ m.role = .unsynced) :
    let a := m.mismatch x diff
    let r := x.rendition.val
    a.role = .unsynced ∧ (a.syncOf r).inSync = false ∧ (a.syncOf r).lastTick = (m.syncOf r).lastTick ∧ (a.syncOf r).confirm = (m.syncOf r).confirm
      ∧ a.twin.missingSince = m.twin.missingSince ∧ a.n 0x7080 2 = m.n 0x7080 2 ∧ a.n 0x7080 4 = (m.bump 0x7080 4).n 0x7080 4
      ∧ (a.n 0x7041 (1 + r / 32)).testBit (r % 32) = true ∧ (m.role = .standby → a.told 0x7001 0 [3, 2, m.term])
      ∧ (m.condSet 0x7002 r = false → a.told 0x7002 r [r, x.tick, diff]) := by
  intro a r
  have hlt : r < 128 := x.rendition.isLt
  obtain ⟨repair, heq⟩ := m.mismatch_eq x diff
  obtain ⟨hrole, htwin, h2, h4, hbit, htold⟩ := m.mismatchTold_shows x diff
  have ha : a = m.mismatch x diff := rfl
  rw [heq] at ha
  dsimp only at ha
  generalize m.mismatchTold x diff = b at *
  generalize hs : ({ m.syncOf x.rendition.val with mismatch := true, matches_ := 0, after := 0, inSync := false, repair := repair } : RendSync) = s at ha
  have hsync : (b.setSync s).syncOf r = s := b.syncOf_setSync_of r s (by rw [← hs]; exact m.rend_syncOf r)
  have hbrole : (b.setSync s).role = m.role := congrArg roleOf (hrole 1 (by decide))
  have hterm : (b.setSync s).term = m.term := hrole 3 (by decide)
  have hmoves : (b.setSync s).roleMoves a ∧ a.role = .unsynced ∧ a.twin = (b.setSync s).twin ∧ (m.role = .standby → a.told 0x7001 0 [3, 2, m.term]) := by
    rw [ha, hbrole]
    split
    · next h =>
      have ht := Mod.setRole_told (m := b.setSync s) (r := .unsynced) (by rw [hbrole, h]; decide)
      rw [hbrole, h, hterm] at ht
      exact ⟨Mod.roleMoves_setRole _ _, Mod.role_setRole _ _, Mod.setRole_twin _ _, fun _ => ht⟩
    · next h => exact ⟨Mod.roleMoves_refl, hbrole.trans (hr.resolve_left h), rfl, fun h' => absurd h' h⟩
  obtain ⟨hmoves, hunsynced, hatwin, h7001⟩ := hmoves
  have hasync : a.syncOf r = s := (Mod.syncOf_of_twin hatwin r).trans hsync
  have hmissing : a.twin.missingSince = m.twin.missingSince := by
    rw [hatwin, ← htwin]
    rfl
  have hfields : s.inSync = false ∧ s.lastTick = (m.syncOf r).lastTick ∧ s.confirm = (m.syncOf r).confirm := by rw [← hs]; exact ⟨rfl, rfl, rfl⟩
  obtain ⟨hin, hlast, hconf⟩ := hfields
  rw [hasync]
  refine ⟨hunsynced, hin, hlast, hconf, hmissing, ?_, ?_, ?_, h7001, fun hc => ?_⟩
  · exact (hmoves.n (by decide) (by decide) (by decide)).trans h2
  · exact (hmoves.n (by decide) (by decide) (by decide)).trans h4
  · rw [hmoves.n (by omega) (by decide) (by omega)]
    exact hbit
  · exact Mod.told_of_tells hmoves.tells (htold hc)

theorem Mod.get_mismatch (diff : Nat) {j t : Nat} (hj : j < 0x7040) (ht : t < 256) : (m.mismatch x diff).get j t = m.get j t := by
  have hr := x.rendition.isLt
  have hset (a : Mod) (s : RendSync) : (a.setSync s).get j t = a.get j t := rfl
  have htold : (m.mismatchTold x diff).get j t = m.get j t := by
    unfold Mod.mismatchTold Mod.markUnsynced Mod.putBit
    rw [Mod.get_raiseCond_frame _ _ _ _ (by omega), Mod.get_put_frame _ _ (by omega) (by omega), Mod.get_bump_frame _ (by decide) (by omega)]
  obtain ⟨repair, heq⟩ := m.mismatch_eq x diff
  rw [heq]
  dsimp only
  split
  · rw [Mod.get_setRole _ _ (by omega) (by omega) ht, hset, htold]
  · rw [hset, htold]

/-- Whether a rendition is in sync once a record of it matches. -/
def RendSync.agrees (s : RendSync) (repaired : Bool) : Bool := s.inSync || repaired || (!s.mismatch && 34 ≤ s.matches_ + 1)

theorem Mod.matched_eq : ∃ repaired after, m.matched x = (
    let s := m.syncOf x.rendition.val
    let m := if s.agrees repaired && !s.inSync then m.markUnsynced x.rendition.val false else m
    let m := if repaired then m.bump 0x7080 5 else m
    m.setSync { s with
      mismatch := if repaired then false else s.mismatch, matches_ := s.matches_ + 1, after := after, inSync := s.agrees repaired,
      repair := if repaired then none else s.repair }) := ⟨_, _, rfl⟩

/-- A record that matches the module's own. -/
theorem Mod.matched_shows :
    let a := m.matched x
    let r := x.rendition.val
    a.role = m.role ∧ (a.syncOf r).lastTick = (m.syncOf r).lastTick ∧ (a.syncOf r).confirm = (m.syncOf r).confirm
      ∧ a.twin.missingSince = m.twin.missingSince ∧ a.n 0x7080 2 = m.n 0x7080 2 ∧ a.n 0x7080 4 = m.n 0x7080 4
      ∧ ((m.syncOf r).inSync = true → (a.syncOf r).inSync = true)
      ∧ ((m.syncOf r).inSync = false → (m.syncOf r).mismatch = false → (m.syncOf r).matches_ = 33 →
        (a.syncOf r).inSync = true ∧ (a.n 0x7041 (1 + r / 32)).testBit (r % 32) = false) := by
  intro a r
  have hlt : r < 128 := x.rendition.isLt
  obtain ⟨repaired, after, heq⟩ := m.matched_eq x
  have ha : a = m.matched x := rfl
  rw [heq] at ha
  dsimp only at ha
  generalize hs : m.syncOf x.rendition.val = s at *
  have hsr : m.syncOf r = s := hs
  have hrend : s.rend = r := by rw [← hs]; exact m.rend_syncOf r
  generalize hb : (if (s.agrees repaired && !s.inSync) = true then m.markUnsynced x.rendition.val false else m) = b at ha
  have hbfacts : (∀ {j t : Nat}, j ≠ 0x7041 → t < 256 → b.n j t = m.n j t) ∧ b.twin = m.twin
      ∧ (s.agrees repaired = true → s.inSync = false → (b.n 0x7041 (1 + r / 32)).testBit (r % 32) = false) := by
    rw [← hb]
    split
    · refine ⟨fun h ht => Mod.n_put_other _ _ (by omega) (by omega), Mod.put_twin .., fun _ _ => ?_⟩
      unfold Mod.markUnsynced Mod.putBit
      rw [Mod.n_put _ _ _ _ (by omega)]
      exact testBit_setBit _ _ _
    · next h => exact ⟨fun _ _ => rfl, rfl, fun h1 h2 => absurd (by rw [h1, h2]; rfl) h⟩
  obtain ⟨hbn, hbtwin, hbit⟩ := hbfacts
  generalize hc : (if repaired = true then b.bump 0x7080 5 else b) = c at ha
  have hcfacts : (∀ {j t : Nat}, ¬(j = 0x7080 ∧ t = 5) → t < 256 → c.n j t = b.n j t) ∧ c.twin = b.twin := by
    rw [← hc]
    split
    · exact ⟨fun h ht => congrArg Val.nat (Mod.get_bump_frame _ (by decide) (by omega)), Mod.bump_twin ..⟩
    · exact ⟨fun _ _ => rfl, rfl⟩
  obtain ⟨hcn, hctwin⟩ := hcfacts
  have hsync := c.syncOf_setSync_of r { s with
      mismatch := if repaired then false else s.mismatch, matches_ := s.matches_ + 1, after := after, inSync := s.agrees repaired,
      repair := if repaired then none else s.repair } hrend
  have hkeep (z : RendSync) {j t : Nat} : (c.setSync z).n j t = c.n j t := rfl
  rw [← ha] at hsync
  rw [hsync]
  refine ⟨?_, rfl, rfl, ?_, ?_, ?_, fun h => ?_, fun h1 h2 h3 => ?_⟩
  · rw [ha]
    exact congrArg roleOf ((hcn (by decide) (by decide)).trans (hbn (by decide) (by decide)))
  · rw [ha, ← hbtwin, ← hctwin]
    rfl
  · rw [ha, hkeep, hcn (by decide) (by decide), hbn (by decide) (by decide)]
  · rw [ha, hkeep, hcn (by decide) (by decide), hbn (by decide) (by decide)]
  · show s.agrees repaired = true
    unfold RendSync.agrees
    rw [h, Bool.true_or, Bool.true_or]
  · have hagrees : s.agrees repaired = true := by
      unfold RendSync.agrees
      rw [h2, h3]
      simp
    refine ⟨hagrees, ?_⟩
    rw [ha, hkeep, hcn (by omega) (by omega)]
    exact hbit hagrees h1

end

end Sys2Proof.Machine
end

section
/-! SUPPORT. Records taken, closed, missed (R221-R223, R227, R228). -/

namespace Sys2Proof.Machine

/-! ### A record taken -/

section
variable (m : Mod) (x : CourseRecord)

/-- A record is heard: its tick and its confirmation are held, nothing is missing. -/
def Mod.recordHeard : Mod :=
  let s := (m.snoopRecord x).syncOf x.rendition.val
  ((m.snoopRecord x).setSync { s with lastTick := some x.tick, confirm := some x.confirmIndex }).modTwin fun t => { t with missingSince := none }

/-- The module's own record of a tick. -/
def Mod.heldRecord : Option CourseRecord :=
  ((m.rend x.rendition.val).records ++ (m.rend x.rendition.val).unclosed).find? fun y => y.tick = x.tick && y.course = x.course

/-- A record is compared with the module's own, if it has one. -/
def Mod.recordJudged : Option CourseRecord → Mod
  | none => m
  | some y => if recordDiff x y = 0 then (m.bump 0x7080 2).matched x else (m.bump 0x7080 2).mismatch x (recordDiff x y)

theorem Mod.takeRecord_active (hr : m.role = .active) : m.takeRecord x = m := by
  unfold Mod.takeRecord
  dsimp only
  rw [if_pos hr, if_pos (by rw [hr]; decide)]

theorem Mod.role_snoopRecord : (m.snoopRecord x).role = m.role := Mod.role_of_get (m.get_snoopRecord x (by decide) (by decide))

theorem Mod.takeRecord_idle (hr : m.role = .fenced ∨ m.role = .notPaired) : m.takeRecord x = m.snoopRecord x := by
  have hne : ¬m.role = .active := by obtain h | h := hr <;> rw [h] <;> decide
  unfold Mod.takeRecord
  dsimp only
  rw [if_neg hne, if_pos (by rw [m.role_snoopRecord]; obtain h | h := hr <;> rw [h] <;> decide)]

theorem Mod.takeRecord_compares (hr : m.role = .standby ∨ m.role = .unsynced) : m.takeRecord x
    = if !(m.recordHeard x).runningRends.contains x.rendition.val then m.recordHeard x
      else (((m.recordHeard x).recordJudged x ((m.recordHeard x).heldRecord x)).adopt x ((m.recordHeard x).heldRecord x)).tryStandby := by
  have hne : ¬m.role = .active := by obtain h | h := hr <;> rw [h] <;> decide
  unfold Mod.takeRecord
  dsimp only
  rw [if_neg hne, if_neg (by rw [m.role_snoopRecord]; obtain h | h := hr <;> rw [h] <;> decide)]
  unfold Mod.recordJudged
  rfl

theorem Mod.recordHeard_shows : (∀ {j t : Nat}, j < 0x7400 → t < 256 → (m.recordHeard x).n j t = m.n j t)
    ∧ (m.recordHeard x).syncOf x.rendition.val = { m.syncOf x.rendition.val with lastTick := some x.tick, confirm := some x.confirmIndex }
    ∧ (m.recordHeard x).twin.missingSince = none ∧ (m.recordHeard x).rends = m.rends ∧ (m.recordHeard x).conds = m.conds := by
  have hsync : (m.snoopRecord x).syncOf x.rendition.val = m.syncOf x.rendition.val :=
    Mod.syncOf_of_twin (Mod.snoopRecord_part (m := m) x (p := .twin) (by decide)) _
  have hget {j t : Nat} (hj : j < 0x7400) (ht : t < 256) : (m.snoopRecord x).n j t = m.n j t := congrArg Val.nat (m.get_snoopRecord x hj ht)
  have hrends : (m.snoopRecord x).rends = m.rends := Mod.snoopRecord_part (m := m) x (p := .rends) (by decide)
  have hconds : (m.snoopRecord x).conds = m.conds := Mod.snoopRecord_part (m := m) x (p := .conds) (by decide)
  unfold Mod.recordHeard
  rw [hsync]
  generalize m.snoopRecord x = a at *
  have hset := a.syncOf_setSync_of x.rendition.val { m.syncOf x.rendition.val with lastTick := some x.tick, confirm := some x.confirmIndex }
    (m.rend_syncOf _)
  exact ⟨hget, hset, rfl, hrends, hconds⟩

/-! ### Adoption, and the way to STANDBY, after it -/

/-- What comes after the comparison. -/
def Mod.recordEnded (own : Option CourseRecord) : Mod := (m.adopt x own).tryStandby

theorem Mod.adopt_twin (own : Option CourseRecord) : (m.adopt x own).twin = m.twin := Mod.adopt_part (m := m) x own (p := .twin) (by decide)

theorem Mod.recordEnded_twin (own : Option CourseRecord) : (m.recordEnded x own).twin = m.twin :=
  (Mod.tryStandby_twin _).trans (m.adopt_twin x own)

theorem Mod.n_recordEnded (own : Option CourseRecord) {j t : Nat} (h : ¬(j = 0x7040 ∧ (t = 1 ∨ t = 2))) (hj : j < 0x5480 ∨ 0x5980 ≤ j ∧ j < 0x7400)
    (ht : t < 256) : (m.recordEnded x own).n j t = m.n j t :=
  ((Mod.tryStandby_moves _).n h (by omega) ht).trans (congrArg Val.nat (m.get_adopt x own (by omega) ht))

theorem Mod.recordEnded_tells (own : Option CourseRecord) {a : Mod} (h : a.tells m) : a.tells (m.recordEnded x own) := fun y hy =>
  (Mod.tryStandby_moves _).tells y (Mod.tells_of_part (Mod.adopt_part (m := m) x own (p := .raised) (by decide)) h y hy)

theorem Mod.role_adopt (own : Option CourseRecord) : (m.adopt x own).role = m.role := Mod.role_of_get (m.get_adopt x own (by decide) (by decide))

/-- A module with a rendition out of sync stays UNSYNCED. -/
theorem Mod.role_recordEnded (own : Option CourseRecord) (hr : m.role = .unsynced) (hrun : m.runningRends.contains x.rendition.val = true)
    (hs : (m.syncOf x.rendition.val).inSync = false) : (m.recordEnded x own).role = .unsynced := by
  have hrends : (m.adopt x own).runningRends = m.runningRends :=
    Mod.runningRends_congr fun j h1 h2 => congrArg Val.nat (m.get_adopt x own (by omega) (by decide))
  have hsync : (m.adopt x own).syncOf x.rendition.val = m.syncOf x.rendition.val := Mod.syncOf_of_twin (m.adopt_twin x own) _
  have hnot : ¬((m.adopt x own).role = .unsynced ∧ (m.adopt x own).inStep = true) := by
    rintro ⟨-, hin⟩
    unfold Mod.inStep at hin
    simp only [Bool.and_eq_true, List.all_eq_true] at hin
    obtain ⟨⟨⟨-, hall⟩, -⟩, -⟩ := hin
    have := hall x.rendition.val (by rw [hrends]; exact List.contains_iff_mem.mp hrun)
    rw [hsync, hs] at this
    exact absurd this (by decide)
  unfold Mod.recordEnded
  rw [Mod.tryStandby_not _ hnot, m.role_adopt, hr]

/-! ### A record closed -/

/-- What is on the link stays on it when more is put there. -/
theorem Mod.mortared_mortarSend {m : Mod} (vc n : Nat) (frame : Nat → Output) {o : Output} (h : m.mortared o) : (m.mortarSend vc n frame).mortared o := by
  obtain hl | hl := Bool.eq_false_or_eq_true m.linkUp
  · refine (m.mortarSend_flows hl).keeps o (h.imp_right ?_)
    rintro ⟨x, hx, rfl⟩
    exact ⟨x, List.mem_append_left _ hx, rfl⟩
  · rw [Mod.mortarSend, if_pos (by rw [hl]; rfl)]
    exact h

theorem Mod.mortared_of {a : Mod} {o : Output} (ho : a.out = m.out) (ht : a.twin = m.twin) (h : m.mortared o) : a.mortared o := by
  unfold Mod.mortared
  rw [ho, ht]
  exact h

theorem Mod.mortared_sendBand {m : Mod} (r : Nat) (x : CourseRecord) {o : Output} (h : m.mortared o) : (m.sendBand r x).mortared o := by
  unfold Mod.sendBand
  dsimp only
  split
  · exact h
  · split
    · exact h
    · split
      · exact h
      · split
        · exact h
        · refine Mod.each_holds (P := fun a => a.mortared o) (fun a b ha => ?_) h
          exact Mod.mortared_mortarSend _ _ _ (Mod.mortared_of a (Mod.count_out ..) (Mod.count_twin ..) ha)

theorem Mod.n_sendBand {m : Mod} (r : Nat) (x : CourseRecord) {j t : Nat} (h : ¬(j = 0x7080 ∧ t = 6)) (ht : t < 256) : (m.sendBand r x).get j t = m.get j t := by
  unfold Mod.sendBand
  dsimp only
  split
  · rfl
  · split
    · rfl
    · split
      · rfl
      · split
        · rfl
        · refine Mod.get_each fun a b _ => ?_
          rw [Mod.mortarSend_onLink]
          exact Mod.get_count_frame _ _ (by decide) (by omega)

/-- The record of a course leaves an ACTIVE. -/
def Mod.recordSent (m : Mod) (r : Nat) (y : CourseRecord) : Mod :=
  (((m.mortarSend 1 260 fun seq => .mortarRecords seq [y]).bump 0x7080 1).snoopRecord y).sendBand r y

theorem Mod.closeRecord_next {m : Mod} {r : Nat} {x : CourseRecord} {rest : List CourseRecord} (h : (m.rend r).unclosed = x :: rest) : m.closeRecord r
    = if m.role = .active && m.linkUp && !m.serviceDown r 3 then
        (m.modRend r fun s => { s with unclosed := rest }).recordSent r ((m.modRend r fun s => { s with unclosed := rest }).closing r x)
      else m.modRend r fun s => { s with unclosed := rest } := by
  unfold Mod.closeRecord
  rw [h]
  rfl

theorem Mod.recordSent_shows {m : Mod} (r : Nat) (y : CourseRecord) (hl : m.linkUp = true) : (m.recordSent r y).rends = m.rends
    ∧ (m.recordSent r y).mortared (.mortarRecords (nth m.twin.mortar.sendSeq 1) [y]) ∧ (m.recordSent r y).n 0x7080 1 = (m.bump 0x7080 1).n 0x7080 1 := by
  have hsent := Mod.mortarSend_mortared (m := m) 1 260 (fun seq => Output.mortarRecords seq [y]) hl
  have hlink := m.mortarSend_onLink 1 260 fun seq => .mortarRecords seq [y]
  unfold Mod.recordSent
  generalize m.mortarSend 1 260 (fun seq => .mortarRecords seq [y]) = a at hsent hlink ⊢
  have hn : a.n 0x7080 1 = m.n 0x7080 1 := by rw [hlink]; rfl
  have hrends : a.rends = m.rends := by rw [hlink]; rfl
  refine ⟨?_, ?_, ?_⟩
  · exact (Mod.sendBand_part (m := (a.bump 0x7080 1).snoopRecord y) r y (p := .rends) (by decide)).trans
      ((Mod.snoopRecord_part (m := a.bump 0x7080 1) y (p := .rends) (by decide)).trans ((Mod.bump_rends ..).trans hrends))
  · refine Mod.mortared_sendBand r y (Mod.mortared_of (a.bump 0x7080 1) ?_ ?_ (Mod.mortared_of a (Mod.bump_out ..) (Mod.bump_twin ..) hsent))
    · exact Mod.snoopRecord_part (m := a.bump 0x7080 1) y (p := .out) (by decide)
    · exact Mod.snoopRecord_part (m := a.bump 0x7080 1) y (p := .twin) (by decide)
  · have hband : (((a.bump 0x7080 1).snoopRecord y).sendBand r y).n 0x7080 1 = (a.bump 0x7080 1).n 0x7080 1 :=
      congrArg Val.nat ((Mod.n_sendBand r y (by decide) (by decide)).trans (Mod.get_snoopRecord _ y (by decide) (by decide)))
    exact hband.trans (Mod.n_bump_congr (by decide) hn)

theorem Mod.rend_modRend {m : Mod} {r : Nat} (f : RendS → RendS) (h : r < m.rends.length) : (m.modRend r f).rend r = f (m.rend r) := nth_modify _ f h

theorem Mod.lt_of_unclosed {m : Mod} {r : Nat} (h : (m.rend r).unclosed ≠ []) : r < m.rends.length := by
  refine Nat.lt_of_not_le fun hle => h ?_
  unfold Mod.rend nth
  rw [List.getD_eq_getElem?_getD, List.getElem?_eq_none hle]
  rfl

/-! ### A record missed -/

/-- Whether the record of a tick, or one after it, has come. -/
def Mod.recordHad (r k : Nat) : Bool := match (m.syncOf r).lastTick with
  | none => false
  | some T => k ≤ T

theorem Mod.recordHad_iff (r k : Nat) : m.recordHad r k = false ↔ ∀ T, (m.syncOf r).lastTick = some T → T < k := by
  unfold Mod.recordHad
  cases (m.syncOf r).lastTick with
  | none => exact ⟨fun _ _ h => (Option.some_ne_none _ h.symm).elim, fun _ => rfl⟩
  | some T =>
    constructor
    · rintro h T' hT
      obtain rfl := Option.some.inj hT
      exact Nat.not_le.mp (of_decide_eq_false h)
    · exact fun h => decide_eq_false (Nat.not_le.mpr (h T rfl))

theorem Mod.recordMissing_eq (r k : Nat) : m.recordMissing r k
    = if (m.role = .standby || m.role = .unsynced) && m.runningRends.contains r && !m.recordHad r k && isCourseTick k (m.rendStep r)
        && m.recordDue r k ≤ m.now then
      (m.bump 0x7080 3).modTwin fun t => { t with missingSince := some (t.missingSince.getD m.ctr) }
    else m := by
  have hctr : (m.bump 0x7080 3).ctr = m.ctr := Mod.bump_ctr ..
  unfold Mod.recordMissing
  rw [← hctr]
  rfl

end

/-! ### What a comparing module shows of a record -/

section
variable {m : Mod} {x : CourseRecord}

theorem Mod.runningRends_recordHeard : (m.recordHeard x).runningRends = m.runningRends := by
  obtain ⟨hget, -, -, -, -⟩ := m.recordHeard_shows x
  exact Mod.runningRends_congr fun j h1 h2 => hget (by omega) (by decide)

/-- The rendition's standing after the comparison stands. -/
theorem Mod.syncOf_recordEnded (a : Mod) (own : Option CourseRecord) : (a.recordEnded x own).syncOf x.rendition.val = a.syncOf x.rendition.val :=
  Mod.syncOf_of_twin (a.recordEnded_twin x own) _

theorem Mod.recordHeard_bump : ((m.recordHeard x).bump 0x7080 2).role = m.role ∧ ((m.recordHeard x).bump 0x7080 2).term = m.term
    ∧ (∀ {j t : Nat}, j < 0x7400 → ¬(j = 0x7080 ∧ t = 2) → t < 256 → ((m.recordHeard x).bump 0x7080 2).n j t = m.n j t)
    ∧ ((m.recordHeard x).bump 0x7080 2).n 0x7080 2 = (m.bump 0x7080 2).n 0x7080 2
    ∧ ((m.recordHeard x).bump 0x7080 2).syncOf x.rendition.val = { m.syncOf x.rendition.val with lastTick := some x.tick, confirm := some x.confirmIndex }
    ∧ ((m.recordHeard x).bump 0x7080 2).twin.missingSince = none ∧ ((m.recordHeard x).bump 0x7080 2).conds = m.conds := by
  obtain ⟨hget, hsync, hmissing, -, hconds⟩ := m.recordHeard_shows x
  have hn {j t : Nat} (hj : j < 0x7400) (h : ¬(j = 0x7080 ∧ t = 2)) (ht : t < 256) : ((m.recordHeard x).bump 0x7080 2).n j t = m.n j t :=
    (congrArg Val.nat (Mod.get_bump_frame _ (by decide) (by omega))).trans (hget hj ht)
  refine ⟨congrArg roleOf (hn (by decide) (by decide) (by decide)), hn (by decide) (by decide) (by decide), hn,
    Mod.n_bump_congr (by decide) (hget (by decide) (by decide)), (Mod.syncOf_of_twin (Mod.bump_twin ..) _).trans hsync, ?_,
    (Mod.bump_conds ..).trans hconds⟩
  rw [Mod.bump_twin]
  exact hmissing

variable (hr : m.role = .standby ∨ m.role = .unsynced)
include hr

theorem Mod.takeRecord_alone (h : m.runningRends.contains x.rendition.val = false) : m.takeRecord x = m.recordHeard x := by
  rw [m.takeRecord_compares x hr, Mod.runningRends_recordHeard, if_pos (by rw [h]; rfl)]

theorem Mod.takeRecord_running (h : m.runningRends.contains x.rendition.val = true) :
    m.takeRecord x = ((m.recordHeard x).recordJudged x (m.heldRecord x)).recordEnded x (m.heldRecord x) := by
  obtain ⟨-, -, -, hrends, -⟩ := m.recordHeard_shows x
  have hheld : (m.recordHeard x).heldRecord x = m.heldRecord x := by
    unfold Mod.heldRecord Mod.rend
    rw [hrends]
  rw [m.takeRecord_compares x hr, Mod.runningRends_recordHeard, if_neg (by rw [h]; decide), hheld]
  rfl

/-- A record of a rendition that does not run, or of a tick the module has none of. -/
theorem Mod.takeRecord_unmatched (h : m.runningRends.contains x.rendition.val = false ∨ m.heldRecord x = none) :
    ((m.takeRecord x).syncOf x.rendition.val).lastTick = some x.tick ∧ ((m.takeRecord x).syncOf x.rendition.val).confirm = some x.confirmIndex
      ∧ (m.takeRecord x).twin.missingSince = none ∧ (m.takeRecord x).n 0x7080 2 = m.n 0x7080 2 := by
  obtain ⟨hget, hsync, hmissing, -, -⟩ := m.recordHeard_shows x
  have hn : (m.recordHeard x).n 0x7080 2 = m.n 0x7080 2 := hget (by decide) (by decide)
  obtain hrun | hrun := Bool.eq_false_or_eq_true (m.runningRends.contains x.rendition.val)
  · have hnone := h.resolve_left (by rw [hrun]; decide)
    rw [Mod.takeRecord_running hr hrun, hnone, Mod.syncOf_recordEnded, Mod.recordEnded_twin,
      Mod.n_recordEnded _ _ _ (by decide) (by decide) (by decide)]
    exact ⟨by rw [Mod.recordJudged, hsync], by rw [Mod.recordJudged, hsync], hmissing, hn⟩
  · rw [Mod.takeRecord_alone hr hrun, hsync]
    exact ⟨rfl, rfl, hmissing, hn⟩

variable {y : CourseRecord} (hrun : m.runningRends.contains x.rendition.val = true) (hown : m.heldRecord x = some y)
include hrun hown

/-- A record that differs. -/
theorem Mod.takeRecord_differs (hd : recordDiff x y ≠ 0) :
    let a := m.takeRecord x
    let r := x.rendition.val
    (a.syncOf r).lastTick = some x.tick ∧ (a.syncOf r).confirm = some x.confirmIndex ∧ a.twin.missingSince = none
      ∧ a.n 0x7080 2 = (m.bump 0x7080 2).n 0x7080 2 ∧ a.role = .unsynced ∧ a.n 0x7080 4 = (m.bump 0x7080 4).n 0x7080 4
      ∧ (a.n 0x7041 (1 + r / 32)).testBit (r % 32) = true ∧ (a.syncOf r).inSync = false
      ∧ (m.role = .standby → a.told 0x7001 0 [3, 2, m.term])
      ∧ (m.condSet 0x7002 r = false → a.told 0x7002 r [r, x.tick, recordDiff x y]) := by
  intro a r
  have hlt : r < 128 := x.rendition.isLt
  obtain ⟨hbrole, hbterm, hbn, hb2, hbsync, hbmissing, hbconds⟩ := Mod.recordHeard_bump (m := m) (x := x)
  have hjudged : (m.recordHeard x).recordJudged x (some y) = ((m.recordHeard x).bump 0x7080 2).mismatch x (recordDiff x y) := if_neg hd
  have ha : a = (((m.recordHeard x).bump 0x7080 2).mismatch x (recordDiff x y)).recordEnded x (some y) := by
    show m.takeRecord x = _
    rw [Mod.takeRecord_running hr hrun, hown, hjudged]
  generalize (m.recordHeard x).bump 0x7080 2 = b at *
  obtain ⟨hrole, hin, hlast, hconf, hmissing, h2, h4, hbit, h7001, h7002⟩ := b.mismatch_shows x (recordDiff x y) (by rwa [hbrole])
  have hrends : (b.mismatch x (recordDiff x y)).runningRends = m.runningRends := by
    refine Mod.runningRends_congr fun j h1 h2 => ?_
    exact (congrArg Val.nat (b.get_mismatch x _ (by omega) (by decide))).trans (hbn (by omega) (by omega) (by decide))
  rw [hbsync] at hlast hconf
  rw [hbmissing] at hmissing
  rw [hbrole, hbterm] at h7001
  have hcond : b.condSet 0x7002 r = m.condSet 0x7002 r := Mod.condSet_of_conds hbconds
  have h4 := h4.trans (Mod.n_bump_congr (by decide) (hbn (by decide) (by decide) (by decide)))
  have h2 := h2.trans hb2
  generalize b.mismatch x (recordDiff x y) = c at *
  have hended := c.role_recordEnded x (some y) hrole (by rw [hrends]; exact hrun) hin
  have hsync : a.syncOf r = c.syncOf r := by
    rw [ha]
    exact Mod.syncOf_recordEnded c _
  rw [hsync]
  refine ⟨hlast, hconf, ?_, ?_, ?_, ?_, ?_, hin, fun h => ?_, fun h => ?_⟩
  · rw [ha, Mod.recordEnded_twin]
    exact hmissing
  · rw [ha, Mod.n_recordEnded _ _ _ (by decide) (by decide) (by decide)]
    exact h2
  · rw [ha]
    exact hended
  · rw [ha, Mod.n_recordEnded _ _ _ (by decide) (by decide) (by decide)]
    exact h4
  · rw [ha, Mod.n_recordEnded _ _ _ (by omega) (by omega) (by omega)]
    exact hbit
  · rw [ha]
    exact Mod.told_of_tells (Mod.recordEnded_tells c x _ Mod.tells_refl) (h7001 h)
  · rw [ha]
    exact Mod.told_of_tells (Mod.recordEnded_tells c x _ Mod.tells_refl) (h7002 (hcond.trans h))

/-- A record that matches. -/
theorem Mod.takeRecord_agrees (hd : recordDiff x y = 0) :
    let a := m.takeRecord x
    let r := x.rendition.val
    (a.syncOf r).lastTick = some x.tick ∧ (a.syncOf r).confirm = some x.confirmIndex ∧ a.twin.missingSince = none
      ∧ a.n 0x7080 2 = (m.bump 0x7080 2).n 0x7080 2 ∧ a.n 0x7080 4 = m.n 0x7080 4 ∧ ((m.syncOf r).inSync = true → (a.syncOf r).inSync = true)
      ∧ ((m.syncOf r).inSync = false → (m.syncOf r).mismatch = false → (m.syncOf r).matches_ = 33 →
        (a.syncOf r).inSync = true ∧ (a.n 0x7041 (1 + r / 32)).testBit (r % 32) = false) := by
  intro a r
  have hlt : r < 128 := x.rendition.isLt
  obtain ⟨-, -, hbn, hb2, hbsync, hbmissing, -⟩ := Mod.recordHeard_bump (m := m) (x := x)
  have hjudged : (m.recordHeard x).recordJudged x (some y) = ((m.recordHeard x).bump 0x7080 2).matched x := if_pos hd
  have ha : a = (((m.recordHeard x).bump 0x7080 2).matched x).recordEnded x (some y) := by
    show m.takeRecord x = _
    rw [Mod.takeRecord_running hr hrun, hown, hjudged]
  generalize (m.recordHeard x).bump 0x7080 2 = b at *
  obtain ⟨-, hlast, hconf, hmissing, h2, h4, hin, hnew⟩ := b.matched_shows x
  rw [hbsync] at hlast hconf hin hnew
  rw [hbmissing] at hmissing
  have h4 := h4.trans (hbn (by decide) (by decide) (by decide))
  have h2 := h2.trans hb2
  generalize b.matched x = c at *
  have hsync : a.syncOf r = c.syncOf r := by
    rw [ha]
    exact Mod.syncOf_recordEnded c _
  rw [hsync]
  refine ⟨hlast, hconf, ?_, ?_, ?_, hin, fun h1 h2 h3 => ⟨(hnew h1 h2 h3).1, ?_⟩⟩
  · rw [ha, Mod.recordEnded_twin]
    exact hmissing
  · rw [ha, Mod.n_recordEnded _ _ _ (by decide) (by decide) (by decide)]
    exact h2
  · rw [ha, Mod.n_recordEnded _ _ _ (by decide) (by decide) (by decide)]
    exact h4
  · rw [ha, Mod.n_recordEnded _ _ _ (by omega) (by omega) (by omega)]
    exact (hnew h1 h2 h3).2

end

/-- Settles O33: records closed by role, missed by time, compared by what they differ in. -/
theorem theStandbyComparesRecords : Obligations.TheStandbyComparesRecords := by
  unfold Obligations.TheStandbyComparesRecords
  refine ⟨fun s t hdr hs => ?_, fun m x => ?_⟩
  · intro m compares
    have hb : m.rebooting = false := hs.2
    refine ⟨fun r => ⟨fun hnil => ?_, fun x rest hx => ?_⟩, fun l hi => ?_, fun r k => ?_, fun hn => ?_, fun since hsince => ?_⟩
    · refine does_act (g := fun m => m.closeRecord r.val) hs rfl ?_ hb
      show m.closeRecord r.val = m
      unfold Mod.closeRecord
      rw [hnil]
    · intro sends
      have heq := Mod.closeRecord_next hx
      have hsends : (m.role = .active && m.linkUp && !m.serviceDown r.val 3) = true ↔ sends := by simp [sends, and_assoc]
      have hlt := Mod.lt_of_unclosed (m := m) (r := r.val) (by rw [hx]; exact List.cons_ne_nil _ _)
      refine ⟨fun hn => ?_, fun hsend => ?_⟩
      · exact does_act (g := fun m => m.closeRecord r.val) hs rfl (heq.trans (if_neg fun h => hn (hsends.mp h))) hb
      · have heq := heq.trans (if_pos (hsends.mpr hsend))
        have hrend := Mod.rend_modRend (m := m) (fun s => { s with unclosed := rest }) hlt
        have hclosing : (m.modRend r.val fun s => { s with unclosed := rest }).closing r.val x
            = { x with confirmIndex := (m.rend r.val).confirm } := by
          unfold Mod.closing
          rw [hrend]
        rw [hclosing] at heq
        obtain ⟨hrends, hsent, hcount⟩ := Mod.recordSent_shows (m := m.modRend r.val fun s => { s with unclosed := rest }) r.val
          { x with confirmIndex := (m.rend r.val).confirm } hsend.2.1
        rw [← heq] at hrends hsent hcount
        refine completes_act (g := fun m => m.closeRecord r.val) rfl hs ⟨?_, hsent, hcount.trans (Mod.n_bump_congr (by decide) rfl)⟩ fun _ h => h
        show (nth (m.closeRecord r.val).rends r.val).unclosed = rest
        rw [hrends]
        exact congrArg RendS.unclosed hrend
    · refine does_act (g := fun m => m.takeRecords hdr l) hs rfl ?_ ?_
      · show m.takeRecords hdr l = _
        unfold Mod.takeRecords
        rw [Mod.sequenced_inOrder hi]
        rfl
      · obtain ⟨o, r, htaken, -⟩ := m.taken_onLink hdr 1
        rw [htaken]
        exact (Mod.each_part (m := m.onLink o r) (p := .rebooting) l Mod.takeRecord fun m x => Mod.takeRecord_part (m := m) (p := .rebooting) x (by decide)).trans hb
    · intro due
      have heq := m.recordMissing_eq r.val k
      have hdue : ((m.role = .standby || m.role = .unsynced) && m.runningRends.contains r.val && !m.recordHad r.val k
          && isCourseTick k (m.rendStep r.val) && m.recordDue r.val k ≤ m.now) = true ↔ due := by
        show _ ↔ (m.role = .standby ∨ m.role = .unsynced) ∧ _ ∧ (∀ T, (m.syncOf r.val).lastTick = some T → T < k) ∧ _
        rw [← m.recordHad_iff]
        simp [and_assoc]
      refine ⟨fun h => ?_, fun h => ?_⟩
      · have heq := heq.trans (if_pos (hdue.mpr h))
        refine completes_act (g := fun m => m.recordMissing r.val k) rfl hs ?_ fun _ h => h
        show (m.recordMissing r.val k).n 0x7080 3 = _ ∧ (m.recordMissing r.val k).twin.missingSince = _
        rw [heq, Mod.n_modTwin, Mod.twin_modTwin, Mod.bump_twin]
        exact ⟨rfl, rfl⟩
      · exact does_act (g := fun m => m.recordMissing r.val k) hs rfl (heq.trans (if_neg fun h' => h (hdue.mp h'))) hb
    · refine does_act (g := fun m => m.holdExpired) hs rfl ?_ hb
      show m.holdExpired = m
      unfold Mod.holdExpired
      rw [hn]
    · intro due
      have heq : m.holdExpired = if (m.role = .standby && since + m.n 0x7000 0x0A ≤ m.ctr) = true then (m.setRole .unsynced).raiseCond 0x700E 0 [] else m := by
        unfold Mod.holdExpired
        rw [hsince]
      have hdue : (m.role = .standby && since + m.n 0x7000 0x0A ≤ m.ctr) = true ↔ due := by
        rw [Bool.and_eq_true, decide_eq_true_eq, decide_eq_true_eq]
      refine ⟨fun h => ?_, fun h => ?_⟩
      · have htold := Mod.setRole_told (m := m) (r := .unsynced) (by rw [h.1]; decide)
        rw [h.1] at htold
        refine completes_act (g := fun m => m.holdExpired) rfl hs ?_ fun _ h => h
        show m.holdExpired.role = .unsynced ∧ m.holdExpired.told 0x7001 0 [3, 2, m.term] ∧ m.holdExpired.condSet 0x700E 0 = true
          ∧ (_ → m.holdExpired.told 0x700E 0 [])
        rw [heq, if_pos (hdue.mpr h)]
        refine ⟨(Mod.role_of_get (Mod.get_raiseCond_frame _ _ _ _ (.inl (by decide)))).trans (m.role_setRole _),
          Mod.told_of_tells (Mod.tells_raiseCond _ _ _ Mod.tells_refl) htold, Mod.condSet_raiseCond _ _ _ _, fun hc => ?_⟩
        exact Mod.raiseCond_told _ ((Mod.condSet_of_conds (m.setRole_conds _)).trans hc) _
      · exact does_act (g := fun m => m.holdExpired) hs rfl (heq.trans (if_neg fun h' => h (hdue.mp h'))) hb
  · intro r m' own
    refine ⟨m.takeRecord_active x, m.takeRecord_idle x, fun hr => ?_⟩
    have hcase : m.runningRends.contains r = false ∨ own = none ∨ ∃ y, m.runningRends.contains r = true ∧ own = some y := by
      obtain h | h := Bool.eq_false_or_eq_true (m.runningRends.contains r)
      · obtain h' | ⟨y, h'⟩ := Option.eq_none_or_eq_some own
        · exact .inr (.inl h')
        · exact .inr (.inr ⟨y, h, h'⟩)
      · exact .inl h
    have hfirst : (m'.syncOf r).lastTick = some x.tick ∧ (m'.syncOf r).confirm = some x.confirmIndex ∧ m'.twin.missingSince = none := by
      obtain h | h | ⟨y, h, h'⟩ := hcase
      · obtain ⟨h1, h2, h3, -⟩ := Mod.takeRecord_unmatched hr (.inl h)
        exact ⟨h1, h2, h3⟩
      · obtain ⟨h1, h2, h3, -⟩ := Mod.takeRecord_unmatched hr (.inr h)
        exact ⟨h1, h2, h3⟩
      · by_cases hd : recordDiff x y = 0
        · obtain ⟨h1, h2, h3, -⟩ := Mod.takeRecord_agrees hr h h' hd
          exact ⟨h1, h2, h3⟩
        · obtain ⟨h1, h2, h3, -⟩ := Mod.takeRecord_differs hr h h' hd
          exact ⟨h1, h2, h3⟩
    obtain ⟨h1, h2, h3⟩ := hfirst
    refine ⟨h1, h2, h3, fun h => (Mod.takeRecord_unmatched hr h).2.2.2, fun y hrun hown => ?_⟩
    by_cases hd : recordDiff x y = 0
    · obtain ⟨-, -, -, hcount, h4, hin, hnew⟩ := Mod.takeRecord_agrees hr hrun hown hd
      exact ⟨hcount, fun h => absurd hd h, fun _ => ⟨h4, hin, hnew⟩⟩
    · obtain ⟨-, -, -, hcount, hrole, h4, hbit, hin, h7001, h7002⟩ := Mod.takeRecord_differs hr hrun hown hd
      exact ⟨hcount, fun _ => ⟨hrole, h4, hbit, hin, h7001, h7002⟩, fun h => absurd h hd⟩

end Sys2Proof.Machine
end

section
/-! SUPPORT. Video packets: what each step of R44, R45 and R49 leaves of a receiver and of its counters. -/

namespace Sys2Proof.Machine

/-! ### The receiver of a target -/

section
variable {m a : Mod} {g : VideoTarget}

/-- A target's receiver is there. -/
def Mod.receives (m : Mod) : VideoTarget → Prop
  | .channel n => n.val < m.chans.length
  | .layer n l => n.val < m.chans.length ∧ l.val < (m.chan n.val).layers.length

theorem Mod.receives_of_runs (h : (m.video g).runs ≠ []) : m.receives g := by
  have hchan (n : Nat) (hn : ¬n < m.chans.length) : m.chan n = default := by
    unfold Mod.chan nth
    rw [List.getD_eq_getElem?_getD, List.getElem?_eq_none (Nat.not_lt.mp hn)]
    rfl
  cases g with
  | channel n =>
    refine Nat.lt_of_not_le fun hle => h ?_
    show (m.chan n.val).video.runs = []
    rw [hchan n.val (Nat.not_lt.mpr hle)]
    rfl
  | layer n l =>
    have hl : l.val < (m.chan n.val).layers.length := by
      refine Nat.lt_of_not_le fun hle => h ?_
      show (nth (m.chan n.val).layers l.val).runs = []
      unfold nth
      rw [List.getD_eq_getElem?_getD, List.getElem?_eq_none hle]
      rfl
    refine ⟨Nat.lt_of_not_le fun hle => ?_, hl⟩
    rw [hchan n.val (Nat.not_lt.mpr hle)] at hl
    exact absurd hl (Nat.not_lt_zero _)

theorem Mod.chan_modChan {n : Nat} (f : ChanS → ChanS) (h : n < m.chans.length) : (m.modChan n f).chan n = f (m.chan n) := nth_modify _ f h

/-- A change of a receiver is what it then is. -/
theorem Mod.video_modVideo (f : VideoIn → VideoIn) (h : m.receives g) : (m.modVideo g f).video g = f (m.video g) := by
  cases g with
  | channel n => exact congrArg ChanS.video (m.chan_modChan (fun c => { c with video := f c.video }) h)
  | layer n l =>
    have := m.chan_modChan (fun c => { c with layers := c.layers.modify l.val f }) h.1
    exact (congrArg (fun c => nth (ChanS.layers c) l.val) this).trans (nth_modify _ f h.2)

theorem Mod.receives_modVideo (f : VideoIn → VideoIn) (h : m.receives g) : (m.modVideo g f).receives g := by
  cases g with
  | channel n =>
    show n.val < (m.chans.modify n.val _).length
    rw [List.length_modify]
    exact h
  | layer n l =>
    refine ⟨?_, ?_⟩
    · show n.val < (m.chans.modify n.val _).length
      rw [List.length_modify]
      exact h.1
    have := m.chan_modChan (fun c => { c with layers := c.layers.modify l.val f }) h.1
    show l.val < ((m.modVideo (.layer n l) f).chan n.val).layers.length
    rw [show (m.modVideo (.layer n l) f).chan n.val = _ from this, List.length_modify]
    exact h.2

theorem Mod.video_of_chans (h : a.chans = m.chans) : a.video g = m.video g := by
  cases g <;> simp only [Mod.video, Mod.chan, h]

theorem Mod.receives_of_chans (h : a.chans = m.chans) (hr : m.receives g) : a.receives g := by
  cases g <;> simpa only [Mod.receives, Mod.chan, h] using hr

theorem Mod.n_modVideo (f : VideoIn → VideoIn) {j t : Nat} : (m.modVideo g f).n j t = m.n j t := by
  cases g <;> rfl

theorem Mod.modVideo_keeps (f : VideoIn → VideoIn) : (m.modVideo g f).now = m.now ∧ (m.modVideo g f).tick = m.tick ∧ (m.modVideo g f).fam = m.fam := by
  cases g <;> exact ⟨rfl, rfl, rfl⟩

end

/-! ### Steps of the merge -/

/-- Steps of the merge: time stands, and of the objects only what a channel shows of its paths and, of its counters, those of a list
move. -/
structure Mod.merges (g : VideoTarget) (subs : List Nat) (a b : Mod) : Prop where
  receives : a.receives g → b.receives g
  now : b.now = a.now
  tick : b.tick = a.tick
  fam : b.fam = a.fam
  n : ∀ {j k : Nat}, k < 256 → j < 0x7400 → ¬(0x4100 ≤ j ∧ j < 0x4120) → (∀ i : Fin 32, g = .channel i → j = 0x4140 + i.val → k ∉ subs) →
    b.n j k = a.n j k

section
variable {g : VideoTarget} {subs : List Nat} {a b c : Mod}

theorem Mod.merges_refl : Mod.merges g subs a a := ⟨fun h => h, rfl, rfl, rfl, fun _ _ _ _ => rfl⟩

theorem Mod.merges_trans (h : Mod.merges g subs a b) (h' : Mod.merges g subs b c) : Mod.merges g subs a c :=
  ⟨fun hr => h'.receives (h.receives hr), h'.now.trans h.now, h'.tick.trans h.tick, h'.fam.trans h.fam,
    fun h1 h2 h3 h4 => (h'.n h1 h2 h3 h4).trans (h.n h1 h2 h3 h4)⟩

theorem Mod.merges_mono {more : List Nat} (h : Mod.merges g subs a b) (hs : subs ⊆ more) : Mod.merges g more a b :=
  ⟨h.receives, h.now, h.tick, h.fam, fun h1 h2 h3 h4 => h.n h1 h2 h3 fun i hi hj hk => h4 i hi hj (hs hk)⟩

theorem Mod.merges_modVideo (m : Mod) (g : VideoTarget) (f : VideoIn → VideoIn) : Mod.merges g subs m (m.modVideo g f) := by
  obtain ⟨hnow, htick, hfam⟩ := m.modVideo_keeps (g := g) f
  exact ⟨Mod.receives_modVideo f, hnow, htick, hfam, fun _ _ _ _ => Mod.n_modVideo f⟩

theorem Mod.stat_chans (m : Mod) (g : VideoTarget) (sub k : Nat) : (m.stat g sub k).chans = m.chans := by
  cases g with
  | channel n => exact Mod.count_chans ..
  | layer n l => rfl

theorem Mod.stat_video (m : Mod) (sub k : Nat) : (m.stat g sub k).video g = m.video g := Mod.video_of_chans (m.stat_chans g sub k)

theorem Mod.merges_stat (m : Mod) (g : VideoTarget) {sub : Nat} (k : Nat) (hs : sub < 256) (h : sub ∈ subs) : Mod.merges g subs m (m.stat g sub k) := by
  cases g with
  | channel n =>
    have hn := n.isLt
    refine ⟨Mod.receives_of_chans (m.stat_chans _ sub k), Mod.count_now .., Mod.count_tick .., Mod.count_fam .., fun {j i} h1 h2 h3 h4 => ?_⟩
    refine congrArg Val.nat (m.get_count_frame (i := 0x4140 + n.val) (s := sub) (j := j) (t := i) k (by omega) fun heq => ?_)
    obtain rfl : i = sub := by omega
    exact h4 n rfl (by omega) h
  | layer n l => exact Mod.merges_refl

theorem Mod.merges_bump (m : Mod) (g : VideoTarget) {n sub : Nat} (hn : n < 32) (hs : sub < 256) (h : sub ∈ subs) (hg : g = .channel ⟨n, hn⟩) :
    Mod.merges g subs m (m.bump (0x4140 + n) sub) := by
  subst hg
  exact m.merges_stat _ 1 hs h

/-- What a channel counts, wherever nothing else has counted it. -/
theorem Mod.n_stat_counted {m : Mod} {n : Fin 32} {sub : Nat} (hs : sub < 256) (h : b.n (0x4140 + n.val) sub = m.n (0x4140 + n.val) sub) :
    (b.stat (.channel n) sub 1).n (0x4140 + n.val) sub = (m.bump (0x4140 + n.val) sub).n (0x4140 + n.val) sub :=
  Mod.n_bump_congr (by omega) h

/-! ### Paths heard, and copies -/

/-- A path's last packet. -/
def VideoIn.heard (v : VideoIn) (path : Path) (now : Nanos) : VideoIn :=
  match path with
  | .red => { v with redAt := some now }
  | .blue => { v with blueAt := some now }

/-- A channel shows a path UP. -/
def Mod.showUp (m : Mod) (n p : Nat) : Mod :=
  if m.flag (0x4100 + n) (5 + p) then m
  else (m.putFlag (0x4100 + n) (5 + p) true).raiseClear 0x4004 (2 * n + p) [0x4003] [n, p]

theorem Mod.pathHeard_channel (m : Mod) (n : Fin 32) (path : Path) : m.pathHeard (.channel n) path
    = (m.modVideo (.channel n) fun v => v.heard path m.now).showUp n.val (if path = .red then 0 else 1) := rfl

theorem Mod.pathHeard_layer (m : Mod) (n : Fin 32) (l : Fin 4) (path : Path) : m.pathHeard (.layer n l) path
    = m.modVideo (.layer n l) fun v => v.heard path m.now := rfl

theorem Mod.showUp_part (m : Mod) (n p : Nat) {q : Part} (h : q ∉ [.objs, .raised, .conds]) : (m.showUp n p).part q = m.part q := by
  unfold Mod.showUp
  split
  · rfl
  · exact (Mod.raiseClear_part (m := m.putFlag (0x4100 + n) (5 + p) true) _ _ _ _ h).trans (Mod.putFlag_part (m := m) _ _ _ (by simp_all))

theorem Mod.n_showUp (m : Mod) {n p j k : Nat} (hn : n < 32) (hp : p < 2) (hj : j < 0x7400) (hk : k < 256) (h : ¬(0x4100 ≤ j ∧ j < 0x4120)) :
    (m.showUp n p).n j k = m.n j k := by
  unfold Mod.showUp
  split
  · rfl
  · exact congrArg Val.nat ((Mod.get_raiseClear_frame _ _ _ _ _ (.inl (by omega))).trans (Mod.get_putFlag_frame _ _ (by omega) (by omega)))

theorem Mod.flag_showUp (m : Mod) {n p : Nat} (hn : n < 32) (hp : p < 2) : (m.showUp n p).flag (0x4100 + n) (5 + p) = true := by
  unfold Mod.showUp
  split
  · assumption
  · unfold Mod.flag Mod.n
    rw [Mod.get_raiseClear_frame _ _ _ _ _ (.inl (by omega))]
    unfold Mod.putFlag
    rw [Mod.get_put_same _ _ (by omega)]
    rfl

theorem Mod.pathHeard_video {m : Mod} (path : Path) (h : m.receives g) : (m.pathHeard g path).video g = (m.video g).heard path m.now := by
  cases g with
  | channel n =>
    rw [m.pathHeard_channel, Mod.video_of_chans (Mod.showUp_part _ n.val _ (q := .chans) (by decide))]
    exact Mod.video_modVideo _ h
  | layer n l => exact Mod.video_modVideo _ h

theorem Mod.merges_pathHeard (m : Mod) (g : VideoTarget) (path : Path) : Mod.merges g subs m (m.pathHeard g path) := by
  cases g with
  | channel n =>
    have hn := n.isLt
    have hp : (if path = .red then 0 else 1) < 2 := by split <;> decide
    refine Mod.merges_trans (m.merges_modVideo _ fun v => v.heard path m.now) ?_
    generalize hp' : (if path = .red then 0 else 1) = p at hp
    rw [m.pathHeard_channel, hp']
    generalize m.modVideo (.channel n) (fun v => v.heard path m.now) = b
    exact ⟨Mod.receives_of_chans (b.showUp_part n.val p (q := .chans) (by decide)), b.showUp_part n.val p (q := .now) (by decide),
      b.showUp_part n.val p (q := .tick) (by decide), b.showUp_part n.val p (q := .fam) (by decide), fun h1 h2 h3 _ => b.n_showUp hn hp h2 h1 h3⟩
  | layer n l => exact m.merges_modVideo _ _

theorem Mod.flag_pathHeard (m : Mod) (n : Fin 32) (path : Path) : (m.pathHeard (.channel n) path).flag (0x4100 + n.val) (if path = .red then 5 else 6) = true := by
  rw [m.pathHeard_channel]
  cases path
  · exact Mod.flag_showUp _ n.isLt (by decide)
  · exact Mod.flag_showUp _ n.isLt (by decide)

theorem Mod.noteSkew_chans (m : Mod) (g : VideoTarget) (s : Seen) (path : Path) : (m.noteSkew g s path).chans = m.chans := by
  unfold Mod.noteSkew
  split
  · rfl
  · split
    · rfl
    · exact (Mod.putMax_chans ..).trans (Mod.put_chans ..)

theorem Mod.merges_noteSkew (m : Mod) (g : VideoTarget) (s : Seen) (path : Path) : Mod.merges g subs m (m.noteSkew g s path) := by
  have hchans := m.noteSkew_chans g s path
  cases g with
  | channel n =>
    have hn := n.isLt
    unfold Mod.noteSkew at hchans ⊢
    dsimp only at hchans ⊢
    split
    · exact Mod.merges_refl
    · next hne =>
      rw [if_neg hne] at hchans
      refine ⟨Mod.receives_of_chans hchans, (Mod.putMax_now ..).trans (Mod.put_now ..), (Mod.putMax_tick ..).trans (Mod.put_tick ..),
        (Mod.putMax_fam ..).trans (Mod.put_fam ..), fun h1 h2 h3 _ => congrArg Val.nat ?_⟩
      exact (Mod.get_putMax_frame _ _ (by omega) (by omega)).trans (Mod.get_put_frame _ _ (by omega) (by omega))
  | layer n l => exact Mod.merges_refl

/-- A further copy counts as a duplicate or as a skew violation. -/
theorem Mod.noteCopy_shows (m : Mod) (g : VideoTarget) (window : Nanos) (s : Seen) (path : Path) :
    Mod.merges g [5, 6] m (m.noteCopy g window s path) ∧ (m.noteCopy g window s path).chans = m.chans
      ∧ ∀ n : Fin 32, g = .channel n → (m.noteCopy g window s path).n (0x4140 + n.val) (if window < m.now - s.at_ then 6 else 5)
        = (m.bump (0x4140 + n.val) (if window < m.now - s.at_ then 6 else 5)).n (0x4140 + n.val) (if window < m.now - s.at_ then 6 else 5) := by
  have hskew : Mod.merges g [5, 6] m (m.noteSkew g s path) := m.merges_noteSkew g s path
  have hsub : (if window < m.now - s.at_ then 6 else 5) < 256 ∧ (if window < m.now - s.at_ then 6 else 5) ∈ [5, 6] := by split <;> decide
  unfold Mod.noteCopy
  refine ⟨Mod.merges_trans hskew (Mod.merges_stat _ g 1 hsub.1 hsub.2), (Mod.stat_chans ..).trans (m.noteSkew_chans ..), fun n hg => ?_⟩
  subst hg
  have hn := n.isLt
  have hnone : Mod.merges (.channel n) [] m (m.noteSkew (.channel n) s path) := m.merges_noteSkew _ s path
  exact Mod.n_stat_counted hsub.1 (hnone.n hsub.1 (by omega) (by omega) fun _ _ _ h => absurd h List.not_mem_nil)

end

/-! ### A packet of a target -/

section
variable (m : Mod) (g : VideoTarget) (path : Path) (p : VideoPkt)

/-- A packet is counted on its path. -/
def Mod.packetCame : Mod := m.stat g (if path = .red then 1 else 2) 1

/-- It is counted, and the numbers no longer held are dropped. -/
def Mod.packetOpen : Mod :=
  (m.packetCame g path).modVideo g fun v => { v with seen := keptNumbers (m.packetCame g path).now ((m.packetCame g path).skewWindow (targetChan g)) v.seen }

/-- What the judgement of a packet comes to. -/
def Mod.packetJudged : Verdict → Mod
  | .malformed => (m.notePacket g true).stat g 9 1
  | .mismatchedTime => (m.notePacket g true).stat g 8 1
  | .fieldBit => (m.notePacket g true).stat g 0x0A 1
  | .older => (m.notePacket g false).stat g 7 1
  | .placed f => (m.notePacket g false).placeSrds g path f p

variable {m g path p}

theorem Mod.takeVideo_idle (h : (m.video g).runs = [] ∨ m.takesPackets g = false) : m.takeVideo g path p = m := by
  unfold Mod.takeVideo
  rw [if_pos]
  simpa using h

section
variable (hr : (m.video g).runs ≠ []) (ht : m.takesPackets g = true)
include hr ht

theorem Mod.takeVideo_full (hf : p.bufferFull = true) :
    m.takeVideo g path p = (((m.packetCame g path).notePacket g false).stat g 0x16 1).bump 0x4200 3 := by
  unfold Mod.takeVideo
  rw [if_neg (by simp [hr, ht])]
  exact if_pos hf

theorem Mod.takeVideo_copy (hf : p.bufferFull = false) {y : Seen} (hy : ((m.packetOpen g path).video g).seen.find? (fun s => s.seq = p.seq) = some y) :
    m.takeVideo g path p
      = (((m.packetOpen g path).pathHeard g path).noteCopy g ((m.packetCame g path).skewWindow (targetChan g)) y path).notePacket g false := by
  unfold Mod.takeVideo
  rw [if_neg (by simp [hr, ht])]
  dsimp only
  rw [if_neg (by rw [hf]; decide)]
  split
  · next s hs =>
    obtain rfl : s = y := Option.some.inj (hs.symm.trans hy)
    rfl
  · next hs => exact absurd (hs.symm.trans hy) (by simp)

theorem Mod.takeVideo_new (hf : p.bufferFull = false) (hy : ((m.packetOpen g path).video g).seen.find? (fun s => s.seq = p.seq) = none) :
    m.takeVideo g path p = (m.packetOpen g path).packetJudged g path p ((m.packetOpen g path).judge g ((m.packetOpen g path).video g) p) := by
  unfold Mod.takeVideo
  rw [if_neg (by simp [hr, ht])]
  dsimp only
  rw [if_neg (by rw [hf]; decide)]
  split
  · next s hs => exact absurd (hs.symm.trans hy) (by simp)
  · rfl

end

theorem targetChan_lt (g : VideoTarget) : targetChan g < 32 := by
  cases g with
  | channel n => exact n.isLt
  | layer n l => exact n.isLt

theorem Mod.skewWindow_congr {a : Mod} {n : Nat} (h : ∀ k < 256, a.n (0x4000 + n) k = m.n (0x4000 + n) k) : a.skewWindow n = m.skewWindow n := by
  unfold Mod.skewWindow Mod.sourceEngine
  rw [h 1 (by decide), h 0x0C (by decide)]

theorem Mod.packetCame_merges (m : Mod) (g : VideoTarget) (path : Path) : Mod.merges g [1, 2] m (m.packetCame g path) := by
  unfold Mod.packetCame
  split
  · exact m.merges_stat g 1 (by decide) (by decide)
  · exact m.merges_stat g 1 (by decide) (by decide)

theorem Mod.skewWindow_packetCame : (m.packetCame g path).skewWindow (targetChan g) = m.skewWindow (targetChan g) := by
  have hlt := targetChan_lt g
  exact Mod.skewWindow_congr fun k hk => (m.packetCame_merges g path).n hk (by omega) (by omega) fun i _ h => absurd h (by omega)

/-- The numbers still held when a packet comes. -/
def Mod.keptSeen (m : Mod) (g : VideoTarget) : List Seen := keptNumbers m.now (m.skewWindow (targetChan g)) (m.video g).seen

theorem Mod.packetOpen_merges (m : Mod) (g : VideoTarget) (path : Path) : Mod.merges g [1, 2] m (m.packetOpen g path) :=
  Mod.merges_trans (m.packetCame_merges g path) (Mod.merges_modVideo _ _ _)

theorem Mod.packetOpen_video (h : m.receives g) : (m.packetOpen g path).video g = { m.video g with seen := m.keptSeen g } := by
  unfold Mod.packetOpen
  rw [Mod.video_modVideo _ ((m.packetCame_merges g path).receives h), m.skewWindow_packetCame, (m.packetCame_merges g path).now]
  unfold Mod.packetCame Mod.keptSeen
  rw [m.stat_video]

/-- A judgement rests on the payload type, the runs and time. -/
theorem Mod.judge_congr {a : Mod} (hpt : a.videoPt g = m.videoPt g) (hnow : a.now = m.now) (hfam : a.fam = m.fam) (htick : a.tick = m.tick)
    (v : VideoIn) (l : List Seen) : a.judge g { v with seen := l } p = m.judge g v p := by
  unfold Mod.judge Mod.frameNamed Mod.frameOfTimestamp
  rw [hpt, hnow, hfam, htick]
  rfl

theorem Mod.judge_packetOpen (h : m.receives g) : (m.packetOpen g path).judge g ((m.packetOpen g path).video g) p = m.judge g (m.video g) p := by
  have hm := m.packetOpen_merges g path
  rw [Mod.packetOpen_video h]
  refine Mod.judge_congr ?_ hm.now hm.fam hm.tick _ _
  cases g with
  | channel n =>
    have := n.isLt
    exact hm.n (by decide) (by omega) (by omega) fun i _ h => absurd h (by omega)
  | layer n l =>
    have := n.isLt
    have := l.isLt
    exact hm.n (by decide) (by unfold layerOf; omega) (by unfold layerOf; omega) fun i hi => nomatch hi

theorem Mod.merges_notePacket (m : Mod) (g : VideoTarget) (bad : Bool) {subs : List Nat} : Mod.merges g subs m (m.notePacket g bad) := m.merges_modVideo g _

/-- What a discarded packet leaves: its cause counted, its number and its samples not. -/
theorem Mod.discarded_shows (h : m.receives g) (bad : Bool) {sub : Nat} (hs : sub < 256) (hsub : sub ∉ [1, 2]) :
    (∀ n : Fin 32, g = .channel n → (((m.packetOpen g path).notePacket g bad).stat g sub 1).n (0x4140 + n.val) sub
        = (m.bump (0x4140 + n.val) sub).n (0x4140 + n.val) sub)
      ∧ ((((m.packetOpen g path).notePacket g bad).stat g sub 1).video g).seen = m.keptSeen g
      ∧ ((((m.packetOpen g path).notePacket g bad).stat g sub 1).video g).receptions = (m.video g).receptions := by
  have hm := Mod.merges_trans (m.packetOpen_merges g path) ((m.packetOpen g path).merges_notePacket g bad)
  have hvideo : (((m.packetOpen g path).notePacket g bad).stat g sub 1).video g
      = { (m.video g) with
          seen := m.keptSeen g, arrived := (m.video g).arrived + 1, mismatched := (m.video g).mismatched + (if bad then 1 else 0) } := by
    rw [Mod.stat_video]
    unfold Mod.notePacket
    rw [Mod.video_modVideo _ ((m.packetOpen_merges g path).receives h), Mod.packetOpen_video h]
  rw [hvideo]
  refine ⟨fun n hg => ?_, rfl, rfl⟩
  subst hg
  have := n.isLt
  exact Mod.n_stat_counted hs (hm.n hs (by omega) (by omega) fun i hi hj => hsub)

/-! ### SRDs that take their places (R44, R45, R49) -/

variable (m g path p)

/-- The reception of a picture as it stands. -/
def VideoIn.receptionOf (v : VideoIn) (frame : Nat) (now : Nanos) : Reception := (v.receptions.find? fun r => r.frame = frame).getD ⟨frame, [], [], now⟩

/-- SRDs in time have joined the reception of their picture, and the packet's number is held. -/
def VideoIn.placed (v : VideoIn) (frame : Nat) (got : Reception) (s : Seen) : VideoIn :=
  { v with receptions := (v.receptions.filter fun r => r.frame ≠ frame) ++ [got], seen := v.seen ++ [s] }

/-- A packet of which SRDs are in time is taken. -/
def Mod.packetPlaced (frame : Nat) (got : Reception) : Mod :=
  ((m.pathHeard g path).modVideo g fun v => v.placed frame got ⟨p.seq, m.now, path⟩).stat g (if path = .red then 3 else 4) 1

theorem Mod.placeSrds_eq {frame : Nat} {r : Run} (hr : (m.video g).runOf frame = some r) (hx : (splitLate r.grid frame m.tick p.srds).1 ≠ []) :
    ∃ (margin : Option Int) (got : Reception),
      got.frame = ((m.video g).receptionOf frame m.now).frame
      ∧ got.srds = ((m.video g).receptionOf frame m.now).srds
        ++ (splitLate r.grid frame m.tick p.srds).1.map (fun s => (⟨s.row, s.offset, srdPixels r.grid.fmt s, s.samples⟩ : Srd))
      ∧ m.placeSrds g path frame p = (
        let a := (m.modRun g r.grid.first fun r => { r with margin := margin }).packetPlaced g path p frame got
        if (splitLate r.grid frame m.tick p.srds).2 = [] then a else a.stat g 7 1) := by
  unfold Mod.placeSrds
  rw [hr]
  dsimp only
  refine ⟨_, _, ?_, ?_, by rw [if_neg hx]; rfl⟩
  · rfl
  · rfl

variable {m g path p}

theorem VideoIn.receptionOf_frame (v : VideoIn) (frame : Nat) (now : Nanos) : (v.receptionOf frame now).frame = frame := by
  unfold VideoIn.receptionOf
  cases h : v.receptions.find? fun r => r.frame = frame with
  | none => rfl
  | some x =>
    have hx := List.find?_some h
    exact of_decide_eq_true hx

theorem mem_splitLate {gr : Grid} {frame T : Nat} {srds : List WireSrd} {z : WireSrd} (hz : z ∈ srds)
    (ht : T < gr.receipt frame (courseOfLine gr.fmt.size z.row)) : z ∈ (splitLate gr frame T srds).1 := by
  unfold splitLate
  rw [List.partition_eq_filter_filter]
  exact List.mem_filter.mpr ⟨hz, decide_eq_true ht⟩

theorem Mod.pathSub_lt (path : Path) : (if path = .red then 3 else 4) < 256 ∧ (if path = .red then 3 else 4) ∈ [3, 4] := by split <;> decide

/-- A packet of which SRDs are in time: held, counted, its path UP, its samples in the reception of their picture. -/
theorem Mod.packetPlaced_shows (h : m.receives g) (frame : Nat) (got : Reception) :
    let a := m.packetPlaced g path p frame got
    a.video g = ((m.video g).heard path m.now).placed frame got ⟨p.seq, m.now, path⟩
      ∧ Mod.merges g [3, 4] m a
      ∧ (∀ n : Fin 32, g = .channel n → a.flag (0x4100 + n.val) (if path = .red then 5 else 6) = true
        ∧ a.n (0x4140 + n.val) (if path = .red then 3 else 4) = (m.bump (0x4140 + n.val) (if path = .red then 3 else 4)).n (0x4140 + n.val) (if path = .red then 3 else 4)) := by
  have hsub := Mod.pathSub_lt path
  have hheard : Mod.merges g [] m ((m.pathHeard g path).modVideo g fun v => v.placed frame got ⟨p.seq, m.now, path⟩) :=
    Mod.merges_trans (m.merges_pathHeard g path) (Mod.merges_modVideo _ _ _)
  unfold Mod.packetPlaced
  refine ⟨?_, Mod.merges_trans (Mod.merges_mono hheard (List.nil_subset _)) (Mod.merges_stat _ g 1 hsub.1 hsub.2), fun n hg => ?_⟩
  · rw [Mod.stat_video, Mod.video_modVideo _ ((m.merges_pathHeard (subs := []) g path).receives h), Mod.pathHeard_video path h]
  · subst hg
    have := n.isLt
    refine ⟨?_, Mod.n_stat_counted hsub.1 (hheard.n hsub.1 (by omega) (by omega) fun _ _ _ h => absurd h List.not_mem_nil)⟩
    have hflag := m.flag_pathHeard n path
    unfold Mod.flag at hflag ⊢
    have hcount (b : Mod) (k : Nat) (hk : k < 256) : (b.stat (.channel n) (if path = .red then 3 else 4) 1).n (0x4100 + n.val) k = b.n (0x4100 + n.val) k :=
      congrArg Val.nat (Mod.get_count_frame _ (i := 0x4140 + n.val) 1 (by omega) (by omega))
    rw [hcount _ _ (by split <;> decide), Mod.n_modVideo]
    exact hflag

/-- A placed packet, step by step. -/
theorem Mod.placed_shows (h : m.receives g) {f : Nat} {r : Run} (hr : (m.video g).runOf f = some r)
    (hx : (splitLate r.grid f m.tick p.srds).1 ≠ []) :
    let a := (m.packetOpen g path).packetJudged g path p (.placed f)
    (⟨p.seq, m.now, path⟩ : Seen) ∈ (a.video g).seen
      ∧ (∀ n : Fin 32, g = .channel n → a.n (0x4140 + n.val) (if path = .red then 3 else 4)
        = (m.bump (0x4140 + n.val) (if path = .red then 3 else 4)).n (0x4140 + n.val) (if path = .red then 3 else 4))
      ∧ (path = .red → (a.video g).redAt = some m.now) ∧ (path = .blue → (a.video g).blueAt = some m.now)
      ∧ (∀ n : Fin 32, g = .channel n → a.flag (0x4100 + n.val) (if path = .red then 5 else 6) = true)
      ∧ ∃ x ∈ (a.video g).receptions, x.frame = f ∧ ∀ z ∈ p.srds,
        m.tick < r.grid.receipt f (courseOfLine r.grid.fmt.size z.row) →
        (⟨z.row, z.offset, srdPixels r.grid.fmt z, z.samples⟩ : Srd) ∈ x.srds := by
  have hopen := m.packetOpen_merges g path
  have hnote := Mod.merges_trans hopen ((m.packetOpen g path).merges_notePacket g false)
  have hruns : (((m.packetOpen g path).notePacket g false).video g).runOf f = some r := by
    unfold Mod.notePacket
    rw [Mod.video_modVideo _ (hopen.receives h), Mod.packetOpen_video h]
    exact hr
  have hrecv := hnote.receives h
  unfold Mod.packetJudged
  dsimp only
  generalize (m.packetOpen g path).notePacket g false = c at hnote hruns hrecv ⊢
  have hxc : (splitLate r.grid f c.tick p.srds).1 ≠ [] := by rw [hnote.tick]; exact hx
  obtain ⟨margin, got, hframe, hsrds, heq⟩ := c.placeSrds_eq g path p hruns hxc
  rw [hnote.tick] at heq hsrds
  rw [heq]
  dsimp only
  have hrun : Mod.merges g [1, 2] m (c.modRun g r.grid.first fun r => { r with margin := margin }) :=
    Mod.merges_trans hnote (Mod.merges_modVideo _ _ _)
  generalize c.modRun g r.grid.first (fun r => { r with margin := margin }) = d at hrun ⊢
  obtain ⟨hvideo, hmerges, hshown⟩ := Mod.packetPlaced_shows (path := path) (p := p) (hrun.receives h) f got
  have hlate (b : Mod) : (if (splitLate r.grid f m.tick p.srds).2 = [] then b else b.stat g 7 1).video g = b.video g
      ∧ ∀ n : Fin 32, g = .channel n → (∀ k, k < 256 → (if (splitLate r.grid f m.tick p.srds).2 = [] then b else b.stat g 7 1).n (0x4100 + n.val) k = b.n (0x4100 + n.val) k)
        ∧ (∀ k, k < 256 → k ≠ 7 → (if (splitLate r.grid f m.tick p.srds).2 = [] then b else b.stat g 7 1).n (0x4140 + n.val) k = b.n (0x4140 + n.val) k) := by
    split
    · exact ⟨rfl, fun _ _ => ⟨fun _ _ => rfl, fun _ _ _ => rfl⟩⟩
    · refine ⟨b.stat_video 7 1, fun n hg => ?_⟩
      subst hg
      have := n.isLt
      exact ⟨fun k hk => congrArg Val.nat (Mod.get_count_frame _ (i := 0x4140 + n.val) 1 (by omega) (by omega)),
        fun k hk h7 => congrArg Val.nat (Mod.get_count_frame _ (i := 0x4140 + n.val) 1 (by omega) (by omega))⟩
  generalize d.packetPlaced g path p f got = e at hvideo hmerges hshown ⊢
  obtain ⟨hv, hn⟩ := hlate e
  generalize (if (splitLate r.grid f m.tick p.srds).2 = [] then e else e.stat g 7 1) = a at hv hn ⊢
  have hsub := Mod.pathSub_lt path
  rw [hv, hvideo, hrun.now]
  refine ⟨List.mem_append_right _ (List.mem_singleton_self _), fun n hg => ?_, fun hp => ?_, fun hp => ?_, fun n hg => ?_,
    got, List.mem_append_right _ (List.mem_singleton_self _), hframe.trans (VideoIn.receptionOf_frame _ _ _), fun z hz ht => ?_⟩
  · have hlt := n.isLt
    rw [(hn n hg).2 _ hsub.1 (by split <;> decide), (hshown n hg).2]
    refine Mod.n_bump_congr (by omega) (hrun.n hsub.1 (by omega) (by omega) fun _ _ _ => ?_)
    split <;> decide
  · subst hp
    rfl
  · subst hp
    rfl
  · have := (hshown n hg).1
    unfold Mod.flag at this ⊢
    rwa [(hn n hg).1 _ (by split <;> decide)]
  · rw [hsrds]
    exact List.mem_append_right _ (List.mem_map.mpr ⟨z, mem_splitLate hz ht, rfl⟩)

/-! ### A path's timeout, and the hold limit -/

theorem Mod.pathTimeout_shows (n : Fin 32) {at_ : Nanos} (hlast : (if path = .red then (m.chan n.val).video.redAt else (m.chan n.val).video.blueAt) = some at_) :
    m.pathTimeout (.channel n) path = if m.flag (0x4100 + n.val) (if path = .red then 5 else 6) = true ∧ at_ + m.n (0x4000 + n.val) 0x0D ≤ m.now then
      (m.putFlag (0x4100 + n.val) (if path = .red then 5 else 6) false).raiseCond 0x4003 (2 * n.val + ((if path = .red then 5 else 6) - 5))
        [n.val, (if path = .red then 5 else 6) - 5]
    else m := by
  unfold Mod.pathTimeout Mod.video
  dsimp only
  rw [hlast]
  cases path <;> rfl

theorem Mod.pathTimeout_none (n : Fin 32) (hlast : (if path = .red then (m.chan n.val).video.redAt else (m.chan n.val).video.blueAt) = none) :
    m.pathTimeout (.channel n) path = m := by
  unfold Mod.pathTimeout Mod.video
  dsimp only
  rw [hlast]

/-- The run that is newest, if any is. -/
def Mod.lastRun (m : Mod) (n : Nat) : Run := (m.chan n).video.runs.getLast?.getD default

theorem Mod.holdLimit_eq (m : Mod) (n : Fin 32) : m.holdLimit n.val
    = if (m.lastRun n.val).lost && (m.policySnap n.val m.tick).policy = 0 && (m.policySnap n.val m.tick).hold ≠ 0
        && (m.policySnap n.val m.tick).hold ≤ (m.lastRun n.val).heldPics && !(m.lastRun n.val).holdReached then
      (m.modRun (.channel n) (m.lastRun n.val).grid.first fun r => { r with holdReached := true }).raise 0x400A n.val [n.val]
    else m := by
  have hn : Fin.ofNat 32 n.val = n := Fin.ext (Nat.mod_eq_of_lt n.isLt)
  unfold Mod.holdLimit
  rw [hn]
  rfl

theorem Mod.holdLimit_run (n : Fin 32) (hl : (m.lastRun n.val).lost = true) :
    ∃ x ∈ ((m.modRun (.channel n) (m.lastRun n.val).grid.first fun r => { r with holdReached := true }).chan n.val).video.runs,
      x.grid = (m.lastRun n.val).grid ∧ x.holdReached = true := by
  have hmem : m.lastRun n.val ∈ (m.chan n.val).video.runs := by
    unfold Mod.lastRun at hl ⊢
    cases h : (m.chan n.val).video.runs.getLast? with
    | none =>
      rw [h] at hl
      exact absurd hl (by decide)
    | some r => exact List.mem_of_getLast? h
  have hr : m.receives (.channel n) := Mod.receives_of_runs (List.ne_nil_of_mem hmem)
  have hvideo : ((m.modRun (.channel n) (m.lastRun n.val).grid.first fun r => { r with holdReached := true }).chan n.val).video
      = { (m.chan n.val).video with runs := (m.chan n.val).video.runs.map fun r =>
          if r.grid.first = (m.lastRun n.val).grid.first then { r with holdReached := true } else r } :=
    Mod.video_modVideo _ hr
  rw [hvideo]
  refine ⟨{ m.lastRun n.val with holdReached := true }, List.mem_map.mpr ⟨m.lastRun n.val, hmem, if_pos rfl⟩, rfl, rfl⟩

end

/-- Settles O18: a packet by what R49 makes of it, a path by its timeout, a hold by its limit. -/
theorem videoFlowsAreReceived : Obligations.VideoFlowsAreReceived := by
  unfold Obligations.VideoFlowsAreReceived
  refine ⟨fun s t g path p hs => ?_, fun s t n hs => ?_⟩
  · intro m v kept counted
    have hb : m.rebooting = false := hs.2
    have htake {m' : Mod} (heq : m.takeVideo g path p = m') {P : Mod → Prop} (hP : P m') (hp : ∀ m, P m → P { m with rebooting := false }) :
        Completes (.videoPacket t g path p) s P := completes_act (g := fun m => m.takeVideo g path p) rfl hs (by rw [heq]; exact hP) hp
    have hvid (a : Mod) (x : Bool) : ({ a with rebooting := x } : Mod).video g = a.video g := Mod.video_of_chans rfl
    refine ⟨fun hn => does_act (g := fun m => m.takeVideo g path p) hs rfl (Mod.takeVideo_idle hn) hb, fun hruns htakes => ?_⟩
    have hrecv := Mod.receives_of_runs hruns
    have hopen := Mod.packetOpen_video (path := path) hrecv
    refine ⟨fun hf => ?_, fun hf y hy => ?_, fun hf hnew => ?_⟩
    · have hcame := m.packetCame_merges g path
      have hnote := Mod.merges_trans hcame ((m.packetCame g path).merges_notePacket g false)
      have hvideo : (((m.packetCame g path).notePacket g false).video g) = { v with arrived := v.arrived + 1, mismatched := v.mismatched + 0 } := by
        unfold Mod.notePacket
        rw [Mod.video_modVideo _ (hcame.receives hrecv)]
        unfold Mod.packetCame
        rw [Mod.stat_video]
        rfl
      refine htake (Mod.takeVideo_full hruns htakes hf) ?_ fun a h => by rw [hvid]; exact h
      generalize (m.packetCame g path).notePacket g false = c at hnote hvideo
      have hstat := Mod.merges_trans (Mod.merges_mono hnote (by decide : [1, 2] ⊆ [1, 2, 0x16])) (c.merges_stat g (sub := 0x16) 1 (by decide) (by decide))
      have hv : ((c.stat g 0x16 1).bump 0x4200 3).video g = c.video g := (Mod.video_of_chans (Mod.bump_chans ..)).trans (c.stat_video 0x16 1)
      rw [hv, hvideo]
      refine ⟨fun n hg => ?_, Mod.n_bump_congr (by decide) (hstat.n (by decide) (by decide) (by decide) fun i _ h => absurd h (by omega)), rfl, rfl⟩
      subst hg
      have := n.isLt
      refine (congrArg Val.nat (Mod.get_bump_frame _ (by decide) (by omega))).trans (Mod.n_stat_counted (by decide) ?_)
      exact hnote.n (by decide) (by omega) (by omega) fun _ _ _ => by decide
    · have hy' : ((m.packetOpen g path).video g).seen.find? (fun s => s.seq = p.seq) = some y := by rw [hopen]; exact hy
      have hmerges := m.packetOpen_merges g path
      have hrecv' := hmerges.receives hrecv
      have hheard := Mod.merges_trans hmerges ((m.packetOpen g path).merges_pathHeard g path)
      have hvideo := (Mod.pathHeard_video path hrecv').trans (congrArg (fun v => VideoIn.heard v path (m.packetOpen g path).now) hopen)
      refine htake (Mod.takeVideo_copy hruns htakes hf hy') ?_ fun a h => by rw [hvid]; exact h
      rw [m.skewWindow_packetCame]
      generalize (m.packetOpen g path).pathHeard g path = c at hheard hvideo
      obtain ⟨hcopy, hchans, hcount⟩ := c.noteCopy_shows g (m.skewWindow (targetChan g)) y path
      rw [hheard.now] at hcount
      have hv : ((c.noteCopy g (m.skewWindow (targetChan g)) y path).notePacket g false).video g
          = { c.video g with arrived := (c.video g).arrived + 1, mismatched := (c.video g).mismatched + 0 } := by
        unfold Mod.notePacket
        rw [Mod.video_modVideo _ (hcopy.receives (hheard.receives hrecv)), Mod.video_of_chans hchans]
        rfl
      rw [hv, hvideo]
      refine ⟨by cases path <;> rfl, by cases path <;> rfl, fun n hg => ?_⟩
      have := n.isLt
      have hsub : (if m.skewWindow (targetChan g) < m.now - y.at_ then 6 else 5) < 256
          ∧ (if m.skewWindow (targetChan g) < m.now - y.at_ then 6 else 5) ∉ [1, 2] := by split <;> decide
      refine Eq.trans (Mod.n_modVideo _) ((hcount n hg).trans (Mod.n_bump_congr (by omega) ?_))
      exact hheard.n hsub.1 (by omega) (by omega) fun _ _ _ => hsub.2
    · have hy' : ((m.packetOpen g path).video g).seen.find? (fun s => s.seq = p.seq) = none := by
        rw [hopen]
        exact List.find?_eq_none.mpr fun y hy h => hnew y hy (of_decide_eq_true h)
      have heq := Mod.takeVideo_new hruns htakes hf hy'
      rw [Mod.judge_packetOpen hrecv] at heq
      refine ⟨fun sub hsub => ?_, fun f r hplaced hr hx => ?_⟩
      · obtain ⟨bad, heq', hs', hne⟩ : ∃ bad, m.takeVideo g path p = ((m.packetOpen g path).notePacket g bad).stat g sub 1 ∧ sub < 256 ∧ sub ∉ [1, 2] := by
          obtain ⟨hj, rfl⟩ | ⟨hj, rfl⟩ | ⟨hj, rfl⟩ | ⟨hj, rfl⟩ := hsub <;> rw [hj] at heq <;> exact ⟨_, heq, by decide, by decide⟩
        exact htake heq' (Mod.discarded_shows hrecv bad hs' hne) fun a h => by rw [hvid]; exact h
      · rw [hplaced] at heq
        exact htake heq (Mod.placed_shows hrecv hr hx) fun a h => by rw [hvid]; exact h
  · intro m
    have hb : m.rebooting = false := hs.2
    refine ⟨fun path => ?_, ?_⟩
    · intro last sub
      have hsub : sub < 256 := by show (if path = .red then 5 else 6) < 256; split <;> decide
      refine ⟨fun a ha hf hle => ?_, fun hn => ?_, fun l => does_act (g := fun m => m.pathTimeout (.layer n l) path) hs rfl rfl hb⟩
      · have heq := (Mod.pathTimeout_shows n ha).trans (if_pos ⟨hf, hle⟩)
        have hlt := n.isLt
        refine completes_act (g := fun m => m.pathTimeout (.channel n) path) rfl hs ?_ fun _ h => h
        show (m.pathTimeout (.channel n) path).flag _ _ = false ∧ (m.pathTimeout (.channel n) path).condSet _ _ = true
        rw [heq]
        refine ⟨?_, Mod.condSet_raiseCond _ _ _ _⟩
        unfold Mod.flag Mod.n
        rw [Mod.get_raiseCond_frame _ _ _ _ (.inl (by omega))]
        unfold Mod.putFlag
        rw [Mod.get_put_same _ _ (by omega)]
        rfl
      · refine does_act (g := fun m => m.pathTimeout (.channel n) path) hs rfl ?_ hb
        obtain hnone | ⟨a, ha⟩ := Option.eq_none_or_eq_some last
        · exact Mod.pathTimeout_none n hnone
        · refine (Mod.pathTimeout_shows n ha).trans (if_neg fun h => ?_)
          obtain hf | hlt := hn a ha
          · exact absurd (h.1.symm.trans hf) (by decide)
          · exact absurd h.2 (Nat.not_le.mpr hlt)
    · intro r limit due
      have heq := m.holdLimit_eq n
      have hdue : ((m.lastRun n.val).lost && (m.policySnap n.val m.tick).policy = 0 && (m.policySnap n.val m.tick).hold ≠ 0
          && (m.policySnap n.val m.tick).hold ≤ (m.lastRun n.val).heldPics && !(m.lastRun n.val).holdReached) = true ↔ due := by
        simp only [Bool.and_eq_true, decide_eq_true_eq, Bool.not_eq_true', and_assoc]
        rfl
      refine ⟨fun h => ?_, fun h => ?_⟩
      · have heq := heq.trans (if_pos (hdue.mpr h))
        refine completes_act (g := fun m => m.holdLimit n.val) rfl hs ?_ fun _ h => h
        show (m.holdLimit n.val).told _ _ _ ∧ ∃ x ∈ ((m.holdLimit n.val).chan n.val).video.runs, _
        rw [heq]
        refine ⟨Mod.raise_told _ _ _ _, ?_⟩
        unfold Mod.chan
        rw [Mod.raise_chans]
        exact m.holdLimit_run n h.1
      · exact does_act (g := fun m => m.holdLimit n.val) hs rfl (heq.trans (if_neg fun h' => h (hdue.mp h'))) hb

end Sys2Proof.Machine
end

section
/-! SUPPORT. Audio and ancillary flows: what each step of R56 to R58 leaves of a receiver. -/

namespace Sys2Proof.Machine

/-! ### The receivers of a channel -/

section
variable {m a : Mod} {n flow : Nat}

theorem Mod.chan_beyond (h : m.chans.length ≤ n) : m.chan n = default := by
  unfold Mod.chan nth
  rw [List.getD_eq_getElem?_getD, List.getElem?_eq_none h]
  rfl

theorem Mod.chan_of_chans (h : a.chans = m.chans) : a.chan n = m.chan n := by
  unfold Mod.chan
  rw [h]

theorem Mod.chan_lt_of_audio (h : flow < (m.chan n).audio.length) : n < m.chans.length := by
  refine Nat.lt_of_not_le fun hle => ?_
  rw [Mod.chan_beyond hle] at h
  exact absurd h (Nat.not_lt_zero _)

theorem Mod.chan_lt_of_anc (h : flow < (m.chan n).anc.length) : n < m.chans.length := by
  refine Nat.lt_of_not_le fun hle => ?_
  rw [Mod.chan_beyond hle] at h
  exact absurd h (Nat.not_lt_zero _)

/-- An audio receiver of a channel. -/
def Mod.audioIn (m : Mod) (n flow : Nat) : AudioIn := nth (m.chan n).audio flow

/-- An ancillary receiver of a channel. -/
def Mod.ancIn (m : Mod) (n flow : Nat) : AncIn := nth (m.chan n).anc flow

theorem Mod.audioIn_modAudio (f : AudioIn → AudioIn) (h : flow < (m.chan n).audio.length) : (m.modAudio n flow f).audioIn n flow = f (m.audioIn n flow) :=
  (congrArg (fun c => nth (ChanS.audio c) flow) (m.chan_modChan _ (Mod.chan_lt_of_audio h))).trans (nth_modify _ f h)

theorem Mod.chan_modAudio (f : AudioIn → AudioIn) (h : flow < (m.chan n).audio.length) :
    (m.modAudio n flow f).chan n = { m.chan n with audio := (m.chan n).audio.modify flow f } :=
  m.chan_modChan _ (Mod.chan_lt_of_audio h)

theorem Mod.chan_modAnc (f : AncIn → AncIn) (h : flow < (m.chan n).anc.length) :
    (m.modAnc n flow f).chan n = { m.chan n with anc := (m.chan n).anc.modify flow f } :=
  m.chan_modChan _ (Mod.chan_lt_of_anc h)

theorem Mod.ancIn_modAnc (f : AncIn → AncIn) (h : flow < (m.chan n).anc.length) : (m.modAnc n flow f).ancIn n flow = f (m.ancIn n flow) :=
  (congrArg (fun c => nth (ChanS.anc c) flow) (m.chan_modChan _ (Mod.chan_lt_of_anc h))).trans (nth_modify _ f h)

theorem flowTarget_eq (n : Fin 32) : flowTarget n.val = .channel n := congrArg VideoTarget.channel (Fin.ext (Nat.mod_eq_of_lt n.isLt))

theorem audioIn_lt_modAudio (f : AudioIn → AudioIn) (h : flow < (m.chan n).audio.length) : flow < ((m.modAudio n flow f).chan n).audio.length := by
  rw [Mod.chan_modAudio f h]
  exact (List.length_modify ..).symm ▸ h

theorem ancIn_lt_modAnc (f : AncIn → AncIn) (h : flow < (m.chan n).anc.length) : flow < ((m.modAnc n flow f).chan n).anc.length := by
  rw [Mod.chan_modAnc f h]
  exact (List.length_modify ..).symm ▸ h

end

/-! ### Audio packets (R44, R56) -/

section
variable {m : Mod} {n : Fin 32} {flow : Nat} {path : Path} {p : AudioPkt}

/-- An audio packet of its flow has come: the numbers no longer held are dropped. -/
def Mod.audioCame (m : Mod) (n flow : Nat) : Mod :=
  m.modAudio n flow fun a => { a with seen := keptNumbers m.now (m.skewWindow n) a.seen, lastAt := m.now }

/-- The samples of a packet, each with its number. -/
def numberedSamples (first : Nat) (l : List (List Nat)) : List (Nat × List Nat) := (List.range l.length).map fun i => (first + i, nth l i)

/-- The samples of a packet that courses have not yet passed. -/
def Mod.goodSamples (m : Mod) (n flow : Nat) (p : AudioPkt) : List (Nat × List Nat) :=
  (numberedSamples (m.sampleOfTimestamp p.timestamp) p.samples).filter fun x => m.audioSentTo n flow < x.1

theorem Mod.mem_goodSamples {i : Nat} (hi : i < p.samples.length) (h : m.audioSentTo n flow < m.sampleOfTimestamp p.timestamp + i) :
    (m.sampleOfTimestamp p.timestamp + i, nth p.samples i) ∈ m.goodSamples n flow p :=
  List.mem_filter.mpr ⟨List.mem_map.mpr ⟨i, List.mem_range.mpr hi, rfl⟩, decide_eq_true h⟩

/-- A receiver with a packet's samples taken: good ones join the ring, and the run of samples without a gap goes on or begins anew. -/
def AudioIn.taking (a : AudioIn) (gap : Bool) (good : List (Nat × List Nat)) (s : Seen) (first len passed : Nat) : AudioIn :=
  { a with
    seen := if good = [] then a.seen else a.seen ++ [s]
    ring := (a.ring.filter fun x => passed < x.1 + ringSamples) ++ good
    runSince := if gap then some s.at_ else a.runSince
    runFirst := if gap then first else a.runFirst
    runNext := if gap then first + len else max a.runNext (first + len) }

/-- A packet's samples taken, where its number is new. -/
def Mod.audioNew (m : Mod) (n flow : Nat) (path : Path) (p : AudioPkt) : Mod :=
  let first := m.sampleOfTimestamp p.timestamp
  let gap := (m.audioIn n flow).runSince = none || (m.audioIn n flow).runNext < first
  m.modAudio n flow fun a => a.taking gap (m.goodSamples n flow p) ⟨p.seq, m.now, path⟩ first p.samples.length (m.audioSentTo n flow)

theorem Mod.takeAudio_idle (h : ¬((m.chan n.val).video.runs ≠ [] ∧ m.audioBound n.val flow = true
    ∧ p.payloadType = m.n (0x4040 + n.val) (audioSub flow 3))) : m.takeAudio n.val flow path p = m := by
  unfold Mod.takeAudio
  refine if_pos ?_
  by_contra hc
  exact h (by simpa [and_assoc] using hc)

section
variable (h : (m.chan n.val).video.runs ≠ [] ∧ m.audioBound n.val flow = true ∧ p.payloadType = m.n (0x4040 + n.val) (audioSub flow 3))
include h

theorem Mod.takeAudio_copy {y : Seen} (hy : ((m.audioCame n.val flow).audioIn n.val flow).seen.find? (fun s => s.seq = p.seq) = some y) :
    m.takeAudio n.val flow path p = (m.audioCame n.val flow).noteCopy (.channel n) (m.skewWindow n.val) y path := by
  rw [← flowTarget_eq n]
  unfold Mod.takeAudio
  rw [if_neg (by simpa [and_assoc] using h)]
  dsimp only
  split
  · next s hs =>
    obtain rfl : s = y := Option.some.inj (hs.symm.trans hy)
    rfl
  · next hs => exact absurd (hs.symm.trans hy) (by simp)

theorem Mod.takeAudio_new (hy : ((m.audioCame n.val flow).audioIn n.val flow).seen.find? (fun s => s.seq = p.seq) = none) :
    m.takeAudio n.val flow path p = (
      let c := m.audioCame n.val flow
      if (c.goodSamples n.val flow p).length < (numberedSamples (c.sampleOfTimestamp p.timestamp) p.samples).length then
        (c.audioNew n.val flow path p).stat (.channel n) 0x12 1
      else c.audioNew n.val flow path p) := by
  rw [← flowTarget_eq n]
  unfold Mod.takeAudio
  rw [if_neg (by simpa [and_assoc] using h)]
  dsimp only
  split
  · next s hs => exact absurd (hs.symm.trans hy) (by simp)
  · rfl

end

variable (m n) in
theorem Mod.audioCame_shows (h : flow < (m.chan n.val).audio.length) :
    (m.audioCame n.val flow).audioIn n.val flow
      = { m.audioIn n.val flow with seen := keptNumbers m.now (m.skewWindow n.val) (m.audioIn n.val flow).seen, lastAt := m.now }
    ∧ (m.audioCame n.val flow).now = m.now ∧ (m.audioCame n.val flow).audioSentTo n.val flow = m.audioSentTo n.val flow
    ∧ (∀ j k, (m.audioCame n.val flow).n j k = m.n j k) ∧ flow < ((m.audioCame n.val flow).chan n.val).audio.length := by
  have hin : (m.audioCame n.val flow).audioIn n.val flow = _ := Mod.audioIn_modAudio _ h
  refine ⟨hin, rfl, ?_, fun _ _ => rfl, audioIn_lt_modAudio _ h⟩
  have hchan : (m.audioCame n.val flow).chan n.val = _ := Mod.chan_modAudio _ h
  have hsent : (nth ((m.audioCame n.val flow).chan n.val).audio flow).sentTo = (nth (m.chan n.val).audio flow).sentTo :=
    (congrArg AudioIn.sentTo hin :)
  have hruns : ((m.audioCame n.val flow).chan n.val).video = (m.chan n.val).video := (congrArg ChanS.video hchan :)
  unfold Mod.audioSentTo
  rw [hsent, hruns]
  rfl

theorem Mod.audioLoss_eq (m : Mod) (n flow : Nat) : m.audioLoss n flow
    = if m.fn (chanFid n) = running ∧ m.audioBound n flow = true ∧ (m.audioIn n flow).lost = false ∧ (m.audioIn n flow).lastAt + m.n (0x4040 + n) 0x1A ≤ m.now then
        (m.modAudio n flow fun a => { a with lost := true, runSince := none }).raiseCond 0x4005 (4 * n + flow) [n, flow]
      else m := by
  unfold Mod.audioLoss
  exact if_congr (by simp [and_assoc, Mod.audioIn]) rfl rfl

theorem Mod.audioRestore_none (h : (m.audioIn n.val flow).runSince = none) : m.audioRestore n.val flow = m := by
  unfold Mod.audioIn at h
  unfold Mod.audioRestore
  dsimp only
  rw [h]

theorem Mod.audioRestore_some {since : Nanos} (h : (m.audioIn n.val flow).runSince = some since) : m.audioRestore n.val flow
    = if (m.audioIn n.val flow).lost = true ∧ since + m.n (0x4040 + n.val) 0x1A ≤ m.now
        ∧ m.n (0x4040 + n.val) 0x1A * 48000 ≤ ((m.audioIn n.val flow).runNext - (m.audioIn n.val flow).runFirst) * second then
        (m.modAudio n.val flow fun a => { a with lost := false }).raiseClear 0x4006 (4 * n.val + flow) [0x4005] [n.val, flow]
      else m := by
  unfold Mod.audioIn at h ⊢
  unfold Mod.audioRestore
  dsimp only
  rw [h]
  exact if_congr (by simp [and_assoc]) rfl rfl

end

/-! ### Ancillary packets (R44, R58) -/

section
variable {m : Mod} {n : Fin 32} {flow : Nat} {path : Path} {p : AncPkt}

/-- An ancillary packet of its flow has come: the flow is lost no more. -/
def Mod.ancCame (m : Mod) (n flow : Nat) : Mod :=
  let a := m.modAnc n flow fun a =>
    { a with seen := keptNumbers m.now (m.skewWindow n) a.seen, quietFrom := (m.chan n).video.current m.tick + 34 * m.chanStep n, lost := false }
  if (m.ancIn n flow).lost then a.raiseClear 0x4008 (2 * n + flow) [0x4007] [n, flow] else a

/-- The picture an ancillary packet names, with its grid. -/
def Mod.ancPicture (m : Mod) (v : VideoIn) (ts : Nat) : Option (Nat × Grid) := (m.frameNamed v ts).bind fun f => (v.runOf f).map fun r => (f, r.grid)

/-- An ancillary packet whose number is new. -/
def Mod.ancNew (m : Mod) (n : Fin 32) (flow : Nat) (path : Path) (p : AncPkt) : Option (Nat × Grid) → Mod
  | none => m.stat (.channel n) 0x13 1
  | some (f, gr) =>
    if gr.receipt f 33 ≤ m.tick then m.stat (.channel n) 0x13 1
    else (m.modAnc n.val flow fun a => { a with seen := a.seen ++ [⟨p.seq, m.now, path⟩] }).placeAnc n.val f gr p.items

theorem Mod.ancNew_placed {x : Nat × Grid} (h : m.tick < x.2.receipt x.1 33) :
    m.ancNew n flow path p (some x)
      = (m.modAnc n.val flow fun a => { a with seen := a.seen ++ [⟨p.seq, m.now, path⟩] }).placeAnc n.val x.1 x.2 p.items :=
  if_neg (Nat.not_le.mpr h)

theorem Mod.ancNew_late {x : Nat × Grid} (h : x.2.receipt x.1 33 ≤ m.tick) : m.ancNew n flow path p (some x) = m.stat (.channel n) 0x13 1 :=
  if_pos h

theorem Mod.takeAnc_idle (h : ¬((m.chan n.val).video.runs ≠ [] ∧ p.payloadType = m.n (0x4080 + n.val) (3 * flow + 3))) :
    m.takeAnc n.val flow path p = m := by
  unfold Mod.takeAnc
  refine if_pos ?_
  by_contra hc
  exact h (by simpa using hc)

section
variable (h : (m.chan n.val).video.runs ≠ [] ∧ p.payloadType = m.n (0x4080 + n.val) (3 * flow + 3))
include h

theorem Mod.takeAnc_copy {y : Seen} (hy : ((m.ancCame n.val flow).ancIn n.val flow).seen.find? (fun s => s.seq = p.seq) = some y) :
    m.takeAnc n.val flow path p = (m.ancCame n.val flow).noteCopy (.channel n) (m.skewWindow n.val) y path := by
  rw [← flowTarget_eq n]
  unfold Mod.takeAnc
  rw [if_neg (by simpa using h)]
  dsimp only
  split
  · next s hs =>
    obtain rfl : s = y := Option.some.inj (hs.symm.trans hy)
    rfl
  · next hs => exact absurd (hs.symm.trans hy) (by simp)

theorem Mod.takeAnc_new (hy : ((m.ancCame n.val flow).ancIn n.val flow).seen.find? (fun s => s.seq = p.seq) = none) :
    m.takeAnc n.val flow path p
      = (m.ancCame n.val flow).ancNew n flow path p ((m.ancCame n.val flow).ancPicture (m.chan n.val).video p.timestamp) := by
  unfold Mod.ancNew
  rw [← flowTarget_eq n]
  unfold Mod.takeAnc
  rw [if_neg (by simpa using h)]
  dsimp only
  split
  · next s hs => exact absurd (hs.symm.trans hy) (by simp)
  · rfl

end

/-- Steps that leave alone an ancillary flow's loss and quiet, and what has been told. -/
structure Mod.ancSteps (n flow : Nat) (a b : Mod) : Prop where
  lost : (b.ancIn n flow).lost = (a.ancIn n flow).lost
  quietFrom : (b.ancIn n flow).quietFrom = (a.ancIn n flow).quietFrom
  raised : b.raised = a.raised

variable (m n) in
theorem Mod.ancCame_shows (h : flow < (m.chan n.val).anc.length) :
    let b := m.ancCame n.val flow
    b.ancIn n.val flow = ⟨keptNumbers m.now (m.skewWindow n.val) (m.ancIn n.val flow).seen, (m.chan n.val).video.current m.tick + 34 * m.chanStep n.val, false⟩
      ∧ ((m.ancIn n.val flow).lost = true → b.told 0x4008 (2 * n.val + flow) [n.val, flow])
      ∧ (b.chan n.val).ancData = (m.chan n.val).ancData ∧ flow < (b.chan n.val).anc.length
      ∧ b.now = m.now ∧ b.tick = m.tick ∧ b.fam = m.fam ∧ ∀ j k, j < 0x7000 → k < 256 → b.n j k = m.n j k := by
  unfold Mod.ancCame
  dsimp only
  generalize hb : m.modAnc n.val flow (fun a =>
    { a with seen := keptNumbers m.now (m.skewWindow n.val) a.seen, quietFrom := (m.chan n.val).video.current m.tick + 34 * m.chanStep n.val, lost := false }) = b
  have hchan := Mod.chan_modAnc (m := m) (n := n.val) (fun a : AncIn =>
    { a with seen := keptNumbers m.now (m.skewWindow n.val) a.seen, quietFrom := (m.chan n.val).video.current m.tick + 34 * m.chanStep n.val, lost := false }) h
  have hin := Mod.ancIn_modAnc (m := m) (n := n.val) (fun a : AncIn =>
    { a with seen := keptNumbers m.now (m.skewWindow n.val) a.seen, quietFrom := (m.chan n.val).video.current m.tick + 34 * m.chanStep n.val, lost := false }) h
  rw [hb] at hchan hin
  have hlen : flow < (b.chan n.val).anc.length := by
    rw [hchan]
    exact (List.length_modify ..).symm ▸ h
  have hdata : (b.chan n.val).ancData = (m.chan n.val).ancData := (congrArg ChanS.ancData hchan :)
  have hrest : b.now = m.now ∧ b.tick = m.tick ∧ b.fam = m.fam ∧ b.objs = m.objs := hb ▸ ⟨rfl, rfl, rfl, rfl⟩
  obtain ⟨hnow, htick, hfam, hobjs⟩ := hrest
  have hn (j k : Nat) : b.n j k = m.n j k := congrArg Val.nat (by unfold Mod.get; rw [hobjs])
  split
  · have hchans (n : Nat) : (b.raiseClear 0x4008 (2 * n + flow) [0x4007] [n, flow]).chans = b.chans := Mod.raiseClear_chans ..
    refine ⟨(congrArg (fun c => nth (ChanS.anc c) flow) (Mod.chan_of_chans (hchans n.val))).trans hin, fun _ => Mod.raiseClear_told _ _ _ _ _,
      (congrArg ChanS.ancData (Mod.chan_of_chans (hchans n.val))).trans hdata, ?_, (Mod.raiseClear_now ..).trans hnow, (Mod.raiseClear_tick ..).trans htick,
      (Mod.raiseClear_fam ..).trans hfam, fun j k hj hk => (congrArg Val.nat (Mod.get_raiseClear_frame _ _ _ _ _ (.inl (by omega)))).trans (hn j k)⟩
    rw [Mod.chan_of_chans (hchans n.val)]
    exact hlen
  · next hl => exact ⟨hin, fun ht => absurd ht hl, hdata, hlen, hnow, htick, hfam, fun j k _ _ => hn j k⟩

theorem Mod.ancPicture_ancCame (h : flow < (m.chan n.val).anc.length) (v : VideoIn) (ts : Nat) :
    (m.ancCame n.val flow).ancPicture v ts = m.ancPicture v ts := by
  obtain ⟨-, -, -, -, hnow, htick, hfam, -⟩ := m.ancCame_shows n h
  unfold Mod.ancPicture Mod.frameNamed Mod.frameOfTimestamp
  rw [hnow, htick, hfam]

theorem Mod.ancPicture_some {v : VideoIn} {ts f : Nat} {r : Run} (hf : m.frameNamed v ts = some f) (hr : v.runOf f = some r) :
    m.ancPicture v ts = some (f, r.grid) := by
  unfold Mod.ancPicture
  rw [hf, Option.bind_some, hr]
  rfl

theorem Mod.ancPicture_cases {v : VideoIn} {ts : Nat} {x : Nat × Grid} (h : m.ancPicture v ts = some x) :
    ∃ (f : Nat) (r : Run), m.frameNamed v ts = some f ∧ v.runOf f = some r ∧ x = (f, r.grid) := by
  unfold Mod.ancPicture at h
  obtain ⟨f, hf, h⟩ := Option.bind_eq_some_iff.mp h
  obtain ⟨r, hr, h⟩ := Option.map_eq_some_iff.mp h
  exact ⟨f, r, hf, hr, h.symm⟩

theorem Mod.stat_told (m : Mod) (g : VideoTarget) (sub k : Nat) : (m.stat g sub k).raised = m.raised := by
  cases g with
  | channel n => exact Mod.count_raised ..
  | layer n l => rfl

/-- A packet placed: its number held, its items with those of the picture. -/
theorem Mod.ancPlaced_shows (h : flow < (m.chan n.val).anc.length) (f : Nat) (gr : Grid) (x : Seen) (items : List AncItem) :
    let b := (m.modAnc n.val flow fun a => { a with seen := a.seen ++ [x] }).placeAnc n.val f gr items
    Mod.ancSteps n.val flow m b ∧ x ∈ (b.ancIn n.val flow).seen
      ∧ (f, (takeAncItems (((m.chan n.val).ancData.filter fun (x : Nat × List AncItem) => x.1 = f).flatMap fun x => x.2) items).1)
        ∈ (b.chan n.val).ancData := by
  unfold Mod.placeAnc
  have hchan := Mod.chan_modAnc (fun a : AncIn => { a with seen := a.seen ++ [x] }) h
  have hin := Mod.ancIn_modAnc (fun a : AncIn => { a with seen := a.seen ++ [x] }) h
  have hlt : n.val < (m.modAnc n.val flow fun a => { a with seen := a.seen ++ [x] }).chans.length := by
    refine Mod.chan_lt_of_anc (flow := flow) ?_
    rw [hchan]
    exact (List.length_modify ..).symm ▸ h
  have hraised : (m.modAnc n.val flow fun a => { a with seen := a.seen ++ [x] }).raised = m.raised := rfl
  generalize (m.modAnc n.val flow fun a => { a with seen := a.seen ++ [x] }) = c at hchan hin hlt hraised ⊢
  have hdata : (c.chan n.val).ancData = (m.chan n.val).ancData := (congrArg ChanS.ancData hchan :)
  rw [hdata]
  dsimp only
  generalize (if c.tick < gr.receipt f 0 then atcOf (c.nominalRate gr.k) items else none) = atc
  generalize hy : takeAncItems (((m.chan n.val).ancData.filter fun (x : Nat × List AncItem) => x.1 = f).flatMap fun x => x.2) items = y
  have hplaced (g : ChanS → ChanS) (k : Nat) : ((c.modChan n.val g).stat (flowTarget n.val) 0x14 k).chan n.val = g (c.chan n.val) :=
    (Mod.chan_of_chans (Mod.stat_chans ..)).trans (c.chan_modChan g hlt)
  unfold Mod.ancIn at hin ⊢
  refine ⟨⟨?_, ?_, (Mod.stat_told ..).trans hraised⟩, ?_, ?_⟩
  · rw [Mod.ancIn, hplaced]
    exact (congrArg AncIn.lost hin :)
  · rw [Mod.ancIn, hplaced]
    exact (congrArg AncIn.quietFrom hin :)
  · rw [hplaced]
    show x ∈ (nth (c.chan n.val).anc flow).seen
    rw [hin]
    exact List.mem_append_right _ (List.mem_singleton_self _)
  · rw [hplaced]
    exact List.mem_append_right _ (List.mem_singleton_self _)

theorem Mod.ancLoss_eq (m : Mod) (n flow : Nat) : m.ancLoss n flow
    = if m.fn (chanFid n) = running ∧ (m.n (0x4080 + n) (3 * flow + 1) ≠ 0xFFFF ∨ m.n (0x4080 + n) (3 * flow + 2) ≠ 0xFFFF)
          ∧ (m.ancIn n flow).lost = false ∧ (m.ancIn n flow).quietFrom + 4 * (34 * m.chanStep n) ≤ (m.chan n).video.current m.tick then
        (m.modAnc n flow fun a => { a with lost := true }).raiseCond 0x4007 (2 * n + flow) [n, flow]
      else m := by
  unfold Mod.ancLoss
  exact if_congr (by simp [and_assoc, Mod.ancIn]) rfl rfl

theorem Mod.noteSkew_raised (m : Mod) (g : VideoTarget) (s : Seen) (path : Path) : (m.noteSkew g s path).raised = m.raised := by
  unfold Mod.noteSkew
  split
  · rfl
  · split
    · rfl
    · exact (Mod.putMax_raised ..).trans (Mod.put_raised ..)

theorem Mod.noteCopy_raised (m : Mod) (g : VideoTarget) (w : Nanos) (s : Seen) (path : Path) : (m.noteCopy g w s path).raised = m.raised :=
  (Mod.stat_told ..).trans (m.noteSkew_raised g s path)

theorem Mod.ancSteps_of_chans {a b : Mod} (hc : b.chans = a.chans) (hr : b.raised = a.raised) : Mod.ancSteps n.val flow a b := by
  have h : b.ancIn n.val flow = a.ancIn n.val flow := by
    unfold Mod.ancIn
    rw [Mod.chan_of_chans hc]
  exact ⟨congrArg _ h, congrArg _ h, hr⟩

/-- What every packet of an ancillary flow leaves of it. -/
def Mod.ancHeard (m m' : Mod) (n : Fin 32) (flow : Nat) : Prop :=
  (m'.ancIn n.val flow).lost = false ∧ (m'.ancIn n.val flow).quietFrom = (m.chan n.val).video.current m.tick + 34 * m.chanStep n.val
    ∧ ((m.ancIn n.val flow).lost = true → m'.told 0x4008 (2 * n.val + flow) [n.val, flow])

theorem Mod.ancHeard_of {b : Mod} (h : flow < (m.chan n.val).anc.length) (hs : Mod.ancSteps n.val flow (m.ancCame n.val flow) b) : m.ancHeard b n flow := by
  obtain ⟨hin, htold, -⟩ := m.ancCame_shows n h
  refine ⟨hs.lost.trans (congrArg AncIn.lost hin), hs.quietFrom.trans (congrArg AncIn.quietFrom hin), fun hl => ?_⟩
  exact Mod.told_mono (hs.raised ▸ fun _ h => h) (htold hl)

end

theorem find?_none_of_new {l : List Seen} {seq : Nat} (h : ∀ y ∈ l, y.seq ≠ seq) : l.find? (fun y => y.seq = seq) = none :=
  List.find?_eq_none.mpr fun y hy he => h y hy (of_decide_eq_true he)

/-- Settles O19: a packet by its number's novelty, a flow's loss by its quiet, a restored flow by its run of samples. -/
theorem audioAndAncillaryFlowsAreMerged : Obligations.AudioAndAncillaryFlowsAreMerged := by
  unfold Obligations.AudioAndAncillaryFlowsAreMerged
  refine ⟨fun s t n flow hs => ?_, fun s t n flow hs => ?_⟩
  · intro m a kept time hlen
    have hb : m.rebooting = false := hs.2
    obtain ⟨hin, hnow, hsent, hn, hlen'⟩ := m.audioCame_shows n hlen
    have hseen : ((m.audioCame n.val flow.val).audioIn n.val flow.val).seen = kept := congrArg AudioIn.seen hin
    have hlt := n.isLt
    refine ⟨fun path p => ⟨fun hidle => does_act (g := fun m => m.takeAudio n.val flow.val path p) hs rfl (Mod.takeAudio_idle hidle) hb,
      fun htakes => ⟨fun y hy => ?_, fun hnew => ?_⟩⟩, ?_, fun since hsince => ?_, fun hnone => ?_⟩
    · have heq := Mod.takeAudio_copy (path := path) htakes (hseen ▸ hy)
      refine completes_act (g := fun m => m.takeAudio n.val flow.val path p) rfl hs ?_ fun _ h => h
      show Mod.n (m.takeAudio n.val flow.val path p) _ _ = _ ∧ ((m.takeAudio n.val flow.val path p).audioIn n.val flow.val).lastAt = _
        ∧ ((m.takeAudio n.val flow.val path p).audioIn n.val flow.val).ring = _
      rw [heq]
      obtain ⟨-, hchans, hcount⟩ := (m.audioCame n.val flow.val).noteCopy_shows (.channel n) (m.skewWindow n.val) y path
      rw [hnow] at hcount
      have hkeep : ((m.audioCame n.val flow.val).noteCopy (.channel n) (m.skewWindow n.val) y path).audioIn n.val flow.val
          = (m.audioCame n.val flow.val).audioIn n.val flow.val := congrArg (fun c => nth (ChanS.audio c) flow.val) (Mod.chan_of_chans hchans)
      rw [hkeep, hin]
      exact ⟨(hcount n rfl).trans (Mod.n_bump_congr (by split <;> omega) (hn _ _)), rfl, rfl⟩
    · have heq := Mod.takeAudio_new (path := path) htakes (hseen ▸ find?_none_of_new hnew)
      have hmod : ((m.audioCame n.val flow.val).audioNew n.val flow.val path p).audioIn n.val flow.val = _ := Mod.audioIn_modAudio _ hlen'
      have hkeep : (m.takeAudio n.val flow.val path p).audioIn n.val flow.val
          = ((m.audioCame n.val flow.val).audioNew n.val flow.val path p).audioIn n.val flow.val := by
        rw [heq]
        dsimp only
        split
        · exact congrArg (fun c => nth (ChanS.audio c) flow.val) (Mod.chan_of_chans (Mod.stat_chans ..))
        · rfl
      refine completes_act (g := fun m => m.takeAudio n.val flow.val path p) rfl hs ?_ fun _ h => h
      show ((m.takeAudio n.val flow.val path p).audioIn n.val flow.val).lastAt = _ ∧ ∀ i, _ → _ →
        _ ∈ ((m.takeAudio n.val flow.val path p).audioIn n.val flow.val).ring ∧ _ ∈ ((m.takeAudio n.val flow.val path p).audioIn n.val flow.val).seen
      rw [hkeep, hmod]
      refine ⟨congrArg AudioIn.lastAt hin, fun i hi hpassed => ?_⟩
      have hgood := Mod.mem_goodSamples (m := m.audioCame n.val flow.val) (p := p) hi (hsent.symm ▸ hpassed)
      refine ⟨List.mem_append_right _ hgood, ?_⟩
      show _ ∈ (if (m.audioCame n.val flow.val).goodSamples n.val flow.val p = [] then _ else _)
      rw [if_neg (List.ne_nil_of_mem hgood)]
      exact List.mem_append_right _ (List.mem_singleton_self _)
    · intro due
      have heq := m.audioLoss_eq n.val flow.val
      refine ⟨fun h => ?_, fun h => does_act (g := fun m => m.audioLoss n.val flow.val) hs rfl (heq.trans (if_neg h)) hb⟩
      refine completes_act (g := fun m => m.audioLoss n.val flow.val) rfl hs ?_ fun _ h => h
      show ((m.audioLoss n.val flow.val).audioIn n.val flow.val).lost = true ∧ Mod.condSet (m.audioLoss n.val flow.val) _ _ = true
      rw [heq.trans (if_pos h)]
      refine ⟨?_, Mod.condSet_raiseCond _ _ _ _⟩
      refine (congrArg (fun c => AudioIn.lost (nth (ChanS.audio c) flow.val)) (Mod.chan_of_chans (Mod.raiseCond_chans ..))).trans ?_
      exact congrArg AudioIn.lost (Mod.audioIn_modAudio _ hlen)
    · intro due
      have heq := Mod.audioRestore_some (m := m) (n := n) (flow := flow.val) hsince
      refine ⟨fun h => ?_, fun h => does_act (g := fun m => m.audioRestore n.val flow.val) hs rfl (heq.trans (if_neg h)) hb⟩
      refine completes_act (g := fun m => m.audioRestore n.val flow.val) rfl hs ?_ fun _ h => h
      show ((m.audioRestore n.val flow.val).audioIn n.val flow.val).lost = false ∧ Mod.condSet (m.audioRestore n.val flow.val) _ _ = false
        ∧ Mod.told (m.audioRestore n.val flow.val) _ _ _
      rw [heq.trans (if_pos h)]
      refine ⟨?_, Mod.condSet_raiseClear _ _ _ (List.mem_singleton_self _) _, Mod.raiseClear_told _ _ _ _ _⟩
      refine (congrArg (fun c => AudioIn.lost (nth (ChanS.audio c) flow.val)) (Mod.chan_of_chans (Mod.raiseClear_chans ..))).trans ?_
      exact congrArg AudioIn.lost (Mod.audioIn_modAudio _ hlen)
    · exact does_act (g := fun m => m.audioRestore n.val flow.val) hs rfl (Mod.audioRestore_none hnone) hb
  · intro m v a kept hlen
    have hb : m.rebooting = false := hs.2
    obtain ⟨hin, -, hdata, hlen', hnow, htick, hfam, hn⟩ := m.ancCame_shows n hlen
    have hseen : ((m.ancCame n.val flow.val).ancIn n.val flow.val).seen = kept := congrArg AncIn.seen hin
    have hlt := n.isLt
    refine ⟨fun path p => ?_, ?_⟩
    · intro takes heard
      have htake {P : Mod → Prop} (hP : P (m.takeAnc n.val flow.val path p)) (hp : ∀ m, P m → P { m with rebooting := false }) :
          Completes (.ancPacket t n flow path p) s P := completes_act (g := fun m => m.takeAnc n.val flow.val path p) rfl hs hP hp
      refine ⟨fun hidle => does_act (g := fun m => m.takeAnc n.val flow.val path p) hs rfl (Mod.takeAnc_idle hidle) hb,
        fun htakes => ⟨fun y hy => ?_, fun hnew => ?_⟩⟩
      · refine htake ?_ fun _ h => h
        rw [Mod.takeAnc_copy (path := path) htakes (hseen ▸ hy)]
        obtain ⟨-, hchans, -⟩ := (m.ancCame n.val flow.val).noteCopy_shows (.channel n) (m.skewWindow n.val) y path
        exact ⟨Mod.ancHeard_of hlen (Mod.ancSteps_of_chans hchans (Mod.noteCopy_raised ..)),
          (congrArg ChanS.ancData (Mod.chan_of_chans hchans)).trans hdata⟩
      · have heq := Mod.takeAnc_new (path := path) htakes (hseen ▸ find?_none_of_new hnew)
        rw [Mod.ancPicture_ancCame hlen] at heq
        have hlate : m.ancHeard ((m.ancCame n.val flow.val).stat (.channel n) 0x13 1) n flow.val
            ∧ ((m.ancCame n.val flow.val).stat (.channel n) 0x13 1).n (0x4140 + n.val) 0x13 = (m.bump (0x4140 + n.val) 0x13).n (0x4140 + n.val) 0x13 :=
          ⟨Mod.ancHeard_of hlen (Mod.ancSteps_of_chans (Mod.stat_chans ..) (Mod.stat_told ..)), Mod.n_stat_counted (by decide) (hn _ _ (by omega) (by decide))⟩
        refine ⟨fun f r hf hr ht => htake ?_ fun _ h => h, fun hold => htake ?_ fun _ h => h⟩
        · rw [heq, Mod.ancPicture_some hf hr]
          obtain ⟨hsteps, hmem, hplaced⟩ := Mod.ancPlaced_shows hlen' f r.grid ⟨p.seq, (m.ancCame n.val flow.val).now, path⟩ p.items
          rw [Mod.ancNew_placed (htick.symm ▸ ht)]
          rw [hdata] at hplaced
          exact ⟨Mod.ancHeard_of hlen hsteps, hnow ▸ hmem, hplaced⟩
        · rw [heq]
          cases hpic : m.ancPicture v p.timestamp with
          | none => exact hlate
          | some x =>
            obtain ⟨f, r, hf, hr, rfl⟩ := Mod.ancPicture_cases hpic
            rw [Mod.ancNew_late (htick.symm ▸ hold f r hf hr)]
            exact hlate
    · intro due
      have heq := m.ancLoss_eq n.val flow.val
      refine ⟨fun h => ?_, fun h => does_act (g := fun m => m.ancLoss n.val flow.val) hs rfl (heq.trans (if_neg h)) hb⟩
      refine completes_act (g := fun m => m.ancLoss n.val flow.val) rfl hs ?_ fun _ h => h
      show ((m.ancLoss n.val flow.val).ancIn n.val flow.val).lost = true ∧ Mod.condSet (m.ancLoss n.val flow.val) _ _ = true
      rw [heq.trans (if_pos h)]
      refine ⟨?_, Mod.condSet_raiseCond _ _ _ _⟩
      refine (congrArg (fun c => AncIn.lost (nth (ChanS.anc c) flow.val)) (Mod.chan_of_chans (Mod.raiseCond_chans ..))).trans ?_
      exact congrArg AncIn.lost (Mod.ancIn_modAnc _ hlen)

end Sys2Proof.Machine
end

section
/-! SUPPORT. The indexes an operation writes (ch. 0): of every index outside a window, all objects read as before. -/

namespace Sys2Proof.Machine

/-- Outside a window of indexes that leaves out the fuse ID's, all objects read as before. -/
def Store.keeps (p : Nat → Bool) (a b : Store) : Prop :=
  p 0x1000 = false → ∀ idx sub : Nat, sub < 256 → p idx = false → b.get idx sub = a.get idx sub

/-- A window that takes the event counts. -/
def tellsIn (p : Nat → Bool) : Prop := p 0x7400 = true ∧ p 0x7410 = true

section
variable {p : Nat → Bool} {a : Store} {m : Mod} {i s : Nat}

@[simp] theorem Store.keeps_refl : a.keeps p a := fun _ _ _ _ _ => rfl

theorem Store.keeps_trans {b c : Store} (h : a.keeps p b) (h' : b.keeps p c) : a.keeps p c :=
  fun hf idx sub hs hp => (h' hf idx sub hs hp).trans (h hf idx sub hs hp)

/-- What an operation keeps, it keeps after others that keep it too. -/
theorem Store.keeps_iff_of {b c : Store} (h : b.keeps p c) : a.keeps p c ↔ a.keeps p b := by
  refine ⟨fun hc hf idx sub hs hp => ?_, fun hb => Store.keeps_trans hb h⟩
  exact (h hf idx sub hs hp).symm.trans (hc hf idx sub hs hp)

@[simp] theorem keeps_ite {c : Prop} [Decidable c] {x y : Mod} :
    a.keeps p (if c then x else y).objs ↔ if c then a.keeps p x.objs else a.keeps p y.objs := by split <;> rfl

@[simp] theorem keeps_set (v : Val) (hp : p i = true) (hs : s < 256) : a.keeps p (m.set i s v).objs ↔ a.keeps p m.objs := by
  refine Store.keeps_iff_of fun hf idx sub hsub hi => ?_
  have hne (j : Nat) (hj : p j = false) : i ≠ j := fun he => absurd (he ▸ hp) (by rw [hj]; decide)
  have hfuse := hne _ hf
  have hidx := hne idx hi
  exact m.get_set_other (i := i) (s := s) (j := idx) (t := sub) v (by unfold keyOf; omega) (by unfold keyOf; omega)

@[simp] theorem keeps_put (v : Nat) (hp : p i = true) (hs : s < 256) : a.keeps p (m.put i s v).objs ↔ a.keeps p m.objs := keeps_set _ hp hs

@[simp] theorem keeps_putZ (v : Int) (hp : p i = true) (hs : s < 256) : a.keeps p (m.putZ i s v).objs ↔ a.keeps p m.objs := keeps_set _ hp hs

@[simp] theorem keeps_putFlag (v : Bool) (hp : p i = true) (hs : s < 256) : a.keeps p (m.putFlag i s v).objs ↔ a.keeps p m.objs := keeps_set _ hp hs

@[simp] theorem keeps_putBit (b : Nat) (on : Bool) (hp : p i = true) (hs : s < 256) : a.keeps p (m.putBit i s b on).objs ↔ a.keeps p m.objs :=
  keeps_set _ hp hs

@[simp] theorem keeps_count (k : Nat) (hp : p i = true) (hs : s < 256) : a.keeps p (m.count i s k).objs ↔ a.keeps p m.objs := by
  unfold Mod.count
  split
  · exact keeps_put _ hp hs
  · exact Iff.rfl

@[simp] theorem keeps_bump (hp : p i = true) (hs : s < 256) : a.keeps p (m.bump i s).objs ↔ a.keeps p m.objs := keeps_count 1 hp hs

@[simp] theorem keeps_putMax (v : Int) (hp : p i = true) (hs : s < 256) : a.keeps p (m.putMax i s v).objs ↔ a.keeps p m.objs := by
  unfold Mod.putMax Mod.putFirst
  simp [hp, hs]

section
variable (he : tellsIn p)
include he

@[simp] theorem keeps_raiseRaw (c r v : Nat) (l : List Nat) : a.keeps p (m.raiseRaw c r v l).objs ↔ a.keeps p m.objs := by
  obtain ⟨h0, h1⟩ := he
  have harea := areaOfEvent_le c
  exact (keeps_bump h1 (by omega)).trans (keeps_bump h0 (by omega))

@[simp] theorem keeps_raise (c r : Nat) (l : List Nat) : a.keeps p (m.raise c r l).objs ↔ a.keeps p m.objs := keeps_raiseRaw he _ _ _ _

theorem keeps_showConds : a.keeps p m.showConds.objs ↔ a.keeps p m.objs := by
  obtain ⟨h0, h1⟩ := he
  exact (keeps_put _ h0 (by decide)).trans (keeps_put _ h0 (by decide))

@[simp] theorem keeps_raiseCond (c r : Nat) (l : List Nat) : a.keeps p (m.raiseCond c r l).objs ↔ a.keeps p m.objs := by
  unfold Mod.raiseCond
  split
  · exact Iff.rfl
  · exact (keeps_raise he _ _ _).trans (keeps_showConds he)

@[simp] theorem keeps_raiseAgain (c r : Nat) (l : List Nat) : a.keeps p (m.raiseAgain c r l).objs ↔ a.keeps p m.objs := by
  unfold Mod.raiseAgain
  simp [he]

@[simp] theorem keeps_raiseClearIf (c r : Nat) (g : Condition → Bool) (l : List Nat) : a.keeps p (m.raiseClearIf c r g l).objs ↔ a.keeps p m.objs := by
  unfold Mod.raiseClearIf
  dsimp only
  split
  · exact keeps_raiseRaw he _ _ _ _
  · exact (keeps_raiseRaw he _ _ _ _).trans (keeps_showConds he)

@[simp] theorem keeps_raiseClear (c r : Nat) (k l : List Nat) : a.keeps p (m.raiseClear c r k l).objs ↔ a.keeps p m.objs := keeps_raiseClearIf he _ _ _ _

@[simp] theorem keeps_raiseClearAll (c r : Nat) (k l : List Nat) : a.keeps p (m.raiseClearAll c r k l).objs ↔ a.keeps p m.objs :=
  keeps_raiseClearIf he _ _ _ _

@[simp] theorem keeps_raiseLimited (c r : Nat) (d : Nanos) (l : List Nat) : a.keeps p (m.raiseLimited c r d l).objs ↔ a.keeps p m.objs := by
  unfold Mod.raiseLimited Mod.raiseLimitedBy
  split
  · exact keeps_raise he _ _ _
  · dsimp only
    split
    · exact keeps_raise he _ _ _
    · exact keeps_bump he.1 (by decide)

end

/-- What each step of a walk keeps, the walk keeps. -/
theorem keeps_each {α : Type} {l : List α} {f : Mod → α → Mod} (h : ∀ (m : Mod), ∀ x ∈ l, m.objs.keeps p (f m x).objs) :
    a.keeps p (m.each l f).objs ↔ a.keeps p m.objs := by
  refine Store.keeps_iff_of ?_
  unfold Mod.each
  induction l generalizing m with
  | nil => exact Store.keeps_refl
  | cons x xs ih =>
    exact Store.keeps_trans (h m x (List.mem_cons_self ..)) (ih fun m y hy => h m y (List.mem_cons_of_mem _ hy))

end

end Sys2Proof.Machine
end

section
/-! SUPPORT. The windows of the commands that write a window of their own (ch. 0). -/

namespace Sys2Proof.Machine

variable {p : Nat → Bool} {m : Mod}

@[simp] theorem Mod.objs_modVideo (g : VideoTarget) (f : VideoIn → VideoIn) : (m.modVideo g f).objs = m.objs := by cases g <;> rfl

@[simp] theorem Mod.objs_modRun (g : VideoTarget) (k : Nat) (f : Run → Run) : (m.modRun g k f).objs = m.objs := Mod.objs_modVideo _ _

@[simp] theorem Mod.objs_modAudio (n k : Nat) (f : AudioIn → AudioIn) : (m.modAudio n k f).objs = m.objs := rfl

@[simp] theorem Mod.objs_modAnc (n k : Nat) (f : AncIn → AncIn) : (m.modAnc n k f).objs = m.objs := rfl

@[simp] theorem Mod.objs_modMortar (f : MortarS → MortarS) : (m.modMortar f).objs = m.objs := rfl

/-! ### Ingest -/

theorem keeps_notePacket {a : Store} (g : VideoTarget) (bad : Bool) : a.keeps p (m.notePacket g bad).objs ↔ a.keeps p m.objs := by
  unfold Mod.notePacket
  rw [Mod.objs_modVideo]

section
variable (he : tellsIn p)
include he

theorem keeps_audioLoss (n flow : Nat) : m.objs.keeps p (m.audioLoss n flow).objs := by
  unfold Mod.audioLoss
  simp [he]

theorem keeps_audioRestore (n flow : Nat) : m.objs.keeps p (m.audioRestore n flow).objs := by
  unfold Mod.audioRestore
  dsimp only
  split
  · exact Store.keeps_refl
  · simp [he]

theorem keeps_ancLoss (n flow : Nat) : m.objs.keeps p (m.ancLoss n flow).objs := by
  unfold Mod.ancLoss
  simp [he]

theorem keeps_holdLimit (n : Nat) : m.objs.keeps p (m.holdLimit n).objs := by
  unfold Mod.holdLimit
  simp [he]

end

section
variable (hp : ∀ i, within i 0x4100 0x4B7F = true → p i = true) (he : tellsIn p)
include hp

/-- What a channel shows and counts of its flows lies in the window of ingest. -/
theorem shown_mem {i : Nat} (h : 0x4100 ≤ i ∧ i ≤ 0x4B7F) : p i = true := hp i (by simpa [within] using h)

theorem keeps_stat {a : Store} (g : VideoTarget) {sub : Nat} (k : Nat) (hs : sub < 256) : a.keeps p (m.stat g sub k).objs ↔ a.keeps p m.objs := by
  cases g with
  | channel n =>
    have := n.isLt
    exact keeps_count k (shown_mem hp (by omega)) hs
  | layer n l => exact Iff.rfl

theorem keeps_noteSkew {a : Store} (g : VideoTarget) (s : Seen) (path : Path) : a.keeps p (m.noteSkew g s path).objs ↔ a.keeps p m.objs := by
  cases g with
  | channel n =>
    have := n.isLt
    have h : p (0x4100 + n.val) = true := shown_mem hp (by omega)
    unfold Mod.noteSkew
    simp [h]
  | layer n l => exact Iff.rfl

theorem keeps_noteCopy {a : Store} (g : VideoTarget) (w : Nanos) (s : Seen) (path : Path) : a.keeps p (m.noteCopy g w s path).objs ↔ a.keeps p m.objs := by
  unfold Mod.noteCopy
  exact (keeps_stat hp g 1 (by split <;> decide)).trans (keeps_noteSkew hp g s path)

theorem keeps_takeAudio (n : Fin 32) (flow : Nat) (path : Path) (x : AudioPkt) : m.objs.keeps p (m.takeAudio n.val flow path x).objs := by
  unfold Mod.takeAudio
  split
  · exact Store.keeps_refl
  · dsimp only
    split
    · rw [keeps_noteCopy hp]
      exact Store.keeps_refl
    · simp [keeps_stat hp]

include he

theorem keeps_pathHeard {a : Store} (g : VideoTarget) (path : Path) : a.keeps p (m.pathHeard g path).objs ↔ a.keeps p m.objs := by
  cases g with
  | channel n =>
    have := n.isLt
    have h : p (0x4100 + n.val) = true := shown_mem hp (by omega)
    rw [m.pathHeard_channel]
    unfold Mod.showUp
    cases path <;> simp [h, he]
  | layer n l => rw [m.pathHeard_layer, Mod.objs_modVideo]

theorem keeps_placeSrds {a : Store} (g : VideoTarget) (path : Path) (f : Nat) (x : VideoPkt) : a.keeps p (m.placeSrds g path f x).objs ↔ a.keeps p m.objs := by
  unfold Mod.placeSrds
  cases (m.video g).runOf f with
  | none => exact Iff.rfl
  | some r =>
    have hsub : (if path = .red then 3 else 4) < 256 := by split <;> decide
    dsimp only
    simp [keeps_stat hp, keeps_pathHeard hp he, hsub]

theorem keeps_takeVideo (g : VideoTarget) (path : Path) (x : VideoPkt) : m.objs.keeps p (m.takeVideo g path x).objs := by
  have hcause : p 0x4200 = true := shown_mem hp (by decide)
  have hopen : m.objs.keeps p (m.packetOpen g path).objs := by
    unfold Mod.packetOpen Mod.packetCame
    rw [Mod.objs_modVideo, keeps_stat hp g 1 (by split <;> decide)]
    exact Store.keeps_refl
  by_cases hidle : (m.video g).runs = [] ∨ m.takesPackets g = false
  · rw [Mod.takeVideo_idle hidle]
    exact Store.keeps_refl
  · obtain ⟨hruns, htakes⟩ := not_or.mp hidle
    have htakes : m.takesPackets g = true := by simpa using htakes
    cases hf : x.bufferFull with
    | true =>
      rw [Mod.takeVideo_full hruns htakes hf, keeps_bump hcause (by decide), keeps_stat hp g 1 (by decide), keeps_notePacket]
      unfold Mod.packetOpen at hopen
      rwa [Mod.objs_modVideo] at hopen
    | false =>
      cases hy : ((m.packetOpen g path).video g).seen.find? (fun s => s.seq = x.seq) with
      | some y =>
        rw [Mod.takeVideo_copy hruns htakes hf hy, keeps_notePacket, keeps_noteCopy hp, keeps_pathHeard hp he]
        exact hopen
      | none =>
        rw [Mod.takeVideo_new hruns htakes hf hy]
        unfold Mod.packetJudged
        split
        all_goals simpa [keeps_stat hp, keeps_notePacket, keeps_placeSrds hp he] using hopen

theorem keeps_pathTimeout (g : VideoTarget) (path : Path) : m.objs.keeps p (m.pathTimeout g path).objs := by
  cases g with
  | layer n l => exact Store.keeps_refl
  | channel n =>
    have := n.isLt
    have h : p (0x4100 + n.val) = true := shown_mem hp (by omega)
    have hsub : 5 + (if path = .red then 0 else 1) < 256 := by split <;> decide
    unfold Mod.pathTimeout
    dsimp only
    generalize (if path = .red then (m.video (.channel n)).redAt else (m.video (.channel n)).blueAt) = last
    cases last with
    | none => exact Store.keeps_refl
    | some at_ => simp [h, he, hsub]

theorem keeps_takeAnc (n : Fin 32) (flow : Nat) (path : Path) (x : AncPkt) : m.objs.keeps p (m.takeAnc n.val flow path x).objs := by
  have hcame : m.objs.keeps p (m.ancCame n.val flow).objs := by
    unfold Mod.ancCame
    simp [he]
  by_cases h : (m.chan n.val).video.runs ≠ [] ∧ x.payloadType = m.n (0x4080 + n.val) (3 * flow + 3)
  · cases hy : ((m.ancCame n.val flow).ancIn n.val flow).seen.find? (fun s => s.seq = x.seq) with
    | some y =>
      rw [Mod.takeAnc_copy h hy, keeps_noteCopy hp]
      exact hcame
    | none =>
      rw [Mod.takeAnc_new h hy]
      unfold Mod.ancNew
      split
      · rwa [keeps_stat hp _ _ (by decide)]
      · unfold Mod.placeAnc
        simpa [keeps_stat hp] using hcame
  · rw [Mod.takeAnc_idle h]
    exact Store.keeps_refl

theorem keeps_abandonCommit (n : Fin 32) : m.objs.keeps p (m.abandonCommit n.val).objs := by
  have := n.isLt
  have h : p (0x4900 + n.val) = true := shown_mem hp (by omega)
  unfold Mod.abandonCommit
  simp [he, h]

end

/-! ### Memory, cages, lanes and the service port -/

theorem keeps_scrubPass {c : Nat} (h : p (0x2140 + c) = true) : m.objs.keeps p (m.scrubPass c).objs := by
  unfold Mod.scrubPass
  simp [h]

section
variable (he : tellsIn p) {c : Nat} (h : p (0x2140 + c) = true)
include he h

theorem keeps_forceRefresh {a : Store} : a.keeps p (m.forceRefresh c).objs ↔ a.keeps p m.objs := by
  unfold Mod.forceRefresh
  simp [he, h]

theorem keeps_refreshDue (b : Nat) (urgent : Bool) : m.objs.keeps p (m.refreshDue c b urgent).objs := by
  unfold Mod.refreshDue
  simp [keeps_forceRefresh he h, Mod.setOwed, Mod.noteDue, h]

theorem keeps_refreshForced (b : Nat) : m.objs.keeps p (m.refreshForced c b).objs := by
  unfold Mod.refreshForced
  simp [keeps_forceRefresh he h, Mod.setOwed]

theorem keeps_dimmTemperature (temp : Int) : m.objs.keeps p (m.dimmTemperature c temp).objs := by
  unfold Mod.dimmTemperature
  simp [he, h]

theorem keeps_correctable (sub rank dev : Nat) : m.objs.keeps p (m.correctable c sub rank dev).objs := by
  unfold Mod.correctable
  simp [he, h]

end

section
variable (he : tellsIn p) {q : Nat} (h : p (0x2440 + q) = true)
include he

theorem keeps_plugCage : m.objs.keeps p (m.plugCage q).objs := by
  unfold Mod.plugCage Mod.insertCage
  simp [he]

theorem keeps_judgeMedium {a : Store} : a.keeps p (m.judgeMedium q).objs ↔ a.keeps p m.objs := by
  unfold Mod.judgeMedium
  simp [he]

theorem keeps_opticTemperature (temp high : Int) : m.objs.keeps p (m.opticTemperature q temp high).objs := by
  unfold Mod.opticTemperature
  simp [he]

include h

theorem keeps_refuseCage {a : Store} : a.keeps p (m.refuseCage q).objs ↔ a.keeps p m.objs := by
  unfold Mod.refuseCage Mod.cageOff
  simp [he, h]

theorem keeps_stableCage (x : CageModule) : m.objs.keeps p (m.stableCage q x).objs := by
  unfold Mod.stableCage Mod.powerCage
  dsimp only
  split
  · exact Store.keeps_refl
  · split
    · exact Store.keeps_refl
    · simp [keeps_refuseCage he h, keeps_judgeMedium he, h]

theorem keeps_readyCage : m.objs.keeps p (m.readyCage q).objs := by
  unfold Mod.readyCage
  simp [keeps_judgeMedium he, h]

theorem keeps_readyTimeout : m.objs.keeps p (m.readyTimeout q).objs := by
  unfold Mod.readyTimeout
  split
  · exact Store.keeps_refl
  · simp [keeps_refuseCage he h]

end

theorem keeps_fomLow (he : tellsIn p) {l : Nat} (h : p (0x2480 + l) = true) (snr : Int) : m.objs.keeps p (m.fomLow l snr).objs := by
  unfold Mod.fomLow Mod.showFom
  simp [he, h]

theorem keeps_checkerLocks {l : Nat} (h : p (0x2500 + l) = true) (inverted : Bool) (k : Nat) : m.objs.keeps p (m.checkerLocks l inverted k).objs := by
  unfold Mod.checkerLocks
  simp [h]

theorem keeps_serviceLink (he : tellsIn p) (h : p 0x2610 = true) (x : ServiceLink) : m.objs.keeps p (m.serviceLink x).objs := by
  unfold Mod.serviceLink Mod.serviceTo
  simp [he, h]

/-! ### Clocks and calibration -/

theorem keeps_judgeStable {a : Store} (he : tellsIn p) (h : p 0x1800 = true) (h' : p 0x1815 = true) {c : Nat} (hc : c < 200) :
    a.keeps p (m.judgeStable c).objs ↔ a.keeps p m.objs := by
  have hs : 1 + c < 256 := by omega
  unfold Mod.judgeStable
  simp [he, h, h', hs]

theorem keeps_gateWindow (he : tellsIn p) (h : p 0x1800 = true) (h' : p 0x1815 = true) (c : Fin 10) (k : Nat) :
    m.objs.keeps p (m.gateWindow c.val k).objs := by
  have hc := c.isLt
  have h1 : 1 + c.val < 256 := by omega
  have h5 : 5 + c.val < 256 := by omega
  unfold Mod.gateWindow
  simp [keeps_judgeStable he h h' (by omega : c.val < 200), he, h, h1, h5]

theorem keeps_forcedSwitch (he : tellsIn p) {k : Nat} (h : p (0x1810 + k) = true) : m.objs.keeps p (m.forcedSwitch k).objs := by
  unfold Mod.forcedSwitch Mod.lockPll
  split
  · exact Store.keeps_refl
  · simp [he, h]

theorem keeps_accessTimeout (he : tellsIn p) (h : p 0x1850 = true) (block addr initiator : Nat) :
    m.objs.keeps p (m.accessTimeout block addr initiator).objs := by
  unfold Mod.accessTimeout
  simp [he, h]

theorem keeps_counterDone (h : p 0x1840 = true) (k : Nat) (stopped : Bool) : m.objs.keeps p (m.counterDone k stopped).objs := by
  unfold Mod.counterDone
  simp [h]

theorem keeps_startRun {d : Nat} (h : p (0x1C40 + d) = true) : m.objs.keeps p (m.startRun d).objs := by
  unfold Mod.startRun
  split
  · exact Store.keeps_refl
  · simp [h]

theorem keeps_trigger {d : Nat} (h : p (0x1C40 + d) = true) (trig : Nat) : m.objs.keeps p (m.trigger d trig).objs := by
  unfold Mod.trigger
  simp [h]

theorem keeps_sampleTemperatures (h : ∀ d : Fin 28, p (0x1C40 + d.val) = true) (l : List DomTemp) : m.objs.keeps p (m.sampleTemperatures l).objs := by
  unfold Mod.sampleTemperatures
  rw [keeps_ite]
  split
  · exact Store.keeps_refl
  · refine (keeps_each fun m x _ => ?_).mpr Store.keeps_refl
    simp [keeps_trigger (h x.domain)]

theorem keeps_xbTimeout (he : tellsIn p) (h : p 0x1800 = true) : m.objs.keeps p (m.xbTimeout).objs := by
  unfold Mod.xbTimeout
  simp [he, h]

/-! ### The standby domain, sensors and feeds -/

section
variable (he : tellsIn p) (h : p 0x1D40 = true)

theorem keeps_lever (he : tellsIn p) (opened : Bool) : m.objs.keeps p (m.lever opened).objs := by
  unfold Mod.lever Mod.ejector
  simp [he]

theorem keeps_i2cOffset (k : Nat) : m.objs.keeps p (m.i2cOffset k).objs := by
  unfold Mod.i2cOffset
  simp

theorem keeps_i2cRead : m.objs.keeps p m.i2cRead.objs := by
  unfold Mod.i2cRead
  simp

theorem keeps_ovenSettled : m.objs.keeps p m.ovenSettled.objs := Store.keeps_refl

include h

theorem keeps_powerDown {a : Store} (x : Power) : a.keeps p (m.powerDown x).objs ↔ a.keeps p m.objs := by
  unfold Mod.powerDown
  simp [h]

theorem keeps_holdUpCharged : m.objs.keeps p m.holdUpCharged.objs := by
  unfold Mod.holdUpCharged
  simp [h]

theorem keeps_inputDip : m.objs.keeps p m.inputDip.objs := by
  unfold Mod.inputDip
  simp [keeps_powerDown h]

theorem keeps_holdUpExpiry : m.objs.keeps p m.holdUpExpiry.objs := by
  unfold Mod.holdUpExpiry
  split
  · exact Store.keeps_refl
  · simp [keeps_powerDown h]

theorem keeps_readSensors {a : Store} (h' : p 0x1D00 = true) : a.keeps p m.readSensors.objs ↔ a.keeps p m.objs := by
  unfold Mod.readSensors
  simp [h, h']

theorem keeps_updateLive (h' : p 0x1D00 = true) : m.objs.keeps p m.updateLive.objs := by
  unfold Mod.updateLive
  simp [keeps_readSensors h h', h']

include he

theorem keeps_setFeed {a : Store} {b : Nat} (hb : b < 2) (st : Nat) : a.keeps p (m.setFeed b st).objs ↔ a.keeps p m.objs := by
  have hs : 6 + b < 256 := by omega
  unfold Mod.setFeed
  simp [h, he, hs]

theorem keeps_feedShort {b : Nat} (hb : b < 2) : m.objs.keeps p (m.feedShort b).objs := by
  unfold Mod.feedShort
  simp [keeps_setFeed he h hb]

theorem keeps_feedShown {a : Store} {b : Nat} (hb : b < 2) (mv : Int) : a.keeps p (m.feedShown b mv).objs ↔ a.keeps p m.objs := by
  have hs : 1 + 2 * b < 256 := by omega
  unfold Mod.feedShown
  rw [keeps_setFeed he h hb, keeps_put _ h hs]

theorem keeps_dipEnds {a : Store} (b : Nat) : a.keeps p (m.dipEnds b).objs ↔ a.keeps p m.objs := by
  unfold Mod.dipEnds
  split
  · exact Iff.rfl
  · rw [keeps_ite]
    split
    · simp [he, h]
    · exact Iff.rfl

theorem keeps_feedChange {b : Nat} (hb : b < 2) (mv : Int) : m.objs.keeps p (m.feedChange b mv).objs := by
  have hshort : (m.shortEnds b).objs = m.objs := by
    unfold Mod.shortEnds
    split
    · rfl
    · split <;> rfl
  rw [Mod.feedChange_eq, keeps_dipEnds he h, keeps_feedShown he h hb, hshort]
  exact Store.keeps_refl

end

theorem keeps_coolFail (he : tellsIn p) (h : p 0x1D00 = true) (on : Bool) : m.objs.keeps p (m.coolFail on).objs := by
  unfold Mod.coolFail
  simp [he, h]

theorem keeps_thermalEnd (he : tellsIn p) (h : p 0x1D00 = true) : m.objs.keeps p m.thermalEnd.objs := by
  unfold Mod.thermalEnd Mod.showThermal
  split
  · exact Store.keeps_refl
  · simp [he, h]

end Sys2Proof.Machine
end

section
/-! SUPPORT. The windows of the twin's and of the witness's commands (ch. 0, R216-R243). -/

namespace Sys2Proof.Machine

variable {p : Nat → Bool} {m : Mod}

/-- What leaves the objects as a whole keeps them. -/
theorem keeps_of_part {a : Store} {b : Mod} (h : b.part .objs = m.part .objs) : a.keeps p b.objs ↔ a.keeps p m.objs := by
  rw [show b.objs = m.objs from h]

@[simp] theorem keeps_mortarSend {a : Store} (vc n : Nat) (f : Nat → Output) : a.keeps p (m.mortarSend vc n f).objs ↔ a.keeps p m.objs :=
  keeps_of_part (m.mortarSend_part _ _ _ (by decide))

@[simp] theorem keeps_sendHello {a : Store} : a.keeps p m.sendHello.objs ↔ a.keeps p m.objs := keeps_of_part (m.sendHello_part (by decide))

@[simp] theorem keeps_sendPlacement {a : Store} : a.keeps p m.sendPlacement.objs ↔ a.keeps p m.objs := keeps_of_part (m.sendPlacement_part (by decide))

@[simp] theorem keeps_heardMortar {a : Store} (h : MortarHdr) : a.keeps p (m.heardMortar h).objs ↔ a.keeps p m.objs :=
  keeps_of_part (m.heardMortar_part h (by decide))

/-- A frame in its order is taken on what the link has left. -/
theorem keeps_sequenced {h : MortarHdr} {vc : Nat} {take : Mod → Mod} (ht : ∀ m : Mod, m.objs.keeps p (take m).objs) :
    m.objs.keeps p (m.sequenced h vc take).objs := by
  have hheard : m.objs.keeps p (m.heardMortar h).objs := (keeps_heardMortar h).mpr Store.keeps_refl
  have htaken : (m.taken h vc).objs = (m.heardMortar h).objs := by
    unfold Mod.taken
    rw [Mod.objs_modMortar]
  cases hn : m.goodFrame h && m.linkUp with
  | false =>
    rw [Mod.sequenced_idle ((Bool.and_eq_false_iff ..).mp hn)]
    exact Store.keeps_refl
  | true =>
    obtain ⟨hg, hl⟩ := (Bool.and_eq_true ..).mp hn
    rw [Mod.sequenced_good hg hl, keeps_ite]
    split
    · exact Store.keeps_trans ((congrArg (m.objs.keeps p) htaken).mpr hheard) (ht (m.taken h vc))
    · rw [keeps_ite]
      generalize m.heardMortar h = b at hheard ⊢
      split
      · exact hheard
      · exact hheard

theorem keeps_takeIdle (h : MortarHdr) : m.objs.keeps p (m.takeIdle h).objs := by
  unfold Mod.takeIdle
  simp

theorem keeps_sendIdle : m.objs.keeps p m.sendIdle.objs := by
  unfold Mod.sendIdle
  simp

theorem keeps_sendStatus : m.objs.keeps p m.sendStatus.objs := by
  unfold Mod.sendStatus
  simp

theorem keeps_takeCountersignRequest (h : MortarHdr) (term req : Nat) : m.objs.keeps p (m.takeCountersignRequest h term req).objs :=
  keeps_sequenced fun m => by simp

theorem keeps_takeHandover (h : MortarHdr) (B : Nat) (w : Bool) : m.objs.keeps p (m.takeHandover h B w).objs := keeps_sequenced fun m => by simp

theorem keeps_takePlacement (h : MortarHdr) (x : PlacementBody) : m.objs.keeps p (m.takePlacement h x).objs := keeps_sequenced fun m => by simp

theorem keeps_helloTimer (h : p 0x7040 = true) : m.objs.keeps p m.helloTimer.objs := by
  unfold Mod.helloTimer Mod.when
  simp [h]

theorem keeps_recordMissing (h : p 0x7080 = true) (r k : Nat) : m.objs.keeps p (m.recordMissing r k).objs := by
  unfold Mod.recordMissing
  simp [h]

theorem keeps_linkSilent (he : tellsIn p) : m.objs.keeps p m.linkSilent.objs := by
  unfold Mod.linkSilent
  simp [he]

theorem keeps_portsDownHandover (h : p 0x7010 = true) : m.objs.keeps p m.portsDownHandover.objs := by
  unfold Mod.portsDownHandover Mod.autoHandover Mod.beginHandover
  cases m.twin.portsDownAt with
  | none => exact Store.keeps_refl
  | some t =>
    dsimp only
    repeat' split
    all_goals simp [h]

/-! ### Roles and the link's fall -/

theorem keeps_notePartnerUnsynced (x : StatusBody) : (m.notePartnerUnsynced x).objs = m.objs := by
  unfold Mod.notePartnerUnsynced
  repeat' split
  all_goals rfl

section
variable (he : tellsIn p) (h : p 0x7040 = true)
include he h

theorem keeps_setRole {a : Store} (r : Role) : a.keeps p (m.setRole r).objs ↔ a.keeps p m.objs := by
  unfold Mod.setRole
  simp [he, h]

theorem keeps_tryStandby {a : Store} : a.keeps p m.tryStandby.objs ↔ a.keeps p m.objs := by
  unfold Mod.tryStandby
  simp [he, keeps_setRole he h]

theorem keeps_mortarDown {a : Store} : a.keeps p m.mortarDown.objs ↔ a.keeps p m.objs := by
  unfold Mod.mortarDown
  simp [he, h]

theorem keeps_linkLost : m.objs.keeps p m.linkLost.objs := by
  unfold Mod.linkLost
  simp [keeps_mortarDown he h]

theorem keeps_holdExpired : m.objs.keeps p m.holdExpired.objs := by
  unfold Mod.holdExpired
  split
  · exact Store.keeps_refl
  · simp [he, keeps_setRole he h]

theorem keeps_witnessLost (w : Nat) : m.objs.keeps p (m.witnessLost w).objs := by
  unfold Mod.witnessLost
  simp [he, h]

theorem keeps_takeHello (x : MortarHdr) (b : HelloBody) : m.objs.keeps p (m.takeHello x b).objs := by
  unfold Mod.takeHello
  simp [he, h]

variable (h' : p 0x7010 = true) (h'' : p 0x7080 = true)

include h'' in
theorem keeps_takeNak (x : MortarHdr) (vc k : Nat) : m.objs.keeps p (m.takeNak x vc k).objs := by
  have hheard : m.objs.keeps p (m.heardMortar x).objs := (keeps_heardMortar x).mpr Store.keeps_refl
  unfold Mod.takeNak
  generalize m.heardMortar x = b at hheard ⊢
  rw [keeps_ite]
  split
  · exact Store.keeps_refl
  · rw [keeps_ite]
    split
    · exact (keeps_mortarDown he h).mpr hheard
    · rw [Mod.objs_modMortar, keeps_count _ h'' (by decide), keeps_each fun m x _ => by simp]
      exact hheard

include h' h''

theorem keeps_fence {a : Store} (reason : Nat) (u : Option Nanos) : a.keeps p (m.fence reason u).objs ↔ a.keeps p m.objs := by
  have hrole : a.keeps p ((m.setRole .fenced).put 0x7040 0x0F reason).objs ↔ a.keeps p m.objs :=
    (keeps_put _ h (by decide)).trans (keeps_setRole he h _)
  unfold Mod.fence
  dsimp only
  rw [keeps_bump h'' (by decide), Mod.modTwin_objs, keeps_raise he, keeps_ite]
  split
  · exact hrole
  · exact (keeps_put _ h' (by decide)).trans hrole

theorem keeps_leaseFence : m.objs.keeps p m.leaseFence.objs := by
  unfold Mod.leaseFence
  simp only [keeps_ite]
  split
  · exact Store.keeps_refl
  · split
    · simp [keeps_fence he h h' h'']
    · simp [keeps_fence he h h' h'']

theorem keeps_judgePartner (x : StatusBody) : m.objs.keeps p (m.judgePartner x).objs := by
  unfold Mod.judgePartner
  simp [he, keeps_fence he h h' h'', keeps_setRole he h, keeps_tryStandby he h]

theorem keeps_takeStatus (x : MortarHdr) (b : StatusBody) : m.objs.keeps p (m.takeStatus x b).objs := by
  refine keeps_sequenced fun m => ?_
  refine Store.keeps_trans ?_ (keeps_judgePartner he h h' h'' b)
  rw [keeps_notePartnerUnsynced]
  simp [h]

end

/-! ### What comes from a witness -/

/-- Whether a GRANT counts for nothing in a module that is not ACTIVE. -/
def Mod.grantIdle (m : Mod) (w : Nat) (x : KMsg) : Bool :=
  m.role = .notPaired || (if m.sentTo w x.req = none then m.twin.successor = none else m.role = .unsynced && !m.flag 0x7000 9)

/-- What a module makes of a GRANT of its witness. -/
def Mod.grantJudged (m : Mod) (w : Nat) (x : KMsg) : Mod :=
  if x.subject ≠ m.fuse then m
  else if m.role = .active then
    match m.sentTo w x.req with
    | none => m
    | some t => if x.term ≠ m.term then m else m.grantRenewal w x t
  else if m.grantIdle w x then m
  else if m.quorum ≤ (m.votes w x).length then m.grantQuorum w x
  else m.modTwin fun s => { s with grants := m.grantHeld w x }

theorem Mod.takeGrant_judged (m : Mod) (w : Nat) (x : KMsg) : m.takeGrant w x = m.fromWitness w 0x11 x fun m => m.grantJudged w x := rfl

section
variable (he : tellsIn p) (h : p 0x7080 = true)
include he h

theorem keeps_takeCountersign (x : MortarHdr) (term req : Nat) : m.objs.keeps p (m.takeCountersign x term req).objs := by
  refine keeps_sequenced fun m => ?_
  dsimp only
  split
  · exact Store.keeps_refl
  · simp [he, h]

theorem keeps_discardKomund {a : Store} : a.keeps p m.discardKomund.objs ↔ a.keeps p m.objs := by
  unfold Mod.discardKomund
  simp [he, h]

theorem keeps_fromWitness {w kind : Nat} {x : KMsg} {take : Mod → Mod} (ht : ∀ m : Mod, m.objs.keeps p (take m).objs) :
    m.objs.keeps p (m.fromWitness w kind x take).objs := by
  unfold Mod.fromWitness
  simp only [keeps_ite]
  split
  · exact Store.keeps_refl
  · split
    · simp [keeps_discardKomund he h]
    · split
      · exact Store.keeps_refl
      · exact Store.keeps_trans (by simp) (ht _)

theorem keeps_takeRefuse (w : Nat) (x : KMsg) : m.objs.keeps p (m.takeRefuse w x).objs := keeps_fromWitness he h fun m => by simp [he]

theorem keeps_takeReleased (w : Nat) (x : KMsg) : m.objs.keeps p (m.takeReleased w x).objs := keeps_fromWitness he h fun m => by simp

variable (h' : p 0x7040 = true)
include h'

theorem keeps_takeProbeAck (w : Nat) (x : KMsg) : m.objs.keeps p (m.takeProbeAck w x).objs := keeps_fromWitness he h fun m => by simp [he, h']

omit h h' in
theorem keeps_newSequences {a : Store} (k : Nat) : a.keeps p (m.newSequences k).objs ↔ a.keeps p m.objs := by
  unfold Mod.newSequences
  rw [keeps_raise he, keeps_each fun m r _ => by simp]

theorem keeps_becomeActive (term : Nat) (l : List (Nat × Nanos)) : m.objs.keeps p (m.becomeActive term l).objs := by
  unfold Mod.becomeActive
  dsimp only
  split
  all_goals simp [he, h, h', keeps_setRole he h', keeps_newSequences he]

theorem keeps_takeGrant (w : Nat) (x : KMsg) : m.objs.keeps p (m.takeGrant w x).objs := by
  rw [m.takeGrant_judged w x]
  refine keeps_fromWitness he h fun m => ?_
  have hquorum : m.objs.keeps p (m.grantQuorum w x).objs := by
    unfold Mod.grantQuorum
    refine Store.keeps_trans ?_ (keeps_becomeActive he h h' _ _)
    rw [keeps_ite]
    split
    · exact Store.keeps_refl
    · exact Store.keeps_refl
  have hrenewal (t : Nanos) : m.objs.keeps p (m.grantRenewal w x t).objs := by
    unfold Mod.grantRenewal
    simp [h]
  unfold Mod.grantJudged
  rw [keeps_ite, keeps_ite, keeps_ite, keeps_ite]
  split
  · exact Store.keeps_refl
  · split
    · split
      · exact Store.keeps_refl
      · rw [keeps_ite]
        split
        · exact Store.keeps_refl
        · exact hrenewal _
    · split
      · exact Store.keeps_refl
      · split
        · exact hquorum
        · exact Store.keeps_refl

end

/-! ### The module as a witness -/

/-- A window that takes what a witness writes: its pairs and itself, the twin's counts, and the counts of the ports it answers on. -/
structure WitnessIn (p : Nat → Bool) : Prop where
  own : ∀ i, 0x7100 ≤ i ∧ i ≤ 0x7140 → p i = true
  counts : p 0x7080 = true
  service : p 0x2610 = true
  ports : ∀ i, 0x3840 ≤ i ∧ i ≤ 0x385F → p i = true

section
variable (he : tellsIn p) (hw : WitnessIn p)
include hw

theorem keeps_countOwn {a : Store} {n q : Nat} (hn : n < 32) (hq : q < 8) : a.keeps p (m.countOwn n q).objs ↔ a.keeps p m.objs := by
  have h : p (0x3840 + n) = true := hw.ports _ (by omega)
  have hs : 1 + q < 256 := by omega
  unfold Mod.countOwn Mod.countSent
  simp [h, hs]

theorem keeps_komundFrames {a : Store} : a.keeps p m.komundFrames.objs ↔ a.keeps p m.objs := by
  have hservice : a.keeps p (if (m.n 0x7000 8).testBit 1 then m.bump 0x2610 4 else m).objs ↔ a.keeps p m.objs := by simp [hw.service]
  unfold Mod.komundFrames
  generalize (if (m.n 0x7000 8).testBit 1 then m.bump 0x2610 4 else m) = b at hservice ⊢
  simp only [keeps_ite]
  split
  · rw [keeps_each fun m n hn => ?_, hservice]
    have hlt : n < 32 := List.mem_range.mp (List.mem_of_mem_filter hn)
    simp [keeps_countOwn hw hlt]
  · exact hservice

variable {s : Nat} (hs : s < 64)
include hs

theorem keeps_reply {a : Store} (kind subject req lease result : Nat) :
    a.keeps p (m.reply s kind subject req lease result).objs ↔ a.keeps p m.objs := by
  have h : p (0x7100 + s) = true := hw.own _ (by omega)
  have h' : p 0x7140 = true := hw.own _ (by decide)
  unfold Mod.reply
  simp [h, h', keeps_komundFrames hw]

theorem keeps_grantPair {a : Store} (fuse req : Nat) (t : Nanos) : a.keeps p (m.grantPair s fuse req t).objs ↔ a.keeps p m.objs := by
  have h : p (0x7100 + s) = true := hw.own _ (by omega)
  unfold Mod.grantPair Mod.setWslot
  simp [h, keeps_reply hw hs]

theorem keeps_witnessDeadline : m.objs.keeps p (m.witnessDeadline s).objs := by
  unfold Mod.witnessDeadline
  dsimp only
  split
  · exact Store.keeps_refl
  · simp [keeps_grantPair hw hs]

omit hs

theorem keeps_restartHoldEnd : m.objs.keeps p m.restartHoldEnd.objs := by
  have h' : p 0x7140 = true := hw.own _ (by decide)
  unfold Mod.restartHoldEnd
  simp [h']

include he

theorem keeps_atWitness {x : KMsg} {leased grants : Bool} {take : Mod → Nat → Mod} (ht : ∀ (m : Mod) (s : Nat), s < 64 → m.objs.keeps p (take m s).objs) :
    m.objs.keeps p (m.atWitness x leased grants take).objs := by
  unfold Mod.atWitness
  simp only [keeps_ite]
  split
  · exact Store.keeps_refl
  · split
    · simp [keeps_discardKomund he hw.counts]
    · split
      · exact Store.keeps_refl
      · next s hslot =>
        have hs := Mod.slotOfPair_lt hslot
        simp only [keeps_ite, keeps_reply hw hs]
        split
        · simp [Mod.setWslot]
        · split
          · simp [Mod.setWslot]
          · exact Store.keeps_trans (by simp [Mod.setWslot]) (ht _ s hs)

theorem keeps_witnessRenew (x : KMsg) : m.objs.keeps p (m.witnessRenew x).objs := by
  refine keeps_atWitness he hw fun m s hs => ?_
  rw [keeps_ite]
  split
  · rw [keeps_reply hw hs]
    split
    · exact Store.keeps_refl
    · rw [keeps_reply hw hs]
      exact Store.keeps_refl
  · rw [keeps_reply hw hs]
    exact Store.keeps_refl

theorem keeps_witnessAcquire (x : KMsg) : m.objs.keeps p (m.witnessAcquire x).objs := by
  refine keeps_atWitness he hw fun m s hs => ?_
  simp [keeps_grantPair hw hs, keeps_reply hw hs, Mod.setWslot]

theorem keeps_witnessRelease (x : KMsg) : m.objs.keeps p (m.witnessRelease x).objs := by
  refine keeps_atWitness he hw fun m s hs => ?_
  have h : p (0x7100 + s) = true := hw.own _ (by omega)
  have hreleased (a : Store) : a.keeps p (((m.put (0x7100 + s) 7 0).put (0x7100 + s) 8 (m.n (0x7100 + s) 8 + 1)).reply s 0x13 0 x.req 0 0).objs
      ↔ a.keeps p m.objs := by simp [keeps_reply hw hs, h]
  rw [keeps_ite]
  split
  · simp [keeps_reply hw hs]
  · rw [keeps_ite]
    split
    · dsimp only
      split
      · exact (hreleased _).mpr Store.keeps_refl
      · rw [keeps_grantPair hw hs]
        exact (hreleased _).mpr Store.keeps_refl
    · simp [keeps_grantPair hw hs, keeps_reply hw hs]

theorem keeps_witnessProbe (x : KMsg) : m.objs.keeps p (m.witnessProbe x).objs :=
  keeps_atWitness he hw fun m s hs => by simp [keeps_reply hw hs]

theorem keeps_komundDiscarded (x : KMsg) : m.objs.keeps p (m.komundDiscarded x).objs := by
  unfold Mod.komundDiscarded
  simp [keeps_discardKomund he hw.counts]

end

end Sys2Proof.Machine
end

section
/-! SUPPORT. What each command's window comes to, and the command's effect in it (ch. 0). -/

namespace Sys2Proof.Machine

theorem State.settle_objs (s : State) (m : Mod) : (s.settle m).m.objs = m.objs := by
  unfold State.settle
  split <;> rfl

/-- A command writes only in its window. -/
def WritesIn (c : Instr) (p : Nat → Bool) : Prop := ∀ s : State, ∃ s', exec c s = .next s' ∧ s'.pending = s.pending ∧ s.m.objs.keeps p s'.m.objs

section
variable {c : Instr} {t : Nanos} {p : Nat → Bool} {g : Mod → Mod}

theorem writesIn_actAnyE {g : EventLog → Mod → Mod} (hg : ∀ (e : EventLog) (m : Mod), m.objs.keeps p (g e m).objs) (he : ∀ s, exec c s = actAnyE t g s) : WritesIn c p := by
  intro s
  refine ⟨_, he s, s.settle_pending _, ?_⟩
  rw [State.settle_objs]
  exact hg s.events (s.m.at t)

theorem writesIn_actAny (hg : ∀ m : Mod, m.objs.keeps p (g m).objs) (he : ∀ s, exec c s = actAny t g s := by intros; rfl) : WritesIn c p :=
  writesIn_actAnyE (fun _ => hg) he

theorem writesIn_act (hg : ∀ m : Mod, m.objs.keeps p (g m).objs) (he : ∀ s, exec c s = act t g s := by intros; rfl) : WritesIn c p := by
  refine writesIn_actAnyE (g := fun _ m => if m.runs then g m else m) (fun e m => ?_) he
  split
  · exact hg m
  · exact Store.keeps_refl

end

/-! ### The windows -/

/-- One index and the event counts. -/
def alone (j : Nat) : Nat → Bool := fun i => i = j || eventIndex i

theorem alone_tells (j : Nat) : tellsIn (alone j) := ⟨by simp [alone, eventIndex], by simp [alone, eventIndex]⟩

theorem alone_self (j : Nat) : alone j j = true := by simp [alone]

/-- The window of ingest. -/
def ingestWindow : Nat → Bool := fun i => within i 0x4100 0x4B7F || eventIndex i

theorem ingest_mem (i : Nat) (h : within i 0x4100 0x4B7F = true) : ingestWindow i = true := by simp [ingestWindow, h]

/-- The twin's window. -/
def twinWindow : Nat → Bool := fun i => within i 0x7000 0x7080 || eventIndex i

/-- The window of a witness. -/
def witnessWindow : Nat → Bool := fun i => within i 0x7100 0x7140 || i = 0x7080 || i = 0x2610 || within i 0x3840 0x385F || eventIndex i

theorem witnessWindow_in : WitnessIn witnessWindow :=
  ⟨fun i h => by simp [witnessWindow, within, h], by decide, by decide, fun i h => by simp [witnessWindow, within, h]⟩

theorem ingest_tells : tellsIn ingestWindow := ⟨by decide, by decide⟩

theorem twin_tells : tellsIn twinWindow := ⟨by decide, by decide⟩

theorem witness_tells : tellsIn witnessWindow := ⟨by decide, by decide⟩

/-- Each command with a window writes only in it. -/
theorem writesIn_of_writesOnly {c : Instr} {p : Nat → Bool} (h : writesOnly c = some p) : WritesIn c p := by
  cases c with
  | videoPacket _ g path x =>
    obtain rfl : ingestWindow = p := Option.some.inj h
    exact writesIn_act fun m => keeps_takeVideo ingest_mem ingest_tells g path x
  | pathTimeout _ g path =>
    obtain rfl : ingestWindow = p := Option.some.inj h
    exact writesIn_act fun m => keeps_pathTimeout ingest_mem ingest_tells g path
  | audioPacket _ n flow path x =>
    obtain rfl : ingestWindow = p := Option.some.inj h
    exact writesIn_act fun m => keeps_takeAudio ingest_mem n flow.val path x
  | audioFlowLoss _ n flow =>
    obtain rfl : ingestWindow = p := Option.some.inj h
    exact writesIn_act fun m => keeps_audioLoss ingest_tells n.val flow.val
  | audioFlowRestore _ n flow =>
    obtain rfl : ingestWindow = p := Option.some.inj h
    exact writesIn_act fun m => keeps_audioRestore ingest_tells n.val flow.val
  | ancPacket _ n flow path x =>
    obtain rfl : ingestWindow = p := Option.some.inj h
    exact writesIn_act fun m => keeps_takeAnc ingest_mem ingest_tells n flow.val path x
  | ancFlowLoss _ n flow =>
    obtain rfl : ingestWindow = p := Option.some.inj h
    exact writesIn_act fun m => keeps_ancLoss ingest_tells n.val flow.val
  | holdLimitReached _ n =>
    obtain rfl : ingestWindow = p := Option.some.inj h
    exact writesIn_act fun m => keeps_holdLimit ingest_tells n.val
  | veneerCommitAbandon _ n =>
    obtain rfl : ingestWindow = p := Option.some.inj h
    exact writesIn_act fun m => keeps_abandonCommit ingest_mem ingest_tells n
  | refreshDue _ ch bank urgent =>
    obtain rfl : alone (0x2140 + ch.val) = p := Option.some.inj h
    exact writesIn_act fun m => keeps_refreshDue (alone_tells _) (alone_self _) bank.val urgent
  | refreshForced _ ch bank =>
    obtain rfl : alone (0x2140 + ch.val) = p := Option.some.inj h
    exact writesIn_act fun m => keeps_refreshForced (alone_tells _) (alone_self _) bank.val
  | dimmTemperatureChange _ ch temp =>
    obtain rfl : alone (0x2140 + ch.val) = p := Option.some.inj h
    exact writesIn_act fun m => keeps_dimmTemperature (alone_tells _) (alone_self _) temp
  | dramCorrectableError _ ch sub rank dev =>
    obtain rfl : alone (0x2140 + ch.val) = p := Option.some.inj h
    exact writesIn_act fun m => keeps_correctable (alone_tells _) (alone_self _) sub.val rank.val dev.val
  | patrolScrubPass _ ch =>
    obtain rfl : alone (0x2140 + ch.val) = p := Option.some.inj h
    exact writesIn_act fun m => keeps_scrubPass (alone_self _)
  | cageInsertion _ q =>
    obtain rfl : alone (0x2440 + q.val) = p := Option.some.inj h
    exact writesIn_actAny fun m => keeps_plugCage (alone_tells _)
  | cagePresenceStable _ q x =>
    obtain rfl : alone (0x2440 + q.val) = p := Option.some.inj h
    exact writesIn_act fun m => keeps_stableCage (alone_tells _) (alone_self _) x
  | moduleReady _ q =>
    obtain rfl : alone (0x2440 + q.val) = p := Option.some.inj h
    exact writesIn_act fun m => keeps_readyCage (alone_tells _) (alone_self _)
  | moduleReadyTimeout _ q =>
    obtain rfl : alone (0x2440 + q.val) = p := Option.some.inj h
    exact writesIn_act fun m => keeps_readyTimeout (alone_tells _) (alone_self _)
  | opticTemperatureRead _ q temp high =>
    obtain rfl : alone (0x2440 + q.val) = p := Option.some.inj h
    exact writesIn_act fun m => keeps_opticTemperature (alone_tells _) temp high
  | figureOfMeritLow _ l snr =>
    obtain rfl : alone (0x2480 + l.val) = p := Option.some.inj h
    exact writesIn_act fun m => keeps_fomLow (alone_tells _) (alone_self _) snr
  | checkerLock _ l inverted k =>
    cases Option.some.inj h
    exact writesIn_act fun m => keeps_checkerLocks (decide_eq_true rfl) inverted k
  | servicePortLinkChange _ link =>
    obtain rfl : alone 0x2610 = p := Option.some.inj h
    exact writesIn_act fun m => keeps_serviceLink (alone_tells _) (alone_self _) link
  | gateWindowEnd _ k count =>
    cases Option.some.inj h
    exact writesIn_act fun m => keeps_gateWindow ⟨by decide, by decide⟩ (by decide) (by decide) k count
  | forcedSwitchComplete _ k =>
    obtain rfl : alone (0x1810 + k.val) = p := Option.some.inj h
    exact writesIn_act fun m => keeps_forcedSwitch (alone_tells _) (alone_self _)
  | accessTimeout _ block addr initiator =>
    obtain rfl : alone 0x1850 = p := Option.some.inj h
    exact writesIn_act fun m => keeps_accessTimeout (alone_tells _) (alone_self _) block addr initiator
  | frequencyCounterDone _ k stopped =>
    cases Option.some.inj h
    exact writesIn_act fun m => keeps_counterDone (by decide) k stopped
  | calibrationRunStart _ d =>
    cases Option.some.inj h
    exact writesIn_act fun m => keeps_startRun (decide_eq_true rfl)
  | temperatureSample _ l =>
    cases Option.some.inj h
    exact writesIn_act fun m => keeps_sampleTemperatures (fun d => by have := d.isLt; simp only [within, Bool.and_eq_true, decide_eq_true_eq]; omega) l
  | xbWarmupTimeout _ =>
    obtain rfl : alone 0x1800 = p := Option.some.inj h
    exact writesIn_act fun m => keeps_xbTimeout (alone_tells _) (alone_self _)
  | feedStateChange _ b mv =>
    obtain rfl : alone 0x1D40 = p := Option.some.inj h
    exact writesIn_actAny fun m => keeps_feedChange (alone_tells _) (alone_self _) b.isLt mv
  | internalShortLimit _ b =>
    obtain rfl : alone 0x1D40 = p := Option.some.inj h
    exact writesIn_actAny fun m => keeps_feedShort (alone_tells _) (alone_self _) b.isLt
  | holdUpCharged _ =>
    obtain rfl : alone 0x1D40 = p := Option.some.inj h
    exact writesIn_actAny fun m => keeps_holdUpCharged (alone_self _)
  | inputDip _ =>
    obtain rfl : alone 0x1D40 = p := Option.some.inj h
    exact writesIn_actAny fun m => keeps_inputDip (alone_self _)
  | holdUpExpiry _ =>
    obtain rfl : alone 0x1D40 = p := Option.some.inj h
    exact writesIn_actAny fun m => keeps_holdUpExpiry (alone_self _)
  | coolFail _ on =>
    obtain rfl : alone 0x1D00 = p := Option.some.inj h
    exact writesIn_act fun m => keeps_coolFail (alone_tells _) (alone_self _) on
  | thermalStopEnd _ =>
    obtain rfl : alone 0x1D00 = p := Option.some.inj h
    exact writesIn_act fun m => keeps_thermalEnd (alone_tells _) (alone_self _)
  | liveFieldUpdate _ =>
    cases Option.some.inj h
    exact writesIn_act fun m => keeps_updateLive (by decide) (by decide)
  | ejector _ opened =>
    cases Option.some.inj h
    exact writesIn_actAny fun m => keeps_lever ⟨by decide, by decide⟩ opened
  | i2cOffsetWrite _ k =>
    cases Option.some.inj h
    exact writesIn_actAny fun m => keeps_i2cOffset k.toNat
  | i2cRead _ =>
    cases Option.some.inj h
    exact writesIn_actAny fun m => keeps_i2cRead
  | xbOvenSettled _ =>
    cases Option.some.inj h
    exact writesIn_act fun m => keeps_ovenSettled
  | mortarIdle _ x =>
    obtain rfl : twinWindow = p := Option.some.inj h
    exact writesIn_act fun m => keeps_takeIdle x
  | idleSendTimer _ =>
    obtain rfl : twinWindow = p := Option.some.inj h
    exact writesIn_act fun m => keeps_sendIdle
  | mortarHello _ x b =>
    obtain rfl : twinWindow = p := Option.some.inj h
    exact writesIn_act fun m => keeps_takeHello twin_tells (by decide) x b
  | helloTimer _ =>
    obtain rfl : twinWindow = p := Option.some.inj h
    exact writesIn_act fun m => keeps_helloTimer (by decide)
  | statusTimer _ =>
    obtain rfl : twinWindow = p := Option.some.inj h
    exact writesIn_act fun m => keeps_sendStatus
  | mortarNak _ x vc k =>
    obtain rfl : twinWindow = p := Option.some.inj h
    exact writesIn_act fun m => keeps_takeNak twin_tells (by decide) (by decide) x vc.val k
  | mortarStatus _ x b =>
    obtain rfl : twinWindow = p := Option.some.inj h
    exact writesIn_act fun m => keeps_takeStatus twin_tells (by decide) (by decide) (by decide) x b
  | countersignRequest _ x term req =>
    obtain rfl : twinWindow = p := Option.some.inj h
    exact writesIn_act fun m => keeps_takeCountersignRequest x term req
  | countersign _ x term req _ =>
    obtain rfl : twinWindow = p := Option.some.inj h
    exact writesIn_act fun m => keeps_takeCountersign twin_tells (by decide) x term req
  | handover _ x B w =>
    obtain rfl : twinWindow = p := Option.some.inj h
    exact writesIn_act fun m => keeps_takeHandover x B w
  | placement _ x b =>
    obtain rfl : twinWindow = p := Option.some.inj h
    exact writesIn_act fun m => keeps_takePlacement x b
  | linkSilent _ =>
    obtain rfl : twinWindow = p := Option.some.inj h
    exact writesIn_act fun m => keeps_linkSilent twin_tells
  | linkDown _ =>
    obtain rfl : twinWindow = p := Option.some.inj h
    exact writesIn_act fun m => keeps_linkLost twin_tells (by decide)
  | recordMissing _ r k =>
    obtain rfl : twinWindow = p := Option.some.inj h
    exact writesIn_act fun m => keeps_recordMissing (by decide) r.val k
  | eligibilityHoldExpiry _ =>
    obtain rfl : twinWindow = p := Option.some.inj h
    exact writesIn_act fun m => keeps_holdExpired twin_tells (by decide)
  | leaseFence _ =>
    obtain rfl : twinWindow = p := Option.some.inj h
    exact writesIn_act fun m => keeps_leaseFence twin_tells (by decide) (by decide) (by decide)
  | grant _ w x =>
    obtain rfl : twinWindow = p := Option.some.inj h
    exact writesIn_act fun m => keeps_takeGrant twin_tells (by decide) (by decide) w.val x
  | refuse _ w x =>
    obtain rfl : twinWindow = p := Option.some.inj h
    exact writesIn_act fun m => keeps_takeRefuse twin_tells (by decide) w.val x
  | released _ w x =>
    obtain rfl : twinWindow = p := Option.some.inj h
    exact writesIn_act fun m => keeps_takeReleased twin_tells (by decide) w.val x
  | probeAck _ w x =>
    obtain rfl : twinWindow = p := Option.some.inj h
    exact writesIn_act fun m => keeps_takeProbeAck twin_tells (by decide) (by decide) w.val x
  | witnessUnreachable _ w =>
    obtain rfl : twinWindow = p := Option.some.inj h
    exact writesIn_act fun m => keeps_witnessLost twin_tells (by decide) w.val
  | outputPortsDown _ =>
    obtain rfl : twinWindow = p := Option.some.inj h
    exact writesIn_act fun m => keeps_portsDownHandover (by decide)
  | renew _ x =>
    obtain rfl : witnessWindow = p := Option.some.inj h
    exact writesIn_act fun m => keeps_witnessRenew witness_tells witnessWindow_in x
  | acquire _ x =>
    obtain rfl : witnessWindow = p := Option.some.inj h
    exact writesIn_act fun m => keeps_witnessAcquire witness_tells witnessWindow_in x
  | release _ x =>
    obtain rfl : witnessWindow = p := Option.some.inj h
    exact writesIn_act fun m => keeps_witnessRelease witness_tells witnessWindow_in x
  | probe _ x =>
    obtain rfl : witnessWindow = p := Option.some.inj h
    exact writesIn_act fun m => keeps_witnessProbe witness_tells witnessWindow_in x
  | witnessDeadline _ s =>
    obtain rfl : witnessWindow = p := Option.some.inj h
    exact writesIn_act fun m => keeps_witnessDeadline witnessWindow_in s.isLt
  | witnessRestartHoldEnd _ =>
    obtain rfl : witnessWindow = p := Option.some.inj h
    exact writesIn_act fun m => keeps_restartHoldEnd witnessWindow_in
  | komundMessageDiscarded _ x =>
    obtain rfl : witnessWindow = p := Option.some.inj h
    exact writesIn_act fun m => keeps_komundDiscarded witness_tells witnessWindow_in x
  | _ => exact nomatch h

/-- No window takes the fuse ID's index. -/
theorem writesOnly_fuse {c : Instr} {p : Nat → Bool} (h : writesOnly c = some p) : p 0x1000 = false := by
  unfold writesOnly at h
  split at h
  all_goals cases h
  all_goals simp [within, eventIndex]
  all_goals omega

/-- Settles O60: each command with a window is one operation, and what that writes lies in the window. -/
theorem commandsWriteOnlyTheirObjects : Obligations.CommandsWriteOnlyTheirObjects := by
  intro c s p _ h
  obtain ⟨s', hx, hp, hk⟩ := writesIn_of_writesOnly h s
  exact ⟨s', hx, hp, fun idx sub hs hi => hk (writesOnly_fuse h) idx sub hs hi⟩

end Sys2Proof.Machine
end

section
/-! SUPPORT. Memberships and queriers: what a record makes of a membership, and what is sent on the ports (R211, R212). -/

namespace Sys2Proof.Machine

/-! ### A membership and a record for it -/

section
variable {x : Membership} {gmi lmt : Nanos}

/-- A record of EXCLUDE of no source makes a membership of every source. -/
theorem Membership.take_excludeNone : ∃ y : Membership, x.take .exclude [] gmi = (y, [], false)
    ∧ y.exclude = true ∧ y.incl = [] ∧ y.excl = [] ∧ y.until_ = gmi ∧ y.port = x.port ∧ y.fam = x.fam ∧ y.group = x.group := by
  refine ⟨_, rfl, rfl, ?_, ?_, rfl, rfl, rfl, rfl⟩
  · simp
  · simp

/-- A membership with sources renewed. -/
def Membership.renewed (x : Membership) (src : List Nat) (gmi : Nanos) : Membership :=
  { x with incl := renewSources x.incl src gmi, excl := x.excl.filter fun s => !src.contains s }

theorem mem_renewSources {l : List (Nat × Nanos)} {src : List Nat} {y : Nat} (h : y ∈ src) : (y, gmi) ∈ renewSources l src gmi :=
  List.mem_append_right _ (List.mem_map.mpr ⟨y, h, rfl⟩)

theorem renewSources_length (l : List (Nat × Nanos)) (src : List Nat) : (renewSources l src gmi).length ≤ l.length + src.length := by
  unfold renewSources
  rw [List.length_append, List.length_map]
  exact Nat.add_le_add_right (List.length_filter_le _ _) _

theorem Membership.renewed_size (src : List Nat) : (x.renewed src gmi).size ≤ x.size + src.length := by
  have hincl := renewSources_length (gmi := gmi) x.incl src
  have hexcl := List.length_filter_le (fun s => !src.contains s) x.excl
  unfold Membership.size Membership.renewed
  dsimp only
  omega

/-- The sources a record asks for are not among those it lists. -/
theorem Membership.take_include {mode : MemMode} (h : mode = .include ∨ mode = .toInclude ∨ mode = .allow) (src : List Nat) :
    ∃ (asked : List Nat) (group : Bool), x.take mode src gmi = (x.renewed src gmi, asked, group) ∧ (∀ y ∈ src, y ∉ asked)
      ∧ (mode = .toInclude → group = x.exclude) := by
  obtain rfl | rfl | rfl := h
  · exact ⟨[], false, rfl, fun _ _ => List.not_mem_nil, fun h => nomatch h⟩
  · refine ⟨(x.incl.map (·.1)).filter fun s => !src.contains s, x.exclude, rfl, fun y hy hmem => ?_, fun _ => rfl⟩
    have := (List.mem_filter.mp hmem).2
    simp [hy] at this
  · exact ⟨[], false, rfl, fun _ _ => List.not_mem_nil, fun h => nomatch h⟩

/-- A query lowers timers and changes nothing else of a membership. -/
theorem Membership.lower_keeps (asked : List Nat) (group : Bool) : (x.lower asked group lmt).port = x.port ∧ (x.lower asked group lmt).fam = x.fam
    ∧ (x.lower asked group lmt).group = x.group ∧ (x.lower asked group lmt).exclude = x.exclude ∧ (x.lower asked group lmt).excl = x.excl
    ∧ (x.lower asked group lmt).size = x.size ∧ (group = false → (x.lower asked group lmt).until_ = x.until_) := by
  refine ⟨rfl, rfl, rfl, rfl, rfl, ?_, fun h => ?_⟩
  · unfold Membership.size Membership.lower
    dsimp only
    rw [List.length_map]
  · unfold Membership.lower
    rw [h]
    rfl

theorem Membership.mem_lower {asked : List Nat} {group : Bool} {y : Nat} {t : Nanos} (h : (y, t) ∈ x.incl) (ha : y ∉ asked) :
    (y, t) ∈ (x.lower asked group lmt).incl := by
  refine List.mem_map.mpr ⟨(y, t), h, ?_⟩
  simp [ha]

end

/-! ### The memberships held -/

/-- Without those of a kind, a list is shorter by at least one of them. -/
theorem sum_filter_not_add {α : Type} {f : α → Nat} {g : α → Bool} {l : List α} {x : α} (hx : x ∈ l) (hg : g x = true) :
    ((l.filter fun y => !g y).map f).sum + f x ≤ (l.map f).sum := by
  have hle (k : List α) : ((k.filter fun y => !g y).map f).sum ≤ (k.map f).sum := (List.filter_sublist.map f).sum_le_sum fun _ _ => Nat.zero_le _
  induction l with
  | nil => exact absurd hx List.not_mem_nil
  | cons y l ih =>
    obtain rfl | hmem := List.mem_cons.mp hx
    · have := hle l
      rw [List.filter_cons_of_neg (by simp [hg]), List.map_cons, List.sum_cons]
      omega
    · have := ih hmem
      rw [List.filter_cons, List.map_cons, List.sum_cons]
      split
      · rw [List.map_cons, List.sum_cons]
        omega
      · omega

section
variable (m : Mod) (port : Nat) (rep : MemReport)

/-- Whether a membership is the one a record is for. -/
def isFor (x : Membership) : Bool := x.port = port && x.fam = rep.fam && x.group = rep.group

/-- The membership a record is for: a new one where none is held. -/
def Mod.heldFor : Membership := (m.fab.members.find? (isFor port rep)).getD ⟨port, rep.fam, rep.group, false, [], [], 0, 0⟩

/-- The memberships of others. -/
def Mod.heldBeside : List Membership := m.fab.members.filter fun x => !isFor port rep x

theorem Mod.heldFor_is : isFor port rep (m.heldFor port rep) = true := by
  unfold Mod.heldFor
  cases h : m.fab.members.find? (isFor port rep) with
  | none => simp [isFor]
  | some x => exact List.find?_some h

/-- What is held beside a membership, and the membership with room for one that is new. -/
theorem Mod.heldBeside_size : ((m.heldBeside port rep).map Membership.size).sum + (m.heldFor port rep).size
    ≤ (m.fab.members.map Membership.size).sum + (if (m.fab.members.find? (isFor port rep)) = none then 1 else 0) := by
  unfold Mod.heldBeside Mod.heldFor
  cases h : m.fab.members.find? (isFor port rep) with
  | none =>
    have hle : ((m.fab.members.filter fun x => !isFor port rep x).map Membership.size).sum ≤ (m.fab.members.map Membership.size).sum :=
      (List.filter_sublist.map Membership.size).sum_le_sum fun _ _ => Nat.zero_le _
    have hsize : (⟨port, rep.fam, rep.group, false, [], [], 0, 0⟩ : Membership).size = 1 := rfl
    simpa [hsize] using hle
  | some x => simpa using sum_filter_not_add (f := Membership.size) (List.mem_of_find?_eq_some h) (List.find?_some h)

/-! ### Taking a record (R211, R212) -/

/-- Whether a record comes of an older host. -/
def recordOld (rep : MemReport) : Bool := rep.version < (if rep.fam = .v4 then 3 else 2)

/-- What a record in force makes of its membership, and what is to be asked for. -/
def Membership.remade (x : Membership) (old querier : Bool) (gmi lmt : Nanos) (mode : MemMode) (src : List Nat) : Membership × List Nat × Bool :=
  let y := x.take mode src gmi
  let new := if old && mode = .exclude then { y.1 with olderUntil := gmi } else y.1
  (if querier then new.lower y.2.1 y.2.2 lmt else new, y.2)

/-- What a record in force makes of the membership it is for. -/
def Mod.recordMakes (mode : MemMode) (src : List Nat) : Membership × List Nat × Bool :=
  (m.heldFor port rep).remade (recordOld rep) (m.fab.roles.contains (port, rep.fam)) (m.ctr + m.membershipInterval) (m.ctr + m.lastMemberTime) mode src

/-- A group or its sources are asked for. -/
def Mod.askFor (m : Mod) (port : Nat) (rep : MemReport) (sources : List Nat) : Mod :=
  (m.send (.membershipQuery port rep.fam rep.group sources)).countOwn port 3

/-- A membership is held as a record leaves it. -/
def Mod.holdMembership (new : Membership) (asked : List Nat) (group : Bool) : Mod :=
  let a : Mod := { m with fab := { m.fab with refused := m.fab.refused.filter fun l => l.2 ≠ port } }
  if new.exclude = false ∧ new.incl = [] then
    let a : Mod := { a with fab := { a.fab with members := m.heldBeside port rep } }
    a.put 0x3003 1 a.recordsHeld
  else if 65536 < ((m.heldBeside port rep).map Membership.size).sum + new.size then (a.bump 0x3003 5).raise 0x3003 port [port]
  else
    let a : Mod := { a with fab := { a.fab with members := m.heldBeside port rep ++ [new] } }
    let a := a.when (m.fab.roles.contains (port, rep.fam) && asked ≠ []) fun a => a.askFor port rep asked
    let a := a.when (m.fab.roles.contains (port, rep.fam) && group) fun a => a.askFor port rep []
    a.put 0x3003 1 a.recordsHeld

variable {m port rep}

theorem Mod.takeReport_idle (h : ¬(m.portUp port = true ∧ (m.n 0x3002 1).testBit port = true ∧ (rep.fam = .v4 → rep.version ≠ 1))) :
    m.takeReport port rep = m := by
  unfold Mod.takeReport
  refine if_pos ?_
  by_contra hc
  exact h (by simpa [and_assoc] using hc)

section
variable (h : m.portUp port = true ∧ (m.n 0x3002 1).testBit port = true ∧ (rep.fam = .v4 → rep.version ≠ 1))
include h

theorem Mod.takeReport_ignored (hc : compatible (recordOld rep) (m.ctr < (m.heldFor port rep).olderUntil) rep.mode rep.sources.dedup = none) :
    m.takeReport port rep = m := by
  unfold Mod.takeReport
  rw [if_neg (by simpa [and_assoc] using h)]
  dsimp only
  split
  · rfl
  · next hs => exact absurd (hs.symm.trans hc) (by simp)

theorem Mod.takeReport_taken {x : MemMode × List Nat}
    (hc : compatible (recordOld rep) (m.ctr < (m.heldFor port rep).olderUntil) rep.mode rep.sources.dedup = some x) :
    m.takeReport port rep = m.holdMembership port rep (m.recordMakes port rep x.1 x.2).1 (m.recordMakes port rep x.1 x.2).2.1
      (m.recordMakes port rep x.1 x.2).2.2 := by
  unfold Mod.takeReport
  rw [if_neg (by simpa [and_assoc] using h)]
  dsimp only
  split
  · next hs => exact absurd (hs.symm.trans hc) (by simp)
  · next mode src hs =>
    obtain rfl : (mode, src) = x := Option.some.inj (hs.symm.trans hc)
    rfl

end

theorem Mod.n_put_records (a : Mod) : (a.put 0x3003 1 a.recordsHeld).n 0x3003 1 = (a.put 0x3003 1 a.recordsHeld).recordsHeld :=
  congrArg Val.nat (Mod.get_put_same _ _ (by decide))

theorem Mod.askFor_part (m : Mod) (port : Nat) (rep : MemReport) (l : List Nat) {q : Part} (h : q ∉ [.draws, .objs, .out]) :
    (m.askFor port rep l).part q = m.part q := by
  unfold Mod.askFor
  exact (Mod.countOwn_part _ _ _ (by simp_all)).trans (Mod.send_part _ _ (by simp_all))

theorem Mod.mem_askFor (m : Mod) (port : Nat) (rep : MemReport) (l : List Nat) : Output.membershipQuery port rep.fam rep.group l ∈ (m.askFor port rep l).out := by
  unfold Mod.askFor
  rw [show (Mod.countOwn _ port 3).out = _ from Mod.countOwn_part (p := .out) _ _ _ (by decide)]
  exact List.mem_append_right _ (List.mem_singleton_self _)

theorem Mod.when_askFor_fab (m : Mod) (c : Bool) (l : List Nat) : (m.when c fun a => a.askFor port rep l).fab = m.fab := by
  unfold Mod.when
  split
  · exact m.askFor_part port rep l (q := .fab) (by decide)
  · rfl

/-- The others stay, and either nothing is held otherwise or the records are counted anew. -/
theorem Mod.holdMembership_shows (new : Membership) (asked : List Nat) (group : Bool) :
    let b := m.holdMembership port rep new asked group
    (∀ x ∈ m.fab.members, isFor port rep x = false → x ∈ b.fab.members) ∧ (b.fab.members = m.fab.members ∨ b.n 0x3003 1 = b.recordsHeld) := by
  have hbeside {x : Membership} (hx : x ∈ m.fab.members) (hn : isFor port rep x = false) : x ∈ m.heldBeside port rep :=
    List.mem_filter.mpr ⟨hx, by rw [hn]; rfl⟩
  unfold Mod.holdMembership
  dsimp only
  split
  · exact ⟨fun x hx hn => hbeside hx hn, .inr (Mod.n_put_records _)⟩
  · split
    · rw [show ∀ a : Mod, ((a.bump 0x3003 5).raise 0x3003 port [port]).fab = a.fab from fun a => (Mod.raise_fab ..).trans (Mod.bump_fab ..)]
      exact ⟨fun x hx _ => hx, .inl rfl⟩
    · refine ⟨fun x hx hn => ?_, .inr (Mod.n_put_records _)⟩
      rw [Mod.put_fab, Mod.when_askFor_fab, Mod.when_askFor_fab]
      exact List.mem_append_left _ (hbeside hx hn)

/-- A membership for which there is room is held, and the querier asks for its group where it is to. -/
theorem Mod.holdMembership_room {new : Membership} {asked : List Nat} {group : Bool} (hne : ¬(new.exclude = false ∧ new.incl = []))
    (hroom : ((m.heldBeside port rep).map Membership.size).sum + new.size ≤ 65536) :
    let b := m.holdMembership port rep new asked group
    new ∈ b.fab.members ∧ (m.fab.roles.contains (port, rep.fam) = true → group = true → Output.membershipQuery port rep.fam rep.group [] ∈ b.out) := by
  have heq : m.holdMembership port rep new asked group = _ := (if_neg hne).trans (if_neg (Nat.not_lt.mpr hroom))
  rw [heq]
  refine ⟨?_, fun hq hg => ?_⟩
  · rw [Mod.put_fab, Mod.when_askFor_fab, Mod.when_askFor_fab]
    exact List.mem_append_right _ (List.mem_singleton_self _)
  · rw [Mod.put_out, hq, hg]
    exact Mod.mem_askFor _ _ _ _

section
variable {x : Membership} {old querier : Bool} {gmi lmt : Nanos}

/-- What a record makes is a membership of its own port, family and group. -/
theorem Membership.remade_excludeNone (hx : isFor port rep x = true) : ∃ y : Membership, x.remade old querier gmi lmt .exclude [] = (y, [], false)
    ∧ isFor port rep y = true ∧ y.exclude = true ∧ y.excl = [] ∧ y.size = 1 ∧ y.until_ = gmi := by
  obtain ⟨y, htake, hexclude, hincl, hexcl, huntil, hport, hfam, hgroup⟩ := x.take_excludeNone (gmi := gmi)
  have hfor : isFor port rep y = true := by
    unfold isFor at hx ⊢
    rwa [hport, hfam, hgroup]
  have hsize : y.size = 1 := by
    unfold Membership.size
    rw [hincl, hexcl]
    rfl
  have hnew : ∃ z : Membership, (if old && MemMode.exclude = .exclude then { y with olderUntil := gmi } else y) = z
      ∧ isFor port rep z = true ∧ z.exclude = true ∧ z.excl = [] ∧ z.size = 1 ∧ z.until_ = gmi := by
    refine ⟨_, rfl, ?_⟩
    split
    · exact ⟨hfor, hexclude, hexcl, hsize, huntil⟩
    · exact ⟨hfor, hexclude, hexcl, hsize, huntil⟩
  obtain ⟨z, hz, hfor, hexclude, hexcl, hsize, huntil⟩ := hnew
  unfold Membership.remade
  dsimp only
  rw [htake]
  dsimp only
  rw [hz]
  refine ⟨_, rfl, ?_⟩
  split
  · obtain ⟨h1, h2, h3, h4, h5, h6, h7⟩ := z.lower_keeps (lmt := lmt) [] false
    refine ⟨?_, h4.trans hexclude, h5.trans hexcl, h6.trans hsize, (h7 rfl).trans huntil⟩
    unfold isFor at hfor ⊢
    rwa [h1, h2, h3]
  · exact ⟨hfor, hexclude, hexcl, hsize, huntil⟩

/-- A record that lists sources makes a membership that forwards them for the interval. -/
theorem Membership.remade_include (hx : isFor port rep x = true) {mode : MemMode} (h : mode = .include ∨ mode = .toInclude ∨ mode = .allow)
    (src : List Nat) :
    ∃ (y : Membership) (asked : List Nat) (group : Bool), x.remade old querier gmi lmt mode src = (y, asked, group) ∧ isFor port rep y = true
      ∧ y.exclude = x.exclude ∧ y.size ≤ x.size + src.length ∧ (∀ s ∈ src, (s, gmi) ∈ y.incl) ∧ (mode = .toInclude → group = x.exclude) := by
  obtain ⟨asked, group, htake, hasked, hgroup⟩ := x.take_include (gmi := gmi) h src
  have hmode : ¬(old && mode = .exclude) = true := by
    obtain rfl | rfl | rfl := h <;> simp
  have hfor : isFor port rep (x.renewed src gmi) = true := hx
  have hsize := x.renewed_size (gmi := gmi) src
  unfold Membership.remade
  dsimp only
  rw [htake]
  dsimp only
  rw [if_neg hmode]
  refine ⟨_, _, _, rfl, ?_⟩
  split
  · obtain ⟨h1, h2, h3, h4, -, h6, -⟩ := (x.renewed src gmi).lower_keeps (lmt := lmt) asked group
    refine ⟨?_, h4, h6 ▸ hsize, fun s hs => Membership.mem_lower (mem_renewSources hs) (hasked s hs), hgroup⟩
    unfold isFor at hfor ⊢
    rwa [h1, h2, h3]
  · exact ⟨hfor, rfl, hsize, fun s hs => mem_renewSources hs, hgroup⟩

end

theorem compatible_excludeNone (old older : Bool) : compatible old older .exclude [] = some (.exclude, []) := by
  cases old <;> cases older <;> rfl

theorem compatible_include (older : Bool) {mode : MemMode} (h : mode = .include ∨ mode = .toInclude ∨ mode = .allow) (src : List Nat) :
    compatible false older mode src = some (mode, src) := by
  obtain rfl | rfl | rfl := h <;> cases older <;> rfl

end

/-! ### Timers of memberships (R212) -/

section
variable {m : Mod} {port group : Nat}

/-- What a timer leaves of a membership. -/
def Membership.elapsed (ctr : Nanos) (port group : Nat) (source : Option Nat) (x : Membership) : Option Membership :=
  if x.port ≠ port ∨ x.group ≠ group then some x
  else
    match source with
    | none =>
      if x.exclude && x.until_ ≤ ctr then
        if x.incl = [] then none else some { x with exclude := false, excl := [] }
      else some x
    | some s =>
      if !(x.incl.any fun y => y.1 = s && y.2 ≤ ctr) then some x
      else
        if x.exclude then some { x with incl := x.incl.filter fun y => y.1 ≠ s, excl := x.excl ++ [s] }
        else if (x.incl.filter fun y => y.1 ≠ s) = [] then none else some { x with incl := x.incl.filter fun y => y.1 ≠ s }

theorem Mod.membershipTimeout_shows (source : Option Nat) :
    (m.membershipTimeout port group source).fab.members = m.fab.members.filterMap (Membership.elapsed m.ctr port group source)
      ∧ (m.membershipTimeout port group source).n 0x3003 1 = (m.membershipTimeout port group source).recordsHeld :=
  ⟨by unfold Mod.membershipTimeout; rw [Mod.put_fab]; rfl, Mod.n_put_records _⟩

theorem Membership.elapsed_other {ctr : Nanos} {source : Option Nat} {x : Membership} (h : x.port ≠ port ∨ x.group ≠ group) :
    x.elapsed ctr port group source = some x := if_pos h

theorem Membership.elapsed_group {ctr : Nanos} {x y : Membership} (h : x.elapsed ctr port group none = some y) (hp : y.port = port) (hg : y.group = group)
    (he : y.exclude = true) : ctr < y.until_ := by
  unfold Membership.elapsed at h
  split at h
  · next hx =>
    obtain rfl := Option.some.inj h
    exact absurd hx (by simp [hp, hg])
  · dsimp only at h
    split at h
    · split at h
      · exact nomatch h
      · obtain rfl := Option.some.inj h
        exact nomatch he
    · next hn =>
      obtain rfl := Option.some.inj h
      simpa [he] using hn

theorem Membership.elapsed_source {ctr : Nanos} {s : Nat} {x y : Membership} (h : x.elapsed ctr port group (some s) = some y) (hp : y.port = port)
    (hg : y.group = group) : ∀ z ∈ y.incl, z.1 = s → ctr < z.2 := by
  have hdropped (z : Nat × Nanos) (hz : z ∈ x.incl.filter fun y => y.1 ≠ s) (hs : z.1 = s) : ctr < z.2 :=
    absurd hs (of_decide_eq_true (List.mem_filter.mp hz).2)
  unfold Membership.elapsed at h
  split at h
  · next hx =>
    obtain rfl := Option.some.inj h
    exact absurd hx (by simp [hp, hg])
  · dsimp only at h
    split at h
    · next hn =>
      obtain rfl := Option.some.inj h
      intro z hz hs
      have hn : (x.incl.any fun y => y.1 = s && y.2 ≤ ctr) = false := by simpa only [Bool.not_eq_true'] using hn
      exact Nat.lt_of_not_le fun hle => List.any_eq_false.mp hn z hz (by simp [hs, hle])
    · split at h
      · obtain rfl := Option.some.inj h
        exact hdropped
      · split at h
        · exact nomatch h
        · obtain rfl := Option.some.inj h
          exact hdropped

end

/-! ### Reports and queries sent (R211, R212) -/

section
variable {m : Mod}

/-- What reports rest on: the entries' objects and the ports' stages. -/
structure Mod.sameFlows (a b : Mod) : Prop where
  flow : ∀ e k : Nat, k < 256 → b.get (flowIdx e) k = a.get (flowIdx e) k
  up : ∀ n : Nat, n < 32 → b.portUp n = a.portUp n
  out : ∀ o ∈ a.out, o ∈ b.out

theorem Mod.sameFlows_refl : m.sameFlows m := ⟨fun _ _ _ => rfl, fun _ _ => rfl, fun _ h => h⟩

theorem Mod.sameFlows_trans {a b c : Mod} (h : a.sameFlows b) (h' : b.sameFlows c) : a.sameFlows c :=
  ⟨fun e k hk => (h'.flow e k hk).trans (h.flow e k hk), fun n hn => (h'.up n hn).trans (h.up n hn), fun o ho => h'.out o (h.out o ho)⟩

theorem Mod.sameFlows_sent (o : Output) {n : Nat} (hn : n < 32) : m.sameFlows ((m.send o).countOwn n 3) := by
  have hget {j k : Nat} (h : j < 0x3840 ∨ 0x385F < j) (hk : k < 256) : ((m.send o).countOwn n 3).get j k = m.get j k :=
    (Mod.get_countOwn _ n 3 hn (by decide) h hk).trans rfl
  refine ⟨fun e k hk => hget (.inr (by unfold flowIdx; omega)) hk, fun k hk => ?_, fun x hx => ?_⟩
  · unfold Mod.portUp Mod.n
    rw [hget (.inl (by omega)) (by omega)]
  · rw [show ((m.send o).countOwn n 3).out = _ from Mod.countOwn_part (p := .out) _ _ _ (by decide)]
    exact List.mem_append_left _ hx

theorem Mod.mem_sent (o : Output) (n : Nat) : o ∈ ((m.send o).countOwn n 3).out := by
  rw [show ((m.send o).countOwn n 3).out = _ from Mod.countOwn_part (p := .out) _ _ _ (by decide)]
  exact List.mem_append_right _ (List.mem_singleton_self _)

theorem Mod.sameFlows_report (e : Nat) (ports : Nat → Bool) (join : Bool) : m.sameFlows (m.report e ports join) := by
  unfold Mod.report
  have hstep : ∀ b : Mod, ∀ n ∈ maskPorts (m.flow e 0x13), b.sameFlows (if ports n && b.portUp n then
      (b.send (.membershipReport n (if b.flow e 3 = 0 then .v4 else .v6) (b.octets (flowIdx e) 4) (b.flowSource e) join)).countOwn n 3 else b) := by
    intro b n hn
    split
    · exact Mod.sameFlows_sent _ (maskPorts_lt hn)
    · exact Mod.sameFlows_refl
  generalize maskPorts (m.flow e 0x13) = l at hstep ⊢
  unfold Mod.each
  induction l generalizing m with
  | nil => exact Mod.sameFlows_refl
  | cons n l ih =>
    exact Mod.sameFlows_trans (hstep m n (List.mem_cons_self ..)) (ih fun b k hk => hstep b k (List.mem_cons_of_mem _ hk))

/-- The report of an entry on a port. -/
def Mod.reportOf (m : Mod) (e n : Nat) (join : Bool) : Output :=
  .membershipReport n (if m.flow e 3 = 0 then .v4 else .v6) (m.octets (flowIdx e) 4) (m.flowSource e) join

theorem Mod.sameFlows.reportOf {a b : Mod} (h : a.sameFlows b) (e n : Nat) (join : Bool) : b.reportOf e n join = a.reportOf e n join := by
  unfold Mod.reportOf Mod.flow Mod.flowSource Mod.octets Mod.n
  rw [h.flow e 3 (by decide), h.flow e 4 (by decide), h.flow e 6 (by decide)]

/-- An entry is reported on every port joined that is up and asked for. -/
theorem Mod.report_sends {e n : Nat} {ports : Nat → Bool} {join : Bool} (hn : n < 32) (ht : (m.flow e 0x13).testBit n = true) (hp : ports n = true)
    (hu : m.portUp n = true) : m.reportOf e n join ∈ (m.report e ports join).out := by
  have hmem : n ∈ maskPorts (m.flow e 0x13) := List.mem_filter.mpr ⟨List.mem_range.mpr hn, ht⟩
  have hall : ∀ b : Mod, m.sameFlows b → ∀ l : List Nat, (∀ k ∈ l, k < 32) → n ∈ l →
      m.reportOf e n join ∈ (b.each l fun (m : Mod) (n : Nat) =>
        if ports n && m.portUp n then (m.send (m.reportOf e n join)).countOwn n 3 else m).out := by
    intro b hb l hl hmem
    have hstep (b : Mod) (k : Nat) (hk : k < 32) : b.sameFlows (if ports k && b.portUp k then (b.send (b.reportOf e k join)).countOwn k 3 else b) := by
      split
      · exact Mod.sameFlows_sent _ hk
      · exact Mod.sameFlows_refl
    induction l generalizing b with
    | nil => exact absurd hmem List.not_mem_nil
    | cons k l ih =>
      have hk := hstep b k (hl k (List.mem_cons_self ..))
      have hrest : ∀ (c : Mod) (l : List Nat), (∀ k ∈ l, k < 32) → c.sameFlows (c.each l fun (m : Mod) (n : Nat) =>
          if ports n && m.portUp n then (m.send (m.reportOf e n join)).countOwn n 3 else m) := by
        intro c l hl
        induction l generalizing c with
        | nil => exact Mod.sameFlows_refl
        | cons k l ih =>
          exact Mod.sameFlows_trans (hstep c k (hl k (List.mem_cons_self ..))) (ih _ fun j hj => hl j (List.mem_cons_of_mem _ hj))
      obtain rfl | hmem := List.mem_cons.mp hmem
      · refine (hrest _ l fun j hj => hl j (List.mem_cons_of_mem _ hj)).out _ ?_
        show _ ∈ (if ports n && b.portUp n then (b.send (b.reportOf e n join)).countOwn n 3 else b).out
        rw [if_pos (by rw [hp, hb.up n hn, hu]; rfl), hb.reportOf]
        exact Mod.mem_sent _ _
      · exact ih _ (Mod.sameFlows_trans hb hk) (fun j hj => hl j (List.mem_cons_of_mem _ hj)) hmem
  exact hall m Mod.sameFlows_refl _ (fun k hk => maskPorts_lt hk) hmem

/-- The entries a query on a port asks for. -/
def Mod.askedEntries (m : Mod) (port : Nat) (fam : Fam) (group : Nat) (sources : List Nat) : List Nat :=
  m.flowsOn.filter fun e => (m.flow e 0x13).testBit port && m.flow e 3 = famNo fam
    && (group = 0 || natOf (m.octets (flowIdx e) 4) = group)
    && (sources = [] || m.flowSource e = [] || sources.contains (natOf (m.flowSource e)))

theorem Mod.answerQuery_sameFlows (port : Nat) (fam : Fam) (group : Nat) (sources : List Nat) : m.sameFlows (m.answerQuery port fam group sources) := by
  unfold Mod.answerQuery
  exact Mod.each_holds (P := fun b => m.sameFlows b) (fun b e hb => Mod.sameFlows_trans hb (b.sameFlows_report e _ _)) Mod.sameFlows_refl

/-- Every entry asked for is reported on the port. -/
theorem Mod.answerQuery_sends {port : Nat} {fam : Fam} {group : Nat} {sources : List Nat} (hn : port < 32) (hu : m.portUp port = true) :
    ∀ e ∈ m.askedEntries port fam group sources, m.reportOf e port true ∈ (m.answerQuery port fam group sources).out := by
  have hentry : ∀ e ∈ m.askedEntries port fam group sources, (m.flow e 0x13).testBit port = true := by
    intro e he
    have := (List.mem_filter.mp he).2
    simp only [Bool.and_eq_true] at this
    exact this.1.1.1
  have hall : ∀ (l : List Nat) (b : Mod), m.sameFlows b → (∀ e ∈ l, (m.flow e 0x13).testBit port = true) → ∀ e ∈ l,
      m.reportOf e port true ∈ (b.each l fun (m : Mod) (e : Nat) => m.report e (fun n => n = port) true).out := by
    intro l
    induction l with
    | nil => exact fun b _ _ e he => absurd he List.not_mem_nil
    | cons k l ih =>
      intro b hb hl e he
      have hk := Mod.sameFlows_trans hb (b.sameFlows_report k (fun n => n = port) true)
      obtain rfl | he := List.mem_cons.mp he
      · have hrest : (b.report e (fun n => n = port) true).sameFlows
            ((b.report e (fun n => n = port) true).each l fun (m : Mod) (e : Nat) => m.report e (fun n => n = port) true) :=
          Mod.each_holds (P := fun c => (b.report e (fun n => n = port) true).sameFlows c)
            (fun c j hc => Mod.sameFlows_trans hc (c.sameFlows_report j _ _)) Mod.sameFlows_refl
        refine hrest.out _ ?_
        rw [← hb.reportOf]
        refine Mod.report_sends hn ?_ (decide_eq_true rfl) ((hb.up port hn).trans hu)
        unfold Mod.flow Mod.n
        rw [hb.flow e 0x13 (by decide)]
        exact hl e (List.mem_cons_self ..)
      · exact ih _ hk (fun j hj => hl j (List.mem_cons_of_mem _ hj)) e he
  exact hall _ m Mod.sameFlows_refl hentry

theorem Mod.mem_askedEntries {e port : Nat} {fam : Fam} (he : e ∈ m.flowsOn) (ht : (m.flow e 0x13).testBit port = true) (hf : m.flow e 3 = famNo fam) :
    e ∈ m.askedEntries port fam 0 [] := List.mem_filter.mpr ⟨he, by simp [ht, hf]⟩

theorem Mod.reportOf_fam {e port : Nat} {fam : Fam} (hf : m.flow e 3 = famNo fam) :
    m.reportOf e port true = .membershipReport port fam (m.octets (flowIdx e) 4) (m.flowSource e) true := by
  unfold Mod.reportOf
  rw [hf]
  cases fam <;> rfl

end

/-! ### The querier's role (R212) -/

section
variable {m : Mod} {port : Nat} {fam : Fam}

theorem Mod.settleQuerier_roles : (m.settleQuerier port fam).fab.roles.contains (port, fam) = m.wantsQuerier port fam
    ∧ (m.settleQuerier port fam).fab.others = m.fab.others ∧ ∀ o ∈ m.out, o ∈ (m.settleQuerier port fam).out := by
  unfold Mod.settleQuerier
  dsimp only
  split
  · next h => exact ⟨h, rfl, fun _ h => h⟩
  · rw [show ∀ (a : Mod) (b : Bool) (l : List Nat), ((a.putBit 0x3003 4 port b).raise 0x3002 port l).fab = a.fab from
        fun a b l => (Mod.raise_fab ..).trans (Mod.putBit_fab ..),
      show ∀ (a : Mod) (b : Bool) (l : List Nat), ((a.putBit 0x3003 4 port b).raise 0x3002 port l).out = a.out from
        fun a b l => (Mod.raise_out ..).trans (Mod.putBit_out ..)]
    refine ⟨?_, rfl, fun _ h => h⟩
    dsimp only
    cases hw : m.wantsQuerier port fam with
    | true => simp
    | false => simp

/-- A query that wins the election takes the role away. -/
theorem Mod.wantsQuerier_none (h : m.fab.others.any (fun x => x.1 = port && x.2.1 = fam) = true) : m.wantsQuerier port fam = false := by
  unfold Mod.wantsQuerier
  rw [h]
  simp

/-- Whether a query wins the querier's election. -/
def Mod.queryWins (m : Mod) (port : Nat) (q : MemQuery) : Prop := (m.n 0x3002 1).testBit port = true ∧ q.querier ≠ 0
  ∧ (q.querier < m.querierAddress port q.fam ∨ (q.fam = .v4 ∧ m.n 0x3002 6 = 0))

/-- The module once it has answered and heard a query. -/
def Mod.queryHeard (m : Mod) (port : Nat) (q : MemQuery) : Mod := (m.answerQuery port q.fam q.group q.sources).hearQuery port q

/-- Another querier is noted. -/
def Mod.noteQuerier (m : Mod) (port : Nat) (fam : Fam) : Mod :=
  { m with fab := { m.fab with
    others := (m.fab.others.filter fun x => !(x.1 = port && x.2.1 = fam)) ++ [(port, fam, m.ctr + m.otherQuerierInterval)] } }

theorem Mod.takeQuery_idle {q : MemQuery} (h : ¬(m.portUp port = true ∧ (q.fam = .v4 → q.version ≠ 1))) : m.takeQuery port q = m := by
  unfold Mod.takeQuery
  refine if_pos ?_
  by_contra hc
  exact h (by simpa using hc)

section
variable {q : MemQuery} (h : m.portUp port = true ∧ (q.fam = .v4 → q.version ≠ 1))
include h

theorem Mod.takeQuery_wins (hw : (m.queryHeard port q).queryWins port q) :
    m.takeQuery port q = ((m.queryHeard port q).noteQuerier port q.fam).settleQuerier port q.fam := by
  unfold Mod.takeQuery
  rw [if_neg (by simpa using h)]
  exact if_pos (by simpa [Mod.queryWins, Mod.queryHeard, and_assoc] using hw)

theorem Mod.takeQuery_loses (hw : ¬(m.queryHeard port q).queryWins port q) : m.takeQuery port q = m.queryHeard port q := by
  unfold Mod.takeQuery
  rw [if_neg (by simpa using h)]
  refine if_neg fun hc => hw ?_
  simpa [Mod.queryWins, Mod.queryHeard, and_assoc] using hc

end

/-- What a query heard leaves: reports sent, memberships' timers lowered. -/
theorem Mod.queryHeard_shows (q : MemQuery) : (m.queryHeard port q).fab.others = m.fab.others ∧ (m.queryHeard port q).fab.roles = m.fab.roles
    ∧ (m.queryHeard port q).ctr = m.ctr ∧ (m.queryHeard port q).out = (m.answerQuery port q.fam q.group q.sources).out
    ∧ ∀ {j k : Nat}, j < 0x3840 → k < 256 → (m.queryHeard port q).n j k = m.n j k := by
  have hfab := Mod.answerQuery_part m port q.fam q.group q.sources (p := .fab) (by decide)
  have hctr := Mod.answerQuery_part m port q.fam q.group q.sources (p := .ctr) (by decide)
  have hheard (a : Mod) : (a.hearQuery port q).fab.others = a.fab.others ∧ (a.hearQuery port q).fab.roles = a.fab.roles := by
    unfold Mod.hearQuery
    split
    · exact ⟨rfl, rfl⟩
    · exact ⟨rfl, rfl⟩
  have hget {j k : Nat} (hj : j < 0x3840) (hk : k < 256) : (m.answerQuery port q.fam q.group q.sources).get j k = m.get j k := by
    unfold Mod.answerQuery Mod.report
    refine Mod.get_each fun a e _ => Mod.get_each fun b n hn => ?_
    split
    · exact (Mod.get_countOwn _ n 3 (maskPorts_lt hn) (by decide) (.inl hj) hk).trans rfl
    · rfl
  unfold Mod.queryHeard
  obtain ⟨hothers, hroles⟩ := hheard (m.answerQuery port q.fam q.group q.sources)
  refine ⟨hothers.trans (congrArg FabricS.others hfab), hroles.trans (congrArg FabricS.roles hfab),
    (Mod.hearQuery_part (p := .ctr) _ port q (by decide)).trans hctr, Mod.hearQuery_part (p := .out) _ port q (by decide), fun hj hk => ?_⟩
  exact congrArg Val.nat ((Mod.get_of_part (Mod.hearQuery_part (p := .objs) _ port q (by decide))).trans (hget hj hk))

end

section
variable (m : Mod)

/-- The queriers that have not gone. -/
def Mod.othersLeft (m : Mod) (port : Nat) (fam : Fam) : Mod :=
  { m with fab := { m.fab with others := m.fab.others.filter fun x => !(x.1 = port && x.2.1 = fam && x.2.2 ≤ m.ctr) } }

/-- The next general queries are due at an instant. -/
def Mod.queriesAt (m : Mod) (t : Nanos) : Mod := { m with fab := { m.fab with queryAt := t } }

theorem Mod.portUp_queriesAt (t : Nanos) (n : Nat) : (m.queriesAt t).portUp n = m.portUp n := by
  have hobjs : (m.queriesAt t).objs = m.objs := rfl
  unfold Mod.portUp Mod.n Mod.get
  rw [hobjs]

/-- A general query on a port, answered by the module's own host. -/
def Mod.queryOn (m : Mod) (x : Nat × Fam) : Mod := ((m.send (.membershipQuery x.1 x.2 0 [])).countOwn x.1 3).answerQuery x.1 x.2 0 []

theorem Mod.queryOn_fab (m : Mod) (x : Nat × Fam) : (m.queryOn x).fab = m.fab := by
  unfold Mod.queryOn
  exact (Mod.answerQuery_part (p := .fab) _ _ _ _ _ (by decide)).trans (Mod.countOwn_part (p := .fab) _ _ _ (by decide))

theorem Mod.queryOn_sends (x : Nat × Fam) (o : Output) (h : o ∈ m.out ∨ o = .membershipQuery x.1 x.2 0 []) : o ∈ (m.queryOn x).out := by
  refine (Mod.answerQuery_sameFlows _ _ _ _).out _ ?_
  rw [show (Mod.countOwn _ x.1 3).out = _ from Mod.countOwn_part (p := .out) _ _ _ (by decide)]
  exact List.mem_append.mpr (h.imp_right fun h => List.mem_singleton.mpr h)

/-- General queries go out on the ports where the module is querier and the port is up. -/
def Mod.queryAll (m : Mod) : Mod := m.each (m.fab.roles.filter fun x => m.portUp x.1) Mod.queryOn

theorem Mod.queryAll_shows (t : Nanos) : (m.queriesAt t).queryAll.fab.queryAt = t
    ∧ ∀ x ∈ m.fab.roles, m.portUp x.1 = true → Output.membershipQuery x.1 x.2 0 [] ∈ (m.queriesAt t).queryAll.out := by
  refine ⟨congrArg FabricS.queryAt ((m.queriesAt t).each_keeps Mod.fab _ _ Mod.queryOn_fab), fun x hx hu => ?_⟩
  have hmem : x ∈ (m.queriesAt t).fab.roles.filter fun x => (m.queriesAt t).portUp x.1 :=
    List.mem_filter.mpr ⟨hx, (m.portUp_queriesAt t x.1).trans hu⟩
  exact Mod.each_establishes (P := fun (x : Nat × Fam) (b : Mod) => Output.membershipQuery x.1 x.2 0 [] ∈ b.out)
    (fun b y _ => b.queryOn_sends y _ (.inr rfl)) (fun b y _ z _ h => b.queryOn_sends y _ (.inl h)) (m.queriesAt t) x hmem

theorem Mod.generalQuery_eq (h : m.fab.queryAt ≤ m.ctr) : m.generalQuery = (m.queriesAt (m.ctr + m.n 0x3002 3 * second)).queryAll := by
  unfold Mod.generalQuery Mod.queryAll
  rw [if_neg (Nat.not_lt.mpr h)]
  rfl

/-- Of an entry's reports, those still to be repeated. -/
def Mod.reportsLeft (m : Mod) (e k : Nat) : Mod :=
  { m with fab := { m.fab with reports :=
    if k ≤ 1 then m.fab.reports.filter fun y => y.1 ≠ e else (m.fab.reports.filter fun y => y.1 ≠ e) ++ [(e, k - 1)] } }

end

/-- Settles O27: records by what they make of a membership, queries by the entries asked for and the election, timers by what has run out. -/
theorem membershipsAndQueriersAreKept : Obligations.MembershipsAndQueriersAreKept := by
  unfold Obligations.MembershipsAndQueriersAreKept
  refine ⟨fun s t n hs => ?_, fun s t hs => ?_⟩
  · intro m
    have hb : m.rebooting = false := hs.2
    refine ⟨fun rep => ?_, fun group => ?_⟩
    · intro of heeds current room gmi
      refine ⟨fun h => does_act (g := fun m => m.takeReport n.val rep) hs rfl (Mod.takeReport_idle h) hb, fun h => ?_⟩
      have hof (x : Membership) : isFor n.val rep x = true ↔ of x := by simp [isFor, of, and_assoc]
      have hsize := m.heldBeside_size n.val rep
      have hone : (if m.fab.members.find? (isFor n.val rep) = none then 1 else 0) ≤ 1 := by split <;> decide
      refine completes_act (g := fun m => m.takeReport n.val rep) rfl hs ?_ fun _ h => h
      refine ⟨fun x hx hn => ?_, ?_, fun hmode hsrc hroom => ?_, fun hmode hcur hroom y hy => ?_, fun x hmode hsrc hcur hroom hexcl hfind hrole => ?_⟩
      · have hn : isFor n.val rep x = false := Bool.eq_false_iff.mpr fun h => hn ((hof x).mp h)
        cases hc : compatible (recordOld rep) (m.ctr < (m.heldFor n.val rep).olderUntil) rep.mode rep.sources.dedup with
        | none =>
          show x ∈ (m.takeReport n.val rep).fab.members
          rw [Mod.takeReport_ignored h hc]
          exact hx
        | some r =>
          show x ∈ (m.takeReport n.val rep).fab.members
          rw [Mod.takeReport_taken h hc]
          exact (Mod.holdMembership_shows _ _ _).1 x hx hn
      · cases hc : compatible (recordOld rep) (m.ctr < (m.heldFor n.val rep).olderUntil) rep.mode rep.sources.dedup with
        | none => exact .inl (congrArg (fun a : Mod => a.fab.members) (Mod.takeReport_ignored h hc))
        | some r =>
          show (m.takeReport n.val rep).fab.members = m.fab.members ∨ Mod.n (m.takeReport n.val rep) _ _ = (m.takeReport n.val rep).recordsHeld
          rw [Mod.takeReport_taken h hc]
          exact (Mod.holdMembership_shows _ _ _).2
      · have hc : compatible (recordOld rep) (m.ctr < (m.heldFor n.val rep).olderUntil) rep.mode rep.sources.dedup = some (.exclude, []) := by
          rw [hmode, hsrc]
          exact compatible_excludeNone _ _
        obtain ⟨y, hmakes, hfor, hy, hexcl, hysize, huntil⟩ :=
          Membership.remade_excludeNone (old := recordOld rep) (querier := m.fab.roles.contains (n.val, rep.fam))
            (gmi := m.ctr + m.membershipInterval) (lmt := m.ctr + m.lastMemberTime) (m.heldFor_is n.val rep)
        show ∃ x ∈ (m.takeReport n.val rep).fab.members, _
        rw [Mod.takeReport_taken h hc, Mod.recordMakes, hmakes]
        have hle : ((m.heldBeside n.val rep).map Membership.size).sum ≤ (m.fab.members.map Membership.size).sum :=
          (List.filter_sublist.map Membership.size).sum_le_sum fun _ _ => Nat.zero_le _
        have hroom : (m.fab.members.map Membership.size).sum + 1 ≤ 65536 := hroom
        refine ⟨y, (Mod.holdMembership_room (by simp [hy]) (by dsimp only; omega)).1, (hof y).mp hfor, hy, hexcl, huntil⟩
      · have hold : recordOld rep = false := decide_eq_false (Nat.not_lt.mpr hcur)
        have hc : compatible (recordOld rep) (m.ctr < (m.heldFor n.val rep).olderUntil) rep.mode rep.sources.dedup = some (rep.mode, rep.sources.dedup) := by
          rw [hold]
          exact compatible_include _ hmode _
        obtain ⟨z, asked, group, hmakes, hfor, -, hzsize, hincl, -⟩ :=
          Membership.remade_include (old := recordOld rep) (querier := m.fab.roles.contains (n.val, rep.fam))
            (gmi := m.ctr + m.membershipInterval) (lmt := m.ctr + m.lastMemberTime) (m.heldFor_is n.val rep) hmode rep.sources.dedup
        have hlisted := hincl y (List.mem_dedup.mpr hy)
        have hdedup := (List.dedup_sublist rep.sources).length_le
        have hroom : (m.fab.members.map Membership.size).sum + (rep.sources.length + 1) ≤ 65536 := hroom
        show ∃ x ∈ (m.takeReport n.val rep).fab.members, _
        rw [Mod.takeReport_taken h hc, Mod.recordMakes, hmakes]
        exact ⟨z, (Mod.holdMembership_room (fun h => List.ne_nil_of_mem hlisted h.2) (by omega)).1, (hof z).mp hfor, hlisted⟩
      · have hold : recordOld rep = false := decide_eq_false (Nat.not_lt.mpr hcur)
        have hc : compatible (recordOld rep) (m.ctr < (m.heldFor n.val rep).olderUntil) rep.mode rep.sources.dedup = some (rep.mode, rep.sources.dedup) := by
          rw [hold]
          exact compatible_include _ (.inr (.inl hmode)) _
        have hheld : m.heldFor n.val rep = x := by
          unfold Mod.heldFor
          rw [show m.fab.members.find? (isFor n.val rep) = some x from hfind]
          rfl
        have hnone : rep.sources.dedup = [] := by rw [hsrc]; rfl
        obtain ⟨z, asked, group, hmakes, -, hexclude, hzsize, -, hgroup⟩ :=
          Membership.remade_include (old := recordOld rep) (querier := m.fab.roles.contains (n.val, rep.fam))
            (gmi := m.ctr + m.membershipInterval) (lmt := m.ctr + m.lastMemberTime) (m.heldFor_is n.val rep) (.inr (.inl hmode)) rep.sources.dedup
        rw [hheld] at hexclude hgroup
        rw [if_neg (by rw [show m.fab.members.find? (isFor n.val rep) = some x from hfind]; simp)] at hsize
        have hroom : (m.fab.members.map Membership.size).sum + 0 ≤ 65536 := hroom
        rw [hnone, List.length_nil] at hzsize
        show _ ∈ (m.takeReport n.val rep).out
        rw [Mod.takeReport_taken h hc, Mod.recordMakes, hmakes]
        exact (Mod.holdMembership_room (by simp [hexclude, hexcl]) (by dsimp only; omega)).2 hrole ((hgroup hmode).trans hexcl)
    · have hshows (source : Option Nat) := m.membershipTimeout_shows (port := n.val) (group := group) source
      have hothers (source : Option Nat) (x : Membership) (hx : x ∈ m.fab.members) (hne : x.port ≠ n.val ∨ x.group ≠ group) :
          x ∈ (m.membershipTimeout n.val group source).fab.members := by
        rw [(hshows source).1]
        exact List.mem_filterMap.mpr ⟨x, hx, Membership.elapsed_other hne⟩
      refine ⟨?_, fun source => ?_⟩
      · refine completes_act (g := fun m => m.membershipTimeout n.val group none) rfl hs ?_ fun _ h => h
        refine ⟨(hshows none).2, fun y hy hp hg he => ?_, hothers none⟩
        obtain ⟨x, -, hx⟩ := List.mem_filterMap.mp ((hshows none).1 ▸ hy)
        exact Membership.elapsed_group hx hp hg he
      · refine completes_act (g := fun m => m.membershipTimeout n.val group (some source)) rfl hs ?_ fun _ h => h
        refine ⟨(hshows (some source)).2, fun y hy hp hg => ?_, hothers (some source)⟩
        obtain ⟨x, -, hx⟩ := List.mem_filterMap.mp ((hshows (some source)).1 ▸ hy)
        exact Membership.elapsed_source hx hp hg
  · intro m
    have hb : m.rebooting = false := hs.2
    refine ⟨fun n q => ?_, fun n f => ?_, fun hlt => ?_, fun hle => ?_, fun e => ?_⟩
    · intro heeds wins
      refine ⟨fun h => does_act (g := fun m => m.takeQuery n.val q) hs rfl (Mod.takeQuery_idle h) hb, fun h => ?_⟩
      obtain ⟨hothers, hroles, hctr, hout, hn⟩ := m.queryHeard_shows (port := n.val) q
      have haddr : (m.queryHeard n.val q).querierAddress n.val q.fam = m.querierAddress n.val q.fam := by
        unfold Mod.querierAddress
        cases q.fam with
        | v4 => exact hn (by decide) (by decide)
        | v6 =>
          dsimp only
          rw [hn (by decide) (by decide)]
      have hwins : (m.queryHeard n.val q).queryWins n.val q ↔ wins := by
        unfold Mod.queryWins
        rw [haddr, hn (by decide) (by decide), hn (by decide) (by decide)]
      have hinterval : (m.queryHeard n.val q).otherQuerierInterval = m.otherQuerierInterval := by
        unfold Mod.otherQuerierInterval
        rw [hn (by decide) (by decide), hn (by decide) (by decide), hn (by decide) (by decide)]
      have hreports (e : Nat) (he : e ∈ m.flowsOn) (hgroup : q.group = 0) (hsrc : q.sources = []) (ht : (m.flow e 0x13).testBit n.val = true)
          (hf : m.flow e 3 = famNo q.fam) :
          Output.membershipReport n.val q.fam (m.octets (flowIdx e) 4) (m.flowSource e) true ∈ (m.queryHeard n.val q).out := by
        rw [hout, ← Mod.reportOf_fam hf, hgroup, hsrc]
        exact Mod.answerQuery_sends n.isLt h.1 e (Mod.mem_askedEntries he ht hf)
      refine completes_act (g := fun m => m.takeQuery n.val q) rfl hs ?_ fun _ h => h
      show (∀ e ∈ m.flowsOn, _ → _ → _ → _ → _ ∈ (m.takeQuery n.val q).out)
        ∧ (wins → _ ∈ (m.takeQuery n.val q).fab.others ∧ _ ∉ (m.takeQuery n.val q).fab.roles)
        ∧ (¬wins → (m.takeQuery n.val q).fab.others = _ ∧ (m.takeQuery n.val q).fab.roles = _)
      by_cases hw : wins
      · rw [Mod.takeQuery_wins h (hwins.mpr hw)]
        obtain ⟨hrole, hkept, hsent⟩ := Mod.settleQuerier_roles (m := (m.queryHeard n.val q).noteQuerier n.val q.fam) (port := n.val) (fam := q.fam)
        have hnoted : (n.val, q.fam, m.ctr + m.otherQuerierInterval) ∈ ((m.queryHeard n.val q).noteQuerier n.val q.fam).fab.others := by
          rw [← hctr, ← hinterval]
          exact List.mem_append_right _ (List.mem_singleton_self _)
        refine ⟨fun e he h1 h2 h3 h4 => hsent _ (hreports e he h1 h2 h3 h4), fun _ => ⟨hkept ▸ hnoted, fun hmem => ?_⟩, fun hn => absurd hw hn⟩
        have hwants := Mod.wantsQuerier_none (port := n.val) (fam := q.fam) (List.any_eq_true.mpr ⟨_, hnoted, by simp⟩)
        exact absurd (List.contains_iff_mem.mpr hmem) (by rw [hrole, hwants]; decide)
      · rw [Mod.takeQuery_loses h fun h => hw (hwins.mp h)]
        exact ⟨hreports, fun h => absurd h hw, fun _ => ⟨hothers, hroles⟩⟩
    · refine completes_act (g := fun m => m.otherQuerierGone n.val f) rfl hs ?_ fun _ h => h
      obtain ⟨hrole, hkept, -⟩ := Mod.settleQuerier_roles (m := m.othersLeft n.val f) (port := n.val) (fam := f)
      have heq : m.otherQuerierGone n.val f = (m.othersLeft n.val f).settleQuerier n.val f := rfl
      show (∀ z ∈ (m.otherQuerierGone n.val f).fab.others, _ → _ → _) ∧ (∀ z ∈ m.fab.others, _ → z ∈ (m.otherQuerierGone n.val f).fab.others)
        ∧ (_ → _ → _ → _ → _ ∈ (m.otherQuerierGone n.val f).fab.roles)
      rw [heq, hkept]
      refine ⟨fun z hz hp hf => ?_, fun z hz hne => ?_, fun hgone hbit hexists h4 => ?_⟩
      · have := (List.mem_filter.mp hz).2
        simpa [hp, hf] using this
      · refine List.mem_filter.mpr ⟨hz, ?_⟩
        obtain hne | hne := hne <;> simp [hne]
      · refine List.contains_iff_mem.mp (hrole.trans ?_)
        have hnone : (m.othersLeft n.val f).fab.others.any (fun x => x.1 = n.val && x.2.1 = f) = false := by
          refine List.any_eq_false.mpr fun z hz => ?_
          obtain ⟨hmem, hleft⟩ := List.mem_filter.mp hz
          intro hc
          obtain ⟨hp, hf⟩ : z.1 = n.val ∧ z.2.1 = f := by simpa using hc
          have hgone := hgone z hmem hp hf
          simp [hp, hf, hgone] at hleft
        unfold Mod.wantsQuerier
        rw [hnone]
        have hbit : ((m.othersLeft n.val f).n 0x3002 1).testBit n.val = true := hbit
        have hexists : (m.othersLeft n.val f).portExists n.val = true := hexists
        have h4 : f = .v4 → (m.othersLeft n.val f).n 0x3002 6 ≠ 0 := h4
        rw [hbit, hexists]
        cases f with
        | v4 => simpa using h4 rfl
        | v6 => rfl
    · exact does_act (g := fun m => m.generalQuery) hs rfl (if_pos hlt) hb
    · refine completes_act (g := fun m => m.generalQuery) rfl hs ?_ fun _ h => h
      show m.generalQuery.fab.queryAt = _ ∧ ∀ x ∈ m.fab.roles, _ → _ ∈ m.generalQuery.out
      rw [m.generalQuery_eq hle]
      exact m.queryAll_shows _
    · refine ⟨fun hnone => does_act (g := fun m => m.repeatReport e.val) hs rfl ?_ hb, fun k hk => ?_⟩
      · unfold Mod.repeatReport
        rw [hnone]
      · have heq : m.repeatReport e.val = (m.report e.val (fun _ => true) true).reportsLeft e.val k := by
          have hfab : (m.report e.val (fun _ => true) true).fab = m.fab := Mod.report_part (p := .fab) _ _ _ _ (by decide)
          unfold Mod.repeatReport Mod.reportsLeft
          rw [hk]
          dsimp only
          rw [hfab]
        refine completes_act (g := fun m => m.repeatReport e.val) rfl hs ?_ fun _ h => h
        show (1 < k → _ ∈ (m.repeatReport e.val).fab.reports) ∧ (k ≤ 1 → ∀ x ∈ (m.repeatReport e.val).fab.reports, _)
          ∧ ∀ n : Fin 32, _ → _ → _ ∈ (m.repeatReport e.val).out
        rw [heq]
        refine ⟨fun hlt => ?_, fun hle x hx => ?_, fun n ht hu => Mod.report_sends n.isLt ht rfl hu⟩
        · show _ ∈ (if k ≤ 1 then _ else _)
          rw [if_neg (by omega)]
          exact List.mem_append_right _ (List.mem_singleton_self _)
        · have hx : x ∈ (if k ≤ 1 then _ else _) := hx
          rw [if_pos hle] at hx
          exact of_decide_eq_true (List.mem_filter.mp hx).2

end Sys2Proof.Machine
end

section
/-! SUPPORT. Decode engines: what taking datagrams leaves of an engine and of its counters (R167-R170). -/

namespace Sys2Proof.Machine

section
variable {a b c m : Mod} {e : Nat}

/-! ### Engines changed -/

theorem Mod.dec_modDec {f : DecodeS → DecodeS} (h : e < m.decs.length) : (m.modDec e f).dec e = f (m.dec e) := nth_modify _ f h

theorem Mod.decs_modDec {f : DecodeS → DecodeS} : (m.modDec e f).decs.length = m.decs.length := List.length_modify ..

/-- What a change of an engine's state keeps, the engine keeps. -/
theorem Mod.dec_modDec_keeps {β : Type} (F : DecodeS → β) {f : DecodeS → DecodeS} (hf : ∀ d, F (f d) = F d) : F ((m.modDec e f).dec e) = F (m.dec e) := by
  by_cases h : e < m.decs.length
  · rw [Mod.dec_modDec h]
    exact hf _
  · have hsame : m.decs.modify e f = m.decs := List.modify_eq_self (Nat.not_lt.mp h)
    unfold Mod.dec Mod.modDec
    rw [hsame]

/-! ### Steps that take what has been merged -/

/-- What taking merged datagrams leaves of an engine: how many there are, when it heard last and which numbers it holds, and of the objects
all but those of its sequence, its description and its counts of losses. -/
structure Mod.drains (e : Nat) (a b : Mod) : Prop where
  engines : b.decs.length = a.decs.length
  lastAt : (b.dec e).lastAt = (a.dec e).lastAt
  seen : (b.dec e).seen = (a.dec e).seen
  n : ∀ {j k : Nat}, k < 256 → j < 0x7400 → j ≠ 0x5C80 + e → j ≠ 0x5D00 + e → (j = 0x5CC0 + e → k < 4) → b.n j k = a.n j k

/-- A step of them that takes TS packets: the order of datagrams stands too. -/
structure Mod.feeds (e : Nat) (a b : Mod) : Prop extends Mod.drains e a b where
  next : (b.dec e).next = (a.dec e).next
  ahead : (b.dec e).ahead = (a.dec e).ahead

theorem Mod.drains_refl : Mod.drains e m m := ⟨rfl, rfl, rfl, fun _ _ _ _ _ => rfl⟩

theorem Mod.drains_trans (h : Mod.drains e a b) (h' : Mod.drains e b c) : Mod.drains e a c :=
  ⟨h'.engines.trans h.engines, h'.lastAt.trans h.lastAt, h'.seen.trans h.seen,
    fun h1 h2 h3 h4 h5 => (h'.n h1 h2 h3 h4 h5).trans (h.n h1 h2 h3 h4 h5)⟩

theorem Mod.feeds_refl : Mod.feeds e m m := ⟨Mod.drains_refl, rfl, rfl⟩

theorem Mod.feeds_trans (h : Mod.feeds e a b) (h' : Mod.feeds e b c) : Mod.feeds e a c :=
  ⟨Mod.drains_trans h.todrains h'.todrains, h'.next.trans h.next, h'.ahead.trans h.ahead⟩

/-- What moves only objects moves none of an engine's own state. -/
theorem Mod.feeds_of_decs (hd : b.decs = a.decs)
    (hn : ∀ {j k : Nat}, k < 256 → j < 0x7400 → j ≠ 0x5C80 + e → j ≠ 0x5D00 + e → (j = 0x5CC0 + e → k < 4) → b.get j k = a.get j k) : Mod.feeds e a b := by
  have hdec : b.dec e = a.dec e := by
    unfold Mod.dec
    rw [hd]
  exact ⟨⟨congrArg _ hd, congrArg _ hdec, congrArg _ hdec, fun h1 h2 h3 h4 h5 => congrArg Val.nat (hn h1 h2 h3 h4 h5)⟩, congrArg _ hdec, congrArg _ hdec⟩

theorem Mod.feeds_modDec (m : Mod) {f : DecodeS → DecodeS} (hf : ∀ d, (f d).lastAt = d.lastAt ∧ (f d).seen = d.seen ∧ (f d).next = d.next ∧ (f d).ahead = d.ahead) :
    Mod.feeds e m (m.modDec e f) :=
  ⟨⟨Mod.decs_modDec, Mod.dec_modDec_keeps DecodeS.lastAt fun d => (hf d).1, Mod.dec_modDec_keeps DecodeS.seen fun d => (hf d).2.1, fun _ _ _ _ _ => rfl⟩,
    Mod.dec_modDec_keeps DecodeS.next fun d => (hf d).2.2.1, Mod.dec_modDec_keeps DecodeS.ahead fun d => (hf d).2.2.2⟩

theorem Mod.drains_modDec (m : Mod) {f : DecodeS → DecodeS} (hf : ∀ d, (f d).lastAt = d.lastAt ∧ (f d).seen = d.seen) : Mod.drains e m (m.modDec e f) :=
  ⟨Mod.decs_modDec, Mod.dec_modDec_keeps DecodeS.lastAt fun d => (hf d).1, Mod.dec_modDec_keeps DecodeS.seen fun d => (hf d).2, fun _ _ _ _ _ => rfl⟩

section
variable (he : e < 2)
include he

theorem Mod.feeds_count (m : Mod) {s : Nat} (k : Nat) (hs : 4 ≤ s ∧ s < 256) : Mod.feeds e m (m.count (0x5CC0 + e) s k) :=
  Mod.feeds_of_decs (Mod.count_decs ..) fun _ _ _ _ hk => Mod.get_count_frame _ k (by omega) (by omega)

theorem Mod.feeds_bump (m : Mod) {s : Nat} (hs : 4 ≤ s ∧ s < 256) : Mod.feeds e m (m.bump (0x5CC0 + e) s) := m.feeds_count he 1 hs

theorem Mod.feeds_show (m : Mod) {s : Nat} (v : Nat) (hs : s < 256) : Mod.feeds e m (m.put (0x5C80 + e) s v) :=
  Mod.feeds_of_decs (Mod.put_decs ..) fun _ _ _ _ _ => Mod.get_put_frame _ _ (by omega) (by omega)

omit he in
theorem Mod.feeds_raise (m : Mod) (c r : Nat) (p : List Nat) : Mod.feeds e m (m.raise c r p) :=
  Mod.feeds_of_decs (Mod.raise_decs ..) fun _ _ _ _ _ => Mod.get_raise_frame _ _ _ _ (.inl (by omega))

omit he in
theorem Mod.feeds_raiseClear (m : Mod) (c r : Nat) (l p : List Nat) : Mod.feeds e m (m.raiseClear c r l p) :=
  Mod.feeds_of_decs (Mod.raiseClear_decs ..) fun _ _ _ _ _ => Mod.get_raiseClear_frame _ _ _ _ _ (.inl (by omega))

omit he in
theorem Mod.feeds_raiseCond (m : Mod) (c r : Nat) (p : List Nat) : Mod.feeds e m (m.raiseCond c r p) :=
  Mod.feeds_of_decs (Mod.raiseCond_decs ..) fun _ _ _ _ _ => Mod.get_raiseCond_frame _ _ _ _ (.inl (by omega))

omit he in
theorem Mod.feeds_raiseLimited (m : Mod) (c r : Nat) (d : Nanos) (p : List Nat) : Mod.feeds e m (m.raiseLimited c r d p) :=
  Mod.feeds_of_decs (Mod.raiseLimited_decs ..) fun _ _ _ _ _ => Mod.get_raiseLimited_frame _ _ _ _ _ (.inl (by omega))

omit he in
theorem Mod.feeds_each {α : Type} {l : List α} {f : Mod → α → Mod} (h : ∀ m x, Mod.feeds e m (f m x)) : Mod.feeds e m (m.each l f) :=
  Mod.each_holds (P := fun b => Mod.feeds e m b) (fun b x hb => Mod.feeds_trans hb (h b x)) Mod.feeds_refl

theorem Mod.feeds_generateDecodeSdp (m : Mod) : Mod.feeds e m (m.generateDecodeSdp e) := by
  unfold Mod.generateDecodeSdp
  split
  · exact Mod.feeds_refl
  · split
    · exact Mod.feeds_refl
    · have hput (b : Mod) (x : Octets) : Mod.feeds e b (b.putB (0x5D00 + e) 0 x) :=
        Mod.feeds_of_decs (Mod.putB_decs ..) fun _ _ _ _ _ => Mod.get_putB_frame _ _ (by omega) (by omega)
      refine Mod.feeds_trans ?_ (hput _ _)
      exact m.feeds_modDec fun _ => ⟨rfl, rfl, rfl, rfl⟩

theorem Mod.feeds_judgeSps (m : Mod) (vvc : Bool) (sps : Octets) : Mod.feeds e m (m.judgeSps e vvc sps) := by
  have hshow (a : Mod) {s : Nat} (v : Nat) (hs : s < 256) {b : Mod} (h : Mod.feeds e b a) : Mod.feeds e b (a.put (0x5C80 + e) s v) :=
    Mod.feeds_trans h (a.feeds_show he v hs)
  have hclear : Mod.feeds e m (if m.decState e = decLost then m.raiseClear 0x5C02 e [0x5C01] [e] else m) := by
    split
    · exact m.feeds_raiseClear _ _ _ _
    · exact Mod.feeds_refl
  unfold Mod.judgeSps
  dsimp only
  refine Mod.feeds_trans hclear ?_
  generalize (if m.decState e = decLost then m.raiseClear 0x5C02 e [0x5C01] [e] else m) = a
  have hsps : Mod.feeds e a (a.modDec e fun d => { d with sps := some (sps, Config.parseSps vvc sps) }) := a.feeds_modDec fun _ => ⟨rfl, rfl, rfl, rfl⟩
  refine Mod.feeds_trans hsps ?_
  generalize a.modDec e (fun d => { d with sps := some (sps, Config.parseSps vvc sps) }) = b
  split
  · exact Mod.feeds_trans (Mod.feeds_trans (b.feeds_show he _ (by decide)) (Mod.feeds_bump he _ (by decide))) (Mod.feeds_raise ..)
  · refine Mod.feeds_trans ?_ (Mod.feeds_generateDecodeSdp he _)
    exact hshow _ _ (by decide) (hshow _ _ (by decide) (hshow _ _ (by decide) (hshow _ _ (by decide) (hshow _ _ (by decide)
      (b.feeds_show he _ (by decide))))))

theorem Mod.feeds_takeSps (m : Mod) (vvc : Bool) (sps : Octets) : Mod.feeds e m (m.takeSps e vvc sps) := by
  have hjudge := m.feeds_judgeSps he vvc sps
  unfold Mod.takeSps
  split
  · exact hjudge
  · split
    · exact hjudge
    · split
      · exact Mod.feeds_refl
      · exact hjudge

theorem Mod.feeds_countLate (m : Mod) : Mod.feeds e m (m.countLate e) := Mod.feeds_trans (m.feeds_bump he (by decide)) (Mod.feeds_raiseLimited ..)

theorem Mod.feeds_closeAu (m : Mod) : Mod.feeds e m (m.closeAu e) := by
  have hopen : Mod.feeds e m (m.modDec e fun d => { d with au := none }) := m.feeds_modDec fun _ => ⟨rfl, rfl, rfl, rfl⟩
  unfold Mod.closeAu
  dsimp only
  refine Mod.feeds_trans hopen ?_
  generalize m.modDec e (fun d => { d with au := none }) = b
  split
  · split
    · exact Mod.feeds_refl
    · refine Mod.feeds_trans ?_ (Mod.feeds_modDec _ fun _ => ⟨rfl, rfl, rfl, rfl⟩)
      unfold Mod.when
      split
      · exact b.feeds_countLate he
      · exact Mod.feeds_refl
  · exact Mod.feeds_refl

theorem Mod.feeds_judgeNew (m : Mod) : Mod.feeds e m (m.judgeNew e) := by
  unfold Mod.judgeNew
  split
  · exact Mod.feeds_trans (Mod.feeds_each fun b u => b.feeds_takeSps he _ u) (Mod.feeds_modDec _ fun _ => ⟨rfl, rfl, rfl, rfl⟩)
  · exact Mod.feeds_refl

theorem Mod.feeds_takeVideoTs (m : Mod) (x : TsRead) (t : Nanos) : Mod.feeds e m (m.takeVideoTs e x t) := by
  unfold Mod.takeVideoTs
  dsimp only
  split
  · exact Mod.feeds_refl
  · have hcc (broken : Bool) : Mod.feeds e m (m.modDec e fun d => { (if broken then d.gap else d) with lastCc := some x.cc }) :=
      m.feeds_modDec fun d => by cases broken <;> exact ⟨rfl, rfl, rfl, rfl⟩
    refine Mod.feeds_trans (hcc (!x.disc && (m.dec e).lastCc.any fun c => x.cc ≠ (c + 1) % 16)) ?_
    generalize (m.modDec e fun d => { (if (!x.disc && (m.dec e).lastCc.any fun c => x.cc ≠ (c + 1) % 16) = true then d.gap else d) with lastCc := some x.cc }) = b
    have hfull (a : Mod) : Mod.feeds e a (if ((a.dec e).au.any fun a => a.full) = true then a.closeAu e else a) := by
      split
      · exact a.feeds_closeAu he
      · exact Mod.feeds_refl
    refine Mod.feeds_trans ?_ (hfull _)
    refine Mod.feeds_trans ?_ (Mod.feeds_judgeNew he _)
    split
    · exact b.feeds_modDec fun _ => ⟨rfl, rfl, rfl, rfl⟩
    · split
      · exact b.feeds_closeAu he
      · exact Mod.feeds_trans (b.feeds_closeAu he) (Mod.feeds_modDec _ fun _ => ⟨rfl, rfl, rfl, rfl⟩)

theorem Mod.feeds_takeSection (m : Mod) (s : Octets) : Mod.feeds e m (m.takeSection e s) := by
  unfold Mod.takeSection
  dsimp only
  split
  · exact Mod.feeds_refl
  · split
    · split
      · exact Mod.feeds_refl
      · exact m.feeds_modDec fun _ => ⟨rfl, rfl, rfl, rfl⟩
    · split
      · exact Mod.feeds_refl
      · split
        · exact Mod.feeds_refl
        · split
          · exact Mod.feeds_refl
          · exact Mod.feeds_trans (m.feeds_closeAu he) (Mod.feeds_modDec _ fun _ => ⟨rfl, rfl, rfl, rfl⟩)

theorem Mod.feeds_takeTs (m : Mod) (t : Nanos) (p : Octets) : Mod.feeds e m (m.takeTs e t p) := by
  unfold Mod.takeTs
  split
  · exact Mod.feeds_refl
  · dsimp only
    split
    · refine Mod.feeds_trans ?_ (Mod.feeds_each fun b s => b.feeds_takeSection he s)
      exact m.feeds_modDec fun _ => ⟨rfl, rfl, rfl, rfl⟩
    · split
      · exact m.feeds_takeVideoTs he _ _
      · exact Mod.feeds_refl

theorem Mod.feeds_loseDecode (m : Mod) (k : Nat) : Mod.feeds e m (m.loseDecode e k) :=
  Mod.feeds_trans (m.feeds_count he k (by decide)) (Mod.feeds_modDec _ fun _ => ⟨rfl, rfl, rfl, rfl⟩)

/-- Taking the datagrams that have come in order. -/
theorem Mod.drains_releaseDecode (fuel : Nat) (m : Mod) : Mod.drains e m (m.releaseDecode e fuel) := by
  induction fuel generalizing m with
  | zero => exact Mod.drains_refl
  | succ fuel ih =>
    have hlose (b : Mod) (k : Nat) : Mod.drains e b ((b.loseDecode e k).releaseDecode e fuel) :=
      Mod.drains_trans (Mod.feeds_loseDecode he b k).todrains (ih _)
    unfold Mod.releaseDecode
    dsimp only
    split
    · split
      · refine Mod.drains_trans (Mod.drains_trans ?_ (Mod.feeds_each fun b p => b.feeds_takeTs he _ p).todrains) (ih _)
        exact m.drains_modDec fun _ => ⟨rfl, rfl⟩
      · split
        · exact Mod.drains_refl
        · split
          · refine Mod.drains_trans ?_ (hlose _ _)
            exact m.drains_modDec fun _ => ⟨rfl, rfl⟩
          · refine Mod.drains_trans ?_ (hlose _ _)
            exact m.drains_modDec fun _ => ⟨rfl, rfl⟩
    · exact Mod.drains_refl

theorem Mod.drains_release (m : Mod) : Mod.drains e m (m.release e) := Mod.drains_releaseDecode he _ m

end

end

/-! ### A datagram of an engine's flow -/

/-- A datagram is heard and counted on its path. -/
def Mod.decodeHeard (m : Mod) (e : Nat) (path : Path) : Mod :=
  (m.modDec e fun d => { d with lastAt := m.now }).bump (0x5CC0 + e) (if path = .red then 1 else 2)

/-- What could be taken is taken, and numbers no longer held are dropped. -/
def Mod.decodeOpen (m : Mod) (e w : Nat) : Mod := (m.release e).modDec e fun d => { d with seen := keptNumbers m.now w d.seen }

/-- A datagram that is not one of a flow's. -/
def decodeBad (g : DecodeDg) (pt : Nat) : Bool := !(g.payloadType = 33 || g.payloadType = pt) || g.packets = [] || 7 < g.packets.length

/-- The number of a datagram whose packets are buffered is held. -/
def Mod.decodeHold (m : Mod) (e : Nat) (path : Path) (g : DecodeDg) : Mod :=
  m.when ((m.dec e).ahead.any fun x => x.1 = g.seq && x.2.2 ≠ []) fun m => m.modDec e fun d => { d with seen := d.seen ++ [⟨g.seq, m.now, path⟩] }

/-- A datagram with a new number joins those to be taken in order. -/
def Mod.decodeNew (m : Mod) (e : Nat) (path : Path) (g : DecodeDg) : Mod :=
  if (m.dec e).next.any fun n => g.seq < n then m else ((m.bufferDecode e g.seq g.packets).decodeHold e path g).release e

/-- A datagram is judged by its number. -/
def Mod.decodeJudge (m : Mod) (e : Nat) (path : Path) (g : DecodeDg) (w : Nat) : Mod :=
  match (m.dec e).seen.find? fun s => s.seq = g.seq with
  | some s => if m.now ≤ s.at_ + w then m.bump (0x5CC0 + e) 3 else m
  | none => m.decodeNew e path g

section
variable {m : Mod} {e : Nat} {path : Path} {g : DecodeDg}

theorem Mod.takeDecode_idle (h : m.decRuns e = false ∨ m.takesFlows e = false) : m.takeDecode e path g = m := by
  unfold Mod.takeDecode
  refine if_pos ?_
  obtain h | h := h <;> rw [h] <;> simp

theorem Mod.takeDecode_eq (hr : m.decRuns e = true) (ht : m.takesFlows e = true) : m.takeDecode e path g
    = if decodeBad g ((m.decodeHeard e path).n (0x5C00 + e) 0x0C) then m.decodeHeard e path
      else ((m.decodeHeard e path).decodeOpen e ((m.decodeHeard e path).n (0x5C00 + e) 0x0A)).decodeJudge e path g
        ((m.decodeHeard e path).n (0x5C00 + e) 0x0A) := by
  unfold Mod.takeDecode
  rw [if_neg (by rw [hr, ht]; decide)]
  rfl

theorem Mod.releaseDecode_none (fuel : Nat) (h : (m.dec e).ahead = []) : m.releaseDecode e fuel = m := by
  cases fuel with
  | zero => rfl
  | succ fuel =>
    unfold Mod.releaseDecode
    dsimp only
    rw [h]
    cases (m.dec e).next <;> rfl

theorem Mod.release_none (h : (m.dec e).ahead = []) : m.release e = m := Mod.releaseDecode_none _ h

section
variable (he : e < 2)
include he

/-- The one datagram waiting is the next in order. -/
theorem Mod.release_one {n : Nat} {t : Nanos} {p : List Octets} (hl : e < m.decs.length) (hn : (m.dec e).next = some n)
    (ha : (m.dec e).ahead = [(n, t, p)]) (hp : p ≠ []) : Mod.feeds e (m.modDec e fun d => { d with next := some (n + 1), ahead := [] }) (m.release e) := by
  have heq : m.release e = ((m.modDec e fun d => { d with next := some (n + 1), ahead := [] }).each p fun m q => m.takeTs e t q).releaseDecode e 2 := by
    unfold Mod.release
    rw [ha]
    show m.releaseDecode e 3 = _
    conv_lhs => unfold Mod.releaseDecode
    dsimp only
    rw [hn, ha]
    exact if_pos (by simp [hp])
  have htakes := Mod.feeds_each (m := m.modDec e fun d => { d with next := some (n + 1), ahead := [] }) (l := p) fun b q => b.feeds_takeTs he t q
  rw [heq, Mod.releaseDecode_none]
  · exact htakes
  · rw [htakes.ahead, Mod.dec_modDec hl]

omit he in
theorem Mod.decodeHeard_dec (hl : e < m.decs.length) : (m.decodeHeard e path).dec e = { m.dec e with lastAt := m.now } := by
  have hdecs : (m.decodeHeard e path).decs = (m.modDec e fun d => { d with lastAt := m.now }).decs := Mod.bump_decs ..
  unfold Mod.dec
  rw [hdecs]
  exact Mod.dec_modDec hl

theorem Mod.decodeHeard_n {j k : Nat} (hk : k < 256) (h : j = 0x5CC0 + e → k ≠ (if path = .red then 1 else 2)) :
    (m.decodeHeard e path).n j k = m.n j k := by
  have hsub : (if path = .red then 1 else 2) < 256 := by split <;> decide
  unfold Mod.decodeHeard
  generalize (if path = .red then 1 else 2) = s at h hsub ⊢
  exact congrArg Val.nat (Mod.get_bump_frame _ (by omega) (by omega))

theorem Mod.decodeHeard_counts {s : Nat} (hs : s = if path = .red then 1 else 2) :
    (m.decodeHeard e path).n (0x5CC0 + e) s = (m.bump (0x5CC0 + e) s).n (0x5CC0 + e) s := by
  have hlt : s < 256 := by
    rw [hs]
    split <;> decide
  unfold Mod.decodeHeard
  rw [← hs]
  exact Mod.n_bump_congr (by omega) rfl

/-- What is taken before a datagram is judged, and the numbers dropped, leave the counts of copies and paths. -/
theorem Mod.decodeOpen_keeps (m : Mod) (w : Nat) (hl : e < m.decs.length) :
    ((m.decodeOpen e w).dec e).lastAt = (m.dec e).lastAt ∧ ((m.decodeOpen e w).dec e).seen = keptNumbers m.now w (m.dec e).seen
      ∧ (m.decodeOpen e w).now = m.now ∧ (m.decodeOpen e w).decs.length = m.decs.length
      ∧ ∀ k < 4, (m.decodeOpen e w).n (0x5CC0 + e) k = m.n (0x5CC0 + e) k := by
  have h := m.drains_release he
  have hlen : e < (m.release e).decs.length := h.engines.symm ▸ hl
  unfold Mod.decodeOpen
  rw [Mod.dec_modDec hlen]
  refine ⟨h.lastAt, ?_, Mod.release_part (p := .now) _ _ (by decide), Mod.decs_modDec.trans h.engines, fun k hk => h.n (by omega) (by omega) (by omega) (by omega) fun _ => hk⟩
  rw [h.seen]

/-- Of a change: when the engine heard last, and the counts of copies and paths, stand. -/
def Mod.listens (e : Nat) (a b : Mod) : Prop := (b.dec e).lastAt = (a.dec e).lastAt ∧ ∀ k < 4, b.n (0x5CC0 + e) k = a.n (0x5CC0 + e) k

omit he in
theorem Mod.listens_trans {a b c : Mod} (h : Mod.listens e a b) (h' : Mod.listens e b c) : Mod.listens e a c :=
  ⟨h'.1.trans h.1, fun k hk => (h'.2 k hk).trans (h.2 k hk)⟩

theorem Mod.listens_of_drains {a b : Mod} (h : Mod.drains e a b) : Mod.listens e a b :=
  ⟨h.lastAt, fun k hk => h.n (by omega) (by omega) (by omega) (by omega) fun _ => hk⟩

omit he in
theorem Mod.listens_modDec (m : Mod) {f : DecodeS → DecodeS} (hf : ∀ d, (f d).lastAt = d.lastAt) : Mod.listens e m (m.modDec e f) :=
  ⟨Mod.dec_modDec_keeps DecodeS.lastAt hf, fun _ _ => rfl⟩

theorem Mod.decodeNew_listens (m : Mod) (path : Path) (g : DecodeDg) : Mod.listens e m (m.decodeNew e path g) := by
  have hbuffer : Mod.listens e m (m.bufferDecode e g.seq g.packets) := by
    unfold Mod.bufferDecode
    dsimp only
    refine Mod.listens_trans (b := m.when _ _) (Mod.listens_of_drains he ?_) (Mod.listens_modDec _ fun _ => rfl)
    unfold Mod.when
    split
    · exact (m.feeds_bump he (by decide)).todrains
    · exact Mod.drains_refl
  have hhold (a : Mod) : Mod.listens e a (a.decodeHold e path g) := by
    unfold Mod.decodeHold Mod.when
    split
    · exact a.listens_modDec fun _ => rfl
    · exact ⟨rfl, fun _ _ => rfl⟩
  unfold Mod.decodeNew
  split
  · exact ⟨rfl, fun _ _ => rfl⟩
  · exact Mod.listens_trans hbuffer (Mod.listens_trans (hhold _) (Mod.listens_of_drains he (Mod.drains_release he _)))

/-- The datagram that comes next, with room for it, is taken and its number held. -/
theorem Mod.decodeNew_takes (hl : e < m.decs.length) (hn : (m.dec e).next.getD g.seq = g.seq) (ha : (m.dec e).ahead = [])
    (hroom : (m.dec e).fill + 188 * g.packets.length ≤ inputBuffer) (hp : g.packets ≠ []) :
    ((m.decodeNew e path g).dec e).next = some (g.seq + 1) ∧ ((m.decodeNew e path g).dec e).ahead = []
      ∧ (⟨g.seq, m.now, path⟩ : Seen) ∈ ((m.decodeNew e path g).dec e).seen := by
  have hlate : ((m.dec e).next.any fun n => g.seq < n) = false := by
    cases h : (m.dec e).next with
    | none => rfl
    | some n =>
      rw [h] at hn
      simp [show n = g.seq from hn]
  have hbuffer : m.bufferDecode e g.seq g.packets = m.modDec e fun d =>
      { d with
        next := some (d.next.getD g.seq)
        ahead := insertBy (fun x y => x.1 < y.1) (g.seq, m.now, g.packets) (d.ahead.filter fun x => x.1 ≠ g.seq) } := by
    unfold Mod.bufferDecode
    dsimp only
    rw [decide_eq_true hroom]
    rfl
  have hone : (m.bufferDecode e g.seq g.packets).dec e = { m.dec e with next := some g.seq, ahead := [(g.seq, m.now, g.packets)] } := by
    rw [hbuffer, Mod.dec_modDec hl, ha, hn]
    rfl
  have hhold : (m.bufferDecode e g.seq g.packets).decodeHold e path g
      = (m.bufferDecode e g.seq g.packets).modDec e fun d => { d with seen := d.seen ++ [⟨g.seq, m.now, path⟩] } := by
    have hnow : (m.bufferDecode e g.seq g.packets).now = m.now := by
      rw [hbuffer]
      rfl
    unfold Mod.decodeHold Mod.when
    rw [hone]
    refine (if_pos (by simp [hp])).trans ?_
    dsimp only
    rw [hnow]
  have hlen : e < (m.bufferDecode e g.seq g.packets).decs.length := by
    rw [hbuffer]
    exact Mod.decs_modDec.symm ▸ hl
  have hdec : ((m.bufferDecode e g.seq g.packets).decodeHold e path g).dec e
      = { m.dec e with next := some g.seq, ahead := [(g.seq, m.now, g.packets)], seen := (m.dec e).seen ++ [⟨g.seq, m.now, path⟩] } := by
    rw [hhold, Mod.dec_modDec hlen, hone]
  have hlen' : e < ((m.bufferDecode e g.seq g.packets).decodeHold e path g).decs.length := by
    rw [hhold]
    exact Mod.decs_modDec.symm ▸ hlen
  have hnew : m.decodeNew e path g = ((m.bufferDecode e g.seq g.packets).decodeHold e path g).release e := by
    unfold Mod.decodeNew
    rw [hlate]
    rfl
  generalize (m.bufferDecode e g.seq g.packets).decodeHold e path g = b at hdec hlen' hnew
  have h := Mod.release_one he hlen' (congrArg DecodeS.next hdec) (congrArg DecodeS.ahead hdec) hp
  rw [hnew, h.next, h.ahead, h.seen, Mod.dec_modDec hlen', hdec]
  exact ⟨rfl, rfl, List.mem_append_right _ (List.mem_singleton_self _)⟩

/-- A further copy in its window is counted, and no other datagram counts on a path. -/
theorem Mod.decodeJudge_counts (m : Mod) (path : Path) (g : DecodeDg) (w : Nat) :
    ((m.decodeJudge e path g w).dec e).lastAt = (m.dec e).lastAt ∧ ∀ k < 3, (m.decodeJudge e path g w).n (0x5CC0 + e) k = m.n (0x5CC0 + e) k := by
  unfold Mod.decodeJudge
  split
  · split
    · refine ⟨congrArg DecodeS.lastAt (by unfold Mod.dec; rw [Mod.bump_decs]), fun k hk => ?_⟩
      exact congrArg Val.nat (Mod.get_bump_frame _ (by omega) (by omega))
    · exact ⟨rfl, fun _ _ => rfl⟩
  · exact ⟨(Mod.decodeNew_listens he ..).1, fun k hk => (Mod.decodeNew_listens he ..).2 k (by omega)⟩

/-- A datagram that is heard: when, on which path, and what becomes of it. -/
theorem Mod.takeDecode_shows (hl : e < m.decs.length) (hr : m.decRuns e = true) (ht : m.takesFlows e = true) {s : Nat} (hs : s = if path = .red then 1 else 2) :
    ((m.takeDecode e path g).dec e).lastAt = m.now ∧ (m.takeDecode e path g).n (0x5CC0 + e) s = (m.bump (0x5CC0 + e) s).n (0x5CC0 + e) s := by
  have hlt : s < 3 := by
    rw [hs]
    split <;> decide
  have hdec := Mod.decodeHeard_dec (path := path) hl
  have hcount := Mod.decodeHeard_counts he (m := m) hs
  have hlen : e < (m.decodeHeard e path).decs.length := by
    unfold Mod.decodeHeard
    rw [Mod.bump_decs]
    exact Mod.decs_modDec.symm ▸ hl
  rw [Mod.takeDecode_eq hr ht]
  split
  · exact ⟨congrArg DecodeS.lastAt hdec, hcount⟩
  · obtain ⟨hlast, -, -, -, hkept⟩ := Mod.decodeOpen_keeps he (m.decodeHeard e path) ((m.decodeHeard e path).n (0x5C00 + e) 0x0A) hlen
    obtain ⟨hjudged, hjudge⟩ := Mod.decodeJudge_counts he ((m.decodeHeard e path).decodeOpen e ((m.decodeHeard e path).n (0x5C00 + e) 0x0A)) path g
      ((m.decodeHeard e path).n (0x5C00 + e) 0x0A)
    exact ⟨hjudged.trans (hlast.trans (congrArg DecodeS.lastAt hdec)), (hjudge s hlt).trans ((hkept s (by omega)).trans hcount)⟩

/-- A datagram of a flow is judged by the numbers still held. -/
theorem Mod.takeDecode_judges (hr : m.decRuns e = true) (ht : m.takesFlows e = true) (hg : decodeBad g (m.n (0x5C00 + e) 0x0C) = false) :
    m.takeDecode e path g = ((m.decodeHeard e path).decodeOpen e (m.n (0x5C00 + e) 0x0A)).decodeJudge e path g (m.n (0x5C00 + e) 0x0A) := by
  have hn {k : Nat} (hk : k < 256) : (m.decodeHeard e path).n (0x5C00 + e) k = m.n (0x5C00 + e) k := Mod.decodeHeard_n he hk (by omega)
  rw [Mod.takeDecode_eq hr ht, hn (by decide), hn (by decide)]
  exact if_neg (Bool.eq_false_iff.mp hg)

/-- What is open to a datagram when it is judged. -/
theorem Mod.decodeOpen_heard (hl : e < m.decs.length) (w : Nat) : ((m.decodeHeard e path).decodeOpen e w).now = m.now
    ∧ (((m.decodeHeard e path).decodeOpen e w).dec e).seen = keptNumbers m.now w (m.dec e).seen
    ∧ ((m.decodeHeard e path).decodeOpen e w).n (0x5CC0 + e) 3 = m.n (0x5CC0 + e) 3 := by
  have hlen : e < (m.decodeHeard e path).decs.length := by
    unfold Mod.decodeHeard
    rw [Mod.bump_decs]
    exact Mod.decs_modDec.symm ▸ hl
  have hnow : (m.decodeHeard e path).now = m.now := Mod.bump_now ..
  obtain ⟨-, hseen, hnow', -, hkept⟩ := Mod.decodeOpen_keeps he (m.decodeHeard e path) w hlen
  rw [hnow, Mod.decodeHeard_dec hl] at hseen
  refine ⟨hnow'.trans hnow, hseen, (hkept 3 (by decide)).trans (Mod.decodeHeard_n he (by decide) fun _ => ?_)⟩
  split <;> decide

section
variable (hl : e < m.decs.length) (hr : m.decRuns e = true) (ht : m.takesFlows e = true) (hg : decodeBad g (m.n (0x5C00 + e) 0x0C) = false)
include hl hr ht hg

/-- A further copy in its window is counted. -/
theorem Mod.takeDecode_copy {y : Seen} (hy : (keptNumbers m.now (m.n (0x5C00 + e) 0x0A) (m.dec e).seen).find? (fun y => y.seq = g.seq) = some y)
    (hw : m.now ≤ y.at_ + m.n (0x5C00 + e) 0x0A) : (m.takeDecode e path g).n (0x5CC0 + e) 3 = (m.bump (0x5CC0 + e) 3).n (0x5CC0 + e) 3 := by
  obtain ⟨hnow, hseen, hcount⟩ := Mod.decodeOpen_heard (path := path) he hl (m.n (0x5C00 + e) 0x0A)
  rw [Mod.takeDecode_judges he hr ht hg]
  generalize (m.decodeHeard e path).decodeOpen e (m.n (0x5C00 + e) 0x0A) = b at hnow hseen hcount
  unfold Mod.decodeJudge
  rw [hseen, hy]
  dsimp only
  rw [if_pos (hnow.symm ▸ hw)]
  exact Mod.n_bump_congr (by omega) hcount

/-- The datagram that comes next is taken. -/
theorem Mod.takeDecode_new (hnew : ∀ y ∈ keptNumbers m.now (m.n (0x5C00 + e) 0x0A) (m.dec e).seen, y.seq ≠ g.seq)
    (hn : (m.dec e).next.getD g.seq = g.seq) (ha : (m.dec e).ahead = []) (hroom : (m.dec e).fill + 188 * g.packets.length ≤ inputBuffer)
    (hp : g.packets ≠ []) : ((m.takeDecode e path g).dec e).next = some (g.seq + 1) ∧ ((m.takeDecode e path g).dec e).ahead = []
      ∧ (⟨g.seq, m.now, path⟩ : Seen) ∈ ((m.takeDecode e path g).dec e).seen := by
  obtain ⟨hnow, hseen, -⟩ := Mod.decodeOpen_heard (path := path) he hl (m.n (0x5C00 + e) 0x0A)
  have hheard := Mod.decodeHeard_dec (path := path) hl
  have hlen : e < (m.decodeHeard e path).decs.length := by
    unfold Mod.decodeHeard
    rw [Mod.bump_decs]
    exact Mod.decs_modDec.symm ▸ hl
  have hdec : ((m.decodeHeard e path).decodeOpen e (m.n (0x5C00 + e) 0x0A)).dec e
      = { m.dec e with lastAt := m.now, seen := keptNumbers m.now (m.n (0x5C00 + e) 0x0A) (m.dec e).seen } := by
    have hnone : (m.decodeHeard e path).release e = m.decodeHeard e path := Mod.release_none (by rw [hheard]; exact ha)
    have hnow' : (m.decodeHeard e path).now = m.now := Mod.bump_now ..
    unfold Mod.decodeOpen
    rw [hnone, Mod.dec_modDec hlen, hheard, hnow']
  have hlen' : e < ((m.decodeHeard e path).decodeOpen e (m.n (0x5C00 + e) 0x0A)).decs.length :=
    (Mod.decodeOpen_keeps he _ _ hlen).2.2.2.1.symm ▸ hlen
  rw [Mod.takeDecode_judges he hr ht hg]
  generalize (m.decodeHeard e path).decodeOpen e (m.n (0x5C00 + e) 0x0A) = b at hnow hseen hdec hlen'
  have hjudge : b.decodeJudge e path g (m.n (0x5C00 + e) 0x0A) = b.decodeNew e path g := by
    unfold Mod.decodeJudge
    rw [hseen, find?_none_of_new hnew]
  rw [hjudge, ← hnow]
  exact Mod.decodeNew_takes he hlen' (by rw [hdec]; exact hn) (by rw [hdec]; exact ha) (by rw [hdec]; exact hroom) hp

end

end

/-! ### An engine that has lost its flow -/

/-- An engine that hears nothing lets go of what it holds. -/
def DecodeS.emptied (d : DecodeS) : DecodeS :=
  { d with
    next := none, ahead := [], sections := [], lastCc := none, au := none, sps := none, sets := []
    waiting := [], decoding := none, ready := [], decoded := [] }

theorem Mod.decodeLoss_eq (h : m.decRuns e = true ∧ m.decState e ≠ decLost ∧ (m.dec e).lastAt + m.n (0x5C00 + e) 0x0B ≤ m.now) :
    m.decodeLoss e = (((m.modDec e DecodeS.emptied).put (0x5C80 + e) 2 decLost).raiseCond 0x5C01 e [e]).conceal e := by
  obtain ⟨hr, hs, ht⟩ := h
  unfold Mod.decodeLoss
  exact if_pos (by simp [hr, hs, ht])

theorem Mod.decodeLoss_idle (h : ¬(m.decRuns e = true ∧ m.decState e ≠ decLost ∧ (m.dec e).lastAt + m.n (0x5C00 + e) 0x0B ≤ m.now)) : m.decodeLoss e = m := by
  unfold Mod.decodeLoss
  exact if_neg (by simpa [and_assoc] using h)

/-- Concealment begins: flag 3 is set, with its condition; what waits and what is ready stand. -/
theorem Mod.conceal_shows (m : Mod) (he : e < 2) : (m.conceal e).flag (0x5C80 + e) 3 = true ∧ (m.conceal e).n (0x5C80 + e) 2 = m.n (0x5C80 + e) 2
    ∧ (m.condSet 0x5C01 e = true → (m.conceal e).condSet 0x5C01 e = true)
    ∧ ((m.conceal e).dec e).waiting = (m.dec e).waiting ∧ ((m.conceal e).dec e).ready = (m.dec e).ready ∧ ((m.conceal e).dec e).fill = (m.dec e).fill := by
  have hdec {β : Type} (F : DecodeS → β) (hF : ∀ d : DecodeS, F { d with damagedAt := d.count, recovery := none } = F d) :
      F ((m.conceal e).dec e) = F (m.dec e) := by
    refine Eq.trans (congrArg F ?_) (Mod.dec_modDec_keeps F hF)
    unfold Mod.conceal
    dsimp only
    split
    · rfl
    · unfold Mod.dec
      rw [Mod.raiseCond_decs, Mod.putFlag_decs]
  refine ⟨?_, ?_, fun hc => ?_, hdec DecodeS.waiting fun _ => rfl, hdec DecodeS.ready fun _ => rfl, hdec DecodeS.fill fun _ => rfl⟩
  · unfold Mod.conceal
    dsimp only
    split
    · assumption
    · unfold Mod.flag Mod.n
      rw [Mod.get_raiseCond_frame _ _ _ _ (.inl (by omega))]
      exact Mod.flag_putFlag _ (0x5C80 + e) 3 true (by omega)
  · unfold Mod.conceal
    dsimp only
    split
    · rfl
    · unfold Mod.n
      rw [Mod.get_raiseCond_frame _ _ _ _ (.inl (by omega)), Mod.get_putFlag_frame _ _ (by omega) (by omega)]
      rfl
  · unfold Mod.conceal
    dsimp only
    split
    · exact hc
    · exact Mod.condSet_raiseCond_mono _ _ _ _ hc

end

theorem decodeBad_of_good {g : DecodeDg} {pt : Nat} (h : (g.payloadType = 33 ∨ g.payloadType = pt) ∧ 1 ≤ g.packets.length ∧ g.packets.length ≤ 7) :
    decodeBad g pt = false ∧ g.packets ≠ [] := by
  obtain ⟨ht, hone, hseven⟩ := h
  have hp : g.packets ≠ [] := List.ne_nil_of_length_pos hone
  have hle : ¬7 < g.packets.length := by omega
  unfold decodeBad
  refine ⟨?_, hp⟩
  obtain ht | ht := ht <;> simp [ht, hp, hle]

/-- Settles O23: a datagram by whether the engine takes it, by its form, its number and its turn; a loss by whether it is due. -/
theorem decodeEnginesTakeTheirFlows : Obligations.DecodeEnginesTakeTheirFlows := by
  unfold Obligations.DecodeEnginesTakeTheirFlows
  intro s t e hs hlen m
  have he := e.isLt
  have hb : m.rebooting = false := hs.2
  refine ⟨fun path g => ⟨fun hidle => ?_, fun hr ht => ?_⟩, fun hdue => ?_, fun hdue => ?_⟩
  · exact does_act (g := fun m => m.takeDecode e.val path g) hs rfl (Mod.takeDecode_idle hidle) hb
  · refine completes_act (g := fun m => m.takeDecode e.val path g) rfl hs ?_ fun _ h => h
    obtain ⟨hlast, hcount⟩ := Mod.takeDecode_shows (g := g) he hlen hr ht rfl
    refine ⟨hlast, hcount, fun hgood y hy hw => ?_, fun hgood hnew hn ha hroom => ?_⟩
    · exact Mod.takeDecode_copy he hlen hr ht (decodeBad_of_good hgood).1 hy hw
    · obtain ⟨hbad, hp⟩ := decodeBad_of_good hgood
      exact Mod.takeDecode_new he hlen hr ht hbad hnew hn ha hroom hp
  · refine completes_act (g := fun m => m.decodeLoss e.val) rfl hs ?_ fun _ h => h
    show (m.decodeLoss e.val).n _ 2 = _ ∧ (m.decodeLoss e.val).condSet _ _ = true ∧ (m.decodeLoss e.val).flag _ _ = true
      ∧ ((m.decodeLoss e.val).dec _).waiting = [] ∧ ((m.decodeLoss e.val).dec _).ready = [] ∧ ((m.decodeLoss e.val).dec _).fill = 0
    have hstate (a : Mod) : ((a.put (0x5C80 + e.val) 2 decLost).raiseCond 0x5C01 e.val [e.val]).n (0x5C80 + e.val) 2 = decLost := by
      refine Eq.trans (congrArg Val.nat (Mod.get_raiseCond_frame _ _ _ _ (.inl (by omega)))) ?_
      exact a.n_put _ _ _ (by omega)
    have hdec : (((m.modDec e.val DecodeS.emptied).put (0x5C80 + e.val) 2 decLost).raiseCond 0x5C01 e.val [e.val]).dec e.val = (m.dec e.val).emptied := by
      rw [← Mod.dec_modDec (f := DecodeS.emptied) hlen]
      unfold Mod.dec
      rw [Mod.raiseCond_decs, Mod.put_decs]
    obtain ⟨hflag, hkept, hcond, hwaiting, hready, hfill⟩ :=
      Mod.conceal_shows (((m.modDec e.val DecodeS.emptied).put (0x5C80 + e.val) 2 decLost).raiseCond 0x5C01 e.val [e.val]) he
    rw [Mod.decodeLoss_eq hdue, hwaiting, hready, hfill, hdec]
    exact ⟨hkept.trans (hstate _), hcond (Mod.condSet_raiseCond ..), hflag, rfl, rfl, rfl⟩
  · exact does_act (g := fun m => m.decodeLoss e.val) hs rfl (Mod.decodeLoss_idle hdue) hb

end Sys2Proof.Machine
end

section
/-! SUPPORT. Decode engines: access units decoded, pictures presented and sent (R171, R174, R179). -/

namespace Sys2Proof.Machine

/-! ### The end of a decode -/

section
variable {a b c m : Mod} {e : Nat}

/-- What follows the end of a decode: the picture stays counted and held, and concealment stays shown. -/
structure Mod.concludes (e : Nat) (a b : Mod) : Prop where
  engines : b.decs.length = a.decs.length
  decoding : (b.dec e).decoding = (a.dec e).decoding
  count : (b.dec e).count = (a.dec e).count
  decoded : (b.dec e).decoded = (a.dec e).decoded
  ended : b.n (0x5CC0 + e) 5 = a.n (0x5CC0 + e) 5
  concealed : b.n (0x5CC0 + e) 9 = a.n (0x5CC0 + e) 9
  shown : a.flag (0x5C80 + e) 3 = true → b.flag (0x5C80 + e) 3 = true

theorem Mod.concludes_refl : Mod.concludes e m m := ⟨rfl, rfl, rfl, rfl, rfl, rfl, id⟩

theorem Mod.concludes_trans (h : Mod.concludes e a b) (h' : Mod.concludes e b c) : Mod.concludes e a c :=
  ⟨h'.engines.trans h.engines, h'.decoding.trans h.decoding, h'.count.trans h.count, h'.decoded.trans h.decoded, h'.ended.trans h.ended,
    h'.concealed.trans h.concealed, fun hs => h'.shown (h.shown hs)⟩

theorem Mod.concludes_ite {p : Prop} [Decidable p] (h : Mod.concludes e a b) (h' : Mod.concludes e a c) : Mod.concludes e a (if p then b else c) := by
  split
  · exact h
  · exact h'

theorem Mod.concludes_modDec (m : Mod) {f : DecodeS → DecodeS} (hf : ∀ d, (f d).decoding = d.decoding ∧ (f d).count = d.count ∧ (f d).decoded = d.decoded) :
    Mod.concludes e m (m.modDec e f) :=
  ⟨Mod.decs_modDec, Mod.dec_modDec_keeps DecodeS.decoding fun d => (hf d).1, Mod.dec_modDec_keeps DecodeS.count fun d => (hf d).2.1,
    Mod.dec_modDec_keeps DecodeS.decoded fun d => (hf d).2.2, rfl, rfl, id⟩

section
variable (he : e < 2)
include he

theorem Mod.concludes_bump (m : Mod) {s : Nat} (hs : s = 8 ∨ s = 0x0A ∨ s = 0x0B) : Mod.concludes e m (m.bump (0x5CC0 + e) s) := by
  have hdec : (m.bump (0x5CC0 + e) s).dec e = m.dec e := by
    unfold Mod.dec
    rw [Mod.bump_decs]
  have hn {j k : Nat} (hk : j = 0x5CC0 + e ∧ (k = 5 ∨ k = 9) ∨ j = 0x5C80 + e ∧ k = 3) : (m.bump (0x5CC0 + e) s).n j k = m.n j k :=
    congrArg Val.nat (Mod.get_bump_frame _ (by omega) (by omega))
  refine ⟨congrArg _ (Mod.bump_decs ..), congrArg _ hdec, congrArg _ hdec, congrArg _ hdec, hn (by omega), hn (by omega), fun h => ?_⟩
  unfold Mod.flag at h ⊢
  rw [hn (by omega)]
  exact h

theorem Mod.concludes_raiseLimited (m : Mod) (c r : Nat) (d : Nanos) (p : List Nat) : Mod.concludes e m (m.raiseLimited c r d p) := by
  have hdec : (m.raiseLimited c r d p).dec e = m.dec e := by
    unfold Mod.dec
    rw [Mod.raiseLimited_decs]
  have hn {j k : Nat} (hk : j * 256 + k < 0x740000) : (m.raiseLimited c r d p).n j k = m.n j k :=
    congrArg Val.nat (Mod.get_raiseLimited_frame _ _ _ _ _ (.inl hk))
  refine ⟨congrArg _ (Mod.raiseLimited_decs ..), congrArg _ hdec, congrArg _ hdec, congrArg _ hdec, hn (by omega), hn (by omega), fun h => ?_⟩
  unfold Mod.flag at h ⊢
  rw [hn (by omega)]
  exact h

theorem Mod.concludes_conceal (m : Mod) : Mod.concludes e m (m.conceal e) := by
  have hlast : Mod.concludes e m (m.modDec e fun d => { d with damagedAt := d.count, recovery := none }) := m.concludes_modDec fun _ => ⟨rfl, rfl, rfl⟩
  unfold Mod.conceal
  dsimp only
  refine Mod.concludes_trans hlast ?_
  generalize m.modDec e (fun d => { d with damagedAt := d.count, recovery := none }) = b
  refine Mod.concludes_ite Mod.concludes_refl ?_
  have hdecs : ((b.putFlag (0x5C80 + e) 3 true).raiseCond 0x5C04 e [e]).decs = b.decs := (Mod.raiseCond_decs ..).trans (Mod.putFlag_decs ..)
  have hdec : ((b.putFlag (0x5C80 + e) 3 true).raiseCond 0x5C04 e [e]).dec e = b.dec e := by
    unfold Mod.dec
    rw [hdecs]
  have hn {k : Nat} (hk : k < 256) : ((b.putFlag (0x5C80 + e) 3 true).raiseCond 0x5C04 e [e]).n (0x5CC0 + e) k = b.n (0x5CC0 + e) k :=
    congrArg Val.nat ((Mod.get_raiseCond_frame _ _ _ _ (.inl (by omega))).trans (Mod.get_putFlag_frame _ _ (by omega) (by omega)))
  refine ⟨congrArg _ hdecs, congrArg _ hdec, congrArg _ hdec, congrArg _ hdec, hn (by decide), hn (by decide), fun _ => ?_⟩
  unfold Mod.flag Mod.n
  rw [Mod.get_raiseCond_frame _ _ _ _ (.inl (by omega))]
  exact Mod.flag_putFlag _ (0x5C80 + e) 3 true (by omega)

theorem Mod.concludes_enqueuePicture (m : Mod) (p : DecPicture) (late : Bool) : Mod.concludes e m (m.enqueuePicture e p late) := by
  have hqueue (f : DecodeS → DecodeS) (hf : ∀ d, (f d).decoding = d.decoding ∧ (f d).count = d.count ∧ (f d).decoded = d.decoded) :
      Mod.concludes e m ((m.modDec e f).bump (0x5CC0 + e) 8) :=
    Mod.concludes_trans (m.concludes_modDec hf) (Mod.concludes_bump he _ (.inl rfl))
  unfold Mod.enqueuePicture
  dsimp only
  split
  · split
    · exact Mod.concludes_refl
    · split
      · exact m.concludes_bump he (.inl rfl)
      · split
        · exact m.concludes_modDec fun _ => ⟨rfl, rfl, rfl⟩
        · refine Mod.concludes_trans ?_ (Mod.concludes_bump he _ (.inl rfl))
          exact m.concludes_modDec fun _ => ⟨rfl, rfl, rfl⟩
  · split
    · refine Mod.concludes_trans ?_ (Mod.concludes_bump he _ (.inl rfl))
      exact m.concludes_modDec fun _ => ⟨rfl, rfl, rfl⟩
    · exact m.concludes_modDec fun _ => ⟨rfl, rfl, rfl⟩

end

end

/-- A decode that is done is counted, and its picture held. -/
def DecodeS.concluded (d : DecodeS) (x : Decoding) (y : Decoded) (now at_ : Nanos) (edge : Nanos) : DecodeS :=
  { d with
    decoding := none
    endedAt := at_
    count := d.count + 1
    orderBase := y.base
    lastPoc := if y.info.anchor then y.info.poc else d.lastPoc
    sets :=
      let new := x.au.units.filter (isParameterSet x.au.vvc)
      let l := d.sets.filter (fun u => !new.contains u) ++ new
      l.drop (l.length - 96)
    decoded := d.decoded.drop (d.decoded.length - 15) ++ [y.ref]
    margins := if x.au.late then d.margins ++ [(now, (edge : Int) - at_)] else d.margins }

def Mod.decodeDone (m : Mod) (e : Nat) (x : Decoding) (at_ : Nanos) : Mod :=
  (m.bump (0x5CC0 + e) 5).modDec e fun d =>
    d.concluded x ((m.dec e).decode x.au) m.now at_ (m.fam.edge x.tick)

def Mod.countDamaged (m : Mod) (e : Nat) (damaged : Bool) : Mod := if damaged then m.bump (0x5CC0 + e) 0x0B else m

/-- A picture damaged or without a reference is concealed; another may begin or continue a recovery. -/
def Mod.concealOr (m : Mod) (e : Nat) (bad : Bool) (y : Decoded) : Mod :=
  if bad then (m.bump (0x5CC0 + e) 9).conceal e
  else match recoveryOf y.info.recovery y.ref.order with
    | none => m
    | some done => m.modDec e fun d => { d with recovery := some (match d.recovery with
        | none => (d.count, done)
        | some z => if done ≤ z.2 then (d.count, done) else z) }

def Mod.checkHash (m : Mod) (e : Nat) (bad : Bool) (x : Decoding) (y : Decoded) (period : Nanos) : Mod :=
  if m.flag (0x5C00 + e) 0x0D && !bad && !hashOk y.info x.au.sps.depth y.ref.rows then
    (m.bump (0x5CC0 + e) 0x0A).raiseLimited 0x5C07 e period [e]
  else m

def Mod.queueDecoded (m : Mod) (e : Nat) (x : Decoding) (y : Decoded) (at_ : Nanos) : Mod :=
  m.enqueuePicture e ⟨y.ref.order, x.tick, x.tp, at_, (m.dec e).recovery.bind fun z => if z.2 ≤ y.ref.order then some z.1 else none, x.au.sps, y.ref.rows⟩
    x.au.late

section
variable {m : Mod} {e : Nat} {x : Decoding}

theorem Mod.endPicture_eq (m : Mod) (e : Nat) (x : Decoding) (at_ : Nanos) : m.endPicture e x at_
    = (((((m.decodeDone e x at_).countDamaged e x.au.damaged).concealOr e (x.au.damaged || ((m.dec e).decode x.au).whole) ((m.dec e).decode x.au)).checkHash e
        (x.au.damaged || ((m.dec e).decode x.au).whole) x ((m.dec e).decode x.au) second).queueDecoded e x ((m.dec e).decode x.au) at_) := by
  unfold Mod.endPicture
  rfl

section
variable (he : e < 2)
include he

theorem Mod.decodeDone_shows (hl : e < m.decs.length) (at_ : Nanos) : (m.decodeDone e x at_).decs.length = m.decs.length
    ∧ ((m.decodeDone e x at_).dec e).decoding = none ∧ ((m.decodeDone e x at_).dec e).count = (m.dec e).count + 1
    ∧ ((m.dec e).decode x.au).ref ∈ ((m.decodeDone e x at_).dec e).decoded
    ∧ (m.decodeDone e x at_).n (0x5CC0 + e) 5 = (m.bump (0x5CC0 + e) 5).n (0x5CC0 + e) 5
    ∧ (m.decodeDone e x at_).n (0x5CC0 + e) 9 = m.n (0x5CC0 + e) 9 := by
  have hdec : (m.bump (0x5CC0 + e) 5).dec e = m.dec e := by
    unfold Mod.dec
    rw [Mod.bump_decs]
  have hlen : e < (m.bump (0x5CC0 + e) 5).decs.length := by
    rw [Mod.bump_decs]
    exact hl
  unfold Mod.decodeDone
  rw [Mod.dec_modDec hlen, hdec]
  refine ⟨Mod.decs_modDec.trans (congrArg _ (Mod.bump_decs ..)), rfl, rfl, List.mem_append_right _ (List.mem_singleton_self _), rfl, ?_⟩
  exact congrArg Val.nat (Mod.get_bump_frame _ (by omega) (by omega))

theorem Mod.concludes_countDamaged (m : Mod) (damaged : Bool) : Mod.concludes e m (m.countDamaged e damaged) :=
  Mod.concludes_ite (m.concludes_bump he (.inr (.inr rfl))) Mod.concludes_refl

theorem Mod.concludes_checkHash (m : Mod) (bad : Bool) (x : Decoding) (y : Decoded) (period : Nanos) : Mod.concludes e m (m.checkHash e bad x y period) :=
  Mod.concludes_ite (Mod.concludes_trans (m.concludes_bump he (.inr (.inl rfl))) (Mod.concludes_raiseLimited he ..)) Mod.concludes_refl

/-- A bad picture is counted and concealed; another is not. -/
theorem Mod.concealOr_shows (m : Mod) (bad : Bool) (y : Decoded) : (m.concealOr e bad y).decs.length = m.decs.length
    ∧ ((m.concealOr e bad y).dec e).decoding = (m.dec e).decoding ∧ ((m.concealOr e bad y).dec e).count = (m.dec e).count
    ∧ ((m.concealOr e bad y).dec e).decoded = (m.dec e).decoded ∧ (m.concealOr e bad y).n (0x5CC0 + e) 5 = m.n (0x5CC0 + e) 5
    ∧ (bad = true → (m.concealOr e bad y).flag (0x5C80 + e) 3 = true
      ∧ (m.concealOr e bad y).n (0x5CC0 + e) 9 = (m.bump (0x5CC0 + e) 9).n (0x5CC0 + e) 9) := by
  unfold Mod.concealOr
  split
  · have hdec : (m.bump (0x5CC0 + e) 9).dec e = m.dec e := by
      unfold Mod.dec
      rw [Mod.bump_decs]
    obtain ⟨hlen, hdecoding, hcount, hdecoded, h5, h9, -⟩ := Mod.concludes_conceal he (m.bump (0x5CC0 + e) 9)
    refine ⟨hlen.trans (congrArg _ (Mod.bump_decs ..)), hdecoding.trans (congrArg _ hdec), hcount.trans (congrArg _ hdec), hdecoded.trans (congrArg _ hdec),
      h5.trans (congrArg Val.nat (Mod.get_bump_frame _ (by omega) (by omega))), fun _ => ⟨(Mod.conceal_shows _ he).1, h9⟩⟩
  · next hgood =>
    have hkept : Mod.concludes e m (m.concealOr e false y) := by
      unfold Mod.concealOr
      rw [if_neg Bool.false_ne_true]
      split
      · exact Mod.concludes_refl
      · exact m.concludes_modDec fun _ => ⟨rfl, rfl, rfl⟩
    exact ⟨hkept.engines, hkept.decoding, hkept.count, hkept.decoded, hkept.ended, fun h => absurd h hgood⟩

/-- The end of a decode: the picture is counted and held; one that is bad is concealed. -/
theorem Mod.endPicture_shows (hl : e < m.decs.length) (at_ : Nanos) : (m.endPicture e x at_).decs.length = m.decs.length
    ∧ ((m.endPicture e x at_).dec e).decoding = none ∧ ((m.endPicture e x at_).dec e).count = (m.dec e).count + 1
    ∧ ((m.dec e).decode x.au).ref ∈ ((m.endPicture e x at_).dec e).decoded
    ∧ (m.endPicture e x at_).n (0x5CC0 + e) 5 = (m.bump (0x5CC0 + e) 5).n (0x5CC0 + e) 5
    ∧ (x.au.damaged = true ∨ ((m.dec e).decode x.au).whole = true → (m.endPicture e x at_).flag (0x5C80 + e) 3 = true
      ∧ (m.endPicture e x at_).n (0x5CC0 + e) 9 = (m.bump (0x5CC0 + e) 9).n (0x5CC0 + e) 9) := by
  rw [m.endPicture_eq]
  obtain ⟨hlen, hnone, hcount, hheld, h5, h9⟩ := Mod.decodeDone_shows (x := x) he hl at_
  generalize (m.dec e).decode x.au = y at hheld ⊢
  generalize m.decodeDone e x at_ = b at hlen hnone hcount hheld h5 h9 ⊢
  have hdamaged := b.concludes_countDamaged he x.au.damaged
  generalize b.countDamaged e x.au.damaged = c at hdamaged ⊢
  obtain ⟨hlen', hnone', hcount', hheld', h5', hbad⟩ := c.concealOr_shows he (x.au.damaged || y.whole) y
  generalize c.concealOr e (x.au.damaged || y.whole) y = d at hlen' hnone' hcount' hheld' h5' hbad ⊢
  have hlast := Mod.concludes_trans (d.concludes_checkHash he (x.au.damaged || y.whole) x y second)
    (Mod.concludes_enqueuePicture he (d.checkHash e (x.au.damaged || y.whole) x y second) ⟨y.ref.order, x.tick, x.tp, at_,
      ((d.checkHash e (x.au.damaged || y.whole) x y second).dec e).recovery.bind fun z => if z.2 ≤ y.ref.order then some z.1 else none, x.au.sps, y.ref.rows⟩
      x.au.late)
  refine ⟨hlast.engines.trans (hlen'.trans (hdamaged.engines.trans hlen)), hlast.decoding.trans (hnone'.trans (hdamaged.decoding.trans hnone)),
    hlast.count.trans (hcount'.trans (hdamaged.count.trans hcount)), ?_, hlast.ended.trans (h5'.trans (hdamaged.ended.trans h5)), fun hb => ?_⟩
  · show _ ∈ ((Mod.enqueuePicture _ _ _ _).dec e).decoded
    rw [hlast.decoded, hheld', hdamaged.decoded]
    exact hheld
  · obtain ⟨hflag, hconceal⟩ := hbad (by simpa using hb)
    exact ⟨hlast.shown hflag, hlast.concealed.trans (hconceal.trans (Mod.n_bump_congr (by omega) (hdamaged.concealed.trans h9)))⟩

end

/-! ### The start of a decode -/

theorem Mod.settleFrom_none (fuel : Nat) (hd : (m.dec e).decoding = none) (hw : (m.dec e).waiting = []) : m.settleFrom e fuel = m := by
  cases fuel with
  | zero => rfl
  | succ fuel =>
    unfold Mod.settleFrom
    rw [hd, hw]

theorem Mod.settleFrom_busy (fuel : Nat) (hd : (m.dec e).decoding = some x) (ht : m.tick < x.ends) : m.settleFrom e fuel = m := by
  cases fuel with
  | zero => rfl
  | succ fuel =>
    unfold Mod.settleFrom
    rw [hd]
    exact if_pos ht

theorem Mod.settleFrom_end (fuel : Nat) (hd : (m.dec e).decoding = some x) (ht : x.ends ≤ m.tick) :
    m.settleFrom e (fuel + 1) = (m.endPicture e x (m.fam.edge x.ends)).settleFrom e fuel := by
  conv_lhs => unfold Mod.settleFrom
  rw [hd]
  exact if_neg (Nat.not_lt.mpr ht)

section
variable {a : WaitingAu} {rest : List WaitingAu} (hd : (m.dec e).decoding = none) (hw : (m.dec e).waiting = a :: rest)
include hd hw

theorem Mod.settleFrom_early (fuel : Nat) (ht : m.tick < m.decodeTick e a) : m.settleFrom e fuel = m := by
  cases fuel with
  | zero => rfl
  | succ fuel =>
    unfold Mod.settleFrom
    rw [hd, hw]
    exact if_pos ht

theorem Mod.settleFrom_begin (fuel : Nat) (ht : m.decodeTick e a ≤ m.tick) :
    m.settleFrom e (fuel + 1) = (m.beginPicture e a (m.decodeTick e a)).settleFrom e fuel := by
  conv_lhs => unfold Mod.settleFrom
  rw [hd, hw]
  exact if_neg (Nat.not_lt.mpr ht)

/-- The oldest access unit is taken; it is done after its allowance. -/
theorem Mod.settleFrom_takes (hl : e < m.decs.length) (fuel : Nat) (ht : m.decodeTick e a ≤ m.tick)
    (hends : m.tick < m.decodeTick e a + decodeAllowance (m.n (0x5C00 + e) 6)) : ((m.settleFrom e (fuel + 1)).dec e).waiting = rest
      ∧ ∃ y, ((m.settleFrom e (fuel + 1)).dec e).decoding = some y ∧ y.au = a ∧ y.ends = m.decodeTick e a + decodeAllowance (m.n (0x5C00 + e) 6) := by
  have hbegun : (m.beginPicture e a (m.decodeTick e a)).dec e
      = { m.dec e with
          waiting := (m.dec e).waiting.drop 1
          decoding := some ⟨a, m.decodeTick e a + decodeAllowance (m.n (0x5C00 + e) 6), m.auTick e a, ptsTime a.pts a.arrived⟩ } := Mod.dec_modDec hl
  rw [Mod.settleFrom_begin hd hw fuel ht, Mod.settleFrom_busy fuel (congrArg DecodeS.decoding hbegun) hends, hbegun, hw]
  exact ⟨rfl, _, rfl, rfl, rfl⟩

end

theorem Mod.decs_endPicture (he : e < 2) (hl : e < m.decs.length) (at_ : Nanos) : (m.endPicture e x at_).decs.length = m.decs.length :=
  (Mod.endPicture_shows he hl at_).1

/-- Settling what is due keeps the engines there are. -/
theorem Mod.decs_settleFrom (he : e < 2) (fuel : Nat) (m : Mod) (hl : e < m.decs.length) : (m.settleFrom e fuel).decs.length = m.decs.length := by
  induction fuel generalizing m with
  | zero => rfl
  | succ fuel ih =>
    have hstep (b : Mod) (hb : b.decs.length = m.decs.length) : (b.settleFrom e fuel).decs.length = m.decs.length := (ih b (by omega)).trans hb
    cases hd : (m.dec e).decoding with
    | some x =>
      by_cases ht : m.tick < x.ends
      · rw [Mod.settleFrom_busy _ hd ht]
      · rw [Mod.settleFrom_end _ hd (Nat.not_lt.mp ht)]
        exact hstep _ (Mod.decs_endPicture he hl _)
    | none =>
      cases hw : (m.dec e).waiting with
      | nil => rw [Mod.settleFrom_none _ hd hw]
      | cons y rest =>
        by_cases ht : m.tick < m.decodeTick e y
        · rw [Mod.settleFrom_early hd hw _ ht]
        · rw [Mod.settleFrom_begin hd hw _ (Nat.not_lt.mp ht)]
          exact hstep _ Mod.decs_modDec

theorem Mod.decs_settleDecode (he : e < 2) (hl : e < m.decs.length) : (m.settleDecode e).decs.length = m.decs.length := by
  have hrelease := (m.drains_release he).engines
  unfold Mod.settleDecode
  split
  · rfl
  · exact (Mod.decs_settleFrom he _ _ (hrelease.symm ▸ hl)).trans hrelease

theorem Mod.decs_markLate (T : Nat) : (m.markLate e T).decs.length = m.decs.length := by
  unfold Mod.markLate
  split
  · rfl
  · refine Mod.decs_modDec.trans ?_
    refine Mod.each_holds (P := fun b => b.decs.length = m.decs.length) (fun b _ hb => ?_) rfl
    rw [← hb]
    unfold Mod.countLate
    rw [Mod.raiseLimited_decs, Mod.bump_decs]

/-! ### A frame tick of an output -/

/-- What follows a picture's choice: the picture shown and the counts of pictures shown and repeated stand. -/
structure Mod.presents (e : Nat) (a b : Mod) : Prop where
  current : (b.dec e).current = (a.dec e).current
  lastTick : (b.dec e).lastTick = (a.dec e).lastTick
  shown : b.n (0x5CC0 + e) 6 = a.n (0x5CC0 + e) 6
  repeated : b.n (0x5CC0 + e) 7 = a.n (0x5CC0 + e) 7

theorem Mod.presents_refl : Mod.presents e m m := ⟨rfl, rfl, rfl, rfl⟩

theorem Mod.presents_trans {a b c : Mod} (h : Mod.presents e a b) (h' : Mod.presents e b c) : Mod.presents e a c :=
  ⟨h'.current.trans h.current, h'.lastTick.trans h.lastTick, h'.shown.trans h.shown, h'.repeated.trans h.repeated⟩

theorem Mod.presents_modDec (m : Mod) {f : DecodeS → DecodeS} (hf : ∀ d, (f d).current = d.current ∧ (f d).lastTick = d.lastTick) :
    Mod.presents e m (m.modDec e f) :=
  ⟨Mod.dec_modDec_keeps DecodeS.current fun d => (hf d).1, Mod.dec_modDec_keeps DecodeS.lastTick fun d => (hf d).2, rfl, rfl⟩

theorem Mod.presents_of_decs {b : Mod} (hd : b.decs = m.decs) (hn : ∀ k, k = 6 ∨ k = 7 → b.get (0x5CC0 + e) k = m.get (0x5CC0 + e) k) :
    Mod.presents e m b := by
  have hdec : b.dec e = m.dec e := by
    unfold Mod.dec
    rw [hd]
  exact ⟨congrArg _ hdec, congrArg _ hdec, congrArg Val.nat (hn 6 (.inl rfl)), congrArg Val.nat (hn 7 (.inr rfl))⟩

theorem Mod.presents_schedulePicture (m : Mod) (T : Nat) (rows : List Row) : Mod.presents e m (m.schedulePicture e T rows) := m.presents_modDec fun _ => ⟨rfl, rfl⟩

theorem Mod.presents_outputPicture (m : Mod) (T : Nat) : Mod.presents e m (m.outputPicture e T) := by
  have hout : Mod.presents e m (m.modDec e fun d => { d with outAt := some T }) := m.presents_modDec fun _ => ⟨rfl, rfl⟩
  unfold Mod.outputPicture
  dsimp only
  refine Mod.presents_trans hout ?_
  generalize m.modDec e (fun d => { d with outAt := some T }) = b
  split
  · exact Mod.presents_refl
  · split
    · split
      · exact Mod.presents_refl
      · exact b.presents_schedulePicture ..
    · split
      · exact Mod.presents_refl
      · split
        · exact b.presents_schedulePicture ..
        · split
          · exact Mod.presents_refl
          · exact b.presents_schedulePicture ..

end

/-- The picture due is presented, or the last one repeated. -/
def Mod.presentDue (m : Mod) (e T : Nat) : Mod :=
  match m.duePicture e T with
  | some p => m.presentNew e T p
  | none => if (m.dec e).current = none then m else m.bump (0x5CC0 + e) 7

/-- A picture is taken from those ready and is the one shown. -/
def DecodeS.showing (d : DecodeS) (p : DecPicture) (T : Nat) (now edge : Nanos) : DecodeS :=
  { d with
    ready := d.ready.filter fun (q : DecPicture) => q.order ≠ p.order
    current := some p
    lastShown := some p
    lastTick := some T
    margins := d.margins ++ [(now, (edge : Int) - p.ended)] }

def Mod.presentShown (m : Mod) (e T : Nat) (p : DecPicture) : Mod :=
  (((m.modDec e fun d => d.showing p T m.now (m.fam.edge T)).bump (0x5CC0 + e) 6).put (0x5C80 + e) 8 T).putZ (0x5C80 + e) 0x0A ((m.fam.edge T : Int) - p.tp)

/-- A picture that completes a recovery ends the concealment. -/
def Mod.endConceal (m : Mod) (e T : Nat) (p : DecPicture) : Mod :=
  if (p.recovers.any fun n => decide ((m.dec e).damagedAt < n)) && m.flag (0x5C80 + e) 3 then
    ((m.modDec e fun d => { d with recovery := none }).putFlag (0x5C80 + e) 3 false).raiseClear 0x5C05 e [0x5C04] [e, T]
  else m

/-- The least margin of the last second is shown. -/
def Mod.leastMargin (m : Mod) (e : Nat) : Mod :=
  m.putZ (0x5C80 + e) 9 (((m.dec e).margins.map (·.2)).foldl min (((m.dec e).margins.map (·.2)).headD 0))

def Mod.showMargins (m : Mod) (e : Nat) (period : Nanos) : Mod :=
  (m.modDec e fun d => { d with margins := d.margins.filter fun (x : Nanos × Int) => m.now ≤ x.1 + period }).leastMargin e

def pictureOctets (rows : List Row) (_ : Unit) : Octets :=
  (List.range 3).flatMap fun q => rows.flatMap fun r => (if q = 0 then r.c0 else if q = 1 then r.c1 else r.c2).flatMap (beOctets 2)

/-- The picture shown goes to the output, and to what snoops on it. -/
def Mod.presentOut (m : Mod) (e T : Nat) (x : Option DecPicture) : Mod :=
  match x with
  | none => m.outputPicture e T
  | some p =>
    ((m.modDec e fun d => { d with presented := d.presented.drop (d.presented.length - 1) ++ [(T, m.pictureRows e p)] }).snoop 9 e 0
      (pictureOctets (m.pictureRows e p)) ⟨true, true, 34⟩ T T).outputPicture e T

section
variable {m : Mod} {e : Nat}

theorem Mod.present_idle (h : isFrameTick m.tick (m.decodeStep e) = false ∨ (m.dec e).outAt = some m.tick) : m.present e = m := by
  unfold Mod.present
  refine if_pos ?_
  obtain h | h := h <;> simp [h]

section
variable (hf : isFrameTick m.tick (m.decodeStep e) = true) (ho : (m.dec e).outAt ≠ some m.tick)
include hf ho

theorem Mod.present_stopped (h : m.decRuns e = false ∨ m.decState e ≠ decDecoding) : m.present e = m.outputPicture e m.tick := by
  unfold Mod.present
  rw [if_neg (by simp [hf, ho])]
  refine if_pos ?_
  obtain h | h := h <;> simp [h]

theorem Mod.present_eq (hr : m.decRuns e = true) (hs : m.decState e = decDecoding) :
    m.present e = ((((m.settleDecode e).markLate e m.tick).presentDue e m.tick).showMargins e second).presentOut e m.tick
      (((((m.settleDecode e).markLate e m.tick).presentDue e m.tick).modDec e fun d =>
        { d with margins := d.margins.filter fun (x : Nanos × Int) => (((m.settleDecode e).markLate e m.tick).presentDue e m.tick).now ≤ x.1 + second }).dec e).current := by
  unfold Mod.present
  rw [if_neg (by simp [hf, ho]), if_neg (by simp [hr, hs])]
  generalize second = period
  rfl

end

section
variable (he : e < 2)
include he

theorem Mod.presents_showMargins (m : Mod) (period : Nanos) : Mod.presents e m (m.showMargins e period) := by
  have hkept : Mod.presents e m (m.modDec e fun d => { d with margins := d.margins.filter fun (x : Nanos × Int) => m.now ≤ x.1 + period }) :=
    m.presents_modDec fun _ => ⟨rfl, rfl⟩
  unfold Mod.showMargins
  refine Mod.presents_trans hkept (Mod.presents_of_decs (Mod.putZ_decs ..) fun k hk => ?_)
  exact Mod.get_putZ_frame _ _ (by omega) (by omega)

theorem Mod.presents_presentOut (m : Mod) (T : Nat) (x : Option DecPicture) : Mod.presents e m (m.presentOut e T x) := by
  have hsnoop (b : Mod) (f : Unit → Octets) : Mod.presents e b (b.snoop 9 e 0 f ⟨true, true, 34⟩ T T) :=
    Mod.presents_of_decs (Mod.snoop_part (p := .decs) _ _ _ _ _ _ _ _ (by decide)) fun k hk => Mod.get_snoop _ _ _ _ _ _ _ _ (by omega) (by omega)
  unfold Mod.presentOut
  split
  · exact m.presents_outputPicture T
  · refine Mod.presents_trans (Mod.presents_trans ?_ (hsnoop _ _)) (Mod.presents_outputPicture _ T)
    exact m.presents_modDec fun _ => ⟨rfl, rfl⟩

theorem Mod.presents_endConceal (m : Mod) (T : Nat) (p : DecPicture) : Mod.presents e m (m.endConceal e T p) := by
  have hmod : Mod.presents e m (m.modDec e fun d => { d with recovery := none }) := m.presents_modDec fun _ => ⟨rfl, rfl⟩
  unfold Mod.endConceal
  split
  · refine Mod.presents_trans hmod (Mod.presents_of_decs ((Mod.raiseClear_decs ..).trans (Mod.putFlag_decs ..)) fun k hk => ?_)
    exact (Mod.get_raiseClear_frame _ _ _ _ _ (.inl (by omega))).trans (Mod.get_putFlag_frame _ _ (by omega) (by omega))
  · exact Mod.presents_refl

theorem Mod.presentNew_shows (hl : e < m.decs.length) (T : Nat) (p : DecPicture) : ((m.presentNew e T p).dec e).current = some p
    ∧ ((m.presentNew e T p).dec e).lastTick = some T ∧ (m.presentNew e T p).n (0x5CC0 + e) 6 = (m.bump (0x5CC0 + e) 6).n (0x5CC0 + e) 6 := by
  have hbump (b : Mod) (hb : b.n (0x5CC0 + e) 6 = m.n (0x5CC0 + e) 6) (hc : (b.dec e).current = some p) (ht : (b.dec e).lastTick = some T) (v : Nat) (z : Int) :
      ((((b.bump (0x5CC0 + e) 6).put (0x5C80 + e) 8 v).putZ (0x5C80 + e) 0x0A z).dec e).current = some p
      ∧ ((((b.bump (0x5CC0 + e) 6).put (0x5C80 + e) 8 v).putZ (0x5C80 + e) 0x0A z).dec e).lastTick = some T
      ∧ (((b.bump (0x5CC0 + e) 6).put (0x5C80 + e) 8 v).putZ (0x5C80 + e) 0x0A z).n (0x5CC0 + e) 6 = (m.bump (0x5CC0 + e) 6).n (0x5CC0 + e) 6 := by
    have hdec : (((b.bump (0x5CC0 + e) 6).put (0x5C80 + e) 8 v).putZ (0x5C80 + e) 0x0A z).dec e = b.dec e := by
      unfold Mod.dec
      rw [Mod.putZ_decs, Mod.put_decs, Mod.bump_decs]
    rw [hdec]
    refine ⟨hc, ht, Eq.trans (congrArg Val.nat ?_) (Mod.n_bump_congr (by omega) hb)⟩
    exact (Mod.get_putZ_frame _ _ (by omega) (by omega)).trans (Mod.get_put_frame _ _ (by omega) (by omega))
  have hdec : (m.modDec e fun d => d.showing p T m.now (m.fam.edge T)).dec e = (m.dec e).showing p T m.now (m.fam.edge T) := Mod.dec_modDec hl
  obtain ⟨hc, ht, h6⟩ := hbump (m.modDec e fun d => d.showing p T m.now (m.fam.edge T)) rfl (congrArg DecodeS.current hdec) (congrArg DecodeS.lastTick hdec) T
    ((m.fam.edge T : Int) - p.tp)
  have heq : m.presentNew e T p = (m.presentShown e T p).endConceal e T p := rfl
  have h := Mod.presents_endConceal he (m.presentShown e T p) T p
  rw [heq]
  exact ⟨h.current.trans hc, h.lastTick.trans ht, h.shown.trans h6⟩

end

section
variable (he : e < 2) (hl : e < m.decs.length) (hf : isFrameTick m.tick (m.decodeStep e) = true) (ho : (m.dec e).outAt ≠ some m.tick)
  (hr : m.decRuns e = true) (hs : m.decState e = decDecoding)
include he hf ho hr hs

/-- The picture chosen stays the one shown. -/
theorem Mod.presents_present : Mod.presents e (((m.settleDecode e).markLate e m.tick).presentDue e m.tick) (m.present e) := by
  rw [Mod.present_eq hf ho hr hs]
  exact Mod.presents_trans (Mod.presents_showMargins he _ _) (Mod.presents_presentOut he _ _ _)

theorem Mod.present_new (hl : e < m.decs.length) {p : DecPicture} (hp : ((m.settleDecode e).markLate e m.tick).duePicture e m.tick = some p) :
    ((m.present e).dec e).current = some p ∧ ((m.present e).dec e).lastTick = some m.tick
      ∧ (m.present e).n (0x5CC0 + e) 6 = (((m.settleDecode e).markLate e m.tick).bump (0x5CC0 + e) 6).n (0x5CC0 + e) 6 := by
  have hshown := Mod.presents_present he hf ho hr hs
  have hlen : e < ((m.settleDecode e).markLate e m.tick).decs.length := by
    rw [Mod.decs_markLate, Mod.decs_settleDecode he hl]
    exact hl
  obtain ⟨hc, ht, h6⟩ := Mod.presentNew_shows he hlen m.tick p
  have hdue : ((m.settleDecode e).markLate e m.tick).presentDue e m.tick = ((m.settleDecode e).markLate e m.tick).presentNew e m.tick p := by
    unfold Mod.presentDue
    rw [hp]
  rw [hdue] at hshown
  exact ⟨hshown.current.trans hc, hshown.lastTick.trans ht, hshown.shown.trans h6⟩

theorem Mod.present_repeated {p : DecPicture} (hp : ((m.settleDecode e).markLate e m.tick).duePicture e m.tick = none)
    (hc : (((m.settleDecode e).markLate e m.tick).dec e).current = some p) : ((m.present e).dec e).current = some p
      ∧ (m.present e).n (0x5CC0 + e) 7 = (((m.settleDecode e).markLate e m.tick).bump (0x5CC0 + e) 7).n (0x5CC0 + e) 7 := by
  have hshown := Mod.presents_present he hf ho hr hs
  have hdue : ((m.settleDecode e).markLate e m.tick).presentDue e m.tick = ((m.settleDecode e).markLate e m.tick).bump (0x5CC0 + e) 7 := by
    unfold Mod.presentDue
    rw [hp]
    exact if_neg (by rw [hc]; exact Option.some_ne_none p)
  have hdec : (((m.settleDecode e).markLate e m.tick).bump (0x5CC0 + e) 7).dec e = ((m.settleDecode e).markLate e m.tick).dec e := by
    unfold Mod.dec
    rw [Mod.bump_decs]
  rw [hdue] at hshown
  exact ⟨hshown.current.trans ((congrArg _ hdec).trans hc), hshown.repeated⟩

end

end

/-! ### A packet of an output -/

/-- A packet leaves on one path, where its port is up. -/
def Mod.decodeLeave (m : Mod) (e : Nat) (seq : Nat) (x : Nanos × Bool × Nat × Srd) (blue : Bool) : Mod :=
  if m.portUp (m.decodePath e blue).logical then
    (m.send (.decodePacket (Fin.ofNat 2 e) (if blue then .blue else .red) (m.decodePath e blue) (m.portMac (m.decodePath e blue).logical)
      (m.n (0x5C40 + e) 0x0D) (m.n (0x5C40 + e) 0x0F) seq x.2.2.1 x.2.1 x.2.2.2)).countSent (m.decodePath e blue).logical 1
        (srdFrame (m.n (0x5C40 + e) 2) (m.n (0x5C40 + e) 3) x.2.2.2.length)
  else m.bump (0x3840 + (m.decodePath e blue).logical) 0x0A

/-- The packet at the head is taken from the queue. -/
def Mod.decodeTaken (m : Mod) (e : Nat) (rest : List (Nanos × Bool × Nat × Srd)) : Mod :=
  m.modDec e fun d => { d with packets := rest, nextSeq := d.nextSeq + 1 }

def Mod.decodeSend (m : Mod) (e : Nat) (seq : Nat) (x : Nanos × Bool × Nat × Srd) : Mod :=
  if !m.entitled x.1 then m
  else if (m.decodeLeave e seq x false).n (0x5C40 + e) 4 = 0 then (m.decodeLeave e seq x false).decodeLeave e seq x true
  else m.decodeLeave e seq x false

section
variable {m : Mod} {e : Nat} {x : Nanos × Bool × Nat × Srd} {rest : List (Nanos × Bool × Nat × Srd)}

theorem Mod.sendDecode_early (h : ∀ y ∈ (m.dec e).packets.head?, m.now < y.1) : m.sendDecode e = m := by
  unfold Mod.sendDecode
  cases hp : (m.dec e).packets with
  | nil => rfl
  | cons y rest =>
    rw [hp] at h
    exact if_pos (h y rfl)

theorem Mod.sendDecode_eq (hp : (m.dec e).packets = x :: rest) (ht : x.1 ≤ m.now) : m.sendDecode e = (m.decodeTaken e rest).decodeSend e (m.dec e).nextSeq x := by
  unfold Mod.sendDecode
  rw [hp]
  exact if_neg (Nat.not_lt.mpr ht)

theorem Mod.decodeLeave_decs (seq : Nat) (blue : Bool) : (m.decodeLeave e seq x blue).decs = m.decs := by
  unfold Mod.decodeLeave
  split
  · exact Mod.countSent_part (p := .decs) _ _ _ _ (by decide)
  · exact Mod.bump_decs ..

theorem Mod.decodeSend_decs (seq : Nat) : (m.decodeSend e seq x).decs = m.decs := by
  unfold Mod.decodeSend
  split
  · rfl
  · split
    · exact (Mod.decodeLeave_decs ..).trans (Mod.decodeLeave_decs ..)
    · exact Mod.decodeLeave_decs ..

/-- What has gone out stays so; on a port that is up the packet does. -/
theorem Mod.decodeLeave_sends (seq : Nat) (blue : Bool) : (∀ o ∈ m.out, o ∈ (m.decodeLeave e seq x blue).out)
    ∧ (m.portUp (m.decodePath e blue).logical = true →
      Output.decodePacket (Fin.ofNat 2 e) (if blue then .blue else .red) (m.decodePath e blue) (m.portMac (m.decodePath e blue).logical)
        (m.n (0x5C40 + e) 0x0D) (m.n (0x5C40 + e) 0x0F) seq x.2.2.1 x.2.1 x.2.2.2 ∈ (m.decodeLeave e seq x blue).out) := by
  unfold Mod.decodeLeave
  split
  · rw [show (Mod.countSent _ _ 1 _).out = _ from Mod.countSent_part (p := .out) _ _ _ _ (by decide)]
    exact ⟨fun o ho => List.mem_append_left _ ho, fun _ => List.mem_append_right _ (List.mem_singleton_self _)⟩
  · next hd =>
    refine ⟨fun o ho => ?_, fun h => absurd h hd⟩
    rw [Mod.bump_out]
    exact ho

/-- A packet on the first path moves only the counts of its port. -/
theorem Mod.get_decodeLeave (seq : Nat) {blue : Bool} (hport : (m.decodePath e blue).logical < 32) {j k : Nat}
    (hk : k < 256) (h : k ≠ 2 ∧ k ≠ 0x0A ∧ k ≠ 0x14 ∨ 0x3860 ≤ j) : (m.decodeLeave e seq x blue).get j k = m.get j k := by
  unfold Mod.decodeLeave
  generalize (m.decodePath e blue).logical = port at hport ⊢
  split
  · unfold Mod.countSent
    rw [Mod.get_count_frame (i := 0x3840 + port) _ _ (by omega) (by omega), Mod.get_bump_frame _ (by omega) (by omega)]
    rfl
  · exact Mod.get_bump_frame _ (by omega) (by omega)

/-- A packet's going leaves what the packets of the other path are made of. -/
theorem Mod.decodeLeave_keeps (seq : Nat) {blue : Bool} (hport : (m.decodePath e blue).logical < 32) (blue' : Bool) (he : e < 2) :
    (m.decodeLeave e seq x blue).decodePath e blue' = m.decodePath e blue' ∧ (∀ p, (m.decodeLeave e seq x blue).portUp p = m.portUp p)
      ∧ (∀ p, (m.decodeLeave e seq x blue).portMac p = m.portMac p)
      ∧ ∀ k, k = 4 ∨ k = 0x0D ∨ k = 0x0F → (m.decodeLeave e seq x blue).n (0x5C40 + e) k = m.n (0x5C40 + e) k := by
  have hn {j k : Nat} (hk : k < 256) (h : k ≠ 2 ∧ k ≠ 0x0A ∧ k ≠ 0x14 ∨ 0x3860 ≤ j) : (m.decodeLeave e seq x blue).n j k = m.n j k :=
    congrArg Val.nat (Mod.get_decodeLeave seq hport hk h)
  have hfour (j : Nat) {i : Nat} (hi : i < 250) (h : 0x3860 ≤ j) : (m.decodeLeave e seq x blue).n j i = m.n j i
      ∧ (m.decodeLeave e seq x blue).n j (i + 1) = m.n j (i + 1) ∧ (m.decodeLeave e seq x blue).n j (i + 2) = m.n j (i + 2)
      ∧ (m.decodeLeave e seq x blue).n j (i + 3) = m.n j (i + 3) :=
    ⟨hn (by omega) (.inr h), hn (by omega) (.inr h), hn (by omega) (.inr h), hn (by omega) (.inr h)⟩
  refine ⟨?_, fun p => ?_, fun p => ?_, fun k hk => hn (by omega) (.inr (by omega))⟩
  · obtain ⟨h0, h1, h2, h3⟩ := hfour (0x5C40 + e) (i := if blue' then 9 else 5) (by split <;> decide) (by omega)
    unfold Mod.decodePath
    dsimp only
    rw [h0, h1, h2, h3]
  · unfold Mod.portUp
    rw [hn (by omega) (.inl (by omega))]
  · unfold Mod.portMac
    rw [hn (by decide) (.inl (by decide))]

/-- The packet leaves on each path of the output whose port is up. -/
theorem Mod.decodeSend_sends (seq : Nat) (hx : m.entitled x.1 = true) (hport : (m.decodePath e false).logical < 32) (he : e < 2) {blue : Bool}
    (hblue : blue = true → m.n (0x5C40 + e) 4 = 0) (hup : m.portUp (m.decodePath e blue).logical = true) :
    Output.decodePacket (Fin.ofNat 2 e) (if blue then .blue else .red) (m.decodePath e blue) (m.portMac (m.decodePath e blue).logical)
      (m.n (0x5C40 + e) 0x0D) (m.n (0x5C40 + e) 0x0F) seq x.2.2.1 x.2.1 x.2.2.2 ∈ (m.decodeSend e seq x).out := by
  obtain ⟨hpath, hportUp, hmac, hn⟩ := Mod.decodeLeave_keeps (x := x) seq hport true he
  unfold Mod.decodeSend
  rw [if_neg (by rw [hx]; decide), hn 4 (by decide)]
  cases blue with
  | false =>
    have hred := (Mod.decodeLeave_sends (x := x) seq false).2 hup
    split
    · exact (Mod.decodeLeave_sends seq true).1 _ hred
    · exact hred
  | true =>
    have hsent := (Mod.decodeLeave_sends (m := m.decodeLeave e seq x false) (e := e) (x := x) seq true).2
    rw [hpath, hportUp, hmac, hn 0x0D (by decide), hn 0x0F (by decide)] at hsent
    rw [if_pos (hblue rfl)]
    exact hsent hup

end

/-- Settles O24: a decode's start by what waits and its tick, its end by what was decoded, a picture by whether one is due, a packet by its time. -/
theorem decodeEnginesDecodeAndPresent : Obligations.DecodeEnginesDecodeAndPresent := by
  unfold Obligations.DecodeEnginesDecodeAndPresent
  intro s t e hs hl m d
  have he := e.isLt
  have hb : m.rebooting = false := hs.2
  refine ⟨fun hr => ?_, fun hr hnone => ?_, fun hnone => ?_, fun y hy => ?_, fun hidle => ?_, fun hf ho => ⟨fun hstop => ?_, fun hr hd => ?_⟩,
    fun hearly => ?_, fun y rest hp ht => ?_⟩
  · exact does_act (g := fun m => m.decodeStart e.val) hs rfl (if_pos (by rw [hr]; rfl)) hb
  · have hstart : m.decodeStart e.val = (m.release e.val).settleFrom e.val (2 * ((m.release e.val).dec e.val).waiting.length + 1) := if_neg (by rw [hr]; decide)
    have hdrains := m.drains_release he
    have hlen : e.val < (m.release e.val).decs.length := hdrains.engines.symm ▸ hl
    have hbr : (m.release e.val).rebooting = false := (Mod.release_part (p := .rebooting) _ _ (by decide)).trans hb
    have htick : (m.release e.val).tick = m.tick := Mod.release_part (p := .tick) _ _ (by decide)
    have hsize : (m.release e.val).n (0x5C00 + e.val) 6 = m.n (0x5C00 + e.val) 6 :=
      hdrains.n (by decide) (by omega) (by omega) (by omega) (by omega)
    refine ⟨fun hw => ?_, fun a rest hw => ?_⟩
    · exact does_act (g := fun m => m.decodeStart e.val) hs rfl (hstart.trans (Mod.settleFrom_none _ hnone hw)) hbr
    · refine ⟨fun hearly => ?_, fun hdue hends => ?_⟩
      · exact does_act (g := fun m => m.decodeStart e.val) hs rfl (hstart.trans (Mod.settleFrom_early hnone hw _ (htick.symm ▸ hearly))) hbr
      · refine completes_act (g := fun m => m.decodeStart e.val) rfl hs ?_ fun _ h => h
        show ((m.decodeStart e.val).dec e.val).waiting = rest ∧ ∃ y, ((m.decodeStart e.val).dec e.val).decoding = some y ∧ _
        rw [hstart, ← hsize]
        exact Mod.settleFrom_takes hnone hw hlen _ (htick.symm ▸ hdue) (htick.symm ▸ hsize.symm ▸ hends)
  · refine does_act (g := fun m => m.decodeEnd e.val) hs rfl ?_ hb
    unfold Mod.decodeEnd
    rw [show (m.dec e.val).decoding = none from hnone]
  · have hend : m.decodeEnd e.val = m.endPicture e.val y (min m.now (m.fam.edge y.ends)) := by
      unfold Mod.decodeEnd
      rw [show (m.dec e.val).decoding = some y from hy]
    refine completes_act (g := fun m => m.decodeEnd e.val) rfl hs ?_ fun _ h => h
    show ((m.decodeEnd e.val).dec e.val).decoding = none ∧ ((m.decodeEnd e.val).dec e.val).count = _ ∧ _ ∈ ((m.decodeEnd e.val).dec e.val).decoded
      ∧ (m.decodeEnd e.val).n _ 5 = _ ∧ (_ → (m.decodeEnd e.val).flag _ 3 = true ∧ (m.decodeEnd e.val).n _ 9 = _)
    rw [hend]
    exact (Mod.endPicture_shows he hl _).2
  · exact does_act (g := fun m => m.present e.val) hs rfl (Mod.present_idle hidle) hb
  · refine does_act (g := fun m => m.present e.val) hs rfl (Mod.present_stopped hf ho hstop) ?_
    exact (Mod.outputPicture_part (p := .rebooting) _ _ _ (by decide)).trans hb
  · refine ⟨fun p hp => ?_, fun p hp hc => ?_⟩
    · exact completes_act (g := fun m => m.present e.val) rfl hs (Mod.present_new he hf ho hr hd hl hp) fun _ h => h
    · exact completes_act (g := fun m => m.present e.val) rfl hs (Mod.present_repeated he hf ho hr hd hp hc) fun _ h => h
  · exact does_act (g := fun m => m.sendDecode e.val) hs rfl (Mod.sendDecode_early hearly) hb
  · refine completes_act (g := fun m => m.sendDecode e.val) rfl hs ?_ fun _ h => h
    show ((m.sendDecode e.val).dec e.val).packets = rest ∧ ((m.sendDecode e.val).dec e.val).nextSeq = _ ∧ (_ → _ → ∀ blue : Bool, _ → _ → _ ∈ (m.sendDecode e.val).out)
    have hdec : ((m.decodeTaken e.val rest).decodeSend e.val d.nextSeq y).dec e.val = { d with packets := rest, nextSeq := d.nextSeq + 1 } := by
      refine Eq.trans ?_ (Mod.dec_modDec (f := fun d : DecodeS => { d with packets := rest, nextSeq := d.nextSeq + 1 }) hl)
      unfold Mod.dec
      rw [Mod.decodeSend_decs]
      rfl
    have he2 : Fin.ofNat 2 e.val = e := Fin.ofNat_val_eq_self e
    rw [Mod.sendDecode_eq hp ht, hdec]
    refine ⟨rfl, rfl, fun hx hport blue hblue hup => ?_⟩
    have hsent := Mod.decodeSend_sends (m := m.decodeTaken e.val rest) (x := y) d.nextSeq hx hport he hblue hup
    rw [he2] at hsent
    exact hsent

end Sys2Proof.Machine
end

section
/-! SUPPORT. Slices replaced in the courses being coded: CTUs taken and cut off (R80, R97, R98, R135). -/

namespace Sys2Proof.Machine

/-! ### Slices of a coded course -/

theorem nth_map_of_lt {α β : Type} [Inhabited α] [Inhabited β] {f : α → β} {l : List α} {i : Nat} (h : i < l.length) : nth (l.map f) i = f (nth l i) := by
  unfold nth
  simp [List.getD_eq_getElem?_getD, h]

theorem nth_mem {α : Type} [Inhabited α] {l : List α} {i : Nat} (h : i < l.length) : nth l i ∈ l := by
  unfold nth
  rw [List.getD_eq_getElem _ _ h]
  exact List.getElem_mem h

/-- A slice replaces the one of its tile. -/
def Coding.withSlice (c : Coding) (y : SliceS) : Coding := { c with slices := c.slices.map fun z => if z.tile = y.tile then y else z }

section
variable {c : Coding} {y : SliceS} {tile : Nat}

theorem Coding.length_withSlice : (c.withSlice y).slices.length = c.slices.length := List.length_map ..

theorem Coding.tiles_withSlice : (c.withSlice y).slices.map (fun x => x.tile) = c.slices.map fun x => x.tile := by
  unfold Coding.withSlice
  dsimp only
  rw [List.map_map]
  refine List.map_congr_left fun z _ => ?_
  show (if z.tile = y.tile then y else z).tile = z.tile
  split
  · next h => exact h.symm
  · rfl

theorem Coding.mem_withSlice {x : SliceS} (hx : x ∈ c.slices) (ht : x.tile = y.tile) : y ∈ (c.withSlice y).slices :=
  List.mem_map.mpr ⟨x, hx, if_pos ht⟩

/-- Where the slices stand in the order of their tiles, each is found at its own. -/
theorem Coding.tile_nth (h : c.slices.map (fun x => x.tile) = List.range c.slices.length) (ht : tile < c.slices.length) : (nth c.slices tile).tile = tile := by
  rw [← nth_map_of_lt (f := fun x : SliceS => x.tile) ht, h]
  unfold nth
  simp [List.getD_eq_getElem?_getD, ht]

end

/-! ### A rendition's courses being coded -/

/-- A course of a frame is being coded whose slices stand in order, one of them for the tile. -/
def RendS.codes (s : RendS) (frame tile : Nat) : Prop :=
  ∃ c, s.coding.find? (fun c => c.frame = frame) = some c ∧ c.slices.map (fun x => x.tile) = List.range c.slices.length ∧ tile < c.slices.length

/-- The course of a frame that is being coded, and its slice of a tile. -/
def RendS.codingOf (s : RendS) (frame : Nat) : Coding := (s.coding.find? fun c => c.frame = frame).getD default

def RendS.sliceOf (s : RendS) (frame tile : Nat) : SliceS := nth (s.codingOf frame).slices tile

section
variable {s : RendS} {f frame tile : Nat} {y : SliceS}

theorem RendS.setSlice_coding : (s.setSlice f y).coding = s.coding.map fun c => if c.frame = f then c.withSlice y else c := rfl

theorem RendS.find?_setSlice : (s.setSlice f y).coding.find? (fun c => c.frame = frame)
    = (s.coding.find? fun c => c.frame = frame).map fun c => if c.frame = f then c.withSlice y else c := by
  have hframe : ((fun c : Coding => decide (c.frame = frame)) ∘ fun c => if c.frame = f then c.withSlice y else c) = fun c => decide (c.frame = frame) := by
    funext c
    show decide ((if c.frame = f then c.withSlice y else c).frame = frame) = _
    split <;> rfl
  rw [RendS.setSlice_coding, List.find?_map, hframe]

theorem RendS.frame_of_find {c : Coding} (h : s.coding.find? (fun c => c.frame = frame) = some c) : c.frame = frame := by
  simpa using List.find?_some h

theorem RendS.codes_setSlice (h : s.codes frame tile) : (s.setSlice f y).codes frame tile := by
  obtain ⟨c, hc, horder, ht⟩ := h
  refine ⟨_, by rw [RendS.find?_setSlice, hc]; rfl, ?_⟩
  dsimp only
  split
  · rw [Coding.tiles_withSlice, Coding.length_withSlice]
    exact ⟨horder, ht⟩
  · exact ⟨horder, ht⟩

theorem RendS.endTick_setSlice : ((s.setSlice f y).codingOf frame).endTick = (s.codingOf frame).endTick := by
  unfold RendS.codingOf
  rw [RendS.find?_setSlice]
  cases s.coding.find? fun c => c.frame = frame with
  | none => rfl
  | some c =>
    show (if c.frame = f then c.withSlice y else c).endTick = c.endTick
    split <;> rfl

theorem RendS.sliceOf_of_find {c : Coding} (h : s.coding.find? (fun c => c.frame = frame) = some c) : s.sliceOf frame tile = nth c.slices tile := by
  unfold RendS.sliceOf RendS.codingOf
  rw [h]
  rfl

theorem RendS.tile_sliceOf (h : s.codes frame tile) : (s.sliceOf frame tile).tile = tile := by
  obtain ⟨c, hc, horder, ht⟩ := h
  rw [RendS.sliceOf_of_find hc]
  exact Coding.tile_nth horder ht

theorem RendS.sliceOf_setSlice_same (h : s.codes frame y.tile) : (s.setSlice frame y).sliceOf frame y.tile = y := by
  obtain ⟨c, hc, horder, ht⟩ := h
  have hfind : (s.setSlice frame y).coding.find? (fun c => c.frame = frame) = some (c.withSlice y) := by
    rw [RendS.find?_setSlice, hc]
    exact congrArg some (if_pos (RendS.frame_of_find hc))
  rw [RendS.sliceOf_of_find hfind]
  exact (nth_map_of_lt ht).trans (if_pos (Coding.tile_nth horder ht))

theorem RendS.sliceOf_setSlice_other (h : s.codes frame tile) (hne : frame ≠ f ∨ tile ≠ y.tile) :
    (s.setSlice f y).sliceOf frame tile = s.sliceOf frame tile := by
  obtain ⟨c, hc, horder, ht⟩ := h
  have hfind : (s.setSlice f y).coding.find? (fun c => c.frame = frame) = some (if c.frame = f then c.withSlice y else c) := by
    rw [RendS.find?_setSlice, hc]
    rfl
  rw [RendS.sliceOf_of_find hfind, RendS.sliceOf_of_find hc]
  split
  · next hf =>
    have hframe := RendS.frame_of_find hc
    refine (nth_map_of_lt ht).trans (if_neg ?_)
    rw [Coding.tile_nth horder ht]
    omega
  · rfl

end

/-! ### What a CTU taken and a slice cut off come to -/

section
variable {x : SliceS} {site : Site}

theorem SliceS.exhaust_shows (u k : Nat) (x : SliceS) : (SliceS.exhaust site u k x).done = x.done + k ∧ (SliceS.exhaust site u k x).ctus = x.ctus
    ∧ (SliceS.exhaust site u k x).tile = x.tile ∧ (SliceS.exhaust site u k x).lateCount = x.lateCount := by
  induction k generalizing x with
  | zero => exact ⟨rfl, rfl, rfl, rfl⟩
  | succ k ih =>
    obtain ⟨hdone, hctus, htile, hlate⟩ := ih (x.push (site.exhaustForm x.before) (min u (Config.exhaustedBits (site.at x.before))) (site.hits x.done))
    exact ⟨hdone.trans (Nat.add_right_comm x.done 1 k), hctus, htile, hlate⟩

theorem SliceS.cutoff_tile (n : Nat) (x : SliceS) : (SliceS.cutoff site n x).tile = x.tile := by
  induction n generalizing x with
  | zero => rfl
  | succ n ih =>
    unfold SliceS.cutoff
    dsimp only
    split
    · rfl
    · split
      · exact ih _
      · exact (SliceS.exhaust_shows _ _ _).2.2.1

/-- Substitution of all that are left ends the slice, and counts them. -/
theorem SliceS.cutoff_shows (n : Nat) (x : SliceS) (h : x.done + n = x.ctus) : (SliceS.cutoff site n x).done = x.ctus ∧ (SliceS.cutoff site n x).ctus = x.ctus
    ∧ (SliceS.cutoff site n x).lateCount = x.lateCount + n := by
  induction n generalizing x with
  | zero => exact ⟨h, rfl, rfl⟩
  | succ n ih =>
    unfold SliceS.cutoff
    dsimp only
    rw [if_neg (show x.done ≠ x.ctus by omega)]
    split
    · obtain ⟨hdone, hctus, hlate⟩ := ih
        { x.push (site.lateForm x.before) (Config.substituteBits (site.at x.before)) (site.hits x.done) with lateCount := x.lateCount + 1 }
        (show x.done + 1 + n = x.ctus by omega)
      exact ⟨hdone, hctus, hlate.trans (Nat.add_right_comm x.lateCount 1 n)⟩
    · obtain ⟨hdone, hctus, -, -⟩ := SliceS.exhaust_shows (site := site) (ctuFloor site.cfg.rung) (x.ctus - x.done) x
      refine ⟨hdone.trans (by omega), hctus, ?_⟩
      show x.lateCount + (x.ctus - x.done) = _
      omega

/-- What R135 judges a CTU by. -/
def SliceS.ctuBits (x : SliceS) (site : Site) : Nat :=
  if x.holes.contains x.done then Config.substituteBits (site.at x.before) else Config.ctuBits (site.at x.before)

theorem SliceS.take_eq (now : Nanos) : x.take site now = if x.done = x.ctus then x
    else if x.keeps (ctuFloor site.cfg.rung) (x.ctuBits site) && x.holes.contains x.done then
      { x.push (site.lateForm x.before) (x.ctuBits site) (site.hits x.done) with lateCount := x.lateCount + 1, lastAt := now }
    else if x.keeps (ctuFloor site.cfg.rung) (x.ctuBits site) then
      { x.push (.coded (site.code x.before)) (x.ctuBits site) (site.code x.before).missed with lastAt := now }
    else
      { SliceS.exhaust site (ctuFloor site.cfg.rung) (x.ctus - x.done) x with
        exhausted := true, exhCount := x.exhCount + (x.ctus - x.done), lastAt := now } := rfl

theorem SliceS.take_tile (now : Nanos) : (x.take site now).tile = x.tile := by
  rw [SliceS.take_eq]
  split
  · rfl
  · split
    · rfl
    · split
      · rfl
      · exact (SliceS.exhaust_shows _ _ _).2.2.1

/-- A CTU that passes the test of R135 is kept; one that does not exhausts its slice. -/
theorem SliceS.take_shows (now : Nanos) (h : x.done < x.ctus) (hx : x.exhausted = false) :
    if x.keeps (ctuFloor site.cfg.rung) (x.ctuBits site) then (x.take site now).done = x.done + 1 ∧ (x.take site now).bits = x.bits + x.ctuBits site
      ∧ (x.take site now).exhausted = false
    else (x.take site now).done = x.ctus ∧ (x.take site now).exhausted = true := by
  rw [SliceS.take_eq, if_neg (show x.done ≠ x.ctus by omega)]
  generalize x.ctuBits site = bits
  cases x.keeps (ctuFloor site.cfg.rung) bits with
  | true =>
    cases x.holes.contains x.done with
    | true => exact ⟨rfl, rfl, hx⟩
    | false => exact ⟨rfl, rfl, hx⟩
  | false =>
    refine ⟨?_, rfl⟩
    have := (SliceS.exhaust_shows (site := site) (ctuFloor site.cfg.rung) (x.ctus - x.done) x).1
    exact this.trans (by omega)

end

/-! ### The module's courses being coded -/

section
variable {m : Mod} {r r' : Nat}

theorem Mod.rend_of_part {a b : Mod} (h : b.part .rends = a.part .rends) (r : Nat) : b.rend r = a.rend r := by
  have h : b.rends = a.rends := h
  unfold Mod.rend
  rw [h]

theorem Mod.coding_modRend {f : RendS → RendS} (hf : (f default).coding = (default : RendS).coding) :
    ((m.modRend r f).rend r').coding = if r' = r then (f (m.rend r)).coding else (m.rend r').coding := by
  unfold Mod.rend Mod.modRend
  dsimp only
  split
  · next h =>
    subst h
    by_cases hlt : r' < m.rends.length
    · rw [nth_modify _ f hlt]
    · rw [List.modify_eq_self (Nat.not_lt.mp hlt)]
      have hnone : nth m.rends r' = default := by
        unfold nth
        simp [List.getD_eq_getElem?_getD, hlt]
      rw [hnone, hf]
  · next h => rw [nth_modify_ne _ f (Ne.symm h)]

/-- A picture's change leaves its courses. -/
theorem Mod.coding_modPic (frame : Nat) (f : PicS → PicS) : ((m.modPic r frame f).rend r').coding = (m.rend r').coding := by
  unfold Mod.modPic
  rw [Mod.coding_modRend rfl]
  split
  · next h => rw [h]; rfl
  · rfl

theorem Mod.coding_referenceError (frame k : Nat) : ((m.referenceError r frame k).rend r').coding = (m.rend r').coding := by
  unfold Mod.referenceError
  dsimp only
  split
  · rfl
  · have hcount : ((m.count (0x5100 + r) 5 k).rend r') = m.rend r' := Mod.rend_of_part (Mod.count_part _ _ _ _ (by decide)) r'
    split
    · rw [Mod.rend_of_part (Mod.raise_part _ _ _ _ (by decide)) r', Mod.coding_modPic, hcount]
    · rw [Mod.coding_modPic, hcount]

/-- A slice cut off replaces the one of its tile. -/
theorem Mod.coding_cutSlice (c : Coding) (x : SliceS) : ((m.cutSlice r c x).rend r').coding
    = if r' = r then ((m.rend r).setSlice c.frame (SliceS.cutoff (m.site r c x.tile) (x.ctus - x.done) x)).coding else (m.rend r').coding := by
  unfold Mod.cutSlice
  dsimp only
  generalize m.site r c x.tile = site
  rw [Mod.rend_of_part (Mod.countLateCtus_part _ _ _ _ _ _ (by decide)) r', Mod.coding_referenceError, Mod.rend_of_part (Mod.drawN_part _ _ (by decide)) r',
    Mod.coding_modRend rfl]
  rfl

/-- A CTU taken changes the slice of its tile. -/
theorem Mod.coding_takeCtu (c : Coding) (x : SliceS) :
    ((m.takeCtu r c x).rend r).coding = ((m.rend r).setSlice c.frame (x.take (m.site r c x.tile) m.now)).coding := by
  have hset (y : SliceS) : ((m.modRend r fun s => s.setSlice c.frame y).rend r).coding = ((m.rend r).setSlice c.frame y).coding := by
    rw [Mod.coding_modRend rfl, if_pos rfl]
  have hlate (a : Mod) (n l p : Nat) : (a.countLateCtus r c p n l).rend r = a.rend r := Mod.rend_of_part (Mod.countLateCtus_part _ _ _ _ _ _ (by decide)) r
  have hcount (a : Mod) (k : Nat) : (a.count (0x5500 + r) 7 k).rend r = a.rend r := Mod.rend_of_part (Mod.count_part _ _ _ _ (by decide)) r
  have hbump (a : Mod) : (a.bump (0x5500 + r) 6).rend r = a.rend r := Mod.rend_of_part (Mod.bump_part _ _ _ (by decide)) r
  have hraise (a : Mod) (period : Nanos) (n T k : Nat) (l : List Nat) : ((a.raiseLimitedBy 0x5010 r period n l).countIntraLost r T k).rend r = a.rend r :=
    (Mod.rend_of_part (Mod.countIntraLost_part _ _ _ _ (by decide)) r).trans (Mod.rend_of_part (Mod.raiseLimitedBy_part _ _ _ _ _ _ (by decide)) r)
  unfold Mod.takeCtu
  dsimp only
  generalize m.site r c x.tile = site
  split
  · rw [hraise]
    split
    · rw [hbump, hcount, hlate, Mod.coding_referenceError, hset]
    · rw [hcount, hlate, Mod.coding_referenceError, hset]
  · rw [hlate, Mod.coding_referenceError, hset]

end

/-! ### Tasks cut off -/

/-- A slice finished by substitution: those left of it counted as late. -/
def SliceS.cutFrom (x y : SliceS) : Prop := y.done = y.ctus ∧ y.lateCount = x.lateCount + (x.ctus - x.done)

/-- The slice of a task. -/
def Mod.sliceOf (m : Mod) (z : LaneTask) : SliceS := (m.rend z.r).sliceOf z.frame z.tile

/-- A task is cut off. -/
def Mod.cutTask (m : Mod) (z : LaneTask) : Mod :=
  match (m.rend z.r).coding.find? fun c => c.frame = z.frame with
  | none => m
  | some c => m.cutSlice z.r c (nth c.slices z.tile)

/-- Of a module, from another on: the courses of the tasks are coded, and the slice of each is as it was or finished by substitution. -/
structure Mod.cuts (tasks : List LaneTask) (a b : Mod) : Prop where
  codes : ∀ z ∈ tasks, (b.rend z.r).codes z.frame z.tile
  endTick : ∀ z ∈ tasks, ((b.rend z.r).codingOf z.frame).endTick = ((a.rend z.r).codingOf z.frame).endTick
  slice : ∀ z ∈ tasks, b.sliceOf z = a.sliceOf z ∨ (a.sliceOf z).cutFrom (b.sliceOf z)

section
variable {tasks : List LaneTask} {a b : Mod}

theorem Mod.cutTask_eq {z : LaneTask} {c : Coding} (h : (b.rend z.r).coding.find? (fun c => c.frame = z.frame) = some c) :
    b.cutTask z = b.cutSlice z.r c (nth c.slices z.tile) := by
  unfold Mod.cutTask
  rw [h]

theorem RendS.of_coding {s s' : RendS} (h : s'.coding = s.coding) (frame tile : Nat) : (s'.codes frame tile ↔ s.codes frame tile)
    ∧ s'.codingOf frame = s.codingOf frame ∧ s'.sliceOf frame tile = s.sliceOf frame tile := by
  unfold RendS.sliceOf RendS.codingOf RendS.codes
  rw [h]
  exact ⟨Iff.rfl, rfl, rfl⟩

section
variable (hleft : ∀ z ∈ tasks, (a.sliceOf z).done ≤ (a.sliceOf z).ctus)
include hleft

/-- A task cut off: its slice is finished, the others stand. -/
theorem Mod.cuts_cutTask (h : Mod.cuts tasks a b) {z : LaneTask} (hz : z ∈ tasks) : Mod.cuts tasks a (b.cutTask z)
    ∧ (a.sliceOf z).cutFrom ((b.cutTask z).sliceOf z) ∧ ∀ y ∈ tasks, (a.sliceOf y).cutFrom (b.sliceOf y) → (a.sliceOf y).cutFrom ((b.cutTask z).sliceOf y) := by
  obtain ⟨c, hc, horder, ht⟩ := h.codes z hz
  have hslice : nth c.slices z.tile = b.sliceOf z := (RendS.sliceOf_of_find hc).symm
  have htile : (b.sliceOf z).tile = z.tile := RendS.tile_sliceOf (h.codes z hz)
  have hcut : (a.sliceOf z).cutFrom (SliceS.cutoff (b.site z.r c z.tile) ((b.sliceOf z).ctus - (b.sliceOf z).done) (b.sliceOf z)) := by
    obtain hsame | hdone := h.slice z hz
    · have hle := hleft z hz
      rw [hsame]
      obtain ⟨hdone, hctus, hlate⟩ := SliceS.cutoff_shows (site := b.site z.r c z.tile) ((a.sliceOf z).ctus - (a.sliceOf z).done) (a.sliceOf z) (by omega)
      exact ⟨hdone.trans hctus.symm, hlate⟩
    · rw [hdone.1, Nat.sub_self]
      exact hdone
  have hcutTile : (SliceS.cutoff (b.site z.r c z.tile) ((b.sliceOf z).ctus - (b.sliceOf z).done) (b.sliceOf z)).tile = z.tile :=
    (SliceS.cutoff_tile _ _).trans htile
  have hcoding (r : Nat) : ((b.cutTask z).rend r).coding = if r = z.r then
      ((b.rend z.r).setSlice z.frame (SliceS.cutoff (b.site z.r c z.tile) ((b.sliceOf z).ctus - (b.sliceOf z).done) (b.sliceOf z))).coding
      else (b.rend r).coding := by
    rw [Mod.cutTask_eq hc, Mod.coding_cutSlice, hslice, htile, RendS.frame_of_find hc]
  generalize SliceS.cutoff (b.site z.r c z.tile) ((b.sliceOf z).ctus - (b.sliceOf z).done) (b.sliceOf z) = y at hcut hcutTile hcoding
  have hstands {k : LaneTask} (hk : k ∈ tasks) : ((b.cutTask z).rend k.r).codes k.frame k.tile
      ∧ (((b.cutTask z).rend k.r).codingOf k.frame).endTick = ((b.rend k.r).codingOf k.frame).endTick
      ∧ ((b.cutTask z).sliceOf k = b.sliceOf k ∨ (b.cutTask z).sliceOf k = y ∧ a.sliceOf k = a.sliceOf z) := by
    have hcodes := h.codes k hk
    by_cases hr : k.r = z.r
    · obtain ⟨hset, hcodingOf, hsliceOf⟩ := RendS.of_coding ((hcoding k.r).trans (if_pos hr)) k.frame k.tile
      rw [hr] at hcodes
      have hend : (((b.cutTask z).rend k.r).codingOf k.frame).endTick = ((b.rend k.r).codingOf k.frame).endTick := by
        rw [hcodingOf, RendS.endTick_setSlice, hr]
      refine ⟨hset.mpr (RendS.codes_setSlice hcodes), hend, ?_⟩
      by_cases hne : k.frame ≠ z.frame ∨ k.tile ≠ y.tile
      · refine .inl (hsliceOf.trans ((RendS.sliceOf_setSlice_other hcodes hne).trans ?_))
        unfold Mod.sliceOf
        rw [hr]
      · obtain ⟨hframe, htile⟩ : k.frame = z.frame ∧ k.tile = y.tile := by omega
        refine .inr ⟨hsliceOf.trans ?_, ?_⟩
        · rw [hframe, htile]
          exact RendS.sliceOf_setSlice_same (by rw [← hframe, ← htile]; exact hcodes)
        · unfold Mod.sliceOf
          rw [hr, hframe, htile, hcutTile]
    · obtain ⟨hset, hcodingOf, hsliceOf⟩ := RendS.of_coding ((hcoding k.r).trans (if_neg hr)) k.frame k.tile
      exact ⟨hset.mpr hcodes, congrArg _ hcodingOf, .inl hsliceOf⟩
  have hsame : (b.cutTask z).sliceOf z = y := by
    have hset := (RendS.of_coding ((hcoding z.r).trans (if_pos rfl)) z.frame z.tile).2.2
    have hcodes := h.codes z hz
    rw [← hcutTile] at hset hcodes
    have hy := RendS.sliceOf_setSlice_same hcodes
    unfold Mod.sliceOf
    rw [← hcutTile]
    exact hset.trans hy
  have hkept {k : LaneTask} (hk : k ∈ tasks) (hc : (a.sliceOf k).cutFrom (b.sliceOf k)) : (a.sliceOf k).cutFrom ((b.cutTask z).sliceOf k) := by
    obtain hold | ⟨hnew, heq⟩ := (hstands hk).2.2
    · rw [hold]
      exact hc
    · rw [hnew, heq]
      exact hcut
  refine ⟨⟨fun k hk => (hstands hk).1, fun k hk => (hstands hk).2.1.trans (h.endTick k hk), fun k hk => ?_⟩, hsame.symm ▸ hcut, fun k hk hc => hkept hk hc⟩
  obtain hold | ⟨hnew, heq⟩ := (hstands hk).2.2
  · rw [hold]
    exact h.slice k hk
  · rw [hnew, heq]
    exact .inr hcut

/-- Every task of a list is cut off. -/
theorem Mod.cuts_each {l : List LaneTask} (hl : ∀ z ∈ l, z ∈ tasks) (h : Mod.cuts tasks a b) : Mod.cuts tasks a (b.each l fun m z => m.cutTask z)
    ∧ (∀ z ∈ l, (a.sliceOf z).cutFrom ((b.each l fun m z => m.cutTask z).sliceOf z))
    ∧ ∀ y ∈ tasks, (a.sliceOf y).cutFrom (b.sliceOf y) → (a.sliceOf y).cutFrom ((b.each l fun m z => m.cutTask z).sliceOf y) := by
  induction l generalizing b with
  | nil => exact ⟨h, fun _ hz => absurd hz List.not_mem_nil, fun _ _ hc => hc⟩
  | cons z l ih =>
    obtain ⟨hcuts, hcut, hkept⟩ := Mod.cuts_cutTask hleft h (hl z List.mem_cons_self)
    obtain ⟨hall, hdone, hstay⟩ := ih (fun y hy => hl y (List.mem_cons_of_mem _ hy)) hcuts
    refine ⟨hall, fun y hy => ?_, fun y hy hc => hstay y hy (hkept y hy hc)⟩
    obtain rfl | hy := List.mem_cons.mp hy
    · exact hstay y (hl y List.mem_cons_self) hcut
    · exact hdone y hy

end

theorem Mod.cutTasks_eq (m : Mod) (l : List LaneTask) : m.cutTasks l = m.each (l.filter fun t => t.endTick = m.tick + 1) fun m z => m.cutTask z := rfl

end

/-! ### The tasks of the lanes -/

/-- In a list whose keys are distinct, an element is the one found by its key. -/
theorem find?_key_of_nodup {α : Type} {f : α → Nat} {l : List α} {x : α} (hn : (l.map f).Nodup) (hx : x ∈ l) : l.find? (fun y => f y = f x) = some x := by
  induction l with
  | nil => exact absurd hx List.not_mem_nil
  | cons y l ih =>
    rw [List.map_cons, List.nodup_cons] at hn
    obtain rfl | hx := List.mem_cons.mp hx
    · exact List.find?_cons_of_pos (by simp)
    · have hne : f y ≠ f x := fun h => hn.1 (h ▸ List.mem_map_of_mem hx)
      rw [List.find?_cons_of_neg (by simpa using hne)]
      exact ih hn.2 hx

section
variable {m : Mod} (hcoded : ∀ r, ((m.rend r).coding.map fun c => c.frame).Nodup ∧ ∀ c ∈ (m.rend r).coding, c.slices.map (fun x => x.tile) = List.range c.slices.length)
include hcoded

theorem Mod.codingOf_of_mem {r : Nat} {c : Coding} (hc : c ∈ (m.rend r).coding) : (m.rend r).coding.find? (fun x => x.frame = c.frame) = some c :=
  find?_key_of_nodup (f := fun c => c.frame) (hcoded r).1 hc

/-- A task is of a course that is coded, and of a slice with CTUs left. -/
theorem Mod.laneTasks_shows {z : LaneTask} (hz : z ∈ m.laneTasks) : (m.rend z.r).codes z.frame z.tile ∧ (m.sliceOf z).done ≤ (m.sliceOf z).ctus := by
  obtain ⟨r, -, hz⟩ := List.mem_flatMap.mp hz
  obtain ⟨c, hc, hz⟩ := List.mem_flatMap.mp hz
  obtain ⟨x, hx, rfl⟩ := List.mem_map.mp hz
  obtain ⟨hx, hleft⟩ := List.mem_filter.mp hx
  have horder := (hcoded r).2 c hc
  have hfind := Mod.codingOf_of_mem hcoded hc
  obtain ⟨i, hi, rfl⟩ := List.mem_iff_getElem.mp hx
  have hnth : nth c.slices i = c.slices[i] := List.getD_eq_getElem _ _ hi
  have htile : c.slices[i].tile = i := hnth ▸ Coding.tile_nth horder hi
  dsimp only
  rw [htile]
  refine ⟨⟨c, hfind, horder, hi⟩, ?_⟩
  have hslice : m.sliceOf ⟨((m.rend r).cfgFor c.frame).pipe, nth ((m.rend r).cfgFor c.frame).lanes i, r, i, c.frame, c.endTick⟩ = c.slices[i] :=
    (RendS.sliceOf_of_find hfind).trans hnth
  rw [hslice]
  exact Nat.le_of_lt (of_decide_eq_true hleft)

/-- At the cutoff every CTU that a lane has left is substituted, and counted. -/
theorem Mod.lateCutoff_shows {pipe lane : Nat} (hdue : m.fam.cutoff (m.tick + 1) ≤ m.now) {z : LaneTask} (hz : z ∈ m.laneTasks) (hp : z.pipe = pipe)
    (hl : z.lane = lane) (he : z.endTick = m.tick + 1) {c : Coding} (hc : c ∈ (m.rend z.r).coding) (hf : c.frame = z.frame) :
    ∃ c' ∈ ((m.lateCutoff pipe lane).rend z.r).coding, c'.frame = c.frame ∧ c'.endTick = c.endTick ∧ ∃ y ∈ c'.slices, y.tile = z.tile
      ∧ (nth c.slices z.tile).cutFrom y := by
  have hcut : m.lateCutoff pipe lane = (m.cutTasks (m.laneTasks.filter fun t => t.pipe = pipe && t.lane = lane)).serveNext pipe lane :=
    if_neg (Nat.not_lt.mpr hdue)
  have hmem : z ∈ (m.laneTasks.filter fun t => t.pipe = pipe && t.lane = lane).filter fun t => t.endTick = m.tick + 1 :=
    List.mem_filter.mpr ⟨List.mem_filter.mpr ⟨hz, by simp [hp, hl]⟩, by simp [he]⟩
  obtain ⟨hcuts, hdone, -⟩ := Mod.cuts_each (tasks := m.laneTasks) (a := m) (b := m) (fun z hz => (Mod.laneTasks_shows hcoded hz).2)
    (l := (m.laneTasks.filter fun t => t.pipe = pipe && t.lane = lane).filter fun t => t.endTick = m.tick + 1)
    (fun z hz => (List.mem_filter.mp (List.mem_filter.mp hz).1).1) ⟨fun z hz => (Mod.laneTasks_shows hcoded hz).1, fun _ _ => rfl, fun _ _ => .inl rfl⟩
  rw [← m.cutTasks_eq] at hcuts hdone
  have hend := hcuts.endTick z hz
  have hdone := hdone z hmem
  obtain ⟨c', hc', horder, htile⟩ := hcuts.codes z hz
  have hfind := Mod.codingOf_of_mem hcoded hc
  rw [hf] at hfind
  rw [hcut, Mod.rend_of_part (Mod.serveNext_part _ _ _ (by decide)) z.r]
  refine ⟨c', List.mem_of_find?_eq_some hc', (RendS.frame_of_find hc').trans hf.symm, ?_, nth c'.slices z.tile, nth_mem htile, Coding.tile_nth horder htile, ?_⟩
  · unfold RendS.codingOf at hend
    rw [hc', hfind] at hend
    exact hend
  · have hold : m.sliceOf z = nth c.slices z.tile := RendS.sliceOf_of_find hfind
    have hnew : (m.cutTasks (m.laneTasks.filter fun t => t.pipe = pipe && t.lane = lane)).sliceOf z = nth c'.slices z.tile := RendS.sliceOf_of_find hc'
    rw [← hold, ← hnew]
    exact hdone

end

/-- A CTU of the tile course that a lane codes. -/
theorem Mod.ctuComplete_shows {m : Mod} {pipe lane : Nat} {k : LaneTask} {c : Coding} (hk : m.taskOf pipe lane = some k)
    (hc : (m.rend k.r).coding.find? (fun c => c.frame = k.frame) = some c) (hlen : k.tile < c.slices.length) (htile : (nth c.slices k.tile).tile = k.tile) :
    ∃ c' ∈ ((m.ctuComplete pipe lane k.r k.tile).rend k.r).coding, c'.frame = c.frame ∧ c'.endTick = c.endTick
      ∧ (nth c.slices k.tile).take (m.site k.r c k.tile) m.now ∈ c'.slices := by
  have heq : m.ctuComplete pipe lane k.r k.tile = (m.takeCtu k.r c (nth c.slices k.tile)).serveNext pipe lane := by
    unfold Mod.ctuComplete
    rw [hk]
    dsimp only
    rw [if_neg (by simp), hc]
  have hframe := RendS.frame_of_find hc
  rw [heq, Mod.rend_of_part (Mod.serveNext_part _ _ _ (by decide)) k.r, Mod.coding_takeCtu, htile, RendS.setSlice_coding]
  refine ⟨c.withSlice _, List.mem_map.mpr ⟨c, List.mem_of_find?_eq_some hc, if_pos rfl⟩, rfl, rfl, Coding.mem_withSlice (nth_mem hlen) ?_⟩
  exact (SliceS.take_tile _).symm

/-- Settles O20: a CTU by whether its tile course is the one coded, then by R135's test; the cutoff by its time. -/
theorem ctusAreCodedOrSubstituted : Obligations.CtusAreCodedOrSubstituted := by
  unfold Obligations.CtusAreCodedOrSubstituted
  refine ⟨fun s t pipe lane r tile hs => ⟨fun hidle => ?_, fun k c hk hr htile hc hlen => ?_⟩,
    fun s t pipe lane hs => ⟨fun hearly => ?_, fun hdue hcoded => ?_⟩⟩
  · refine does_act (g := fun m => m.ctuComplete pipe.val lane.val r.val tile.val) hs rfl ?_ hs.2
    unfold Mod.ctuComplete
    cases hk : (s.m.at t).taskOf pipe.val lane.val with
    | none => rfl
    | some k => exact if_pos (hidle k hk)
  · intro x site bits hx hleft hgoing
    refine completes_act (g := fun m => m.ctuComplete pipe.val lane.val r.val tile.val) rfl hs ?_ fun _ h => h
    obtain ⟨c', hmem, hframe, hend, hy⟩ := Mod.ctuComplete_shows hk hc hlen hx
    rw [← hr, ← htile]
    exact ⟨c', hmem, hframe, hend, _, hy, (SliceS.take_tile _).trans hx, SliceS.take_shows _ hleft hgoing⟩
  · exact does_act (g := fun m => m.lateCutoff pipe.val lane.val) hs rfl (if_pos hearly) hs.2
  · refine completes_act (g := fun m => m.lateCutoff pipe.val lane.val) rfl hs ?_ fun _ h => h
    exact fun z hz hp hl he c hc hf => Mod.lateCutoff_shows hcoded hdue hz hp hl he hc hf

end Sys2Proof.Machine
end

section
/-! SUPPORT. A frame whose DSCP lies beyond the sixty-four (R203). -/

namespace Sys2Proof.Machine

/-- A frame to the destination of entry 0, with a DSCP that no premise of the statement bounds: its colour would be shown by the entry's own
count of frames, 10000:16. -/
def strayFrame : EthFrame := ⟨0, 64, 64, true, .udp, .v4, [1, 2, 3, 4], [], 0, 5, none, 64, 16 * ((0x10000 - 0x3001) * 256 + 0x15)⟩

/-- The module right after reset with logical port 0 in stage 5 and entry 0 enabled, policed in the colour-aware mode of RFC 2698. -/
def dscpPastTable : State :=
  let open_ := Mod.reset.put 0x2440 5 5
  let keyed := (((open_.put 0x10000 2 1).putB 0x10000 4 [1, 2, 3, 4]).put 0x10000 5 5).put 0x10000 8 1
  let policed := (((keyed.put 0x10000 0x0B 2).put 0x10000 0x0D 9216).put 0x10000 0x0E 1000).put 0x10000 0x0F 9216
  { State.reset with m := { policed with edgeObjs := policed.objs } }

/-- The green frames that entry 0 shows after a command. -/
def shownGreens : Host.Outcome State Fault Refusal → Nat
  | .next s => s.m.flow 0 0x17
  | _ => 0

/-- Counting the frame in its entry gives its DSCP the colour yellow. -/
theorem countedFrameIsNotGreen : shownGreens (exec (.frameReceived 1 0 strayFrame) dscpPastTable) = 0 := by decide +kernel

/-- Refutes O25: the frame comes green, but its entry's count of frames, which shows the colour of its DSCP, makes it yellow. -/
theorem not_framesAreMatchedSentAndSampled : ¬ Obligations.FramesAreMatchedSentAndSampled := by
  intro h
  obtain ⟨-, hup⟩ := h.1 dscpPastTable 1 0 (by decide +kernel)
  obtain ⟨hframes, -⟩ := hup (by decide +kernel)
  obtain ⟨s', hs', -, -, -, hgreen, -⟩ := (hframes strayFrame).2.2.2 0 (by decide +kernel) (by decide +kernel) (by decide +kernel) (by decide +kernel)
  have hshown := countedFrameIsNotGreen
  rw [hs'] at hshown
  exact absurd (hshown.symm.trans hgreen) (by decide +kernel)

end Sys2Proof.Machine
end

section
/-! SUPPORT. What the servo keeps, and PTP messages taken (R28, R30, R33). -/

namespace Sys2Proof.Machine

/-! ### What leaves the servo as it is -/

/-- The servo's own state and what 1420 shows of it stand. -/
structure Mod.paces (a b : Mod) : Prop where
  servo : b.servo = a.servo
  shown : ∀ {k : Nat}, k < 256 → b.get 0x1420 k = a.get 0x1420 k

section
variable {a b c m : Mod}

theorem Mod.paces_refl : Mod.paces m m := ⟨rfl, fun _ => rfl⟩

theorem Mod.paces_trans (h : Mod.paces a b) (h' : Mod.paces b c) : Mod.paces a c := ⟨h'.servo.trans h.servo, fun hk => (h'.shown hk).trans (h.shown hk)⟩

theorem Mod.paces_each {α : Type} {l : List α} {f : Mod → α → Mod} (h : ∀ m, ∀ x ∈ l, Mod.paces m (f m x)) : Mod.paces m (m.each l f) := by
  unfold Mod.each
  induction l generalizing m with
  | nil => exact Mod.paces_refl
  | cons x l ih => exact Mod.paces_trans (h m x List.mem_cons_self) (ih fun m y hy => h m y (List.mem_cons_of_mem _ hy))

theorem Mod.servoState_of_paces (h : Mod.paces a b) : b.servoState = a.servoState := congrArg Val.nat (h.shown (by decide))

theorem Mod.paces_put {i s : Nat} (v : Nat) (hs : s < 256) (h : i < 0x1000 ∨ 0x1000 < i ∧ i ≠ 0x1420) : Mod.paces m (m.put i s v) :=
  ⟨rfl, fun _ => Mod.get_put_frame _ _ (by omega) (by omega)⟩

theorem Mod.paces_putB {i s : Nat} (v : Octets) (hs : s < 256) (h : i < 0x1000 ∨ 0x1000 < i ∧ i ≠ 0x1420) : Mod.paces m (m.putB i s v) :=
  ⟨rfl, fun _ => Mod.get_putB_frame _ _ (by omega) (by omega)⟩

theorem Mod.paces_raise (code r : Nat) (p : List Nat) : Mod.paces m (m.raise code r p) :=
  ⟨Mod.raise_part (p := .servo) _ _ _ _ (by decide), fun _ => Mod.get_raise_frame _ _ _ _ (.inl (by omega))⟩

theorem Mod.paces_generateSdp (r : Nat) (hr : r < 128) : Mod.paces m (m.generateSdp r) := by
  unfold Mod.generateSdp
  split
  · exact Mod.paces_refl
  · split
    · exact Mod.paces_refl
    · exact Mod.paces_trans (Mod.paces_trans (Mod.paces_put _ (by decide) (by omega)) (Mod.paces_putB _ (by decide) (by omega))) (Mod.paces_raise _ _ _)

theorem Mod.paces_generateDecodeSdp (e : Nat) (he : e < 2) : Mod.paces m (m.generateDecodeSdp e) := by
  unfold Mod.generateDecodeSdp
  split
  · exact Mod.paces_refl
  · split
    · exact Mod.paces_refl
    · exact ⟨rfl, fun _ => Mod.get_putB_frame _ _ (by omega) (by omega)⟩

theorem Mod.paces_refreshDescriptions (m : Mod) : Mod.paces m m.refreshDescriptions := by
  unfold Mod.refreshDescriptions Mod.refreshSdp
  refine Mod.paces_trans (Mod.paces_each fun b r hr => Mod.paces_generateSdp r (List.mem_range.mp hr)) (Mod.paces_each fun b e he => ?_)
  exact Mod.paces_generateDecodeSdp e (List.mem_range.mp (List.mem_filter.mp he).1)

theorem Mod.tells_refreshDescriptions (h : a.tells m) : a.tells m.refreshDescriptions := by
  have hsdp {b : Mod} (r : Nat) (h : a.tells b) : a.tells (b.generateSdp r) := by
    unfold Mod.generateSdp
    split
    · exact h
    · split
      · exact h
      · exact Mod.tells_raise _ _ _ h
  have hdecode {b : Mod} (e : Nat) (h : a.tells b) : a.tells (b.generateDecodeSdp e) :=
    Mod.tells_of_part (Mod.generateDecodeSdp_part _ _ (by decide)) h
  unfold Mod.refreshDescriptions Mod.refreshSdp
  exact Mod.tells_each (fun b e hb => hdecode e hb) (Mod.tells_each (fun b r hb => hsdp r hb) h)

/-! ### Steps, slews and states -/

theorem Mod.paces_retime (m : Mod) : Mod.paces m m.retime := by
  unfold Mod.retime
  dsimp only
  have hpreud (x : PreudS) : Mod.paces m { m with preud := x } := ⟨rfl, fun _ => rfl⟩
  exact Mod.paces_trans (hpreud _) (Mod.paces_each fun b x _ => Mod.paces_raise _ _ _)

theorem Mod.paces_shiftTime (delta : Int) (m : Mod) : Mod.paces m (m.shiftTime delta) := by
  have hshow (b : Mod) : Mod.paces b b.showTick := Mod.paces_trans (Mod.paces_put _ (by decide) (by decide)) (Mod.paces_put _ (by decide) (by decide))
  unfold Mod.shiftTime
  dsimp only
  refine Mod.paces_trans (Mod.paces_trans ?_ (Mod.paces_retime _)) (hshow _)
  exact ⟨rfl, fun _ => rfl⟩

/-- A step of time leaves no offset, and the servo's state as it is. -/
theorem Mod.stepTime_shows (m : Mod) : m.stepTime.servo = { m.servo with offset := 0 } ∧ m.stepTime.ctr = m.ctr
    ∧ ∀ {k : Nat}, k < 256 → m.stepTime.get 0x1420 k = m.get 0x1420 k := by
  refine ⟨?_, Mod.stepTime_part (p := .ctr) _ (by decide), fun hk => ?_⟩
  · unfold Mod.stepTime
    dsimp only
    split
    · next h => rw [← h]
    · have hshift := (Mod.paces_shiftTime (-m.servo.offset) m).servo
      show { (m.shiftTime (-m.servo.offset)).servo with offset := 0 } = _
      rw [hshift]
  · unfold Mod.stepTime
    dsimp only
    split
    · rfl
    · exact (Mod.paces_shiftTime (-m.servo.offset) m).shown hk

/-- The servo's state set: shown in 1420:01, with the offset measured as it was and any step pending still so. -/
theorem Mod.setServo_shows (m : Mod) (st : Nat) : (m.setServo st).servoState = st ∧ (m.setServo st).servo.offset = m.servo.offset
    ∧ (m.setServo st).get 0x1420 7 = m.get 0x1420 7 := by
  have hput (b : Mod) : (if st = freerun then b.put 0x1420 2 0 else b).servo = b.servo
      ∧ ∀ k, k = 1 ∨ k = 7 → (if st = freerun then b.put 0x1420 2 0 else b).get 0x1420 k = b.get 0x1420 k := by
    split
    · exact ⟨rfl, fun k hk => Mod.get_put_frame _ _ (by decide) (by omega)⟩
    · exact ⟨rfl, fun _ _ => rfl⟩
  have hraise (b : Mod) (v : Nat) (p : List Nat) {k : Nat} (hk : k < 256) : (b.raiseRaw 0x1401 0 v p).get 0x1420 k = b.get 0x1420 k :=
    Mod.get_raiseRaw_frame _ _ _ _ _ (.inl (by omega))
  have hservo (b : Mod) (v : Nat) (p : List Nat) : (b.raiseRaw 0x1401 0 v p).servo = b.servo := Mod.raiseRaw_part (p := .servo) _ _ _ _ _ (by decide)
  unfold Mod.setServo
  dsimp only
  split
  · next h => exact ⟨h, rfl, rfl⟩
  · obtain ⟨hsame, hget⟩ := hput ((m.put 0x1420 1 st).modServo fun s => { s with stateAt := m.ctr, lockSince := none, slew := 0 })
    have hone : (m.put 0x1420 1 st).n 0x1420 1 = st := m.n_put _ _ _ (by decide)
    refine ⟨?_, (congrArg ServoS.offset (hservo _ _ _)).trans (by rw [hsame]; rfl), ?_⟩
    · exact (congrArg Val.nat ((hraise _ _ _ (by decide)).trans (hget 1 (.inl rfl)))).trans hone
    · refine (hraise _ _ _ (by decide)).trans ((hget 7 (.inr rfl)).trans ?_)
      exact Mod.get_put_frame (m := m) (i := 0x1420) (s := 1) (j := 0x1420) (t := 7) st (by decide) (by decide)

end

/-! ### An offset from the selected master -/

/-- An offset is measured. -/
def Mod.offsetHeard (m : Mod) (off : Int) : Mod := m.modServo fun s => { s with lastSync := m.ctr, offset := off, awaiting := none }

/-- How long the filtered offset has been small. -/
def Mod.lockCounted (m : Mod) (filtered : Int) : Mod :=
  m.modServo fun s => { s with lockSince := if filtered.natAbs ≤ 40 then some (s.lockSince.getD m.ctr) else none }

/-- In FREERUN and HOLDOVER the master returns. -/
def Mod.masterSeen (m : Mod) (filtered : Int) : Mod :=
  if m.masterReturn.servoState = freerun then m.masterReturn else m.masterReturn.putZ 0x1420 2 filtered

/-- In ACQUIRING the offset is slewed or stepped away. -/
def Mod.offsetFollowed (m : Mod) : Mod := if m.servoState ≠ acquiring then m else if m.mediaRunning then m.slewOffset else m.stepTime

def Mod.lockJudged (m : Mod) (filtered : Int) : Mod := if m.servoState = acquiring then m.lockCounted filtered else m

section
variable {m : Mod} {off filtered : Int}

theorem Mod.mediaRunning_congr {a b : Mod} (h1 : a.timeFn = b.timeFn) (h2 : a.twinFn = b.twinFn) (hget : ∀ i, a.get i 1 = b.get i 1) :
    a.mediaRunning = b.mediaRunning := by
  unfold Mod.mediaRunning
  congr 1
  funext f
  rw [Mod.fn_congr f h1 h2 fun i _ => hget i]

theorem Mod.takeSync_eq : m.takeSync off filtered =
    if (m.offsetHeard off).servoState = freerun || (m.offsetHeard off).servoState = holdover then (m.offsetHeard off).masterSeen filtered
    else (((m.offsetHeard off).putZ 0x1420 2 filtered).offsetFollowed).lockJudged filtered := rfl

theorem Mod.servoState_putZ (b : Mod) (z : Int) : (b.putZ 0x1420 2 z).servoState = b.servoState :=
  congrArg Val.nat (b.get_putZ_frame (i := 0x1420) (s := 2) (j := 0x1420) (t := 1) z (by decide) (by decide))

theorem takeSync_locked (h : m.servoState = locked) : m.takeSync off filtered = (m.offsetHeard off).putZ 0x1420 2 filtered := by
  have hheard : (m.offsetHeard off).servoState = locked := h
  have hput : ((m.offsetHeard off).putZ 0x1420 2 filtered).servoState = locked := (Mod.servoState_putZ _ _).trans h
  rw [Mod.takeSync_eq, hheard, if_neg (by decide)]
  unfold Mod.offsetFollowed
  rw [hput, if_pos (by decide)]
  unfold Mod.lockJudged
  rw [hput, if_neg (by decide)]

/-- In ACQUIRING an offset is slewed or stepped away, and counts toward the lock. -/
theorem takeSync_acquiring (h : m.servoState = acquiring) : (m.takeSync off filtered).servoState = acquiring
    ∧ (m.takeSync off filtered).z 0x1420 2 = filtered
    ∧ (m.takeSync off filtered).servo.lockSince = (if filtered.natAbs ≤ 40 then some (m.servo.lockSince.getD m.ctr) else none)
    ∧ (m.mediaRunning = true → (m.takeSync off filtered).servo.slew = off * 1000000000)
    ∧ (m.mediaRunning = false → (m.takeSync off filtered).servo.offset = 0) := by
  have hheard : (m.offsetHeard off).servoState = acquiring := h
  have hput : ((m.offsetHeard off).putZ 0x1420 2 filtered).servoState = acquiring := (Mod.servoState_putZ _ _).trans h
  have hmedia : ((m.offsetHeard off).putZ 0x1420 2 filtered).mediaRunning = m.mediaRunning :=
    Mod.mediaRunning_congr rfl rfl fun i => Mod.get_putZ_frame (m := m.offsetHeard off) (i := 0x1420) (s := 2) (j := i) (t := 1) filtered (by decide) (by omega)
  have hz : ((m.offsetHeard off).putZ 0x1420 2 filtered).z 0x1420 2 = filtered := congrArg Val.int (Mod.get_putZ_same _ _ (by decide))
  rw [Mod.takeSync_eq, hheard, if_neg (by decide)]
  have hservo : ((m.offsetHeard off).putZ 0x1420 2 filtered).servo = { m.servo with lastSync := m.ctr, offset := off, awaiting := none } := rfl
  have hctr : ((m.offsetHeard off).putZ 0x1420 2 filtered).ctr = m.ctr := rfl
  generalize (m.offsetHeard off).putZ 0x1420 2 filtered = b at hput hmedia hz hservo hctr ⊢
  unfold Mod.offsetFollowed
  rw [hput, if_neg (by decide), hmedia]
  cases m.mediaRunning with
  | true =>
    have hslewed : b.slewOffset.servoState = acquiring := hput
    rw [if_pos rfl]
    unfold Mod.lockJudged
    rw [if_pos hslewed]
    refine ⟨hput, hz, ?_, fun _ => ?_, fun h => absurd h (by decide)⟩
    · show (if _ then some (b.servo.lockSince.getD b.ctr) else none) = _
      rw [hservo, hctr]
    · show b.servo.offset * 1000000000 = _
      rw [hservo]
  | false =>
    obtain ⟨hstep, hstepCtr, hget⟩ := b.stepTime_shows
    have hstepped : b.stepTime.servoState = acquiring := (congrArg Val.nat (hget (by decide))).trans hput
    rw [if_neg (by decide)]
    unfold Mod.lockJudged
    rw [if_pos hstepped]
    refine ⟨hstepped, (congrArg Val.int (hget (by decide))).trans hz, ?_, fun h => absurd h (by decide), fun _ => ?_⟩
    · show (if _ then some (b.stepTime.servo.lockSince.getD b.stepTime.ctr) else none) = _
      rw [hstep, hstepCtr, hservo, hctr]
    · show b.stepTime.servo.offset = 0
      rw [hstep]

section
variable (h : m.servoState = holdover ∨ m.servoState = freerun)
include h

theorem takeSync_away : m.takeSync off filtered = (m.offsetHeard off).masterSeen filtered := by
  have hheard : (m.offsetHeard off).servoState = m.servoState := rfl
  rw [Mod.takeSync_eq, hheard]
  refine if_pos ?_
  obtain h | h := h <;> simp [h]

end

/-- The filtered offset shown leaves the rest. -/
theorem Mod.masterSeen_shows (b : Mod) (z : Int) : (b.masterSeen z).servo = b.masterReturn.servo ∧ (b.masterSeen z).raised = b.masterReturn.raised
    ∧ ∀ k, k = 1 ∨ k = 7 → (b.masterSeen z).get 0x1420 k = b.masterReturn.get 0x1420 k := by
  unfold Mod.masterSeen
  split
  · exact ⟨rfl, rfl, fun _ _ => rfl⟩
  · exact ⟨rfl, rfl, fun k hk => Mod.get_putZ_frame _ _ (by decide) (by omega)⟩

section
variable (h : m.servoState = holdover ∨ m.servoState = freerun)
include h

/-- Without media running time steps to the master that has returned. -/
theorem takeSync_steps (hm : m.mediaRunning = false) : (m.takeSync off filtered).servoState = acquiring ∧ (m.takeSync off filtered).servo.offset = 0
    ∧ (m.takeSync off filtered).flag 0x1420 7 = false := by
  obtain ⟨hservo, -, hget⟩ := (m.offsetHeard off).masterSeen_shows filtered
  have hmedia : (m.offsetHeard off).mediaRunning = false := hm
  have hreturn : (m.offsetHeard off).masterReturn = (((m.offsetHeard off).putFlag 0x1420 7 false).stepTime).setServo acquiring := by
    unfold Mod.masterReturn
    rw [hmedia]
    rfl
  rw [takeSync_away h]
  generalize (m.offsetHeard off).masterSeen filtered = c at hservo hget ⊢
  have hcleared : ((m.offsetHeard off).putFlag 0x1420 7 false).flag 0x1420 7 = false := Mod.flag_putFlag _ 0x1420 7 false (by decide)
  rw [hreturn] at hservo hget
  generalize (m.offsetHeard off).putFlag 0x1420 7 false = b at hservo hget hcleared
  obtain ⟨hstep, -, hkept⟩ := b.stepTime_shows
  obtain ⟨hstate, hoffset, hflag⟩ := b.stepTime.setServo_shows acquiring
  refine ⟨(congrArg Val.nat (hget 1 (.inl rfl))).trans hstate, ?_, ?_⟩
  · rw [hservo, hoffset, hstep]
  · unfold Mod.flag Mod.n at hcleared ⊢
    rw [hget 7 (.inr rfl), hflag, hkept (by decide)]
    exact hcleared

section
variable (hm : m.mediaRunning = true) (hf : m.flag 0x1420 7 = false)
include hm hf

/-- While media runs a small offset is slewed away. -/
theorem takeSync_slews (hnear : off.natAbs ≤ m.n 0x1432 0) : (m.takeSync off filtered).servoState = acquiring
    ∧ (m.takeSync off filtered).servo.slew = off * 1000000000 := by
  obtain ⟨hservo, -, hget⟩ := (m.offsetHeard off).masterSeen_shows filtered
  have hmedia : (m.offsetHeard off).mediaRunning = true := hm
  have hflag : (m.offsetHeard off).flag 0x1420 7 = false := hf
  have hlimit : (m.offsetHeard off).servo.offset.natAbs ≤ (m.offsetHeard off).n 0x1432 0 := hnear
  have hreturn : (m.offsetHeard off).masterReturn = ((m.offsetHeard off).setServo acquiring).slewOffset := by
    unfold Mod.masterReturn
    rw [hmedia, if_neg (by decide), hflag, if_neg (by decide), if_pos hlimit]
  have hoff : (m.offsetHeard off).servo.offset = off := rfl
  rw [takeSync_away h]
  generalize (m.offsetHeard off).masterSeen filtered = c at hservo hget ⊢
  rw [hreturn] at hservo hget
  obtain ⟨hstate, hoffset, -⟩ := (m.offsetHeard off).setServo_shows acquiring
  rw [hoff] at hoffset
  generalize (m.offsetHeard off).setServo acquiring = b at hservo hget hstate hoffset
  refine ⟨(congrArg Val.nat (hget 1 (.inl rfl))).trans hstate, ?_⟩
  rw [hservo]
  exact congrArg (· * 1000000000) hoffset

/-- While media runs a large offset leaves a step pending. -/
theorem takeSync_waits (hfar : m.n 0x1432 0 < off.natAbs) : (m.takeSync off filtered).flag 0x1420 7 = true
    ∧ (m.takeSync off filtered).servoState = m.servoState ∧ (m.takeSync off filtered).told 0x1402 0 [off.natAbs] := by
  obtain ⟨-, hraised, hget⟩ := (m.offsetHeard off).masterSeen_shows filtered
  have hmedia : (m.offsetHeard off).mediaRunning = true := hm
  have hflag : (m.offsetHeard off).flag 0x1420 7 = false := hf
  have hlimit : ¬(m.offsetHeard off).servo.offset.natAbs ≤ (m.offsetHeard off).n 0x1432 0 := Nat.not_le.mpr hfar
  have hreturn : (m.offsetHeard off).masterReturn
      = ((m.offsetHeard off).putFlag 0x1420 7 true).raiseRaw 0x1402 0 (severityOf 0x1402) [off.natAbs] := by
    unfold Mod.masterReturn
    rw [hmedia, if_neg (by decide), hflag, if_neg (by decide), if_neg hlimit]
    rfl
  rw [takeSync_away h]
  generalize (m.offsetHeard off).masterSeen filtered = c at hraised hget ⊢
  rw [hreturn] at hraised hget
  have hset : ((m.offsetHeard off).putFlag 0x1420 7 true).flag 0x1420 7 = true := Mod.flag_putFlag _ 0x1420 7 true (by decide)
  have hstate : ((m.offsetHeard off).putFlag 0x1420 7 true).servoState = m.servoState :=
    congrArg Val.nat ((m.offsetHeard off).get_putFlag_frame (i := 0x1420) (s := 7) (j := 0x1420) (t := 1) true (by decide) (by decide))
  generalize (m.offsetHeard off).putFlag 0x1420 7 true = b at hraised hget hset hstate
  have hkept {k : Nat} (hk : k < 256) : (b.raiseRaw 0x1402 0 (severityOf 0x1402) [off.natAbs]).get 0x1420 k = b.get 0x1420 k :=
    Mod.get_raiseRaw_frame _ _ _ _ _ (.inl (by omega))
  refine ⟨?_, ?_, severityOf 0x1402, ?_⟩
  · unfold Mod.flag Mod.n at hset ⊢
    rw [hget 7 (.inr rfl), hkept (by decide)]
    exact hset
  · exact (congrArg Val.nat ((hget 1 (.inl rfl)).trans (hkept (by decide)))).trans hstate
  · rw [hraised]
    exact Mod.mem_raiseRaw _ _ _ _ _

end

end

end

/-! ### A message -/

/-- Whether a port and a source are those of the selected master, and whether the port is. -/
def Mod.fromMaster (m : Mod) (port source : Nat) : Bool :=
  match m.servo.selected with
  | none => false
  | some f => f.port = port && f.source = source

def Mod.towardMaster (m : Mod) (port : Nat) : Bool :=
  match m.servo.selected with
  | none => false
  | some f => f.port = port

/-- A message of the profile is taken by its kind. -/
def Mod.ptpTaken (m : Mod) (port : Nat) (x : PtpMsg) : Mod :=
  match x.body with
  | .announce gm utc l61 l59 => m.takeAnnounce port x gm utc l61 l59
  | .sync off filtered => if m.fromMaster port x.source then m.takeSync off filtered else m
  | .syncTwoStep => if m.fromMaster port x.source then m.modServo fun s => { s with lastSync := m.ctr, awaiting := some x.seq } else m
  | .followUp off filtered => if m.fromMaster port x.source && m.servo.awaiting = some x.seq then m.takeSync off filtered else m
  | .delayResp d => if m.fromMaster port x.source then (m.putZ 0x1420 3 d).modServo fun s => { s with delayLog := x.logInterval } else m
  | .delayReq => if m.flag 0x1414 0 && !m.towardMaster port then (m.send (.ptpDelayResp port x.source x.seq)).countOwn port 0 else m
  | .other => m

section
variable {m : Mod} {port : Nat} {x : PtpMsg}

theorem Mod.fromMaster_iff {source : Nat} : m.fromMaster port source = true ↔ ∃ f, m.servo.selected = some f ∧ f.port = port ∧ f.source = source := by
  unfold Mod.fromMaster
  cases m.servo.selected with
  | none => simp
  | some f => simp

theorem Mod.towardMaster_iff : m.towardMaster port = true ↔ ∃ f, m.servo.selected = some f ∧ f.port = port := by
  unfold Mod.towardMaster
  cases m.servo.selected with
  | none => simp
  | some f => simp

theorem Mod.takePtp_idle (h : ¬(m.timeFn = running ∧ m.portUp port = true ∧ (m.n 0x1413 0).testBit port = true)) : m.takePtp port x = m := by
  unfold Mod.takePtp
  refine if_pos ?_
  rw [not_and_or, not_and_or] at h
  obtain h | h | h := h <;> simp [h]

section
variable (h : m.timeFn = running ∧ m.portUp port = true ∧ (m.n 0x1413 0).testBit port = true)
include h

theorem Mod.takePtp_outside (ho : m.ptpOutside x = true) : m.takePtp port x = m.bump 0x1422 0 := by
  obtain ⟨hr, hu, hb⟩ := h
  unfold Mod.takePtp
  rw [if_neg (by simp [hr, hu, hb]), if_pos ho]

theorem Mod.takePtp_heeds (ho : m.ptpOutside x = false) : m.takePtp port x = (m.ptpTaken port x).refreshDescriptions := by
  obtain ⟨hr, hu, hb⟩ := h
  unfold Mod.takePtp
  rw [if_neg (by simp [hr, hu, hb]), ho]
  rfl

end

/-- Descriptions that follow the grandmaster leave the servo, what 1420 shows, and what has gone out. -/
theorem Mod.refreshed_shows (b : Mod) : b.refreshDescriptions.servo = b.servo ∧ b.refreshDescriptions.servoState = b.servoState
    ∧ (∀ k < 256, b.refreshDescriptions.z 0x1420 k = b.z 0x1420 k) ∧ ∀ k < 256, b.refreshDescriptions.flag 0x1420 k = b.flag 0x1420 k := by
  have h := b.paces_refreshDescriptions
  refine ⟨h.servo, Mod.servoState_of_paces h, fun k hk => congrArg Val.int (h.shown hk), fun k hk => ?_⟩
  unfold Mod.flag Mod.n
  rw [h.shown hk]

theorem Mod.masters_ite {a b : Mod} {l : List Foreign} {p : Prop} [Decidable p] (h : a.servo.masters = l) (h' : b.servo.masters = l) :
    (if p then a else b).servo.masters = l := by
  split
  · exact h
  · exact h'

theorem Mod.masters_setServo (b : Mod) (st : Nat) : (b.setServo st).servo.masters = b.servo.masters := by
  unfold Mod.setServo
  refine Mod.masters_ite rfl ((congrArg ServoS.masters (Mod.raiseRaw_part (p := .servo) _ _ _ _ _ (by decide))).trans ?_)
  exact Mod.masters_ite rfl rfl

theorem Mod.masters_raise (b : Mod) (c r : Nat) (p : List Nat) : (b.raise c r p).servo.masters = b.servo.masters :=
  congrArg ServoS.masters (Mod.raise_part (p := .servo) _ _ _ _ (by decide))

theorem Mod.masters_loseMaster (b : Mod) : b.loseMaster.servo.masters = b.servo.masters := by
  unfold Mod.loseMaster
  exact Mod.masters_ite (Mod.masters_setServo _ _) rfl

/-- The best master's choice leaves the foreign masters held. -/
theorem Mod.masters_selectMaster (m : Mod) : m.selectMaster.servo.masters = m.servo.masters := by
  have hchosen (a : Mod) (x : Foreign) (t : Nanos) :
      ((a.modServo fun s => { s with selected := some x, lastSync := t }).showMaster x).servo.masters = a.servo.masters := rfl
  unfold Mod.selectMaster
  cases m.bestMaster with
  | none => rfl
  | some b =>
    cases m.servo.selected with
    | none =>
      have hraise (c : Bool) (p : List Nat) : (if c then m.raise 0x1405 0 p else m).servo.masters = m.servo.masters := Mod.masters_ite (Mod.masters_raise ..) rfl
      exact Mod.masters_ite ((Mod.masters_setServo _ _).trans ((hchosen _ _ _).trans (hraise _ _))) ((hchosen _ _ _).trans (hraise _ _))
    | some x => exact Mod.masters_ite rfl ((hchosen _ _ _).trans ((Mod.masters_loseMaster _).trans (Mod.masters_raise ..)))

/-- An Announce's sender is a foreign master, where there is room. -/
theorem Mod.takeAnnounce_shows (m : Mod) (port : Nat) (x : PtpMsg) (gm : GmData) (utc : Int) (l61 l59 : Bool) :
    (m.takeAnnounce port x gm utc l61 l59).servo.masters.length ≤ max 8 m.servo.masters.length
      ∧ (m.servo.masters.length < 8 → ∃ f ∈ (m.takeAnnounce port x gm utc l61 l59).servo.masters, f.source = x.source ∧ f.port = port ∧ f.domain = x.domain
        ∧ f.gm = gm ∧ f.logAnnounce = x.logInterval ∧ f.at_ = m.ctr) := by
  obtain ⟨rest, f, hle, hmasters, hf⟩ : ∃ (rest : List Foreign) (f : Foreign), rest.length ≤ m.servo.masters.length
      ∧ (m.takeAnnounce port x gm utc l61 l59).servo.masters = (if rest.length < 8 then rest ++ [f] else rest)
      ∧ f.source = x.source ∧ f.port = port ∧ f.domain = x.domain ∧ f.gm = gm ∧ f.logAnnounce = x.logInterval ∧ f.at_ = m.ctr :=
    ⟨_, _, List.length_filter_le _ _, Mod.masters_selectMaster _, rfl, rfl, rfl, rfl, rfl, rfl⟩
  rw [hmasters]
  split
  · refine ⟨?_, fun _ => ⟨f, List.mem_append_right _ (List.mem_singleton_self _), hf⟩⟩
    rw [List.length_append, List.length_singleton]
    omega
  · exact ⟨by omega, fun h => by omega⟩

end

/-- Settles O28: a message by whether the module heeds it, by its profile and its kind, an offset by the servo's state. -/
theorem ptpMessagesAreTaken : Obligations.PtpMessagesAreTaken := by
  unfold Obligations.PtpMessagesAreTaken
  intro s t n x hs m heeds mine upstream
  have hb : m.rebooting = false := hs.2
  have hmine : mine → m.fromMaster n.val x.source = true := Mod.fromMaster_iff.mpr
  have hnotMine : ¬mine → m.fromMaster n.val x.source = false := fun h => Bool.eq_false_iff.mpr fun hc => h (Mod.fromMaster_iff.mp hc)
  refine ⟨fun hidle => ?_, fun hh ho => ?_, fun hh ho => ?_⟩
  · exact does_act (g := fun m => m.takePtp n.val x) hs rfl (Mod.takePtp_idle hidle) hb
  · exact does_act (g := fun m => m.takePtp n.val x) hs rfl (Mod.takePtp_outside hh ho) ((Mod.bump_part (p := .rebooting) _ _ _ (by decide)).trans hb)
  · have htaken {b : Mod} (hbody : m.ptpTaken n.val x = b) {P : Mod → Prop} (hP : P b.refreshDescriptions)
        (hk : ∀ m' : Mod, P m' → P { m' with rebooting := false }) : Completes (.ptpMessage t n x) s P := by
      refine completes_act (g := fun m => m.takePtp n.val x) rfl hs ?_ hk
      show P (m.takePtp n.val x)
      rw [Mod.takePtp_heeds hh ho, hbody]
      exact hP
    have hsync {off filtered : Int} (hx : x.body = .sync off filtered ∨ (x.body = .followUp off filtered ∧ m.servo.awaiting = some x.seq)) (hm : mine) :
        m.ptpTaken n.val x = m.takeSync off filtered := by
      unfold Mod.ptpTaken
      obtain hx | ⟨hx, hawaited⟩ := hx
      · rw [hx]
        exact if_pos (hmine hm)
      · rw [hx]
        exact if_pos (by rw [hmine hm, hawaited]; simp)
    refine ⟨fun gm utc l61 l59 hx => ?_, fun off filtered hx hm => ?_, fun hx hm => ?_, fun d hx hm => ?_, fun hx hflag hup => ?_, fun hx => ?_⟩
    · have hbody : m.ptpTaken n.val x = m.takeAnnounce n.val x gm utc l61 l59 := by
        unfold Mod.ptpTaken
        rw [hx]
      refine htaken hbody ?_ fun _ h => h
      rw [(Mod.refreshed_shows _).1]
      exact m.takeAnnounce_shows n.val x gm utc l61 l59
    · have hbody := hsync hx hm
      obtain ⟨hservo, hstate, hz, hflag⟩ := (m.takeSync off filtered).refreshed_shows
      refine ⟨fun hl => htaken hbody ?_ fun _ h => h, fun ha => htaken hbody ?_ fun _ h => h, fun haway => ⟨fun hmedia => htaken hbody ?_ fun _ h => h,
        fun hmedia hpend => ⟨fun hnear => htaken hbody ?_ fun _ h => h, fun hfar => htaken hbody ?_ fun _ h => h⟩⟩⟩
      · rw [hservo, hstate, hz 2 (by decide), takeSync_locked hl]
        exact ⟨rfl, rfl, congrArg Val.int (Mod.get_putZ_same _ _ (by decide)), (Mod.servoState_putZ _ _).trans hl⟩
      · rw [hservo, hstate, hz 2 (by decide)]
        exact takeSync_acquiring ha
      · rw [hservo, hstate, hflag 7 (by decide)]
        exact takeSync_steps haway hmedia
      · rw [hservo, hstate]
        exact takeSync_slews haway hmedia hpend hnear
      · rw [hstate, hflag 7 (by decide)]
        obtain ⟨hpending, hsame, htold⟩ := takeSync_waits (filtered := filtered) haway hmedia hpend hfar
        exact ⟨hpending, hsame, Mod.told_of_tells (Mod.tells_refreshDescriptions Mod.tells_refl) htold⟩
    · have hbody : m.ptpTaken n.val x = m.modServo fun s => { s with lastSync := m.ctr, awaiting := some x.seq } := by
        unfold Mod.ptpTaken
        rw [hx]
        exact if_pos (hmine hm)
      refine htaken hbody ?_ fun _ h => h
      rw [(Mod.refreshed_shows _).1]
      exact ⟨rfl, rfl⟩
    · have hbody : m.ptpTaken n.val x = (m.putZ 0x1420 3 d).modServo fun s => { s with delayLog := x.logInterval } := by
        unfold Mod.ptpTaken
        rw [hx]
        exact if_pos (hmine hm)
      obtain ⟨hservo, -, hz, -⟩ := ((m.putZ 0x1420 3 d).modServo fun s => { s with delayLog := x.logInterval }).refreshed_shows
      refine htaken hbody ?_ fun _ h => h
      rw [hservo, hz 3 (by decide)]
      exact ⟨congrArg Val.int (m.get_putZ_same (i := 0x1420) (s := 3) d (by decide)), rfl⟩
    · have htoward : m.towardMaster n.val = false := Bool.eq_false_iff.mpr fun hc => hup (Mod.towardMaster_iff.mp hc)
      have hbody : m.ptpTaken n.val x = (m.send (.ptpDelayResp n.val x.source x.seq)).countOwn n.val 0 := by
        unfold Mod.ptpTaken
        rw [hx]
        exact if_pos (by rw [hflag, htoward]; rfl)
      refine htaken hbody ?_ fun _ h => h
      have hout (b : Mod) : (b.countOwn n.val 0).refreshDescriptions.out = b.out :=
        Eq.trans (Mod.refreshDescriptions_part (p := .out) _ (by decide)) (Mod.countOwn_part (p := .out) _ _ _ (by decide))
      rw [hout]
      exact List.mem_append_right _ (List.mem_singleton_self _)
    · have hbody : m.ptpTaken n.val x = m := by
        unfold Mod.ptpTaken
        obtain hx | ⟨hx, hno⟩ | ⟨⟨a, b, hx⟩, hno⟩ | ⟨hno, hx⟩ := hx
        · rw [hx]
        · rw [hx]
          refine if_neg ?_
          obtain hno | hno := hno
          · simp [hno]
          · simp [Mod.towardMaster_iff.mpr hno]
        · rw [hx]
          exact if_neg (by simp [hno])
        · have hnone := hnotMine hno
          obtain ⟨a, b, hx | hx⟩ | hx | ⟨d, hx⟩ := hx <;> rw [hx] <;> exact if_neg (by simp [hnone])
      refine does_act (g := fun m => m.takePtp n.val x) hs rfl ((Mod.takePtp_heeds hh ho).trans (by rw [hbody])) ?_
      exact (Mod.refreshDescriptions_part (p := .rebooting) _ (by decide)).trans hb

end Sys2Proof.Machine
end

section
/-! SUPPORT. The servo's timers, and what the module sends of time (R28-R33, R38). -/

namespace Sys2Proof.Machine

section
variable {m : Mod}

/-- A change of the servo's state is told. -/
theorem Mod.setServo_told (m : Mod) (st : Nat) (h : m.servoState ≠ st) : (m.setServo st).told 0x1401 0 [m.servoState, st] := by
  unfold Mod.setServo
  rw [if_neg h]
  exact ⟨_, Mod.mem_raiseRaw _ _ _ _ _⟩

/-! ### Lock and holdover -/

theorem Mod.servoLock_idle {since : Nanos} (hl : m.servo.lockSince = some since) (h : m.servoState ≠ acquiring ∨ m.ctr < since + 8 * second) : m.servoLock = m := by
  unfold Mod.servoLock
  rw [hl]
  refine if_neg ?_
  obtain h | h := h
  · simp [h]
  · simp [Nat.not_le.mpr h]

theorem servoLock_eq {since : Nanos} (hl : m.servo.lockSince = some since) (ha : m.servoState = acquiring) (h : since + 8 * second ≤ m.ctr) :
    m.servoLock = (m.setServo locked).refreshDescriptions := by
  unfold Mod.servoLock
  rw [hl]
  exact if_pos (by simp [ha, h])

theorem servoLock_shows {since : Nanos} (hl : m.servo.lockSince = some since) (ha : m.servoState = acquiring) (h : since + 8 * second ≤ m.ctr) :
    m.servoLock.servoState = locked ∧ m.servoLock.told 0x1401 0 [acquiring, locked] := by
  have htold := m.setServo_told locked (by rw [ha]; decide)
  rw [ha] at htold
  rw [servoLock_eq hl ha h]
  exact ⟨(Mod.refreshed_shows _).2.1.trans (m.setServo_shows locked).1, Mod.told_of_tells (Mod.tells_refreshDescriptions Mod.tells_refl) htold⟩

theorem Mod.holdoverEnd_idle (h : m.servoState ≠ holdover ∨ m.ctr < m.servo.stateAt + m.n 0x1430 0 * second) : m.holdoverEnd = m := by
  unfold Mod.holdoverEnd
  refine if_neg ?_
  obtain h | h := h
  · simp [h]
  · simp [Nat.not_le.mpr h]

theorem Mod.holdoverEnd_shows (hh : m.servoState = holdover) (h : m.servo.stateAt + m.n 0x1430 0 * second ≤ m.ctr) :
    m.holdoverEnd.servoState = freerun ∧ m.holdoverEnd.told 0x1403 0 [] := by
  have heq : m.holdoverEnd = ((m.setServo freerun).raise 0x1403 0 []).refreshDescriptions := by
    unfold Mod.holdoverEnd
    exact if_pos (by simp [hh, h])
  have hstate : ((m.setServo freerun).raise 0x1403 0 []).servoState = freerun :=
    (Mod.servoState_of_paces (Mod.paces_raise _ _ _)).trans (m.setServo_shows freerun).1
  rw [heq]
  exact ⟨(Mod.refreshed_shows _).2.1.trans hstate, Mod.told_of_tells (Mod.tells_refreshDescriptions Mod.tells_refl) (Mod.raise_told _ _ _ _)⟩

/-! ### The master's timeout -/

theorem Mod.setServo_keeps {β : Type} (F : ServoS → β) (hF : ∀ s t, F { s with stateAt := t, lockSince := none, slew := 0 } = F s) (m : Mod) (st : Nat) :
    F (m.setServo st).servo = F m.servo := by
  have hput (b : Mod) : (if st = freerun then b.put 0x1420 2 0 else b).servo = b.servo := by split <;> rfl
  unfold Mod.setServo
  dsimp only
  split
  · rfl
  · refine (congrArg F (Mod.raiseRaw_part (p := .servo) _ _ _ _ _ (by decide))).trans ?_
    exact (congrArg F (hput _)).trans (hF _ _)

/-- The master is lost: none is selected, and the module holds over. -/
theorem loseMaster_shows (m : Mod) : m.loseMaster.servo.selected = none
    ∧ (m.servoState = locked ∨ m.servoState = acquiring → m.loseMaster.servoState = holdover) := by
  have hcleared : ((m.modServo fun s => { s with selected := none, lockSince := none, awaiting := none }).putFlag 0x1420 7 false).servo.selected = none := rfl
  have hstate : ((m.modServo fun s => { s with selected := none, lockSince := none, awaiting := none }).putFlag 0x1420 7 false).servoState = m.servoState :=
    congrArg Val.nat (Mod.get_putFlag_frame (i := 0x1420) (s := 7) (j := 0x1420) (t := 1)
      (m.modServo fun s => { s with selected := none, lockSince := none, awaiting := none }) false (by decide) (by decide))
  unfold Mod.loseMaster
  dsimp only
  generalize (m.modServo fun s => { s with selected := none, lockSince := none, awaiting := none }).putFlag 0x1420 7 false = b at hcleared hstate
  rw [hstate]
  split
  · exact ⟨(Mod.setServo_keeps ServoS.selected (fun _ _ => rfl) b _).trans hcleared, fun _ => (b.setServo_shows holdover).1⟩
  · next h => exact ⟨hcleared, fun hon => absurd (by simpa using hon) h⟩

/-- The masters of a source on a port are forgotten. -/
def Mod.masterForgotten (m : Mod) (f : Foreign) : Mod :=
  m.modServo fun s => { s with masters := s.masters.filter fun x => !(x.port = f.port && x.source = f.source) }

theorem Mod.announceTimeout_idle {f : Foreign} (hs : m.servo.selected = some f) (h : m.ctr < m.servo.lastSync + m.n 0x1412 0 * announceNanos f.logAnnounce) :
    m.announceTimeout = m := by
  unfold Mod.announceTimeout
  rw [hs]
  exact if_pos h

theorem Mod.announceTimeout_eq {f : Foreign} (hs : m.servo.selected = some f) (h : m.servo.lastSync + m.n 0x1412 0 * announceNanos f.logAnnounce ≤ m.ctr) :
    m.announceTimeout = (m.masterForgotten f).loseMaster.selectMaster.refreshDescriptions := by
  unfold Mod.announceTimeout
  rw [hs]
  exact if_neg (Nat.not_lt.mpr h)

theorem Mod.selectMaster_none (h : m.servo.masters = []) : m.selectMaster = m := by
  have hbest : m.bestMaster = none := by
    unfold Mod.bestMaster
    rw [h]
    rfl
  unfold Mod.selectMaster
  rw [hbest]

/-- A master silent for its timeout is forgotten and lost; with no other, the module holds over. -/
theorem announceTimeout_shows {f : Foreign} (hs : m.servo.selected = some f) (h : m.servo.lastSync + m.n 0x1412 0 * announceNanos f.logAnnounce ≤ m.ctr) :
    (∀ z ∈ m.announceTimeout.servo.masters, z.port ≠ f.port ∨ z.source ≠ f.source)
      ∧ ((∀ z ∈ m.servo.masters, z.port = f.port ∧ z.source = f.source) → m.announceTimeout.servo.selected = none
        ∧ (m.servoState = locked ∨ m.servoState = acquiring → m.announceTimeout.servoState = holdover)) := by
  obtain ⟨hservo, hstate, -, -⟩ := (m.masterForgotten f).loseMaster.selectMaster.refreshed_shows
  have hmasters : (m.masterForgotten f).loseMaster.servo.masters = m.servo.masters.filter fun x => !(x.port = f.port && x.source = f.source) :=
    Mod.masters_loseMaster _
  obtain ⟨hselected, hholds⟩ := loseMaster_shows (m.masterForgotten f)
  rw [Mod.announceTimeout_eq hs h, hservo, hstate]
  refine ⟨fun z hz => ?_, fun hall => ?_⟩
  · rw [Mod.masters_selectMaster, hmasters] at hz
    have := (List.mem_filter.mp hz).2
    by_cases hp : z.port = f.port
    · exact .inr (by simpa [hp] using this)
    · exact .inl hp
  · have hnone : (m.masterForgotten f).loseMaster.servo.masters = [] := by
      rw [hmasters]
      refine List.filter_eq_nil_iff.mpr fun z hz => ?_
      obtain ⟨hp, hsrc⟩ := hall z hz
      simp [hp, hsrc]
    rw [Mod.selectMaster_none hnone]
    exact ⟨hselected, hholds⟩

/-! ### What goes out -/

/-- A datagram of the module's own goes out. -/
theorem Mod.send_countOwn_shows (m : Mod) (o : Output) (port q : Nat) : ((m.send o).countOwn port q).out = m.out ++ [o] ∧ ((m.send o).countOwn port q).servo = m.servo
    ∧ ((m.send o).countOwn port q).now = m.now :=
  ⟨Mod.countOwn_part (p := .out) _ _ _ (by decide), Mod.countOwn_part (p := .servo) _ _ _ (by decide), Mod.countOwn_part (p := .now) _ _ _ (by decide)⟩

/-- A Delay_Req is due to the selected master. -/
def Mod.delayDue (m : Mod) (f : Foreign) : Prop :=
  m.timeFn = running ∧ m.portUp f.port = true ∧ ∀ a, m.servo.delayAt = some a → a + announceNanos m.servo.delayLog ≤ m.ctr

theorem Mod.delayReq_none (h : m.servo.selected = none) : m.delayReq = m := by
  unfold Mod.delayReq
  rw [h]

section
variable {f : Foreign} (hs : m.servo.selected = some f)
include hs

theorem Mod.delayReq_eq : (m.delayDue f → m.delayReq = ((m.modServo fun s => { s with delayAt := some m.ctr }).send
      (.ptpDelayReq f.port (m.n 0x1411 0 = 0))).countOwn f.port 0) ∧ (¬m.delayDue f → m.delayReq = m) := by
  unfold Mod.delayReq Mod.delayDue
  rw [hs]
  cases ha : m.servo.delayAt with
  | none => exact ⟨fun ⟨hr, hu, _⟩ => if_pos (by simp [hr, hu]), fun h => if_neg fun hc => h (by simpa using hc)⟩
  | some a => exact ⟨fun ⟨hr, hu, hd⟩ => if_pos (by simp [hr, hu, hd a rfl]), fun h => if_neg fun hc => h (by simpa [and_assoc] using hc)⟩

end

/-- The module is master on a port. -/
def Mod.mastersOn (m : Mod) (port : Nat) : Prop := m.timeFn = running ∧ m.flag 0x1414 0 = true ∧ (m.n 0x1413 0).testBit port = true ∧ m.portUp port = true
  ∧ ∀ f, m.servo.selected = some f → f.port ≠ port

theorem Mod.mastersOn_iff {port : Nat} : m.mastersOn port ↔ ¬(m.timeFn ≠ running || !m.flag 0x1414 0 || !(m.n 0x1413 0).testBit port || !m.portUp port
    || m.towardMaster port) = true := by
  unfold Mod.mastersOn Mod.towardMaster
  cases m.servo.selected with
  | none => simp [and_assoc]
  | some f => simp [and_assoc]

/-- An Announce is sent when its interval is over, and a Sync with its Follow_Up. -/
def Mod.sendAnnounce (m : Mod) (port : Nat) : Mod :=
  if !intervalOver m.servo.sentAnnounce port logAnnounce m.ctr then m
  else ((m.modServo fun s => { s with sentAnnounce := noteSent s.sentAnnounce port m.ctr }).send (.ptpAnnounce port m.advertised logAnnounce)).countOwn port 0

def Mod.syncSent (m : Mod) (port : Nat) : Mod :=
  ((m.modServo fun s => { s with sentSync := noteSent s.sentSync port m.ctr }).send (.ptpSync port logSync)).countOwn port 0

def Mod.sendSync (m : Mod) (port : Nat) : Mod :=
  if !intervalOver m.servo.sentSync port logSync m.ctr then m
  else ((m.syncSent port).send (.ptpFollowUp port (m.syncSent port).now logSync)).countOwn port 0

theorem Mod.masterSend_eq {port : Nat} {announce : Bool} : m.masterSend port announce =
    if m.timeFn ≠ running || !m.flag 0x1414 0 || !(m.n 0x1413 0).testBit port || !m.portUp port || m.towardMaster port then m
    else if announce then m.sendAnnounce port else m.sendSync port := rfl

theorem Mod.masterSend_idle {port : Nat} {announce : Bool} (h : ¬m.mastersOn port) : m.masterSend port announce = m := by
  rw [Mod.masterSend_eq]
  exact if_pos (by by_contra hc; exact h (Mod.mastersOn_iff.mpr hc))

theorem Mod.masterSend_master {port : Nat} {announce : Bool} (h : m.mastersOn port) :
    m.masterSend port announce = if announce then m.sendAnnounce port else m.sendSync port := by
  rw [Mod.masterSend_eq]
  exact if_neg (Mod.mastersOn_iff.mp h)

theorem Mod.masterSend_early {port : Nat} {announce : Bool} (ha : announce = true → intervalOver m.servo.sentAnnounce port logAnnounce m.ctr = false)
    (hsync : announce = false → intervalOver m.servo.sentSync port logSync m.ctr = false) : m.masterSend port announce = m := by
  by_cases h : m.mastersOn port
  · rw [Mod.masterSend_master h]
    cases announce with
    | true =>
      rw [if_pos rfl, Mod.sendAnnounce, ha rfl]
      rfl
    | false =>
      rw [if_neg (by decide), Mod.sendSync, hsync rfl]
      rfl
  · exact Mod.masterSend_idle h

theorem Mod.mem_noteSent (sent : List (Nat × Nanos)) (port : Nat) (now : Nanos) : (port, now) ∈ noteSent sent port now :=
  List.mem_append_right _ (List.mem_singleton_self _)

theorem Mod.sendAnnounce_shows {port : Nat} (h : intervalOver m.servo.sentAnnounce port logAnnounce m.ctr = true) :
    Output.ptpAnnounce port m.advertised logAnnounce ∈ (m.sendAnnounce port).out ∧ (port, m.ctr) ∈ (m.sendAnnounce port).servo.sentAnnounce := by
  obtain ⟨hout, hservo, -⟩ := Mod.send_countOwn_shows (m.modServo fun s => { s with sentAnnounce := noteSent s.sentAnnounce port m.ctr })
    (.ptpAnnounce port m.advertised logAnnounce) port 0
  unfold Mod.sendAnnounce
  rw [h, if_neg (by decide), hout, hservo]
  exact ⟨List.mem_append_right _ (List.mem_singleton_self _), Mod.mem_noteSent _ _ _⟩

theorem Mod.sendSync_shows {port : Nat} (h : intervalOver m.servo.sentSync port logSync m.ctr = true) :
    Output.ptpSync port logSync ∈ (m.sendSync port).out ∧ Output.ptpFollowUp port m.now logSync ∈ (m.sendSync port).out
      ∧ (port, m.ctr) ∈ (m.sendSync port).servo.sentSync := by
  obtain ⟨hout, hservo, hnow⟩ := Mod.send_countOwn_shows (m.modServo fun s => { s with sentSync := noteSent s.sentSync port m.ctr }) (.ptpSync port logSync) port 0
  obtain ⟨hout', hservo', -⟩ := Mod.send_countOwn_shows (m.syncSent port) (.ptpFollowUp port (m.syncSent port).now logSync) port 0
  have hsent : (m.syncSent port).now = m.now := hnow
  unfold Mod.sendSync
  rw [h, if_neg (by decide), hout', hservo', hsent]
  refine ⟨List.mem_append_left _ ?_, List.mem_append_right _ (List.mem_singleton_self _), ?_⟩
  · show _ ∈ (m.syncSent port).out
    unfold Mod.syncSent
    rw [hout]
    exact List.mem_append_right _ (List.mem_singleton_self _)
  · show _ ∈ (m.syncSent port).servo.sentSync
    unfold Mod.syncSent
    rw [hservo]
    exact Mod.mem_noteSent _ _ _

/-! ### PPS -/

theorem ppsOut_eq : (m.now % second = 0 ∧ (m.servoState = locked ∨ m.servoState = holdover) ∧ m.flag 0x1451 0 = true → m.ppsOut = m.send .ppsPulse)
    ∧ (¬(m.now % second = 0 ∧ (m.servoState = locked ∨ m.servoState = holdover) ∧ m.flag 0x1451 0 = true) → m.ppsOut = m) := by
  unfold Mod.ppsOut
  exact ⟨fun h => if_pos (by simpa [and_assoc] using h), fun h => if_neg fun hc => h (by simpa [and_assoc] using hc)⟩

theorem Mod.nearest_cast (r p : Nat) : (if 2 * (r : Int) ≤ (p : Int) then (r : Int) else r - p) = if 2 * r ≤ p then (r : Int) else r - p := by
  have : 2 * (r : Int) ≤ (p : Int) ↔ 2 * r ≤ p := by omega
  rw [if_congr this rfl rfl]

theorem Mod.z_ppsIn : m.ppsIn.z 0x1450 0 = if 2 * (m.now % second) ≤ second then ((m.now % second : Nat) : Int) else ((m.now % second : Nat) : Int) - second := by
  rw [← Mod.nearest_cast]
  unfold Mod.ppsIn
  generalize second = p
  exact congrArg Val.int (m.get_putZ_same (i := 0x1450) (s := 0) _ (by decide))

theorem Mod.ppsLost_idle (h : m.servo.ppsAbsent = true ∨ m.ctr < m.servo.ppsAt + 2 * second) : m.ppsLost = m := by
  unfold Mod.ppsLost
  refine if_pos ?_
  obtain h | h := h
  · simp [h]
  · simp [h]

theorem Mod.ppsLost_shows (ha : m.servo.ppsAbsent = false) (h : m.servo.ppsAt + 2 * second ≤ m.ctr) :
    m.ppsLost.servo.ppsAbsent = true ∧ m.ppsLost.told 0x1406 0 [] := by
  have heq : m.ppsLost = (m.modServo fun s => { s with ppsAbsent := true }).raise 0x1406 0 [] := by
    unfold Mod.ppsLost
    exact if_neg (by simp [ha, Nat.not_lt.mpr h])
  have hservo (b : Mod) : (b.raise 0x1406 0 []).servo = b.servo := Mod.raise_part (p := .servo) _ _ _ _ (by decide)
  rw [heq, hservo]
  exact ⟨rfl, Mod.raise_told _ _ _ _⟩

end

/-- Settles O29: each timer by whether it is due, each message by whether the module is to send it. -/
theorem timeIsKeptAndSent : Obligations.TimeIsKeptAndSent := by
  unfold Obligations.TimeIsKeptAndSent
  intro s t hs m
  have hb : m.rebooting = false := hs.2
  refine ⟨fun since hl => ⟨fun ha h => ?_, fun h => ?_⟩, fun hl => ?_, fun hnone => ⟨?_, ?_⟩, fun f hf => ⟨fun h => ?_, fun h => ?_, ?_⟩, fun hh h => ?_,
    fun h => ?_, fun n => ?_, ⟨fun h => ?_, fun h => ?_⟩, ?_, fun ha h => ?_, fun h => ?_⟩
  · exact completes_act (g := fun m => m.servoLock) rfl hs (servoLock_shows hl ha h) fun _ h => h
  · exact does_act (g := fun m => m.servoLock) hs rfl (Mod.servoLock_idle hl h) hb
  · refine does_act (g := fun m => m.servoLock) hs rfl ?_ hb
    unfold Mod.servoLock
    rw [hl]
  · refine does_act (g := fun m => m.announceTimeout) hs rfl ?_ hb
    unfold Mod.announceTimeout
    rw [hnone]
  · exact does_act (g := fun m => m.delayReq) hs rfl (Mod.delayReq_none hnone) hb
  · exact does_act (g := fun m => m.announceTimeout) hs rfl (Mod.announceTimeout_idle hf h) hb
  · exact completes_act (g := fun m => m.announceTimeout) rfl hs (announceTimeout_shows hf h) fun _ h => h
  · obtain ⟨hdue, hnot⟩ := Mod.delayReq_eq hf
    refine ⟨fun h => completes_act (g := fun m => m.delayReq) rfl hs ?_ fun _ h => h, fun h => does_act (g := fun m => m.delayReq) hs rfl (hnot h) hb⟩
    obtain ⟨hout, hservo, -⟩ := Mod.send_countOwn_shows (m.modServo fun s => { s with delayAt := some m.ctr }) (.ptpDelayReq f.port (m.n 0x1411 0 = 0)) f.port 0
    show _ ∈ m.delayReq.out ∧ m.delayReq.servo.delayAt = _
    rw [hdue h, hout, hservo]
    exact ⟨List.mem_append_right _ (List.mem_singleton_self _), rfl⟩
  · exact completes_act (g := fun m => m.holdoverEnd) rfl hs (Mod.holdoverEnd_shows hh h) fun _ h => h
  · exact does_act (g := fun m => m.holdoverEnd) hs rfl (Mod.holdoverEnd_idle h) hb
  · refine ⟨fun hm h => completes_act (g := fun m => m.masterSend n.val true) rfl hs ?_ fun _ h => h,
      fun hm h => completes_act (g := fun m => m.masterSend n.val false) rfl hs ?_ fun _ h => h, fun h => ?_, fun h => ?_⟩
    · show _ ∈ (m.masterSend n.val true).out ∧ _ ∈ (m.masterSend n.val true).servo.sentAnnounce
      rw [Mod.masterSend_master hm]
      exact Mod.sendAnnounce_shows h
    · show _ ∈ (m.masterSend n.val false).out ∧ _ ∈ (m.masterSend n.val false).out ∧ _ ∈ (m.masterSend n.val false).servo.sentSync
      rw [Mod.masterSend_master hm]
      exact Mod.sendSync_shows h
    · refine does_act (g := fun m => m.masterSend n.val true) hs rfl ?_ hb
      obtain h | h := h
      · exact Mod.masterSend_idle h
      · exact Mod.masterSend_early (fun _ => h) fun hc => absurd hc (by decide)
    · refine does_act (g := fun m => m.masterSend n.val false) hs rfl ?_ hb
      obtain h | h := h
      · exact Mod.masterSend_idle h
      · exact Mod.masterSend_early (fun hc => absurd hc (by decide)) fun _ => h
  · exact does_act (g := fun m => m.ppsOut) hs rfl (ppsOut_eq.1 h) hb
  · exact does_act (g := fun m => m.ppsOut) hs rfl (ppsOut_eq.2 h) hb
  · exact completes_act (g := fun m => m.ppsIn) rfl hs ⟨rfl, rfl, m.z_ppsIn⟩ fun _ h => h
  · exact completes_act (g := fun m => m.ppsLost) rfl hs (Mod.ppsLost_shows ha h) fun _ h => h
  · exact does_act (g := fun m => m.ppsLost) hs rfl (Mod.ppsLost_idle h) hb

end Sys2Proof.Machine
end

section
/-! SUPPORT. What planning a tick leaves of the time (R35, R133). -/

namespace Sys2Proof.Machine

/-- The tick and the family it is counted in. -/
def Mod.clock (m : Mod) : Nat × Family := (m.tick, m.fam)

section
variable {m a b : Mod}

theorem Mod.clock_of_parts (h1 : b.part .tick = a.part .tick) (h2 : b.part .fam = a.part .fam) : b.clock = a.clock := Prod.ext h1 h2

@[simp] theorem Mod.clock_ite {p : Prop} [Decidable p] : (if p then a else b).clock = if p then a.clock else b.clock := apply_ite ..

@[simp] theorem Mod.clock_each {α : Type} {l : List α} {f : Mod → α → Mod} (hf : ∀ m x, (f m x).clock = m.clock) : (m.each l f).clock = m.clock :=
  Mod.each_holds (P := fun b => b.clock = m.clock) (fun b x hb => (hf b x).trans hb) rfl

@[simp] theorem Mod.clock_put (i s v : Nat) : (m.put i s v).clock = m.clock := rfl

@[simp] theorem Mod.clock_putZ (i s : Nat) (v : Int) : (m.putZ i s v).clock = m.clock := rfl

@[simp] theorem Mod.clock_modRend (r : Nat) (f : RendS → RendS) : (m.modRend r f).clock = m.clock := rfl

@[simp] theorem Mod.clock_modGroup (g : Nat) (f : GroupS → GroupS) : (m.modGroup g f).clock = m.clock := rfl

@[simp] theorem Mod.clock_bump (i s : Nat) : (m.bump i s).clock = m.clock :=
  Mod.clock_of_parts (Mod.bump_part (p := .tick) _ _ _ (by decide)) (Mod.bump_part (p := .fam) _ _ _ (by decide))

@[simp] theorem Mod.clock_raise (code r : Nat) (l : List Nat) : (m.raise code r l).clock = m.clock :=
  Mod.clock_of_parts (Mod.raise_part (p := .tick) _ _ _ _ (by decide)) (Mod.raise_part (p := .fam) _ _ _ _ (by decide))

@[simp] theorem Mod.clock_raiseLimited (code r : Nat) (d : Nanos) (l : List Nat) : (m.raiseLimited code r d l).clock = m.clock :=
  Mod.clock_of_parts (Mod.raiseLimited_part (p := .tick) _ _ _ _ _ (by decide)) (Mod.raiseLimited_part (p := .fam) _ _ _ _ _ (by decide))

@[simp] theorem Mod.clock_putMin (i s : Nat) (v : Int) : (m.putMin i s v).clock = m.clock := by
  have hfirst : (m.putFirst i s v).clock = m.clock := rfl
  unfold Mod.putMin
  split
  · exact hfirst
  · split <;> rfl

@[simp] theorem Mod.clock_openCodedPicture (r frame : Nat) : (m.openCodedPicture r frame).clock = m.clock := by
  simp [Mod.openCodedPicture]

@[simp] theorem Mod.clock_planCourse (r : Nat) (x : Handed) : (m.planCourse r x).clock = m.clock := by
  simp [Mod.planCourse]

@[simp] theorem Mod.clock_setAsideFor (g refill : Nat) : (m.setAsideFor g refill).1.clock = m.clock := by
  unfold Mod.setAsideFor
  split <;> rfl

@[simp] theorem Mod.clock_drawGrant (x : Claim) : (m.drawGrant x).clock = m.clock := by
  simp [Mod.drawGrant]

@[simp] theorem Mod.clock_planGroup (g : Nat) : (m.planGroup g).clock = m.clock := by
  unfold Mod.planGroup
  extract_lets claims begun k gs num size aside b G psi drawn rs order lost out stepped cut left c d shown e f
  split
  · rfl
  · have hb : b.clock = m.clock := Mod.clock_setAsideFor ..
    have hd : d.clock = m.clock := (Mod.clock_each fun _ x => Mod.clock_drawGrant x).trans hb
    have he : e.clock = m.clock := (Mod.clock_putMin ..).trans hd
    have hf : f.clock = m.clock := by
      refine Mod.clock_ite.trans ?_
      rw [Mod.clock_bump, ite_self, he]
    rw [Mod.clock_ite, Mod.clock_raiseLimited, Mod.clock_bump, ite_self, hf]

@[simp] theorem Mod.clock_notePlan (r : Nat) (x : Plan) : (m.notePlan r x).clock = m.clock := rfl

@[simp] theorem Mod.clock_noteFallback (r : Nat) (x : Plan) : (m.noteFallback r x).clock = m.clock := by
  have hless (l : List (Nat × List Nat)) : ({ m with fallbacks := l } : Mod).clock = m.clock := rfl
  unfold Mod.noteFallback
  split
  · rfl
  · simp [hless]

/-- A tick's plans: those of the last tick gone, its courses' and its groups', and what they show. -/
def Mod.plansCleared (m : Mod) : Mod :=
  m.each (List.range 128) fun m r => m.modRend r fun s => if s.plans = [] then s else { s with plans := [] }

def Mod.coursesPlanned (m : Mod) (T : Nat) : Mod := m.each (List.range 128) fun m r => m.each (m.dueAt r T) fun m h => m.planCourse r h

def Mod.groupsPlanned (m : Mod) : Mod := m.each (List.range 32) fun m g => m.planGroup g

def Mod.plansNoted (m : Mod) : Mod :=
  m.each (List.range 128) fun m r => m.each (m.rend r).plans fun m p => (m.notePlan r p).noteFallback r p

theorem Mod.planTick_eq : m.planTick = ((m.plansCleared.coursesPlanned (m.tick + 1)).groupsPlanned).plansNoted := rfl

theorem Mod.clock_planTick : m.planTick.clock = m.clock := by
  have hnoted (b : Mod) : b.plansNoted.clock = b.clock := by
    unfold Mod.plansNoted
    exact Mod.clock_each fun b r => Mod.clock_each fun b p => (Mod.clock_noteFallback r p).trans (Mod.clock_notePlan r p)
  have hgroups (b : Mod) : b.groupsPlanned.clock = b.clock := by
    unfold Mod.groupsPlanned
    exact Mod.clock_each fun b g => Mod.clock_planGroup g
  have hcourses (b : Mod) (T : Nat) : (b.coursesPlanned T).clock = b.clock := by
    unfold Mod.coursesPlanned
    exact Mod.clock_each fun b r => Mod.clock_each fun b h => Mod.clock_planCourse r h
  have hcleared (b : Mod) : b.plansCleared.clock = b.clock := by
    unfold Mod.plansCleared
    exact Mod.clock_each fun b r => Mod.clock_modRend r _
  rw [Mod.planTick_eq, hnoted, hgroups, hcourses, hcleared]

/-- Closing a tick leaves the tick and the family. -/
theorem Mod.tickTime_closeTick : m.closeTick.tickTime = m.tickTime := by
  have hcut (b : Mod) : b.cutAll.refreshOwed.clock = b.clock :=
    Mod.clock_of_parts (Mod.cutTasks_part (m := b) (p := .tick) _ (by decide)) (Mod.cutTasks_part (m := b) (p := .fam) _ (by decide))
  have hclock : m.closeTick.clock = m.clock := by
    unfold Mod.closeTick
    rw [hcut, Mod.clock_planTick]
  generalize m.closeTick = b at hclock ⊢
  obtain ⟨htick, hfam⟩ := Prod.mk.inj hclock
  unfold Mod.tickTime
  rw [htick, hfam]

end

end Sys2Proof.Machine
end

section
/-! SUPPORT. Edges, timed launches, abandoned commits and ends of STOPPING functions (R17, R19, R22, R70, R311). -/

namespace Sys2Proof.Machine

/-! ### The edge of a tick -/

theorem length_insertRaised (x : Raised) (l : List Raised) : (insertRaised x l).length = l.length + 1 := by
  induction l with
  | nil => rfl
  | cons y r ih =>
    unfold insertRaised
    split
    · exact congrArg (· + 1) ih
    · rfl

theorem length_sortRaised (l : List Raised) : (sortRaised l).length = l.length := by
  have hfold (acc : List Raised) : (l.foldl (fun acc x => insertRaised x acc) acc).length = acc.length + l.length := by
    induction l generalizing acc with
    | nil => rfl
    | cons x l ih =>
      rw [List.foldl_cons, ih, length_insertRaised, List.length_cons]
      omega
  exact (hfold []).trans (Nat.zero_add _)

/-- What the events of a tick add to a log, and what they leave of it. -/
theorem EventLog.append_shows (e : EventLog) (time : Nanos) (l : List Raised) :
    (e.append time l).epoch = e.epoch ∧ (e.append time l).next = e.next + l.length
      ∧ (e.append time l).log = (e.log ++ numberEvents e.epoch time e.next (sortRaised l)).drop (e.log.length + l.length - logLimit) := by
  have hlen : (numberEvents e.epoch time e.next (sortRaised l)).length = l.length := by
    rw [numberEvents_length, length_sortRaised]
  unfold EventLog.append
  generalize numberEvents e.epoch time e.next (sortRaised l) = recs at hlen ⊢
  refine ⟨rfl, congrArg (e.next + ·) hlen, ?_⟩
  dsimp only
  rw [List.length_append, hlen]

theorem State.tickEdge_events {s : State} (h : s.m.runs = true) :
    s.tickEdge.events = s.events.append (s.m.fam.edge s.m.tick) s.m.closeTick.raised ∧ s.tickEdge.pending = s.pending := by
  have htime : s.m.closeTick.tickTime = s.m.fam.edge s.m.tick := Mod.tickTime_closeTick
  unfold State.tickEdge
  rw [← htime, h]
  simp only [Bool.not_true, Bool.false_eq_true, if_false, and_self]

/-! ### What waits, and one of the objects that show it -/

/-- What waits in a module, and the value of one object. -/
def Mod.waits (m : Mod) (i t : Nat) : PreudS × Val := (m.preud, m.get i t)

theorem Mod.waits_of {a b : Mod} {i t : Nat} (hp : b.part .preud = a.part .preud) (hg : b.get i t = a.get i t) : b.waits i t = a.waits i t :=
  Prod.ext hp hg

theorem Mod.waits_ite {p : Prop} [Decidable p] {a b : Mod} {i t : Nat} : (if p then a else b).waits i t = if p then a.waits i t else b.waits i t :=
  apply_ite (fun m => Mod.waits m i t) ..

theorem Mod.waits_each {α : Type} {m : Mod} {l : List α} {f : Mod → α → Mod} {i t : Nat} (hf : ∀ m, ∀ x ∈ l, (f m x).waits i t = m.waits i t) :
    (m.each l f).waits i t = m.waits i t := by
  unfold Mod.each
  induction l generalizing m with
  | nil => rfl
  | cons x l ih => exact (ih fun m y hy => hf m y (List.mem_cons_of_mem _ hy)).trans (hf m x List.mem_cons_self)

section
variable (m : Mod) {i t : Nat}

theorem Mod.waits_put {j k : Nat} (v : Nat) (hj : 0x1440 ≤ j) (hk : j * 256 + k ≠ i * 256 + t) : (m.put j k v).waits i t = m.waits i t :=
  Mod.waits_of rfl (m.get_put_frame v (by omega) hk)

end

section
variable (m : Mod)

/-- The count of writes applied is no value that a fuse gives: setting any other object leaves it. -/
theorem Mod.get_set_applied {idx sub : Nat} (v : Val) (hk : keyOf idx sub ≠ keyOf 0x1440 2) : (m.set idx sub v).get 0x1440 2 = m.get 0x1440 2 := by
  have hdefault (a b : Store) : a.default 0x1440 2 = b.default 0x1440 2 := by
    have hnone : ¬(dictIdx 0x1440 = 0x1100 ∧ 2 = 1) := by decide
    simp only [Store.default, defaultVal, hnone, if_false]
  unfold Mod.get Mod.set Store.get
  rw [Store.lookup_set_other _ _ hk, hdefault (m.objs.set idx sub v) m.objs]

end

section
variable (m : Mod) {i t : Nat}

theorem Mod.waits_set {idx sub : Nat} (v : Val) (hk : keyOf idx sub ≠ keyOf 0x1440 2) : (m.set idx sub v).waits 0x1440 2 = m.waits 0x1440 2 :=
  Mod.waits_of rfl (m.get_set_applied v hk)

theorem Mod.waits_bump {j k : Nat} (hj : 0x1440 ≤ j) (hk : j * 256 + k ≠ i * 256 + t) : (m.bump j k).waits i t = m.waits i t :=
  Mod.waits_of (m.bump_part (p := .preud) _ _ (by decide)) (m.get_bump_frame (by omega) hk)

theorem Mod.waits_raise (c r : Nat) (l : List Nat) (h : i * 256 + t < 0x740000) : (m.raise c r l).waits i t = m.waits i t :=
  Mod.waits_of (m.raise_part (p := .preud) _ _ _ (by decide)) (m.get_raise_frame _ _ _ (.inl h))

theorem Mod.waits_modTwin (f : TwinS → TwinS) : (m.modTwin f).waits i t = m.waits i t := rfl

theorem Mod.waits_modChan (n : Nat) (f : ChanS → ChanS) : (m.modChan n f).waits i t = m.waits i t := rfl

theorem Mod.waits_modCheck (n : Nat) (f : CheckS → CheckS) : (m.modCheck n f).waits i t = m.waits i t := rfl

theorem Mod.waits_showTimed (hk : 0x144001 ≠ i * 256 + t) : m.showTimed.waits i t = m.waits i t :=
  m.waits_put _ (by decide) hk

/-! ### The write that has come -/

theorem Mod.waits_retest {q : Nat} (hq : q < 9) : (m.retest q).waits 0x1440 2 = m.waits 0x1440 2 := by
  have hlanes : (m.freeLanes q).waits 0x1440 2 = m.waits 0x1440 2 := by
    refine Mod.waits_of (m.freeLanes_part (p := .preud) _ (by decide)) ?_
    unfold Mod.freeLanes
    dsimp only
    rw [Mod.get_put_frame _ _ (by omega) (by omega)]
    refine Mod.get_each fun b l _ => ?_
    split
    · exact b.get_put_frame _ (by omega) (by omega)
    · rfl
  have hfailed (b : Mod) : (b.freeFailed q).waits 0x1440 2 = b.waits 0x1440 2 := by
    unfold Mod.freeFailed
    refine Mod.waits_each fun b l _ => ?_
    have hpasses (c : Mod) : (c.lanePasses l).waits 0x1440 2 = c.waits 0x1440 2 := rfl
    rw [hpasses]
    split
    · exact b.waits_put _ (by omega) (by omega)
    · rfl
  have hcage (b : Mod) : (b.dropCage q causeRetrain).waits 0x1440 2 = b.waits 0x1440 2 :=
    Mod.waits_of (b.dropCage_part (p := .preud) _ _ (by decide)) (b.get_dropCage hq _ (by decide) (by decide))
  unfold Mod.retest
  rw [hcage, hfailed, hlanes]

theorem Mod.waits_abortSlot (s why reason : Nat) : (m.abortSlot s why reason).waits 0x1440 2 = m.waits 0x1440 2 := by
  unfold Mod.abortSlot
  rw [Mod.waits_raise _ _ _ _ (by decide), Mod.waits_put _ _ (by omega) (by omega), Mod.waits_put _ _ (by omega) (by omega)]

theorem Mod.waits_releaseOldest (r : Nat) : (m.releaseOldest r).waits 0x1440 2 = m.waits 0x1440 2 := by
  have hovertake (b : Mod) (f : Nat) : (b.overtake r f).waits 0x1440 2 = b.waits 0x1440 2 := by
    refine Mod.waits_each (l := List.range 16) fun b s _ => ?_
    dsimp only
    split
    · split
      · exact b.waits_abortSlot s 2 0
      · rfl
    · rfl
  unfold Mod.releaseOldest
  split
  · rfl
  · split
    · rfl
    · split
      · rfl
      · exact hovertake _ _

theorem Mod.waits_applyClip (s T : Nat) : (m.applyClip s T).waits 0x1440 2 = m.waits 0x1440 2 := by
  have hstarts (b : Mod) (f : SlotS → SlotS) (x y z r q : Nat) :
      ((((((b.modSlot s f).put (0x6240 + s) 1 x).put (0x6240 + s) 2 y).put (0x6240 + s) 3 0).put (0x6240 + s) 4 z).raise 0x6001 s [s, r, q]).waits
        0x1440 2 = b.waits 0x1440 2 := by
    rw [Mod.waits_raise _ _ _ _ (by decide), Mod.waits_put _ _ (by omega) (by omega), Mod.waits_put _ _ (by omega) (by omega),
      Mod.waits_put _ _ (by omega) (by omega), Mod.waits_put _ _ (by omega) (by omega)]
    rfl
  have hreleased (c : Bool) (r : Nat) : (m.when c fun m => m.releaseOldest r).waits 0x1440 2 = m.waits 0x1440 2 :=
    Mod.waits_ite.trans (by rw [Mod.waits_releaseOldest, ite_self])
  unfold Mod.applyClip
  dsimp only
  split
  · exact (Mod.waits_abortSlot _ s 3 _).trans (hreleased ..)
  · exact (hstarts ..).trans (hreleased ..)

theorem Mod.waits_stopClip (s : Nat) : (m.stopClip s).waits 0x1440 2 = m.waits 0x1440 2 := by
  unfold Mod.stopClip
  dsimp only
  split
  · exact Mod.waits_abortSlot _ s 1 0
  · split
    · exact m.waits_abortSlot s 1 0
    · rfl

theorem Mod.waits_clearSlot (s : Nat) : (m.clearSlot s).waits 0x1440 2 = m.waits 0x1440 2 := by
  unfold Mod.clearSlot
  dsimp only
  split
  · exact m.waits_put _ (by omega) (by omega)
  · rfl

theorem Mod.waits_mortarSend (vc n : Nat) (frame : Nat → Output) : (m.mortarSend vc n frame).waits 0x1440 2 = m.waits 0x1440 2 :=
  Mod.waits_of (m.mortarSend_part (p := .preud) _ _ _ (by decide))
    (congrArg (Store.get · 0x1440 2) (m.mortarSend_part (p := .objs) vc n frame (by decide)))

theorem Mod.waits_applyHandover (kind T : Nat) : (m.applyHandover kind T).waits 0x1440 2 = m.waits 0x1440 2 := by
  unfold Mod.applyHandover
  split
  · rw [Mod.waits_raise _ _ _ _ (by decide), Mod.waits_put _ _ (by decide) (by decide)]
  · unfold Mod.beginHandover
    dsimp only
    rw [Mod.waits_mortarSend, Mod.waits_put _ _ (by decide) (by decide), Mod.waits_modTwin]

/-- A write that takes effect leaves what waits, and the count of the writes that have. -/
theorem Mod.waits_applyRt {idx sub : Nat} (v : Val) (T : Nat) (hk : keyOf idx sub ≠ keyOf 0x1440 2) :
    (m.applyRt idx sub v T).waits 0x1440 2 = m.waits 0x1440 2 := by
  unfold Mod.applyRt
  simp only [within, Bool.and_eq_true, decide_eq_true_eq]
  split
  · exact m.waits_retest (by omega)
  split
  · split
    · split
      · exact m.waits_put _ (by omega) (by omega)
      · rfl
    · exact (Mod.waits_modChan ..).trans (m.waits_put 0 (by omega) (by omega))
  split
  · split
    · split
      · exact m.waits_applyClip ..
      · rfl
    · split
      · exact m.waits_stopClip _
      · exact m.waits_clearSlot _
  split
  · exact m.waits_applyHandover ..
  split
  · exact (Mod.waits_modCheck ..).trans (m.waits_set v hk)
  · exact m.waits_set v hk

/-- A value of a window that means no more than the value is the one read. -/
theorem Mod.get_applyRt {idx sub : Nat} (v : Val) (T : Nat) (h : 0x5400 ≤ idx ∧ idx ≤ 0x547F) (hs : sub < 256) : (m.applyRt idx sub v T).get idx sub = v := by
  have hset : m.applyRt idx sub v T = m.set idx sub v := by
    unfold Mod.applyRt
    simp only [within, Bool.and_eq_true, decide_eq_true_eq]
    rw [if_neg (by omega), if_neg (by omega), if_neg (by omega), if_neg (by omega), if_neg (by omega)]
  rw [hset]
  exact m.get_set_same idx sub v (by unfold keyOf; omega)

theorem Mod.noteApplied_waits (target sub : Nat) (hk : 0x144002 ≠ i * 256 + t) (hk' : 0x144004 ≠ i * 256 + t) (h : i * 256 + t < 0x740000) :
    (m.noteApplied target sub).waits i t = m.waits i t := by
  unfold Mod.noteApplied
  dsimp only
  rw [Mod.waits_ite, Mod.waits_raise _ _ _ _ h, Mod.waits_bump (m.bump 0x1440 2) (by decide) hk', Mod.waits_bump _ (by decide) hk, ite_self]

/-- A write noted as applied is counted. -/
theorem Mod.noteApplied_counts (target sub : Nat) : (m.noteApplied target sub).waits 0x1440 2 = (m.preud, (m.bump 0x1440 2).get 0x1440 2) := by
  have hpreud : (m.bump 0x1440 2).preud = m.preud := m.bump_part (p := .preud) _ _ (by decide)
  unfold Mod.noteApplied
  dsimp only
  rw [Mod.waits_ite, Mod.waits_raise _ _ _ _ (by decide), Mod.waits_bump (m.bump 0x1440 2) (by decide) (by decide), ite_self]
  exact Prod.ext hpreud rfl

end

theorem mem_sortBy {α : Type} (before : α → α → Bool) (l : List α) (a : α) : a ∈ sortBy before l ↔ a ∈ l := by
  have hinsert (b : α → α → Bool) (x : α) (l : List α) : a ∈ insertBy b x l ↔ a = x ∨ a ∈ l := by
    induction l with
    | nil => simp [insertBy]
    | cons y r ih =>
      unfold insertBy
      split
      · simp
      · rw [List.mem_cons, ih, List.mem_cons]
        exact or_left_comm
  have hfold (acc : List α) :
      a ∈ l.foldl (fun acc x => insertBy (fun a b => before a b && !before b a) x acc) acc ↔ a ∈ acc ∨ a ∈ l := by
    induction l generalizing acc with
    | nil => simp
    | cons x l ih => rw [List.foldl_cons, ih, hinsert, List.mem_cons, or_assoc, or_left_comm]
  exact (hfold []).trans (by simp)

section
variable {m : Mod}

/-- The module without a write that waited. -/
def Mod.without (m : Mod) (w : TimedWrite) : Mod :=
  m.modPreud fun p => { p with timed := p.timed.filter fun (y : TimedWrite) => y ≠ w }

theorem Mod.get_bump_without (w : TimedWrite) (j k : Nat) : ((m.without w).bump j k).get j k = (m.bump j k).get j k := by
  unfold Mod.bump Mod.count
  split
  · rfl
  · rfl

/-- A timed launch that one write waits for carries that out. -/
theorem Mod.applyLaunch_one {w : TimedWrite} (hw : w ∈ m.preud.timed) (hT : w.applyTick ≤ m.fam.tickOf m.now)
    (hone : ∀ y ∈ m.preud.timed, y.idx = w.idx → y.sub = w.sub → y.applyTick = w.applyTick → y = w) :
    m.applyLaunch w.idx w.sub w.applyTick = ((m.without w).applyDue w.applyTick ⟨w.idx, w.sub, w.value, .timed w⟩).showTimed := by
  unfold Mod.applyLaunch
  extract_lets due
  have hdue : ∀ y, y ∈ sortBy (fun (x y : TimedWrite) => x.order ≤ y.order) due ↔ y ∈ due := mem_sortBy _ _
  have hmem : w ∈ sortBy (fun (x y : TimedWrite) => x.order ≤ y.order) due := by
    rw [hdue, List.mem_filter]
    exact ⟨hw, by simp [hT]⟩
  have honly : ∀ y ∈ due, y = w := fun y hy => by
    obtain ⟨hin, hy⟩ := List.mem_filter.mp hy
    simp only [Bool.and_eq_true, decide_eq_true_eq] at hy
    obtain ⟨⟨⟨hidx, hsub⟩, htick⟩, -⟩ := hy
    exact hone y hin hidx hsub htick
  generalize sortBy (fun (x y : TimedWrite) => x.order ≤ y.order) due = l at hdue hmem
  match l with
  | [] => exact absurd hmem List.not_mem_nil
  | x :: r =>
    obtain rfl := honly x ((hdue x).mp List.mem_cons_self)
    rfl

/-- A write whose tick has come takes effect: it waits no longer, the others do, and it is counted. -/
theorem Mod.applyLaunch_shows {w : TimedWrite} (hw : w ∈ m.preud.timed) (hstep : w.idx ≠ 0x1433) (hcount : w.idx ≠ 0x1440) (hs : w.sub < 256)
    (hT : w.applyTick ≤ m.fam.tickOf m.now)
    (hone : ∀ y ∈ m.preud.timed, y.idx = w.idx → y.sub = w.sub → y.applyTick = w.applyTick → y = w) :
    (m.applyLaunch w.idx w.sub w.applyTick).waits 0x1440 2 = ((m.without w).preud, (m.bump 0x1440 2).get 0x1440 2)
      ∧ (0x5400 ≤ w.idx ∧ w.idx ≤ 0x547F → (m.applyLaunch w.idx w.sub w.applyTick).get w.idx w.sub = w.value) := by
  have hdue (b : Mod) : b.applyDue w.applyTick ⟨w.idx, w.sub, w.value, .timed w⟩ = (b.noteApplied w.idx w.sub).applyRt w.idx w.sub w.value w.applyTick :=
    if_pos hstep
  rw [Mod.applyLaunch_one hw hT hone, hdue]
  refine ⟨?_, fun h => ?_⟩
  · rw [Mod.waits_showTimed _ (by decide), Mod.waits_applyRt _ _ _ (by unfold keyOf; omega), Mod.noteApplied_counts, Mod.get_bump_without]
  · have hval (b : Mod) : (b.applyRt w.idx w.sub w.value w.applyTick).get w.idx w.sub = w.value := b.get_applyRt _ _ h hs
    refine (Mod.get_put_frame _ _ (by decide) (by omega)).trans (hval _)

/-! ### Commits abandoned -/

/-- A deferred commit past its limit is abandoned: it waits no longer, ev 4802. -/
theorem Mod.abandonCommit_shows {n : Nat} (hn : n < 32) (h1 : m.n (0x4900 + n) 1 = 1) (h2 : m.n (0x4900 + n) 2 < (m.chan n).deferred) :
    (m.abandonCommit n).n (0x4900 + n) 1 = 0 ∧ ((m.abandonCommit n).chan n).deferred = 0
      ∧ (m.abandonCommit n).n (0x4900 + n) 5 = (m.bump (0x4900 + n) 5).n (0x4900 + n) 5 ∧ (m.abandonCommit n).told 0x4802 n [n] := by
  have hlen : n < m.chans.length := Nat.lt_of_not_le fun hlen => by
    rw [Mod.chan_beyond hlen] at h2
    exact Nat.not_lt_zero _ h2
  have he : m.abandonCommit n
      = ((((m.put (0x4900 + n) 1 0).modChan n fun c => { c with deferred := 0 }).raise 0x4802 n [n]).bump (0x4900 + n) 5) := by
    unfold Mod.abandonCommit
    rw [if_pos ⟨h1, h2⟩]
  rw [he]
  refine ⟨?_, ?_, ?_, ?_⟩
  · unfold Mod.n
    rw [Mod.get_bump_frame _ (by omega) (by omega), Mod.get_raise_frame _ _ _ _ (.inl (by omega))]
    exact congrArg Val.nat (m.get_put_same 0 (by omega))
  · rw [Mod.chan_of_chans (Mod.bump_chans ..), Mod.chan_of_chans (Mod.raise_chans ..)]
    exact congrArg ChanS.deferred ((m.put (0x4900 + n) 1 0).chan_modChan _ hlen)
  · refine Mod.n_bump_congr (by omega) ?_
    unfold Mod.n
    rw [Mod.get_raise_frame _ _ _ _ (.inl (by omega))]
    exact congrArg Val.nat (m.get_put_frame 0 (by omega) (by omega))
  · obtain ⟨v, hv⟩ := (((m.put (0x4900 + n) 1 0).modChan n fun c => { c with deferred := 0 }).raise_told 0x4802 n [n])
    have hraised (b : Mod) : (b.bump (0x4900 + n) 5).raised = b.raised := b.bump_part (p := .raised) _ _ (by decide)
    exact ⟨v, (hraised _).symm ▸ hv⟩

/-! ### Ends of STOPPING functions -/

theorem Mod.endStopping_idle (epoch fid : Nat) (h : m.fn fid ≠ stopping ∨ m.drained fid = false) : m.endStopping epoch fid = m := by
  unfold Mod.endStopping
  rw [if_pos]
  obtain h | h := h <;> simp [h]

theorem Mod.fn_rescale (b : Mod) (fid : Nat) : b.rescale.fn fid = b.fn fid := by
  refine Mod.fn_congr fid (b.rescale_part (p := .timeFn) (by decide)) (b.rescale_part (p := .twinFn) (by decide)) fun i h => ?_
  have := fnObject_some h
  exact b.get_rescale (by omega) (by decide)

/-- The twin function is STOPPED when it has ended. -/
theorem Mod.twinFn_endTwin (b : Mod) (epoch : Nat) : ((b.endTwin epoch).endPort 8).fn twinFid = stopped := by
  have hsettle (c : Mod) : c.settleRole.twinFn = c.twinFn := c.settleRole_part (p := .twinFn) (by decide)
  show ((b.endTwin epoch).endPort 8).twinFn = stopped
  rw [Mod.endPort_mortar]
  refine (Mod.dropCage_part (p := .twinFn) _ 8 causeStop (by decide)).trans ?_
  exact hsettle _

/-- A STOPPING function that has drained is STOPPED. -/
theorem Mod.fn_endStopping (epoch : Nat) {fid : Nat} (hfid : fnExists fid = true) (hs : m.fn fid = stopping) (hd : m.drained fid = true) :
    (m.endStopping epoch fid).fn fid = stopped := by
  have hne : ¬(m.fn fid ≠ stopping || !m.drained fid) = true := by simp [hs, hd]
  unfold Mod.endStopping
  rw [if_neg hne]
  generalize (m.modPreud fun p => { p with stopping := p.stopping.filter fun (x : Nat × Nanos) => x.1 ≠ fid }) = b
  simp only [within, Bool.and_eq_true, decide_eq_true_eq]
  split
  · next h =>
    unfold Mod.restChannel chanFid
    rw [Nat.add_sub_cancel' h.1, Mod.fn_rescale]
    exact Mod.fn_setFn _ fid stopped hfid
  split
  · next h =>
    have hdrop (b : Mod) (r : Nat) : (b.dropModel r).fn fid = b.fn fid := rfl
    unfold Mod.endRendition Mod.restRendition rendFid
    rw [hdrop, Nat.add_sub_cancel' h.1]
    exact Mod.fn_setFn _ fid stopped hfid
  split
  · next h =>
    subst h
    exact b.twinFn_endTwin epoch
  · exact b.fn_setFn fid stopped hfid

end

end Sys2Proof.Machine
end

section
/-! SUPPORT. Timed commands of functions: the stop of a channel, the start of a decode engine (R311-R313). -/

namespace Sys2Proof.Machine

/-- Where the states of channels and decode engines are read. -/
abbrev stateIndex (i : Nat) : Prop := (0x4100 ≤ i ∧ i ≤ 0x411F) ∨ (0x5C80 ≤ i ∧ i ≤ 0x5C81)

section
variable (m : Mod) {i : Nat}

/-- The state of a channel or a decode engine is its object's. -/
theorem fn_of_waits {a b : Mod} {fid : Nat} (h : ∀ i, stateIndex i → a.waits i 1 = b.waits i 1)
    (hfid : within fid 0x100 0x11F = true ∨ within fid 0x300 0x301 = true) : a.fn fid = b.fn fid := by
  simp only [within, Bool.and_eq_true, decide_eq_true_eq] at hfid
  have hget {i : Nat} (hi : stateIndex i) : a.n i 1 = b.n i 1 := congrArg (fun x => x.2.nat) (h i hi)
  unfold Mod.fn
  rw [if_neg (by omega), if_neg (by omega), if_neg (by omega), if_neg (by omega)]
  unfold fnObject within
  simp only [Bool.and_eq_true, decide_eq_true_eq]
  rw [if_neg (by omega), if_neg (by omega), if_neg (by omega)]
  by_cases hchan : 0x100 ≤ fid ∧ fid ≤ 0x11F
  · rw [if_pos hchan]
    exact hget (by omega)
  · rw [if_neg hchan, if_neg (by omega), if_pos (by omega)]
    exact hget (by omega)

/-! ### What the entry of waiting renditions leaves -/

theorem Mod.waits_modRend (r : Nat) (f : RendS → RendS) : (m.modRend r f).waits i 1 = m.waits i 1 := rfl

theorem Mod.waits_modGroup (g : Nat) (f : GroupS → GroupS) : (m.modGroup g f).waits i 1 = m.waits i 1 := rfl

theorem Mod.waits_fillGroup (r : Nat) : (m.fillGroup r).waits i 1 = m.waits i 1 := by
  unfold Mod.fillGroup
  dsimp only
  rw [Mod.waits_ite, Mod.waits_modGroup, ite_self]

theorem Mod.waits_openRun {r : Nat} (hr : r < 128) (frame : Nat) (marks : List (Nat × Nat)) : (m.openRun r frame marks).waits i 1 = m.waits i 1 := by
  unfold Mod.openRun
  dsimp only
  rw [Mod.waits_modRend]
  unfold Mod.showRendition
  dsimp only
  simp (disch := omega) only [Mod.waits_put]

theorem Mod.waits_placeStarts (rs : List Nat) : (m.placeStarts rs).waits i 1 = m.waits i 1 := by
  have hlanes (b : Mod) (l : List (Nat × Nat × Nat × Nat × Nat)) : ({ b with lanes := l } : Mod).waits i 1 = b.waits i 1 := rfl
  unfold Mod.placeStarts
  extract_lets fresh starts there pl b lanes
  rw [hlanes]
  exact Mod.waits_each fun b x _ => b.waits_put _ (by omega) (by omega)

section
variable (hi : stateIndex i)
include hi

theorem Mod.waits_beginRendition {r : Nat} (hr : r < 128) (frame : Nat) : (m.beginRendition r frame).waits i 1 = m.waits i 1 := by
  unfold Mod.beginRendition Mod.sequenceStarts
  simp (disch := omega) only [Mod.waits_put, Mod.waits_bump, Mod.waits_raise]
  exact m.waits_openRun hr ..

theorem Mod.waits_refreshOutput {r : Nat} (hr : r < 128) : (m.refreshOutput r).waits i 1 = m.waits i 1 := by
  have hshown : (m.showOutput r).waits i 1 = m.waits i 1 := by
    unfold Mod.showOutput Mod.showSlots
    dsimp only
    simp (disch := omega) only [Mod.waits_put]
  have hputB (b : Mod) (v : Octets) : (b.putB (0x5900 + r) 0 v).waits i 1 = b.waits i 1 := Mod.waits_of rfl (b.get_putB_frame v (by omega) (by omega))
  unfold Mod.refreshOutput Mod.generateSdp
  split
  · exact hshown
  · split
    · exact hshown
    · rw [Mod.waits_raise _ _ _ _ (by omega), hputB, Mod.waits_put _ _ (by omega) (by omega), hshown]

theorem Mod.waits_syncStart (r : Nat) : (m.syncStart r).waits i 1 = m.waits i 1 := by
  have hset (b : Mod) (x : RendSync) : (b.setSync x).waits i 1 = b.waits i 1 := rfl
  have hrole (b : Mod) (x : Role) : (b.setRole x).waits i 1 = b.waits i 1 := by
    have hflag (c : Mod) (v : Bool) : (c.putFlag 0x7040 2 v).waits i 1 = c.waits i 1 := Mod.waits_of rfl (c.get_putFlag_frame v (by decide) (by omega))
    unfold Mod.setRole
    split
    · rfl
    · rw [Mod.waits_raise _ _ _ _ (by omega), hflag, Mod.waits_put _ _ (by decide) (by omega)]
  unfold Mod.syncStart
  dsimp only
  split
  · rfl
  · split
    · rw [hrole, hset]
    · rw [hset]

theorem Mod.waits_runRendition {r : Nat} (hr : r < 128) (T : Nat) : (m.runRendition r T).waits i 1 = m.waits i 1 := by
  have hrun (b : Mod) : (b.setFn (rendFid r) running).waits i 1 = b.waits i 1 := by
    unfold Mod.setFn
    rw [if_neg (by unfold rendFid; omega), if_neg (by unfold rendFid; omega), fnObject_rend hr]
    exact b.waits_put _ (by omega) (by omega)
  have hqp (b : Mod) : (b.noteQp r T).waits i 1 = b.waits i 1 := rfl
  unfold Mod.runRendition
  dsimp only
  rw [hrun, Mod.waits_syncStart _ hi, Mod.waits_refreshOutput _ hi hr, hqp, Mod.waits_ite, Mod.waits_beginRendition _ hi hr]
  unfold Mod.joinRendition
  rw [Mod.waits_openRun _ hr, ite_self, Mod.waits_fillGroup]

theorem Mod.waits_waitingEdge (T : Nat) : (m.waitingEdge T).waits i 1 = m.waits i 1 := by
  unfold Mod.waitingEdge
  refine Mod.waits_each fun b r hr => ?_
  have hr := List.mem_range.mp (List.mem_filter.mp hr).1
  dsimp only
  rw [Mod.waits_ite, Mod.waits_runRendition _ hi hr, Mod.waits_modGroup, Mod.waits_bump _ (by omega) (by omega), ite_self]
end

theorem Mod.each_nil {α : Type} (f : Mod → α → Mod) : m.each [] f = m := rfl

theorem Mod.startRenditions_nil (T : Nat) : m.startRenditions [] T = m.placeStarts [] := by
  unfold Mod.startRenditions
  simp only [List.filter_nil, Mod.each_nil, if_true]

end

/-! ### Commands carried out -/

/-- What every step of a run keeps and any step brings about holds after it. -/
theorem Mod.each_brings {α : Type} {I P : Mod → Prop} {l : List α} {f : Mod → α → Mod} (hf : ∀ m, ∀ x ∈ l, I m → P (f m x)) (hP : ∀ m, P m → I m)
    (hl : l ≠ []) {m : Mod} (hm : I m) : P (m.each l f) := by
  unfold Mod.each
  induction l generalizing m with
  | nil => exact absurd rfl hl
  | cons x r ih =>
    have hx : P (f m x) := hf m x List.mem_cons_self hm
    by_cases hr : r = []
    · subst hr
      exact hx
    · exact ih (fun b y hy => hf b y (List.mem_cons_of_mem _ hy)) hr (hP _ hx)

section
variable (m : Mod) (epoch T : Nat)

/-- Step 3 of R19 has two parts: the stops that are due, and the other commands that are. -/
def Mod.stopsTaken (due : List FnCmd) : Mod :=
  m.each (due.filter fun x => x.cmd = 2).reverse fun (m : Mod) (x : FnCmd) => (m.takeCmd x).stopFn epoch T x.fid

def Mod.startsTaken (rest : List FnCmd) : Mod :=
  let m := m.each rest fun (m : Mod) (x : FnCmd) => m.settleHeld epoch x
  let ready := rest.filter fun x => m.fn x.fid ≠ stopping
  let isRendStart (x : FnCmd) : Bool := within x.fid 0x200 0x27F && x.cmd = 1
  let low := ready.filter fun x => x.fid < 0x200
  let rends := ready.filter fun x => isRendStart x
  let high := ready.filter fun x => 0x200 ≤ x.fid && !isRendStart x
  let m := m.each low fun (m : Mod) (x : FnCmd) => (m.startFn epoch T x.fid (x.cmd = 3)).takeCmd x
  let m := m.each rends fun (m : Mod) (x : FnCmd) => m.takeCmd x
  let m := m.startRenditions (rends.map fun x => x.fid - 0x200) T
  m.each high fun (m : Mod) (x : FnCmd) => (m.startFn epoch T x.fid (x.cmd = 3)).takeCmd x

/-- The commands that are due at a tick, in their order. -/
def Mod.dueCmds : List FnCmd := sortCmds (m.preud.fnCmds.filter fun x => x.applyTick ≤ T)

theorem Mod.applyCommands_eq :
    m.applyCommands epoch T
      = (((m.stopsTaken epoch T (m.dueCmds T)).waitingEdge T).startsTaken epoch T ((m.dueCmds T).filter fun x => x.cmd ≠ 2)).showTimed := rfl

theorem Mod.mem_dueCmds (x : FnCmd) : x ∈ m.dueCmds T ↔ x ∈ m.preud.fnCmds ∧ x.applyTick ≤ T := by
  unfold Mod.dueCmds sortCmds
  rw [mem_sortBy, List.mem_filter, decide_eq_true_eq]

/-- A command carried out: its function is in the state it asks for, and it waits no longer. -/
def Mod.carried (x : FnCmd) (st : Nat) : Prop := m.fn x.fid = st ∧ x ∉ m.preud.fnCmds

variable {x : FnCmd}

theorem Mod.carried_of_waits {a b : Mod} {st : Nat} (h : ∀ i, stateIndex i → a.waits i 1 = b.waits i 1)
    (hfid : within x.fid 0x100 0x11F = true ∨ within x.fid 0x300 0x301 = true) (hb : b.carried x st) : a.carried x st := by
  obtain ⟨hfn, hcmds⟩ := hb
  have hpreud : a.preud = b.preud := congrArg Prod.fst (h 0x4100 (by decide))
  exact ⟨(fn_of_waits h hfid).trans hfn, hpreud ▸ hcmds⟩

/-- The module without a command that waited. -/
def Mod.withoutCmd (x : FnCmd) : Mod :=
  m.modPreud fun p => { p with fnCmds := p.fnCmds.filter fun (y : FnCmd) => y ≠ x }

theorem Mod.takeCmd_waits {i : Nat} (hi : stateIndex i) : (m.takeCmd x).waits i 1 = (m.withoutCmd x).waits i 1 := by
  have hnoted (b : Mod) : (b.noteApplied x.fid 0).waits i 1 = b.waits i 1 := b.noteApplied_waits _ _ (by omega) (by omega) (by omega)
  exact Mod.waits_ite.trans (by rw [hnoted, ite_self]; rfl)

/-- A command taken up waits no longer, and its function's state is as it was. -/
theorem Mod.carried_takeCmd {st : Nat} (hfid : within x.fid 0x100 0x11F = true ∨ within x.fid 0x300 0x301 = true) (h : m.fn x.fid = st) :
    (m.takeCmd x).carried x st := by
  have hfn : (m.withoutCmd x).fn x.fid = m.fn x.fid := rfl
  refine Mod.carried_of_waits (fun i hi => m.takeCmd_waits hi) hfid ⟨hfn.trans h, fun hx => ?_⟩
  exact of_decide_eq_true (List.mem_filter.mp hx).2 rfl

/-- The stop of a channel makes it STOPPING; of one that is, it changes nothing. -/
theorem Mod.carried_stop (hfid : within x.fid 0x100 0x11F = true) (h : m.fn x.fid = running ∨ m.fn x.fid = stopping) :
    ((m.takeCmd x).stopFn epoch T x.fid).carried x stopping := by
  have hexists : fnExists x.fid = true := by simp [fnExists, hfid]
  unfold Mod.stopFn
  obtain h | h := h
  · obtain ⟨hfn, hcmds⟩ := m.carried_takeCmd (.inl hfid) h
    generalize m.takeCmd x = b at hfn hcmds ⊢
    have hrest (c : Mod) (t : Nanos) : ((c.toStopping x.fid t).rescale).carried x stopping ↔ x ∉ c.preud.fnCmds := by
      have hstate : ((c.toStopping x.fid t).rescale).fn x.fid = stopping := (Mod.fn_rescale ..).trans (c.fn_setFn x.fid stopping hexists)
      have hset : (c.setFn x.fid stopping).preud = c.preud := c.setFn_part (p := .preud) x.fid stopping (by decide)
      have hscaled (d : Mod) : d.rescale.preud = d.preud := d.rescale_part (p := .preud) (by decide)
      have hpreud : ((c.toStopping x.fid t).rescale).preud.fnCmds = c.preud.fnCmds := by
        rw [hscaled]
        show (c.setFn x.fid stopping).preud.fnCmds = c.preud.fnCmds
        rw [hset]
      unfold Mod.carried
      rw [hpreud]
      exact and_iff_right hstate
    have hgoes : ¬(b.fn x.fid = stopped || b.fn x.fid = stopping) = true := by simp [hfn, running, stopped, stopping]
    rw [if_neg hgoes, if_pos hfid]
    exact (hrest _ _).mpr hcmds
  · have hcarried := m.carried_takeCmd (.inl hfid) h
    rw [if_pos (by simp [hcarried.1])]
    exact hcarried

/-- The start of a decode engine makes it RUNNING. -/
theorem Mod.carried_start (hfid : within x.fid 0x300 0x301 = true) (hcmd : x.cmd = 1) :
    ((m.startFn epoch T x.fid (x.cmd = 3)).takeCmd x).carried x running := by
  have hexists : fnExists x.fid = true := by simp [fnExists, hfid]
  refine Mod.carried_takeCmd _ (.inr hfid) ?_
  have hsdp (b : Mod) (e : Nat) : (b.generateDecodeSdp e).fn x.fid = b.fn x.fid := by
    refine Mod.fn_congr x.fid (b.generateDecodeSdp_part (p := .timeFn) e (by decide)) (b.generateDecodeSdp_part (p := .twinFn) e (by decide))
      fun i h => ?_
    have := fnObject_some h
    unfold Mod.generateDecodeSdp
    split
    · rfl
    · split
      · rfl
      · exact Mod.get_putB_frame _ _ (by omega) (by omega)
  have hplain : (decide (x.cmd = 3)) = false := by simp [hcmd]
  have hrange := hfid
  simp only [within, Bool.and_eq_true, decide_eq_true_eq] at hrange
  have hchan : ¬within x.fid 0x100 0x11F = true := by simp [within]; omega
  have hrend : ¬within x.fid 0x200 0x27F = true := by simp [within]; omega
  unfold Mod.startFn
  rw [hplain, if_neg hchan, if_neg hrend]
  simp only [Bool.false_and, Bool.false_eq_true, if_false, hfid, if_true]
  rw [hsdp]
  exact Mod.fn_setFn _ x.fid running hexists

end

/-! ### The commands due, all of one -/

section
variable {m : Mod} {epoch T : Nat} {x : FnCmd}

theorem Mod.stopsTaken_carried {due : List FnCmd} (hx : x ∈ due) (hdue : ∀ y ∈ due, y = x) (hfid : within x.fid 0x100 0x11F = true)
    (hcmd : x.cmd = 2) (h : m.fn x.fid = running ∨ m.fn x.fid = stopping) : (m.stopsTaken epoch T due).carried x stopping := by
  unfold Mod.stopsTaken
  refine Mod.each_brings (I := fun b => b.fn x.fid = running ∨ b.fn x.fid = stopping) (P := fun b => b.carried x stopping) (fun b y hy hb => ?_)
    (fun b hb => .inr hb.1) ?_ h
  · obtain rfl := hdue y (List.mem_filter.mp (List.mem_reverse.mp hy)).1
    exact b.carried_stop epoch T hfid hb
  · have hmem : x ∈ (due.filter fun x => x.cmd = 2).reverse := List.mem_reverse.mpr (List.mem_filter.mpr ⟨hx, decide_eq_true hcmd⟩)
    exact List.ne_nil_of_mem hmem

theorem Mod.each_idle {α : Type} {l : List α} {f : Mod → α → Mod} (h : ∀ x ∈ l, f m x = m) : m.each l f = m := by
  unfold Mod.each
  induction l with
  | nil => rfl
  | cons x l ih =>
    rw [List.foldl_cons, h x List.mem_cons_self]
    exact ih fun y hy => h y (List.mem_cons_of_mem _ hy)

theorem Mod.waits_startsTaken_nil {i : Nat} : (m.startsTaken epoch T []).waits i 1 = m.waits i 1 := by
  unfold Mod.startsTaken
  simp only [Mod.each_nil, List.filter_nil, List.map_nil, Mod.startRenditions_nil, Mod.waits_placeStarts]

/-- Starts of one decode engine, not STOPPING, and no other command. -/
theorem Mod.startsTaken_carried {rest : List FnCmd} (hx : x ∈ rest) (hrest : ∀ y ∈ rest, y = x) (hfid : within x.fid 0x300 0x301 = true)
    (hcmd : x.cmd = 1) (h : m.fn x.fid ≠ stopping) : (m.startsTaken epoch T rest).carried x running := by
  have hrange := hfid
  simp only [within, Bool.and_eq_true, decide_eq_true_eq] at hrange
  have hsettled : (m.each rest fun (m : Mod) (x : FnCmd) => m.settleHeld epoch x) = m := Mod.each_idle fun y hy => by
    rw [hrest y hy]
    unfold Mod.settleHeld
    rw [m.endStopping_idle epoch x.fid (.inl h), ite_self]
  have hready : (rest.filter fun x => m.fn x.fid ≠ stopping) = rest := List.filter_eq_self.mpr fun y hy => by
    rw [hrest y hy]
    exact decide_eq_true h
  have hlow : (rest.filter fun x => x.fid < 0x200) = [] := List.filter_eq_nil_iff.mpr fun y hy => by
    rw [hrest y hy, decide_eq_true_eq]
    omega
  have hnot : (within x.fid 0x200 0x27F && x.cmd = 1) = false := by
    simp [within]
    omega
  have hrends : (rest.filter fun x => within x.fid 0x200 0x27F && x.cmd = 1) = [] := List.filter_eq_nil_iff.mpr fun y hy => by
    rw [hrest y hy, hnot]
    decide
  have hhigh : (rest.filter fun x => 0x200 ≤ x.fid && !(within x.fid 0x200 0x27F && x.cmd = 1)) = rest := List.filter_eq_self.mpr fun y hy => by
    rw [hrest y hy, hnot, Bool.not_false, Bool.and_true, decide_eq_true_eq]
    omega
  unfold Mod.startsTaken
  simp only [hsettled, hready, hlow, hrends, hhigh, Mod.each_nil, List.map_nil, Mod.startRenditions_nil]
  refine Mod.each_brings (I := fun _ => True) (P := fun b => b.carried x running) (fun b y hy _ => ?_) (fun _ _ => trivial) (List.ne_nil_of_mem hx) trivial
  rw [hrest y hy]
  exact b.carried_start epoch T hfid hcmd

/-! ### A timed command -/

/-- The stop of a channel that alone is due. -/
theorem Mod.applyCommands_stop (hx : x ∈ m.preud.fnCmds) (hone : ∀ y ∈ m.preud.fnCmds, y = x) (hT : x.applyTick ≤ T)
    (hfid : within x.fid 0x100 0x11F = true) (hcmd : x.cmd = 2) (h : m.fn x.fid = running) : (m.applyCommands epoch T).carried x stopping := by
  have hdue : ∀ y ∈ m.dueCmds T, y = x := fun y hy => hone y ((m.mem_dueCmds T y).mp hy).1
  have hnone : ((m.dueCmds T).filter fun x => x.cmd ≠ 2) = [] := List.filter_eq_nil_iff.mpr fun y hy => by
    rw [hdue y hy]
    simp [hcmd]
  rw [Mod.applyCommands_eq, hnone]
  refine Mod.carried_of_waits (fun i hi => ?_) (.inl hfid)
    (Mod.stopsTaken_carried (epoch := epoch) (T := T) ((m.mem_dueCmds T x).mpr ⟨hx, hT⟩) hdue hfid hcmd (.inl h))
  rw [Mod.waits_showTimed _ (by omega), Mod.waits_startsTaken_nil, Mod.waits_waitingEdge _ hi]

/-- The start of a decode engine that alone is due. -/
theorem Mod.applyCommands_start (hx : x ∈ m.preud.fnCmds) (hone : ∀ y ∈ m.preud.fnCmds, y = x) (hT : x.applyTick ≤ T)
    (hfid : within x.fid 0x300 0x301 = true) (hcmd : x.cmd = 1) (h : m.fn x.fid ≠ stopping) : (m.applyCommands epoch T).carried x running := by
  have hdue : ∀ y ∈ m.dueCmds T, y = x := fun y hy => hone y ((m.mem_dueCmds T y).mp hy).1
  have hnone : ((m.dueCmds T).filter fun x => x.cmd = 2) = [] := List.filter_eq_nil_iff.mpr fun y hy => by
    rw [hdue y hy]
    simp [hcmd]
  have hall : ((m.dueCmds T).filter fun x => x.cmd ≠ 2) = m.dueCmds T := List.filter_eq_self.mpr fun y hy => by
    rw [hdue y hy]
    simp [hcmd]
  have hstops : m.stopsTaken epoch T (m.dueCmds T) = m := by
    unfold Mod.stopsTaken
    rw [hnone]
    rfl
  have hfn : (m.waitingEdge T).fn x.fid = m.fn x.fid := fn_of_waits (fun i hi => m.waits_waitingEdge hi T) (.inr hfid)
  rw [Mod.applyCommands_eq, hall, hstops]
  refine Mod.carried_of_waits (fun i hi => ?_) (.inr hfid)
    (Mod.startsTaken_carried (epoch := epoch) (T := T) ((m.mem_dueCmds T x).mpr ⟨hx, hT⟩) hdue hfid hcmd (hfn ▸ h))
  exact Mod.waits_showTimed _ (by omega)

/-- Whether a command is due by a timed launch. -/
def Mod.launches (m : Mod) (fid applyTick : Nat) (x : FnCmd) : Bool :=
  x.fid = fid && x.named ≠ none && x.applyTick = applyTick && applyTick ≤ m.fam.tickOf m.now

/-- The module with no other commands waiting than those, and the commands of others put back. -/
def Mod.onlyCmds (m : Mod) (due : FnCmd → Bool) : Mod := m.modPreud fun p => { p with fnCmds := p.fnCmds.filter due }

def Mod.putBack (m : Mod) (l : List FnCmd) : Mod := m.modPreud fun p => { p with fnCmds := l ++ p.fnCmds }

/-- A timed launch that one command waits for: the others wait on. -/
theorem Mod.applyTimedCmd_carried {st : Nat} (hx : x ∈ m.preud.fnCmds) (hnamed : x.named ≠ none) (hT : x.applyTick ≤ m.fam.tickOf m.now)
    (hone : ∀ y ∈ m.preud.fnCmds, y.fid = x.fid → y.named ≠ none → y.applyTick = x.applyTick → y = x)
    (hfid : within x.fid 0x100 0x11F = true ∨ within x.fid 0x300 0x301 = true)
    (hdone : ∀ b : Mod, x ∈ b.preud.fnCmds → (∀ y ∈ b.preud.fnCmds, y = x) → b.fn x.fid = m.fn x.fid →
      (b.applyCommands epoch x.applyTick).carried x st) :
    (m.applyTimedCmd epoch x.fid x.applyTick).fn x.fid = st ∧ x ∉ (m.applyTimedCmd epoch x.fid x.applyTick).preud.fnCmds
      ∧ ∀ y ∈ m.preud.fnCmds, y ≠ x → y ∈ (m.applyTimedCmd epoch x.fid x.applyTick).preud.fnCmds := by
  have hlaunches : m.launches x.fid x.applyTick x = true := by simp [Mod.launches, hnamed, hT]
  have honly : ∀ y ∈ m.preud.fnCmds, m.launches x.fid x.applyTick y = true → y = x := fun y hy hdue => by
    simp only [Mod.launches, Bool.and_eq_true, decide_eq_true_eq] at hdue
    obtain ⟨⟨⟨hyfid, hynamed⟩, hytick⟩, -⟩ := hdue
    exact hone y hy hyfid hynamed hytick
  have hmem : x ∈ (m.onlyCmds (m.launches x.fid x.applyTick)).preud.fnCmds := List.mem_filter.mpr ⟨hx, hlaunches⟩
  obtain ⟨hfn, hgone⟩ := hdone (m.onlyCmds (m.launches x.fid x.applyTick)) hmem
    (fun y hy => honly y (List.mem_filter.mp hy).1 (List.mem_filter.mp hy).2) rfl
  have he : m.applyTimedCmd epoch x.fid x.applyTick
      = (((m.onlyCmds (m.launches x.fid x.applyTick)).applyCommands epoch x.applyTick).putBack
          (m.preud.fnCmds.filter fun y => !m.launches x.fid x.applyTick y)).showTimed := by
    have hif : m.applyTimedCmd epoch x.fid x.applyTick
      = ((if (m.onlyCmds (m.launches x.fid x.applyTick)).preud.fnCmds = [] then m.onlyCmds (m.launches x.fid x.applyTick)
          else (m.onlyCmds (m.launches x.fid x.applyTick)).applyCommands epoch x.applyTick).putBack
          (m.preud.fnCmds.filter fun y => !m.launches x.fid x.applyTick y)).showTimed := rfl
    rw [hif, if_neg (List.ne_nil_of_mem hmem)]
  rw [he]
  generalize (m.onlyCmds (m.launches x.fid x.applyTick)).applyCommands epoch x.applyTick = b at hfn hgone
  have hshown (b : Mod) : b.showTimed.fn x.fid = b.fn x.fid := fn_of_waits (fun i hi => b.waits_showTimed (by omega)) hfid
  refine ⟨(hshown _).trans hfn, fun h => ?_, fun y hy hne => ?_⟩
  · obtain h | h := List.mem_append.mp h
    · have := (List.mem_filter.mp h).2
      rw [hlaunches] at this
      exact absurd this (by decide)
    · exact hgone h
  · refine List.mem_append_left _ (List.mem_filter.mpr ⟨hy, ?_⟩)
    rw [Bool.not_eq_true']
    exact Bool.eq_false_iff.mpr fun hdue => hne (honly y hy hdue)

end

theorem exec_timedLaunchApply (t : Nanos) (k target sub applyTick : Nat) (s : State) :
    exec (.timedLaunchApply t k target sub applyTick) s
      = actE t (fun e m => if k = 0 then m.applyLaunch target sub applyTick else m.applyTimedCmd e.epoch target applyTick) s := rfl

/-- Settles O17: the edge by what it appends to the log; each launch by the rule for what it finds due. -/
theorem edgesAndLaunchesTakeTheirTurn : Obligations.EdgesAndLaunchesTakeTheirTurn := by
  unfold Obligations.EdgesAndLaunchesTakeTheirTurn
  refine ⟨fun s hs => ?_, fun s t hs => ⟨fun w hw hstep hcount hsub hT hone => ?_, fun k sub x hk hx hnamed hT hone => ⟨fun hfid hcmd h => ?_,
    fun hfid hcmd h => ?_⟩, fun n => ⟨fun h1 h2 => ?_, fun h => ?_⟩, fun fid hfid => ⟨fun h hd => ?_, fun h => ?_⟩⟩⟩
  · obtain ⟨hevents, hpending⟩ := State.tickEdge_events hs.1
    obtain ⟨hepoch, hnext, hlog⟩ := s.events.append_shows (s.m.fam.edge s.m.tick) s.m.closeTick.raised
    refine ⟨s.tickEdge, rfl, hpending, ?_⟩
    rw [hevents]
    exact ⟨hepoch, hnext, hlog⟩
  · obtain ⟨hwaits, hval⟩ := Mod.applyLaunch_shows hw hstep hcount hsub hT hone
    refine completes_actE (exec_timedLaunchApply ..) hs ?_ fun _ h => h
    rw [if_pos rfl]
    have hpreud : ((s.m.at t).applyLaunch w.idx w.sub w.applyTick).preud = ((s.m.at t).without w).preud := congrArg Prod.fst hwaits
    refine ⟨fun h => ?_, fun y hy hne => ?_, congrArg (fun x => x.2.nat) hwaits, fun h1 h2 => hval ⟨h1, h2⟩⟩
    · rw [hpreud] at h
      exact of_decide_eq_true (List.mem_filter.mp h).2 rfl
    · rw [hpreud]
      exact List.mem_filter.mpr ⟨hy, decide_eq_true hne⟩
  · refine completes_actE (exec_timedLaunchApply ..) hs ?_ fun _ h => h
    rw [if_neg hk]
    exact Mod.applyTimedCmd_carried hx hnamed hT hone (.inl hfid) fun b hb hall hfn =>
      Mod.applyCommands_stop hb hall (Nat.le_refl _) hfid hcmd (hfn.trans h)
  · refine completes_actE (exec_timedLaunchApply ..) hs ?_ fun _ h => h
    rw [if_neg hk]
    exact Mod.applyTimedCmd_carried hx hnamed hT hone (.inr hfid) fun b hb hall hfn =>
      Mod.applyCommands_start hb hall (Nat.le_refl _) hfid hcmd (hfn ▸ h)
  · exact completes_act (g := fun m => m.abandonCommit n.val) rfl hs (Mod.abandonCommit_shows n.isLt h1 h2) fun _ h => h
  · refine does_act (g := fun m => m.abandonCommit n.val) hs rfl ?_ hs.2
    exact if_neg (by omega)
  · exact completes_actE (g := fun e m => m.endStopping e.epoch fid) rfl hs (Mod.fn_endStopping _ hfid h hd) fun _ h => h
  · exact does_actE (g := fun e m => m.endStopping e.epoch fid) hs rfl (Mod.endStopping_idle _ _ h) hs.2

end Sys2Proof.Machine
end
